-- ==== Sys2Proof/Word.lean ====
section
/-! DEFINITION. The word types of the JX-M1260 and the index types of its resources (00_scope.md R11, 01_six_levels.md R14). -/

namespace Sys2Proof

/-- One 8-bit byte. -/
abbrev Byte := BitVec 8
/-- A 16-bit engine data word. -/
abbrev Word16 := BitVec 16
/-- A 32-bit register or engine program word (R6). -/
abbrev Word32 := BitVec 32
/-- A 64-bit packet-queue data word. -/
abbrev Word64 := BitVec 64
/-- A 48-bit network address (R27). -/
abbrev NetAddr := BitVec 48

/-- Tile and signal engine t = 0–1023 (R11). -/
abbrev Tile := Fin 1024
/-- Die 0–3, and HBM stack 0–3: stack s attaches to die s (R11). -/
abbrev Die := Fin 4
/-- HBM stack 0–3 (R11). -/
abbrev Stack := Fin 4
/-- Packet queue n of a tile (R14, R29). -/
abbrev QNum := Fin 4
/-- DMA engine DE0–DE15 (R11). -/
abbrev DmaEng := Fin 16
/-- DMA channel 0–31 of an engine (R11). -/
abbrev Chan := Fin 32
/-- Lane quad Q0–Q47 (R11). -/
abbrev Quad := Fin 48
/-- Lane L0–L191; Ln = quad × 4 + n (R11). -/
abbrev Lane := Fin 192
/-- Timekeeper TK0–TK7 (R11). -/
abbrev Tk := Fin 8
/-- Host port 0–4: HP0–HP3, and 4 is MP (R12). -/
abbrev Port := Fin 5
/-- Mailbox 0–3 of a host port (R455). -/
abbrev Mbox := Fin 4
/-- Tenant T0–T7 (R11). -/
abbrev Tenant := Fin 8
/-- Region 0–63 (R283). -/
abbrev RegionId := Fin 64
/-- Event line EV0–EV255 (R11). -/
abbrev EvLine := Fin 256
/-- Frequency synthesizer SY0–SY31 (R11). -/
abbrev Synth := Fin 32
/-- Global clock net GC0–GC63 (R435). -/
abbrev GNet := Fin 64
/-- Frequency counter FC0–FC7 (R444). -/
abbrev FCtr := Fin 8
/-- Debug path: 0–3 HP0–HP3, 4 MP, 5 the TAP (R504, R517). -/
abbrev DbgPath := Fin 6

end Sys2Proof
end

