-- ==== Sys2Proof/Machine/Table.lean ====
section
/-! DEFINITION. Sparse tables in one canonical form (keys strictly rising, no entry equal to the default), the form every
memory and every array of like things in State takes; and the bit-field and byte-order helpers. -/

namespace Sys2Proof.Machine

/-- A sparse array: key and value pairs, keys strictly rising, no value equal to the default of its key. -/
abbrev Tbl (α : Type) := List (Nat × α)

/-- The value at key `k`; an unlisted key reads as `d`. -/
def tget {α : Type} (d : α) : Tbl α → Nat → α
  | [], _ => d
  | (k, v) :: t, i => if i = k then v else if i < k then d else tget d t i

/-- Remove key `i`. -/
def tdel {α : Type} : Tbl α → Nat → Tbl α
  | [], _ => []
  | (k, v) :: t, i => if i = k then t else if i < k then (k, v) :: t else (k, v) :: tdel t i

/-- List key `i` with value `v`, in key order. -/
def tins {α : Type} : Tbl α → Nat → α → Tbl α
  | [], i, w => [(i, w)]
  | (k, v) :: t, i, w =>
    if i = k then (i, w) :: t else if i < k then (i, w) :: (k, v) :: t else (k, v) :: tins t i w

/-- Write `v` at key `i`: the entry is dropped when `v` is the default `d`, so that equal tables are equal data. -/
def tput {α : Type} [DecidableEq α] (d : α) (t : Tbl α) (i : Nat) (v : α) : Tbl α :=
  if v = d then tdel t i else tins t i v

/-- The canonical form over keys above `lo`: keys strictly rising and no value equal to the default. -/
def Tbl.sortedFrom {α : Type} [DecidableEq α] (d : Nat → α) : Option Nat → Tbl α → Bool
  | _, [] => true
  | lo, (k, v) :: t =>
    (match lo with | none => true | some l => decide (l < k)) && decide (v ≠ d k) && Tbl.sortedFrom d (some k) t

/-- A table in canonical form. -/
def Tbl.wf {α : Type} [DecidableEq α] (d : Nat → α) (t : Tbl α) : Bool := Tbl.sortedFrom d none t

/-- Apply `f` at the key `i`. -/
def tmod {α : Type} [DecidableEq α] (d : α) (t : Tbl α) (i : Nat) (f : α → α) : Tbl α := tput d t i (f (tget d t i))

/-- Bits [hi:lo] of a word, as a number. -/
def bits (w hi lo : Nat) : Nat := w / 2 ^ lo % 2 ^ (hi + 1 - lo)

/-- A word with bits [hi:lo] replaced by `v`. -/
def setBits (w hi lo v : Nat) : Nat :=
  w / 2 ^ (hi + 1) * 2 ^ (hi + 1) + v % 2 ^ (hi + 1 - lo) * 2 ^ lo + w % 2 ^ lo

/-- Bit `n` of a number. -/
def bitAt (w n : Nat) : Bool := w / 2 ^ n % 2 = 1

/-- 1 for true, 0 for false. -/
def b2n (b : Bool) : Nat := if b then 1 else 0

/-- The number held by a little-endian list of bytes. -/
def leNat : List Byte → Nat
  | [] => 0
  | b :: t => b.toNat + 256 * leNat t

/-- The low `n` bytes of a number, little-endian. -/
def leBytes : Nat → Nat → List Byte
  | 0, _ => []
  | n + 1, v => BitVec.ofNat 8 v :: leBytes n (v / 256)

/-- `n` elements of a list from position `i`, padded with `d` where the list ends. -/
def slice {α : Type} (d : α) (l : List α) (i n : Nat) : List α :=
  ((l.drop i).take n) ++ List.replicate (n - ((l.drop i).take n).length) d

/-- A little-endian field of `n` bytes at offset `o` of a byte string. -/
def leAt (l : List Byte) (o n : Nat) : Nat := leNat (slice 0#8 l o n)

/-- Element `i` of a list, or the default. -/
def lget {α : Type} (d : α) (l : List α) (i : Nat) : α := l.getD i d

/-- A list with element `i` replaced. -/
def lset {α : Type} (l : List α) (i : Nat) (v : α) : List α := l.set i v

/-- A saturating increment of an n-bit counter. -/
def satAdd (width v k : Nat) : Nat := min (v + k) (2 ^ width - 1)

/-- A signed reading of the low `n` bits of a number (two's complement). -/
def sgn (n v : Nat) : Int := if v % 2 ^ n < 2 ^ (n - 1) then (v % 2 ^ n : Nat) else ((v % 2 ^ n : Nat) : Int) - 2 ^ n

/-- The `n`-bit two's-complement pattern of an integer. -/
def unsgn (n : Nat) (v : Int) : Nat := (v % (2 ^ n : Int)).toNat

/-- Fold a function over 0, 1, …, n − 1. -/
def iter {σ : Type} (n : Nat) (f : Nat → σ → σ) (s : σ) : σ := (List.range n).foldl (fun a i => f i a) s

/-- All elements of a list satisfy the test. -/
def allB {α : Type} (l : List α) (p : α → Bool) : Bool := l.all p

/-- Some element of a list satisfies the test. -/
def anyB {α : Type} (l : List α) (p : α → Bool) : Bool := l.any p

/-- Ceiling division. -/
def ceilDiv (a b : Nat) : Nat := (a + b - 1) / b

end Sys2Proof.Machine
end

