-- ==== Sys2Proof/Machine/Types.lean ====
section
/-! DEFINITION. The parts of the machine's state, as plain data: one structure per unit of the manual, and the data that
commands carry. State.lean puts them together. -/

namespace Sys2Proof.Machine

/-- The eight modes (R35). -/
inductive Mode where
  | off | boot | load | huddle | run | rest | hold | lockout
deriving DecidableEq, Repr

/-- The MODE code of R35. -/
def Mode.code : Mode → Nat
  | .off => 0 | .boot => 1 | .load => 2 | .huddle => 3 | .run => 4 | .rest => 5 | .hold => 6 | .lockout => 7

/-! ### Power, modes and boot (02, 24) -/

/-- Progress of start-up and the mode machine (02 R35–R54, 24 R520–R528). -/
structure Power where
  /-- the mode (R35) -/
  mode : Mode
  /-- supplies valid (R520) -/
  supplies : Bool
  /-- RESET_N is high (R36) -/
  resetN : Bool
  /-- the boot step reached, 1–6 (R42) -/
  step : Nat
  /-- Maltar owns the mailboxes (R42 step 1) -/
  maltarOwns : Bool
  /-- Maltar failed its own check, or no captain exists (R50, R68) -/
  maltarFailed : Bool
  /-- the Referee is restarting after its watchdog (R447) -/
  refRestarting : Bool
  /-- seams trained (R42 step 2) -/
  seamsTrained : Bool
  /-- HBM initialization ended, per stack bit (R42 step 4b) -/
  hbmEnded : Nat
  /-- all four dies have loaded and verified (R37) -/
  loadDone : Bool
  /-- the HUDDLE line is above 1.17 V (R102) -/
  huddleHigh : Bool
  /-- the 8 ns edge filter has started (R102) -/
  huddleFilter : Bool
  /-- the wait passed the timeout (R46) -/
  huddleLate : Bool
  /-- the mode from which LOCKOUT was entered (R464, R479) -/
  lockoutFrom : Mode
  /-- a reboot is scheduled: a REBOOT reply is out (R481) -/
  rebooting : Bool
  /-- flip-flops held at their initial values (R100) -/
  ffHold : Bool
  /-- THERMTRIP_N is driven low (R527) -/
  tripped : Bool
  /-- the trip record of the system area: source and reading (R528) -/
  tripRec : Option (Nat × Nat)
  /-- disables and resets of functions still completing: kind, index, reset?, port, mailbox, tag (R53, R54) -/
  funcOps : List (Nat × Nat × Bool)
  /-- the I/O values kept on entry to REST or HOLD are held (R51) -/
  ioHeld : Bool
  /-- HOLD has been asked for, and engines run on to their boundaries (R40) -/
  holding : Bool
deriving DecidableEq, Repr

/-! ### Network (07) -/

/-- Network operations (R170). -/
inductive NOp where
  | read | write | swap | fetchAdd | compareSwap | invalidate
deriving DecidableEq, Repr

/-- A network request: what its header carries (R169) and its payload. -/
structure Req where
  op : NOp
  /-- network address, 48 bits -/
  addr : Nat
  /-- bytes addressed, 1–256 (R171) -/
  size : Nat
  rt : Bool
  tenant : Nat
  /-- 0 tile interface; 1 DMA channel; 2 host port; 3 debug master; 4 Referee; 5 other hardened block (R169) -/
  mclass : Nat
  /-- requester's endpoint 0–1087 -/
  src : Nat
  /-- requester's DPORT at its router (R162) -/
  sport : Nat
  tag : Nat
  gen : Nat
  data : List Byte
  /-- the payload passes its CRC and no data flit is BAD (R182) -/
  crcOk : Bool
  /-- debug master: device-wide scope (R507) -/
  scopeAll : Bool
  /-- debug master: the path, 0–3 HP, 4 MP, 5 TAP (R517) -/
  path : Nat
  /-- DST and DPORT: destination endpoint 0–1087 and its local port (R169), as the source decoded them -/
  dst : Nat
  dport : Nat
  /-- ROUTE, START, EXPRESS as taken from the route table entry at issue, and HOP on arrival (R169, R175) -/
  codes : Nat
  start : Nat
  hop : Nat
  express : Bool
  /-- data flits that the source marks BAD: poisoned data of an NPUT (R257) -/
  bad : List Nat
deriving DecidableEq, Repr

/-- A network response (R174, R185). -/
structure Resp where
  src : Nat
  sport : Nat
  tag : Nat
  gen : Nat
  svc : Nat
  data : List Byte
  poison : Bool
  crcOk : Bool
deriving DecidableEq, Repr

/-- On whose behalf a request is outstanding. -/
inductive Who where
  /-- the fabric's RQO, with its RID (R167) -/
  | fabric (rid : Nat)
  /-- an engine's NGET: data word Pd, status word Ps (R257) -/
  | nget (pd ps : Nat)
  /-- an engine's NPUT: status word Ps (R257) -/
  | nput (ps : Nat)
  /-- an engine's atomic (R258) -/
  | atomic
  /-- an atomic whose engine was force-halted: its response is sunk (R263) -/
  | sunk
  /-- DMA channel 32e + c: kind 0 descriptor fetch, 1 source read, 2 destination write, 3 compare read; stream offset of the burst, or
  the descriptor's address; stream offset of the piece; length (R274) -/
  | dma (ch : Nat) (kind : Nat) (burst off len : Nat)
  /-- host port h, BAR2 TLP id; byte offset in the TLP (R464) -/
  | bar2 (port : Nat) (tlp : Nat) (off len : Nat)
  /-- the MAC of a lane (R400): 0 push, 1 committing push, 2 abort, 3 read of Q_STATUS, 4 pop, 5 read of Q_POP_FLAGS -/
  | mac (lane : Nat) (kind : Nat)
  /-- the remote cache of a die: fill or forwarded request `id` (R328) -/
  | rcache (die : Nat) (id : Nat) (fill : Bool)
  /-- a home controller's INVALIDATE: stack and the id of its held request (R329) -/
  | inval (stack : Nat) (wid : Nat)
  /-- the debug master, for a path (R510) -/
  | debug (path : Nat)
  /-- the Referee -/
  | referee
deriving DecidableEq, Repr

/-- A request that waits for its response at its source (R184). -/
structure Outst where
  req : Req
  who : Who
  /-- issued before the latest ROUTE_CTL write to this interface's table (R191) -/
  old : Bool
deriving DecidableEq, Repr

/-- A request to a fabric port window, held until its TSO response (R167). -/
structure Tqi where
  tid : Nat
  req : Req
  /-- the fabric has taken it from TQI; and the beats of its data taken before -/
  taken : Bool
  beats : Nat
deriving DecidableEq, Repr

/-- A flit in a router's buffer, with what its router computed for it. -/
structure Flit where
  raw : BitVec 288
  /-- output port chosen at arrival for this packet; 15 = absorbed -/
  out : Nat
deriving DecidableEq, Repr

/-- A router (R162–R164, R186). -/
structure Router where
  /-- input buffers, key port * 8 + vc: flits waiting, oldest first; port 15 holds the responses that the router makes itself (R187) -/
  bufs : Tbl (List Flit)
  /-- buffer credits held for the next hop, key port * 8 + vc; the default is the split of R190 -/
  used : Tbl Nat
  /-- holder of output virtual channel, key port * 8 + vc: input port + 1 -/
  holder : Tbl Nat
  /-- round-robin pointers per output: last input granted, key out * 4 + class -/
  rr : Tbl Nat
  /-- weighted round-robin credit left per output and class, key out * 4 + class -/
  wrr : Tbl Nat
  /-- ports whose apply holds new heads: bit p (R186) -/
  applying : Nat
  /-- the packet arriving at an input virtual channel, key port * 8 + vc: its output + 1, 16 when it is absorbed (R187) -/
  cur : Tbl Nat
  /-- flits on the link behind each output channel, oldest first, and flits lost on links that went out of service (R181) -/
  link : Tbl (List Nat)
  lost : Nat
  /-- credits on their way to this router for an output channel, key port * 8 + vc (R163) -/
  credit : Tbl Nat
  /-- flits that a local port has handed to its endpoint, of packets still incomplete, key port * 8 + vc -/
  asm : Tbl (List Nat)
  /-- input ports that a fault has taken out of service: what still arrives there is lost; bit p (R181) -/
  shut : Nat
deriving DecidableEq, Repr

/-- An idle router. -/
def Router.init : Router := ⟨[], [], [], [], [], 0, [], [], 0, [], [], 0⟩

/-- A tile network interface (R165–R167, R180, R184). -/
structure Ni where
  /-- TQI requests held (R167) -/
  tqi : List Tqi
  /-- responses kept in HOLD, arrival order (R40) -/
  kept : List Resp
  /-- responses that wait on RSI, oldest first: RID, service code, data, POISON; each keeps the response space of its tag (R167, R178) -/
  rsi : List (Nat × Nat × List Byte × Bool)
  /-- the request on RQO, RID first, and the response on TSO (TID, service code, bytes in all), each with the data of its beats so far (R167) -/
  rqo : Option (Nat × Req × List Byte)
  tso : Option (Nat × Nat × Nat × List Byte)
  /-- staged ROUTE_LO, ROUTE_HI of an entry, plus 1; 0: nothing staged since the last write of ROUTE_CTL (R188) -/
  stageLo : Tbl Nat
  stageHi : Tbl Nat
deriving DecidableEq, Repr

def Ni.init : Ni := ⟨[], [], [], none, none, [], []⟩

/-- The network: packets in flight and requests outstanding, of every requester. -/
structure Net where
  /-- flits that an endpoint has handed to a local port and the router has not taken, oldest first; key (tile * 16 + port) * 8 + vc -/
  inject : Tbl (List (BitVec 288))
  /-- requests that have reached their destination, and responses that have reached their source, not yet taken up -/
  reqs : List Req
  resps : List Resp
  outs : List Outst
  /-- tag generation, key (src * 8 + sport) * 64 + tag (R184) -/
  gens : Tbl Nat
  /-- tags freed, oldest first, key src * 8 + sport; the default list is 0–63 in order (R184) -/
  freeTags : Tbl (List Nat)
  routers : Tbl Router
  nis : Tbl Ni
  /-- Maltar has written the route tables of this boot (R537) -/
  routesOn : Bool
  /-- responses on their way with POISON beside a code other than POISONED: source, SPORT, tag, generation (R349). DESIGN CHOICE (log entry 89):
  the header has no bit for it -/
  pois : List (Nat × Nat × Nat × Nat)
  /-- links that Maltar's routes avoid: base links, and express links + 4096 (R537, R78) -/
  avoid : List Nat
  /-- links of the bundles that a seam reset names (R83) -/
  named : List Nat
  /-- route table entries written since by T0 or a route plan, key tile * 1088 + entry: ROUTE_LO, ROUTE_HI, ROUTE_CTL, and the links avoided
  or named at the write: a link that Maltar takes out later has the entry rewritten (R175, R188) -/
  routeOv : Tbl (Option (Nat × Nat × Nat × List Nat))
  /-- links that were disabled or down when the seam resets in progress replaced routes (R83) -/
  closed : List Nat
deriving DecidableEq, Repr

/-! ### Packet queues and event lines (08) -/

/-- A packet queue word (R192, R193): the two POISON copies apart. -/
structure QWord where
  data : Nat
  last : Bool
  par0 : Bool
  par1 : Bool
  p0 : Bool
  p1 : Bool
deriving DecidableEq, Repr

/-- A packet queue (R192–R207). Producer, consumer, ENABLE, UNDERRUN and counts lie in its registers. -/
structure PQ where
  /-- committed and visible to the consumer, oldest first -/
  vis : List QWord
  /-- committed packets whose commit has not reached the consumer (R197) -/
  transit : List (List QWord)
  /-- the uncommitted packet -/
  unc : List QWord
  /-- words read whose space has not returned to the producer (R197) -/
  freed : Nat
  /-- the last word delivered (R202) -/
  last : QWord
  /-- staged low halves: Q_PUSH_LO, Q_PUSH_LAST_LO (R200) -/
  stLo : Nat
  stLastLo : Nat
  /-- QFLIP pending: the next word written has PAR0 inverted (R375) -/
  flip : Bool
  /-- CCOUNT (R204) -/
  ccount : Nat
  /-- CUNDER: the read of this consumer cycle was empty (R202) -/
  cunder : Bool
  /-- words read or flushed, modulo 1,024: the slot of the next word (R374) -/
  rd : Nat
  /-- notices still to be given to a fabric consumer, one a consumer cycle, and CNOTICE (R204) -/
  notices : Nat
  notice : Bool
deriving DecidableEq, Repr

def QWord.zero : QWord := ⟨0, false, false, false, false, false⟩
def PQ.init : PQ := ⟨[], [], [], 0, QWord.zero, 0, 0, false, 0, false, 0, 0, false⟩

/-- Event lines (R208–R211): pulses raised and not yet delivered, and the tiles' fabric ports. -/
structure Events where
  /-- pulses on their way to the sinks of a die, oldest first: die * 256 + line -/
  waiting : List Nat
  /-- fabric event counters, key tile * 4 + k (R211) -/
  evcnt : Tbl Nat
  /-- pulses presented at fabric receive ports, key tile * 8 + port; those of pulses that have reached the tile since the port's last edge; and the
  port's level (R210) -/
  recv : Tbl Nat
  due : Tbl Bool
  high : Tbl Bool
  /-- stages of the counters' Gray-code crossings, newest first, key as evcnt (R211) -/
  evpipe : Tbl (List Nat)
deriving DecidableEq, Repr

/-! ### Signal engines (09, 10) -/

/-- A stored engine memory word: data, and the mask of inverted check bits (R370, R375). -/
structure EWord where
  data : Nat
  chk : Nat
deriving DecidableEq, Repr

/-- An engine memory (R217, R219): words, and for a memory loaded UNINIT which words have been written since. -/
structure EMem where
  words : Tbl EWord
  uninit : Bool
  written : Tbl Bool
deriving DecidableEq, Repr

def EMem.init : EMem := ⟨[], false, []⟩

/-- What a write in flight will write (R233). -/
inductive PTgt where
  /-- register id of a bank (R213) -/
  | reg (bank : Nat) (id : Nat)
  | xmem (a : Nat)
  | ymem (a : Nat)
  /-- a push of the word into queue q; `last` commits (R256) -/
  | push (q : Nat) (last : Bool)
  | qabort (q : Nat)
  /-- STK releases the Y lock (R259) -/
  | unlock
  /-- SIG raises an event line (R255) -/
  | sig (line : Nat)
  /-- the interface's own answer to an NGET or NPUT whose status word is Y[ps]: a service code (R257) -/
  | net (ps svc : Nat)
deriving DecidableEq, Repr

/-- A write in flight: target, bits written, value, and the engine cycle at whose end it happens. -/
structure PWrite where
  tgt : PTgt
  mask : Nat
  val : Nat
  due : Nat
deriving DecidableEq, Repr

/-- Engine states (R261). -/
inductive EngRun where
  | stopped | running | idle | halted | faulted
deriving DecidableEq, Repr

/-- What the interface waits to do in Y memory while the engine holds the lock (R257, R259, R264): the end of an NGET or NPUT, an NPUT whose data is
still to be read (status word, data word, bytes, address), or a request of the network. -/
inductive NiJob where
  | done (who : Who) (svc : Nat) (data : List Byte)
  | send (ps pd n addr : Nat)
  | req (r : Req)
deriving DecidableEq, Repr

/-- A signal engine (09, 10). -/
structure Engine where
  run : EngRun
  /-- SHD: the shadow bank is active (R253) -/
  shd : Bool
  /-- register values, key bank * 64 + id; reset values of R213 -/
  regs : Tbl Nat
  /-- address of the next instruction to issue -/
  pc : Nat
  /-- engine cycle of the next issue -/
  now : Nat
  /-- writes in flight, in program order -/
  pend : List PWrite
  prog : EMem
  x : EMem
  y : EMem
  /-- repeat cache use: 0 from program memory, 1 filling, 2 from the cache (R221, R254) -/
  cphase : Nat
  cache : Tbl Nat
  /-- branch in progress: delay slots left and address after them (R246) -/
  br : Option (Nat × Nat)
  /-- the branch in progress is RETI (R254) -/
  brReti : Bool
  /-- the boundary before the first main-bank instruction after RETI (R252) -/
  afterReti : Bool
  /-- the Y lock is held (R259) -/
  lock : Bool
  /-- a forced halt broke the lock: the next STK is legal (R259) -/
  lockBroken : Bool
  /-- an atomic waits for its response (R258) -/
  atomic : Bool
  /-- WAIT: mask and Dd (R255) -/
  wait : Option (Nat × Nat)
  /-- a stop is requested and waits for a boundary (R53, R262) -/
  stopReq : Bool
  /-- a halt is requested by this path (R263) -/
  haltReq : Option Nat
  /-- a step runs: 1 nothing issued yet, 2 issued; interrupts are taken during it (R511) -/
  stepping : Nat
  stepIrq : Bool
  /-- a fed word that has not completed (R511) -/
  feed : Option Nat
  /-- the path that halted it, and the state it held before (R511) -/
  haltedBy : Option Nat
  before : EngRun
  /-- a comparator matched at a closed boundary: the engine halts at the next open one (R511) -/
  brkHit : Option Nat
  /-- the next instruction is not checked against the comparators (R511) -/
  skipBreak : Bool
  /-- watchdog cycles left (R260) -/
  wd : Nat
  /-- the address issued last (R516) -/
  lastPc : Nat
  /-- fabric Y port: accesses accepted and not served, oldest first: write?, address, data; read data to return, oldest first; the read data on
  YDOUT while YRVALID is high; the tile port served the fabric last (R264) -/
  yq : List (Bool × Nat × Nat)
  yout : List (Nat × Bool)
  ynow : Option (Nat × Bool)
  yturn : Bool
  /-- the interface's accesses that wait for the tile port, oldest first (R259, R264) -/
  ynet : List NiJob
  /-- HOLD has come, and the engine runs on to its next boundary (R40) -/
  holdReq : Bool
deriving DecidableEq, Repr

/-- An engine at its reset values (R213). -/
def Engine.init : Engine :=
  ⟨.stopped, false, [], 0, 0, [], EMem.init, EMem.init, EMem.init, 0, [], none, false, false, false, false, false, none,
   false, none, 0, false, none, none, .stopped, none, false, 0, 0, [], [], none, false, [], false⟩

/-! ### Host ports, mailboxes, Maltar (20, 21) -/

/-- A mailbox (R455–R457). STATE: 0 IDLE, 1 QUEUED, 2 RUNNING, 3 DONE. -/
structure Mailbox where
  cmd : Tbl Byte
  rep : Tbl Byte
  state : Nat
  seq : Nat
  code : Nat
  tag : Nat
deriving DecidableEq, Repr

def Mailbox.init : Mailbox := ⟨[], [], 0, 0, 0, 0⟩

/-- An event record (R462). Tenant 255: device-wide. -/
structure EvRec where
  kind : Nat
  code : Nat
  tenant : Nat
  source : Nat
  data : Nat
  sec : Nat
  ns : Nat
deriving DecidableEq, Repr

/-- An operation record (R476). A relayed command's record names its origin (R491). -/
structure OpRec where
  tag : Nat
  opcode : Nat
  mbox : Nat
  done : Bool
  code : Nat
  result : Nat
  detail : Nat
  /-- origin device and tenant of a relayed command; none for a local one -/
  origin : Option (Nat × Nat)
deriving DecidableEq, Repr

/-- A configuration register of a port (R451), by its place in the configuration space. -/
inductive CfgReg where
  | id | classRev | bar0 | bar2lo | bar2hi | intPin | dsnLo | dsnHi | powerState | other
deriving DecidableEq, Repr

/-- A BAR2 TLP in flight (R464, R465). -/
structure Tlp where
  id : Nat
  write : Bool
  addr : Nat
  len : Nat
  /-- data collected, key byte offset -/
  buf : Tbl (Option Byte)
  /-- requests not yet answered -/
  left : Nat
  /-- first failing code, 0 none -/
  fail : Nat
  /-- pieces still to issue: address, length, bytes -/
  todo : List (Nat × Nat × List Byte)
  /-- pieces to reissue after REFUSED_BUSY -/
  retry : List (Nat × Nat × List Byte)
deriving DecidableEq, Repr

/-- A completion that a port sends to its host: 0 successful, 1 Completer Abort, 2 Unsupported Request; data; EP (R465). -/
structure Cpl where
  status : Nat
  data : List Byte
  ep : Bool
deriving DecidableEq, Repr

/-- A host port (R450–R465). -/
structure HostPort where
  /-- enabled by FUNC_ENABLE and not disabled (R53) -/
  enabled : Bool
  /-- PERST_N is high -/
  perst : Bool
  training : Bool
  d3hot : Bool
  seq : Nat
  mbs : Tbl Mailbox
  events : List EvRec
  /-- events dropped since the queue filled (R462) -/
  dropped : Nat
  ops : List OpRec
  tlps : List Tlp
  nextTlp : Nat
  cpls : List Cpl
  /-- the last answer to a configuration read (R451) -/
  cfg : Nat
  /-- ALARM, ATTENTION, DEGRADED, TIME_FAULT, EVENTS as Maltar last wrote them (R461) -/
  sbCopy : Nat
  /-- relay view: fixed or nearest; identifiers and hops (R466) -/
  view : List (Nat × Nat)
  /-- base addresses that the host has written to BAR0 and BAR2 (R451) -/
  bar0 : Nat
  bar2 : Nat
  /-- the mailboxes rung, the last one last (R368) -/
  rings : List Nat
  /-- a posted write that received Unsupported Request has been reported through AER (R465) -/
  aerUr : Bool
deriving DecidableEq, Repr

def HostPort.init : HostPort := ⟨true, false, false, false, 0, [], [], 0, [], [], 0, [], 0, 0, [], 0, 0, [], false⟩

/-- A latched alarm (R461): the tenant it concerns (255 device-wide) and its cause. -/
structure Alarm where
  tenant : Nat
  cause : Nat
deriving DecidableEq, Repr

/-- What a long operation waits for: the command and its resource (R473). Further data in `args`. -/
structure LongOp where
  port : Nat
  mbox : Nat
  tag : Nat
  opcode : Nat
  tenant : Nat
  /-- resource number: region, slot, stack window, function … -/
  res : Nat
  args : List Nat
  /-- phase of a multi-phase operation -/
  phase : Nat
  origin : Option (Nat × Nat)
deriving DecidableEq, Repr

/-- A RELAY frame (R469). KIND 0 command, 1 reply, 2 route. -/
structure RelayFrame where
  lane : Nat
  kind : Nat
  hops : Nat
  /-- ORIGIN byte: tenant, port, mailbox -/
  origin : Nat
  originId : Nat
  targetId : Nat
  rtag : Nat
  body : List Byte
deriving DecidableEq, Repr

/-- A relay route (R467): device, hops, lane, and the exchanges since a ROUTE frame last confirmed it. -/
structure RelayRoute where
  dev : Nat
  hops : Nat
  lane : Nat
  age : Nat
deriving DecidableEq, Repr

/-- A relayed command waiting at its origin (R467). -/
structure RelayWait where
  rtag : Nat
  port : Nat
  mbox : Nat
deriving DecidableEq, Repr

/-- Hosts and Maltar's own state. -/
structure Hosts where
  ports : Tbl HostPort
  /-- port served last, for the round robin (R369) -/
  rr : Nat
  alarms : List Alarm
  /-- what is degraded: 0–3 stack s; 16 + 2d + p seam port p of die d; 1024 + t a link of router t (R78, R181, R325) -/
  degr : List Nat
  ops : List LongOp
  relayOut : List RelayFrame
  routes : List RelayRoute
  waits : List RelayWait
  nextRtag : Nat
  /-- reverse path of relayed commands passing through: rtag, origin, lane (R467) -/
  reverse : List (Nat × Nat × Nat)
  /-- MP: offset pointer, bytes of MB_STATUS latched last, bytes that the last read returned (R453) -/
  mpOff : Nat
  mpLatch : List Byte
  mpOut : List Byte
  /-- MP waits for the next START (R452) -/
  mpIdle : Bool
  /-- the last debug command executed by the Referee had effect under this tenant (R514) -/
  curTenant : Nat
deriving DecidableEq, Repr
/-! ### Seams (03) -/

/-- One received direction of a privileged bundle pair: key (die * 2 + port) * 256 + i (R84). Its state, lane map and replay count are in PRIV_STATUS. -/
structure Bundle where
  /-- units this end has sent and keeps until acknowledged, oldest first (R65) -/
  kept : List (BitVec 336)
  /-- SEQ of the next unit sent on the partner direction -/
  nextSeq : Nat
  /-- SEQ expected next -/
  expSeq : Nat
  /-- NAK to set in the next unit sent (R65) -/
  nakOut : Bool
  /-- discarding until the expected SEQ arrives again (R65) -/
  skipping : Bool
  /-- units on the lines to the partner end, oldest first, striped: lane and 24 bits; the first unit of a replay is marked (R62, R65) -/
  wire : List (Bool × List (Nat × BitVec 24))
  /-- contents that wait to be sent, TYPE and payload, in sending order (R65, R67) -/
  queue : List (Nat × Nat)
  /-- buffer credits to return to the partner direction, per virtual channel (R63) -/
  owed : Tbl Nat
  /-- consecutive failed replays of one unit (R66) -/
  fails : Nat
  /-- replays counted in this window (R78) -/
  replays : Nat
  /-- the partner's lane map received in TRAIN (R76) -/
  partnerMap : Option Nat
  /-- payloads delivered in order, oldest first: TYPE and payload -/
  delivered : List (Nat × BitVec 288)
  /-- the lane map by which this end of a control bundle pair sends; the other bundles' stand in PRIV_STATUS of both ends (R76, R77) -/
  sendMap : Nat
deriving DecidableEq, Repr

def Bundle.init : Bundle := ⟨[], 0, 0, false, false, [], [], [], 0, 0, none, [], 0⟩

/-- A die in roll call (R70): its number, and for its X port and its Y port the payloads of the ROLL units it has sent there (R69) and the
identifier in the ANSWER received there. -/
structure RollDie where
  numbered : Option Nat
  outX : List (BitVec 288)
  outY : List (BitVec 288)
  ansX : Option Nat
  ansY : Option Nat
deriving DecidableEq, Repr

def RollDie.init : RollDie := ⟨none, [], [], none, none⟩

/-- The seams (03). -/
structure Seams where
  /-- dies whose system pins are live, bit d (R68) -/
  captains : Nat
  roll : Tbl RollDie
  /-- die 3's identifier relayed by die 1 and die 2 (R70) -/
  relay1 : Option Nat
  relay2 : Option Nat
  rollDone : Bool
  bundles : Tbl Bundle
  /-- assembly and field-failure bad wires: key (seam * 16 + crossing) * 64 + bundle, and wire (0–63 user, 64–67 bench) (R72) -/
  assembly : List (Nat × Nat)
  field : List (Nat × Nat)
  /-- seam slack declared by the image in the boot in progress, and used for repair: declared and allowed (R73) -/
  declared : Bool
  slack : Bool
  /-- wires (0–63) and bench lanes (64–67) that failed the boot test, as the lists above (R71) -/
  test : List (Nat × Nat)
  /-- seam resets in progress: port key die * 2 + port, and the bundle that still trains (R83) -/
  resets : List (Nat × Nat)
  /-- slack wires that carry a repair: bundle key, group, user wire (R74) -/
  slackUse : List (Nat × Nat × Nat)
  /-- fabric wires named by an alarm: bundle key, user wire (R81) -/
  named : List (Nat × Nat)
  /-- control units accepted, for the die controllers: key as bundles -/
  mgmt : Tbl (List (BitVec 288))
  config : Tbl (List (BitVec 288))
  /-- MGMT and CONFIG units on their way over the control bundles: TYPE, the die they are for, payload (R63, R79) -/
  units : List (Nat × Nat × BitVec 288)
deriving DecidableEq, Repr

/-! ### Configuration load (04) -/

/-- A die's configuration controller during a load of its section of an image (R93–R98). -/
structure LoadCtl where
  active : Bool
  /-- where the image lies: a store area (R85), or, for one staged in HBM, its address and the tenant that reads it -/
  area : Nat
  hbm : Option (Nat × Nat)
  /-- bytes that the source holds -/
  srcLen : Nat
  /-- SECTION_OFFSET, SECTION_LENGTH and SECTION_FRAMES -/
  off : Nat
  len : Nat
  frames : Nat
  /-- digest expected of the current block, and its bytes so far (R96) -/
  digest : BitVec 384
  blk : List Byte
  pos : Nat
  /-- frame address of the last frame covered -/
  lastAddr : Option Nat
  /-- CARRIED of the END tag -/
  endSeen : Option Nat
  /-- completion code when the section failed, and the failing address -/
  fail : Option Nat
  failAddr : Nat
  reported : Bool
  /-- the source holds fewer bytes than BYTE_LENGTH (R95) -/
  short : Bool
deriving DecidableEq, Repr

def LoadCtl.init : LoadCtl := ⟨false, 0, none, 0, 0, 0, 0, 0#384, [], 0, none, none, none, 0, false, false⟩

/-- A region library entry (R302). STATE: 0 empty, 1 writing, 2 valid, 3 invalid (R478). -/
structure LibEntry where
  state : Nat
  tenant : Nat
  region : Nat
  len : Nat
  pos : Nat
  /-- the first bytes of the image, until its header can be checked (R479) -/
  buf : List Byte
deriving DecidableEq, Repr

def LibEntry.init : LibEntry := ⟨0, 0, 0, 0, 0, []⟩

/-- A slot or golden write in progress (R106, R111, R479). -/
structure SlotWrite where
  /-- 0 slot A, 1 slot B, 2 golden -/
  target : Nat
  /-- 0 staged in HBM, 1 mailbox chunks -/
  source : Nat
  addr : Nat
  len : Nat
  pos : Nat
  /-- bytes of a chunked image not programmed yet: its first ones until its header can be checked, and those that arrive while a region load reads
  the library (R110, R479) -/
  buf : List Byte
deriving DecidableEq, Repr

/-- The internal store and the load (04). -/
structure Load where
  /-- store bytes: key area * 2^31 + offset; areas 0 system, 1 golden, 2 slot A, 3 slot B, 4 + e library entry e (R85) -/
  store : Tbl Byte
  /-- slot states: 0 EMPTY, 1 WRITING, 2 VERIFIED, 3 INVALID (R107) -/
  slotA : Nat
  slotB : Nat
  golden : Nat
  /-- the bytes of pointer records P and Q (R108) -/
  ptrP : List Byte
  ptrQ : List Byte
  libs : Tbl LibEntry
  slotWrite : Option SlotWrite
  /-- the slot being loaded: 0 none, 1 A, 2 B, 3 golden -/
  loading : Nat
  /-- controllers: key d for die d in a full load, 4 + 4r + d in a load of region r -/
  ctls : Tbl LoadCtl
  /-- the primary slot has failed in this boot (R45) -/
  fellBack : Bool
  /-- SEAM_SLACK of the loaded full image (R284) -/
  imgSlack : Bool
  /-- load report fields (R104) -/
  repLoaded : Nat
  repCause : Nat
  repDie : Nat
  repPrimary : Nat
  repGolden : Nat
  repAddr : Nat
  /-- logic and die-level frames as loaded, key frame address -/
  frames : Tbl (BitVec 4096)
  /-- spare blocks used per die, remapped blocks (die * 2^20 + block to spare), areas with an uncorrectable block (R382) -/
  spares : Tbl Nat
  remap : Tbl Nat
  storeBad : Nat
  /-- the system area's record of swaps that a device reset ended: tenant and capture buffer (R301) -/
  swapRecs : List (Nat × Nat)
deriving DecidableEq, Repr

/-! ### Fabric and block memories (05, 06) -/

/-- The hard units of a tile that meet its routing (R119): the ports of block memory b, multiplier slice i, packet queue n, the signal engine, the
network interface's fabric port and the event line ports. -/
inductive Slot where
  | blkA (b : Nat)
  | blkB (b : Nat)
  | mul (i : Nat)
  | queue (n : Nat)
  | engine
  | ni
  | events
deriving DecidableEq, Repr

/-- The signals of the hard units: block memories (R139, R149), multiplier slices (R127–R130), packet queues (R196, R201), the engine (R251, R264),
the network interface (R167) with the level of a real-time port (R317), event lines (R210, R211). -/
inductive Sig where
  | pen | byteWr | loc | wdata | oren | oclr | rdata | errCorr | errUncorr | poison
  | ma | mb | me | ad | chi | fn | neg | pair | ce | clr | acc | above | below
  | pdata | pvalid | plast | ppoison | pabort | pready | cread | cdata | clast | cpoison | cunder | cavail | cnotice | ccount
  | yvalid | ywe | yaddr | ydin | yready | yrvalid | ydout | ypoison | engirq
  | rtlevel | rqoValid | rqoOp | rqoAddr | rqoSize | rqoRt | rqoRid | rqoData | rqoReady | rsiValid | rsiReady | rsiRid | rsiSvc | rsiData | rsiPoison
  | tsoValid | tsoTid | tsoSvc | tsoData | tsoReady | tqiValid | tqiReady | tqiTid | tqiOp | tqiOff | tqiSize | tqiTenant | tqiMclass | tqiData
  | raise | recv | evclr | evcnt
deriving DecidableEq, Repr

/-- A signal of the fabric's routing (R119–R124). Tiles by number, clusters by number in the tile, directions 0 N, 1 E, 2 S, 3 W. -/
inductive Wire where
  /-- source n of a local crossbar (R120): 4 * cell + 0 O6, 1 O5, 2 Q0, 3 Q1; from 64 on, cluster and global routing -/
  | src (t c n : Nat)
  /-- destination n of a local crossbar (R117, R120): 8 * cell + A–F, BX0, BX1; 128 CE0–CE3; 132 SR0, SR1; 134 MS2–MS5; 138 the carry in of the
  cluster's lowest cell (R116); 139 the 24 outputs onto cluster routing -/
  | dest (t c n : Nat)
  /-- the carry into cell n of a cluster; n = 16 is its carry out (R115, R116) -/
  | carry (t c n : Nat)
  /-- input i of a local crossbar from cluster and global routing (R120) -/
  | xin (t c i : Nat)
  /-- cluster segment i of a length that starts at a cluster (R121) -/
  | seg (t c dir len i : Nat)
  /-- global line i of a length that starts in a tile, after its first n tile boundaries (R122) -/
  | line (t dir len i n : Nat)
  /-- bit i of an input, and of an output, of a hard unit of a tile -/
  | pin (t : Nat) (u : Slot) (f : Sig) (i : Nat)
  | out (t : Nat) (u : Slot) (f : Sig) (i : Nat)
  /-- the level at user I/O pin k, and the signals that drive its output and its enable -/
  | io (k : Nat)
  | ioOut (k : Nat)
  | ioEn (k : Nat)
deriving DecidableEq, Repr

/-- Set/reset kind of a flip-flop (R113). -/
inductive SrKind where
  | none | syncSet | syncReset | asyncSet | asyncReset
deriving DecidableEq, Repr

/-- A flip-flop's configuration (R113): D source (0 O6, 1 O5, 2 bypass), cluster clock, clock enable (4 = always), set/reset line and
kind, initial value. -/
structure FfCfg where
  d : Nat
  clk : Nat
  ce : Nat
  sr : Nat
  kind : SrKind
  init : Bool
deriving DecidableEq, Repr

def FfCfg.blank : FfCfg := ⟨0, 0, 4, 0, .none, false⟩

/-- The modes of a cell (R112). -/
inductive CellMode where
  | lut6 | split | mux | arith
deriving DecidableEq, Repr

/-- A cell's configuration (R112, R115, R118): mode, 64-bit table, sources of G0 and G1 (0 input, 1 constant 0, 2 constant 1), and whether
O5 carries the wide-multiplexer output of its position. -/
structure CellCfg where
  mode : CellMode
  table : Nat
  g0 : Nat
  g1 : Nat
  wide : Bool
deriving DecidableEq, Repr

def CellCfg.blank : CellCfg := ⟨.lut6, 0, 0, 0, false⟩

/-- A cluster's control set and chain (R113, R116, R117): the tile's clock net that CLK0 and CLK1 take, whether each is inverted, and the carry into
cell 0: 0 and 1 the constants, 2 local routing, 3 the cluster below. -/
structure ClusterCfg where
  clk0 : Nat
  clk1 : Nat
  inv0 : Bool
  inv1 : Bool
  cin : Nat
deriving DecidableEq, Repr

def ClusterCfg.blank : ClusterCfg := ⟨0, 0, false, false, 0⟩

/-- A block memory's configuration (R139–R156). Widths 1, 2, 4, 9, 18, 36; write modes 0 read-first, 1 write-first, 2 no-change. -/
structure BlkCfg where
  widthA : Nat
  widthB : Nat
  modeA : Nat
  modeB : Nat
  oregA : Bool
  oregB : Bool
  clrA : Nat
  clrB : Nat
  /-- 512 × 72 mode and its ECC bit (R147) -/
  wide : Bool
  ecc : Bool
  /-- fused with block b + 1 (R151) -/
  fused : Bool
  /-- window enabled (R156) -/
  window : Bool
  /-- initial values of the output latches and of the output registers (R143) -/
  initA : Nat
  initB : Nat
  regA : Nat
  regB : Nat
  /-- the tile's clock net of each port (R139) -/
  clkA : Nat
  clkB : Nat
deriving DecidableEq, Repr

def BlkCfg.blank : BlkCfg := ⟨36, 36, 0, 0, false, false, 0, 0, false, false, false, false, 0, 0, 0, 0, 0, 0⟩

/-- A multiplier slice's configuration (R127–R130). -/
structure MulCfg where
  /-- the pair adder's fixed choice; none: chosen by PAIR on every cycle -/
  pair : Option Nat
  inStage : Bool
  prodStage : Bool
  resStage : Bool
  sat : Bool
  /-- the tile's clock net of the slice (R23) -/
  clk : Nat
deriving DecidableEq, Repr

def MulCfg.blank : MulCfg := ⟨some 0, true, true, true, false, 0⟩

/-- What the model reads of a tile's logic frames. Their bit encoding is not in the manual, so the settings travel decoded. -/
structure TileCfg where
  /-- producer and consumer kinds of queues 0–3 (R194) -/
  prod : List Nat
  cons : List Nat
  /-- the design decodes the fabric port window (R167) -/
  tqiOn : Bool
  /-- event lines of raise ports, receive ports and counters (R210, R211); 256 = unbound -/
  raise : List Nat
  recv : List Nat
  cnts : List Nat
  /-- the engine starts at the HUDDLE exit (R262) -/
  engStart : Bool
  /-- global net bound to clock input 0–7; 64 = unbound (R442) -/
  clkNets : List Nat
  /-- ENTRY of ENG_CTL (R262) -/
  entry : Nat
  /-- cells, key cluster * 16 + cell, and their flip-flops, key (cluster * 16 + cell) * 2 + k -/
  cells : Tbl CellCfg
  ffs : Tbl FfCfg
  blks : Tbl BlkCfg
  muls : Tbl MulCfg
  clusters : Tbl ClusterCfg
  /-- local crossbars: key cluster * 163 + destination, the source + 1; 0: no source (R120) -/
  xbar : Tbl Nat
  /-- connections of the tile's routing: a signal and what drives it (R121, R122) -/
  nets : List (Wire × Wire)
  /-- the tile's clock net of a hard unit's port: queues 0 push, 1 pop; engine 0 the Y port; interface 0; events 0–7 raise, 8–15 receive, 16–19
  the counters (R167, R194, R210, R211, R264) -/
  portNets : List ((Slot × Nat) × Nat)
  /-- the signals whose clamp has the fence value 1 (R286) -/
  fence : List Wire
deriving DecidableEq, Repr

def TileCfg.blank : TileCfg :=
  ⟨[0, 0, 0, 0], [0, 0, 0, 0], false, [], [], [], false, [], 0, [], [], [], [], [], [], [], [], []⟩

/-- A multiplier slice's registers (R127–R130). -/
structure MulSt where
  ma : Nat
  mb : Nat
  me : Nat
  ad : Nat
  /-- FN, NEG, PAIR in step with the input stage -/
  fn1 : Nat
  neg1 : Bool
  pair1 : Nat
  /-- product and addend in the product stage, with FN and NEG -/
  prod : Nat
  ad2 : Nat
  fn2 : Nat
  neg2 : Bool
  acc : Nat
  above : Bool
  below : Bool
deriving DecidableEq, Repr

def MulSt.init : MulSt := ⟨0, 0, 0, 0, 0, false, 0, 0, 0, 0, false, 0, false, false⟩

/-- A block memory (R140, R143, R149, R154). -/
structure BlkMem where
  /-- 9-bit bytes 0–4095 -/
  bytes : Tbl Nat
  uninit : Bool
  marks : Tbl Bool
  /-- RDATA of the ports before their output registers; in 512 × 72 mode latchB holds the whole 72-bit word -/
  latchA : Nat
  latchB : Nat
  oregA : Nat
  oregB : Nat
  poisonA : Bool
  poisonB : Bool
  errCorr : Bool
  errUncorr : Bool
  /-- POISON and the ECC flags of the reads that the output registers hold (R149, R154) -/
  regPoisonA : Bool
  regPoisonB : Bool
  regCorr : Bool
  regUncorr : Bool
deriving DecidableEq, Repr

def BlkMem.init : BlkMem := ⟨[], false, [], 0, 0, 0, 0, false, false, false, false, false, false, false, false⟩

/-- The inputs of a block memory port on a clock edge (R139); the strobes and the write data of a 72-bit port are given whole. -/
structure PortIn where
  pen : Bool
  we : BitVec 8
  loc : BitVec 16
  wdata : BitVec 72
  oren : Bool
  oclr : Bool
deriving DecidableEq, Repr

/-- A cell's inputs at a clock edge: A–F in bits 0–5, BX0 and BX1 in bits 6 and 7 (R112). -/
abbrev CellIn := BitVec 8

/-- A multiplier slice's inputs at a clock edge (R127–R129): clock enable and clear of the input, product and result stages in bits 0–2. -/
structure MulIn where
  tile : Fin 1024
  slice : Fin 64
  ma : BitVec 18
  mb : BitVec 18
  me : BitVec 18
  ad : BitVec 48
  fn : Fin 8
  neg : Bool
  pair : Fin 4
  ce : BitVec 3
  clr : BitVec 3
deriving DecidableEq, Repr

/-- The crossing primitives (R135). -/
inductive XKind where
  | xsync | xpulse | xword | xgray
deriving DecidableEq, Repr

/-- A crossing primitive of the design (R135): kind, stages n, width, the clusters of its source and destination domains with their cluster clocks,
the crossbar sources that feed it (its input bits; the pulse or SEND; OVR_CLR), and the flip-flops whose outputs it drives: at the source READY and
OVERRUN, at the destination the level, the pulse or VALID, then the word. -/
structure XCfg where
  kind : XKind
  n : Nat
  width : Nat
  srcT : Nat
  srcC : Nat
  srcClk : Nat
  dstT : Nat
  dstC : Nat
  dstClk : Nat
  ins : List Nat
  send : Option Nat
  clear : Option Nat
  srcFfs : List Nat
  dstFfs : List Nat
deriving DecidableEq, Repr

/-- A crossing primitive's flip-flops (R135–R137). -/
structure Crossing where
  overrun : Bool
  /-- the word held at the source (R137) -/
  word : Nat
  /-- pulses or words delivered -/
  delivered : Nat
  /-- the request as the source toggles it -/
  tog : Bool
  /-- destination stages, newest first: the request, or the value of XSYNC and XGRAY -/
  pipe : List Nat
  /-- acknowledgement stages at the source, newest first -/
  ack : List Bool
  /-- the destination sees a pulse, or VALID with its word -/
  out : Bool
  dword : Nat
  /-- the input as sampled last, and destination edges for which the output is undefined (R136) -/
  seen : Nat
  broken : Nat
deriving DecidableEq, Repr

def Crossing.init : Crossing := ⟨false, 0, 0, false, [], [], false, 0, 0, 0⟩

/-- A seam wire in the die-level frames of both dies (R123, R126): its key (fabric bundle key * 64 + wire), the setting at each end (0 unused, 1 sends,
2 receives; the lower-numbered die first), the global line that Golzar has assigned it, and whether its seam flip-flop is enabled. -/
structure SeamWire where
  key : Nat
  dirLo : Nat
  dirHi : Nat
  line : Nat × Nat × Nat × Nat
  reg : Bool
deriving DecidableEq, Repr

/-- A user I/O pin in the frames: in use, and the tile whose routing drives its output and enable (R283). -/
structure IoCfg where
  used : Bool
  tile : Nat
deriving DecidableEq, Repr

def IoCfg.blank : IoCfg := ⟨false, 0⟩

/-- What the logic and die-level frames of an image say, decoded: tile settings, the region of each tile, register values by network
address, the seam wires with the clock net of each fabric bundle's flip-flops, the crossing primitives and the user I/O pins (R87, R88, R283). -/
structure ImageCfg where
  tiles : List (Nat × TileCfg)
  regions : List (Nat × Nat)
  regs : List (Nat × Nat)
  seams : List SeamWire
  seamClk : List (Nat × Nat)
  xings : List (Nat × XCfg)
  io : List (Nat × IoCfg)
deriving DecidableEq, Repr

/-- What stood before a clock edge, for the commands of the same edge; and the clock nets of tiles whose hard ports have had it, key
tile * 128 + net. -/
structure Edge where
  ffs : Tbl (Option Bool)
  seamFfs : Tbl Bool
  muls : Tbl MulSt
  blks : Tbl BlkMem
  xings : Tbl Crossing
  free : Nat
  net : Net
  evs : Events
  pqs : Tbl PQ
  eng : Tbl Engine
  tiles : List Nat
deriving DecidableEq, Repr

/-- The fabric (05, 06). -/
structure Fabric where
  cfg : Tbl TileCfg
  /-- flip-flops, key tile * 24576 + (cluster * 16 + cell) * 2 + k; unlisted: the initial value -/
  ffs : Tbl (Option Bool)
  seamFfs : Tbl Bool
  muls : Tbl MulSt
  blks : Tbl BlkMem
  xings : Tbl Crossing
  /-- user clock islands stopped: HOLD, REST (R39, R40) -/
  stopped : Bool
  /-- seam wires, the clock net of each fabric bundle's seam flip-flops (key fabric bundle), crossing primitives and user I/O as the frames set them -/
  seamCfg : List SeamWire
  seamClk : Tbl Nat
  xcfg : List (Nat × XCfg)
  io : Tbl IoCfg
  before : Option Edge
deriving DecidableEq, Repr
/-! ### DMA (11) -/

/-- A decoded DMA descriptor (R270). MODE 0 COPY, 1 FILL, 2 COMPARE, 3 COPY_SWAP; others and broken rules: malformed (R271). -/
structure Desc where
  next : Nat
  dst : Nat
  src : Nat
  ev : Nat
  evEn : Bool
  last : Bool
  mode : Nat
  swap : Nat
  narrow : Bool
  len : Nat
  ok : Bool
  /-- the fill of one window of an interleaved stack: DST is stack-local there (R347, R351) -/
  ilv : Option Nat
deriving DecidableEq, Repr

/-- A piece of a burst (R275): address, length, offset of its first byte in the descriptor's stream, write data. -/
structure Piece where
  addr : Nat
  len : Nat
  off : Nat
  data : List Byte
deriving DecidableEq, Repr

/-- A request that a channel has still to issue (R274, R278): kind and burst as in `Who.dma`, and the piece. -/
structure Retry where
  kind : Nat
  burst : Nat
  piece : Piece
deriving DecidableEq, Repr

/-- A burst in progress (R274): stream offset and length, the bytes read by stream offset, and what it waits for. -/
structure Burst where
  off : Nat
  len : Nat
  /-- source bytes collected, key stream offset -/
  src : Tbl Byte
  /-- destination bytes collected (COMPARE) -/
  dst : Tbl Byte
  /-- reads, or writes, still to return -/
  left : Nat
  /-- its writes have begun -/
  wr : Bool
  /-- it only reads the rest of a unit that a stopped channel's last burst cuts (R273, R281) -/
  tail : Bool
deriving DecidableEq, Repr

/-- A DMA channel (R268–R282). STATE, MM, CODE, PHASE, CH_DESC and CH_MM lie in its registers. -/
structure Channel where
  /-- the current descriptor, once fetched -/
  cur : Option Desc
  /-- the next descriptor, fetched ahead, and its address -/
  nxt : Option (Nat × Desc)
  /-- a descriptor fetch is wanted at this address -/
  want : Option Nat
  /-- a descriptor fetch is in flight for this address -/
  fetch : Option Nat
  /-- stream bytes whose bursts have been issued -/
  pos : Nat
  bursts : List Burst
  /-- pieces of begun bursts still to issue, and requests to reissue after REFUSED_BUSY, oldest first -/
  todo : List Retry
  retries : List Retry
  /-- lowest mismatch offset found (R279) -/
  mism : Option Nat
  /-- the protected window 16s + i whose enable, disable or rebuild runs on this channel, and the code with which its fill ended (R345) -/
  owner : Option Nat
  ended : Option Nat
  /-- what the funnel keeps of bursts whose reads have returned, for the units of a COPY_SWAP that a burst boundary cuts: stream offset of the burst,
  its source bytes by stream offset (R273, R274) -/
  edge : List (Nat × Tbl Byte)
deriving DecidableEq, Repr

def Channel.init : Channel := ⟨none, none, none, none, 0, [], [], [], none, none, none, []⟩

/-- The DMA engines (11): channels by 32e + c, and each engine's round-robin pointer. -/
structure Dma where
  chans : Tbl Channel
  rr : Tbl Nat
deriving DecidableEq, Repr

/-! ### Regions (12) -/

/-- A region (R283–R303). STATE, DEFINED, TENANT, LAST_CODE, TILES and REGION_FAULT lie in its registers. -/
structure Region where
  /-- tiles, ascending -/
  tiles : List Nat
  /-- a fence runs: 0 none, 1 DRAIN, 2 waiting for OUTSTANDING (R289) -/
  fencing : Nat
  /-- loaded since the last capture (R288) -/
  loaded : Bool
  /-- STATE of the engines restored from a state frame, key tile, plus 1 (R298) -/
  engState : Tbl Nat
  /-- capture buffer of the swap in progress (R301) -/
  buffer : Option Nat
  /-- state classes of the step in progress (R291) -/
  classes : Nat
  /-- image of the step in progress: 0 library or 1 HBM, entry, address (R478) -/
  image : Option (Nat × Nat × Nat)
  /-- route plan: tile, entry, lo, hi, ctl (R299) -/
  plan : List (Nat × Nat × Nat × Nat × Nat)
  /-- the code with which a failed step is being blanked (R296) -/
  failCode : Option Nat
  /-- an interruption: blank when the fence has completed (R301) -/
  blank : Bool
  /-- the clamps are applied, and the signals that they hold at 1 (R286) -/
  clamped : Bool
  clamps : List Wire
  /-- restored since the last load: a release starts from the restored values (R298) -/
  restored : Bool
  /-- the header of the step's image, as it was checked and authenticated (R96, R295) -/
  hdr : List Byte
  /-- a step that its dies have completed, with its code and address, and that waits until Maltar runs: 1 capture, 2 load, 3 restore, 4 blanking (R301) -/
  due : Option (Nat × Nat × Nat)
deriving DecidableEq, Repr

def Region.init : Region := ⟨[], 0, false, [], none, 0, none, [], none, false, false, [], false, [], none⟩

/-- The regions (12). -/
structure Regions where
  rs : Tbl Region
  /-- region of each tile, plus 1; 0 none (R283) -/
  ofTile : Tbl Nat
  /-- regions whose steps Maltar has accepted and that have not ended, in the order of acceptance (R300) -/
  order : List Nat
deriving DecidableEq, Repr


/-! ### Protection engines (14) -/

/-- A counter tree node (R340): MAJOR and the MINORs that are not 0; in a leaf, MINOR 127 is the lock mark (R343). -/
structure CNode where
  major : Nat
  minors : Tbl Nat
deriving DecidableEq, Repr

def CNode.init : CNode := ⟨0, []⟩

/-- A protected window beyond its registers (R338–R352). -/
structure PWin where
  /-- the channel that an enable, disable or rebuild uses: 32e + c (R345) -/
  chan : Option Nat
  /-- fill constant -/
  fill : Nat
  /-- draws of the tag key and of the scramble key, plus 1; 0: none -/
  tagKey : Nat
  scrKey : Nat
  /-- nodes, key level * 2^24 + node; level LEVELS is the root -/
  nodes : Tbl CNode
  /-- unverifiable subtrees by the level and the node of their tops, oldest first; PWIN_FAULT names one of them (R349, R350) -/
  unver : List (Nat × Nat)
deriving DecidableEq, Repr

/-- An error that the counter cache finds in a node it holds: window, level, node; its location in the cache, whether it is uncorrectable, parity
and syndrome (R371, R374). -/
structure CacheErr where
  win : Nat
  level : Nat
  node : Nat
  loc : Nat
  ue : Bool
  par : Nat
  syn : Nat
deriving DecidableEq, Repr

/-- An error found in a line that a read hits: the line's position among those of the read, its place in the cache, whether it is uncorrectable,
parity and syndrome (R371, R374). -/
structure LineErr where
  pos : Nat
  loc : Nat
  ue : Bool
  par : Nat
  syn : Nat
deriving DecidableEq, Repr

/-- What reaches the device of a protected access from its memories (R340–R350, R371). -/
structure ProtIn where
  /-- lines of the request (0–3) whose tag fails -/
  tamper : List Nat
  /-- nodes that fail when they are fetched: window, level, node; true: the read is uncorrectable, false: the node's own tag fails -/
  nodes : List (Nat × Nat × Nat × Bool)
  /-- nodes that leave the counter cache: window, level, node -/
  evict : List (Nat × Nat × Nat)
  /-- children that fail a re-tag: window, level and node of the parent, child -/
  retag : List (Nat × Nat × Nat × Nat)
  cerr : List CacheErr
deriving DecidableEq, Repr

/-- Nothing goes wrong in the memories. -/
def ProtIn.clean : ProtIn := ⟨[], [], [], [], []⟩

def PWin.init : PWin := ⟨none, 0, 0, 0, [], []⟩

/-- The protection engines (14). -/
structure Prot where
  /-- protected windows, key 16s + i -/
  wins : Tbl PWin
  /-- draw of the scramble key of tenant window w of stack s, plus 1; key 16s + w (R336) -/
  scr : Tbl Nat
  /-- counter cache: nodes held, true when changed; key ((16s + i) * 16 + level) * 2^24 + node (R342) -/
  cache : Tbl (Option Bool)
deriving DecidableEq, Repr

/-! ### Line lanes (17) -/

/-- A time stamp (R409): seconds, nanoseconds, fraction in 2^−16 ns, and the timekeeper that stamped. -/
structure Stamp where
  sec : Nat
  ns : Nat
  frac : Nat
  tk : Nat
  id : Nat
deriving DecidableEq, Repr

/-- A lane's pattern checker (R405). -/
structure Checker where
  /-- the bits before the next one, newest first: as received, or as expected while locked -/
  hist : List Bool
  /-- correct bits in a row -/
  good : Nat
  /-- while locked: how many bits ago the latest errors came -/
  errs : List Nat
deriving DecidableEq, Repr

def Checker.init : Checker := ⟨[], 0, []⟩

/-- A lane beyond its registers (R391–R405). -/
structure LaneSt where
  /-- a profile has been applied since the lane's last reset (R391) -/
  profile : Bool
  /-- MODE and EXCH as of the last restart (R406) -/
  mode : Nat
  exch : Bool
  /-- LN_RATE and LN_RATE_F as written, to take effect at the next restart (R406) -/
  wrate : Option (Nat × Nat)
  /-- LN_HUNT0–7 as of the last restart -/
  hunt : List Nat
  /-- a receiver was detected: the lane transmits (R391) -/
  txOn : Bool
  /-- hunt entries of the receiver and of the transmitter (R392) -/
  rxEntry : Nat
  txEntry : Nat
  /-- the receiver has matched in this visit to DETECT; the match being held -/
  first : Bool
  held : Option Nat
  /-- three valid blocks in a row (R395) -/
  valid : Nat
  /-- last W1 received, sent as W2 -/
  w2 : Nat
  /-- received frames, SEQ of the descriptor (R397) -/
  rxSeq : Nat
  /-- transmit packet held by the MAC (R398) -/
  tx : List QWord
  txDone : Bool
  /-- received packet waiting to be pushed through the network: words left (R400) -/
  rx : List QWord
  rxSent : Nat
  rxFail : Bool
  /-- words that may still be popped, and the word popped before its flags came (R400) -/
  popLeft : Nat
  popWord : Option Nat
  /-- transmit stamps waiting, oldest first (R399) -/
  stamps : List Stamp
  /-- next word sent carries an injected error: bits inverted from bit 0 (R405) -/
  inject : Nat
  /-- Systemlink frames to send: type and bytes, in the order of R401 -/
  slOut : List (Nat × List Byte)
  hbSeq : Nat
  /-- the neighbor's last time fields: ROOT_PRIO, ROOT_ID, HOPS, FLAGS (R423) -/
  nbr : Nat × Nat × Nat × Nat
  /-- consecutive heartbeats in which this lane's candidate was best (R424) -/
  best : Nat
  /-- the bytes so far of the frame being received; a frame being sent (R53, R393) -/
  rxPart : Option (List Byte)
  txBusy : Bool
  /-- the last frame sent on the line, with its FCS -/
  sent : List Byte
  /-- fill of the elastic buffer above its centre, in symbols or blocks (R396) -/
  fill : Int
  /-- bits of the first 64-bit word of `sent` that error injection inverts on the line (R405) -/
  flips : Nat
  /-- the pattern generator's last bits, newest first, and the checker (R405) -/
  gen : List Bool
  chk : Checker
  /-- no valid heartbeat has come since the lane became ACTIVE (R402) -/
  hbFirst : Bool
deriving DecidableEq, Repr

def LaneSt.init : LaneSt :=
  ⟨false, 0, true, none, [], false, 0, 0, false, none, 0, 0, 0, [], false, [], 0, false, 0, none, [], 0, [], 0, (0, 0, 255, 0), 0, none, false, [], 0, 0, [], Checker.init, false⟩

/-! ### Time (18) -/

/-- A staged correction (R413–R417): a set to a value, an adjust by an offset in 2^−16 ns, a rate. -/
inductive Corr where
  | set (sec ns frac : Nat)
  | adj (o : Int)
  | rate (n : Nat)
deriving DecidableEq, Repr

/-- A timekeeper beyond its registers (R409–R419). -/
structure Keeper where
  /-- the value: seconds, and nanoseconds within the second in units of 2^−32 ns -/
  sec : Nat
  sub : Nat
  /-- the staged correction, and the command that waits for it -/
  pend : Option Corr
  cmd : Option (Nat × Nat)
  /-- the first alarm time and the next one, in ns, and whether a one-shot has fired (R418) -/
  first : Nat
  next : Nat
  fired : Bool
deriving DecidableEq, Repr

def Keeper.init : Keeper := ⟨0, 0, none, none, 0, 0, false⟩

/-- A quad's copies of TK0 and of its tenant's timekeeper while its die has no control bundle up (R411). -/
structure QCopy where
  sec0 : Nat
  sub0 : Nat
  incr0 : Nat
  secT : Nat
  subT : Nat
  incrT : Nat
deriving DecidableEq, Repr

/-- Time (18). -/
structure Tmr where
  tks : Tbl Keeper
  /-- ticks of the 500 MHz clock -/
  ticks : Nat
  /-- copies that have left the bank, key quad; an unlisted quad is aligned (R411) -/
  copies : Tbl (Option QCopy)
  /-- level of PPS_OUT, and ticks left of its pulse (R420) -/
  ppsOut : Bool
  ppsLeft : Nat
  /-- TK0 has taken a set or adjust since the device reset (R420) -/
  stepped : Bool
  /-- the timekeeper PLL is in holdover (R428) -/
  holdover : Bool
  /-- the parent lane (R424) -/
  parent : Option Nat
  /-- SEQ of the last TIME request (R425) -/
  reqSeq : Nat
  /-- the servo has made its first correction since TK0 was armed (R426) -/
  servoed : Bool
  /-- the offset measured since then, in 2^−16 ns (R426) -/
  offs : Option Int
  /-- heartbeats in a row for which the device's own candidate was best (R424) -/
  bestOwn : Nat
deriving DecidableEq, Repr

/-! ### Clocks (19) -/

/-- Clocks and resets (19). -/
structure Clk where
  /-- old source of a switching net, plus 1; key net (R441) -/
  gcFrom : Tbl Nat
  /-- a GC_CTL word held until the switch ends, plus 1 -/
  gcHeld : Tbl Nat
  /-- the carrier switch in progress: old and new input (R438) -/
  car : Option (Nat × Nat)
  /-- the latest request held while a carrier switch runs -/
  carHeld : Option Nat
  /-- LEAF_GATE values that the exit from REST restores, key tile (R443) -/
  leafSave : Tbl Nat
  /-- the core PLLs run from the internal oscillator (R434) -/
  coreInt : Bool
deriving DecidableEq, Repr

/-! ### Settings (22) -/

/-- A settings record (R496). -/
structure SRec where
  type : Nat
  inst : Nat
  val : List Byte
deriving DecidableEq, Repr

/-- Settings (22). -/
structure Sett where
  /-- the flash counted as missing at boot (R494) -/
  missing : Bool
  /-- the adopted area; none: factory defaults (R497) -/
  area : Option Nat
  seq : Nat
  /-- records of the adopted copy that are not ignored (R498) -/
  recs : List SRec
  /-- the records adopted at boot, for records that take effect at boot (R501) -/
  boot : List SRec
  /-- every record of the adopted copy -/
  raw : List SRec
  /-- staged puts, and deletes (no value) (R488) -/
  staged : List (Nat × Nat × Option (List Byte))
  /-- the merged copy being programmed (R500) -/
  commit : Option (List SRec)
deriving DecidableEq, Repr

/-! ### Stack controllers (13), ECC (16), debug (23), electrical (24) -/

/-- A request held by a stack controller (R306, R312): its pseudo-channel and stack-local address, and how far it is. -/
structure HReq where
  id : Nat
  req : Req
  pc : Nat
  loc : Nat
  /-- 0 queued, 1 issued to the stack, 2 performed and waiting for INVALIDATE responses (R329) -/
  phase : Nat
  /-- it has waited 1 µs or more (R312, R314) -/
  late : Bool
  /-- the controller froze on its read (R325); the protection engine marks it unverifiable (R326) -/
  failed : Bool
  unver : Bool
  /-- INVALIDATE responses still to come, and the response they hold back (R329) -/
  inval : Nat
  svc : Nat
  out : List Byte
  /-- a thaw found it held: it goes on in arrival order, before requests that came later (R326) -/
  first : Bool
  /-- its requester has given it up: its response is discarded as late (R184) -/
  gone : Bool
deriving DecidableEq, Repr

/-- A line of a remote cache: its data and the stamp of its last use (R327). -/
structure RLine where
  data : List Byte
  used : Nat
deriving DecidableEq, Repr

/-- A fill in flight of a remote cache (R328, R329). -/
structure RFill where
  id : Nat
  die : Nat
  line : Nat
  stale : Bool
deriving DecidableEq, Repr

/-- A read that waits at a remote cache (R328): the fills it needs, the lines it has, and the first code other than OK. -/
structure RWait where
  req : Req
  need : List Nat
  got : List (Nat × List Byte)
  svc : Nat
deriving DecidableEq, Repr

/-- A write or atomic that a remote cache has forwarded to the home memory port (R328). -/
structure RFwd where
  id : Nat
  req : Req
deriving DecidableEq, Repr

/-- A rate or band change in progress (R320, R323): the new rate, and the new band. -/
structure HChange where
  rate : Option Nat
  band : Option Nat
deriving DecidableEq, Repr

/-- The stack controllers and remote caches (13). -/
structure Hbm where
  /-- contents of the stacks: key stack * 0x6_0000_0000 + L (R308) -/
  mem : Tbl Byte
  /-- requests held, oldest first; key stack -/
  reqs : Tbl (List HReq)
  nextId : Nat
  /-- open row of a bank, plus 1; key (stack * 32 + pc) * 32 + bank (R312) -/
  rows : Tbl Nat
  /-- writes take precedence; key stack * 32 + pc (R312) -/
  wmode : Tbl Bool
  /-- postponed refresh intervals, key as rows (R318), and the bank next in rotation (R315) -/
  post : Tbl Nat
  rot : Tbl Nat
  /-- 32-byte accesses whose stored content is bad, key stack * 2^30 + L / 32 (R326) -/
  bad : Tbl Bool
  /-- the mix under which a 32-byte access is stored: 0 its tenant window's, 1 none inside a scrambled tenant window, k + 2 the key of draw k of a
  protected window; key as bad (R336) -/
  mixed : Tbl Nat
  change : Tbl (Option HChange)
  /-- a band change is due and waits (R324) -/
  bandDue : Tbl Bool
  /-- a function reset that reruns initialization is in progress (R326) -/
  reinit : Tbl Bool
  /-- remote cache lines, key die * 2^42 + line address / 64 -/
  lines : Tbl (Option RLine)
  fills : List RFill
  waits : List RWait
  fwds : List RFwd
  stamp : Nat
  /-- rows refreshed by the latest neighbor refresh of a bank, key as rows; 0x7FFF: one RFM command (R316) -/
  nbr : Tbl (List Nat)
deriving DecidableEq, Repr

/-- The in-service test and the error injection that waits (16). -/
structure Ecc where
  /-- severity that replaces the next report of the stack; 0 none (R376) -/
  sev : Tbl Nat
  /-- periods in µs: tile scrub, link test, seam spare test, HBM patrol, store margin check; 0 off (R377) -/
  period : List Nat
  /-- TK0 seconds at the end of the last pass, and late passes -/
  last : List Nat
  late : List Nat
  /-- patrol position per stack: the next access (R381) -/
  patrol : Tbl Nat
deriving DecidableEq, Repr

/-- A debug path beyond its registers (R504, R505). -/
structure DPath where
  /-- the draw of the nonce that is valid, plus 1; 0 none -/
  nonce : Nat
  level : Nat
  scope : Bool
  tenant : Nat
  /-- signature under verification -/
  sig : Option (List Byte)
  /-- challenges receive BUSY -/
  locked : Bool
  /-- TAP: STATE of DBG_AUTH (R512) -/
  tap : Nat
  /-- the mailbox of a DBG_RESPONSE that waits -/
  mbox : Option Nat
deriving DecidableEq, Repr

def DPath.init : DPath := ⟨0, 0, false, 0, none, false, 0, none⟩

/-- Feed and break status of an engine under debug (R511). -/
structure Feed where
  busy : Bool
  fault : Bool
  cause : Nat
  brk : Bool
  unit : Nat
deriving DecidableEq, Repr

def Feed.init : Feed := ⟨false, false, 0, false, 0⟩

/-- The debug master (23). -/
structure Dbg where
  paths : Tbl DPath
  /-- the path that armed a comparator, plus 1; the path that armed a patch unit, plus 1 (R506) -/
  ebrk : Tbl Nat
  pu : Tbl Nat
  feeds : Tbl Feed
  /-- TAP instruction register (R508) -/
  ir : Nat
  /-- boundary register, and what drives the pins: 0 the mode, 1 EXTEST, 2 HIGHZ, 3 CLAMP, 4 EXTEST_PULSE, 5 EXTEST_TRAIN (R509) -/
  boundary : Nat
  drive : Nat
  /-- result of DBG_ACCESS: BUSY, PEEKED, service code, address, data (R513) -/
  accBusy : Bool
  accPeek : Bool
  accSvc : Nat
  accAddr : Nat
  accData : Nat
  /-- a Referee halt is requested, and its cause (R514) -/
  haltReq : Nat
  /-- Referee words fed, oldest first -/
  refFed : List Nat
  /-- what the last Capture-DR loaded for the selected instruction (R508, R512, R513) -/
  dr : Nat
deriving DecidableEq, Repr

/-- A user I/O pin as its partner sees it (R51, R521): unpowered, high impedance, the weak pulls of the quiet state, driven, or driven from the
boundary register (R509). -/
inductive PinState where
  | unpowered | hiz | pullUp | pullDown
  | drive (high : Bool)
  | scan
deriving DecidableEq, Repr

/-- The settings-memory pins (R51). -/
inductive FlashPins where
  | unpowered | reading | writing | idle
deriving DecidableEq, Repr

/-- Power, temperature and pins (24). -/
structure Elec where
  /-- sources whose readings are above WARN_C: dies in bits 0–3, stacks in bits 4–7 (R526) -/
  warn : Nat
  /-- banks kept at high impedance for their VCCIO, bit b (R521) -/
  bankBad : Nat
  /-- user I/O pins as REST or HOLD found them (R51) -/
  kept : Tbl PinState
  /-- stacks whose VHBM_DD or VHBM_DDQ rose before the rail it must follow, at the last power-on (R519) -/
  railOrder : Nat
deriving DecidableEq, Repr

end Sys2Proof.Machine
end

