-- ==== Sys2Proof/Syntax.lean ====
section
/-! DEFINITION. The commands of the JX-M1260: one constructor per row of spec/opcode_table.json. Operands name the resource a
command acts on and carry what reaches the device from outside it (bytes, levels, measured values, verdicts). -/

namespace Sys2Proof
open Sys2Proof.Machine

/-- The commands. Each constructor cites the rule that gives its row. -/
inductive Instr where
  /-- SUPPLIES_VALID (R520) -/
  | suppliesValid (live : BitVec 4) (resetN : Bool) (mv : List Word16) (early : BitVec 4)
  /-- SUPPLIES_INVALID (R520) -/
  | suppliesInvalid
  /-- RESET_N_LOW (R48) -/
  | resetNLow
  /-- RESET_N_HIGH (R37) -/
  | resetNHigh
  /-- DIE_SENSOR_READING (R525) -/
  | dieSensorReading (src : Fin 8) (t : Fin 256)
  /-- VCCIO_FAULT (R521) -/
  | vccioFault (b : Fin 10) (mv : Word16) (low : Bool) (high : Bool) (mismatch : Bool)
  /-- PERST_N_LOW (R446) -/
  | perstNLow (p : Die)
  /-- PERST_N_RISE (R49) -/
  | perstNRise (p : Die)
  /-- CONFIG_REQUEST (R49) -/
  | configRequest (p : Die) (r : CfgReg) (w : Option Word32)
  /-- REFEREE_WATCHDOG_EXPIRY (R447) -/
  | refereeWatchdogExpiry
  /-- REFEREE_RESTART_DONE (R447) -/
  | refereeRestartDone
  /-- MALTAR_START_DONE (R42) -/
  | maltarStartDone (ok : Bool)
  /-- ROLL_CALL (R70) -/
  | rollCall (d : Die) (p : Fin 2) (copies : List (BitVec 336))
  /-- ROLL_ANSWER (R70) -/
  | rollAnswer (d : Die) (p : Fin 2) (copies : List (BitVec 336))
  /-- ROLL_RELAY (R70) -/
  | rollRelay (src : Fin 2) (copies : List (BitVec 336))
  /-- ROLL_CONFIRM (R70) -/
  | rollConfirm (c1 : List (BitVec 336)) (c2 : List (BitVec 336)) (c3 : List (BitVec 336))
  /-- ROLL_CALL_MISSED (R70) -/
  | rollCallMissed
  /-- SEAM_BOOT_TEST_DONE (R71) -/
  | seamBootTestDone (maps : List (Nat × Nat)) (bad : List (Nat × Nat)) (allow : Bool)
  /-- SETTINGS_READ (R497) -/
  | settingsRead (missing : Bool) (c0 : List Byte) (c1 : List Byte) (holdGood : Bool)
  /-- HEADER_AUTHENTICATED (R97) -/
  | headerAuthenticated (maps : List (Nat × Nat)) (bad : List (Nat × Nat)) (errs : List Bool)
  /-- FRAMES_RECORD (R93) -/
  | framesRecord (r : Option RegionId) (d : Die) (errs : List Bool) (bad : Option (Fin 256)) (rb : Option (Fin 256)) (gap : Option Word32)
  /-- UNINIT_RECORD (R93) -/
  | uninitRecord (r : Option RegionId) (d : Die) (errs : List Bool) (gap : Option Word32)
  /-- TAG_RECORD (R94) -/
  | tagRecord (r : Option RegionId) (d : Die) (errs : List Bool)
  /-- DIE_LOAD_DONE (R97) -/
  | dieLoadDone (d : Die) (gap : Option Word32)
  /-- LOAD_COMPLETE (R97) -/
  | loadComplete (cfg : ImageCfg)
  /-- HBM_INIT_DONE (R322) -/
  | hbmInitDone (st : Die) (fail : Option (Fin 5)) (t : Option (Fin 256)) (rfm : Bool)
  /-- HUDDLE_LINE_RISE (R102) -/
  | huddleLineRise
  /-- HUDDLE_EXIT (R102) -/
  | huddleExit
  /-- HUDDLE_TIMEOUT (R46) -/
  | huddleTimeout
  /-- MAILBOX_RING (R457) -/
  | mailboxRing (p : Port) (m : Mbox) (writes : List (Fin 512 × List Byte))
  /-- POLL (R475) -/
  | poll (p : Port) (m : Mbox)
  /-- IDENTIFY (R475) -/
  | identify (p : Port) (m : Mbox)
  /-- GET_EVENTS (R462) -/
  | getEvents (p : Port) (m : Mbox)
  /-- GET_STATUS (R476) -/
  | getStatus (p : Port) (m : Mbox)
  /-- MODE_SET (R37) -/
  | modeSet (p : Port) (m : Mbox)
  /-- REBOOT (R481) -/
  | reboot (p : Port) (m : Mbox)
  /-- REBOOT_RESET (R481) -/
  | rebootReset
  /-- FUNC_DISABLE (R53) -/
  | funcDisable (p : Port) (m : Mbox)
  /-- FUNC_ENABLE (R474) -/
  | funcEnable (p : Port) (m : Mbox)
  /-- FUNC_RESET (R54) -/
  | funcReset (p : Port) (m : Mbox)
  /-- FUNCTION_DISABLE_DONE (R53) -/
  | functionDisableDone (kind : Fin 10) (idx : Fin 4096)
  /-- SEAM_RESET (R82) -/
  | seamReset (p : Port) (m : Mbox)
  /-- SEAM_RESET_GO (R84) -/
  | seamResetGo (r : Req)
  /-- BUNDLE_TRAINING_DONE (R76) -/
  | bundleTrainingDone (d : Die) (p : Fin 2) (n : Fin 129) (own : BitVec 16) (late : Bool)
  /-- IDLE (R65) -/
  | idle (d : Die) (p : Fin 2) (n : Fin 129) (lanes : List (BitVec 24))
  /-- FLIT (R65) -/
  | flit (d : Die) (p : Fin 2) (n : Fin 129) (lanes : List (BitVec 24))
  /-- TRAIN (R76) -/
  | train (d : Die) (p : Fin 2) (n : Fin 129) (copies : List (BitVec 336))
  /-- EVENT (R67) -/
  | event (d : Die) (p : Fin 2) (lanes : List (BitVec 24))
  /-- MGMT (R63) -/
  | mgmt (d : Die) (p : Fin 2) (lanes : List (BitVec 24))
  /-- CONFIG (R63) -/
  | config (d : Die) (p : Fin 2) (lanes : List (BitVec 24))
  /-- REPLAY_WINDOW_END (R78) -/
  | replayWindowEnd (d : Die) (p : Fin 2) (n : Fin 129)
  /-- LINK_DISABLE (R188) -/
  | linkDisable (t : Tile) (dir : Fin 4) (express : Bool)
  /-- FLIT_ARRIVAL (R172) -/
  | flitArrival (t : Tile) (p : Fin 15) (f : BitVec 288)
  /-- FLIT_GRANT (R164) -/
  | flitGrant (t : Tile) (out : Fin 15)
  /-- CREDIT_RETURN (R163) -/
  | creditReturn (t : Tile) (p : Fin 8) (v : Fin 8)
  /-- RTR_APPLY (R186) -/
  | rtrApply (r : Req)
  /-- APPLY_COMPLETE (R186) -/
  | applyComplete (t : Tile) (p : Fin 15)
  /-- APPLY_CUT (R186) -/
  | applyCut (t : Tile) (p : Fin 15)
  /-- LINK_TEST (R377) -/
  | linkTest (late : Bool) (errs : List (Tile × Fin 8 × Bool))
  /-- RQO_REQUEST (R166) -/
  | rqoRequest (t : Tile) (rid : Byte) (op : Fin 5) (a : NetAddr) (size : Fin 256) (rt : Bool) (data : List Byte) (join : Bool)
  /-- RESPONSE_ARRIVAL (R184) -/
  | responseArrival (r : Resp) (late : Bool)
  /-- NI_TIMEOUT (R184) -/
  | niTimeout (src : Fin 1088) (sport : Fin 8) (tag : Fin 128) (gen : Fin 16) (late : Bool)
  /-- REGISTER_WRITE (R31) -/
  | registerWrite (r : Req)
  /-- ROUTE_CTL_WRITE (R188) -/
  | routeCtlWrite (r : Req)
  /-- FABRIC_WINDOW_REQUEST (R535) -/
  | fabricWindowRequest (r : Req)
  /-- TSO_RESPONSE (R167) -/
  | tsoResponse (t : Tile) (tid : Fin 32) (svc : Fin 11) (data : List Byte) (join : Bool)
  /-- BLOCK_WINDOW_REQUEST (R157) -/
  | blockWindowRequest (r : Req) (near : Option (Bool × PortIn))
  /-- ENGINE_MEMORY_REQUEST (R266) -/
  | engineMemoryRequest (r : Req)
  /-- BLOCK_PORT_ACCESS (R144) -/
  | blockPortAccess (t : Tile) (b : Fin 24) (net : Fin 8) (near : Option (Fin 8)) (join : Bool) (pa : PortIn) (pb : PortIn)
  /-- XPULSE_PULSE (R137) -/
  | xpulsePulse (k : Nat) (join : Bool)
  /-- XWORD_SEND (R137) -/
  | xwordSend (k : Nat) (w : Word64) (join : Bool)
  /-- OVR_CLR (R137) -/
  | ovrClr (k : Nat) (join : Bool)
  /-- FABRIC_PUSH (R196) -/
  | fabricPush (t : Tile) (n : QNum) (data : Word64) (last : Bool) (poison : Bool) (join : Bool)
  /-- PABORT (R198) -/
  | pabort (t : Tile) (n : QNum) (join : Bool)
  /-- Q_PUSH_LO (R200) -/
  | qPushLo (r : Req)
  /-- Q_PUSH_HI (R200) -/
  | qPushHi (r : Req)
  /-- Q_PUSH_LAST_LO (R200) -/
  | qPushLastLo (r : Req)
  /-- Q_PUSH_LAST_HI (R200) -/
  | qPushLastHi (r : Req)
  /-- Q_PUSH_ABORT (R198) -/
  | qPushAbort (r : Req)
  /-- Q_POP_LO (R205) -/
  | qPopLo (r : Req)
  /-- FABRIC_POP (R201) -/
  | fabricPop (t : Tile) (n : QNum) (join : Bool)
  /-- COMMIT_VISIBLE (R197) -/
  | commitVisible (t : Tile) (n : QNum)
  /-- WORDS_FREED (R197) -/
  | wordsFreed (t : Tile) (n : QNum)
  /-- Q_FLUSH (R206) -/
  | qFlush (r : Req)
  /-- Q_CTL_ENABLE (R53) -/
  | qCtlEnable (r : Req)
  /-- EV_RAISE (R209) -/
  | evRaise (r : Req)
  /-- FABRIC_RAISE (R210) -/
  | fabricRaise (t : Tile) (n : Fin 8) (join : Bool)
  /-- EVENT_DELIVERY (R208) -/
  | eventDelivery (n : Nat)
  /-- EVCLR (R211) -/
  | evclr (t : Tile) (k : Fin 4) (join : Bool)
  /-- MPY (R239) -/
  | mpy (t : Tile)
  /-- MAC (R239) -/
  | mac (t : Tile)
  /-- MSU (R239) -/
  | msu (t : Tile)
  /-- MPYR (R239) -/
  | mpyr (t : Tile)
  /-- MACR (R239) -/
  | macr (t : Tile)
  /-- MSUR (R239) -/
  | msur (t : Tile)
  /-- ADD (R240) -/
  | add (t : Tile)
  /-- SUB (R240) -/
  | sub (t : Tile)
  /-- ADDD (R240) -/
  | addd (t : Tile)
  /-- SUBD (R240) -/
  | subd (t : Tile)
  /-- NEG (R240) -/
  | neg (t : Tile)
  /-- ABS (R240) -/
  | abs (t : Tile)
  /-- CLR (R240) -/
  | clr (t : Tile)
  /-- RND (R224) -/
  | rnd (t : Tile)
  /-- SHL (R240) -/
  | shl (t : Tile)
  /-- SHR (R240) -/
  | shr (t : Tile)
  /-- MOVA (R240) -/
  | mova (t : Tile)
  /-- EXP (R230) -/
  | exp (t : Tile)
  /-- NORM (R231) -/
  | norm (t : Tile)
  /-- D_ADD (R241) -/
  | dAdd (t : Tile)
  /-- D_SUB (R241) -/
  | dSub (t : Tile)
  /-- AND (R241) -/
  | and (t : Tile)
  /-- OR (R241) -/
  | or (t : Tile)
  /-- XOR (R241) -/
  | xor (t : Tile)
  /-- D_SHL (R241) -/
  | dShl (t : Tile)
  /-- D_SHR (R241) -/
  | dShr (t : Tile)
  /-- SRA (R241) -/
  | sra (t : Tile)
  /-- CMP (R241) -/
  | cmp (t : Tile)
  /-- LD (R242) -/
  | ld (t : Tile)
  /-- ST (R242) -/
  | st (t : Tile)
  /-- LDU (R242) -/
  | ldu (t : Tile)
  /-- STU (R225) -/
  | stu (t : Tile)
  /-- LDB (R242) -/
  | ldb (t : Tile)
  /-- STB (R242) -/
  | stb (t : Tile)
  /-- LDE (R242) -/
  | lde (t : Tile)
  /-- STE (R242) -/
  | ste (t : Tile)
  /-- LDK (R259) -/
  | ldk (t : Tile)
  /-- STK (R259) -/
  | stk (t : Tile)
  /-- MOV (R243) -/
  | mov (t : Tile)
  /-- LDI (R243) -/
  | ldi (t : Tile)
  /-- BEXR (R232) -/
  | bexr (t : Tile)
  /-- B (R246) -/
  | b (t : Tile)
  /-- CALL (R246) -/
  | call (t : Tile)
  /-- BR (R246) -/
  | br (t : Tile)
  /-- RETI (R254) -/
  | reti (t : Tile)
  /-- REPI (R248) -/
  | repi (t : Tile)
  /-- REP (R248) -/
  | rep (t : Tile)
  /-- WAIT (R255) -/
  | wait (t : Tile)
  /-- WAIT_WAKE (R255) -/
  | waitWake (t : Tile) (k : Nat)
  /-- SIG (R255) -/
  | sig (t : Tile)
  /-- WDT (R260) -/
  | wdt (t : Tile)
  /-- STOP (R262) -/
  | stop (t : Tile)
  /-- NOP (R244) -/
  | nop (t : Tile)
  /-- PUSH (R256) -/
  | push (t : Tile)
  /-- PUSHL (R256) -/
  | pushl (t : Tile)
  /-- POP (R256) -/
  | pop (t : Tile)
  /-- QABORT (R256) -/
  | qabort (t : Tile)
  /-- NGET (R257) -/
  | nget (t : Tile)
  /-- NPUT (R257) -/
  | nput (t : Tile)
  /-- NFADD (R258) -/
  | nfadd (t : Tile)
  /-- NSWAP (R258) -/
  | nswap (t : Tile)
  /-- NCAS (R258) -/
  | ncas (t : Tile)
  /-- INTERRUPT_ENTRY (R253) -/
  | interruptEntry (t : Tile) (k : Nat)
  /-- ENGIRQ_RISE (R251) -/
  | engirqRise (t : Tile) (join : Bool)
  /-- WATCHDOG_WARN (R260) -/
  | watchdogWarn (t : Tile)
  /-- WATCHDOG_EXPIRY (R260) -/
  | watchdogExpiry (t : Tile)
  /-- WATCHDOG_RELOAD (R260) -/
  | watchdogReload (r : Req)
  /-- ENG_START (R262) -/
  | engStart (r : Req)
  /-- ENG_STOP (R262) -/
  | engStop (r : Req)
  /-- ENG_DOORBELL_RING (R251) -/
  | engDoorbellRing (r : Req)
  /-- FABRIC_Y_ACCESS (R264) -/
  | fabricYAccess (t : Tile) (we : Bool) (a : Fin 16384) (din : Word16) (join : Bool)
  /-- HALT_EFFECT (R263) -/
  | haltEffect (t : Tile)
  /-- HALT_FORCED (R263) -/
  | haltForced (t : Tile)
  /-- BREAK_MATCH (R511) -/
  | breakMatch (t : Tile)
  /-- CHANNEL_START (R280) -/
  | channelStart (r : Req)
  /-- CH_CTL_ENABLE (R281) -/
  | chCtlEnable (r : Req)
  /-- DMA_BURST_ISSUE (R276) -/
  | dmaBurstIssue (e : DmaEng)
  /-- DMA_RESPONSE (R278) -/
  | dmaResponse (r : Resp)
  /-- DMA_REISSUE (R278) -/
  | dmaReissue (k : Fin 512) (expired : Bool)
  /-- DMA_RUN (R280) -/
  | dmaRun (p : Port) (m : Mbox)
  /-- DMA_STATUS (R482) -/
  | dmaStatus (p : Port) (m : Mbox)
  /-- DMA_STOP (R281) -/
  | dmaStop (p : Port) (m : Mbox)
  /-- REGION_STATUS (R303) -/
  | regionStatus (p : Port) (m : Mbox)
  /-- REGION_SWAP (R299) -/
  | regionSwap (p : Port) (m : Mbox)
  /-- REGION_FENCE (R289) -/
  | regionFence (p : Port) (m : Mbox)
  /-- REGION_CAPTURE (R291) -/
  | regionCapture (p : Port) (m : Mbox)
  /-- REGION_LOAD (R295) -/
  | regionLoad (p : Port) (m : Mbox)
  /-- REGION_RESTORE (R297) -/
  | regionRestore (p : Port) (m : Mbox)
  /-- REGION_RELEASE (R298) -/
  | regionRelease (p : Port) (m : Mbox)
  /-- REGION_BLANK (R296) -/
  | regionBlank (p : Port) (m : Mbox)
  /-- REGION_LIB_WRITE (R302) -/
  | regionLibWrite (p : Port) (m : Mbox)
  /-- LIB_STATUS (R478) -/
  | libStatus (p : Port) (m : Mbox)
  /-- REGION_HEADER_CHECKED (R295) -/
  | regionHeaderChecked (r : RegionId) (errs : List Bool)
  /-- DRAIN_END (R289) -/
  | drainEnd (r : RegionId)
  /-- FENCE_COMPLETE (R289) -/
  | fenceComplete (r : RegionId)
  /-- CAPTURE_DONE (R294) -/
  | captureDone (r : RegionId)
  /-- REGION_LOAD_DONE (R295) -/
  | regionLoadDone (r : RegionId) (cfg : ImageCfg) (gap : Option Word32)
  /-- RESTORE_DONE (R297) -/
  | restoreDone (r : RegionId)
  /-- BLANKING_DONE (R296) -/
  | blankingDone (r : RegionId) (rb : Option Word32)
  /-- SLOT_WRITE (R106) -/
  | slotWrite (p : Port) (m : Mbox)
  /-- SLOT_DATA (R479) -/
  | slotData (p : Port) (m : Mbox)
  /-- SLOT_WRITE_DONE (R107) -/
  | slotWriteDone (errs : List (Die × Bool))
  /-- SLOT_ACTIVATE (R108) -/
  | slotActivate (p : Port) (m : Mbox) (n : Fin 10)
  /-- GOLDEN_WRITE (R111) -/
  | goldenWrite (p : Port) (m : Mbox)
  /-- GOLDEN_WRITE_DONE (R111) -/
  | goldenWriteDone (errs : List (Die × Bool))
  /-- LIBRARY_VERIFY_DONE (R302) -/
  | libraryVerifyDone (e : Fin 256) (errs : List (Die × Bool))
  /-- MEMORY_PORT_REQUEST (R306) -/
  | memoryPortRequest (r : Req)
  /-- HBM_SCHEDULE (R312) -/
  | hbmSchedule (st : Die) (pc : Fin 32) (late : List Nat)
  /-- HBM_ACCESS_DONE (R313) -/
  | hbmAccessDone (st : Die) (id : Nat) (sev : Fin 4) (acc : Nat) (parity : Bool) (late : Bool) (p : ProtIn)
  /-- ROW_CLOSE (R312) -/
  | rowClose (st : Die) (pc : Fin 32) (bank : Fin 32)
  /-- PER_BANK_REFRESH (R315) -/
  | perBankRefresh (st : Die) (pc : Fin 32)
  /-- RTLEVEL_CHANGE (R317) -/
  | rtlevelChange (st : Die) (j : Fin 4) (level : Fin 16)
  /-- HBM_TEMP_POLL (R320) -/
  | hbmTempPoll (st : Die) (t : Option (Fin 256))
  /-- RATE_GO (R323) -/
  | rateGo (r : Req)
  /-- RATE_CHANGE_DONE (R323) -/
  | rateChangeDone (st : Die)
  /-- THAW (R326) -/
  | thaw (r : Req)
  /-- HBM_CTL_ENABLE (R53) -/
  | hbmCtlEnable (r : Req)
  /-- HBM_STATUS (R331) -/
  | hbmStatus (p : Port) (m : Mbox)
  /-- HBM_RATE (R323) -/
  | hbmRate (p : Port) (m : Mbox)
  /-- HBM_THAW (R326) -/
  | hbmThaw (p : Port) (m : Mbox)
  /-- SHARED_WINDOW (R327) -/
  | sharedWindow (p : Port) (m : Mbox)
  /-- REMOTE_CACHE_REQUEST (R328) -/
  | remoteCacheRequest (r : Req) (errs : List LineErr)
  /-- CACHE_FILL_RESPONSE (R329) -/
  | cacheFillResponse (r : Resp)
  /-- INVALIDATE (R329) -/
  | invalidate (r : Req)
  /-- INVALIDATE_RESPONSE (R329) -/
  | invalidateResponse (r : Resp) (late : Bool)
  /-- ROOT_SCRUB (R340) -/
  | rootScrub (st : Die) (errs : List (Fin 16 × Bool × Bool × Fin 128))
  /-- PROT_ENABLE (R345) -/
  | protEnable (p : Port) (m : Mbox)
  /-- PROT_ENABLE_DONE (R345) -/
  | protEnableDone (k : Fin 512)
  /-- PROT_DISABLE (R347) -/
  | protDisable (p : Port) (m : Mbox)
  /-- PROT_DISABLE_DONE (R347) -/
  | protDisableDone (k : Fin 512)
  /-- PROT_RIGHTS (R335) -/
  | protRights (p : Port) (m : Mbox)
  /-- PROT_REBUILD (R351) -/
  | protRebuild (p : Port) (m : Mbox)
  /-- PROT_REBUILD_DONE (R351) -/
  | protRebuildDone (k : Fin 512)
  /-- PROT_STATUS (R353) -/
  | protStatus (p : Port) (m : Mbox)
  /-- ECC_TEST (R375) -/
  | eccTest (p : Port) (m : Mbox)
  /-- ECC_LOG (R483) -/
  | eccLog (p : Port) (m : Mbox)
  /-- IST_SCHEDULE (R377) -/
  | istSchedule (p : Port) (m : Mbox)
  /-- BAR2_MAP (R463) -/
  | bar2Map (p : Port) (m : Mbox)
  /-- ECC_CLEAR (R373) -/
  | eccClear (r : Req)
  /-- QFLIP (R375) -/
  | qflip (r : Req)
  /-- CHK_ARM (R375) -/
  | chkArm (r : Req)
  /-- SEV_INJ (R376) -/
  | sevInj (r : Req)
  /-- TILE_SCRUB (R379) -/
  | tileScrub (late : Bool)
  /-- SEAM_SPARE_TEST (R81) -/
  | seamSpareTest (late : Bool) (fails : List (Die × Fin 2 × Fin 16 × Fin 64 × Fin 68))
  /-- HBM_PATROL (R381) -/
  | hbmPatrol (late : Bool) (reps : List (Die × Fin 0x30000000 × Fin 4))
  /-- STORE_MARGIN_CHECK (R382) -/
  | storeMarginCheck (late : Bool) (blks : List (Die × Fin 786432 × Option (Fin 9)))
  /-- LANE_APPLY (R407) -/
  | laneApply (p : Port) (m : Mbox)
  /-- LANE_STATUS (R484) -/
  | laneStatus (p : Port) (m : Mbox)
  /-- LANE_RESTART (R393) -/
  | laneRestart (p : Port) (m : Mbox)
  /-- LANE_DISABLE (R406) -/
  | laneDisable (p : Port) (m : Mbox)
  /-- LANE_TEST (R405) -/
  | laneTest (p : Port) (m : Mbox)
  /-- LN_RESTART (R393) -/
  | lnRestart (r : Req)
  /-- LN_CTL_ENABLE (R406) -/
  | lnCtlEnable (r : Req)
  /-- QUAD_CTL_ENABLE (R53) -/
  | quadCtlEnable (r : Req)
  /-- PATTERN_TEST_ENABLE (R405) -/
  | patternTestEnable (r : Req)
  /-- INJECT (R405) -/
  | inject (r : Req)
  /-- BURST (R405) -/
  | burst (r : Req)
  /-- LN_TXSTAMP_NS (R399) -/
  | lnTxstampNs (r : Req)
  /-- RECEIVER_DETECT (R391) -/
  | receiverDetect (l : Lane) (found : Bool)
  /-- LOS_ASSERT (R403) -/
  | losAssert (l : Lane)
  /-- LOS_DEASSERT (R403) -/
  | losDeassert (l : Lane)
  /-- LOL_ASSERT (R403) -/
  | lolAssert (l : Lane)
  /-- LOL_DEASSERT (R403) -/
  | lolDeassert (l : Lane)
  /-- HUNT_DWELL_END (R392) -/
  | huntDwellEnd (l : Lane) (matched : Bool)
  /-- HUNT_TX_STEP (R392) -/
  | huntTxStep (l : Lane)
  /-- AN_COMPLETE (R390) -/
  | anComplete (l : Lane) (mode : Fin 16) (fec : Fin 3)
  /-- LINK_TRAINING_DONE (R391) -/
  | linkTrainingDone (l : Lane) (steps : List (Fin 3 × Bool))
  /-- LOCK_ACQUIRED (R391) -/
  | lockAcquired (l : Lane)
  /-- LOCK_TIMEOUT (R391) -/
  | lockTimeout (l : Lane)
  /-- CAPABILITY_BLOCK (R395) -/
  | capabilityBlock (l : Lane) (w0 : Word64) (w1 : Word64) (w2 : Word64) (w3 : Word64)
  /-- EXCHANGE_TIMEOUT (R391) -/
  | exchangeTimeout (l : Lane)
  /-- HI_BER (R393) -/
  | hiBer (l : Lane)
  /-- RX_FRAME (R397) -/
  | rxFrame (l : Lane) (bytes : List Byte) (err : Bool) (fecCorr : Nat) (fecBad : Nat) (busy : Bool) (gap : Nat) (drift : Int)
  /-- TX_PACKET (R398) -/
  | txPacket (l : Lane) (busy : Bool)
  /-- MAC_RESPONSE (R400) -/
  | macResponse (r : Resp)
  /-- HEARTBEAT_SEND (R401) -/
  | heartbeatSend (l : Lane)
  /-- HEARTBEAT (R402) -/
  | heartbeat (l : Lane) (id : BitVec 64) (domain : BitVec 16) (prio : Byte) (root : BitVec 64) (hops : Byte) (flags : Byte)
  /-- HEARTBEAT_MISS (R402) -/
  | heartbeatMiss (l : Lane)
  /-- TIME_REQUEST_SEND (R425) -/
  | timeRequestSend
  /-- TIME_FRAME (R426) -/
  | timeFrame (l : Lane) (f : List Byte)
  /-- SERVO_UPDATE (R426) -/
  | servoUpdate
  /-- RELAY_COMMAND (R467) -/
  | relayCommand (l : Lane) (b : List Byte)
  /-- RELAY_REPLY (R467) -/
  | relayReply (l : Lane) (b : List Byte)
  /-- RELAY_ROUTE (R467) -/
  | relayRoute (l : Lane) (b : List Byte)
  /-- ROUTE_EXCHANGE (R467) -/
  | routeExchange
  /-- RELAY_TIMEOUT (R467) -/
  | relayTimeout (rtag : Word16)
  /-- RELAY_VIEW (R490) -/
  | relayView (p : Port) (m : Mbox)
  /-- RELAY_ROUTES (R490) -/
  | relayRoutes (p : Port) (m : Mbox)
  /-- BAR2_MEMRD (R464) -/
  | bar2Memrd (p : Die) (off : BitVec 36) (n : Fin 4096)
  /-- BAR2_MEMWR (R464) -/
  | bar2Memwr (p : Die) (off : BitVec 36) (data : List Byte)
  /-- BAR2_RESPONSE (R465) -/
  | bar2Response (r : Resp)
  /-- BAR2_REISSUE (R465) -/
  | bar2Reissue (p : Die) (expired : Bool)
  /-- MP_WRITE (R453) -/
  | mpWrite (addr : BitVec 7) (off : Word16) (data : List Byte)
  /-- MP_READ (R453) -/
  | mpRead (addr : BitVec 7) (off : Word16) (n : Nat)
  /-- MP_SCL_TIMEOUT (R452) -/
  | mpSclTimeout
  /-- GO_SET (R417) -/
  | goSet (r : Req)
  /-- GO_ADJ (R417) -/
  | goAdj (r : Req)
  /-- GO_INCR (R417) -/
  | goIncr (r : Req)
  /-- ARM (R413) -/
  | arm (r : Req)
  /-- SNAP (R419) -/
  | snap (r : Req)
  /-- TK_CTL_ENABLE (R431) -/
  | tkCtlEnable (r : Req)
  /-- CORRECTION_APPLY (R417) -/
  | correctionApply (n : Tk)
  /-- ALARM_FIRE (R418) -/
  | alarmFire (n : Tk)
  /-- PPS_OUT_RISE (R420) -/
  | ppsOutRise
  /-- PPS_OUT_FALL (R420) -/
  | ppsOutFall
  /-- PPS_IN_EDGE (R419) -/
  | ppsInEdge
  /-- QUAD_COPY_REALIGN (R411) -/
  | quadCopyRealign
  /-- TIME_GET (R485) -/
  | timeGet (p : Port) (m : Mbox)
  /-- TIME_SET (R413) -/
  | timeSet (p : Port) (m : Mbox)
  /-- TIME_ADJUST (R413) -/
  | timeAdjust (p : Port) (m : Mbox)
  /-- TIME_RATE (R413) -/
  | timeRate (p : Port) (m : Mbox)
  /-- TIME_ARM (R413) -/
  | timeArm (p : Port) (m : Mbox)
  /-- TIME_CLEAR (R416) -/
  | timeClear (p : Port) (m : Mbox)
  /-- TIME_ALARM (R418) -/
  | timeAlarm (p : Port) (m : Mbox)
  /-- TIME_CAPTURE (R419) -/
  | timeCapture (p : Port) (m : Mbox)
  /-- TIME_PPS (R420) -/
  | timePps (p : Port) (m : Mbox)
  /-- TIME_SOURCE (R414) -/
  | timeSource (p : Port) (m : Mbox)
  /-- TIME_STATUS (R485) -/
  | timeStatus (p : Port) (m : Mbox)
  /-- CLOCK_STATUS (R486) -/
  | clockStatus (p : Port) (m : Mbox)
  /-- CLOCK_PLAN (R487) -/
  | clockPlan (p : Port) (m : Mbox)
  /-- CLOCK_SELECT (R438) -/
  | clockSelect (p : Port) (m : Mbox)
  /-- CLOCK_GATE (R443) -/
  | clockGate (p : Port) (m : Mbox)
  /-- CLOCK_MEASURE (R444) -/
  | clockMeasure (p : Port) (m : Mbox)
  /-- CAR_SEL (R438) -/
  | carSel (r : Req)
  /-- CARRIER_REVERT (R438) -/
  | carrierRevert
  /-- GC_SRC (R441) -/
  | gcSrc (r : Req)
  /-- CLOCK_SWITCH_DONE (R441) -/
  | clockSwitchDone (net : Option GNet)
  /-- SWITCH_FORCED (R441) -/
  | switchForced (net : Option GNet)
  /-- GC_ENABLE (R443) -/
  | gcEnable (r : Req)
  /-- SY_ENABLE (R436) -/
  | syEnable (r : Req)
  /-- SY_LOCK (R436) -/
  | syLock (k : Synth)
  /-- SY_UNLOCK (R437) -/
  | syUnlock (k : Synth)
  /-- LEAF_GATE (R443) -/
  | leafGate (r : Req)
  /-- FC_START (R444) -/
  | fcStart (r : Req)
  /-- FC_GATE_END (R444) -/
  | fcGateEnd (c : FCtr) (n : BitVec 40)
  /-- SETTINGS_GET (R538) -/
  | settingsGet (p : Port) (m : Mbox)
  /-- SETTINGS_PUT (R500) -/
  | settingsPut (p : Port) (m : Mbox)
  /-- SETTINGS_DELETE (R488) -/
  | settingsDelete (p : Port) (m : Mbox)
  /-- SETTINGS_COMMIT (R500) -/
  | settingsCommit (p : Port) (m : Mbox)
  /-- SETTINGS_COMMIT_DONE (R500) -/
  | settingsCommitDone (ok : Bool)
  /-- SETTINGS_DISCARD (R488) -/
  | settingsDiscard (p : Port) (m : Mbox)
  /-- DBG_CHALLENGE (R505) -/
  | dbgChallenge (p : Port) (m : Mbox)
  /-- DBG_RESPONSE (R505) -/
  | dbgResponse (p : Port) (m : Mbox)
  /-- AUTH_VERIFY_DONE (R505) -/
  | authVerifyDone (path : Fin 6)
  /-- NONCE_EXPIRY (R505) -/
  | nonceExpiry (path : Fin 6)
  /-- AUTH_LOCKOUT_END (R505) -/
  | authLockoutEnd (path : Fin 6)
  /-- DBG_DROP (R489) -/
  | dbgDrop (p : Port) (m : Mbox)
  /-- DBG_STATUS (R489) -/
  | dbgStatus (p : Port) (m : Mbox)
  /-- DBG_HALT (R511) -/
  | dbgHalt (p : Port) (m : Mbox)
  /-- DBG_RESUME (R511) -/
  | dbgResume (p : Port) (m : Mbox)
  /-- DBG_FEED (R511) -/
  | dbgFeed (p : Port) (m : Mbox)
  /-- DBG_PEEK (R510) -/
  | dbgPeek (p : Port) (m : Mbox)
  /-- DBG_POKE (R507) -/
  | dbgPoke (p : Port) (m : Mbox)
  /-- DBG_ENG_HALT (R511) -/
  | dbgEngHalt (path : Fin 6) (irqInStep : Bool)
  /-- DBG_ENG_RESUME (R511) -/
  | dbgEngResume (path : Fin 6) (irqInStep : Bool)
  /-- DBG_ENG_STEP (R511) -/
  | dbgEngStep (path : Fin 6) (irqInStep : Bool)
  /-- DBG_ENG_INJECT (R511) -/
  | dbgEngInject (path : Fin 6) (w : Word32)
  /-- REF_HALT (R514) -/
  | refHalt
  /-- REF_RESUME (R514) -/
  | refResume
  /-- REF_STEP (R514) -/
  | refStep
  /-- REF_INJECT (R514) -/
  | refInject (w : Word32)
  /-- REFEREE_HALT_EFFECT (R514) -/
  | refereeHaltEffect
  /-- REFEREE_HALT_FORCED (R514) -/
  | refereeHaltForced (p : Option Port)
  /-- PATCH_BREAK (R515) -/
  | patchBreak (u : Fin 32)
  /-- TAP_RESET (R506) -/
  | tapReset
  /-- IDCODE (R508) -/
  | idcode
  /-- SAMPLE_PRELOAD (R509) -/
  | samplePreload (cells : BitVec 2896)
  /-- EXTEST (R509) -/
  | extest
  /-- HIGHZ (R509) -/
  | highz
  /-- CLAMP (R509) -/
  | clamp
  /-- EXTEST_PULSE (R509) -/
  | extestPulse
  /-- EXTEST_TRAIN (R509) -/
  | extestTrain
  /-- BYPASS (R508) -/
  | bypass
  /-- AUTH_CHALLENGE (R512) -/
  | authChallenge (level : Fin 4) (scope : Bool) (tenant : Tenant)
  /-- AUTH_RESPONSE (R512) -/
  | authResponse (sig : List Byte)
  /-- AUTH_DROP (R512) -/
  | authDrop
  /-- ACCESS_READ (R513) -/
  | accessRead (a : NetAddr)
  /-- ACCESS_WRITE (R513) -/
  | accessWrite (a : NetAddr) (w : Word32)
  /-- ACCESS_EFFECTFUL_READ (R513) -/
  | accessEffectfulRead (a : NetAddr)
  /-- REG_READ (R492) -/
  | regRead (p : Port) (m : Mbox)
  /-- REG_WRITE (R492) -/
  | regWrite (p : Port) (m : Mbox)
  /-- REG_MODIFY (R492) -/
  | regModify (p : Port) (m : Mbox)
  /-- REG_READ_N (R492) -/
  | regReadN (p : Port) (m : Mbox)
  /-- REG_WRITE_LIST (R492) -/
  | regWriteList (p : Port) (m : Mbox)
  /-- ILLEGAL_INSTRUCTION (R236) -/
  | illegalInstruction (t : Tile)
  /-- TRAINING_TIMEOUT (R391) -/
  | trainingTimeout (l : Lane)
  /-- LOS_CLEAR_HELD (R391) -/
  | losClearHeld (l : Lane)
  /-- SGMII_AN_COMPLETE (R391) -/
  | sgmiiAnComplete (l : Lane)
  /-- HUDDLE_LINE_FALL (R102) -/
  | huddleLineFall
  /-- CELL_CLOCK_EDGE (R113) -/
  | cellClockEdge (t : Tile) (cluster : Fin 768) (net : Fin 8) (rise : Bool) (join : Bool) (ins : List CellIn) (cin : Bool) (ms : BitVec 4) (ce : BitVec 4) (sr : BitVec 2)
  /-- ASYNC_SET_RESET (R114) -/
  | asyncSetReset (t : Tile) (cluster : Fin 768) (line : Fin 2)
  /-- MULTIPLIER_SLICE_EDGE (R128) -/
  | multiplierSliceEdge (l : List MulIn) (join : Bool)
  /-- BAND_CHANGE_DONE (R320) -/
  | bandChangeDone (st : Die)
  /-- VCCIO_RESTORED (R521) -/
  | vccioRestored (b : Fin 10) (mv : Word16)
  /-- PCI_EXPRESS_LINK_UP (R49) -/
  | pciExpressLinkUp (p : Die) (speed : Fin 5) (width : Fin 4)
deriving DecidableEq, Repr

end Sys2Proof
end

