-- ==== Sys2Proof/Decode.lean ====
section
/-! DEFINITION. The signal engine's instruction words (10_engine_instructions_control.md, R236–R245): the decoded instruction, its
decoder and its encoder, written from the layout tables. The command table itself gives its rows no bits. -/

namespace Sys2Proof

open Sys2Proof.Machine

/-- The rows of spec/opcode_table.json give no bits, so no word spells a command. -/
def decodeTableWord (_nbits _w : Nat) : Option Instr := none

/-! ### Operands (R226, R237, R238) -/

/-- Address modes (R226), with the modifier of those that use one. -/
inductive AMode (n : Nat) where
  | plain | inc | dec
  | add (k : Fin n)
  | rev (k : Fin n)
  | idx (k : Fin n)
deriving DecidableEq, Repr

/-- A single operand SO: `y` false is X, true is Y. -/
structure SOp where
  y : Bool
  pn : Fin 8
  am : AMode 4
deriving DecidableEq, Repr

/-- An X operand XO of a pair: pointer P(px), modifier M0 or M1. -/
structure XOp where
  px : Fin 4
  am : AMode 2
deriving DecidableEq, Repr

/-- A Y operand YO of a pair: pointer P(4 + py), modifier M2 or M3. -/
structure YOp where
  py : Fin 4
  am : AMode 2
deriving DecidableEq, Repr

/-- What a parallel move does (R238). -/
inductive PKind where
  | load (d : Fin 8)
  | store (d : Fin 8)
  | storeU (b : Bool) (bx : Bool)
deriving DecidableEq, Repr

/-- A parallel move (R238). -/
structure PMove where
  kind : PKind
  so : SOp
deriving DecidableEq, Repr

/-- Operand sources of the multiply group (R239). `pp` false is *P6+, true *P7+. -/
inductive MSrc where
  | dd (m n : Fin 8) (mv : Option PMove)
  | dm (m : Fin 8) (so : SOp)
  | xy (x : XOp) (y : YOp)
  | yp (y : YOp) (pp : Bool) (mv : Option PMove)
deriving DecidableEq, Repr

/-- OPC of the multiply group (R239). -/
inductive MulOp where
  | mpy | mac | msu | mpyr | macr | msur
deriving DecidableEq, Repr

/-- Accumulator operations of two accumulators (R240). -/
inductive AccOp where
  | add | sub | neg | abs | rnd | mova
deriving DecidableEq, Repr

/-- Operations of the D-register arithmetic group that write a register (R241). -/
inductive DOp where
  | add | sub | and | or | xor | shl | shr | sra
deriving DecidableEq, Repr

/-- The operand b of D-register arithmetic (R241). -/
inductive DSrc where
  | reg (t : Fin 8)
  | imm (v : Fin 65536)
deriving DecidableEq, Repr

/-- An accumulator part (R214). -/
inductive APart where
  | e | u | b
deriving DecidableEq, Repr

/-- A decoded engine instruction (R236–R245). Accumulators: false ACA, true ACB. -/
inductive EOp where
  | mul (op : MulOp) (a : Bool) (src : MSrc)
  | acc (op : AccOp) (ad as : Bool) (mv : Option PMove)
  | accd (sub : Bool) (ad : Bool) (dn : Fin 8) (sh : Fin 16) (mv : Option PMove)
  | clr (ad : Bool) (mv : Option PMove)
  | shl (ad as : Bool) (sh : Fin 16) (mv : Option PMove)
  | shr (ad as : Bool) (sh : Fin 16) (mv : Option PMove)
  | exp (as : Bool) (dn : Fin 8) (mv : Option PMove)
  | norm (ad : Bool) (dn : Fin 8) (mv : Option PMove)
  | darith (op : DOp) (dd ds : Fin 8) (b : DSrc)
  | cmp (ds : Fin 8) (b : DSrc)
  | ld (d : Fin 8) (so : SOp)
  | st (d : Fin 8) (so : SOp) (bx : Bool)
  | lda (p : APart) (b : Bool) (so : SOp)
  | stu (b : Bool) (so : SOp) (bx : Bool)
  | stb (b : Bool) (so : SOp)
  | ste (b : Bool) (so : SOp)
  | ldk (d : Fin 8) (pn : Fin 8) (am : AMode 4)
  | stk (d : Fin 8) (pn : Fin 8) (am : AMode 4)
  | mov (rd rs : Fin 47)
  | ldi (rd : Fin 47) (imm : Fin 65536)
  | bexr
  | b (cond : Fin 11) (target : Fin 16384)
  | call (pn : Fin 8) (target : Fin 16384)
  | br (cond : Fin 11) (pn : Fin 8)
  | reti
  | repi (count : Fin 1024) (stop : Fin 16384)
  | rep (dn : Fin 8) (stop : Fin 16384)
  | wait (dd : Fin 8) (mask : Fin 65536)
  | sig (ev : Fin 256)
  | wdt
  | stop
  | nop
  | push (q : Fin 4)
  | pushl (q : Fin 4)
  | pop (q : Fin 4)
  | qabort (q : Fin 4)
  | nget (pd ps : Fin 8)
  | nput (pd ps : Fin 8)
  | nfadd
  | nswap
  | ncas (pd : Fin 8)
deriving DecidableEq, Repr

/-! ### Well-formed instructions (R220, R236, R237, R243) -/

/-- The pointers that an instruction's memory operands name (R237). -/
def MSrc.ptrs : MSrc → List Nat
  | .dd _ _ mv => (mv.map (fun m => m.so.pn.val)).toList
  | .dm _ so => [so.pn]
  | .xy x y => [x.px.val, 4 + y.py.val]
  | .yp y pp mv => [4 + y.py.val, if pp then 7 else 6] ++ (mv.map (fun m => m.so.pn.val)).toList

/-- No pointer twice, and the move beside a program-memory operand is on X (R220, R237, R239). -/
def MSrc.ok (m : MSrc) : Bool :=
  decide m.ptrs.Nodup && (match m with | .yp _ _ (some mv) => !mv.so.y | _ => true)

/-- Legal combinations: pointers apart, and BEX is no destination (R237, R243). -/
def EOp.wf : EOp → Bool
  | .mul _ _ src => src.ok
  | .mov rd _ => rd.val ≠ 0x28
  | .ldi rd _ => rd.val ≠ 0x28
  | _ => true

/-- An instruction that a delay slot must not hold (R247). -/
def EOp.notInSlot : EOp → Bool
  | .mul _ _ (.yp _ _ _) => true
  | .ldk _ _ _ => true
  | .b _ _ => true
  | .call _ _ => true
  | .br _ _ => true
  | .reti => true
  | .repi _ _ => true
  | .rep _ _ => true
  | .wait _ _ => true
  | .stop => true
  | .push _ => true
  | .pushl _ => true
  | .nget _ _ => true
  | .nput _ _ => true
  | .nfadd => true
  | .nswap => true
  | .ncas _ => true
  | _ => false

/-- An instruction that faults while RPT = 1: the control group but NOP, SIG and WDT (R249). -/
def EOp.notInRepeat : EOp → Bool
  | .b _ _ => true
  | .call _ _ => true
  | .br _ _ => true
  | .reti => true
  | .repi _ _ => true
  | .rep _ _ => true
  | .wait _ _ => true
  | .stop => true
  | _ => false

/-! ### Encoder -/

/-- MODE and modifier number of an address mode (R237). -/
def encAM {n : Nat} : AMode n → Nat × Nat
  | .plain => (0, 0)
  | .inc => (1, 0)
  | .dec => (2, 0)
  | .add k => (3, k)
  | .rev k => (4, k)
  | .idx k => (5, k)

def encSO (o : SOp) : Nat := b2n o.y * 256 + o.pn * 32 + (encAM o.am).2 * 8 + (encAM o.am).1
def encXO (o : XOp) : Nat := o.px * 16 + (encAM o.am).2 * 8 + (encAM o.am).1
def encYO (o : YOp) : Nat := o.py * 16 + (encAM o.am).2 * 8 + (encAM o.am).1

/-- KIND and REG of a parallel move (R238). -/
def encKind : PKind → Nat × Nat
  | .load d => (0, d)
  | .store d => (1, d)
  | .storeU b false => (2, b2n b)
  | .storeU b true => (3, b2n b)

def encPMV : Option PMove → Nat
  | none => 0
  | some m => 16384 + (encKind m.kind).1 * 4096 + (encKind m.kind).2 * 512 + encSO m.so

/-- SRC and OPS of the multiply group (R239). -/
def encSrc : MSrc → Nat
  | .dd m n mv => m * 2 ^ 19 + n * 2 ^ 16 + encPMV mv
  | .dm m so => 2 ^ 22 + m * 2 ^ 19 + encSO so * 2 ^ 10
  | .xy x y => 2 * 2 ^ 22 + encXO x * 2 ^ 16 + encYO y * 2 ^ 10
  | .yp y pp mv => 3 * 2 ^ 22 + encYO y * 2 ^ 16 + b2n pp * 2 ^ 15 + encPMV mv

def MulOp.code : MulOp → Nat
  | .mpy => 0 | .mac => 1 | .msu => 2 | .mpyr => 3 | .macr => 4 | .msur => 5
def AccOp.code : AccOp → Nat
  | .add => 0 | .sub => 1 | .neg => 4 | .abs => 5 | .rnd => 7 | .mova => 10
def DOp.code : DOp → Nat
  | .add => 0 | .sub => 1 | .and => 2 | .or => 3 | .xor => 4 | .shl => 5 | .shr => 6 | .sra => 7

def encDSrc : DSrc → Nat
  | .reg t => t * 2 ^ 14
  | .imm v => 2 ^ 17 + v

/-- LOP of an accumulator part load (R242). -/
def APart.lop : APart → Nat
  | .u => 2 | .b => 4 | .e => 6

/-- A load and store group word (R242). -/
def encLS (lop reg so bx : Nat) : Nat := 3 * 2 ^ 28 + lop * 2 ^ 24 + reg * 2 ^ 21 + so * 2 ^ 12 + bx * 2 ^ 11

/-- An accumulator group word (R240). -/
def encAcc (aop ad as dn sh : Nat) (mv : Option PMove) : Nat :=
  2 ^ 28 + aop * 2 ^ 24 + ad * 2 ^ 23 + as * 2 ^ 22 + dn * 2 ^ 19 + sh * 2 ^ 15 + encPMV mv

/-- A control group word (R244). -/
def encCtl (cop args : Nat) : Nat := 5 * 2 ^ 28 + cop * 2 ^ 24 + args

/-- The 32-bit word of an instruction (R236–R245). -/
def encodeEngine : EOp → Nat
  | .mul op a src => op.code * 2 ^ 25 + b2n a * 2 ^ 24 + encSrc src
  | .acc op ad as mv => encAcc op.code (b2n ad) (b2n as) 0 0 mv
  | .accd sub ad dn sh mv => encAcc (2 + b2n sub) (b2n ad) 0 dn sh mv
  | .clr ad mv => encAcc 6 (b2n ad) 0 0 0 mv
  | .shl ad as sh mv => encAcc 8 (b2n ad) (b2n as) 0 sh mv
  | .shr ad as sh mv => encAcc 9 (b2n ad) (b2n as) 0 sh mv
  | .exp as dn mv => encAcc 11 0 (b2n as) dn 0 mv
  | .norm ad dn mv => encAcc 12 (b2n ad) 0 dn 0 mv
  | .darith op dd ds b => 2 * 2 ^ 28 + op.code * 2 ^ 24 + dd * 2 ^ 21 + ds * 2 ^ 18 + encDSrc b
  | .cmp ds b => 2 * 2 ^ 28 + 8 * 2 ^ 24 + ds * 2 ^ 18 + encDSrc b
  | .ld d so => encLS 0 d (encSO so) 0
  | .st d so bx => encLS 1 d (encSO so) (b2n bx)
  | .lda p b so => encLS p.lop (b2n b) (encSO so) 0
  | .stu b so bx => encLS 3 (b2n b) (encSO so) (b2n bx)
  | .stb b so => encLS 5 (b2n b) (encSO so) 0
  | .ste b so => encLS 7 (b2n b) (encSO so) 0
  | .ldk d pn am => encLS 8 d (encSO ⟨true, pn, am⟩) 0
  | .stk d pn am => encLS 9 d (encSO ⟨true, pn, am⟩) 0
  | .mov rd rs => 4 * 2 ^ 28 + rd * 2 ^ 18 + rs * 2 ^ 12
  | .ldi rd imm => 4 * 2 ^ 28 + 2 ^ 24 + rd * 2 ^ 18 + imm
  | .bexr => 4 * 2 ^ 28 + 2 * 2 ^ 24
  | .b cond target => encCtl 0 (cond * 2 ^ 20 + target)
  | .call pn target => encCtl 1 (pn * 2 ^ 21 + target)
  | .br cond pn => encCtl 2 (cond * 2 ^ 20 + pn * 2 ^ 17)
  | .reti => encCtl 3 0
  | .repi count stop => encCtl 4 (count * 2 ^ 14 + stop)
  | .rep dn stop => encCtl 5 (dn * 2 ^ 21 + stop)
  | .wait dd mask => encCtl 6 (dd * 2 ^ 21 + mask)
  | .sig ev => encCtl 7 ev
  | .wdt => encCtl 8 0
  | .stop => encCtl 9 0
  | .nop => encCtl 10 0
  | .push q => 6 * 2 ^ 28 + q * 2 ^ 22
  | .pushl q => 6 * 2 ^ 28 + 2 ^ 24 + q * 2 ^ 22
  | .pop q => 6 * 2 ^ 28 + 2 * 2 ^ 24 + q * 2 ^ 22
  | .qabort q => 6 * 2 ^ 28 + 3 * 2 ^ 24 + q * 2 ^ 22
  | .nget pd ps => 7 * 2 ^ 28 + pd * 2 ^ 21 + ps * 2 ^ 18
  | .nput pd ps => 7 * 2 ^ 28 + 2 ^ 24 + pd * 2 ^ 21 + ps * 2 ^ 18
  | .nfadd => 7 * 2 ^ 28 + 2 * 2 ^ 24
  | .nswap => 7 * 2 ^ 28 + 3 * 2 ^ 24
  | .ncas pd => 7 * 2 ^ 28 + 4 * 2 ^ 24 + pd * 2 ^ 21

/-! ### Decoder -/

/-- A number below `n`, or none. -/
def finOf (n v : Nat) : Option (Fin n) := if h : v < n then some ⟨v, h⟩ else none

/-- Address mode from AM and the modifier field; an unused modifier must be zero (R237). -/
def decAM (n am mk : Nat) : Option (AMode n) :=
  match am with
  | 0 => if mk = 0 then some .plain else none
  | 1 => if mk = 0 then some .inc else none
  | 2 => if mk = 0 then some .dec else none
  | 3 => (finOf n mk).map .add
  | 4 => (finOf n mk).map .rev
  | 5 => (finOf n mk).map .idx
  | _ => none

def decSO (v : Nat) : Option SOp := (decAM 4 (bits v 2 0) (bits v 4 3)).map (fun a => ⟨bitAt v 8, Fin.ofNat 8 (bits v 7 5), a⟩)
def decXO (v : Nat) : Option XOp := (decAM 2 (bits v 2 0) (bits v 3 3)).map (fun a => ⟨Fin.ofNat 4 (bits v 5 4), a⟩)
def decYO (v : Nat) : Option YOp := (decAM 2 (bits v 2 0) (bits v 3 3)).map (fun a => ⟨Fin.ofNat 4 (bits v 5 4), a⟩)

/-- ACA or ACB from a three-bit REG field (R238, R242). -/
def decAx (r : Nat) : Option Bool := if r = 0 then some false else if r = 1 then some true else none

def decKind (k r : Nat) : Option PKind :=
  match k with
  | 0 => some (.load (Fin.ofNat 8 r))
  | 1 => some (.store (Fin.ofNat 8 r))
  | 2 => (decAx r).map (fun b => .storeU b false)
  | _ => (decAx r).map (fun b => .storeU b true)

/-- A PMV field (R238); the outer none is illegal. -/
def decPMV (v : Nat) : Option (Option PMove) :=
  if bitAt v 14 then
    match decKind (bits v 13 12) (bits v 11 9), decSO (bits v 8 0) with
    | some k, some o => some (some ⟨k, o⟩)
    | _, _ => none
  else if v % 16384 = 0 then some none else none

def decSrc (w : Nat) : Option MSrc :=
  match bits w 23 22 with
  | 0 => if bitAt w 15 then none else (decPMV (bits w 14 0)).map (.dd (Fin.ofNat 8 (bits w 21 19)) (Fin.ofNat 8 (bits w 18 16)))
  | 1 => if bits w 9 0 = 0 then (decSO (bits w 18 10)).map (.dm (Fin.ofNat 8 (bits w 21 19))) else none
  | 2 =>
    if bits w 9 0 = 0 then
      match decXO (bits w 21 16), decYO (bits w 15 10) with
      | some x, some y => some (.xy x y)
      | _, _ => none
    else none
  | _ =>
    match decYO (bits w 21 16), decPMV (bits w 14 0) with
    | some y, some mv => some (.yp y (bitAt w 15) mv)
    | _, _ => none

def decMulOp : Nat → Option MulOp
  | 0 => some .mpy | 1 => some .mac | 2 => some .msu | 3 => some .mpyr | 4 => some .macr | 5 => some .msur | _ => none

def decMul (w : Nat) : Option EOp :=
  match decMulOp (bits w 27 25), decSrc w with
  | some op, some src => if src.ok then some (.mul op (bitAt w 24) src) else none
  | _, _ => none

/-- The accumulator group (R240): fields that an operation leaves unused are zero (R236). -/
def decAcc (w : Nat) : Option EOp :=
  match decPMV (bits w 14 0) with
  | none => none
  | some mv =>
    let ad := bitAt w 23
    let as := bitAt w 22
    let dn : Fin 8 := Fin.ofNat 8 (bits w 21 19)
    let sh : Fin 16 := Fin.ofNat 16 (bits w 18 15)
    let two (op : AccOp) : Option EOp := if bits w 21 15 = 0 then some (.acc op ad as mv) else none
    match bits w 27 24 with
    | 0 => two .add
    | 1 => two .sub
    | 2 => if as then none else some (.accd false ad dn sh mv)
    | 3 => if as then none else some (.accd true ad dn sh mv)
    | 4 => two .neg
    | 5 => two .abs
    | 6 => if bits w 22 15 = 0 then some (.clr ad mv) else none
    | 7 => two .rnd
    | 8 => if bits w 21 19 = 0 then some (.shl ad as sh mv) else none
    | 9 => if bits w 21 19 = 0 then some (.shr ad as sh mv) else none
    | 10 => two .mova
    | 11 => if ad ∨ bits w 18 15 ≠ 0 then none else some (.exp as dn mv)
    | 12 => if as ∨ bits w 18 15 ≠ 0 then none else some (.norm ad dn mv)
    | _ => none

def decDSrc (w : Nat) : Option DSrc :=
  if bitAt w 17 then (if bitAt w 16 then none else some (.imm (Fin.ofNat 65536 (bits w 15 0))))
  else if bits w 13 0 = 0 then some (.reg (Fin.ofNat 8 (bits w 16 14))) else none

def decDOp : Nat → Option DOp
  | 0 => some .add | 1 => some .sub | 2 => some .and | 3 => some .or | 4 => some .xor | 5 => some .shl | 6 => some .shr
  | 7 => some .sra | _ => none

/-- The D-register arithmetic group (R241); CMP leaves DD unused. -/
def decD (w : Nat) : Option EOp :=
  match decDSrc w with
  | none => none
  | some b =>
    let ds : Fin 8 := Fin.ofNat 8 (bits w 20 18)
    if bits w 27 24 = 8 then (if bits w 23 21 = 0 then some (.cmp ds b) else none)
    else (decDOp (bits w 27 24)).map (fun op => .darith op (Fin.ofNat 8 (bits w 23 21)) ds b)

/-- The load and store group (R242). -/
def decLS (w : Nat) : Option EOp :=
  match decSO (bits w 20 12) with
  | none => none
  | some so =>
    let d : Fin 8 := Fin.ofNat 8 (bits w 23 21)
    let ax := decAx (bits w 23 21)
    let bx := bitAt w 11
    if bits w 10 0 ≠ 0 ∨ (bx ∧ bits w 27 24 ≠ 1 ∧ bits w 27 24 ≠ 3) then none else
    match bits w 27 24 with
    | 0 => some (.ld d so)
    | 1 => some (.st d so bx)
    | 2 => ax.map (fun b => .lda .u b so)
    | 3 => ax.map (fun b => .stu b so bx)
    | 4 => ax.map (fun b => .lda .b b so)
    | 5 => ax.map (fun b => .stb b so)
    | 6 => ax.map (fun b => .lda .e b so)
    | 7 => ax.map (fun b => .ste b so)
    | 8 => if so.y then some (.ldk d so.pn so.am) else none
    | 9 => if so.y then some (.stk d so.pn so.am) else none
    | _ => none

/-- The move group (R243). -/
def decMove (w : Nat) : Option EOp :=
  match bits w 27 24 with
  | 0 =>
    (match finOf 47 (bits w 23 18), finOf 47 (bits w 17 12) with
     | some rd, some rs => if rd.val = 0x28 ∨ bits w 11 0 ≠ 0 then none else some (.mov rd rs)
     | _, _ => none)
  | 1 =>
    (match finOf 47 (bits w 23 18) with
     | some rd => if rd.val = 0x28 ∨ bits w 17 16 ≠ 0 then none else some (.ldi rd (Fin.ofNat 65536 (bits w 15 0)))
     | none => none)
  | 2 => if bits w 23 0 = 0 then some .bexr else none
  | _ => none

/-- The control group (R244). -/
def decCtl (w : Nat) : Option EOp :=
  let target : Fin 16384 := Fin.ofNat 16384 (bits w 13 0)
  let r3 : Fin 8 := Fin.ofNat 8 (bits w 23 21)
  match bits w 27 24 with
  | 0 => if bits w 19 14 = 0 then (finOf 11 (bits w 23 20)).map (fun c => .b c target) else none
  | 1 => if bits w 20 14 = 0 then some (.call r3 target) else none
  | 2 => if bits w 16 0 = 0 then (finOf 11 (bits w 23 20)).map (fun c => .br c (Fin.ofNat 8 (bits w 19 17))) else none
  | 3 => if bits w 23 0 = 0 then some .reti else none
  | 4 => some (.repi (Fin.ofNat 1024 (bits w 23 14)) target)
  | 5 => if bits w 20 14 = 0 then some (.rep r3 target) else none
  | 6 => if bits w 20 16 = 0 then some (.wait r3 (Fin.ofNat 65536 (bits w 15 0))) else none
  | 7 => if bits w 23 8 = 0 then some (.sig (Fin.ofNat 256 (bits w 7 0))) else none
  | 8 => if bits w 23 0 = 0 then some .wdt else none
  | 9 => if bits w 23 0 = 0 then some .stop else none
  | 10 => if bits w 23 0 = 0 then some .nop else none
  | _ => none

/-- The queue group (R245). -/
def decQueue (w : Nat) : Option EOp :=
  let q : Fin 4 := Fin.ofNat 4 (bits w 23 22)
  if bits w 21 0 ≠ 0 then none else
  match bits w 27 24 with
  | 0 => some (.push q)
  | 1 => some (.pushl q)
  | 2 => some (.pop q)
  | 3 => some (.qabort q)
  | _ => none

/-- The network group (R245). -/
def decNet (w : Nat) : Option EOp :=
  let pd : Fin 8 := Fin.ofNat 8 (bits w 23 21)
  let ps : Fin 8 := Fin.ofNat 8 (bits w 20 18)
  if bits w 17 0 ≠ 0 then none else
  match bits w 27 24 with
  | 0 => some (.nget pd ps)
  | 1 => some (.nput pd ps)
  | 2 => if bits w 23 18 = 0 then some .nfadd else none
  | 3 => if bits w 23 18 = 0 then some .nswap else none
  | 4 => if bits w 20 18 = 0 then some (.ncas pd) else none
  | _ => none

/-- Decode a 32-bit engine word; none is an illegal instruction (R236). -/
def decodeEngine (w : Nat) : Option EOp :=
  match bits w 31 28 with
  | 0 => decMul w
  | 1 => decAcc w
  | 2 => decD w
  | 3 => decLS w
  | 4 => decMove w
  | 5 => decCtl w
  | 6 => decQueue w
  | 7 => decNet w
  | _ => none

end Sys2Proof
end

