-- ==== Sys2Proof/Machine/Codes.lean ====
section
/-! DEFINITION. The device's codes: CRC-32 (R90) and the SECDED codes (R370). -/

namespace Sys2Proof.Machine

/-- One bit step of CRC-32: polynomial 0x04C1_1DB7, most significant bit first (R90). -/
def crcStep (crc : Nat) (b : Bool) : Nat :=
  let c := crc * 2 % 2 ^ 32
  if bitAt crc 31 != b then Nat.xor c 0x04C11DB7 else c

/-- The bits of a byte, most significant first. -/
def byteBits (b : Byte) : List Bool := [b.getLsbD 7, b.getLsbD 6, b.getLsbD 5, b.getLsbD 4, b.getLsbD 3, b.getLsbD 2, b.getLsbD 1, b.getLsbD 0]

/-- CRC-32 of R90 over bits in order. -/
def crcBits (l : List Bool) : Nat := Nat.xor (l.foldl crcStep 0xFFFFFFFF) 0xFFFFFFFF

/-- CRC-32 over a byte string: bytes in order, each most significant bit first. -/
def crc32 (l : List Byte) : Nat := Nat.xor (l.foldl (fun c b => (byteBits b).foldl crcStep c) 0xFFFFFFFF) 0xFFFFFFFF

/-- A position of the codeword is a check position: a power of two (R370). -/
def isPow2 (p : Nat) : Bool := decide (p ≠ 0) && decide (2 ^ Nat.log2 p = p)

/-- Codeword positions of data bits d0 to d(k − 1), for r check bits (R370). -/
def dataPos (k r : Nat) : List Nat := (List.range (k + r + 1)).filter (fun p => decide (p ≠ 0) && !isPow2 p)

/-- Parity of the ones in the low n bits of a number. -/
def parity (n v : Nat) : Nat := ((List.range n).filter (fun i => bitAt v i)).length % 2

/-- Exclusive-or of the positions of the ones of the data. -/
def dataSyn (k r v : Nat) : Nat := ((dataPos k r).zipIdx.filter (fun q => bitAt v q.2)).foldl (fun a q => Nat.xor a q.1) 0

/-- The stored check field of a word: check bit i in bit i, the overall parity in bit r (R370). -/
def secEncode (k r v : Nat) : Nat :=
  let c := dataSyn k r v % 2 ^ r
  c + (parity k v + parity r c) % 2 * 2 ^ r

/-- The outcome of a decode (R370). -/
inductive SecOut where
  | clean
  | corrected
  | bad
deriving DecidableEq, Repr

/-- Decode a word and its stored check field: outcome, delivered data, syndrome s and parity p (R370). -/
def secDecode (k r v chk : Nat) : SecOut × Nat × Nat × Nat :=
  let s := Nat.xor (dataSyn k r v) (chk % 2 ^ r)
  let p := (parity k v + parity (r + 1) chk) % 2
  if p = 0 ∧ s = 0 then (.clean, v, s, p)
  else if p = 0 ∨ k + r < s then (.bad, v, s, p)
  else (.corrected, (match (dataPos k r).idxOf? s with | some i => Nat.xor v (2 ^ i) | none => v), s, p)

end Sys2Proof.Machine
end

