-- ==== Sys2Proof/Machine/Geometry.lean ====
section
/-! DEFINITION. Where things stand: tiles, rings, directions, seam crossings and the routes that Maltar writes (R15, R19, R55–R57,
R158–R160, R172, R537). Directions: 0 N, 1 E, 2 S, 3 W (R162). -/

namespace Sys2Proof.Machine

/-- The attachment tile of a quad: outer column, row i + 2 (R19). -/
def quadTile (q : Nat) : Nat := (q / 12) * 256 + (q % 12 + 2) * 16 + (if q / 12 % 2 = 0 then 0 else 15)

/-- The attachment tile of DMA engine e: row 8, column 4k + 2 (R19). -/
def dmaTile (e : Nat) : Nat := (e / 4) * 256 + 8 * 16 + 4 * (e % 4) + 2

/-- The attachment tile of a host port: HPd at the outer column, row 15 on dies 0 and 1, row 0 on dies 2 and 3; MP at tile 17 (R19). -/
def portTile (p : Nat) : Nat :=
  if p = 4 then 17 else p * 256 + (if p < 2 then 15 * 16 else 0) + (if p % 2 = 0 then 0 else 15)

/-- The attachment tile of memory port m of stack s: outer row, column m (R19). -/
def memTile (st m : Nat) : Nat := st * 256 + (if st < 2 then 0 else 15 * 16) + m

/-- The tile at row 8, column 8 of a die, where the seam controller and the remote cache attach (R19). -/
def dieTile (d : Nat) : Nat := d * 256 + 8 * 16 + 8

/-- Device-wide coordinates of a tile (R15). -/
def tileX (t : Nat) : Nat := 16 * (t / 256 % 2) + t % 16
def tileY (t : Nat) : Nat := 16 * (t / 512) + t / 16 % 16
def tileAt (x y : Nat) : Nat := (2 * (y / 16) + x / 16) * 256 + y % 16 * 16 + x % 16

/-- Ring position of a coordinate, and the coordinate at a position (R158). -/
def ringPos (u : Nat) : Nat := if u % 2 = 0 then u / 2 else 31 - (u - 1) / 2
def ringAt (p : Nat) : Nat := if p < 16 then 2 * p else 2 * (31 - p) + 1

/-- The neighbor of a tile in a ring direction (R159). -/
def neighbor (t dir : Nat) : Nat :=
  match dir with
  | 0 => tileAt (tileX t) (ringAt ((ringPos (tileY t) + 31) % 32))
  | 1 => tileAt (ringAt ((ringPos (tileX t) + 1) % 32)) (tileY t)
  | 2 => tileAt (tileX t) (ringAt ((ringPos (tileY t) + 1) % 32))
  | _ => tileAt (ringAt ((ringPos (tileX t) + 31) % 32)) (tileY t)

/-- The link that leaves a tile in a direction, named by its end in direction E or S. -/
def linkId (t dir : Nat) : Nat := if dir = 1 ∨ dir = 2 then t * 4 + dir else neighbor t dir * 4 + (dir + 2) % 4

/-- The link lies between ring positions 31 and 0: a dateline (R160). -/
def isDateline (t dir : Nat) : Bool :=
  match dir with
  | 0 => ringPos (tileY t) = 0
  | 1 => ringPos (tileX t) = 31
  | 2 => ringPos (tileY t) = 31
  | _ => ringPos (tileX t) = 0

/-- A link that crosses a seam: the seam port (0 X, 1 Y), the crossing and the link number there (R57). -/
def seamLink (t dir : Nat) : Option (Nat × Nat × Nat) :=
  let x := tileX t
  let y := tileY t
  match dir with
  | 0 => if y = 16 then some (1, x % 16, 1) else if y = 15 then some (1, x % 16, 0) else none
  | 1 => if x = 14 then some (0, y % 16, 1) else if x = 17 then some (0, y % 16, 0) else none
  | 2 => if y = 14 then some (1, x % 16, 1) else if y = 17 then some (1, x % 16, 0) else none
  | _ => if x = 16 then some (0, y % 16, 1) else if x = 15 then some (0, y % 16, 0) else none

/-- The tile whose router receives on link j of crossing c of seam port p, on die d, and the direction of its port on that link. -/
def seamTile (d p c j : Nat) : Nat × Nat :=
  let hi := if p = 0 then d % 2 else d / 2
  let u := if hi = 0 then 15 - j else 17 - j
  if p = 0 then (tileAt u (16 * (d / 2) + c), if (hi = 0) = (j = 1) then 1 else 3)
  else (tileAt (16 * (d % 2) + c) u, if (hi = 0) = (j = 1) then 2 else 0)

/-- The links of a segment: `n` links from tile t in one direction. -/
def segment (dir : Nat) : Nat → Nat → List (Nat × Nat)
  | 0, _ => []
  | n + 1, t => (t, dir) :: segment dir n (neighbor t dir)

/-- One segment of a route (R537): the direction with fewer links, `up` when both have 16; the other when a link is blocked. -/
def pickSegment (blocked : Nat → Bool) (t up dist : Nat) : Option (List (Nat × Nat)) :=
  if dist = 0 then some []
  else
    let a := segment up dist t
    let b := segment ((up + 2) % 4) (32 - dist) t
    let ok (l : List (Nat × Nat)) : Bool := l.all (fun q => !blocked (linkId q.1 q.2))
    if dist ≤ 16 then (if ok a then some a else if ok b then some b else none)
    else (if ok b then some b else if ok a then some a else none)

/-- The X segment and the Y segment of a route from tile t to tile d around blocked links (R173, R537). -/
def pickRoute (blocked : Nat → Bool) (t d : Nat) : Option (List (Nat × Nat) × List (Nat × Nat)) :=
  match pickSegment blocked t 1 ((ringPos (tileX d) + 32 - ringPos (tileX t)) % 32) with
  | none => none
  | some xs =>
    let corner := tileAt (tileX d) (tileY t)
    match pickSegment blocked corner 2 ((ringPos (tileY d) + 32 - ringPos (tileY corner)) % 32) with
    | none => none
    | some ys => some (xs, ys)

/-- Pack route codes into ROUTE_LO and ROUTE_HI (R191). -/
def packCodes (l : List Nat) : Nat × Nat :=
  let v := (l.zipIdx.map (fun q => q.1 * 4 ^ q.2)).sum
  (v % 2 ^ 32, v / 2 ^ 32)

/-- The turn from one heading to another: 1 LEFT, 2 RIGHT (R159). -/
def turnCode (from' to' : Nat) : Nat := if to' = (from' + 3) % 4 then 1 else 2

/-- The destination tile of a route table entry (R175). -/
def entryTile (e : Nat) : Nat := if e < 1024 then e else memTile ((e - 1024) / 16) ((e - 1024) % 16)

/-- ROUTE_LO, ROUTE_HI and ROUTE_CTL of a route; one of more than 32 links has no encoding and is not VALID. -/
def routeWords (r : List (Nat × Nat) × List (Nat × Nat)) (ex : Bool) : Nat × Nat × Nat :=
  let (xs, ys) := r
  if 32 < xs.length + ys.length then (0, 0, 0)
  else
    let xdir := (xs.headD (0, 0)).2
    let ydir := (ys.headD (0, 0)).2
    let codes := (List.replicate (xs.length - 1) 0) ++
      (if xs.isEmpty then [] else if ys.isEmpty then [3] else [turnCode xdir ydir]) ++
      (if ys.isEmpty then [] else List.replicate (ys.length - 1) 0 ++ [3])
    let (lo, hi) := packCodes codes
    (lo, hi, 2 ^ 31 + 16 * b2n ex + (if xs.isEmpty then ydir else xdir))

/-- The heading after a turn code (R159): 1 LEFT, 2 RIGHT. -/
def afterCode (heading c : Nat) : Nat := if c = 1 then (heading + 3) % 4 else if c = 2 then (heading + 1) % 4 else heading

/-- The channel of link l that a packet takes: the express links are numbered 4096 above the base links (R189). -/
def channelOf (express : Nat → Bool) (ex : Bool) (l : Nat) : Nat := if ex && express l then l + 4096 else l

/-- The links that a packet crosses from tile t in direction `dir` by its codes, until EJECT (R172). -/
def traceCodes : Nat → Nat → Nat → Nat → List Nat
  | 0, _, _, _ => []
  | n + 1, t, dir, codes => linkId t dir :: (if codes % 4 = 3 then [] else traceCodes n (neighbor t dir) (afterCode dir (codes % 4)) (codes / 4))

/-- The links of a route table entry: ROUTE_LO, ROUTE_HI, ROUTE_CTL. -/
def routeLinks (t : Nat) (w : Nat × Nat × Nat) : List Nat :=
  if bitAt w.2.2 31 ∧ w.2.2 % 8 < 4 then traceCodes 32 t (w.2.2 % 8) (w.1 + 2 ^ 32 * w.2.1) else []

/-- An entry's route takes one of the channels. -/
def routeUses (express : Nat → Bool) (t : Nat) (w : Nat × Nat × Nat) (chans : List Nat) : Bool :=
  (routeLinks t w).any (fun l => chans.contains (channelOf express (bitAt w.2.2 4) l))

/-- The entry that Maltar writes for endpoint e in the table of tile t: ROUTE_LO, ROUTE_HI and ROUTE_CTL (R537). `express l` says that link l
has an express link; `avoid` lists links, and express links + 4096, that are out of use. A memory port's route that crosses express links takes
them, and every other route takes base links alone. A route whose express link is out of use moves to the base link of the same crossing (R78). -/
def maltarRoute (express : Nat → Bool) (avoid : List Nat) (t e : Nat) : Nat × Nat × Nat :=
  let d := entryTile e
  if d = t then (0, 0, 2 ^ 31 + 4)
  else
    let base := pickRoute avoid.contains t d
    let viaX := if e < 1024 then none else pickRoute (fun l => avoid.contains (channelOf express true l)) t d
    let free := pickRoute (fun l => avoid.contains l && !express l) t d
    let crosses (r : List (Nat × Nat) × List (Nat × Nat)) : Bool := (r.1 ++ r.2).any (fun q => express (linkId q.1 q.2))
    let len (r : List (Nat × Nat) × List (Nat × Nat)) : Nat := r.1.length + r.2.length
    match base, viaX with
    | none, none => (0, 0, 0)
    | some b, none => routeWords b false
    | none, some x => routeWords x true
    | some b, some x => if crosses x ∧ (len x < len b ∨ (len x = len b ∧ some x = free)) then routeWords x true else routeWords b false

/-- Both ways round a ring to a position `dist` links ahead: the shorter first, `up` on a tie (R83, R537). -/
def ringWays (t up dist : Nat) : List (List (Nat × Nat)) :=
  if dist = 0 then [[]]
  else if dist ≤ 16 then [segment up dist t, segment ((up + 2) % 4) (32 - dist) t]
  else [segment ((up + 2) % 4) (32 - dist) t, segment up dist t]

/-- The replacement route of R83: of the routes in both directions of both segments, on base or express channels, that an entry can encode and that
take no channel of `closed`, the one with the fewest links, EXPRESS = 0 on a tie. DESIGN CHOICE (log entry 88): then R537's directions. -/
def replacement (express : Nat → Bool) (closed : List Nat) (t e : Nat) : Option (Nat × Nat × Nat) :=
  let d := entryTile e
  let corner := tileAt (tileX d) (tileY t)
  let xs := ringWays t 1 ((ringPos (tileX d) + 32 - ringPos (tileX t)) % 32)
  let ys := ringWays corner 2 ((ringPos (tileY d) + 32 - ringPos (tileY corner)) % 32)
  let all := [false, true].flatMap (fun ex => xs.flatMap (fun x => ys.map (fun y => (ex, x, y))))
  let len (c : Bool × List (Nat × Nat) × List (Nat × Nat)) : Nat := c.2.1.length + c.2.2.length
  let open' := all.filter (fun c => decide (len c ≤ 32) && (c.2.1 ++ c.2.2).all (fun q => !closed.contains (channelOf express c.1 (linkId q.1 q.2))))
  let best := open'.foldl (fun (a : Option (Bool × List (Nat × Nat) × List (Nat × Nat))) c =>
    match a with
    | none => some c
    | some b => if len c < len b then some c else some b) none
  best.map (fun c => routeWords (c.2.1, c.2.2) c.1)

/-- An entry while a seam reset names channels: the replacement of one that takes a named channel; an entry without a replacement keeps its route
(R83). -/
def replaced (express : Nat → Bool) (named closed : List Nat) (t e : Nat) (w : Nat × Nat × Nat) : Nat × Nat × Nat :=
  if routeUses express t w named then (replacement express closed t e).getD w else w

/-- The entry of R537 in use, while a seam reset names channels and others are closed (R83). -/
def routeFor (express : Nat → Bool) (avoid named closed : List Nat) (t e : Nat) : Nat × Nat × Nat :=
  replaced express named (avoid ++ named ++ closed) t e (maltarRoute express avoid t e)

end Sys2Proof.Machine
end

