-- ==== Sys2Proof/Machine/Packet.lean ====
section
/-! DEFINITION. Packets and flits: the sideband and header layouts, classes, payload and CRC, and the reversed route of a response
(07_network_on_chip.md, R168–R170, R174, R176, R181, R182). -/

namespace Sys2Proof.Machine

/-! ### Flits (R168, R181, R371) -/

def flitKind (f : Nat) : Nat := bits f 287 286
def flitVc (f : Nat) : Nat := bits f 285 283
def flitBad (f : Nat) : Bool := bitAt f 282
def flitHead (f : Nat) : Bool := flitKind f = 0 || flitKind f = 3
def flitTail (f : Nat) : Bool := flitKind f = 2 || flitKind f = 3

/-- The 262 checked bits of a flit in head form or in data form: a data flit encodes its payload bits as zero (R168, R371). -/
def checkBits (head : Bool) (f : Nat) : Nat := (if head then f % 2 ^ 256 else 0) + bits f 287 282 * 2 ^ 256

/-- A flit with CHECK computed anew (R181). -/
def withCheck (f : Nat) : Nat := setBits f 265 256 (secEncode 262 9 (checkBits (flitHead f) f))

/-- A flit read in one form: outcome, and the flit as corrected. -/
def checkAs (head : Bool) (f : Nat) : SecOut × Nat :=
  let d := secDecode 262 9 (checkBits head f) (bits f 265 256)
  (d.1, if d.1 = .corrected then withCheck (setBits (if head then setBits f 255 0 d.2.1 else f) 287 282 (d.2.1 / 2 ^ 256)) else f)

/-- The flit as a router takes it: outcome, and the flit as corrected (R181). An error in KIND hides the form, so both are read: a reading
stands when its corrected KIND is of its form; one without an error goes first, then one whose form fits its virtual channel (`isOpen v`: a
packet is arriving on v). -/
def checkFlit (isOpen : Nat → Bool) (f : Nat) : SecOut × Nat :=
  let reads := ([true, false].map (fun h => (h, checkAs h f))).filter (fun r => decide (r.2.1 ≠ .bad) && flitHead r.2.2 = r.1)
  match reads.find? (fun r => r.2.1 = .clean) with
  | some r => r.2
  | none =>
    match reads.find? (fun r => isOpen (flitVc r.2.2) != r.1) with
    | some r => r.2
    | none => (.bad, f)

/-- The flit that completes a packet cut short: a last data flit marked BAD (R66, R168). -/
def badTail (v : Nat) : Nat := withCheck (2 * 2 ^ 286 + v * 2 ^ 283 + 2 ^ 282)

/-! ### Headers (R169, R170) -/

def NOp.code : NOp → Nat
  | .read => 0 | .write => 1 | .swap => 2 | .fetchAdd => 3 | .compareSwap => 4 | .invalidate => 5

def NOp.ofCode : Nat → Option NOp
  | 0 => some .read | 1 => some .write | 2 => some .swap | 3 => some .fetchAdd | 4 => some .compareSwap | 5 => some .invalidate
  | _ => none

/-- OP of a response (R170). -/
def opResponse : Nat := 8

/-- Bytes that a request carries (R170). -/
def payloadLen (op : NOp) (n : Nat) : Nat :=
  match op with
  | .write => n
  | .swap => 8
  | .fetchAdd => 8
  | .compareSwap => 16
  | _ => 0

/-- The fields of a packet's header (R169). -/
structure Header where
  codes : Nat
  start : Nat
  hop : Nat
  turned : Bool
  order : Bool
  express : Bool
  op : Nat
  svc : Nat
  tenant : Nat
  mclass : Nat
  sport : Nat
  dport : Nat
  src : Nat
  dst : Nat
  tag : Nat
  gen : Nat
  size : Nat
  length : Nat
  addr : Nat
  crc : Nat
deriving DecidableEq, Repr

/-- Bits [255:0] of a head flit (R169). -/
def Header.word (h : Header) : Nat :=
  h.codes % 2 ^ 64 * 2 ^ 192 + h.start % 8 * 2 ^ 189 + h.hop % 64 * 2 ^ 183 + b2n h.turned * 2 ^ 182 + b2n h.order * 2 ^ 181 +
  b2n h.express * 2 ^ 180 + h.op % 16 * 2 ^ 176 + h.svc % 16 * 2 ^ 172 + h.tenant % 8 * 2 ^ 169 + h.mclass % 8 * 2 ^ 166 +
  h.sport % 8 * 2 ^ 163 + h.dport % 8 * 2 ^ 160 + h.src % 2048 * 2 ^ 149 + h.dst % 2048 * 2 ^ 138 + h.tag % 64 * 2 ^ 132 +
  h.gen % 16 * 2 ^ 128 + h.size % 256 * 2 ^ 120 + h.length % 16 * 2 ^ 116 + h.addr % 2 ^ 48 * 2 ^ 68 + h.crc % 2 ^ 32 * 2 ^ 36

/-- The header of a head flit (R169). -/
def headerOf (f : Nat) : Header where
  codes := bits f 255 192
  start := bits f 191 189
  hop := bits f 188 183
  turned := bitAt f 182
  order := bitAt f 181
  express := bitAt f 180
  op := bits f 179 176
  svc := bits f 175 172
  tenant := bits f 171 169
  mclass := bits f 168 166
  sport := bits f 165 163
  dport := bits f 162 160
  src := bits f 159 149
  dst := bits f 148 138
  tag := bits f 137 132
  gen := bits f 131 128
  size := bits f 127 120
  length := bits f 119 116
  addr := bits f 115 68
  crc := bits f 67 36

/-- Data flit f of a payload, without its sideband: bytes 32f to 32f + 31, the lowest in bits [7:0] (R169). -/
def payFlit (data : List Byte) (f : Nat) : Nat := leNat (slice 0#8 data (32 * f) 32)

/-- A packet's flits on virtual channel `vc`: head, then LENGTH data flits, each with its CHECK (R168, R169). -/
def mkPacket (h : Header) (vc : Nat) (data : List Byte) : List (BitVec 288) :=
  let n := ceilDiv data.length 32
  let h := { h with length := n, crc := if n = 0 then 0 else crc32 data }
  BitVec.ofNat 288 (withCheck ((if n = 0 then 3 else 0) * 2 ^ 286 + vc * 2 ^ 283 + h.word)) ::
  (List.range n).map (fun f => BitVec.ofNat 288 (withCheck ((if f + 1 = n then 2 else 1) * 2 ^ 286 + vc * 2 ^ 283 + payFlit data f)))

/-- TAG and GEN in the header. A DMA engine holds 128 requests with 64 tags: DESIGN CHOICE (log entry 87), its tags 64–127 are TAG 0–63 with the
upper half of the generations. -/
def tagGen (sport tag gen : Nat) : Nat × Nat := if sport = 4 then (tag % 64, tag / 64 * 8 + gen % 8) else (tag, gen)
def tagOf (sport t g : Nat) : Nat × Nat := if sport = 4 then (t + g / 8 * 64, g % 8) else (t, g)

/-! ### Requests and responses as packets (R165, R170, R174, R176) -/

/-- The class of a request (R170, R176): 0 real-time request, 1 request, 3 control. -/
def Req.cls (r : Req) : Nat := if r.op = .invalidate ∨ r.mclass = 3 ∨ r.mclass = 4 then 3 else if r.rt then 0 else 1

/-- A request's header (R169). -/
def Req.header (r : Req) : Header where
  codes := r.codes
  start := r.start
  hop := 0
  turned := false
  order := false
  express := r.express
  op := r.op.code
  svc := 0
  tenant := r.tenant
  mclass := r.mclass
  sport := r.sport
  dport := r.dport
  src := r.src
  dst := r.dst
  tag := (tagGen r.sport r.tag r.gen).1
  gen := (tagGen r.sport r.tag r.gen).2
  size := r.size - 1
  length := 0
  addr := r.addr
  crc := 0

/-- A packet with BAD set on the data flits listed (R168, R257). -/
def markBad (bad : List Nat) (l : List (BitVec 288)) : List (BitVec 288) :=
  if bad = [] then l
  else l.zipIdx.map (fun q => if 0 < q.2 && bad.contains (q.2 - 1) then BitVec.ofNat 288 (withCheck (setBits q.1.toNat 282 282 1)) else q.1)

/-- A request's packet as its source sends it: D is 0 (R165, R176). -/
def Req.packet (r : Req) : List (BitVec 288) := markBad r.bad (mkPacket r.header (2 * r.cls) r.data)

/-- Route code i of a header (R169). -/
def codeAt (codes i : Nat) : Nat := codes / 4 ^ i % 4

/-- LEFT and RIGHT swapped (R174). -/
def swapTurn (c : Nat) : Nat := if c = 1 then 2 else if c = 2 then 1 else c

/-- START and route codes of the way back from the router that a packet has reached over `hop` links: LOCAL at its own router; else opposite to
its heading, with the codes consumed reversed, LEFT and RIGHT swapped, and EJECT (R174). -/
def wayBack (codes start hop : Nat) : Nat × Nat :=
  if hop = 0 then (4, 0)
  else
    let used := (List.range (hop - 1)).map (codeAt codes)
    let back := used.reverse.map swapTurn ++ [3]
    ((used.foldl afterCode start + 2) % 4, (back.zipIdx.map (fun q => q.1 * 4 ^ q.2)).sum)

/-- The header of a response to a request whose header arrived as `h` (R174): ADDR is zero, and SIZE is the request's, as R182 reads it. -/
def Header.reply (h : Header) (svc : Nat) : Header :=
  let (start, codes) := wayBack h.codes h.start h.hop
  { h with codes := codes, start := start, hop := 0, turned := false, order := true, op := opResponse, svc := svc, sport := h.dport, dport := h.sport,
           src := h.dst, dst := h.src, addr := 0, length := 0, crc := 0 }

/-- The packet of a response (R170, R174): class response. -/
def Req.response (r : Req) (svc : Nat) (data : List Byte) : List (BitVec 288) :=
  mkPacket (({ r.header with hop := r.hop }).reply svc) 4 data

/-! ### Arrival (R182) -/

/-- The bytes of a packet's data flits, in order. -/
def flitBytes (l : List Nat) : List Byte := l.flatMap (fun f => leBytes 32 f)

/-- Payload bytes that a packet with this header carries (R170, R182): those of its LENGTH data flits that its operation and SIZE give. -/
def Header.payload (h : Header) (l : List Nat) : List Byte :=
  let n := if h.op = opResponse then h.size + 1 else match NOp.ofCode h.op with | some o => payloadLen o (h.size + 1) | none => 0
  if h.length = 0 then [] else slice 0#8 (flitBytes l) 0 n

/-- The payload check of R182: no flit is BAD, every data flit is there, and CRC is that of the payload. -/
def Header.payloadOk (h : Header) (l : List Nat) : Bool :=
  l.all (fun f => !flitBad f) && l.length = h.length && (h.length = 0 || crc32 (h.payload l) = h.crc)

/-- The request that a packet carries to its destination; the class says whether it is real-time (R170). -/
def Header.req (h : Header) (cls : Nat) (l : List Nat) (scopeAll : Bool) (path : Nat) : Option Req :=
  match NOp.ofCode h.op with
  | none => none
  | some o =>
    let (tag, gen) := tagOf h.sport h.tag h.gen
    some ⟨o, h.addr, h.size + 1, cls = 0, h.tenant, h.mclass, h.src, h.sport, tag, gen, h.payload l, h.payloadOk l, scopeAll, path, h.dst, h.dport,
      h.codes, h.start, h.hop, h.express, []⟩

/-- The response that a packet carries back to its requester (R174, R184). -/
def Header.resp (h : Header) (l : List Nat) : Resp :=
  let (tag, gen) := tagOf h.dport h.tag h.gen
  ⟨h.dst, h.dport, tag, gen, h.svc, h.payload l, h.svc = 5, h.payloadOk l⟩

end Sys2Proof.Machine
end

