-- ==== Sys2Proof/Config.lean ====
section
/-! DEFINITION. What an implementation fixes and what the manual leaves open: constants and functions without a body, so that no
proof can use a value of them. -/

namespace Sys2Proof.Config

/-- What an access reads as under one mix when it was stored under another (R336): draw of the key it was stored under and of the key it is read
under (0: none), the access, the data as written. The definition of the mix is not in the manual. -/
opaque remix : Nat → Nat → Nat → BitVec 256 → BitVec 256

/-- The keyed tag function of the protection engine (R340): draw of the tag key, position, counter, data. -/
opaque lineTag : Nat → Nat → Nat → List Byte → BitVec 64

/-- The identity of the device (R451, R69): the SILICON_ID of each die. Die 0's is DEVICE_ID. -/
opaque siliconId : Nat → BitVec 64

/-- Facts of the sample that IDENTIFY returns (R475): 0 SPEED, 1 REVISION, 2 MALTAR_VERSION, 3 PATCH_SET; 4 the
silicon revision of IDCODE (R508). -/
opaque partFact : Nat → BitVec 32

/-- What Byurlen writes into the system area (R86): the SHA-384 digest of the image signer's public key, and the public debug keys: 0 the device's,
1 + n that of tenant n. -/
opaque signerHash : BitVec 384
opaque debugKey : Nat → BitVec 768

/-- A debug nonce (R505): a fresh 32-byte value, indexed by State's free counter. -/
opaque freeNonce : Nat → BitVec 256

/-- A fresh protection or scrambling key from the on-die entropy source (R336, R340). -/
opaque freeKey : Nat → BitVec 256

/-- The random draw of the neighbor-refresh generator (R316). -/
opaque freeDraw : Nat → BitVec 32

/-- The value a port delivers where the manual calls it undefined or leaves it open (R136, R146, R272). -/
opaque freeWord : Nat → BitVec 72

/-- An open yes-or-no choice (R146: old or new byte; R99: poison data). -/
opaque freeBool : Nat → Bool

/-- The level of a signal that nothing drives, or that the manual leaves open (R113–R124): by the free counter. -/
opaque openWire : Nat → Machine.Wire → Bool

/-- The interface delays measured at assembly (R319): stack, band, interface line n of the delay set. Kept in the system area; the manual gives no values. -/
opaque factoryDelay : Nat → Nat → Nat → BitVec 16

/-- USER of a lane's capability word (R394): the profile's user value, for which the profile layout of R502 has no field. -/
opaque capUser : Nat → BitVec 16

/-- Maltar's patch set: units used (R515, R517), and what unit u patches: its block, and word w of its patch RAM. -/
opaque patchUsed : Fin 33
opaque patchBlock : Nat → BitVec 19
opaque patchWord : Nat → Nat → BitVec 32

end Sys2Proof.Config
end

