-- ==== Sys2Proof/Machine/RegDefs.lean ====
section
/-! DEFINITION. The register map: one name per register of the manual's register tables (03 R84, 07 R190–R191, 08 R200–R212,
10 R267, 11 R282, 12 R303, 13 R331–R332, 14 R353, 16 R383, 17 R408, 18 R432, 19 R449, 20 R470, 23 R517, 24 R533), each with
its register block, offset, fields, access codes and reset value. -/

namespace Sys2Proof.Machine

/-- The kinds of register block of R28; a tile block holds router, interface, engine and queue parts (R29). -/
inductive Blk where
  | devctl | clk | time | ev | seam | hbm | prot | rcache | dma | quad | hp | tile | dbg
deriving DecidableEq, Repr

/-- The access codes of R7. -/
inductive Acc where
  | rw | ro | wo | rc | w1c | rws
deriving DecidableEq, Repr

/-- One field of a register: its bits, access code, reset value, and the encodings it allows (all, when the list is empty; R8). -/
structure Fld where
  hi : Nat
  lo : Nat
  acc : Acc
  reset : Nat
  ok : List (Nat × Nat)
deriving DecidableEq, Repr

/-- A register of a block: `n` of them at `off`, `stride` bytes apart. -/
structure RegInfo where
  blk : Blk
  off : Nat
  n : Nat
  stride : Nat
  flds : List Fld
deriving DecidableEq, Repr

/-- The registers, by name. -/
inductive Rg where
  | regionStatus | regionFault | thermDie | thermCtl | tripLog | railMv
  | vccioMv | carCtl | carStatus | refHz | syCtl | syFrac
  | syStatus | gcCtl | fcCtl | fcSrc | fcCountLo | fcCountHi
  | rstCause | leafGate | timeCtl | timeRateTh | timeAdjTh | ppsOffset
  | ppsWidth | slStatus | slRootIdLo | slRootIdHi | slDelay | slOffset
  | slAsym | tkCtl | tkStatus | tkSnapNs | tkSnapSecLo | tkSnapSecHi
  | tkSetNs | tkSetSecLo | tkSetSecHi | tkAdjLo | tkAdjHi | tkIncrLo
  | tkIncrHi | tkIncrNowLo | tkIncrNowHi | tkAlarmNs | tkAlarmSecLo | tkAlarmSecHi
  | tkAlarmPeriod | tkCapCtl | tkCapNs | tkCapSecLo | tkCapSecHi | evOwner
  | evRaise | evErrors | evCount | seamIdent | seamReset | seamStatus
  | seamFault | flexRole | replayLimit | seamCounts | privStatus | fabricRepair
  | hbmStatus | hbmCtl | hbmMap | hbmXor | hbmDisturb | hbmRt
  | hbmTim0Sh | hbmTim1Sh | hbmTim2Sh | hbmTim0 | hbmTim1 | hbmTim2
  | hbmFreeze | hbmFreezeRow | hbmCounts | hbmDelay | eccCountS | eccLogctlS
  | eccTestS | eccLogLoS | eccLogHiS | eccCountT | eccLogctlT | eccTestT
  | eccLogLoT | eccLogHiT | eccCountD | eccLogctlD | eccLogLoD | eccLogHiD
  | protStatus | protCounts | twinRange | twinCtl | pwinRange | pwinCtl
  | pwinRights | pwinMeta | pwinTamper | pwinFault | rcacheCounts | rcacheWin
  | deStatus | chCtl | chHeadLo | chHeadHi | chStatus | chDescLo
  | chDescHi | chMmLo | chMmHi | chCounts | quadStatus | quadCtl
  | quadReffreq | lnCtl | lnRate | lnRateF | lnTxeq | lnRxeq
  | lnState | lnCapLo | lnCapHi | lnPartnerLo | lnPartnerHi | lnMon
  | lnAn | lnTest | lnTestErr | lnUserpatLo | lnUserpatHi | lnMac
  | lnNetq | lnRxCounts | lnTxCounts | lnRmCounts | lnFecCounts | lnTxstampNs
  | lnTxstampSecLo | lnTxstampSecHi | lnTxstampStatus | lnSlStatus | lnSlIdLo | lnSlIdHi
  | lnHunt0 | lnHunt1 | lnHunt2 | lnHunt3 | lnHunt4 | lnHunt5
  | lnHunt6 | lnHunt7 | hpStatus | hpCounts | hpBar2Err | hpBar2AddrLo
  | hpBar2AddrHi | hpRelay | hpXlat | mpAddr | rtrApply | rtrLinkEn
  | rtrLinkEnSh | rtrStatus | rtrCreditSh | rtrCredit | rtrArbSh | rtrArb
  | rtrErrors | rtrFault | niCtl | niTimeout | niStatus | niErrors
  | routeLo | routeHi | routeCtl | engCtl | engStatus | engFault
  | engIrq | engEvselLo | engEvselHi | engDoorbell | engWdog | engWdcnt
  | engReturn | qCtl | qStatus | qCount | qErrors | qPushLo
  | qPushHi | qPushLastLo | qPushLastHi | qPushAbort | qPopLo | qPopHi
  | qPopFlags | dbgStatus | dbgEngSel | dbgEngCtl | dbgEngInject | dbgEngStatus
  | dbgEngSample | ebrk | trcCtl | trcEntry | refDbgCtl | refDbgStatus
  | refPc | refInject | puStatus | puCtl | puRam
deriving DecidableEq, Repr

/-- Block, offset and fields of a register, as its chapter's table gives them. -/
def Rg.info : Rg → RegInfo
  | .regionStatus => ⟨.devctl, 0x1000, 64, 0x10,
      [⟨31, 29, .ro, 0, []⟩, ⟨28, 28, .ro, 0, []⟩, ⟨27, 25, .ro, 0, []⟩, ⟨23, 16, .ro, 0, []⟩, ⟨10, 0, .ro, 0, []⟩]⟩
  | .regionFault => ⟨.devctl, 0x1004, 64, 0x10,
      [⟨31, 0, .ro, 0, []⟩]⟩
  | .thermDie => ⟨.devctl, 0x2000, 4, 0x4,
      [⟨31, 31, .ro, 0, []⟩, ⟨23, 16, .rc, 128, []⟩, ⟨7, 0, .ro, 128, []⟩]⟩
  | .thermCtl => ⟨.devctl, 0x2010, 1, 0x4,
      [⟨7, 0, .rw, 100, [(70, 104)]⟩]⟩
  | .tripLog => ⟨.devctl, 0x2014, 1, 0x4,
      [⟨31, 31, .w1c, 0, []⟩, ⟨30, 28, .ro, 0, []⟩, ⟨7, 0, .ro, 0, []⟩]⟩
  | .railMv => ⟨.devctl, 0x2020, 8, 0x4,
      [⟨31, 31, .ro, 0, []⟩, ⟨30, 30, .ro, 0, []⟩, ⟨15, 0, .ro, 0, []⟩]⟩
  | .vccioMv => ⟨.devctl, 0x2040, 10, 0x4,
      [⟨31, 31, .ro, 0, []⟩, ⟨30, 30, .ro, 0, []⟩, ⟨29, 29, .ro, 0, []⟩, ⟨15, 0, .ro, 0, []⟩]⟩
  | .carCtl => ⟨.clk, 0x0, 1, 0x4,
      [⟨31, 31, .rw, 0, []⟩, ⟨29, 28, .rw, 1, [(0, 2)]⟩, ⟨24, 16, .rw, 40, [(32, 40), (256, 447)]⟩, ⟨15, 0, .rw, 300, [(1, 720)]⟩]⟩
  | .carStatus => ⟨.clk, 0x4, 1, 0x4,
      [⟨31, 31, .ro, 1, []⟩, ⟨30, 30, .ro, 0, []⟩, ⟨29, 29, .ro, 0, []⟩, ⟨28, 28, .ro, 0, []⟩, ⟨24, 16, .ro, 40, []⟩, ⟨7, 0, .rc, 0, []⟩]⟩
  | .refHz => ⟨.clk, 0x40, 9, 0x4,
      [⟨29, 0, .rw, 0, []⟩]⟩
  | .syCtl => ⟨.clk, 0x100, 32, 0x10,
      [⟨31, 31, .rw, 0, []⟩, ⟨30, 22, .rw, 40, []⟩, ⟨21, 12, .rw, 4, [(4, 1023)]⟩, ⟨7, 0, .rw, 16, [(16, 255)]⟩]⟩
  | .syFrac => ⟨.clk, 0x104, 32, 0x10,
      [⟨23, 0, .rw, 0, []⟩]⟩
  | .syStatus => ⟨.clk, 0x108, 32, 0x10,
      [⟨31, 31, .ro, 0, []⟩, ⟨7, 0, .rc, 0, []⟩]⟩
  | .gcCtl => ⟨.clk, 0x400, 64, 0x4,
      [⟨31, 31, .rw, 0, []⟩, ⟨30, 30, .ro, 0, []⟩, ⟨29, 29, .w1c, 0, []⟩, ⟨25, 16, .rw, 0, []⟩, ⟨8, 0, .rw, 40, [(0, 41), (43, 43)]⟩]⟩
  | .fcCtl => ⟨.clk, 0x800, 8, 0x10,
      [⟨31, 31, .wo, 0, []⟩, ⟨30, 30, .ro, 0, []⟩, ⟨29, 29, .ro, 0, []⟩, ⟨20, 16, .rw, 20, [(10, 30)]⟩, ⟨15, 15, .rw, 0, []⟩, ⟨7, 0, .rw, 0, []⟩]⟩
  | .fcSrc => ⟨.clk, 0x804, 8, 0x10,
      [⟨24, 16, .rw, 40, [(0, 43), (64, 127), (256, 447)]⟩, ⟨8, 0, .rw, 41, [(0, 43), (64, 127), (256, 447)]⟩]⟩
  | .fcCountLo => ⟨.clk, 0x808, 8, 0x10,
      [⟨31, 0, .ro, 0, []⟩]⟩
  | .fcCountHi => ⟨.clk, 0x80C, 8, 0x10,
      [⟨7, 0, .ro, 0, []⟩]⟩
  | .rstCause => ⟨.clk, 0xC00, 1, 0x4,
      [⟨31, 28, .ro, 1, []⟩, ⟨15, 0, .rc, 0, []⟩]⟩
  | .leafGate => ⟨.clk, 0x8000, 1024, 0x4,
      [⟨7, 0, .rw, 0, []⟩]⟩
  | .timeCtl => ⟨.time, 0x0, 1, 0x4,
      [⟨31, 31, .rw, 0, []⟩, ⟨30, 30, .rw, 1, []⟩, ⟨28, 28, .rw, 0, []⟩, ⟨27, 20, .rw, 0, []⟩, ⟨15, 0, .ro, 0, []⟩]⟩
  | .timeRateTh => ⟨.time, 0x4, 1, 0x4,
      [⟨23, 0, .rw, 1717987, []⟩]⟩
  | .timeAdjTh => ⟨.time, 0x8, 1, 0x4,
      [⟨31, 0, .rw, 1000, []⟩]⟩
  | .ppsOffset => ⟨.time, 0x10, 1, 0x4,
      [⟨29, 0, .rw, 0, [(0, 999999999)]⟩]⟩
  | .ppsWidth => ⟨.time, 0x14, 1, 0x4,
      [⟨19, 0, .rw, 100, [(1, 999999)]⟩]⟩
  | .slStatus => ⟨.time, 0x20, 1, 0x4,
      [⟨31, 31, .ro, 0, []⟩, ⟨30, 30, .ro, 0, []⟩, ⟨23, 16, .ro, 0, []⟩, ⟨12, 8, .ro, 0, []⟩, ⟨7, 0, .ro, 0, []⟩]⟩
  | .slRootIdLo => ⟨.time, 0x24, 1, 0x4,
      [⟨31, 0, .ro, 0, []⟩]⟩
  | .slRootIdHi => ⟨.time, 0x28, 1, 0x4,
      [⟨31, 0, .ro, 0, []⟩]⟩
  | .slDelay => ⟨.time, 0x2C, 1, 0x4,
      [⟨31, 0, .ro, 0, []⟩]⟩
  | .slOffset => ⟨.time, 0x30, 1, 0x4,
      [⟨31, 0, .ro, 0, []⟩]⟩
  | .slAsym => ⟨.time, 0x400, 192, 0x4,
      [⟨15, 0, .rw, 0, []⟩]⟩
  | .tkCtl => ⟨.time, 0x1000, 8, 0x100,
      [⟨31, 31, .rw, 1, []⟩, ⟨30, 30, .wo, 0, []⟩, ⟨29, 29, .wo, 0, []⟩, ⟨28, 28, .wo, 0, []⟩, ⟨27, 27, .wo, 0, []⟩, ⟨26, 26, .wo, 0, []⟩, ⟨25, 25, .rw, 0, []⟩, ⟨24, 24, .rw, 0, []⟩, ⟨23, 16, .rw, 0, []⟩, ⟨15, 8, .rw, 0, []⟩, ⟨7, 0, .rw, 0, []⟩]⟩
  | .tkStatus => ⟨.time, 0x1004, 8, 0x100,
      [⟨31, 31, .ro, 1, []⟩, ⟨30, 30, .ro, 0, []⟩, ⟨29, 29, .w1c, 0, []⟩, ⟨28, 26, .ro, 0, []⟩, ⟨25, 25, .ro, 0, []⟩, ⟨2, 0, .ro, 0, []⟩]⟩
  | .tkSnapNs => ⟨.time, 0x1010, 8, 0x100,
      [⟨31, 0, .ro, 0, []⟩]⟩
  | .tkSnapSecLo => ⟨.time, 0x1014, 8, 0x100,
      [⟨31, 0, .ro, 0, []⟩]⟩
  | .tkSnapSecHi => ⟨.time, 0x1018, 8, 0x100,
      [⟨31, 16, .ro, 0, []⟩, ⟨15, 0, .ro, 0, []⟩]⟩
  | .tkSetNs => ⟨.time, 0x1020, 8, 0x100,
      [⟨31, 0, .rw, 0, []⟩]⟩
  | .tkSetSecLo => ⟨.time, 0x1024, 8, 0x100,
      [⟨31, 0, .rw, 0, []⟩]⟩
  | .tkSetSecHi => ⟨.time, 0x1028, 8, 0x100,
      [⟨31, 16, .rw, 0, []⟩, ⟨15, 0, .rw, 0, []⟩]⟩
  | .tkAdjLo => ⟨.time, 0x1030, 8, 0x100,
      [⟨31, 0, .rw, 0, []⟩]⟩
  | .tkAdjHi => ⟨.time, 0x1034, 8, 0x100,
      [⟨31, 0, .rw, 0, []⟩]⟩
  | .tkIncrLo => ⟨.time, 0x1040, 8, 0x100,
      [⟨31, 0, .rw, 0, []⟩]⟩
  | .tkIncrHi => ⟨.time, 0x1044, 8, 0x100,
      [⟨7, 0, .rw, 2, []⟩]⟩
  | .tkIncrNowLo => ⟨.time, 0x1048, 8, 0x100,
      [⟨31, 0, .ro, 0, []⟩]⟩
  | .tkIncrNowHi => ⟨.time, 0x104C, 8, 0x100,
      [⟨7, 0, .ro, 2, []⟩]⟩
  | .tkAlarmNs => ⟨.time, 0x1050, 8, 0x100,
      [⟨31, 0, .rw, 0, []⟩]⟩
  | .tkAlarmSecLo => ⟨.time, 0x1054, 8, 0x100,
      [⟨31, 0, .rw, 0, []⟩]⟩
  | .tkAlarmSecHi => ⟨.time, 0x1058, 8, 0x100,
      [⟨15, 0, .rw, 0, []⟩]⟩
  | .tkAlarmPeriod => ⟨.time, 0x105C, 8, 0x100,
      [⟨29, 0, .rw, 0, []⟩]⟩
  | .tkCapCtl => ⟨.time, 0x1060, 8, 0x100,
      [⟨9, 9, .w1c, 0, []⟩, ⟨8, 8, .w1c, 0, []⟩, ⟨1, 0, .rw, 0, [(0, 2)]⟩]⟩
  | .tkCapNs => ⟨.time, 0x1064, 8, 0x100,
      [⟨31, 0, .ro, 0, []⟩]⟩
  | .tkCapSecLo => ⟨.time, 0x1068, 8, 0x100,
      [⟨31, 0, .ro, 0, []⟩]⟩
  | .tkCapSecHi => ⟨.time, 0x106C, 8, 0x100,
      [⟨31, 16, .ro, 0, []⟩, ⟨15, 0, .ro, 0, []⟩]⟩
  | .evOwner => ⟨.ev, 0x0, 32, 0x4,
      [⟨30, 28, .rw, 0, []⟩, ⟨26, 24, .rw, 0, []⟩, ⟨22, 20, .rw, 0, []⟩, ⟨18, 16, .rw, 0, []⟩, ⟨14, 12, .rw, 0, []⟩, ⟨10, 8, .rw, 0, []⟩, ⟨6, 4, .rw, 0, []⟩, ⟨2, 0, .rw, 0, []⟩]⟩
  | .evRaise => ⟨.ev, 0x100, 8, 0x4,
      [⟨31, 0, .wo, 0, []⟩]⟩
  | .evErrors => ⟨.ev, 0x200, 1, 0x4,
      [⟨31, 16, .rc, 0, []⟩, ⟨15, 0, .rc, 0, []⟩]⟩
  | .evCount => ⟨.ev, 0x400, 256, 0x4,
      [⟨31, 0, .ro, 0, []⟩]⟩
  | .seamIdent => ⟨.seam, 0x0, 1, 0x4,
      [⟨5, 5, .ro, 0, []⟩, ⟨4, 4, .ro, 0, []⟩, ⟨1, 0, .ro, 0, []⟩]⟩
  | .seamReset => ⟨.seam, 0x8, 1, 0x4,
      [⟨31, 31, .wo, 0, []⟩, ⟨16, 16, .rw, 0, []⟩, ⟨7, 0, .rw, 0, [(0, 128), (255, 255)]⟩]⟩
  | .seamStatus => ⟨.seam, 0x40, 1, 0x4,
      [⟨31, 31, .ro, 0, []⟩, ⟨30, 30, .ro, 0, []⟩, ⟨23, 16, .ro, 0, []⟩, ⟨15, 8, .ro, 0, []⟩, ⟨1, 1, .ro, 0, []⟩, ⟨0, 0, .ro, 0, []⟩]⟩
  | .seamFault => ⟨.seam, 0x44, 1, 0x4,
      [⟨31, 24, .ro, 0, []⟩, ⟨23, 23, .ro, 0, []⟩, ⟨17, 14, .ro, 0, []⟩, ⟨13, 8, .ro, 0, []⟩, ⟨5, 0, .ro, 0, []⟩]⟩
  | .flexRole => ⟨.seam, 0x48, 2, 0x4,
      [⟨31, 0, .ro, 0, []⟩]⟩
  | .replayLimit => ⟨.seam, 0x50, 1, 0x4,
      [⟨15, 0, .rws, 1, [(1, 65535)]⟩]⟩
  | .seamCounts => ⟨.seam, 0x54, 1, 0x4,
      [⟨31, 24, .rc, 0, []⟩, ⟨23, 16, .rc, 0, []⟩, ⟨15, 8, .rc, 0, []⟩]⟩
  | .privStatus => ⟨.seam, 0x1000, 512, 0x4,
      [⟨31, 30, .ro, 0, []⟩, ⟨23, 8, .ro, 0, []⟩, ⟨7, 0, .ro, 0, []⟩]⟩
  | .fabricRepair => ⟨.seam, 0x2000, 2048, 0x4,
      [⟨31, 4, .ro, 0, []⟩, ⟨3, 0, .ro, 0, []⟩]⟩
  | .hbmStatus => ⟨.hbm, 0x0, 1, 0x4,
      [⟨31, 29, .ro, 0, []⟩, ⟨28, 27, .ro, 2, []⟩, ⟨26, 25, .ro, 1, []⟩, ⟨24, 24, .ro, 0, []⟩, ⟨23, 23, .ro, 0, []⟩, ⟨19, 16, .ro, 0, []⟩, ⟨7, 0, .ro, 128, []⟩]⟩
  | .hbmCtl => ⟨.hbm, 0x4, 1, 0x4,
      [⟨31, 31, .wo, 0, []⟩, ⟨30, 30, .wo, 0, []⟩, ⟨29, 28, .rw, 2, [(0, 2)]⟩, ⟨0, 0, .rw, 1, []⟩]⟩
  | .hbmMap => ⟨.hbm, 0x8, 1, 0x4,
      [⟨31, 31, .ro, 0, []⟩, ⟨1, 0, .ro, 0, []⟩]⟩
  | .hbmXor => ⟨.hbm, 0x10, 9, 0x4,
      [⟨14, 0, .ro, 0, []⟩]⟩
  | .hbmDisturb => ⟨.hbm, 0x40, 1, 0x4,
      [⟨8, 8, .ro, 0, []⟩, ⟨3, 0, .rw, 10, [(6, 14)]⟩]⟩
  | .hbmRt => ⟨.hbm, 0x50, 4, 0x4,
      [⟨31, 31, .ro, 0, []⟩, ⟨19, 16, .ro, 0, []⟩, ⟨11, 8, .ro, 15, []⟩, ⟨3, 0, .rw, 2, []⟩]⟩
  | .hbmTim0Sh => ⟨.hbm, 0x100, 1, 0x4,
      [⟨31, 24, .rw, 14, [(1, 255)]⟩, ⟨23, 16, .rw, 14, [(1, 255)]⟩, ⟨15, 8, .rw, 33, [(1, 255)]⟩, ⟨7, 0, .rw, 14, [(1, 255)]⟩]⟩
  | .hbmTim1Sh => ⟨.hbm, 0x104, 1, 0x4,
      [⟨31, 24, .rw, 6, [(1, 255)]⟩, ⟨23, 16, .rw, 2, [(1, 255)]⟩, ⟨15, 8, .rw, 16, [(1, 255)]⟩, ⟨7, 0, .rw, 16, [(1, 255)]⟩]⟩
  | .hbmTim2Sh => ⟨.hbm, 0x108, 1, 0x4,
      [⟨31, 16, .rw, 3900, [(1, 65535)]⟩, ⟨15, 0, .rw, 200, [(1, 65535)]⟩]⟩
  | .hbmTim0 => ⟨.hbm, 0x140, 1, 0x4,
      [⟨31, 24, .ro, 14, []⟩, ⟨23, 16, .ro, 14, []⟩, ⟨15, 8, .ro, 33, []⟩, ⟨7, 0, .ro, 14, []⟩]⟩
  | .hbmTim1 => ⟨.hbm, 0x144, 1, 0x4,
      [⟨31, 24, .ro, 6, []⟩, ⟨23, 16, .ro, 2, []⟩, ⟨15, 8, .ro, 16, []⟩, ⟨7, 0, .ro, 16, []⟩]⟩
  | .hbmTim2 => ⟨.hbm, 0x148, 1, 0x4,
      [⟨31, 16, .ro, 3900, []⟩, ⟨15, 0, .ro, 200, []⟩]⟩
  | .hbmFreeze => ⟨.hbm, 0x200, 1, 0x4,
      [⟨31, 29, .ro, 0, []⟩, ⟨28, 24, .ro, 0, []⟩, ⟨23, 23, .ro, 0, []⟩, ⟨22, 21, .ro, 0, []⟩, ⟨20, 19, .ro, 0, []⟩, ⟨18, 14, .ro, 0, []⟩]⟩
  | .hbmFreezeRow => ⟨.hbm, 0x204, 1, 0x4,
      [⟨29, 16, .ro, 0, []⟩, ⟨14, 0, .ro, 0, []⟩]⟩
  | .hbmCounts => ⟨.hbm, 0x300, 1, 0x4,
      [⟨31, 16, .rc, 0, []⟩, ⟨15, 8, .rc, 0, []⟩, ⟨7, 0, .rc, 0, []⟩]⟩
  | .hbmDelay => ⟨.hbm, 0x4000, 1280, 0x4,
      [⟨23, 16, .rw, 0, []⟩, ⟨15, 8, .rw, 0, []⟩]⟩
  | .eccCountS => ⟨.hbm, 0x400, 1, 0x4,
      [⟨31, 16, .rc, 0, []⟩, ⟨15, 8, .rc, 0, []⟩, ⟨7, 7, .ro, 0, []⟩, ⟨4, 0, .ro, 0, []⟩]⟩
  | .eccLogctlS => ⟨.hbm, 0x404, 1, 0x4,
      [⟨31, 31, .wo, 0, []⟩]⟩
  | .eccTestS => ⟨.hbm, 0x408, 1, 0x4,
      [⟨31, 31, .rw, 0, []⟩, ⟨1, 0, .wo, 0, []⟩]⟩
  | .eccLogLoS => ⟨.hbm, 0x440, 16, 0x8,
      [⟨31, 0, .ro, 0, []⟩]⟩
  | .eccLogHiS => ⟨.hbm, 0x444, 16, 0x8,
      [⟨31, 28, .ro, 0, []⟩, ⟨27, 27, .ro, 0, []⟩, ⟨26, 26, .ro, 0, []⟩, ⟨25, 16, .ro, 0, []⟩, ⟨15, 0, .ro, 0, []⟩]⟩
  | .eccCountT => ⟨.tile, 0x3000, 1, 0x4,
      [⟨31, 16, .rc, 0, []⟩, ⟨15, 8, .rc, 0, []⟩, ⟨7, 7, .ro, 0, []⟩, ⟨4, 0, .ro, 0, []⟩]⟩
  | .eccLogctlT => ⟨.tile, 0x3004, 1, 0x4,
      [⟨31, 31, .wo, 0, []⟩]⟩
  | .eccTestT => ⟨.tile, 0x3008, 1, 0x4,
      [⟨31, 31, .rw, 0, []⟩, ⟨23, 20, .wo, 0, []⟩, ⟨19, 19, .rw, 0, []⟩, ⟨18, 17, .rw, 0, [(0, 2)]⟩, ⟨6, 0, .rw, 0, []⟩]⟩
  | .eccLogLoT => ⟨.tile, 0x3040, 16, 0x8,
      [⟨31, 0, .ro, 0, []⟩]⟩
  | .eccLogHiT => ⟨.tile, 0x3044, 16, 0x8,
      [⟨31, 28, .ro, 0, []⟩, ⟨27, 27, .ro, 0, []⟩, ⟨26, 26, .ro, 0, []⟩, ⟨25, 16, .ro, 0, []⟩, ⟨15, 0, .ro, 0, []⟩]⟩
  | .eccCountD => ⟨.seam, 0x8000, 1, 0x4,
      [⟨31, 16, .rc, 0, []⟩, ⟨15, 8, .rc, 0, []⟩, ⟨7, 7, .ro, 0, []⟩, ⟨4, 0, .ro, 0, []⟩]⟩
  | .eccLogctlD => ⟨.seam, 0x8004, 1, 0x4,
      [⟨31, 31, .wo, 0, []⟩]⟩
  | .eccLogLoD => ⟨.seam, 0x8040, 16, 0x8,
      [⟨31, 0, .ro, 0, []⟩]⟩
  | .eccLogHiD => ⟨.seam, 0x8044, 16, 0x8,
      [⟨31, 28, .ro, 0, []⟩, ⟨27, 27, .ro, 0, []⟩, ⟨26, 26, .ro, 0, []⟩, ⟨25, 16, .ro, 0, []⟩, ⟨15, 0, .ro, 0, []⟩]⟩
  | .protStatus => ⟨.prot, 0x0, 1, 0x4,
      [⟨31, 26, .ro, 0, []⟩, ⟨25, 21, .ro, 0, []⟩]⟩
  | .protCounts => ⟨.prot, 0x4, 1, 0x4,
      [⟨31, 16, .rc, 0, []⟩, ⟨15, 0, .rc, 0, []⟩]⟩
  | .twinRange => ⟨.prot, 0x100, 16, 0x8,
      [⟨24, 16, .ro, 0, []⟩, ⟨8, 0, .ro, 0, []⟩]⟩
  | .twinCtl => ⟨.prot, 0x104, 16, 0x8,
      [⟨31, 31, .ro, 0, []⟩, ⟨30, 30, .ro, 0, []⟩, ⟨29, 27, .ro, 0, []⟩, ⟨9, 0, .ro, 0, []⟩]⟩
  | .pwinRange => ⟨.prot, 0x1000, 16, 0x20,
      [⟨24, 16, .ro, 0, []⟩, ⟨8, 0, .ro, 0, []⟩]⟩
  | .pwinCtl => ⟨.prot, 0x1004, 16, 0x20,
      [⟨31, 29, .ro, 0, []⟩, ⟨28, 26, .ro, 0, []⟩, ⟨25, 25, .ro, 0, []⟩, ⟨24, 21, .ro, 0, []⟩]⟩
  | .pwinRights => ⟨.prot, 0x1008, 16, 0x20,
      [⟨31, 31, .rw, 0, []⟩, ⟨9, 0, .rw, 0, []⟩]⟩
  | .pwinMeta => ⟨.prot, 0x100C, 16, 0x20,
      [⟨31, 16, .ro, 0, []⟩, ⟨15, 0, .ro, 0, []⟩]⟩
  | .pwinTamper => ⟨.prot, 0x1010, 16, 0x20,
      [⟨15, 0, .rc, 0, []⟩]⟩
  | .pwinFault => ⟨.prot, 0x1014, 16, 0x20,
      [⟨31, 31, .ro, 0, []⟩, ⟨30, 27, .ro, 0, []⟩, ⟨22, 0, .ro, 0, []⟩]⟩
  | .rcacheCounts => ⟨.rcache, 0x0, 1, 0x4,
      [⟨31, 16, .rc, 0, []⟩, ⟨15, 0, .rc, 0, []⟩]⟩
  | .rcacheWin => ⟨.rcache, 0x10, 8, 0x4,
      [⟨31, 31, .ro, 0, []⟩, ⟨26, 16, .ro, 0, []⟩, ⟨10, 0, .ro, 0, []⟩]⟩
  | .deStatus => ⟨.dma, 0x0, 1, 0x4,
      [⟨13, 6, .ro, 0, []⟩, ⟨5, 0, .ro, 0, []⟩]⟩
  | .chCtl => ⟨.dma, 0x1000, 32, 0x40,
      [⟨31, 31, .wo, 0, []⟩, ⟨30, 30, .rw, 1, []⟩, ⟨29, 27, .rw, 0, []⟩, ⟨26, 26, .rw, 0, []⟩, ⟨23, 16, .rw, 0, []⟩, ⟨15, 8, .rw, 0, []⟩, ⟨7, 7, .rw, 0, []⟩, ⟨2, 0, .ro, 0, []⟩]⟩
  | .chHeadLo => ⟨.dma, 0x1004, 32, 0x40,
      [⟨31, 5, .rw, 0, []⟩]⟩
  | .chHeadHi => ⟨.dma, 0x1008, 32, 0x40,
      [⟨15, 0, .rw, 0, []⟩]⟩
  | .chStatus => ⟨.dma, 0x100C, 32, 0x40,
      [⟨31, 30, .ro, 0, []⟩, ⟨29, 29, .ro, 0, []⟩, ⟨28, 24, .ro, 0, []⟩, ⟨23, 22, .ro, 0, []⟩, ⟨6, 0, .ro, 0, []⟩]⟩
  | .chDescLo => ⟨.dma, 0x1010, 32, 0x40,
      [⟨31, 0, .ro, 0, []⟩]⟩
  | .chDescHi => ⟨.dma, 0x1014, 32, 0x40,
      [⟨15, 0, .ro, 0, []⟩]⟩
  | .chMmLo => ⟨.dma, 0x1018, 32, 0x40,
      [⟨31, 0, .ro, 0, []⟩]⟩
  | .chMmHi => ⟨.dma, 0x101C, 32, 0x40,
      [⟨7, 0, .ro, 0, []⟩]⟩
  | .chCounts => ⟨.dma, 0x1020, 32, 0x40,
      [⟨31, 16, .rc, 0, []⟩, ⟨15, 8, .rc, 0, []⟩]⟩
  | .quadStatus => ⟨.quad, 0x40, 1, 0x4,
      [⟨31, 0, .ro, 404232216, []⟩]⟩
  | .quadCtl => ⟨.quad, 0x0, 1, 0x4,
      [⟨31, 31, .rw, 1, []⟩, ⟨30, 30, .ro, 0, []⟩, ⟨10, 8, .ro, 0, []⟩, ⟨4, 2, .rw, 0, []⟩, ⟨1, 0, .rw, 0, [(0, 2)]⟩]⟩
  | .quadReffreq => ⟨.quad, 0x4, 1, 0x4,
      [⟨18, 0, .rw, 156250, [(100000, 400000)]⟩]⟩
  | .lnCtl => ⟨.quad, 0x1000, 4, 0x1000,
      [⟨31, 31, .rw, 0, []⟩, ⟨30, 30, .wo, 0, []⟩, ⟨29, 29, .rw, 0, []⟩, ⟨28, 28, .rw, 1, []⟩, ⟨27, 24, .rw, 0, []⟩, ⟨23, 23, .rw, 0, []⟩, ⟨22, 15, .rw, 0, []⟩, ⟨9, 0, .rw, 10, [(1, 1000)]⟩]⟩
  | .lnRate => ⟨.quad, 0x1004, 4, 0x1000,
      [⟨31, 29, .rw, 4, [(0, 4)]⟩, ⟨7, 0, .rw, 64, [(16, 255)]⟩]⟩
  | .lnRateF => ⟨.quad, 0x1008, 4, 0x1000,
      [⟨23, 0, .rw, 0, []⟩]⟩
  | .lnTxeq => ⟨.quad, 0x1010, 4, 0x1000,
      [⟨31, 28, .rw, 8, []⟩, ⟨19, 16, .rw, 0, []⟩, ⟨12, 8, .rw, 0, []⟩, ⟨5, 0, .rw, 63, []⟩]⟩
  | .lnRxeq => ⟨.quad, 0x1014, 4, 0x1000,
      [⟨31, 31, .rw, 0, []⟩, ⟨25, 16, .rw, 10, [(1, 1000)]⟩, ⟨3, 0, .rw, 0, []⟩]⟩
  | .lnState => ⟨.quad, 0x1020, 4, 0x1000,
      [⟨31, 29, .ro, 0, []⟩, ⟨28, 28, .ro, 1, []⟩, ⟨27, 27, .ro, 1, []⟩, ⟨26, 26, .ro, 0, []⟩, ⟨25, 25, .ro, 0, []⟩, ⟨24, 24, .ro, 0, []⟩, ⟨23, 20, .ro, 0, []⟩, ⟨19, 18, .ro, 0, []⟩, ⟨16, 14, .ro, 0, []⟩, ⟨7, 0, .rc, 0, []⟩]⟩
  | .lnCapLo => ⟨.quad, 0x1024, 4, 0x1000,
      [⟨31, 0, .ro, 0, []⟩]⟩
  | .lnCapHi => ⟨.quad, 0x1028, 4, 0x1000,
      [⟨31, 0, .ro, 0, []⟩]⟩
  | .lnPartnerLo => ⟨.quad, 0x102C, 4, 0x1000,
      [⟨31, 0, .ro, 0, []⟩]⟩
  | .lnPartnerHi => ⟨.quad, 0x1030, 4, 0x1000,
      [⟨31, 0, .ro, 0, []⟩]⟩
  | .lnMon => ⟨.quad, 0x1034, 4, 0x1000,
      [⟨23, 16, .rw, 16, [(4, 255)]⟩, ⟨12, 8, .rw, 10, [(1, 31)]⟩, ⟨3, 0, .rw, 4, [(0, 14)]⟩]⟩
  | .lnAn => ⟨.quad, 0x1038, 4, 0x1000,
      [⟨8, 0, .rw, 240, []⟩]⟩
  | .lnTest => ⟨.quad, 0x1040, 4, 0x1000,
      [⟨31, 31, .rw, 0, []⟩, ⟨30, 30, .rw, 0, []⟩, ⟨29, 29, .rw, 0, []⟩, ⟨28, 26, .rw, 0, [(0, 4)]⟩, ⟨25, 25, .ro, 0, []⟩, ⟨24, 24, .wo, 0, []⟩, ⟨23, 23, .wo, 0, []⟩, ⟨21, 16, .rw, 0, []⟩]⟩
  | .lnTestErr => ⟨.quad, 0x1044, 4, 0x1000,
      [⟨31, 0, .rc, 0, []⟩]⟩
  | .lnUserpatLo => ⟨.quad, 0x1048, 4, 0x1000,
      [⟨31, 0, .rw, 0, []⟩]⟩
  | .lnUserpatHi => ⟨.quad, 0x104C, 4, 0x1000,
      [⟨31, 0, .rw, 0, []⟩]⟩
  | .lnMac => ⟨.quad, 0x1060, 4, 0x1000,
      [⟨31, 24, .rw, 0, []⟩, ⟨23, 23, .rw, 0, []⟩, ⟨22, 22, .rw, 0, []⟩, ⟨21, 21, .rw, 0, []⟩, ⟨20, 20, .rw, 1, []⟩, ⟨19, 19, .ro, 0, []⟩, ⟨13, 0, .rw, 1522, [(1, 8160)]⟩]⟩
  | .lnNetq => ⟨.quad, 0x1064, 4, 0x1000,
      [⟨31, 31, .rw, 0, []⟩, ⟨25, 16, .rw, 0, []⟩, ⟨1, 0, .rw, 0, []⟩]⟩
  | .lnRxCounts => ⟨.quad, 0x1070, 4, 0x1000,
      [⟨31, 16, .rc, 0, []⟩, ⟨15, 8, .rc, 0, []⟩, ⟨7, 0, .rc, 0, []⟩]⟩
  | .lnTxCounts => ⟨.quad, 0x1074, 4, 0x1000,
      [⟨31, 16, .rc, 0, []⟩, ⟨15, 8, .rc, 0, []⟩, ⟨7, 4, .rc, 0, []⟩, ⟨3, 0, .rc, 0, []⟩]⟩
  | .lnRmCounts => ⟨.quad, 0x1078, 4, 0x1000,
      [⟨31, 24, .rc, 0, []⟩, ⟨15, 8, .rc, 0, []⟩, ⟨7, 0, .rc, 0, []⟩]⟩
  | .lnFecCounts => ⟨.quad, 0x107C, 4, 0x1000,
      [⟨31, 16, .rc, 0, []⟩, ⟨15, 0, .rc, 0, []⟩]⟩
  | .lnTxstampNs => ⟨.quad, 0x1080, 4, 0x1000,
      [⟨31, 0, .rc, 0, []⟩]⟩
  | .lnTxstampSecLo => ⟨.quad, 0x1084, 4, 0x1000,
      [⟨31, 0, .ro, 0, []⟩]⟩
  | .lnTxstampSecHi => ⟨.quad, 0x1088, 4, 0x1000,
      [⟨31, 16, .ro, 0, []⟩, ⟨15, 0, .ro, 0, []⟩]⟩
  | .lnTxstampStatus => ⟨.quad, 0x108C, 4, 0x1000,
      [⟨31, 31, .ro, 0, []⟩, ⟨30, 28, .ro, 0, []⟩, ⟨27, 24, .ro, 0, []⟩, ⟨15, 8, .rc, 0, []⟩, ⟨2, 0, .ro, 0, []⟩]⟩
  | .lnSlStatus => ⟨.quad, 0x10A0, 4, 0x1000,
      [⟨31, 31, .ro, 0, []⟩, ⟨23, 16, .ro, 0, []⟩, ⟨15, 0, .ro, 0, []⟩]⟩
  | .lnSlIdLo => ⟨.quad, 0x10A4, 4, 0x1000,
      [⟨31, 0, .ro, 0, []⟩]⟩
  | .lnSlIdHi => ⟨.quad, 0x10A8, 4, 0x1000,
      [⟨31, 0, .ro, 0, []⟩]⟩
  | .lnHunt0 => ⟨.quad, 0x1100, 4, 0x1000,
      [⟨31, 31, .rw, 0, []⟩, ⟨30, 29, .rw, 0, [(0, 2)]⟩, ⟨24, 0, .rw, 0, [(1250000, 28125000)]⟩]⟩
  | .lnHunt1 => ⟨.quad, 0x1104, 4, 0x1000,
      [⟨31, 31, .rw, 0, []⟩, ⟨30, 29, .rw, 0, [(0, 2)]⟩, ⟨24, 0, .rw, 0, [(1250000, 28125000)]⟩]⟩
  | .lnHunt2 => ⟨.quad, 0x1108, 4, 0x1000,
      [⟨31, 31, .rw, 0, []⟩, ⟨30, 29, .rw, 0, [(0, 2)]⟩, ⟨24, 0, .rw, 0, [(1250000, 28125000)]⟩]⟩
  | .lnHunt3 => ⟨.quad, 0x110C, 4, 0x1000,
      [⟨31, 31, .rw, 0, []⟩, ⟨30, 29, .rw, 0, [(0, 2)]⟩, ⟨24, 0, .rw, 0, [(1250000, 28125000)]⟩]⟩
  | .lnHunt4 => ⟨.quad, 0x1110, 4, 0x1000,
      [⟨31, 31, .rw, 0, []⟩, ⟨30, 29, .rw, 0, [(0, 2)]⟩, ⟨24, 0, .rw, 0, [(1250000, 28125000)]⟩]⟩
  | .lnHunt5 => ⟨.quad, 0x1114, 4, 0x1000,
      [⟨31, 31, .rw, 0, []⟩, ⟨30, 29, .rw, 0, [(0, 2)]⟩, ⟨24, 0, .rw, 0, [(1250000, 28125000)]⟩]⟩
  | .lnHunt6 => ⟨.quad, 0x1118, 4, 0x1000,
      [⟨31, 31, .rw, 0, []⟩, ⟨30, 29, .rw, 0, [(0, 2)]⟩, ⟨24, 0, .rw, 0, [(1250000, 28125000)]⟩]⟩
  | .lnHunt7 => ⟨.quad, 0x111C, 4, 0x1000,
      [⟨31, 31, .rw, 0, []⟩, ⟨30, 29, .rw, 0, [(0, 2)]⟩, ⟨24, 0, .rw, 0, [(1250000, 28125000)]⟩]⟩
  | .hpStatus => ⟨.hp, 0x0, 1, 0x4,
      [⟨31, 31, .ro, 0, []⟩, ⟨30, 28, .ro, 0, []⟩, ⟨27, 24, .ro, 0, []⟩, ⟨10, 8, .ro, 0, []⟩, ⟨6, 4, .ro, 0, []⟩]⟩
  | .hpCounts => ⟨.hp, 0x4, 1, 0x4,
      [⟨31, 24, .rc, 0, []⟩, ⟨23, 16, .rc, 0, []⟩, ⟨15, 8, .rc, 0, []⟩, ⟨7, 0, .rc, 0, []⟩]⟩
  | .hpBar2Err => ⟨.hp, 0x8, 1, 0x4,
      [⟨31, 31, .w1c, 0, []⟩, ⟨3, 0, .ro, 0, []⟩]⟩
  | .hpBar2AddrLo => ⟨.hp, 0xC, 1, 0x4,
      [⟨31, 0, .ro, 0, []⟩]⟩
  | .hpBar2AddrHi => ⟨.hp, 0x10, 1, 0x4,
      [⟨15, 0, .ro, 0, []⟩]⟩
  | .hpRelay => ⟨.hp, 0x20, 1, 0x4,
      [⟨13, 0, .rws, 100, [(10, 10000)]⟩]⟩
  | .hpXlat => ⟨.hp, 0x100, 16, 0x4,
      [⟨31, 31, .rw, 0, []⟩, ⟨15, 0, .rw, 0, [(0, 32767)]⟩]⟩
  | .mpAddr => ⟨.hp, 0x200, 1, 0x4,
      [⟨6, 0, .ro, 90, []⟩]⟩
  | .rtrApply => ⟨.tile, 0x0, 1, 0x4,
      [⟨14, 0, .wo, 0, []⟩]⟩
  | .rtrLinkEn => ⟨.tile, 0x4, 1, 0x4,
      [⟨14, 0, .ro, 0, []⟩]⟩
  | .rtrLinkEnSh => ⟨.tile, 0x8, 1, 0x4,
      [⟨14, 0, .rw, 0, []⟩]⟩
  | .rtrStatus => ⟨.tile, 0xC, 1, 0x4,
      [⟨30, 16, .ro, 0, []⟩, ⟨14, 0, .ro, 0, []⟩]⟩
  | .rtrCreditSh => ⟨.tile, 0x100, 8, 0x4,
      [⟨31, 28, .rw, 4, [(1, 15)]⟩, ⟨27, 24, .rw, 4, [(1, 15)]⟩, ⟨23, 20, .rw, 4, [(1, 15)]⟩, ⟨19, 16, .rw, 4, [(1, 15)]⟩, ⟨15, 12, .rw, 4, [(1, 15)]⟩, ⟨11, 8, .rw, 4, [(1, 15)]⟩, ⟨7, 4, .rw, 4, [(1, 15)]⟩, ⟨3, 0, .rw, 4, [(1, 15)]⟩]⟩
  | .rtrCredit => ⟨.tile, 0x140, 8, 0x4,
      [⟨31, 0, .ro, 1145324612, []⟩]⟩
  | .rtrArbSh => ⟨.tile, 0x200, 15, 0x4,
      [⟨11, 8, .rw, 8, [(1, 15)]⟩, ⟨7, 4, .rw, 4, [(1, 15)]⟩, ⟨3, 0, .rw, 2, [(1, 15)]⟩]⟩
  | .rtrArb => ⟨.tile, 0x240, 15, 0x4,
      [⟨11, 8, .ro, 8, []⟩, ⟨7, 4, .ro, 4, []⟩, ⟨3, 0, .ro, 2, []⟩]⟩
  | .rtrErrors => ⟨.tile, 0x300, 1, 0x4,
      [⟨31, 16, .rc, 0, []⟩, ⟨15, 8, .rc, 0, []⟩, ⟨7, 0, .rc, 0, []⟩]⟩
  | .rtrFault => ⟨.tile, 0x304, 1, 0x4,
      [⟨31, 31, .w1c, 0, []⟩, ⟨3, 0, .ro, 0, []⟩]⟩
  | .niCtl => ⟨.tile, 0x4000, 1, 0x4,
      [⟨21, 16, .rw, 16, [(0, 32)]⟩]⟩
  | .niTimeout => ⟨.tile, 0x4004, 1, 0x4,
      [⟨16, 0, .rws, 100, [(1, 100000)]⟩]⟩
  | .niStatus => ⟨.tile, 0x4008, 1, 0x4,
      [⟨31, 31, .ro, 0, []⟩, ⟨22, 16, .ro, 0, []⟩, ⟨13, 8, .ro, 0, []⟩, ⟨6, 0, .ro, 0, []⟩]⟩
  | .niErrors => ⟨.tile, 0x400C, 1, 0x4,
      [⟨31, 24, .rc, 0, []⟩, ⟨23, 16, .rc, 0, []⟩, ⟨15, 8, .rc, 0, []⟩, ⟨7, 4, .rc, 0, []⟩]⟩
  | .routeLo => ⟨.tile, 0x4400, 1088, 0x4,
      [⟨31, 0, .rw, 0, []⟩]⟩
  | .routeHi => ⟨.tile, 0x5500, 1088, 0x4,
      [⟨31, 0, .rw, 0, []⟩]⟩
  | .routeCtl => ⟨.tile, 0x6600, 1088, 0x4,
      [⟨31, 31, .rw, 0, []⟩, ⟨4, 4, .rw, 0, []⟩, ⟨2, 0, .rw, 0, [(0, 4)]⟩]⟩
  | .engCtl => ⟨.tile, 0x8000, 1, 0x4,
      [⟨31, 31, .wo, 0, []⟩, ⟨30, 30, .wo, 0, []⟩, ⟨22, 22, .rw, 0, []⟩, ⟨21, 14, .rw, 0, []⟩, ⟨13, 0, .rw, 0, []⟩]⟩
  | .engStatus => ⟨.tile, 0x8004, 1, 0x4,
      [⟨31, 29, .ro, 0, []⟩, ⟨28, 28, .ro, 0, []⟩, ⟨27, 27, .ro, 0, []⟩, ⟨26, 26, .w1c, 0, []⟩, ⟨13, 0, .ro, 0, []⟩]⟩
  | .engFault => ⟨.tile, 0x8008, 1, 0x4,
      [⟨31, 28, .ro, 0, []⟩, ⟨13, 0, .ro, 0, []⟩]⟩
  | .engIrq => ⟨.tile, 0x800C, 1, 0x4,
      [⟨31, 16, .w1c, 0, []⟩, ⟨15, 0, .rw, 0, []⟩]⟩
  | .engEvselLo => ⟨.tile, 0x8010, 1, 0x4,
      [⟨31, 24, .rw, 0, []⟩, ⟨23, 16, .rw, 0, []⟩, ⟨15, 8, .rw, 0, []⟩, ⟨7, 0, .rw, 0, []⟩]⟩
  | .engEvselHi => ⟨.tile, 0x8014, 1, 0x4,
      [⟨31, 24, .rw, 0, []⟩, ⟨23, 16, .rw, 0, []⟩, ⟨15, 8, .rw, 0, []⟩, ⟨7, 0, .rw, 0, []⟩]⟩
  | .engDoorbell => ⟨.tile, 0x8018, 1, 0x4,
      [⟨0, 0, .wo, 0, []⟩]⟩
  | .engWdog => ⟨.tile, 0x801C, 1, 0x4,
      [⟨31, 31, .rw, 0, []⟩, ⟨30, 30, .rw, 0, []⟩, ⟨23, 0, .rw, 0, []⟩]⟩
  | .engWdcnt => ⟨.tile, 0x8020, 1, 0x4,
      [⟨23, 0, .ro, 0, []⟩]⟩
  | .engReturn => ⟨.tile, 0x8024, 1, 0x4,
      [⟨13, 0, .ro, 0, []⟩]⟩
  | .qCtl => ⟨.tile, 0xC000, 4, 0x1000,
      [⟨31, 31, .rw, 1, []⟩, ⟨30, 30, .wo, 0, []⟩, ⟨8, 8, .rw, 0, []⟩, ⟨7, 0, .rw, 0, []⟩]⟩
  | .qStatus => ⟨.tile, 0xC004, 4, 0x1000,
      [⟨31, 29, .ro, 0, []⟩, ⟨28, 26, .ro, 0, []⟩, ⟨25, 25, .w1c, 0, []⟩, ⟨21, 11, .ro, 0, []⟩, ⟨10, 0, .ro, 0, []⟩]⟩
  | .qCount => ⟨.tile, 0xC008, 4, 0x1000,
      [⟨31, 16, .ro, 0, []⟩, ⟨15, 0, .ro, 0, []⟩]⟩
  | .qErrors => ⟨.tile, 0xC00C, 4, 0x1000,
      [⟨31, 24, .rc, 0, []⟩, ⟨23, 16, .rc, 0, []⟩, ⟨15, 8, .rc, 0, []⟩, ⟨7, 0, .rc, 0, []⟩]⟩
  | .qPushLo => ⟨.tile, 0xC010, 4, 0x1000,
      [⟨31, 0, .wo, 0, []⟩]⟩
  | .qPushHi => ⟨.tile, 0xC014, 4, 0x1000,
      [⟨31, 0, .wo, 0, []⟩]⟩
  | .qPushLastLo => ⟨.tile, 0xC018, 4, 0x1000,
      [⟨31, 0, .wo, 0, []⟩]⟩
  | .qPushLastHi => ⟨.tile, 0xC01C, 4, 0x1000,
      [⟨31, 0, .wo, 0, []⟩]⟩
  | .qPushAbort => ⟨.tile, 0xC020, 4, 0x1000,
      [⟨0, 0, .wo, 0, []⟩]⟩
  | .qPopLo => ⟨.tile, 0xC030, 4, 0x1000,
      [⟨31, 0, .rc, 0, []⟩]⟩
  | .qPopHi => ⟨.tile, 0xC034, 4, 0x1000,
      [⟨31, 0, .ro, 0, []⟩]⟩
  | .qPopFlags => ⟨.tile, 0xC038, 4, 0x1000,
      [⟨2, 0, .ro, 0, []⟩]⟩
  | .dbgStatus => ⟨.dbg, 0x0, 1, 0x4,
      [⟨31, 30, .ro, 0, []⟩, ⟨29, 29, .ro, 0, []⟩, ⟨28, 26, .ro, 0, []⟩, ⟨25, 25, .w1c, 0, []⟩, ⟨24, 24, .w1c, 0, []⟩, ⟨23, 20, .ro, 0, []⟩]⟩
  | .dbgEngSel => ⟨.dbg, 0x100, 1, 0x4,
      [⟨9, 0, .rw, 0, []⟩]⟩
  | .dbgEngCtl => ⟨.dbg, 0x104, 1, 0x4,
      [⟨31, 31, .wo, 0, []⟩, ⟨30, 30, .wo, 0, []⟩, ⟨29, 29, .wo, 0, []⟩, ⟨28, 28, .rw, 0, []⟩]⟩
  | .dbgEngInject => ⟨.dbg, 0x108, 1, 0x4,
      [⟨31, 0, .wo, 0, []⟩]⟩
  | .dbgEngStatus => ⟨.dbg, 0x10C, 1, 0x4,
      [⟨31, 29, .ro, 0, []⟩, ⟨28, 28, .ro, 0, []⟩, ⟨27, 24, .ro, 0, []⟩, ⟨23, 23, .ro, 0, []⟩, ⟨22, 22, .ro, 0, []⟩, ⟨18, 16, .ro, 0, []⟩, ⟨13, 0, .ro, 0, []⟩]⟩
  | .dbgEngSample => ⟨.dbg, 0x110, 1, 0x4,
      [⟨31, 31, .ro, 0, []⟩, ⟨13, 0, .ro, 0, []⟩]⟩
  | .ebrk => ⟨.dbg, 0x200, 8, 0x4,
      [⟨31, 31, .rw, 0, []⟩, ⟨25, 16, .rw, 0, []⟩, ⟨13, 0, .rw, 0, []⟩]⟩
  | .trcCtl => ⟨.dbg, 0x300, 1, 0x4,
      [⟨31, 31, .rw, 0, []⟩, ⟨25, 16, .rw, 0, []⟩, ⟨15, 15, .ro, 0, []⟩, ⟨7, 0, .ro, 0, []⟩]⟩
  | .trcEntry => ⟨.dbg, 0x400, 256, 0x4,
      [⟨31, 30, .ro, 0, []⟩, ⟨29, 16, .ro, 0, []⟩, ⟨13, 0, .ro, 0, []⟩]⟩
  | .refDbgCtl => ⟨.dbg, 0x1000, 1, 0x4,
      [⟨31, 31, .wo, 0, []⟩, ⟨30, 30, .wo, 0, []⟩, ⟨29, 29, .wo, 0, []⟩]⟩
  | .refDbgStatus => ⟨.dbg, 0x1004, 1, 0x4,
      [⟨31, 31, .ro, 0, []⟩, ⟨30, 30, .ro, 0, []⟩, ⟨29, 29, .w1c, 0, []⟩, ⟨28, 26, .ro, 0, []⟩, ⟨25, 25, .ro, 0, []⟩, ⟨24, 24, .ro, 0, []⟩, ⟨20, 16, .ro, 0, []⟩]⟩
  | .refPc => ⟨.dbg, 0x1008, 1, 0x4,
      [⟨31, 0, .ro, 0, []⟩]⟩
  | .refInject => ⟨.dbg, 0x100C, 1, 0x4,
      [⟨31, 0, .wo, 0, []⟩]⟩
  | .puStatus => ⟨.dbg, 0x2000, 1, 0x4,
      [⟨5, 0, .ro, 0, []⟩]⟩
  | .puCtl => ⟨.dbg, 0x2100, 32, 0x4,
      [⟨31, 31, .rw, 0, []⟩, ⟨30, 30, .rw, 0, []⟩, ⟨27, 24, .rw, 0, []⟩, ⟨18, 0, .rw, 0, []⟩]⟩
  | .puRam => ⟨.dbg, 0x3000, 512, 0x4,
      [⟨31, 0, .rw, 0, []⟩]⟩

/-- The registers that a block's chapter defines. -/
def Blk.regs : Blk → List Rg
  | .devctl => [.regionStatus, .regionFault, .thermDie, .thermCtl, .tripLog, .railMv, .vccioMv]
  | .clk => [.carCtl, .carStatus, .refHz, .syCtl, .syFrac, .syStatus, .gcCtl, .fcCtl, .fcSrc, .fcCountLo, .fcCountHi, .rstCause, .leafGate]
  | .time => [.timeCtl, .timeRateTh, .timeAdjTh, .ppsOffset, .ppsWidth, .slStatus, .slRootIdLo, .slRootIdHi, .slDelay, .slOffset, .slAsym, .tkCtl, .tkStatus, .tkSnapNs, .tkSnapSecLo, .tkSnapSecHi, .tkSetNs, .tkSetSecLo, .tkSetSecHi, .tkAdjLo, .tkAdjHi, .tkIncrLo, .tkIncrHi, .tkIncrNowLo, .tkIncrNowHi, .tkAlarmNs, .tkAlarmSecLo, .tkAlarmSecHi, .tkAlarmPeriod, .tkCapCtl, .tkCapNs, .tkCapSecLo, .tkCapSecHi]
  | .ev => [.evOwner, .evRaise, .evErrors, .evCount]
  | .seam => [.seamIdent, .seamReset, .seamStatus, .seamFault, .flexRole, .replayLimit, .seamCounts, .privStatus, .fabricRepair, .eccCountD, .eccLogctlD, .eccLogLoD, .eccLogHiD]
  | .hbm => [.hbmStatus, .hbmCtl, .hbmMap, .hbmXor, .hbmDisturb, .hbmRt, .hbmTim0Sh, .hbmTim1Sh, .hbmTim2Sh, .hbmTim0, .hbmTim1, .hbmTim2, .hbmFreeze, .hbmFreezeRow, .hbmCounts, .hbmDelay, .eccCountS, .eccLogctlS, .eccTestS, .eccLogLoS, .eccLogHiS]
  | .prot => [.protStatus, .protCounts, .twinRange, .twinCtl, .pwinRange, .pwinCtl, .pwinRights, .pwinMeta, .pwinTamper, .pwinFault]
  | .rcache => [.rcacheCounts, .rcacheWin]
  | .dma => [.deStatus, .chCtl, .chHeadLo, .chHeadHi, .chStatus, .chDescLo, .chDescHi, .chMmLo, .chMmHi, .chCounts]
  | .quad => [.quadStatus, .quadCtl, .quadReffreq, .lnCtl, .lnRate, .lnRateF, .lnTxeq, .lnRxeq, .lnState, .lnCapLo, .lnCapHi, .lnPartnerLo, .lnPartnerHi, .lnMon, .lnAn, .lnTest, .lnTestErr, .lnUserpatLo, .lnUserpatHi, .lnMac, .lnNetq, .lnRxCounts, .lnTxCounts, .lnRmCounts, .lnFecCounts, .lnTxstampNs, .lnTxstampSecLo, .lnTxstampSecHi, .lnTxstampStatus, .lnSlStatus, .lnSlIdLo, .lnSlIdHi, .lnHunt0, .lnHunt1, .lnHunt2, .lnHunt3, .lnHunt4, .lnHunt5, .lnHunt6, .lnHunt7]
  | .hp => [.hpStatus, .hpCounts, .hpBar2Err, .hpBar2AddrLo, .hpBar2AddrHi, .hpRelay, .hpXlat, .mpAddr]
  | .tile => [.eccCountT, .eccLogctlT, .eccTestT, .eccLogLoT, .eccLogHiT, .rtrApply, .rtrLinkEn, .rtrLinkEnSh, .rtrStatus, .rtrCreditSh, .rtrCredit, .rtrArbSh, .rtrArb, .rtrErrors, .rtrFault, .niCtl, .niTimeout, .niStatus, .niErrors, .routeLo, .routeHi, .routeCtl, .engCtl, .engStatus, .engFault, .engIrq, .engEvselLo, .engEvselHi, .engDoorbell, .engWdog, .engWdcnt, .engReturn, .qCtl, .qStatus, .qCount, .qErrors, .qPushLo, .qPushHi, .qPushLastLo, .qPushLastHi, .qPushAbort, .qPopLo, .qPopHi, .qPopFlags]
  | .dbg => [.dbgStatus, .dbgEngSel, .dbgEngCtl, .dbgEngInject, .dbgEngStatus, .dbgEngSample, .ebrk, .trcCtl, .trcEntry, .refDbgCtl, .refDbgStatus, .refPc, .refInject, .puStatus, .puCtl, .puRam]

/-- A named field of a register. -/
structure FRef where
  rg : Rg
  hi : Nat
  lo : Nat
deriving DecidableEq, Repr

namespace F
/-- REGION_STATUS.STATE -/
abbrev regionStatus_state : FRef := ⟨.regionStatus, 31, 29⟩
/-- REGION_STATUS.DEFINED -/
abbrev regionStatus_defined : FRef := ⟨.regionStatus, 28, 28⟩
/-- REGION_STATUS.TENANT -/
abbrev regionStatus_tenant : FRef := ⟨.regionStatus, 27, 25⟩
/-- REGION_STATUS.LAST_CODE -/
abbrev regionStatus_lastCode : FRef := ⟨.regionStatus, 23, 16⟩
/-- REGION_STATUS.TILES -/
abbrev regionStatus_tiles : FRef := ⟨.regionStatus, 10, 0⟩
/-- REGION_FAULT.FRAME_ADDR -/
abbrev regionFault_frameAddr : FRef := ⟨.regionFault, 31, 0⟩
/-- THERM_DIE.WARN -/
abbrev thermDie_warn : FRef := ⟨.thermDie, 31, 31⟩
/-- THERM_DIE.PEAK -/
abbrev thermDie_peak : FRef := ⟨.thermDie, 23, 16⟩
/-- THERM_DIE.TEMP -/
abbrev thermDie_temp : FRef := ⟨.thermDie, 7, 0⟩
/-- THERM_CTL.WARN_C -/
abbrev thermCtl_warnC : FRef := ⟨.thermCtl, 7, 0⟩
/-- TRIP_LOG.VALID -/
abbrev tripLog_valid : FRef := ⟨.tripLog, 31, 31⟩
/-- TRIP_LOG.SOURCE -/
abbrev tripLog_source : FRef := ⟨.tripLog, 30, 28⟩
/-- TRIP_LOG.TEMP -/
abbrev tripLog_temp : FRef := ⟨.tripLog, 7, 0⟩
/-- RAIL_MV.LOW -/
abbrev railMv_low : FRef := ⟨.railMv, 31, 31⟩
/-- RAIL_MV.HIGH -/
abbrev railMv_high : FRef := ⟨.railMv, 30, 30⟩
/-- RAIL_MV.MV -/
abbrev railMv_mv : FRef := ⟨.railMv, 15, 0⟩
/-- VCCIO_MV.LOW -/
abbrev vccioMv_low : FRef := ⟨.vccioMv, 31, 31⟩
/-- VCCIO_MV.HIGH -/
abbrev vccioMv_high : FRef := ⟨.vccioMv, 30, 30⟩
/-- VCCIO_MV.MISMATCH -/
abbrev vccioMv_mismatch : FRef := ⟨.vccioMv, 29, 29⟩
/-- VCCIO_MV.MV -/
abbrev vccioMv_mv : FRef := ⟨.vccioMv, 15, 0⟩
/-- CAR_CTL.REVERT -/
abbrev carCtl_revert : FRef := ⟨.carCtl, 31, 31⟩
/-- CAR_CTL.BW -/
abbrev carCtl_bw : FRef := ⟨.carCtl, 29, 28⟩
/-- CAR_CTL.SEL -/
abbrev carCtl_sel : FRef := ⟨.carCtl, 24, 16⟩
/-- CAR_CTL.WTR -/
abbrev carCtl_wtr : FRef := ⟨.carCtl, 15, 0⟩
/-- CAR_STATUS.ON_HOLD -/
abbrev carStatus_onHold : FRef := ⟨.carStatus, 31, 31⟩
/-- CAR_STATUS.LOCKED -/
abbrev carStatus_locked : FRef := ⟨.carStatus, 30, 30⟩
/-- CAR_STATUS.SWITCHING -/
abbrev carStatus_switching : FRef := ⟨.carStatus, 29, 29⟩
/-- CAR_STATUS.HOLD_BAD -/
abbrev carStatus_holdBad : FRef := ⟨.carStatus, 28, 28⟩
/-- CAR_STATUS.ACTIVE -/
abbrev carStatus_active : FRef := ⟨.carStatus, 24, 16⟩
/-- CAR_STATUS.FALLBACKS -/
abbrev carStatus_fallbacks : FRef := ⟨.carStatus, 7, 0⟩
/-- REF_HZ.HZ -/
abbrev refHz_hz : FRef := ⟨.refHz, 29, 0⟩
/-- SY_CTL.ENABLE -/
abbrev syCtl_enable : FRef := ⟨.syCtl, 31, 31⟩
/-- SY_CTL.SRC -/
abbrev syCtl_src : FRef := ⟨.syCtl, 30, 22⟩
/-- SY_CTL.OD -/
abbrev syCtl_od : FRef := ⟨.syCtl, 21, 12⟩
/-- SY_CTL.N -/
abbrev syCtl_n : FRef := ⟨.syCtl, 7, 0⟩
/-- SY_FRAC.F -/
abbrev syFrac_f : FRef := ⟨.syFrac, 23, 0⟩
/-- SY_STATUS.LOCK -/
abbrev syStatus_lock : FRef := ⟨.syStatus, 31, 31⟩
/-- SY_STATUS.UNLOCKS -/
abbrev syStatus_unlocks : FRef := ⟨.syStatus, 7, 0⟩
/-- GC_CTL.ENABLE -/
abbrev gcCtl_enable : FRef := ⟨.gcCtl, 31, 31⟩
/-- GC_CTL.SWITCHING -/
abbrev gcCtl_switching : FRef := ⟨.gcCtl, 30, 30⟩
/-- GC_CTL.FORCED -/
abbrev gcCtl_forced : FRef := ⟨.gcCtl, 29, 29⟩
/-- GC_CTL.FAB_TILE -/
abbrev gcCtl_fabTile : FRef := ⟨.gcCtl, 25, 16⟩
/-- GC_CTL.SRC -/
abbrev gcCtl_src : FRef := ⟨.gcCtl, 8, 0⟩
/-- FC_CTL.START -/
abbrev fcCtl_start : FRef := ⟨.fcCtl, 31, 31⟩
/-- FC_CTL.BUSY -/
abbrev fcCtl_busy : FRef := ⟨.fcCtl, 30, 30⟩
/-- FC_CTL.DONE -/
abbrev fcCtl_done : FRef := ⟨.fcCtl, 29, 29⟩
/-- FC_CTL.N -/
abbrev fcCtl_n : FRef := ⟨.fcCtl, 20, 16⟩
/-- FC_CTL.EV_EN -/
abbrev fcCtl_evEn : FRef := ⟨.fcCtl, 15, 15⟩
/-- FC_CTL.EV -/
abbrev fcCtl_ev : FRef := ⟨.fcCtl, 7, 0⟩
/-- FC_SRC.REF -/
abbrev fcSrc_ref : FRef := ⟨.fcSrc, 24, 16⟩
/-- FC_SRC.TGT -/
abbrev fcSrc_tgt : FRef := ⟨.fcSrc, 8, 0⟩
/-- FC_COUNT_LO.COUNT -/
abbrev fcCountLo_count : FRef := ⟨.fcCountLo, 31, 0⟩
/-- FC_COUNT_HI.COUNT -/
abbrev fcCountHi_count : FRef := ⟨.fcCountHi, 7, 0⟩
/-- RST_CAUSE.CAUSE -/
abbrev rstCause_cause : FRef := ⟨.rstCause, 31, 28⟩
/-- RST_CAUSE.REFEREE_RESTARTS -/
abbrev rstCause_refereeRestarts : FRef := ⟨.rstCause, 15, 0⟩
/-- LEAF_GATE.EN -/
abbrev leafGate_en : FRef := ⟨.leafGate, 7, 0⟩
/-- TIME_CTL.PPS_EN -/
abbrev timeCtl_ppsEn : FRef := ⟨.timeCtl, 31, 31⟩
/-- TIME_CTL.PPS_VALID_ONLY -/
abbrev timeCtl_ppsValidOnly : FRef := ⟨.timeCtl, 30, 30⟩
/-- TIME_CTL.SOURCE -/
abbrev timeCtl_source : FRef := ⟨.timeCtl, 28, 28⟩
/-- TIME_CTL.TIME_PRIO -/
abbrev timeCtl_timePrio : FRef := ⟨.timeCtl, 27, 20⟩
/-- TIME_CTL.DOMAIN -/
abbrev timeCtl_domain : FRef := ⟨.timeCtl, 15, 0⟩
/-- TIME_RATE_TH.RATE_TH -/
abbrev timeRateTh_rateTh : FRef := ⟨.timeRateTh, 23, 0⟩
/-- TIME_ADJ_TH.ADJ_TH -/
abbrev timeAdjTh_adjTh : FRef := ⟨.timeAdjTh, 31, 0⟩
/-- PPS_OFFSET.NS -/
abbrev ppsOffset_ns : FRef := ⟨.ppsOffset, 29, 0⟩
/-- PPS_WIDTH.US -/
abbrev ppsWidth_us : FRef := ⟨.ppsWidth, 19, 0⟩
/-- SL_STATUS.ROOT -/
abbrev slStatus_root : FRef := ⟨.slStatus, 31, 31⟩
/-- SL_STATUS.PARENT -/
abbrev slStatus_parent : FRef := ⟨.slStatus, 30, 30⟩
/-- SL_STATUS.LANE -/
abbrev slStatus_lane : FRef := ⟨.slStatus, 23, 16⟩
/-- SL_STATUS.HOPS -/
abbrev slStatus_hops : FRef := ⟨.slStatus, 12, 8⟩
/-- SL_STATUS.ROOT_PRIO -/
abbrev slStatus_rootPrio : FRef := ⟨.slStatus, 7, 0⟩
/-- SL_ROOT_ID_LO.ID -/
abbrev slRootIdLo_id : FRef := ⟨.slRootIdLo, 31, 0⟩
/-- SL_ROOT_ID_HI.ID -/
abbrev slRootIdHi_id : FRef := ⟨.slRootIdHi, 31, 0⟩
/-- SL_DELAY.D -/
abbrev slDelay_d : FRef := ⟨.slDelay, 31, 0⟩
/-- SL_OFFSET.O -/
abbrev slOffset_o : FRef := ⟨.slOffset, 31, 0⟩
/-- SL_ASYM.ASYM -/
abbrev slAsym_asym : FRef := ⟨.slAsym, 15, 0⟩
/-- TK_CTL.ENABLE -/
abbrev tkCtl_enable : FRef := ⟨.tkCtl, 31, 31⟩
/-- TK_CTL.ARM -/
abbrev tkCtl_arm : FRef := ⟨.tkCtl, 30, 30⟩
/-- TK_CTL.GO_SET -/
abbrev tkCtl_goSet : FRef := ⟨.tkCtl, 29, 29⟩
/-- TK_CTL.GO_ADJ -/
abbrev tkCtl_goAdj : FRef := ⟨.tkCtl, 28, 28⟩
/-- TK_CTL.GO_INCR -/
abbrev tkCtl_goIncr : FRef := ⟨.tkCtl, 27, 27⟩
/-- TK_CTL.SNAP -/
abbrev tkCtl_snap : FRef := ⟨.tkCtl, 26, 26⟩
/-- TK_CTL.ALARM_EN -/
abbrev tkCtl_alarmEn : FRef := ⟨.tkCtl, 25, 25⟩
/-- TK_CTL.FAULT_EN -/
abbrev tkCtl_faultEn : FRef := ⟨.tkCtl, 24, 24⟩
/-- TK_CTL.ALARM_EV -/
abbrev tkCtl_alarmEv : FRef := ⟨.tkCtl, 23, 16⟩
/-- TK_CTL.FAULT_EV -/
abbrev tkCtl_faultEv : FRef := ⟨.tkCtl, 15, 8⟩
/-- TK_CTL.CAP_EV -/
abbrev tkCtl_capEv : FRef := ⟨.tkCtl, 7, 0⟩
/-- TK_STATUS.ARMED -/
abbrev tkStatus_armed : FRef := ⟨.tkStatus, 31, 31⟩
/-- TK_STATUS.HOLDOVER -/
abbrev tkStatus_holdover : FRef := ⟨.tkStatus, 30, 30⟩
/-- TK_STATUS.TIME_FAULT -/
abbrev tkStatus_timeFault : FRef := ⟨.tkStatus, 29, 29⟩
/-- TK_STATUS.FAULT_KIND -/
abbrev tkStatus_faultKind : FRef := ⟨.tkStatus, 28, 26⟩
/-- TK_STATUS.PENDING -/
abbrev tkStatus_pending : FRef := ⟨.tkStatus, 25, 25⟩
/-- TK_STATUS.TENANT -/
abbrev tkStatus_tenant : FRef := ⟨.tkStatus, 2, 0⟩
/-- TK_SNAP_NS.NS -/
abbrev tkSnapNs_ns : FRef := ⟨.tkSnapNs, 31, 0⟩
/-- TK_SNAP_SEC_LO.SEC -/
abbrev tkSnapSecLo_sec : FRef := ⟨.tkSnapSecLo, 31, 0⟩
/-- TK_SNAP_SEC_HI.FRACTION -/
abbrev tkSnapSecHi_fraction : FRef := ⟨.tkSnapSecHi, 31, 16⟩
/-- TK_SNAP_SEC_HI.SECONDS -/
abbrev tkSnapSecHi_seconds : FRef := ⟨.tkSnapSecHi, 15, 0⟩
/-- TK_SET_NS.NS -/
abbrev tkSetNs_ns : FRef := ⟨.tkSetNs, 31, 0⟩
/-- TK_SET_SEC_LO.SEC -/
abbrev tkSetSecLo_sec : FRef := ⟨.tkSetSecLo, 31, 0⟩
/-- TK_SET_SEC_HI.FRACTION -/
abbrev tkSetSecHi_fraction : FRef := ⟨.tkSetSecHi, 31, 16⟩
/-- TK_SET_SEC_HI.SECONDS -/
abbrev tkSetSecHi_seconds : FRef := ⟨.tkSetSecHi, 15, 0⟩
/-- TK_ADJ_LO.ADJ -/
abbrev tkAdjLo_adj : FRef := ⟨.tkAdjLo, 31, 0⟩
/-- TK_ADJ_HI.ADJ -/
abbrev tkAdjHi_adj : FRef := ⟨.tkAdjHi, 31, 0⟩
/-- TK_INCR_LO.FRAC -/
abbrev tkIncrLo_frac : FRef := ⟨.tkIncrLo, 31, 0⟩
/-- TK_INCR_HI.INT -/
abbrev tkIncrHi_int : FRef := ⟨.tkIncrHi, 7, 0⟩
/-- TK_INCR_NOW_LO.FRAC -/
abbrev tkIncrNowLo_frac : FRef := ⟨.tkIncrNowLo, 31, 0⟩
/-- TK_INCR_NOW_HI.INT -/
abbrev tkIncrNowHi_int : FRef := ⟨.tkIncrNowHi, 7, 0⟩
/-- TK_ALARM_NS.NS -/
abbrev tkAlarmNs_ns : FRef := ⟨.tkAlarmNs, 31, 0⟩
/-- TK_ALARM_SEC_LO.SEC -/
abbrev tkAlarmSecLo_sec : FRef := ⟨.tkAlarmSecLo, 31, 0⟩
/-- TK_ALARM_SEC_HI.SECONDS -/
abbrev tkAlarmSecHi_seconds : FRef := ⟨.tkAlarmSecHi, 15, 0⟩
/-- TK_ALARM_PERIOD.NS -/
abbrev tkAlarmPeriod_ns : FRef := ⟨.tkAlarmPeriod, 29, 0⟩
/-- TK_CAP_CTL.VALID -/
abbrev tkCapCtl_valid : FRef := ⟨.tkCapCtl, 9, 9⟩
/-- TK_CAP_CTL.OVERRUN -/
abbrev tkCapCtl_overrun : FRef := ⟨.tkCapCtl, 8, 8⟩
/-- TK_CAP_CTL.CAP_SRC -/
abbrev tkCapCtl_capSrc : FRef := ⟨.tkCapCtl, 1, 0⟩
/-- TK_CAP_NS.NS -/
abbrev tkCapNs_ns : FRef := ⟨.tkCapNs, 31, 0⟩
/-- TK_CAP_SEC_LO.SEC -/
abbrev tkCapSecLo_sec : FRef := ⟨.tkCapSecLo, 31, 0⟩
/-- TK_CAP_SEC_HI.FRACTION -/
abbrev tkCapSecHi_fraction : FRef := ⟨.tkCapSecHi, 31, 16⟩
/-- TK_CAP_SEC_HI.SECONDS -/
abbrev tkCapSecHi_seconds : FRef := ⟨.tkCapSecHi, 15, 0⟩
/-- EV_OWNER.O7 -/
abbrev evOwner_o7 : FRef := ⟨.evOwner, 30, 28⟩
/-- EV_OWNER.O6 -/
abbrev evOwner_o6 : FRef := ⟨.evOwner, 26, 24⟩
/-- EV_OWNER.O5 -/
abbrev evOwner_o5 : FRef := ⟨.evOwner, 22, 20⟩
/-- EV_OWNER.O4 -/
abbrev evOwner_o4 : FRef := ⟨.evOwner, 18, 16⟩
/-- EV_OWNER.O3 -/
abbrev evOwner_o3 : FRef := ⟨.evOwner, 14, 12⟩
/-- EV_OWNER.O2 -/
abbrev evOwner_o2 : FRef := ⟨.evOwner, 10, 8⟩
/-- EV_OWNER.O1 -/
abbrev evOwner_o1 : FRef := ⟨.evOwner, 6, 4⟩
/-- EV_OWNER.O0 -/
abbrev evOwner_o0 : FRef := ⟨.evOwner, 2, 0⟩
/-- EV_RAISE.LINES -/
abbrev evRaise_lines : FRef := ⟨.evRaise, 31, 0⟩
/-- EV_ERRORS.MERGED -/
abbrev evErrors_merged : FRef := ⟨.evErrors, 31, 16⟩
/-- EV_ERRORS.REFUSED -/
abbrev evErrors_refused : FRef := ⟨.evErrors, 15, 0⟩
/-- EV_COUNT.COUNT -/
abbrev evCount_count : FRef := ⟨.evCount, 31, 0⟩
/-- SEAM_IDENT.CAPTAIN -/
abbrev seamIdent_captain : FRef := ⟨.seamIdent, 5, 5⟩
/-- SEAM_IDENT.NUMBERED -/
abbrev seamIdent_numbered : FRef := ⟨.seamIdent, 4, 4⟩
/-- SEAM_IDENT.DIE -/
abbrev seamIdent_die : FRef := ⟨.seamIdent, 1, 0⟩
/-- SEAM_RESET.GO -/
abbrev seamReset_go : FRef := ⟨.seamReset, 31, 31⟩
/-- SEAM_RESET.PORT -/
abbrev seamReset_port : FRef := ⟨.seamReset, 16, 16⟩
/-- SEAM_RESET.BUNDLE -/
abbrev seamReset_bundle : FRef := ⟨.seamReset, 7, 0⟩
/-- SEAM_STATUS.DEGRADED -/
abbrev seamStatus_degraded : FRef := ⟨.seamStatus, 31, 31⟩
/-- SEAM_STATUS.BUSY -/
abbrev seamStatus_busy : FRef := ⟨.seamStatus, 30, 30⟩
/-- SEAM_STATUS.NET_DOWN -/
abbrev seamStatus_netDown : FRef := ⟨.seamStatus, 23, 16⟩
/-- SEAM_STATUS.EXP_DOWN -/
abbrev seamStatus_expDown : FRef := ⟨.seamStatus, 15, 8⟩
/-- SEAM_STATUS.CTRL_Y_UP -/
abbrev seamStatus_ctrlYUp : FRef := ⟨.seamStatus, 1, 1⟩
/-- SEAM_STATUS.CTRL_X_UP -/
abbrev seamStatus_ctrlXUp : FRef := ⟨.seamStatus, 0, 0⟩
/-- SEAM_FAULT.CODE -/
abbrev seamFault_code : FRef := ⟨.seamFault, 31, 24⟩
/-- SEAM_FAULT.PORT -/
abbrev seamFault_port : FRef := ⟨.seamFault, 23, 23⟩
/-- SEAM_FAULT.CROSSING -/
abbrev seamFault_crossing : FRef := ⟨.seamFault, 17, 14⟩
/-- SEAM_FAULT.BUNDLE -/
abbrev seamFault_bundle : FRef := ⟨.seamFault, 13, 8⟩
/-- SEAM_FAULT.WIRE -/
abbrev seamFault_wire : FRef := ⟨.seamFault, 5, 0⟩
/-- FLEX_ROLE.EXPRESS -/
abbrev flexRole_express : FRef := ⟨.flexRole, 31, 0⟩
/-- REPLAY_LIMIT.LIMIT -/
abbrev replayLimit_limit : FRef := ⟨.replayLimit, 15, 0⟩
/-- SEAM_COUNTS.DROPPED -/
abbrev seamCounts_dropped : FRef := ⟨.seamCounts, 31, 24⟩
/-- SEAM_COUNTS.EVENTS_LOST -/
abbrev seamCounts_eventsLost : FRef := ⟨.seamCounts, 23, 16⟩
/-- SEAM_COUNTS.SPARE_FAILS -/
abbrev seamCounts_spareFails : FRef := ⟨.seamCounts, 15, 8⟩
/-- PRIV_STATUS.STATE -/
abbrev privStatus_state : FRef := ⟨.privStatus, 31, 30⟩
/-- PRIV_STATUS.LANE_MAP -/
abbrev privStatus_laneMap : FRef := ⟨.privStatus, 23, 8⟩
/-- PRIV_STATUS.REPLAYS -/
abbrev privStatus_replays : FRef := ⟨.privStatus, 7, 0⟩
/-- FABRIC_REPAIR.LANES -/
abbrev fabricRepair_lanes : FRef := ⟨.fabricRepair, 31, 4⟩
/-- FABRIC_REPAIR.SLACK -/
abbrev fabricRepair_slack : FRef := ⟨.fabricRepair, 3, 0⟩
/-- HBM_STATUS.STATE -/
abbrev hbmStatus_state : FRef := ⟨.hbmStatus, 31, 29⟩
/-- HBM_STATUS.RATE -/
abbrev hbmStatus_rate : FRef := ⟨.hbmStatus, 28, 27⟩
/-- HBM_STATUS.BAND -/
abbrev hbmStatus_band : FRef := ⟨.hbmStatus, 26, 25⟩
/-- HBM_STATUS.REFRESH_X2 -/
abbrev hbmStatus_refreshX2 : FRef := ⟨.hbmStatus, 24, 24⟩
/-- HBM_STATUS.DELAY_STALE -/
abbrev hbmStatus_delayStale : FRef := ⟨.hbmStatus, 23, 23⟩
/-- HBM_STATUS.PANIC -/
abbrev hbmStatus_panic : FRef := ⟨.hbmStatus, 19, 16⟩
/-- HBM_STATUS.TEMP -/
abbrev hbmStatus_temp : FRef := ⟨.hbmStatus, 7, 0⟩
/-- HBM_CTL.THAW -/
abbrev hbmCtl_thaw : FRef := ⟨.hbmCtl, 31, 31⟩
/-- HBM_CTL.RATE_GO -/
abbrev hbmCtl_rateGo : FRef := ⟨.hbmCtl, 30, 30⟩
/-- HBM_CTL.RATE_SH -/
abbrev hbmCtl_rateSh : FRef := ⟨.hbmCtl, 29, 28⟩
/-- HBM_CTL.ENABLE -/
abbrev hbmCtl_enable : FRef := ⟨.hbmCtl, 0, 0⟩
/-- HBM_MAP.INTERLEAVE -/
abbrev hbmMap_interleave : FRef := ⟨.hbmMap, 31, 31⟩
/-- HBM_MAP.ORDER -/
abbrev hbmMap_order : FRef := ⟨.hbmMap, 1, 0⟩
/-- HBM_XOR.MASK -/
abbrev hbmXor_mask : FRef := ⟨.hbmXor, 14, 0⟩
/-- HBM_DISTURB.RFM -/
abbrev hbmDisturb_rfm : FRef := ⟨.hbmDisturb, 8, 8⟩
/-- HBM_DISTURB.K -/
abbrev hbmDisturb_k : FRef := ⟨.hbmDisturb, 3, 0⟩
/-- HBM_RT.EN -/
abbrev hbmRt_en : FRef := ⟨.hbmRt, 31, 31⟩
/-- HBM_RT.PORT -/
abbrev hbmRt_port : FRef := ⟨.hbmRt, 19, 16⟩
/-- HBM_RT.LEVEL -/
abbrev hbmRt_level : FRef := ⟨.hbmRt, 11, 8⟩
/-- HBM_RT.THRESHOLD -/
abbrev hbmRt_threshold : FRef := ⟨.hbmRt, 3, 0⟩
/-- HBM_TIM0_SH.TRCD -/
abbrev hbmTim0Sh_trcd : FRef := ⟨.hbmTim0Sh, 31, 24⟩
/-- HBM_TIM0_SH.TRP -/
abbrev hbmTim0Sh_trp : FRef := ⟨.hbmTim0Sh, 23, 16⟩
/-- HBM_TIM0_SH.TRAS -/
abbrev hbmTim0Sh_tras : FRef := ⟨.hbmTim0Sh, 15, 8⟩
/-- HBM_TIM0_SH.TCL -/
abbrev hbmTim0Sh_tcl : FRef := ⟨.hbmTim0Sh, 7, 0⟩
/-- HBM_TIM1_SH.TWL -/
abbrev hbmTim1Sh_twl : FRef := ⟨.hbmTim1Sh, 31, 24⟩
/-- HBM_TIM1_SH.TRRD -/
abbrev hbmTim1Sh_trrd : FRef := ⟨.hbmTim1Sh, 23, 16⟩
/-- HBM_TIM1_SH.TFAW -/
abbrev hbmTim1Sh_tfaw : FRef := ⟨.hbmTim1Sh, 15, 8⟩
/-- HBM_TIM1_SH.TWR -/
abbrev hbmTim1Sh_twr : FRef := ⟨.hbmTim1Sh, 7, 0⟩
/-- HBM_TIM2_SH.TREFI -/
abbrev hbmTim2Sh_trefi : FRef := ⟨.hbmTim2Sh, 31, 16⟩
/-- HBM_TIM2_SH.TRFCPB -/
abbrev hbmTim2Sh_trfcpb : FRef := ⟨.hbmTim2Sh, 15, 0⟩
/-- HBM_TIM0.TRCD -/
abbrev hbmTim0_trcd : FRef := ⟨.hbmTim0, 31, 24⟩
/-- HBM_TIM0.TRP -/
abbrev hbmTim0_trp : FRef := ⟨.hbmTim0, 23, 16⟩
/-- HBM_TIM0.TRAS -/
abbrev hbmTim0_tras : FRef := ⟨.hbmTim0, 15, 8⟩
/-- HBM_TIM0.TCL -/
abbrev hbmTim0_tcl : FRef := ⟨.hbmTim0, 7, 0⟩
/-- HBM_TIM1.TWL -/
abbrev hbmTim1_twl : FRef := ⟨.hbmTim1, 31, 24⟩
/-- HBM_TIM1.TRRD -/
abbrev hbmTim1_trrd : FRef := ⟨.hbmTim1, 23, 16⟩
/-- HBM_TIM1.TFAW -/
abbrev hbmTim1_tfaw : FRef := ⟨.hbmTim1, 15, 8⟩
/-- HBM_TIM1.TWR -/
abbrev hbmTim1_twr : FRef := ⟨.hbmTim1, 7, 0⟩
/-- HBM_TIM2.TREFI -/
abbrev hbmTim2_trefi : FRef := ⟨.hbmTim2, 31, 16⟩
/-- HBM_TIM2.TRFCPB -/
abbrev hbmTim2_trfcpb : FRef := ⟨.hbmTim2, 15, 0⟩
/-- HBM_FREEZE.CAUSE -/
abbrev hbmFreeze_cause : FRef := ⟨.hbmFreeze, 31, 29⟩
/-- HBM_FREEZE.PC -/
abbrev hbmFreeze_pc : FRef := ⟨.hbmFreeze, 28, 24⟩
/-- HBM_FREEZE.SID -/
abbrev hbmFreeze_sid : FRef := ⟨.hbmFreeze, 23, 23⟩
/-- HBM_FREEZE.BG -/
abbrev hbmFreeze_bg : FRef := ⟨.hbmFreeze, 22, 21⟩
/-- HBM_FREEZE.BA -/
abbrev hbmFreeze_ba : FRef := ⟨.hbmFreeze, 20, 19⟩
/-- HBM_FREEZE.COL -/
abbrev hbmFreeze_col : FRef := ⟨.hbmFreeze, 18, 14⟩
/-- HBM_FREEZE_ROW.HELD -/
abbrev hbmFreezeRow_held : FRef := ⟨.hbmFreezeRow, 29, 16⟩
/-- HBM_FREEZE_ROW.ROW -/
abbrev hbmFreezeRow_row : FRef := ⟨.hbmFreezeRow, 14, 0⟩
/-- HBM_COUNTS.DELAYED -/
abbrev hbmCounts_delayed : FRef := ⟨.hbmCounts, 31, 16⟩
/-- HBM_COUNTS.POSTPONED -/
abbrev hbmCounts_postponed : FRef := ⟨.hbmCounts, 15, 8⟩
/-- HBM_COUNTS.FORCED -/
abbrev hbmCounts_forced : FRef := ⟨.hbmCounts, 7, 0⟩
/-- HBM_DELAY.WR_DLY -/
abbrev hbmDelay_wrDly : FRef := ⟨.hbmDelay, 23, 16⟩
/-- HBM_DELAY.RD_DLY -/
abbrev hbmDelay_rdDly : FRef := ⟨.hbmDelay, 15, 8⟩
/-- ECC_COUNT_S.CORRECTED -/
abbrev eccCountS_corrected : FRef := ⟨.eccCountS, 31, 16⟩
/-- ECC_COUNT_S.UNCORRECTED -/
abbrev eccCountS_uncorrected : FRef := ⟨.eccCountS, 15, 8⟩
/-- ECC_COUNT_S.OVERFLOW -/
abbrev eccCountS_overflow : FRef := ⟨.eccCountS, 7, 7⟩
/-- ECC_COUNT_S.LOGGED -/
abbrev eccCountS_logged : FRef := ⟨.eccCountS, 4, 0⟩
/-- ECC_LOGCTL_S.CLEAR -/
abbrev eccLogctlS_clear : FRef := ⟨.eccLogctlS, 31, 31⟩
/-- ECC_TEST_S.TEST_EN -/
abbrev eccTestS_testEn : FRef := ⟨.eccTestS, 31, 31⟩
/-- ECC_TEST_S.SEV_INJ -/
abbrev eccTestS_sevInj : FRef := ⟨.eccTestS, 1, 0⟩
/-- ECC_LOG_LO_S.LOCATION -/
abbrev eccLogLoS_location : FRef := ⟨.eccLogLoS, 31, 0⟩
/-- ECC_LOG_HI_S.UNIT -/
abbrev eccLogHiS_unit : FRef := ⟨.eccLogHiS, 31, 28⟩
/-- ECC_LOG_HI_S.UE -/
abbrev eccLogHiS_ue : FRef := ⟨.eccLogHiS, 27, 27⟩
/-- ECC_LOG_HI_S.PARITY -/
abbrev eccLogHiS_parity : FRef := ⟨.eccLogHiS, 26, 26⟩
/-- ECC_LOG_HI_S.SYNDROME -/
abbrev eccLogHiS_syndrome : FRef := ⟨.eccLogHiS, 25, 16⟩
/-- ECC_LOG_HI_S.HITS -/
abbrev eccLogHiS_hits : FRef := ⟨.eccLogHiS, 15, 0⟩
/-- ECC_COUNT_T.CORRECTED -/
abbrev eccCountT_corrected : FRef := ⟨.eccCountT, 31, 16⟩
/-- ECC_COUNT_T.UNCORRECTED -/
abbrev eccCountT_uncorrected : FRef := ⟨.eccCountT, 15, 8⟩
/-- ECC_COUNT_T.OVERFLOW -/
abbrev eccCountT_overflow : FRef := ⟨.eccCountT, 7, 7⟩
/-- ECC_COUNT_T.LOGGED -/
abbrev eccCountT_logged : FRef := ⟨.eccCountT, 4, 0⟩
/-- ECC_LOGCTL_T.CLEAR -/
abbrev eccLogctlT_clear : FRef := ⟨.eccLogctlT, 31, 31⟩
/-- ECC_TEST_T.TEST_EN -/
abbrev eccTestT_testEn : FRef := ⟨.eccTestT, 31, 31⟩
/-- ECC_TEST_T.QFLIP -/
abbrev eccTestT_qflip : FRef := ⟨.eccTestT, 23, 20⟩
/-- ECC_TEST_T.CHK_ARM -/
abbrev eccTestT_chkArm : FRef := ⟨.eccTestT, 19, 19⟩
/-- ECC_TEST_T.CHK_MEM -/
abbrev eccTestT_chkMem : FRef := ⟨.eccTestT, 18, 17⟩
/-- ECC_TEST_T.CHK_XOR -/
abbrev eccTestT_chkXor : FRef := ⟨.eccTestT, 6, 0⟩
/-- ECC_LOG_LO_T.LOCATION -/
abbrev eccLogLoT_location : FRef := ⟨.eccLogLoT, 31, 0⟩
/-- ECC_LOG_HI_T.UNIT -/
abbrev eccLogHiT_unit : FRef := ⟨.eccLogHiT, 31, 28⟩
/-- ECC_LOG_HI_T.UE -/
abbrev eccLogHiT_ue : FRef := ⟨.eccLogHiT, 27, 27⟩
/-- ECC_LOG_HI_T.PARITY -/
abbrev eccLogHiT_parity : FRef := ⟨.eccLogHiT, 26, 26⟩
/-- ECC_LOG_HI_T.SYNDROME -/
abbrev eccLogHiT_syndrome : FRef := ⟨.eccLogHiT, 25, 16⟩
/-- ECC_LOG_HI_T.HITS -/
abbrev eccLogHiT_hits : FRef := ⟨.eccLogHiT, 15, 0⟩
/-- ECC_COUNT_D.CORRECTED -/
abbrev eccCountD_corrected : FRef := ⟨.eccCountD, 31, 16⟩
/-- ECC_COUNT_D.UNCORRECTED -/
abbrev eccCountD_uncorrected : FRef := ⟨.eccCountD, 15, 8⟩
/-- ECC_COUNT_D.OVERFLOW -/
abbrev eccCountD_overflow : FRef := ⟨.eccCountD, 7, 7⟩
/-- ECC_COUNT_D.LOGGED -/
abbrev eccCountD_logged : FRef := ⟨.eccCountD, 4, 0⟩
/-- ECC_LOGCTL_D.CLEAR -/
abbrev eccLogctlD_clear : FRef := ⟨.eccLogctlD, 31, 31⟩
/-- ECC_LOG_LO_D.LOCATION -/
abbrev eccLogLoD_location : FRef := ⟨.eccLogLoD, 31, 0⟩
/-- ECC_LOG_HI_D.UNIT -/
abbrev eccLogHiD_unit : FRef := ⟨.eccLogHiD, 31, 28⟩
/-- ECC_LOG_HI_D.UE -/
abbrev eccLogHiD_ue : FRef := ⟨.eccLogHiD, 27, 27⟩
/-- ECC_LOG_HI_D.PARITY -/
abbrev eccLogHiD_parity : FRef := ⟨.eccLogHiD, 26, 26⟩
/-- ECC_LOG_HI_D.SYNDROME -/
abbrev eccLogHiD_syndrome : FRef := ⟨.eccLogHiD, 25, 16⟩
/-- ECC_LOG_HI_D.HITS -/
abbrev eccLogHiD_hits : FRef := ⟨.eccLogHiD, 15, 0⟩
/-- PROT_STATUS.CARVE -/
abbrev protStatus_carve : FRef := ⟨.protStatus, 31, 26⟩
/-- PROT_STATUS.ENABLED -/
abbrev protStatus_enabled : FRef := ⟨.protStatus, 25, 21⟩
/-- PROT_COUNTS.HITS -/
abbrev protCounts_hits : FRef := ⟨.protCounts, 31, 16⟩
/-- PROT_COUNTS.MISSES -/
abbrev protCounts_misses : FRef := ⟨.protCounts, 15, 0⟩
/-- TWIN_RANGE.SIZE -/
abbrev twinRange_size : FRef := ⟨.twinRange, 24, 16⟩
/-- TWIN_RANGE.BASE -/
abbrev twinRange_base : FRef := ⟨.twinRange, 8, 0⟩
/-- TWIN_CTL.EN -/
abbrev twinCtl_en : FRef := ⟨.twinCtl, 31, 31⟩
/-- TWIN_CTL.SCRAMBLE -/
abbrev twinCtl_scramble : FRef := ⟨.twinCtl, 30, 30⟩
/-- TWIN_CTL.TENANT -/
abbrev twinCtl_tenant : FRef := ⟨.twinCtl, 29, 27⟩
/-- TWIN_CTL.RIGHTS -/
abbrev twinCtl_rights : FRef := ⟨.twinCtl, 9, 0⟩
/-- PWIN_RANGE.SIZE -/
abbrev pwinRange_size : FRef := ⟨.pwinRange, 24, 16⟩
/-- PWIN_RANGE.BASE -/
abbrev pwinRange_base : FRef := ⟨.pwinRange, 8, 0⟩
/-- PWIN_CTL.STATE -/
abbrev pwinCtl_state : FRef := ⟨.pwinCtl, 31, 29⟩
/-- PWIN_CTL.TENANT -/
abbrev pwinCtl_tenant : FRef := ⟨.pwinCtl, 28, 26⟩
/-- PWIN_CTL.SCRAMBLE -/
abbrev pwinCtl_scramble : FRef := ⟨.pwinCtl, 25, 25⟩
/-- PWIN_CTL.LEVELS -/
abbrev pwinCtl_levels : FRef := ⟨.pwinCtl, 24, 21⟩
/-- PWIN_RIGHTS.DEBUG_VISIBLE -/
abbrev pwinRights_debugVisible : FRef := ⟨.pwinRights, 31, 31⟩
/-- PWIN_RIGHTS.RIGHTS -/
abbrev pwinRights_rights : FRef := ⟨.pwinRights, 9, 0⟩
/-- PWIN_META.TAG_BASE -/
abbrev pwinMeta_tagBase : FRef := ⟨.pwinMeta, 31, 16⟩
/-- PWIN_META.TREE_BASE -/
abbrev pwinMeta_treeBase : FRef := ⟨.pwinMeta, 15, 0⟩
/-- PWIN_TAMPER.TAMPER -/
abbrev pwinTamper_tamper : FRef := ⟨.pwinTamper, 15, 0⟩
/-- PWIN_FAULT.VALID -/
abbrev pwinFault_valid : FRef := ⟨.pwinFault, 31, 31⟩
/-- PWIN_FAULT.LEVEL -/
abbrev pwinFault_level : FRef := ⟨.pwinFault, 30, 27⟩
/-- PWIN_FAULT.NODE -/
abbrev pwinFault_node : FRef := ⟨.pwinFault, 22, 0⟩
/-- RCACHE_COUNTS.HITS -/
abbrev rcacheCounts_hits : FRef := ⟨.rcacheCounts, 31, 16⟩
/-- RCACHE_COUNTS.MISSES -/
abbrev rcacheCounts_misses : FRef := ⟨.rcacheCounts, 15, 0⟩
/-- RCACHE_WIN.EN -/
abbrev rcacheWin_en : FRef := ⟨.rcacheWin, 31, 31⟩
/-- RCACHE_WIN.SIZE -/
abbrev rcacheWin_size : FRef := ⟨.rcacheWin, 26, 16⟩
/-- RCACHE_WIN.BASE -/
abbrev rcacheWin_base : FRef := ⟨.rcacheWin, 10, 0⟩
/-- DE_STATUS.OUTSTANDING -/
abbrev deStatus_outstanding : FRef := ⟨.deStatus, 13, 6⟩
/-- DE_STATUS.ACTIVE -/
abbrev deStatus_active : FRef := ⟨.deStatus, 5, 0⟩
/-- CH_CTL.START -/
abbrev chCtl_start : FRef := ⟨.chCtl, 31, 31⟩
/-- CH_CTL.ENABLE -/
abbrev chCtl_enable : FRef := ⟨.chCtl, 30, 30⟩
/-- CH_CTL.PRIO -/
abbrev chCtl_prio : FRef := ⟨.chCtl, 29, 27⟩
/-- CH_CTL.TRIG_EN -/
abbrev chCtl_trigEn : FRef := ⟨.chCtl, 26, 26⟩
/-- CH_CTL.TRIG_EV -/
abbrev chCtl_trigEv : FRef := ⟨.chCtl, 23, 16⟩
/-- CH_CTL.MM_EV -/
abbrev chCtl_mmEv : FRef := ⟨.chCtl, 15, 8⟩
/-- CH_CTL.MM_EN -/
abbrev chCtl_mmEn : FRef := ⟨.chCtl, 7, 7⟩
/-- CH_CTL.TENANT -/
abbrev chCtl_tenant : FRef := ⟨.chCtl, 2, 0⟩
/-- CH_HEAD_LO.ADDR -/
abbrev chHeadLo_addr : FRef := ⟨.chHeadLo, 31, 5⟩
/-- CH_HEAD_HI.ADDR -/
abbrev chHeadHi_addr : FRef := ⟨.chHeadHi, 15, 0⟩
/-- CH_STATUS.STATE -/
abbrev chStatus_state : FRef := ⟨.chStatus, 31, 30⟩
/-- CH_STATUS.MM -/
abbrev chStatus_mm : FRef := ⟨.chStatus, 29, 29⟩
/-- CH_STATUS.CODE -/
abbrev chStatus_code : FRef := ⟨.chStatus, 28, 24⟩
/-- CH_STATUS.PHASE -/
abbrev chStatus_phase : FRef := ⟨.chStatus, 23, 22⟩
/-- CH_STATUS.OUTSTANDING -/
abbrev chStatus_outstanding : FRef := ⟨.chStatus, 6, 0⟩
/-- CH_DESC_LO.ADDR -/
abbrev chDescLo_addr : FRef := ⟨.chDescLo, 31, 0⟩
/-- CH_DESC_HI.ADDR -/
abbrev chDescHi_addr : FRef := ⟨.chDescHi, 15, 0⟩
/-- CH_MM_LO.OFFSET -/
abbrev chMmLo_offset : FRef := ⟨.chMmLo, 31, 0⟩
/-- CH_MM_HI.OFFSET -/
abbrev chMmHi_offset : FRef := ⟨.chMmHi, 7, 0⟩
/-- CH_COUNTS.RETRIES -/
abbrev chCounts_retries : FRef := ⟨.chCounts, 31, 16⟩
/-- CH_COUNTS.TRIG_MISSED -/
abbrev chCounts_trigMissed : FRef := ⟨.chCounts, 15, 8⟩
/-- QUAD_STATUS.LANES -/
abbrev quadStatus_lanes : FRef := ⟨.quadStatus, 31, 0⟩
/-- QUAD_CTL.ENABLE -/
abbrev quadCtl_enable : FRef := ⟨.quadCtl, 31, 31⟩
/-- QUAD_CTL.KX4 -/
abbrev quadCtl_kx4 : FRef := ⟨.quadCtl, 30, 30⟩
/-- QUAD_CTL.TENANT -/
abbrev quadCtl_tenant : FRef := ⟨.quadCtl, 10, 8⟩
/-- QUAD_CTL.SYSEL -/
abbrev quadCtl_sysel : FRef := ⟨.quadCtl, 4, 2⟩
/-- QUAD_CTL.REFSEL -/
abbrev quadCtl_refsel : FRef := ⟨.quadCtl, 1, 0⟩
/-- QUAD_REFFREQ.KHZ -/
abbrev quadReffreq_khz : FRef := ⟨.quadReffreq, 18, 0⟩
/-- LN_CTL.ENABLE -/
abbrev lnCtl_enable : FRef := ⟨.lnCtl, 31, 31⟩
/-- LN_CTL.RESTART -/
abbrev lnCtl_restart : FRef := ⟨.lnCtl, 30, 30⟩
/-- LN_CTL.REST_ACTIVE -/
abbrev lnCtl_restActive : FRef := ⟨.lnCtl, 29, 29⟩
/-- LN_CTL.EXCH -/
abbrev lnCtl_exch : FRef := ⟨.lnCtl, 28, 28⟩
/-- LN_CTL.MODE -/
abbrev lnCtl_mode : FRef := ⟨.lnCtl, 27, 24⟩
/-- LN_CTL.EV_EN -/
abbrev lnCtl_evEn : FRef := ⟨.lnCtl, 23, 23⟩
/-- LN_CTL.EV -/
abbrev lnCtl_ev : FRef := ⟨.lnCtl, 22, 15⟩
/-- LN_CTL.DWELL -/
abbrev lnCtl_dwell : FRef := ⟨.lnCtl, 9, 0⟩
/-- LN_RATE.DIV -/
abbrev lnRate_div : FRef := ⟨.lnRate, 31, 29⟩
/-- LN_RATE.N -/
abbrev lnRate_n : FRef := ⟨.lnRate, 7, 0⟩
/-- LN_RATE_F.F -/
abbrev lnRateF_f : FRef := ⟨.lnRateF, 23, 0⟩
/-- LN_TXEQ.SWING -/
abbrev lnTxeq_swing : FRef := ⟨.lnTxeq, 31, 28⟩
/-- LN_TXEQ.PRE -/
abbrev lnTxeq_pre : FRef := ⟨.lnTxeq, 19, 16⟩
/-- LN_TXEQ.POST -/
abbrev lnTxeq_post : FRef := ⟨.lnTxeq, 12, 8⟩
/-- LN_TXEQ.MAIN -/
abbrev lnTxeq_main : FRef := ⟨.lnTxeq, 5, 0⟩
/-- LN_RXEQ.FREEZE -/
abbrev lnRxeq_freeze : FRef := ⟨.lnRxeq, 31, 31⟩
/-- LN_RXEQ.TRAIN -/
abbrev lnRxeq_train : FRef := ⟨.lnRxeq, 25, 16⟩
/-- LN_RXEQ.CTLE -/
abbrev lnRxeq_ctle : FRef := ⟨.lnRxeq, 3, 0⟩
/-- LN_STATE.STATE -/
abbrev lnState_state : FRef := ⟨.lnState, 31, 29⟩
/-- LN_STATE.LOS -/
abbrev lnState_los : FRef := ⟨.lnState, 28, 28⟩
/-- LN_STATE.LOL -/
abbrev lnState_lol : FRef := ⟨.lnState, 27, 27⟩
/-- LN_STATE.LOCK -/
abbrev lnState_lock : FRef := ⟨.lnState, 26, 26⟩
/-- LN_STATE.RATE_ERR -/
abbrev lnState_rateErr : FRef := ⟨.lnState, 25, 25⟩
/-- LN_STATE.MISMATCH -/
abbrev lnState_mismatch : FRef := ⟨.lnState, 24, 24⟩
/-- LN_STATE.LINK -/
abbrev lnState_link : FRef := ⟨.lnState, 23, 20⟩
/-- LN_STATE.FEC -/
abbrev lnState_fec : FRef := ⟨.lnState, 19, 18⟩
/-- LN_STATE.HUNT -/
abbrev lnState_hunt : FRef := ⟨.lnState, 16, 14⟩
/-- LN_STATE.LINK_DROPS -/
abbrev lnState_linkDrops : FRef := ⟨.lnState, 7, 0⟩
/-- LN_CAP_LO.W1 -/
abbrev lnCapLo_w1 : FRef := ⟨.lnCapLo, 31, 0⟩
/-- LN_CAP_HI.W1 -/
abbrev lnCapHi_w1 : FRef := ⟨.lnCapHi, 31, 0⟩
/-- LN_PARTNER_LO.W1 -/
abbrev lnPartnerLo_w1 : FRef := ⟨.lnPartnerLo, 31, 0⟩
/-- LN_PARTNER_HI.W1 -/
abbrev lnPartnerHi_w1 : FRef := ⟨.lnPartnerHi, 31, 0⟩
/-- LN_MON.RCLK_DIV -/
abbrev lnMon_rclkDiv : FRef := ⟨.lnMon, 23, 16⟩
/-- LN_MON.LOL_PPM -/
abbrev lnMon_lolPpm : FRef := ⟨.lnMon, 12, 8⟩
/-- LN_MON.LOS_TH -/
abbrev lnMon_losTh : FRef := ⟨.lnMon, 3, 0⟩
/-- LN_AN.ABIL -/
abbrev lnAn_abil : FRef := ⟨.lnAn, 8, 0⟩
/-- LN_TEST.GEN_EN -/
abbrev lnTest_genEn : FRef := ⟨.lnTest, 31, 31⟩
/-- LN_TEST.CHK_EN -/
abbrev lnTest_chkEn : FRef := ⟨.lnTest, 30, 30⟩
/-- LN_TEST.INVERT -/
abbrev lnTest_invert : FRef := ⟨.lnTest, 29, 29⟩
/-- LN_TEST.PATTERN -/
abbrev lnTest_pattern : FRef := ⟨.lnTest, 28, 26⟩
/-- LN_TEST.CHK_LOCK -/
abbrev lnTest_chkLock : FRef := ⟨.lnTest, 25, 25⟩
/-- LN_TEST.INJECT -/
abbrev lnTest_inject : FRef := ⟨.lnTest, 24, 24⟩
/-- LN_TEST.BURST -/
abbrev lnTest_burst : FRef := ⟨.lnTest, 23, 23⟩
/-- LN_TEST.BURST_LEN -/
abbrev lnTest_burstLen : FRef := ⟨.lnTest, 21, 16⟩
/-- LN_TEST_ERR.ERRORS -/
abbrev lnTestErr_errors : FRef := ⟨.lnTestErr, 31, 0⟩
/-- LN_USERPAT_LO.PAT -/
abbrev lnUserpatLo_pat : FRef := ⟨.lnUserpatLo, 31, 0⟩
/-- LN_USERPAT_HI.PAT -/
abbrev lnUserpatHi_pat : FRef := ⟨.lnUserpatHi, 31, 0⟩
/-- LN_MAC.TS_EV -/
abbrev lnMac_tsEv : FRef := ⟨.lnMac, 31, 24⟩
/-- LN_MAC.TS_EV_EN -/
abbrev lnMac_tsEvEn : FRef := ⟨.lnMac, 23, 23⟩
/-- LN_MAC.TK_OWN -/
abbrev lnMac_tkOwn : FRef := ⟨.lnMac, 22, 22⟩
/-- LN_MAC.STAMP_RX -/
abbrev lnMac_stampRx : FRef := ⟨.lnMac, 21, 21⟩
/-- LN_MAC.STRIP_FCS -/
abbrev lnMac_stripFcs : FRef := ⟨.lnMac, 20, 20⟩
/-- LN_MAC.DIRECT_RX -/
abbrev lnMac_directRx : FRef := ⟨.lnMac, 19, 19⟩
/-- LN_MAC.MAX_LEN -/
abbrev lnMac_maxLen : FRef := ⟨.lnMac, 13, 0⟩
/-- LN_NETQ.EN -/
abbrev lnNetq_en : FRef := ⟨.lnNetq, 31, 31⟩
/-- LN_NETQ.TILE -/
abbrev lnNetq_tile : FRef := ⟨.lnNetq, 25, 16⟩
/-- LN_NETQ.QUEUE -/
abbrev lnNetq_queue : FRef := ⟨.lnNetq, 1, 0⟩
/-- LN_RX_COUNTS.FRAMES -/
abbrev lnRxCounts_frames : FRef := ⟨.lnRxCounts, 31, 16⟩
/-- LN_RX_COUNTS.BAD -/
abbrev lnRxCounts_bad : FRef := ⟨.lnRxCounts, 15, 8⟩
/-- LN_RX_COUNTS.LONG -/
abbrev lnRxCounts_long : FRef := ⟨.lnRxCounts, 7, 0⟩
/-- LN_TX_COUNTS.FRAMES -/
abbrev lnTxCounts_frames : FRef := ⟨.lnTxCounts, 31, 16⟩
/-- LN_TX_COUNTS.TX_BAD -/
abbrev lnTxCounts_txBad : FRef := ⟨.lnTxCounts, 15, 8⟩
/-- LN_TX_COUNTS.ERR_END -/
abbrev lnTxCounts_errEnd : FRef := ⟨.lnTxCounts, 7, 4⟩
/-- LN_TX_COUNTS.UNDER -/
abbrev lnTxCounts_under : FRef := ⟨.lnTxCounts, 3, 0⟩
/-- LN_RM_COUNTS.OVF -/
abbrev lnRmCounts_ovf : FRef := ⟨.lnRmCounts, 31, 24⟩
/-- LN_RM_COUNTS.INSERTED -/
abbrev lnRmCounts_inserted : FRef := ⟨.lnRmCounts, 15, 8⟩
/-- LN_RM_COUNTS.DELETED -/
abbrev lnRmCounts_deleted : FRef := ⟨.lnRmCounts, 7, 0⟩
/-- LN_FEC_COUNTS.CORRECTED -/
abbrev lnFecCounts_corrected : FRef := ⟨.lnFecCounts, 31, 16⟩
/-- LN_FEC_COUNTS.UNCORRECTED -/
abbrev lnFecCounts_uncorrected : FRef := ⟨.lnFecCounts, 15, 0⟩
/-- LN_TXSTAMP_NS.NS -/
abbrev lnTxstampNs_ns : FRef := ⟨.lnTxstampNs, 31, 0⟩
/-- LN_TXSTAMP_SEC_LO.SEC -/
abbrev lnTxstampSecLo_sec : FRef := ⟨.lnTxstampSecLo, 31, 0⟩
/-- LN_TXSTAMP_SEC_HI.FRACTION -/
abbrev lnTxstampSecHi_fraction : FRef := ⟨.lnTxstampSecHi, 31, 16⟩
/-- LN_TXSTAMP_SEC_HI.SECONDS -/
abbrev lnTxstampSecHi_seconds : FRef := ⟨.lnTxstampSecHi, 15, 0⟩
/-- LN_TXSTAMP_STATUS.VALID -/
abbrev lnTxstampStatus_valid : FRef := ⟨.lnTxstampStatus, 31, 31⟩
/-- LN_TXSTAMP_STATUS.TK -/
abbrev lnTxstampStatus_tk : FRef := ⟨.lnTxstampStatus, 30, 28⟩
/-- LN_TXSTAMP_STATUS.ID -/
abbrev lnTxstampStatus_id : FRef := ⟨.lnTxstampStatus, 27, 24⟩
/-- LN_TXSTAMP_STATUS.LOST -/
abbrev lnTxstampStatus_lost : FRef := ⟨.lnTxstampStatus, 15, 8⟩
/-- LN_TXSTAMP_STATUS.WAITING -/
abbrev lnTxstampStatus_waiting : FRef := ⟨.lnTxstampStatus, 2, 0⟩
/-- LN_SL_STATUS.PRESENT -/
abbrev lnSlStatus_present : FRef := ⟨.lnSlStatus, 31, 31⟩
/-- LN_SL_STATUS.MISSED -/
abbrev lnSlStatus_missed : FRef := ⟨.lnSlStatus, 23, 16⟩
/-- LN_SL_STATUS.DOMAIN -/
abbrev lnSlStatus_domain : FRef := ⟨.lnSlStatus, 15, 0⟩
/-- LN_SL_ID_LO.ID -/
abbrev lnSlIdLo_id : FRef := ⟨.lnSlIdLo, 31, 0⟩
/-- LN_SL_ID_HI.ID -/
abbrev lnSlIdHi_id : FRef := ⟨.lnSlIdHi, 31, 0⟩
/-- LN_HUNT0.VALID -/
abbrev lnHunt0_valid : FRef := ⟨.lnHunt0, 31, 31⟩
/-- LN_HUNT0.CODING -/
abbrev lnHunt0_coding : FRef := ⟨.lnHunt0, 30, 29⟩
/-- LN_HUNT0.RATE -/
abbrev lnHunt0_rate : FRef := ⟨.lnHunt0, 24, 0⟩
/-- LN_HUNT1.VALID -/
abbrev lnHunt1_valid : FRef := ⟨.lnHunt1, 31, 31⟩
/-- LN_HUNT1.CODING -/
abbrev lnHunt1_coding : FRef := ⟨.lnHunt1, 30, 29⟩
/-- LN_HUNT1.RATE -/
abbrev lnHunt1_rate : FRef := ⟨.lnHunt1, 24, 0⟩
/-- LN_HUNT2.VALID -/
abbrev lnHunt2_valid : FRef := ⟨.lnHunt2, 31, 31⟩
/-- LN_HUNT2.CODING -/
abbrev lnHunt2_coding : FRef := ⟨.lnHunt2, 30, 29⟩
/-- LN_HUNT2.RATE -/
abbrev lnHunt2_rate : FRef := ⟨.lnHunt2, 24, 0⟩
/-- LN_HUNT3.VALID -/
abbrev lnHunt3_valid : FRef := ⟨.lnHunt3, 31, 31⟩
/-- LN_HUNT3.CODING -/
abbrev lnHunt3_coding : FRef := ⟨.lnHunt3, 30, 29⟩
/-- LN_HUNT3.RATE -/
abbrev lnHunt3_rate : FRef := ⟨.lnHunt3, 24, 0⟩
/-- LN_HUNT4.VALID -/
abbrev lnHunt4_valid : FRef := ⟨.lnHunt4, 31, 31⟩
/-- LN_HUNT4.CODING -/
abbrev lnHunt4_coding : FRef := ⟨.lnHunt4, 30, 29⟩
/-- LN_HUNT4.RATE -/
abbrev lnHunt4_rate : FRef := ⟨.lnHunt4, 24, 0⟩
/-- LN_HUNT5.VALID -/
abbrev lnHunt5_valid : FRef := ⟨.lnHunt5, 31, 31⟩
/-- LN_HUNT5.CODING -/
abbrev lnHunt5_coding : FRef := ⟨.lnHunt5, 30, 29⟩
/-- LN_HUNT5.RATE -/
abbrev lnHunt5_rate : FRef := ⟨.lnHunt5, 24, 0⟩
/-- LN_HUNT6.VALID -/
abbrev lnHunt6_valid : FRef := ⟨.lnHunt6, 31, 31⟩
/-- LN_HUNT6.CODING -/
abbrev lnHunt6_coding : FRef := ⟨.lnHunt6, 30, 29⟩
/-- LN_HUNT6.RATE -/
abbrev lnHunt6_rate : FRef := ⟨.lnHunt6, 24, 0⟩
/-- LN_HUNT7.VALID -/
abbrev lnHunt7_valid : FRef := ⟨.lnHunt7, 31, 31⟩
/-- LN_HUNT7.CODING -/
abbrev lnHunt7_coding : FRef := ⟨.lnHunt7, 30, 29⟩
/-- LN_HUNT7.RATE -/
abbrev lnHunt7_rate : FRef := ⟨.lnHunt7, 24, 0⟩
/-- HP_STATUS.LINK_UP -/
abbrev hpStatus_linkUp : FRef := ⟨.hpStatus, 31, 31⟩
/-- HP_STATUS.SPEED -/
abbrev hpStatus_speed : FRef := ⟨.hpStatus, 30, 28⟩
/-- HP_STATUS.WIDTH -/
abbrev hpStatus_width : FRef := ⟨.hpStatus, 27, 24⟩
/-- HP_STATUS.IN_PROGRESS -/
abbrev hpStatus_inProgress : FRef := ⟨.hpStatus, 10, 8⟩
/-- HP_STATUS.TENANT -/
abbrev hpStatus_tenant : FRef := ⟨.hpStatus, 6, 4⟩
/-- HP_COUNTS.RING_LOST -/
abbrev hpCounts_ringLost : FRef := ⟨.hpCounts, 31, 24⟩
/-- HP_COUNTS.LOCKED_WR -/
abbrev hpCounts_lockedWr : FRef := ⟨.hpCounts, 23, 16⟩
/-- HP_COUNTS.EVENTS_LOST -/
abbrev hpCounts_eventsLost : FRef := ⟨.hpCounts, 15, 8⟩
/-- HP_COUNTS.BAR2_ERRS -/
abbrev hpCounts_bar2Errs : FRef := ⟨.hpCounts, 7, 0⟩
/-- HP_BAR2_ERR.VALID -/
abbrev hpBar2Err_valid : FRef := ⟨.hpBar2Err, 31, 31⟩
/-- HP_BAR2_ERR.SVC -/
abbrev hpBar2Err_svc : FRef := ⟨.hpBar2Err, 3, 0⟩
/-- HP_BAR2_ADDR_LO.ADDR -/
abbrev hpBar2AddrLo_addr : FRef := ⟨.hpBar2AddrLo, 31, 0⟩
/-- HP_BAR2_ADDR_HI.ADDR -/
abbrev hpBar2AddrHi_addr : FRef := ⟨.hpBar2AddrHi, 15, 0⟩
/-- HP_RELAY.TIMEOUT -/
abbrev hpRelay_timeout : FRef := ⟨.hpRelay, 13, 0⟩
/-- HP_XLAT.EN -/
abbrev hpXlat_en : FRef := ⟨.hpXlat, 31, 31⟩
/-- HP_XLAT.BASE -/
abbrev hpXlat_base : FRef := ⟨.hpXlat, 15, 0⟩
/-- MP_ADDR.ADDRESS -/
abbrev mpAddr_address : FRef := ⟨.mpAddr, 6, 0⟩
/-- RTR_APPLY.APPLY -/
abbrev rtrApply_apply : FRef := ⟨.rtrApply, 14, 0⟩
/-- RTR_LINK_EN.EN -/
abbrev rtrLinkEn_en : FRef := ⟨.rtrLinkEn, 14, 0⟩
/-- RTR_LINK_EN_SH.EN -/
abbrev rtrLinkEnSh_en : FRef := ⟨.rtrLinkEnSh, 14, 0⟩
/-- RTR_STATUS.PENDING -/
abbrev rtrStatus_pending : FRef := ⟨.rtrStatus, 30, 16⟩
/-- RTR_STATUS.PRESENT -/
abbrev rtrStatus_present : FRef := ⟨.rtrStatus, 14, 0⟩
/-- RTR_CREDIT_SH.VC7 -/
abbrev rtrCreditSh_vc7 : FRef := ⟨.rtrCreditSh, 31, 28⟩
/-- RTR_CREDIT_SH.VC6 -/
abbrev rtrCreditSh_vc6 : FRef := ⟨.rtrCreditSh, 27, 24⟩
/-- RTR_CREDIT_SH.VC5 -/
abbrev rtrCreditSh_vc5 : FRef := ⟨.rtrCreditSh, 23, 20⟩
/-- RTR_CREDIT_SH.VC4 -/
abbrev rtrCreditSh_vc4 : FRef := ⟨.rtrCreditSh, 19, 16⟩
/-- RTR_CREDIT_SH.VC3 -/
abbrev rtrCreditSh_vc3 : FRef := ⟨.rtrCreditSh, 15, 12⟩
/-- RTR_CREDIT_SH.VC2 -/
abbrev rtrCreditSh_vc2 : FRef := ⟨.rtrCreditSh, 11, 8⟩
/-- RTR_CREDIT_SH.VC1 -/
abbrev rtrCreditSh_vc1 : FRef := ⟨.rtrCreditSh, 7, 4⟩
/-- RTR_CREDIT_SH.VC0 -/
abbrev rtrCreditSh_vc0 : FRef := ⟨.rtrCreditSh, 3, 0⟩
/-- RTR_CREDIT.VCS -/
abbrev rtrCredit_vcs : FRef := ⟨.rtrCredit, 31, 0⟩
/-- RTR_ARB_SH.RT -/
abbrev rtrArbSh_rt : FRef := ⟨.rtrArbSh, 11, 8⟩
/-- RTR_ARB_SH.RSP -/
abbrev rtrArbSh_rsp : FRef := ⟨.rtrArbSh, 7, 4⟩
/-- RTR_ARB_SH.REQ -/
abbrev rtrArbSh_req : FRef := ⟨.rtrArbSh, 3, 0⟩
/-- RTR_ARB.RT -/
abbrev rtrArb_rt : FRef := ⟨.rtrArb, 11, 8⟩
/-- RTR_ARB.RSP -/
abbrev rtrArb_rsp : FRef := ⟨.rtrArb, 7, 4⟩
/-- RTR_ARB.REQ -/
abbrev rtrArb_req : FRef := ⟨.rtrArb, 3, 0⟩
/-- RTR_ERRORS.CORRECTED -/
abbrev rtrErrors_corrected : FRef := ⟨.rtrErrors, 31, 16⟩
/-- RTR_ERRORS.ABSORBED_REQ -/
abbrev rtrErrors_absorbedReq : FRef := ⟨.rtrErrors, 15, 8⟩
/-- RTR_ERRORS.DROPPED_RSP -/
abbrev rtrErrors_droppedRsp : FRef := ⟨.rtrErrors, 7, 0⟩
/-- RTR_FAULT.VALID -/
abbrev rtrFault_valid : FRef := ⟨.rtrFault, 31, 31⟩
/-- RTR_FAULT.PORT -/
abbrev rtrFault_port : FRef := ⟨.rtrFault, 3, 0⟩
/-- NI_CTL.ENGINE_TAGS -/
abbrev niCtl_engineTags : FRef := ⟨.niCtl, 21, 16⟩
/-- NI_TIMEOUT.TIMEOUT_US -/
abbrev niTimeout_timeoutUs : FRef := ⟨.niTimeout, 16, 0⟩
/-- NI_STATUS.FENCED -/
abbrev niStatus_fenced : FRef := ⟨.niStatus, 31, 31⟩
/-- NI_STATUS.OLD_OUTSTANDING -/
abbrev niStatus_oldOutstanding : FRef := ⟨.niStatus, 22, 16⟩
/-- NI_STATUS.WINDOW_HELD -/
abbrev niStatus_windowHeld : FRef := ⟨.niStatus, 13, 8⟩
/-- NI_STATUS.OUTSTANDING -/
abbrev niStatus_outstanding : FRef := ⟨.niStatus, 6, 0⟩
/-- NI_ERRORS.TIMEOUTS -/
abbrev niErrors_timeouts : FRef := ⟨.niErrors, 31, 24⟩
/-- NI_ERRORS.CRC_FAILS -/
abbrev niErrors_crcFails : FRef := ⟨.niErrors, 23, 16⟩
/-- NI_ERRORS.LATE_RSP -/
abbrev niErrors_lateRsp : FRef := ⟨.niErrors, 15, 8⟩
/-- NI_ERRORS.BAD_TID -/
abbrev niErrors_badTid : FRef := ⟨.niErrors, 7, 4⟩
/-- ROUTE_LO.CODES -/
abbrev routeLo_codes : FRef := ⟨.routeLo, 31, 0⟩
/-- ROUTE_HI.CODES -/
abbrev routeHi_codes : FRef := ⟨.routeHi, 31, 0⟩
/-- ROUTE_CTL.VALID -/
abbrev routeCtl_valid : FRef := ⟨.routeCtl, 31, 31⟩
/-- ROUTE_CTL.EXPRESS -/
abbrev routeCtl_express : FRef := ⟨.routeCtl, 4, 4⟩
/-- ROUTE_CTL.START -/
abbrev routeCtl_start : FRef := ⟨.routeCtl, 2, 0⟩
/-- ENG_CTL.START -/
abbrev engCtl_start : FRef := ⟨.engCtl, 31, 31⟩
/-- ENG_CTL.STOP -/
abbrev engCtl_stop : FRef := ⟨.engCtl, 30, 30⟩
/-- ENG_CTL.EV_EN -/
abbrev engCtl_evEn : FRef := ⟨.engCtl, 22, 22⟩
/-- ENG_CTL.EV -/
abbrev engCtl_ev : FRef := ⟨.engCtl, 21, 14⟩
/-- ENG_CTL.ENTRY -/
abbrev engCtl_entry : FRef := ⟨.engCtl, 13, 0⟩
/-- ENG_STATUS.STATE -/
abbrev engStatus_state : FRef := ⟨.engStatus, 31, 29⟩
/-- ENG_STATUS.SHD -/
abbrev engStatus_shd : FRef := ⟨.engStatus, 28, 28⟩
/-- ENG_STATUS.LOCK -/
abbrev engStatus_lock : FRef := ⟨.engStatus, 27, 27⟩
/-- ENG_STATUS.LOCK_BROKEN -/
abbrev engStatus_lockBroken : FRef := ⟨.engStatus, 26, 26⟩
/-- ENG_STATUS.PC -/
abbrev engStatus_pc : FRef := ⟨.engStatus, 13, 0⟩
/-- ENG_FAULT.CAUSE -/
abbrev engFault_cause : FRef := ⟨.engFault, 31, 28⟩
/-- ENG_FAULT.FPC -/
abbrev engFault_fpc : FRef := ⟨.engFault, 13, 0⟩
/-- ENG_IRQ.PENDING -/
abbrev engIrq_pending : FRef := ⟨.engIrq, 31, 16⟩
/-- ENG_IRQ.ENABLE -/
abbrev engIrq_enable : FRef := ⟨.engIrq, 15, 0⟩
/-- ENG_EVSEL_LO.LINE3 -/
abbrev engEvselLo_line3 : FRef := ⟨.engEvselLo, 31, 24⟩
/-- ENG_EVSEL_LO.LINE2 -/
abbrev engEvselLo_line2 : FRef := ⟨.engEvselLo, 23, 16⟩
/-- ENG_EVSEL_LO.LINE1 -/
abbrev engEvselLo_line1 : FRef := ⟨.engEvselLo, 15, 8⟩
/-- ENG_EVSEL_LO.LINE0 -/
abbrev engEvselLo_line0 : FRef := ⟨.engEvselLo, 7, 0⟩
/-- ENG_EVSEL_HI.LINE3 -/
abbrev engEvselHi_line3 : FRef := ⟨.engEvselHi, 31, 24⟩
/-- ENG_EVSEL_HI.LINE2 -/
abbrev engEvselHi_line2 : FRef := ⟨.engEvselHi, 23, 16⟩
/-- ENG_EVSEL_HI.LINE1 -/
abbrev engEvselHi_line1 : FRef := ⟨.engEvselHi, 15, 8⟩
/-- ENG_EVSEL_HI.LINE0 -/
abbrev engEvselHi_line0 : FRef := ⟨.engEvselHi, 7, 0⟩
/-- ENG_DOORBELL.RING -/
abbrev engDoorbell_ring : FRef := ⟨.engDoorbell, 0, 0⟩
/-- ENG_WDOG.EN -/
abbrev engWdog_en : FRef := ⟨.engWdog, 31, 31⟩
/-- ENG_WDOG.IN_WAIT -/
abbrev engWdog_inWait : FRef := ⟨.engWdog, 30, 30⟩
/-- ENG_WDOG.PERIOD -/
abbrev engWdog_period : FRef := ⟨.engWdog, 23, 0⟩
/-- ENG_WDCNT.COUNT -/
abbrev engWdcnt_count : FRef := ⟨.engWdcnt, 23, 0⟩
/-- ENG_RETURN.LATCH -/
abbrev engReturn_latch : FRef := ⟨.engReturn, 13, 0⟩
/-- Q_CTL.ENABLE -/
abbrev qCtl_enable : FRef := ⟨.qCtl, 31, 31⟩
/-- Q_CTL.FLUSH -/
abbrev qCtl_flush : FRef := ⟨.qCtl, 30, 30⟩
/-- Q_CTL.NOTICE_EN -/
abbrev qCtl_noticeEn : FRef := ⟨.qCtl, 8, 8⟩
/-- Q_CTL.NOTICE_EV -/
abbrev qCtl_noticeEv : FRef := ⟨.qCtl, 7, 0⟩
/-- Q_STATUS.PRODUCER -/
abbrev qStatus_producer : FRef := ⟨.qStatus, 31, 29⟩
/-- Q_STATUS.CONSUMER -/
abbrev qStatus_consumer : FRef := ⟨.qStatus, 28, 26⟩
/-- Q_STATUS.UNDERRUN -/
abbrev qStatus_underrun : FRef := ⟨.qStatus, 25, 25⟩
/-- Q_STATUS.COMMITTED -/
abbrev qStatus_committed : FRef := ⟨.qStatus, 21, 11⟩
/-- Q_STATUS.USED -/
abbrev qStatus_used : FRef := ⟨.qStatus, 10, 0⟩
/-- Q_COUNT.PKT_COUNT -/
abbrev qCount_pktCount : FRef := ⟨.qCount, 31, 16⟩
/-- Q_COUNT.PKT_WAITING -/
abbrev qCount_pktWaiting : FRef := ⟨.qCount, 15, 0⟩
/-- Q_ERRORS.PARITY_ERRS -/
abbrev qErrors_parityErrs : FRef := ⟨.qErrors, 31, 24⟩
/-- Q_ERRORS.ABORTS -/
abbrev qErrors_aborts : FRef := ⟨.qErrors, 23, 16⟩
/-- Q_ERRORS.OVERSIZE -/
abbrev qErrors_oversize : FRef := ⟨.qErrors, 15, 8⟩
/-- Q_ERRORS.DROPPED -/
abbrev qErrors_dropped : FRef := ⟨.qErrors, 7, 0⟩
/-- Q_PUSH_LO.DATA -/
abbrev qPushLo_data : FRef := ⟨.qPushLo, 31, 0⟩
/-- Q_PUSH_HI.DATA -/
abbrev qPushHi_data : FRef := ⟨.qPushHi, 31, 0⟩
/-- Q_PUSH_LAST_LO.DATA -/
abbrev qPushLastLo_data : FRef := ⟨.qPushLastLo, 31, 0⟩
/-- Q_PUSH_LAST_HI.DATA -/
abbrev qPushLastHi_data : FRef := ⟨.qPushLastHi, 31, 0⟩
/-- Q_PUSH_ABORT.ABORT -/
abbrev qPushAbort_abort : FRef := ⟨.qPushAbort, 0, 0⟩
/-- Q_POP_LO.DATA -/
abbrev qPopLo_data : FRef := ⟨.qPopLo, 31, 0⟩
/-- Q_POP_HI.DATA -/
abbrev qPopHi_data : FRef := ⟨.qPopHi, 31, 0⟩
/-- Q_POP_FLAGS.FLAGS -/
abbrev qPopFlags_flags : FRef := ⟨.qPopFlags, 2, 0⟩
/-- DBG_STATUS.LEVEL -/
abbrev dbgStatus_level : FRef := ⟨.dbgStatus, 31, 30⟩
/-- DBG_STATUS.SCOPE -/
abbrev dbgStatus_scope : FRef := ⟨.dbgStatus, 29, 29⟩
/-- DBG_STATUS.TENANT -/
abbrev dbgStatus_tenant : FRef := ⟨.dbgStatus, 28, 26⟩
/-- DBG_STATUS.PEEKED -/
abbrev dbgStatus_peeked : FRef := ⟨.dbgStatus, 25, 25⟩
/-- DBG_STATUS.LOCK_BROKEN -/
abbrev dbgStatus_lockBroken : FRef := ⟨.dbgStatus, 24, 24⟩
/-- DBG_STATUS.FAILS -/
abbrev dbgStatus_fails : FRef := ⟨.dbgStatus, 23, 20⟩
/-- DBG_ENG_SEL.TILE -/
abbrev dbgEngSel_tile : FRef := ⟨.dbgEngSel, 9, 0⟩
/-- DBG_ENG_CTL.HALT -/
abbrev dbgEngCtl_halt : FRef := ⟨.dbgEngCtl, 31, 31⟩
/-- DBG_ENG_CTL.RESUME -/
abbrev dbgEngCtl_resume : FRef := ⟨.dbgEngCtl, 30, 30⟩
/-- DBG_ENG_CTL.STEP -/
abbrev dbgEngCtl_step : FRef := ⟨.dbgEngCtl, 29, 29⟩
/-- DBG_ENG_CTL.IRQ_IN_STEP -/
abbrev dbgEngCtl_irqInStep : FRef := ⟨.dbgEngCtl, 28, 28⟩
/-- DBG_ENG_INJECT.WORD -/
abbrev dbgEngInject_word : FRef := ⟨.dbgEngInject, 31, 0⟩
/-- DBG_ENG_STATUS.STATE -/
abbrev dbgEngStatus_state : FRef := ⟨.dbgEngStatus, 31, 29⟩
/-- DBG_ENG_STATUS.FEED_BUSY -/
abbrev dbgEngStatus_feedBusy : FRef := ⟨.dbgEngStatus, 28, 28⟩
/-- DBG_ENG_STATUS.FEED_CAUSE -/
abbrev dbgEngStatus_feedCause : FRef := ⟨.dbgEngStatus, 27, 24⟩
/-- DBG_ENG_STATUS.FEED_FAULT -/
abbrev dbgEngStatus_feedFault : FRef := ⟨.dbgEngStatus, 23, 23⟩
/-- DBG_ENG_STATUS.BREAK -/
abbrev dbgEngStatus_break : FRef := ⟨.dbgEngStatus, 22, 22⟩
/-- DBG_ENG_STATUS.BRK_UNIT -/
abbrev dbgEngStatus_brkUnit : FRef := ⟨.dbgEngStatus, 18, 16⟩
/-- DBG_ENG_STATUS.PC -/
abbrev dbgEngStatus_pc : FRef := ⟨.dbgEngStatus, 13, 0⟩
/-- DBG_ENG_SAMPLE.VALID -/
abbrev dbgEngSample_valid : FRef := ⟨.dbgEngSample, 31, 31⟩
/-- DBG_ENG_SAMPLE.PC -/
abbrev dbgEngSample_pc : FRef := ⟨.dbgEngSample, 13, 0⟩
/-- EBRK.EN -/
abbrev ebrk_en : FRef := ⟨.ebrk, 31, 31⟩
/-- EBRK.TILE -/
abbrev ebrk_tile : FRef := ⟨.ebrk, 25, 16⟩
/-- EBRK.ADDR -/
abbrev ebrk_addr : FRef := ⟨.ebrk, 13, 0⟩
/-- TRC_CTL.EN -/
abbrev trcCtl_en : FRef := ⟨.trcCtl, 31, 31⟩
/-- TRC_CTL.TILE -/
abbrev trcCtl_tile : FRef := ⟨.trcCtl, 25, 16⟩
/-- TRC_CTL.WRAPPED -/
abbrev trcCtl_wrapped : FRef := ⟨.trcCtl, 15, 15⟩
/-- TRC_CTL.HEAD -/
abbrev trcCtl_head : FRef := ⟨.trcCtl, 7, 0⟩
/-- TRC_ENTRY.KIND -/
abbrev trcEntry_kind : FRef := ⟨.trcEntry, 31, 30⟩
/-- TRC_ENTRY.FROM -/
abbrev trcEntry_from : FRef := ⟨.trcEntry, 29, 16⟩
/-- TRC_ENTRY.TO -/
abbrev trcEntry_to : FRef := ⟨.trcEntry, 13, 0⟩
/-- REF_DBG_CTL.HALT -/
abbrev refDbgCtl_halt : FRef := ⟨.refDbgCtl, 31, 31⟩
/-- REF_DBG_CTL.RESUME -/
abbrev refDbgCtl_resume : FRef := ⟨.refDbgCtl, 30, 30⟩
/-- REF_DBG_CTL.STEP -/
abbrev refDbgCtl_step : FRef := ⟨.refDbgCtl, 29, 29⟩
/-- REF_DBG_STATUS.HALTED -/
abbrev refDbgStatus_halted : FRef := ⟨.refDbgStatus, 31, 31⟩
/-- REF_DBG_STATUS.LOCK_HELD -/
abbrev refDbgStatus_lockHeld : FRef := ⟨.refDbgStatus, 30, 30⟩
/-- REF_DBG_STATUS.LOCK_BROKEN -/
abbrev refDbgStatus_lockBroken : FRef := ⟨.refDbgStatus, 29, 29⟩
/-- REF_DBG_STATUS.CAUSE -/
abbrev refDbgStatus_cause : FRef := ⟨.refDbgStatus, 28, 26⟩
/-- REF_DBG_STATUS.FEED_BUSY -/
abbrev refDbgStatus_feedBusy : FRef := ⟨.refDbgStatus, 25, 25⟩
/-- REF_DBG_STATUS.FEED_FAULT -/
abbrev refDbgStatus_feedFault : FRef := ⟨.refDbgStatus, 24, 24⟩
/-- REF_DBG_STATUS.BRK_UNIT -/
abbrev refDbgStatus_brkUnit : FRef := ⟨.refDbgStatus, 20, 16⟩
/-- REF_PC.PC -/
abbrev refPc_pc : FRef := ⟨.refPc, 31, 0⟩
/-- REF_INJECT.WORD -/
abbrev refInject_word : FRef := ⟨.refInject, 31, 0⟩
/-- PU_STATUS.PATCH_USED -/
abbrev puStatus_patchUsed : FRef := ⟨.puStatus, 5, 0⟩
/-- PU_CTL.EN -/
abbrev puCtl_en : FRef := ⟨.puCtl, 31, 31⟩
/-- PU_CTL.BREAK -/
abbrev puCtl_break : FRef := ⟨.puCtl, 30, 30⟩
/-- PU_CTL.WORD -/
abbrev puCtl_word : FRef := ⟨.puCtl, 27, 24⟩
/-- PU_CTL.BLOCK -/
abbrev puCtl_block : FRef := ⟨.puCtl, 18, 0⟩
/-- PU_RAM.WORD -/
abbrev puRam_word : FRef := ⟨.puRam, 31, 0⟩
end F

end Sys2Proof.Machine
end

