-- ==== Sys2Proof/Machine/State.lean ====
section
/-! DEFINITION. The state of the JX-M1260 as plain data: every register, memory, queue, counter, mode and pin that the manual
gives the device, and the queue of waiting commands; the reasons a step could stop; and the state after reset. -/

namespace Sys2Proof.Machine

/-- Why a step could stop with a fault. -/
inductive Fault where
  /-- Raised by nobody: no command of the table stops the block (the manual answers every refusal with a code). Safe. -/
  | none
deriving DecidableEq, Repr

/-- Why a command could be refused by the model. -/
inductive Refusal where
  /-- Raised only by an arm of Machine/Dispatch.lean whose command has no meaning yet. Safe: nothing is claimed of it. -/
  | notModelled (mnemonic : String)
deriving DecidableEq, Repr

/-- The machine's state. Registers lie in `regs`, keyed by network address; everything else in one structure per chapter. -/
structure State where
  pw : Power
  seams : Seams
  ld : Load
  fab : Fabric
  net : Net
  evs : Events
  /-- packet queues, key 4t + n -/
  pqs : Tbl PQ
  /-- signal engines, key t -/
  eng : Tbl Engine
  dma : Dma
  rgn : Regions
  hbm : Hbm
  prot : Prot
  ecc : Ecc
  /-- lanes, key n -/
  lanes : Tbl LaneSt
  tmr : Tmr
  clk : Clk
  hosts : Hosts
  sett : Sett
  dbg : Dbg
  elec : Elec
  /-- register values that differ from reset, key network address (R28) -/
  regs : Tbl Word32
  /-- draws of free values made so far: the model's own counter, not the manual's -/
  free : Nat
  /-- commands that wait, first in, first out -/
  pending : List Instr
deriving DecidableEq, Repr

def Power.init : Power :=
  ⟨.boot, true, true, 1, false, false, false, false, 0, false, false, false, false, .boot, false, true, false, none, [], false, false⟩

def Seams.init : Seams := ⟨1, [], none, none, false, [], [], [], false, false, [], [], [], [], [], [], []⟩

def Load.init : Load := ⟨[], 0, 0, 3, [], [], [], none, 0, [], false, false, 0, 0, 0, 0, 0, 0, [], [], [], 0, []⟩

def Hosts.init : Hosts := ⟨[], 4, [], [], [], [], [], [], 0, [], 0, [], [], true, 0⟩

/-- The machine right after reset: RESET_N has just risen with supplies valid, and the device stands at step 1 of BOOT (R37,
R42, R48). Registers hold their reset values, RST_CAUSE names RESET_N, memories list nothing, no command waits. -/
def State.reset : State where
  pw := Power.init
  seams := Seams.init
  ld := Load.init
  fab := ⟨[], [], [], [], [], [], false, [], [], [], [], none⟩
  net := ⟨[], [], [], [], [], [], [], [], false, [], [], [], [], []⟩
  evs := ⟨[], [], [], [], [], []⟩
  pqs := []
  eng := []
  dma := ⟨[], []⟩
  rgn := ⟨[], [], []⟩
  hbm := ⟨[], [], 0, [], [], [], [], [], [], [], [], [], [], [], [], [], 0, []⟩
  prot := ⟨[], [], []⟩
  ecc := ⟨[], [3600000000, 1000, 600000000, 86400000000, 2592000000000], [0, 0, 0, 0, 0], [0, 0, 0, 0, 0], []⟩
  lanes := []
  tmr := ⟨[], 0, [], false, 0, false, false, none, 0, false, none, 0⟩
  clk := ⟨[], [], none, none, [], true⟩
  hosts := Hosts.init
  sett := ⟨false, none, 0, [], [], [], [], none⟩
  dbg := ⟨[], [], [], [], 1, 0, 0, false, false, 0, 0, 0, 0, [], 0⟩
  elec := ⟨0, 0, [], 0⟩
  regs := []
  free := 0
  pending := []

end Sys2Proof.Machine
end

