-- ==== Sys2Proof/Machine/Ops.lean ====
section
/-! DEFINITION. The operations every chapter shares: register storage and addresses (R6–R8, R27–R29), ownership (R9, R195,
R269, R384, R412), event lines (R208–R209), event records, alarms and the scoreboard word (R461–R462), mailbox replies and
operation records (R456–R460, R473, R476), and network requests and responses (R165–R185). -/

namespace Sys2Proof.Machine

/-! ### Outcomes -/

/-- The outcome of a command: the machine goes on. -/
abbrev Out := Host.Outcome State Fault Refusal

/-! ### Register addresses (R27–R29) -/

/-- Network address of instance `i` of a block (R28). Instances 0–3 of the debug block are the copies of HP0–HP3, 4 of MP, 5 of
the TAP (R517): copies beyond 0 are keyed above the 48-bit space. -/
def Blk.base (b : Blk) (i : Nat) : Nat :=
  match b with
  | .devctl => 0x7F0000000000
  | .clk => 0x7F0000010000
  | .time => 0x7F0000020000
  | .ev => 0x7F0000030000
  | .seam => 0x7F0000100000 + i * 0x10000
  | .hbm => 0x7F0000200000 + i * 0x100000
  | .prot => 0x7F0000210000 + i * 0x100000
  | .rcache => 0x7F0000220000 + i * 0x100000
  | .dma => 0x7F0001000000 + i * 0x10000
  | .quad => 0x7F0002000000 + i * 0x10000
  | .hp => 0x7F0003000000 + i * 0x10000
  | .tile => 0x7F0100000000 + i * 0x10000
  | .dbg => 0x7F0200010000 + i * 2 ^ 48

/-- The register block at offset `o` of register space, its instance and the offset within it (R28). -/
def blkAt (o : Nat) : Option (Blk × Nat × Nat) :=
  if o < 0x40000 then
    some ((if o / 0x10000 = 0 then .devctl else if o / 0x10000 = 1 then .clk else if o / 0x10000 = 2 then .time else .ev), 0, o % 0x10000)
  else if 0x100000 ≤ o ∧ o < 0x140000 then some (.seam, (o - 0x100000) / 0x10000, o % 0x10000)
  else if 0x200000 ≤ o ∧ o < 0x600000 then
    (match o % 0x100000 / 0x10000 with
     | 0 => some (.hbm, (o - 0x200000) / 0x100000, o % 0x10000)
     | 1 => some (.prot, (o - 0x200000) / 0x100000, o % 0x10000)
     | 2 => some (.rcache, (o - 0x200000) / 0x100000, o % 0x10000)
     | _ => none)
  else if 0x1000000 ≤ o ∧ o < 0x1100000 then some (.dma, (o - 0x1000000) / 0x10000, o % 0x10000)
  else if 0x2000000 ≤ o ∧ o < 0x2300000 then some (.quad, (o - 0x2000000) / 0x10000, o % 0x10000)
  else if 0x3000000 ≤ o ∧ o < 0x3050000 then some (.hp, (o - 0x3000000) / 0x10000, o % 0x10000)
  else if 0x100000000 ≤ o ∧ o < 0x104000000 then some (.tile, (o - 0x100000000) / 0x10000, o % 0x10000)
  else if 0x200010000 ≤ o ∧ o < 0x200020000 then some (.dbg, 0, o % 0x10000)
  else none

/-- The register of a list that lies at offset `o` of its block, and its index. -/
def regIn : List Rg → Nat → Option (Rg × Nat)
  | [], _ => none
  | r :: t, o =>
    if r.info.off ≤ o ∧ (o - r.info.off) % r.info.stride = 0 ∧ (o - r.info.off) / r.info.stride < r.info.n
    then some (r, (o - r.info.off) / r.info.stride) else regIn t o

/-- A register exists at this instance and index: HP_XLAT is reserved for MP and MP_ADDR for HP0–HP3 (R470), and PRIV_STATUS
lists indexes 0x00–0x80 of each port (R84). -/
def Rg.exists (r : Rg) (i j : Nat) : Bool :=
  match r with
  | .hpXlat => i ≠ 4
  | .mpAddr => i = 4
  | .privStatus => j % 256 ≤ 0x80
  | _ => true

/-- The register at a network address: name, instance and index (R28). -/
def regAt (a : Nat) : Option (Rg × Nat × Nat) :=
  if a < 0x7F0000000000 ∨ 0x800000000000 ≤ a then none else
  match blkAt (a - 0x7F0000000000) with
  | none => none
  | some (b, i, o) =>
    match regIn b.regs o with
    | none => none
    | some (r, j) => if r.exists i j then some (r, i, j) else none

/-- The debug registers that exist once for each path (R517). -/
def Rg.perPath (r : Rg) : Bool :=
  match r with
  | .dbgStatus => true
  | .dbgEngSel => true
  | .trcCtl => true
  | .trcEntry => true
  | _ => false

/-- Storage key of a register: its network address. -/
def Rg.key (r : Rg) (i j : Nat) : Nat := r.info.blk.base i + r.info.off + r.info.stride * j

/-- Reset value of a register (its table). TK_STATUS.TENANT of TKn is n (R432). -/
def Rg.rst (r : Rg) (j : Nat) : Nat :=
  r.info.flds.foldl (fun a f => a + f.reset % 2 ^ (f.hi + 1 - f.lo) * 2 ^ f.lo) (if r = .tkStatus then j else 0)

/-- The stored value of a register. -/
def State.reg (s : State) (r : Rg) (i j : Nat) : Nat := (tget (BitVec.ofNat 32 (r.rst j)) s.regs (r.key i j)).toNat

/-- Store a register. -/
def State.setReg (s : State) (r : Rg) (i j v : Nat) : State :=
  { s with regs := tput (BitVec.ofNat 32 (r.rst j)) s.regs (r.key i j) (BitVec.ofNat 32 v) }

/-- A field of a register. -/
def State.getF (s : State) (f : FRef) (i j : Nat) : Nat := bits (s.reg f.rg i j) f.hi f.lo

/-- Set a field of a register, leaving its other bits. -/
def State.setF (s : State) (f : FRef) (i j v : Nat) : State := s.setReg f.rg i j (setBits (s.reg f.rg i j) f.hi f.lo v)

/-- A one-bit field, as a Bool. -/
def State.flag (s : State) (f : FRef) (i j : Nat) : Bool := s.getF f i j = 1

/-- Count `k` more in a saturating counter field. -/
def State.count (s : State) (f : FRef) (i j k : Nat) : State := s.setF f i j (satAdd (f.hi + 1 - f.lo) (s.getF f i j) k)

/-- Count `k` more in a wrapping counter field. -/
def State.wrap (s : State) (f : FRef) (i j k : Nat) : State := s.setF f i j (s.getF f i j + k)

/-- Return registers to their reset values, keeping RWS fields (R7, R54). -/
def State.resetReg (s : State) (r : Rg) (i j : Nat) : State :=
  s.setReg r i j (r.info.flds.foldl (fun a f => if f.acc = .rws then setBits a f.hi f.lo (bits (s.reg r i j) f.hi f.lo) else a) (r.rst j))

/-- A written field value is no reserved encoding (R8). -/
def Fld.okVal (f : Fld) (v : Nat) : Bool := f.ok.isEmpty || f.ok.any (fun p => p.1 ≤ v && v ≤ p.2)

/-- The register value that a plain write of `v` over `old` leaves (R7): RW and RWS fields take the written bits, W1C bits that
are written 1 clear, and RO, RC and WO fields keep what they hold. -/
def Rg.written (r : Rg) (old v : Nat) : Nat :=
  r.info.flds.foldl (fun a f =>
    match f.acc with
    | .rw => setBits a f.hi f.lo (bits v f.hi f.lo)
    | .rws => setBits a f.hi f.lo (bits v f.hi f.lo)
    | .w1c => setBits a f.hi f.lo (bits old f.hi f.lo &&& (2 ^ (f.hi + 1 - f.lo) - 1 - bits v f.hi f.lo))
    | _ => a) old

/-- Reserved encodings that several fields of one register share: the tap ranges and tap sum of LN_TXEQ (R387), link modes 10–15
(R389), a credit split above its buffer of 32 flits (R163, R190), START with STOP and a watchdog of period 0 (R267), CHK_XOR bit 6 for X or Y (R383). -/
def Rg.extraOk (r : Rg) (v : Nat) : Bool :=
  match r with
  | .lnTxeq => bits v 31 28 ≤ 12 && 16 ≤ bits v 5 0 && bits v 19 16 + bits v 5 0 + bits v 12 8 ≤ 63
  | .lnCtl => bits v 27 24 ≤ 9
  | .rtrCreditSh => ((List.range 8).map (fun i => bits v (4 * i + 3) (4 * i))).sum ≤ 32
  | .engCtl => !(bitAt v 31 && bitAt v 30)
  | .engWdog => !(bitAt v 31 && bits v 23 0 = 0)
  | .eccTestT => !(bitAt v 6 && decide (bits v 18 17 = 1 ∨ bits v 18 17 = 2))
  | _ => true

/-- A write of `v` places no reserved encoding in a field that it sets (R8). -/
def Rg.okWrite (r : Rg) (v : Nat) : Bool :=
  r.extraOk v && r.info.flds.all (fun f => if f.acc = .rw ∨ f.acc = .rws ∨ f.acc = .wo then f.okVal (bits v f.hi f.lo) else true)

/-- What a read of a stored value returns: WO fields read as zero (R7). -/
def Rg.readable (r : Rg) (v : Nat) : Nat :=
  r.info.flds.foldl (fun a f => if f.acc = .wo then a else setBits a f.hi f.lo (bits v f.hi f.lo)) 0

/-- The register after a read that clears its RC fields (R7). -/
def Rg.afterRead (r : Rg) (v : Nat) : Nat := r.info.flds.foldl (fun a f => if f.acc = .rc then setBits a f.hi f.lo 0 else a) v

/-- A register holds an RC field that is not clear: a read of it has a side effect (R510). -/
def Rg.clears (r : Rg) (v : Nat) : Bool := decide (r.afterRead v ≠ v)

/-! ### Units of State -/

def State.pq (s : State) (k : Nat) : PQ := tget PQ.init s.pqs k
def State.setPQ (s : State) (k : Nat) (q : PQ) : State := { s with pqs := tput PQ.init s.pqs k q }
def State.engine (s : State) (t : Nat) : Engine := tget Engine.init s.eng t
def State.setEngine (s : State) (t : Nat) (e : Engine) : State := { s with eng := tput Engine.init s.eng t e }
def State.lane (s : State) (l : Nat) : LaneSt := tget LaneSt.init s.lanes l
def State.setLane (s : State) (l : Nat) (x : LaneSt) : State := { s with lanes := tput LaneSt.init s.lanes l x }
def State.port (s : State) (p : Nat) : HostPort := tget HostPort.init s.hosts.ports p
def State.setPort (s : State) (p : Nat) (x : HostPort) : State := { s with hosts.ports := tput HostPort.init s.hosts.ports p x }
def State.region (s : State) (r : Nat) : Region := tget Region.init s.rgn.rs r

/-- The value at which the clamp of a tile's signal holds it, while it is applied. -/
def State.clamp (s : State) (t : Nat) (w : Wire) : Option Bool :=
  if tget 0 s.rgn.ofTile t = 0 then none
  else
    let x := tget Region.init s.rgn.rs (tget 0 s.rgn.ofTile t - 1)
    if x.clamped then some (x.clamps.contains w) else none

/-- Two tiles lie in one region. -/
def State.sameRegion (s : State) (a b : Nat) : Bool := tget 0 s.rgn.ofTile a = tget 0 s.rgn.ofTile b
def State.setRegion (s : State) (r : Nat) (x : Region) : State := { s with rgn.rs := tput Region.init s.rgn.rs r x }
def State.chan (s : State) (c : Nat) : Channel := tget Channel.init s.dma.chans c
def State.setChan (s : State) (c : Nat) (x : Channel) : State := { s with dma.chans := tput Channel.init s.dma.chans c x }
def State.keeper (s : State) (n : Nat) : Keeper := tget Keeper.init s.tmr.tks n
def State.setKeeper (s : State) (n : Nat) (x : Keeper) : State := { s with tmr.tks := tput Keeper.init s.tmr.tks n x }
def State.ni (s : State) (t : Nat) : Ni := tget Ni.init s.net.nis t
def State.setNi (s : State) (t : Nat) (x : Ni) : State := { s with net.nis := tput Ni.init s.net.nis t x }
def State.pwin (s : State) (k : Nat) : PWin := tget PWin.init s.prot.wins k
def State.setPwin (s : State) (k : Nat) (x : PWin) : State := { s with prot.wins := tput PWin.init s.prot.wins k x }
def State.tcfg (s : State) (t : Nat) : TileCfg := tget TileCfg.blank s.fab.cfg t
def State.dpath (s : State) (p : Nat) : DPath := tget DPath.init s.dbg.paths p
def State.setDpath (s : State) (p : Nat) (x : DPath) : State := { s with dbg.paths := tput DPath.init s.dbg.paths p x }

/-- Draw the next free value's index (the model's own counter). -/
def State.draw (s : State) : Nat × State := (s.free, { s with free := s.free + 1 })

/-! ### Ownership (R9, R195, R269, R284, R384, R412) -/

/-- The tenant of a tile: its region's tenant, and T0 otherwise (R195). -/
def State.tileTenant (s : State) (t : Nat) : Nat :=
  if tget 0 s.rgn.ofTile t = 0 then 0 else s.getF F.regionStatus_tenant 0 (tget 0 s.rgn.ofTile t - 1)

/-- REGION_STATUS.STATE: 0 LIVE, 1 FENCED, 2 LOADING, 3 CAPTURING, 4 RESTORING, 5 BLANK (R287). -/
def State.regionState (s : State) (r : Nat) : Nat := s.getF F.regionStatus_state 0 r

/-- The tile's region is in a state other than LIVE (R287, R290). -/
def State.tileHeld (s : State) (t : Nat) : Bool := decide (tget 0 s.rgn.ofTile t ≠ 0) && decide (s.regionState (tget 0 s.rgn.ofTile t - 1) ≠ 0)

/-- How far a fence of the tile's region is: 0 none, 1 DRAIN, 2 clocks stopped (R289). -/
def State.tileFencing (s : State) (t : Nat) : Nat :=
  if tget 0 s.rgn.ofTile t = 0 then 0 else (tget Region.init s.rgn.rs (tget 0 s.rgn.ofTile t - 1)).fencing

/-- The user clocks of a tile run: no REST or HOLD, and its region is LIVE and not past DRAIN (R39, R40, R287, R289). -/
def State.tileClock (s : State) (t : Nat) : Bool := !s.fab.stopped && !s.tileHeld t && decide (s.tileFencing t ≠ 2)

/-- The tenant of a port (R454). -/
def State.portTenant (s : State) (p : Nat) : Nat := s.getF F.hpStatus_tenant p 0

/-- The tenant of a quad (R384). -/
def State.quadTenant (s : State) (q : Nat) : Nat := s.getF F.quadCtl_tenant q 0

/-- The tenant of DMA channel 32e + c (R269). -/
def State.chanTenant (s : State) (c : Nat) : Nat := s.getF F.chCtl_tenant (c / 32) (c % 32)

/-! ### Event lines (R208, R209) -/

/-- Owner of an event line (R212). -/
def State.lineOwner (s : State) (l : Nat) : Nat := bits (s.reg .evOwner 0 (l / 8)) (4 * (l % 8) + 2) (4 * (l % 8))

/-! ### Event records (R462) and alarms (R461, R534) -/

/-- The reporting block of an event: network address bits [47:16]. -/
def srcOf (b : Blk) (i : Nat) : Nat := b.base i / 65536 % 2 ^ 32

/-- Queue one record to a port; a full queue drops it, and the next record that fits is an EVENTS_LOST record (R462). -/
def HostPort.pushEv (x : HostPort) (e : EvRec) : HostPort :=
  if 256 ≤ x.events.length then { x with dropped := x.dropped + 1 }
  else if x.dropped = 0 then { x with events := x.events ++ [e] }
  else
    let l : EvRec := { e with kind := 7, code := 0, tenant := 255, source := srcOf .devctl 0, data := x.dropped % 2 ^ 32 }
    if x.events.length = 255 then { x with events := x.events ++ [l], dropped := 1 }
    else { x with events := x.events ++ [l, e], dropped := 0 }

/-- Queue a record to one port, counting a record that is dropped (R462). -/
def State.queuePort (s : State) (p : Nat) (e : EvRec) : State :=
  let s := if 256 ≤ (s.port p).events.length then s.count F.hpCounts_eventsLost p 0 1 else s
  s.setPort p ((s.port p).pushEv e)

/-- Queue an event to every port bound to `tenant` and every port bound to T0; to every port when device-wide (255) (R462). -/
def State.queueEv (s : State) (tenant kind code source data : Nat) : State :=
  let e : EvRec := ⟨kind, code, tenant, source, data, (s.keeper 0).sec, (s.keeper 0).sub / 2 ^ 32⟩
  iter 5 (fun p s => if tenant = 255 ∨ s.portTenant p = tenant ∨ s.portTenant p = 0 then s.queuePort p e else s) s

/-- Latch an alarm and queue its ALARM event (R461, R534). `fields` are the DATA bits above the cause code. -/
def State.alarm (s : State) (tenant cause fields code source : Nat) : State :=
  State.queueEv { s with hosts.alarms := s.hosts.alarms ++ [⟨tenant, cause⟩] } tenant 1 code source (cause + fields)

/-- A cause of DEGRADED appears or goes; the change of the bit queues DEGRADED_CHANGE (R461, R462). -/
def State.setDegr (s : State) (k : Nat) (on : Bool) : State :=
  let l := if on then (if s.hosts.degr.contains k then s.hosts.degr else s.hosts.degr ++ [k]) else s.hosts.degr.filter (· ≠ k)
  let s' := { s with hosts.degr := l }
  if l.isEmpty = s.hosts.degr.isEmpty then s' else s'.queueEv 255 4 0 (srcOf .devctl 0) (b2n (!l.isEmpty))

/-- Enter a mode; a change queues MODE_CHANGE (R37, R462). -/
def State.setMode (s : State) (m : Mode) : State :=
  if m = s.pw.mode then s else
  State.queueEv { s with pw.mode := m } 255 3 0 (srcOf .devctl 0) (s.pw.mode.code + 256 * m.code)

/-- LOAD ends: frames loaded and verified on all four dies, and HBM initialization ended on all four stacks (R37). The timeout of the
HUDDLE policy runs from here (R46). -/
def State.huddleCheck (s : State) : State :=
  if s.pw.mode = .load ∧ s.pw.loadDone ∧ s.pw.hbmEnded = 15 then State.setMode { s with pw.step := 5, pw.huddleLate := false } .huddle else s

/-! ### The scoreboard word (R12, R461) -/

/-- The standing conditions of R461, as bits of STANDING (R476). -/
def State.standing (s : State) : Nat :=
  b2n (3 ≤ s.ld.repLoaded) +
  2 * b2n ((List.range 4).any (fun d => s.getF F.hbmStatus_state d 0 = 3)) +
  4 * b2n ((List.range 4).any (fun d => s.flag F.hbmStatus_delayStale d 0)) +
  8 * b2n (s.flag F.carStatus_holdBad 0 0) +
  16 * b2n ((List.range 64).any (fun k => s.getF F.pwinCtl_state (k / 16) (k % 16) = 4)) +
  32 * b2n ((List.range 4).any (fun d => 4096 ≤ tget 0 s.ld.spares d))

/-- The alarms that a port sees: device-wide ones and those of its tenant. -/
def State.portAlarms (s : State) (p : Nat) : List Alarm :=
  s.hosts.alarms.filter (fun a => a.tenant = 255 || a.tenant = s.portTenant p)

/-- ALARM, ATTENTION, DEGRADED, TIME_FAULT and EVENTS as bits of a scoreboard word (R461). -/
def State.sbLive (s : State) (p : Nat) : Nat :=
  2 ^ 28 * b2n (!(s.portAlarms p).isEmpty || decide (s.standing ≠ 0)) +
  2 ^ 27 * b2n (!(s.port p).events.isEmpty || (s.pw.huddleLate && decide (s.pw.mode = .huddle))) +
  2 ^ 25 * b2n (!s.hosts.degr.isEmpty) +
  2 ^ 24 * b2n ((List.range 8).any (fun n => s.flag F.tkStatus_timeFault 0 n && (s.portTenant p = 0 || s.portTenant p = n))) +
  2 ^ 16 * min 255 (s.port p).events.length

/-- The Referee is halted by a debugger (R514). -/
def State.refHalted (s : State) : Bool := s.flag F.refDbgStatus_halted 0 0

/-- Maltar runs: it owns the mailboxes, is not halted and not restarting (R49, R460). -/
def State.maltarRuns (s : State) : Bool := s.pw.maltarOwns && !s.refHalted && !s.pw.refRestarting && !s.pw.maltarFailed

/-- The scoreboard word of port `p` (R12, R461). While Maltar does not run, its fields come from the last values it wrote. -/
def State.sbWord (s : State) (p seq : Nat) : Nat :=
  2 ^ 29 * s.pw.mode.code + (if s.maltarRuns then s.sbLive p else (s.port p).sbCopy) + 2 ^ 26 * b2n s.refHalted +
  256 * p + 16 * s.portTenant p + seq

/-! ### Mailboxes (R455–R460) -/

/-- Opcode, LENGTH, TAG, FLAGS and TARGET of a command buffer (R456). -/
def Mailbox.bytes (m : Mailbox) (o n : Nat) : List Byte := (List.range n).map (fun i => tget 0#8 m.cmd (o + i))
def Mailbox.num (m : Mailbox) (o n : Nat) : Nat := leNat (m.bytes o n)
def Mailbox.opcode (m : Mailbox) : Nat := m.num 0 2
def Mailbox.len (m : Mailbox) : Nat := m.num 2 2
def Mailbox.htag (m : Mailbox) : Nat := m.num 4 2
def Mailbox.relay (m : Mailbox) : Bool := m.num 6 1 % 2 = 1
def Mailbox.target (m : Mailbox) : Nat := m.num 8 8
def Mailbox.payload (m : Mailbox) : List Byte := m.bytes 16 m.len

def State.mbox (s : State) (p m : Nat) : Mailbox := tget Mailbox.init (s.port p).mbs m
def State.setMbox (s : State) (p m : Nat) (x : Mailbox) : State :=
  s.setPort p { s.port p with mbs := tput Mailbox.init (s.port p).mbs m x }

/-- Write bytes into a table from offset `o`. -/
def putBytes (t : Tbl Byte) (o : Nat) : List Byte → Tbl Byte
  | [] => t
  | b :: l => putBytes (tput 0#8 t o b) (o + 1) l

/-- The reply buffer of a reply: header of R456, then the payload; the rest of the buffer keeps nothing of an earlier reply. -/
def replyBytes (code hops opcode tag sb rsb : Nat) (payload : List Byte) : List Byte :=
  leBytes 1 code ++ leBytes 1 hops ++ leBytes 2 payload.length ++ leBytes 2 tag ++ leBytes 2 opcode ++ leBytes 4 sb ++ leBytes 4 rsb ++ payload

/-- The device's identifier: its captain die's SILICON_ID (R402, R451). -/
def deviceId : Nat := (Config.siliconId 0).toNat

/-- The scoreboard word of this device for the tenant and port of a relayed command (R461, R468). Events are kept for its own ports only. -/
def State.sbRemote (s : State) (tenant host : Nat) : Nat :=
  2 ^ 29 * s.pw.mode.code + 2 ^ 28 * b2n (s.hosts.alarms.any (fun a => a.tenant = 255 || a.tenant = tenant) || decide (s.standing ≠ 0)) +
  2 ^ 27 * b2n (s.pw.huddleLate && decide (s.pw.mode = .huddle)) + 2 ^ 26 * b2n s.refHalted + 2 ^ 25 * b2n (!s.hosts.degr.isEmpty) +
  2 ^ 24 * b2n ((List.range 8).any (fun n => s.flag F.tkStatus_timeFault 0 n && (tenant = 0 || tenant = n))) + 256 * host + 16 * tenant

/-- Port 5 stands for relayed commands: its mailbox m holds the command as BODY from offset 0, the RELAY frame's header at 1024 and the lane it
came from at 1048 (R467–R469). -/
def Mailbox.relayHead (x : Mailbox) : List Byte := x.bytes 1024 24

/-- The reply of a relayed command: a frame back on the lane it came from, with the executing device's hops and scoreboard word (R456, R467,
R468). -/
def State.relayReply (s : State) (m code : Nat) (payload : List Byte) : State :=
  let x := s.mbox 5 m
  let h := x.relayHead
  let org := leAt h 3 1
  let body := replyBytes code (leAt h 2 1) x.opcode x.htag 0 (s.sbRemote (org / 32) (org / 4 % 8)) payload
  let f : RelayFrame := ⟨x.num 1048 2, 1, 1, org, leAt h 4 8, leAt h 12 8, leAt h 20 2, body⟩
  State.setMbox { s with hosts.relayOut := s.hosts.relayOut ++ [f] } 5 m Mailbox.init

/-- Write the reply of mailbox `m` of port `p`: the whole buffer, then DONE; SEQ advances (R457, R461). A relayed command's goes back as a
frame. -/
def State.replyWith (s : State) (p m code hops rsb : Nat) (payload : List Byte) : State :=
  if p = 5 then s.relayReply m code payload else
  let x := s.mbox p m
  let seq := (s.port p).seq % 16
  let rep := putBytes [] 0 (replyBytes code hops x.opcode x.htag (s.sbWord p seq) rsb payload)
  let s := s.setPort p { s.port p with seq := (seq + 1) % 16, sbCopy := if s.maltarRuns then s.sbLive p else (s.port p).sbCopy }
  s.setMbox p m { x with rep := rep, state := 3, seq := seq, code := code }

/-- A local reply. -/
def State.reply (s : State) (p m code : Nat) (payload : List Byte) : State := s.replyWith p m code 0 0 payload

/-! ### Operation records (R473, R476, R491) -/

/-- Add an operation record; where 16 are kept the oldest completed one is dropped (R476). -/
def addRec (l : List OpRec) (r : OpRec) : List OpRec :=
  if l.length < 16 then l ++ [r]
  else (match l.findIdx? (·.done) with | some i => l.eraseIdx i | none => l) ++ [r]

/-- Mark the running record of a command completed. -/
def markDone (l : List OpRec) (o : LongOp) (code result detail : Nat) : List OpRec :=
  match l.findIdx? (fun r => !r.done && r.tag = o.tag && r.opcode = o.opcode && r.mbox = o.mbox && r.origin = o.origin) with
  | none => l
  | some i => l.modify i (fun r => { r with done := true, code := code, result := result, detail := detail })

/-- A long operation ends: its record takes the final code, RESULT and DETAIL, and OPERATION_DONE is queued, except for a relayed
command's (R459, R473, R491). -/
def State.endOp (s : State) (o : LongOp) (code result detail : Nat) : State :=
  let s := { s with hosts.ops := s.hosts.ops.filter (· ≠ o) }
  let s := s.setPort o.port { s.port o.port with ops := markDone (s.port o.port).ops o code result detail }
  match o.origin with
  | some _ => s
  | none => s.queueEv o.tenant 2 code (srcOf .devctl 0) (o.tag + 65536 * o.opcode + 2 ^ 32 * o.mbox)

/-- The long operations of an opcode on a resource. -/
def State.opsOn (s : State) (res : Nat) (opcodes : List Nat) : List LongOp :=
  s.hosts.ops.filter (fun o => o.res = res && opcodes.contains o.opcode)

/-- End every long operation of the given opcodes on a resource. -/
def State.endOps (s : State) (res : Nat) (opcodes : List Nat) (code result detail : Nat) : State :=
  (s.opsOn res opcodes).foldl (fun s o => s.endOp o code result detail) s

/-! ### Commands (R471–R473) -/

/-- What a command acts with: its port, mailbox, tenant, opcode, TAG and payload, and the origin when it was relayed (R468). -/
structure Ctx where
  port : Nat
  mbox : Nat
  tenant : Nat
  opcode : Nat
  tag : Nat
  pay : List Byte
  origin : Option (Nat × Nat)
deriving DecidableEq, Repr

/-- A little-endian payload field. -/
def Ctx.num (c : Ctx) (o n : Nat) : Nat := leAt c.pay o n

/-- How a command is answered: at once, later as a long operation, or later by a reply of this mailbox. -/
inductive Reply where
  | done (code : Nat) (pay : List Byte)
  | accepted (op : LongOp)
  | wait
deriving DecidableEq, Repr

/-- The long operation of a command. -/
def Ctx.op (c : Ctx) (res : Nat) (args : List Nat) : LongOp :=
  ⟨c.port, c.mbox, c.tag, c.opcode, c.tenant, res, args, 0, c.origin⟩

/-- A command's reply and the state after it. -/
abbrev Body := Ctx → State → State × Reply

/-- Refuse with a code; nothing changes and LENGTH is 0 (R471). -/
def refuse (s : State) (code : Nat) : State × Reply := (s, .done code [])

/-! ### Network requests and responses (R165, R166, R171, R174, R184) -/

/-- The stack and stack-local address of an HBM network address (R308). -/
def State.hbmLocal (s : State) (a : Nat) : Nat × Nat :=
  if s.getF F.hbmMap_interleave 0 0 = 1 then (a / 4096 % 4, a / 16384 * 4096 + a % 4096)
  else (a / 0x600000000, a % 0x600000000)

/-- Exclusive-or of the row bits that a mask selects (R310). -/
def xorMask (m row : Nat) : Nat := ((List.range 15).filter (fun n => bitAt m n && bitAt row n)).length % 2

/-- Pseudo-channel, SID, BG, BA, row and column of a stack-local address (R309, R310). -/
structure Loc where
  pc : Nat
  sid : Nat
  bg : Nat
  ba : Nat
  row : Nat
  col : Nat
deriving DecidableEq, Repr

def State.hbmLoc (s : State) (st l : Nat) : Loc :=
  let row := bits l 34 20
  let x (i v : Nat) : Nat := (v + xorMask (s.getF F.hbmXor_mask st i) row) % 2
  let base : Nat × Nat × Nat × Nat × Nat :=  -- pc, sid, bg, ba, col
    match s.getF F.hbmMap_order st 0 with
    | 0 => (bits l 12 8, bits l 19 19, bits l 16 15, bits l 18 17, bits l 14 13 * 8 + bits l 7 5)
    | 1 => (bits l 14 13 * 8 + bits l 12 10, bits l 19 19, bits l 9 8, bits l 18 17, bits l 16 15 * 8 + bits l 7 5)
    | 2 => (bits l 14 13 * 8 + bits l 12 10, bits l 19 19, bits l 16 15, bits l 18 17, bits l 9 8 * 8 + bits l 7 5)
    | _ => (bits l 19 19 * 16 + bits l 18 17 * 4 + bits l 16 15, bits l 14 14, bits l 11 10, bits l 13 13 * 2 + bits l 12 12,
            bits l 9 8 * 8 + bits l 7 5)
  let (pc, sid, bg, ba, col) := base
  ⟨x 0 (bits pc 0 0) + 2 * x 1 (bits pc 1 1) + 4 * x 2 (bits pc 2 2) + 8 * x 3 (bits pc 3 3) + 16 * x 4 (bits pc 4 4), sid,
   x 5 (bits bg 0 0) + 2 * x 6 (bits bg 1 1), x 7 (bits ba 0 0) + 2 * x 8 (bits ba 1 1), row, col⟩

/-- A shared read-mostly window covers the network address (R327). -/
def State.shared (s : State) (a : Nat) : Bool :=
  (List.range 8).any (fun w => s.flag F.rcacheWin_en 0 w && s.getF F.rcacheWin_base 0 w * 0x4000000 ≤ a &&
    a < (s.getF F.rcacheWin_base 0 w + s.getF F.rcacheWin_size 0 w) * 0x4000000)

/-- Destination endpoint and DPORT of an address, as a source on a die decodes it (R166). -/
def State.decodeDst (s : State) (die a : Nat) : Option (Nat × Nat) :=
  if a < 0x1800000000 then
    let (st, l) := s.hbmLocal a
    if s.shared a && decide (st ≠ die) then some (dieTile die, 5) else some (1024 + 16 * st + (s.hbmLoc st l).pc / 2, 1)
  else if 0x400000000000 ≤ a ∧ a < 0x400400000000 then some ((a - 0x400000000000) / 0x1000000, 0)
  else if 0x7F0000000000 ≤ a ∧ a < 0x800000000000 then
    if 0x200000000 ≤ a - 0x7F0000000000 ∧ a - 0x7F0000000000 < 0x200100000 then some (17, 6) else
    match blkAt (a - 0x7F0000000000) with
    | none => none
    | some (.seam, d, _) => some (dieTile d, 5)
    | some (.rcache, d, _) => some (dieTile d, 5)
    | some (.hbm, st, _) => some (1024 + 16 * st, 1)
    | some (.prot, st, _) => some (1024 + 16 * st, 1)
    | some (.dma, e, _) => some (dmaTile e, 4)
    | some (.quad, q, _) => some (quadTile q, 2)
    | some (.hp, p, _) => if p = 4 then some (17, 6) else some (portTile p, 3)
    | some (.tile, t, _) => some (t, 0)
    | some _ => some (17, 6)
  else none

/-- An operation of 8 bytes aligned to 8 (R171). -/
def NOp.isAtomic (o : NOp) : Bool :=
  match o with
  | .swap => true
  | .fetchAdd => true
  | .compareSwap => true
  | _ => false

/-- R171: the bytes of a request do not cross a 256-byte boundary, an atomic addresses 8 bytes aligned to 8, and an access to register space is
of 4 or 8 aligned bytes (R6). -/
def reqShape (op : NOp) (a n : Nat) : Bool :=
  1 ≤ n && n ≤ 256 && decide (a % 256 + n ≤ 256) && (if op.isAtomic then n = 8 && a % 8 = 0 else true) &&
  (if 0x7F0000000000 ≤ a ∧ a < 0x800000000000 then (n = 4 || n = 8) && a % n = 0 else true)

/-- Requests outstanding of a source: endpoint and DPORT (R165). -/
def State.outsOf (s : State) (src sport : Nat) : List Outst := s.net.outs.filter (fun o => o.req.src = src && o.req.sport = sport)

/-- Tags of a source that are free, oldest freed first (R184). -/
def State.tagsFree (s : State) (src sport : Nat) : List Nat :=
  tget (List.range (if sport = 4 then 128 else 64)) s.net.freeTags (src * 8 + sport)

/-- The tile whose network interface routes and times an endpoint's requests (R165, R166). -/
def niOf (e : Nat) : Nat := if e < 1024 then e else memTile ((e - 1024) / 16) ((e - 1024) % 16)

/-- A link has an express link: its bit of FLEX_ROLE at its own end (R60). -/
def State.expressLink (s : State) (l : Nat) : Bool :=
  match seamLink (l / 4) (l % 4) with
  | none => false
  | some (p, c, j) => bitAt (s.reg .flexRole (l / 1024) p) (2 * c + j)

/-- Maltar's entry e of tile t (R537, R83). -/
def State.maltarEntry (s : State) (t e : Nat) : Nat × Nat × Nat :=
  if s.net.routesOn then routeFor s.expressLink s.net.avoid s.net.named s.net.closed t e else (0, 0, 0)

/-- Route table entry e of tile t in use: ROUTE_LO, ROUTE_HI, ROUTE_CTL. An entry that T0 or a route plan has written stands until a seam reset names a
link of its route, for as long as that lasts, or Maltar takes one out of use (R83, R175, R188, R537). -/
def State.route (s : State) (t e : Nat) : Nat × Nat × Nat :=
  match tget none s.net.routeOv (t * 1088 + e) with
  | some (lo, hi, ctl, known) =>
    if routeUses s.expressLink t (lo, hi, ctl) (s.net.avoid.filter (fun l => !known.contains l)) then s.maltarEntry t e
    else replaced s.expressLink (s.net.named.filter (fun l => !known.contains l)) (s.net.avoid ++ s.net.named ++ s.net.closed) t e (lo, hi, ctl)
  | none => s.maltarEntry t e

/-- Maltar rewrites route tables around other links: requests outstanding through a table that changes are old (R188, R191). -/
def State.rerouteAll (s : State) (avoid named closed : List Nat) : State :=
  let s' := { s with net.avoid := avoid, net.named := named, net.closed := closed }
  let changed (t : Nat) : Bool := (List.range 1088).any (fun e => decide (s.route t e ≠ s'.route t e))
  { s' with net.outs := s.net.outs.map (fun o => if changed (niOf o.req.src) then { o with old := true } else o) }

/-- Rewrite route tables; the links closed to replacements are those of the seam resets still in progress. -/
def State.reroute (s : State) (avoid named : List Nat) : State := s.rerouteAll avoid named (if named.isEmpty then [] else s.net.closed)

/-- The waiting flits of a local port and a virtual channel: classes wait apart, and none holds back another (R177, R364). -/
def injectKey (t p v : Nat) : Nat := (t * 16 + p) * 8 + v

/-- Hand a packet to local port 8 + DPORT of a router (R162). -/
def State.injectAt (s : State) (t dport : Nat) (l : List (BitVec 288)) : State :=
  let k := injectKey t (8 + dport) (flitVc ((l.headD 0#288).toNat))
  { s with net.inject := tput [] s.net.inject k (tget [] s.net.inject k ++ l) }

/-- HOLD has come: the interfaces are fenced toward their tiles, and DMA pauses (R40). -/
def State.inHold (s : State) : Bool := decide (s.pw.mode = .hold) || s.pw.holding

/-- Requests of the engine that wait to read their data, and have their tag and response space (R257). -/
def Engine.sends (e : Engine) : Nat := (e.ynet.filter (fun j => match j with | .send _ _ _ _ => true | _ => false)).length

/-- All the response space of a tile's interface is taken: by outstanding requests, responses on RSI, and requests that wait to read their data (R178). -/
def State.niFull (s : State) (t : Nat) : Bool := decide (64 ≤ (s.outsOf t 0).length + (s.ni t).rsi.length + (s.engine t).sends)

/-- The tile interface holds response space for one more request: 9 flits for each tag, which a response waiting on RSI keeps (R178). -/
def State.rsiSpace (s : State) (r : Req) : Bool :=
  decide (r.sport ≠ 0) || decide (1024 ≤ r.src) || decide ((s.outsOf r.src 0).length + (s.ni r.src).rsi.length < 64)

/-- A request leaves its source: the tag freed longest ago with its next generation, the route of the entry of its destination, and its packet (R165,
R175, R184). -/
def State.sendReq (s : State) (who : Who) (r : Req) (dst dport : Nat) : State :=
  match s.tagsFree r.src r.sport with
  | [] => s
  | tag :: rest =>
    let w := s.route (niOf r.src) dst
    let k := (r.src * 8 + r.sport) * 128 + tag
    let gen := tget 0 s.net.gens k
    let r := { r with tag := tag, gen := gen, dst := dst, dport := dport, codes := w.1 + 2 ^ 32 * w.2.1, start := w.2.2 % 8, hop := 0,
                      express := bitAt w.2.2 4 }
    State.injectAt { s with
        net.outs := s.net.outs ++ [⟨r, who, false⟩]
        net.gens := tput 0 s.net.gens k ((gen + 1) % (if r.sport = 4 then 8 else 16))
        net.freeTags := tput (List.range (if r.sport = 4 then 128 else 64)) s.net.freeTags (r.src * 8 + r.sport) rest } (niOf r.src) r.sport r.packet

/-- The entry of endpoint `dst` in the source's route table is valid (R175). -/
def State.routed (s : State) (src dst : Nat) : Bool := bitAt (s.route (niOf src) dst).2.2 31

/-- A tag and response space are free at the source (R178, R184). -/
def State.hasTag (s : State) (r : Req) : Bool := s.rsiSpace r && !(s.tagsFree r.src r.sport).isEmpty

/-- Send a request to endpoint `dst` and its local port on behalf of `who`, or give the service code that the source answers (R165, R171, R175).
`none`: no tag or response space is free, and the request waits. -/
def State.issueTo (s : State) (who : Who) (r : Req) (dst dport : Nat) : State × Option Nat :=
  if !reqShape r.op r.addr r.size then (s, some 0xA)
  else if !s.routed r.src dst then (s, some 0x8)
  else if !s.hasTag r then (s, none)
  else (s.sendReq who r dst dport, some 0)

/-- Issue a request: decode its address to a destination and send it; no destination is answered ADDRESS_ERROR (R166). -/
def State.issue (s : State) (who : Who) (r : Req) : State × Option Nat :=
  match s.decodeDst (niOf r.src / 256) r.addr with
  | none => (s, some 0xA)
  | some (dst, dport) => s.issueTo who r dst dport

/-- The outstanding request that a response or a timeout names (R184). -/
def State.findOut (s : State) (src sport tag gen : Nat) : Option Outst :=
  s.net.outs.find? (fun o => o.req.src = src && o.req.sport = sport && o.req.tag = tag && o.req.gen = gen)

/-- Complete an outstanding request at its source: its tag is free again (R184). -/
def State.retire (s : State) (o : Outst) : State :=
  { s with net.outs := s.net.outs.erase o,
           net.freeTags := tput (List.range (if o.req.sport = 4 then 128 else 64)) s.net.freeTags (o.req.src * 8 + o.req.sport)
             (s.tagsFree o.req.src o.req.sport ++ [o.req.tag]) }

/-- A destination takes up a request that has reached it. -/
def State.takeReq (s : State) (r : Req) : State := { s with net.reqs := s.net.reqs.erase r }

/-- A destination answers a request: the response leaves by its local port on the request's route reversed (R174, R185). -/
def State.respond (s : State) (r : Req) (svc : Nat) (data : List Byte) : State := s.injectAt (niOf r.dst) r.dport (r.response svc data)

/-- Service codes of R185. -/
def svcOK : Nat := 0
def svcDelayed : Nat := 1
def svcBusy : Nat := 2
def svcFenced : Nat := 3
def svcDenied : Nat := 4
def svcPoisoned : Nat := 5
def svcIntegrity : Nat := 6
def svcFrozen : Nat := 7
def svcUnroutable : Nat := 8
def svcTimeout : Nat := 9
def svcAddress : Nat := 10

end Sys2Proof.Machine
end

