-- ==== Sys2Proof/Machine/CmdFields.lean ====
section
/-! DEFINITION. Values that a command's fields may hold beyond their layout: indexes of a kind, register values, addresses of a list, clock plans, lane
profiles, test periods (21_referee_commands.md R471, R474, R482–R488; 19 R436; 22 R501, R502; 16 R377). -/

namespace Sys2Proof.Machine

/-! ### Clocks (R436, R486) -/

/-- The source codes a synthesizer accepts (R436). -/
def sySrcOk (k c : Nat) : Bool := c = 0x20 + 2 * (k / 8) || c = 0x21 + 2 * (k / 8) || c = 0x28 || c = 0x29

/-- A plan entry (R486): NODE, INDEX, ENABLE, SRC, OD, N, F, and its place in the command. -/
structure PlanEntry where
  node : Nat
  idx : Nat
  en : Nat
  src : Nat
  od : Nat
  n : Nat
  f : Nat
  at' : Nat
deriving DecidableEq, Repr

/-- Entry i of a plan that starts at offset o. -/
def planEntry (p : List Byte) (o i : Nat) : PlanEntry :=
  let b := o + 16 * i
  ⟨leAt p b 1, leAt p (b + 1) 1, leAt p (b + 2) 1, leAt p (b + 4) 2, leAt p (b + 6) 2, leAt p (b + 8) 1, leAt p (b + 12) 4, i⟩

/-- The entry's fields and unused bytes hold no reserved value (R436, R471, R486). -/
def planOk (p : List Byte) (o i : Nat) : Bool :=
  let e := planEntry p o i
  let b := o + 16 * i
  leAt p (b + 3) 1 = 0 && leAt p (b + 9) 3 = 0 && decide (e.en ≤ 1) &&
  (if e.node = 0 then e.idx < 32 && sySrcOk e.idx e.src && 4 ≤ e.od && e.od ≤ 1023 && 16 ≤ e.n && e.n ≤ 255 && e.f < 2 ^ 24
   else e.node = 1 && e.idx < 64 && (e.src ≤ 0x29 || e.src = 0x2B))

/-! ### Settings and profiles (R377, R501, R502) -/

/-- The INSTANCE range of a TYPE: the number of instances; none for a TYPE outside the catalogue. -/
def recInstances : Nat → Option Nat
  | 0x0001 => some 1
  | 0x0002 => some 10
  | 0x0003 => some 1
  | 0x0004 => some 1
  | 0x0005 => some 1
  | 0x0006 => some 1
  | 0x0010 => some 1
  | 0x0011 => some 1
  | 0x0012 => some 16
  | 0x0013 => some 1
  | 0x0014 => some 4
  | 0x0015 => some 4
  | 0x0020 => some 1
  | 0x0021 => some 4
  | 0x0022 => some 96
  | 0x0023 => some 4
  | 0x0024 => some 1
  | 0x0025 => some 4
  | 0x0030 => some 256
  | 0x0031 => some 48
  | 0x0040 => some 1
  | 0x0041 => some 48
  | 0x0050 => some 1
  | 0x0051 => some 1
  | 0x0052 => some 32
  | 0x0060 => some 1
  | 0x0070 => some 2
  | _ => none

/-- TYPE and INSTANCE are in the catalogue. -/
def inCatalogue (t i : Nat) : Bool := match recInstances t with | some n => decide (i < n) | none => false

/-- The in-service test ranges in µs (R377). -/
def istRange (i : Nat) : Nat × Nat :=
  match i with
  | 0 => (600000000, 604800000000)
  | 1 => (100, 1000000)
  | 2 => (60000000, 86400000000)
  | 3 => (3600000000, 2592000000000)
  | _ => (86400000000, 31536000000000)

/-- A period field of an IST record or command: off, the keep-or-default value, or in range (R377, R483). -/
def istOk (i v : Nat) : Bool := v = 0 || v = 2 ^ 64 - 1 || (decide ((istRange i).1 ≤ v) && decide (v ≤ (istRange i).2))

/-- The lane registers of a profile, in order (R502). -/
def profileRegs : List Rg :=
  [.lnCtl, .lnRate, .lnRateF, .lnTxeq, .lnRxeq, .lnMon, .lnAn, .lnMac, .lnNetq, .lnHunt0, .lnHunt1, .lnHunt2, .lnHunt3, .lnHunt4, .lnHunt5,
   .lnHunt6, .lnHunt7]

/-- Bits of a register that a profile may set: its RW fields but ENABLE (R407, R502). -/
def profileBits (r : Rg) (v : Nat) : Bool :=
  decide (r.info.flds.foldl (fun a f => if f.acc = .rw then setBits a f.hi f.lo 0 else a) v = 0) && !(r = .lnCtl && bitAt v 31)

/-- A lane profile value obeys its layout and ranges (R502, R387, R389, R397). LN_RATE and LN_RATE_F are zero in a fixed
Ethernet mode; a hunt entry that is not VALID may be zero. -/
def profileOk (v : List Byte) : Bool :=
  let w (i : Nat) : Nat := leAt v (4 * i) 4
  let mode := bits (w 0) 27 24
  let fixedEth := decide (1 ≤ mode) && decide (mode ≤ 5)
  (v.length = 68 || v.length = 76) &&
  (profileRegs.zipIdx.all (fun q =>
    profileBits q.1 (w q.2) &&
    (if q.2 = 1 ∨ q.2 = 2 then (if fixedEth then w q.2 = 0 else q.1.okWrite (w q.2))
     else if 9 ≤ q.2 ∧ !bitAt (w q.2) 31 ∧ bits (w q.2) 24 0 = 0 then true
     else q.1.okWrite (w q.2)))) &&
  (if decide (1 ≤ mode) && decide (mode ≤ 6) then decide (64 ≤ bits (w 7) 13 0) else true) &&
  (if mode = 8 then bits (w 7) 13 0 % 8 = 0 else true) &&
  (if v.length = 76 then
     decide (Rg.quadCtl.okWrite (w 17)) && bits (w 17) 31 5 = 0 && Rg.quadReffreq.okWrite (w 18) && decide (w 18 < 2 ^ 19) else true)

/-! ### Payloads -/

/-- The quad and lanes of a TARGET: KIND and INDEX. -/
def laneTarget (kind i : Nat) : Option (Nat × List Nat) :=
  if kind = 0 then some (i / 4, [i % 4]) else if i < 48 then some (i, [0, 1, 2, 3]) else none

/-- INDEX of a function identifier lies in its range (R474). -/
def funcIndexOk (p : List Byte) : Bool := decide (leAt p 2 2 < lget 0 [64, 1024, 512, 4, 192, 48, 4, 8, 4096, 1024] (leAt p 0 1))

/-- LENGTH, where it depends on a field: LANE_APPLY with a profile from settings has no inline profile (R484; DESIGN CHOICE, log entry 163). -/
def lenByField (opcode : Nat) (p : List Byte) : Bool :=
  match opcode with
  | 0x0400 => leAt p 2 1 ≠ 0 || p.length = 8
  | _ => true

/-- The fields of a command hold no reserved value beyond their layout (R471, R474, R482–R488): buffers of a region are aligned to 64 bytes where one is
named (R293), HEAD of a channel to 32, indexes lie in the range of their kind, register values and periods in theirs, and addresses are of 48 bits. -/
def fieldsOk (opcode : Nat) (p : List Byte) : Bool :=
  match opcode with
  | 0x0101 => leAt p 1 1 = 0 || leAt p 16 8 % 64 = 0
  | 0x0103 => leAt p 8 8 % 64 = 0
  | 0x0105 => leAt p 8 8 % 64 = 0
  | 0x0202 => funcIndexOk p
  | 0x0203 => funcIndexOk p
  | 0x0204 => funcIndexOk p
  | 0x0300 => leAt p 8 8 % 32 = 0
  | 0x0313 => leAt p 1 1 = 0 || (decide (1 ≤ leAt p 6 2) && decide (leAt p 4 2 + leAt p 6 2 ≤ 1536))
  | 0x0330 =>
    if leAt p 0 1 = 0 then decide (leAt p 2 2 < 1024) && Rg.eccTestT.okWrite (leAt p 4 4) else decide (leAt p 2 2 < 4) && Rg.eccTestS.okWrite (leAt p 4 4)
  | 0x0331 => decide (leAt p 2 2 < (if leAt p 0 1 = 0 then 1024 else 4))
  | 0x0340 => (List.range 5).all (fun k => istOk k (leAt p (8 * k) 8))
  | 0x0400 => (laneTarget (leAt p 0 1) (leAt p 1 1)).isSome && (if leAt p 2 1 = 0 then decide (leAt p 4 2 < 256) else profileOk (p.drop 8))
  | 0x0403 => (laneTarget (leAt p 0 1) (leAt p 1 1)).isSome
  | 0x0603 => decide (leAt p 2 2 < (match leAt p 0 1 with | 0 => 32 | 1 => 64 | _ => 1024))
  | 0x0700 => inCatalogue (leAt p 0 2) (leAt p 2 2)
  | 0x0701 => inCatalogue (leAt p 0 2) (leAt p 2 2)
  | 0x0702 => inCatalogue (leAt p 0 2) (leAt p 2 2)
  | 0x0F04 => (List.range (leAt p 0 1)).all (fun i => decide (leAt p (16 + 12 * i) 8 < 2 ^ 48))
  | _ => true

end Sys2Proof.Machine
end

