-- ==== Sys2Proof/Machine/Net.lean ====
section
/-! DEFINITION. What every source of network requests does with a response or a timeout (07_network_on_chip.md, R182, R184). -/

namespace Sys2Proof.Machine

/-- A request with no payload or with `data`, as its source builds it. -/
def mkReq (op : NOp) (addr size tenant mclass src sport : Nat) (data : List Byte) : Req :=
  ⟨op, addr, size, false, tenant, mclass, src, sport, 0, 0, data, true, false, 0, 0, 0, 0, 0, 0, false, []⟩

/-- Requests outstanding for which `p` holds of whom they serve. -/
def State.outsFor (s : State) (p : Who → Bool) : Nat := (s.net.outs.filter (fun o => p o.who)).length

/-- A response leaves the network. -/
def State.takeResp (s : State) (r : Resp) : State := { s with net.resps := s.net.resps.erase r }

/-- A response at its source: a failed CRC makes it POISONED and is counted; without an outstanding request of its TAG and GEN it
is discarded and counted in LATE_RSP; otherwise its request is complete (R182, R184). -/
def State.arrive (s : State) (r : Resp) : State × Option (Outst × Resp) :=
  let s := s.takeResp r
  match s.findOut r.src r.sport r.tag r.gen with
  | none => (s.count F.niErrors_lateRsp (niOf r.src) 0 1, none)
  | some o =>
    let s := s.retire o
    if r.crcOk then (s, some (o, r))
    else (s.count F.niErrors_crcFails (niOf r.src) 0 1, some (o, { r with svc := 5, poison := true }))

/-- A request times out at its source: TIMEOUT, no data, its tag freed (R184). -/
def State.timeOut (s : State) (o : Outst) : State × Resp :=
  (State.count (s.retire o) F.niErrors_timeouts (niOf o.req.src) 0 1, ⟨o.req.src, o.req.sport, o.req.tag, o.req.gen, 9, [], false, true⟩)

/-- The outstanding request that a response names serves someone for whom `p` holds. -/
def State.respFor (s : State) (r : Resp) (p : Who → Bool) : Bool :=
  match s.findOut r.src r.sport r.tag r.gen with
  | none => false
  | some o => p o.who

/-! ### Destinations (R31, R182) -/

/-- What a destination does with a request: the state after it, the service code and the data of the response. -/
abbrev Served := State × Nat × List Byte

/-- Refuse with a service code: nothing changes (R31). -/
def refused (s : State) (svc : Nat) : Served := (s, svc, [])

/-- A destination takes a request in flight. A failed payload check is counted and answered POISONED, and nothing is performed
(R182); otherwise `f` performs it and its response is sent. `none`: the destination cannot take it yet. -/
def State.serve (s : State) (r : Req) (ni : Nat) (f : State → Option Served) : State :=
  if s.net.reqs.contains r then
    if r.crcOk then
      match f (s.takeReq r) with
      | none => s
      | some x => x.1.respond r x.2.1 x.2.2
    else State.respond (State.count (s.takeReq r) F.niErrors_crcFails ni 0 1) r 5 []
  else s

/-- Bytes of an address within a tile's aperture: tile and offset (R27, R30). -/
def aperture (a : Nat) : Option (Nat × Nat) :=
  if 0x400000000000 ≤ a ∧ a < 0x400400000000 then some ((a - 0x400000000000) / 0x1000000, a % 0x1000000) else none

end Sys2Proof.Machine
end

