-- ==== Sys2Proof/Machine/Router.lean ====
section
/-! DEFINITION. Routers (07_network_on_chip.md, R162–R164, R168–R176, R181, R183, R186, R187, R189, R190) and the transfer units that
carry flits across seams (03_seams.md, R58, R62–R67). -/

namespace Sys2Proof.Machine

/-! ### Transfer units (R62–R65) -/

/-- CRC-16 of R64 over the low 320 bits, most significant bit first. -/
def crc16 (v : Nat) : Nat :=
  ((List.range 320).map (fun i => bitAt v (319 - i))).foldl
    (fun c b => let n := c * 2 % 65536; if bitAt c 15 != b then Nat.xor n 0x1021 else n) 0xFFFF

/-- Fields of a transfer unit (R63). -/
def unitSeq (u : Nat) : Nat := bits u 319 312
def unitAck (u : Nat) : Nat := bits u 311 304
def unitType (u : Nat) : Nat := bits u 303 300
def unitCredit (u : Nat) : Nat := bits u 299 292
def unitNak (u : Nat) : Bool := bitAt u 291
def unitPay (u : Nat) : Nat := u % 2 ^ 288
def unitCrcOk (u : Nat) : Bool := crc16 (u % 2 ^ 320) = bits u 335 320

/-- Build a transfer unit (R63). -/
def mkUnit (seq ack typ credit : Nat) (nak : Bool) (pay : Nat) : Nat :=
  let v := seq * 2 ^ 312 + ack * 2 ^ 304 + typ * 2 ^ 300 + credit * 2 ^ 292 + b2n nak * 2 ^ 291 + pay % 2 ^ 288
  crc16 v * 2 ^ 320 + v

/-- Key of a privileged bundle: die, port and index i of its receiving end (R84). -/
def bkey (d p i : Nat) : Nat := (d * 2 + p) * 256 + i

def State.bundle (s : State) (k : Nat) : Bundle := tget Bundle.init s.seams.bundles k
def State.setBundle (s : State) (k : Nat) (b : Bundle) : State := { s with seams.bundles := tput Bundle.init s.seams.bundles k b }

/-- STATE of PRIV_STATUS (R84): 0 DOWN, 1 UP, 2 DEGRADED, 3 TRAINING. -/
def State.bstate (s : State) (d p i : Nat) : Nat := s.getF F.privStatus_state d (256 * p + i)

/-- The die across a seam port (R55). -/
def across (d p : Nat) : Nat := if p = 0 then (if d % 2 = 0 then d + 1 else d - 1) else (if d < 2 then d + 2 else d - 2)

/-- The partner of a bundle: the other direction of its pair (R57, R58, R60). -/
def partner (i : Nat) : Nat := if i = 0x80 then i else if i % 2 = 0 then i + 1 else i - 1

/-- Die d receives bundle i on port p: forward bundles are received on the higher-numbered die (R56, R57, R60). -/
def receives (d p i : Nat) : Bool := i = 0x80 || (if i % 2 = 0 then across d p < d else d < across d p)

/-- The far end of a bundle pair: the end that receives the partner bundle. -/
def farKey (d p i : Nat) : Nat := bkey (across d p) p (partner i)

/-- The agreed lane map of a bundle at its receiving end. -/
def State.laneMap (s : State) (d p i : Nat) : Nat := s.getF F.privStatus_laneMap d (256 * p + i)

/-- The lane map by which the far end sends the bundle that die d receives (R76, R77). -/
def State.farMap (s : State) (d p i : Nat) : Nat := if i = 0x80 then (s.bundle (farKey d p i)).sendMap else s.laneMap (across d p) p i

/-- Both bundles of a pair carry units, and the two ends of each agree on its lane map: otherwise the link of the pair is disabled in both directions
(R58, R77). -/
def State.pairUp (s : State) (d p i : Nat) : Bool :=
  let up (x : Nat) : Bool := x = 1 || x = 2
  let e := across d p
  let j := partner i
  up (s.bstate d p i) && up (s.bstate e p j) && decide (s.laneMap d p i = s.farMap d p i) && decide (s.laneMap e p j = s.farMap e p j)

/-- CREDIT of the next unit: one bit for each virtual channel that owes a credit (R63). -/
def Bundle.creditBits (b : Bundle) : Nat := ((List.range 8).map (fun v => b2n (decide (tget 0 b.owed v ≠ 0)) * 2 ^ v)).sum

/-- Credits that a unit has carried are owed no longer. -/
def Bundle.paid (b : Bundle) (credit : Nat) : Bundle :=
  { b with owed := iter 8 (fun v o => if bitAt credit v then tput 0 o v (tget 0 o v - 1) else o) b.owed }

/-- The data lanes of an agreed lane map: its 14 lowest-numbered good lanes, ascending (R62). -/
def dataLanes (map : Nat) : List Nat := ((List.range 16).filter (bitAt map)).take 14

/-- A unit striped over its data lanes: lane and 24 bits (R62). DESIGN CHOICE (log entry 90): bits [23:0] on the lowest-numbered lane. -/
def stripe (map u : Nat) : List (Nat × BitVec 24) := (dataLanes map).zipIdx.map (fun q => (q.1, BitVec.ofNat 24 (u / 2 ^ (24 * q.2))))

/-- The unit that striped lanes carry. -/
def unstripe (l : List (Nat × BitVec 24)) : Nat := (l.zipIdx.map (fun q => q.1.2.toNat * 2 ^ (24 * q.2))).sum

/-- The unit that a receiver reads from its 16 lanes: the data lanes of its map alone (R62). -/
def gather (map : Nat) (lanes : List (BitVec 24)) : Nat := unstripe ((dataLanes map).map (fun l => (l, lanes.getD l 0#24)))

/-- Send one content over the data lanes of a map: the unit takes the next SEQ and the ACKSEQ, CREDIT and NAK of now, and is kept until it is acknowledged (R63, R65). -/
def Bundle.send (map : Nat) (b : Bundle) (x : Nat × Nat) : Bundle :=
  let u := BitVec.ofNat 336 (mkUnit b.nextSeq ((b.expSeq + 255) % 256) x.1 b.creditBits b.nakOut x.2)
  Bundle.paid { b with kept := b.kept ++ [u], wire := b.wire ++ [(false, stripe map u.toNat)], nextSeq := (b.nextSeq + 1) % 256, nakOut := false } b.creditBits

/-- Contents that wait are sent in order while fewer than 64 units are unacknowledged; then only IDLE units go out (R65). -/
def Bundle.pump (map : Nat) (b : Bundle) : Bundle :=
  b.queue.foldl (fun b x => if b.kept.length < 64 then b.send map x else { b with queue := b.queue ++ [x] }) { b with queue := [] }

/-- A content joins the queue: an EVENT unit goes ahead of every queued unit of another type (R67). -/
def Bundle.enqueue (b : Bundle) (typ pay : Nat) : Bundle :=
  if typ = 4 then { b with queue := b.queue.takeWhile (fun x => x.1 = 4) ++ [(typ, pay)] ++ b.queue.dropWhile (fun x => x.1 = 4) }
  else { b with queue := b.queue ++ [(typ, pay)] }

/-- Send a unit from die d on port p, on the bundle of the pair in which the die receives bundle i (R65). -/
def State.sendUnit (s : State) (d p i typ pay : Nat) : State :=
  let b := (s.bundle (bkey d p i)).enqueue typ pay
  s.setBundle (bkey d p i) (if s.pairUp d p i then b.pump (s.farMap (across d p) p (partner i)) else b)

/-- The IDLE unit that an end sends when no unit waits (R62, R63). It is not kept; DESIGN CHOICE (log entry 90): its SEQ is that of the unit sent
last. -/
def Bundle.idleUnit (b : Bundle) : Nat := mkUnit ((b.nextSeq + 255) % 256) ((b.expSeq + 255) % 256) 0 b.creditBits b.nakOut 0

/-- The first of the copies of a unit sent in replicated mode whose CRC is correct and whose TYPE is `typ` (R69, R76). -/
def firstCopy (typ : Nat) (copies : List (BitVec 336)) : Option Nat :=
  (copies.map BitVec.toNat).find? (fun u => unitCrcOk u && unitType u = typ)

/-! ### Ports (R162, R189) -/

/-- An express link leaves tile t in a direction. -/
def State.hasExpress (s : State) (t dir : Nat) : Bool := s.expressLink (linkId t dir)

/-- PRESENT: the ports that exist at the router of tile t (R162). -/
def State.portsPresent (s : State) (t : Nat) : Nat :=
  15 + ((List.range 4).map (fun d => b2n (s.hasExpress t d) * 2 ^ (4 + d))).sum + 2 ^ 8 +
  b2n ((List.range 4).any (fun st => (List.range 16).any (fun m => memTile st m = t))) * 2 ^ 9 +
  b2n ((List.range 48).any (fun q => quadTile q = t)) * 2 ^ 10 + b2n ((List.range 4).any (fun p => portTile p = t)) * 2 ^ 11 +
  b2n ((List.range 16).any (fun e => dmaTile e = t)) * 2 ^ 12 + b2n ((List.range 4).any (fun d => dieTile d = t)) * 2 ^ 13 +
  b2n (t = 17) * 2 ^ 14

/-- The channel of output p crosses a seam: its port, and the bundle index that carries it away from this die (R57, R60). -/
def seamBundle (t p : Nat) : Option (Nat × Nat) :=
  if 8 ≤ p then none else
  match seamLink t (p % 4) with
  | none => none
  | some (sp, c, j) =>
    let fwd := t / 256 < across (t / 256) sp
    some (sp, if p < 4 then 4 * c + 2 * j + b2n (!fwd) else 0x40 + 4 * c + 2 * j + b2n (!fwd))

/-- The seam bundles under a link channel carry units (R58). -/
def State.seamUp (s : State) (t p : Nat) : Bool :=
  match seamBundle t p with
  | none => true
  | some (sp, i) => s.pairUp (t / 256) sp i

/-- The port at the other end of a link channel. -/
def farPort (p : Nat) : Nat := p / 4 * 4 + (p % 4 + 2) % 4

/-- A router port is enabled: active settings, and for a link those of the router at its other end (R187). -/
def State.portOn (s : State) (t p : Nat) : Bool :=
  bitAt (s.portsPresent t) p && bitAt (s.reg .rtrLinkEn t 0) p &&
  (if p < 8 then bitAt (s.reg .rtrLinkEn (neighbor t (p % 4)) 0) (farPort p) && s.seamUp t p else true)

def State.router (s : State) (t : Nat) : Router := tget Router.init s.net.routers t
def State.setRouter (s : State) (t : Nat) (r : Router) : State := { s with net.routers := tput Router.init s.net.routers t r }

/-- Flits of an input virtual channel. -/
def Router.q (r : Router) (p v : Nat) : List Flit := tget [] r.bufs (8 * p + v)

/-- Size of an input virtual channel: its credit split in units of 2 flits, or 9 at a local port (R163). -/
def State.inSize (s : State) (t p v : Nat) : Nat := if p < 8 then 2 * bits (s.reg .rtrCredit t p) (4 * v + 3) (4 * v) else 9

/-- Add a flit to an input virtual channel. -/
def Router.put (r : Router) (p v f out : Nat) : Router := { r with bufs := tput [] r.bufs (8 * p + v) (r.q p v ++ [⟨BitVec.ofNat 288 f, out⟩]) }

/-! ### Routing at arrival (R172, R173, R183, R187) -/

/-- The local endpoint behind DPORT at tile t, where one is (R20, R162). -/
def localDst (t dport : Nat) : Nat :=
  if dport = 1 then
    (match (List.range 64).find? (fun i => memTile (i / 16) (i % 16) = t) with | some i => 1024 + i | none => 2047)
  else t

/-- The output of a head flit that arrives at port p of tile t, and the flit with HOP and TURNED brought up to date; 15: it has no
usable output. -/
def State.routeHead (s : State) (t p f : Nat) : Nat × Nat :=
  let code (k : Nat) : Nat := bits f (192 + 2 * k + 1) (192 + 2 * k)
  let eject : Nat := if bits f 148 138 = localDst t (bits f 162 160) then 8 + bits f 162 160 else 15
  let express (d : Nat) : Nat := if bitAt f 180 ∧ s.hasExpress t d then 4 + d else d
  let use (o f : Nat) : Nat × Nat := if o < 15 ∧ s.portOn t o then (o, f) else (15, f)
  if 8 ≤ p then
    let st := bits f 191 189
    if st = 4 then use eject f else if st < 4 then use (express st) f else (15, f)
  else
    let heading := (p % 4 + 2) % 4
    let k := bits f 188 183 + 1
    let f := setBits f 188 183 k
    if 32 < k then (15, f)
    else
      let c := code (k - 1)
      if c = 3 then use eject f
      else if k = 32 then (15, f)
      else if c = 0 then use (express heading) f
      else
        let ew := heading = 1 ∨ heading = 3
        if bitAt f 182 ∨ (bitAt f 181 ∧ ew) ∨ (!bitAt f 181 ∧ ¬ ew) then (15, setBits f 182 182 1)
        else use (express ((heading + (if c = 1 then 3 else 1)) % 4)) (setBits f 182 182 1)

/-- A router answers a request UNROUTABLE itself, on the way back from the codes consumed so far; a response without a usable output is dropped and
counted (R174, R187). Its packet starts at port 15. -/
def State.answerUnroutable (s : State) (t f : Nat) : State :=
  let l := mkPacket ((headerOf f).reply 8) 4 []
  l.foldl (fun s g =>
    let h := s.routeHead t 15 g.toNat
    if h.1 = 15 then s.count F.rtrErrors_droppedRsp t 0 1 else s.setRouter t ((s.router t).put 15 4 (withCheck h.2) h.1)) s

/-- A router absorbs a packet: a request is answered UNROUTABLE and counted, a response is dropped and counted (R187). -/
def State.absorb (s : State) (t f : Nat) : State :=
  if (headerOf f).op = opResponse then s.count F.rtrErrors_droppedRsp t 0 1
  else (s.count F.rtrErrors_absorbedReq t 0 1).answerUnroutable t f

/-- The packets cut short at input p are completed with a data flit marked BAD (R66, R181, R186). -/
def Router.completeBad (r : Router) (p : Nat) : Router :=
  iter 8 (fun v (r : Router) =>
    let c := tget 0 r.cur (8 * p + v)
    if c = 0 then r
    else
      let r := if c = 16 then r else r.put p v (badTail v) (c - 1)
      { r with cur := tput 0 r.cur (8 * p + v) 0 }) r

/-- An input buffer holds a flit less: its credit goes back to the router at the other end, over the seam in the CREDIT of the next unit (R63,
R163). -/
def State.freeCredit (s : State) (t k : Nat) : State :=
  let p := k / 8
  if 8 ≤ p then s
  else match seamBundle t p with
    | some (sp, i) =>
      let e := bkey (t / 256) sp (partner i)
      s.setBundle e { s.bundle e with owed := tput 0 (s.bundle e).owed (k % 8) (tget 0 (s.bundle e).owed (k % 8) + 1) }
    | none =>
      let u := neighbor t (p % 4)
      let r := s.router u
      let c := 8 * farPort p + k % 8
      s.setRouter u { r with credit := tput 0 r.credit c (tget 0 r.credit c + 1) }

/-- What is left at a router of the packets that output p has begun is discarded, with its credits, and its virtual channels are free. -/
def State.cutOut (s : State) (t p : Nat) : State :=
  iter 8 (fun v s =>
    let r := s.router t
    match tget 0 r.holder (8 * p + v) with
    | 0 => s
    | k + 1 =>
      let l := tget [] r.bufs k
      let n := (l.takeWhile (fun f => !flitHead f.raw.toNat)).length
      let s := s.setRouter t { r with bufs := tput [] r.bufs k (l.drop n), holder := tput 0 r.holder (8 * p + v) 0,
                                      cur := if n = l.length ∧ tget 0 r.cur k = p + 1 then tput 0 r.cur k 16 else r.cur }
      iter n (fun _ s => s.freeCredit t k) s) s

/-- Flits of a list that use a virtual channel. -/
def onVc (l : List Nat) (v : Nat) : Nat := (l.filter (fun f => flitVc f = v)).length

/-- Output p of tile t ends: packets begun through it are cut, flits on its link are lost and counted, and the router at the other end completes
what it has of them (R66, R181, R186). The credits of lost flits are held again, and a completing flit takes one (R163). DESIGN CHOICE (log entry 91): no
register shows the count of lost flits. -/
def State.endOutput (s : State) (t p : Nat) : State :=
  let s := s.cutOut t p
  let r := s.router t
  let gone := tget [] r.link p
  let s := s.setRouter t { r with
    link := tput [] r.link p []
    lost := r.lost + gone.length
    asm := iter 8 (fun v a => tput [] a (8 * p + v) []) r.asm }
  if 8 ≤ p then s
  else
    let u := neighbor t (p % 4)
    let q := farPort p
    let old := s.router u
    let new := old.completeBad q
    let s := s.setRouter u new
    let r := s.router t
    s.setRouter t { r with used := iter 8 (fun v a =>
      tput 0 a (8 * p + v) (tget 0 a (8 * p + v) - onVc gone v + ((new.q q v).length - (old.q q v).length))) r.used }

/-- The credits of a link channel on which nothing is under way: those of the flits that the input at its other end holds are taken, and those on their
way back (R163). -/
def State.resync (s : State) (t p : Nat) : State :=
  let r := s.router t
  let far := s.router (neighbor t (p % 4))
  s.setRouter t { r with used := iter 8 (fun v a => tput 0 a (8 * p + v) ((far.q (farPort p) v).length + tget 0 r.credit (8 * p + v))) r.used }

/-- A link ends in both directions. -/
def State.endLink (s : State) (t p : Nat) : State := (s.endOutput t p).endOutput (neighbor t (p % 4)) (farPort p)

/-- The credits of a link in both directions. -/
def State.resyncLink (s : State) (t p : Nat) : State := (s.resync t p).resync (neighbor t (p % 4)) (farPort p)

/-- The link channels that Maltar's own knowledge takes out: one more link to avoid. While Maltar does not run nothing is rewritten (R80). -/
def State.avoidLink (s : State) (l : Nat) : State :=
  if s.net.avoid.contains l then s else s.reroute (s.net.avoid ++ [l]) s.net.named

/-- The link channel of a port: its link, + 4096 for an express link. -/
def portLink (t p : Nat) : Nat := linkId t (p % 4) + p / 4 * 4096

/-- Disable a router port in the active settings, and what still arrives there is lost. -/
def State.shutPort (s : State) (t p : Nat) : State :=
  let s := s.setF F.rtrLinkEn_en t 0 (s.reg .rtrLinkEn t 0 - b2n (bitAt (s.reg .rtrLinkEn t 0) p) * 2 ^ p)
  s.setRouter t { s.router t with shut := (s.router t).shut ||| 2 ^ p }

/-- The link of a local port ends: what its endpoint has on it is lost and counted, and packets cut short are completed with BAD flits (R66, R181). -/
def State.endLocal (s : State) (t p : Nat) : State :=
  let s := s.endOutput t p
  let n := ((List.range 8).map (fun v => (tget [] s.net.inject (injectKey t p v)).length)).sum
  let r := (s.router t).completeBad p
  State.setRouter { s with net.inject := iter 8 (fun v a => tput [] a (injectKey t p v) []) s.net.inject } t { r with lost := r.lost + n }

/-- The link of an input goes out of service in both directions: the flits on it are lost, the fault is recorded and alarmed, packets in progress
are completed with BAD flits, and Maltar's routes avoid it (R181, R78, R66). -/
def State.inputFault (s : State) (t p : Nat) : State :=
  let s := s.shutPort t p
  let s := if p < 8 then s.shutPort (neighbor t (p % 4)) (farPort p) else s
  let s := if s.flag F.rtrFault_valid t 0 then s else (s.setF F.rtrFault_valid t 0 1).setF F.rtrFault_port t 0 p
  let s := if 8 ≤ p then s.endLocal t p else if (seamBundle t p).isSome then s.endLink t p else (s.endLink t p).resyncLink t p
  let s := (s.setDegr (1024 + t) true).alarm 255 0x0A (t * 256 + p * 2 ^ 20) 0 (srcOf .tile t)
  if s.maltarRuns ∧ p < 8 then s.avoidLink (portLink t p) else s

/-- A flit reaches input p of the router of tile t (R172, R181). Its sender held a credit for it, whatever the split is now (R163, R186). At a port that a
fault has taken out of service it is lost and counted. -/
def State.flitIn (s : State) (t p f0 : Nat) : State :=
  if !bitAt (s.portsPresent t) p then s
  else if bitAt (s.router t).shut p then
    State.freeCredit (s.setRouter t { s.router t with lost := (s.router t).lost + 1 }) t (8 * p + flitVc f0)
  else
    let c := checkFlit (fun v => decide (tget 0 (s.router t).cur (8 * p + v) ≠ 0)) f0
    let f := c.2
    if c.1 = .bad then State.inputFault (if (seamBundle t p).isSome then s.freeCredit t (8 * p + flitVc f0) else s) t p
    else
        let v := flitVc f
        let s := if c.1 = .corrected then s.count F.rtrErrors_corrected t 0 1 else s
        if flitHead f then
          let h := s.routeHead t p f
          let out := h.1
          let f := h.2
          let s := if out = 15 then (s.absorb t f).freeCredit t (8 * p + v) else s
          let r := s.router t
          let r := { r with cur := tput 0 r.cur (8 * p + v) (if flitTail f then 0 else out + 1) }
          s.setRouter t (if out = 15 then r else r.put p v (withCheck f) out)
        else
          let r := s.router t
          let c := tget 0 r.cur (8 * p + v)
          if c = 0 then s.freeCredit t (8 * p + v)
          else
            let r := if flitTail f then { r with cur := tput 0 r.cur (8 * p + v) 0 } else r
            if c = 16 then (s.setRouter t r).freeCredit t (8 * p + v) else s.setRouter t (r.put p v f (c - 1))

/-- The flit in front of an input leaves what it came from: what waits of its endpoint on its virtual channel, or the link of the router at the other
end. -/
def State.popArriving (s : State) (t p f : Nat) : State :=
  if 8 ≤ p then
    let k := injectKey t p (flitVc (checkFlit (fun v => decide (tget 0 (s.router t).cur (8 * p + v) ≠ 0)) f).2)
    { s with net.inject := tput [] s.net.inject k ((tget [] s.net.inject k).drop 1) }
  else
    let u := neighbor t (p % 4)
    let r := s.router u
    s.setRouter u { r with link := tput [] r.link (farPort p) ((tget [] r.link (farPort p)).drop 1) }

/-- A local port can take a flit from its endpoint: it is enabled, and the input virtual channel has space (R163). DESIGN CHOICE (log entry 146): while
the port is disabled its endpoint's flits wait. -/
def State.hasSpace (s : State) (t p f : Nat) : Bool :=
  bitAt (s.reg .rtrLinkEn t 0) p && decide (((s.router t).q p (flitVc f)).length < s.inSize t p (flitVc f))

/-- FLIT_ARRIVAL (R172): a flit from the endpoint behind a local port, or over a link that crosses no seam. `f` is what arrives, which an error on
the way may have changed. -/
def execFlitArrival (t : Tile) (p : Fin 15) (f : BitVec 288) (s : State) : Out :=
  .next (if (seamBundle t p).isSome || (decide (8 ≤ p.val) && !s.hasSpace t p f.toNat) then s else (s.popArriving t p f.toNat).flitIn t p f.toNat)

/-! ### Granting (R164, R176) -/

/-- The virtual channel on which a head leaves: D is cleared by a turn and set by the dateline link of the ring (R176). -/
def outVc (t inp out f : Nat) : Nat :=
  let v := flitVc f
  if 8 ≤ out then v
  else
    let turned := inp < 8 ∧ (inp % 4 + 2) % 4 ≠ out % 4
    v / 2 * 2 + (if isDateline t (out % 4) then 1 else if turned ∨ 8 ≤ inp then 0 else v % 2)

/-- Credits that output `out` holds for a virtual channel of its next hop (R163). What an endpoint behind a local port holds is not stated: it takes
every flit that reaches it (R177; log entry 92). -/
def State.creditsFor (s : State) (t out v : Nat) : Nat :=
  if 8 ≤ out then 1
  else s.inSize (neighbor t (out % 4)) (farPort out) v - tget 0 (s.router t).used (8 * out + v)

/-- The flit at the front of input key k may go to `out` now: its output virtual channel, where it may. A packet that has been granted finishes through a
port disabled since (R186). -/
def State.grantable (s : State) (t out k : Nat) : Option Nat :=
  let r := s.router t
  match tget [] r.bufs k with
  | [] => none
  | f :: _ =>
    if f.out ≠ out then none
    else if flitHead f.raw.toNat then
      let v := outVc t (k / 8) out f.raw.toNat
      if !s.portOn t out ∨ bitAt r.applying out ∨ tget 0 r.holder (8 * out + v) ≠ 0 ∨ s.creditsFor t out v = 0 then none else some v
    else
      match (List.range 8).find? (fun v => tget 0 r.holder (8 * out + v) = k + 1) with
      | some v => if s.creditsFor t out v = 0 then none else some v
      | none => none

/-- Arbitration weight of a class: real-time request, request, response (R164, R190). -/
def State.weight (s : State) (t out cls : Nat) : Nat :=
  match cls with
  | 0 => s.getF F.rtrArb_rt t out
  | 1 => s.getF F.rtrArb_req t out
  | _ => s.getF F.rtrArb_rsp t out

/-- The class served next: control first, then weighted round-robin in the order real-time, response, request (R164). The second
part is the round's remaining weights after the choice. -/
def State.pickClass (s : State) (t out : Nat) (have' : List Nat) : Option (Nat × List (Nat × Nat)) :=
  if have'.contains 3 then some (3, [])
  else
    let left (c : Nat) : Nat := tget 0 (s.router t).wrr (4 * out + c)
    let order := ([0, 2, 1]).filter have'.contains
    match order.find? (fun c => 0 < left c) with
    | some c => some (c, [(c, left c - 1)])
    | none =>
      match order with
      | [] => none
      | c :: _ => some (c, ([0, 1, 2]).map (fun d => (d, s.weight t out d - b2n (d = c))))

/-- The input served next within a class: round-robin over the inputs (R164, R365), a port's lower virtual channel first. `last` is the port after
the one served last. -/
def rrPick (last : Nat) (ks : List Nat) : Option Nat :=
  match ks.find? (fun k => last ≤ k / 8) with
  | some k => some k
  | none => ks.head?

/-- Packets at the front of an input whose output has since been disabled are absorbed (R187). -/
def State.absorbStale (s : State) (t out : Nat) : State :=
  if s.portOn t out then s
  else iter 128 (fun k s =>
    let r := s.router t
    match tget [] r.bufs k with
    | [] => s
    | f :: rest =>
      if f.out = out ∧ flitHead f.raw.toNat then
        let n := ((rest.takeWhile (fun g => !flitHead g.raw.toNat))).length
        let open' := tget 0 r.cur k = out + 1 ∧ !flitTail f.raw.toNat ∧ n = rest.length
        let s := iter (n + 1) (fun _ s => s.freeCredit t k) (s.absorb t f.raw.toNat)
        let r := s.router t
        s.setRouter t { r with bufs := tput [] r.bufs k (rest.drop n), cur := if open' then tput 0 r.cur k 16 else r.cur }
      else s) s

/-- A packet has reached the endpoint behind local port `out` of tile t: a request waits for its destination, a response for its source (R169,
R182). The scope and path of a debug master travel beside the header (R507). -/
def State.eject (s : State) (l : List Nat) : State :=
  match l with
  | [] => s
  | f :: data =>
    let h := headerOf f
    if h.op = opResponse then
      let r := h.resp data
      let id := (r.src, r.sport, r.tag, r.gen)
      { s with net.resps := s.net.resps ++ [{ r with poison := r.poison || s.net.pois.contains id }], net.pois := s.net.pois.erase id }
    else
      let (tag, gen) := tagOf h.sport h.tag h.gen
      let o := s.findOut h.src h.sport tag gen
      match h.req (flitVc f / 2) data ((o.map (fun o => o.req.scopeAll)).getD false) ((o.map (fun o => o.req.path)).getD 0) with
      | none => s
      | some r => { s with net.reqs := s.net.reqs ++ [r] }

/-- A local port hands a flit to its endpoint; with its last flit the packet is complete. -/
def State.deliverFlit (s : State) (t out v g : Nat) : State :=
  let r := s.router t
  let l := tget [] r.asm (8 * out + v) ++ [g]
  if flitTail g then State.eject (s.setRouter t { r with asm := tput [] r.asm (8 * out + v) [] }) l
  else s.setRouter t { r with asm := tput [] r.asm (8 * out + v) l }

/-- A granted flit leaves by its output: over a seam in a FLIT unit, over a link, or to an endpoint (R57, R162). -/
def State.sendFlit (s : State) (t out v g : Nat) : State :=
  if 8 ≤ out then s.deliverFlit t out v g
  else match seamBundle t out with
    | some (sp, i) => s.sendUnit (t / 256) sp (partner i) 1 g
    | none =>
      let r := s.router t
      s.setRouter t { r with link := tput [] r.link out (tget [] r.link out ++ [g]) }

/-- FLIT_GRANT: output `out` grants one flit (R164, R176). -/
def State.grant (s : State) (t out : Nat) : State :=
  let s := s.absorbStale t out
  let cands := (List.range 128).filterMap (fun k => (s.grantable t out k).map (fun v => (k, v)))
  match s.pickClass t out (cands.map (fun c => c.2 / 2)) with
  | none => s
  | some (cls, w) =>
    let r := s.router t
    let ks := (cands.filter (fun c => c.2 / 2 = cls)).map (·.1)
    match rrPick (tget 0 r.rr (4 * out + cls)) ks with
    | none => s
    | some k =>
      match (cands.find? (fun c => c.1 = k)), tget [] r.bufs k with
      | some (_, v), f :: rest =>
        let g := withCheck (setBits f.raw.toNat 285 283 v)
        let r := { r with
          bufs := tput [] r.bufs k rest
          rr := tput 0 r.rr (4 * out + cls) ((k / 8 + 1) % 16)
          wrr := w.foldl (fun a p => tput 0 a (4 * out + p.1) p.2) r.wrr
          holder := tput 0 r.holder (8 * out + v) (if flitTail f.raw.toNat then 0 else k + 1)
          used := if 8 ≤ out then r.used else tput 0 r.used (8 * out + v) (tget 0 r.used (8 * out + v) + 1) }
        ((s.setRouter t r).freeCredit t k).sendFlit t out v g
      | _, _ => s

/-- FLIT_GRANT (R164). -/
def execFlitGrant (t : Tile) (out : Fin 15) (s : State) : Out := .next (s.grant t out)

/-- A credit returns to the router of tile t for a virtual channel of the next hop of output p (R163). -/
def State.creditIn (s : State) (t p v : Nat) : State :=
  let r := s.router t
  s.setRouter t { r with used := tput 0 r.used (8 * p + v) (tget 0 r.used (8 * p + v) - 1) }

/-- CREDIT_RETURN: a credit on its way over a link that crosses no seam arrives (R163). -/
def execCreditReturn (t : Tile) (p v : Fin 8) (s : State) : Out :=
  .next (let n := tget 0 (s.router t).credit (8 * p.val + v.val)
    if n = 0 then s
    else (s.setRouter t { s.router t with credit := tput 0 (s.router t).credit (8 * p.val + v.val) (n - 1) }).creditIn t p v)

/-! ### Applying router settings (R186) -/

/-- A write to RTR_APPLY: new grants on the named ports are held; a port whose apply is pending is not affected (R186). -/
def State.rtrApply (s : State) (t v : Nat) : State :=
  let m := v % 2 ^ 15 &&& s.portsPresent t
  let r := s.router t
  let p := r.applying ||| m
  State.setF (s.setRouter t { r with applying := p }) F.rtrStatus_pending t 0 p

/-- The shadow settings enable a port. -/
def State.shadowOn (s : State) (t p : Nat) : Bool := bitAt (s.reg .rtrLinkEnSh t 0 &&& s.portsPresent t) p

/-- The port takes its shadow settings, and grants resume; what is already on its link still arrives (R186, R187). -/
def State.takeShadow (s : State) (t p : Nat) : State :=
  let en := s.reg .rtrLinkEn t 0
  let sh := s.shadowOn t p
  let s := s.setRouter t { s.router t with shut := if sh then (s.router t).shut - b2n (bitAt (s.router t).shut p) * 2 ^ p else (s.router t).shut }
  let s := s.setF F.rtrLinkEn_en t 0 (en - b2n (bitAt en p) * 2 ^ p + b2n sh * 2 ^ p)
  let s := if p < 8 then s.setReg .rtrCredit t p (s.reg .rtrCreditSh t p) else s
  let s := s.setReg .rtrArb t p (s.reg .rtrArbSh t p)
  let r := s.router t
  let a := r.applying - b2n (bitAt r.applying p) * 2 ^ p
  State.setF (s.setRouter t { r with applying := a }) F.rtrStatus_pending t 0 a

/-- No packet that port p has granted is unfinished. -/
def Router.idleOut (r : Router) (p : Nat) : Bool := (List.range 8).all (fun v => tget 0 r.holder (8 * p + v) = 0)

end Sys2Proof.Machine
end

