-- ==== Sys2Proof/Machine/Pulses.lean ====
section
/-! DEFINITION. Event pulses on their way between the dies (08_packet_queues_events.md, R208, R209; 03_seams.md, R67, R79), and the dies that
Maltar reaches (R79). -/

namespace Sys2Proof.Machine

/-- A control bundle pair is up (R79). -/
def State.ctrlPair (s : State) (d p : Nat) : Bool := s.pairUp d p 0x80

/-- All four control bundle pairs are up. -/
def State.ctrlRing (s : State) : Bool := s.ctrlPair 0 0 && s.ctrlPair 0 1 && s.ctrlPair 3 0 && s.ctrlPair 3 1

/-- A die has no control bundle up (R79). -/
def State.cutOff (s : State) (d : Nat) : Bool := !s.ctrlPair d 0 && !s.ctrlPair d 1

/-- The ports by which a pulse leaves die d: at its source both; from there on, the Y port for one that came on the X port, and the other port
while a pair is down (R79). `via`: the port on which it came. -/
def State.evPorts (s : State) (d : Nat) (via : Option Nat) : List Nat :=
  ([0, 1]).filter (fun p => s.ctrlPair d p && (match via with | none => true | some q => decide (q ≠ p) && (!s.ctrlRing || decide (q = 0))))

/-- The pulses of a mask go on from die d in EVENT units (R63, R67). -/
def State.evForward (s : State) (d : Nat) (via : Option Nat) (mask : Nat) : State :=
  (s.evPorts d via).foldl (fun s p => s.sendUnit d p 0x80 4 mask) s

/-- In RUN, a pulse to or from a die without a control bundle up is not delivered there, and the ends on its neighbors that survive count it
(R79). DESIGN CHOICE (log entry 93): each of them counts it once. -/
def State.evLost (s : State) (d : Nat) : State :=
  if s.pw.mode ≠ .run then s
  else
    let gone := if s.cutOff d then [d] else (List.range 4).filter s.cutOff
    gone.foldl (fun s e => ([across e 0, across e 1]).foldl (fun s n => if s.cutOff n then s else s.count F.seamCounts_eventsLost n 0 1) s) s

/-- A source of `tenant` on die d raises a pulse on line `l`: it waits for the sinks of its die and goes out to the others; a pulse from a tenant
that does not own the line is dropped and counted (R209). -/
def State.raiseEv (s : State) (d tenant l : Nat) : State :=
  if s.lineOwner l = tenant then
    State.evLost (State.evForward { s with evs.waiting := s.evs.waiting ++ [d * 256 + l] } d none (2 ^ l)) d
  else s.count F.evErrors_refused 0 0 1

/-- The pulses of an EVENT unit that die d has accepted on port p (R63, R67). -/
def State.evIn (s : State) (d p mask : Nat) : State :=
  State.evForward { s with evs.waiting := s.evs.waiting ++ ((List.range 256).filter (bitAt mask)).map (fun l => d * 256 + l) } d (some p) mask

/-! ### The dies that Maltar reaches (R79) -/

/-- Maltar, on die 0, reaches a die's register blocks over control bundle pairs that are up (R79). -/
def State.reaches (s : State) (d : Nat) : Bool :=
  match d with
  | 0 => true
  | 1 => s.ctrlPair 0 0 || (s.ctrlPair 0 1 && s.ctrlPair 2 0 && s.ctrlPair 3 1)
  | 2 => s.ctrlPair 0 1 || (s.ctrlPair 0 0 && s.ctrlPair 1 1 && s.ctrlPair 3 0)
  | _ => (s.ctrlPair 0 0 && s.ctrlPair 1 1) || (s.ctrlPair 0 1 && s.ctrlPair 2 0)

/-- The port by which die d sends a control unit towards die e: straight, over one die, or round the ring while its pair is down (R79). -/
def State.ctrlHop (s : State) (d e : Nat) : Option Nat :=
  let ps := ([0, 1]).filter (s.ctrlPair d)
  match ps.find? (fun p => across d p = e) with
  | some p => some p
  | none =>
    match ps.find? (fun p => s.ctrlPair (across d p) (1 - p) && decide (across (across d p) (1 - p) = e)) with
    | some p => some p
    | none => ps.head?

/-- Die d sends a payload of a MGMT or CONFIG unit on towards die e; without a control bundle up it is lost. -/
def State.ctrlForward (s : State) (typ d e : Nat) (w : BitVec 288) : State :=
  match s.ctrlHop d e with
  | none => s
  | some p => State.sendUnit { s with seams.units := s.seams.units ++ [(typ, e, w)] } d p 0x80 typ w.toNat

/-- Die d sends a MGMT or CONFIG unit to die e. Its inner layout is not in the manual: a free value (R63; log entry 147). -/
def State.ctrlSend (s : State) (typ d e : Nat) : State :=
  if d = e then s
  else State.ctrlForward { s with free := s.free + 4 } typ d e
    (BitVec.ofNat 288 ((List.range 4).map (fun i => (Config.freeWord (s.free + i)).toNat * 2 ^ (72 * i))).sum)

/-- A MGMT or CONFIG payload has reached die d: `act` where it is for this die, or else it goes on. -/
def State.ctrlIn (s : State) (typ d : Nat) (w : BitVec 288) (act : State → State) : State :=
  match s.seams.units.find? (fun x => x.1 = typ && x.2.2 = w) with
  | none => act s
  | some x =>
    let s := { s with seams.units := s.seams.units.erase x }
    if x.2.1 = d then act s else s.ctrlForward typ d x.2.1 w

/-- The die that holds the register block of an address; other addresses lie on none. -/
def regDie (a : Nat) : Option Nat :=
  if a < 0x7F0000000000 ∨ 0x800000000000 ≤ a then none else
  match blkAt (a - 0x7F0000000000) with
  | none => none
  | some (b, i, _) => some (match b with
    | .seam => i
    | .hbm => i
    | .prot => i
    | .rcache => i
    | .dma => i / 4
    | .quad => i / 12
    | .hp => i % 4
    | .tile => i / 256
    | _ => 0)

/-- The die of a function (R474). -/
def funcDie (kind idx : Nat) : Option Nat :=
  match kind with
  | 1 => some (idx / 256)
  | 2 => some (idx / 128)
  | 3 => some idx
  | 4 => some (idx / 48)
  | 5 => some (idx / 12)
  | 6 => some (idx % 4)
  | 8 => some (idx / 1024)
  | 9 => some (idx / 256)
  | _ => none

/-- The dies whose register blocks a command needs, by opcode and payload (R471, R474). -/
def State.cmdDies (s : State) (op : Nat) (p : List Byte) : List Nat :=
  let b (o : Nat) : Nat := leAt p o 1
  let reg (o : Nat) : List Nat := (regDie (leAt p o 8)).toList
  let tiles (r : Nat) : List Nat := ((s.region r).tiles.map (· / 256)).eraseDups
  match op with
  | 0x0101 => tiles (b 0)
  | 0x0102 => tiles (b 0)
  | 0x0103 => tiles (b 0)
  | 0x0104 => tiles (b 0)
  | 0x0105 => tiles (b 0)
  | 0x0106 => tiles (b 0)
  | 0x0107 => tiles (b 0)
  | 0x0202 => if b 0 = 0 then tiles (leAt p 2 2) else (funcDie (b 0) (leAt p 2 2)).toList
  | 0x0203 => (funcDie (b 0) (leAt p 2 2)).toList
  | 0x0204 => if b 0 = 0 then tiles (leAt p 2 2) else (funcDie (b 0) (leAt p 2 2)).toList
  | 0x0205 => [b 0]
  | 0x0300 => [b 0 / 4]
  | 0x0301 => [b 0 / 4]
  | 0x0302 => [b 0 / 4]
  | 0x0310 => [b 0]
  | 0x0311 => [b 0]
  | 0x0312 => [b 0]
  | 0x0313 => [0, 1, 2, 3]
  | 0x0320 => (if s.getF F.hbmMap_interleave 0 0 = 1 then [0, 1, 2, 3] else [leAt p 0 8 / 0x600000000]) ++ [b 19 / 4]
  | 0x0321 => [b 0, b 2 / 4]
  | 0x0322 => [b 0]
  | 0x0323 => [b 0, b 2 / 4]
  | 0x0324 => [b 0]
  | 0x0330 => [if b 0 = 0 then leAt p 2 2 / 256 else leAt p 2 2]
  | 0x0331 => [if b 0 = 0 then leAt p 2 2 / 256 else leAt p 2 2]
  | 0x0350 => [b 0]
  | 0x0400 => [if b 0 = 0 then b 1 / 48 else b 1 / 12]
  | 0x0401 => [b 0 / 48]
  | 0x0402 => [b 0 / 48]
  | 0x0403 => [if b 0 = 0 then b 1 / 48 else b 1 / 12]
  | 0x0404 => [b 0 / 48]
  | 0x0810 => [leAt p 0 2 / 256]
  | 0x0811 => [leAt p 0 2 / 256]
  | 0x0812 => [leAt p 0 2 / 256]
  | 0x0813 => reg 0
  | 0x0814 => reg 0
  | 0x0F00 => reg 0
  | 0x0F01 => reg 0
  | 0x0F02 => reg 0
  | 0x0F03 => reg 0
  | 0x0F04 => ((List.range (b 0)).filterMap (fun i => regDie (leAt p (16 + 12 * i) 8))).eraseDups
  | _ => []

/-- A command needs a register block of a die that Maltar does not reach: it receives INTERNAL_ERROR (R79). -/
def State.outOfReach (s : State) (op : Nat) (p : List Byte) : Bool :=
  s.pw.seamsTrained && (s.cmdDies op p).any (fun d => !s.reaches d)

end Sys2Proof.Machine
end

