-- ==== Sys2Proof/Machine/CmdTable.lean ====
section
/-! DEFINITION. The mailbox commands' payload layouts (21_referee_commands.md, R471, R475–R492), the order of checks (R472),
the groups accepted in each mode (R50, R479, R481), and how Maltar takes a command from a mailbox (R369, R457, R458, R473). -/

namespace Sys2Proof.Machine

/-- A payload field: offset, size, and the values allowed (all, when the list is empty). -/
abbrev PField := Nat × Nat × List (Nat × Nat)

/-- A command's layout: LENGTH range, and the unit of its variable part (0 none, 1 bytes from `dataAt`, else COUNT entries of
that size from offset 16, COUNT at offset 0); its fields. -/
structure CmdSpec where
  lo : Nat
  hi : Nat
  unit : Nat
  dataAt : Nat
  flds : List PField
deriving DecidableEq, Repr

/-- A fixed-length payload. -/
def fixed (n : Nat) (f : List PField) : CmdSpec := ⟨n, n, 0, n, f⟩

/-- A 48-bit address field in 8 bytes. -/
def addrF (o : Nat) : PField := (o, 8, [(0, 2 ^ 48 - 1)])

/-- The layouts, by opcode; an opcode that is not listed is undefined (R472). -/
def cmdSpec : Nat → Option CmdSpec
  | 0x0000 => some (fixed 0 [])
  | 0x0001 => some (fixed 0 [])
  | 0x0002 => some (fixed 1 [(0, 1, [(1, 15)])])
  | 0x0003 => some (fixed 1 [(0, 1, [(0, 1)])])
  | 0x0100 => some (fixed 1 [(0, 1, [(0, 63)])])
  | 0x0101 => some (fixed 36 [(0, 1, [(0, 63)]), (1, 1, [(0, 7)]), (2, 1, [(0, 1)]), (3, 1, []), (4, 4, [(0, 1000)]), addrF 8, addrF 16,
      addrF 24, (32, 4, [(0, 4096)])])
  | 0x0102 => some (fixed 8 [(0, 1, [(0, 63)]), (4, 4, [(0, 1000)])])
  | 0x0103 => some (fixed 16 [(0, 1, [(0, 63)]), (1, 1, [(1, 7)]), addrF 8])
  | 0x0104 => some (fixed 16 [(0, 1, [(0, 63)]), (2, 1, [(0, 1)]), (3, 1, []), addrF 8])
  | 0x0105 => some (fixed 16 [(0, 1, [(0, 63)]), addrF 8])
  | 0x0106 => some (fixed 20 [(0, 1, [(0, 63)]), addrF 8, (16, 4, [(0, 4096)])])
  | 0x0107 => some (fixed 1 [(0, 1, [(0, 63)])])
  | 0x0108 => some ⟨9, 496, 1, 8, [(0, 1, []), (1, 1, [(0, 3)]), (4, 4, [])]⟩
  | 0x0109 => some (fixed 1 [(0, 1, [])])
  | 0x0110 => some (fixed 24 [(0, 1, [(0, 1)]), addrF 8, (16, 8, [])])
  | 0x0111 => some ⟨9, 496, 1, 8, [(0, 4, [])]⟩
  | 0x0112 => some (fixed 1 [(0, 1, [(0, 1)])])
  | 0x0113 => some (fixed 24 [(0, 1, [(0, 1)]), addrF 8, (16, 8, [])])
  | 0x0200 => some (fixed 1 [(0, 1, [(4, 6)])])
  | 0x0201 => some (fixed 0 [])
  | 0x0202 => some (fixed 4 [(0, 1, [(0, 9)]), (2, 2, [])])
  | 0x0203 => some (fixed 4 [(0, 1, [(0, 9)]), (2, 2, [])])
  | 0x0204 => some (fixed 4 [(0, 1, [(0, 9)]), (2, 2, [])])
  | 0x0205 => some (fixed 4 [(0, 1, [(0, 3)]), (1, 1, [(0, 1)]), (2, 1, [(0, 0x80), (0xFF, 0xFF)]), (3, 1, [(0, 1)])])
  | 0x0300 => some (fixed 16 [(0, 1, [(0, 15)]), (1, 1, [(0, 31)]), (2, 1, [(0, 7)]), addrF 8])
  | 0x0301 => some (fixed 2 [(0, 1, [(0, 15)]), (1, 1, [(0, 31)])])
  | 0x0302 => some (fixed 2 [(0, 1, [(0, 15)]), (1, 1, [(0, 31)])])
  | 0x0310 => some (fixed 1 [(0, 1, [(0, 3)])])
  | 0x0311 => some (fixed 2 [(0, 1, [(0, 3)]), (1, 1, [(0, 2)])])
  | 0x0312 => some (fixed 1 [(0, 1, [(0, 3)])])
  | 0x0313 => some (fixed 8 [(0, 1, [(0, 7)]), (1, 1, [(0, 1)]), (4, 2, []), (6, 2, [])])
  | 0x0320 => some (fixed 32 [addrF 0, (8, 8, []), (16, 2, [(0, 1023)]), (18, 1, [(0, 3)]), (19, 1, [(0, 15)]), (20, 1, [(0, 31)]), (24, 8, [])])
  | 0x0321 => some (fixed 4 [(0, 1, [(0, 3)]), (1, 1, [(0, 15)]), (2, 1, [(0, 15)]), (3, 1, [(0, 31)])])
  | 0x0322 => some (fixed 5 [(0, 1, [(0, 3)]), (1, 1, [(0, 15)]), (2, 2, [(0, 1023)]), (4, 1, [(0, 1)])])
  | 0x0323 => some (fixed 16 [(0, 1, [(0, 3)]), (1, 1, [(0, 15)]), (2, 1, [(0, 15)]), (3, 1, [(0, 31)]), (8, 8, [])])
  | 0x0324 => some (fixed 2 [(0, 1, [(0, 3)]), (1, 1, [(0, 15)])])
  | 0x0330 => some (fixed 8 [(0, 1, [(0, 1)]), (2, 2, []), (4, 4, [])])
  | 0x0331 => some (fixed 4 [(0, 1, [(0, 2)]), (1, 1, [(0, 1)]), (2, 2, [])])
  | 0x0340 => some (fixed 40 [(0, 8, []), (8, 8, []), (16, 8, []), (24, 8, []), (32, 8, [])])
  | 0x0350 => some (fixed 6 [(0, 1, [(0, 3)]), (1, 1, [(0, 15)]), (2, 1, [(0, 1)]), (4, 2, [(0, 0x7FFF)])])
  | 0x0400 => some ⟨8, 496, 1, 8, [(0, 1, [(0, 1)]), (1, 1, [(0, 191)]), (2, 1, [(0, 1)]), (4, 2, [])]⟩
  | 0x0401 => some (fixed 1 [(0, 1, [(0, 191)])])
  | 0x0402 => some (fixed 1 [(0, 1, [(0, 191)])])
  | 0x0403 => some (fixed 2 [(0, 1, [(0, 1)]), (1, 1, [(0, 191)])])
  | 0x0404 => some (fixed 5 [(0, 1, [(0, 191)]), (1, 1, [(0, 5)]), (2, 1, [(0, 4)]), (3, 1, [(0, 1)]), (4, 1, [(0, 63)])])
  | 0x0500 => some (fixed 1 [(0, 1, [(0, 7)])])
  | 0x0501 => some (fixed 16 [(0, 1, [(0, 7)]), (4, 6, []), (10, 4, [(0, 999999999)]), (14, 2, [])])
  | 0x0502 => some (fixed 16 [(0, 1, [(0, 7)]), (8, 8, [])])
  | 0x0503 => some (fixed 13 [(0, 1, [(0, 7)]), (8, 5, [])])
  | 0x0504 => some (fixed 0 [])
  | 0x0505 => some (fixed 1 [(0, 1, [(0, 7)])])
  | 0x0506 => some (fixed 20 [(0, 1, [(0, 7)]), (1, 1, [(0, 1)]), (2, 1, []), (4, 6, []), (10, 4, [(0, 999999999)]), (14, 2, []),
      (16, 4, [(0, 2 ^ 30 - 1)])])
  | 0x0507 => some (fixed 4 [(0, 1, [(0, 7)]), (1, 1, [(0, 2)]), (2, 1, []), (3, 1, [(0, 1)])])
  | 0x0508 => some (fixed 12 [(0, 1, [(0, 1)]), (1, 1, [(0, 1)]), (4, 4, [(0, 999999999)]), (8, 4, [(1, 999999)])])
  | 0x0509 => some (fixed 2 [(0, 1, [(0, 1)]), (1, 1, [])])
  | 0x050A => some (fixed 0 [])
  | 0x0600 => some (fixed 1 [(0, 1, [(0, 3)])])
  | 0x0601 => some ⟨32, 496, 16, 16, [(0, 1, [(1, 30)])]⟩
  | 0x0602 => some (fixed 6 [(0, 2, [(0x020, 0x028), (0x100, 0x1BF)]), (2, 1, [(0, 2)]), (3, 1, [(0, 1)]), (4, 2, [(1, 720)])])
  | 0x0603 => some (fixed 6 [(0, 1, [(0, 2)]), (2, 2, []), (4, 1, [(0, 7)]), (5, 1, [(0, 1)])])
  | 0x0604 => some (fixed 5 [(0, 2, [(0, 0x2B), (0x40, 0x7F), (0x100, 0x1BF)]), (2, 2, [(0, 0x2B), (0x40, 0x7F), (0x100, 0x1BF)]), (4, 1, [(10, 30)])])
  | 0x0700 => some (fixed 5 [(0, 2, []), (2, 2, []), (4, 1, [(0, 1)])])
  | 0x0701 => some ⟨9, 496, 1, 8, [(0, 2, []), (2, 2, [])]⟩
  | 0x0702 => some (fixed 4 [(0, 2, []), (2, 2, [])])
  | 0x0703 => some (fixed 0 [])
  | 0x0704 => some (fixed 0 [])
  | 0x0800 => some (fixed 2 [(0, 1, [(1, 2)]), (1, 1, [(0, 1)])])
  | 0x0801 => some ⟨96, 96, 1, 0, []⟩
  | 0x0802 => some (fixed 0 [])
  | 0x0803 => some (fixed 0 [])
  | 0x0810 => some (fixed 2 [(0, 2, [(0, 1023)])])
  | 0x0811 => some (fixed 2 [(0, 2, [(0, 1023)])])
  | 0x0812 => some (fixed 8 [(0, 2, [(0, 1023)]), (4, 4, [])])
  | 0x0813 => some (fixed 10 [addrF 0, (8, 1, [(1, 120)]), (9, 1, [(0, 1)])])
  | 0x0814 => some (fixed 12 [addrF 0, (8, 4, [])])
  | 0x0900 => some (fixed 1 [(0, 1, [(0, 1)])])
  | 0x0901 => some (fixed 2 [(0, 2, [])])
  | 0x0F00 => some (fixed 8 [addrF 0])
  | 0x0F01 => some (fixed 12 [addrF 0, (8, 4, [])])
  | 0x0F02 => some (fixed 16 [addrF 0, (8, 4, []), (12, 4, [])])
  | 0x0F03 => some (fixed 9 [addrF 0, (8, 1, [(1, 120)])])
  | 0x0F04 => some ⟨28, 496, 12, 16, [(0, 1, [(1, 40)])]⟩
  | _ => none

/-- LENGTH is as the layout states (R471). -/
def CmdSpec.lenOk (c : CmdSpec) (p : List Byte) : Bool :=
  decide (c.lo ≤ p.length) && decide (p.length ≤ c.hi) && (if c.unit ≤ 1 then true else p.length = 16 + c.unit * leAt p 0 1)

/-- Every field holds an allowed value, and every byte outside the fields is zero (R471). -/
def CmdSpec.valuesOk (c : CmdSpec) (p : List Byte) : Bool :=
  c.flds.all (fun f => f.2.2.isEmpty || f.2.2.any (fun r => r.1 ≤ leAt p f.1 f.2.1 && leAt p f.1 f.2.1 ≤ r.2)) &&
  (List.range c.dataAt).all (fun i => c.flds.any (fun f => f.1 ≤ i && i < f.1 + f.2.1) || leAt p i 1 = 0)

/-- Checks 2 and 3 of R472: undefined opcode, LENGTH, reserved values. -/
def preCheck (opcode : Nat) (p : List Byte) : Option Nat :=
  match cmdSpec opcode with
  | none => some 0x10
  | some c =>
    if !c.lenOk p || !lenByField opcode p then some 0x11 else if !c.valuesOk p || !fieldsOk opcode p then some 0x10 else none

/-- Check 4 of R472: the group is accepted in the mode (R50); in LOCKOUT only slot writes and pointer records of group 0x01, with
an HBM source only where HBM is initialized (R479), and only REBOOT of group 0x02 (R481). -/
def groupOk (m lockFrom : Mode) (opcode : Nat) (p : List Byte) : Bool :=
  let g := opcode / 256
  match m with
  | .off => false
  | .boot => g = 0 || g = 8
  | .load => g = 0 || g = 7 || g = 8
  | .huddle => g = 0 || g = 7 || g = 8
  | .run => true
  | .rest => g = 0 || g = 2 || g = 5 || g = 7 || g = 8 || g = 9
  | .hold => g = 0 || g = 2 || g = 5 || g = 7 || g = 8 || g = 9 || g = 15
  | .lockout => g = 0 || g = 7 || g = 8 || opcode = 0x201 || opcode = 0x111 || opcode = 0x112 ||
      (opcode = 0x110 && (leAt p 0 1 = 1 || decide (lockFrom ≠ .boot)))

/-- Commands in progress on a port: mailboxes rung or running, group 0x00 apart, and accepted operations (R458). -/
def State.inProgress (s : State) (p : Nat) : Nat :=
  ((List.range 4).filter (fun m => ((s.mbox p m).state = 1 || (s.mbox p m).state = 2) && decide (256 ≤ (s.mbox p m).opcode))).length +
  (s.hosts.ops.filter (fun o => o.port = p && o.origin.isNone && decide (o.phase ≠ 100) && decide (o.phase ≠ 201))).length

/-- Check 1 of R472: a command would be the fifth in progress on its port. -/
def State.portFull (s : State) (p opcode : Nat) : Bool := decide (256 ≤ opcode) && decide (4 < s.inProgress p)

/-- A port holds a command that waits for Maltar. -/
def State.queued (s : State) (p : Nat) : Bool := (List.range 4).any (fun m => (s.mbox p m).state = 1)

/-- The mailbox whose turn it is: the next port in Maltar's round robin with a command that waits (R369), and of that port the mailbox rung first
(R368). -/
def State.turn (s : State) : Option (Nat × Nat) :=
  match ((List.range 5).map (fun i => (s.hosts.rr + 1 + i) % 5)).find? s.queued with
  | some p => (((s.port p).rings ++ List.range 4).find? (fun m => (s.mbox p m).state = 1)).map (fun m => (p, m))
  | none => none

/-- Maltar can take the command with this opcode from mailbox m of port p now: it runs, the mailbox is QUEUED with that opcode,
and its turn has come (R368, R369, R457, R460). -/
def State.canTake (s : State) (p m opcode : Nat) : Bool :=
  s.maltarRuns && decide ((s.mbox p m).state = 1) && decide ((s.mbox p m).opcode = opcode) && decide (s.turn = some (p, m))

/-- The state in which a command's own checks run: Maltar has taken it, and its mailbox is RUNNING (R369, R457). -/
def State.taken (s : State) (p m : Nat) : State := State.setMbox { s with hosts.rr := p } p m { s.mbox p m with state := 2 }

/-- The mailbox whose turn it is, while Maltar runs, when no command of the manual has its opcode. -/
def State.unknownTurn (s : State) : Option (Nat × Nat) :=
  if s.maltarRuns then s.turn.filter (fun q => (cmdSpec (s.mbox q.1 q.2).opcode).isNone) else none

/-- Maltar takes the commands whose opcode no command of the manual has, as far as it is their turn, and answers them by checks 1 and 2 of R472.
There are 20 mailboxes. -/
def State.takeUnknown (s : State) : State :=
  iter 20 (fun _ s => match s.unknownTurn with
    | none => s
    | some (p, m) => (s.taken p m).reply p m (if s.portFull p (s.mbox p m).opcode then 0x15 else 0x10) []) s

/-- Answer a command: write the reply, or record the long operation and reply ACCEPTED, or leave the mailbox RUNNING (R457,
R458, R473). -/
def State.answer (s : State) (c : Ctx) : Reply → State
  | .done code pay => s.reply c.port c.mbox code pay
  | .accepted op =>
    let x := s.port c.port
    let s := s.setPort c.port { x with ops := addRec x.ops ⟨c.tag, c.opcode, c.mbox, false, 0, 0, 0, c.origin⟩ }
    State.reply { s with hosts.ops := s.hosts.ops ++ [op] } c.port c.mbox 0x01 []
  | .wait => s

/-- A reply refuses its command. -/
def Reply.isRefusal : Reply → Bool
  | .done code pay => code ≠ 0 && pay.isEmpty
  | _ => false

/-- A command that would be accepted, but needs a register block that Maltar does not reach, changes nothing and receives INTERNAL_ERROR (R79). -/
def State.reachable (s : State) (c : Ctx) (x : State × Reply) : State × Reply :=
  if !x.2.isRefusal && s.outOfReach c.opcode c.pay then refuse s 0xFF else x

/-- Run a command's checks in the order of R472 and then its body. -/
def runChecked (body : Body) (c : Ctx) (full : Bool) (s : State) : State × Reply :=
  if full then refuse s 0x15
  else match preCheck c.opcode c.pay with
    | some code => refuse s code
    | none => if groupOk s.pw.mode s.pw.lockoutFrom c.opcode c.pay then s.reachable c (body c s) else refuse s 0x14

/-- The context of a command taken from a mailbox. -/
def State.ctxOf (s : State) (p m : Nat) : Ctx :=
  ⟨p, m, s.portTenant p, (s.mbox p m).opcode, (s.mbox p m).htag, (s.mbox p m).payload, none⟩

/-- The lane of the relay route to a device, when the lane is an Active Systemlink lane (R467). -/
def State.relayLane (s : State) (dev : Nat) : Option Nat :=
  match s.hosts.routes.find? (fun r => r.dev = dev) with
  | some r => if s.getF F.lnState_state (r.lane / 4) (r.lane % 4) = 5 ∧ s.getF F.lnState_link (r.lane / 4) (r.lane % 4) = 9 then some r.lane else none
  | none => none

/-- The origin's part of a relayed command: checks 1 to 3 of R472, the port's view, the route; then the frame goes out and the mailbox stays
RUNNING (R466, R467, R472, R491). -/
def State.relayOrigin (s : State) (p m : Nat) (full : Bool) : State :=
  let x := s.mbox p m
  let t := s.portTenant p
  match preCheck x.opcode x.payload, full with
  | _, true => s.reply p m 0x15 []
  | some code, _ => s.reply p m code []
  | none, _ =>
    if x.opcode = 0x0002 then s.reply p m 0x10 []
    else if !(s.port p).view.any (fun v => v.1 = x.target) then s.reply p m 0x30 []
    else match s.relayLane x.target with
      | none => s.reply p m 0x30 []
      | some lane =>
        let f : RelayFrame := ⟨lane, 0, 1, t * 32 + p * 4 + m, deviceId, x.target, s.hosts.nextRtag, x.bytes 0 (16 + x.len)⟩
        { s with hosts.relayOut := s.hosts.relayOut ++ [f],
                 hosts.waits := s.hosts.waits ++ [⟨s.hosts.nextRtag, p, m⟩],
                 hosts.nextRtag := (s.hosts.nextRtag + 1) % 65536 }

/-- Maltar takes the command of mailbox m of port p when it can: it becomes RUNNING, is checked and executed or relayed, and is answered. Commands
of an unknown opcode whose turn comes before are answered first. -/
def takeMailbox (opcode : Nat) (body : Body) (p m : Nat) (s : State) : State :=
  let s := if s.canTake p m opcode then s else s.takeUnknown
  if s.canTake p m opcode then
    let c := s.ctxOf p m
    let full := s.portFull p opcode
    let s := s.taken p m
    if (s.mbox p m).relay ∧ (s.mbox p m).target ≠ deviceId then s.relayOrigin p m full else
    let (s, r) := runChecked body c full s
    s.answer c r
  else s

/-- The reply of a command that waited, unless the port has been reset meanwhile (R457, R446). -/
def State.replyWaiting (s : State) (p m code : Nat) (pay : List Byte) : State :=
  if (s.mbox p m).state = 2 then s.reply p m code pay else s

/-- Keep a command RUNNING until an event answers it: a waiting operation (phase 100) has no operation record. -/
def State.addWait (s : State) (o : LongOp) : State := { s with hosts.ops := s.hosts.ops ++ [{ o with phase := 100 }] }

/-- A waiting operation lasts longer than its command may: ACCEPTED is its reply, and an operation record keeps the rest (R459, R473). -/
def State.acceptOp (s : State) (o : LongOp) : State :=
  if o.phase ≠ 100 then s
  else
    let x := s.port o.port
    let s := s.setPort o.port { x with ops := addRec x.ops ⟨o.tag, o.opcode, o.mbox, false, 0, 0, 0, o.origin⟩ }
    State.replyWaiting { s with hosts.ops := s.hosts.ops.map (fun y => if y = o then { o with phase := 0 } else y) } o.port o.mbox 0x01 []

/-- Maltar completes an operation: a waiting command is answered, and an accepted one gets its final record (R459, R473). -/
def State.closeOp (s : State) (o : LongOp) (waiting : Bool) (code result detail : Nat) (pay : List Byte) : State :=
  if waiting then State.replyWaiting { s with hosts.ops := s.hosts.ops.filter (· ≠ o) } o.port o.mbox code pay
  else s.endOp o code result detail

/-- An operation ends. While Maltar does not run its outcome is kept, and Maltar completes it after release (R460); phases 200 and 201
inside the model. -/
def State.finishOp (s : State) (o : LongOp) (code result detail : Nat) (pay : List Byte) : State :=
  if 200 ≤ o.phase then s
  else if s.maltarRuns then s.closeOp o (o.phase = 100) code result detail pay
  else { s with hosts.ops := s.hosts.ops.map (fun x =>
    if x = o then { o with phase := if o.phase = 100 then 201 else 200, args := [code, result, detail] ++ pay.map BitVec.toNat } else x) }

/-- End every operation of the given opcodes on a resource. -/
def State.finishOps (s : State) (res : Nat) (opcodes : List Nat) (code result detail : Nat) (pay : List Byte) : State :=
  (s.opsOn res opcodes).foldl (fun s o => s.finishOp o code result detail pay) s

/-- Maltar runs again: it completes the operations that ended meanwhile. -/
def State.maltarResumes (s : State) : State :=
  (s.hosts.ops.filter (fun o => 200 ≤ o.phase)).foldl (fun s o =>
    s.closeOp o (o.phase = 201) (o.args.getD 0 0) (o.args.getD 1 0) (o.args.getD 2 0) ((o.args.drop 3).map (BitVec.ofNat 8))) s

end Sys2Proof.Machine
end

