-- ==== Sys2Proof/Machine/Dma.lean ====
section
/-! DEFINITION. The DMA engines (11_dma.md R268–R282): descriptors, bursts and their pieces, arbitration, responses, completion,
mismatch and errors, starting and stopping. The 512 channels are numbered 32e + c. -/

namespace Sys2Proof.Machine

/-! ### Descriptors (R270, R271) -/

/-- The unit of a COPY_SWAP (the mode table). -/
def swapUnit (swap : Nat) : Nat := 2 ^ swap

/-- A descriptor from its 32 bytes, and whether it is well formed. -/
def parseDesc (l : List Byte) : Desc :=
  let w0 := leAt l 0 8
  let w1 := leAt l 8 8
  let w2 := leAt l 16 8
  let w3 := leAt l 24 8
  let mode := bits w0 53 51
  let swap := bits w0 50 49
  let len := bits w0 39 0
  let last := bitAt w0 54
  let dst := bits w2 47 0
  let next := bits w3 47 0
  let ok := decide (mode ≤ 3) && (if mode = 3 then swap ≠ 0 else swap = 0) && decide (len ≠ 0) &&
    (if mode = 3 then len % swapUnit swap = 0 else true) && (last || next % 32 = 0) &&
    decide (bits w0 47 40 = 0) && decide (bits w2 63 48 = 0) && decide (bits w3 63 48 = 0) &&
    (mode = 1 || bits w1 63 48 = 0)
  ⟨next, dst, w1, bits w0 63 56, bitAt w0 55, last, mode, swap, bitAt w0 48, len, ok, none⟩

/-! ### Pieces (R275) -/

/-- The largest of 1, 2 and 4 bytes that is naturally aligned at `a` and fits in `n`. -/
def pieceSize (a n : Nat) : Nat := if a % 4 = 0 ∧ 4 ≤ n then 4 else if a % 2 = 0 ∧ 2 ≤ n then 2 else 1

/-- Accesses of 1, 2 or 4 bytes from `a` for `n` bytes, `n` below 8: address and length. -/
def smallPieces : Nat → Nat → Nat → List (Nat × Nat)
  | 0, _, _ => []
  | f + 1, a, n => if n = 0 then [] else (a, pieceSize a n) :: smallPieces f (a + pieceSize a n) (n - pieceSize a n)

/-- Head, middle and tail of a range that lies within one 256-byte block: address and length of each piece. -/
def pieces (narrow : Bool) (a n : Nat) : List (Nat × Nat) :=
  let h := min n ((8 - a % 8) % 8)
  let m := (n - h) / 8
  smallPieces 8 a h ++
  (if narrow then (List.range m).map (fun i => (a + h + 8 * i, 8)) else if m = 0 then [] else [(a + h, 8 * m)]) ++
  smallPieces 8 (a + h + 8 * m) (n - h - 8 * m)

/-- Cut a range at the 256-byte boundaries (R274). -/
def cut256 : Nat → Nat → Nat → List (Nat × Nat)
  | 0, _, _ => []
  | f + 1, a, n => if n = 0 then [] else
    let k := min n (256 - a % 256)
    (a, k) :: cut256 f (a + k) (n - k)

/-- Source stream byte that becomes destination stream byte `i` (R273). -/
def swapIndex (d : Desc) (i : Nat) : Nat :=
  if d.mode ≠ 3 then i
  else
    let u := swapUnit d.swap
    let r := i % u
    i - r + (match u with | 2 => 1 - r | 4 => (r + 2) % 4 | _ => 7 - r)

/-- The requests of kind `kind` that cover `n` stream bytes from `off`, with the stream at address `base`. -/
def rangePieces (d : Desc) (kind burst base off n : Nat) : List Retry :=
  (cut256 4 (base + off) n).flatMap (fun q => (pieces d.narrow q.1 q.2).map (fun x => ⟨kind, burst, ⟨x.1, x.2, x.1 - base, []⟩⟩))

/-- The length of the burst at stream offset `off` (R274). -/
def burstLen (d : Desc) (off : Nat) : Nat := min (d.len - off) (256 - (d.dst + off) % 256)

/-- Network address of SRC. -/
def Desc.srcAddr (d : Desc) : Nat := bits d.src 47 0

/-- A COPY or COPY_SWAP whose destination starts inside its source: its bursts run from the last one down. DEDUCED (log entry 121): every byte outside the
overlap is correct (R272), and a burst issued in rising order would read what an earlier one overwrote. -/
def Desc.falls (d : Desc) : Bool :=
  (d.mode = 0 || d.mode = 3) && decide (d.srcAddr < d.dst) && decide (d.dst < d.srcAddr + d.len)

/-- The next burst after `pos` bytes have been issued: stream offset and length (R274). -/
def Desc.nextBurst (d : Desc) (pos : Nat) : Nat × Nat :=
  if d.falls then
    let e := d.len - pos
    let off := (d.dst + e - 1) / 256 * 256 - d.dst
    (off, e - off)
  else (pos, burstLen d pos)

/-- Source and destination of a COPY or COPY_SWAP overlap (R272). -/
def Desc.overlaps (d : Desc) : Bool :=
  (d.mode = 0 || d.mode = 3) && decide (d.srcAddr < d.dst + d.len) && decide (d.dst < d.srcAddr + d.len)

/-- Destination byte at stream offset `i` lies inside the overlap of source and destination (R272). -/
def inOverlap (d : Desc) (i : Nat) : Bool :=
  (d.mode = 0 || d.mode = 3) && decide (d.srcAddr ≤ d.dst + i) && decide (d.dst + i < d.srcAddr + d.len)

/-- The bursts at two stream offsets follow one another (R274). -/
def Desc.adjacent (d : Desc) (a b : Nat) : Bool := decide (a + burstLen d a = b) || decide (b + burstLen d b = a)

/-- A burst has every source byte it needs: where its ends cut a unit of a COPY_SWAP, the bursts beside it have been read too (R273, R274). -/
def Channel.hasAll (c : Channel) (d : Desc) (b : Burst) : Bool :=
  let u := if d.mode = 3 then swapUnit d.swap else 1
  (decide (b.off % u = 0) || c.edge.any (fun e => decide (e.1 + burstLen d e.1 = b.off))) &&
  (decide ((b.off + b.len) % u = 0) || c.edge.any (fun e => decide (e.1 = b.off + b.len)))

/-- Source stream byte `j` for a burst: of its own reads, or of those of a burst beside it. -/
def Channel.srcByte (c : Channel) (b : Burst) (j : Nat) : Byte :=
  if b.off ≤ j ∧ j < b.off + b.len then tget 0#8 b.src j
  else match c.edge.find? (fun e => decide (e.1 ≤ j) && decide (j < e.1 + 256)) with
    | some e => tget 0#8 e.2 j
    | none => 0#8

/-- The byte that a burst writes at stream offset `i`; bytes inside an overlap are free values (R272). -/
def outByte (s : State) (c : Channel) (d : Desc) (b : Burst) (i : Nat) : Byte :=
  if d.mode = 1 then BitVec.ofNat 8 (d.src / 256 ^ ((d.dst + i) % 8))
  else if inOverlap d i then (Config.freeWord (s.free + i)).setWidth 8
  else c.srcByte b (swapIndex d i)

/-- The network address of a destination address. -/
def Desc.netAddr (d : Desc) (a : Nat) : Nat :=
  match d.ilv with
  | none => a
  | some st => a / 4096 * 16384 + st * 4096 + a % 4096

/-- The writes of a burst. -/
def burstWrites (s : State) (c : Channel) (d : Desc) (b : Burst) : List Retry :=
  (pieces d.narrow (d.dst + b.off) b.len).map (fun x =>
    ⟨2, b.off, ⟨d.netAddr x.1, x.2, x.1 - d.dst, (List.range x.2).map (fun j => outByte s c d b (x.1 - d.dst + j))⟩⟩)

/-! ### Channel state -/

/-- Requests that channel `k` has outstanding in the network. -/
def State.chanOuts (s : State) (k : Nat) : Nat := s.outsFor (fun w => match w with | .dma c _ _ _ _ => c = k | _ => false)

/-- Requests that engine `e` has outstanding in the network. -/
def State.engOuts (s : State) (e : Nat) : Nat := s.outsFor (fun w => match w with | .dma c _ _ _ _ => c / 32 = e | _ => false)

/-- What a channel has still to finish: requests in the network, and those of begun bursts still to be issued or reissued. -/
def State.chanBusy (s : State) (k : Nat) : Nat := min 64 (s.chanOuts k + (s.chan k).todo.length + (s.chan k).retries.length)

/-- CH_STATUS.STATE of channel `k`. -/
def State.chState (s : State) (k : Nat) : Nat := s.getF F.chStatus_state (k / 32) (k % 32)
def State.setChState (s : State) (k v : Nat) : State := s.setF F.chStatus_state (k / 32) (k % 32) v

/-- Set a low and high register pair that holds a 48-bit or 40-bit value. -/
def State.setPair (s : State) (lo hi : Rg) (i j v : Nat) : State := (s.setReg lo i j (v % 2 ^ 32)).setReg hi i j (v / 2 ^ 32)

def State.setChDesc (s : State) (k a : Nat) : State := s.setPair .chDescLo .chDescHi (k / 32) (k % 32) (a % 2 ^ 48)

/-- The fill of a window's command ends: 0, the service code of its failure, or 0xFF for a channel that was stopped; the first end stands (R345, R346). -/
def Channel.fillOver (c : Channel) (code : Nat) : Channel :=
  if c.owner.isSome ∧ c.ended.isNone then { c with ended := some code } else c

/-- A channel stops for good: no burst, no request to issue. -/
def Channel.clear (c : Channel) : Channel := { Channel.init with owner := c.owner, ended := c.ended }

/-- A failure: the channel issues nothing more and becomes ERROR, with CODE, PHASE and CH_DESC (R271, R278). -/
def State.dmaFail (s : State) (k code phase desc : Nat) : State :=
  let s := (s.setChan k ((s.chan k).clear.fillOver code)).setChState k 3
  ((s.setF F.chStatus_code (k / 32) (k % 32) code).setF F.chStatus_phase (k / 32) (k % 32) phase).setChDesc k desc

/-- PHASE of a request kind. -/
def phaseOf (kind : Nat) : Nat := if kind = 0 then 0 else if kind = 2 then 2 else 1

/-- The address that CH_DESC holds. -/
def State.chDesc (s : State) (k : Nat) : Nat :=
  s.reg .chDescLo (k / 32) (k % 32) + 2 ^ 32 * s.reg .chDescHi (k / 32) (k % 32)

/-- Remove a burst and what it has still to issue. -/
def Channel.dropBurst (c : Channel) (b : Nat) : Channel :=
  { c with bursts := c.bursts.filter (fun x => x.off ≠ b),
           todo := c.todo.filter (fun x => x.burst ≠ b || x.kind = 0),
           retries := c.retries.filter (fun x => x.burst ≠ b || x.kind = 0) }

/-- Bursts still to be written that share a cut unit of a COPY_SWAP with the burst at `b` (R273). -/
def Channel.sharers (c : Channel) (b : Nat) : List Nat :=
  match c.cur with
  | none => []
  | some d => (c.bursts.filter (fun x =>
      decide (d.mode = 3) && !x.wr && d.adjacent x.off b && decide (max x.off b % swapUnit d.swap ≠ 0))).map (·.off)

/-- A request of an ACTIVE channel fails: the channel becomes ERROR. In any other state the failure is sunk, and a burst whose read
failed is not written (R278, R281). -/
def State.dmaRefuse (s : State) (k kind burst code : Nat) : State :=
  if s.chState k = 1 then s.dmaFail k code (phaseOf kind) (if kind = 0 then burst else s.chDesc k)
  else if kind = 0 then s
  else s.setChan k (((s.chan k).sharers burst).foldl (fun c x => c.dropBurst x) ((s.chan k).dropBurst burst))

/-! ### Starting (R280) -/

/-- The conditions of a start: no request outstanding, and none of a begun burst still to be made (log entry 56); and the tenant table has been
read (R32, R42, R280). -/
def State.dmaCanStart (s : State) (k : Nat) : Bool :=
  s.flag F.chCtl_enable (k / 32) (k % 32) && decide (s.chState k ≠ 1) && decide (s.chanBusy k = 0) && decide (s.pw.mode ≠ .boot ∧ s.pw.mode ≠ .off)

/-- A command may start the channel: no protected window's command on it has still to end (R345, R473). -/
def State.dmaFree (s : State) (k : Nat) : Bool := s.dmaCanStart k && (s.chan k).owner.isNone

/-- CH_HEAD. -/
def State.chHead (s : State) (k : Nat) : Nat :=
  s.getF F.chHeadLo_addr (k / 32) (k % 32) * 32 + 2 ^ 32 * s.getF F.chHeadHi_addr (k / 32) (k % 32)

/-- Start a channel: MM, CODE and PHASE clear, ACTIVE, and the descriptor at CH_HEAD is wanted. -/
def State.dmaStart (s : State) (k : Nat) : State :=
  let s := (s.setReg .chStatus (k / 32) (k % 32) 0).setChState k 1
  let s := s.setChDesc k (s.chHead k)
  s.setChan k { Channel.init with want := some (s.chHead k), owner := (s.chan k).owner, ended := (s.chan k).ended }

/-- START: a start that does not meet the conditions has no effect. -/
def State.dmaTryStart (s : State) (k : Nat) : State := if s.dmaCanStart k then s.dmaStart k else s

/-- A pulse of line `l` reaches the channels of the engines of die d: it starts each that waits for the line and may start, and is counted in
TRIG_MISSED of each that may not (R280). Only lines that the channel's tenant owns qualify. -/
def State.dmaTrigger (s : State) (d l : Nat) : State :=
  iter 128 (fun j s =>
    let k := 128 * d + j
    if s.flag F.chCtl_trigEn (k / 32) (k % 32) && s.getF F.chCtl_trigEv (k / 32) (k % 32) = l && s.lineOwner l = s.chanTenant k then
      (if s.dmaCanStart k then s.dmaStart k else s.count F.chCounts_trigMissed (k / 32) (k % 32) 1)
    else s) s

/-! ### Issuing (R274, R276) -/

/-- The network request of a piece. -/
def State.dmaReq (s : State) (k : Nat) (r : Retry) : Req :=
  mkReq (if r.kind = 2 then .write else .read) r.piece.addr r.piece.len (s.chanTenant k) 1 (dmaTile (k / 32)) 4 r.piece.data

/-- Issue one request of channel `k`: sent, failed at the source, or none of its limits leaves room. -/
def State.dmaSend (s : State) (k : Nat) (r : Retry) : State × Option Nat :=
  if 64 ≤ s.chanOuts k ∨ 128 ≤ s.engOuts (k / 32) then (s, none)
  else s.issue (.dma k r.kind r.burst r.piece.off r.piece.len) (s.dmaReq k r)

/-- Issue the pieces of begun bursts while the limits allow. Fuel bounds the pieces. -/
def State.dmaPump : Nat → State → Nat → State
  | 0, s, _ => s
  | f + 1, s, k =>
    match (s.chan k).todo with
    | [] => s
    | r :: rest =>
      match s.dmaSend k r with
      | (_, none) => s
      | (s, some 0) => State.dmaPump f (s.setChan k { s.chan k with todo := rest }) k
      | (s, some code) => State.dmaPump f ((s.setChan k { s.chan k with todo := rest }).dmaRefuse k r.kind r.burst code) k

/-- The channels of an engine that have requests of begun bursts to issue: the highest priority first, equals from the one after the last that took a slot
(R276). -/
def State.dmaBegun (s : State) (e : Nat) : List Nat :=
  let l := (List.range 32).filter (fun c => !(s.chan (32 * e + c)).todo.isEmpty)
  if l.isEmpty then []
  else (List.range 8).reverse.flatMap (fun p =>
    ((List.range 32).map (fun i => (tget 31 s.dma.rr (e * 8 + p) + 1 + i) % 32)).filter (fun c =>
      l.contains c && s.getF F.chCtl_prio e c = p))

/-- Let every channel of an engine issue what it has begun. DESIGN CHOICE (log entry 122): where several wait for room, in the order of `dmaBegun`. -/
def State.dmaPumpAll (s : State) (e : Nat) : State :=
  (s.dmaBegun e).foldl (fun s c => State.dmaPump 128 s (32 * e + c)) s

/-! ### Stopping (R281) -/

/-- A stopped channel reads the rest of a unit of a COPY_SWAP that its last burst cuts, so that this burst can finish (R273, R281). -/
def Channel.finishUnit (c : Channel) : Channel :=
  match c.cur with
  | none => c
  | some d =>
    let u := swapUnit d.swap
    let (off, len) := d.nextBurst c.pos
    let (a, n) := if d.falls then ((off + len) / u * u, (off + len) % u) else (off, (u - off % u) % u)
    if d.mode = 3 ∧ c.pos < d.len ∧ n ≠ 0 ∧ c.bursts.any (fun b => !b.wr && d.adjacent off b.off) then
      let l := rangePieces d 1 off d.srcAddr a n
      { c with bursts := c.bursts ++ [⟨off, len, [], [], l.length, false, true⟩], todo := c.todo ++ l }
    else c

/-- Stop a channel: bursts already begun go on, the chain is abandoned, and an ACTIVE channel becomes ABORTED (R53, R281). -/
def State.dmaAbort (s : State) (k : Nat) : State :=
  if s.chState k = 1 then
    let c := (s.chan k).finishUnit
    s.setChan k (Channel.fillOver { c with
      nxt := none
      want := none
      fetch := none
      mism := none
      todo := c.todo.filter (fun r => r.kind ≠ 0)
      retries := c.retries.filter (fun r => r.kind ≠ 0) } 0xFF) |>.setChState k 2 |> fun s => State.dmaPump 16 s k
  else s

/-- A disable: ENABLE clears, and the channel stops (R281). -/
def State.dmaDisable (s : State) (k : Nat) : State := (s.setF F.chCtl_enable (k / 32) (k % 32) 0).dmaAbort k

/-- A function reset of a channel: it stops, and its registers return to their reset values; TENANT stays as settings give it
(R54, R269, R281). -/
def State.dmaReset (s : State) (k : Nat) : State :=
  let s := s.dmaDisable k
  let t := s.chanTenant k
  let s := [Rg.chCtl, .chHeadLo, .chHeadHi, .chStatus, .chDescLo, .chDescHi, .chMmLo, .chMmHi, .chCounts].foldl
    (fun s r => s.resetReg r (k / 32) (k % 32)) s
  s.setF F.chCtl_tenant (k / 32) (k % 32) t

/-- A write of CH_CTL: ENABLE, then START (R53, R280, R282). -/
def State.writeChCtl (s : State) (k v : Nat) : State :=
  let e := k / 32
  let c := k % 32
  let was := s.flag F.chCtl_enable e c
  let s := s.setReg .chCtl e c (Rg.chCtl.written (s.reg .chCtl e c) v)
  let s := if was && !bitAt v 30 then s.dmaAbort k else s
  if bitAt v 31 then s.dmaTryStart k else s

/-! ### Burst slots (R272, R274, R276) -/

/-- A channel has a burst or a descriptor fetch ready (R276): none while a begun burst is still being issued. Where source and destination overlap, the
reads of every earlier burst have returned first, so that no write reaches a source that is still to be read (R272, log entry 121). -/
def State.dmaReady (s : State) (k : Nat) : Bool :=
  let c := s.chan k
  s.chState k = 1 && c.todo.isEmpty && decide (s.chanOuts k < 64) && decide (s.engOuts (k / 32) < 128) &&
  (c.want.isSome ||
   (match c.cur with
    | none => false
    | some d => c.mism.isNone && decide (c.pos < d.len) && (!d.overlaps || c.bursts.all (·.wr))))

/-- The channel of engine `e` that takes the next burst slot: the highest priority, round robin among equals (R276). -/
def State.dmaPick (s : State) (e : Nat) : Option Nat :=
  let rd := (List.range 32).filter (fun c => s.dmaReady (32 * e + c))
  let top := rd.foldl (fun m c => max m (s.getF F.chCtl_prio e c)) 0
  let last := tget 31 s.dma.rr (e * 8 + top)
  ((List.range 32).map (fun i => (last + 1 + i) % 32)).find? (fun c => rd.contains c && s.getF F.chCtl_prio e c = top)

/-- Begin the next burst of channel `k`: its reads, or the writes of a FILL, are to be issued; after the last burst the next
descriptor is wanted (R272, R274). -/
def State.dmaBegin (s : State) (k : Nat) (d : Desc) : State :=
  let c := s.chan k
  let (off, len) := d.nextBurst c.pos
  let b : Burst := ⟨off, len, [], [], 0, d.mode = 1, false⟩
  let l : List Retry :=
    if d.mode = 1 then burstWrites s c d b
    else rangePieces d 1 off d.srcAddr off len ++ (if d.mode = 2 then rangePieces d 3 off d.dst off len else [])
  let want := if c.pos + len = d.len ∧ !d.last then some d.next else none
  s.setChan k { c with pos := c.pos + len, bursts := c.bursts ++ [{ b with left := l.length }], todo := c.todo ++ l, want := want }

/-- DMA_BURST_ISSUE: a burst slot of engine DEe: the chosen channel fetches a descriptor or begins a burst. The slot falls at a burst boundary: none while
a begun burst still has requests to issue. In HOLD channels pause at burst boundaries (R40, R274–R276). -/
def execDmaBurstIssue (e : DmaEng) (s : State) : Out :=
  .next (if s.inHold then s else
    if !(s.dmaBegun e).isEmpty then s
    else match s.dmaPick e with
    | none => s
    | some c =>
      let k := 32 * e.val + c
      let s := { s with dma.rr := tput 31 s.dma.rr (e * 8 + s.getF F.chCtl_prio e c) c }
      match (s.chan k).want, (s.chan k).cur with
      | some a, _ =>
        let s := s.setChan k { s.chan k with want := none, fetch := some a, todo := [⟨0, a, ⟨a, 32, 0, []⟩⟩] }
        State.dmaPump 1 s k
      | none, some d => State.dmaPump 256 (s.dmaBegin k d) k
      | none, none => s)

/-! ### Responses (R272, R277–R279) -/

/-- The fetched descriptor becomes current; a malformed one ends the chain (R271). -/
def State.dmaNext (s : State) (k : Nat) : State :=
  match (s.chan k).cur, (s.chan k).nxt with
  | none, some (a, d) =>
    if d.ok then (s.setChan k { s.chan k with cur := some d, nxt := none, pos := 0, mism := none }).setChDesc k a
    else s.dmaFail k 0x10 0 a
  | _, _ => s

/-- A COMPARE ends at its mismatch: CH_MM, MM, MM_EV, IDLE (R279). -/
def State.dmaMismatch (s : State) (k m : Nat) : State :=
  let e := k / 32
  let c := k % 32
  let s := ((s.setPair .chMmLo .chMmHi e c m).setF F.chStatus_mm e c 1).setChan k (s.chan k).clear
  let s := if s.flag F.chCtl_mmEn e c then s.raiseEv (k / 128) (s.chanTenant k) (s.getF F.chCtl_mmEv e c) else s
  s.setChState k 0

/-- After a burst has ended: the mismatch found before every burst still running, or the completion of the descriptor (R272, R277). -/
def State.dmaCheck (s : State) (k : Nat) : State :=
  if s.chState k ≠ 1 then s else
  let c := s.chan k
  match c.mism, c.cur with
  | some m, _ => if c.bursts.all (fun b => decide (m < b.off)) then s.dmaMismatch k m else s
  | none, some d =>
    if c.pos = d.len ∧ c.bursts.isEmpty then
      let s := if d.evEn then s.raiseEv (k / 128) (s.chanTenant k) d.ev else s
      if d.last then (s.setChan k ((s.chan k).clear.fillOver 0)).setChState k 0
      else (s.setChan k { s.chan k with cur := none }).dmaNext k
    else s
  | none, none => s.dmaNext k

/-- The lowest stream offset of a burst at which the bytes differ (R279). -/
def burstMismatch (b : Burst) : Option Nat :=
  ((List.range b.len).map (· + b.off)).find? (fun i => tget 0#8 b.src i ≠ tget 0#8 b.dst i)

/-- The funnel keeps a burst's bytes while a burst beside it has still to be written (R274). -/
def Channel.keepEdge (c : Channel) (d : Desc) : Channel :=
  { c with edge := c.edge.filter (fun e =>
      c.bursts.any (fun b => !b.wr && d.adjacent e.1 b.off) || (decide (c.pos < d.len) && d.adjacent e.1 (d.nextBurst c.pos).1)) }

/-- A burst that has every byte it needs is written. -/
def State.dmaWrite (s : State) (k : Nat) (d : Desc) (b : Burst) : State :=
  let l := burstWrites s (s.chan k) d b
  let s := { s with free := s.free + (if (List.range b.len).any (fun i => inOverlap d (b.off + i)) then d.len else 0) }
  s.setChan k { s.chan k with bursts := (s.chan k).bursts.map (fun x => if x.off = b.off then { x with left := l.length, wr := true } else x),
                              todo := (s.chan k).todo ++ l }

/-- A burst's reads have all returned: a COMPARE compares; in any other mode it is written, and so are the bursts beside it that waited for its
bytes. -/
def State.dmaRead (s : State) (k : Nat) (b : Burst) : State :=
  match (s.chan k).cur with
  | none => s.setChan k ((s.chan k).dropBurst b.off)
  | some d =>
    if d.mode = 2 then
      let c := (s.chan k).dropBurst b.off
      let m := match burstMismatch b, c.mism with
        | some x, some y => some (min x y)
        | some x, none => some x
        | none, y => y
      s.setChan k { c with mism := m }
    else
      let s := if d.mode = 3 then s.setChan k { s.chan k with edge := (s.chan k).edge ++ [(b.off, b.src)] } else s
      let s := if b.tail then s.setChan k ((s.chan k).dropBurst b.off) else s
      let s := ((s.chan k).bursts.filter (fun x => !x.wr && !x.tail && decide (x.left = 0) && (s.chan k).hasAll d x)).foldl (fun s x => s.dmaWrite k d x) s
      s.setChan k ((s.chan k).keepEdge d)

/-- A request of channel `k` has succeeded: data of a read, or one write fewer. -/
def State.dmaOk (s : State) (k kind burst off : Nat) (data : List Byte) : State :=
  if kind = 0 then
    (if s.chState k = 1 ∧ (s.chan k).fetch = some burst then
       s.setChan k { s.chan k with fetch := none, nxt := some (burst, parseDesc data) }
     else s)
  else
    match (s.chan k).bursts.find? (fun b => b.off = burst) with
    | none => s
    | some b =>
      let b : Burst := if kind = 1 then { b with src := putBytes b.src off data, left := b.left - 1 }
        else if kind = 3 then { b with dst := putBytes b.dst off data, left := b.left - 1 } else { b with left := b.left - 1 }
      let s := s.setChan k { s.chan k with bursts := (s.chan k).bursts.map (fun x => if x.off = burst then b else x) }
      if b.left ≠ 0 then s
      else if kind = 2 then s.setChan k ((s.chan k).dropBurst burst)
      else s.dmaRead k b

/-- A request belongs to something the channel still runs. -/
def Channel.expects (c : Channel) (kind burst : Nat) : Bool :=
  if kind = 0 then c.fetch = some burst else c.bursts.any (fun b => b.off = burst)

/-- A response or a timeout of a channel's request (R278). -/
def State.dmaResp (s : State) (o : Outst) (k kind burst off svc : Nat) (data : List Byte) : State :=
  let s :=
    if !(s.chan k).expects kind burst then s
    else if svc ≤ 1 then (s.dmaOk k kind burst off data).dmaCheck k
    else if svc = 2 then
      s.setChan k { s.chan k with retries := (s.chan k).retries ++ [⟨kind, burst, ⟨o.req.addr, o.req.size, off, o.req.data⟩⟩] }
    else s.dmaRefuse k kind burst svc
  s.dmaPumpAll (k / 32)

/-- DMA_RESPONSE: a response at a DMA engine. -/
def execDmaResponse (r : Resp) (s : State) : Out :=
  .next (if s.net.resps.contains r && s.respFor r (fun w => match w with | .dma .. => true | _ => false) then
    match s.arrive r with
    | (s, some (o, r)) =>
      (match o.who with
       | .dma k kind burst off _ => s.dmaResp o k kind burst off r.svc r.data
       | _ => s)
    | (s, none) => s
  else s)

/-- DMA_REISSUE: 64 DMA cycles after a REFUSED_BUSY the channel sends its oldest refused request again, and counts it; once
NI_TIMEOUT has passed since the first issue (`expired`), the request has failed with REFUSED_BUSY (R278). -/
def execDmaReissue (k : Fin 512) (expired : Bool) (s : State) : Out :=
  .next (match (s.chan k).retries with
    | [] => s
    | r :: rest =>
      if expired then State.dmaPumpAll ((s.setChan k { s.chan k with retries := rest }).dmaRefuse k r.kind r.burst 2) (k / 32)
      else
        match s.dmaSend k r with
        | (_, none) => s
        | (s, some code) =>
          let s := (s.setChan k { s.chan k with retries := rest }).count F.chCounts_retries (k / 32) (k % 32) 1
          if code = 0 then s else s.dmaRefuse k r.kind r.burst code)

/-! ### Commands (R482) -/

/-- The channel that a command names; only its owner may. -/
def Ctx.chanNo (c : Ctx) : Nat := 32 * c.num 0 1 + c.num 1 1

/-- DMA_RUN: HEAD and PRIO are set and the channel starts. -/
def cmdDmaRun : Body := fun c s =>
  let k := c.chanNo
  if c.tenant ≠ s.chanTenant k then refuse s 0x12
  else if !s.dmaFree k then refuse s 0x15
  else
    let s := s.setPair .chHeadLo .chHeadHi (k / 32) (k % 32) (c.num 8 8)
    ((s.setF F.chCtl_prio (k / 32) (k % 32) (c.num 2 1)).dmaStart k, .done 0 [])

/-- CH_STATUS as it reads. -/
def State.chStatusView (s : State) (k : Nat) : Nat := setBits (s.reg .chStatus (k / 32) (k % 32)) 6 0 (s.chanOuts k)

def cmdDmaStatus : Body := fun c s =>
  let k := c.chanNo
  if c.tenant ≠ s.chanTenant k then refuse s 0x12
  else
    (s, .done 0 (leBytes 4 (s.chStatusView k) ++ leBytes 4 0 ++ leBytes 8 (s.chDesc k) ++
      leBytes 8 (s.reg .chMmLo (k / 32) (k % 32) + 2 ^ 32 * s.reg .chMmHi (k / 32) (k % 32))))

def cmdDmaStop : Body := fun c s =>
  let k := c.chanNo
  if c.tenant ≠ s.chanTenant k then refuse s 0x12 else (s.dmaDisable k, .done 0 [])

/-- DMA_RUN: the channel's owner. -/
def execDmaRun (p : Port) (m : Mbox) (s : State) : Out := .next (takeMailbox 0x0300 cmdDmaRun p m s)
/-- DMA_STATUS: the channel's owner. -/
def execDmaStatus (p : Port) (m : Mbox) (s : State) : Out := .next (takeMailbox 0x0301 cmdDmaStatus p m s)
/-- DMA_STOP: the channel's owner. -/
def execDmaStop (p : Port) (m : Mbox) (s : State) : Out := .next (takeMailbox 0x0302 cmdDmaStop p m s)

end Sys2Proof.Machine
end

