-- ==== Sys2Proof/Machine/EccOps.lean ====
section
/-! DEFINITION. Counting and logging of memory errors (16_ecc_service_test.md, R372–R374). -/

namespace Sys2Proof.Machine

/-- The memory groups (R372). -/
inductive EGroup where
  | tile | stack | store
deriving DecidableEq, Repr

def EGroup.num : EGroup → Nat
  | .tile => 0
  | .stack => 1
  | .store => 2

/-- A group's ECC_COUNT, ECC_LOG_LO and ECC_LOG_HI (R383). -/
def EGroup.countR : EGroup → Rg
  | .tile => .eccCountT
  | .stack => .eccCountS
  | .store => .eccCountD
def EGroup.loR : EGroup → Rg
  | .tile => .eccLogLoT
  | .stack => .eccLogLoS
  | .store => .eccLogLoD
def EGroup.hiR : EGroup → Rg
  | .tile => .eccLogHiT
  | .stack => .eccLogHiS
  | .store => .eccLogHiD

/-- The alarm tenant of a group: the tile's tenant, or device-wide. -/
def State.groupTenant (s : State) (g : EGroup) (i : Nat) : Nat :=
  match g with
  | .tile => s.tileTenant i
  | _ => 255

/-- The block that reports for a group. -/
def EGroup.src (g : EGroup) (i : Nat) : Nat :=
  match g with
  | .tile => srcOf .tile i
  | .stack => srcOf .hbm i
  | .store => srcOf .seam i

/-- The entry of a location, among the first n entries (R373). -/
def State.eccFind (s : State) (g : EGroup) (i unit loc : Nat) : Option Nat :=
  (List.range (s.getF ⟨g.countR, 4, 0⟩ i 0)).find? (fun k => s.reg g.loR i k = loc && bits (s.reg g.hiR i k) 31 28 = unit)

/-- Log an error: HITS of its entry, a free entry, or OVERFLOW (R373, R374). -/
def State.eccLog (s : State) (g : EGroup) (i : Nat) (ue : Bool) (unit loc p syn : Nat) : State :=
  match s.eccFind g i unit loc with
  | some k => s.setF ⟨g.hiR, 15, 0⟩ i k (satAdd 16 (bits (s.reg g.hiR i k) 15 0) 1)
  | none =>
    let n := s.getF ⟨g.countR, 4, 0⟩ i 0
    if n < 16 then
      let s := (s.setReg g.loR i n loc).setReg g.hiR i n (unit * 2 ^ 28 + b2n ue * 2 ^ 27 + p * 2 ^ 26 + syn * 65536)
      s.setF ⟨g.countR, 4, 0⟩ i 0 (n + 1)
    else s.setF ⟨g.countR, 7, 7⟩ i 0 1

/-- An error of a memory group is counted and logged; an uncorrectable one sets ALARM and raises an alarm event (R372). -/
def State.eccError (s : State) (g : EGroup) (i : Nat) (ue : Bool) (unit loc p syn : Nat) : State :=
  let s := if ue then s.count ⟨g.countR, 15, 8⟩ i 0 1 else s.count ⟨g.countR, 31, 16⟩ i 0 1
  let s := s.eccLog g i ue unit loc p syn
  if ue then s.alarm (s.groupTenant g i) 0x0D (g.num * 256 + i * 65536 + unit * 2 ^ 28 + loc * 2 ^ 32) 0 (g.src i) else s

/-- The outcome of a decode of a word of a group is counted and logged (R370, R372). -/
def State.eccOutcome (s : State) (g : EGroup) (i unit loc : Nat) (o : SecOut) (p syn : Nat) : State :=
  match o with
  | .clean => s
  | .corrected => s.eccError g i false unit loc p syn
  | .bad => s.eccError g i true unit loc p syn

/-- CLEAR empties a group's log and clears OVERFLOW (R373, R383). -/
def State.eccClear (s : State) (g : EGroup) (i : Nat) : State :=
  let s := iter 16 (fun k s => (s.setReg g.loR i k 0).setReg g.hiR i k 0) s
  (s.setF ⟨g.countR, 4, 0⟩ i 0 0).setF ⟨g.countR, 7, 7⟩ i 0 0

end Sys2Proof.Machine
end

