-- ==== Sys2Proof/Machine/Flags.lean ====
section
/-! DEFINITION. The signal engine's arithmetic: products, accumulator results, rounding, stores, exponents, pointer steps and the
flags they set (09_engine_datapath.md, R215–R216, R222–R232; 10_engine_instructions_control.md, R241). -/

namespace Sys2Proof.Machine

/-- Bits of ST (R216). -/
def stZ : Nat := 0x1
def stN : Nat := 0x2
def stC : Nat := 0x4
def stV : Nat := 0x8
def stRPT : Nat := 0x10
def stSF : Nat := 0x80
/-- The sticky wrap bit of an accumulator: LOVA, LOVB. -/
def stLOV (b : Bool) : Nat := if b then 0x40 else 0x20
/-- The RW fields of ST. -/
def stRW : Nat := 0x7EEF

def stFRAC (st : Nat) : Bool := bitAt st 11
def stSATA (st : Nat) : Bool := bitAt st 10
def stSATS (st : Nat) : Bool := bitAt st 9

/-- `v` with the bits of `m` taken from `w`. -/
def mergeBits (v m w : Nat) : Nat := v - Nat.land v m + Nat.land w m

/-- An accumulator value in the 32-bit range (R215). -/
def in32 (x : Int) : Bool := -(2 ^ 31) ≤ x && x < 2 ^ 31

/-- What an operation writes into ST: the bits written and their values. -/
structure StW where
  mask : Nat
  val : Nat
deriving DecidableEq, Repr

/-- Z and N of a 40-bit pattern. -/
def zn40 (p : Nat) : Nat := b2n (p = 0) * stZ + b2n (bitAt p 39) * stN
/-- Z and N of a 16-bit word. -/
def zn16 (p : Nat) : Nat := b2n (p = 0) * stZ + b2n (bitAt p 15) * stN

/-- An accumulator operation: V, saturation or wrap, then N and Z (R223). `pre` are sticky bits that an earlier part of the same
instruction has set. -/
def accResult (sata b : Bool) (exact : Int) (pre : Nat) : Nat × StW :=
  let v := !in32 exact
  let sat := sata && v
  let p := if sat then (if exact < 0 then 0xFF80000000 else 0x007FFFFFFF) else unsgn 40 exact
  let wrap := !sata && decide (sgn 40 p ≠ exact)
  let sticky := Nat.lor pre (if sat then stSF else if wrap then stLOV b else 0)
  (p, ⟨stZ + stN + stV + sticky, zn40 p + b2n v * stV + sticky⟩)

/-- The sticky bits that a result sets. -/
def StW.sticky (w : StW) : Nat := Nat.land w.val 0xE0

/-- The value after the rounding addition of ST.RND (R224): 0 truncate, 1 half up, 2 convergent. -/
def roundAdd (rnd : Nat) (x : Int) : Int :=
  match rnd with
  | 0 => x
  | 2 => if x % 65536 = 32768 ∧ x / 65536 % 2 = 0 then x else x + 32768
  | _ => x + 32768

/-- Rounding of an accumulator pattern: an accumulator operation, then ACxB is cleared; the flags describe the final value (R224,
R239). -/
def accRound (sata b : Bool) (rnd : Nat) (p pre : Nat) : Nat × StW :=
  let (q, w) := accResult sata b (roundAdd rnd (sgn 40 p)) pre
  let q := q / 65536 * 65536
  (q, ⟨w.mask, w.val - Nat.land w.val (stZ + stN) + zn40 q⟩)

/-- The product of two 16-bit operands, doubled when FRAC = 1 (R222). -/
def product (frac : Bool) (a b : Nat) : Int := sgn 16 a * sgn 16 b * (if frac then 2 else 1)

/-- The word that a store of ACxU writes, and whether it saturates (R225). -/
def storeUpper (sats : Bool) (p : Nat) : Nat × Bool :=
  if sats && !in32 (sgn 40 p) then (if bitAt p 39 then 0x8000 else 0x7FFF, true) else (bits p 31 16, false)

/-- Redundant sign count of a `w`-bit value (R229). -/
def signCount (w p : Nat) : Nat := ((List.range (w - 1)).takeWhile (fun i => bitAt p (w - 2 - i) == bitAt p (w - 1))).length

/-- Headroom of a 40-bit accumulator; 0 for zero (R230). -/
def headroom (p : Nat) : Int := if p = 0 then 0 else 8 - (signCount 40 p : Int)

/-- NORM of an accumulator pattern (R231). -/
def normShift (p : Nat) : Nat :=
  if p = 0 then 0
  else if 0 ≤ headroom p then unsgn 40 (sgn 40 p / 2 ^ (headroom p).toNat) else unsgn 40 (sgn 40 p * 2 ^ (-(headroom p)).toNat)

/-- The order of the low m bits of v reversed (R228). -/
def revBits (m v : Nat) : Nat := (List.range m).foldl (fun a i => a * 2 + v / 2 ^ i % 2) 0

/-- A linear or circular step (R227). -/
def stepPtr (p pb pl : Nat) (s : Int) : Nat :=
  if pl = 0 then unsgn 16 (p + s) else unsgn 16 (pb + (((p : Int) - pb + s) % pl))

/-- A bit-reversed step (R228). -/
def revStep (p pb pl m : Nat) : Nat :=
  if pl = 0 then p / 2 ^ 14 * 2 ^ 14 + revBits 14 (revBits 14 p + revBits 14 m) % 2 ^ 14
  else
    let k := Nat.log2 pl
    let o := (p + 65536 - pb) % 2 ^ k
    (pb + revBits k (revBits k o + revBits k (m % 2 ^ k)) % 2 ^ k) % 65536

/-- D-register arithmetic (R241): the result, and C where the operation sets it. -/
def dAlu (op : DOp) (s b : Nat) : Nat × Option Bool :=
  let n := b % 16
  match op with
  | .add => ((s + b) % 65536, some (decide (65536 ≤ s + b)))
  | .sub => ((s + 65536 - b) % 65536, some (decide (s < b)))
  | .and => (Nat.land s b, none)
  | .or => (Nat.lor s b, none)
  | .xor => (Nat.xor s b, none)
  | .shl => (s * 2 ^ n % 65536, if n = 0 then none else some (bitAt s (16 - n)))
  | .shr => (s / 2 ^ n, if n = 0 then none else some (bitAt s (n - 1)))
  | .sra => (unsgn 16 (sgn 16 s / 2 ^ n), if n = 0 then none else some (bitAt s (n - 1)))

/-- The flags that D-register arithmetic writes: Z and N, and C when set (R241). -/
def dFlags (r : Nat) (c : Option Bool) : StW :=
  match c with
  | none => ⟨stZ + stN, zn16 r⟩
  | some c => ⟨stZ + stN + stC, zn16 r + b2n c * stC⟩

end Sys2Proof.Machine
end

