-- ==== Sys2Proof/Machine/BlkArray.lean ====
section
/-! DEFINITION. The array of a block memory: the words of its ports, ECC words, and written marks (06_block_memory.md, R140–R142, R149, R151, R154). -/

namespace Sys2Proof.Machine

/-! ### Words (R140–R142, R151) -/

/-- First byte, byte count and, in widths 1, 2 and 4, first bit of the word at a location; bytes from 4,096 on are those of a fused pair's second
block. -/
def wordAt (w loc : Nat) : Nat × Nat × Nat :=
  if w < 9 then (loc / 8, 1, loc % 8 / w * w) else (loc / (8 * (w / 9)) * (w / 9), w / 9, 0)

/-- The bits of byte i of a word that an access touches. -/
def byteMask (w bit : Nat) : Nat := if w < 9 then (2 ^ w - 1) * 2 ^ bit else 511

/-- The word that a view of the array gives at a location. -/
def readWord (get : Nat → Nat) (w loc : Nat) : Nat :=
  let (p, n, k) := wordAt w loc
  if w < 9 then bits (get p) (k + w - 1) k else ((List.range n).map (fun i => get (p + i) % 512 * 2 ^ (9 * i))).sum

/-- The bytes that a write stores: byte, bits written, value. In widths 1, 2 and 4, BYTEWR[0] strobes the whole word (R144). -/
def writeSet (w loc we data : Nat) : List (Nat × Nat × Nat) :=
  let (p, n, k) := wordAt w loc
  if w < 9 then (if bitAt we 0 then [(p, byteMask w k, data % 2 ^ w * 2 ^ k)] else [])
  else (List.range n).filterMap (fun i => if bitAt we i then some (p + i, 511, bits data (9 * i + 8) (9 * i)) else none)

/-- A view of the array with writes applied. -/
def withWrites (get : Nat → Nat) (l : List (Nat × Nat × Nat)) (p : Nat) : Nat :=
  l.foldl (fun v x => if x.1 = p then mergeBits v x.2.1 x.2.2 else v) (get p)

/-- A byte without its written mark, after writes that set the mark of every byte whose 9 bits they write (R154). -/
def stillBare (bare : Nat → Bool) (l : List (Nat × Nat × Nat)) (p : Nat) : Bool := bare p && !l.any (fun x => x.1 = p && x.2.1 = 511)

/-! ### ECC words (R149, R370) -/

/-- The data and the check field of word r: bits [7:0] and bit 8 of its eight bytes. -/
def eccParts (get : Nat → Nat) (r : Nat) : Nat × Nat :=
  (((List.range 8).map (fun i => get (8 * r + i) % 256 * 2 ^ (8 * i))).sum, ((List.range 8).map (fun i => get (8 * r + i) / 256 % 2 * 2 ^ i)).sum)

/-- The bytes of an encoded word; `keep` leaves the stored check bits as they are (R375). -/
def eccBytes (r data : Nat) (keep : Bool) : List (Nat × Nat × Nat) :=
  let c := secEncode 64 7 data
  (List.range 8).map (fun i => (8 * r + i, if keep then 255 else 511, bits data (8 * i + 7) (8 * i) + (c / 2 ^ i % 2) * 256))

/-! ### Reads and marks (R149, R154) -/

/-- Some byte of a range is not yet written in an UNINIT block. -/
def BlkMem.unwritten (m : BlkMem) (p n : Nat) : Bool := m.uninit && (List.range n).any (fun i => !tget false m.marks (p + i))

/-- Store bytes; `full` sets the marks of those whose 9 bits are written (R154). -/
def BlkMem.store (m : BlkMem) (l : List (Nat × Nat × Nat)) (full : Bool) : BlkMem :=
  { m with
    bytes := l.foldl (fun b x => tput 0 b x.1 (mergeBits (tget 0 b x.1) x.2.1 x.2.2)) m.bytes
    marks := if full && m.uninit then l.foldl (fun b x => if x.2.1 = 511 then tput false b x.1 true else b) m.marks else m.marks }

/-- Set the marks of a range of bytes. -/
def BlkMem.markAll (m : BlkMem) (p n : Nat) : BlkMem :=
  if m.uninit then { m with marks := iter n (fun i b => tput false b (p + i) true) m.marks } else m

/-- Word r of an ECC block with the check bits of its data, as they are computed when the word is written; not one with a byte that nothing has written
(R154, R536). -/
def BlkMem.encodeWord (m : BlkMem) (r : Nat) : BlkMem :=
  if m.unwritten (8 * r) 8 then m else m.store (eccBytes r (eccParts (fun p => tget 0 m.bytes p) r).1 false) false

/-- Frames hold no check bits: the words of an ECC block that frames have filled (R536). -/
def BlkMem.encode (m : BlkMem) (c : BlkCfg) : BlkMem := if c.wide && c.ecc then iter 512 (fun r m => m.encodeWord r) m else m

end Sys2Proof.Machine
end

