-- ==== Sys2Proof/Machine/Rights.lean ====
section
/-! DEFINITION. Who may read and write a register (R9, R31, R492, R507), and who may reach a tile aperture (R535). -/

namespace Sys2Proof.Machine

/-- A requester of register access: tenant, MCLASS (R169; 6 = an expert command, R492), and for the debug master its scope and
path (R507, R517). -/
structure Rq where
  tenant : Nat
  mclass : Nat
  scopeAll : Bool
  path : Nat
deriving DecidableEq, Repr

/-- The requester of a network request. -/
def Req.rq (r : Req) : Rq := ⟨r.tenant, r.mclass, r.scopeAll, r.path⟩

/-- The Referee itself. -/
def Rq.ref : Rq := ⟨0, 4, true, 0⟩

/-- Whom a register's chapter lets write it. -/
inductive Writer where
  /-- the owner of the function (R9) -/
  | owner
  /-- T0 (and the Referee) -/
  | t0
  /-- T0, and the tenant that owns the tile (R449) -/
  | t0Owner
  /-- only the Referee (R319, R470, R353) -/
  | referee
  /-- the Referee, and the window's owner (R353) -/
  | refOwner
  /-- any tenant; the write itself checks each line (R209) -/
  | any
  /-- only the debug master; `tap`: only with TAP origin (R513, R517) -/
  | debug (tap : Bool)
deriving DecidableEq, Repr

/-- Who writes a register (03, 07 R190, 08 R212, 10 R267, 11 R282, 12 R303, 13 R331, 14 R353, 16 R383, 17 R384, 18 R412, 19 R449,
20 R470, 23 R517, 24 R533). -/
def Rg.writer (r : Rg) : Writer :=
  match r.info.blk with
  | .devctl => .t0
  | .clk => if r = .leafGate then .t0Owner else .t0
  | .time => if 0x1000 ≤ r.info.off then .owner else .t0
  | .ev => if r = .evRaise then .any else .t0
  | .seam => .t0
  | .hbm => if r = .hbmDelay then .referee else .t0
  | .prot => if r = .pwinRights then .refOwner else .referee
  | .rcache => .t0
  | .dma => .owner
  | .quad => .owner
  | .hp => if r = .hpXlat then .referee else .t0
  | .tile =>
    if r.info.off < 0x4000 then .t0
    else if r = .niTimeout ∨ r = .routeLo ∨ r = .routeHi ∨ r = .routeCtl then .t0
    else if r = .niCtl then .t0Owner
    else .owner
  | .dbg => .debug (r = .refDbgCtl || r = .refPc || r = .refInject || r = .puCtl || r = .puRam)

/-- The tenant that owns the function a register belongs to: a region, a protected window that is not DISABLED, a channel, a quad, a tile, a
timekeeper (R9, R284, R338); device-wide functions belong to T0. -/
def State.owner (s : State) (r : Rg) (i j : Nat) : Nat :=
  match r.info.blk with
  | .time => if 0x1000 ≤ r.info.off then j else 0
  | .dma => if r = .deStatus then 0 else s.chanTenant (32 * i + j)
  | .quad => s.quadTenant i
  | .tile => if r.info.off < 0x4000 then 0 else s.tileTenant i
  | .clk => if r = .leafGate then s.tileTenant j else 0
  | .prot => if 0x1000 ≤ r.info.off ∧ s.getF F.pwinCtl_state i j ≠ 0 then s.getF F.pwinCtl_tenant i j else 0
  | .devctl => if r = .regionStatus ∨ r = .regionFault then s.getF F.regionStatus_tenant 0 j else 0
  | _ => 0

/-- A register is part of a function, so that only the function's owner, T0 where the tenant table names no other, reaches it by expert command or
under tenant scope (R9, R507). The event line and time blocks serve every tenant, and so does device control but for the registers of a region
(R209, R303, R412, R533). -/
def Rg.owned (r : Rg) : Bool :=
  match r.info.blk with
  | .devctl => r = .regionStatus || r = .regionFault
  | .ev => false
  | .time => false
  | .dbg => false
  | _ => true

/-- Only the owner reads the register over the network: lanes and quads (R31, R384), packet queues (R195), TK1–TK7 (R412). -/
def Rg.ownerRead (r : Rg) : Bool :=
  match r.info.blk with
  | .quad => true
  | .tile => 0xC000 ≤ r.info.off
  | _ => false

/-- The level and scope that a debug path holds (R504). -/
def State.level (s : State) (path : Nat) : Nat := s.getF F.dbgStatus_level path 0
def State.scopeTenant (s : State) (path : Nat) : Bool := s.flag F.dbgStatus_scope path 0
def State.dbgTenant (s : State) (path : Nat) : Nat := s.getF F.dbgStatus_tenant path 0

/-- The path holds device-wide FULL (R504). -/
def State.fullAll (s : State) (path : Nat) : Bool := s.level path = 2 && !s.scopeTenant path

/-- A requester may write the register (R31 step 2). A debug path writes with FULL, and selects an engine for flow trace with OBSERVE (R504,
R516). -/
def State.mayWrite (s : State) (q : Rq) (r : Rg) (i j : Nat) : Bool :=
  match r.writer with
  | .debug tap => q.mclass = 3 && (s.level q.path = 2 || (r = .trcCtl && decide (1 ≤ s.level q.path))) &&
    (if tap then q.path = 5 && !s.scopeTenant 5 else true)
  | .referee => q.mclass = 4
  | .refOwner => q.mclass = 4 || (q.tenant = s.owner r i j && decide (s.getF F.pwinCtl_state i j ≠ 0))
  | .any => true
  | .t0 => q.mclass = 4 || q.tenant = 0
  | .t0Owner => q.mclass = 4 || q.tenant = 0 || q.tenant = s.owner r i j
  | .owner => q.mclass = 4 || q.tenant = s.owner r i j || (q.mclass = 3 && q.scopeAll)

/-- A requester may read the register (R31 step 2, R412, R492). T0 reads every region's and window's, as it may ask for their status (R284, R482;
log entry 130). -/
def State.mayRead (s : State) (q : Rq) (r : Rg) (i j : Nat) : Bool :=
  if r.info.blk = .dbg then
    q.mclass = 3 && (decide (1 ≤ s.level q.path) || r = .dbgStatus) && (if r = .refPc then q.path = 5 else true)
  else if q.mclass = 4 || (q.mclass = 3 && q.scopeAll) then true
  else if r.info.blk = .time ∧ 0x1000 ≤ r.info.off then q.tenant = j || q.tenant = 0 || j = 0
  else if (q.mclass = 6 || q.mclass = 3) && r.owned then
    q.tenant = s.owner r i j || s.mayWrite q r i j || (q.tenant = 0 && decide (r.info.blk = .prot ∨ r.info.blk = .devctl))
  else if r.ownerRead then q.tenant = s.owner r i j
  else true

/-- A debug path's authorization covers a tile (R507). -/
def State.covers (s : State) (q : Rq) (t : Nat) : Bool := q.scopeAll || q.tenant = s.tileTenant t

/-- A requester may reach a tile's aperture (R535). -/
def State.mayReach (s : State) (q : Rq) (t : Nat) : Bool :=
  q.mclass = 4 || (if q.mclass = 3 then s.covers q t else q.tenant = s.tileTenant t)

end Sys2Proof.Machine
end

