-- ==== Sys2Proof/Machine/Prot.lean ====
section
/-! DEFINITION. Memory rights and the protected windows' counter tree (14_memory_protection.md, R333–R352), with the contents of
the stacks (13, R307, R326). Contents are held as they were written, with the mix each 32-byte access is stored under (R336). -/

namespace Sys2Proof.Machine

/-! ### Contents of a stack (R307, R308, R326) -/

def memKey (st l : Nat) : Nat := st * 0x600000000 + l

/-- Key of the 32-byte access `a` of a stack. -/
def accKey (st a : Nat) : Nat := st * 2 ^ 30 + a

/-- The 32-byte accesses that a range covers whole. -/
def wholeAcc (l n : Nat) : List Nat := (List.range 9).filterMap (fun i => let a := l / 32 + i; if l ≤ 32 * a ∧ 32 * a + 32 ≤ l + n then some a else none)

/-- The 32-byte accesses that a range touches. -/
def touchAcc (l n : Nat) : List Nat := (List.range 9).filterMap (fun i => let a := l / 32 + i; if 32 * a < l + n then some a else none)

/-! ### Windows (R333, R338, R339) -/

/-- The 64 MiB unit of a stack-local address. -/
def unitOf (l : Nat) : Nat := l / 0x4000000

/-- The unit lies in the carve-out (R339). -/
def State.carved (s : State) (st u : Nat) : Bool := decide (384 ≤ u + s.getF F.protStatus_carve st 0)

/-- The protected window, not DISABLED, of a unit (R338). -/
def State.pwinAt (s : State) (st u : Nat) : Option Nat :=
  (List.range 16).find? (fun i => decide (s.getF F.pwinCtl_state st i ≠ 0) && decide (s.getF F.pwinRange_base st i ≤ u) &&
    decide (u < s.getF F.pwinRange_base st i + s.getF F.pwinRange_size st i))

/-- The tenant window of a unit (R333). -/
def State.twinAt (s : State) (st u : Nat) : Option Nat :=
  (List.range 16).find? (fun w => s.flag F.twinCtl_en st w && decide (s.getF F.twinRange_base st w ≤ u) &&
    decide (u < s.getF F.twinRange_base st w + s.getF F.twinRange_size st w))

/-! ### Mixes (R336, R337) -/

/-- Draw of the scramble key of a unit's tenant window, plus 1; 0: it is not scrambled. -/
def State.twinKey (s : State) (st u : Nat) : Nat :=
  match s.twinAt st u with
  | some w => if s.flag F.twinCtl_scramble st w then tget 0 s.prot.scr (16 * st + w) else 0
  | none => 0

/-- The mix that a unit is read and written under: its protected window's, unless that one is DISABLING, else its tenant window's (R336, R338,
R347). -/
def State.mixOf (s : State) (st u : Nat) : Nat :=
  match s.pwinAt st u with
  | none => 0
  | some i =>
    let k := (s.pwin (16 * st + i)).scrKey
    if s.getF F.pwinCtl_state st i = 5 then 0 else if k = 0 then (if s.twinKey st u = 0 then 0 else 1) else k + 1

/-- Draw of the key of a mix of a unit, plus 1; 0: none. -/
def State.mixKey (s : State) (st u c : Nat) : Nat := if c = 0 then s.twinKey st u else c - 1

/-- The 32 bytes of access `a` as the mix `c` shows them (R336). -/
def State.accBytes (s : State) (st c a : Nat) : List Byte :=
  let raw := (List.range 32).map (fun i => tget 0#8 s.hbm.mem (memKey st (32 * a + i)))
  let w := tget 0 s.hbm.mixed (accKey st a)
  let u := unitOf (32 * a)
  if w = c then raw else leBytes 32 (Config.remix (s.mixKey st u w) (s.mixKey st u c) (accKey st a) (BitVec.ofNat 256 (leNat raw))).toNat

/-- A byte of a stack, read under the mix `c`. -/
def State.hbyte (s : State) (st c x : Nat) : Byte :=
  if tget 0 s.hbm.mixed (accKey st (x / 32)) = c then tget 0#8 s.hbm.mem (memKey st x) else (s.accBytes st c (x / 32)).getD (x % 32) 0#8

/-- Bytes of a stack from stack-local address `l`. -/
def State.hread (s : State) (st l n : Nat) : List Byte :=
  let c := s.mixOf st (unitOf l)
  (List.range n).map (fun i => s.hbyte st (if unitOf (l + i) = unitOf l then c else s.mixOf st (unitOf (l + i))) (l + i))

/-- An access that a write touches is stored from now on under the mix of its unit; what it reads as does not change (R336). -/
def State.adopt (s : State) (st a : Nat) : State :=
  let c := s.mixOf st (unitOf (32 * a))
  if tget 0 s.hbm.mixed (accKey st a) = c then s
  else { s with hbm.mem := putBytes s.hbm.mem (memKey st (32 * a)) (s.accBytes st c a), hbm.mixed := tput 0 s.hbm.mixed (accKey st a) c }

/-! ### Reads, writes and atomics (R307, R326) -/

/-- The 32-byte accesses of a run of bytes hold good content again (R326). -/
def State.mend (s : State) (st l n : Nat) : State :=
  { s with hbm.bad := s.hbm.bad.filter (fun e =>
      !(decide (e.1 / 2 ^ 30 = st) && decide (l ≤ 32 * (e.1 % 2 ^ 30)) && decide (32 * (e.1 % 2 ^ 30) + 32 ≤ l + n))) }

/-- Store bytes; an access that is covered whole holds good content again (R326). -/
def State.hwrite (s : State) (st l : Nat) (data : List Byte) : State :=
  let s := (List.range ((l % 32 + data.length + 31) / 32)).foldl (fun s i => s.adopt st (l / 32 + i)) s
  State.mend { s with hbm.mem := putBytes s.hbm.mem (memKey st l) data } st l data.length

/-- The new value of an atomic's 8 bytes (R170, R307). -/
def atomicNew (op : NOp) (old : Nat) (data : List Byte) : Nat :=
  match op with
  | .swap => leAt data 0 8
  | .fetchAdd => (old + leAt data 0 8) % 2 ^ 64
  | .compareSwap => if old = leAt data 0 8 then leAt data 8 8 else old
  | _ => old

/-- Perform an operation on plain contents: the data of its response (R307). -/
def State.hperform (s : State) (st l n : Nat) (op : NOp) (data : List Byte) : State × List Byte :=
  match op with
  | .read => (s, s.hread st l n)
  | .write => (s.hwrite st l (slice 0#8 data 0 n), [])
  | .invalidate => (s, [])
  | _ => (s.hwrite st l (leBytes 8 (atomicNew op (leNat (s.hread st l 8)) data)), s.hread st l 8)

/-! ### Rights (R333–R335, R341) -/

/-- The tenant that owns a unit: its window's, else T0 (R333). -/
def State.unitOwner (s : State) (st u : Nat) : Nat :=
  match s.twinAt st u with
  | some w => s.getF F.twinCtl_tenant st w
  | none => 0

/-- RIGHTS allow an operation of a master class: a read, a write, or both for an atomic (R334). -/
def rightsOk (rights c : Nat) (op : NOp) : Bool :=
  decide (c ≤ 4) && (match op with
    | .read => bitAt rights (2 * c)
    | .write => bitAt rights (2 * c + 1)
    | .invalidate => false
    | _ => bitAt rights (2 * c) && bitAt rights (2 * c + 1))

/-- The rights step of R31 at a stack (R334, R341). -/
def State.protGrant (s : State) (st : Nat) (q : Rq) (op : NOp) (l : Nat) : Bool :=
  let u := unitOf l
  if s.carved st u then false
  else match s.pwinAt st u with
    | some i =>
      let r := s.getF F.pwinRights_rights st i
      let own := q.tenant = s.getF F.pwinCtl_tenant st i
      if q.mclass = 3 then
        op = .read && decide (s.level q.path = 2) && s.flag F.pwinRights_debugVisible st i && (q.scopeAll || decide own) && rightsOk r 3 op
      else decide own && rightsOk r q.mclass op
    | none =>
      if q.mclass = 3 && q.scopeAll then op = .read || decide (s.level q.path = 2)
      else match s.twinAt st u with
        | some w => decide (q.tenant = s.getF F.twinCtl_tenant st w) && rightsOk (s.getF F.twinCtl_rights st w) q.mclass op
        | none => decide (q.tenant = 0)

/-! ### The tree (R340, R342, R353) -/

/-- Nodes of a level of the tree of a window of `u` units of 64 MiB. -/
def levelNodes (u j : Nat) : Nat := ceilDiv (u * 16384) (8 ^ j)

/-- Levels in memory: up to the first level of at most 8 nodes. -/
def treeLevels (u : Nat) : Nat := ((List.range 16).find? (fun j => decide (levelNodes u j ≤ 8))).getD 15 + 1

/-- Nodes below level `j`, and nodes in all. -/
def nodesBelow (u j : Nat) : Nat := ((List.range j).map (levelNodes u)).sum

/-- Node of level `j` above a window line. -/
def nodeOf (line j : Nat) : Nat := line / 64 / 8 ^ j

/-- Levels of a window. -/
def State.levels (s : State) (st i : Nat) : Nat := s.getF F.pwinCtl_levels st i

/-- Window line of a stack-local address. -/
def State.lineOf (s : State) (st i l : Nat) : Nat := (l - s.getF F.pwinRange_base st i * 0x4000000) / 64

/-- Stack-local address of a tree node (R339, R340). -/
def State.nodeAddr (s : State) (st i j n : Nat) : Nat :=
  (384 - s.getF F.protStatus_carve st 0) * 0x4000000 + s.getF F.pwinMeta_treeBase st i * 65536 +
    64 * (nodesBelow (s.getF F.pwinRange_size st i) j + n)

/-- The tag area and the tree area lie in the carve-out; the tag of a window's line (R339). -/
def State.carveBase (s : State) (st : Nat) : Nat := (384 - s.getF F.protStatus_carve st 0) * 0x4000000
def State.tagAddr (s : State) (st i line : Nat) : Nat := s.carveBase st + s.getF F.pwinMeta_tagBase st i * 65536 + 8 * line

/-- The line lies under the subtree that PWIN_FAULT names (R349). -/
def State.underFault (s : State) (st i line : Nat) : Bool :=
  s.flag F.pwinFault_valid st i && decide (nodeOf line (s.getF F.pwinFault_level st i) = s.getF F.pwinFault_node st i)

/-- An unverifiable subtree above the line. -/
def State.unverTop (s : State) (st i line : Nat) : Option (Nat × Nat) :=
  (s.pwin (16 * st + i)).unver.find? (fun e => decide (nodeOf line e.1 = e.2))

/-- The line is unverifiable. While the subtree of PWIN_FAULT is rebuilt only the named channel reaches it, with fresh nodes (R349–R351). -/
def State.unverLine (s : State) (st i line : Nat) : Bool :=
  (s.unverTop st i line).isSome && !(decide (s.getF F.pwinCtl_state st i = 3) && s.underFault st i line)

/-- Counters of a node. -/
def nodeKey (j n : Nat) : Nat := j * 2 ^ 24 + n
def State.cnode (s : State) (st i j n : Nat) : CNode := tget CNode.init (s.pwin (16 * st + i)).nodes (nodeKey j n)
def State.setCnode (s : State) (st i j n : Nat) (c : CNode) : State :=
  let w := s.pwin (16 * st + i)
  s.setPwin (16 * st + i) { w with nodes := tput CNode.init w.nodes (nodeKey j n) c }

/-- The counter cache (R342): none absent, some true changed. -/
def cacheKey (st i j n : Nat) : Nat := ((16 * st + i) * 16 + j) * 2 ^ 24 + n
def State.cached (s : State) (st i j n : Nat) : Option Bool := tget none s.prot.cache (cacheKey st i j n)
def State.setCached (s : State) (st i j n : Nat) (v : Option Bool) : State :=
  { s with prot.cache := tput none s.prot.cache (cacheKey st i j n) v }

/-- Every MINOR of a node set to 0, lock marks excepted, with MAJOR advanced (R340). -/
def CNode.bump (c : CNode) (leaf : Bool) : CNode :=
  ⟨(c.major + 1) % 2 ^ 64, if leaf then c.minors.filter (fun p => p.2 = 127) else []⟩

/-! ### What the carve-out holds (R339, R340) -/

/-- The counter of child `k` of a node: MAJOR joined with the child's MINOR (R340). -/
def CNode.counter (c : CNode) (k : Nat) : Nat := c.major * 128 + tget 0 c.minors k

/-- The 64-bit tag of a line: of its bytes before any scramble, its L, its window and its counter, under the window's tag key (R340). -/
def State.lineTag (s : State) (st i line : Nat) : BitVec 64 :=
  let l := s.getF F.pwinRange_base st i * 0x4000000 + 64 * line
  Config.lineTag (s.pwin (16 * st + i)).tagKey (16 * l + i) ((s.cnode st i 0 (line / 64)).counter (line % 64)) (s.hread st l 64)

/-- The 512 bits of a node, by level, and with them the 48-bit tag of a node: of its 64 bytes, its position and the counter that its parent
holds for it (R340). -/
def State.nodeWord (s : State) (st i : Nat) : Nat → Nat → Nat
  | 0, n =>
    let c := s.cnode st i 0 n
    c.major * 2 ^ 448 + ((List.range 64).map (fun k => tget 0 c.minors k * 2 ^ (7 * k))).sum
  | j + 1, n =>
    let c := s.cnode st i (j + 1) n
    c.major * 2 ^ 448 + ((List.range 8).map (fun k => tget 0 c.minors k * 2 ^ (392 + 7 * k) +
      (Config.lineTag (s.pwin (16 * st + i)).tagKey (s.nodeAddr st i j (8 * n + k)) (c.counter k)
        (leBytes 64 (State.nodeWord s st i j (8 * n + k)))).toNat % 2 ^ 48 * 2 ^ (48 * k))).sum

/-- The 8 bytes that the tag area holds for a line, and the 64 bytes that the tree area holds for a node, once every changed node has been
written back (R339, R340, R342). -/
def State.tagBytes (s : State) (st i line : Nat) : List Byte := leBytes 8 (s.lineTag st i line).toNat
def State.nodeBytes (s : State) (st i j n : Nat) : List Byte := leBytes 64 (s.nodeWord st i j n)

/-! ### Verification failures (R349, R350, R353) -/

def State.tamper (s : State) (st i n : Nat) : State := s.count F.pwinTamper_tamper st i n

/-- PWIN_FAULT names a subtree, while it names no other (R349). -/
def State.nameFault (s : State) (st i j n : Nat) : State :=
  if s.flag F.pwinFault_valid st i then s
  else ((s.setF F.pwinFault_valid st i 1).setF F.pwinFault_level st i j).setF F.pwinFault_node st i n

/-- A subtree becomes unverifiable (R349, R350). -/
def State.setFault (s : State) (st i j n : Nat) : State :=
  let w := s.pwin (16 * st + i)
  State.nameFault (if w.unver.contains (j, n) then s else s.setPwin (16 * st + i) { w with unver := w.unver ++ [(j, n)] }) st i j n

/-- What became of a line of a request, or of a node on the way to it. -/
inductive LineRes where
  | ok | refused | unver | frozen (loc : Nat)
deriving DecidableEq, Repr

/-- Children of a node that fail the verification of a re-tag (R340). -/
def ProtIn.failed (p : ProtIn) (i j n : Nat) : List Nat := p.retag.filterMap (fun e => if e.1 = i ∧ e.2.1 = j ∧ e.2.2.1 = n then some e.2.2.2 else none)

/-- The counter of a child of an inner node advances, at the write-back of the child. Past 127 the node's MAJOR advances and the other children
are re-tagged; one that fails is unverifiable with its subtree (R340, R342, R350). -/
def State.bumpChild (s : State) (st i j n : Nat) (p : ProtIn) : State :=
  let q := n / 8
  let c := s.cnode st i (j + 1) q
  let m := tget 0 c.minors (n % 8)
  if m < 127 then s.setCnode st i (j + 1) q { c with minors := tput 0 c.minors (n % 8) (m + 1) }
  else
    ((p.failed i (j + 1) q).filter (fun k => decide (k < 8) && decide (k ≠ n % 8) && (s.cached st i j (8 * q + k)).isNone)).foldl
      (fun s k => (s.tamper st i 1).setFault st i j (8 * q + k)) (s.setCnode st i (j + 1) q (c.bump false))

/-! ### The counter cache (R342, R349, R371) -/

/-- A lookup of a node that is to be used: none when the node has to be fetched. An error in it is counted; a bad clean node is discarded and
fetched again, a bad changed one is unverifiable and freezes the controller (R349, R371). -/
def State.cacheLook (s : State) (st i j n : Nat) (p : ProtIn) : State × Option LineRes :=
  match s.cached st i j n with
  | none => (s, none)
  | some dirty =>
    match p.cerr.find? (fun e => decide (e.win = i) && decide (e.level = j) && decide (e.node = n)) with
    | none => (s, some .ok)
    | some e =>
      let s := s.eccError .stack st e.ue 9 (e.loc % 16384) (e.par % 2) (e.syn % 128)
      if !e.ue then (s, some .ok)
      else if dirty then ((s.setCached st i j n none).setFault st i j n, some (.frozen (s.nodeAddr st i j n)))
      else (s.setCached st i j n none, none)

/-- A node is fetched below one that is in the cache: counted in MISSES, and verified. An uncorrectable read freezes the controller, a tag that
fails counts in TAMPER; either makes the subtree unverifiable (R349, R350, R353). -/
def State.nodeIn (s : State) (st i j n : Nat) (p : ProtIn) : State × LineRes :=
  let s := s.count F.protCounts_misses st 0 1
  let a := s.nodeAddr st i j n / 32
  let bad := (tget false s.hbm.bad (accKey st a)) || (tget false s.hbm.bad (accKey st (a + 1)))
  let f := (p.nodes.find? (fun e => decide (e.1 = i) && decide (e.2.1 = j) && decide (e.2.2.1 = n))).map (fun e => e.2.2.2)
  if bad || f = some true then
    let b := if bad && !tget false s.hbm.bad (accKey st a) then a + 1 else a
    let s := s.eccError .stack st true 8 b 0 3
    let s := { s with hbm.bad := tput false s.hbm.bad (accKey st b) true }
    (s.setFault st i j n, .frozen (s.nodeAddr st i j n))
  else if f = some false then ((s.tamper st i 1).setFault st i j n, .unver)
  else (s.setCached st i j n (some false), .ok)

/-- Bring a node into the cache: the levels missing below the lowest hit, or below the root, are fetched one after another downward (R342). Fuel
bounds the levels. -/
def State.fetchNode : Nat → State → Nat → Nat → Nat → Nat → ProtIn → State × LineRes
  | 0, s, _, _, _, _, _ => (s, .ok)
  | f + 1, s, st, i, j, n, p =>
    if s.levels st i ≤ j then (s, .ok)
    else match s.cacheLook st i j n p with
      | (s, some r) => (s, r)
      | (s, none) =>
        match State.fetchNode f s st i (j + 1) (n / 8) p with
        | (s, .ok) => s.nodeIn st i j n p
        | x => x

/-- A node leaves the cache. A changed one is written back: its parent is brought in and advances the node's counter, and is changed in turn. A
node whose parent cannot be brought in is lost with the parent's subtree. The location, where the controller freezes (R342, R349). -/
def State.evictNode (s : State) (st i j n : Nat) (p : ProtIn) : State × Option Nat :=
  match s.cached st i j n with
  | none => (s, none)
  | some false => (s.setCached st i j n none, none)
  | some true =>
    let back (s : State) : State := State.mend ((s.bumpChild st i j n p).setCached st i j n none) st (s.nodeAddr st i j n) 64
    if s.levels st i ≤ j + 1 then (back s, none)
    else match s.fetchNode (s.levels st i) st i (j + 1) (n / 8) p with
      | (s, .ok) => (back (s.setCached st i (j + 1) (n / 8) (some true)), none)
      | (s, .frozen x) => (s.setCached st i j n none, some x)
      | (s, _) => (s.setCached st i j n none, none)

/-- Nodes of a stack's counter cache. -/
def State.cacheOf (s : State) (st : Nat) : List (Nat × Option Bool) := s.prot.cache.filter (fun e => e.1 / 2 ^ 24 / 16 / 16 = st)

/-- While more than 16,384 nodes are held, the first of them leaves, a clean one before a changed one (R342). Fuel bounds the evictions. -/
def State.cacheFit : Nat → State → Nat → ProtIn → State × Option Nat
  | 0, s, _, _ => (s, none)
  | f + 1, s, st, p =>
    let l := s.cacheOf st
    if l.length ≤ 16384 then (s, none)
    else match (l.find? (fun e => e.2 = some false)).or l.head? with
      | none => (s, none)
      | some e =>
        match s.evictNode st (e.1 / 2 ^ 24 / 16 % 16) (e.1 / 2 ^ 24 % 16) (e.1 % 2 ^ 24) p with
        | (s, none) => State.cacheFit f s st p
        | x => x

/-- The leaf of a line comes into the counter cache; a leaf found there counts in HITS (R342, R353). -/
def State.protFetch (s : State) (st i line : Nat) (p : ProtIn) : State × LineRes :=
  let leaf := nodeOf line 0
  let hit := (s.cached st i 0 leaf).isSome && !p.cerr.any (fun e => decide (e.win = i ∧ e.level = 0 ∧ e.node = leaf) && e.ue)
  match s.fetchNode (s.levels st i + 1) st i 0 leaf p with
  | (t, .ok) => (if hit then t.count F.protCounts_hits st 0 1 else t, .ok)
  | x => x

/-- Set a line's MINOR to the lock mark, counted in TAMPER (R343). -/
def State.lockLine (s : State) (st i line : Nat) : State :=
  let c := s.cnode st i 0 (line / 64)
  State.setCached ((s.setCnode st i 0 (line / 64) { c with minors := tput 0 c.minors (line % 64) 127 }).tamper st i 1) st i 0 (line / 64) (some true)

/-- Lock the children of a leaf that failed a re-tag. -/
def lockFailed (c : CNode) (l : List Nat) : CNode := l.foldl (fun c k => { c with minors := tput 0 c.minors k 127 }) c

/-- A write advances a line's counter; past 126, and on a locked line, the leaf's MAJOR advances and the other unlocked lines are re-tagged;
those that fail are counted and locked (R340, R344, R353). -/
def State.advanceLine (s : State) (st i line : Nat) (p : ProtIn) : State :=
  let m := line % 64
  let c := s.cnode st i 0 (line / 64)
  let v := tget 0 c.minors m
  let fails := if v < 126 then [] else
    ((p.failed i 0 (line / 64)).filter (fun k => decide (k < 64) && decide (k ≠ m) && decide (tget 0 c.minors k ≠ 127))).eraseDups
  let c' := if v < 126 then { c with minors := tput 0 c.minors m (v + 1) }
    else
      let b := c.bump true
      lockFailed { b with minors := tput 0 b.minors m 0 } fails
  State.setCached (State.tamper (s.setCnode st i 0 (line / 64) c') st i fails.length) st i 0 (line / 64) (some true)

/-- Kinds of access to a line (R343). -/
inductive LineAcc where
  | read | whole | part
deriving DecidableEq, Repr

/-- One line of a request, its leaf being in the cache (R343, R344, R349). -/
def State.protLine (s : State) (st i line : Nat) (k : LineAcc) (bad : Bool) (p : ProtIn) : State × LineRes :=
  if s.unverLine st i line then
    ((match s.unverTop st i line with | some e => s.nameFault st i e.1 e.2 | none => s), .unver)
  else
    let locked := tget 0 (s.cnode st i 0 (line / 64)).minors (line % 64) = 127
    match k with
    | .read => if locked then (s, .refused) else if bad then (s.lockLine st i line, .refused) else (s, .ok)
    | .whole => (s.advanceLine st i line p, .ok)
    | .part =>
      if locked then (s.tamper st i 1, .refused) else if bad then (s.lockLine st i line, .refused) else (s.advanceLine st i line p, .ok)

/-- The pieces of a request by line: position among its lines, address, length and offset in the payload. -/
def linePieces (l n : Nat) : List (Nat × Nat × Nat × Nat) :=
  (List.range 5).filterMap (fun k =>
    let a := max l ((l / 64 + k) * 64)
    let e := min (l + n) ((l / 64 + k + 1) * 64)
    if a < e then some (k, a, e - a, a - l) else none)

/-- The leaves of a request's lines come into the cache, after what else left it; a location where the controller freezes. -/
def State.protReady (s : State) (st i l n : Nat) (p : ProtIn) : State × Option Nat :=
  let out (acc : State × Option Nat) (f : State → State × Option Nat) : State × Option Nat :=
    match acc with
    | (s, none) => f s
    | x => x
  let acc := p.evict.foldl (fun acc e => out acc (fun s => s.evictNode st e.1 e.2.1 e.2.2 p)) (s, none)
  let acc := (linePieces l n).foldl (fun acc q => out acc (fun s =>
    let line := s.lineOf st i q.2.1
    if s.unverLine st i line then (s, none)
    else match s.protFetch st i line p with
      | (s, .frozen x) => (s, some x)
      | (s, _) => (s, none))) acc
  out acc (fun s => State.cacheFit 32768 s st p)

/-- An operation in an enabled protected window (R342–R344, R349). `some loc`: the controller freezes and nothing is performed. -/
def State.protPerform (s : State) (st i l n : Nat) (op : NOp) (data : List Byte) (p : ProtIn) : State × Option Nat × Nat × Bool × List Byte :=
  match s.protReady st i l n p with
  | (s, some x) => (s, some x, 0, false, [])
  | (s, none) =>
    let pieces := linePieces l n
    let kind (q : Nat × Nat × Nat × Nat) : LineAcc :=
      match op with
      | .read => .read
      | .write => if q.2.2.1 = 64 then .whole else .part
      | _ => .part
    let old := s.hread st l 8
    let (s, rs) := pieces.foldl (fun (acc : State × List LineRes) q =>
      let (s, r) := acc.1.protLine st i (s.lineOf st i q.2.1) (kind q) (p.tamper.contains q.1) p
      let s := if r = .ok then
          (match op with
           | .write => s.hwrite st q.2.1 (slice 0#8 data q.2.2.2 q.2.2.1)
           | .read => s
           | .invalidate => s
           | _ => s.hwrite st l (leBytes 8 (atomicNew op (leNat old) data)))
        else s
      (s, acc.2 ++ [r])) (s, [])
    let s := if op = .write ∧ l % 64 = 0 ∧ n % 64 = 0 ∧ rs.all (· = .ok) then s.mend st (s.tagAddr st i (s.lineOf st i l)) (n / 8) else s
    if rs.contains .refused then (s, none, 6, false, if op = .write then [] else List.replicate n 0#8)
    else if rs.contains .unver then (s, none, 6, decide (op = .read), if op = .read then s.hread st l n else [])
    else (s, none, 0, false, if op = .read then s.hread st l n else if op.isAtomic then old else [])

end Sys2Proof.Machine
end

