-- ==== Sys2Proof/Machine/Caches.lean ====
section
/-! DEFINITION. Lines, fills and waiting reads of the remote caches (13_hbm_controllers.md, R327–R329). -/

namespace Sys2Proof.Machine

/-! ### Answers (R326, R328) -/

/-- Answer a held request, with POISON beside any code. -/
def State.hsend (s : State) (r : Req) (svc : Nat) (poison : Bool) (data : List Byte) : State :=
  let s := s.respond r svc data
  if poison && decide (svc ≠ 5) then { s with net.pois := s.net.pois ++ [(r.src, r.sport, r.tag, r.gen)] } else s

/-- The lines of a request, as network addresses. -/
def reqLines (r : Req) : List Nat := (List.range (linePieces (r.addr % 256) r.size).length).map (fun k => r.addr / 64 * 64 + 64 * k)

/-! ### Lines (R327) -/

def rlKey (d line : Nat) : Nat := d * 2 ^ 42 + line
def State.rline (s : State) (d line : Nat) : Option RLine := tget none s.hbm.lines (rlKey d line)
def State.setRline (s : State) (d line : Nat) (v : Option RLine) : State := { s with hbm.lines := tput none s.hbm.lines (rlKey d line) v }

/-- Lines of a cache that share a set with `line`: 16,384 sets of 16 ways. -/
def State.rset (s : State) (d line : Nat) : List (Nat × Option RLine) :=
  s.hbm.lines.filter (fun e => decide (e.1 / 2 ^ 42 = d) && decide (e.1 % 16384 = line % 16384))

/-- Stamp of a line's last use. -/
def lastUse (e : Nat × Option RLine) : Nat :=
  match e.2 with
  | some l => l.used
  | none => 0

/-- The least recently used line of a list. -/
def lruOf : List (Nat × Option RLine) → Option (Nat × Option RLine)
  | [] => none
  | e :: t =>
    match lruOf t with
    | none => some e
    | some m => if lastUse e ≤ lastUse m then some e else some m

/-- Install a line, replacing the least recently used one of a full set. -/
def State.install (s : State) (d line : Nat) (data : List Byte) : State :=
  let l := s.rset d line
  let s := if 16 ≤ l.length ∧ (s.rline d line).isNone then
      (match lruOf l with | some e => s.setRline d (e.1 % 2 ^ 42) none | none => s)
    else s
  State.setRline { s with hbm.stamp := s.hbm.stamp + 1 } d line (some ⟨data, s.hbm.stamp⟩)


/-! ### Requests (R328) -/

/-- Line numbers that a request touches. -/
def rlines (r : Req) : List Nat := (reqLines r).map (· / 64)

/-- The code of a read of several lines: the first that is neither OK nor OK_DELAYED, else OK_DELAYED when a line came late (R314, R328). -/
def joinSvc (a b : Nat) : Nat := if 1 < a then a else if 1 < b then b else max a b

/-- Answer a waiting read whose lines have all come: its code, or the bytes of its range (R328). -/
def State.readAnswer (s : State) (w : RWait) : State :=
  let b := (rlines w.req).flatMap (fun l => ((w.got.find? (fun g => g.1 = l)).map (·.2)).getD [])
  let data := slice 0#8 b (w.req.addr % 64) w.req.size
  s.hsend w.req w.svc (decide (w.svc = 5)) (if w.svc ≤ 1 ∨ w.svc = 5 then data else [])

/-- Start a fill of a line for a read, or join one in flight that is not stale (R328, R329, R334): the fill's id, or the code with
which the die's interface answers it, or nothing while no tag is free. A line that no shared window covers any more is not installed (R327). -/
def State.startFill (s : State) (d : Nat) (r : Req) (line : Nat) : State × Option (Nat ⊕ Nat) :=
  match s.hbm.fills.find? (fun f => decide (f.die = d) && decide (f.line = line) && !f.stale) with
  | some f => (s, some (.inl f.id))
  | none =>
    let id := s.hbm.nextId
    let (st, l) := s.hbmLocal (line * 64)
    let q : Req := { mkReq .read (line * 64) 64 r.tenant r.mclass (dieTile d) 5 [] with scopeAll := r.scopeAll, path := r.path }
    match s.issueTo (.rcache d id true) q (1024 + 16 * st + (s.hbmLoc st l).pc / 2) 1 with
    | (s, some 0) => ({ s with hbm.nextId := id + 1, hbm.fills := s.hbm.fills ++ [⟨id, d, line, !s.shared (line * 64)⟩] }, some (.inl id))
    | (s, some c) => (s, some (.inr c))
    | (s, none) => (s, none)

/-- A read that waits gets a line again: by a fill, or with the code that ends the attempt (REFUSED_BUSY while no tag is free). -/
def State.refill (s : State) (d : Nat) (w : RWait) (line : Nat) : State × RWait :=
  match s.startFill d w.req line with
  | (s, some (.inl id)) => (s, { w with need := w.need ++ [id] })
  | (s, some (.inr c)) => (s, { w with svc := joinSvc w.svc c })
  | (s, none) => (s, { w with svc := joinSvc w.svc svcBusy })

/-- Reads of several lines that wait at die `d` with bytes of the line. -/
def State.holdsLine (s : State) (d line : Nat) : List RWait :=
  s.hbm.waits.filter (fun w => decide (w.req.dst = dieTile d) && w.got.any (fun g => g.1 = line))

/-- Drop a line: a fill of it in flight becomes stale, and a read that waits with its bytes gets the line again, so that no later answer holds what
the write replaced (R329). -/
def State.dropLine (s : State) (d line : Nat) : State :=
  let s := State.setRline { s with hbm.fills := s.hbm.fills.map (fun f => if f.die = d ∧ f.line = line then { f with stale := true } else f) } d line none
  (s.holdsLine d line).foldl (fun s w =>
    let (s, v) := s.refill d { w with got := w.got.filter (fun g => g.1 ≠ line) } line
    { s with hbm.waits := s.hbm.waits.map (fun x => if x = w then v else x) }) s

end Sys2Proof.Machine
end

