-- ==== Sys2Proof/Machine/Time.lean ====
section
/-! DEFINITION. Timekeepers and network time (18_time.md, R409–R432) with the group 0x05 commands (R485). -/

namespace Sys2Proof.Machine

/-- One second, in units of 2^−32 ns. -/
def secUnits : Nat := 1000000000 * 2 ^ 32

/-- A value in one number, in 2^−32 ns since second 0. -/
def Keeper.val (k : Keeper) : Nat := k.sec * secUnits + k.sub

/-- A keeper set to a value; SECONDS wraps at 2^48 (R409). -/
def Keeper.setVal (k : Keeper) (v : Nat) : Keeper := { k with sec := v / secUnits % 2 ^ 48, sub := v % secUnits }

/-- INCR in use (R410, R432). -/
def State.incrNow (s : State) (n : Nat) : Nat := s.reg .tkIncrNowLo 0 n + 2 ^ 32 * s.getF F.tkIncrNowHi_int 0 n

/-- A timekeeper counts: enabled, in every mode from BOOT to LOCKOUT (R409, R431). -/
def State.tkRuns (s : State) (n : Nat) : Bool := s.flag F.tkCtl_enable 0 n && decide (s.pw.mode ≠ .off) && s.pw.resetN

/-- One tick of one timekeeper (R410). -/
def State.tickKeeper (s : State) (n : Nat) : State :=
  if s.tkRuns n then s.setKeeper n ((s.keeper n).setVal ((s.keeper n).val + s.incrNow n)) else s

/-- A cut-off quad's copies run on their last INCR (R411). -/
def QCopy.tick (c : QCopy) : QCopy :=
  let v0 := c.sec0 * secUnits + c.sub0 + c.incr0
  let vT := c.secT * secUnits + c.subT + c.incrT
  { c with sec0 := v0 / secUnits % 2 ^ 48, sub0 := v0 % secUnits, secT := vT / secUnits % 2 ^ 48, subT := vT % secUnits }

/-- One tick of the timekeeper clock, 2 ns (R410): every timekeeper adds its INCR, and a PPS_OUT pulse runs on. -/
def State.tick (s : State) : State :=
  let s := iter 8 (fun n s => s.tickKeeper n) s
  { s with tmr.ticks := s.tmr.ticks + 1, tmr.ppsLeft := s.tmr.ppsLeft - 1,
           tmr.copies := s.tmr.copies.map (fun p => (p.1, p.2.map QCopy.tick)) }

/-! ### Copies in the quads (R411) -/

/-- The control bundles reach die d: the bank is on die 0, and another die needs one control bundle up (R79, R411). -/
def State.ctrlUp (s : State) (d : Nat) : Bool :=
  d = 0 || !s.cutOff d

/-- The copies of a quad that leaves the bank. -/
def State.copyOf (s : State) (q : Nat) : QCopy :=
  ⟨(s.keeper 0).sec, (s.keeper 0).sub, s.incrNow 0, (s.keeper (s.quadTenant q)).sec, (s.keeper (s.quadTenant q)).sub, s.incrNow (s.quadTenant q)⟩

/-- Before a correction, the quads on a die out of reach keep their copies as they run (R411). -/
def State.detachCopies (s : State) : State :=
  iter 48 (fun q s => if s.ctrlUp (q / 12) || (tget none s.tmr.copies q).isSome then s
    else { s with tmr.copies := tput none s.tmr.copies q (some (s.copyOf q)) }) s

/-- Realignment every 1 µs: the copies of every die in reach are the bank's again (R411). -/
def State.realign (s : State) : State :=
  iter 48 (fun q s => if s.ctrlUp (q / 12) then { s with tmr.copies := tput none s.tmr.copies q none } else s) s

/-- The time a lane's MAC stamps from: TK0's copy or that of its tenant's timekeeper, in 2^−32 ns (R399, R411). -/
def State.laneTime (s : State) (l : Nat) (own : Bool) : Nat :=
  match tget none s.tmr.copies (l / 4) with
  | some c => if own then c.secT * secUnits + c.subT else c.sec0 * secUnits + c.sub0
  | none => (s.keeper (if own then s.quadTenant (l / 4) else 0)).val

/-! ### Corrections (R413–R417) -/

/-- The lowest and highest INCR of R410. -/
def incrMin : Nat := 0x01FF7CED91
def incrMax : Nat := 0x020083126F

/-- Why a correction is refused: its FAULT_KIND; none when it is accepted (R413–R416). -/
def State.corrFault (s : State) (n : Nat) : Corr → Option Nat
  | .set _ _ _ => if s.flag F.tkStatus_armed 0 n then none else some 1
  | .adj o =>
    if n = 0 then (if s.flag F.tkStatus_armed 0 0 then none else some 1)
    else if o.natAbs ≤ s.reg .timeAdjTh 0 0 * 65536 then none else some 3
  | .rate m =>
    if m < incrMin ∨ incrMax < m then some 4
    else if n = 0 ∧ s.getF F.timeRateTh_rateTh 0 0 < (if m ≤ s.incrNow 0 then s.incrNow 0 - m else m - s.incrNow 0) then some 2
    else none

/-- The PERIOD of an alarm in ns, and a value in whole ns. -/
def State.alarmPeriod (s : State) (n : Nat) : Nat := s.getF F.tkAlarmPeriod_ns 0 n
def Keeper.ns (k : Keeper) : Nat := k.val / 2 ^ 32

/-- The alarm fires: it raises ALARM_EV when enabled; a periodic alarm advances by PERIOD (R418). -/
def State.fireAlarm (s : State) (n : Nat) : State :=
  let k := s.keeper n
  let s := s.setKeeper n (if s.alarmPeriod n = 0 then { k with fired := true } else { k with next := k.next + s.alarmPeriod n })
  if s.flag F.tkCtl_alarmEn 0 n then s.raiseEv 0 n (s.getF F.tkCtl_alarmEv 0 n) else s

/-- The alarm is due: the value has reached or passed the alarm time (R418). -/
def State.alarmDue (s : State) (n : Nat) : Bool :=
  !(s.keeper n).fired && decide ((s.keeper n).next ≤ (s.keeper n).ns) && s.tkRuns n

/-- After a set or adjust: an alarm time passed forward fires once, and a periodic alarm's next time is the first alarm time
+ k × PERIOD that lies after the new value (R418). -/
def State.alarmAfter (s : State) (n : Nat) : State :=
  let s := if s.alarmDue n then s.fireAlarm n else s
  let k := s.keeper n
  let p := s.alarmPeriod n
  if p = 0 then s
  else s.setKeeper n { k with next := if k.ns < k.first then k.first else k.first + ((k.ns - k.first) / p + 1) * p }

/-- Carry out an accepted correction (R413, R415). -/
def State.applyCorr (s : State) (n : Nat) (c : Corr) : State :=
  let s := s.detachCopies
  match c with
  | .set sec ns frac =>
    let s := s.setKeeper n ((s.keeper n).setVal (sec * secUnits + ns * 2 ^ 32 + frac * 2 ^ 16))
    let s := s.setF F.tkStatus_armed 0 n 0
    let s := if n = 0 then { s with tmr.stepped := true } else s
    s.alarmAfter n
  | .adj o =>
    let v : Int := ((s.keeper n).val : Int) + o * 2 ^ 16
    let s := s.setKeeper n ((s.keeper n).setVal (v % ((2 ^ 48 * secUnits : Nat) : Int)).toNat)
    let s := if n = 0 then { (s.setF F.tkStatus_armed 0 0 0) with tmr.stepped := true } else s
    s.alarmAfter n
  | .rate m => (s.setReg .tkIncrNowLo 0 n (m % 2 ^ 32)).setF F.tkIncrNowHi_int 0 n (m / 2 ^ 32)

/-- A refused correction sets TIME_FAULT and FAULT_KIND, raises FAULT_EV when enabled, and queues TIME_FAULT (R416, R462). -/
def State.refuseCorr (s : State) (n kind : Nat) : State :=
  let s := (s.setF F.tkStatus_timeFault 0 n 1).setF F.tkStatus_faultKind 0 n kind
  let s := if s.flag F.tkCtl_faultEn 0 n then s.raiseEv 0 n (s.getF F.tkCtl_faultEv 0 n) else s
  s.queueEv n 5 0 (srcOf .time 0) (n + 16 * kind)

/-- Stage a correction (R417). -/
def State.stageCorr (s : State) (n : Nat) (c : Corr) (cmd : Option (Nat × Nat)) : State :=
  (s.setKeeper n { s.keeper n with pend := some c, cmd := cmd }).setF F.tkStatus_pending 0 n 1

/-- The servo tries a refused rate correction again with a smaller change (R426). DESIGN CHOICE (log entry 160): half of it, rounded toward zero, and no
further when nothing is left of it. A halted Referee makes no correction (R427). -/
def State.servoRetry (s : State) (n : Nat) (c : Corr) (cmd : Option (Nat × Nat)) : State :=
  match c with
  | .rate m =>
    let d := ((m : Int) - s.incrNow 0).tdiv 2
    if n = 0 ∧ cmd.isNone ∧ s.flag F.timeCtl_source 0 0 ∧ s.maltarRuns ∧ d ≠ 0 then s.stageCorr 0 (.rate ((s.incrNow 0 : Int) + d).toNat) none else s
  | _ => s

/-- A staged correction reaches its tick: it takes effect or is refused against the state at that tick, and a command that waits
for it is answered (R416, R417). -/
def State.corrTick (s : State) (n : Nat) : State :=
  match (s.keeper n).pend with
  | none => s
  | some c =>
    let cmd := (s.keeper n).cmd
    let s := (s.setKeeper n { s.keeper n with pend := none, cmd := none }).setF F.tkStatus_pending 0 n 0
    let f := s.corrFault n c
    let s := match f with
      | none => s.applyCorr n c
      | some k => (s.refuseCorr n k).servoRetry n c cmd
    match cmd with
    | none => s
    | some (p, m) => s.replyWaiting p m (if f.isNone then 0 else 0x17) []

/-- The correction that GO_SET, GO_ADJ or GO_INCR starts, from the staging registers (R417, R432). -/
def State.goCorr (s : State) (n : Nat) (go : Nat) : Corr :=
  if go = 4 then
    .set (s.reg .tkSetSecLo 0 n + 2 ^ 32 * s.getF F.tkSetSecHi_seconds 0 n) (s.reg .tkSetNs 0 n) (s.getF F.tkSetSecHi_fraction 0 n)
  else if go = 2 then .adj (sgn 64 (s.reg .tkAdjLo 0 n + 2 ^ 32 * s.reg .tkAdjHi 0 n))
  else .rate (s.reg .tkIncrLo 0 n + 2 ^ 32 * s.getF F.tkIncrHi_int 0 n)

/-- Store a time in a triple of registers laid out as TK_SNAP. -/
def State.putTime (s : State) (rn rl rh : Rg) (n v : Nat) : State :=
  let k := Keeper.init.setVal v
  ((s.setReg rn 0 n (k.sub / 2 ^ 32)).setReg rl 0 n (k.sec % 2 ^ 32)).setReg rh 0 n (k.sub / 2 ^ 16 % 2 ^ 16 * 2 ^ 16 + k.sec / 2 ^ 32)

/-- SNAP copies the value into TK_SNAP (R419). -/
def State.snap (s : State) (n : Nat) : State := s.putTime .tkSnapNs .tkSnapSecLo .tkSnapSecHi n (s.keeper n).val

/-- Re-arm TK0 (R41, R413); the servo's next exchange is again its first (R426). -/
def State.armTk0 (s : State) : State := { (s.setF F.tkStatus_armed 0 0 1) with tmr.servoed := false, tmr.offs := none }

/-- A disabled TK0 stops PPS_OUT (R53, R420). -/
def State.tkDisabled (s : State) (n : Nat) : State := if n = 0 then { s with tmr.ppsOut := false, tmr.ppsLeft := 0 } else s

/-- A write to TK_CTL (R417, R431, R432): more than one GO bit is a reserved encoding, a GO bit while PENDING leaves TK_CTL
unchanged, ARM acts for T0 on TK0 only, and a GO by T0 on TK0 has no effect while SOURCE = SYSTEMLINK (R414). -/
def State.writeTkCtl (s : State) (n v tenant : Nat) (ref : Bool) : State :=
  let go := bits v 29 27
  if go ≠ 0 ∧ go ≠ 1 ∧ go ≠ 2 ∧ go ≠ 4 then s
  else if go ≠ 0 ∧ s.flag F.tkStatus_pending 0 n then s
  else
    let s := s.setReg .tkCtl 0 n (Rg.tkCtl.written (s.reg .tkCtl 0 n) v)
    let s := if !bitAt v 31 then s.tkDisabled n else s
    let s := if bitAt v 30 ∧ n = 0 ∧ (tenant = 0 ∨ ref) then s.armTk0 else s
    let s := if go = 0 ∨ (n = 0 ∧ !ref ∧ s.flag F.timeCtl_source 0 0) then s else s.stageCorr n (s.goCorr n go) none
    if bitAt v 26 then s.snap n else s

/-- New alarm registers: the alarm time is first and next, and has not fired (R418). -/
def State.alarmSet (s : State) (n : Nat) : State :=
  let a := (s.reg .tkAlarmSecLo 0 n + 2 ^ 32 * s.getF F.tkAlarmSecHi_seconds 0 n) * 1000000000 + s.reg .tkAlarmNs 0 n
  s.setKeeper n { s.keeper n with first := a, next := a, fired := false }

/-- A capture: VALID is set, or an edge that arrives while VALID sets OVERRUN (R419). A disabled timekeeper takes no stamp (R53). -/
def State.capture (s : State) (n : Nat) : State :=
  if !s.flag F.tkCtl_enable 0 n then s
  else if s.flag F.tkCapCtl_valid 0 n then s.setF F.tkCapCtl_overrun 0 n 1
  else (s.putTime .tkCapNs .tkCapSecLo .tkCapSecHi n (s.keeper n).val).setF F.tkCapCtl_valid 0 n 1

/-- The registers of a timekeeper. -/
def tkRegs : List Rg := Blk.time.regs.filter (fun r => 0x1000 ≤ r.info.off)

/-- Function reset of a timekeeper: value zero, INCR nominal, TK0 armed or TKn unset, alarm and capture cleared (R431). -/
def State.resetTk (s : State) (n : Nat) : State :=
  let s := s.tkDisabled n
  let s := tkRegs.foldl (fun s r => s.resetReg r 0 n) s
  let s := s.setKeeper n Keeper.init
  if n = 0 then { s with tmr.servoed := false, tmr.offs := none } else s

/-- TK0 is parentless with SOURCE = SYSTEMLINK and not the root (R429). -/
def State.orphan (s : State) : Bool := s.flag F.timeCtl_source 0 0 && s.tmr.parent.isNone && !s.flag F.slStatus_root 0 0

/-- Bring HOLDOVER of every TK_STATUS up to date; each entry and exit raises FAULT_EV when enabled (R429). -/
def State.updHoldover (s : State) : State :=
  iter 8 (fun n s =>
    let h := s.tmr.holdover || (n = 0 && s.orphan)
    if s.flag F.tkStatus_holdover 0 n = h then s
    else
      let s := s.setF F.tkStatus_holdover 0 n (b2n h)
      if s.flag F.tkCtl_faultEn 0 n then s.raiseEv 0 n (s.getF F.tkCtl_faultEv 0 n) else s) s

/-! ### Commands of time itself -/

/-- SOURCE or TIME_PRIO has been written: a device with SOURCE = HOST is a root of its own and takes no parent; one that leaves HOST, and one without a
parent, is its own root while TIME_PRIO is below 255, and parentless otherwise (R424; log entry 161). -/
def State.sourceSet (s : State) (was : Bool) : State :=
  let now := s.flag F.timeCtl_source 0 0
  let s :=
    if !now then
      let s := ({ s with tmr.parent := none }).setReg .slStatus 0 0 (2 ^ 31 + s.getF F.timeCtl_timePrio 0 0)
      (s.setReg .slRootIdLo 0 0 ((Config.siliconId 0).toNat % 2 ^ 32)).setReg .slRootIdHi 0 0 ((Config.siliconId 0).toNat / 2 ^ 32)
    else if was ∧ s.tmr.parent.isSome then s
    else if s.getF F.timeCtl_timePrio 0 0 < 255 then
      let s := s.setReg .slStatus 0 0 (2 ^ 31 + s.getF F.timeCtl_timePrio 0 0)
      (s.setReg .slRootIdLo 0 0 ((Config.siliconId 0).toNat % 2 ^ 32)).setReg .slRootIdHi 0 0 ((Config.siliconId 0).toNat / 2 ^ 32)
    else ((s.setReg .slStatus 0 0 0).setReg .slRootIdLo 0 0 0).setReg .slRootIdHi 0 0 0
  s.updHoldover

/-- CORRECTION_APPLY (R417). -/
def execCorrectionApply (n : Tk) (s : State) : Out := .next (s.corrTick n)

/-- ALARM_FIRE (R418). -/
def execAlarmFire (n : Tk) (s : State) : Out := .next (if s.alarmDue n then s.fireAlarm n else s)

/-- PPS_OUT follows TK0: enabled, in RUN, REST and HOLD, and with PPS_VALID_ONLY once TK0 has taken a set or adjust (R420, R51). -/
def State.ppsOn (s : State) : Bool :=
  s.flag F.timeCtl_ppsEn 0 0 && s.flag F.tkCtl_enable 0 0 && decide (s.pw.mode = .run ∨ s.pw.mode = .rest ∨ s.pw.mode = .hold) &&
  (!s.flag F.timeCtl_ppsValidOnly 0 0 || s.tmr.stepped)

/-- PPS_OUT_RISE: TK0 reached PPS_OFFSET into the second at this tick; the pulse lasts PPS_WIDTH µs in ticks (R420). -/
def execPpsOutRise (s : State) : Out :=
  .next (if s.ppsOn && decide (s.getF F.ppsOffset_ns 0 0 * 2 ^ 32 ≤ (s.keeper 0).sub) &&
      decide ((s.keeper 0).sub < s.getF F.ppsOffset_ns 0 0 * 2 ^ 32 + s.incrNow 0)
    then { s with tmr.ppsOut := true, tmr.ppsLeft := s.getF F.ppsWidth_us 0 0 * 500 } else s)

/-- PPS_OUT_FALL: PPS_WIDTH has elapsed (R420). -/
def execPpsOutFall (s : State) : Out := .next (if s.tmr.ppsLeft = 0 then { s with tmr.ppsOut := false } else s)

/-- PPS_IN_EDGE: every timekeeper whose CAP_SRC is PPS_IN captures (R419). -/
def execPpsInEdge (s : State) : Out := .next (iter 8 (fun n s => if s.getF F.tkCapCtl_capSrc 0 n = 1 then s.capture n else s) s)

/-- QUAD_COPY_REALIGN (R411). -/
def execQuadCopyRealign (s : State) : Out := .next s.realign

/-! ### Group 0x05 (R485) -/

/-- A TIME field: 6 bytes of SECONDS, 4 of NANOSECONDS, 2 of FRACTION. -/
def timeBytes (v : Nat) : List Byte :=
  let k := Keeper.init.setVal v
  leBytes 6 k.sec ++ leBytes 4 (k.sub / 2 ^ 32) ++ leBytes 2 (k.sub / 2 ^ 16)

/-- A correction command: owner only; TK0 under SYSTEMLINK is BUSY (R414), and so is a timekeeper whose correction is pending;
it is answered when the correction has taken effect (R417, R485). -/
def corrCmd (n : Nat) (k : Corr) (c : Ctx) (s : State) : State × Reply :=
  if c.tenant ≠ n then refuse s 0x12
  else if n = 0 ∧ s.flag F.timeCtl_source 0 0 then refuse s 0x15
  else if s.flag F.tkStatus_pending 0 n then refuse s 0x15
  else (s.stageCorr n k (some (c.port, c.mbox)), .wait)

def cmdTimeGet : Body := fun c s =>
  let n := c.num 0 1
  if n ≠ 0 ∧ c.tenant ≠ n ∧ c.tenant ≠ 0 then refuse s 0x12
  else (s, .done 0 (timeBytes (s.keeper n).val ++ leBytes 8 (s.incrNow n) ++ leBytes 4 (s.reg .tkStatus 0 n)))

def cmdTimeSet : Body := fun c s => corrCmd (c.num 0 1) (.set (c.num 4 6) (c.num 10 4) (c.num 14 2)) c s
def cmdTimeAdjust : Body := fun c s => corrCmd (c.num 0 1) (.adj (sgn 64 (c.num 8 8))) c s
def cmdTimeRate : Body := fun c s => corrCmd (c.num 0 1) (.rate (c.num 8 5)) c s

def cmdTimeArm : Body := fun c s => if c.tenant ≠ 0 then refuse s 0x12 else (s.armTk0, .done 0 [])

def cmdTimeClear : Body := fun c s =>
  if c.tenant ≠ c.num 0 1 then refuse s 0x12 else (s.setF F.tkStatus_timeFault 0 (c.num 0 1) 0, .done 0 [])

def cmdTimeAlarm : Body := fun c s =>
  let n := c.num 0 1
  if c.tenant ≠ n then refuse s 0x12
  else
    let s := (s.setF F.tkCtl_alarmEn 0 n (c.num 1 1)).setF F.tkCtl_alarmEv 0 n (c.num 2 1)
    let s := (s.setReg .tkAlarmSecLo 0 n (c.num 4 4)).setF F.tkAlarmSecHi_seconds 0 n (c.num 8 2)
    let s := (s.setReg .tkAlarmNs 0 n (c.num 10 4)).setReg .tkAlarmPeriod 0 n (c.num 16 4)
    (s.alarmSet n, .done 0 [])

def cmdTimeCapture : Body := fun c s =>
  let n := c.num 0 1
  if c.tenant ≠ n then refuse s 0x12
  else
    let hi := s.reg .tkCapSecHi 0 n
    let pay := leBytes 4 (s.reg .tkCapSecLo 0 n) ++ leBytes 2 hi ++ leBytes 4 (s.reg .tkCapNs 0 n) ++ leBytes 2 (hi / 65536) ++
      leBytes 1 (s.getF F.tkCapCtl_valid 0 n + 2 * s.getF F.tkCapCtl_overrun 0 n)
    let s := (s.setF F.tkCapCtl_capSrc 0 n (c.num 1 1)).setF F.tkCtl_capEv 0 n (c.num 2 1)
    let s := if c.num 3 1 = 1 then (s.setF F.tkCapCtl_valid 0 n 0).setF F.tkCapCtl_overrun 0 n 0 else s
    (s, .done 0 pay)

def cmdTimePps : Body := fun c s =>
  if c.tenant ≠ 0 then refuse s 0x12
  else
    let s := (s.setF F.timeCtl_ppsEn 0 0 (c.num 0 1)).setF F.timeCtl_ppsValidOnly 0 0 (c.num 1 1)
    ((s.setReg .ppsOffset 0 0 (c.num 4 4)).setReg .ppsWidth 0 0 (c.num 8 4), .done 0 [])

def cmdTimeSource : Body := fun c s =>
  if c.tenant ≠ 0 then refuse s 0x12
  else (State.sourceSet ((s.setF F.timeCtl_source 0 0 (c.num 0 1)).setF F.timeCtl_timePrio 0 0 (c.num 1 1)) (s.flag F.timeCtl_source 0 0),
    .done 0 [])

def cmdTimeStatus : Body := fun c s =>
  (s, .done 0 (leBytes 4 (s.reg .slStatus 0 0) ++ leBytes 4 (s.reg .slRootIdLo 0 0) ++ leBytes 4 (s.reg .slRootIdHi 0 0) ++
    leBytes 4 (s.reg .slDelay 0 0) ++ leBytes 4 (s.reg .slOffset 0 0) ++
    ((List.range 8).map (fun n => leBytes 4 (if n = 0 ∨ c.tenant = n ∨ c.tenant = 0 then s.reg .tkStatus 0 n else 0))).flatten))

/-- TIME_GET (R485). -/
def execTimeGet (p : Port) (m : Mbox) (s : State) : Out := .next (takeMailbox 0x0500 cmdTimeGet p m s)
/-- TIME_SET (R413, R415, R485). -/
def execTimeSet (p : Port) (m : Mbox) (s : State) : Out := .next (takeMailbox 0x0501 cmdTimeSet p m s)
/-- TIME_ADJUST (R413, R415, R485). -/
def execTimeAdjust (p : Port) (m : Mbox) (s : State) : Out := .next (takeMailbox 0x0502 cmdTimeAdjust p m s)
/-- TIME_RATE (R413, R415, R485). -/
def execTimeRate (p : Port) (m : Mbox) (s : State) : Out := .next (takeMailbox 0x0503 cmdTimeRate p m s)
/-- TIME_ARM (R413, R485). -/
def execTimeArm (p : Port) (m : Mbox) (s : State) : Out := .next (takeMailbox 0x0504 cmdTimeArm p m s)
/-- TIME_CLEAR (R416, R485). -/
def execTimeClear (p : Port) (m : Mbox) (s : State) : Out := .next (takeMailbox 0x0505 cmdTimeClear p m s)
/-- TIME_ALARM (R418, R485). -/
def execTimeAlarm (p : Port) (m : Mbox) (s : State) : Out := .next (takeMailbox 0x0506 cmdTimeAlarm p m s)
/-- TIME_CAPTURE (R419, R485). -/
def execTimeCapture (p : Port) (m : Mbox) (s : State) : Out := .next (takeMailbox 0x0507 cmdTimeCapture p m s)
/-- TIME_PPS (R420, R485). -/
def execTimePps (p : Port) (m : Mbox) (s : State) : Out := .next (takeMailbox 0x0508 cmdTimePps p m s)
/-- TIME_SOURCE (R414, R485). -/
def execTimeSource (p : Port) (m : Mbox) (s : State) : Out := .next (takeMailbox 0x0509 cmdTimeSource p m s)
/-- TIME_STATUS (R485). -/
def execTimeStatus (p : Port) (m : Mbox) (s : State) : Out := .next (takeMailbox 0x050A cmdTimeStatus p m s)

end Sys2Proof.Machine
end

