-- ==== Sys2Proof/Machine/Clocks.lean ====
section
/-! DEFINITION. Clocks (19_clocks_resets.md, R433–R444, R449) with the group 0x06 commands (R486, R487). -/

namespace Sys2Proof.Machine

/-! ### Frequencies and the gating tree (R435, R436, R442, R443) -/

/-- Stated frequency of a synthesizer source, in Hz (R433, R438). -/
def State.srcHz (s : State) (c : Nat) : Nat :=
  if 0x20 ≤ c ∧ c ≤ 0x28 then s.getF F.refHz_hz 0 (c - 0x20) else if c = 0x29 then 156250000 else if c = 0x2A then 500000000 else 0

/-- f_VCO lies in 4–8 GHz and f_out in 10 MHz–1 GHz (R436): both sides times 2^24. -/
def syFreqOk (hz n f od : Nat) : Bool :=
  let v := hz * (n * 2 ^ 24 + f)
  decide (4000000000 * 2 ^ 24 ≤ v) && decide (v ≤ 8000000000 * 2 ^ 24) && decide (10000000 * od * 2 ^ 24 ≤ v) && decide (v ≤ 1000000000 * od * 2 ^ 24)

/-- A source is on: synthesizers by their enable, nets by theirs; the others have no enable (R442). -/
def State.srcOn (s : State) (c : Nat) : Bool :=
  if c < 0x20 then s.flag F.syCtl_enable 0 c else if 0x40 ≤ c ∧ c < 0x80 then s.flag F.gcCtl_enable 0 (c - 0x40) else true

/-- A child of synthesizer k is on (R442). -/
def State.syChild (s : State) (k : Nat) : Bool :=
  (List.range 64).any (fun j => s.flag F.gcCtl_enable 0 j && s.getF F.gcCtl_src 0 j = k)

/-- The global net bound to clock input i of tile t; 64 when unbound (R442). -/
def State.leafNet (s : State) (t i : Nat) : Nat := (s.tcfg t).clkNets.getD i 64

/-- A leaf gate of net j is on (R442). -/
def State.gcChild (s : State) (j : Nat) : Bool :=
  s.fab.cfg.any (fun p => (List.range 8).any (fun i => s.leafNet p.1 i = j && bitAt (s.reg .leafGate 0 p.1) i))

/-! ### Synthesizers (R436, R437, R443) -/

/-- Why a write of SY_CTL is refused: BAD_COMMAND or REFUSED_CHILD_ACTIVE; none when it takes effect. -/
def State.syCheck (s : State) (k v f : Nat) : Option Nat :=
  let old := s.reg .syCtl 0 k
  if !Rg.syCtl.okWrite v ∨ !sySrcOk k (bits v 30 22) then some 0x10
  else if bitAt old 31 ∧ bits old 30 0 ≠ bits v 30 0 then some 0x10
  else if bitAt old 31 ∧ !bitAt v 31 ∧ s.syChild k then some 0x16
  else if !bitAt old 31 ∧ bitAt v 31 ∧ !syFreqOk (s.srcHz (bits v 30 22)) (bits v 7 0) f (bits v 21 12) then some 0x10
  else none

/-- Write SY_CTL (R436, R437, R443). A disabled synthesizer has no lock. -/
def State.writeSyCtl (s : State) (k v : Nat) : State :=
  if (s.syCheck k v (s.getF F.syFrac_f 0 k)).isSome then s
  else
    let s := s.setReg .syCtl 0 k (Rg.syCtl.written (s.reg .syCtl 0 k) v)
    if bitAt v 31 then s else s.setF F.syStatus_lock 0 k 0

/-- Write SY_FRAC: unchanged while the synthesizer is enabled (R437). -/
def State.writeSyFrac (s : State) (k v : Nat) : State :=
  if s.flag F.syCtl_enable 0 k then s else s.setReg .syFrac 0 k (v % 2 ^ 24)

/-! ### Global nets (R441–R443) -/

/-- Why a write of GC_CTL is refused; none when it takes effect. -/
def State.gcCheck (s : State) (j v : Nat) : Option Nat :=
  let old := s.reg .gcCtl 0 j
  if !Rg.gcCtl.okWrite v then some 0x10
  else if bitAt old 31 ∧ !bitAt v 31 ∧ s.gcChild j then some 0x16
  else if !s.srcOn (bits v 8 0) ∧ ((bitAt v 31 ∧ !bitAt old 31) ∨ bits old 8 0 ≠ bits v 8 0) then some 0x10
  else none

/-- Write GC_CTL on a net that is not switching: a new SRC of an enabled net starts a switch (R441). -/
def State.applyGc (s : State) (j v : Nat) : State :=
  if (s.gcCheck j v).isSome then s
  else
    let old := s.reg .gcCtl 0 j
    let s := s.setReg .gcCtl 0 j (Rg.gcCtl.written old v)
    if bitAt old 31 ∧ bitAt v 31 ∧ bits old 8 0 ≠ bits v 8 0 then
      State.setF { s with clk.gcFrom := tput 0 s.clk.gcFrom j (bits old 8 0 + 1) } F.gcCtl_switching 0 j 1
    else s

/-- Write GC_CTL: while SWITCHING, the write is held until the switch ends (R441, R443). -/
def State.writeGcCtl (s : State) (j v : Nat) : State :=
  if s.flag F.gcCtl_switching 0 j then
    (if Rg.gcCtl.okWrite v then { s with clk.gcHeld := tput 0 s.clk.gcHeld j (v + 1) } else s)
  else s.applyGc j v

/-- The first new edge of a net is delivered: SWITCHING clears, and a held write is carried out (R441). -/
def State.gcDone (s : State) (j : Nat) : State :=
  if !s.flag F.gcCtl_switching 0 j then s
  else
    let held := tget 0 s.clk.gcHeld j
    let s := s.setF F.gcCtl_switching 0 j 0
    let s := { s with clk.gcFrom := tput 0 s.clk.gcFrom j 0, clk.gcHeld := tput 0 s.clk.gcHeld j 0 }
    if held = 0 then s else s.applyGc j (held - 1)

/-! ### Leaf gates (R443) -/

/-- The tile is in a region that is not LIVE (R443, R474). -/
def State.notLive (s : State) (t : Nat) : Bool :=
  let r := tget 0 s.rgn.ofTile t
  decide (r ≠ 0) && decide (s.regionState (r - 1) ≠ 0)

/-- Why a write of LEAF_GATE is refused: BUSY for a region that is not LIVE, BAD_COMMAND for a gate under an off net (R443). -/
def State.leafCheck (s : State) (t v : Nat) : Option Nat :=
  let old := s.reg .leafGate 0 t
  if s.notLive t then some 0x15
  else if (List.range 8).any (fun i => bitAt v i && !bitAt old i && !(decide (s.leafNet t i < 64) && s.flag F.gcCtl_enable 0 (s.leafNet t i)))
  then some 0x10 else none

def State.writeLeaf (s : State) (t v : Nat) : State :=
  if (s.leafCheck t v).isSome then s else s.setReg .leafGate 0 t (v % 256)

/-! ### The carrier domain (R438–R440) -/

/-- The carrier PLL's input is switched, or the switch is held: the latest request alone is kept (R438). The domain stops for
the switch, so the timekeeper PLL enters holdover (R428). -/
def State.carRequest (s : State) (c : Nat) : State :=
  match s.clk.car with
  | some _ => { s with clk.carHeld := some c }
  | none =>
    if s.getF F.carStatus_active 0 0 = c then s
    else
      let s := { s with clk.car := some (s.getF F.carStatus_active 0 0, c), tmr.holdover := true }
      ((s.setF F.carStatus_switching 0 0 1).setF F.carStatus_locked 0 0 0).updHoldover

/-- A carrier switch ends: the domain runs from the new input; after a fallback it stays in holdover (R428, R438, R441). -/
def State.carDone (s : State) : State :=
  match s.clk.car with
  | none => s
  | some (_, c) =>
    let held := s.clk.carHeld
    let s := { s with clk.car := none, clk.carHeld := none }
    let s := (s.setF F.carStatus_active 0 0 c).setF F.carStatus_onHold 0 0 (b2n (c = 0x28))
    let s := (s.setF F.carStatus_switching 0 0 0).setF F.carStatus_locked 0 0 1
    let s := { s with tmr.holdover := decide (c = 0x28 ∧ s.getF F.carCtl_sel 0 0 ≠ 0x28) }
    let s := s.updHoldover
    match held with
    | none => s
    | some c' => s.carRequest c'

/-- LOS or LOL asserts on lane l: when the carrier follows it, the input switches to HOLDCLK, the switch is counted and an alarm
is latched (R438). -/
def State.carrierLost (s : State) (l : Nat) : State :=
  let cur := match s.clk.car with
    | some (_, c) => c
    | none => s.getF F.carStatus_active 0 0
  if s.getF F.carCtl_sel 0 0 = 0x100 + l ∧ cur = 0x100 + l then
    State.alarm (State.count (s.carRequest 0x28) F.carStatus_fallbacks 0 0 1) 255 0x16 ((0x100 + l) * 256) 0 (srcOf .clk 0)
  else s

/-- Write CAR_CTL: SEL requests a switch (R438). -/
def State.writeCarCtl (s : State) (v : Nat) : State :=
  if !Rg.carCtl.okWrite v then s else State.carRequest (s.setReg .carCtl 0 0 (Rg.carCtl.written (s.reg .carCtl 0 0) v)) (bits v 24 16)

/-! ### Frequency counters (R444) -/

/-- Write FC_CTL: START begins a count, or restarts it (R444). -/
def State.writeFcCtl (s : State) (c v : Nat) : State :=
  if !Rg.fcCtl.okWrite v then s
  else
    let s := s.setReg .fcCtl 0 c (Rg.fcCtl.written (s.reg .fcCtl 0 c) v)
    if bitAt v 31 then (s.setF F.fcCtl_busy 0 c 1).setF F.fcCtl_done 0 c 0 else s

/-! ### Events of the clocks -/

/-- CARRIER_REVERT: with REVERT = 1 the selected lane's LOS and LOL have stayed clear for WTR seconds (R438). -/
def execCarrierRevert (s : State) : Out :=
  let l := s.getF F.carCtl_sel 0 0 - 0x100
  .next (if s.flag F.carCtl_revert 0 0 && decide (0x100 ≤ s.getF F.carCtl_sel 0 0) && s.flag F.carStatus_onHold 0 0 &&
      !s.flag F.lnState_los (l / 4) (l % 4) && !s.flag F.lnState_lol (l / 4) (l % 4)
    then s.carRequest (s.getF F.carCtl_sel 0 0) else s)

/-- CLOCK_SWITCH_DONE: a global net, or the carrier domain (none), delivers its first new edge (R441). -/
def execClockSwitchDone (net : Option GNet) (s : State) : Out :=
  .next (match net with | some j => s.gcDone j | none => s.carDone)

/-- SWITCH_FORCED: the old source delivers no edge for 1 µs (R441). The carrier domain has no FORCED bit. -/
def execSwitchForced (net : Option GNet) (s : State) : Out :=
  .next (match net with
    | some j => if s.flag F.gcCtl_switching 0 j then s.setF F.gcCtl_forced 0 j 1 else s
    | none => s)

/-- SY_LOCK: an enabled synthesizer locks (R436). -/
def execSyLock (k : Synth) (s : State) : Out := .next (if s.flag F.syCtl_enable 0 k then s.setF F.syStatus_lock 0 k 1 else s)

/-- SY_UNLOCK: LOCK clears, the loss is counted and ALARM is set (R437). -/
def execSyUnlock (k : Synth) (s : State) : Out :=
  .next (if s.flag F.syCtl_enable 0 k && s.flag F.syStatus_lock 0 k then
      State.alarm (State.count (s.setF F.syStatus_lock 0 k 0) F.syStatus_unlocks 0 k 1) 255 0x15 (k * 256) 0 (srcOf .clk 0)
    else s)

/-- FC_GATE_END: FC_COUNT loads, BUSY clears, DONE is set, EV is raised when enabled (R444); CLOCK_MEASURE is answered (R486). -/
def execFcGateEnd (c : FCtr) (n : BitVec 40) (s : State) : Out :=
  .next (if !s.flag F.fcCtl_busy 0 c then s
    else
      let s := (s.setReg .fcCountLo 0 c (n.toNat % 2 ^ 32)).setReg .fcCountHi 0 c (n.toNat / 2 ^ 32)
      let s := (s.setF F.fcCtl_busy 0 c 0).setF F.fcCtl_done 0 c 1
      let s := if s.flag F.fcCtl_evEn 0 c then s.raiseEv 0 0 (s.getF F.fcCtl_ev 0 c) else s
      s.finishOps c [0x604] 0 n.toNat 0 (leBytes 8 n.toNat))

/-! ### Group 0x06 (R486, R487) -/

/-- The registers of a list of names and index counts, 4 bytes each. -/
def State.regBytes (s : State) (l : List (Rg × Nat)) : List Byte := (l.map (fun p => leBytes 4 (p.1.readable (s.reg p.1 0 p.2)))).flatten

def cmdClockStatus : Body := fun c s =>
  (s, .done 0 (s.regBytes (
    match c.num 0 1 with
    | 0 => [(.carCtl, 0), (.carStatus, 0)] ++ (List.range 9).map (fun i => (.refHz, i))
    | 1 => ((List.range 32).map (fun k => [(Rg.syCtl, k), (.syFrac, k), (.syStatus, k)])).flatten
    | 2 => (List.range 64).map (fun j => (.gcCtl, j))
    | _ => ((List.range 8).map (fun k => [(Rg.fcCtl, k), (.fcSrc, k), (.fcCountLo, k), (.fcCountHi, k)])).flatten)))

/-- The SY_CTL word of an entry. -/
def PlanEntry.syWord (e : PlanEntry) : Nat := e.en * 2 ^ 31 + e.src * 2 ^ 22 + e.od * 2 ^ 12 + e.n

/-- Apply one entry, or say why it is refused (R487): an enabled synthesizer is retuned as R437 requires when no child is on. -/
def State.planStep (s : State) (e : PlanEntry) : State × Option Nat :=
  if e.node = 0 then
    let old := s.reg .syCtl 0 e.idx
    let retune := bitAt old 31 && (decide (bits old 30 0 ≠ bits e.syWord 30 0) || decide (s.getF F.syFrac_f 0 e.idx ≠ e.f))
    if retune && s.syChild e.idx then (s, some 0x16)
    else
      let s := if retune then s.writeSyCtl e.idx (bits old 30 0) else s
      match s.syCheck e.idx e.syWord e.f with
      | some c => (s, some c)
      | none =>
        let s := if s.flag F.syCtl_enable 0 e.idx then s else s.setReg .syFrac 0 e.idx e.f
        (s.writeSyCtl e.idx e.syWord, none)
  else
    let v := e.en * 2 ^ 31 + bits (s.reg .gcCtl 0 e.idx) 25 16 * 2 ^ 16 + e.src
    if s.flag F.gcCtl_switching 0 e.idx then (s.writeGcCtl e.idx v, none)
    else match s.gcCheck e.idx v with
      | some c => (s, some c)
      | none => (s.writeGcCtl e.idx v, none)

/-- Apply the entries in order; the first refusal stops with its code and place. -/
def State.planRun (s : State) : List PlanEntry → Except (Nat × Nat) State
  | [] => .ok s
  | e :: l =>
    match s.planStep e with
    | (_, some c) => .error (c, e.at')
    | (s', none) => s'.planRun l

/-- Tree order (R487): nets off, synthesizers off, synthesizers on, nets on. -/
def planOrder (l : List PlanEntry) : List PlanEntry :=
  l.filter (fun e => e.node = 1 && e.en = 0) ++ l.filter (fun e => e.node = 0 && e.en = 0) ++
  l.filter (fun e => e.node = 0 && e.en = 1) ++ l.filter (fun e => e.node = 1 && e.en = 1)

def cmdClockPlan : Body := fun c s =>
  let n := c.num 0 1
  match (List.range n).find? (fun i => !planOk c.pay 16 i) with
  | some i => (s, .done 0x10 (leBytes 1 i))
  | none =>
    if c.tenant ≠ 0 then refuse s 0x12
    else
      match s.planRun (planOrder ((List.range n).map (planEntry c.pay 16))) with
      | .ok s' => (s', .done 0 [])
      | .error (code, i) => (s, .done code (leBytes 1 i))

def cmdClockSelect : Body := fun c s =>
  if c.tenant ≠ 0 then refuse s 0x12
  else (s.writeCarCtl (c.num 3 1 * 2 ^ 31 + c.num 2 1 * 2 ^ 28 + c.num 0 2 * 2 ^ 16 + c.num 4 2), .done 0 [])

def cmdClockGate : Body := fun c s =>
  let i := c.num 2 2
  let on := c.num 5 1
  match c.num 0 1 with
  | 0 =>
    if c.tenant ≠ 0 then refuse s 0x12
    else
      let v := on * 2 ^ 31 + bits (s.reg .syCtl 0 i) 30 0
      match s.syCheck i v (s.getF F.syFrac_f 0 i) with
      | some code => refuse s code
      | none => (s.writeSyCtl i v, .done 0 [])
  | 1 =>
    if c.tenant ≠ 0 then refuse s 0x12
    else
      let w := if tget 0 s.clk.gcHeld i = 0 then s.reg .gcCtl 0 i else tget 0 s.clk.gcHeld i - 1
      let v := on * 2 ^ 31 + bits w 25 16 * 2 ^ 16 + bits w 8 0
      match (if s.flag F.gcCtl_switching 0 i then none else s.gcCheck i v) with
      | some code => refuse s code
      | none => (s.writeGcCtl i v, .done 0 [])
  | _ =>
    if c.tenant ≠ 0 ∧ c.tenant ≠ s.tileTenant i then refuse s 0x12
    else
      let v := setBits (s.reg .leafGate 0 i) (c.num 4 1) (c.num 4 1) on
      match s.leafCheck i v with
      | some code => refuse s code
      | none => (s.writeLeaf i v, .done 0 [])

def cmdClockMeasure : Body := fun c s =>
  match (List.range 8).find? (fun k => !s.flag F.fcCtl_busy 0 k) with
  | none => refuse s 0x15
  | some k =>
    let hz := if c.num 0 2 < 0x20 then
        s.srcHz (s.getF F.syCtl_src 0 (c.num 0 2)) * (s.getF F.syCtl_n 0 (c.num 0 2) * 2 ^ 24 + s.getF F.syFrac_f 0 (c.num 0 2)) /
          (2 ^ 24 * s.getF F.syCtl_od 0 (c.num 0 2))
      else s.srcHz (c.num 0 2)
    let s := s.setReg .fcSrc 0 k (c.num 0 2 * 65536 + c.num 2 2)
    let s := (s.setF F.fcCtl_n 0 k (c.num 4 1)).setF F.fcCtl_busy 0 k 1
    let s := s.setF F.fcCtl_done 0 k 0
    if decide (2 ^ c.num 4 1 * 1000 ≤ hz) then (s.addWait (c.op k []), .wait) else (s, .accepted (c.op k []))

/-- CLOCK_STATUS (R486). -/
def execClockStatus (p : Port) (m : Mbox) (s : State) : Out := .next (takeMailbox 0x0600 cmdClockStatus p m s)
/-- CLOCK_PLAN (R487). -/
def execClockPlan (p : Port) (m : Mbox) (s : State) : Out := .next (takeMailbox 0x0601 cmdClockPlan p m s)
/-- CLOCK_SELECT (R438, R486). -/
def execClockSelect (p : Port) (m : Mbox) (s : State) : Out := .next (takeMailbox 0x0602 cmdClockSelect p m s)
/-- CLOCK_GATE (R443, R486). -/
def execClockGate (p : Port) (m : Mbox) (s : State) : Out := .next (takeMailbox 0x0603 cmdClockGate p m s)
/-- CLOCK_MEASURE (R444, R486). -/
def execClockMeasure (p : Port) (m : Mbox) (s : State) : Out := .next (takeMailbox 0x0604 cmdClockMeasure p m s)

end Sys2Proof.Machine
end

