-- ==== Sys2Proof/Machine/Settings.lean ====
section
/-! DEFINITION. Settings memory and defaults (22_settings_memory.md, R495–R503, R538) with the group 0x07 commands (R488). -/

namespace Sys2Proof.Machine

/-! ### Copies and records (R495–R497) -/

/-- Records of a copy, in strictly ascending order of TYPE and INSTANCE after `prev`, each well formed (R496). Fuel bounds the
number of records. -/
def parseRecs : Nat → Int → List Byte → Option (List SRec)
  | 0, _, l => if l.isEmpty then some [] else none
  | f + 1, prev, l =>
    if l.isEmpty then some []
    else
      let ty := leAt l 0 2
      let inst := leAt l 2 2
      let n := leAt l 4 2
      let pad := (4 - n % 4) % 4
      if l.length < 8 + n + pad ∨ n < 1 ∨ 488 < n ∨ leAt l 6 2 ≠ 0 ∨ leAt l (8 + n) pad ≠ 0 ∨ ((ty * 65536 + inst : Nat) : Int) ≤ prev then none
      else (parseRecs f ((ty * 65536 + inst : Nat) : Int) (l.drop (8 + n + pad))).map (fun t => ⟨ty, inst, slice 0#8 l 8 n⟩ :: t)

/-- A copy's SEQ and records, when it is valid (R495, R496). -/
def parseCopy (l : List Byte) : Option (Nat × List SRec) :=
  let n := leAt l 8 4
  if leAt l 0 4 ≠ 0x5A530001 ∨ 65520 < n ∨ n % 4 ≠ 0 ∨ l.length < 16 + n then none
  else
    let body := (l.drop 16).take n
    if leAt l 12 4 ≠ crc32 (l.take 12 ++ body) then none
    else (parseRecs n (-1) body).map (fun r => (leAt l 4 4, r))

/-- Bytes of a record in a copy: head, value, padding (R496). -/
def SRec.bytes (r : SRec) : Nat := 8 + r.val.length + (4 - r.val.length % 4) % 4

/-- SEQ a is later than SEQ b (R497). -/
def seqLater (a b : Nat) : Bool := let d := (a + 2 ^ 32 - b) % 2 ^ 32; decide (1 ≤ d) && decide (d ≤ 2 ^ 31 - 1)

/-- The copy that is adopted: the later one first, then the other; copy 0 first when neither is later (R497). -/
def chooseCopy (c0 c1 : List Byte) : Option (Nat × Nat × List SRec) :=
  let a := (parseCopy c0).map (fun p => (0, p.1, p.2))
  let b := (parseCopy c1).map (fun p => (1, p.1, p.2))
  if seqLater (leAt c1 4 4) (leAt c0 4 4) then b.orElse (fun _ => a) else a.orElse (fun _ => b)

/-! ### The catalogue (R501) -/

/-- A TYPE that any tenant may read (R501). -/
def recAny (t : Nat) : Bool := [0x0001, 0x0004, 0x0010, 0x0011, 0x0012, 0x0013, 0x0014, 0x0015, 0x0030, 0x0031, 0x0040].contains t

/-- A record whose effect is "commit": immediate (R501). -/
def recImmediate (t : Nat) : Bool := [0x0001, 0x0005, 0x0030, 0x0060, 0x0070].contains t

/-- The values of R501's Default column; a default of "none" is the empty value. -/
def recDefault (t : Nat) : List Byte :=
  match t with
  | 0x0001 => leBytes 4 0 ++ leBytes 4 2000
  | 0x0002 => [0]
  | 0x0003 => [1]
  | 0x0004 => [2, 1]
  | 0x0005 => leBytes 4 100
  | 0x0006 => [0x5A]
  | 0x0010 => List.replicate 5 0
  | 0x0011 => List.replicate 48 0
  | 0x0012 => List.replicate 32 0
  | 0x0013 => List.replicate 64 0
  | 0x0020 => List.replicate 20 0
  | 0x0021 => [2]
  | 0x0025 => [0]
  | 0x0040 => [0, 255, 0, 0] ++ leBytes 4 0x1A36E3 ++ leBytes 4 0x3E8 ++ [0, 1, 0, 0] ++ leBytes 4 0 ++ leBytes 4 0x64
  | 0x0041 => List.replicate 8 0
  | 0x0050 => ((List.range 8).map (fun _ => leBytes 4 156250000)).flatten ++ leBytes 4 20000000
  | 0x0051 => leBytes 2 0x28 ++ [1, 0] ++ leBytes 2 0x12C
  | 0x0052 => [0, 0, 0, 0] ++ leBytes 2 0x28 ++ leBytes 2 4 ++ [16, 0, 0, 0] ++ leBytes 4 0
  | 0x0060 => leBytes 8 3600000000 ++ leBytes 8 1000 ++ leBytes 8 600000000 ++ leBytes 8 86400000000 ++ leBytes 8 2592000000000
  | 0x0070 => List.replicate 8 0
  | _ => []

/-- The default of a TYPE and INSTANCE: a synthesizer entry names its own index; a delay override defaults to the factory set
measured at assembly (R319). -/
def defaultVal (t i : Nat) : List Byte :=
  if t = 0x0052 then (recDefault t).set 1 (BitVec.ofNat 8 i)
  else if t = 0x0022 then
    ((List.range 160).map (fun k => leBytes 2 (Config.factoryDelay (i / 24) (i / 8 % 3) (160 * (i % 8) + k)).toNat)).flatten
  else recDefault t

/-- A record's value in a list of accepted records. -/
def findRec (l : List SRec) (t i : Nat) : Option (List Byte) := (l.find? (fun r => r.type = t && r.inst = i)).map (·.val)

/-- The value in force: the accepted record, or the factory default (R498). -/
def valIn (l : List SRec) (t i : Nat) : List Byte := (findRec l t i).getD (defaultVal t i)

/-- Every byte of a list is at most n. -/
def bytesLe (l : List Byte) (n : Nat) : Bool := l.all (fun b => b.toNat ≤ n)

/-- Tenant-window entries obey R333: in the stack, apart from one another and from the carve-out of C units. -/
def twinOk (v : List Byte) (carve : Nat) : Bool :=
  let n := v.length / 8
  let e (i : Nat) : Nat × Nat := (leAt v (8 * i) 2, leAt v (8 * i + 2) 2)
  v.length % 8 = 0 && decide (n ≤ 16) &&
  (List.range n).all (fun i =>
    decide ((e i).1 ≤ 383) && decide (1 ≤ (e i).2) && decide ((e i).1 + (e i).2 ≤ 384 - carve) && decide (leAt v (8 * i + 4) 1 ≤ 7) &&
    decide (leAt v (8 * i + 5) 1 ≤ 1) && decide (leAt v (8 * i + 6) 2 ≤ 1023) &&
    (List.range i).all (fun j => decide ((e i).1 + (e i).2 ≤ (e j).1) || decide ((e j).1 + (e j).2 ≤ (e i).1)))

/-- The value of a record obeys its layout and ranges (R498, R501). `l` gives the records it depends on: the carve-out (0x0025)
and the reference frequencies (0x0050). -/
def recOk (l : List SRec) (t i : Nat) (v : List Byte) : Bool :=
  let b (o : Nat) : Nat := leAt v o 1
  match t with
  | 0x0001 => v.length = 8 && decide (b 0 ≤ 2) && leAt v 1 3 = 0 && decide (10 ≤ leAt v 4 4) && decide (leAt v 4 4 ≤ 60000)
  | 0x0002 => v.length = 1 && decide (b 0 ≤ 2)
  | 0x0003 => v.length = 1 && decide (b 0 ≤ 1)
  | 0x0004 => v.length = 2 && decide (b 0 ≤ 2) && decide (b 1 ≤ 1)
  | 0x0005 => v.length = 4 && decide (10 ≤ leAt v 0 4) && decide (leAt v 0 4 ≤ 10000)
  | 0x0006 => v.length = 1 && decide (0x08 ≤ b 0) && decide (b 0 ≤ 0x77)
  | 0x0010 => v.length = 5 && bytesLe v 7
  | 0x0011 => v.length = 48 && bytesLe v 7
  | 0x0012 => v.length = 32 && bytesLe v 7
  | 0x0013 => v.length = 64 && bytesLe v 7
  | 0x0014 => twinOk v (leAt (valIn l 0x0025 i) 0 1)
  | 0x0015 => v.length = 64 && (List.range 16).all (fun k => decide (leAt v (4 * k) 2 < 0x8000) && decide (b (4 * k + 2) ≤ 1) && b (4 * k + 3) = 0)
  | 0x0020 => v.length = 20 && decide (b 0 ≤ 1) && decide (b 1 ≤ 3) &&
      (List.range 9).all (fun k => decide (leAt v (2 + 2 * k) 2 < 2 ^ 15) &&
        decide (((List.range 15).filter (fun n => bitAt (leAt v (2 + 2 * k) 2) n)).length ≤ 8))
  | 0x0021 => v.length = 1 && decide (b 0 ≤ 2)
  | 0x0022 => v.length = 320
  | 0x0023 => v.length = 8 && (List.range 4).all (fun k => bits (b (2 * k)) 6 4 = 0 && decide (b (2 * k + 1) ≤ 15))
  | 0x0024 => v.length = 32 && (List.range 8).all (fun k => decide (leAt v (4 * k) 2 + leAt v (4 * k + 2) 2 ≤ 1536))
  | 0x0025 => v.length = 1 && decide (b 0 ≤ 48)
  | 0x0030 => profileOk v
  | 0x0031 => v.length = 8 && (List.range 4).all (fun k => decide (leAt v (2 * k) 2 ≤ 255) || leAt v (2 * k) 2 = 0xFFFF)
  | 0x0040 => v.length = 24 && decide (b 0 ≤ 1) && decide (leAt v 4 4 < 2 ^ 24) && decide (b 12 ≤ 1) && decide (b 13 ≤ 1) && leAt v 14 2 = 0 &&
      decide (leAt v 16 4 ≤ 999999999) && decide (1 ≤ leAt v 20 4) && decide (leAt v 20 4 ≤ 999999)
  | 0x0041 => v.length = 8
  | 0x0050 => v.length = 36 && (List.range 9).all (fun k => decide (10000000 ≤ leAt v (4 * k) 4) &&
      decide (leAt v (4 * k) 4 ≤ (if k = 8 then 100000000 else 400000000)))
  | 0x0051 => v.length = 6 && Rg.carCtl.okWrite (b 3 * 2 ^ 31 + b 2 * 2 ^ 28 + leAt v 0 2 * 65536 + leAt v 4 2) && decide (b 3 ≤ 1) &&
      decide (b 2 ≤ 2) && decide (leAt v 0 2 < 512)
  | 0x0052 => v.length = 16 && planOk v 0 0 && b 0 = 0 && b 1 = i &&
      (b 2 = 0 || syFreqOk (if leAt v 4 2 = 0x29 then 156250000 else leAt (valIn l 0x0050 0) (4 * (leAt v 4 2 - 0x20)) 4) (b 8) (leAt v 12 4) (leAt v 6 2))
  | 0x0060 => v.length = 40 && (List.range 5).all (fun k => istOk k (leAt v (8 * k) 8))
  | 0x0070 => decide (b 1 ≤ 48) && v.length = 8 + 9 * b 1 && decide (b 0 ≤ 1) && leAt v 2 6 = 0 &&
      (List.range (b 1)).all (fun k => decide (b (8 + 9 * k + 8) ≤ 1))
  | _ => false

/-- The accepted records of a copy: TYPE and INSTANCE in the catalogue, values in range, and a delay override only when all eight
of its parts are there (R498). -/
def accepted (raw : List SRec) : List SRec :=
  let inCat (r : SRec) : Bool := match recInstances r.type with | some n => decide (r.inst < n) | none => false
  let pass1 := raw.filter (fun r => inCat r && decide (r.type ≠ 0x0014) && decide (r.type ≠ 0x0052) && recOk [] r.type r.inst r.val)
  let pass2 := raw.filter (fun r => inCat r && recOk pass1 r.type r.inst r.val)
  pass2.filter (fun r => r.type ≠ 0x0022 || (List.range 8).all (fun k => (findRec pass2 0x0022 (r.inst / 8 * 8 + k)).isSome))

/-! ### Values in force -/

/-- The value of a record that takes effect at its commit (R501). -/
def State.setting (s : State) (t i : Nat) : List Byte := valIn s.sett.recs t i

/-- The value of a record that takes effect at boot (R501). -/
def State.bootSetting (s : State) (t i : Nat) : List Byte := valIn s.sett.boot t i

/-- HUDDLE policy and timeout (R46). -/
def State.huddlePolicy (s : State) : Nat := leAt (s.setting 0x0001 0) 0 1

/-- Apply the in-service test record (R377, R483). -/
def State.applyIst (s : State) : State :=
  let v := s.setting 0x0060 0
  { s with ecc.period := (List.range 5).map (fun k => if leAt v (8 * k) 8 = 2 ^ 64 - 1 then leAt (recDefault 0x0060) (8 * k) 8 else leAt v (8 * k) 8) }

/-- Store a list of register values. -/
def State.setRegs (s : State) (l : List (Rg × Nat × Nat × Nat)) : State := l.foldl (fun s p => s.setReg p.1 p.2.1 p.2.2.1 p.2.2.2) s

/-- The registers that settings give at boot (R308–R310, R317, R327, R333, R339, R384, R412–R420, R433–R438, R454, R463, R501). -/
def State.applyBoot (s : State) : State :=
  let v : Nat → Nat → List Byte := s.bootSetting
  let s := iter 5 (fun p s => s.setF F.hpStatus_tenant p 0 (leAt (v 0x0010 0) p 1)) s
  let s := s.setReg .mpAddr 4 0 (leAt (v 0x0006 0) 0 1)
  let s := iter 4 (fun p s => iter 16 (fun k s =>
    s.setReg .hpXlat p k (leAt (v 0x0015 p) (4 * k + 2) 1 * 2 ^ 31 + leAt (v 0x0015 p) (4 * k) 2)) s) s
  let s := iter 48 (fun q s => s.setF F.quadCtl_tenant q 0 (leAt (v 0x0011 0) q 1)) s
  let s := iter 512 (fun c s => s.setF F.chCtl_tenant (c / 32) (c % 32) (leAt (v 0x0012 (c / 32)) (c % 32) 1)) s
  let s := iter 64 (fun r s => s.setF F.regionStatus_tenant 0 r (leAt (v 0x0013 0) r 1)) s
  let s := iter 4 (fun st s =>
    let tw := v 0x0014 st
    let s := iter (tw.length / 8) (fun w s =>
      (s.setReg .twinRange st w (leAt tw (8 * w + 2) 2 * 65536 + leAt tw (8 * w) 2)).setReg .twinCtl st w
        (2 ^ 31 + leAt tw (8 * w + 5) 1 * 2 ^ 30 + leAt tw (8 * w + 4) 1 * 2 ^ 27 + leAt tw (8 * w + 6) 2)) s
    let s := s.setF F.protStatus_carve st 0 (leAt (v 0x0025 st) 0 1)
    let s := s.setReg .hbmMap st 0 (leAt (v 0x0020 0) 0 1 * 2 ^ 31 + leAt (v 0x0020 0) 1 1)
    let s := iter 9 (fun k s => s.setReg .hbmXor st k (leAt (v 0x0020 0) (2 + 2 * k) 2)) s
    let s := iter 4 (fun j s =>
      let x := leAt (v 0x0023 st) (2 * j) 1
      if x = 0 ∧ leAt (v 0x0023 st) (2 * j + 1) 1 = 0 then s
      else ((s.setF F.hbmRt_en st j (x / 128)).setF F.hbmRt_port st j (x % 16)).setF F.hbmRt_threshold st j (leAt (v 0x0023 st) (2 * j + 1) 1)) s
    iter 8 (fun w s =>
      let sz := leAt (v 0x0024 0) (4 * w + 2) 2
      if sz = 0 then s else s.setReg .rcacheWin st w (2 ^ 31 + sz * 65536 + leAt (v 0x0024 0) (4 * w) 2)) s) s
  let t := v 0x0040 0
  let s := s.setRegs [(.timeCtl, 0, 0, leAt t 12 1 * 2 ^ 31 + leAt t 13 1 * 2 ^ 30 + leAt t 0 1 * 2 ^ 28 + leAt t 1 1 * 2 ^ 20 + leAt t 2 2),
    (.timeRateTh, 0, 0, leAt t 4 4), (.timeAdjTh, 0, 0, leAt t 8 4), (.ppsOffset, 0, 0, leAt t 16 4), (.ppsWidth, 0, 0, leAt t 20 4)]
  let s := s.sourceSet false
  let s := iter 192 (fun l s => s.setReg .slAsym 0 l (leAt (v 0x0041 (l / 4)) (2 * (l % 4)) 2)) s
  let s := iter 9 (fun k s => s.setReg .refHz 0 k (leAt (v 0x0050 0) (4 * k) 4)) s
  let c := v 0x0051 0
  let s := State.carRequest (s.setReg .carCtl 0 0 (leAt c 3 1 * 2 ^ 31 + leAt c 2 1 * 2 ^ 28 + leAt c 0 2 * 65536 + leAt c 4 2)) (leAt c 0 2)
  let s := iter 32 (fun k s =>
    let e := planEntry (v 0x0052 k) 0 0
    (s.setReg .syFrac 0 k e.f).setReg .syCtl 0 k e.syWord) s
  s.applyIst

/-! ### Relay views (R466, R468) -/

/-- The entries of the relay record: identifier, and whether the device is trusted. -/
def State.relayRecord (s : State) : List (Nat × Bool) :=
  (List.range 2).flatMap (fun i => (List.range (leAt (s.setting 0x0070 i) 1 1)).map (fun k =>
    (leAt (s.setting 0x0070 i) (8 + 9 * k) 8, bitAt (leAt (s.setting 0x0070 i) (16 + 9 * k) 1) 0)))

/-- The origin is trusted to act as T0 (R468). -/
def State.trusted (s : State) (id : Nat) : Bool := s.relayRecord.any (fun e => e.1 = id && e.2)

/-- The relay routes in order of hops and then identifier (R466). -/
def State.routeOrder (s : State) : List RelayRoute :=
  s.hosts.routes.mergeSort (fun a b => a.hops < b.hops || (a.hops = b.hops && a.dev ≤ b.dev))

/-- The relay view: the 63 nearest devices of the routes, or the devices of the relay record in fixed mode, with their hops (R466). A device of
the record without a route has hops 0. -/
def State.viewNow (s : State) : List (Nat × Nat) :=
  if leAt (s.setting 0x0070 0) 0 1 = 1 then
    (s.relayRecord.map (fun e => (e.1, ((s.hosts.routes.find? (fun r => r.dev = e.1)).map (·.hops)).getD 0))).take 63
  else (s.routeOrder.map (fun r => (r.dev, r.hops))).take 63

/-- Form the views again; each device that joined or left a port's view queues a RELAY_CHANGE event to that port (R466). -/
def State.viewUpdate (s : State) : State :=
  let v := s.viewNow
  iter 5 (fun p s =>
    let old := (s.port p).view
    let moved := (old.filter (fun e => !v.any (fun f => f.1 = e.1))) ++ (v.filter (fun e => !old.any (fun f => f.1 = e.1)))
    let s := s.setPort p { s.port p with view := v }
    moved.foldl (fun s e => s.queuePort p ⟨8, 0, s.portTenant p, srcOf .devctl 0, e.1, (s.keeper 0).sec, (s.keeper 0).sub / 2 ^ 32⟩) s) s

/-! ### Boot step 3 (R42, R434, R497–R499) -/

/-- Records of a copy that are ignored. -/
def ignored (raw : List SRec) : List SRec := raw.filter (fun r => !(accepted raw).contains r)

/-- SETTINGS_READ: the flash is missing, or the two copies as read; HOLDCLK measured within 1,000 ppm of its REF_HZ (R434, R494,
R497–R499). Step 3 ends and the device enters LOAD (R37, R42). -/
def execSettingsRead (missing : Bool) (c0 c1 : List Byte) (holdGood : Bool) (s : State) : Out :=
  .next (
    if s.pw.mode ≠ .boot ∨ s.pw.step ≠ 3 then s
    else
      let ch := if missing then none else chooseCopy c0 c1
      let area := match ch with | some (a, _, _) => some a | none => none
      let seq := match ch with | some (_, q, _) => q | none => 0
      let raw := match ch with | some (_, _, r) => r | none => []
      let acc := accepted raw
      let s := { s with sett := ⟨missing, area, seq, acc, acc, raw, [], none⟩ }
      let s := s.applyBoot
      let s := if missing then s.alarm 255 0x01 0 0 (srcOf .devctl 0) else if ch.isNone then s.alarm 255 0x02 0 0 (srcOf .devctl 0) else s
      let s := (ignored raw).foldl (fun s r => s.alarm 255 0x03 (r.inst * 65536 + r.type * 2 ^ 32) 0 (srcOf .devctl 0)) s
      let s := if holdGood then { (s.setF F.carStatus_locked 0 0 1) with clk.coreInt := false }
        else State.alarm (s.setF F.carStatus_holdBad 0 0 1) 255 0x17 0 0 (srcOf .clk 0)
      let s := { s with pw.step := 4 }
      s.viewUpdate.setMode .load)

/-! ### Group 0x07 (R488, R500, R538) -/

/-- The records as they will stand after a commit: the staged changes merged onto the adopted copy (R500). -/
def mergeRecs (raw : List SRec) (st : List (Nat × Nat × Option (List Byte))) : List SRec :=
  let kept := raw.filter (fun r => !st.any (fun q => q.1 = r.type && q.2.1 = r.inst))
  let new := st.filterMap (fun q => q.2.2.map (fun v => (⟨q.1, q.2.1, v⟩ : SRec)))
  (kept ++ new).mergeSort (fun a b => a.type * 65536 + a.inst ≤ b.type * 65536 + b.inst)

def State.merged (s : State) : List SRec := mergeRecs s.sett.raw s.sett.staged

/-- Record bytes of a copy (R495). -/
def copyBytes (l : List SRec) : Nat := (l.map SRec.bytes).sum

/-- Stage a change; a later one of the same TYPE and INSTANCE replaces it. -/
def stage (l : List (Nat × Nat × Option (List Byte))) (t i : Nat) (v : Option (List Byte)) : List (Nat × Nat × Option (List Byte)) :=
  l.filter (fun q => !(q.1 = t && q.2.1 = i)) ++ [(t, i, v)]

def cmdSettingsGet : Body := fun c s =>
  let t := c.num 0 2
  let i := c.num 2 2
  if c.tenant ≠ 0 ∧ !recAny t then refuse s 0x12
  else
    let v := if c.num 4 1 = 0 then s.setting t i
      else match s.sett.staged.find? (fun q => q.1 = t && q.2.1 = i) with
        | some (_, _, some v) => v
        | some (_, _, none) => defaultVal t i
        | none => s.setting t i
    (s, .done 0 (leBytes 2 v.length ++ List.replicate 6 0#8 ++ v))

def cmdSettingsPut : Body := fun c s =>
  let t := c.num 0 2
  let i := c.num 2 2
  let v := c.pay.drop 8
  if c.tenant ≠ 0 then refuse s 0x12
  else if !recOk (mergeRecs s.sett.recs s.sett.staged) t i v then refuse s 0x10
  else
    let st := stage s.sett.staged t i (some v)
    if 65520 < copyBytes (mergeRecs s.sett.raw st) then refuse s 0x11
    else ({ s with sett.staged := st }, .done 0 [])

def cmdSettingsDelete : Body := fun c s =>
  if c.tenant ≠ 0 then refuse s 0x12
  else ({ s with sett.staged := stage s.sett.staged (c.num 0 2) (c.num 2 2) none }, .done 0 [])

def cmdSettingsCommit : Body := fun c s =>
  if c.tenant ≠ 0 then refuse s 0x12
  else if s.sett.missing then refuse s 0xFF
  else if s.sett.commit.isSome then refuse s 0x15
  else ({ s with sett.commit := some s.merged }, .accepted (c.op 0 []))

def cmdSettingsDiscard : Body := fun c s =>
  if c.tenant ≠ 0 then refuse s 0x12 else ({ s with sett.staged := [] }, .done 0 [])

/-- Records that a new copy makes ignored, and the one before did not (R498, R499). -/
def newlyIgnored (old new : List SRec) : List SRec := (ignored new).filter (fun r => !(ignored old).contains r)

/-- SETTINGS_COMMIT_DONE: after the readback the new copy is adopted and immediate records take effect, or the adopted copy stays
and the operation ends with INTERNAL_ERROR (R500). A record that the new copy makes ignored latches its alarm (R499). Under factory defaults copy 0 is programmed with SEQ 1. -/
def execSettingsCommitDone (ok : Bool) (s : State) : Out :=
  .next (match s.sett.commit with
    | none => s
    | some l =>
      let old := s.sett.raw
      let s := { s with sett.commit := none }
      if !ok then s.finishOps 0 [0x703] 0xFF 0 0 []
      else
        let a := match s.sett.area with | none => 0 | some a => 1 - a
        let q := match s.sett.area with | none => 1 | some _ => (s.sett.seq + 1) % 2 ^ 32
        let s := { s with sett := { s.sett with area := some a, seq := q, recs := accepted l, raw := l, staged := s.sett.staged.filter (fun q => decide (findRec l q.1 q.2.1 ≠ q.2.2)) } }
        let s := s.applyIst.viewUpdate
        let s := (newlyIgnored old l).foldl (fun s r => s.alarm 255 0x03 (r.inst * 65536 + r.type * 2 ^ 32) 0 (srcOf .devctl 0)) s
        s.finishOps 0 [0x703] 0 0 0 [])

/-- SETTINGS_GET (R538). -/
def execSettingsGet (p : Port) (m : Mbox) (s : State) : Out := .next (takeMailbox 0x0700 cmdSettingsGet p m s)
/-- SETTINGS_PUT (R500). -/
def execSettingsPut (p : Port) (m : Mbox) (s : State) : Out := .next (takeMailbox 0x0701 cmdSettingsPut p m s)
/-- SETTINGS_DELETE (R488). -/
def execSettingsDelete (p : Port) (m : Mbox) (s : State) : Out := .next (takeMailbox 0x0702 cmdSettingsDelete p m s)
/-- SETTINGS_COMMIT (R500). -/
def execSettingsCommit (p : Port) (m : Mbox) (s : State) : Out := .next (takeMailbox 0x0703 cmdSettingsCommit p m s)
/-- SETTINGS_DISCARD (R488). -/
def execSettingsDiscard (p : Port) (m : Mbox) (s : State) : Out := .next (takeMailbox 0x0704 cmdSettingsDiscard p m s)

end Sys2Proof.Machine
end

