-- ==== Sys2Proof/Machine/Hbm.lean ====
section
/-! DEFINITION. The stack controllers: memory ports, scheduling, refresh, real-time ports, delays, rates, freeze and thaw
(13_hbm_controllers.md, R304–R326, R331), with the in-line protection engine's answers (14, R349). -/

namespace Sys2Proof.Machine

/-! ### Held requests -/

/-- HBM_STATUS.STATE: 0 INIT, 1 READY, 2 SELF_REFRESH, 3 FROZEN, 4 DISABLED (R331). -/
def State.hbmSt (s : State) (st : Nat) : Nat := s.getF F.hbmStatus_state st 0
def State.setHbmSt (s : State) (st v : Nat) : State := s.setF F.hbmStatus_state st 0 v

/-- Requests that a controller holds, oldest first (R306). -/
def State.hreqs (s : State) (st : Nat) : List HReq := tget [] s.hbm.reqs st
def State.setHreqs (s : State) (st : Nat) (l : List HReq) : State := { s with hbm.reqs := tput [] s.hbm.reqs st l }

/-- Two requests cover a byte in common (R313). -/
def HReq.overlaps (a b : HReq) : Bool := decide (a.loc < b.loc + b.req.size) && decide (b.loc < a.loc + a.req.size)

/-- A rate or band change is in progress on the stack (R320, R323). -/
def State.hchange (s : State) (st : Nat) : Option HChange := tget none s.hbm.change st
def State.setHchange (s : State) (st : Nat) (c : Option HChange) : State := { s with hbm.change := tput none s.hbm.change st c }

/-! ### The freeze record (R325) -/

/-- HBM_FREEZE of a cause and a failing location (R331). -/
def State.freezeWord (s : State) (st cause l : Nat) : Nat :=
  let x := s.hbmLoc st l
  cause * 2 ^ 29 + (if cause = 4 then 0 else x.pc * 2 ^ 24 + x.sid * 2 ^ 23 + x.bg * 2 ^ 21 + x.ba * 2 ^ 19 + x.col * 2 ^ 14)

/-! ### Responses (R314, R326, R349) -/

/-- Answer and drop a held request; more than 1 µs after its arrival OK becomes OK_DELAYED and is counted. A response that finds its request
given up is discarded as late (R184, R314). -/
def State.hanswer (s : State) (st : Nat) (h : HReq) (svc : Nat) (poison late : Bool) (data : List Byte) : State :=
  let s := s.setHreqs st ((s.hreqs st).filter (fun x => x.id ≠ h.id))
  if h.gone then s.count F.niErrors_lateRsp (niOf h.req.src) 0 1
  else
    let s := if late && decide (svc = 0) then s.count F.hbmCounts_delayed st 0 1 else s
    s.hsend h.req (if late && decide (svc = 0) then 1 else svc) poison data

/-! ### Freezing -/

/-- A freeze ends a change in progress: HBM_RATE receives MEM_FROZEN, and the band change waits for the thaw. DESIGN CHOICE (log entry 125): R324
states no freeze in the drain of a change. -/
def State.changeFrozen (s : State) (st : Nat) : State :=
  match s.hchange st with
  | none => s
  | some c =>
    let s := { s.setHchange st none with hbm.bandDue := tput false s.hbm.bandDue st (tget false s.hbm.bandDue st || c.band.isSome) }
    if c.rate.isSome then s.finishOps st [0x0311] 0x40 0 0 [] else s

/-- The controller freezes: cause and location are recorded, accesses issued return to the queue, DEGRADED and ALARM are set, and an
alarm event names the stack. One that is being disabled answers what it holds TARGET_FROZEN (R53, R325, R534). -/
def State.hbmFreeze (s : State) (st cause l : Nat) : State :=
  let w := s.freezeWord st cause l
  let s := s.changeFrozen st
  let s := s.setHreqs st ((s.hreqs st).map (fun h => if h.phase = 1 then { h with phase := 0 } else h))
  let s := (s.setReg .hbmFreeze st 0 w).setF F.hbmFreezeRow_row st 0 (if cause = 4 then 0 else (s.hbmLoc st l).row)
  let s := if s.flag F.hbmCtl_enable st 0 then s.setHbmSt st 3
    else State.setHbmSt ((s.hreqs st).foldl (fun s h => s.hanswer st h svcFrozen false false []) s) st 4
  let s := s.setDegr st true
  s.alarm 255 0x0B (st * 256 + w * 2 ^ 32) 0 (srcOf .hbm st)

/-- A held request answered POISONED at a thaw. What a failed read returned is not stated: its data is free (R326). -/
def State.hpoison (s : State) (st : Nat) (h : HReq) : State :=
  let n := if h.req.op = .write then 0 else h.req.size
  let data := (List.range n).map (fun i => (Config.freeWord (s.free + i)).setWidth 8)
  State.hanswer { s with free := s.free + n } st h 5 true false data

/-! ### Memory ports (R306, R307, R311) -/

/-- The DMA channel that an enable, disable or rebuild of a protected window names issued the request (R345, R347, R351). -/
def State.fromChan (s : State) (r : Req) (c : Option Nat) : Bool :=
  match c, s.findOut r.src r.sport r.tag r.gen with
  | some ch, some o => (match o.who with | .dma k _ _ _ _ => k = ch | _ => false)
  | _, _ => false

/-- What the protected window at an address answers a request that holds the right (R345, R347, R351, R352). -/
def State.pwinCode (s : State) (st l : Nat) (r : Req) : Option Nat :=
  match s.pwinAt st (unitOf l) with
  | none => none
  | some i =>
    let k := s.getF F.pwinCtl_state st i
    let named := s.fromChan r (s.pwin (16 * st + i)).chan
    let under := (linePieces l r.size).any (fun q => s.underFault st i (s.lineOf st i q.2.1))
    if k = 4 then some svcIntegrity
    else if (k = 1 ∨ k = 5 ∨ (k = 3 ∧ under)) ∧ !named then some svcFenced
    else none

/-- The code with which a memory port refuses a request, in the order of R31; none: it is accepted (R306, R325, R334). -/
def State.portRefuses (s : State) (st l : Nat) (r : Req) : Option Nat :=
  if r.op = .invalidate then some svcAddress
  else if !s.protGrant st r.rq r.op l then some svcDenied
  else match s.pwinCode st l r with
    | some c => some c
    | none =>
      let k := s.hbmSt st
      if k = 3 then some svcFrozen
      else if k = 0 ∨ k = 4 then some svcBusy
      else if 64 ≤ ((s.hreqs st).filter (fun h => h.pc = (s.hbmLoc st l).pc)).length then some svcBusy
      else none

/-- MEMORY_PORT_REQUEST: a request reaches its memory port: refused at once, or held in its pseudo-channel's queue (R306). -/
def execMemoryPortRequest (r : Req) (s : State) : Out :=
  .next (
    if !s.net.reqs.contains r ∨ r.dst < 1024 ∨ 0x1800000000 ≤ r.addr then s
    else if !r.crcOk then State.respond (State.count (s.takeReq r) F.niErrors_crcFails (niOf r.dst) 0 1) r svcPoisoned []
    else
      let (st, l) := s.hbmLocal r.addr
      match s.portRefuses st l r with
      | some c => State.respond (s.takeReq r) r c []
      | none =>
        let h : HReq := ⟨s.hbm.nextId, r, (s.hbmLoc st l).pc, l, 0, false, false, false, 0, 0, [], false, false⟩
        let s := s.takeReq r
        State.setHreqs { s with hbm.nextId := s.hbm.nextId + 1 } st (s.hreqs st ++ [h]))

/-! ### Scheduling (R312, R313, R316, R317) -/

/-- Real-time slot j of a stack is in panic (R317). -/
def State.panicSlot (s : State) (st j : Nat) : Bool :=
  s.flag F.hbmRt_en st j && decide (s.getF F.hbmRt_level st j ≤ s.getF F.hbmRt_threshold st j)
def State.panic (s : State) (st : Nat) : Bool := (List.range 4).any (s.panicSlot st)

/-- The request is real-time, on a port in panic (R312). -/
def State.urgent (s : State) (st : Nat) (h : HReq) : Bool :=
  h.req.rt && (List.range 4).any (fun j => s.panicSlot st j && decide (s.getF F.hbmRt_port st j = h.pc / 2))

/-- Key of a bank: SID, BG and BA of a pseudo-channel (R305). -/
def bankKey (st : Nat) (x : Loc) : Nat := (st * 32 + x.pc) * 32 + x.sid * 16 + x.bg * 4 + x.ba
def State.bankOf (s : State) (st l : Nat) : Nat := bankKey st (s.hbmLoc st l)

/-- The request hits the open row of its bank. -/
def State.rowHit (s : State) (st l : Nat) : Bool := decide (tget 0 s.hbm.rows (s.bankOf st l) = (s.hbmLoc st l).row + 1)

/-- Queued requests of a pseudo-channel with no earlier request on a common byte (R313). -/
def eligible (pc : Nat) : List HReq → List HReq → List HReq
  | _, [] => []
  | before, h :: t =>
    let ok := decide (h.pc = pc) && decide (h.phase = 0) && before.all (fun b => !(decide (b.phase ≤ 1) && b.overlaps h))
    if ok then h :: eligible pc (before ++ [h]) t else eligible pc (before ++ [h]) t

/-- Writes take precedence from 32 of the queue's entries until 8 remain (R312). -/
def State.writesFirst (s : State) (st pc : Nat) : Bool :=
  let n := ((s.hreqs st).filter (fun h => decide (h.pc = pc) && decide (h.req.op = .write))).length
  if 32 ≤ n then true else if n ≤ 8 then false else tget false s.hbm.wmode (st * 32 + pc)

/-- Reads or writes as they take precedence, row hits first, oldest first (R312). -/
def State.hbmNext (s : State) (st pc : Nat) (l : List HReq) : Option HReq :=
  let w := s.writesFirst st pc
  let m := l.filter (fun h => decide (h.req.op = .write) = w)
  let m := if m.isEmpty then l else m
  (m.find? (fun h => s.rowHit st h.loc)).or m.head?

/-- The scheduler's choice: what a thaw found held in its arrival order; real-time in panic; waiting 1 µs or more; then the others (R312, R326). -/
def State.hbmPick (s : State) (st pc : Nat) : Option HReq :=
  let l := eligible pc [] (s.hreqs st)
  (((l.find? (·.first)).or (l.find? (s.urgent st))).or (l.find? (·.late))).or (s.hbmNext st pc l)

/-- Rows that a neighbor refresh of a row refreshes; one RFM command where the stack supports it (R316). -/
def neighborRows (rfm : Bool) (row : Nat) : List Nat :=
  if rfm then [0x7FFF] else (if row = 0 then [] else [row - 1]) ++ (if row = 24575 then [] else [row + 1])

/-- Open the row of an access; an activate draws, with probability 2^−K, a neighbor refresh of its bank (R316). -/
def State.activate (s : State) (st l : Nat) : State :=
  if s.rowHit st l then s
  else
    let b := s.bankOf st l
    let row := (s.hbmLoc st l).row
    let hit := decide ((Config.freeDraw s.free).toNat % 2 ^ s.getF F.hbmDisturb_k st 0 = 0)
    { s with
      free := s.free + 1
      hbm.rows := tput 0 s.hbm.rows b (row + 1)
      hbm.nbr := if hit then tput [] s.hbm.nbr b (neighborRows (s.flag F.hbmDisturb_rfm st 0) row) else s.hbm.nbr }

/-- The stack refreshes itself: during a rate or band change, and in REST (R39, R315, R320, R323). -/
def State.selfRefresh (s : State) (st : Nat) : Bool :=
  (s.hchange st).isSome || decide (s.hbmSt st = 2) || (decide (s.pw.mode = .rest) && decide (s.hbmSt st = 4))

/-- The banks of a stack are precharged: no row is open (R323). -/
def State.precharge (s : State) (st : Nat) : State := { s with hbm.rows := s.hbm.rows.filter (fun e => decide (e.1 / 1024 ≠ st)) }

/-- The controller issues accesses: READY, or DISABLED with accepted requests still to finish, outside self-refresh (R53, R323, R325). -/
def State.hbmRuns (s : State) (st : Nat) : Bool := decide (s.hbmSt st = 1 ∨ s.hbmSt st = 4) && !s.selfRefresh st

/-- HBM_SCHEDULE: the next request of pseudo-channel `pc` is chosen and its access issued. `late` names the requests that have waited
1 µs or more (R312). -/
def execHbmSchedule (st : Die) (pc : Fin 32) (late : List Nat) (s : State) : Out :=
  .next (if !s.hbmRuns st then s else
    let s := s.setHreqs st ((s.hreqs st).map (fun h => if late.contains h.id then { h with late := true } else h))
    let s := { s with hbm.wmode := tput false s.hbm.wmode (st.val * 32 + pc.val) (s.writesFirst st pc) }
    match s.hbmPick st pc with
    | none => s
    | some h =>
      State.activate (s.setHreqs st ((s.hreqs st).map (fun x => if x.id = h.id then { x with phase := 1 } else x))) st h.loc)

/-- ROW_CLOSE: a row without a waiting hit is closed (R312). -/
def execRowClose (st : Die) (pc : Fin 32) (bank : Fin 32) (s : State) : Out :=
  let b := (st.val * 32 + pc.val) * 32 + bank.val
  .next (if (s.hreqs st).any (fun h => decide (h.phase = 0) && decide (s.bankOf st h.loc = b) && s.rowHit st h.loc) then s
    else { s with hbm.rows := tput 0 s.hbm.rows b 0 })

/-! ### An access completes (R313, R325, R329, R371, R376) -/

/-- The 32-byte accesses that an operation on plain memory reads: a read's own, a partial write's partial ones (R326). -/
def plainAccs (op : NOp) (l n : Nat) : List Nat :=
  if op = .write then (touchAcc l n).filter (fun a => !(wholeAcc l n).contains a) else touchAcc l n

/-- The 32-byte accesses that an operation reads. In a protected window a read, a partial write and an atomic read each line whole, in parallel with
its tag (R342, R343). -/
def State.readAccs (s : State) (st : Nat) (op : NOp) (l n : Nat) : List Nat :=
  match s.pwinAt st (unitOf l) with
  | some i =>
    if s.getF F.pwinCtl_state st i = 5 then plainAccs op l n
    else ((linePieces l n).filter (fun q => decide (op ≠ .write) || decide (q.2.2.1 ≠ 64))).flatMap (fun q =>
      [q.2.1 / 64 * 2, q.2.1 / 64 * 2 + 1, s.tagAddr st i (s.lineOf st i q.2.1) / 32])
  | none => plainAccs op l n

/-- The severity report of an access that reads, and the 32-byte access it concerns: stored bad content reports 3, and an injected
value replaces the report once (R325, R326, R376). -/
def State.severity (s : State) (st : Nat) (accs : List Nat) (sev acc : Nat) : State × Nat × Nat × Bool :=
  match accs with
  | [] => (s, 0, 0, false)
  | a0 :: _ =>
    let a := accs.getD (acc % accs.length) a0
    let inj := if s.flag F.eccTestS_testEn st 0 then tget 0 s.ecc.sev st else 0
    if inj ≠ 0 then ({ s with ecc.sev := tput 0 s.ecc.sev st 0 }, inj, a, true)
    else match accs.find? (fun x => tget false s.hbm.bad (accKey st x)) with
      | some x => (s, 3, x, false)
      | none => (s, sev, a, false)

/-- Held requests under a subtree that became unverifiable (R326, R349). -/
def State.markUnver (s : State) (st i : Nat) : State :=
  s.setHreqs st ((s.hreqs st).map (fun h =>
    if decide (s.pwinAt st (unitOf h.loc) = some i) && (linePieces h.loc h.req.size).any (fun q => s.unverLine st i (s.lineOf st i q.2.1))
    then { h with unver := true } else h))

/-- The home controller sends INVALIDATE for each line to the caches of the other three dies; whether all of them could be sent (R329). -/
def State.sendInvals (s : State) (st : Nat) (h : HReq) : State × Bool :=
  (reqLines h.req).foldl (fun acc line =>
    ((List.range 4).filter (fun d => decide (d ≠ st))).foldl (fun (acc : State × Bool) d =>
      let (s', c) := acc.1.issueTo (.inval st h.id) (mkReq .invalidate line 64 h.req.tenant 5 (1024 + 16 * st + h.pc / 2) 1 []) (dieTile d) 5
      if c = some 0 then (s', acc.2) else (acc.1, false)) acc) (s, true)

/-- A write or atomic to a shared window that an INVALIDATE cannot reach, or from which none returns, is never answered: its requester times
out. DESIGN CHOICE (log entry 126): R329 has it answered only after all three responses. -/
def State.dropHeld (s : State) (st id : Nat) : State := s.setHreqs st ((s.hreqs st).filter (fun x => x.id ≠ id))

/-- The access of a held request completes without an uncorrectable report: the protection engine and the controller perform it. A request that a
root's failure finds held receives INTEGRITY_FAIL (R352). -/
def State.hcomplete (s : State) (st : Nat) (h : HReq) (late : Bool) (p : ProtIn) : State :=
  match s.pwinAt st (unitOf h.loc) with
  | some i =>
    if s.getF F.pwinCtl_state st i = 4 then s.hanswer st h svcIntegrity false late []
    else if s.getF F.pwinCtl_state st i = 5 then
      let (s, data) := s.hperform st h.loc h.req.size h.req.op h.req.data
      s.hanswer st h 0 false late data
    else
      match s.protPerform st i h.loc h.req.size h.req.op h.req.data p with
      | (s, some x, _, _, _) => (s.hbmFreeze st 2 x).markUnver st i
      | (s, none, svc, poison, data) => s.hanswer st h svc poison late data
  | none =>
    let (s, data) := s.hperform st h.loc h.req.size h.req.op h.req.data
    if decide (h.req.op ≠ .read) && s.shared h.req.addr then
      match s.sendInvals st h with
      | (s, true) =>
        s.setHreqs st ((s.hreqs st).map (fun x =>
          if x.id = h.id then { x with phase := 2, inval := 3 * (reqLines h.req).length, svc := 0, out := data } else x))
      | (s, false) => s.dropHeld st h.id
    else s.hanswer st h 0 false late data

/-- An access of a held request ends with the stack's severity report for one of the 32-byte accesses it read (R325, R326, R371, R376). A
real-time request in panic is never late (R357). -/
def State.accessEnd (s : State) (st : Nat) (h : HReq) (sev acc : Nat) (late : Bool) (p : ProtIn) : State :=
  let late := late && !s.urgent st h
  let (s, sv, a, inj) := s.severity st (s.readAccs st h.req.op h.loc h.req.size) sev acc
  if sv = 3 then
    let s := s.eccError .stack st true 8 a 0 3
    let s := if inj then s else { s with hbm.bad := tput false s.hbm.bad (accKey st a) true }
    let s := s.setHreqs st ((s.hreqs st).map (fun x => if x.id = h.id then { x with failed := true } else x))
    s.hbmFreeze st 1 (32 * a)
  else
    let s := if sv = 0 then s else s.eccError .stack st false 8 a 0 sv
    s.hcomplete st h late p

/-- HBM_ACCESS_DONE: the access of held request `id` completes, also in the drain of a change, with the stack's severity report for one of the 32-byte
accesses it read, a command or address parity error, whether more than 1 µs has passed since it arrived, and what the protection engine met
(R314, R323, R325, R371). -/
def execHbmAccessDone (st : Die) (id : Nat) (sev : Fin 4) (acc : Nat) (parity late : Bool) (p : ProtIn) (s : State) : Out :=
  .next (match (s.hreqs st).find? (fun h => decide (h.id = id) && decide (h.phase = 1)) with
    | none => s
    | some h =>
      if s.hbmSt st = 0 ∨ s.hbmSt st = 3 then s
      else if parity then s.hbmFreeze st 3 h.loc
      else if decide (h.req.op ≠ .read) && s.shared h.req.addr && decide ((s.tagsFree (1024 + 16 * st.val + h.pc / 2) 1).length < 12) then s
      else s.accessEnd st h sev acc late p)

/-- An INVALIDATE of a write has returned; the write is answered after the last (R329). -/
def State.invalBack (s : State) (st wid : Nat) (late : Bool) : State :=
  match (s.hreqs st).find? (fun h => decide (h.id = wid) && decide (h.phase = 2)) with
  | none => s
  | some h =>
    if h.inval ≤ 1 then s.hanswer st h h.svc false late h.out
    else s.setHreqs st ((s.hreqs st).map (fun x => if x.id = wid then { x with inval := x.inval - 1 } else x))

/-- An INVALIDATE has ended with a code: only OK says that the cache has dropped the line (log entry 126). -/
def State.invalEnd (s : State) (st wid svc : Nat) (late : Bool) : State := if svc = 0 then s.invalBack st wid late else s.dropHeld st wid

/-- INVALIDATE_RESPONSE: a cache's response returns to the home controller; `late`: more than 1 µs since the write arrived (R314, R329). -/
def execInvalidateResponse (r : Resp) (late : Bool) (s : State) : Out :=
  .next (if s.net.resps.contains r && s.respFor r (fun w => match w with | .inval _ _ => true | _ => false) then
    match s.arrive r with
    | (s, some (o, r)) => (match o.who with | .inval st wid => s.invalEnd st wid r.svc late | _ => s)
    | (s, none) => s
  else s)

/-! ### Thaw, disable, enable, reset (R53, R54, R324–R326) -/

/-- READY, or SELF_REFRESH while the device rests (R39). -/
def State.hbmReady (s : State) : Nat := if s.pw.mode = .rest then 2 else 1

/-- A thaw: the failed and the unverifiable requests are answered POISONED, and the scheduling of the others resumes in arrival order (R326). -/
def State.hbmThaw (s : State) (st : Nat) : State :=
  if s.hbmSt st ≠ 3 ∨ s.getF F.hbmFreeze_cause st 0 = 4 then s
  else
    let s := ((s.hreqs st).filter (fun h => h.failed || h.unver)).foldl (fun s h => s.hpoison st h) s
    let s := s.setHreqs st ((s.hreqs st).map (fun h => { h with first := true }))
    let s := (s.setReg .hbmFreeze st 0 0).setReg .hbmFreezeRow st 0 0
    (s.setHbmSt st s.hbmReady).setDegr st false

/-- Disable: new requests receive REFUSED_BUSY; a frozen controller answers what it holds TARGET_FROZEN (R53). -/
def State.hbmDisable (s : State) (st : Nat) : State :=
  let s := if s.hbmSt st = 3 then (s.hreqs st).foldl (fun s h => s.hanswer st h svcFrozen false false []) s else s
  let s := s.setF F.hbmCtl_enable st 0 0
  if s.hbmSt st = 0 then s else s.setHbmSt st 4

/-- Every accepted request has finished. -/
def State.hbmQuiet (s : State) (st : Nat) : Bool := (s.hreqs st).isEmpty

/-- Enable: a controller that was frozen is frozen again, any other is READY. -/
def State.hbmEnable (s : State) (st : Nat) : State :=
  let s := s.setF F.hbmCtl_enable st 0 1
  if s.hbmSt st ≠ 4 then s
  else s.setHbmSt st (if s.getF F.hbmFreeze_cause st 0 ≠ 0 then 3 else if (s.hchange st).isSome then 2 else s.hbmReady)

/-- Line `n` of a delay set: the override record, or the set measured at assembly (R319, R501). -/
def State.delayOf (s : State) (st band n : Nat) : Nat :=
  let v := s.bootSetting 0x0022 ((3 * st + band) * 8 + n / 160)
  leAt v (2 * (n % 160)) 1 * 65536 + leAt v (2 * (n % 160) + 1) 1 * 256

/-- Maltar writes a band's delay set (R319, R320). -/
def State.writeDelays (s : State) (st band : Nat) : State := iter 1280 (fun n s => s.setReg .hbmDelay st n (s.delayOf st band n)) s

/-- The 8.0 Gbit/s timing set in the active or the shadow registers; Maltar's other sets hold the same values (R323). -/
def State.bootTimings (s : State) (st : Nat) : State :=
  [Rg.hbmTim0, .hbmTim1, .hbmTim2, .hbmTim0Sh, .hbmTim1Sh, .hbmTim2Sh].foldl (fun s r => s.setReg r st 0 (r.rst 0)) s

/-! ### Refresh (R315, R318) and real-time levels (R317) -/

/-- PER_BANK_REFRESH: one pseudo-channel's refresh interval expires: the next bank in rotation is refreshed, or its refresh is
postponed for panic, or forced after 8 postponements. None in self-refresh and before initialization (R315, R318). -/
def execPerBankRefresh (st : Die) (pc : Fin 32) (s : State) : Out :=
  .next (if decide (s.hbmSt st = 0) || s.selfRefresh st then s else
    let p := st.val * 32 + pc.val
    let b := p * 32 + tget 0 s.hbm.rot p
    let s := { s with hbm.rot := tput 0 s.hbm.rot p ((tget 0 s.hbm.rot p + 1) % 32) }
    if s.panic st then
      if tget 0 s.hbm.post b < 8 then
        State.count { s with hbm.post := tput 0 s.hbm.post b (tget 0 s.hbm.post b + 1) } F.hbmCounts_postponed st 0 1
      else State.count { s with hbm.rows := tput 0 s.hbm.rows b 0 } F.hbmCounts_forced st 0 1
    else { s with hbm.rows := tput 0 s.hbm.rows b 0 })

/-- The postponed refreshes of a stack are issued back to back: each closes the row of its bank (R318, R358). -/
def State.catchUp (s : State) (st : Nat) : State :=
  { s with hbm.rows := s.hbm.rows.filter (fun e => !(decide (e.1 / 1024 = st) && decide (0 < tget 0 s.hbm.post e.1))),
           hbm.post := s.hbm.post.filter (fun e => e.1 / 1024 ≠ st) }

/-- The panic bits of HBM_STATUS; when panic ends the postponed refreshes are issued, ahead of other requests (R317, R318). -/
def State.panicUpdate (s : State) (st : Nat) : State :=
  let s := s.setF F.hbmStatus_panic st 0 (((List.range 4).map (fun j => b2n (s.panicSlot st j) * 2 ^ j)).sum)
  if s.panic st then s else s.catchUp st

/-- The tile whose router hosts the port of a real-time slot (R317). -/
def State.rtTile (s : State) (st j : Nat) : Nat := memTile st (s.getF F.hbmRt_port st j)

/-- The level of a slot while the clamps of its tile's region are applied: their fence values (R286, R317). -/
def State.rtClamp (s : State) (t level : Nat) : Nat :=
  ((List.range 4).map (fun i => b2n ((s.clamp t (.pin t .ni .rtlevel i)).getD (bitAt level i)) * 2 ^ i)).sum

/-- RTLEVEL_CHANGE: the level of a real-time port changes by its design; while the tile's region is not LIVE it holds its fence value. Before the
HUDDLE exit each port keeps level 15 (R286, R317). -/
def execRtlevelChange (st : Die) (j : Fin 4) (level : Fin 16) (s : State) : Out :=
  .next (if s.flag F.hbmRt_en st j ∧ (s.pw.mode = .run ∨ s.pw.mode = .rest ∨ s.pw.mode = .hold) then
    State.panicUpdate (s.setF F.hbmRt_level st j (s.rtClamp (s.rtTile st j) level)) st else s)

/-- The clamps of a region have been applied: the levels of the real-time ports at its tiles take their fence values (R286, R317). -/
def State.rtFence (s : State) (r : Nat) : State :=
  iter 16 (fun k s =>
    let t := s.rtTile (k / 4) (k % 4)
    if s.flag F.hbmRt_en (k / 4) (k % 4) ∧ (s.region r).tiles.contains t then
      State.panicUpdate (s.setF F.hbmRt_level (k / 4) (k % 4) (s.rtClamp t (s.getF F.hbmRt_level (k / 4) (k % 4)))) (k / 4)
    else s) s

/-! ### Function reset (R54, R324, R326) -/

/-- Function reset of a controller, once it is quiet: registers at their reset values, the boot timing set and the rate in settings,
the band's delays; contents, protection keys and roots are kept. After a failed initialization the stack is initialized again (R324,
R326; 14). -/
def State.hbmReset (s : State) (st : Nat) : State :=
  let failed := s.getF F.hbmFreeze_cause st 0 = 4
  let s := s.setHchange st none
  let s := (s.bootTimings st).writeDelays st (s.getF F.hbmStatus_band st 0)
  let s := s.setReg .hbmCtl st 0 (Rg.hbmCtl.rst 0)
  let s := s.setF F.hbmDisturb_k st 0 10
  let s := s.setReg .hbmCounts st 0 0
  let s := State.panicUpdate (iter 4 (fun j s => s.setF F.hbmRt_threshold st j 2) s) st
  let s := (s.setReg .hbmFreeze st 0 0).setReg .hbmFreezeRow st 0 0
  let s := s.setF F.hbmStatus_rate st 0 (leAt (s.bootSetting 0x0021 st) 0 1)
  let s := if failed then { s.setHbmSt st 0 with hbm.reinit := tput false s.hbm.reinit st true } else s.setHbmSt st s.hbmReady
  if failed then s else s.setDegr st false

/-- A function reset finds a change in progress: the stack leaves self-refresh with the boot timing set and the rate in settings, the shadow set
is discarded, and Maltar writes the present band's delays, before anything else is performed. The HBM_RATE that waited ends with
INTERNAL_ERROR. DESIGN CHOICE (log entry 127): R324 states no code for it. -/
def State.changeAbort (s : State) (st : Nat) : State :=
  match s.hchange st with
  | none => s
  | some _ =>
    let s := ((s.setHchange st none).bootTimings st).writeDelays st (s.getF F.hbmStatus_band st 0)
    let s := s.setF F.hbmStatus_rate st 0 (leAt (s.bootSetting 0x0021 st) 0 1)
    (s.setHbmSt st (if s.flag F.hbmCtl_enable st 0 then s.hbmReady else 4)).finishOps st [0x0311] 0xFF 0 0 []

/-! ### Temperature, bands and rates (R315, R319–R324) -/

/-- The band that a reading calls for, from the present band (R320). -/
def bandFor (b : Nat) (t : Int) : Nat :=
  match b with
  | 0 => if 70 < t then 2 else if 0 < t then 1 else 0
  | 1 => if 70 < t then 2 else if t < -3 then 0 else 1
  | _ => if t < -3 then 0 else if t < 67 then 1 else 2

/-- A reading lies more than 10 °C beyond a band's edges (R321). -/
def staleAt (b : Nat) (t : Int) : Bool :=
  match b with
  | 0 => decide (10 < t)
  | 1 => decide (t < -10) || decide (80 < t)
  | _ => decide (t < 60)

/-- A stack temperature reading, or none: TEMP and REFRESH_X2 (R315, R331). -/
def State.stackTemp (s : State) (st : Nat) (t : Option Nat) : State :=
  let s := s.setF F.hbmStatus_temp st 0 (t.getD 0x80)
  match t with
  | none => s
  | some v =>
    let x := sgn 8 v
    if 85 < x then s.setF F.hbmStatus_refreshX2 st 0 1 else if x < 82 then s.setF F.hbmStatus_refreshX2 st 0 0 else s

/-- TEMP takes readings from step 1 of R322 on (R331). -/
def State.tempKnown (s : State) (st : Nat) : Bool := decide (s.hbmSt st ≠ 0) || decide (s.getF F.hbmStatus_temp st 0 ≠ 0x80)

/-- The stack enters self-refresh for a change: its banks are precharged, and READY becomes SELF_REFRESH (R320, R323). -/
def State.changeStart (s : State) (st : Nat) (c : HChange) : State :=
  let s := { (if s.hbmSt st = 1 then s.setHbmSt st 2 else s).precharge st with hbm.bandDue := tput false s.hbm.bandDue st false }
  s.setHchange st (some c)

/-- The band that a reading asks for is made, joined to a change in progress, withdrawn from one, or waits for Maltar or the thaw (R320, R321,
R323, R324). -/
def State.bandWant (s : State) (st want : Nat) : State :=
  let same := decide (want = s.getF F.hbmStatus_band st 0)
  let due (s : State) (v : Bool) : State := { s with hbm.bandDue := tput false s.hbm.bandDue st v }
  if !s.maltarRuns then due s !same
  else match s.hchange st with
    | some c => s.setHchange st (some { c with band := if same then none else some want })
    | none => if same then due s false else if s.hbmSt st = 3 then due s true else s.changeStart st ⟨none, some want⟩

/-- HBM_TEMP_POLL: the 1 ms reading, and the band it asks for; a reading 10 °C beyond the active band sets DELAY_STALE and ALARM (R320, R321). -/
def execHbmTempPoll (st : Die) (t : Option (Fin 256)) (s : State) : Out :=
  .next (if !s.tempKnown st then s else
    let s := s.stackTemp st (t.map (·.val))
    match t with
    | none => s
    | some v =>
      let x := sgn 8 v.val
      let b := s.getF F.hbmStatus_band st 0
      if s.hbmSt st = 0 then s
      else
        let s := s.bandWant st (bandFor b x)
        if staleAt b x && !s.flag F.hbmStatus_delayStale st 0 then
          State.alarm (s.setF F.hbmStatus_delayStale st 0 1) 255 0x0C (st.val * 256 + v.val * 65536) 0 (srcOf .hbm st)
        else s)

/-- DELAY_STALE clears, and with it the alarm that it latched (R321). -/
def State.unstale (s : State) (st : Nat) : State :=
  if s.flag F.hbmStatus_delayStale st 0 then
    let s := s.setF F.hbmStatus_delayStale st 0 0
    let left := ((List.range 4).filter (fun d => s.flag F.hbmStatus_delayStale d 0)).length
    let is (a : Alarm) : Bool := decide (a = ⟨255, 0x0C⟩)
    { s with hosts.alarms := s.hosts.alarms.filter (fun a => !is a) ++ (s.hosts.alarms.filter is).take left }
  else s

/-- The band part of a change: the new band's delays, and DELAY_STALE cleared (R320, R321). -/
def State.bandTake (s : State) (st : Nat) (b : Option Nat) : State :=
  match b with
  | none => s
  | some b => ((s.setF F.hbmStatus_band st 0 b).writeDelays st b).unstale st

/-- A change ends: the stack leaves self-refresh and scheduling resumes, in a controller that nobody has disabled meanwhile (R53, R323). -/
def State.changeEnd (s : State) (st : Nat) : State :=
  (s.setHchange st none).setHbmSt st (if s.flag F.hbmCtl_enable st 0 then s.hbmReady else 4)

/-- A change makes what it is for: the timing sets are exchanged and the new rate is active, the new band's delays are written, and scheduling
resumes; HBM_RATE is answered (R320, R323). -/
def State.changeDone (s : State) (st : Nat) : State :=
  match s.hchange st with
  | none => s
  | some ⟨none, b⟩ => (s.bandTake st b).changeEnd st
  | some ⟨some rate, b⟩ =>
    let swap (s : State) (a sh : Rg) : State := (s.setReg a st 0 (s.reg sh st 0)).setReg sh st 0 (s.reg a st 0)
    let s := swap (swap (swap s .hbmTim0 .hbmTim0Sh) .hbmTim1 .hbmTim1Sh) .hbmTim2 .hbmTim2Sh
    let s := s.setF F.hbmStatus_rate st 0 rate
    ((s.bandTake st b).changeEnd st).finishOps st [0x0311] 0 0 0 []

/-- The drain of a change has ended: no access is left in the stack (R323). -/
def State.drained (s : State) (st : Nat) : Bool := (s.hreqs st).all (fun h => decide (h.phase ≠ 1))

/-- BAND_CHANGE_DONE (R320). -/
def execBandChangeDone (st : Die) (s : State) : Out :=
  .next (match s.hchange st with
    | some ⟨none, _⟩ => if s.drained st then s.changeDone st else s
    | _ => s)

/-- Start a rate change with the shadow set; a band change that is due joins it (R323). -/
def State.rateStart (s : State) (st rate : Nat) : State :=
  let b := s.getF F.hbmStatus_band st 0
  let want := bandFor b (sgn 8 (s.getF F.hbmStatus_temp st 0))
  s.changeStart st ⟨some rate, if tget false s.hbm.bandDue st ∧ s.maltarRuns then some want else none⟩

/-- RATE_GO: no effect on a controller that is not READY or already changes (R324). -/
def State.rateGo (s : State) (st : Nat) : State :=
  if s.hbmSt st = 1 ∧ (s.hchange st).isNone then s.rateStart st (s.getF F.hbmCtl_rateSh st 0) else s

/-- RATE_CHANGE_DONE (R323). -/
def execRateChangeDone (st : Die) (s : State) : Out :=
  .next (match s.hchange st with
    | some ⟨some _, _⟩ => if s.drained st then s.changeDone st else s
    | _ => s)

/-- A write of HBM_CTL: THAW, then ENABLE, then RATE_GO (R53, R323, R326, R331). -/
def State.writeHbmCtl (s : State) (st v : Nat) : State :=
  let was := s.flag F.hbmCtl_enable st 0
  let s := s.setReg .hbmCtl st 0 (Rg.hbmCtl.written (s.reg .hbmCtl st 0) v)
  let s := if bitAt v 31 then s.hbmThaw st else s
  let s := if was && !bitAt v 0 then s.hbmDisable st else if !was && bitAt v 0 then s.hbmEnable st else s
  if bitAt v 30 then s.rateGo st else s

/-! ### Initialization (R322, R326, R337) -/

/-- Zero a stack: every byte, and with it every access's content (R322). -/
def State.zeroStack (s : State) (st : Nat) : State :=
  { s with hbm.mem := s.hbm.mem.filter (fun e => e.1 / 0x600000000 ≠ st),
           hbm.bad := s.hbm.bad.filter (fun e => e.1 / 2 ^ 30 ≠ st),
           hbm.mixed := s.hbm.mixed.filter (fun e => e.1 / 2 ^ 30 ≠ st) }

/-- The scrambled tenant windows of a stack draw their keys (R336, R337). -/
def State.drawScr (s : State) (st : Nat) : State :=
  iter 16 (fun w s =>
    if s.flag F.twinCtl_en st w && s.flag F.twinCtl_scramble st w && decide (tget 0 s.prot.scr (16 * st + w) = 0) then
      { s with free := s.free + 1, prot.scr := tput 0 s.prot.scr (16 * st + w) (s.free + 1) }
    else s) s

/-- The band of a temperature (R319). -/
def bandAt (t : Int) : Nat := if t < 0 then 0 else if t ≤ 70 then 1 else 2

/-! ### Accesses of the die controllers (R294, R313, R325) -/

/-- Held requests that must be performed before an access to `n` bytes at `l`: those on a byte in common, and those that these wait for; oldest
first (R313). -/
def overlapping (l n : Nat) (hs : List HReq) : List HReq :=
  (hs.foldr (fun h (acc : List (Nat × Nat) × List HReq) =>
    if decide (h.phase ≤ 1) && acc.1.any (fun r => decide (h.loc < r.1 + r.2) && decide (r.1 < h.loc + h.req.size)) then
      ((h.loc, h.req.size) :: acc.1, h :: acc.2)
    else acc) ([(l, n)], [])).2

/-- An access of a die controller waits for the end of a change and for the earlier requests on its bytes; the model takes the wait and the access
in one step. DESIGN CHOICE (log entry 128). -/
def State.settle (s : State) (st l n : Nat) : State :=
  (overlapping l n ((s.changeDone st).hreqs st)).foldl (fun s h => if s.hbmSt st = 3 then s else s.accessEnd st h 0 0 false ProtIn.clean) (s.changeDone st)

/-- An access whose read froze the controller: it is held, and its requester times out (R180, R325). -/
def State.holdGone (s : State) (st l : Nat) (r : Req) : State :=
  State.setHreqs { s with hbm.nextId := s.hbm.nextId + 1 } st (s.hreqs st ++ [⟨s.hbm.nextId, r, (s.hbmLoc st l).pc, l, 0, false, true, false, 0, 0, [], false, true⟩])

/-- A write of a die controller to a shared window drops the lines from the caches of the other dies (R329). -/
def State.dropShared (s : State) (st : Nat) (r : Req) : State :=
  if decide (r.op ≠ .read) && s.shared r.addr then
    (reqLines r).foldl (fun s a => ((List.range 4).filter (· ≠ st)).foldl (fun s d => s.dropLine d (a / 64)) s) s
  else s

/-- Lines whose tag fails in an access of a die controller. Whether a stored line has been altered is the outside's: a free value. -/
def State.freeTamper (s : State) : State × ProtIn :=
  ({ s with free := s.free + 4 }, { ProtIn.clean with tamper := (List.range 4).filter (fun k => Config.freeBool (s.free + k)) })

/-- An access by a die controller for a tenant: the checks of a memory port, the accesses it waits for, the severity report, then the operation
(R294, R313, R325, R371, R376). -/
def State.hbmDirect (s : State) (q : Rq) (a n : Nat) (op : NOp) (data : List Byte) : Served :=
  let (st, l) := s.hbmLocal a
  let r : Req := { mkReq op a n q.tenant q.mclass 17 6 data with scopeAll := q.scopeAll, path := q.path }
  match s.portRefuses st l r with
  | some c => refused s c
  | none =>
    let s := s.settle st l n
    if !s.hbmRuns st then refused s svcTimeout
    else
      let (s, sv, acc, inj) := (s.activate st l).severity st (s.readAccs st op l n) 0 0
      if sv = 3 then
        let s := s.eccError .stack st true 8 acc 0 3
        let s := if inj then s else { s with hbm.bad := tput false s.hbm.bad (accKey st acc) true }
        refused ((s.holdGone st l r).hbmFreeze st 1 (32 * acc)) svcTimeout
      else
        let s := if sv = 0 then s else s.eccError .stack st false 8 acc 0 sv
        match s.pwinAt st (unitOf l) with
        | some i =>
          if s.getF F.pwinCtl_state st i = 5 then
            let (s, d) := s.hperform st l n op data
            (s, 0, d)
          else
            let (s, p) := s.freeTamper
            (match s.protPerform st i l n op data p with
             | (s, some x, _, _, _) => refused (((s.holdGone st l r).hbmFreeze st 2 x).markUnver st i) svcTimeout
             | (s, none, svc, _, d) => (s, svc, d))
        | none =>
          let (s, d) := s.hperform st l n op data
          (s.dropShared st r, 0, d)

/-- A run of bytes read at once in pieces within 256-byte blocks: the bytes, or the first code that is not OK. Fuel bounds the pieces. -/
def State.readRange : Nat → State → Rq → Nat → Nat → State × Nat × List Byte
  | 0, s, _, _, _ => (s, 0, [])
  | f + 1, s, q, a, n =>
    if n = 0 then (s, 0, [])
    else
      let k := min n (256 - a % 256)
      match s.hbmDirect q a k .read [] with
      | (s, 0, d) =>
        (match State.readRange f s q (a + k) (n - k) with
         | (s, c, d') => (s, c, d ++ d'))
      | (s, c, _) => (s, c, [])

/-- A run of bytes written at once, in the same way. -/
def State.writeRange : Nat → State → Rq → Nat → List Byte → State × Nat
  | 0, s, _, _, _ => (s, 0)
  | f + 1, s, q, a, d =>
    if d.isEmpty then (s, 0)
    else
      let k := min d.length (256 - a % 256)
      match s.hbmDirect q a k .write (d.take k) with
      | (s, 0, _) => State.writeRange f s q (a + k) (d.drop k)
      | (s, c, _) => (s, c)

/-! ### Commands (R324, R326, R331, R482) -/

/-- HBM_FREEZE_ROW with the number of requests held by a frozen controller (R331). -/
def State.freezeRowView (s : State) (st : Nat) : Nat :=
  setBits (s.reg .hbmFreezeRow st 0) 29 16 (if s.hbmSt st = 3 then (s.hreqs st).length else 0)

def cmdHbmStatus : Body := fun c s =>
  let st := c.num 0 1
  (s, .done 0 (leBytes 4 (s.reg .hbmStatus st 0) ++ leBytes 4 (s.reg .hbmFreeze st 0) ++ leBytes 4 (s.freezeRowView st)))

def cmdHbmRate : Body := fun c s =>
  let st := c.num 0 1
  if c.tenant ≠ 0 then refuse s 0x12
  else if s.hbmSt st = 3 then refuse s 0x40
  else if s.hbmSt st = 0 ∨ s.hbmSt st = 4 then refuse s 0x14
  else if (s.hchange st).isSome then refuse s 0x15
  else
    let s := [Rg.hbmTim0Sh, .hbmTim1Sh, .hbmTim2Sh].foldl (fun s r => s.setReg r st 0 (r.rst 0)) s
    (State.addWait (s.rateStart st (c.num 1 1)) (c.op st []), .wait)

def cmdHbmThaw : Body := fun c s =>
  let st := c.num 0 1
  if c.tenant ≠ 0 then refuse s 0x12
  else if s.hbmSt st = 3 ∧ s.getF F.hbmFreeze_cause st 0 = 4 then refuse s 0x10
  else (s.hbmThaw st, .done 0 [])

/-- HBM_STATUS: any tenant. -/
def execHbmStatus (p : Port) (m : Mbox) (s : State) : Out := .next (takeMailbox 0x0310 cmdHbmStatus p m s)
/-- HBM_RATE: T0; answered when the change ends. -/
def execHbmRate (p : Port) (m : Mbox) (s : State) : Out := .next (takeMailbox 0x0311 cmdHbmRate p m s)
/-- HBM_THAW: T0. -/
def execHbmThaw (p : Port) (m : Mbox) (s : State) : Out := .next (takeMailbox 0x0312 cmdHbmThaw p m s)

end Sys2Proof.Machine
end

