-- ==== Sys2Proof/Machine/Operands.lean ====
section
/-! DEFINITION. The signal engine's registers, writes in flight, memories and operand forms (09_engine_datapath.md, R213–R221,
R226–R228, R233–R235). Register numbers within a bank: 0–7 D, 8–15 P, 16–23 PB, 24–31 PL, 32–35 M, 36 ST, 37 RC, 38 RS, 39 RE, 40
BEX (bank 0), 41 ACA, 42 ACB. A write happens at the end of its cycle `due`; a read in cycle `tau` sees the writes due before. -/

namespace Sys2Proof.Machine

def rP (n : Nat) : Nat := 8 + n
def rPB (n : Nat) : Nat := 16 + n
def rPL (n : Nat) : Nat := 24 + n
def rM (n : Nat) : Nat := 32 + n
def rST : Nat := 36
def rRC : Nat := 37
def rRS : Nat := 38
def rRE : Nat := 39
def rBEX : Nat := 40
def rAC (b : Bool) : Nat := if b then 42 else 41

/-- Reset value of an engine register (R213). -/
def engRst (id : Nat) : Nat := if id = 36 then 0x1A00 else if id = 40 then 15 else 0

/-- The bank a register lies in: BEX has one copy (R213). -/
def shdBank (shd : Bool) (id : Nat) : Nat := if id = 40 then 0 else b2n shd

/-- The value of a target after the writes in flight due before `tau` (R233, R235). -/
def pendView (l : List PWrite) (tgt : PTgt) (tau base : Nat) : Nat :=
  l.foldl (fun v w => if w.tgt = tgt ∧ w.due < tau then mergeBits v w.mask w.val else v) base

/-- A register of a bank as read in cycle `tau`. -/
def Engine.regIn (e : Engine) (shd : Bool) (id tau : Nat) : Nat :=
  pendView e.pend (.reg (shdBank shd id) id) tau (tget (engRst id) e.regs (shdBank shd id * 64 + id))

/-- A register of the active bank as read in cycle `tau`. -/
def Engine.rd (e : Engine) (id tau : Nat) : Nat := e.regIn e.shd id tau

/-- Writes in flight are kept by cycle, those of one cycle in program order (R235). -/
def addPend : List PWrite → PWrite → List PWrite
  | [], w => [w]
  | x :: t, w => if x.due ≤ w.due then x :: addPend t w else w :: x :: t

/-- A write of a register of the active bank. -/
def Engine.wr (e : Engine) (id mask val due : Nat) : PWrite := ⟨.reg (shdBank e.shd id) id, mask, val, due⟩

/-- A write of ST bits at the end of a cycle. -/
def Engine.wrSt (e : Engine) (w : StW) (due : Nat) : PWrite := e.wr rST w.mask w.val due

/-! ### Memories (R217, R219) -/

/-- What a checked read delivers: the value, poison, and the error to log: UNIT, LOCATION, outcome, p, s. -/
structure Rd where
  val : Nat
  bad : Bool
  note : Option (Nat × Nat × SecOut × Nat × Nat)
deriving DecidableEq, Repr

/-- A checked read of word `a` of a memory of k-bit words with r + 1 check bits (R219, R370). -/
def EMem.read (m : EMem) (k r unit a : Nat) : Rd :=
  if m.uninit && !tget false m.written a then ⟨0, true, none⟩
  else
    let w := tget ⟨0, 0⟩ m.words a
    if w.chk = 0 then ⟨w.data, false, none⟩
    else match secDecode k r w.data (Nat.xor (secEncode k r w.data) w.chk) with
      | (.clean, v, _, _) => ⟨v, false, none⟩
      | (.corrected, v, s, p) => ⟨v, false, some (unit, a, .corrected, p, s)⟩
      | (.bad, v, s, p) => ⟨v, true, some (unit, a, .bad, p, s)⟩

/-- Store a word with fresh check bits, or with inverted ones (R219, R375). -/
def EMem.put (m : EMem) (a v chk : Nat) : EMem :=
  { m with words := tput ⟨0, 0⟩ m.words a ⟨v, chk⟩, written := if m.uninit then tput false m.written a true else m.written }

/-- A data memory word as the engine reads it in cycle `tau` (R219, R234). -/
def Engine.loadAt (e : Engine) (y : Bool) (a tau : Nat) : Rd :=
  let a := a % 16384
  match (e.pend.filter (fun w => decide (w.tgt = (if y then .ymem a else .xmem a)) && decide (w.due < tau))).getLast? with
  | some w => ⟨w.val, false, none⟩
  | none => (if y then e.y else e.x).read 16 5 (if y then 3 else 2) a

/-- A word of program memory. -/
def Engine.progAt (e : Engine) (a : Nat) : Rd := e.prog.read 32 6 1 (a % 16384)

/-- A program-memory operand through a half-word address (R220). -/
def Engine.progOperand (e : Engine) (p : Nat) : Rd :=
  let r := e.progAt (bits p 14 1)
  { r with val := if bitAt p 0 then bits r.val 31 16 else bits r.val 15 0 }

/-! ### What an instruction does in its stages -/

/-- The writes an instruction sets in flight, and the reads it makes. -/
structure Fx where
  ws : List PWrite
  rds : List Rd
deriving DecidableEq, Repr

def Fx.none : Fx := ⟨[], []⟩
def Fx.and (a b : Fx) : Fx := ⟨a.ws ++ b.ws, a.rds ++ b.rds⟩

/-! ### Operands (R226–R228) -/

/-- Address and post-update of an operand through pointer `pn`; the modifiers are M(kb), M(kb + 1), … Pointer and modifier are read
in stage A, and the update is written at its end (R226, R233). -/
def Engine.addr {n : Nat} (e : Engine) (c pn kb : Nat) (am : AMode n) : Nat × Fx :=
  let p := e.rd (rP pn) (c + 2)
  let pb := e.rd (rPB pn) (c + 2)
  let pl := e.rd (rPL pn) (c + 2)
  let m (k : Fin n) : Nat := e.rd (rM (kb + k.val)) (c + 2)
  let upd (v : Nat) : Fx := ⟨[e.wr (rP pn) 0xFFFF v (c + 2)], []⟩
  match am with
  | .plain => (p, Fx.none)
  | .inc => (p, upd (stepPtr p pb pl 1))
  | .dec => (p, upd (stepPtr p pb pl (-1)))
  | .add k => (p, upd (stepPtr p pb pl (sgn 16 (m k))))
  | .rev k => (p, upd (revStep p pb pl (m k)))
  | .idx k => ((p + m k) % 65536, Fx.none)

/-- A memory operand read in stage R. -/
def Engine.opRead {n : Nat} (e : Engine) (c pn kb : Nat) (y : Bool) (am : AMode n) : Nat × Fx :=
  let (a, f) := e.addr c pn kb am
  let r := e.loadAt y a (c + 3)
  (r.val, f.and ⟨[], [r]⟩)

/-- An SO operand read. -/
def Engine.soRead (e : Engine) (c : Nat) (o : SOp) : Nat × Fx := e.opRead c o.pn 0 o.y o.am

/-- A store of a word at an operand: memory at the end of stage X; SF when the word was saturated; BEX for the BX forms (R225, R232). -/
def Engine.opStore {n : Nat} (e : Engine) (c pn kb : Nat) (y : Bool) (am : AMode n) (v : Nat) (sf bx : Bool) : Fx :=
  let (a, f) := e.addr c pn kb am
  f.and ⟨[⟨if y then .ymem (a % 16384) else .xmem (a % 16384), 0xFFFF, v, c + 5⟩] ++
    (if sf then [e.wrSt ⟨stSF, stSF⟩ (c + 5)] else []) ++
    (if bx then [e.wr rBEX 0xF (min (e.rd rBEX (c + 5)) (signCount 16 v)) (c + 5)] else []), []⟩

def Engine.soStore (e : Engine) (c : Nat) (o : SOp) (v : Nat) (sf bx : Bool) : Fx := e.opStore c o.pn 0 o.y o.am v sf bx

/-- A load into Dn: written at the end of stage M. -/
def Engine.loadD (e : Engine) (c : Nat) (o : SOp) (d : Nat) : Fx :=
  let (v, f) := e.soRead c o
  f.and ⟨[e.wr d 0xFFFF v (c + 4)], []⟩

/-- A store of ACxU: accumulator and SATS are read in stage M (R225, R233). -/
def Engine.storeU (e : Engine) (c : Nat) (o : SOp) (b bx : Bool) : Fx :=
  let (v, sf) := storeUpper (stSATS (e.rd rST (c + 4))) (e.rd (rAC b) (c + 4))
  e.soStore c o v sf bx

/-- A parallel move, with the timing of the matching load or store (R238). -/
def Engine.pmove (e : Engine) (c : Nat) : Option PMove → Fx
  | none => Fx.none
  | some m =>
    match m.kind with
    | .load d => e.loadD c m.so d
    | .store d => e.soStore c m.so (e.rd d (c + 4)) false false
    | .storeU b bx => e.storeU c m.so b bx

end Sys2Proof.Machine
end

