-- ==== Sys2Proof/Machine/Crypto.lean ====
section
/-! DEFINITION. SHA-384 (FIPS 180-4) and ECDSA verification over P-384 (FIPS 186-5), by which images and debug responses are authenticated
(04_configuration_load.md, R94, R96; 23_debug.md, R505). -/

namespace Sys2Proof.Machine

/-! ### SHA-384 -/

/-- The round constants. -/
def shaK : List (BitVec 64) :=
  [0x428A2F98D728AE22#64, 0x7137449123EF65CD#64, 0xB5C0FBCFEC4D3B2F#64, 0xE9B5DBA58189DBBC#64, 0x3956C25BF348B538#64] ++
  [0x59F111F1B605D019#64, 0x923F82A4AF194F9B#64, 0xAB1C5ED5DA6D8118#64, 0xD807AA98A3030242#64, 0x12835B0145706FBE#64] ++
  [0x243185BE4EE4B28C#64, 0x550C7DC3D5FFB4E2#64, 0x72BE5D74F27B896F#64, 0x80DEB1FE3B1696B1#64, 0x9BDC06A725C71235#64] ++
  [0xC19BF174CF692694#64, 0xE49B69C19EF14AD2#64, 0xEFBE4786384F25E3#64, 0x0FC19DC68B8CD5B5#64, 0x240CA1CC77AC9C65#64] ++
  [0x2DE92C6F592B0275#64, 0x4A7484AA6EA6E483#64, 0x5CB0A9DCBD41FBD4#64, 0x76F988DA831153B5#64, 0x983E5152EE66DFAB#64] ++
  [0xA831C66D2DB43210#64, 0xB00327C898FB213F#64, 0xBF597FC7BEEF0EE4#64, 0xC6E00BF33DA88FC2#64, 0xD5A79147930AA725#64] ++
  [0x06CA6351E003826F#64, 0x142929670A0E6E70#64, 0x27B70A8546D22FFC#64, 0x2E1B21385C26C926#64, 0x4D2C6DFC5AC42AED#64] ++
  [0x53380D139D95B3DF#64, 0x650A73548BAF63DE#64, 0x766A0ABB3C77B2A8#64, 0x81C2C92E47EDAEE6#64, 0x92722C851482353B#64] ++
  [0xA2BFE8A14CF10364#64, 0xA81A664BBC423001#64, 0xC24B8B70D0F89791#64, 0xC76C51A30654BE30#64, 0xD192E819D6EF5218#64] ++
  [0xD69906245565A910#64, 0xF40E35855771202A#64, 0x106AA07032BBD1B8#64, 0x19A4C116B8D2D0C8#64, 0x1E376C085141AB53#64] ++
  [0x2748774CDF8EEB99#64, 0x34B0BCB5E19B48A8#64, 0x391C0CB3C5C95A63#64, 0x4ED8AA4AE3418ACB#64, 0x5B9CCA4F7763E373#64] ++
  [0x682E6FF3D6B2B8A3#64, 0x748F82EE5DEFB2FC#64, 0x78A5636F43172F60#64, 0x84C87814A1F0AB72#64, 0x8CC702081A6439EC#64] ++
  [0x90BEFFFA23631E28#64, 0xA4506CEBDE82BDE9#64, 0xBEF9A3F7B2C67915#64, 0xC67178F2E372532B#64, 0xCA273ECEEA26619C#64] ++
  [0xD186B8C721C0C207#64, 0xEADA7DD6CDE0EB1E#64, 0xF57D4F7FEE6ED178#64, 0x06F067AA72176FBA#64, 0x0A637DC5A2C898A6#64] ++
  [0x113F9804BEF90DAE#64, 0x1B710B35131C471B#64, 0x28DB77F523047D84#64, 0x32CAAB7B40C72493#64, 0x3C9EBE0A15C9BEBC#64] ++
  [0x431D67C49C100D4C#64, 0x4CC5D4BECB3E42B6#64, 0x597F299CFC657E2A#64, 0x5FCB6FAB3AD6FAEC#64, 0x6C44198C4A475817#64]

/-- A big-endian 64-bit word from 8 bytes. -/
def beWord (l : List Byte) : BitVec 64 := BitVec.ofNat 64 (leNat l.reverse)

/-- The message padded to whole 128-byte blocks. -/
def shaPad (l : List Byte) : List Byte :=
  l ++ [0x80#8] ++ List.replicate ((239 - l.length % 128) % 128) 0#8 ++ (leBytes 16 (8 * l.length)).reverse

/-- The 80 words of a block's schedule. -/
def shaSchedule (block : List Byte) : List (BitVec 64) :=
  let w := ((List.range 16).map (fun i => beWord (slice 0#8 block (8 * i) 8))).reverse
  let s0 (x : BitVec 64) : BitVec 64 := x.rotateRight 1 ^^^ x.rotateRight 8 ^^^ (x >>> 7)
  let s1 (x : BitVec 64) : BitVec 64 := x.rotateRight 19 ^^^ x.rotateRight 61 ^^^ (x >>> 6)
  (iter 64 (fun _ (w : List (BitVec 64)) => (s1 (lget 0#64 w 1) + lget 0#64 w 6 + s0 (lget 0#64 w 14) + lget 0#64 w 15) :: w) w).reverse

/-- The eight working variables. -/
structure ShaSt where
  a : BitVec 64
  b : BitVec 64
  c : BitVec 64
  d : BitVec 64
  e : BitVec 64
  f : BitVec 64
  g : BitVec 64
  h : BitVec 64
deriving DecidableEq, Repr

/-- The initial value of SHA-384. -/
def ShaSt.init : ShaSt :=
  ⟨0xCBBB9D5DC1059ED8#64, 0x629A292A367CD507#64, 0x9159015A3070DD17#64, 0x152FECD8F70E5939#64,
   0x67332667FFC00B31#64, 0x8EB44A8768581511#64, 0xDB0C2E0D64F98FA7#64, 0x47B5481DBEFA4FA4#64⟩

/-- One round with its schedule word and constant. -/
def ShaSt.round (x : ShaSt) (q : BitVec 64 × BitVec 64) : ShaSt :=
  let big1 := x.e.rotateRight 14 ^^^ x.e.rotateRight 18 ^^^ x.e.rotateRight 41
  let ch := (x.e &&& x.f) ^^^ (~~~x.e &&& x.g)
  let t1 := x.h + big1 + ch + q.2 + q.1
  let big0 := x.a.rotateRight 28 ^^^ x.a.rotateRight 34 ^^^ x.a.rotateRight 39
  let maj := (x.a &&& x.b) ^^^ (x.a &&& x.c) ^^^ (x.b &&& x.c)
  ⟨t1 + (big0 + maj), x.a, x.b, x.c, x.d + t1, x.e, x.f, x.g⟩

/-- One block. -/
def ShaSt.block (x : ShaSt) (l : List Byte) : ShaSt :=
  let y := ((shaSchedule l).zip shaK).foldl ShaSt.round x
  ⟨x.a + y.a, x.b + y.b, x.c + y.c, x.d + y.d, x.e + y.e, x.f + y.f, x.g + y.g, x.h + y.h⟩

/-- The SHA-384 digest of a byte string, 48 bytes. -/
def sha384 (l : List Byte) : List Byte :=
  let m := shaPad l
  let x := iter (m.length / 128) (fun i (x : ShaSt) => x.block (slice 0#8 m (128 * i) 128)) ShaSt.init
  ([x.a, x.b, x.c, x.d, x.e, x.f]).flatMap (fun w => (leBytes 8 w.toNat).reverse)

/-- A digest as a field of 48 bytes holds it, its first byte lowest. DEDUCED (log entry 99): a digest is a byte string, and keeps the byte order of FIPS
180-4. -/
def digest (l : List Byte) : BitVec 384 := BitVec.ofNat 384 (leNat (sha384 l))

/-! ### P-384 -/

def p384 : Nat := 2 ^ 384 - 2 ^ 128 - 2 ^ 96 + 2 ^ 32 - 1
def p384N : Nat :=
  0xFFFFFFFFFFFFFFFFFFFFFFFFFFFFFFFFFFFFFFFFFFFFFFFFC7634D81F4372DDF581A0DB248B0A77AECEC196ACCC52973
def p384B : Nat :=
  0xB3312FA7E23EE7E4988E056BE3F82D19181D9C6EFE8141120314088F5013875AC656398D8A2ED19D2A85C8EDD3EC2AEF
def p384G : Nat × Nat :=
  (0xAA87CA22BE8B05378EB1C71EF320AD746E1D3B628BA79B9859F741E082542A385502F25DBF55296C3A545E3872760AB7,
   0x3617DE4A96262C6F5D9E98BF9292DC29F8F41DBD289A147CE9DA3113B5F0B8C00A60B1CE1D7E819D7A431D7C90EA0E5F)

/-- b ^ e modulo m, for exponents of at most `fuel` bits. -/
def powMod (m : Nat) : Nat → Nat → Nat → Nat
  | 0, _, _ => 1
  | n + 1, b, e => let r := powMod m n (b * b % m) (e / 2); if e % 2 = 1 then b * r % m else r

/-- The inverse modulo a prime below 2^384. -/
def invMod (m a : Nat) : Nat := powMod m 384 (a % m) (m - 2)

/-- Addition of points of the curve; `none` is the point at infinity. -/
def ecAdd : Option (Nat × Nat) → Option (Nat × Nat) → Option (Nat × Nat)
  | none, q => q
  | some p, none => some p
  | some (x1, y1), some (x2, y2) =>
    if x1 = x2 ∧ (y1 + y2) % p384 = 0 then none
    else
      let l := if x1 = x2 then (3 * x1 * x1 + (p384 - 3)) * invMod p384 (2 * y1) % p384
        else (y2 + p384 - y1) * invMod p384 (x2 + p384 - x1) % p384
      let x := (l * l + 2 * p384 - x1 - x2) % p384
      some (x, (l * (x1 + p384 - x) + p384 - y1) % p384)

/-- k times a point, for k of at most `fuel` bits. -/
def ecMul : Nat → Nat → Option (Nat × Nat) → Option (Nat × Nat)
  | 0, _, _ => none
  | n + 1, k, p => let r := ecMul n (k / 2) (ecAdd p p); if k % 2 = 1 then ecAdd p r else r

/-- The pair is a point of the curve. -/
def onCurve (q : Nat × Nat) : Bool :=
  decide (q.1 < p384) && decide (q.2 < p384) && decide ((q.2 * q.2 + 3 * q.1) % p384 = (q.1 * q.1 * q.1 + p384B) % p384)

/-- ECDSA verification with SHA-384 (FIPS 186-5): public key, message, r and s. -/
def ecdsaVerify (q : Nat × Nat) (msg : List Byte) (r s : Nat) : Bool :=
  if !onCurve q || r = 0 || s = 0 || p384N ≤ r || p384N ≤ s then false
  else
    let e := leNat (sha384 msg).reverse
    let w := invMod p384N s
    match ecAdd (ecMul 384 (e * w % p384N) (some p384G)) (ecMul 384 (r * w % p384N) (some q)) with
    | none => false
    | some (x, _) => x % p384N = r

/-- Two 48-byte integers of a 96-byte field: a public key as x then y, a signature as r then s. DEDUCED (log entry 99): little-endian, as every
multi-byte field. -/
def pair48 (l : List Byte) : Nat × Nat := (leAt l 0 48, leAt l 48 48)

/-- A 96-byte signature over a message verifies under a public key. -/
def verifies (key : Nat × Nat) (msg sig : List Byte) : Bool := ecdsaVerify key msg (pair48 sig).1 (pair48 sig).2

/-- A debug key of the system area (R86, R505). -/
def debugKey (n : Nat) : Nat × Nat := pair48 (leBytes 96 (Config.debugKey n).toNat)

end Sys2Proof.Machine
end

