-- ==== Sys2Proof/Machine/Image.lean ====
section
/-! DEFINITION. Store areas, slots, pointer records and Dzief image headers (04_configuration_load.md, R60, R85, R91, R92, R107,
R108). -/

namespace Sys2Proof.Machine

/-- Store areas (R85): 0 system, 1 golden, 2 slot A, 3 slot B, 4 library. -/
def areaSize : Nat → Nat
  | 0 => 0x8000000
  | 1 => 0x8000000
  | 2 => 0x40000000
  | 3 => 0x40000000
  | _ => 0x30000000

/-- Bytes of the store: `n` from offset `o` of an area. -/
def State.storeBytes (s : State) (area o n : Nat) : List Byte :=
  (List.range n).map (fun i => tget 0#8 s.ld.store (area * 2 ^ 31 + o + i))

/-- Program bytes of the store. -/
def State.storePut (s : State) (area o : Nat) (l : List Byte) : State :=
  { s with ld.store := putBytes s.ld.store (area * 2 ^ 31 + o) l }

/-- A pointer record as the system area holds it: sequence number, slot (0 A, 1 B), CRC-32 over both (R108). DESIGN CHOICE (log entry 100): 4, 1 and 4
bytes, little-endian. -/
def ptrRecord (seq slot : Nat) : List Byte :=
  let b := leBytes 4 seq ++ leBytes 1 slot
  b ++ leBytes 4 (crc32 b)

/-- Sequence number and slot of a pointer record whose CRC holds (R108). -/
def ptrRead (l : List Byte) : Option (Nat × Nat) :=
  if l = ptrRecord (leAt l 0 4) (leAt l 4 1) ∧ leAt l 4 1 < 2 then some (leAt l 0 4, leAt l 4 1) else none

/-- The active-slot pointer: the valid record with the higher sequence number names the slot, 0 A and 1 B (R108). -/
def State.activeSlot (s : State) : Option Nat :=
  match ptrRead s.ld.ptrP, ptrRead s.ld.ptrQ with
  | none, none => none
  | some p, none => some p.2
  | none, some q => some q.2
  | some p, some q => if q.1 ≤ p.1 then some p.2 else some q.2

/-- State of slot A, slot B or the golden slot: 0 EMPTY, 1 WRITING, 2 VERIFIED, 3 INVALID (R107, R111). -/
def State.slotState (s : State) (k : Nat) : Nat := if k = 0 then s.ld.slotA else if k = 1 then s.ld.slotB else s.ld.golden
def State.setSlot (s : State) (k v : Nat) : State :=
  if k = 0 then { s with ld.slotA := v } else if k = 1 then { s with ld.slotB := v } else { s with ld.golden := v }

/-- The store area of a slot: A, B, golden. -/
def slotArea (k : Nat) : Nat := if k = 0 then 2 else if k = 1 then 3 else 1

/-- Header fields (R91). -/
def hTarget (h : List Byte) : Nat := leAt h 0x0B 1
def hRegion (h : List Byte) : Nat := leAt h 0x0C 4
def hTenant (h : List Byte) : Nat := leAt h 0x10 1
def hSlack (h : List Byte) : Bool := bitAt (leAt h 0x14 4) 0
def hLength (h : List Byte) : Nat := leAt h 0x18 8
def hFrames (h : List Byte) : Nat := leAt h 0x20 4
def hFlex (h : List Byte) (seam : Nat) : Nat := leAt h (0x28 + 4 * seam) 4
def hSecOff (h : List Byte) (d : Nat) : Nat := leAt h (0x40 + 16 * d) 8
def hSecLen (h : List Byte) (d : Nat) : Nat := leAt h (0x48 + 16 * d) 4
def hSecFrames (h : List Byte) (d : Nat) : Nat := leAt h (0x4C + 16 * d) 4
def hDigest (h : List Byte) (d : Nat) : BitVec 384 := BitVec.ofNat 384 (leAt h (0x80 + 48 * d) 48)
def hKey (h : List Byte) : List Byte := slice 0#8 h 0x140 96
def hSig (h : List Byte) : List Byte := slice 0#8 h 0x1A0 96

/-- MAGIC, FORMAT, FAMILY, PART and DIE_COUNT match this device, and TARGET matches the use (R91, R92). -/
def headerOk (h : List Byte) (target : Nat) : Bool :=
  leAt h 0 4 = 0x5A440001 && leAt h 4 2 = 1 && leAt h 6 2 = 0x000A && leAt h 8 2 = 0x0126 && leAt h 0x0A 1 = 4 && hTarget h = target

/-- The header's key is the signer's, and its signature over bytes 0x000–0x19F verifies (R91, R96 steps 1 and 2). -/
def headerSigned (h : List Byte) : Bool :=
  decide (digest (hKey h) = Config.signerHash) && verifies (pair48 (hKey h)) (h.take 0x1A0) (hSig h)

/-- The header of a slot as stored. -/
def State.slotHeader (s : State) (k : Nat) : List Byte := s.storeBytes (slotArea k) 0 512

/-- The header that gives flex roles and the seam-slack declaration at boot step 2 (R60). -/
def State.bootHeader (s : State) : Option (List Byte) :=
  let golden : Option (List Byte) := if headerOk (s.slotHeader 2) 2 then some (s.slotHeader 2) else none
  match s.activeSlot with
  | some k => if s.slotState k = 2 ∧ headerOk (s.slotHeader k) 1 then some (s.slotHeader k) else golden
  | none => golden

end Sys2Proof.Machine
end

