-- ==== Sys2Proof/Machine/Queues.lean ====
section
/-! DEFINITION. Packet queues and event lines (08_packet_queues_events.md, R192–R211). -/

namespace Sys2Proof.Machine

/-! ### Words and space (R192–R199) -/

/-- Producer and consumer kind of queue n of tile t (R194): 0 none, 1 fabric, 2 lane MAC, 3 network, 4 engine. -/
def State.qProd (s : State) (k : Nat) : Nat := (s.tcfg (k / 4)).prod.getD (k % 4) 0
def State.qCons (s : State) (k : Nat) : Nat := (s.tcfg (k / 4)).cons.getD (k % 4) 0

/-- A queue is enabled (R207), and not held empty before the HUDDLE exit (R100). DESIGN CHOICE (log entry 113): what a producer brings to a queue that
is held empty finds it as a disabled one. -/
def State.qOn (s : State) (k : Nat) : Bool := s.flag F.qCtl_enable (k / 4) (k % 4) && !s.pw.ffHold

/-- Words held, committed or not (R207). -/
def PQ.held (q : PQ) : Nat := q.vis.length + (q.transit.map List.length).sum + q.unc.length

/-- Free words as the producer sees them: 1,024 less those held and those whose release has not reached it (R192, R197). -/
def PQ.space (q : PQ) : Nat := 1024 - q.held - q.freed

/-- Committed packets not fully read (R207). -/
def PQ.waiting (q : PQ) : Nat := (q.vis.filter (·.last)).length

/-- A word as the queue stores it: parity of each half, PAR0 inverted where a QFLIP waits; POISON stored twice (R192, R193, R375). -/
def mkWord (data : Nat) (last poison flip : Bool) : QWord :=
  ⟨data % 2 ^ 64, last, (parity 32 (data % 2 ^ 32) = 1) != flip, parity 32 (data / 2 ^ 32 % 2 ^ 32) = 1, poison, poison⟩

/-- Rewind the uncommitted packet; without one there is no effect (R198). -/
def State.qAbort (s : State) (k : Nat) : State :=
  if (s.pq k).unc.isEmpty then s
  else State.count (s.setPQ k { s.pq k with unc := [] }) F.qErrors_aborts (k / 4) (k % 4) 1

/-- Write a word; the last word of a packet commits it, and a packet of 1,024 words without its last word is aborted and counted
in OVERSIZE (R196, R197, R199). The caller has checked space and ENABLE. -/
def State.qWrite (s : State) (k data : Nat) (last poison : Bool) : State :=
  let q := s.pq k
  let unc := q.unc ++ [mkWord data last poison q.flip]
  if last then s.setPQ k { q with unc := [], transit := q.transit ++ [unc], flip := false }
  else if 1024 ≤ unc.length then
    State.count (State.qAbort (s.setPQ k { q with unc := unc, flip := false }) k) F.qErrors_oversize (k / 4) (k % 4) 1
  else s.setPQ k { q with unc := unc, flip := false }

/-- Set an engine's interrupt source pending (R251). -/
def State.engPend (s : State) (t src : Nat) : State :=
  s.setF F.engIrq_pending t 0 (Nat.lor (s.getF F.engIrq_pending t 0) (2 ^ src))

/-- One notice: CCOUNT and PKT_COUNT, source 8 + n at an engine, and a pulse on the line of the notice event (R204, R251). -/
def State.qNotice (s : State) (k : Nat) : State :=
  let s := s.setPQ k { s.pq k with ccount := ((s.pq k).ccount + 1) % 65536 }
  let s := s.wrap F.qCount_pktCount (k / 4) (k % 4) 1
  let s := if s.qCons k = 4 then s.engPend (k / 4) (8 + k % 4) else s
  if s.flag F.qCtl_noticeEn (k / 4) (k % 4) then s.raiseEv (k / 1024) (s.tileTenant (k / 4)) (s.getF F.qCtl_noticeEv (k / 4) (k % 4)) else s

/-- The oldest commit reaches the consumer, and its packet is readable. Its notice is given in this cycle, and at a fabric consumer on the next edge of
its clock, the notices of several packets on consecutive ones (R197, R204). -/
def State.qVisible (s : State) (k : Nat) : State :=
  match (s.pq k).transit with
  | [] => s
  | w :: t =>
    let q := s.pq k
    if s.qCons k = 1 then s.setPQ k { q with vis := q.vis ++ w, transit := t, notices := q.notices + 1 }
    else State.qNotice (s.setPQ k { q with vis := q.vis ++ w, transit := t }) k

/-- The word as delivered: with POISON when either copy is set or its parity fails (R193, R203). -/
def QWord.deliver (w : QWord) : QWord × Bool :=
  let bad := decide ((parity 32 (w.data % 2 ^ 32) = 1) ≠ w.par0 ∨ (parity 32 (w.data / 2 ^ 32) = 1) ≠ w.par1)
  let p := w.p0 || w.p1 || bad
  ({ w with p0 := p, p1 := p }, bad)

/-- Read a word: the oldest committed one, or an empty read that presents the last word again and sets UNDERRUN (R201–R203).
A parity failure is counted in PARITY_ERRS and in the tile's group (R372). -/
def State.qRead (s : State) (k : Nat) : QWord × Bool × State :=
  let q := s.pq k
  match q.vis with
  | [] => (q.last, true, State.setF (s.setPQ k { q with cunder := true }) F.qStatus_underrun (k / 4) (k % 4) 1)
  | w :: t =>
    let (d, bad) := w.deliver
    let s := s.setPQ k { q with vis := t, freed := q.freed + 1, last := d, cunder := false, rd := (q.rd + 1) % 1024 }
    let s := if bad then
        (s.count F.qErrors_parityErrs (k / 4) (k % 4) 1).eccError .tile (k / 4) true 4 (k % 4 * 1024 + q.rd) 0 0
      else s
    (d, false, s)

/-- A lane MAC writes a whole packet into its direct queue; with no free word, or with the queue disabled, the frame is aborted and counted in DROPPED
(R199, R289, R406). DEDUCED (log entry 143): a queue that a fence or a command has disabled counts alike. -/
def State.directPush (s : State) (k : Nat) : List QWord → State
  | [] => s
  | w :: t =>
    if !s.qOn k ∨ (s.pq k).space = 0 then (s.qAbort k).count F.qErrors_dropped (k / 4) (k % 4) 1
    else State.directPush (s.qWrite k w.data w.last w.p0) k t

/-- Discard every committed word that the consumer can see (R206). -/
def State.qFlush (s : State) (k : Nat) : State :=
  let q := s.pq k
  s.setPQ k { q with vis := [], freed := q.freed + q.vis.length, rd := (q.rd + q.vis.length) % 1024 }

/-- Disable a queue: an uncommitted packet is rewound; committed packets stay readable (R53). -/
def State.qDisable (s : State) (k : Nat) : State := State.setF (s.qAbort k) F.qCtl_enable (k / 4) (k % 4) 0

/-- The registers of a queue. -/
def qRegs : List Rg := Blk.tile.regs.filter (fun r => 0xC000 ≤ r.info.off)

/-- Function reset of a queue: disabled, emptied of every word, registers at their reset values, last word zero (R202, R206). -/
def State.qReset (s : State) (k : Nat) : State :=
  let s := s.qDisable k
  let s := qRegs.foldl (fun s r => s.resetReg r (k / 4) (k % 4)) s
  s.setPQ k PQ.init

/-- The island on one side of a queue's crossing is reset: the commits still inside the crossing are discarded, words and all (R26). -/
def State.qCut (s : State) (k : Nat) : State := s.setPQ k { s.pq k with transit := [] }

/-- `qCut` of the queues of tile t that a producer or consumer of kind `kind` uses (R26, R194). -/
def State.qCutKind (s : State) (t kind : Nat) : State :=
  iter 4 (fun n s => if s.qProd (4 * t + n) = kind ∨ s.qCons (4 * t + n) = kind then s.qCut (4 * t + n) else s) s

/-! ### Network push and pop registers (R200, R205) -/

/-- A write to a push register of queue k. DESIGN CHOICE (log entry 133): Q_PUSH_LO and Q_PUSH_LAST_LO each stage a low half of their own. The write is
refused when the producer is not the network or the queue is disabled; a push of a
full queue receives REFUSED_BUSY (R200). -/
def State.qPushReg (s : State) (k : Nat) (r : Rg) (v : Nat) : State × Nat :=
  let q := s.pq k
  if s.qProd k ≠ 3 ∨ !s.qOn k then (s, svcFenced)
  else match r with
    | .qPushLo => (s.setPQ k { q with stLo := v }, svcOK)
    | .qPushLastLo => (s.setPQ k { q with stLastLo := v }, svcOK)
    | .qPushHi => if q.space = 0 then (s, svcBusy) else (s.qWrite k (q.stLo + 2 ^ 32 * v) false false, svcOK)
    | .qPushLastHi => if q.space = 0 then (s, svcBusy) else (s.qWrite k (q.stLastLo + 2 ^ 32 * v) true false, svcOK)
    | .qPushAbort => (if v % 2 = 1 then s.qAbort k else s, svcOK)
    | _ => (s, svcOK)

/-- A read of Q_POP_LO: pops a word, latches its high half and flags; refused when the consumer is not the network (R205). -/
def State.qPopReg (s : State) (k : Nat) : State × Nat × Nat :=
  if s.qCons k ≠ 3 then (s, svcFenced, 0)
  else
    let (w, under, s) := s.qRead k
    let s := s.setReg .qPopHi (k / 4) (k % 4) (w.data / 2 ^ 32)
    let s := s.setReg .qPopFlags (k / 4) (k % 4) (4 * b2n under + 2 * b2n w.last + b2n w.p0)
    (s, svcOK, w.data % 2 ^ 32)

/-- A write of Q_CTL: FLUSH flushes, ENABLE = 0 disables (R53, R206, R207). -/
def State.writeQCtl (s : State) (k v : Nat) : State :=
  let s := if bitAt v 30 then s.qFlush k else s
  let s := if bitAt v 31 then s else s.qAbort k
  s.setReg .qCtl (k / 4) (k % 4) (Rg.qCtl.written (s.reg .qCtl (k / 4) (k % 4)) v)

/-! ### Crossing between producer and consumer (R197) -/

/-- COMMIT_VISIBLE (R197, R204). -/
def execCommitVisible (t : Tile) (n : QNum) (s : State) : Out := .next (s.qVisible (4 * t.val + n.val))

/-- WORDS_FREED: the words freed by reads return to the producer (R197). -/
def execWordsFreed (t : Tile) (n : QNum) (s : State) : Out :=
  let k := 4 * t.val + n.val
  .next (s.setPQ k { s.pq k with freed := 0 })

/-! ### Event lines (R208–R211) -/

/-- A write to EV_RAISE: refused when it names a line that the writer does not own, else each named line is raised (R209). -/
def State.evRaise (s : State) (tenant w v : Nat) : State × Nat :=
  let ls := (List.range 32).filter (fun i => bitAt v i)
  if ls.any (fun i => decide (s.lineOwner (32 * w + i) ≠ tenant)) then (s, svcDenied)
  else (ls.foldl (fun s i => s.raiseEv 0 tenant (32 * w + i)) s, svcOK)

end Sys2Proof.Machine
end

