-- ==== Sys2Proof/Machine/Lanes.lean ====
section
/-! DEFINITION. The line lanes' link sequencer, rates, capability exchange, hunting, detectors, pattern test and lane commands
(17_line_lanes.md, R384–R395, R403–R408). -/

namespace Sys2Proof.Machine

/-! ### Registers of a lane -/

def State.ln (s : State) (r : Rg) (l : Nat) : Nat := s.reg r (l / 4) (l % 4)
def State.lnF (s : State) (f : FRef) (l : Nat) : Nat := s.getF f (l / 4) (l % 4)
def State.lnOn (s : State) (f : FRef) (l : Nat) : Bool := s.flag f (l / 4) (l % 4)
def State.setLn (s : State) (r : Rg) (l v : Nat) : State := s.setReg r (l / 4) (l % 4) v
def State.setLnF (s : State) (f : FRef) (l v : Nat) : State := s.setF f (l / 4) (l % 4) v
def State.lnCount (s : State) (f : FRef) (l k : Nat) : State := s.count f (l / 4) (l % 4) k

/-- Sequencer state of a lane (R391). -/
def State.lnSt (s : State) (l : Nat) : Nat := s.lnF F.lnState_state l

/-- LN_HUNT0–LN_HUNT7. -/
def huntRegs : List Rg := [.lnHunt0, .lnHunt1, .lnHunt2, .lnHunt3, .lnHunt4, .lnHunt5, .lnHunt6, .lnHunt7]

/-- An own mode hunts: FRAMED, RAW, SYSTEMLINK (R391). -/
def ownMode (m : Nat) : Bool := m = 7 || m = 8 || m = 9

/-- QUAD_STATUS: STATE, LOS, LOL and LOCK of the four lanes (R408). -/
def State.quadStatus (s : State) (q : Nat) : Nat :=
  ((List.range 4).map (fun n => (bits (s.reg .lnState q n) 31 26 * 4) * 2 ^ (8 * n))).sum

/-! ### Rates (R385, R386) -/

/-- The reference frequency that QUAD_REFFREQ states, in Hz. -/
def State.refHz (s : State) (q : Nat) : Nat := s.getF F.quadReffreq_khz q 0 * 1000

/-- f_VCO lies between 7.0 and 14.0625 GHz; `v` is f_VCO × 2^24 in Hz. -/
def vcoOk (v : Nat) : Bool := decide (7000000000 * 2 ^ 24 ≤ v) && decide (v ≤ 14062500000 * 2 ^ 24)

/-- f_VCO × 2^24 of LN_RATE and LN_RATE_F words. -/
def vcoOf (hz r f : Nat) : Nat := hz * (bits r 7 0 * 2 ^ 24 + bits f 23 0)

/-- The settings give a rate within 1.25 to 28.125 Gbit/s and an f_VCO in range (R386). -/
def rateOk (hz r f : Nat) : Bool :=
  vcoOk (vcoOf hz r f) &&
  decide (1250000000 * 2 ^ 24 * 2 ^ bits r 31 29 ≤ 2 * vcoOf hz r f) &&
  decide (2 * vcoOf hz r f ≤ 28125000000 * 2 ^ 24 * 2 ^ bits r 31 29)

/-- LN_RATE and LN_RATE_F words for a line rate in bit/s: the smallest D that places f_VCO in range, N + F / 2^24 rounded to the
nearest step (R385). -/
def ratePlan (hz rate : Nat) : Option (Nat × Nat) :=
  ((List.range 5).find? (fun d => vcoOk (2 ^ 23 * rate * 2 ^ d))).map (fun d =>
    let x := (2 ^ 24 * rate * 2 ^ d + hz) / (2 * hz)
    (d * 2 ^ 29 + x / 2 ^ 24, x % 2 ^ 24))

/-- The standard rate of a fixed Ethernet mode in bit/s (R389). -/
def stdRate : Nat → Nat
  | 1 => 1250000000
  | 2 => 1250000000
  | 3 => 3125000000
  | 4 => 10312500000
  | 5 => 25781250000
  | _ => 0

/-- The lane writes its own rate registers: the rate in use (R407). -/
def State.useRate (s : State) (l rate : Nat) : State :=
  (ratePlan (s.refHz (l / 4)) rate).elim s (fun q => (s.setLn .lnRate l q.1).setLn .lnRateF l q.2)

/-- The line rate in use, in bit/s: the hunt entry's, the standard rate, or that of LN_RATE. -/
def State.lineRate (s : State) (l : Nat) : Nat :=
  if ownMode (s.lane l).mode then bits (lget 0 (s.lane l).hunt (s.lane l).rxEntry) 24 0 * 1000
  else if s.lnF F.lnState_link l ≠ 0 then stdRate (s.lnF F.lnState_link l)
  else 2 * vcoOf (s.refHz (l / 4)) (s.ln .lnRate l) (s.ln .lnRateF l) / 2 ^ bits (s.ln .lnRate l) 31 29 / 2 ^ 24

/-- The coding in use: that of the hunt entry; otherwise 8b/10b for modes 1–3 and 64b/66b for 4 and 5. -/
def State.lineCoding (s : State) (l : Nat) : Nat :=
  if ownMode (s.lane l).mode then bits (lget 0 (s.lane l).hunt (s.lane l).rxEntry) 30 29
  else if s.lnF F.lnState_link l ≤ 3 then 0 else 1

/-! ### Sequencer moves (R391, R393, R403) -/

/-- Each change of STATE, LOS or LOL raises EV when EV_EN = 1, as a source of the quad's tenant (R403, R384). -/
def State.lnEv (s : State) (l : Nat) : State :=
  if s.lnOn F.lnCtl_evEn l then s.raiseEv (l / 48) (s.quadTenant (l / 4)) (s.lnF F.lnCtl_ev l) else s

def State.setLnSt (s : State) (l v : Nat) : State :=
  if s.lnSt l = v then s else (s.setLnF F.lnState_state l v).lnEv l

/-- LOS changes; its assertion may move the carrier to HOLDCLK (R403, R438). -/
def State.setLos (s : State) (l : Nat) (b : Bool) : State :=
  if s.lnOn F.lnState_los l = b then s
  else
    let s := (s.setLnF F.lnState_los l (b2n b)).lnEv l
    if b then s.carrierLost l else s

/-- LOL changes (R403, R438). -/
def State.setLol (s : State) (l : Nat) (b : Bool) : State :=
  if s.lnOn F.lnState_lol l = b then s
  else
    let s := (s.setLnF F.lnState_lol l (b2n b)).lnEv l
    if b then s.carrierLost l else s

/-- Valid hunt entries as of the last restart, in index order. -/
def LaneSt.entries (x : LaneSt) : List Nat := (List.range 8).filter (fun i => bitAt (lget 0 x.hunt i) 31)

/-- The valid entry after entry i, in index order and round again (R392). -/
def LaneSt.nextEntry (x : LaneSt) (i : Nat) : Nat :=
  match x.entries.find? (fun j => i < j) with
  | some j => j
  | none => x.entries.headD i

/-- The receiver tries an entry: the rate in use is the entry's. -/
def State.tryEntry (s : State) (l i : Nat) : State :=
  let s := s.setLane l { s.lane l with rxEntry := i }
  s.useRate l (bits (lget 0 (s.lane l).hunt i) 24 0 * 1000)

/-- Enter DETECT: electrical search starts afresh (R391, R392). -/
def State.enterDetect (s : State) (l : Nat) : State :=
  let x := s.lane l
  let e := x.entries.headD 0
  let s := s.setLane l { x with txOn := false, first := false, held := none, rxEntry := e, txEntry := e, valid := 0, w2 := 0, fill := 0 }
  let s := (s.setLnF F.lnState_lock l 0).setLnSt l 1
  if ownMode x.mode && !x.entries.isEmpty then s.tryEntry l e else s

/-- The bytes of a received frame that its packet stores: without the FCS where STRIP_FCS is set, and without the type byte of Systemlink (R397, R401). -/
def State.rxStored (s : State) (l : Nat) (bytes : List Byte) : List Byte :=
  let link := s.lnF F.lnState_link l
  let b := if link ≠ 8 ∧ s.lnOn F.lnMac_stripFcs l then bytes.take (bytes.length - 4) else bytes
  if link = 9 then b.drop 1 else b

/-- The MAC writes a frame into its queue: on Systemlink, one of type USER (R401). -/
def State.rxQueued (s : State) (l : Nat) (bytes : List Byte) : Bool := decide (s.lnF F.lnState_link l ≠ 9) || decide (leAt bytes 0 1 = 4)

/-- The receive packets hold stamp words: STAMP_RX is set, and the lane is not in RAW, which stamps nothing (R397). -/
def State.stampsRx (s : State) (l : Nat) : Bool := s.lnOn F.lnMac_stampRx l && decide (s.lnF F.lnState_link l ≠ 8)

/-- Words of the packet that a frame of some stored bytes becomes: descriptor, stamps, data (R397). -/
def State.rxWords (s : State) (l n : Nat) : Nat := 1 + (if s.stampsRx l then 2 else 0) + ceilDiv n 8

/-- Frames in progress when a lane stops carrying traffic: a transmit frame is ended with an error-coded end, and a receive frame
is aborted in its queue (R53, R393, R198). -/
def State.cutFrames (s : State) (l : Nat) : State :=
  let s := if (s.lane l).txBusy then s.lnCount F.lnTxCounts_errEnd l 1 else s
  let k := 4 * quadTile (l / 4) + l % 4
  let s := match (s.lane l).rxPart with
    | some b =>
      if s.qProd k = 2 ∧ s.rxQueued l b ∧ b ≠ [] then
        (s.directPush k (List.replicate (s.rxWords l (s.rxStored l (b.take (s.lnF F.lnMac_maxLen l))).length) QWord.zero)).qAbort k
      else s
    | none => s
  s.setLane l { s.lane l with txBusy := false, rxPart := none }

/-- An ACTIVE lane leaves ACTIVE: LINK_DROPS counts it (R393). -/
def State.leaveActive (s : State) (l : Nat) : State :=
  if s.lnSt l = 5 then (s.cutFrames l).lnCount F.lnState_linkDrops l 1 else s

/-- An ACTIVE lane returns to DETECT (R393). -/
def State.dropLane (s : State) (l : Nat) : State := (s.leaveActive l).enterDetect l

/-- Electrical idle: both detectors read as set, LN_PARTNER is forgotten (R391, R395, R403). -/
def State.laneOff (s : State) (l : Nat) : State :=
  let s := s.cutFrames l
  let s := (s.setLn .lnPartnerLo l 0).setLn .lnPartnerHi l 0
  let s := (s.setLnF F.lnState_lock l 0).setLnF F.lnState_link l 0
  let s := s.setLane l { s.lane l with txOn := false, valid := 0, w2 := 0, fill := 0 }
  ((s.setLnSt l 0).setLos l true).setLol l true

/-- Lanes run in RUN and HOLD, and in REST with REST_ACTIVE; elsewhere they are electrically idle (R51, R406). -/
def State.laneMode (s : State) (l : Nat) : Bool :=
  s.pw.mode = .run || s.pw.mode = .hold || (s.pw.mode = .rest && s.lnOn F.lnCtl_restActive l)

/-- Restart a lane: its staged rate, MODE, EXCH and hunt list take effect; a rate out of range leaves it in OFF with RATE_ERR
(R386, R391, R406). A lane whose ENABLE is 0, whose quad is disabled, or that must be idle in this mode stays in OFF. DEDUCED (log entry 156): so does
one whose own registers name SYSTEMLINK on a quad that T0 does not own (R401). -/
def State.restartLane (s : State) (l : Nat) : State :=
  let s := s.leaveActive l
  if !s.lnOn F.lnCtl_enable l || !s.flag F.quadCtl_enable (l / 4) 0 || !s.laneMode l then s.laneOff l
  else
    let x := s.lane l
    let s := match x.wrate with
      | some (r, f) => (s.setLn .lnRate l r).setLn .lnRateF l f
      | none => s
    let m := s.lnF F.lnCtl_mode l
    let s := s.setLane l { s.lane l with wrate := none, mode := m, exch := s.lnOn F.lnCtl_exch l, hunt := huntRegs.map (fun r => s.ln r l) }
    let s := (s.setLnF F.lnState_mismatch l 0).setLnF F.lnState_fec l 0
    let bad := decide (1 ≤ m) && decide (m ≤ 5) && !rateOk (s.refHz (l / 4)) (s.ln .lnRate l) (s.ln .lnRateF l)
    let s := s.setLnF F.lnState_rateErr l (b2n bad)
    if bad ∨ m = 0 ∨ (m = 9 ∧ s.quadTenant (l / 4) ≠ 0) then s.laneOff l else (s.setLnF F.lnState_link l 0).enterDetect l

/-- Own capability word W1 (R394). Own modes other than RAW stamp frames; SYSTEMLINK relays and transfers time. -/
def State.w1 (s : State) (l : Nat) : Nat :=
  let m := (s.lane l).mode
  1 * 2 ^ 56 + m * 2 ^ 48 + s.lineCoding l * 2 ^ 40 + s.lineRate l / 1000000 * 2 ^ 24 + b2n (m ≠ 8) * 2 ^ 18 + b2n (m = 9) * 2 ^ 17 +
  b2n (m = 9) * 2 ^ 16 + (Config.capUser l).toNat

/-- ACTIVE: the lane carries traffic (R391); its next valid heartbeat is the first (R402). -/
def State.enterActive (s : State) (l : Nat) : State :=
  ((s.setLane l { s.lane l with hbFirst := true }).setLnF F.lnState_mismatch l 0).setLnSt l 5

/-- LOCK holds: EXCHANGE, which own modes with EXCH and SGMII stay in and others pass through (R391, R401). -/
def State.enterExchange (s : State) (l : Nat) : State :=
  let x := s.lane l
  let s := (s.setLnF F.lnState_lock l 1).setLnSt l 4
  if ownMode x.mode then
    let s := (s.setLn .lnCapLo l (s.w1 l % 2 ^ 32)).setLn .lnCapHi l (s.w1 l / 2 ^ 32)
    if x.exch || x.mode = 9 then s.setLane l { s.lane l with valid := 0, w2 := 0 } else s.enterActive l
  else if s.lnF F.lnState_link l = 2 then s
  else s.enterActive l

/-- TRAIN: 10GBASE-KR, 25GBASE-KR and own modes wait for its end; other modes take no time (R391). A resolved or fixed
10GBASE-KX4 bonds its quad (R389, R408). -/
def State.enterTrain (s : State) (l link fec : Nat) : State :=
  let s := (s.setLnF F.lnState_link l link).setLnF F.lnState_fec l fec
  let s := if link = 3 then s.setF F.quadCtl_kx4 (l / 4) 0 1 else if l % 4 = 0 then s.setF F.quadCtl_kx4 (l / 4) 0 0 else s
  let s := s.setLnSt l 2
  if link = 1 ∨ link = 2 ∨ link = 3 then s.setLnSt l 3 else s

/-! ### Events of the sequencer -/

/-- RECEIVER_DETECT: a pulse finds a receiver or none; the lane transmits once it has found one (R391). -/
def execReceiverDetect (l : Lane) (found : Bool) (s : State) : Out :=
  .next (if s.lnSt l = 1 then s.setLane l { s.lane l with txOn := (s.lane l).txOn || found } else s)

/-- LOS_ASSERT (R403, R393). -/
def execLosAssert (l : Lane) (s : State) : Out :=
  .next (if s.lnSt l = 0 then s else
    let s := s.setLos l true
    if s.lnSt l = 5 then s.dropLane l else s)

/-- LOS_DEASSERT (R403): the detectors are off in OFF. -/
def execLosDeassert (l : Lane) (s : State) : Out := .next (if s.lnSt l = 0 then s else s.setLos l false)

/-- LOL_ASSERT (R403, R393). -/
def execLolAssert (l : Lane) (s : State) : Out :=
  .next (if s.lnSt l = 0 then s else
    let s := s.setLol l true
    if s.lnSt l = 5 then s.dropLane l else s)

/-- LOL_DEASSERT (R403). -/
def execLolDeassert (l : Lane) (s : State) : Out := .next (if s.lnSt l = 0 then s else s.setLol l false)

/-- LOS_CLEAR_HELD: a fixed Ethernet mode leaves DETECT (R391). No rule selects an FEC outside auto-negotiation: none is used. -/
def execLosClearHeld (l : Lane) (s : State) : Out :=
  let m := (s.lane l).mode
  .next (if s.lnSt l = 1 ∧ 1 ≤ m ∧ m ≤ 5 ∧ !s.lnOn F.lnState_los l then s.enterTrain l m 0 else s)

/-- HUNT_DWELL_END: a trial's dwell ends, or the further dwell of a match (R392). -/
def execHuntDwellEnd (l : Lane) (matched : Bool) (s : State) : Out :=
  let x := s.lane l
  .next (if s.lnSt l = 1 ∧ ownMode x.mode ∧ !x.entries.isEmpty then
    (match x.held with
     | some e =>
       if matched then (s.setLane l { x with held := none }).enterTrain l x.mode 0
       else State.tryEntry (s.setLane l { x with held := none }) l (x.nextEntry e)
     | none =>
       if matched then State.setLnF (s.setLane l { x with first := true, held := some x.rxEntry, txEntry := x.rxEntry }) F.lnState_hunt l x.rxEntry
       else s.tryEntry l (x.nextEntry x.rxEntry))
  else s)

/-- HUNT_TX_STEP: until the first match of this visit the transmitter moves to the next entry (R392). -/
def execHuntTxStep (l : Lane) (s : State) : Out :=
  let x := s.lane l
  .next (if s.lnSt l = 1 ∧ ownMode x.mode ∧ !x.first then s.setLane l { x with txEntry := x.nextEntry x.txEntry } else s)

/-- What auto-negotiation may resolve with the abilities `a` of LN_AN: 1000BASE-KX, 10GBASE-KR and 25GBASE-KR where it advances them, 10GBASE-KX4 on
lane 0 of its quad; Clause 74 FEC with 10GBASE-KR only when F0 is advanced, Clause 108 with 25GBASE-KR only (R389, R390). DEDUCED (log entry 157). -/
def anResolves (a lane mode fec : Nat) : Bool :=
  match mode with
  | 1 => bitAt a 4 && fec = 0
  | 3 => bitAt a 5 && fec = 0 && lane = 0
  | 4 => bitAt a 6 && (fec = 0 || (fec = 1 && bitAt a 0))
  | 5 => bitAt a 7 || bitAt a 8
  | _ => false

/-- A lane leaves DETECT as auto-negotiation resolves it. -/
def State.anResolve (s : State) (l mode fec : Nat) : State := (s.useRate l (stdRate mode)).enterTrain l mode fec

/-- AN_COMPLETE: Clause 73 or parallel detection resolves mode 1, 3, 4 or 5 and the FEC. 10GBASE-KX4 resolves on lane 0 for its quad: the other lanes
that negotiate follow (R390, R391). -/
def execAnComplete (l : Lane) (mode : Fin 16) (fec : Fin 3) (s : State) : Out :=
  .next (if s.lnSt l = 1 ∧ (s.lane l).mode = 6 ∧ anResolves (s.lnF F.lnAn_abil l) (l.val % 4) mode fec then
    let s := s.anResolve l mode fec
    if mode.val = 3 then iter 3 (fun n s =>
      if s.lnSt (l.val + n + 1) = 1 ∧ (s.lane (l.val + n + 1)).mode = 6 then s.anResolve (l.val + n + 1) 3 0 else s) s
    else s
  else s)

/-- A partner's request steps a tap of LN_TXEQ by one: 0 PRE, 1 POST, 2 MAIN; at the end of a range, and where the sum of the taps would pass 63, it
stays (R387). -/
def stepTap (w : Nat) (q : Fin 3 × Bool) : Nat :=
  let (hi, lo, least, most) : Nat × Nat × Nat × Nat := match q.1.val with | 0 => (19, 16, 0, 15) | 1 => (12, 8, 0, 31) | _ => (5, 0, 16, 63)
  let v := bits w hi lo
  if q.2 then (if v < most ∧ bits w 19 16 + bits w 5 0 + bits w 12 8 < 63 then setBits w hi lo (v + 1) else w)
  else if least < v then setBits w hi lo (v - 1) else w

/-- LINK_TRAINING_DONE: training, in which the partner's requests stepped the taps, or the receiver adaptation of an own mode, ends (R387, R391). -/
def execLinkTrainingDone (l : Lane) (steps : List (Fin 3 × Bool)) (s : State) : Out :=
  .next (if s.lnSt l = 2 then
    let s := if s.lnF F.lnState_link l = 4 ∨ s.lnF F.lnState_link l = 5 then s.setLn .lnTxeq l (steps.foldl stepTap (s.ln .lnTxeq l)) else s
    s.setLnSt l 3
  else s)

/-- TRAINING_TIMEOUT: the 500 ms wait timer of Clause 72 or Clause 93 ends (R391). -/
def execTrainingTimeout (l : Lane) (s : State) : Out :=
  .next (if s.lnSt l = 2 ∧ (s.lnF F.lnState_link l = 4 ∨ s.lnF F.lnState_link l = 5) then s.enterDetect l else s)

/-- LOCK_ACQUIRED (R391). -/
def execLockAcquired (l : Lane) (s : State) : Out := .next (if s.lnSt l = 3 ∧ !s.lnOn F.lnState_lol l then s.enterExchange l else s)

/-- LOCK_TIMEOUT: 1 ms without lock (R391). -/
def execLockTimeout (l : Lane) (s : State) : Out := .next (if s.lnSt l = 3 then s.enterDetect l else s)

/-- The bits of a 64-bit word, most significant first. -/
def wordBits (w : Nat) : List Bool := (List.range 64).map (fun i => bitAt w (63 - i))

/-- The marker and CRC of a capability block hold (R394). -/
def capOk (w0 w1 w2 w3 : Nat) : Bool :=
  decide (w0 = 0xA5A55A5A0F0FF0F0) && decide (w3 = crcBits (wordBits w0 ++ wordBits w1 ++ wordBits w2) * 2 ^ 32)

/-- CAPABILITY_BLOCK (R394, R395). -/
def execCapabilityBlock (l : Lane) (w0 w1 w2 w3 : Word64) (s : State) : Out :=
  let x := s.lane l
  .next (if s.lnSt l = 4 ∧ ownMode x.mode then
    if !capOk w0.toNat w1.toNat w2.toNat w3.toNat then s.setLane l { x with valid := 0 }
    else
      let s := (s.setLn .lnPartnerLo l (w1.toNat % 2 ^ 32)).setLn .lnPartnerHi l (w1.toNat / 2 ^ 32)
      let own := s.w1 l
      let v := if w2.toNat = own then x.valid + 1 else 0
      let s := s.setLane l { x with w2 := w1.toNat, valid := v }
      if bits w1.toNat 55 24 ≠ bits own 55 24 then (s.setLnF F.lnState_mismatch l 1).enterDetect l
      else if 3 ≤ v then s.enterActive l
      else s
  else s)

/-- EXCHANGE_TIMEOUT: EXCHANGE does not end within 10 ms (R391). -/
def execExchangeTimeout (l : Lane) (s : State) : Out := .next (if s.lnSt l = 4 then s.enterDetect l else s)

/-- SGMII_AN_COMPLETE (R391). -/
def execSgmiiAnComplete (l : Lane) (s : State) : Out :=
  .next (if s.lnSt l = 4 ∧ s.lnF F.lnState_link l = 2 then s.enterActive l else s)

/-- HI_BER: symbol lock is lost or hi_ber is entered; RAW does not check its lock (R393). -/
def execHiBer (l : Lane) (s : State) : Out := .next (if s.lnSt l = 5 ∧ (s.lane l).mode ≠ 8 then s.dropLane l else s)

/-! ### Register writes (R387, R405–R408) -/

/-- Disable a lane (R53). -/
def State.disableLane (s : State) (l : Nat) : State := (s.setLnF F.lnCtl_enable l 0).laneOff l

/-- Enable a lane: with a profile applied it restarts at DETECT in RUN (R391, R474). -/
def State.enableLane (s : State) (l : Nat) : State :=
  let s := s.setLnF F.lnCtl_enable l 1
  if (s.lane l).profile then s.restartLane l else s

/-- Write LN_CTL: ENABLE disables or enables, RESTART restarts (R393, R406). -/
def State.writeLnCtl (s : State) (l v : Nat) : State :=
  let was := s.lnOn F.lnCtl_enable l
  let s := s.setLn .lnCtl l (Rg.lnCtl.written (s.ln .lnCtl l) v)
  if !bitAt v 31 then s.disableLane l
  else if bitAt v 30 then s.restartLane l
  else if was then s else s.enableLane l

/-! ### Pattern test (R405) -/

/-- Length of the register of a pattern, and its second tap; the user pattern repeats after 64 bits (R405). -/
def patOrder (p : Nat) : Nat × Nat :=
  match p with
  | 0 => (7, 6)
  | 1 => (15, 14)
  | 2 => (23, 18)
  | 3 => (31, 28)
  | _ => (64, 64)

/-- The bit that follows the bits `h`, newest first (R405). -/
def patNext (p : Nat) (h : List Bool) : Bool :=
  let (n, t) := patOrder p
  if p = 4 then h.getD 63 false else h.getD (n - 1) false != h.getD (t - 1) false

/-- The next n bits of a pattern, in order, and the last bits after them. -/
def patRun (p : Nat) : Nat → List Bool → List Bool × List Bool
  | 0, h => ([], h)
  | n + 1, h =>
    let b := patNext p h
    let (l, h') := patRun p n ((b :: h).take (patOrder p).1)
    (b :: l, h')

/-- The number whose bit i is element i of a list. -/
def bitsNat (l : List Bool) : Nat := l.foldr (fun b a => b2n b + 2 * a) 0

/-- Bits of bytes, bit 0 of each first. -/
def lineBits (l : List Byte) : List Bool := (l.map (fun b => (List.range 8).map (fun i => b.getLsbD i))).flatten

/-- The bits lie on the pattern: a pseudo-random sequence is never all zeros, and the user pattern may begin at any bit of `user`. -/
def onPattern (p user : Nat) (h : List Bool) : Bool :=
  if p = 4 then (List.range 64).any (fun k => decide (h.drop k ++ h.take k = wordBits user)) else h.any id

/-- One received bit: the checker locks after 64 correct bits in a row and loses lock after 16 errors within 1,024 bits; the answer holds its lock and
whether the bit is an error that ERRORS counts (R405). DESIGN CHOICE (log entry 158): unlocked it expects what the received bits before give, locked
what its own expected bits give. -/
def Checker.step (c : Checker) (p user : Nat) (lock b : Bool) : Checker × Bool × Bool :=
  let n := (patOrder p).1
  let e := patNext p c.hist
  if lock then
    let errs := (if b = e then [] else [0]) ++ (c.errs.map (· + 1)).filter (fun a => decide (a < 1024))
    if b ≠ e ∧ 16 ≤ errs.length then (Checker.init, false, true) else (⟨(e :: c.hist).take n, 0, errs⟩, true, b != e)
  else
    let right := decide (c.hist.length = n) && b = e && (decide (0 < c.good) || onPattern p user c.hist)
    let good := if right then c.good + 1 else 0
    if 64 ≤ good then (⟨(b :: c.hist).take n, 0, []⟩, true, false) else (⟨(b :: c.hist).take n, good, c.errs⟩, false, false)

/-- Received bits in a row: the checker, its lock, and the errors counted. -/
def Checker.run (p user : Nat) : List Bool → Checker → Bool → Nat → Checker × Bool × Nat
  | [], c, lock, n => (c, lock, n)
  | b :: l, c, lock, n =>
    match c.step p user lock b with
    | (c, lock, e) => Checker.run p user l c lock (n + b2n e)

def State.userPat (s : State) (l : Nat) : Nat := s.ln .lnUserpatLo l + 2 ^ 32 * s.ln .lnUserpatHi l

/-- Bits received in TEST with CHK_EN: CHK_LOCK and ERRORS (R405). -/
def State.checkBits (s : State) (l : Nat) (bs : List Bool) : State :=
  if !s.lnOn F.lnTest_chkEn l then s
  else
    let inv := s.lnOn F.lnTest_invert l
    let (c, lock, n) := Checker.run (s.lnF F.lnTest_pattern l) (s.userPat l) (bs.map (· != inv)) (s.lane l).chk (s.lnOn F.lnTest_chkLock l) 0
    ((s.setLane l { s.lane l with chk := c }).setLnF F.lnTest_chkLock l (b2n lock)).lnCount F.lnTestErr_errors l n

/-- The generator sends its next 64-bit word, with the injected errors that wait (R405). -/
def State.genSend (s : State) (l : Nat) : State :=
  if !s.lnOn F.lnTest_genEn l then s
  else
    let p := s.lnF F.lnTest_pattern l
    let (bs, h) := if p = 4 then ((wordBits (s.userPat l)).reverse, (s.lane l).gen) else patRun p 64 (s.lane l).gen
    s.setLane l { s.lane l with
      sent := leBytes 8 (bitsNat (bs.map (· != s.lnOn F.lnTest_invert l)))
      gen := h
      flips := (s.lane l).inject
      inject := 0 }

/-- The test starts: the checker is not locked, and the pseudo-random generator begins at a bit of its sequence that the manual does not state, a free
value (R405). -/
def State.testStart (s : State) (l : Nat) : State :=
  let n := (patOrder (s.lnF F.lnTest_pattern l)).1
  let v := (Config.freeWord s.free).toNat % (2 ^ n - 1) + 1
  let s := { s with free := s.free + 1 }
  (s.setLane l { s.lane l with gen := (List.range n).map (fun i => bitAt v i), chk := Checker.init }).setLnF F.lnTest_chkLock l 0

/-- Write LN_TEST: GEN_EN or CHK_EN moves the lane to TEST, clearing both moves it out; INJECT and BURST wait for the next word
sent (R405). DEDUCED (log entry 149): a lane that must be idle in this mode stays in OFF (R32, R51, R406). -/
def State.writeLnTest (s : State) (l v : Nat) : State :=
  let old := s.ln .lnTest l
  let s := s.setLn .lnTest l (Rg.lnTest.written old v)
  let x := s.lane l
  let inj := Nat.xor (b2n (bitAt v 24)) (if bitAt v 23 then 2 ^ (bits v 21 16 + 1) - 1 else 0)
  let s := if bitAt v 24 ∨ bitAt v 23 then s.setLane l { x with inject := inj } else s
  if bits v 31 30 ≠ 0 then
    (if !s.laneMode l then s
     else if s.lnSt l = 6 then (if bits old 31 30 = bits v 31 30 ∧ bits old 28 26 = bits v 28 26 then s else s.testStart l)
     else ((s.leaveActive l).testStart l).setLnSt l 6)
  else if s.lnSt l = 6 then (s.setLnF F.lnTest_chkLock l 0).restartLane l else s

/-- Disable a quad: each lane as a lane disable (R53). -/
def State.disableQuad (s : State) (q : Nat) : State :=
  iter 4 (fun n s => s.laneOff (4 * q + n)) (s.setF F.quadCtl_enable q 0 0)

/-- Enable a quad: its enabled lanes with a profile start again (R391). -/
def State.enableQuad (s : State) (q : Nat) : State :=
  let was := s.flag F.quadCtl_enable q 0
  let s := s.setF F.quadCtl_enable q 0 1
  if was then s
  else iter 4 (fun n s => if s.lnOn F.lnCtl_enable (4 * q + n) && (s.lane (4 * q + n)).profile then s.restartLane (4 * q + n) else s) s

/-- Every lane of the quad is OFF. -/
def State.quadOff (s : State) (q : Nat) : Bool := (List.range 4).all (fun n => s.lnSt (4 * q + n) = 0)

/-- Write QUAD_CTL: REFSEL and SYSEL stay while any lane is not OFF (R406); ENABLE disables or enables the quad. -/
def State.writeQuadCtl (s : State) (q v : Nat) : State :=
  let s := if s.quadOff q then (s.setF F.quadCtl_refsel q 0 (bits v 1 0)).setF F.quadCtl_sysel q 0 (bits v 4 2) else s
  if bitAt v 31 then s.enableQuad q else s.disableQuad q

/-- Write QUAD_REFFREQ (R406). -/
def State.writeReffreq (s : State) (q v : Nat) : State := if s.quadOff q then s.setF F.quadReffreq_khz q 0 (bits v 18 0) else s

/-- Write LN_TXEQ: unchanged while Clause 72 or Clause 93 training runs (R387). -/
def State.writeTxeq (s : State) (l v : Nat) : State :=
  if s.lnSt l = 2 ∧ (s.lnF F.lnState_link l = 4 ∨ s.lnF F.lnState_link l = 5) then s
  else s.setLn .lnTxeq l (Rg.lnTxeq.written (s.ln .lnTxeq l) v)

/-- Write LN_RATE or LN_RATE_F: it takes effect at the next restart (R406). -/
def State.writeRate (s : State) (l : Nat) (frac : Bool) (v : Nat) : State :=
  let x := s.lane l
  let (r, f) := x.wrate.getD (s.ln .lnRate l, s.ln .lnRateF l)
  s.setLane l { x with wrate := some (if frac then (r, bits v 23 0) else (bits v 31 29 * 2 ^ 29 + bits v 7 0, f)) }

/-- A read of LN_TXSTAMP_NS pops the oldest stamp and latches its other fields (R399). -/
def State.popStamp (s : State) (l : Nat) : State × Nat :=
  match (s.lane l).stamps with
  | [] => (s.setLnF F.lnTxstampStatus_valid l 0, 0)
  | t :: r =>
    let s := s.setLane l { s.lane l with stamps := r }
    let s := (s.setLn .lnTxstampSecLo l (t.sec % 2 ^ 32)).setLn .lnTxstampSecHi l (t.frac * 65536 + t.sec / 2 ^ 32)
    let s := (s.setLnF F.lnTxstampStatus_valid l 1).setLnF F.lnTxstampStatus_tk l t.tk
    (s.setLnF F.lnTxstampStatus_id l t.id, t.ns)

/-! ### Profiles, modes, resets (R51, R54, R406, R407, R502, R503) -/

/-- Register k of a profile value. -/
def profWord (v : List Byte) (k : Nat) : Nat := leAt v (4 * k) 4

/-- Write a lane part of a profile: every value, then ENABLE; the lane restarts at DETECT. A fixed Ethernet mode's LN_RATE is
computed from its standard rate (R406, R407). -/
def State.applyProfile (s : State) (l : Nat) (v : List Byte) : State :=
  let s := (s.leaveActive l).laneOff l
  let s := profileRegs.zipIdx.foldl (fun s q =>
    if q.1 = .lnRate ∨ q.1 = .lnRateF then s
    else s.setLn q.1 l (q.1.written (s.ln q.1 l) (profWord v q.2))) (s.setLnF F.lnCtl_enable l 0)
  let m := s.lnF F.lnCtl_mode l
  let rate : Option (Nat × Nat) :=
    if 1 ≤ m ∧ m ≤ 5 then ratePlan (s.refHz (l / 4)) (stdRate m) else some (profWord v 1, profWord v 2)
  let s := s.setLane l { s.lane l with profile := true, wrate := rate }
  State.restartLane (s.setLnF F.lnCtl_enable l 1) l

/-- Write the quad part of a quad profile (R407, R502). -/
def State.applyQuadPart (s : State) (q : Nat) (v : List Byte) : State :=
  if v.length = 76 ∧ s.quadOff q then
    ((s.setF F.quadCtl_refsel q 0 (bits (profWord v 17) 1 0)).setF F.quadCtl_sysel q 0 (bits (profWord v 17) 4 2)).writeReffreq q (profWord v 18)
  else s

/-- MODE of a profile. -/
def profMode (v : List Byte) : Nat := bits (profWord v 0) 27 24

/-- LANE_APPLY on lanes `ns` of quad q, after its checks. -/
def State.applyLanes (s : State) (q : Nat) (ns : List Nat) (v : List Byte) : State :=
  let s := ns.foldl (fun s n => (s.leaveActive (4 * q + n)).laneOff (4 * q + n)) s
  let s := s.applyQuadPart q v
  ns.foldl (fun s n => s.applyProfile (4 * q + n) v) s

/-- At the first entry to RUN after a boot, every lane takes its assigned profile; an absent one leaves it OFF with an alarm of
code 3 (R499, R503). SYSTEMLINK stays on T0's quads (R401). -/
def State.applyAssigned (s : State) : State :=
  iter 192 (fun l s =>
    let p := leAt (s.bootSetting 0x0031 (l / 4)) (2 * (l % 4)) 2
    if p = 0xFFFF ∨ (s.bootSetting 0x0031 (l / 4)).isEmpty then s
    else
      let v := s.setting 0x0030 p
      if v.isEmpty ∨ 256 ≤ p then s.alarm 255 3 (0x0030 * 2 ^ 32 + p * 65536) 0 (srcOf .quad (l / 4))
      else if profMode v = 9 ∧ s.quadTenant (l / 4) ≠ 0 then s
      else s.applyLanes (l / 4) [l % 4] v) s

/-- On entry to REST, a lane without REST_ACTIVE goes to OFF (R406). -/
def State.lanesRest (s : State) : State :=
  iter 192 (fun l s => if s.lnSt l = 0 || s.lnOn F.lnCtl_restActive l then s else s.laneOff l) s

/-- On the return to RUN, lanes in OFF that are enabled with a profile restart at DETECT (R406). -/
def State.lanesRun (s : State) : State :=
  iter 192 (fun l s =>
    if s.lnSt l = 0 && s.lnOn F.lnCtl_enable l && (s.lane l).profile && !s.lnOn F.lnState_rateErr l then s.restartLane l else s) s

/-- Electrical idle on every lane (R51). -/
def State.lanesIdle (s : State) : State := iter 192 (fun l s => if s.lnSt l = 0 then s else s.laneOff l) s

/-- The registers of lane n of a quad. -/
def laneRegs : List Rg := Blk.quad.regs.filter (fun r => 0x1000 ≤ r.info.off)

/-- Function reset of a lane: disabled, registers at their reset values, no profile (R54, R406). DESIGN CHOICE (log entry 119): its side of the direct
queue's crossing is reset with it (R26). -/
def State.resetLane (s : State) (l : Nat) : State :=
  let s := s.disableLane l
  let s := laneRegs.foldl (fun s r => s.resetReg r (l / 4) (l % 4)) s
  let k := 4 * quadTile (l / 4) + l % 4
  let s := if s.qProd k = 2 ∨ s.qCons k = 2 then s.qCut k else s
  s.setLane l LaneSt.init

/-- Function reset of a quad; its tenant stays as settings name it. The quad is one island: what is inside its direct queues' crossings is
discarded (R26). -/
def State.resetQuad (s : State) (q : Nat) : State :=
  let t := s.quadTenant q
  let s := State.qCutKind (iter 4 (fun n s => s.resetLane (4 * q + n)) (s.disableQuad q)) (quadTile q) 2
  let s := (s.resetReg .quadCtl q 0).resetReg .quadReffreq q 0
  s.setF F.quadCtl_tenant q 0 t

/-! ### Commands (R484) -/

def cmdLaneApply : Body := fun c s =>
  match laneTarget (c.num 0 1) (c.num 1 1) with
  | none => refuse s 0x10
  | some (q, ns) =>
    let inl := c.pay.drop 8
    let v := if c.num 2 1 = 0 then s.setting 0x0030 (c.num 4 2) else inl
    if c.tenant ≠ s.quadTenant q then refuse s 0x12
    else if v.isEmpty || !profileOk v then refuse s 0x10
    else if profMode v = 9 ∧ s.quadTenant q ≠ 0 then refuse s 0x12
    else (s.applyLanes q ns v, .done 0 [])

def cmdLaneStatus : Body := fun c s =>
  let l := c.num 0 1
  if c.tenant ≠ s.quadTenant (l / 4) then refuse s 0x12
  else (s, .done 0 (([.lnState, .lnPartnerLo, .lnPartnerHi, .lnRxCounts, .lnTxCounts, .lnRmCounts, .lnFecCounts].map
    (fun r => leBytes 4 (s.ln r l))).flatten))

def cmdLaneRestart : Body := fun c s =>
  let l := c.num 0 1
  if c.tenant ≠ s.quadTenant (l / 4) then refuse s 0x12 else (s.restartLane l, .done 0 [])

def cmdLaneDisable : Body := fun c s =>
  match laneTarget (c.num 0 1) (c.num 1 1) with
  | none => refuse s 0x10
  | some (q, ns) =>
    if c.tenant ≠ s.quadTenant q then refuse s 0x12
    else if c.num 0 1 = 1 then (s.disableQuad q, .done 0 [])
    else (ns.foldl (fun s n => s.disableLane (4 * q + n)) s, .done 0 [])

def cmdLaneTest : Body := fun c s =>
  let l := c.num 0 1
  let a := c.num 1 1
  if c.tenant ≠ s.quadTenant (l / 4) then refuse s 0x12
  else
    let en := if a ≤ 3 then a % 2 * 2 ^ 31 + a / 2 * 2 ^ 30 else bits (s.ln .lnTest l) 31 30 * 2 ^ 30
    let w := en + c.num 3 1 * 2 ^ 29 + c.num 2 1 * 2 ^ 26 + b2n (a = 4) * 2 ^ 24 + b2n (a = 5) * 2 ^ 23 + c.num 4 1 * 2 ^ 16
    let s := s.writeLnTest l w
    (s, .done 0 (leBytes 4 (s.ln .lnTestErr l) ++ leBytes 1 (s.lnF F.lnTest_chkLock l)))

/-- LANE_APPLY (R407, R484). -/
def execLaneApply (p : Port) (m : Mbox) (s : State) : Out := .next (takeMailbox 0x0400 cmdLaneApply p m s)
/-- LANE_STATUS (R484). -/
def execLaneStatus (p : Port) (m : Mbox) (s : State) : Out := .next (takeMailbox 0x0401 cmdLaneStatus p m s)
/-- LANE_RESTART (R393, R484). -/
def execLaneRestart (p : Port) (m : Mbox) (s : State) : Out := .next (takeMailbox 0x0402 cmdLaneRestart p m s)
/-- LANE_DISABLE (R53, R484). -/
def execLaneDisable (p : Port) (m : Mbox) (s : State) : Out := .next (takeMailbox 0x0403 cmdLaneDisable p m s)
/-- LANE_TEST (R405, R484). -/
def execLaneTest (p : Port) (m : Mbox) (s : State) : Out := .next (takeMailbox 0x0404 cmdLaneTest p m s)

end Sys2Proof.Machine
end

