-- ==== Sys2Proof/Machine/Seams.lean ====
section
/-! DEFINITION. The seams: roll call, training and repair at boot, transfer units, faults in the field and seam reset
(03_seams.md, R55–R84). -/

namespace Sys2Proof.Machine

/-! ### LOCKOUT (R35, R37, R104) -/

/-- Enter LOCKOUT: lanes idle (R51), FOUL_N low by the mode, and the load report names the cause where none is named yet, and the die where no load has failed
before. -/
def State.lockout (s : State) (cause die : Nat) : State :=
  let s := { s with pw.lockoutFrom := s.pw.mode }
  let s := if s.ld.repCause = 0 then { s with ld.repCause := cause, ld.repDie := if s.ld.fellBack then s.ld.repDie else die } else s
  State.lanesIdle (s.setMode .lockout)

/-! ### Seam numbers (R55) -/

/-- The seam of a die's port, in the order S01, S23, S02, S13 (R60). -/
def seamOf (d p : Nat) : Nat := if p = 0 then d / 2 else 2 + d % 2

/-- The dies and the port of a seam. -/
def seamEnds (m : Nat) : Nat × Nat × Nat :=
  match m with
  | 0 => (0, 1, 0)
  | 1 => (2, 3, 0)
  | 2 => (0, 2, 1)
  | _ => (1, 3, 1)

/-- Key of a fabric or flex bundle (R72). -/
def fkey (m c b : Nat) : Nat := (m * 16 + c) * 64 + b

/-- Ones of a 16-bit map. -/
def ones16 (m : Nat) : Nat := ((List.range 16).filter (bitAt m)).length

/-- Record the first start fault of a die (R84). -/
def State.seamFault (s : State) (d code port c b w : Nat) : State :=
  if s.getF F.seamFault_code d 0 ≠ 0 then s
  else s.setReg .seamFault d 0 (code * 2 ^ 24 + port * 2 ^ 23 + c * 2 ^ 14 + b * 256 + w)

/-! ### Roll call (R68–R70) -/

def State.roll (s : State) (d : Nat) : RollDie := tget RollDie.init s.seams.roll d
def State.setRoll (s : State) (d : Nat) (r : RollDie) : State := { s with seams.roll := tput RollDie.init s.seams.roll d r }
def RollDie.out (r : RollDie) (p : Nat) : List (BitVec 288) := if p = 0 then r.outX else r.outY
def RollDie.ans (r : RollDie) (p : Nat) : Option Nat := if p = 0 then r.ansX else r.ansY

/-- Fields of a roll-call payload (R69). -/
def rollKind (w : BitVec 288) : Nat := bits w.toNat 287 280
def rollTo (w : BitVec 288) : Nat := bits w.toNat 271 264
def rollSilicon (w : BitVec 288) : Nat := bits w.toNat 255 192
def rollCaptain (w : BitVec 288) : Nat := bits w.toNat 191 128

/-- A roll-call payload (R69). -/
def rollPay (kind from' to' port silicon captain : Nat) : BitVec 288 :=
  BitVec.ofNat 288 (kind * 2 ^ 280 + from' * 2 ^ 272 + to' * 2 ^ 264 + port * 2 ^ 256 + silicon % 2 ^ 64 * 2 ^ 192 + captain % 2 ^ 64 * 2 ^ 128)

/-- The ROLL payload that reaches a receiver in replicated mode: that of the first of its copies whose CRC is correct (R69). -/
def rollUnit (copies : List (BitVec 336)) : Option (BitVec 288) := (firstCopy 3 copies).map (fun u => BitVec.ofNat 288 (unitPay u))

/-- Die d sends a ROLL unit by port p. -/
def State.rollSend (s : State) (d p : Nat) (w : BitVec 288) : State :=
  let r := s.roll d
  s.setRoll d (if p = 0 then { r with outX := r.outX ++ [w] } else { r with outY := r.outY ++ [w] })

/-- Die d has sent a ROLL unit of this kind by port p. -/
def RollDie.sent (r : RollDie) (p kind : Nat) : Bool := (r.out p).any (fun w => rollKind w = kind)

/-- Roll call runs: step 2 of BOOT, not yet ended. -/
def State.rolling (s : State) : Bool := s.pw.mode = .boot && s.pw.step = 2 && !s.seams.rollDone

def silicon (d : Nat) : Nat := (Config.siliconId d).toNat

/-- The captain starts roll call: CALL with TO_DIE = 1 from its X port and with TO_DIE = 2 from its Y port (R70 step 1); its own SEAM_IDENT names
it. -/
def State.startRoll (s : State) : State :=
  let s := s.setRoll 0 { RollDie.init with numbered := some 0 }
  let s := (s.rollSend 0 0 (rollPay 1 0 1 0 (silicon 0) (silicon 0))).rollSend 0 1 (rollPay 1 0 2 1 (silicon 0) (silicon 0))
  s.setF F.seamIdent_captain 0 0 1

/-- ROLL_CALL: a CALL that the die across port p has sent reaches die d; the die takes the number and answers, and dies 1 and 2 call die 3 (R70 steps
2–4). -/
def execRollCall (d : Die) (p : Fin 2) (copies : List (BitVec 336)) (s : State) : Out :=
  .next (match rollUnit copies with
    | none => s
    | some w =>
      if s.rolling && decide (rollKind w = 1) && ((s.roll (across d p)).out p).contains w then
        let n := rollTo w
        let s := s.setRoll d { s.roll d with numbered := some n }
        let s := s.rollSend d p (rollPay 2 n n p (silicon d) (rollCaptain w))
        let s := if n = 1 then s.rollSend d 1 (rollPay 1 1 3 1 (silicon d) (rollCaptain w))
          else if n = 2 then s.rollSend d 0 (rollPay 1 2 3 0 (silicon d) (rollCaptain w)) else s
        s.setF F.seamIdent_die d 0 n
      else s)

/-- ROLL_ANSWER: an ANSWER reaches die d, which has sent a CALL by port p; die 1 and die 2 relay die 3's identifier to the captain (R70). -/
def execRollAnswer (d : Die) (p : Fin 2) (copies : List (BitVec 336)) (s : State) : Out :=
  .next (match rollUnit copies with
    | none => s
    | some w =>
      let n := (s.roll (across d p)).numbered
      if s.rolling && decide (rollKind w = 2) && decide (some (rollTo w) = n) && (s.roll d).sent p 1 then
        let r := s.roll d
        let s := s.setRoll d (if p.val = 0 then { r with ansX := some (rollSilicon w) } else { r with ansY := some (rollSilicon w) })
        if n = some 3 then s.rollSend d (1 - p.val) (rollPay 3 (r.numbered.getD 0) 0 (1 - p.val) (rollSilicon w) (rollCaptain w)) else s
      else s)

/-- The captain has two RELAY units: it sends CONFIRM to dies 1 and 2 by the port that faces each and to die 3 by both, or, when the identifiers
differ, the device enters LOCKOUT with DIE3_MISMATCH (R70). DESIGN CHOICE (log entry 94): the port of the CONFIRM to die 3. -/
def State.relayed (s : State) : State :=
  match s.seams.relay1, s.seams.relay2 with
  | some a, some b =>
    if a = b then
      let c (to' port : Nat) : BitVec 288 := rollPay 4 0 to' port (silicon 0) (silicon 0)
      (((s.rollSend 0 0 (c 1 0)).rollSend 0 0 (c 3 0)).rollSend 0 1 (c 2 1)).rollSend 0 1 (c 3 1)
    else (s.seamFault 0 2 0 0 0 0).lockout 2 0
  | _, _ => s

/-- ROLL_RELAY: a RELAY unit that die 1 (src 0) or die 2 (src 1) has sent reaches the captain (R70). -/
def execRollRelay (src : Fin 2) (copies : List (BitVec 336)) (s : State) : Out :=
  .next (match rollUnit copies with
    | none => s
    | some w =>
      if s.rolling && decide (rollKind w = 3) && ((s.roll (src.val + 1)).out src).contains w then
        State.relayed (if src.val = 0 then { s with seams.relay1 := some (rollSilicon w) } else { s with seams.relay2 := some (rollSilicon w) })
      else s)

/-- A CONFIRM of the captain reaches die n. -/
def State.confirms (s : State) (n : Nat) (copies : List (BitVec 336)) : Bool :=
  match rollUnit copies with
  | none => false
  | some w => rollKind w = 4 && rollTo w = n && ((s.roll 0).outX ++ (s.roll 0).outY).contains w

/-- ROLL_CONFIRM: the captain's CONFIRM reaches dies 1, 2 and 3, and ends roll call; every die's number is confirmed (R70). -/
def execRollConfirm (c1 c2 c3 : List (BitVec 336)) (s : State) : Out :=
  .next (if s.rolling && s.confirms 1 c1 && s.confirms 2 c2 && s.confirms 3 c3 then
    iter 4 (fun d s => s.setF F.seamIdent_numbered d 0 1) { s with seams.rollDone := true }
  else s)

/-- A die has sent a CALL by a port and received no ANSWER to it. -/
def State.unanswered (s : State) (d p : Nat) : Bool := (s.roll d).sent p 1 && ((s.roll d).ans p).isNone

/-- ROLL_CALL_MISSED: 2 ms without CONFIRM; every die with an unanswered CALL records it, and the device enters LOCKOUT (R70). -/
def execRollCallMissed (s : State) : Out :=
  .next (if s.rolling then
    let s' := iter 4 (fun d s => iter 2 (fun p s => if s.unanswered d p then s.seamFault d 1 p 0 0 0 else s) s) s
    s'.lockout 1 (((List.range 4).find? (fun d => s.unanswered d 0 || s.unanswered d 1)).getD 0)
  else s)

/-! ### Repair (R72–R75) -/

/-- Bad wires and bench lanes (64–67) of a fabric or flex bundle: boot test, assembly list, field list (R72). -/
def State.badWires (s : State) (k : Nat) : List Nat :=
  (List.range 68).filter (fun w => s.seams.test.contains (k, w) || s.seams.assembly.contains (k, w) || s.seams.field.contains (k, w))

/-- The repair of a fabric bundle (R74): its FABRIC_REPAIR word and slack use, or the lowest-numbered unrepaired wire. -/
def repairBundle (bad : List Nat) (slack : Bool) : Except Nat (Nat × List (Nat × Nat)) :=
  let user := bad.filter (fun w => w < 64 && !(slack && w % 8 = 7))
  let use : List (Nat × Nat) := if slack then
      (List.range 8).filterMap (fun j =>
        if bad.contains (8 * j + 7) then none else ((user.filter (fun w => w / 8 = j)).getLast?).map (fun w => (j, w)))
    else []
  let rest := user.filter (fun w => !use.any (fun u => u.2 = w))
  let bench := (List.range 4).filter (fun n => !bad.contains (64 + n))
  if bench.length < rest.length then .error (rest.getD bench.length 0)
  else .ok (use.length + ((rest.zip bench).map (fun q => 2 ^ (10 + 7 * q.2) + q.1 * 2 ^ (4 + 7 * q.2))).sum, use)

/-- Lanes of an express bundle that keep an unrepaired bad wire: the group's 16 bench lanes repair its wires in ascending order (R59, R75). DESIGN
CHOICE (log entry 95): the rules do not say which 16 of the group's 256 user wires form a lane; wire w of bundle 48 + 4g + q is wire 64q + w of the
group, and lane i holds wires 16i to 16i + 15. -/
def State.flexBad (s : State) (m c g : Nat) : Nat :=
  let ws := (List.range 4).map (fun q => (q, s.badWires (fkey m c (48 + 4 * g + q))))
  let bad := (ws.map (fun x => (x.2.filter (· < 64)).map (fun w => 64 * x.1 + w))).flatten
  let bench := 16 - (ws.map (fun x => (x.2.filter (64 ≤ ·)).length)).sum
  (bad.drop bench).foldl (fun a i => a ||| 2 ^ (i / 16)) 0

/-! ### Training (R76) -/

/-- Group g of a crossing is in network role (R60). -/
def State.flexOn (s : State) (d p c g : Nat) : Bool := bitAt (s.reg .flexRole d p) (2 * c + g / 2)

/-- Bundle n of a crossing of seam m belongs to a flex group in network role. -/
def State.flexKey (s : State) (k : Nat) : Bool :=
  let (a, _, p) := seamEnds (k / 1024)
  decide (48 ≤ k % 64) && s.flexOn a p (k / 64 % 16) ((k % 64 - 48) / 4)

/-- A privileged bundle index exists on a port (R84). -/
def State.privExists (s : State) (d p i : Nat) : Bool :=
  i < 0x40 || i = 0x80 || (decide (0x40 ≤ i) && decide (i < 0x80) && s.flexOn d p ((i - 0x40) / 4) ((i - 0x40) % 4))

/-- Set STATE and LANE_MAP of a bundle; both ends of a seam report the same (R84), and a control bundle stands at its receiving end. -/
def State.setPriv (s : State) (d p i st map : Nat) : State :=
  let set (s : State) (d : Nat) : State := (s.setF F.privStatus_state d (256 * p + i) st).setF F.privStatus_laneMap d (256 * p + i) map
  if i = 0x80 then (set s d).setBundle (farKey d p i) { s.bundle (farKey d p i) with sendMap := map } else set (set s d) (across d p)

/-- Both ends of a bundle's pair start replay afresh, and its link its credits (R63, R76). -/
def State.freshPair (s : State) (d p i : Nat) : State :=
  let fresh (s : State) (k : Nat) : State := s.setBundle k { Bundle.init with sendMap := (s.bundle k).sendMap }
  fresh (fresh s (bkey d p i)) (farKey d p i)

/-- The tile and the router port at which die d takes the link of network or express bundle i (R57, R60). -/
def privPort (d p i : Nat) : Nat × Nat :=
  let (t, dir) := seamTile d p (if i < 0x40 then i / 4 else (i - 0x40) / 4) (i % 4 / 2)
  (t, dir + (if i < 0x40 then 0 else 4))

/-- The bundle comes up when its agreed map holds 14 good lanes, else it is down; replay starts afresh (R76). -/
def State.trained (s : State) (d p i map : Nat) : State :=
  let s := (s.setPriv d p i (if 14 ≤ ones16 map then 1 else 0) map).freshPair d p i
  if i = 0x80 then s else s.resyncLink (privPort d p i).1 (privPort d p i).2

/-- The lanes of a bundle that cannot be good: those of an express bundle that keep a bad wire (R75). -/
def State.badLanes (s : State) (d p i : Nat) : Nat :=
  if 0x40 ≤ i ∧ i < 0x80 then s.flexBad (seamOf d p) ((i - 0x40) / 4) ((i - 0x40) % 4) else 0

/-- The agreed map of a bundle: the AND of its ends' maps without its bad lanes (R75, R76). -/
def State.agreed (s : State) (d p i map : Nat) : Nat := map - (map &&& s.badLanes d p i)

/-- The link channel of a network or express bundle: link number, + 4096 for an express link. -/
def privLink (d p i : Nat) : Nat := portLink (privPort d p i).1 (privPort d p i).2

/-- SEAM_STATUS (R84), as its read shows it: before the first training, its reset value. -/
def State.seamStatus (s : State) (d : Nat) : Nat :=
  if !s.pw.seamsTrained then 0
  else
    let all := (List.range 2).flatMap (fun p => ((List.range 129).filter (s.privExists d p)).map (fun i => (p, i)))
    let st (q : Nat × Nat) : Nat := s.bstate d q.1 q.2
    let down (lo hi : Nat) : Nat := min 255 (all.filter (fun q => lo ≤ q.2 && q.2 < hi && st q = 0)).length
    let mine (k : Nat) : Bool := k / 1024 = seamOf d 0 || k / 1024 = seamOf d 1
    b2n (all.any (fun q => st q = 0 || st q = 2) || s.seams.named.any (fun n => mine n.1)) * 2 ^ 31 +
    b2n (s.seams.resets.any (fun r => seamOf (r.1 / 2) (r.1 % 2) = seamOf d 0 || seamOf (r.1 / 2) (r.1 % 2) = seamOf d 1)) * 2 ^ 30 +
    down 0 0x40 * 65536 + down 0x40 0x80 * 256 + 2 * b2n (s.ctrlPair d 1) + b2n (s.ctrlPair d 0)

/-- DEGRADED recomputed for the seams (R78, R79, R83): each port that has a degraded or down bundle or a named wire, or in RUN lies on a die without a
control bundle up. -/
def State.seamDegr (s : State) : State :=
  iter 8 (fun k s =>
    let d := k / 2
    let p := k % 2
    let bad := (List.range 129).any (fun i => s.privExists d p i && (s.bstate d p i = 0 || s.bstate d p i = 2)) ||
      s.seams.named.any (fun n => n.1 / 1024 = seamOf d p) || (decide (s.pw.mode = .run) && s.cutOff d)
    s.setDegr (16 + k) bad) s

/-- Settings let slack wires repair (R73). -/
def State.slackAllowed (s : State) : Bool := leAt (s.bootSetting 0x0003 0) 0 1 = 1

/-- Flex roles and the slack declaration of a header; without one every flex group is in fabric role (R60, R61). Slack wires are used for repair
when the header declares slack and settings allow it (R73). -/
def State.applyHeader (s : State) (h : Option (List Byte)) (allow : Bool) : State :=
  let s := iter 4 (fun d s => iter 2 (fun p s =>
    s.setReg .flexRole d p (match h with | some h => hFlex h (seamOf d p) | none => 0)) s) s
  let declared := match h with | some h => hSlack h | none => false
  { s with seams.declared := declared, seams.slack := declared && allow }

/-- Train privileged bundles of the device, those that `p` selects: `maps` lists the bundles (receiving end) whose two maps do not agree on all
lanes. -/
def State.trainAll (s : State) (maps : List (Nat × Nat)) (sel : Nat → Nat → Nat → Bool) : State :=
  iter 8 (fun q s => iter 129 (fun i s =>
    let d := q / 2
    let p := q % 2
    if receives d p i && s.privExists d p i && sel d p i then
      s.trained d p i (s.agreed d p i ((((maps.find? (fun x => x.1 = bkey d p i)).map (·.2)).getD 0xFFFF) % 65536))
    else s) s) s

/-- Write FABRIC_REPAIR of a bundle, at both ends, and the use of its slack wires. -/
def State.setRepair (s : State) (k word : Nat) (use : List (Nat × Nat)) : State :=
  let (a, b, p) := seamEnds (k / 1024)
  let s := (s.setReg .fabricRepair a (1024 * p + k % 1024) word).setReg .fabricRepair b (1024 * p + k % 1024) word
  { s with seams.slackUse := s.seams.slackUse.filter (fun u => u.1 ≠ k) ++ use.map (fun u => (k, u.1, u.2)) }

/-- Compute and apply the repair of every bundle in fabric role that `sel` selects and that has a bad wire; the first that cannot be repaired, as
bundle key and wire (R74). DESIGN CHOICE (log entry 96): of several, the one with the lowest seam, crossing and bundle is named. -/
def State.repairAll (s : State) (sel : Nat → Bool) : State × Option (Nat × Nat) :=
  let keys := (((s.seams.test ++ s.seams.assembly ++ s.seams.field).map (·.1)).eraseDups.filter sel).mergeSort
  keys.foldl (fun (q : State × Option (Nat × Nat)) k =>
    match q with
    | (s, some f) => (s, some f)
    | (s, none) =>
      if s.flexKey k then (s, none)
      else match repairBundle (s.badWires k) s.seams.slack with
        | .error w => (s, some (k, w))
        | .ok (word, use) => (s.setRepair k word use, none)) (s, none)

/-- A bundle that cannot be repaired: both its dies record it, and the device enters LOCKOUT; DIE names the lower-numbered die (R74; log entry
96). -/
def State.unrepairable (s : State) (k w : Nat) : State :=
  let (a, b, p) := seamEnds (k / 1024)
  ((s.seamFault a 3 p (k / 64 % 16) (k % 64) w).seamFault b 3 p (k / 64 % 16) (k % 64) w).lockout 3 a

/-! ### Routes around links (R78, R83, R188, R537) -/

/-- The routers and ports at the two ends of a link channel. -/
def linkPorts (l : Nat) : (Nat × Nat) × (Nat × Nat) :=
  let t := l % 4096 / 4
  let dir := l % 4
  let x := 4 * (l / 4096)
  ((t, x + dir), (neighbor t dir, x + (dir + 2) % 4))

/-- A link channel is up: its ports are enabled at both ends, and its bundles carry units (R58, R187). -/
def State.linkUp (s : State) (l : Nat) : Bool := s.portOn (linkPorts l).1.1 (linkPorts l).1.2

/-- Every link channel of the device (R159, R189). -/
def State.allLinks (s : State) : List Nat :=
  (List.range 1024).flatMap (fun t => ([1, 2]).flatMap (fun dir =>
    linkId t dir :: (if s.hasExpress t dir then [linkId t dir + 4096] else [])))

/-- Maltar writes the route tables of the boot: links that are down or disabled are avoided (R537). -/
def State.writeRoutes (s : State) : State := { s with net.routesOn := true, net.avoid := s.allLinks.filter (fun l => !s.linkUp l) }

/-- After the repairs of a boot: a bundle that cannot be repaired ends it, else route tables are written and step 3 follows (R74, R537). -/
def State.seamBootEnd (s : State) : Option (Nat × Nat) → State
  | some (k, w) => s.unrepairable k w
  | none => (State.seamDegr { s with pw.step := 3 }).writeRoutes

/-- The seam test of a boot: seams are trained, bundles repaired, and route tables written (R71, R76, R74, R537). -/
def State.seamBoot (s : State) (maps : List (Nat × Nat)) : State :=
  let q := (State.trainAll { s with pw.seamsTrained := true } maps (fun _ _ _ => true)).repairAll (fun _ => true)
  q.1.seamBootEnd q.2

/-- SEAM_BOOT_TEST_DONE: the boot seam test ends (R71). `maps`: agreed lane maps that are not all ones, by receiving end; `bad`: wires (0–63) and
bench lanes (64–67) that failed, by bundle; `allow`: what the seam-slack record says, which is read in step 3 (R42, R73; log entry 97). -/
def execSeamBootTestDone (maps bad : List (Nat × Nat)) (allow : Bool) (s : State) : Out :=
  .next (if s.pw.mode = .boot ∧ s.pw.step = 2 ∧ s.seams.rollDone then
    State.seamBoot { s.applyHeader s.bootHeader allow with seams.test := bad } maps
  else s)

/-- The flex groups that a header's roles change, as a test of bundle keys. -/
def flexChanges (old : Nat → Nat) (h : List Byte) (k : Nat) : Bool :=
  let b := 2 * (k / 64 % 16) + (k % 64 - 48) / 8
  decide (48 ≤ k % 64) && (bitAt (old (k / 1024)) b != bitAt (hFlex h (k / 1024)) b)

/-- The golden header's roles and slack declaration are applied: a flex group that changes role is retested, and repaired or trained in its new
role; fixed bundles keep their steering (R61, R77). `maps`, `bad`: results as in SEAM_BOOT_TEST_DONE. -/
def State.reassign (s : State) (h : List Byte) (maps bad : List (Nat × Nat)) : State :=
  let old (m : Nat) : Nat := s.reg .flexRole (seamEnds m).1 (seamEnds m).2.2
  let ch := flexChanges old h
  let keys := ((List.range 4096).filter ch)
  let s := s.applyHeader (some h) s.slackAllowed
  let s := { s with seams.test := s.seams.test.filter (fun (x : Nat × Nat) => !ch x.1) ++ bad.filter (fun (x : Nat × Nat) => ch x.1) }
  let s := keys.foldl (fun s k => s.setRepair k 0 []) s
  let index (k : Nat) : Nat := 0x40 + 4 * (k / 64 % 16) + (k % 64 - 48) / 4
  let s := keys.foldl (fun s k => let (a, b, p) := seamEnds (k / 1024)
    (s.setReg .privStatus a (256 * p + index k) 0).setReg .privStatus b (256 * p + index k) 0) s
  let s := s.trainAll maps (fun d p i => decide (0x40 ≤ i ∧ i < 0x80) && ch (fkey (seamOf d p) ((i - 0x40) / 4) (48 + 4 * ((i - 0x40) % 4))))
  match s.repairAll ch with
  | (s, some (k, w)) => s.unrepairable k w
  | (s, none) => s.seamDegr.writeRoutes

/-! ### Links taken out and brought back (R82, R83, R188) -/

/-- Enable or disable a router port, active and shadow. -/
def State.setPort1 (s : State) (t p : Nat) (on : Bool) : State :=
  let upd (w : Nat) : Nat := w - b2n (bitAt w p) * 2 ^ p + b2n on * 2 ^ p
  let s := if on then s.setRouter t { s.router t with shut := (s.router t).shut - b2n (bitAt (s.router t).shut p) * 2 ^ p } else s
  (s.setReg .rtrLinkEn t 0 (upd (s.reg .rtrLinkEn t 0))).setReg .rtrLinkEnSh t 0 (upd (s.reg .rtrLinkEnSh t 0))

/-- Enable a link at both ends. -/
def State.enableLink (s : State) (l : Nat) : State := (s.setPort1 (linkPorts l).1.1 (linkPorts l).1.2 true).setPort1 (linkPorts l).2.1 (linkPorts l).2.2 true

/-- Disable a link at both ends through the shadow settings (R186). -/
def State.disableLink (s : State) (l : Nat) : State :=
  let off (s : State) (t p : Nat) : State :=
    State.rtrApply (s.setReg .rtrLinkEnSh t 0 (s.reg .rtrLinkEnSh t 0 - b2n (bitAt (s.reg .rtrLinkEnSh t 0) p) * 2 ^ p)) t (2 ^ p)
  off (off s (linkPorts l).1.1 (linkPorts l).1.2) (linkPorts l).2.1 (linkPorts l).2.2

/-- Maltar rewrote the table of tile t when it took link l out (R188). -/
def State.rewrote (s : State) (l t : Nat) : Bool :=
  let s' := { s with net.avoid := s.net.avoid.filter (· ≠ l), net.named := s.net.named.filter (· ≠ l) }
  (List.range 1088).any (fun e => decide (s.route t e ≠ s'.route t e))

/-- No interface whose table was rewritten for the link has an old request outstanding (R188). -/
def State.noOld (s : State) (l : Nat) : Bool := s.net.outs.all (fun o => !(o.old && s.rewrote l (niOf o.req.src)))

/-- LINK_DISABLE: Maltar disables a link that its routes avoid (R82, R188). -/
def execLinkDisable (t : Tile) (dir : Fin 4) (express : Bool) (s : State) : Out :=
  .next (
    let l := linkId t dir + (if express then 4096 else 0)
    if s.maltarRuns ∧ (s.net.avoid ++ s.net.named).contains l ∧ s.noOld l then s.disableLink l else s)

/-! ### Faults in the field (R66, R78, R79) -/

/-- The ALARM of a privileged bundle (R534 cause 0x07). -/
def State.privAlarm (s : State) (d p i : Nat) (down : Bool) : State :=
  s.alarm 255 0x07 (d * 256 + p * 1024 + i * 65536 + b2n down * 2 ^ 24) 0 (srcOf .seam d)

/-- A die without a control bundle up in RUN is degraded and alarmed (R79). -/
def State.isolated (s : State) (d : Nat) : State :=
  if s.pw.mode = .run ∧ s.cutOff d then s.seamDegr.alarm 255 0x08 (d * 256) 0 (srcOf .seam d) else s

/-- RUN is entered, perhaps with dies already cut off (R79). -/
def State.isolatedAll (s : State) : State := iter 4 (fun d s => s.isolated d) s

/-- Maltar acts on a bundle that is degraded or down: routes avoid its link; a control bundle stays in use (R78, R80). -/
def State.maltarAvoid (s : State) (d p i : Nat) : State :=
  if s.maltarRuns ∧ i ≠ 0x80 then s.avoidLink (privLink d p i) else s

/-- The units that an end of a pair holds are discarded and counted (R66). -/
def State.dropUnits (s : State) (d k : Nat) : State :=
  let b := s.bundle k
  let s := s.count F.seamCounts_dropped d 0 b.kept.length
  s.setBundle k { Bundle.init with replays := b.replays, delivered := b.delivered, sendMap := b.sendMap }

/-- A bundle stops carrying units: what both ends of its pair hold is discarded, and packets cut short are completed with BAD flits (R58, R66). -/
def State.bundleStops (s : State) (d p i st : Nat) : State :=
  let s := s.setPriv d p i st (s.laneMap d p i)
  let s := (s.dropUnits d (bkey d p i)).dropUnits (across d p) (farKey d p i)
  if i = 0x80 then s else (s.endLink (privPort d p i).1 (privPort d p i).2).resyncLink (privPort d p i).1 (privPort d p i).2

/-- A bundle goes down (R66, R78, R79). -/
def State.bundleDown (s : State) (d p i : Nat) : State :=
  let s := s.bundleStops d p i 0
  let s := if i = 0x80 then (s.isolated d).isolated (across d p) else s
  ((s.privAlarm d p i true).seamDegr).maltarAvoid d p i

/-- Maltar runs again: the routes avoid the links that have been degraded, down or taken out of service meanwhile (R33, R80). -/
def State.maltarCatchUp (s : State) : State :=
  if !s.net.routesOn then s
  else
    let bad (l : Nat) : Bool :=
      let ((t, q), _) := linkPorts l
      !s.linkUp l || (match seamBundle t q with
        | none => false
        | some (p, i) => s.bstate (t / 256) p i = 2 || s.bstate (t / 256) p (partner i) = 2)
    (s.allLinks.filter bad).foldl State.avoidLink s

/-! ### Units received (R65) -/

/-- ACKSEQ and NAK of a unit that die d receives on bundle i: acknowledged units are dropped; NAK has the rest sent again, in order; then units that
wait are sent. -/
def State.ackIn (s : State) (d p i u : Nat) : State :=
  let k := bkey d p i
  let b := s.bundle k
  let kept := b.kept.filter (fun x => 128 ≤ (unitAck u + 256 - unitSeq x.toNat) % 256)
  let map := s.farMap (across d p) p (partner i)
  let again := kept.zipIdx.map (fun q => (decide (q.2 = 0), stripe map q.1.toNat))
  s.setBundle k (Bundle.pump map { b with kept := kept, wire := if unitNak u then b.wire ++ again else b.wire })

/-- CREDIT bits return buffer credits to the partner direction (R63). -/
def State.creditsIn (s : State) (d p i u : Nat) : State :=
  if i = 0x80 then s
  else iter 8 (fun v s => if bitAt (unitCredit u) v then s.creditIn (privPort d p i).1 (privPort d p i).2 v else s) s

/-- A unit that cannot be accepted: it is discarded. The first one sets NAK, which asks for a replay; so does the first unit of a replay that fails
again, and the eighth failed replay in a row takes the bundle down (R65, R66). `first`: the unit is the first of a replay. -/
def State.unitFail (s : State) (d p i : Nat) (first : Bool) : State :=
  let k := bkey d p i
  let b := s.bundle k
  if !b.skipping then s.setBundle k { b with skipping := true, nakOut := true, replays := b.replays + 1, fails := 0 }
  else if !first then s
  else
    let s := s.setBundle k { b with nakOut := true, replays := b.replays + 1, fails := b.fails + 1 }
    if 8 ≤ b.fails + 1 then s.bundleDown d p i else s

/-- A unit with a correct CRC is accepted when its SEQ is the next in order (R65). -/
def State.unitTake (s : State) (d p i typ u : Nat) (first : Bool) (act : State → State) : State :=
  let s := s.ackIn d p i u
  let b := s.bundle (bkey d p i)
  if unitSeq u ≠ b.expSeq then s.unitFail d p i first
  else
    let s := s.setBundle (bkey d p i)
      { b with expSeq := (b.expSeq + 1) % 256, skipping := false, fails := 0, delivered := b.delivered ++ [(typ, BitVec.ofNat 288 (unitPay u))] }
    act (s.creditsIn d p i u)

/-- The unit that die d reads from the 16 lanes of a bundle that it receives (R62). -/
def State.lanesIn (s : State) (d p i : Nat) (lanes : List (BitVec 24)) : Nat := gather (s.laneMap d p i) lanes

/-- A unit arrives on bundle i of port p of die d in place of the unit of type `typ` at the front of its lines; `u` is what arrives, which an error
on the way may have changed (R62, R65). -/
def State.unitIn (s : State) (d p i typ u : Nat) (act : State → State) : State :=
  let f := farKey d p i
  match (s.bundle f).wire with
  | [] => s
  | (first, v) :: rest =>
    if !receives d p i || !s.pairUp d p i || decide (unitType (unstripe v) ≠ typ) || (unitCrcOk u && decide (unitType u ≠ typ)) then s
    else
      let s := s.setBundle f { s.bundle f with wire := rest }
      if unitCrcOk u then s.unitTake d p i typ u first act else s.unitFail d p i first

/-- An IDLE unit of the far end arrives: it carries that end's ACKSEQ, CREDIT and NAK of now, and is not kept (R62, R65). -/
def State.idleIn (s : State) (d p i u : Nat) : State :=
  let f := farKey d p i
  let far := s.bundle f
  if !receives d p i || !s.pairUp d p i then s
  else if !unitCrcOk u then s.unitFail d p i false
  else if u % 2 ^ 312 ≠ far.idleUnit % 2 ^ 312 then s
  else
    let s := s.setBundle f (Bundle.paid { far with nakOut := false } far.creditBits)
    (s.ackIn d p i u).creditsIn d p i u

/-- IDLE (R62, R65). -/
def execIdle (d : Die) (p : Fin 2) (i : Fin 129) (lanes : List (BitVec 24)) (s : State) : Out := .next (s.idleIn d p i (s.lanesIn d p i lanes))

/-- FLIT: the flit enters the router at this end of the link (R57, R65). -/
def execFlit (d : Die) (p : Fin 2) (i : Fin 129) (lanes : List (BitVec 24)) (s : State) : Out :=
  let u := s.lanesIn d p i lanes
  .next (if i.val = 0x80 then s else s.unitIn d p i 1 u (fun s => s.flitIn (privPort d p i).1 (privPort d p i).2 (unitPay u)))

/-- TRAIN: the partner's lane map arrives during training, in replicated mode (R69, R76). DESIGN CHOICE (log entry 98): the map lies in bits [15:0] of
the payload. -/
def execTrain (d : Die) (p : Fin 2) (i : Fin 129) (copies : List (BitVec 336)) (s : State) : Out :=
  .next (match firstCopy 2 copies with
    | none => s
    | some u =>
      if receives d p i ∧ s.bstate d p i = 3 then
        s.setBundle (bkey d p i) { s.bundle (bkey d p i) with partnerMap := some (unitPay u % 65536) }
      else s)

/-- EVENT: the pulses of an accepted unit arrive, and go on (R63, R67, R79). -/
def execEvent (d : Die) (p : Fin 2) (lanes : List (BitVec 24)) (s : State) : Out :=
  let u := s.lanesIn d p 0x80 lanes
  .next (s.unitIn d p 0x80 4 u (fun s => s.evIn d p (unitPay u)))

/-- MGMT: the payload goes to the die's register access unit, or on to the die that it is for; a request has its response sent (R63, R79; log entry
147). -/
def execMgmt (d : Die) (p : Fin 2) (lanes : List (BitVec 24)) (s : State) : Out :=
  let u := s.lanesIn d p 0x80 lanes
  .next (s.unitIn d p 0x80 5 u (fun s => s.ctrlIn 5 d (BitVec.ofNat 288 (unitPay u)) (fun s =>
    let k := bkey d p 0x80
    let s := { s with seams.mgmt := tput [] s.seams.mgmt k (tget [] s.seams.mgmt k ++ [BitVec.ofNat 288 (unitPay u)]) }
    if d.val = 0 then s else s.ctrlSend 5 d 0)))

/-- CONFIG: the payload goes to the die's configuration controller, or on to the die that it is for (R63, R79; log entry 147). -/
def execConfig (d : Die) (p : Fin 2) (lanes : List (BitVec 24)) (s : State) : Out :=
  let u := s.lanesIn d p 0x80 lanes
  .next (s.unitIn d p 0x80 6 u (fun s => s.ctrlIn 6 d (BitVec.ofNat 288 (unitPay u)) (fun s =>
    let k := bkey d p 0x80
    { s with seams.config := tput [] s.seams.config k (tget [] s.seams.config k ++ [BitVec.ofNat 288 (unitPay u)]) })))

/-- REPLAY_WINDOW_END: REPLAYS takes the window's count; a count above REPLAY_LIMIT degrades the bundle (R78). -/
def execReplayWindowEnd (d : Die) (p : Fin 2) (i : Fin 129) (s : State) : Out :=
  let i := i.val
  .next (if !receives d p i then s
  else
    let b := s.bundle (bkey d p i)
    let n := b.replays
    let s := s.setBundle (bkey d p i) { b with replays := 0 }
    let s := s.setF F.privStatus_replays d (256 * p + i) (min 255 n)
    let s := if i = 0x80 then s else s.setF F.privStatus_replays (across d p) (256 * p + i) (min 255 n)
    if s.bstate d p i = 1 ∧ s.getF F.replayLimit_limit d 0 < n then
      (((s.setPriv d p i 2 (s.laneMap d p i)).privAlarm d p i false).seamDegr).maltarAvoid d p i
    else s)

/-! ### Seam reset (R82–R84) -/

/-- The receiving ends that a seam reset of bundle b (255: all) of port p of die d trains. -/
def State.resetSet (s : State) (d p b : Nat) : List (Nat × Nat × Nat) :=
  ([d, across d p].flatMap (fun e => ((List.range 129).filter (fun i => receives e p i && s.privExists e p i)).map (fun i => (e, p, i)))).filter
    (fun x => b = 255 || (x.2.2 = b && (b ≠ 0x80 || x.1 = d)))

/-- Links that are disabled or down (R83). -/
def State.closedLinks (s : State) : List Nat := s.allLinks.filter (fun l => !s.linkUp l)

/-- Some route table entry takes a named link and has no replacement route (R83). -/
def State.noReplacement (s : State) (named : List Nat) : Bool :=
  let closed := s.net.avoid ++ s.net.named ++ named ++ s.closedLinks
  (List.range 1024).any (fun t => (List.range 1088).any (fun e =>
    routeUses s.expressLink t (s.route t e) named && (replacement s.expressLink closed t e).isNone))

/-- Start the training of bundles; units still held are discarded and counted, packets cut short are completed with BAD flits (R66, R76, R82 step
3). -/
def State.startTraining (s : State) (l : List (Nat × Nat × Nat)) : State :=
  l.foldl (fun s x =>
    let s := s.bundleStops x.1 x.2.1 x.2.2 3
    let s := if x.2.2 = 0x80 then (s.isolated x.1).isolated (across x.1 x.2.1) else s
    { s with seams.resets := s.seams.resets ++ [(2 * x.1 + x.2.1, x.2.2)] }) s

/-- A training is in progress on the seam of port p of die d (R84). -/
def State.seamTraining (s : State) (d p : Nat) : Bool := s.seams.resets.any (fun r => seamOf (r.1 / 2) (r.1 % 2) = seamOf d p)

/-- A seam reset has not completed on the seam of port p of die d (R83, R84). -/
def State.seamBusy (s : State) (d p : Nat) : Bool := s.seamTraining d p || !(s.opsOn (seamOf d p) [0x0205]).isEmpty

/-- Links of network and express bundles among named bundles. -/
def namedLinks (l : List (Nat × Nat × Nat)) : List Nat := ((l.filter (fun x => x.2.2 ≠ 0x80)).map (fun x => privLink x.1 x.2.1 x.2.2)).eraseDups

/-- SEAM_RESET's arguments, kept with its operation: die, port and bundle, and that its training has started. -/
def resetArgs (d p b : Nat) : List Nat := [d, p, b]

/-- The named links of a seam reset are disabled at both ends: their bundles train (R82 step 3). -/
def State.resetTrains (s : State) (o : LongOp) : State :=
  let set := s.resetSet (o.args.getD 0 0) (o.args.getD 1 0) (o.args.getD 2 0)
  let off (l : Nat) : Bool :=
    let ((t, p), (u, q)) := linkPorts l
    !bitAt (s.reg .rtrLinkEn t 0) p && !bitAt (s.reg .rtrLinkEn u 0) q
  if o.args.length = 3 && (namedLinks set).all off then
    State.startTraining { s with hosts.ops := s.hosts.ops.map (fun x => if x = o then { o with args := o.args ++ [1] } else x) } set
  else s

/-- Seam resets whose links are disabled go on, while Maltar runs. -/
def State.resetsGo (s : State) : State := if !s.maltarRuns then s else (s.hosts.ops.filter (fun o => o.opcode = 0x0205)).foldl State.resetTrains s

/-- SEAM_RESET: every entry is checked before any is changed; then entries that use the named bundles take their replacement routes, the links are
disabled once nothing old is on them, and the bundles train (R82, R83, R188). -/
def cmdSeamReset : Body := fun c s =>
  let d := c.num 0 1
  let p := c.num 1 1
  let set := s.resetSet d p (c.num 2 1)
  if set.isEmpty then refuse s 0x10
  else if c.tenant ≠ 0 then refuse s 0x12
  else if s.seamBusy d p then refuse s 0x15
  else if s.noReplacement (namedLinks set) ∧ c.num 3 1 = 0 then refuse s 0x15
  else
    let s := s.rerouteAll s.net.avoid (s.net.named ++ namedLinks set) (s.net.closed ++ s.closedLinks)
    ((s.addWait (c.op (seamOf d p) (resetArgs d p (c.num 2 1)))).resetsGo, .wait)

/-- A write of GO to SEAM_RESET: while BUSY on this die the register is unchanged; else the selected bundles train, without the
route steps (R84). DESIGN CHOICE (log entry 148): the link disable and the link enable of R82 fall away with them; the bundles train at once. -/
def State.writeSeamReset (s : State) (d v : Nat) : State :=
  let busy := s.seamTraining d 0 || s.seamTraining d 1
  if bitAt v 31 ∧ busy then s
  else
    let s := s.setReg .seamReset d 0 (Rg.seamReset.written (s.reg .seamReset d 0) v)
    if bitAt v 31 then s.startTraining (s.resetSet d (bits v 16 16) (bits v 7 0)) else s

/-- A link of a seam reset comes back: enabled and restored where its bundles are up, avoided from now on where they are not (R82 step 4, R83). -/
def State.linkBack (s : State) (l : Nat) : State :=
  let ((t, q), _) := linkPorts l
  let named := s.net.named.filter (· ≠ l)
  if s.seamUp t q then (s.enableLink l).reroute (s.net.avoid.filter (· ≠ l)) named
  else s.reroute (if s.net.avoid.contains l then s.net.avoid else s.net.avoid ++ [l]) named

/-- The last bundle of a seam's reset has trained: DEGRADED is recomputed, Maltar brings the links back, and the command is answered. While Maltar
does not run, its part waits (R33, R82, R83). `late`: the reset has taken longer than 1 ms. -/
def State.resetEnd (s : State) (d p : Nat) (late : Bool) : State :=
  let ops (s : State) : List LongOp := s.opsOn (seamOf d p) [0x0205]
  let s := s.seamDegr
  if s.seamTraining d p || !s.maltarRuns then s
  else
    let ls := (ops s).flatMap (fun o => namedLinks (s.resetSet (o.args.getD 0 0) (o.args.getD 1 0) (o.args.getD 2 0)))
    let s := ls.foldl State.linkBack s
    let s := if late then (ops s).foldl State.acceptOp s else s
    s.finishOps (seamOf d p) [0x0205] 0 0 0 []

/-- BUNDLE_TRAINING_DONE: both ends adopt the AND of the two maps; without the partner's map no lane is agreed (R76). -/
def execBundleTrainingDone (d : Die) (p : Fin 2) (i : Fin 129) (own : BitVec 16) (late : Bool) (s : State) : Out :=
  let i := i.val
  .next (if receives d p i ∧ s.bstate d p i = 3 then
    let m := s.agreed d p i (own.toNat &&& ((s.bundle (bkey d p i)).partnerMap.getD 0))
    let s := s.trained d p i m
    let s := { s with seams.resets := s.seams.resets.filter (· ≠ (2 * d.val + p.val, i)) }
    let s := if 14 ≤ ones16 m then s
      else
        let s := s.privAlarm d p i true
        if i = 0x80 then (s.isolated d).isolated (across d p) else s
    s.resetEnd d p late
  else s)

/-- Maltar runs again: route rewrites, and seam resets that have trained meanwhile, go on (R33, R80). -/
def State.seamsResume (s : State) : State :=
  let s := s.maltarCatchUp.resetsGo
  ([(0, 0), (2, 0), (0, 1), (1, 1)]).foldl (fun s x =>
    if (s.opsOn (seamOf x.1 x.2) [0x0205]).any (fun o => o.args.length = 4) then s.resetEnd x.1 x.2 true else s) s

/-- SEAM_RESET (R82, R83, R480). -/
def execSeamReset (p : Port) (m : Mbox) (s : State) : Out := .next (takeMailbox 0x0205 cmdSeamReset p m s)

/-! ### Applying router settings (R186) -/

/-- APPLY_COMPLETE: no packet that the port has granted is unfinished (R186); a seam reset that waited for it goes on. -/
def execApplyComplete (t : Tile) (p : Fin 15) (s : State) : Out :=
  .next (if bitAt (s.router t).applying p ∧ (s.router t).idleOut p then (s.takeShadow t p).resetsGo else s)

/-- APPLY_CUT: 1.0 µs after the apply a granted packet is unfinished; a change that disables the port cuts it, and any other change takes effect with
the packet in progress (R66, R186). -/
def execApplyCut (t : Tile) (p : Fin 15) (s : State) : Out :=
  .next (if bitAt (s.router t).applying p then
    let s := if s.shadowOn t p || (s.router t).idleOut p then s else s.endOutput t p
    (s.takeShadow t p).resetsGo
  else s)

end Sys2Proof.Machine
end

