-- ==== Sys2Proof/Machine/Wires.lean ====
section
/-! DEFINITION. The fabric's signals (05_fabric.md, R112–R131): cells and their carry, local crossbars, cluster segments, global lines, seam wires,
the hard units' pins, and the value that each signal has. -/

namespace Sys2Proof.Machine

/-! ### Cells (R112, R115, R118) -/

/-- A six-input table at inputs A–F. -/
def lut (table idx : Nat) : Bool := bitAt table (idx % 64)

/-- O6, O5 (without a wide multiplexer) and carry out of a cell with inputs `i` and carry in `c` (R112, R115). DESIGN CHOICE (log entry 108): a cell
that is not in arithmetic mode passes its carry in on. DESIGN CHOICE (log entry 131): an O5 that the manual calls unused, and one in mux 4:1 mode
with no wide multiplexer placed there, is low. -/
def cellOut (k : CellCfg) (i : Nat) (c : Bool) : Bool × Bool × Bool :=
  let lo := lut k.table (i % 32)
  let hi := lut k.table (i % 32 + 32)
  match k.mode with
  | .lut6 => (lut k.table i, false, c)
  | .split => (hi, lo, c)
  | .mux => (bitAt i (b2n (bitAt i 4) + 2 * b2n (bitAt i 5)), false, c)
  | .arith =>
    let g (src n : Nat) : Bool := if src = 0 then bitAt i n else src = 2
    let c1 := if lo then c else g k.g0 0
    let c2 := if hi then c1 else g k.g1 2
    (hi != c1, lo != c, c2)

/-- The wide-multiplexer output that O5 of cell n can carry, with selects MS2–MS5 in bits 0–3 (R118). -/
def wideMux (o6 : Nat → Bool) (ms n : Nat) : Bool :=
  let m8 (i : Nat) : Bool := if bitAt ms 0 then o6 (2 * i + 1) else o6 (2 * i)
  let m16 (i : Nat) : Bool := if bitAt ms 1 then m8 (2 * i + 1) else m8 (2 * i)
  let m32 (i : Nat) : Bool := if bitAt ms 2 then m16 (2 * i + 1) else m16 (2 * i)
  if n = 7 then (if bitAt ms 3 then m32 1 else m32 0)
  else if n % 8 = 3 then m32 (n / 8)
  else if n % 4 = 1 then m16 (n / 4)
  else m8 (n / 2)

/-- Key of flip-flop k of a cell. -/
def ffKey (cluster cell k : Nat) : Nat := (cluster * 16 + cell) * 2 + k

/-- The configuration of a cluster, of a cell and of a flip-flop. -/
def State.clusterCfg (s : State) (t cluster : Nat) : ClusterCfg := tget ClusterCfg.blank (s.tcfg t).clusters cluster
def State.cellCfg (s : State) (t cluster cell : Nat) : CellCfg := tget CellCfg.blank (s.tcfg t).cells (cluster * 16 + cell)
def State.ffCfg (s : State) (t key : Nat) : FfCfg := tget FfCfg.blank (s.tcfg t).ffs key

/-- A flip-flop's value; one that nothing has clocked holds its initial value. -/
def State.ff (s : State) (t key : Nat) : Bool := (tget none s.fab.ffs (t * 24576 + key)).getD (s.ffCfg t key).init
def State.setFf (s : State) (t key : Nat) (v : Bool) : State :=
  { s with fab.ffs := tput none s.fab.ffs (t * 24576 + key) (if v = (s.ffCfg t key).init then none else some v) }

/-! ### Multiplier slices (R127–R131) -/

def State.mul (s : State) (t i : Nat) : MulSt := tget MulSt.init s.fab.muls (t * 64 + i)
def State.mulCfg (s : State) (t i : Nat) : MulCfg := tget MulCfg.blank (s.tcfg t).muls i

/-- The inputs of a slice: operands, function, controls of the three stages, chain (R127–R129). -/
structure MulPins where
  ma : Nat
  mb : Nat
  me : Nat
  ad : Nat
  fn : Nat
  neg : Bool
  pair : Nat
  ce : Nat
  clr : Nat
  chi : Nat
deriving DecidableEq, Repr

/-- The 19-bit operand MP (R127): 1 MB + ME, 2 ME − MB, else MB. -/
def pairOp (pair : Nat) (mb me : Nat) : Int :=
  match pair with
  | 1 => sgn 18 mb + sgn 18 me
  | 2 => sgn 18 me - sgn 18 mb
  | _ => sgn 18 mb

/-- The exact result of a function (R128). -/
def mulFn (fn : Nat) (neg : Bool) (p : Int) (ad chi acc : Nat) : Int :=
  let q := if neg then -p else p
  let a := sgn 48 ad
  match fn with
  | 0 => q
  | 1 => sgn 48 acc + (if neg then -a else a)
  | 2 => sgn 48 acc + q
  | 3 => a + q
  | 4 => sgn 48 chi + q
  | 5 => sgn 48 acc + sgn 48 chi + q
  | 6 => sgn 48 chi / 65536 + q
  | _ => a

/-- Some stage of the slice is on, so that its result comes out of registers (R129). -/
def MulCfg.clocked (c : MulCfg) : Bool := c.inStage || c.prodStage || c.resStage

/-- The pair adder's choice: fixed by configuration, or PAIR (R128). -/
def MulCfg.pairOf (c : MulCfg) (p : MulPins) : Nat := c.pair.getD p.pair

/-- What leaves the input stage: MA, MB, ME, AD, FN, NEG and the pair adder's choice; the inputs themselves when it is off (R129). -/
def mulIn (c : MulCfg) (m : MulSt) (p : MulPins) : Nat × Nat × Nat × Nat × Nat × Bool × Nat :=
  if c.inStage then (m.ma, m.mb, m.me, m.ad, m.fn1, m.neg1, m.pair1) else (p.ma, p.mb, p.me, p.ad, p.fn, p.neg, c.pairOf p)

/-- The product after the multiplier, and AD, FN and NEG beside it (R127, R129). -/
def mulProd (c : MulCfg) (m : MulSt) (p : MulPins) : Nat × Nat × Nat × Bool :=
  let (ma, mb, me, ad, fn, neg, pair) := mulIn c m p
  (unsgn 48 (sgn 18 ma * pairOp pair mb me), ad, fn, neg)

/-- What enters the result stage: product, AD, FN, NEG. -/
def mulMid (c : MulCfg) (m : MulSt) (p : MulPins) : Nat × Nat × Nat × Bool :=
  if c.prodStage then (m.prod, m.ad2, m.fn2, m.neg2) else mulProd c m p

/-- The result, ABOVE and BELOW that the result stage takes, with the given value of ACC read back (R128, R130). -/
def mulResult (c : MulCfg) (m : MulSt) (p : MulPins) (acc : Nat) : Nat × Bool × Bool :=
  let (q, ad, fn, neg) := mulMid c m p
  let x := mulFn fn neg (sgn 48 q) ad p.chi acc
  let above := decide ((2 : Int) ^ 47 ≤ x)
  let below := decide (x < -(2 : Int) ^ 47)
  (if c.sat && above then 2 ^ 47 - 1 else if c.sat && below then 2 ^ 47 else unsgn 48 x, above, below)

/-- ACC, ABOVE and BELOW: the result stage's, or with it off the result as the inputs make it; `back` is then what ACC read back gives (R129, R131). -/
def mulOut (c : MulCfg) (m : MulSt) (p : MulPins) (back : Nat) : Nat × Bool × Bool :=
  if c.resStage then (m.acc, m.above, m.below) else mulResult c m p back

/-- The slice below in the chain: the next in the column, or the top slice of the column in the tile below on the die (R131). -/
def chainFrom (t i : Nat) : Option (Nat × Nat) :=
  if i % 32 ≠ 0 then some (t, i - 1)
  else if t / 16 % 16 = 15 then none
  else some (t + 16, i + 31)

/-! ### Places (R119–R122) -/

/-- A hard unit lies beside a cluster: block memories beside columns 7 and 8 or 23 and 24, multiplier slices and the hard strip between columns 15
and 16 (R119). -/
def beside (u : Slot) (c : Nat) : Bool :=
  let k := c / 24
  let j := c % 24
  let blk (b : Nat) : Bool := (if b < 12 then k = 7 || k = 8 else k = 23 || k = 24) && decide (j / 2 = b % 12)
  match u with
  | .blkA b => blk b
  | .blkB b => blk b
  | .mul i => decide (k = if i < 32 then 15 else 16) && decide (j = 3 * (i % 32) / 4)
  | _ => k = 15 || k = 16

/-- The cluster where a segment ends; it stops at the tile edge (R121). Rows count upward, north. -/
def segEnd (c dir len : Nat) : Nat :=
  let k := c / 24
  let j := c % 24
  match dir with
  | 0 => 24 * k + min (j + len) 23
  | 1 => 24 * min (k + len) 31 + j
  | 2 => 24 * k + (j - len)
  | _ => 24 * (k - len) + j

/-- Segments that start at a cluster in one direction, by length (R121), and lines that start in a tile (R122). -/
def segCount (len : Nat) : Nat := if len = 1 then 16 else if len = 2 then 12 else if len = 4 then 8 else 0
def lineCount (len : Nat) : Nat := if len = 1 then 1024 else if len = 4 then 256 else if len = 16 then 64 else 0

/-- The tile that a line from tile t reaches after n tile boundaries, inside the device (R122). -/
def lineTile (t dir n : Nat) : Option Nat :=
  let x := tileX t
  let y := tileY t
  match dir with
  | 0 => if n ≤ y then some (tileAt x (y - n)) else none
  | 1 => if x + n < 32 then some (tileAt (x + n) y) else none
  | 2 => if y + n < 32 then some (tileAt x (y + n)) else none
  | _ => if n ≤ x then some (tileAt (x - n) y) else none

/-- The die that user I/O bank b connects to (R22, R530). -/
def bankDie (b : Nat) : Option Nat := [0, 0, 1, 1, 2, 2, 3, 3, 0, 1][b]?

/-- The connections that the routing has: what may drive a signal (R119–R122). A line is driven where it starts, and can be read in every tile that
it enters. DESIGN CHOICE (log entry 109): its taps in a tile. -/
def joins (w d : Wire) : Bool :=
  let onDie (t k : Nat) : Bool := bankDie (k / 64) = some (t / 256)
  let segAt (t c : Nat) : Bool := match d with
    | .seg t' c' dir len i => t' = t && decide (segEnd c' dir len = c) && decide (i < segCount len)
    | _ => false
  let lineIn (t : Nat) : Bool := match d with
    | .line t' dir len i n => decide (0 < n) && decide (n ≤ len) && decide (i < lineCount len) && decide (lineTile t' dir n = some t)
    | _ => false
  match w with
  | .xin t c i => decide (i < 32) && (segAt t c || lineIn t)
  | .seg t c dir len i => decide (dir < 4) && decide (i < segCount len) && (segAt t c || lineIn t || (match d with
    | .dest t' c' n => t' = t && c' = c && decide (139 ≤ n) && decide (n < 163)
    | .out t' u _ _ => t' = t && beside u c
    | .io k => onDie t k
    | _ => false))
  | .line t dir len i n => decide (dir < 4) && n = 0 && decide (i < lineCount len) && (lineIn t || (match d with
    | .seg t' _ _ len' i' => t' = t && decide (i' < segCount len')
    | .dest t' _ n => t' = t && decide (139 ≤ n) && decide (n < 163)
    | _ => false))
  | .pin t u _ _ => (match d with
    | .seg t' c' dir len i => t' = t && decide (i < segCount len) && beside u (segEnd c' dir len)
    | _ => false)
  | .ioOut k => (match d with | .seg t .. => onDie t k | .line t dir _ _ n => (lineTile t dir n).any (onDie · k) | _ => false)
  | .ioEn k => (match d with | .seg t .. => onDie t k | .line t dir _ _ n => (lineTile t dir n).any (onDie · k) | _ => false)
  | _ => false

/-- The tile in whose frames the driver of a signal stands. -/
def State.homeOf (s : State) (w : Wire) : Nat :=
  match w with
  | .src t _ _ => t
  | .dest t _ _ => t
  | .carry t _ _ => t
  | .xin t _ _ => t
  | .seg t _ _ _ _ => t
  | .line t _ _ _ _ => t
  | .pin t _ _ _ => t
  | .out t _ _ _ => t
  | .io k => (tget IoCfg.blank s.fab.io k).tile
  | .ioOut k => (tget IoCfg.blank s.fab.io k).tile
  | .ioEn k => (tget IoCfg.blank s.fab.io k).tile

/-- What drives a signal of the routing, where the frames connect it. -/
def State.driver (s : State) (w : Wire) : Option Wire :=
  ((s.tcfg (s.homeOf w)).nets.find? (fun x => x.1 = w && joins w x.2)).map (·.2)

/-- The source of a local crossbar's destination (R120). -/
def State.xbarSrc (s : State) (t c n : Nat) : Option Nat :=
  let v := tget 0 (s.tcfg t).xbar (c * 163 + n)
  if v = 0 ∨ 96 < v then none else some (v - 1)

/-! ### Clamps (R286) -/

/-! ### Seam wires (R123–R126) -/

/-- A seam wire delivers a fabric signal: no wire reserved for slack, which the image's declaration alone reserves, and no group in network role
(R123, R124). Key: fabric bundle key * 64 + wire. -/
def State.seamWireOn (s : State) (k : Nat) : Bool := !(s.seams.declared && decide (k % 8 = 7)) && !s.flexKey (k / 64)

/-- The seam wire that carries a line on from tile t, at a die edge: the wire of the crossing whose setting sends at t's die and receives at the other
(R122–R124). -/
def State.seamWireFor (s : State) (line : Nat × Nat × Nat × Nat) (t t' : Nat) : Option SeamWire :=
  let lo := decide (t / 256 < t' / 256)
  s.fab.seamCfg.find? (fun w => w.line = line &&
    (let (a, b, p) := seamEnds (w.key / 65536)
     (if lo then t / 256 = a && t' / 256 = b else t' / 256 = a && t / 256 = b) &&
       decide (w.key / 4096 % 16 = if p = 0 then t / 16 % 16 else t % 16)))

/-- Both ends of a seam wire agree on the direction from tile t to tile t'. -/
def SeamWire.agrees (w : SeamWire) (t t' : Nat) : Bool := if t < t' then w.dirLo = 1 && w.dirHi = 2 else w.dirHi = 1 && w.dirLo = 2

/-! ### Crossing primitives (R135–R137) -/

def State.xing (s : State) (k : Nat) : Crossing := tget Crossing.init s.fab.xings k
def State.setXing (s : State) (k : Nat) (x : Crossing) : State := { s with fab.xings := tput Crossing.init s.fab.xings k x }
def State.xcfg (s : State) (k : Nat) : Option XCfg := (s.fab.xcfg.find? (fun e => e.1 = k)).map (·.2)

/-- READY: the acknowledgement of the last request has passed the source's stages (R137). -/
def Crossing.ready (x : Crossing) (n : Nat) : Bool := x.ack.getD n false = x.tog

/-- The value of XSYNC or XGRAY at the destination: the oldest of n + 1 stages. -/
def Crossing.level (x : Crossing) (n : Nat) : Nat := x.pipe.getD n 0

/-- Output j of a crossing at its destination: the level, the pulse or VALID, then the word; undefined values while a changed input breaks R136. -/
def xOut (c : XCfg) (x : Crossing) (j : Nat) (free : Bool) : Bool :=
  if 0 < x.broken then free
  else match c.kind with
    | .xsync => bitAt (x.level c.n) 0
    | .xgray => bitAt (x.level c.n) j
    | .xpulse => x.out
    | .xword => if j = 0 then x.out else bitAt x.dword (j - 1)

/-- The output of a flip-flop, or of the crossing primitive that occupies it (R135). -/
def State.qOut (s : State) (t key : Nat) (free : Bool) : Bool :=
  match s.fab.xcfg.find? (fun e => (e.2.srcT = t && e.2.srcFfs.contains key) || (e.2.dstT = t && e.2.dstFfs.contains key)) with
  | none => s.ff t key
  | some (k, c) =>
    if c.dstT = t ∧ c.dstFfs.contains key then xOut c (s.xing k) (c.dstFfs.idxOf key) free
    else if c.srcFfs.idxOf key = 0 then (s.xing k).ready c.n else (s.xing k).overrun

/-! ### The hard units' outputs -/

/-- A word of the 512 × 72 mode from the halves on port A's and on port B's side, and port B's own word otherwise (R143, R147). -/
def BlkCfg.word (c : BlkCfg) (a b : Nat) : Nat := if c.wide then b % 2 ^ 36 + a % 2 ^ 36 * 2 ^ 36 else b

/-- The bits of RDATA that a port uses; the others read as 0 (R141, R149). -/
def BlkCfg.width (c : BlkCfg) (portB : Bool) : Nat := if c.wide then (if c.ecc then 64 else 72) else if portB then c.widthB else c.widthA

/-- RDATA and the flags of a block memory's port: the output register and what goes with its read when it is on, else the latch; in 512 × 72 mode port
B's RDATA carries the low half of the word and port A's the high half (R139, R141, R147, R149). -/
def State.blkOut (s : State) (t b : Nat) (portB : Bool) (f : Sig) (i : Nat) : Bool :=
  let c := tget BlkCfg.blank (s.tcfg t).blks b
  let m := tget BlkMem.init s.fab.blks (t * 24 + b)
  let word := if c.wide || portB then (if c.oregB then m.oregB else m.latchB) else (if c.oregA then m.oregA else m.latchA)
  let k := if c.wide && !portB then 36 + i else i
  match f with
  | .rdata => decide (i < 36) && decide (k < c.width portB) && bitAt word k
  | .errCorr => portB && (if c.oregB then m.regCorr else m.errCorr)
  | .errUncorr => portB && (if c.oregB then m.regUncorr else m.errUncorr)
  | .poison => if portB then (if c.oregB then m.regPoisonB else m.poisonB) else if c.oregA then m.regPoisonA else m.poisonA
  | _ => false

/-- The outputs of a packet queue's fabric ports (R196, R201, R202, R204). -/
def State.queueOut (s : State) (t n : Nat) (f : Sig) (i : Nat) : Bool :=
  let q := s.pq (4 * t + n)
  match f with
  | .pready => decide (0 < q.space)
  | .cdata => bitAt q.last.data i
  | .clast => q.last.last
  | .cpoison => q.last.p0 || q.last.p1
  | .cunder => q.cunder
  | .cavail => !q.vis.isEmpty
  | .cnotice => q.notice
  | .ccount => bitAt q.ccount i
  | _ => false

/-- Bit i of a list of bytes. -/
def byteBit (l : List Byte) (i : Nat) : Bool := bitAt (l.getD (i / 8) 0#8).toNat (i % 8)

/-- The interface can take a request of the fabric: the fabric holds fewer tags, or responses that wait on RSI in their space, than ENGINE_TAGS leaves it
(R167, R178). -/
def State.rqoRoom (s : State) (t : Nat) : Bool :=
  decide (((s.outsOf t 0).filter (fun o => match o.who with | .fabric _ => true | _ => false)).length + (s.ni t).rsi.length +
    s.getF F.niCtl_engineTags t 0 < 64) && !s.niFull t

/-- The outputs of a tile's hard units but the multiplier slices: block memories, queues, the engine's Y port (R264), the interface's RSI and TQI
(R167), receive ports and event counters (R210, R211). -/
def State.hardOut (s : State) (t : Nat) (u : Slot) (f : Sig) (i : Nat) : Bool :=
  match u with
  | .blkA b => s.blkOut t b false f i
  | .blkB b => s.blkOut t b true f i
  | .mul _ => false
  | .queue n => s.queueOut t n f i
  | .engine =>
    let e := s.engine t
    (match f with
     | .yready => decide (e.yq.length + e.yout.length < 4)
     | .yrvalid => e.ynow.isSome
     | .ydout => bitAt (e.ynow.getD (0, false)).1 i
     | .ypoison => (e.ynow.getD (0, false)).2
     | _ => false)
  | .ni =>
    let r := (s.ni t).rsi.head?.getD (0, 0, [], false)
    let q := (s.ni t).tqi.find? (fun q => !q.taken)
    (match f with
     | .rqoReady => s.rqoRoom t
     | .tsoReady => true
     | .rsiValid => !(s.ni t).rsi.isEmpty
     | .tqiValid => q.isSome
     | .tqiOp => bitAt ((q.map (·.req.op.code)).getD 0) i
     | .rsiRid => bitAt r.1 i
     | .rsiSvc => bitAt r.2.1 i
     | .rsiData => decide (i < 256) && byteBit r.2.2.1 i
     | .rsiPoison => r.2.2.2
     | .tqiTid => bitAt ((q.map (·.tid)).getD 0) i
     | .tqiOff => bitAt ((q.map (fun x => x.req.addr % 2 ^ 24)).getD 0) i
     | .tqiSize => bitAt ((q.map (·.req.size)).getD 0) i
     | .tqiTenant => bitAt ((q.map (·.req.tenant)).getD 0) i
     | .tqiMclass => bitAt ((q.map (·.req.mclass)).getD 0) i
     | .tqiData => decide (i < 256) && byteBit ((q.map (fun x => x.req.data.drop (32 * x.beats))).getD []) i
     | _ => false)
  | .events =>
    (match f with
     | .recv => tget false s.evs.high (8 * t + i)
     | .evcnt => bitAt ((tget [] s.evs.evpipe (4 * t + i / 32)).getD 3 0) (i % 32)
     | _ => false)

/-! ### Clock domains (R25) -/

/-- The clock net that a tile's clock input stands for: two inputs bound to one global net are one clock. -/
def State.netId (s : State) (t i : Nat) : Nat :=
  let g := (s.tcfg t).clkNets.getD i 64
  if g < 64 then g else 64 + i

/-- The clock net of a hard unit's port. -/
def State.portNet (s : State) (t : Nat) (u : Slot) (k : Nat) : Nat := (((s.tcfg t).portNets.find? (fun x => x.1 = (u, k))).map (·.2)).getD 0

/-- The clock net of cluster clock k. -/
def State.clusterNet (s : State) (t c k : Nat) : Nat := s.netId t (if k = 0 then (s.clusterCfg t c).clk0 else (s.clusterCfg t c).clk1)

/-- The clock net of a flip-flop, or of the end of the crossing primitive that occupies it. -/
def State.ffNet (s : State) (t key : Nat) : Nat :=
  match s.fab.xcfg.find? (fun e => (e.2.srcT = t && e.2.srcFfs.contains key) || (e.2.dstT = t && e.2.dstFfs.contains key)) with
  | none => s.clusterNet t (key / 32) (s.ffCfg t key).clk
  | some (_, c) => if c.dstT = t ∧ c.dstFfs.contains key then s.clusterNet t c.dstC c.dstClk else s.clusterNet t c.srcC c.srcClk

/-- The port of a hard unit that a signal belongs to: queues 0 push, 1 pop; events 0–7 raise, 8–15 receive, 16–19 the counters. -/
def sigPort (u : Slot) (f : Sig) (i : Nat) : Nat :=
  match u, f with
  | .queue _, .pdata | .queue _, .pvalid | .queue _, .plast | .queue _, .ppoison | .queue _, .pabort | .queue _, .pready => 0
  | .queue _, _ => 1
  | .engine, .engirq => 1
  | .events, .raise => i
  | .events, .recv => 8 + i
  | .events, .evclr => 16 + i
  | .events, .evcnt => 16 + i / 32
  | _, _ => 0

/-- The clock net of slice i. -/
def State.mulNet (s : State) (t i : Nat) : Nat := s.netId t (s.mulCfg t i).clk

/-- The clock net of a signal of a hard unit; in 512 × 72 mode port B reads, and its outputs are those of both. -/
def State.sigNet (s : State) (t : Nat) (u : Slot) (f : Sig) (i : Nat) : Nat :=
  match u with
  | .blkA b => let c := tget BlkCfg.blank (s.tcfg t).blks b; s.netId t (if c.wide then c.clkB else c.clkA)
  | .blkB b => s.netId t (tget BlkCfg.blank (s.tcfg t).blks b).clkB
  | .mul i => s.mulNet t i
  | _ => s.netId t (s.portNet t u (sigPort u f i))

/-- A path from clock net `g` to clock net `dom` joins two user clock domains directly, which has no defined behavior (R25). Nets from 64 on are no
user clock (log entry 124). -/
def foreign (dom g : Nat) : Bool := decide (dom < 64) && decide (g < 64) && dom != g

/-! ### The value of a signal -/

/-- `n` bits of a unit's input, by a reader of signals. -/
def pinBits (ev : Wire → Bool) (t : Nat) (u : Slot) (f : Sig) (n : Nat) : Nat := ((List.range n).map (fun i => b2n (ev (.pin t u f i)) * 2 ^ i)).sum

/-- The inputs of slice i of tile t, by a reader of signals (R127–R131). The chain of a slice whose tile below lies in another region passes the
clamp there. -/
def State.mulPins (s : State) (ev : Wire → Bool) (t i : Nat) : MulPins :=
  let p (f : Sig) (n : Nat) : Nat := pinBits ev t (.mul i) f n
  let chain (b : Nat) : Bool := match chainFrom t i with
    | none => ev (.pin t (.mul i) .chi b)
    | some (t', i') =>
      let w : Wire := .out t' (.mul i') .acc b
      if s.sameRegion t t' then ev w else (s.clamp t' w).getD (ev w)
  ⟨p .ma 18, p .mb 18, p .me 18, p .ad 48, p .fn 3, ev (.pin t (.mul i) .neg 0), p .pair 2, p .ce 3, p .clr 3,
    ((List.range 48).map (fun b => b2n (chain b) * 2 ^ b)).sum⟩

/-- The value of a slice's ACC that is read back with its result stage off: free. -/
def State.accBack (s : State) : Nat := (Config.freeWord s.free).toNat % 2 ^ 48

/-- A cell's inputs A–F as a number. -/
def cellIns (ev : Wire → Bool) (t c cell : Nat) : Nat := ((List.range 6).map (fun i => b2n (ev (.dest t c (8 * cell + i))) * 2 ^ i)).sum

/-- The outputs O6, O5 and the carry out of a cell. -/
def State.cellNow (s : State) (ev : Wire → Bool) (t c cell : Nat) : Bool × Bool × Bool :=
  cellOut (s.cellCfg t c cell) (cellIns ev t c cell) (ev (.carry t c cell))

/-- The carry into the lowest cell of a cluster (R116): a constant, local routing, or the cluster below, in the tile below through its clamp where
that lies in another region. The lowest cluster of a die has none below: free. -/
def State.carryIn (s : State) (ext ev : Wire → Bool) (t c : Nat) : Bool :=
  match (s.clusterCfg t c).cin with
  | 0 => false
  | 1 => true
  | 2 => ev (.dest t c 138)
  | _ =>
    if c % 24 ≠ 0 then ev (.carry t (c - 1) 16)
    else if t / 16 % 16 = 15 then ext (.carry t c 0)
    else
      let w : Wire := .carry (t + 16) (c + 23) 16
      if s.sameRegion t (t + 16) then ev w else (s.clamp (t + 16) w).getD (ev w)

/-- A global line past one more tile boundary: on within the die; at a die edge only on a seam wire, which delivers 0 when the fabric may not have it,
its flip-flop when that is enabled, and an open value when it is damaged or its ends disagree (R81, R122–R126). -/
def State.lineOn (s : State) (dom : Nat) (ext ev : Wire → Bool) (t dir len i n : Nat) : Bool :=
  match lineTile t dir n, lineTile t dir (n + 1) with
  | some a, some b =>
    if a / 256 = b / 256 then ev (.line t dir len i n)
    else (match s.seamWireFor (t, dir, len, i) a b with
      | none => ext (.line t dir len i (n + 1))
      | some w =>
        if !s.seamWireOn w.key then false
        else if !w.agrees a b || s.seams.named.contains (w.key / 64, w.key % 64) then ext (.line t dir len i (n + 1))
        else if w.reg then
          (if foreign dom (s.netId b (tget 0 s.fab.seamClk (w.key / 64))) then ext (.line t dir len i (n + 1)) else tget false s.fab.seamFfs w.key)
        else ev (.line t dir len i n))
  | _, _ => ext (.line t dir len i (n + 1))

/-- The value of a signal by the values of the signals that make it, as clock net `dom` takes it. `ext`: a signal that nothing drives, and one whose
value the manual leaves open, as of a path between clock domains (R25). -/
def State.wireStep (s : State) (dom : Nat) (ext ev : Wire → Bool) (w : Wire) : Bool :=
  let via : Bool := match s.driver w with | none => ext w | some d => ev d
  match w with
  | .src t c n =>
    if 64 ≤ n then ev (.xin t c (n - 64))
    else if n % 4 = 0 then (s.cellNow ev t c (n / 4)).1
    else if n % 4 = 1 then
      (if (s.cellCfg t c (n / 4)).wide then
        wideMux (fun m => ev (.src t c (4 * m))) (((List.range 4).map (fun i => b2n (ev (.dest t c (134 + i))) * 2 ^ i)).sum) (n / 4)
      else (s.cellNow ev t c (n / 4)).2.1)
    else if foreign dom (s.ffNet t (ffKey c (n / 4) (n % 2))) then ext w
    else s.qOut t (ffKey c (n / 4) (n % 2)) (ext w)
  | .dest t c n => match s.xbarSrc t c n with | none => ext w | some k => ev (.src t c k)
  | .carry t c n => if n = 0 then s.carryIn ext ev t c else (s.cellNow ev t c (n - 1)).2.2
  | .xin _ _ _ => via
  | .seg _ _ _ _ _ => via
  | .line t dir len i n => if n = 0 then (s.clamp t w).getD via else s.lineOn dom ext ev t dir len i (n - 1)
  | .pin t _ _ _ => (s.clamp t w).getD via
  | .out t (.mul i) f b =>
    if foreign dom (s.mulNet t i) && (s.mulCfg t i).clocked then ext w
    else
      let r := mulOut (s.mulCfg t i) (s.mul t i) (s.mulPins ev t i) s.accBack
      (match f with | .acc => bitAt r.1 b | .above => r.2.1 | .below => r.2.2 | _ => false)
  | .out t u f i => if foreign dom (s.sigNet t u f i) then ext w else s.hardOut t u f i
  | .io _ => ext w
  | .ioOut k => (s.clamp (tget IoCfg.blank s.fab.io k).tile w).getD via
  | .ioEn k => (s.clamp (tget IoCfg.blank s.fab.io k).tile w).getD via

/-- The value of a signal through at most `fuel` signals in a row; a path that never ends, which only a loop without a register makes, gives an open
value. -/
def State.wireIn (s : State) (dom : Nat) (ext : Wire → Bool) : Nat → Wire → Bool
  | 0, w => ext w
  | fuel + 1, w => s.wireStep dom ext (s.wireIn dom ext fuel) w

/-- The value of a signal. DESIGN CHOICE (log entry 110): a signal that nothing drives, and one in a loop without a register, has a free value, and
what a command brings for an input that nothing drives is that value. -/
def State.wire (s : State) (dom : Nat) (ext : Wire → Bool) (w : Wire) : Bool := s.wireIn dom ext (2 ^ 40) w

/-- The free values of signals that nothing drives. -/
def State.openWires (s : State) : Wire → Bool := Config.openWire s.free

/-- The value of a signal with the free values, without a clock that takes it. -/
def State.wireNow (s : State) (w : Wire) : Bool := s.wire 64 s.openWires w

/-- The value of a hard unit's input as its port takes it. -/
def State.pinNow (s : State) (t : Nat) (u : Slot) (f : Sig) (i : Nat) : Bool := s.wire (s.sigNet t u f i) s.openWires (.pin t u f i)

/-- The pin is connected. -/
def State.driven (s : State) (t : Nat) (u : Slot) (f : Sig) (i : Nat) : Bool := (s.driver (.pin t u f i)).isSome || (s.clamp t (.pin t u f i)).isSome

/-- `n` bits of a hard unit's input: what the routing brings, and `v` for the bits that nothing drives. -/
def State.sense (s : State) (t : Nat) (u : Slot) (f : Sig) (n v : Nat) : Nat :=
  if (s.tcfg t).nets.isEmpty ∧ (s.clamp t (.pin t u f 0)).isNone then v % 2 ^ n
  else ((List.range n).map (fun i => b2n (if s.driven t u f i then s.pinNow t u f i else bitAt v i) * 2 ^ i)).sum

/-- The first n bytes of the beat of 256 bits that the routing brings to a channel of the interface; `data`: what a command brings for pins that
nothing drives (R167). -/
def State.beat (s : State) (t : Nat) (f : Sig) (n : Nat) (data : List Byte) : List Byte :=
  leBytes (min n 32) (s.sense t .ni f (8 * min n 32) (leNat (data.take 32)))

/-- One input of a hard unit. -/
def State.senseBit (s : State) (t : Nat) (u : Slot) (f : Sig) (i : Nat) (v : Bool) : Bool :=
  if s.driven t u f i then s.pinNow t u f i else v

/-! ### Clock nets (R117, R442) -/

/-- The source of global net g delivers edges: the output of a synthesizer is gated low while it has no lock (R437; log entry 162). -/
def State.gcDriven (s : State) (g : Nat) : Bool :=
  let c := s.getF F.gcCtl_src 0 g
  decide (0x20 ≤ c) || s.flag F.syStatus_lock 0 c

/-- The tile's clock net i is bound, its leaf gate and its global net are on, and the tile's user clocks run. -/
def State.netRuns (s : State) (t i : Nat) : Bool :=
  let g := (s.tcfg t).clkNets.getD i 64
  s.tileClock t && decide (i < 8) && decide (g < 64) && bitAt (s.reg .leafGate 0 t) i && s.flag F.gcCtl_enable 0 g && s.gcDriven g

/-- A hard unit's fabric port has clock edges, and the hold of R100 is off. -/
def State.portRuns (s : State) (t : Nat) (u : Slot) (k : Nat) : Bool := s.netRuns t (s.portNet t u k) && !s.pw.ffHold

end Sys2Proof.Machine
end

