-- ==== Sys2Proof/Machine/Load.lean ====
section
/-! DEFINITION. Frames, records and the full load (04_configuration_load.md R87–R100, R104, R105; 02 R45; 06 R153; 12 R283, R285). The
encoding of logic and die-level frames is not in the manual: their raw bits are kept, and what they say comes with LOAD_COMPLETE. -/

namespace Sys2Proof.Machine

/-! ### Frame addresses (R87–R89) -/

def frDie (a : Nat) : Nat := bits a 31 30
def frKind (a : Nat) : Nat := bits a 29 29
def frIndex (a : Nat) : Nat := bits a 20 10

/-- The tile of a tile frame. -/
def frTile (a : Nat) : Nat := frDie a * 256 + bits a 28 25 * 16 + bits a 24 21

/-- Frame address of a tile frame. -/
def tileFrame (t idx : Nat) : Nat := t / 256 * 2 ^ 30 + t / 16 % 16 * 2 ^ 25 + t % 16 * 2 ^ 21 + idx * 1024

/-- `n` frames from an address lie on die d at indexes that exist. -/
def framesOk (d a n : Nat) : Bool :=
  frDie a = d && a % 1024 = 0 &&
  (if frKind a = 0 then decide (frIndex a + n ≤ 1752) else bits a 28 21 = 0 && decide (frIndex a + n ≤ 1024))

/-- Frames that UNINIT may cover: block memory content, engine X and Y data (R95). -/
def uninitOk (a n : Nat) : Bool :=
  frKind a = 0 && (List.range n).all (fun i =>
    let x := frIndex a + i
    (decide (1280 ≤ x) && decide (x ≤ 1495)) || (decide (1624 ≤ x) && decide (x ≤ 1751)))

/-! ### Frame contents (R153, R536) -/

/-- Put the bits of a block content frame into the array (R153). -/
def BlkMem.putFrame (m : BlkMem) (f v : Nat) : BlkMem :=
  let lo := 4096 * f
  let first := lo / 9
  iter ((lo + 4095) / 9 + 1 - first) (fun i m =>
    let p := first + i
    let a := max (9 * p) lo
    let b := min (9 * p + 8) (lo + 4095)
    { m with
      bytes := tput 0 m.bytes p (setBits (tget 0 m.bytes p) (b - 9 * p) (a - 9 * p) (bits v (b - lo) (a - lo)))
      marks := if m.uninit then tput false m.marks p true else m.marks }) m

/-- The bits of a block content frame. -/
def BlkMem.getFrame (m : BlkMem) (f : Nat) : Nat :=
  ((List.range 4096).map (fun i => let a := 4096 * f + i; b2n (bitAt (tget 0 m.bytes (a / 9)) (a % 9)) * 2 ^ i)).sum

/-- Put the words of an engine memory frame, with fresh check bits (R297, R536). -/
def EMem.putFrame (m : EMem) (w f v : Nat) : EMem :=
  iter (4096 / w) (fun i m => m.put (4096 / w * f + i) (bits v (w * i + w - 1) (w * i)) 0) m

/-- The bits of an engine memory frame. -/
def EMem.getFrame (m : EMem) (w f : Nat) : Nat :=
  ((List.range (4096 / w)).map (fun i => (tget ⟨0, 0⟩ m.words (4096 / w * f + i)).data % 2 ^ w * 2 ^ (w * i))).sum

/-- Write a frame: memory content goes to its memory; logic, routing and die-level frames are kept as bits. -/
def State.putFrame (s : State) (a v : Nat) : State :=
  let t := frTile a
  let x := frIndex a
  if frKind a = 1 ∨ x < 1280 then { s with ld.frames := tput 0#4096 s.ld.frames a (BitVec.ofNat 4096 v) }
  else if x < 1496 then
    let k := t * 24 + (x - 1280) / 9
    { s with fab.blks := tput BlkMem.init s.fab.blks k ((tget BlkMem.init s.fab.blks k).putFrame ((x - 1280) % 9) v) }
  else
    let e := s.engine t
    if x < 1624 then s.setEngine t { e with prog := e.prog.putFrame 32 (x - 1496) v }
    else if x < 1688 then s.setEngine t { e with x := e.x.putFrame 16 (x - 1624) v }
    else s.setEngine t { e with y := e.y.putFrame 16 (x - 1688) v }

/-- Mark words of a memory written that an UNINIT record does not cover. -/
def EMem.uninitFrame (m : EMem) (f : Nat) : EMem :=
  let m := if m.uninit then m else { m with uninit := true, written := (List.range 16384).map (fun a => (a, true)) }
  { m with written := m.written.filter (fun e => e.1 / 256 ≠ f) }

/-- A frame marked UNINIT: its words or bytes are unwritten (R99, R154). -/
def State.uninitFrame (s : State) (a : Nat) : State :=
  let t := frTile a
  let x := frIndex a
  if x < 1496 then
    let k := t * 24 + (x - 1280) / 9
    let f := (x - 1280) % 9
    let m := tget BlkMem.init s.fab.blks k
    let m := if m.uninit then m else { m with uninit := true, marks := (List.range 4096).map (fun p => (p, true)) }
    let m := { m with marks := m.marks.filter (fun e => decide (9 * e.1 + 8 < 4096 * f) || decide (4096 * f + 4096 ≤ 9 * e.1)) }
    { s with fab.blks := tput BlkMem.init s.fab.blks k m }
  else
    let e := s.engine t
    if x < 1688 then s.setEngine t { e with x := e.x.uninitFrame (x - 1624) } else s.setEngine t { e with y := e.y.uninitFrame (x - 1688) }

/-- A table with every entry rewritten, in its canonical form. -/
def tmap {α : Type} [DecidableEq α] (d : α) (f : Nat → α → α) (l : Tbl α) : Tbl α := (l.map (fun e => (e.1, f e.1 e.2))).filter (fun e => e.2 ≠ d)

/-- The blank pattern in the frames of an engine memory that `cov` names: words of zeros, written (R97, R99). -/
def EMem.blank (m : EMem) (w : Nat) (cov : Nat → Bool) : EMem :=
  { m with
    words := m.words.filter (fun e => !cov (e.1 / (4096 / w)))
    written := if m.uninit then ((List.range 16384).filter (fun a => cov (a / (4096 / w)))).foldl (fun b a => tput false b a true) m.written else m.written }

/-- The blank pattern in the frames of a block memory that `cov` names (R97, R153). -/
def BlkMem.blankFrames (m : BlkMem) (cov : Nat → Bool) : BlkMem := iter 9 (fun f m => if cov f then m.putFrame f 0 else m) m

/-- The blank pattern in the frames that `cov` names by address: kept bits are gone, memories hold zeros (R97, R153). -/
def State.blankFrames (s : State) (cov : Nat → Bool) : State :=
  let at' (t x : Nat) : Bool := cov (tileFrame t x)
  { s with
    ld.frames := s.ld.frames.filter (fun e => !cov e.1)
    fab.blks := tmap BlkMem.init (fun k m => m.blankFrames (fun f => at' (k / 24) (1280 + 9 * (k % 24) + f))) s.fab.blks
    eng := tmap Engine.init (fun t e => { e with
      prog := e.prog.blank 32 (fun f => at' t (1496 + f)), x := e.x.blank 16 (fun f => at' t (1624 + f)), y := e.y.blank 16 (fun f => at' t (1688 + f)) }) s.eng }

/-- An engine of which only the memories are kept. -/
def Engine.memories (e : Engine) : Engine := { Engine.init with prog := e.prog, x := e.x, y := e.y }

/-- A tile whose frames are about to be written: no design, its registers at their initial values; what its memories hold goes as the frames are
written (R97, R295). -/
def State.wipeTile (s : State) (t : Nat) : State :=
  { s with fab.cfg := tput TileCfg.blank s.fab.cfg t TileCfg.blank,
           fab.ffs := s.fab.ffs.filter (fun e => e.1 / 24576 ≠ t),
           fab.muls := s.fab.muls.filter (fun e => e.1 / 64 ≠ t),
           eng := tput Engine.init s.eng t (s.engine t).memories }

/-! ### Records (R93–R96) -/

/-- The completion code for a service code that ended a buffer access (R294). DESIGN CHOICE (log entry 136): a read of an image staged in HBM ends with
the codes of this table too. -/
def bufferCode (svc : Nat) (read : Bool) : Nat :=
  match svc with
  | 4 => 0x12
  | 7 => 0x40
  | 6 => 0x41
  | 5 => if read then 0x41 else 0xFF
  | 10 => 0x11
  | _ => 0xFF

/-- Read a run of bytes of HBM for a tenant, as the Referee's die controllers do (R294): a completion code and the bytes. -/
def State.bufRead (s : State) (t a n : Nat) : State × Nat × List Byte :=
  if 0x1800000000 < a + n then (s, 0x11, [])
  else
    match State.readRange (n / 256 + 3) s ⟨t, 4, false, 0⟩ a n with
    | (s, 0, d) => (s, 0, d)
    | (s, c, _) => (s, bufferCode c true, [])

/-- Write a run of bytes to HBM in the same way. -/
def State.bufWrite (s : State) (t a : Nat) (d : List Byte) : State × Nat :=
  if 0x1800000000 < a + d.length then (s, 0x11)
  else
    match State.writeRange (d.length / 256 + 3) s ⟨t, 4, false, 0⟩ a d with
    | (s, 0) => (s, 0)
    | (s, c) => (s, bufferCode c false)

/-- HBM initialization has ended on every stack: VALID of the capture buffers of swaps that a device reset ended becomes 0 (R293, R301). -/
def State.dropSwaps (s : State) : State :=
  if s.pw.hbmEnded ≠ 15 then s
  else s.ld.swapRecs.foldl (fun s x => (s.bufWrite x.1 (x.2 + 7) [0#8]).1) { s with ld.swapRecs := [] }

/-- HBM_INIT_DONE: a controller ends steps 1–6 of R322: READY with the band of its reading, the timing set and the rate of settings; or frozen with
CAUSE 4, the steps before the one that failed having been carried out. `fail`: the step that failed, less 1. `rfm`: the stack reports support
(R44, R319, R322, R326, R331). A stack whose rails rose in a wrong order fails at the boot (R519; log entry 166). Once all have ended, the capture
buffers of interrupted swaps become invalid (R301). -/
def execHbmInitDone (st : Die) (fail : Option (Fin 5)) (t : Option (Fin 256)) (rfm : Bool) (s : State) : Out :=
  .next (State.huddleCheck (State.dropSwaps (if s.hbmSt st ≠ 0 ∨ s.pw.step < 4 then s else
    let fail := if bitAt s.elec.railOrder st ∧ !tget false s.hbm.reinit st then some (fail.getD 0) else fail
    let s := { s with hbm.reinit := tput false s.hbm.reinit st false,
                      pw.hbmEnded := if bitAt s.pw.hbmEnded st then s.pw.hbmEnded else s.pw.hbmEnded + 2 ^ st.val }
    let ran (k : Nat) : Bool := match fail with | none => true | some f => decide (k ≤ f.val)
    let s := if ran 1 then s.stackTemp st (t.map (·.val)) else s
    let band := match t with | some v => bandAt (sgn 8 v.val) | none => 1
    let s := if ran 2 then ((s.bootTimings st).writeDelays st band).setF F.hbmStatus_band st 0 band else s
    let s := if ran 3 then s.setF F.hbmDisturb_rfm st 0 (b2n rfm) else s
    let s := if ran 4 then (s.drawScr st).zeroStack st else s
    let s := if ran 5 then s.setF F.hbmStatus_rate st 0 (leAt (s.bootSetting 0x0021 st) 0 1) else s
    match fail with
    | some _ => s.hbmFreeze st 4 0
    | none =>
      let s := (s.setHbmSt st 1).setDegr st false
      if s.flag F.hbmCtl_enable st 0 then s else s.setHbmSt st 4)))

/-- The source of a section: the bytes of its image, or the code of a failed read (R95, R294). -/
def State.imgRead (s : State) (c : LoadCtl) (o n : Nat) : State × Nat × List Byte :=
  if c.srcLen < o + n then (s, 0x21, [])
  else match c.hbm with
    | none => (s, 0, s.storeBytes c.area o n)
    | some (a, t) => s.bufRead t (a + o) n

/-- The bytes that a source in HBM can hold from an address on. -/
def hbmRoom (a : Nat) : Nat := 0x1800000000 - a

/-- A record: TYPE, COUNT, ADDR and all its bytes. -/
structure Rec where
  type : Nat
  count : Nat
  addr : Nat
  bytes : List Byte
deriving DecidableEq, Repr

def hdrType (h : List Byte) : Nat := bits (leAt h 0 8) 63 60
def hdrCount (h : List Byte) : Nat := bits (leAt h 0 8) 59 48
def hdrAddr (h : List Byte) : Nat := bits (leAt h 0 8) 31 0

/-- Bytes of a record after its header. -/
def bodyLen (h : List Byte) : Nat := if hdrType h = 1 then 516 * hdrCount h else if hdrType h = 3 then 56 else 0

/-- A record header is well formed at this place of die d's section (R95). -/
def LoadCtl.wellFormed (c : LoadCtl) (d : Nat) (h : List Byte) : Bool :=
  let n := hdrCount h
  let a := hdrAddr h
  decide (c.pos + 8 + bodyLen h ≤ c.len) &&
  (if hdrType h = 3 then n = 0
   else if hdrType h = 1 ∨ hdrType h = 2 then
     decide (1 ≤ n) && decide (n ≤ 256) && framesOk d a n && (match c.lastAddr with | none => true | some l => decide (l < a)) &&
     (hdrType h = 1 || uninitOk a n)
   else false)

/-- The next record of a section, or the code with which the section fails: the end without an END tag, a malformed record, or a source
that cannot be read. -/
def State.nextRec (s : State) (c : LoadCtl) (d : Nat) : State × Except Nat Rec :=
  if c.len < c.pos + 8 then (s, .error 0x21)
  else
    match s.imgRead c (c.off + c.pos) 8 with
    | (s, 0, h) =>
      if !c.wellFormed d h then (s, .error 0x21)
      else
        (match s.imgRead c (c.off + c.pos + 8) (bodyLen h) with
         | (s, 0, b) => (s, .ok ⟨hdrType h, hdrCount h, hdrAddr h, h ++ b⟩)
         | (s, code, _) => (s, .error code))
    | (s, code, _) => (s, .error code)

/-- A controller after it has taken a record whole; a tag closes its block (R94, R96). -/
def LoadCtl.took (c : LoadCtl) (r : Rec) : LoadCtl :=
  let c := { c with pos := c.pos + r.bytes.length }
  if r.type = 3 then
    let flags := leAt r.bytes 60 4
    { c with
      digest := BitVec.ofNat 384 (leAt r.bytes 8 48)
      blk := []
      endSeen := if bitAt flags 0 then some (leAt r.bytes 56 4) else none }
  else { c with blk := c.blk ++ r.bytes, lastAddr := some (r.addr + 1024 * (r.count - 1)) }

/-- A tag's digest is that of its block, the tag included (R94, R96). -/
def LoadCtl.digestOk (c : LoadCtl) (r : Rec) : Bool := Machine.digest (c.blk ++ r.bytes) = c.digest

/-- Frame i of a FRAMES record: its data, and whether its check holds (R90). -/
def Rec.frame (r : Rec) (i : Nat) : Nat := leNat (slice 0#8 r.bytes (8 + 516 * i) 512)
def Rec.frameOk (r : Rec) (i : Nat) : Bool :=
  crc32 (slice 0#8 r.bytes (8 + 516 * i) 512).reverse = leAt r.bytes (8 + 516 * i + 512) 4

/-- A controller for section d of an image whose header is `h`. -/
def mkCtl (h : List Byte) (d area : Nat) (hbm : Option (Nat × Nat)) (srcLen : Nat) : LoadCtl :=
  { LoadCtl.init with
    active := true
    area := area
    hbm := hbm
    srcLen := srcLen
    off := hSecOff h d
    len := hSecLen h d
    frames := hSecFrames h d
    digest := hDigest h d
    short := decide (srcLen < hLength h) }

/-- Walk a section without writing any frame: the code with which it fails, if it does (R107, R302). Fuel bounds the records. -/
def State.walkSection : Nat → State → LoadCtl → Nat → Option Nat
  | 0, _, _, _ => some 0x21
  | f + 1, s, c, d =>
    if c.len = 0 then (if c.frames = 0 then none else some 0x21)
    else match c.endSeen with
      | some n => if n = c.frames then none else some 0x21
      | none =>
        match s.nextRec c d with
        | (_, .error code) => some code
        | (_, .ok r) =>
          if r.type = 3 ∧ !c.digestOk r then some 0x22
          else if r.type = 1 ∧ !(List.range r.count).all r.frameOk then some 0x22
          else State.walkSection f s (c.took r) d

/-- The checks of R92, R95 and R96 over a whole image in the store, `target` being its use; `unread`: a read of it that the store's own code cannot
correct (R96). -/
def State.verifyImage (s : State) (area len target : Nat) (unread : Bool) : Nat :=
  let h := s.storeBytes area 0 512
  if unread then 0x22
  else if !headerOk h target then 0x20
  else if !headerSigned h then 0x22
  else if len < hLength h then 0x21
  else ((List.range 4).findSome? (fun d => s.walkSection (hSecLen h d / 8 + 2) (mkCtl h d area none len) d)).getD 0

/-! ### Controllers -/

def ctlKey (r : Option Nat) (d : Nat) : Nat :=
  match r with
  | none => d
  | some r => 4 + 4 * r + d
def State.ctl (s : State) (r : Option Nat) (d : Nat) : LoadCtl := tget LoadCtl.init s.ld.ctls (ctlKey r d)
def State.setCtl (s : State) (r : Option Nat) (d : Nat) (c : LoadCtl) : State :=
  { s with ld.ctls := tput LoadCtl.init s.ld.ctls (ctlKey r d) c }

/-- The section of another die of the same load has failed: this one stops at its next record boundary (R105). -/
def State.otherFailed (s : State) (r : Option Nat) : Bool := (List.range 4).any (fun d => (s.ctl r d).fail.isSome)

/-- A region's tiles on a die. -/
def State.regionOn (s : State) (r d : Nat) : Bool := (s.region r).tiles.any (fun t => t / 256 = d)

/-- Region steps on a die run in the order in which Maltar accepted their commands (R300): no region accepted earlier has steps there. -/
def State.regionTurn (s : State) (r d : Nat) : Bool :=
  match s.rgn.order.find? (fun x => s.regionOn x d) with
  | none => true
  | some x => decide (x = r)

/-- A controller can take its next record. -/
def State.ctlRuns (s : State) (r : Option Nat) (d : Nat) : Bool :=
  let c := s.ctl r d
  c.active && c.fail.isNone && c.endSeen.isNone && decide (c.len ≠ 0) && !s.otherFailed r &&
  (match r with | none => s.pw.mode = .load | some r => s.regionState r = 2 && s.regionTurn r d)

/-- A section fails with a code and the address where the failure was found. -/
def State.ctlFail (s : State) (r : Option Nat) (d code addr : Nat) : State :=
  s.setCtl r d { s.ctl r d with fail := some code, failAddr := addr }

/-- The fence list of a region (R285): tile frames of its tiles. -/
def State.inFence (s : State) (r : Option Nat) (a : Nat) : Bool :=
  match r with
  | none => true
  | some r => frKind a = 0 && (s.region r).tiles.contains (frTile a)

/-- Errors that the store's own code finds while die d reads its quarter: uncorrectable where true. DESIGN CHOICE (log entry 137): where an image lies in
the quarter the manual does not say, and the block that is logged is free (R371, R372, R374). -/
def State.storeErrs (s : State) (d : Nat) (l : List Bool) : State :=
  l.foldl (fun s ue => State.eccError { s with free := s.free + 1 } .store d ue 0xC ((Config.freeWord s.free).toNat % 786432) 0 0) s

/-- An uncorrectable one among them. -/
def unread (l : List Bool) : Bool := l.contains true

/-- The first frame that a controller has not yet covered. -/
def LoadCtl.from (c : LoadCtl) (d : Nat) : Nat :=
  match c.lastAddr with
  | none => d * 2 ^ 30
  | some l => l + 1024

/-- The frame is one of die d's, and of the region's where a region loads. -/
def State.frameOf (s : State) (r : Option Nat) (d a : Nat) : Bool := framesOk d a 1 && s.inFence r a

/-- The controller writes the frames before `hi` that the image does not carry: the blank pattern, in ascending order, up to the first that reads back
wrong twice, `gap` (R97, R98, R295). -/
def State.blankTo (s : State) (r : Option Nat) (d hi : Nat) (gap : Option Nat) : State × Bool :=
  let lo := (s.ctl r d).from d
  let upto (n : Nat) : State := s.blankFrames (fun a => decide (lo ≤ a) && decide (a < n) && s.frameOf r d a)
  match gap with
  | none => (upto hi, true)
  | some g => if lo ≤ g ∧ g < hi ∧ s.frameOf r d g then ((upto (g + 1)).ctlFail r d 0xFF g, false) else (upto hi, true)

/-- Write the frames of a record in order, up to the first that fails: outside the fence, its check wrong or its store read
uncorrectable, or read back wrong twice. -/
def State.putFrames (s : State) (r : Option Nat) (d : Nat) (x : Rec) (bad rb : Option Nat) : Nat → State × Bool
  | 0 => (s, true)
  | n + 1 =>
    match s.putFrames r d x bad rb n with
    | (s, false) => (s, false)
    | (s, true) =>
      let a := x.addr + 1024 * n
      if !s.inFence r a then (s.ctlFail r d 0x23 a, false)
      else if bad = some n then (State.ctlFail (if (s.ctl r d).hbm.isNone then s.storeErrs d [true] else s) r d 0x22 a, false)
      else if !x.frameOk n then (s.ctlFail r d 0x22 a, false)
      else if rb = some n then ((s.putFrame a (x.frame n)).ctlFail r d 0xFF a, false)
      else (s.putFrame a (x.frame n), true)

/-- The address that a record reports which cannot be taken: its ADDR field where its header can be read. DESIGN CHOICE (log entry 102): where the
header cannot, or the section holds no further one, the last covered frame, 0 without one (R104). -/
def State.recAddr (s : State) (c : LoadCtl) : Nat :=
  let last := c.lastAddr.getD 0
  if c.len < c.pos + 8 then last
  else match s.imgRead c (c.off + c.pos) 8 with
    | (_, 0, h) => leAt h 0 4
    | _ => last

/-- Take the next record when it is of the given type; any row finds the section's failure when the next record is malformed. `errs`: what the store's
own code finds; an error that it cannot correct is in the record's header or tag (R96). -/
def State.takeRec (s : State) (r : Option Nat) (d type : Nat) (errs : List Bool) (f : State → Rec → State) : State :=
  if !s.ctlRuns r d then s
  else
    let c := s.ctl r d
    let errs := if c.hbm.isNone then errs else []
    let s := s.storeErrs d errs
    if unread errs then s.ctlFail r d 0x22 (c.lastAddr.getD 0)
    else match s.nextRec c d with
    | (s, .error code) => s.ctlFail r d code (s.recAddr c)
    | (s, .ok x) => if x.type = type then f s x else s

/-- FRAMES_RECORD: die d takes a FRAMES record of the full load, or of region r's load; the frames before it that the image does not carry are blank.
`errs`: the store's own errors, where true in the record's header; `bad`: a frame that the store cannot deliver; `rb`: a frame that reads back wrong
twice; `gap`: a blank frame that does (R95–R98, R285, R295). -/
def execFramesRecord (r : Option RegionId) (d : Die) (errs : List Bool) (bad rb : Option (Fin 256)) (gap : Option Word32) (s : State) : Out :=
  let r := r.map (·.val)
  .next (s.takeRec r d 1 errs (fun s x =>
    match s.blankTo r d x.addr (gap.map (·.toNat)) with
    | (s, false) => s
    | (s, true) =>
      match s.putFrames r d x (bad.map (·.val)) (rb.map (·.val)) x.count with
      | (s, true) => s.setCtl r d ((s.ctl r d).took x)
      | (s, false) => s))

/-- UNINIT_RECORD: die d takes an UNINIT record: its frames are left unwritten (R93, R97, R99). DESIGN CHOICE (log entry 101): frames that it names
outside a region's fence list are passed over, and raise no FENCE_VIOLATION, for no frame is written. -/
def execUninitRecord (r : Option RegionId) (d : Die) (errs : List Bool) (gap : Option Word32) (s : State) : Out :=
  let r := r.map (·.val)
  .next (s.takeRec r d 2 errs (fun s x =>
    match s.blankTo r d x.addr (gap.map (·.toNat)) with
    | (s, false) => s
    | (s, true) =>
      let s := iter x.count (fun i s => if s.inFence r (x.addr + 1024 * i) then s.uninitFrame (x.addr + 1024 * i) else s) s
      s.setCtl r d ((s.ctl r d).took x)))

/-- TAG_RECORD: die d takes a TAG record and checks the digest of the block that it closes, and in the final tag that CARRIED is SECTION_FRAMES (R94–
R96). DESIGN CHOICE (log entry 102): a failing tag reports its ADDR field. -/
def execTagRecord (r : Option RegionId) (d : Die) (errs : List Bool) (s : State) : Out :=
  let r := r.map (·.val)
  .next (s.takeRec r d 3 errs (fun s x =>
    let c := s.ctl r d
    if !c.digestOk x then s.ctlFail r d 0x22 x.addr
    else match (c.took x).endSeen with
      | some n => if n = c.frames then s.setCtl r d (c.took x) else s.ctlFail r d 0x21 x.addr
      | none => s.setCtl r d (c.took x)))

/-! ### The full load (R45, R97, R105) -/

/-- The slot to load next: the primary, or the golden slot after its failure or without a pointer record; 0 A, 1 B, 2 golden. -/
def State.loadSlot (s : State) : Nat := if s.ld.fellBack then 2 else s.activeSlot.getD 2

/-- A full load fails: after the primary slot, the golden slot loads; after the golden slot, LOCKOUT. Causes 4 and 5 (R45, R104, R108,
R534). -/
def State.loadFail (s : State) (die code addr : Nat) : State :=
  let golden := s.loadSlot = 2
  let s := { s with ld.ctls := s.ld.ctls.filter (fun e => decide (4 ≤ e.1)), ld.loading := 0 }
  let first := !s.ld.fellBack
  let s := if first then { s with ld.repDie := die, ld.repAddr := addr } else s
  if golden then
    let s := { s with ld.repGolden := code }
    let s := s.alarm 255 0x04 (s.ld.repPrimary * 256 + code * 65536 + s.ld.repDie * 2 ^ 24 + s.ld.repAddr * 2 ^ 32) 0 (srcOf .devctl 0)
    s.lockout 4 s.ld.repDie
  else { s with ld.repPrimary := code, ld.fellBack := true }

/-- The code with which Maltar refuses to load slot k, 0 none: a primary slot that is not VERIFIED gives IMAGE_TRUNCATED (R60), and so does a golden slot
that is INVALID, DESIGN CHOICE (log entry 103): R111 names no code. Then the checks of R92 and R96. -/
def State.slotCode (s : State) (k : Nat) (unread : Bool) : Nat :=
  let h := s.slotHeader k
  if (if k = 2 then s.ld.golden = 3 else s.slotState k ≠ 2) then 0x21
  else if unread then 0x22
  else if !headerOk h (if k = 2 then 2 else 1) then 0x20
  else if !headerSigned h then 0x22
  else 0

/-- HEADER_AUTHENTICATED: Maltar has read the header of the slot, checked it and authenticated it; each controller gets its bounds and
digest and every frame starts blank; or the load fails. Before golden frames come the golden header's flex roles, with the results of the tests that
they ask for (R61, R92, R96, R97). `errs`: what the store's own code finds in the header, in die 0's quarter. DESIGN CHOICE (log entry 104): after a failed header DIE and
FRAME_ADDR are 0, for no die, frame, record or tag has failed. -/
def execHeaderAuthenticated (maps bad : List (Nat × Nat)) (errs : List Bool) (s : State) : Out :=
  .next (if s.pw.mode ≠ .load ∨ s.ld.loading ≠ 0 ∨ s.pw.loadDone then s
    else
      let k := s.loadSlot
      let h := s.slotHeader k
      let s := s.storeErrs 0 errs
      if s.slotCode k (unread errs) ≠ 0 then s.loadFail 0 (s.slotCode k (unread errs)) 0
      else
        let s := if s.ld.fellBack then s.reassign h maps bad else s
        if s.pw.mode ≠ .load then s else
        let s := { s with eng := tmap Engine.init (fun _ e => e.memories) s.eng, fab.cfg := [], fab.ffs := [], fab.muls := [], fab.seamFfs := [],
                          fab.xings := [], fab.seamCfg := [], fab.seamClk := [], fab.xcfg := [], fab.io := [], ld.loading := k + 1,
                          ld.imgSlack := hSlack h }
        iter 4 (fun d s => (s.setCtl none d (mkCtl h d (slotArea k) none (areaSize (slotArea k)))).ctrlSend 6 0 d) s)

/-- A controller's section has come to its end, or stops because another has failed: the code with which it ends (R95, R105). -/
def State.ctlEnd (s : State) (r : Option Nat) (d : Nat) : Option (Option Nat) :=
  let c := s.ctl r d
  if c.fail.isSome then some c.fail
  else if s.otherFailed r then some none
  else if c.len = 0 then some (if c.frames = 0 ∧ !c.short then none else some 0x21)
  else match c.endSeen with
    | some n => some (if n = c.frames ∧ !c.short then none else some 0x21)
    | none => if c.len < c.pos + 8 then some (some 0x21) else none

/-- A controller reports its section done, its die's remaining frames blank, or failed; `gap`: one of them that reads back wrong twice (R97, R98). DESIGN
CHOICE (log entry 102): a section that ends without END reports the last covered frame. -/
def State.ctlReport (s : State) (r : Option Nat) (d : Nat) (gap : Option Nat) : State :=
  if !(s.ctl r d).active ∨ (s.ctl r d).reported then s
  else match s.ctlEnd r d with
    | none => s
    | some (some e) =>
      let c := s.ctl r d
      State.ctrlSend (s.setCtl r d { c with reported := true, fail := some e, failAddr := if c.fail.isSome then c.failAddr else c.lastAddr.getD 0 }) 6 d 0
    | some none =>
      let u := if s.otherFailed r then s else (s.blankTo r d ((d + 1) * 2 ^ 30) gap).1
      State.ctrlSend (u.setCtl r d { u.ctl r d with reported := true }) 6 d 0

/-- DIE_LOAD_DONE: die d reports its section of the full load. -/
def execDieLoadDone (d : Die) (gap : Option Word32) (s : State) : Out := .next (s.ctlReport none d (gap.map (·.toNat)))

/-- A register that die-level frames set: lane quads, seam ports, and the router and interface of a tile (R88). -/
def frameReg (a : Nat) : Option (Rg × Nat × Nat) :=
  match regAt a with
  | some (r, i, j) => if r.info.blk = .quad ∨ r.info.blk = .seam ∨ (r.info.blk = .tile ∧ r.info.off < 0x8000) then some (r, i, j) else none
  | none => none

/-- Some logic frame of the tile was carried. -/
def State.carried (s : State) (t : Nat) : Bool := s.ld.frames.any (fun e => frKind e.1 = 0 && frTile e.1 = t)

/-- The output latches and output registers of a block at the initial values of its frames; in 512 × 72 mode port A holds the high half of the word
(R143, R147). -/
def BlkMem.atInit (m : BlkMem) (c : BlkCfg) : BlkMem :=
  { m with
    latchA := c.initA
    latchB := c.word c.initA c.initB
    oregA := c.regA
    oregB := c.word c.regA c.regB
    regPoisonA := false
    regPoisonB := false
    regCorr := false
    regUncorr := false
    poisonA := false
    poisonB := false
    errCorr := false
    errUncorr := false }

/-- The block memories of a tile at their initial values; the arrays are not touched (R143). -/
def State.blksInit (s : State) (t : Nat) : State :=
  iter 24 (fun b s =>
    let m := (tget BlkMem.init s.fab.blks (t * 24 + b)).atInit (tget BlkCfg.blank (s.tcfg t).blks b)
    { s with fab.blks := tput BlkMem.init s.fab.blks (t * 24 + b) m }) s

/-- The check bits of an ECC block that frames have filled (R536). -/
def State.blkEncode (s : State) (t b : Nat) : State :=
  let m := (tget BlkMem.init s.fab.blks (t * 24 + b)).encode (tget BlkCfg.blank (s.tcfg t).blks b)
  { s with fab.blks := tput BlkMem.init s.fab.blks (t * 24 + b) m }
def State.blksEncode (s : State) (t : Nat) : State := iter 24 (fun b s => s.blkEncode t b) s

/-- A tile takes its settings: its block memories and its engine's PC their initial values (R143, R213). -/
def State.setTile (s : State) (t : Nat) (c : TileCfg) : State :=
  let s := State.blksEncode (State.blksInit { s with fab.cfg := tput TileCfg.blank s.fab.cfg t c } t) t
  (s.setEngine t { s.engine t with pc := c.entry }).setF F.engCtl_entry t 0 c.entry

/-- A crossing primitive lies in one of these tiles. -/
def XCfg.touches (c : XCfg) (ts : List Nat) : Bool := ts.contains c.srcT || ts.contains c.dstT

/-- Regions as the full image states: their tiles, DEFINED, TILES, all LIVE (R283, R288, R303). -/
def State.setRegions (s : State) (l : List (Nat × Nat)) : State :=
  let s := { s with rgn.ofTile := l.foldl (fun m p => tput 0 m p.1 (p.2 % 64 + 1)) [], rgn.rs := [], rgn.order := [] }
  iter 64 (fun r s =>
    let ts := (s.rgn.ofTile.filter (fun e => e.2 = r + 1)).map (·.1)
    let s := s.setRegion r { Region.init with tiles := ts }
    let v := s.reg .regionStatus 0 r
    let s := s.setReg .regionStatus 0 r (setBits (setBits (setBits (setBits v 31 29 0) 28 28 (b2n (!ts.isEmpty))) 23 16 0) 10 0 ts.length)
    s.setReg .regionFault 0 r 0) s

/-- Some die-level frame of a range of indexes was carried for a die. -/
def State.carriedDie (s : State) (d lo hi : Nat) : Bool :=
  s.ld.frames.any (fun e => frKind e.1 = 1 && frDie e.1 = d && decide (lo ≤ frIndex e.1) && decide (frIndex e.1 ≤ hi))

/-- The die-level frames that set a register were carried: those of its seam port, of its quad, or of its tile's router and interface (R88). -/
def State.regCarried (s : State) (r : Rg) (i : Nat) : Bool :=
  match r.info.blk with
  | .quad => s.carriedDie (i / 12) (384 + 32 * (i % 12)) (415 + 32 * (i % 12))
  | .seam => s.carriedDie i 0 255
  | _ => s.carriedDie (i / 256) 768 1023

/-- A seam wire as the seam-port frames of its two dies set it: an end whose die carries none is unused (R88, R123). -/
def State.seamCarried (s : State) (w : SeamWire) : SeamWire :=
  let (a, b, _) := seamEnds (w.key / 65536)
  let lo := s.carriedDie a 0 255
  let hi := s.carriedDie b 0 255
  { w with
    dirLo := if lo then w.dirLo else 0
    dirHi := if hi then w.dirHi else 0
    reg := w.reg && (if w.dirHi = 2 then hi else lo) }

/-- A user I/O pin that the bank frames of its die set, driven from a tile of that die (R22, R88). -/
def State.pinCarried (s : State) (k : Nat) (c : IoCfg) : Bool :=
  (bankDie (k / 64)).any (fun d => s.carriedDie d 256 383 && decide (c.tile / 256 = d))

/-- What the image's logic and die-level frames say takes effect: the frames that it carries. -/
def State.applyImage (s : State) (cfg : ImageCfg) : State :=
  let s := (cfg.tiles.filter (fun p => decide (p.1 < 1024) && s.carried p.1)).foldl (fun s p => s.setTile p.1 p.2) s
  let s := s.setRegions (cfg.regions.filter (fun p => decide (p.1 < 1024) && s.carried p.1))
  let s := iter 1024 (fun t s => (s.setReg .rtrLinkEn t 0 (s.portsPresent t)).setReg .rtrLinkEnSh t 0 (s.portsPresent t)) s
  let s := cfg.regs.foldl (fun s p => match frameReg p.1 with
    | some (r, i, j) => if s.regCarried r i then s.setReg r i j p.2 else s
    | none => s) s
  State.writeRoutes { s with
    fab.seamCfg := cfg.seams.map s.seamCarried
    fab.seamClk := (cfg.seamClk.filter (fun p => let (a, b, _) := seamEnds (p.1 / 1024); s.carriedDie a 0 255 || s.carriedDie b 0 255)).foldl
      (fun m p => tput 0 m p.1 p.2) []
    fab.xcfg := cfg.xings.filter (fun e => s.carried e.2.srcT && s.carried e.2.dstT)
    fab.io := (cfg.io.filter (fun p => s.pinCarried p.1 p.2)).foldl (fun m p => tput IoCfg.blank m p.1 p.2) [] }

/-- LOAD_COMPLETE: Maltar has all four reports: the image takes effect, or the load fails (R45, R97, R104, R105). -/
def execLoadComplete (cfg : ImageCfg) (s : State) : Out :=
  .next (if s.pw.mode ≠ .load ∨ s.ld.loading = 0 ∨ !(List.range 4).all (fun d => (s.ctl none d).reported) then s
    else
      match (List.range 4).find? (fun d => (s.ctl none d).fail.isSome) with
      | some d => s.loadFail d ((s.ctl none d).fail.getD 0) (s.ctl none d).failAddr
      | none =>
        let k := s.loadSlot
        let s := { s with ld.ctls := s.ld.ctls.filter (fun e => decide (4 ≤ e.1)),
                          ld.repLoaded := if k ≠ 2 then k + 1 else if s.ld.fellBack then 4 else 3 }
        let s := s.applyImage cfg
        let s := if k = 2 ∧ s.ld.fellBack then
            s.alarm 255 0x04 (s.ld.repPrimary * 256 + s.ld.repDie * 2 ^ 24 + s.ld.repAddr * 2 ^ 32) 0 (srcOf .devctl 0)
          else if k = 2 then s.alarm 255 0x05 0 0 (srcOf .devctl 0) else s
        State.huddleCheck { s with pw.loadDone := true })

/-- The load report (R104). -/
def State.loadReport (s : State) : Nat :=
  s.ld.repLoaded * 2 ^ 61 + s.ld.repCause * 2 ^ 58 + s.ld.repDie * 2 ^ 56 + s.ld.repPrimary * 2 ^ 48 + s.ld.repGolden * 2 ^ 40 + s.ld.repAddr

end Sys2Proof.Machine
end

