-- ==== Sys2Proof/Machine/Hosts.lean ====
section
/-! DEFINITION. Host ports and mailboxes: the ring, replies by hardware, and the general commands (20 R450–R462; 21 R475–R477). -/

namespace Sys2Proof.Machine

/-! ### Buffers and rings (R455–R457, R460) -/

/-- A host port is being disabled, and its link still up for the BAR2 requests in flight (R53). -/
def State.portEnds (s : State) (p : Nat) : Bool := s.pw.funcOps.any (fun f => f.1 = 6 && f.2.1 = p)

/-- The port answers accesses: MP in every powered mode, HP0–HP3 with their link up and not in D3hot, until a disable stops them (R53, R450,
R452). -/
def State.portUp (s : State) (p : Nat) : Bool :=
  decide (s.pw.mode ≠ .off) && s.pw.resetN && !s.pw.tripped &&
  (if p = 4 then true else s.flag F.hpStatus_linkUp p 0 && !(s.port p).d3hot && !s.portEnds p)

/-- A write access to a command buffer: without effect and counted in LOCKED_WR while the buffer is locked (R457). -/
def State.bufferWrite (s : State) (p m o : Nat) (l : List Byte) : State :=
  let x := s.mbox p m
  if x.state = 1 ∨ x.state = 2 then s.count F.hpCounts_lockedWr p 0 1
  else s.setMbox p m { x with cmd := putBytes x.cmd o (l.take (512 - o)) }

/-- The code with which the mailbox hardware answers a ring by itself (R49, R50, R460). DESIGN CHOICE (log entry 116): with Maltar failed and the
Referee halted too, INTERNAL_ERROR. -/
def State.hardwareCode (s : State) : Option Nat :=
  if s.pw.maltarFailed then some 0xFF
  else if s.refHalted then some 0x7F
  else if !s.pw.maltarOwns || s.pw.refRestarting then some 0x15
  else none

/-- RING written in a mailbox: it is queued, or answered by the hardware; a ring of a QUEUED or RUNNING mailbox is lost (R457, R460). -/
def State.ring (s : State) (p m : Nat) : State :=
  let x := s.mbox p m
  if x.state = 1 ∨ x.state = 2 then s.count F.hpCounts_ringLost p 0 1
  else
    let s := s.setMbox p m { x with state := 1, tag := x.htag }
    match s.hardwareCode with
    | some code => s.reply p m code []
    | none =>
      let q := s.port p
      s.setPort p { q with rings := q.rings.filter (· ≠ m) ++ [m] }

/-- MAILBOX_RING: the host's writes to the command buffer since its last ring (offset and bytes of each), then RING (R455, R457). -/
def execMailboxRing (p : Port) (m : Mbox) (writes : List (Fin 512 × List Byte)) (s : State) : Out :=
  .next (if s.portUp p then State.ring (writes.foldl (fun s w => s.bufferWrite p m w.1 w.2) s) p m else s)

/-! ### General commands (R475–R477) -/

/-- POLL (R475). -/
def cmdPoll : Body := fun _ s => (s, .done 0 [])

/-- The port that a command came in through; for a relayed one the origin's. -/
def State.ctxHost (s : State) (c : Ctx) : Nat := if c.port = 5 then leAt (s.mbox 5 c.mbox).relayHead 3 1 / 4 % 8 else c.port

/-- IDENTIFY (R475). -/
def cmdIdentify : Body := fun c s =>
  (s, .done 0 (leBytes 2 0x000A ++ leBytes 2 0x0126 ++ leBytes 1 (1 + (Config.partFact 0).toNat % 3) ++ leBytes 1 0x45 ++
    leBytes 2 (Config.partFact 1).toNat ++ leBytes 8 deviceId ++ leBytes 4 (Config.partFact 2).toNat ++ leBytes 4 (Config.partFact 3).toNat ++
    leBytes 2 (s.getF F.timeCtl_domain 0 0) ++ leBytes 1 c.tenant ++ leBytes 1 (s.ctxHost c)))

/-- An event record as GET_EVENTS returns it (R462). -/
def EvRec.bytes (e : EvRec) : List Byte :=
  leBytes 2 e.kind ++ leBytes 1 e.code ++ leBytes 1 e.tenant ++ leBytes 4 e.source ++ leBytes 8 e.data ++ leBytes 6 e.sec ++ leBytes 4 e.ns ++ leBytes 6 0

/-- GET_EVENTS: up to MAX of the oldest records, and no more than 15, are returned and removed (R462, R475). -/
def cmdGetEvents : Body := fun c s =>
  let x := s.port c.port
  let now := x.events.take (min 15 (c.num 0 1))
  let rest := x.events.drop (min 15 (c.num 0 1))
  (s.setPort c.port { x with events := rest },
    .done 0 (leBytes 1 now.length ++ leBytes 1 (min 255 rest.length) ++ leBytes 14 0 ++ now.flatMap EvRec.bytes))

/-- An operation record as GET_STATUS returns it (R476). -/
def OpRec.bytes (r : OpRec) : List Byte :=
  leBytes 2 r.tag ++ leBytes 2 r.opcode ++ leBytes 1 (r.mbox % 4) ++ leBytes 1 (b2n r.done) ++ leBytes 1 r.code ++ leBytes 1 0 ++
  leBytes 8 r.result ++ leBytes 8 r.detail

/-- GET_STATUS: the records of the port, or of the origin and tenant of a relayed command, and with ACK the latched alarms of the tenant, for
T0 also the device-wide ones, are cleared (R476, R477, R491). LATCHED counts them before. -/
def cmdGetStatus : Body := fun c s =>
  let x := s.port c.port
  let mine (r : OpRec) : Bool := r.origin = c.origin
  let recs := x.ops.filter mine
  let latched := (s.hosts.alarms.filter (fun a => a.tenant = 255 || a.tenant = c.tenant)).length
  let pay := leBytes 8 s.loadReport ++ leBytes 1 s.ld.slotA ++ leBytes 1 s.ld.slotB ++ leBytes 1 s.ld.golden ++ leBytes 1 (s.activeSlot.getD 2) ++
    leBytes 1 s.standing ++ leBytes 1 s.ld.storeBad ++ leBytes 1 (min 255 latched) ++ leBytes 1 recs.length ++ recs.flatMap OpRec.bytes
  let s := s.setPort c.port { x with ops := x.ops.filter (fun r => !(mine r && r.done)) }
  let s := if bitAt (c.num 0 1) 0 then
      { s with hosts.alarms := s.hosts.alarms.filter (fun a => !(a.tenant = c.tenant || (a.tenant = 255 && c.tenant = 0))) }
    else s
  (s, .done 0 pay)

/-- POLL (R475). -/
def execPoll (p : Port) (m : Mbox) (s : State) : Out := .next (takeMailbox 0x0000 cmdPoll p m s)
/-- IDENTIFY (R475). -/
def execIdentify (p : Port) (m : Mbox) (s : State) : Out := .next (takeMailbox 0x0001 cmdIdentify p m s)
/-- GET_EVENTS (R462, R475). -/
def execGetEvents (p : Port) (m : Mbox) (s : State) : Out := .next (takeMailbox 0x0002 cmdGetEvents p m s)
/-- GET_STATUS (R476, R477). -/
def execGetStatus (p : Port) (m : Mbox) (s : State) : Out := .next (takeMailbox 0x0003 cmdGetStatus p m s)

end Sys2Proof.Machine
end

