-- ==== Sys2Proof/Machine/Bar2.lean ====
section
/-! DEFINITION. The BAR2 window of the PCI Express ports (20_hosts_mailboxes.md R463–R465). -/

namespace Sys2Proof.Machine

/-- BAR2 is served in this mode (R464). -/
def State.bar2Mode (s : State) : Bool :=
  match s.pw.mode with
  | .run => true
  | .rest => true
  | .hold => true
  | .lockout => decide (s.pw.lockoutFrom = .load ∨ s.pw.lockoutFrom = .huddle)
  | _ => false

/-- The network address of a BAR2 offset, when its segment is mapped (R463). -/
def State.bar2Addr (s : State) (p o : Nat) : Option Nat :=
  if s.flag F.hpXlat_en p (o / 2 ^ 32) then some (s.getF F.hpXlat_base p (o / 2 ^ 32) * 2 ^ 32 + o % 2 ^ 32) else none

/-- Two byte ranges overlap. -/
def overlap (a n b m : Nat) : Bool := decide (a < b + m) && decide (b < a + n)

/-- A write of the port to bytes of the range is outstanding, or an earlier TLP has one to issue again or still to issue (R464). -/
def State.bar2Overlap (s : State) (p : Nat) (prev : List Tlp) (a n : Nat) : Bool :=
  s.net.outs.any (fun o => (match o.who with | .bar2 q _ _ _ => decide (q = p) | _ => false) && decide (o.req.op = .write) &&
    overlap o.req.addr o.req.size a n) ||
  prev.any (fun t => t.write && (t.todo ++ t.retry).any (fun x => overlap x.1 x.2.1 a n))

/-- The next piece that the port may issue, and its TLP: no read before an earlier write is complete, no write over bytes of an
outstanding earlier one (R464). -/
def State.bar2Next (s : State) (p : Nat) : List Tlp → List Tlp → Option (Tlp × (Nat × Nat × List Byte))
  | _, [] => none
  | prev, t :: rest =>
    match t.todo with
    | [] => s.bar2Next p (prev ++ [t]) rest
    | x :: _ =>
      if (if t.write then s.bar2Overlap p prev x.1 x.2.1 else prev.any (·.write)) then s.bar2Next p (prev ++ [t]) rest
      else some (t, x)

/-- Change a TLP of a port. -/
def State.setTlp (s : State) (p : Nat) (t : Tlp) : State :=
  s.setPort p { s.port p with tlps := (s.port p).tlps.map (fun x => if x.id = t.id then t else x) }

/-- A posted write has failed: counted, recorded once, and reported (R465). -/
def State.bar2Error (s : State) (p svc a : Nat) : State :=
  let s := s.count F.hpCounts_bar2Errs p 0 1
  let s := if s.flag F.hpBar2Err_valid p 0 then s
    else ((s.setReg .hpBar2Err p 0 (2 ^ 31 + svc)).setReg .hpBar2AddrLo p 0 (a % 2 ^ 32)).setReg .hpBar2AddrHi p 0 (a / 2 ^ 32 % 2 ^ 16)
  s.queueEv (s.portTenant p) 6 svc (srcOf .hp p) (a % 2 ^ 48)

/-- The bytes that a read collected; a byte that no response delivered is a free value. -/
def Tlp.bytes (t : Tlp) (free : Nat) : List Byte :=
  (List.range t.len).map (fun i => (tget none t.buf i).getD (BitVec.ofNat 8 (Config.freeWord (free + i)).toNat))

/-- The completions of a read in address order, each of at most 256 bytes (R450, R464, R465). -/
def bar2Cpls (fail : Nat) (cuts : List (Nat × Nat)) (data : List Byte) : List Cpl :=
  if fail = 0 ∨ fail = svcPoisoned then
    (cuts.foldl (fun (acc : List Cpl × List Byte) c => (acc.1 ++ [⟨0, acc.2.take c.2, decide (fail = svcPoisoned)⟩], acc.2.drop c.2)) ([], data)).1
  else if fail = svcAddress ∨ fail = svcUnroutable then [⟨2, [], false⟩]
  else [⟨1, [], false⟩]

/-- A TLP whose requests have all been answered ends, sunk while its port is being disabled (R53): a read completes by its first failing code, a failed write is reported (R465). -/
def State.bar2End (s : State) (p id : Nat) : State :=
  match (s.port p).tlps.find? (fun t => t.id = id) with
  | none => s
  | some t =>
    if t.left ≠ 0 ∨ !t.todo.isEmpty ∨ !t.retry.isEmpty then s
    else
      let s := s.setPort p { s.port p with tlps := (s.port p).tlps.filter (fun x => x.id ≠ id) }
      if s.portEnds p then s
      else if t.write then (if t.fail = 0 then s else s.bar2Error p t.fail t.addr)
      else
        let c := bar2Cpls t.fail (cut256 17 t.addr t.len) (t.bytes s.free)
        State.setPort { s with free := s.free + t.len } p { s.port p with cpls := (s.port p).cpls ++ c }

/-- A request of a TLP has failed with a code; the first one decides. -/
def State.bar2Fail (s : State) (p : Nat) (t : Tlp) (svc : Nat) : State :=
  (s.setTlp p { t with fail := if t.fail = 0 then svc else t.fail }).bar2End p t.id

/-- Send one piece of a TLP: the state and the source's own answer, or none when all 64 tags are in use (R464). -/
def State.bar2Send (s : State) (p : Nat) (t : Tlp) (x : Nat × Nat × List Byte) : State × Option Nat :=
  s.issue (.bar2 p t.id (x.1 - t.addr) x.2.1)
    (mkReq (if t.write then .write else .read) x.1 x.2.1 (s.portTenant p) 2 (portTile p) 3 x.2.2)

/-- Issue what the port may issue. -/
def State.bar2Pump : Nat → State → Nat → State
  | 0, s, _ => s
  | f + 1, s, p =>
    match s.bar2Next p [] (s.port p).tlps with
    | none => s
    | some (t, x) =>
      match s.bar2Send p t x with
      | (_, none) => s
      | (s, some code) =>
        let t := { t with todo := t.todo.drop 1 }
        let s := if code = 0 then s.setTlp p { t with left := t.left + 1 } else s.bar2Fail p t code
        State.bar2Pump f s p

/-- Pieces that the port has still to issue. -/
def State.bar2Todo (s : State) (p : Nat) : Nat := ((s.port p).tlps.map (fun t => t.todo.length)).sum

def State.bar2Go (s : State) (p : Nat) : State := State.bar2Pump (s.bar2Todo p) s p

/-- A response, or a timeout, of a port's request; one of a TLP that is gone is sunk (R446, R465). -/
def State.bar2Resp (s : State) (p id off : Nat) (q : Req) (svc : Nat) (data : List Byte) : State :=
  match (s.port p).tlps.find? (fun t => t.id = id) with
  | none => s
  | some t =>
    let t := { t with left := t.left - 1 }
    let s :=
      if svc = svcBusy then s.setTlp p { t with retry := t.retry ++ [(q.addr, q.size, q.data)] }
      else
        let t := if t.write ∨ !(svc ≤ 1 ∨ svc = svcPoisoned) then t else { t with buf := data.zipIdx.foldl (fun b x => tput none b (off + x.2) (some x.1)) t.buf }
        if svc ≤ 1 then (s.setTlp p t).bar2End p id else s.bar2Fail p t svc
    s.bar2Go p

/-- Take a TLP of a port and issue what may be issued. -/
def State.bar2Take (s : State) (p : Nat) (write : Bool) (a n : Nat) (data : List Byte) : State :=
  let x := s.port p
  let todo := (cut256 17 a n).map (fun c => (c.1, c.2, (data.drop (c.1 - a)).take c.2))
  State.bar2Go (s.setPort p { x with tlps := x.tlps ++ [⟨x.nextTlp, write, a, n, [], 0, 0, todo, []⟩], nextTlp := x.nextTlp + 1 }) p

/-- BAR2_MEMRD: a read of n + 1 bytes. Unsupported Request in D3hot, in a mode that does not serve BAR2, and for an unmapped segment (R450,
R464, R465). A request that crosses a 4 KiB boundary is no legal TLP, and nothing answers on a link that is down
or of a port that is being disabled. -/
def execBar2Memrd (p : Die) (off : BitVec 36) (n : Fin 4096) (s : State) : Out :=
  let ur (s : State) : State := s.setPort p { s.port p with cpls := (s.port p).cpls ++ [⟨2, [], false⟩] }
  .next (
    if !s.flag F.hpStatus_linkUp p 0 ∨ s.portEnds p ∨ 4096 < off.toNat % 4096 + n.val + 1 then s
    else if (s.port p).d3hot ∨ !s.bar2Mode then ur s
    else match s.bar2Addr p off.toNat with
      | none => ur s
      | some a => s.bar2Take p false a (n.val + 1) [])

/-- A posted write that receives Unsupported Request is reported through AER (R465). -/
def State.aerReport (s : State) (p : Nat) : State := s.setPort p { s.port p with aerUr := true }

/-- BAR2_MEMWR: a posted write of 1–512 bytes. A write to an unmapped segment fails: the manual states neither its service code nor a
network address, which are free values (R450, R464, R465). -/
def execBar2Memwr (p : Die) (off : BitVec 36) (data : List Byte) (s : State) : Out :=
  .next (
    if !s.flag F.hpStatus_linkUp p 0 ∨ s.portEnds p ∨ data.length = 0 ∨ 512 < data.length ∨ 4096 < off.toNat % 4096 + data.length then s
    else if (s.port p).d3hot ∨ !s.bar2Mode then s.aerReport p
    else match s.bar2Addr p off.toNat with
      | none => State.bar2Error { s.aerReport p with free := s.free + 2 } p ((Config.freeWord s.free).toNat % 11) ((Config.freeWord (s.free + 1)).toNat % 2 ^ 48)
      | some a => s.bar2Take p true a data.length data)

/-- BAR2_RESPONSE (R465). -/
def execBar2Response (r : Resp) (s : State) : Out :=
  .next (if s.net.resps.contains r && s.respFor r (fun w => match w with | .bar2 .. => true | _ => false) then
    match s.arrive r with
    | (s, some (o, r)) => (match o.who with | .bar2 p id off _ => s.bar2Resp p id off o.req r.svc r.data | _ => s)
    | (s, none) => s
  else s)

/-- BAR2_REISSUE: 64 port cycles after a REFUSED_BUSY the port sends its oldest refused request again; once NI_TIMEOUT has passed since
the first issue (`expired`), the request has failed with REFUSED_BUSY (R465). -/
def execBar2Reissue (p : Die) (expired : Bool) (s : State) : Out :=
  .next (match (s.port p).tlps.find? (fun t => !t.retry.isEmpty) with
    | none => s
    | some t =>
      match t.retry with
      | [] => s
      | x :: rest =>
        let t' := { t with retry := rest }
        if expired then (s.bar2Fail p t' svcBusy).bar2Go p
        else match s.bar2Send p t x with
          | (_, none) => s
          | (s, some 0) => s.setTlp p { t' with left := t'.left + 1 }
          | (s, some code) => (s.bar2Fail p t' code).bar2Go p)

end Sys2Proof.Machine
end

