-- ==== Sys2Proof/Machine/UserIo.lean ====
section
/-! DEFINITION. The user I/O pins as the design drives them, and the values that REST and HOLD keep (02 R51; 12 R286). -/

namespace Sys2Proof.Machine

/-- The bank's quiet state from the settings adopted at boot: high impedance by default (R51). -/
def State.quietPin (s : State) (bank : Nat) : PinState :=
  match leAt (s.bootSetting 0x0002 bank) 0 1 % 4 with
  | 1 => .pullUp
  | 2 => .pullDown
  | _ => .hiz

/-- What the user design drives at pin k; a pin that the frames do not use is quiet. -/
def State.designPin (s : State) (k : Nat) : PinState :=
  if !(tget IoCfg.blank s.fab.io k).used then s.quietPin (k / 64)
  else if s.wireNow (.ioEn k) then .drive (s.wireNow (.ioOut k)) else .hiz

/-- Pin k in RUN: the user design's, or quiet while its region is not LIVE (R51, R286). -/
def State.runPin (s : State) (k : Nat) : PinState := if s.tileHeld (tget IoCfg.blank s.fab.io k).tile then s.quietPin (k / 64) else s.designPin k

/-- The levels of the user I/O in use, for the modes that keep them (R51). -/
def State.keepPins (s : State) : State := { s with elec.kept := s.fab.io.map (fun e => (e.1, s.runPin e.1)), pw.ioHeld := true }

end Sys2Proof.Machine
end

