-- ==== Sys2Proof/Machine/Engine.lean ====
section
/-! DEFINITION. How a signal engine issues, waits, faults, stops and starts (09 R219, R221, R233–R235; 10 R246–R263), and the
requests of a tile to the network (07 R165, R180; 10 R257). -/

namespace Sys2Proof.Machine

/-! ### Writes that happen (R233) -/

/-- Memory of an engine after a store. -/
def Engine.store (e : Engine) (y : Bool) (a v : Nat) : Engine :=
  if y then { e with y := e.y.put a v 0 } else { e with x := e.x.put a v 0 }

/-- Log the errors that an engine's reads met (R372). -/
def State.noteReads (s : State) (t : Nat) (l : List Rd) : State :=
  l.foldl (fun s r => match r.note with | some (u, a, o, p, y) => s.eccOutcome .tile t u a o p y | none => s) s

/-! ### Requests of a tile (R165, R167, R180, R257) -/

/-- The interface refuses requests to its tile: it is fenced, or its region is not LIVE (R53, R191, R290). -/
def State.niFenced (s : State) (t : Nat) : Bool := s.flag F.niStatus_fenced t 0 || s.tileHeld t

/-- The interface refuses requests of its fabric and engine: fenced outside DRAIN, or in HOLD (R40, R53, R289). -/
def State.niShut (s : State) (t : Nat) : Bool := (s.niFenced t && decide (s.tileFencing t ≠ 1)) || s.inHold

/-- The interface sinks the responses to its tile: it is fenced and not draining (R53, R289). -/
def State.niSinks (s : State) (t : Nat) : Bool := s.niFenced t && decide (s.tileFencing t ≠ 1)

/-- A sinking interface discards the responses that HOLD has kept in it: their requests are complete (R40, R53, R289). -/
def State.sinkKept (s : State) (t : Nat) : State :=
  if s.niSinks t then (s.ni t).kept.foldl (fun s r => (s.arrive r).1) (s.setNi t { s.ni t with kept := [] }) else s

/-- Requests of the tile's engine, outstanding or waiting to read their data. -/
def State.engTags (s : State) (t : Nat) : Nat :=
  ((s.outsOf t 0).filter (fun o => match o.who with | .nget _ _ => true | .nput _ => true | .atomic => true | .sunk => true | _ => false)).length +
    (s.engine t).sends

/-- The engine holds all the tags it may hold, or no tag or response space is free (R178, R191, R257). -/
def State.engNoTag (s : State) (t : Nat) : Bool := decide (s.getF F.niCtl_engineTags t 0 ≤ s.engTags t) || (s.tagsFree t 0).isEmpty || s.niFull t

/-- The engine sends a request; an answer that the interface makes itself comes at once: a fence, no destination, no route. -/
def State.engSend (s : State) (t : Nat) (who : Who) (r : Req) : State × Nat :=
  if s.niShut t then (s, svcFenced)
  else
    let x := s.issue who r
    (x.1, x.2.getD svcBusy)

/-- Words of Y from `p` as a byte string, and their reads. -/
def Engine.yBytes (e : Engine) (p n : Nat) : List Byte × List Rd :=
  let l := (List.range ((n + 1) / 2)).map (fun k => e.loadAt true (p + k) (e.now + 3))
  ((l.flatMap (fun r => leBytes 2 r.val)).take n, l)

/-- Send an NGET or NPUT; an answer of the interface itself reaches the tile port after stage X (R257, R259). -/
def State.netIssue (s : State) (t : Nat) (who : Who) (ps : Nat) (r : Req) (c : Nat) : State :=
  let x := s.engSend t who r
  if x.2 = 0 then x.1
  else
    let e := x.1.engine t
    x.1.setEngine t { e with pend := addPend e.pend ⟨.net (ps % 16384) x.2, 0, 0, c + 5⟩ }

/-- An NGET or NPUT ends with a service code: data into Y for an NGET that succeeded, the status word, NET (R257). -/
def State.netFinish (s : State) (t : Nat) (who : Who) (svc : Nat) (data : List Byte) : State :=
  match who with
  | .nget pd ps =>
    let e := s.engine t
    let e := if svc ≤ 1 then iter ((data.length + 1) / 2) (fun k e => e.store true ((pd + k) % 16384) (leAt data (2 * k) 2)) e else e
    (s.setEngine t (e.store true (ps % 16384) (0x8000 + svc))).engPend t 12
  | .nput ps => (s.setEngine t ((s.engine t).store true (ps % 16384) (0x8000 + svc))).engPend t 12
  | _ => s

/-- Read the data of an NPUT and send it. DESIGN CHOICE (log entry 144): the words are read as of stage R, or when the lock ends. A poisoned word faults nothing, and the request goes out with its data flit marked BAD (R219, R257). -/
def State.nputSend (s : State) (t pd ps n a : Nat) : State :=
  let e := s.engine t
  let (data, l) := e.yBytes pd n
  State.netIssue (s.noteReads t l) t (.nput ps) ps { mkReq .write a n (s.tileTenant t) 0 t 0 data with
    bad := (l.zipIdx.filter (·.1.bad)).map (fun x => x.2 / 16) } e.now

/-! ### Pauses (R39, R40, R100) -/

/-- The user clocks have stopped, and the engine with them, HOLD has come and it has reached its boundary, or it is held idle before the HUDDLE exit
(R39, R40, R100). -/
def State.engPaused (s : State) (t : Nat) : Bool := s.pw.ffHold || s.fab.stopped || (s.pw.holding && !(s.engine t).holdReq)

/-- HOLD: once no engine runs on to its boundary, the user clocks stop, the user I/O keep their values, and the device reports HOLD (R40, R51). -/
def State.holdEnd (s : State) : State :=
  if s.pw.holding && !(s.eng.any (fun e => e.2.holdReq && (decide (e.2.run = .running) || decide (e.2.run = .idle)))) then
    State.finishOps { s.keepPins.setMode .hold with fab.stopped := true, pw.holding := false } 0 [0x0200] 0 0 0 []
  else s

/-! ### The memories as the network reaches them (R266) -/

/-- The window of an offset in the engine memories: memory 0 program, 1 X, 2 Y, and byte offset within it (R30, R266). -/
def engWindow (o : Nat) : Option (Nat × Nat) :=
  if o < 0x10000 then some (0, o) else if o < 0x18000 then some (1, o - 0x10000) else if o < 0x20000 then some (2, o - 0x18000) else none

/-- Widths and alignment of R266. -/
def engShape (m o n : Nat) : Bool := (if m = 0 then n = 4 || n = 8 else n = 2 || n = 4 || n = 8) && decide (o % n = 0)

/-- A memory of an engine. -/
def Engine.mem (e : Engine) (m : Nat) : EMem := if m = 0 then e.prog else if m = 1 then e.x else e.y
def Engine.setMem (e : Engine) (m : Nat) (x : EMem) : Engine :=
  if m = 0 then { e with prog := x } else if m = 1 then { e with x := x } else { e with y := x }

/-- Write the words of a network write; CHK_ARM inverts check bits of the next write to the memory that CHK_MEM names (R375). -/
def State.engMemWrite (s : State) (t m o : Nat) (data : List Byte) : State :=
  let w := if m = 0 then 4 else 2
  let hit := s.flag F.eccTestT_testEn t 0 && s.flag F.eccTestT_chkArm t 0 && decide (s.getF F.eccTestT_chkMem t 0 = m)
  let x := if hit then s.getF F.eccTestT_chkXor t 0 else 0
  let e := s.engine t
  let mem := iter (data.length / w) (fun k (mm : EMem) => mm.put (o / w + k) (leAt data (w * k) w) x) (e.mem m)
  let s := s.setEngine t (e.setMem m mem)
  if hit then s.setF F.eccTestT_chkArm t 0 0 else s

/-- The check that refuses a request to the engine memories of tile t: the service code (R31, R266, R535). -/
def State.engMemRefuses (s : State) (q : Rq) (t o : Nat) (op : NOp) (n : Nat) : Option Nat :=
  match engWindow o with
  | none => some svcAddress
  | some (m, o) =>
    if !engShape m o n ∨ !(op = .read ∨ op = .write) then some svcAddress
    else if !s.mayReach q t then some svcDenied
    else if s.niFenced t ∨ s.pw.mode = .rest ∨ (m ≠ 2 ∧ (s.engine t).run = .running ∧ !s.engPaused t) then some svcFenced
    else none

/-- A request that Y memory serves. -/
def State.engYServed (s : State) (q : Rq) (t o : Nat) (op : NOp) (n : Nat) : Bool :=
  (s.engMemRefuses q t o op n).isNone && (engWindow o).any (fun w => w.1 = 2)

/-- A request to the engine memories of tile t (R266). -/
def State.engMemServe (s : State) (q : Rq) (t o : Nat) (op : NOp) (n : Nat) (data : List Byte) : Served :=
  match s.engMemRefuses q t o op n with
  | some code => refused s code
  | none =>
    let (m, o) := (engWindow o).getD (0, 0)
    if op = .write then (s.engMemWrite t m o data, svcOK, [])
    else
      let w := if m = 0 then 4 else 2
      let l := (List.range (n / w)).map (fun k =>
        ((s.engine t).mem m).read (8 * w) (if m = 0 then 6 else 5) (m + 1) (o / w + k))
      (s.noteReads t l, if l.any (·.bad) then svcPoisoned else svcOK, l.flatMap (fun r => leBytes w r.val))

/-! ### The tile port of Y memory (R259, R264) -/

/-- The tile port serves the oldest access of the fabric: a write, or a read whose data is returned in order (R264, R265). -/
def State.yFabric (s : State) (t : Nat) : State :=
  let e := s.engine t
  match e.yq with
  | [] => s
  | (we, a, din) :: l =>
    let e := { e with yq := l, yturn := true }
    if we then s.setEngine t (e.store true a din)
    else
      let r := e.y.read 16 5 3 a
      State.noteReads (s.setEngine t { e with yout := e.yout ++ [(r.val, r.bad)] }) t [r]

/-- The tile port serves the interface's oldest waiting access. -/
def State.yNet (s : State) (t : Nat) : State :=
  let e := s.engine t
  match e.ynet with
  | [] => s
  | j :: l =>
    let s := s.setEngine t { e with ynet := l, yturn := false }
    match j with
    | .done who svc data => s.netFinish t who svc data
    | .send ps pd n a => s.nputSend t pd ps n a
    | .req r =>
      match aperture r.addr with
      | some (_, o) =>
        let x := s.engMemServe r.rq t o r.op r.size r.data
        x.1.respond r x.2.1 x.2.2
      | none => s

/-- One access at the Y port: none while the lock is held, else the fabric's or the network's, alternating while both wait (R264). -/
def State.yStep (s : State) (t : Nat) : State :=
  let e := s.engine t
  if e.lock then s
  else if e.yq.isEmpty || (e.yturn && !e.ynet.isEmpty) then s.yNet t else s.yFabric t

/-- The tile port serves what waits, the fabric and the interface in alternation; nothing while the engine holds the lock (R259, R264). -/
def State.yServe (s : State) (t : Nat) : State :=
  iter ((s.engine t).yq.length + (s.engine t).ynet.length) (fun _ s => s.yStep t) s

/-- The end of an NGET or NPUT reaches Y memory, once the tile port serves it. -/
def State.engNetDone (s : State) (t : Nat) (who : Who) (svc : Nat) (data : List Byte) : State :=
  State.yServe (s.setEngine t { s.engine t with ynet := (s.engine t).ynet ++ [.done who svc data] }) t

/-! ### Writes in flight (R233) -/

/-- A write in flight happens. A disabled queue takes nothing (R256); SIG is a source of the tile's tenant (R255). -/
def State.engWrite (s : State) (t : Nat) (w : PWrite) : State :=
  let e := s.engine t
  match w.tgt with
  | .reg bank id =>
    let k := bank * 64 + id
    s.setEngine t { e with regs := tput (engRst id) e.regs k (mergeBits (tget (engRst id) e.regs k) w.mask w.val) }
  | .xmem a => s.setEngine t (e.store false a w.val)
  | .ymem a => s.setEngine t (e.store true a w.val)
  | .push q last => if s.qOn (4 * t + q) then s.qWrite (4 * t + q) w.val last false else s
  | .qabort q => if s.qOn (4 * t + q) then s.qAbort (4 * t + q) else s
  | .unlock => State.yServe (s.setEngine t { e with lock := false }) t
  | .sig line => s.raiseEv (t / 256) (s.tileTenant t) line
  | .net ps svc => s.engNetDone t (.nput ps) svc []

/-- The writes in flight for which `p` holds happen, in the order of their cycles. -/
def State.engCommit (s : State) (t : Nat) (p : PWrite → Bool) : State :=
  let l := (s.engine t).pend
  l.foldl (fun s w => if p w then s.engWrite t w else s) (s.setEngine t { s.engine t with pend := l.filter (fun w => !p w) })

/-- The writes due before the engine's present cycle happen. -/
def State.engSettle (s : State) (t : Nat) : State := s.engCommit t (fun w => w.due < (s.engine t).now)

/-- Every instruction in flight retires. -/
def State.engDrain (s : State) (t : Nat) : State := s.engCommit t (fun _ => true)

/-- What time that passes without an issue brings about: stores, pushes and events in flight happen. -/
def State.engFlushMem (s : State) (t : Nat) : State :=
  s.engCommit t (fun w => match w.tgt with | .reg _ _ => false | _ => true)

/-! ### Watchdog (R260) -/

/-- The watchdog's full count. -/
def State.wdFull (s : State) (t : Nat) : Nat := s.getF F.engWdog_period t 0 * 256

/-- Reload the watchdog. -/
def State.wdReload (s : State) (t : Nat) : State := s.setEngine t { s.engine t with wd := s.wdFull t }

/-- The watchdog counts `k` cycles; WDWARN becomes pending when the count passes half the period. -/
def State.wdCount (s : State) (t k : Nat) : State :=
  if s.flag F.engWdog_en t 0 && decide ((s.engine t).stepping = 0) then
    let e := s.engine t
    let n := e.wd - k
    let s' := s.setEngine t { e with wd := n }
    if s.wdFull t / 2 < e.wd ∧ n ≤ s.wdFull t / 2 then s'.engPend t 15 else s'
  else s

/-- The watchdog counts now: enabled, and RUNNING, or IDLE with IN_WAIT. -/
def State.wdRuns (s : State) (t : Nat) : Bool :=
  let e := s.engine t
  s.flag F.engWdog_en t 0 && !s.engPaused t && decide (e.stepping = 0) && (e.run = .running || (e.run = .idle && s.flag F.engWdog_inWait t 0))

/-! ### States (R250, R261–R263) -/

/-- ENG_CTL.EV is raised on entry to STOPPED or FAULTED when EV_EN is set, outside a region that is not LIVE or past DRAIN (R250,
R262, R290). -/
def State.engEv (s : State) (t : Nat) : State :=
  if s.flag F.engCtl_evEn t 0 && !s.tileHeld t && decide (s.tileFencing t ≠ 2) then s.raiseEv (t / 256) (s.tileTenant t) (s.getF F.engCtl_ev t 0) else s

/-- Atomics of the engine whose response is awaited are sunk (R263). -/
def State.sinkAtomic (s : State) (t : Nat) : State :=
  { s with net.outs := s.net.outs.map (fun o => if o.who = .atomic ∧ o.req.src = t then { o with who := .sunk } else o) }

/-- One entry of flow trace, in the buffer of every path that traces the engine (R516): KIND 0 taken branch, 1 interrupt entry, 2 RETI, 3
fault, halt or break. -/
def State.trace (s : State) (t kind src dst : Nat) : State :=
  iter 6 (fun p s =>
    if s.flag F.trcCtl_en p 0 && decide (s.getF F.trcCtl_tile p 0 = t) && decide (1 ≤ s.level p) then
      let h := s.getF F.trcCtl_head p 0
      let s := s.setReg .trcEntry p h (kind * 2 ^ 30 + src % 16384 * 65536 + dst % 16384)
      let s := s.setF F.trcCtl_head p 0 (h + 1)
      if h = 255 then s.setF F.trcCtl_wrapped p 0 1 else s
    else s) s

/-- Debugger commands that wait for a halt or a feed of the engine are answered (R489, R511). -/
def State.dbgEnd (s : State) (t : Nat) : State := s.finishOps t [0x0810, 0x0812] 0 0 0 []

/-- An engine fault: earlier instructions retire, the cause and address are recorded, and EV is raised (R250). -/
def State.engFault (s : State) (t cause : Nat) : State :=
  let s := (s.engDrain t).sinkAtomic t
  let e := s.engine t
  let s := s.setEngine t { e with
    run := .faulted
    br := none
    brReti := false
    atomic := false
    wait := none
    stopReq := false
    haltReq := none
    stepping := 0
    brkHit := none }
  let s := (s.trace t 3 e.pc e.pc).dbgEnd t
  (State.engEv ((s.setF F.engFault_cause t 0 cause).setF F.engFault_fpc t 0 e.pc) t).holdEnd

/-- Stop: the instructions in flight retire; EV is raised unless a region fence stops the engine (R53, R262). -/
def State.engStopNow (s : State) (t : Nat) (quiet : Bool) : State :=
  let s := s.engDrain t
  let s := s.setEngine t { s.engine t with run := .stopped, wait := none, stopReq := false, haltReq := none, stepping := 0, brkHit := none }
  let s := s.dbgEnd t
  State.holdEnd (if quiet then s else s.engEv t)

/-- A boundary at which the engine can stop or halt: outside delay slots, with no lock or atomic held (R53, R263). -/
def Engine.free (e : Engine) : Bool := e.br.isNone && !e.lock && !e.atomic

/-- A stop by register, function disable or instruction: at once where the boundary allows it, at release when HALTED, and after a held lock is released
or broken (R53, R262). -/
def State.engStop (s : State) (t : Nat) : State :=
  let e := s.engine t
  match e.run with
  | .running => if e.free then s.engStopNow t false else s.setEngine t { e with stopReq := true }
  | .idle => if e.lock then s.setEngine t { e with stopReq := true } else s.engStopNow t false
  | .halted => s.setEngine t { e with stopReq := true }
  | _ => s

/-- START: accepted in STOPPED or FAULTED; clears CAUSE and the Y lock, activates the main bank and issues from ENTRY (R262). Before the HUDDLE exit
engines are held idle (R100). -/
def State.engStart (s : State) (t : Nat) : State :=
  let e := s.engine t
  if (e.run = .stopped ∨ e.run = .faulted) ∧ !s.pw.ffHold then
    let s := (s.setF F.engFault_cause t 0 0).setEngine t { e with
      run := .running
      shd := false
      lock := false
      lockBroken := false
      pc := s.getF F.engCtl_entry t 0
      br := none
      brReti := false
      afterReti := false
      cphase := 0
      cache := []
      wait := none
      skipBreak := false
      stopReq := false }
    (s.wdReload t).yServe t
  else s

/-- Registers of the engine. -/
def engRegs : List Rg := Blk.tile.regs.filter (fun r => 0x8000 ≤ r.info.off && r.info.off < 0xC000)

/-- Function reset of an engine: stopped, both banks and its registers at reset values, memories kept; ENG_CTL.ENTRY returns to the
frames' value, and what is inside its queues' crossings is discarded (R26, R262, R267). -/
def State.engReset (s : State) (t : Nat) : State :=
  let e := s.engine t
  let s := if e.run = .stopped then s.engDrain t else s.engStopNow t false
  let s := s.sinkAtomic t
  let e := s.engine t
  let s := (s.setEngine t { Engine.init with
    prog := e.prog, x := e.x, y := e.y, yq := e.yq, yout := e.yout, ynow := e.ynow, ynet := e.ynet, pc := (s.tcfg t).entry }).dbgEnd t
  let s := State.qCutKind { s with dbg.feeds := tput Feed.init s.dbg.feeds t Feed.init } t 4
  State.yServe (State.setF (engRegs.foldl (fun s r => s.resetReg r t 0) s) F.engCtl_entry t 0 (s.tcfg t).entry) t

/-! ### Interrupts (R251–R253) -/

/-- The highest-numbered set bit among 16. -/
def topBit (m : Nat) : Option Nat := (List.range 16).reverse.find? (fun i => bitAt m i)

/-- The boundary before the next issue is closed to interrupts (R252). -/
def Engine.closed (e : Engine) : Bool := e.br.isSome || e.lock || e.atomic || e.afterReti

/-- The source taken at this boundary; a source that WAIT waits for is left to it (R252, R255). -/
def State.irqDue (s : State) (t : Nat) : Option Nat :=
  let e := s.engine t
  let waiting := match e.wait with | some (m, _) => m | none => 0
  let m := Nat.land (s.getF F.engIrq_pending t 0) (s.getF F.engIrq_enable t 0)
  if e.shd || e.closed || s.engPaused t || (decide (e.stepping ≠ 0) && !e.stepIrq) || !bitAt (e.regIn false rST e.now) 14 then none
  else if e.run = .running then topBit m
  else if e.run = .idle then topBit (m - Nat.land m waiting)
  else none

/-! ### Issue (R221, R236, R246–R249) -/

/-- RPT is set and the program counter lies in a body short enough for the cache (R221, R249). -/
def Engine.inBody (e : Engine) : Bool :=
  let rs := e.rd rRS e.now
  let re := e.rd rRE e.now
  bitAt (e.rd rST e.now) 4 && decide (rs ≤ e.pc) && decide (e.pc ≤ re) && decide (re - rs < 16)

/-- The next instruction word, and whether it comes from the repeat cache (R219, R221). -/
def Engine.fetch (e : Engine) : Rd × Bool :=
  if e.inBody ∧ e.cphase = 2 ∧ tget 0 e.cache e.pc ≠ 0 then (⟨tget 0 e.cache e.pc - 1, false, none⟩, true) else (e.progAt e.pc, false)

/-- What one instruction does when it issues. -/
structure Plan where
  /-- a fault cause; 0 none -/
  fault : Nat
  /-- waits at issue: a cycle passes and nothing issues (R256, R257) -/
  hold : Bool
  fx : Fx
  /-- a program-memory operand: one more cycle outside the cache (R221) -/
  prog : Bool
  /-- the address after the two delay slots (R246) -/
  branch : Option Nat
  /-- effects at issue beyond the pipeline -/
  fin : State → State
  /-- what flow trace records: KIND and TO (R516) -/
  note : Option (Nat × Nat)

/-- A plan with pipeline effects only. -/
def Plan.of (fx : Fx) : Plan := ⟨0, false, fx, false, none, id, none⟩
def Plan.bad (cause : Nat) : Plan := { Plan.of Fx.none with fault := cause }
/-- A plan with effects at issue only. -/
def Plan.act (f : State → State) : Plan := { Plan.of Fx.none with fin := f }
def Plan.wait : Plan := { Plan.of Fx.none with hold := true }

/-- The enabled comparator that names an address of the engine; the lowest-numbered (R511). -/
def State.brkAt (s : State) (t pc : Nat) : Option Nat :=
  (List.range 8).find? (fun k => s.flag F.ebrk_en 0 k && decide (s.getF F.ebrk_tile 0 k = t) && decide (s.getF F.ebrk_addr 0 k = pc))

/-- The comparator that halts the engine at this boundary: one that matched at a closed boundary, or one that names the next instruction,
which is not the first after a release (R511). -/
def State.brkDue (s : State) (t : Nat) : Option Nat :=
  let e := s.engine t
  if e.closed then none else match e.brkHit with
    | some k => some k
    | none => if e.skipBreak then none else s.brkAt t e.pc

/-- A halt takes effect at this boundary: it is open, and a step has issued (R263, R511). -/
def Engine.haltNow (e : Engine) : Bool := e.haltReq.isSome && !e.closed && decide (e.stepping ≠ 1)

/-- The engine can issue now: RUNNING, not stalled by an atomic, its watchdog not expired, and no interrupt, halt, break or stop comes
first (R252, R258, R260, R263, R511). -/
def State.canIssue (s : State) (t : Nat) : Bool :=
  let e := s.engine t
  decide (e.run = .running) && !s.engPaused t && !e.atomic && (s.irqDue t).isNone &&
  !e.haltNow && (s.brkDue t).isNone && !(e.stopReq && e.free) && !(s.flag F.engWdog_en t 0 && decide (e.wd = 0))

/-- Cycles pass for an engine: `now` advances, the watchdog counts, and what is due happens. -/
def State.engPass (s : State) (t k : Nat) : State :=
  State.engSettle (State.wdCount (s.setEngine t { s.engine t with now := (s.engine t).now + k }) t k) t

/-- The instruction at the program counter ends a repeat body (R248). -/
def Engine.atEnd (e : Engine) : Bool := bitAt (e.rd rST e.now) 4 && decide (e.rd rRE e.now = e.pc)

/-- The end check as the instruction at RE issues: RC is decremented, and RPT cleared when it reaches 0; that instruction itself sees it so (R234,
R248). -/
def Engine.endCheck (e : Engine) : Engine :=
  if e.atEnd then
    let rc := (e.rd rRC e.now + 65535) % 65536
    let e1 := { e with pend := addPend e.pend (e.wr rRC 0xFFFF rc e.now) }
    if rc = 0 then { e1 with pend := addPend e1.pend (e.wr rST stRPT 0 e.now) } else e1
  else e

/-- The address after the instruction at the program counter: the body again, or what follows (R248). `e`: before the end check. -/
def Engine.next (e : Engine) : Engine → Engine := fun e1 =>
  if e.atEnd && decide (e.rd rRC e.now ≠ 1) then
    { e1 with
      pc := e.rd rRS e.now
      cphase := if e.cphase = 1 then 2 else if e.cphase = 0 then 1 else 2
      cache := if e.cphase = 0 then [] else e1.cache }
  else { e1 with pc := (e.pc + 1) % 16384, cphase := if e.atEnd then 0 else e1.cphase }

/-- A branch in progress: the second delay slot is followed by the target; RETI's by a cycle in which the main bank becomes active
again (R246, R254). -/
def State.engSlots (s : State) (t : Nat) (before : Option (Nat × Nat)) : State :=
  let e := s.engine t
  match before with
  | none => s
  | some (2, a) => s.setEngine t { e with br := some (1, a) }
  | some (_, a) =>
    if e.brReti then
      State.wdCount (s.setEngine t { e with br := none, brReti := false, shd := false, pc := s.getF F.engReturn_latch t 0, now := e.now + 1,
                                            afterReti := true, cphase := 0, cache := [] }) t 1
    else s.setEngine t { e with br := none, pc := a }

/-- At a boundary an engine takes a stop that waits, or HOLD (R40, R53). -/
def State.engBoundary (s : State) (t : Nat) : State :=
  let e := s.engine t
  if e.stopReq ∧ e.free ∧ (e.run = .running ∨ e.run = .idle) then s.engStopNow t false
  else if e.holdReq ∧ e.free then (State.engDrain (s.setEngine t { e with holdReq := false }) t).holdEnd
  else s

/-- An instruction issues at the engine's present cycle: reads, writes in flight, the next address, and the boundary after it. -/
def State.engIssue (s : State) (t : Nat) (cached : Bool) (w : Nat) (p : Plan) : State :=
  let e := s.engine t
  let slot := e.br
  let fill := e.inBody && decide (e.cphase = 1)
  let hit := if e.closed && !e.skipBreak && e.brkHit.isNone then s.brkAt t e.pc else e.brkHit
  let s := match p.note with | some (k, a) => s.trace t k e.pc a | none => s
  let e0 := e
  let e := { e with
    afterReti := false
    cache := if fill then tput 0 e.cache e.pc (w + 1) else e.cache
    lastPc := e.pc
    skipBreak := false
    brkHit := hit
    stepping := if e.stepping = 1 then 2 else e.stepping }
  let s := (s.noteReads t p.fx.rds).setEngine t (e0.next { e with pend := p.fx.ws.foldl addPend e0.endCheck.pend })
  let s := p.fin s
  let s := match p.branch with
    | some a => s.setEngine t { s.engine t with br := some (2, a) }
    | none => s.engSlots t slot
  State.engBoundary (s.engPass t (if p.prog && !cached then 2 else 1)) t

def State.feed (s : State) (t : Nat) : Feed := tget Feed.init s.dbg.feeds t
def State.setFeed (s : State) (t : Nat) (f : Feed) : State := { s with dbg.feeds := tput Feed.init s.dbg.feeds t f }

/-- A fed word ends: FEED_BUSY clears; a cause sets FEED_FAULT and FEED_CAUSE (R511). -/
def State.feedEnd (s : State) (t cause : Nat) : State :=
  let s := s.setEngine t { s.engine t with feed := none }
  State.dbgEnd (s.setFeed t { s.feed t with busy := false, fault := decide (cause ≠ 0), cause := cause }) t

/-- A fed word issues in a HALTED engine when `sel` names it: all its effects happen, and the program counter and the repeat state stay.
One that waits stays fed; an atomic is busy until its response; one that would fault writes nothing (R511). -/
def State.feedOp (s : State) (t w : Nat) (sel : EOp → Option (State → Plan)) : State :=
  let e := s.engine t
  match decodeEngine w with
  | none => s
  | some op =>
    match sel op with
    | none => s
    | some k =>
      if e.run ≠ .halted ∨ e.atomic then s
      else if bitAt (e.rd rST e.now) 4 && op.notInRepeat then s.feedEnd t 4
      else
        let p := k s
        if p.fault ≠ 0 then s.feedEnd t p.fault
        else if p.hold then s
        else if p.fx.rds.any (·.bad) then (s.noteReads t p.fx.rds).feedEnd t 1
        else
          let s := (s.noteReads t p.fx.rds).setEngine t { e with pend := p.fx.ws.foldl addPend e.pend }
          let s := State.engDrain (p.fin s) t
          let s := s.setEngine t { s.engine t with now := e.now + 6 }
          if (s.engine t).atomic then s.setEngine t { s.engine t with feed := none } else s.feedEnd t 0

/-- One engine instruction row: the engine issues the instruction at its program counter, when `sel` names it. A fetch that returns
poison faults whatever the row (R219). A HALTED engine issues the word that a debugger feeds it (R511). -/
def State.issueOp (s : State) (t : Nat) (sel : EOp → Option (State → Plan)) : State :=
  match (s.engine t).feed with
  | some w => s.feedOp t w sel
  | none =>
  if s.canIssue t then
    let e := s.engine t
    let f := e.fetch.1
    let s1 := s.noteReads t [f]
    if f.bad then s1.engFault t 1
    else match decodeEngine f.val with
      | none => s
      | some op =>
        match sel op with
        | none => s
        | some k =>
          if e.br.isSome && op.notInSlot then s1.engFault t 3
          else if bitAt (e.rd rST e.now) 4 && op.notInRepeat then s1.engFault t 4
          else
            let p := k (s1.setEngine t e.endCheck)
            if p.fault ≠ 0 then s1.engFault t p.fault
            else if p.hold then (s1.engPass t 1).engBoundary t
            else if p.fx.rds.any (·.bad) then (s1.noteReads t p.fx.rds).engFault t 1
            else s1.engIssue t e.fetch.2 f.val p
  else s

/-- An atomic ends: D7 takes the code, D0–D3 the old value when it succeeded; issue goes on (R258). -/
def State.engAtomicDone (s : State) (t : Nat) (svc : Nat) (data : List Byte) : State :=
  let s := s.engDrain t
  let e := s.engine t
  let put (e : Engine) (i v : Nat) : Engine := { e with regs := tput (engRst i) e.regs (shdBank e.shd i * 64 + i) v }
  let e := put e 7 svc
  let e := if svc ≤ 1 then iter 4 (fun i e => put e i (leAt data (2 * i) 2)) e else e
  let s := s.setEngine t { e with atomic := false }
  if e.run = .halted then s.feedEnd t 0
  else s.engBoundary t

end Sys2Proof.Machine
end

