-- ==== Sys2Proof/Machine/EngineCtl.lean ====
section
/-! DEFINITION. The signal engine's control, queue and network instructions, its interrupts, watchdog, and its memories as the fabric
and the network reach them (10 R244–R267). -/

namespace Sys2Proof.Machine

/-! ### Branches and repeats (R244–R249) -/

/-- A branch condition over ST (R244). -/
def condHolds (cond st : Nat) : Bool :=
  let z := bitAt st 0
  let n := bitAt st 1
  let v := bitAt st 3
  let c := bitAt st 2
  match cond with
  | 0 => true
  | 1 => z
  | 2 => !z
  | 3 => n
  | 4 => !n
  | 5 => !n && !z
  | 6 => n || z
  | 7 => v
  | 8 => !v
  | 9 => c
  | _ => !c

/-- A branch issued at the engine's program counter: to `target` when `taken`, else past the delay slots (R246). -/
def planBranch (e : Engine) (taken : Bool) (target : Nat) (ws : List PWrite) : Plan :=
  { Plan.of ⟨ws, []⟩ with
    branch := some (if taken then target % 16384 else (e.pc + 3) % 16384)
    note := if taken then some (0, target) else none }

/-- B: flags are read in stage A. -/
def execB (t : Tile) (s : State) : Out :=
  .next (s.issueOp t fun op => match op with
    | .b cond target => some (fun s =>
        let e := s.engine t
        planBranch e (condHolds cond (e.rd rST (e.now + 2))) target [])
    | _ => none)

/-- CALL: Pn takes the address of CALL + 3 at the end of stage M. -/
def execCall (t : Tile) (s : State) : Out :=
  .next (s.issueOp t fun op => match op with
    | .call pn target => some (fun s =>
        let e := s.engine t
        planBranch e true target [e.wr (rP pn) 0xFFFF (e.pc + 3) (e.now + 4)])
    | _ => none)

/-- BR: Pn is read in stage A. -/
def execBr (t : Tile) (s : State) : Out :=
  .next (s.issueOp t fun op => match op with
    | .br cond pn => some (fun s =>
        let e := s.engine t
        planBranch e (condHolds cond (e.rd rST (e.now + 2))) (e.rd (rP pn) (e.now + 2)) [])
    | _ => none)

/-- RETI: NESTED while SHD = 0; after its delay slots the main bank resumes at the return latch (R250, R254). -/
def execReti (t : Tile) (s : State) : Out :=
  .next (s.issueOp t fun op => match op with
    | .reti => some (fun s =>
        let e := s.engine t
        if e.shd then
          { planBranch e true 0 [] with
            fin := fun s => s.setEngine t { s.engine t with brReti := true }
            note := some (2, s.getF F.engReturn_latch t 0) }
        else Plan.bad 6)
    | _ => none)

/-- Start of a repeat: RC, RS, RE and RPT are set at issue; an END before the body is illegal (R248, R249). -/
def planRepeat (t : Nat) (e : Engine) (count stop : Nat) : Plan :=
  if stop < e.pc + 1 then Plan.bad 2 else
  { Plan.of ⟨[e.wr rRC 0xFFFF (count % 65536) e.now, e.wr rRS 0x3FFF (e.pc + 1) e.now, e.wr rRE 0x3FFF stop e.now,
      e.wr rST stRPT stRPT e.now], []⟩ with fin := fun s => s.setEngine t { s.engine t with cphase := 1, cache := [] } }

/-- REPI: COUNT passes, 0 meaning 1,024. -/
def execRepi (t : Tile) (s : State) : Out :=
  .next (s.issueOp t fun op => match op with
    | .repi count stop => some (fun s => planRepeat t (s.engine t) (if count.val = 0 then 1024 else count) stop) | _ => none)

/-- REP: Dn passes, 0 meaning 65,536; Dn is read in stage D. -/
def execRep (t : Tile) (s : State) : Out :=
  .next (s.issueOp t fun op => match op with
    | .rep dn stop => some (fun s => planRepeat t (s.engine t) ((s.engine t).rd dn ((s.engine t).now + 1)) stop) | _ => none)

/-! ### WAIT, SIG, WDT, STOP, NOP (R244, R255, R260, R262) -/

/-- WAIT: issues nothing from c + 2 until a source of MASK is pending; the engine is IDLE (R255). -/
def execWait (t : Tile) (s : State) : Out :=
  .next (s.issueOp t fun op => match op with
    | .wait dd mask => some (fun s0 => Plan.act fun s =>
        let e := s.engine t
        State.engFlushMem (State.wdCount (s.setEngine t { e with run := .idle, wait := some (mask, dd), pc := (s0.engine t).pc, now := e.now + 1 }) t 1) t)
    | _ => none)

/-- SIG: the line is raised in stage X (R255). -/
def execSig (t : Tile) (s : State) : Out :=
  .next (s.issueOp t fun op => match op with
    | .sig ev => some (fun s => Plan.of ⟨[⟨.sig ev, 0, 0, (s.engine t).now + 5⟩], []⟩) | _ => none)

/-- WDT: reloads the watchdog. -/
def execWdt (t : Tile) (s : State) : Out :=
  .next (s.issueOp t fun op => match op with
    | .wdt => some (fun _ => { Plan.of Fx.none with fin := fun s => s.wdReload t }) | _ => none)

/-- STOP: the engine stops at the next issue boundary (R53, R262). -/
def execStop (t : Tile) (s : State) : Out :=
  .next (s.issueOp t fun op => match op with
    | .stop => some (fun _ => { Plan.of Fx.none with fin := fun s => s.setEngine t { s.engine t with stopReq := true } }) | _ => none)

/-- NOP. -/
def execNop (t : Tile) (s : State) : Out :=
  .next (s.issueOp t fun op => match op with | .nop => some (fun _ => Plan.of Fx.none) | _ => none)

/-- An instruction word that decodes to nothing faults ILLEGAL, as does one that its context makes illegal (R236, R250). -/
def execIllegalInstruction (t : Tile) (s : State) : Out :=
  .next (if (s.engine t).feed.isNone && s.canIssue t then
    let f := (s.engine t).fetch.1
    let s1 := s.noteReads t [f]
    if f.bad then s1.engFault t 1
    else match decodeEngine f.val with
      | none => s1.engFault t 2
      | some _ => s
  else s)

/-! ### Queue instructions (R256) -/

/-- The word D3:D2:D1:D0 as read in cycle `tau`. -/
def Engine.word64 (e : Engine) (tau : Nat) : Nat := e.rd 0 tau + 2 ^ 16 * e.rd 1 tau + 2 ^ 32 * e.rd 2 tau + 2 ^ 48 * e.rd 3 tau

/-- The pushes of an engine to queue q that are in the pipeline. -/
def Engine.pushes (e : Engine) (q : Nat) : Nat :=
  (e.pend.filter (fun w => match w.tgt with | .push q' _ => decide (q' = q) | _ => false)).length

/-- A push: waits for a free word, counting the pushes in the pipeline; illegal unless the engine is the producer; no wait and no
word on a disabled queue (R256). -/
def planPush (t : Nat) (q : Nat) (last : Bool) (s : State) : Plan :=
  let e := s.engine t
  let k := 4 * t + q
  if s.qProd k ≠ 4 then Plan.bad 2
  else if s.qOn k ∧ (s.pq k).space ≤ e.pushes q then Plan.wait
  else Plan.of ⟨[⟨.push q last, 0, e.word64 (e.now + 3), e.now + 5⟩], []⟩

/-- PUSH. -/
def execPush (t : Tile) (s : State) : Out :=
  .next (s.issueOp t fun op => match op with | .push q => some (planPush t q false) | _ => none)
/-- PUSHL: PUSH, and the packet is committed. -/
def execPushl (t : Tile) (s : State) : Out :=
  .next (s.issueOp t fun op => match op with | .pushl q => some (planPush t q true) | _ => none)

/-- POP: D0–D3 and the flags in D4 at the end of stage M; illegal unless the engine is the consumer. -/
def execPop (t : Tile) (s : State) : Out :=
  .next (s.issueOp t fun op => match op with
    | .pop q => some (fun s =>
        let e := s.engine t
        let k := 4 * t.val + q.val
        if s.qCons k ≠ 4 then Plan.bad 2
        else
          let (w, under, _) := s.qRead k
          { Plan.of ⟨(List.range 4).map (fun i => e.wr i 0xFFFF (w.data / 2 ^ (16 * i) % 65536) (e.now + 4)) ++
              [e.wr 4 0xFFFF (4 * b2n under + 2 * b2n w.last + b2n w.p0) (e.now + 4)], []⟩ with fin := fun s => (s.qRead k).2.2 })
    | _ => none)

/-- QABORT: acts in stage X. -/
def execQabort (t : Tile) (s : State) : Out :=
  .next (s.issueOp t fun op => match op with
    | .qabort q => some (fun s =>
        if s.qProd (4 * t.val + q.val) ≠ 4 then Plan.bad 2 else Plan.of ⟨[⟨.qabort q, 0, 0, (s.engine t).now + 5⟩], []⟩)
    | _ => none)

/-! ### Network instructions (R257, R258) -/

/-- The network address D6:D5:D4, read in stage R. -/
def Engine.netAddr (e : Engine) : Nat :=
  e.rd 4 (e.now + 3) + 2 ^ 16 * e.rd 5 (e.now + 3) + 2 ^ 32 * e.rd 6 (e.now + 3)

/-- NGET: waits at issue while the engine holds its tags. -/
def execNget (t : Tile) (s : State) : Out :=
  .next (s.issueOp t fun op => match op with
    | .nget pd ps => some (fun s =>
        let e := s.engine t
        let d := e.rd (rP pd) (e.now + 2)
        let p := e.rd (rP ps) (e.now + 2)
        let n := e.rd 7 (e.now + 3) % 256 + 1
        if s.engNoTag t then Plan.wait
        else Plan.act fun s => s.netIssue t (.nget d p) p (mkReq .read e.netAddr n (s.tileTenant t) 0 t 0 []) e.now)
    | _ => none)

/-- NPUT: its data comes from Y through the tile port, which serves nothing while the lock is held (R257, R259). -/
def execNput (t : Tile) (s : State) : Out :=
  .next (s.issueOp t fun op => match op with
    | .nput pd ps => some (fun s =>
        let e := s.engine t
        let d := e.rd (rP pd) (e.now + 2)
        let p := e.rd (rP ps) (e.now + 2)
        let n := e.rd 7 (e.now + 3) % 256 + 1
        if s.engNoTag t then Plan.wait
        else Plan.act fun s => if e.lock then s.setEngine t { s.engine t with ynet := (s.engine t).ynet ++ [.send p d n e.netAddr] } else s.nputSend t d p n e.netAddr)
    | _ => none)

/-- Send an atomic: nothing issues until its response; an answer of the interface itself ends it at once (R258). -/
def State.sendAtomic (s : State) (t : Nat) (op : NOp) (a : Nat) (data : List Byte) : State :=
  let x := s.engSend t .atomic (mkReq op a 8 (s.tileTenant t) 0 t 0 data)
  if x.2 = 0 then State.engFlushMem (x.1.setEngine t { x.1.engine t with atomic := true }) t else x.1.engAtomicDone t x.2 []

/-- An atomic waits at issue while the engine holds its tags. -/
def planAtomic (t : Nat) (op : NOp) (data : List Byte) (rds : List Rd) (s : State) : Plan :=
  if s.engNoTag t then Plan.wait
  else { Plan.of ⟨[], rds⟩ with fin := fun u => u.sendAtomic t op (s.engine t).netAddr data }

/-- NFADD: FETCH_ADD of D3:D2:D1:D0. -/
def execNfadd (t : Tile) (s : State) : Out :=
  .next (s.issueOp t fun op => match op with
    | .nfadd => some (fun s => planAtomic t .fetchAdd (leBytes 8 ((s.engine t).word64 ((s.engine t).now + 3))) [] s) | _ => none)
/-- NSWAP. -/
def execNswap (t : Tile) (s : State) : Out :=
  .next (s.issueOp t fun op => match op with
    | .nswap => some (fun s => planAtomic t .swap (leBytes 8 ((s.engine t).word64 ((s.engine t).now + 3))) [] s) | _ => none)
/-- NCAS: the compare value is D3:D2:D1:D0, the new value the Y words Pd to Pd + 3. -/
def execNcas (t : Tile) (s : State) : Out :=
  .next (s.issueOp t fun op => match op with
    | .ncas pd => some (fun s =>
        let e := s.engine t
        let (new, l) := e.yBytes (e.rd (rP pd) (e.now + 2)) 8
        planAtomic t .compareSwap (leBytes 8 (e.word64 (e.now + 3)) ++ new) l s)
    | _ => none)

/-! ### Interrupts (R251–R253, R255) -/

/-- A forced halt or stop: a held Y lock is released and the next STK stores without unlocking; a pending atomic's response is sunk, and D7
takes TIMEOUT, after what earlier instructions write; LOCK_BROKEN is set (R263). -/
def State.engForce (s : State) (t : Nat) : State :=
  if !(s.engine t).lock ∧ !(s.engine t).atomic then s
  else
    let s := if (s.engine t).atomic then (s.sinkAtomic t).engDrain t else s
    let e := s.engine t
    let e := { e with
      lock := false
      lockBroken := e.lockBroken || e.lock
      regs := if e.atomic then tput (engRst 7) e.regs (shdBank e.shd 7 * 64 + 7) svcTimeout else e.regs
      atomic := false }
    State.yServe ((s.setEngine t e).setF F.engStatus_lockBroken t 0 1) t

/-- An engine when HOLD comes: as under a debugger halt, at its next boundary outside delay slots, with no lock or atomic held (R40, R263). -/
def State.engHold (s : State) (t : Nat) : State :=
  let e := s.engine t
  if e.run = .running ∨ (e.run = .idle ∧ e.lock) then (if e.free then s.engDrain t else s.setEngine t { e with holdReq := true }) else s

/-- Engine cycles that have passed in WAIT; an engine that issues has none to count (R255, R260). -/
def State.idlePass (s : State) (t k : Nat) : State :=
  let e := s.engine t
  if e.run ≠ .idle ∨ s.engPaused t then s
  else State.engSettle (let s := s.setEngine t { e with now := e.now + k }
    if s.flag F.engWdog_inWait t 0 then s.wdCount t k else s) t

/-- INTERRUPT_ENTRY: at an open boundary the highest-numbered source that qualifies is taken (R252, R253). `k`: cycles that the engine has been in
WAIT. -/
def execInterruptEntry (t : Tile) (k : Nat) (s : State) : Out :=
  let s := s.idlePass t k
  .next (match s.irqDue t with
    | none => s
    | some n =>
      let e := s.engine t
      let s := s.setF F.engIrq_pending t 0 (Nat.land (s.getF F.engIrq_pending t 0) (0xFFFF - 2 ^ n))
      let s := (s.setF F.engReturn_latch t 0 e.pc).trace t 1 e.pc (0x3FC0 + 4 * n)
      let st := tget (engRst rST) e.regs (64 + rST)
      let s := s.setEngine t { e with
        run := .running
        wait := none
        shd := true
        regs := tput (engRst rST) e.regs (64 + rST) (mergeBits st stRPT 0)
        pc := 0x3FC0 + 4 * n
        cphase := 0
        cache := [] }
      s.engPass t 1)

/-- WAIT_WAKE: a source of MASK is pending; the highest is cleared, Dd takes its number, and issue goes on after the WAIT (R255). `k`: cycles that the
engine has been in WAIT. -/
def execWaitWake (t : Tile) (k : Nat) (s : State) : Out :=
  let s := s.idlePass t k
  let e := s.engine t
  .next (match e.wait with
    | none => s
    | some (mask, dd) =>
      match topBit (Nat.land (s.getF F.engIrq_pending t 0) mask) with
      | none => s
      | some n =>
        if e.run = .idle ∧ !s.engPaused t then
          let s := s.setF F.engIrq_pending t 0 (Nat.land (s.getF F.engIrq_pending t 0) (0xFFFF - 2 ^ n))
          let s := s.setEngine t { e with run := .running, wait := none, pend := addPend e.pend (e.wr dd 0xFFFF n e.now), pc := (e.pc + 1) % 16384 }
          s.engPass t 1
        else s)

/-! ### Watchdog (R260) -/

/-- WATCHDOG_WARN: the count passes half the period. -/
def execWatchdogWarn (t : Tile) (s : State) : Out :=
  .next (if s.wdRuns t ∧ s.wdFull t / 2 < (s.engine t).wd then
    State.engPend (s.setEngine t { s.engine t with wd := s.wdFull t / 2 }) t 15 else s)

/-- WATCHDOG_EXPIRY: the count reaches zero, and the engine faults with WATCHDOG. -/
def execWatchdogExpiry (t : Tile) (s : State) : Out :=
  .next (if s.wdRuns t then
    let s := if s.wdFull t / 2 < (s.engine t).wd then s.engPend t 15 else s
    State.engFault (s.setEngine t { s.engine t with wd := 0 }) t 5 else s)

/-! ### The memories from outside (R264–R266) -/

/-- ENGINE_MEMORY_REQUEST: a network request reaches the engine memories of its tile (R266). While the engine holds the lock, an access to Y waits for
the tile port (R259, R264). -/
def execEngineMemoryRequest (r : Req) (s : State) : Out :=
  .next (match aperture r.addr with
    | some (t, o) =>
      if !(o < 0x100000) then s
      else if (s.engine t).lock && s.engYServed r.rq t o r.op r.size && r.crcOk then
        (if s.net.reqs.contains r then State.setEngine (s.takeReq r) t { s.engine t with ynet := (s.engine t).ynet ++ [.req r] } else s)
      else s.serve r t (fun s => some (s.engMemServe r.rq t o r.op r.size r.data))
    | none => s)

end Sys2Proof.Machine
end

