-- ==== Sys2Proof/Machine/Fabric.lean ====
section
/-! DEFINITION. Clock edges of the fabric: clusters, seam flip-flops, multiplier slices and crossing primitives (05_fabric.md, R112–R137). DESIGN
CHOICE (log entry 111): the commands of one clock edge come one after another, the later ones marked as the same edge; each takes what stood before
the edge. -/

namespace Sys2Proof.Machine

/-- User clocks run and the hold of R100 is off. -/
def State.userClock (s : State) : Bool := !s.fab.stopped && !s.pw.ffHold

/-! ### One edge, several commands -/

/-- A command begins a clock edge, unless it belongs to the edge of the command before it. -/
def State.edgeStart (s : State) (join : Bool) : State :=
  if join && s.fab.before.isSome then s
  else { s with fab.before := some ⟨s.fab.ffs, s.fab.seamFfs, s.fab.muls, s.fab.blks, s.fab.xings, s.free, s.net, s.evs, s.pqs, s.eng, []⟩,
                  free := s.free + 1 }

/-- The machine with the fabric's registers and the hard units' ports as they stood before the edge. -/
def State.preEdge (s : State) : State :=
  match s.fab.before with
  | none => s
  | some e =>
    { s with fab.ffs := e.ffs, fab.seamFfs := e.seamFfs, fab.muls := e.muls, fab.blks := e.blks, fab.xings := e.xings, free := e.free,
             net := e.net, evs := e.evs, pqs := e.pqs, eng := e.eng }

/-! ### Flip-flops (R113, R114) -/

/-- A flip-flop on the active edge of its clock: an asserted asynchronous line holds it; a synchronous set or reset acts whatever the
clock enable; otherwise D is taken when enabled (R113, R114). -/
def ffNext (c : FfCfg) (old d : Bool) (ce sr : Nat) : Bool :=
  let on := bitAt sr c.sr
  let en := c.ce = 4 || bitAt ce c.ce
  match c.kind with
  | .syncSet => if on then true else if en then d else old
  | .syncReset => if on then false else if en then d else old
  | .asyncSet => if on then true else if en then d else old
  | .asyncReset => if on then false else if en then d else old
  | .none => if en then d else old

/-- What a command brings for the inputs of a cluster that nothing drives: the 16 cells' inputs, the carry in, MS2–MS5, CE0–CE3, SR0 and SR1. -/
def destIn (ins : List CellIn) (cin : Bool) (ms ce : BitVec 4) (sr : BitVec 2) (n : Nat) : Bool :=
  if n < 128 then bitAt (ins.getD (n / 8) 0#8).toNat (n % 8)
  else if n < 132 then bitAt ce.toNat (n - 128)
  else if n < 134 then bitAt sr.toNat (n - 132)
  else if n < 138 then bitAt ms.toNat (n - 134)
  else n = 138 && cin

/-- Signals that nothing drives, with those inputs at one cluster. -/
def State.extCluster (s : State) (t cluster : Nat) (v : Nat → Bool) (w : Wire) : Bool :=
  match w with
  | .dest t' c' n => if t' = t ∧ c' = cluster then v n else s.openWires w
  | _ => s.openWires w

/-- An edge of the tile's clock net is active for cluster clock k: the clock takes that net, and its inversion matches the edge (R113, R117). -/
def ClusterCfg.active (c : ClusterCfg) (k net : Nat) (rise : Bool) : Bool :=
  if k = 0 then c.clk0 = net && (c.inv0 != rise) else c.clk1 = net && (c.inv1 != rise)

/-- The D input of flip-flop k of a cell (R113). -/
def State.ffD (s : State) (ext : Wire → Bool) (t cluster cell k : Nat) (c : FfCfg) : Bool :=
  s.wire (s.clusterNet t cluster c.clk) ext (if c.d = 0 then .src t cluster (4 * cell) else if c.d = 1 then .src t cluster (4 * cell + 1) else .dest t cluster (8 * cell + 6 + k))

/-- `n` destinations of a cluster's crossbar as a number, as the tile's clock net `net` takes them. -/
def State.dests (s : State) (ext : Wire → Bool) (t cluster net base n : Nat) : Nat :=
  ((List.range n).map (fun i => b2n (s.wire (s.netId t net) ext (.dest t cluster (base + i))) * 2 ^ i)).sum

/-- The flip-flops of a cluster on an edge: each on an active clock takes its D input under its controls, all from what stood before (`p`). -/
def State.clusterEdge (s p : State) (ext : Wire → Bool) (t cluster net : Nat) (rise : Bool) : State :=
  let ce := p.dests ext t cluster net 128 4
  let sr := p.dests ext t cluster net 132 2
  iter 32 (fun n s =>
    let key := ffKey cluster (n / 2) (n % 2)
    let c := s.ffCfg t key
    if (s.clusterCfg t cluster).active c.clk net rise then s.setFf t key (ffNext c (p.ff t key) (p.ffD ext t cluster (n / 2) (n % 2) c) ce sr)
    else s) s

/-! ### Seam flip-flops (R126) -/

/-- The receiving edge tile of a seam wire by its ends' settings, and the line as it arrives there. -/
def SeamWire.arrives (w : SeamWire) : Option (Nat × Nat × Nat) :=
  let (t, dir, len, _) := w.line
  (List.range len).findSome? (fun n =>
    match lineTile t dir n, lineTile t dir (n + 1) with
    | some a, some b => if a / 256 ≠ b / 256 then some (a, b, n) else none
    | _, _ => none)

/-- A rising edge of a clock net of a tile clocks the enabled seam flip-flops of the bundles that arrive there on that net: each takes its wire. -/
def State.seamEdge (s p : State) (ext : Wire → Bool) (t net : Nat) : State :=
  s.fab.seamCfg.foldl (fun s w =>
    match w.arrives with
    | some (a, b, n) =>
      if w.reg && decide (b = t) && decide (tget 0 s.fab.seamClk (w.key / 64) = net) then
        let (t0, dir, len, i) := w.line
        let v := s.seamWireOn w.key &&
          (if w.agrees a b && !s.seams.named.contains (w.key / 64, w.key % 64) then p.wire (p.netId t net) ext (.line t0 dir len i n)
           else ext (.line t0 dir len i (n + 1)))
        { s with fab.seamFfs := tput false s.fab.seamFfs w.key v }
      else s
    | none => s) s

/-! ### Crossing primitives on an edge (R135–R137) -/

/-- A signal comes from a flip-flop on clock net `dom` through routing alone, of at most `fuel` signals in a row (R136). -/
def State.fromFf (s : State) (dom : Nat) : Nat → Wire → Bool
  | 0, _ => false
  | fuel + 1, w =>
    let via (w : Wire) : Bool := match s.driver w with | none => false | some d => s.fromFf dom fuel d
    match w with
    | .src t c n => if 64 ≤ n then s.fromFf dom fuel (.xin t c (n - 64)) else decide (2 ≤ n % 4) && decide (s.ffNet t (ffKey c (n / 4) (n % 2)) = dom)
    | .dest t c n => (match s.xbarSrc t c n with | none => false | some k => s.fromFf dom fuel (.src t c k))
    | .line t dir len i (n + 1) =>
      (match lineTile t dir n, lineTile t dir (n + 1) with
       | some a, some b =>
         if a / 256 = b / 256 then s.fromFf dom fuel (.line t dir len i n)
         else (match s.seamWireFor (t, dir, len, i) a b with
           | none => false
           | some x =>
             s.seamWireOn x.key && x.agrees a b && !s.seams.named.contains (x.key / 64, x.key % 64) &&
               (if x.reg then decide (s.netId b (tget 0 s.fab.seamClk (x.key / 64)) = dom) else s.fromFf dom fuel (.line t dir len i n)))
       | _, _ => false)
    | .xin _ _ _ => via w
    | .seg _ _ _ _ _ => via w
    | .line _ _ _ _ 0 => via w
    | _ => false

/-- The inputs of a crossing come directly from flip-flops of its source domain (R136). -/
def State.xDirect (s : State) (c : XCfg) : Bool :=
  (c.ins ++ c.send.toList).all (fun n => s.fromFf (s.clusterNet c.srcT c.srcC c.srcClk) (2 ^ 40) (.src c.srcT c.srcC n))

/-- A signal of a crossing that goes from tile t to tile t': where they lie in different regions it passes the clamp of tile t (R286). DESIGN CHOICE
(log entry 132): the request and the acknowledgement pass the clamps of the first flip-flop that the crossing occupies on that side. -/
def State.xPass (s : State) (t t' : Nat) (w : Wire) (v : Bool) : Bool := if s.sameRegion t t' then v else (s.clamp t w).getD v

/-- The output of a crossbar's cell flip-flop with a given key. -/
def ffWire (t key : Nat) : Wire := .src t (key / 32) (4 * (key % 32 / 2) + 2 + key % 2)

/-- The request and the acknowledgement of a crossing as they reach the other side. -/
def State.xRequest (s : State) (c : XCfg) (tog : Bool) : Bool := s.xPass c.srcT c.dstT (ffWire c.srcT (c.srcFfs.headD 0)) tog
def State.xReturn (s : State) (c : XCfg) (ack : Bool) : Bool := s.xPass c.dstT c.srcT (ffWire c.dstT (c.dstFfs.headD 0)) ack

/-- The bits of a crossing as they reach its destination: `v` holds them at the source (R286). -/
def State.xBits (s : State) (c : XCfg) (v : Nat) : Nat :=
  ((List.range c.width).map (fun i => b2n (s.xPass c.srcT c.dstT (.src c.srcT c.srcC (c.ins.getD i 0)) (bitAt v i)) * 2 ^ i)).sum

/-- The input bits of a crossing at its source. -/
def State.xIns (s : State) (ext : Wire → Bool) (c : XCfg) : Nat :=
  ((c.ins.take c.width).zipIdx.map (fun x => b2n (s.wire (s.clusterNet c.srcT c.srcC c.srcClk) ext (.src c.srcT c.srcC x.1)) * 2 ^ x.2)).sum

/-- The destination's edge: the stages shift; a request that has passed n + 1 of them captures the word, and is one pulse from the next edge on. A
changed input that does not come from a flip-flop (`direct` false) makes the output undefined. `v`, `word`: the value of XSYNC and XGRAY, or the request
of the others, and the word, as they reach the destination (R135–R137). -/
def xDst (c : XCfg) (direct : Bool) (old cur : Crossing) (v word : Nat) : Crossing :=
  match c.kind with
  | .xsync => { cur with pipe := (v :: old.pipe).take (c.n + 1), seen := v, broken := if !direct && v != old.seen then c.n + 1 else cur.broken - 1 }
  | .xgray => { cur with pipe := (v :: old.pipe).take (c.n + 1), seen := v, broken := if !direct && v != old.seen then c.n + 1 else cur.broken - 1 }
  | _ =>
    let stage (i : Nat) : Nat := old.pipe.getD i 0
    let out := stage c.n != stage (c.n + 1)
    { cur with
      pipe := (v :: old.pipe).take (c.n + 2), out := out,
      dword := if stage (c.n - 1) ≠ stage c.n then word else cur.dword,
      delivered := cur.delivered + b2n out, broken := cur.broken - 1 }

/-- Two values of a w-bit counter lie at most one step apart (R136). -/
def oneStep (w a b : Nat) : Bool := a = b || (a + 1) % 2 ^ w = b || (b + 1) % 2 ^ w = a

/-- The source's edge: the acknowledgement `a` enters its stages; a counter of XGRAY that went from `v` to `v'` in more than one step makes the output
undefined (R136, R137). -/
def xSrc (c : XCfg) (old cur : Crossing) (a : Bool) (v v' : Nat) : Crossing :=
  { cur with
    ack := (a :: old.ack).take (c.n + 1),
    broken := if c.kind = .xgray && !oneStep c.width v v' then c.n + 2 else cur.broken }

/-- The crossing primitives of a cluster on an edge. `p`: before it. -/
def State.xingEdge (s p : State) (ext : Wire → Bool) (t cluster net : Nat) (rise : Bool) : State :=
  s.fab.xcfg.foldl (fun s (k, c) =>
    let on (t' c' clk : Nat) : Bool := t' = t && c' = cluster && (s.clusterCfg t cluster).active clk net rise
    let x := p.xing k
    let s := if on c.srcT c.srcC c.srcClk then
        s.setXing k (xSrc c x (s.xing k) (p.xReturn c (decide (x.pipe.getD c.n 0 = 1))) (p.xIns ext c) (s.xIns ext c))
      else s
    if on c.dstT c.dstC c.dstClk then
      s.setXing k (xDst c (p.xDirect c) x (s.xing k)
        (match c.kind with | .xsync => p.xBits c (p.xIns ext c) | .xgray => p.xBits c (p.xIns ext c) | _ => b2n (p.xRequest c x.tog)) (p.xBits c x.word))
    else s) s

/-! ### Hard ports on an edge (R204, R210, R211, R264) -/

/-- Receive port p of a tile on an edge: it presents the pulse that has reached the tile since the edge before (R210). -/
def State.recvEdge (s : State) (k : Nat) : State :=
  let d := tget false s.evs.due k
  let v := s.evs
  { s with evs := { v with recv := tput 0 v.recv k (tget 0 v.recv k + b2n d), high := tput false v.high k d, due := tput false v.due k false } }

/-- An event counter's value crosses to its port's clock net (R211). -/
def State.cntEdge (s : State) (k : Nat) : State :=
  let v := s.evs
  { s with evs := { v with evpipe := tput [] v.evpipe k ((tget 0 v.evcnt k :: tget [] v.evpipe k).take 4) } }

/-- YDOUT takes the next read data (R264). -/
def State.yEdge (s : State) (t : Nat) : State :=
  let e := s.engine t
  if e.ynow.isSome ∨ e.yout ≠ [] then s.setEngine t { e with ynow := e.yout.head?, yout := e.yout.tail } else s

/-- The pop port of queue k on a consumer's edge: CUNDER was for the cycle before, and the next notice is given (R202, R204). -/
def State.noticeEdge (s : State) (k : Nat) : State :=
  let q := s.pq k
  let s := if q.notice ∨ q.cunder ∨ q.notices ≠ 0 then
      s.setPQ k { q with notice := decide (q.notices ≠ 0), notices := q.notices - 1, cunder := false }
    else s
  if q.notices ≠ 0 then s.qNotice k else s

/-- The interface's channels on an edge: the fabric takes the beat that RSI or TQI shows where its READY is high; what a beat leaves follows (R167,
R178). -/
def State.niEdge (s : State) (t : Nat) (rsiReady tqiReady : Bool) : State :=
  let n := s.ni t
  let s := match n.rsi with
    | [] => s
    | (id, c, d, p) :: l => if rsiReady then s.setNi t { n with rsi := if d.length ≤ 32 then l else (id, c, d.drop 32, p) :: l } else s
  let n := s.ni t
  match n.tqi.find? (fun q => !q.taken) with
  | none => s
  | some q =>
    let q' := if q.req.data.length ≤ 32 * (q.beats + 1) then { q with taken := true } else { q with beats := q.beats + 1 }
    if tqiReady then s.setNi t { n with tqi := n.tqi.map (fun x => if x = q then q' else x) } else s

/-- The hard units' ports of a tile on a rising edge of one of its clock nets: each port whose own clock input runs on that net. -/
def State.portsEdge (s : State) (t net : Nat) : State :=
  let on (s : State) (u : Slot) (k : Nat) : Bool := s.netRuns t (s.portNet t u k) && decide (s.netId t (s.portNet t u k) = s.netId t net)
  let s := iter 8 (fun p s => if on s .events (8 + p) then s.recvEdge (8 * t + p) else s) s
  let s := iter 4 (fun k s => if on s .events (16 + k) then s.cntEdge (4 * t + k) else s) s
  let s := if on s .engine 0 then s.yEdge t else s
  let p := s.preEdge
  let s := if on s .ni 0 && !((s.ni t).rsi.isEmpty && (s.ni t).tqi.isEmpty) then
      s.niEdge t (p.pinNow t .ni .rsiReady 0) (p.pinNow t .ni .tqiReady 0)
    else s
  iter 4 (fun n s => if on s (.queue n) 1 then s.noticeEdge (4 * t + n) else s) s

/-- A rising edge of a tile's clock net at the hard units' ports, once for each edge (R202, R204, R210, R211, R264). -/
def State.hardEdge (s : State) (t net : Nat) : State :=
  match s.fab.before with
  | none => s
  | some e =>
    if e.tiles.contains (128 * t + s.netId t net) then s
    else State.portsEdge { s with fab.before := some { e with tiles := (128 * t + s.netId t net) :: e.tiles } } t net

/-- A command at a hard unit's port is an edge of the port's clock net. -/
def State.portEdge (s : State) (t : Nat) (u : Slot) (k : Nat) (join : Bool) : State := (s.edgeStart join).hardEdge t (s.portNet t u k)

/-- CELL_CLOCK_EDGE: an edge of the tile's clock net `net` reaches a cluster: the flip-flops and crossing primitives of the cluster whose clock it is
active for, and on a rising edge the seam flip-flops and the hard ports of the tile on that net (R113, R114, R126, R135). `ins`, `cin`, `ms`, `ce` and
`sr` are the levels of crossbar destinations that nothing drives; `join`: the same edge as the command before. -/
def execCellClockEdge (t : Tile) (cluster : Fin 768) (net : Fin 8) (rise join : Bool) (ins : List CellIn) (cin : Bool) (ms ce : BitVec 4) (sr : BitVec 2)
    (s : State) : Out :=
  .next (if s.userClock && s.netRuns t net then
    let s := s.edgeStart join
    let p := s.preEdge
    let ext := p.extCluster t cluster (destIn ins cin ms ce sr)
    let s := (s.clusterEdge p ext t cluster net rise).xingEdge p ext t cluster net rise
    if rise then (s.seamEdge p ext t net).hardEdge t net else s
  else s)

/-- The flip-flops of a tile can change: the hold of R100 is off, and the tile's region is LIVE and not past DRAIN (R114, R287, R289). -/
def State.ffMoves (s : State) (t : Nat) : Bool := !s.pw.ffHold && !s.tileHeld t && decide (s.tileFencing t ≠ 2)

/-- A set/reset line of a cluster is high for a flip-flop on cluster clock k: what the crossbar brings from that clock's domain, an open level from
another (R25, R114); and what the command says where the crossbar drives nothing. -/
def State.lineHigh (s : State) (t cluster line k : Nat) : Bool :=
  (s.xbarSrc t cluster (132 + line)).all (fun n => s.wire (s.clusterNet t cluster k) s.openWires (.src t cluster n))

/-- ASYNC_SET_RESET: set/reset line `line` of a cluster is asserted, and acts without a clock edge; the hold of R100 overrides it, and a region that is not
LIVE holds its flip-flops (R114, R287). A line that the crossbar drives is asserted when its source is high. -/
def execAsyncSetReset (t : Tile) (cluster : Fin 768) (line : Fin 2) (s : State) : Out :=
  .next (if !s.ffMoves t then s else
    iter 32 (fun n u =>
      let key := ffKey cluster (n / 2) (n % 2)
      let c := s.ffCfg t key
      if c.sr = line.val ∧ s.lineHigh t cluster line c.clk then
        match c.kind with
        | .asyncSet => u.setFf t key true
        | .asyncReset => u.setFf t key false
        | _ => u
      else u) { s with free := s.free + 1 })

/-! ### Multiplier slices (R127–R131) -/

/-- One slice's registers after an edge. A stage's clear acts whatever its clock enable. DESIGN CHOICE (log entry 112): the clear is of the stage's data,
and FN, NEG and PAIR of the operands presented with it are taken then, as with the clock enable high. -/
def mulNext (c : MulCfg) (m : MulSt) (p : MulPins) : MulSt :=
  let (prod, ad, fn, neg) := mulProd c m p
  let (r, above, below) := mulResult c m p m.acc
  let m1 := if bitAt p.clr 0 then { m with ma := 0, mb := 0, me := 0, ad := 0, fn1 := p.fn, neg1 := p.neg, pair1 := c.pairOf p }
    else if bitAt p.ce 0 then { m with ma := p.ma, mb := p.mb, me := p.me, ad := p.ad, fn1 := p.fn, neg1 := p.neg, pair1 := c.pairOf p }
    else m
  let m2 := if bitAt p.clr 1 then { m1 with prod := 0, ad2 := 0, fn2 := fn, neg2 := neg }
    else if bitAt p.ce 1 then { m1 with prod := prod, ad2 := ad, fn2 := fn, neg2 := neg } else m1
  if bitAt p.clr 2 then { m2 with acc := 0, above := false, below := false }
  else if bitAt p.ce 2 then { m2 with acc := r, above := above, below := below }
  else { m2 with above := false, below := false }

/-- The inputs of a slice that a command brings for pins that nothing drives. -/
def MulIn.bit (i : MulIn) (f : Sig) (b : Nat) : Bool :=
  match f with
  | .ma => bitAt i.ma.toNat b
  | .mb => bitAt i.mb.toNat b
  | .me => bitAt i.me.toNat b
  | .ad => bitAt i.ad.toNat b
  | .fn => bitAt i.fn.val b
  | .neg => i.neg
  | .pair => bitAt i.pair.val b
  | .ce => bitAt i.ce.toNat b
  | .clr => bitAt i.clr.toNat b
  | _ => false

/-- Signals that nothing drives, with the inputs of the slices listed. The manual gives the chain input of the lowest slice of a die no value: it is
free. -/
def State.extSlices (s : State) (l : List MulIn) (w : Wire) : Bool :=
  match w with
  | .pin t (.mul k) f b =>
    (match f, l.find? (fun i => i.tile.val = t && i.slice.val = k) with
     | .chi, _ => s.openWires w
     | _, some i => i.bit f b
     | _, none => s.openWires w)
  | _ => s.openWires w

/-- MULTIPLIER_SLICE_EDGE: a clock edge at those of the slices listed whose clock net runs; each takes its inputs and its chain as they stood before the
edge (R23, R128–R131). DESIGN CHOICE (log entry 124): the frames give each slice one of the tile's clock nets. -/
def execMultiplierSliceEdge (l : List MulIn) (join : Bool) (s : State) : Out :=
  .next (if s.userClock then
    let s := s.edgeStart join
    let p := s.preEdge
    (l.filter (fun i => s.netRuns i.tile (s.mulCfg i.tile i.slice).clk)).foldl (fun s i =>
      let m := mulNext (s.mulCfg i.tile i.slice) (p.mul i.tile i.slice) (p.mulPins (p.wire (p.mulNet i.tile i.slice) (p.extSlices l)) i.tile i.slice)
      { s with fab.muls := tput MulSt.init s.fab.muls (i.tile.val * 64 + i.slice.val) m }) s
  else s)

/-! ### Crossing primitives at their source (R135–R137) -/

/-- The source side of a crossing has clock edges. -/
def State.xSrcRuns (s : State) (c : XCfg) : Bool :=
  let k := s.clusterCfg c.srcT c.srcC
  s.userClock && s.netRuns c.srcT (if c.srcClk = 0 then k.clk0 else k.clk1)

/-- A control input of a crossing is high: what its crossbar source carries, and what the command says where nothing feeds it. -/
def State.xHigh (s : State) (c : XCfg) (src : Option Nat) : Bool := src.all (fun n => s.wire (s.clusterNet c.srcT c.srcC c.srcClk) s.openWires (.src c.srcT c.srcC n))

/-- A request at the source: taken while READY is high, else dropped with OVERRUN; inputs that do not come from flip-flops make the output undefined up
to and with the cycle that shows the request (R136, R137). `p`: before the edge. -/
def State.xSend (s p : State) (k : Nat) (c : XCfg) (word : Nat) : State :=
  let x := s.xing k
  if (p.xing k).ready c.n then s.setXing k { x with tog := !x.tog, word := word, broken := if p.xDirect c then x.broken else c.n + 3 }
  else s.setXing k { x with overrun := true }

/-- XPULSE_PULSE: a pulse is presented: delivered as one destination pulse, or dropped with OVERRUN while READY is low (R135, R137). -/
def execXpulsePulse (k : Nat) (join : Bool) (s : State) : Out :=
  .next (match s.xcfg k with
    | none => s
    | some c =>
      if c.kind = .xpulse ∧ s.xSrcRuns c then
        let s := s.edgeStart join
        if s.preEdge.xHigh c c.send then s.xSend s.preEdge k c 0 else s
      else s)

/-- XWORD_SEND: SEND with a word: it is held until READY returns and is seen for one destination cycle, or is dropped with OVERRUN (R137). -/
def execXwordSend (k : Nat) (w : Word64) (join : Bool) (s : State) : Out :=
  .next (match s.xcfg k with
    | none => s
    | some c =>
      if c.kind = .xword ∧ s.xSrcRuns c then
        let s := s.edgeStart join
        let p := s.preEdge
        if p.xHigh c c.send then s.xSend p k c ((if c.ins.isEmpty then w.toNat else p.xIns p.openWires c) % 2 ^ c.width) else s
      else s)

/-- OVR_CLR: a pulse on OVR_CLR clears OVERRUN (R137). -/
def execOvrClr (k : Nat) (join : Bool) (s : State) : Out :=
  .next (match s.xcfg k with
    | none => s
    | some c =>
      if s.xSrcRuns c then
        let s := s.edgeStart join
        if s.preEdge.xHigh c c.clear then s.setXing k { s.xing k with overrun := false } else s
      else s)

end Sys2Proof.Machine
end

