-- ==== Sys2Proof/Machine/Blocks.lean ====
section
/-! DEFINITION. Block memories: ports, write modes, collisions, the 512 × 72 mode with ECC, written marks, and the network window
(06_block_memory.md, R139–R157). -/

namespace Sys2Proof.Machine

def State.blk (s : State) (t b : Nat) : BlkMem := tget BlkMem.init s.fab.blks (t * 24 + b)
def State.setBlk (s : State) (t b : Nat) (m : BlkMem) : State := { s with fab.blks := tput BlkMem.init s.fab.blks (t * 24 + b) m }

/-- Block b is half of a fused pair; the pair's settings are those of its even block (R151). -/
def State.blkFused (s : State) (t b : Nat) : Bool := (tget BlkCfg.blank (s.tcfg t).blks (b - b % 2)).fused
def State.blkCfg (s : State) (t b : Nat) : BlkCfg := tget BlkCfg.blank (s.tcfg t).blks (if s.blkFused t b then b - b % 2 else b)

/-! ### Reads (R149, R154) -/

/-- What a port with ECC reads: data, errCorr, errUncorr, poison, and the error to log. -/
def eccRead (bare : Nat → Bool) (get : Nat → Nat) (r : Nat) : Nat × Bool × Bool × Bool × SecOut × Nat × Nat :=
  if (List.range 8).any (fun i => bare (8 * r + i)) then (0, false, false, true, .clean, 0, 0)
  else
    let (d, c) := eccParts get r
    match secDecode 64 7 d c with
    | (.clean, v, y, p) => (v, false, false, false, .clean, p, y)
    | (.corrected, v, y, p) => (v, true, false, false, .corrected, p, y)
    | (.bad, v, y, p) => (v, false, true, true, .bad, p, y)

/-- The array that a block's ports reach: block b, and from byte 4,096 on block b + 1 of a fused pair (R151); and its bytes not yet written. -/
def State.arr (s : State) (t b p : Nat) : Nat := tget 0 (s.blk t (b + p / 4096)).bytes (p % 4096)
def State.bare (s : State) (t b p : Nat) : Bool := (s.blk t (b + p / 4096)).unwritten (p % 4096) 1

/-- Store bytes of that array. -/
def State.storeArr (s : State) (t b : Nat) (l : List (Nat × Nat × Nat)) : State :=
  l.foldl (fun s x => s.setBlk t (b + x.1 / 4096) ((s.blk t (b + x.1 / 4096)).store [(x.1 % 4096, x.2)] true)) s

/-! ### Fabric ports (R139, R143–R151) -/

/-- An output register on an edge with PEN high: OCLR loads the clear value, OREN what stood at RDATA before the edge (R139, R143). -/
def oreg {α : Type} (p : PortIn) (clr r latch : α) : α := if p.oclr then clr else if p.oren then latch else r

/-- The bytes that a port writes on an edge (R139, R144, R148, R149): none with PEN low; in 512 × 72 mode port A is the write port, with ECC only for
all eight strobes. -/
def blkWrites (c : BlkCfg) (portB : Bool) (x : PortIn) : List (Nat × Nat × Nat) :=
  if !x.pen then []
  else if !c.wide then writeSet (if portB then c.widthB else c.widthA) x.loc.toNat x.we.toNat x.wdata.toNat
  else if portB then []
  else
    let r := x.loc.toNat / 64
    if c.ecc then (if x.we = 0xFF#8 then eccBytes r (x.wdata.toNat % 2 ^ 64) false else [])
    else (List.range 8).filterMap (fun i => if bitAt x.we.toNat i then some (8 * r + i, 511, bits x.wdata.toNat (9 * i + 8) (9 * i)) else none)

/-- What a word read gives: data 0 and POISON where it covers a byte not yet written (R154). -/
def plainRead (get : Nat → Nat) (bare : Nat → Bool) (w loc : Nat) : Nat × Bool :=
  let (q, n, _) := wordAt w loc
  if (List.range n).any (fun i => bare (q + i)) then (0, true) else (readWord get w loc, false)

/-- A port's latch and POISON after an edge with PEN high: a read, or what its write mode presents: 0 the word before the edge, 1 the word as the edge
leaves it, else nothing new (R144, R154). `seen` and `bare`: the array as this port finds it; `own` its writes, `fix` what stands in bits that port A
also wrote. -/
def portLatch (c : BlkCfg) (portB : Bool) (m : BlkMem) (x : PortIn) (seen : Nat → Nat) (bare : Nat → Bool) (own fix : List (Nat × Nat × Nat)) : Nat × Bool :=
  let w := if portB then c.widthB else c.widthA
  let mode := if portB then c.modeB else c.modeA
  if own.isEmpty ∨ mode = 0 then plainRead seen bare w x.loc.toNat
  else if mode = 1 then plainRead (withWrites (withWrites seen own) fix) (stillBare bare own) w x.loc.toNat
  else if portB then (m.latchB, m.poisonB) else (m.latchA, m.poisonA)

/-- A port's registers after an edge: the output register takes the RDATA before the edge, and the flags of its read with it; the read port of the 512 × 72
mode checks an ECC word. Returns the error to log with its word (R139, R143, R147–R149). DESIGN CHOICE (log entry 134): a clear value comes without
flags, and in 512 × 72 mode port B's output register, OREN and OCLR serve all 72 bits, with port A's clear value in the half that leaves there. -/
def portRegs (c : BlkCfg) (portB : Bool) (m : BlkMem) (x : PortIn) (seen : Nat → Nat) (bare : Nat → Bool) (own fix : List (Nat × Nat × Nat)) :
    BlkMem × Option (Nat × SecOut × Nat × Nat) :=
  if !x.pen then (m, none)
  else if !portB then
    if c.wide then (m, none)
    else
      let (v, po) := portLatch c false m x seen bare own fix
      ({ m with
          latchA := v, poisonA := po
          oregA := if c.oregA then oreg x c.clrA m.oregA m.latchA else m.oregA
          regPoisonA := if c.oregA then oreg x false m.regPoisonA m.poisonA else m.regPoisonA }, none)
  else
    let m1 := if c.oregB then { m with
        oregB := oreg x (c.word c.clrA c.clrB) m.oregB m.latchB
        regPoisonB := oreg x false m.regPoisonB m.poisonB
        regCorr := oreg x false m.regCorr m.errCorr
        regUncorr := oreg x false m.regUncorr m.errUncorr }
      else m
    if !c.wide then
      let (v, po) := portLatch c true m x seen bare own fix
      ({ m1 with latchB := v, poisonB := po }, none)
    else
      let r := x.loc.toNat / 64
      if c.ecc then
        let (v, ec, eu, po, out, p, y) := eccRead bare seen r
        ({ m1 with latchB := v, errCorr := ec, errUncorr := eu, poisonB := po }, some (r, out, p, y))
      else
        let (v, po) := plainRead seen bare 72 (64 * r)
        ({ m1 with latchB := v, poisonB := po }, none)

/-- In each bit that both ports write under a common clock, port A's data (R145). -/
def bothWrite (own other : List (Nat × Nat × Nat)) : List (Nat × Nat × Nat) :=
  other.map (fun x => (x.1, (own.filter (fun y => y.1 = x.1)).foldl (fun k y => Nat.lor k (Nat.land y.2.1 x.2.1)) 0, x.2.2))

/-- The writes of two accesses within the collision window, by byte: where both write a bit of a byte, the later access's write of that byte alone stands
(`o`: the second of the two lists comes first), and other bits as each wrote them (R146). -/
def raced (o : Nat → Bool) (wa wb : List (Nat × Nat × Nat)) : List (Nat × Nat × Nat) :=
  let clash (l : List (Nat × Nat × Nat)) (x : Nat × Nat × Nat) : Bool := l.any (fun y => y.1 = x.1 && Nat.land y.2.1 x.2.1 != 0)
  wa.filter (fun x => o x.1 || !clash wb x) ++ wb.filter (fun x => !o x.1 || !clash wa x)

/-- The ports of a block on an edge: the registers, what the array takes, and the error to log. `order`: for each byte, port B's access comes before
port A's; none: a common clock, where each port reads the old content and port A's data stand in bits that both write (R145, R146). -/
def blkEdge (c : BlkCfg) (m : BlkMem) (get : Nat → Nat) (bare : Nat → Bool) (a b : Option PortIn) (order : Option (Nat → Bool)) :
    BlkMem × List (Nat × Nat × Nat) × Option (Nat × SecOut × Nat × Nat) :=
  let wr (portB : Bool) (p : Option PortIn) : List (Nat × Nat × Nat) := match p with | some x => blkWrites c portB x | none => []
  let wa := wr false a
  let wb := wr true b
  let after (other : List (Nat × Nat × Nat)) (first : Nat → Bool) : (Nat → Nat) × (Nat → Bool) :=
    (fun p => if first p then withWrites get other p else get p, fun p => if first p then stillBare bare other p else bare p)
  let (seenA, bareA) := match order with | some o => after wb o | none => (get, bare)
  let (seenB, bareB) := match order with | some o => after wa (fun p => !o p) | none => (get, bare)
  let ws := match order with
    | none => wb ++ wa
    | some o => raced o wa wb
  let (m, e) := match a with | some x => portRegs c false m x seenA bareA wa [] | none => (m, none)
  let (m, e') := match b with | some x => portRegs c true m x seenB bareB wb (if order.isNone then bothWrite wb wa else []) | none => (m, none)
  (m, ws, if e.isSome then e else e')

/-- A choice for each byte that is free within the collision window; a word with ECC is taken as one unit (R146, R150). -/
def freeOrder (c : BlkCfg) (base p : Nat) : Bool := Config.freeBool (base + if c.wide && c.ecc then p / 8 else p)

/-- Log what a check of a block's word found: its block and word (R149, R373). -/
def State.blkLog (s : State) (t b : Nat) (e : Option (Nat × SecOut × Nat × Nat)) : State :=
  match e with
  | none => s
  | some (r, out, pr, y) => s.eccOutcome .tile t 0 ((b + r / 512) * 2 ^ 24 + r % 512) out pr y

/-- The inputs of a block's port that a command brings for pins that nothing drives; in 512 × 72 mode the write port's upper strobes and data stand at
port B (R147, R148). -/
def PortIn.bit (x : PortIn) (f : Sig) (i : Nat) : Bool :=
  match f with
  | .pen => x.pen
  | .byteWr => bitAt x.we.toNat i
  | .loc => bitAt x.loc.toNat i
  | .wdata => bitAt x.wdata.toNat i
  | .oren => x.oren
  | .oclr => x.oclr
  | _ => false

/-- Signals that nothing drives, with the inputs of a block's ports. -/
def State.extBlk (s : State) (t b : Nat) (wide : Bool) (pa pb : PortIn) (w : Wire) : Bool :=
  match w with
  | .pin t' (.blkA b') f i => if t' = t ∧ b' = b then pa.bit f i else s.openWires w
  | .pin t' (.blkB b') f i =>
    if t' = t ∧ b' = b then (match f with
      | .byteWr => if wide then pa.bit f (4 + i) else pb.bit f i
      | .wdata => if wide then pa.bit f (36 + i) else pb.bit f i
      | _ => pb.bit f i)
    else s.openWires w
  | _ => s.openWires w

/-- The inputs of a block's port: what the routing brings (R139). DESIGN CHOICE (log entry 134): in 512 × 72 mode the write data and strobes on port B's
pins serve the write port also where the window takes port B (R147, R148, R156). -/
def State.portIn (s : State) (ext : Wire → Bool) (t b : Nat) (portB wide fused : Bool) : PortIn :=
  let u : Slot := if portB then .blkB b else .blkA b
  let ev := s.wire (s.netId t (if portB then (s.blkCfg t b).clkB else (s.blkCfg t b).clkA)) ext
  let rd (u : Slot) (f : Sig) (n : Nat) : Nat := pinBits ev t u f n
  { pen := ev (.pin t u .pen 0)
    we := BitVec.ofNat 8 (rd u .byteWr 4 + if wide && !portB then 16 * rd (.blkB b) .byteWr 4 else 0)
    loc := BitVec.ofNat 16 (rd u .loc (if fused then 16 else 15))
    wdata := BitVec.ofNat 72 (rd u .wdata 36 + if wide && !portB then 2 ^ 36 * rd (.blkB b) .wdata 36 else 0)
    oren := ev (.pin t u .oren 0)
    oclr := ev (.pin t u .oclr 0) }

/-- BLOCK_PORT_ACCESS: an edge of a clock net of the tile at a block's ports, and with `near` one of another net within the collision window: the ports
on those nets act; on one clock net they share it, and otherwise each byte is old or new, or one port's byte, as it may be (R139, R145, R146). A
fused pair is named by its even block; the other block's ports are unused (R151). With the window enabled in RUN, port B belongs to the interface
(R156). A port whose own clock input is gated has no edge. `pa` and `pb` are the levels of pins that nothing drives. -/
def execBlockPortAccess (t : Tile) (b : Fin 24) (net : Fin 8) (near : Option (Fin 8)) (join : Bool) (pa pb : PortIn) (s : State) : Out :=
  let c := s.blkCfg t b
  let fused := s.blkFused t b
  .next (if !s.userClock || !s.netRuns t net || (fused && decide (b.val % 2 = 1)) then s
    else
      let s := s.edgeStart join
      let p := s.preEdge
      let hit (i : Nat) : Bool := s.netRuns t i && (s.netId t i = s.netId t net || near.any (fun n => s.netRuns t n && s.netId t i = s.netId t n))
      let ext := p.extBlk t b c.wide pa pb
      let a := if hit c.clkA then some (p.portIn ext t b false c.wide fused) else none
      let b' := if hit c.clkB && !c.window then some (p.portIn ext t b true c.wide fused) else none
      let order := if s.netId t c.clkA = s.netId t c.clkB then none else some (freeOrder c s.free)
      let (m, ws, e) := blkEdge c (s.blk t b) (s.arr t b) (s.bare t b) a b' order
      State.blkLog (State.storeArr (State.setBlk { s with free := s.free + 8192 } t b m) t b ws) t b e)

/-! ### The window (R155–R157) -/

/-- Byte `p` of the window's check-bit area: bit 8 of eight bytes. -/
def bit8Byte (m : BlkMem) (q : Nat) : Nat := ((List.range 8).map (fun i => tget 0 m.bytes (8 * q + i) / 256 % 2 * 2 ^ i)).sum

/-- The bytes of a block that a write through its window stores, from offset `w` of the window (R155, R157, R375). -/
def winWrites (c : BlkCfg) (test : Bool) (w n : Nat) (data : List Byte) : List (Nat × Nat × Nat) :=
  if 0x1000 ≤ w then (List.range (8 * n)).map (fun i => (8 * (w - 0x1000) + i, 256, leAt data (i / 8) 1 / 2 ^ (i % 8) % 2 * 256))
  else if c.wide && c.ecc then eccBytes (w / 8) (leAt data 0 8) test
  else (List.range n).map (fun i => (w + i, 255, leAt data i 1))

/-- A request to the block memory windows of tile t at aperture offset `o` (R31, R155–R157, R375, R535). DESIGN CHOICE (log entry 134): R156 names RUN and
HOLD, and in every other mode a window answers REFUSED_FENCED. -/
def State.blkWindow (s : State) (q : Rq) (t o : Nat) (op : NOp) (n : Nat) (data : List Byte) : Served :=
  let b := (o - 0x100000) / 0x8000
  let w := (o - 0x100000) % 0x8000
  let c := s.blkCfg t b
  let m := s.blk t b
  let eccOn := c.wide && c.ecc
  let test := s.flag F.eccTestT_testEn t 0
  let shape := decide (b < 24) && decide (w < 0x1200) && (n = 1 || n = 2 || n = 4 || n = 8) && decide (o % n = 0) && (op = .read || op = .write) &&
    (!eccOn || (if w < 0x1000 then n = 8 else op = .read || test))
  if !shape then refused s svcAddress
  else if !s.mayReach q t then refused s svcDenied
  else if s.niFenced t ∨ !(s.pw.mode = .hold ∨ (s.pw.mode = .run ∧ c.window)) then refused s svcFenced
  else if w < 0x1000 then
    (if eccOn then
      (if op = .write then (s.setBlk t b (m.store (winWrites c test w n data) true |>.markAll (8 * (w / 8)) 8), svcOK, [])
       else
        let (v, _, eu, po, out, p, y) := eccRead (fun p => m.unwritten p 1) (fun p => tget 0 m.bytes p) (w / 8)
        (s.eccOutcome .tile t 0 (b * 2 ^ 24 + w / 8) out p y, if eu || po then svcPoisoned else svcOK, leBytes 8 v))
     else if op = .write then
      (s.setBlk t b (m.store (winWrites c test w n data) false), svcOK, [])
     else if m.unwritten w n then (s, svcPoisoned, leBytes n 0)
     else (s, svcOK, (List.range n).map (fun i => BitVec.ofNat 8 (tget 0 m.bytes (w + i)))))
  else
    let q0 := w - 0x1000
    if op = .write then
      (s.setBlk t b (m.store (winWrites c test w n data) false), svcOK, [])
    else if m.unwritten (8 * q0) (8 * n) then (s, svcPoisoned, leBytes n 0)
    else (s, svcOK, (List.range n).map (fun i => BitVec.ofNat 8 (bit8Byte m (q0 + i))))

/-- The port that the collision window concerns: port A has an edge within it of an access of the interface in RUN (R146, R156). -/
def State.nearA (s : State) (t b : Nat) : Bool :=
  let c := s.blkCfg t b
  decide (s.pw.mode = .run) && c.window && s.userClock && s.netRuns t c.clkA

/-- A window access with an edge of port A within the collision window: byte by byte the one or the other comes first, and where both write bits in
common one of the two writes alone stands (R146, R156). `near`: the edge joins the command before it, and the levels of port A's pins that nothing
drives. -/
def State.blkWindowNear (s : State) (q : Rq) (t o : Nat) (op : NOp) (n : Nat) (data : List Byte) (near : Option (Bool × PortIn)) : Served :=
  let b := (o - 0x100000) / 0x8000
  let e := if s.blkFused t b then b - b % 2 else b
  match near with
  | none => s.blkWindow q t o op n data
  | some (join, pa) =>
    if !s.nearA t b then s.blkWindow q t o op n data
    else
      let c := s.blkCfg t b
      let s := s.edgeStart join
      let p := s.preEdge
      let x := p.portIn (p.extBlk t e c.wide pa ⟨false, 0, 0, 0, false, false⟩) t e false c.wide (s.blkFused t b)
      let first := freeOrder c s.free
      let wa := blkWrites c false x
      let half := (b - e) * 4096
      let ww := if op = .write && decide ((s.blkWindow q t o op n data).2.1 = svcOK) then
          (winWrites c (s.flag F.eccTestT_testEn t 0) ((o - 0x100000) % 0x8000) n data).map (fun w => (w.1 + half, w.2))
        else []
      let kept := raced first wa ww
      let clash (w : Nat × Nat × Nat) : Bool := ww.any (fun y => y.1 = w.1 && Nat.land y.2.1 w.2.1 != 0)
      let (s1, code, d) := (State.storeArr { s with free := s.free + 8192 } t e
        (wa.filter (fun w => !first w.1 && kept.contains w))).blkWindow q t o op n data
      let seen (p : Nat) : Nat := if first p then s1.arr t e p else s.arr t e p
      let bare (p : Nat) : Bool := if first p then s1.bare t e p else s.bare t e p
      let (m, log) := portRegs c false (s1.blk t e) x seen bare wa []
      -- a write of the window that loses a byte is taken back before port A's write of it
      let back := (wa.filter (fun w => first w.1 && clash w)).map (fun w => (w.1, 255, s.arr t e w.1))
      ((((s1.setBlk t e m).storeArr t e back).storeArr t e (wa.filter (fun w => first w.1))).blkLog t e log, code, d)

/-- BLOCK_WINDOW_REQUEST: a network request reaches a block memory window (R157). `near`: port A's inputs, when an edge of its clock stands within the
collision window (R146). -/
def execBlockWindowRequest (r : Req) (near : Option (Bool × PortIn)) (s : State) : Out :=
  .next (match aperture r.addr with
    | some (t, o) =>
      if 0x100000 ≤ o ∧ o < 0x200000 then s.serve r t (fun s => some (s.blkWindowNear r.rq t o r.op r.size r.data near)) else s
    | none => s)

end Sys2Proof.Machine
end

