-- ==== Sys2Proof/Machine/DbgOps.lean ====
section
/-! DEFINITION. The debug master: authorization, run control of engines and of the Referee, patch units (23_debug.md R504–R517; 10
R263; 20 R460). Paths: 0–3 HP0–HP3, 4 MP, 5 the TAP. -/

namespace Sys2Proof.Machine

/-! ### Authorization (R504–R507) -/

/-- The requester that the debug master is for a path (R507). -/
def State.dbgRq (s : State) (path : Nat) : Rq :=
  ⟨if s.scopeTenant path then s.dbgTenant path else 0, 3, !s.scopeTenant path && decide (s.level path ≠ 0), path⟩

/-- The path's scope covers a tile (R507). -/
def State.dbgCovers (s : State) (path t : Nat) : Bool := !s.scopeTenant path || decide (s.dbgTenant path = s.tileTenant t)

/-- PATH of the signature and of alarm 0x18: 0 the TAP, 1–5 HP0–HP3 and MP (R505). -/
def pathCode (path : Nat) : Nat := if path = 5 then 0 else path + 1

/-! ### Engines (R263, R511) -/

/-- A halt is requested; STOPPED, FAULTED and HALTED engines are unaffected (R511). -/
def State.engHaltReq (s : State) (path t : Nat) : State :=
  let e := s.engine t
  if (e.run = .running ∨ e.run = .idle) ∧ e.haltReq.isNone then s.setEngine t { e with haltReq := some path } else s

/-- The engine becomes HALTED: instructions in flight retire, and commands that wait for the halt are answered (R263, R511). -/
def State.engHalted (s : State) (t : Nat) (path : Option Nat) : State :=
  let s := s.engDrain t
  let e := s.engine t
  let s := s.setEngine t { e with
    run := .halted
    before := e.run
    haltedBy := path
    haltReq := none
    stepping := 0
    brkHit := none
    holdReq := false }
  ((s.trace t 3 e.pc e.pc).dbgEnd t).holdEnd

/-- A release: the engine continues in the state it held, its watchdog reloaded, or it takes a STOP that came while HALTED (R260, R511). -/
def State.engRelease (s : State) (t : Nat) : State :=
  let e := s.engine t
  if e.run ≠ .halted then s
  else
    let s := s.setEngine t { e with run := e.before, haltedBy := none, skipBreak := true, feed := none }
    let s := ((s.setFeed t Feed.init).dbgEnd t).wdReload t
    if e.stopReq ∧ !e.lock ∧ (e.before = .idle ∨ (s.engine t).free) then s.engStopNow t false else s

/-- A step: issue from PC and halt at the next open boundary; interrupts only with IRQ_IN_STEP (R511). -/
def State.engStep (s : State) (path t : Nat) : State :=
  let e := s.engine t
  if e.run ≠ .halted ∨ (s.feed t).busy then s
  else if e.stopReq then s.engRelease t
  else
    let s := s.setEngine t { e with
      run := e.before
      haltedBy := none
      skipBreak := true
      haltReq := some path
      stepping := 1
      stepIrq := s.flag F.dbgEngCtl_irqInStep 0 0 }
    s.setFeed t Feed.init

/-- A fed word that a debugger may not feed: the control group but NOP, SIG and WDT (R511). -/
def notFed (o : EOp) : Bool :=
  match o with
  | .b _ _ => true
  | .call _ _ => true
  | .br _ _ => true
  | .reti => true
  | .repi _ _ => true
  | .rep _ _ => true
  | .wait _ _ => true
  | .stop => true
  | _ => false

/-- A word is fed to a HALTED engine. NOP and WDT have no further effect; any other legal word issues at the engine's next row of its
instruction (R511). -/
def State.feedStart (s : State) (t w : Nat) : State :=
  let e := s.engine t
  if e.run ≠ .halted ∨ (s.feed t).busy then s
  else
    let s := s.setFeed t { Feed.init with busy := true }
    match decodeEngine w with
    | none => s.feedEnd t 2
    | some op =>
      if notFed op then s.feedEnd t 2
      else if op = EOp.nop ∨ op = EOp.wdt then s.feedEnd t 0
      else s.setEngine t { s.engine t with feed := some w }

/-- HALT_EFFECT: a requested halt takes effect at an open boundary, or within WAIT (R263, R511). -/
def execHaltEffect (t : Tile) (s : State) : Out :=
  let e := s.engine t
  .next (if (e.run = .running ∧ e.haltNow) ∨ (e.run = .idle ∧ !e.lock ∧ e.haltReq.isSome) then s.engHalted t e.haltReq else s)

/-- HALT_FORCED: a halt, a stop or HOLD has waited 64 cycles for a lock or an atomic, which is broken; it follows at the first boundary outside delay
slots. A step waits for the end of a locked sequence (R40, R53, R263, R511). -/
def execHaltForced (t : Tile) (s : State) : Out :=
  let e := s.engine t
  .next (if (e.run = .running ∨ e.run = .idle) ∧ e.stepping = 0 ∧ (e.lock ∨ e.atomic) then
    match e.haltReq with
    | some path =>
      let s := (s.engForce t).setF F.dbgStatus_lockBroken path 0 1
      if (s.engine t).closed then s else s.engHalted t (some path)
    | none =>
      if e.stopReq then
        let s := s.engForce t
        if (s.engine t).free then s.engStopNow t false else s
      else if e.holdReq then (s.engForce t).engBoundary t
      else s
  else s)

/-- BREAK_MATCH: a comparator matches the next instruction, or matched at a boundary that was closed; the engine halts before it issues
(R511). -/
def execBreakMatch (t : Tile) (s : State) : Out :=
  let e := s.engine t
  .next (match s.brkDue t with
    | none => s
    | some k =>
      if e.run = .running ∧ !s.engPaused t ∧ (s.irqDue t).isNone then
        let path := tget 0 s.dbg.ebrk k
        let s := s.engHalted t (if path = 0 then none else some (path - 1))
        s.setFeed t { s.feed t with brk := true, unit := k }
      else s)

/-! ### The Referee (R514, R515) -/

/-- The Referee halts with a cause: hardware answers every QUEUED command MGMT_HALTED (R460). Its program counter is not modelled: REF_PC takes
a free value. -/
def State.refHaltNow (s : State) (cause unit : Nat) : State :=
  let s := ((s.setF F.refDbgStatus_halted 0 0 1).setF F.refDbgStatus_cause 0 0 cause).setF F.refDbgStatus_brkUnit 0 0 unit
  let s := State.setReg { s with free := s.free + 1, dbg.haltReq := 0 } .refPc 0 0 ((Config.freeWord s.free).toNat % 2 ^ 32)
  iter 5 (fun p s => iter 4 (fun m s => if (s.mbox p m).state = 1 then s.reply p m 0x7F [] else s) s) s

/-- The Referee runs again, and what waited for it goes on (R33, R460, R514). -/
def State.refRelease (s : State) : State :=
  if !s.refHalted then s
  else
    let s := ((s.setF F.refDbgStatus_halted 0 0 0).setF F.refDbgStatus_cause 0 0 0).setF F.refDbgStatus_feedFault 0 0 0
    (State.maltarResumes (s.setF F.refDbgStatus_brkUnit 0 0 0)).seamsResume

/-- A halt of the Referee is requested: cause 1 (R514). -/
def State.refHaltReq (s : State) : State :=
  if s.refHalted ∨ s.dbg.haltReq ≠ 0 ∨ s.pw.refRestarting then s else { s with dbg.haltReq := 1 }

/-- STEP: one Referee instruction runs, and the Referee halts again with CAUSE 3. What the instruction does is Maltar's own (R514). -/
def State.refStep (s : State) : State :=
  if !s.refHalted then s
  else State.setF (State.setReg { s with free := s.free + 1 } .refPc 0 0 ((Config.freeWord s.free).toNat % 2 ^ 32)) F.refDbgStatus_cause 0 0 3

/-- A Referee word is fed; the encoding is Byurlen's, so whether the word would fault is free (R514). -/
def State.refFeed (s : State) (w : Nat) : State :=
  if !s.refHalted then s
  else State.setF { s with dbg.refFed := s.dbg.refFed ++ [w], free := s.free + 1 } F.refDbgStatus_feedFault 0 0 (b2n (Config.freeBool s.free))

/-- REFEREE_HALT_EFFECT: at an instruction boundary without the configuration-port lock (R514). -/
def execRefereeHaltEffect (s : State) : Out :=
  .next (if s.dbg.haltReq ≠ 0 ∧ !s.pw.refRestarting then s.refHaltNow s.dbg.haltReq 0 else s)

/-- REFEREE_HALT_FORCED: the lock is broken, and the ports of the tenant whose command Maltar was executing (`p`), or of T0, are told
(R514). -/
def execRefereeHaltForced (p : Option Port) (s : State) : Out :=
  .next (if s.dbg.haltReq ≠ 0 ∧ !s.pw.refRestarting then
    let s := (s.refHaltNow s.dbg.haltReq 0).setF F.refDbgStatus_lockBroken 0 0 1
    s.alarm (match p with | some p => s.portTenant p | none => 0) 0x1A 0 0 (srcOf .devctl 0)
  else s)

/-- Patch unit u is a debugger unit, enabled, in break use, and no lower debugger unit names its block (R515). -/
def State.puBreaks (s : State) (u : Nat) : Bool :=
  let on (v : Nat) : Bool := decide (Config.patchUsed.val ≤ v) && s.flag F.puCtl_en 0 v
  on u && s.flag F.puCtl_break 0 u &&
  (List.range u).all (fun v => !(on v && decide (s.getF F.puCtl_block 0 v = s.getF F.puCtl_block 0 u)))

/-- PATCH_BREAK: a patch unit in break use halts the Referee before its word (R515). -/
def execPatchBreak (u : Fin 32) (s : State) : Out :=
  .next (if s.puBreaks u && !s.refHalted && !s.pw.refRestarting then s.refHaltNow 2 u else s)

/-! ### Granting and dropping (R505, R506) -/

/-- A path loses FULL: comparators and patch units that it armed are disabled, and every core that it halted is released (R506). -/
def State.loseFull (s : State) (path : Nat) : State :=
  let s := iter 8 (fun k s =>
    if tget 0 s.dbg.ebrk k = path + 1 then State.setF { s with dbg.ebrk := tput 0 s.dbg.ebrk k 0 } F.ebrk_en 0 k 0 else s) s
  let s := iter 32 (fun u s =>
    if tget 0 s.dbg.pu u = path + 1 then State.setF { s with dbg.pu := tput 0 s.dbg.pu u 0 } F.puCtl_en 0 u 0 else s) s
  let s := s.eng.foldl (fun s e =>
    let x := s.engine e.1
    if x.haltReq = some path then (s.setEngine e.1 { x with haltReq := none, stepping := 0 }).dbgEnd e.1
    else if x.run = .halted ∧ x.haltedBy = some path then s.engRelease e.1 else s) s
  if path = 5 then State.refRelease { s with dbg.haltReq := 0 } else s

/-- A path takes a level and scope. -/
def State.setAuth (s : State) (path level : Nat) (scope : Bool) (tenant : Nat) : State :=
  let was := s.level path
  let s := ((s.setF F.dbgStatus_level path 0 level).setF F.dbgStatus_scope path 0 (b2n scope)).setF F.dbgStatus_tenant path 0 tenant
  if was = 2 ∧ level ≠ 2 then s.loseFull path else s

/-- A path drops its authorization (R489, R506). -/
def State.dropAuth (s : State) (path : Nat) : State := s.setAuth path 0 false 0

/-- A path's exchange is forgotten: nonce and signature. -/
def State.dropExchange (s : State) (path : Nat) : State :=
  s.setDpath path { s.dpath path with nonce := 0, sig := none, mbox := none }

/-- Why a challenge is refused: BUSY in the lockout, NOT_OWNER for device-wide scope on a port that is not bound to T0, NOT_AUTHORIZED by
the debug policy (R505). -/
def State.challengeCode (s : State) (path level : Nat) (scope : Bool) : Nat :=
  let v := s.bootSetting 0x0004 0
  if path < 5 ∧ !scope ∧ s.portTenant path ≠ 0 then 0x12
  else if leAt v 0 1 < level ∨ (scope ∧ !bitAt (leAt v 1 1) 0) then 0x13
  else if (s.dpath path).locked then 0x15
  else 0

/-- Issue a nonce for a challenge (R505). -/
def State.challenge (s : State) (path level : Nat) (scope : Bool) (tenant : Nat) : State × List Byte :=
  let n := s.free
  let s := State.setDpath { s with free := n + 1 } path { s.dpath path with
    nonce := n + 1
    level := level
    scope := scope
    tenant := tenant
    sig := none
    tap := if path = 5 then 1 else (s.dpath path).tap }
  (s, leBytes 32 (Config.freeNonce n).toNat)

/-- The message that a signature covers (R505). -/
def State.authMsg (s : State) (path : Nat) : List Byte :=
  let x := s.dpath path
  leBytes 32 (Config.freeNonce (x.nonce - 1)).toNat ++ leBytes 8 (Config.siliconId 0).toNat ++ leBytes 1 x.level ++
  leBytes 1 (b2n x.scope) ++ leBytes 1 x.tenant ++ leBytes 1 (pathCode path)

/-- Alarm 0x18 or 0x19 for a path's exchange (R505, R534). -/
def State.authAlarm (s : State) (path cause : Nat) : State :=
  let x := s.dpath path
  s.alarm (if x.scope then x.tenant else 0) cause (pathCode path * 256 + x.level * 2 ^ 11 + b2n x.scope * 2 ^ 13 + x.tenant * 2 ^ 16) 0 (srcOf .dbg 0)

/-- AUTH_VERIFY_DONE: the signature of a path's response is verified; the authorization is granted or refused. A mailbox command that waits is
answered (R505). -/
def execAuthVerifyDone (path : Fin 6) (s : State) : Out :=
  let x := s.dpath path
  .next (match x.sig with
    | none => s
    | some sig =>
      let ok := verifies (debugKey (if x.scope then 1 + x.tenant else 0)) (s.authMsg path) sig
      let s :=
        if ok then
          let s := (s.setAuth path x.level x.scope x.tenant).setF F.dbgStatus_fails path 0 0
          if x.level = 2 then s.authAlarm path 0x18 else s
        else
          let s := (s.count F.dbgStatus_fails path 0 1).authAlarm path 0x19
          if 4 ≤ s.getF F.dbgStatus_fails path 0 then s.setDpath path { s.dpath path with locked := true } else s
      let tap := if path.val ≠ 5 then (s.dpath path).tap else if ok then 3 else if (s.dpath path).locked then 5 else 4
      let s := s.setDpath path { s.dpath path with nonce := 0, sig := none, tap := tap }
      s.finishOps path [0x0801] (if ok then 0 else 0x13) 0 0 [])

/-- NONCE_EXPIRY: a nonce that no response has used within 10 s is invalid (R505). -/
def execNonceExpiry (path : Fin 6) (s : State) : Out :=
  let x := s.dpath path
  .next (if x.sig.isNone ∧ x.nonce ≠ 0 then s.setDpath path { x with nonce := 0, tap := if x.tap = 1 then 0 else x.tap } else s)

/-- AUTH_LOCKOUT_END: 60 s after the fourth failure a path's challenges are taken again. Only a success clears FAILS, so a further failure is again one
of four in a row (R505). -/
def execAuthLockoutEnd (path : Fin 6) (s : State) : Out :=
  let x := s.dpath path
  .next (if x.locked then s.setDpath path { x with locked := false, tap := if x.tap = 5 then 0 else x.tap } else s)

end Sys2Proof.Machine
end

