-- ==== Sys2Proof/Machine/Regions.lean ====
section
/-! DEFINITION. Regions and live swap: fence, capture, load, restore, blanking, release, and their commands (12_regions_live_swap.md
R283–R303; 21 R478). A step that reads or writes a capture buffer does so in one piece when it ends. -/

namespace Sys2Proof.Machine

/-! ### Commands in progress (R288, R300) -/

/-- Opcodes of the commands that act on a region, with FUNC_DISABLE and FUNC_RESET of KIND 0, whose resource number is the region's. -/
def regionOps : List Nat := [0x0101, 0x0102, 0x0103, 0x0104, 0x0105, 0x0106, 0x0107, 0x0202, 0x0204]

def State.regionOp (s : State) (r : Nat) : Option LongOp := (s.opsOn r regionOps).head?

def State.setRState (s : State) (r v : Nat) : State := s.setF F.regionStatus_state 0 r v

/-- The tenant of a region (R284). -/
def State.regionTenant (s : State) (r : Nat) : Nat := s.getF F.regionStatus_tenant 0 r

/-- Maltar accepts steps of a region: they come after those that it accepted before (R300). -/
def State.regionJoin (s : State) (r : Nat) : State := { s with rgn.order := s.rgn.order.filter (· ≠ r) ++ [r] }

/-- The command of a region ends: LAST_CODE, its operation, and its place among the steps. -/
def State.regionDone (s : State) (r code : Nat) : State :=
  let s := (s.setF F.regionStatus_lastCode 0 r code).setRegion r { s.region r with buffer := none, image := none, plan := [], hdr := [] }
  (s.opsOn r regionOps).foldl (fun s o => s.finishOp o code 0 0 []) { s with rgn.order := s.rgn.order.filter (· ≠ r) }

/-- LAST_CODE follows when an operation ends that is a command of a region (R303). -/
def State.regionEnds (s : State) (o : LongOp) (code : Nat) : State :=
  if regionOps.contains o.opcode ∧ o.res < 64 then s.setF F.regionStatus_lastCode 0 o.res code else s

/-- The swaps that Maltar's record in the system area names: tenant and capture buffer of each (R301). -/
def State.openSwaps (s : State) : List (Nat × Nat) :=
  (s.hosts.ops.filter (fun o => o.opcode = 0x0101)).filterMap (fun o => (s.region o.res).buffer.map (fun b => (s.regionTenant o.res, b)))

/-- A step fails: alarm 0x06 and REGION_FAULT (R285, R294, R297, R303). -/
def State.regionFault (s : State) (r code addr : Nat) : State :=
  State.alarm (s.setReg .regionFault 0 r addr) (s.regionTenant r) 0x06 (r * 256 + addr * 2 ^ 32) code (srcOf .devctl 0)

/-- Fold over the tiles of a region. -/
def State.forTiles (s : State) (r : Nat) (f : Nat → State → State) : State := (s.region r).tiles.foldl (fun s t => f t s) s

/-! ### Fence (R289) -/

/-- The fence starts: the region's interfaces stop accepting requests. -/
def State.fenceStart (s : State) (r : Nat) : State :=
  let s := s.forTiles r (fun t s => s.setF F.niStatus_fenced t 0 1)
  s.setRegion r { s.region r with fencing := 1 }

/-- An engine is told to stop by the fence, which ends a debugger halt; its state before is kept for a capture (R289, R298, R511). -/
def State.fenceEngine (s : State) (t : Nat) : State :=
  let e := s.engine t
  let b := if e.run = .halted then e.before else e.run
  State.engStop (s.setEngine t { e with before := b, run := b, feed := none }) t

/-- The TQI requests that a tile still holds are answered REFUSED_FENCED (R289). -/
def State.dropTqi (s : State) (t : Nat) : State :=
  (s.ni t).tqi.foldl (fun s q => s.respond q.req svcFenced []) (s.setNi t { s.ni t with tqi := [] })

/-- The signals that the frames of a region's tiles clamp at 1 (R286). -/
def State.fenceValues (s : State) (r : Nat) : List Wire := (s.region r).tiles.flatMap (fun t => (s.tcfg t).fence)

/-- DRAIN_END: engines stop, held TQI requests are refused, the clocks stop, the clamps apply with the values of the region's frames, and the queues
are disabled (R286, R289 steps 3 and 4). -/
def execDrainEnd (r : RegionId) (s : State) : Out :=
  .next (if !s.maltarRuns ∨ (s.region r).fencing ≠ 1 then s
    else
      let s := s.setRegion r { s.region r with fencing := 2, clamped := true, clamps := s.fenceValues r }
      s.rtFence r |>.forTiles r (fun t s =>
        let s := ((s.fenceEngine t).dropTqi t).sinkKept t
        iter 4 (fun n s => s.qDisable (4 * t + n)) s))

/-- An engine has stopped, or only a lock or an atomic keeps it running and its stop is forced (R263, R289). -/
def State.fenceForce (s : State) (t : Nat) : State :=
  let e := s.engine t
  if (e.run = .running ∨ e.run = .idle) ∧ e.br.isNone then (s.engForce t).engStopNow t true else s

/-- Requests outstanding at a tile's interface. -/
def State.niOuts (s : State) (t : Nat) : Nat := (s.outsOf t 0).length

/-! ### Loading (R295, R296) -/

/-- The tile's registers that no frame holds, at their initial or reset values: the seam flip-flops that its clocks take, event counters, packet queues,
and what its ports have half taken (R291, R295). -/
def State.tileEmpty (s : State) (t : Nat) : State :=
  let ks := (s.fab.seamCfg.filter (fun w => w.arrives.any (fun x => x.2.1 = t))).map (·.key)
  let s := iter 4 (fun n s => s.setPQ (4 * t + n) PQ.init) s
  let s := s.setNi t { s.ni t with rqo := none, tso := none }
  { s with
    fab.seamFfs := s.fab.seamFfs.filter (fun e => !ks.contains e.1)
    evs.evcnt := s.evs.evcnt.filter (fun e => e.1 / 4 ≠ t)
    evs.evpipe := s.evs.evpipe.filter (fun e => e.1 / 4 ≠ t) }

/-- The frames of a region are about to be written: no design stands in its tiles, and its queues and event counters are emptied (R295). -/
def State.regionWipe (s : State) (r : Nat) : State := s.forTiles r (fun t s => ((s.engReset t).wipeTile t).tileEmpty t)

/-- Every frame of a region holds the blank pattern (R296). -/
def State.regionClear (s : State) (r : Nat) : State :=
  let ts := (s.region r).tiles
  (s.regionWipe r).blankFrames (fun a => frKind a = 0 && ts.contains (frTile a))

/-- Blanking starts: the region ends BLANK with `code` (R296). -/
def State.blankStart (s : State) (r code : Nat) : State :=
  let s := { s with ld.ctls := s.ld.ctls.filter (fun e => decide (e.1 < 4 + 4 * r) || decide (8 + 4 * r ≤ e.1)) }
  State.setRState (s.setRegion r { s.region r with failCode := some code, image := none, loaded := false, restored := false, engState := [], due := none }) r 2

/-- The source of a region's image: area, or HBM address with the region's tenant, and the bytes that it holds (R95, R295). -/
def State.regionSrc (s : State) (r : Nat) : Nat × Option (Nat × Nat) × Nat :=
  match (s.region r).image with
  | some (0, e, _) => (4 + e, none, (tget LibEntry.init s.ld.libs e).len)
  | some (_, _, a) => (0, some (a, s.regionTenant r), hbmRoom a)
  | none => (0, none, 0)

/-- The first 512 bytes of a region's image. -/
def State.regionHeader (s : State) (r : Nat) : State × Nat × List Byte :=
  let (area, hbm, len) := s.regionSrc r
  s.imgRead { LoadCtl.init with area := area, hbm := hbm, srcLen := len } 0 512

/-- A region load starts: state LOADING, and each die controller has its section by the header that Maltar has authenticated (R96, R295). -/
def State.loadStart (s : State) (r : Nat) : State :=
  let (area, hbm, len) := s.regionSrc r
  let h := (s.region r).hdr
  let s := (State.setRegion (s.regionWipe r) r { s.region r with restored := false, engState := [] }).setRState r 2
  iter 4 (fun d s => (s.setCtl (some r) d (mkCtl h d area hbm len)).ctrlSend 6 0 d) s

/-- The checks of a region image's header: R92 and R284, then R96 steps 1 and 2. -/
def State.regionHeaderCode (s : State) (r : Nat) (h : List Byte) : Nat :=
  if !headerOk h 3 then 0x20
  else if hTenant h ≠ s.regionTenant r then 0x12
  else if hRegion h ≠ r then 0x20
  else if (List.range 4).any (fun m => hFlex h m ≠ s.reg .flexRole (seamEnds m).1 (seamEnds m).2.2) ∨ hSlack h ≠ s.ld.imgSlack then 0x20
  else if !headerSigned h then 0x22
  else 0

/-- REGION_HEADER_CHECKED: the image header of a swap or load has been checked and authenticated: the fence, or the load, starts; or
the command ends with the region as it was (R105, R295). `errs`: what the store's own code finds in the header. DESIGN CHOICE (log entry 107): a load
that is refused at its header raises no alarm. -/
def execRegionHeaderChecked (r : RegionId) (errs : List Bool) (s : State) : Out :=
  .next (if !s.maltarRuns then s else
    match s.regionOp r with
    | none => s
    | some o =>
      if (s.region r).image.isNone ∨ (s.region r).fencing ≠ 0 ∨ (s.region r).failCode.isSome then s
      else if o.opcode = 0x0101 ∧ s.regionState r ≠ 0 then s
      else if o.opcode = 0x0104 ∧ s.regionState r ≠ 1 ∧ s.regionState r ≠ 5 then s
      else if o.opcode ≠ 0x0101 ∧ o.opcode ≠ 0x0104 then s
      else
        let errs := if (s.regionSrc r).2.1.isNone then errs else []
        match (s.storeErrs 0 errs).regionHeader r with
        | (s, 0, h) =>
          let code := if unread errs then 0x22 else s.regionHeaderCode r h
          let s := s.setRegion r { s.region r with hdr := h }
          if code ≠ 0 then s.regionDone r code
          else if o.opcode = 0x0101 then s.fenceStart r
          else s.loadStart r
        | (s, code, _) => s.regionDone r code)

/-! ### Release (R298, R299) -/

/-- Write a route table entry; requests outstanding there become old (R188, R191). -/
def State.putRoute (s : State) (t e lo hi ctl : Nat) : State :=
  { s with net.routeOv := tput none s.net.routeOv (t * 1088 + e) (some (lo, hi, ctl, s.net.avoid ++ s.net.named)),
           net.outs := s.net.outs.map (fun o => if niOf o.req.src = t then { o with old := true } else o) }

/-- ENG_STATUS.STATE of a state. -/
def engCode (e : EngRun) : Nat :=
  match e with
  | .stopped => 0
  | .running => 1
  | .idle => 2
  | .halted => 3
  | .faulted => 4

/-- An engine at the HUDDLE exit: it starts from ENTRY with its registers at the values of R213, PC that of the image, when the frames say so; every
other one is STOPPED (R100, R213, R262). -/
def State.engExit (s : State) (t : Nat) : State :=
  let e := s.engine t
  let s := s.setEngine t { Engine.init with prog := e.prog, x := e.x, y := e.y, pc := (s.tcfg t).entry }
  if (s.tcfg t).engStart then (s.setF F.engCtl_entry t 0 (s.tcfg t).entry).engStart t else s

/-- An engine restored from a state frame resumes in its captured STATE; HALTED resumes as RUNNING (R298). -/
def State.engResume (s : State) (t v : Nat) : State :=
  let e := s.engine t
  let s := s.setEngine t { e with run := if v = 1 ∨ v = 3 then .running else if v = 4 then .faulted else .stopped, now := 0 }
  let s := match v, decodeEngine (e.progAt e.pc).val with
    | 2, some (.wait dd mask) => s.setEngine t { s.engine t with run := .idle, wait := some (mask, dd) }
    | 2, _ => s.setEngine t { s.engine t with run := .running }
    | _, _ => s
  s.wdReload t

/-- The design in a tile at the initial values of its frames: flip-flops, multiplier slices, block memories' registers, crossing primitives, and the
registers that no frame holds (R291, R298). -/
def State.tileInit (s : State) (t : Nat) : State :=
  let ks := (s.fab.xcfg.filter (fun e => e.2.touches [t])).map (·.1)
  State.blksInit (State.tileEmpty { s with
    fab.ffs := s.fab.ffs.filter (fun e => e.1 / 24576 ≠ t)
    fab.muls := s.fab.muls.filter (fun e => e.1 / 64 ≠ t)
    fab.xings := s.fab.xings.filter (fun e => !ks.contains e.1) } t) t

/-- Release a region: the route plan, the queues and interfaces, then the clocks; without a restore the design starts from the initial
values of its frames (R286, R298, R299). -/
def State.regionRelease (s : State) (r : Nat) : State :=
  let x := s.region r
  let s := x.plan.foldl (fun s p => s.putRoute p.1 p.2.1 p.2.2.1 p.2.2.2.1 p.2.2.2.2) s
  let s := s.forTiles r (fun t s =>
    let s := iter 4 (fun n s => s.setF F.qCtl_enable t n 1) s
    let s := s.setF F.niStatus_fenced t 0 0
    let s := if x.restored then s else s.tileInit t
    let v := tget 0 x.engState t
    if v = 0 then s.engExit t else s.engResume t (v - 1))
  (s.setRegion r { s.region r with restored := false, engState := [], clamped := false, clamps := [] }).setRState r 0

/-- A FENCED region goes on with its swap after a step. -/
def State.swapRelease (s : State) (r : Nat) : State := (s.regionRelease r).regionDone r 0

/-- FENCE_COMPLETE: OUTSTANDING reads zero on every interface, and the region is FENCED; a swap goes on with its capture or its load, an
interruption with its blanking (R289, R301). -/
def execFenceComplete (r : RegionId) (s : State) : Out :=
  .next (if !s.maltarRuns ∨ (s.region r).fencing ≠ 2 then s
    else
      let s := s.forTiles r (fun t s => s.fenceForce t)
      let x := s.region r
      if x.tiles.any (fun t => decide (s.niOuts t ≠ 0) || decide ((s.engine t).run = .running ∨ (s.engine t).run = .idle)) then s
      else
        let s := (s.setRegion r { x with fencing := 0 }).setRState r 1
        if x.blank then (s.setRegion r { s.region r with blank := false }).blankStart r 0
        else match s.regionOp r with
          | none => s
          | some o =>
            if o.opcode ≠ 0x0101 then s.regionDone r 0
            else if x.classes ≠ 0 then s.setRState r 3
            else s.loadStart r)

/-! ### Capture (R291–R294) -/

/-- One bank of the engine state frame (R292). -/
def bankBits (e : Engine) (b : Nat) : Nat :=
  let g (id : Nat) : Nat := tget (engRst id) e.regs (b * 64 + id)
  let v (i : Nat) : Nat := if i = rST then setBits (g i) 15 15 (b2n e.shd) else if i = rRS ∨ i = rRE then g i % 16384 else g i % 65536
  ((List.range 40).map (fun i => v i * 2 ^ (16 * i))).sum + g 41 % 2 ^ 40 * 2 ^ 640 + g 42 % 2 ^ 40 * 2 ^ 680

/-- The engine state frame of a tile. -/
def State.engFrame (s : State) (t : Nat) : Nat :=
  let e := s.engine t
  let st := if e.before = .halted then 1 else engCode e.before
  bankBits e 0 + bankBits e 1 * 2 ^ 720 + e.pc * 2 ^ 1440 + s.getF F.engReturn_latch t 0 * 2 ^ 1454 +
  tget 15 e.regs 40 % 16 * 2 ^ 1468 + st * 2 ^ 1472 + s.getF F.engStatus_lockBroken t 0 * 2 ^ 1475 + s.reg .engIrq t 0 * 2 ^ 1476 +
  s.reg .engEvselLo t 0 * 2 ^ 1508 + s.reg .engEvselHi t 0 * 2 ^ 1540 + s.reg .engWdog t 0 * 2 ^ 1572

/-- The content of a frame that a capture reads. -/
def State.captureFrame (s : State) (t x : Nat) : Nat :=
  let e := s.engine t
  if x < 1496 then (tget BlkMem.init s.fab.blks (t * 24 + (x - 1280) / 9)).getFrame ((x - 1280) % 9)
  else if x < 1624 then e.prog.getFrame 32 (x - 1496)
  else if x < 1688 then e.x.getFrame 16 (x - 1624)
  else if x < 1752 then e.y.getFrame 16 (x - 1688)
  else if x < 1758 then ((List.range 4096).map (fun k => b2n (s.ff t (4096 * (x - 1752) + k)) * 2 ^ k)).sum
  else s.engFrame t

/-- The frame indexes of the classes, ascending (R291). -/
def classIndexes (c : Nat) : List Nat :=
  (if bitAt c 2 then (List.range 216).map (· + 1280) else []) ++ (if bitAt c 1 then (List.range 256).map (· + 1496) else []) ++
  (if bitAt c 0 then (List.range 6).map (· + 1752) else []) ++ (if bitAt c 1 then [1758] else [])

/-- The record of a frame in a capture buffer (R293). -/
def captureRec (a v : Nat) : List Byte :=
  let d := leBytes 512 v
  leBytes 4 a ++ d ++ leBytes 4 (crc32 d.reverse)

/-- The records of a capture, in ascending frame address order. -/
def State.captureRecs (s : State) (r c : Nat) : List (List Byte) :=
  (s.region r).tiles.flatMap (fun t => (classIndexes c).map (fun x => captureRec (tileFrame t x) (s.captureFrame t x)))

/-- The header of a capture buffer (R293). -/
def captureHeader (r tenant c n : Nat) : List Byte :=
  let h := leBytes 4 0x5A430001 ++ leBytes 1 r ++ leBytes 1 tenant ++ leBytes 1 c ++ leBytes 1 1 ++ leBytes 4 n ++ leBytes 4 0 ++
    leBytes 8 (64 + 520 * n) ++ List.replicate 36 0#8
  h ++ leBytes 4 (crc32 h)

/-- Write the records of a capture in order, then its header; the first failing write ends it (R293, R294). -/
def State.writeRecs (s : State) (t a : Nat) : List (List Byte) → State × Nat
  | [] => (s, 0)
  | x :: l =>
    match s.bufWrite t a x with
    | (s, 0) => State.writeRecs s t (a + x.length) l
    | (s, c) => (s, c)

/-- The die controllers may carry out a region's step: those of regions accepted earlier on its dies have ended (R300). -/
def State.stepTurn (s : State) (r : Nat) : Bool := (List.range 4).all (fun d => !s.regionOn r d || s.regionTurn r d)

/-- A capture has ended: the region is FENCED again, and a swap goes on with its load (R288, R294). -/
def State.captureEnd (s : State) (r code : Nat) : State :=
  let s := (s.setRegion r { s.region r with loaded := false }).setRState r 1
  if code ≠ 0 then (s.regionFault r code 0).regionDone r code
  else match s.regionOp r with
    | some o => if o.opcode = 0x0101 then s.loadStart r else s.regionDone r 0
    | none => s

/-- A load has ended: the region is FENCED, and a swap goes on with its restore or its release; or blanking starts (R105, R288, R295, R296). -/
def State.loadEnd (s : State) (r code addr : Nat) : State :=
  if code ≠ 0 then (s.regionFault r code addr).blankStart r code
  else
    let s := (s.setRegion r { s.region r with loaded := true }).setRState r 1
    match s.regionOp r with
    | some o =>
      if o.opcode ≠ 0x0101 then s.regionDone r 0
      else if (s.region r).classes ≠ 0 then s.setRState r 4
      else s.swapRelease r
    | none => s

/-- A restore has ended: the region is FENCED, and a swap goes on with its release; or blanking starts (R288, R297). -/
def State.restoreEnd (s : State) (r code addr : Nat) : State :=
  if code ≠ 0 then (s.regionFault r code addr).blankStart r code
  else
    let s := (s.setRegion r { s.region r with restored := true }).setRState r 1
    match s.regionOp r with
    | some o => if o.opcode = 0x0101 then s.swapRelease r else s.regionDone r 0
    | none => s

/-- Blanking has ended: the region is BLANK, and its command ends with the code of what led to it. DESIGN CHOICE (log entry 138): where that is DONE and a
frame has failed its readback, with INTERNAL_ERROR (R98, R296). -/
def State.blankEnd (s : State) (r code addr : Nat) : State :=
  let why := (s.region r).failCode.getD 0
  let s := if code ≠ 0 then s.regionFault r code addr else s
  ((s.setRegion r { s.region r with failCode := none }).setRState r 5).regionDone r (if why = 0 then code else why)

/-- What follows a step that its dies have completed; only a running Maltar changes a region's state (R301, R303). -/
def State.stepGo (s : State) (r : Nat) : State :=
  match (s.region r).due with
  | none => s
  | some (kind, code, addr) =>
    if !s.maltarRuns then s
    else
      let s := s.setRegion r { s.region r with due := none }
      match kind with
      | 1 => s.captureEnd r code
      | 2 => s.loadEnd r code addr
      | 3 => s.restoreEnd r code addr
      | _ => s.blankEnd r code addr

/-- The dies have completed a step of a region; what follows waits for Maltar. DESIGN CHOICE (log entry 139): with Maltar halted, it follows when the same
command comes again (R301). -/
def State.stepEnd (s : State) (r kind code addr : Nat) : State := (s.setRegion r { s.region r with due := some (kind, code, addr) }).stepGo r

/-- A step of kind `kind` of a region ends: its dies complete it in their turn, and what follows comes with a running Maltar (R300, R301). -/
def State.stepDone (s : State) (r kind st : Nat) (f : State → State × Nat × Nat) : State :=
  if (s.region r).due.isSome then (if (s.region r).due.any (fun x => x.1 = kind) then s.stepGo r else s)
  else if s.regionState r ≠ st ∨ !s.stepTurn r then s
  else
    let (s, code, addr) := f s
    s.stepEnd r kind code addr

/-- The dies write a capture buffer, its header last, up to the first failing write (R291–R294). -/
def State.captureDies (s : State) (r : Nat) : State × Nat × Nat :=
  let x := s.region r
  let b := x.buffer.getD 0
  let t := s.regionTenant r
  let recs := s.captureRecs r x.classes
  match s.writeRecs t (b + 64) recs with
  | (s, 0) => let (s, c) := s.bufWrite t b (captureHeader r t x.classes recs.length); (s, c, 0)
  | (s, c) => (s, c, 0)

/-- CAPTURE_DONE: the capture ends: the buffer is written, or the command ends with the code of its first failing write, and the region is FENCED
again (R291–R294). -/
def execCaptureDone (r : RegionId) (s : State) : Out := .next (s.stepDone r 1 3 (fun s => s.captureDies r))

/-- The crossing primitives of some tiles are those of a loaded image, at their initial values (R135, R295). -/
def State.setXings (s : State) (ts : List Nat) (l : List (Nat × XCfg)) : State :=
  let old := (s.fab.xcfg.filter (fun e => e.2.touches ts)).map (·.1)
  let kept := s.fab.xcfg.filter (fun e => !e.2.touches ts)
  { s with
    fab.xcfg := kept ++ l.filter (fun e => e.2.touches ts && kept.all (fun k => decide (k.1 ≠ e.1)))
    fab.xings := s.fab.xings.filter (fun e => !old.contains e.1) }

/-- The tiles of a region take the settings of the logic frames that its image carries; its controllers are done (R295). -/
def State.takeImage (s : State) (r : Nat) (cfg : ImageCfg) : State :=
  let ts := (s.region r).tiles
  let s := (cfg.tiles.filter (fun p => ts.contains p.1 && s.carried p.1)).foldl (fun s p => s.setTile p.1 p.2) s
  let s := iter 4 (fun d s => s.setCtl (some r) d LoadCtl.init) (s.setXings ts cfg.xings)
  s.setRegion r { s.region r with image := none }

/-- REGION_LOAD_DONE: the die controllers have ended their sections, the region's remaining frames being blank: the image takes effect and the region is
FENCED, or blanking starts (R295, R296). `gap`: one of those frames that reads back wrong twice (R98). -/
def execRegionLoadDone (r : RegionId) (cfg : ImageCfg) (gap : Option Word32) (s : State) : Out :=
  .next (if (s.region r).due.isSome then s.stepDone r 2 2 (fun s => (s, 0, 0))
    else if s.regionState r ≠ 2 ∨ (s.region r).failCode.isSome ∨ !s.stepTurn r then s
    else
      let rr : Option Nat := some r.val
      let s := iter 4 (fun d s => s.ctlReport rr d (gap.map (·.toNat))) s
      if !(List.range 4).all (fun d => (s.ctl rr d).reported) then s
      else
        match (List.range 4).find? (fun d => (s.ctl rr d).fail.isSome) with
        | some d => s.stepEnd r 2 ((s.ctl rr d).fail.getD 0) (s.ctl rr d).failAddr
        | none => (s.takeImage r cfg).stepEnd r 2 0 0)

/-! ### Restore (R297) -/

/-- Restore one bank of an engine from its 720 bits. DESIGN CHOICE (log entry 140): an ST whose RND is the reserved 0b11 is stored so, and then rounds as
0b10 does. -/
def restoreBank (e : Engine) (b v : Nat) : Engine :=
  let put (e : Engine) (id x : Nat) : Engine := { e with regs := tput (engRst id) e.regs (b * 64 + id) x }
  let e := iter 40 (fun i e => put e i (if i = rST then Nat.land (bits v (16 * i + 15) (16 * i)) (stRW + stRPT) else if i = rRS ∨ i = rRE then bits v (16 * i + 13) (16 * i) else bits v (16 * i + 15) (16 * i))) e
  put (put e 41 (bits v 679 640)) 42 (bits v 719 680)

/-- Restore an engine from its state frame. -/
def State.restoreEngine (s : State) (t v : Nat) : State :=
  let e := restoreBank (restoreBank (s.engine t) 0 (bits v 719 0)) 1 (bits v 1439 720)
  let s := s.setEngine t { e with
    shd := bitAt v (16 * rST + 15)
    before := if bits v 1474 1472 = 1 ∨ bits v 1474 1472 = 3 then .running else if bits v 1474 1472 = 2 then .idle
      else if bits v 1474 1472 = 4 then .faulted else .stopped
    pc := bits v 1453 1440
    regs := tput 15 e.regs 40 (bits v 1471 1468)
    lockBroken := bitAt v 1475 }
  let s := (s.setF F.engReturn_latch t 0 (bits v 1467 1454)).setF F.engStatus_lockBroken t 0 (bits v 1475 1475)
  let s := (s.setReg .engIrq t 0 (bits v 1507 1476)).setReg .engEvselLo t 0 (bits v 1539 1508)
  (s.setReg .engEvselHi t 0 (bits v 1571 1540)).setReg .engWdog t 0 (bits v 1603 1572)

/-- Put one record of a capture buffer into the region: the code and address of a failure, or none. -/
def State.restoreRec (s : State) (r : Nat) (x : List Byte) : State × Option (Nat × Nat) :=
  let a := leAt x 0 4
  let t := frTile a
  let i := frIndex a
  let v := leAt x 4 512
  if frKind a ≠ 0 ∨ !(s.region r).tiles.contains t then (s, some (0x23, a))
  else if i < 1280 ∨ 1758 < i ∨ a % 1024 ≠ 0 then (s, some (0x21, a))
  else if crc32 (slice 0#8 x 4 512).reverse ≠ leAt x 516 4 then (s, some (0x22, a))
  else if i < 1496 then ((s.putFrame a v).blkEncode t ((i - 1280) / 9), none)
  else if i < 1752 then (s.putFrame a v, none)
  else if i < 1758 then (iter 4096 (fun k s => s.setFf t (4096 * (i - 1752) + k) (bitAt v k)) s, none)
  else if 4 < bits v 1474 1472 then (s, some (0x21, a))
  else
    let s := s.restoreEngine t v
    (s.setRegion r { s.region r with engState := tput 0 (s.region r).engState t (bits v 1474 1472 + 1) }, none)

/-- Restore the records of a buffer in order. -/
def State.restoreRecs (s : State) (r t a : Nat) : Nat → State × Option (Nat × Nat)
  | 0 => (s, none)
  | n + 1 =>
    match s.bufRead t a 520 with
    | (s, 0, x) =>
      (match s.restoreRec r x with
       | (s, some f) => (s, some f)
       | (s, none) => State.restoreRecs s r t (a + 520) n)
    | (s, c, _) => (s, some (c, 0))

/-- A capture buffer's header is valid for a region (R297). -/
def captureOk (h : List Byte) (r tenant : Nat) : Bool :=
  leAt h 0 4 = 0x5A430001 && leAt h 4 1 = r && leAt h 5 1 = tenant && leAt h 7 1 = 1 && crc32 (slice 0#8 h 0 60) = leAt h 0x3C 4

/-- The dies restore the records of a capture buffer whose header is still valid (R297). -/
def State.restoreDies (s : State) (r : Nat) : State × Nat × Nat :=
  let b := (s.region r).buffer.getD 0
  let t := s.regionTenant r
  match s.bufRead t b 64 with
  | (s, 0, h) =>
    if !captureOk h r t then (s, 0x10, 0)
    else match s.restoreRecs r t (b + 64) (leAt h 8 4) with
      | (s, none) => (s, 0, 0)
      | (s, some (c, a)) => (s, c, a)
  | (s, c, _) => (s, c, 0)

/-- RESTORE_DONE: the restore ends: the region is FENCED, or blanking starts (R297). -/
def execRestoreDone (r : RegionId) (s : State) : Out := .next (s.stepDone r 3 4 (fun s => s.restoreDies r))

/-- The dies write the blank pattern into every frame of a region. `rb`: a frame whose check fails its readback (R98, R296). -/
def State.blankDies (s : State) (r : Nat) (rb : Option Nat) : State × Nat × Nat :=
  match rb with
  | some a => if frKind a = 0 ∧ (s.region r).tiles.contains (frTile a) then (s.regionClear r, 0xFF, a) else (s.regionClear r, 0, 0)
  | none => (s.regionClear r, 0, 0)

/-- BLANKING_DONE: every frame of the region holds the blank pattern and has been verified, and the region is BLANK (R296). -/
def execBlankingDone (r : RegionId) (rb : Option Word32) (s : State) : Out :=
  .next (if (s.region r).failCode.isNone then s else s.stepDone r 4 2 (fun s => s.blankDies r (rb.map (·.toNat))))

/-! ### Interruption (R301) -/

/-- A region in any state but LIVE or BLANK is blanked, and the header of its swap's capture buffer becomes invalid (R301). -/
def State.regionInterrupt (s : State) (r : Nat) : State :=
  let s := match (s.region r).buffer with
    | some b => (s.bufWrite (s.regionTenant r) (b + 7) [0#8]).1
    | none => s
  (s.blankStart r 0).regionJoin r

/-- A function reset of a region: in LIVE it is fenced and then blanked; in BLANK nothing changes. -/
def State.regionReset (s : State) (r : Nat) : State :=
  if s.regionState r = 0 then
    let s := if (s.region r).fencing = 0 then s.fenceStart r else s
    (s.setRegion r { s.region r with blank := true }).regionJoin r
  else if s.regionState r = 5 then s
  else s.regionInterrupt r

/-! ### Commands (R478) -/

/-- The checks of a region command: owner, region, earlier command, state (R284, R288, R300). -/
def State.regionRefuses (s : State) (tenant r : Nat) (states : List Nat) : Option Nat :=
  if tenant ≠ 0 ∧ tenant ≠ s.regionTenant r then some 0x12
  else if !s.flag F.regionStatus_defined 0 r then some 0x10
  else if (s.regionOp r).isSome ∨ (s.region r).fencing ≠ 0 ∨ (s.region r).failCode.isSome then some 0x15
  else if !states.contains (s.regionState r) then some 0x14
  else none

/-- An image source can be used: a valid library entry, or HBM. -/
def State.imageOk (s : State) (img entry : Nat) : Bool := img = 1 || (tget LibEntry.init s.ld.libs entry).state = 2

/-- Read a route plan, or the code that refuses the command (R299, R478). -/
def State.readPlan (s : State) (tenant r a n : Nat) : State × Except Nat (List (Nat × Nat × Nat × Nat × Nat)) :=
  if a = 0 then (s, .ok [])
  else
    match s.bufRead (s.regionTenant r) a (16 * n) with
    | (s, 0, d) =>
      let l := (List.range n).map (fun i => (leAt d (16 * i) 2, leAt d (16 * i + 2) 2, leAt d (16 * i + 4) 4, leAt d (16 * i + 8) 4, leAt d (16 * i + 12) 4))
      if l.any (fun p => decide (1023 < p.1) || decide (1087 < p.2.1)) then (s, .error 0x10)
      else if tenant ≠ 0 ∧ l.any (fun p => !(s.region r).tiles.contains p.1) then (s, .error 0x12)
      else (s, .ok l)
    | (s, c, _) => (s, .error c)

def cmdRegionStatus : Body := fun c s =>
  let r := c.num 0 1
  if c.tenant ≠ 0 ∧ c.tenant ≠ s.regionTenant r then refuse s 0x12
  else (s, .done 0 (leBytes 4 (s.reg .regionStatus 0 r) ++ leBytes 4 (s.reg .regionFault 0 r)))

def cmdRegionSwap : Body := fun c s =>
  let r := c.num 0 1
  match s.regionRefuses c.tenant r [0] with
  | some code => refuse s code
  | none =>
    let classes := c.num 1 1
    if !s.imageOk (c.num 2 1) (c.num 3 1) then refuse s 0x10
    else match s.readPlan c.tenant r (c.num 24 8) (c.num 32 4) with
      | (s, .error code) => refuse s code
      | (s, .ok plan) =>
        (State.regionJoin (s.setRegion r { s.region r with
          classes := classes
          image := some (c.num 2 1, c.num 3 1, c.num 8 8)
          buffer := if classes = 0 then none else some (c.num 16 8)
          plan := plan }) r, .accepted (c.op r [c.num 4 4]))

def cmdRegionFence : Body := fun c s =>
  let r := c.num 0 1
  match s.regionRefuses c.tenant r [0] with
  | some code => refuse s code
  | none => (s.fenceStart r, .accepted (c.op r [c.num 4 4]))

def cmdRegionCapture : Body := fun c s =>
  let r := c.num 0 1
  match s.regionRefuses c.tenant r [1] with
  | some code => refuse s code
  | none =>
    (((s.setRegion r { s.region r with classes := c.num 1 1, buffer := some (c.num 8 8) }).setRState r 3).regionJoin r, .accepted (c.op r []))

def cmdRegionLoad : Body := fun c s =>
  let r := c.num 0 1
  match s.regionRefuses c.tenant r [1, 5] with
  | some code => refuse s code
  | none =>
    if !s.imageOk (c.num 2 1) (c.num 3 1) then refuse s 0x10
    else ((s.setRegion r { s.region r with image := some (c.num 2 1, c.num 3 1, c.num 8 8), classes := 0 }).regionJoin r, .accepted (c.op r []))

def cmdRegionRestore : Body := fun c s =>
  let r := c.num 0 1
  match s.regionRefuses c.tenant r [1] with
  | some code => refuse s code
  | none =>
    if !(s.region r).loaded then refuse s 0x10
    else match s.bufRead (s.regionTenant r) (c.num 8 8) 64 with
      | (s, 0, h) =>
        if !captureOk h r (s.regionTenant r) then refuse s 0x10
        else (((s.setRegion r { s.region r with buffer := some (c.num 8 8) }).setRState r 4).regionJoin r, .accepted (c.op r []))
      | (s, code, _) => refuse s code

def cmdRegionRelease : Body := fun c s =>
  let r := c.num 0 1
  match s.regionRefuses c.tenant r [1] with
  | some code => refuse s code
  | none =>
    match s.readPlan c.tenant r (c.num 8 8) (c.num 16 4) with
    | (s, .error code) => refuse s code
    | (s, .ok plan) => (s.setRegion r { s.region r with plan := plan }, .accepted (c.op r []))

def cmdRegionBlank : Body := fun c s =>
  let r := c.num 0 1
  match s.regionRefuses c.tenant r [1] with
  | some code => refuse s code
  | none => ((s.blankStart r 0).regionJoin r, .accepted (c.op r []))

/-- An accepted release runs at once: it completes within 1 µs (R298). -/
def State.releaseAccepted (s : State) : State :=
  (s.hosts.ops.filter (fun o => o.opcode = 0x0106)).foldl (fun s o => s.swapRelease o.res) s

/-- REGION_STATUS: the region's tenant, or T0. -/
def execRegionStatus (p : Port) (m : Mbox) (s : State) : Out := .next (takeMailbox 0x0100 cmdRegionStatus p m s)
/-- REGION_SWAP: the region's tenant, or T0. -/
def execRegionSwap (p : Port) (m : Mbox) (s : State) : Out := .next (takeMailbox 0x0101 cmdRegionSwap p m s)
/-- REGION_FENCE: the region's tenant, or T0. -/
def execRegionFence (p : Port) (m : Mbox) (s : State) : Out := .next (takeMailbox 0x0102 cmdRegionFence p m s)
/-- REGION_CAPTURE: the region's tenant, or T0. -/
def execRegionCapture (p : Port) (m : Mbox) (s : State) : Out := .next (takeMailbox 0x0103 cmdRegionCapture p m s)
/-- REGION_LOAD: the region's tenant, or T0. -/
def execRegionLoad (p : Port) (m : Mbox) (s : State) : Out := .next (takeMailbox 0x0104 cmdRegionLoad p m s)
/-- REGION_RESTORE: the region's tenant, or T0. -/
def execRegionRestore (p : Port) (m : Mbox) (s : State) : Out := .next (takeMailbox 0x0105 cmdRegionRestore p m s)
/-- REGION_RELEASE: the region's tenant, or T0. -/
def execRegionRelease (p : Port) (m : Mbox) (s : State) : Out := .next (takeMailbox 0x0106 cmdRegionRelease p m s).releaseAccepted
/-- REGION_BLANK: the region's tenant, or T0. -/
def execRegionBlank (p : Port) (m : Mbox) (s : State) : Out := .next (takeMailbox 0x0107 cmdRegionBlank p m s)

end Sys2Proof.Machine
end

