-- ==== Sys2Proof/Machine/Store.lean ====
section
/-! DEFINITION. Writing the slots, the golden slot and the region library (04_configuration_load.md R106–R111; 12 R302; 21 R478, R479). -/

namespace Sys2Proof.Machine

/-! ### Slots (R106–R111) -/

/-- The inactive slot: the one that the active-slot pointer does not name. DESIGN CHOICE (log entry 141): slot A where no pointer record is valid (R106). -/
def State.inactiveSlot (s : State) : Nat := if s.activeSlot = some 0 then 1 else 0

/-- The largest image and section of a slot (R106, R111). -/
def slotMax (k : Nat) : Nat := if k = 2 then 0x8000000 else 0x40000000
def sectionMax (k : Nat) : Nat := if k = 2 then 0x2000000 else 0x10000000

/-- The checks of a slot image's header (R92, R106, R111); 0 when it passes. -/
def slotHeaderCode (k : Nat) (h : List Byte) : Nat :=
  if !headerOk h (if k = 2 then 2 else 1) then 0x20
  else if slotMax k < hLength h ∨ (List.range 4).any (fun d => decide (sectionMax k < hSecLen h d)) then 0x11
  else 0

/-- Programming is about to start: a primary slot is WRITING, the golden slot INVALID. -/
def State.slotBegin (s : State) (k : Nat) : State := s.setSlot k (if k = 2 then 3 else 1)

/-- SLOT_WRITE or GOLDEN_WRITE, after its authorization. DESIGN CHOICE (log entry 142): a GOLDEN_WRITE in progress gives BUSY as a SLOT_WRITE does, and
either keeps out both (R109). DESIGN CHOICE (log entry 105): a length below the 512 bytes of a header is refused with
BAD_LENGTH. -/
def slotWriteBody (k : Nat) (c : Ctx) (s : State) : State × Reply :=
  let src := c.num 0 1
  let len := c.num 16 8
  let w : SlotWrite := ⟨k, src, c.num 8 8, len, 0, []⟩
  if s.ld.slotWrite.isSome then refuse s 0x15
  else if slotMax k < len ∨ len < 512 then refuse s 0x11
  else if src = 1 then ({ s with ld.slotWrite := some w }, .accepted (c.op 0 []))
  else match s.bufRead 0 (c.num 8 8) 512 with
    | (s, 0, h) =>
      if slotHeaderCode k h ≠ 0 then refuse s (slotHeaderCode k h)
      else ({ s.slotBegin k with ld.slotWrite := some w }, .accepted (c.op 0 []))
    | (s, code, _) => refuse s code

def cmdSlotWrite : Body := fun c s => if c.tenant ≠ 0 then refuse s 0x12 else slotWriteBody s.inactiveSlot c s

def cmdGoldenWrite : Body := fun c s =>
  if c.tenant ≠ 0 then refuse s 0x12
  else if 5 ≤ c.port ∨ !s.fullAll c.port then refuse s 0x13
  else slotWriteBody 2 c s

/-- The opcode of a slot write. -/
def slotOpcode (k : Nat) : Nat := if k = 2 then 0x0113 else 0x0110

/-- A slot write ends with a code. -/
def State.slotEnd (s : State) (k code : Nat) : State := State.finishOps { s with ld.slotWrite := none } 0 [slotOpcode k] code 0 0 []

/-- Some region load reads from the library: slot programming pauses (R110). -/
def State.libReading (s : State) : Bool :=
  (List.range 64).any (fun r => s.regionState r = 2 && (s.region r).failCode.isNone && (match (s.region r).image with | some (0, _, _) => true | _ => false))

/-- Program the bytes of a chunked write that have arrived, or hold them while a region load reads the library (R110). -/
def State.slotProgram (s : State) (w : SlotWrite) : State :=
  if s.libReading then { s with ld.slotWrite := some w }
  else { s.storePut (slotArea w.target) (w.pos - w.buf.length) w.buf with ld.slotWrite := some { w with buf := [] } }

def cmdSlotData : Body := fun c s =>
  if c.tenant ≠ 0 then refuse s 0x12
  else match s.ld.slotWrite with
    | none => refuse s 0x10
    | some w =>
      let o := c.num 0 4
      let d := c.pay.drop 8
      if w.source ≠ 1 then refuse s 0x10
      else if o ≠ w.pos ∨ w.len < o + d.length then refuse s 0x11
      else
        let x := { w with pos := o + d.length, buf := w.buf ++ d }
        if 512 ≤ w.pos then (s.slotProgram x, .done 0 [])
        else if x.pos < 512 then ({ s with ld.slotWrite := some x }, .done 0 [])
        else
          let code := slotHeaderCode w.target x.buf
          if code ≠ 0 then (s.slotEnd w.target code, .done code [])
          else ((s.slotBegin w.target).slotProgram x, .done 0 [])

/-- Errors that the store's own code finds in a check of a whole image, by die: uncorrectable where true (R96, R372). -/
def State.storeErrsAt (s : State) (l : List (Die × Bool)) : State := l.foldl (fun s x => s.storeErrs x.1 [x.2]) s

/-- A slot is programmed: it is verified and takes its state (R107, R111). -/
def State.slotVerify (s : State) (w : SlotWrite) (errs : List (Die × Bool)) : State :=
  let s := s.storeErrsAt errs
  let code := s.verifyImage (slotArea w.target) w.len (if w.target = 2 then 2 else 1) (errs.any (·.2))
  (s.setSlot w.target (if code = 0 then 2 else 3)).slotEnd w.target code

/-- Programming and verification of a slot end: VERIFIED, or INVALID with the code (R107, R111). -/
def State.slotDone (s : State) (golden : Bool) (errs : List (Die × Bool)) : State :=
  match s.ld.slotWrite with
  | none => s
  | some w =>
    if decide (w.target = 2) ≠ golden ∨ s.libReading then s
    else if w.source = 1 then (if w.pos ≠ w.len then s else (s.slotProgram w).slotVerify w errs)
    else
      match s.bufRead 0 w.addr w.len with
      | (s, 0, d) => (s.storePut (slotArea w.target) 0 d).slotVerify w errs
      | (s, code, _) => (s.setSlot w.target 3).slotEnd w.target code

/-- SLOT_WRITE_DONE (R107). `errs`: what the store's own code finds in the reads of the check (R96). -/
def execSlotWriteDone (errs : List (Die × Bool)) (s : State) : Out := .next (if s.maltarRuns then s.slotDone false errs else s)
/-- GOLDEN_WRITE_DONE (R111). -/
def execGoldenWriteDone (errs : List (Die × Bool)) (s : State) : Out := .next (if s.maltarRuns then s.slotDone true errs else s)

/-- The record that SLOT_ACTIVATE writes (P when true), and its sequence number: the lower number takes the other's plus one (R108). DESIGN CHOICE (log
entry 106): with one valid record it writes the other one, and with none it writes P with sequence number 1. -/
def State.nextPtr (s : State) : Bool × Nat :=
  match ptrRead s.ld.ptrP, ptrRead s.ld.ptrQ with
  | none, none => (true, 1)
  | some p, none => (false, (p.1 + 1) % 2 ^ 32)
  | none, some q => (true, (q.1 + 1) % 2 ^ 32)
  | some p, some q => if p.1 < q.1 then (true, (q.1 + 1) % 2 ^ 32) else (false, (p.1 + 1) % 2 ^ 32)

/-- A pointer record of which the first `n` bytes are programmed: the rest keeps what it held. -/
def ptrWrite (old new : List Byte) (n : Nat) : List Byte := new.take n ++ (slice 0xFF#8 old 0 9).drop n

/-- SLOT_ACTIVATE: the record with the lower sequence number takes the slot and the next sequence number; `n` of its 9 bytes are programmed, and DONE is the
reply when the write verifies (R108, R109). DESIGN CHOICE (log entry 106): INTERNAL_ERROR when it does not. DESIGN CHOICE (log entry 142): BUSY during a GOLDEN_WRITE too. -/
def cmdSlotActivate (n : Nat) : Body := fun c s =>
  let k := c.num 0 1
  if c.tenant ≠ 0 then refuse s 0x12
  else if s.ld.slotWrite.isSome then refuse s 0x15
  else if s.slotState k ≠ 2 then refuse s 0x10
  else
    let (first, seq) := s.nextPtr
    let s := if first then { s with ld.ptrP := ptrWrite s.ld.ptrP (ptrRecord seq k) n } else { s with ld.ptrQ := ptrWrite s.ld.ptrQ (ptrRecord seq k) n }
    (s, .done (if (if first then s.ld.ptrP else s.ld.ptrQ) = ptrRecord seq k then 0 else 0xFF) [])

/-! ### The region library (R302, R479) -/

def State.lib (s : State) (e : Nat) : LibEntry := tget LibEntry.init s.ld.libs e
def State.setLib (s : State) (e : Nat) (x : LibEntry) : State := { s with ld.libs := tput LibEntry.init s.ld.libs e x }

/-- A load reads, or is about to read, the entry: a region names its image from the command's acceptance until its sections have ended (R302). -/
def State.libBusy (s : State) (e : Nat) : Bool :=
  (List.range 64).any (fun r => match (s.region r).image with | some (0, x, _) => decide (x = e) && (s.regionOp r).isSome | _ => false)

/-- Bytes that the other entries hold. -/
def State.libUsed (s : State) (e : Nat) : Nat := ((s.ld.libs.filter (fun x => x.1 ≠ e)).map (fun x => x.2.len)).sum

/-- Empty the store of an entry. -/
def State.libErase (s : State) (e : Nat) : State := { s with ld.store := s.ld.store.filter (fun x => x.1 / 2 ^ 31 ≠ 4 + e) }

/-- A chunk of a library entry, in order. STATE 4 inside the model: verification runs. -/
def State.libChunk (s : State) (e : Nat) (x : LibEntry) (d : List Byte) (last : Bool) : State × Nat :=
  let st := if last then 4 else 1
  if 512 ≤ x.pos then
    if x.len < x.pos + d.length then (s, 0x11)
    else ((s.storePut (4 + e) x.pos d).setLib e { x with state := st, pos := x.pos + d.length }, 0)
  else
    let b := x.buf ++ d
    if b.length < 512 then (if last then (s.setLib e { LibEntry.init with state := 3 }, 0x11) else (s.setLib e { x with state := 1, pos := b.length, buf := b }, 0))
    else if !headerOk b 3 then (s.setLib e { LibEntry.init with state := 3 }, 0x20)
    else if areaSize 4 < s.libUsed e + hLength b ∨ hLength b < b.length then (s.setLib e { LibEntry.init with state := 3 }, 0x11)
    else ((s.storePut (4 + e) 0 b).setLib e ⟨st, hTenant b, hRegion b, hLength b, b.length, []⟩, 0)

def cmdRegionLibWrite : Body := fun c s =>
  let e := c.num 0 1
  let first := bitAt (c.num 1 1) 0
  let last := bitAt (c.num 1 1) 1
  let d := c.pay.drop 8
  if c.tenant ≠ 0 then refuse s 0x12
  else if s.libBusy e ∨ (s.lib e).state = 4 then refuse s 0x15
  else
    let x := if first then { LibEntry.init with state := 1 } else s.lib e
    if x.state ≠ 1 then refuse s 0x10
    else if c.num 4 4 ≠ x.pos then refuse s 0x11
    else
      match (if first then s.libErase e else s).libChunk e x d last with
      | (s, code) => (s, .done code [])

def cmdLibStatus : Body := fun c s =>
  let x := s.lib (c.num 0 1)
  (s, .done 0 (leBytes 1 (if x.state = 4 then 1 else x.state) ++ leBytes 1 x.tenant ++ List.replicate 6 0#8 ++ leBytes 8 x.len))

/-- LIBRARY_VERIFY_DONE: the whole image of an entry passes R92, R95 and R96, or the entry is invalid (R302). -/
def execLibraryVerifyDone (e : Fin 256) (errs : List (Die × Bool)) (s : State) : Out :=
  .next (if s.maltarRuns ∧ (s.lib e).state = 4 then
    let x := s.lib e
    let s := s.storeErrsAt errs
    s.setLib e { x with state := if s.verifyImage (4 + e) x.pos 3 (errs.any (·.2)) = 0 then 2 else 3 }
  else s)

/-- SLOT_WRITE: T0. -/
def execSlotWrite (p : Port) (m : Mbox) (s : State) : Out := .next (takeMailbox 0x0110 cmdSlotWrite p m s)
/-- SLOT_DATA: T0. -/
def execSlotData (p : Port) (m : Mbox) (s : State) : Out := .next (takeMailbox 0x0111 cmdSlotData p m s)
/-- SLOT_ACTIVATE: T0. -/
def execSlotActivate (p : Port) (m : Mbox) (n : Fin 10) (s : State) : Out := .next (takeMailbox 0x0112 (cmdSlotActivate n) p m s)
/-- GOLDEN_WRITE: T0 with device-wide FULL on the issuing port. -/
def execGoldenWrite (p : Port) (m : Mbox) (s : State) : Out := .next (takeMailbox 0x0113 cmdGoldenWrite p m s)
/-- REGION_LIB_WRITE: T0. -/
def execRegionLibWrite (p : Port) (m : Mbox) (s : State) : Out := .next (takeMailbox 0x0108 cmdRegionLibWrite p m s)
/-- LIB_STATUS: any tenant. -/
def execLibStatus (p : Port) (m : Mbox) (s : State) : Out := .next (takeMailbox 0x0109 cmdLibStatus p m s)

end Sys2Proof.Machine
end

