-- ==== Sys2Proof/Machine/Ist.lean ====
section
/-! DEFINITION. Test modes and the in-service test (16_ecc_service_test.md R375–R383; 03 R81; 20 R463; 21 R482, R483). A test row is one
pass: it carries what the pass found, and whether the pass ended late. -/

namespace Sys2Proof.Machine

/-! ### Test modes (R375, R376) -/

/-- A write of ECC_TEST of tile t: with TEST_EN = 0 in the written value, CHK_ARM and QFLIP have no effect (R375). -/
def State.writeEccTestT (s : State) (t v : Nat) : State :=
  let old := s.reg .eccTestT t 0
  if bitAt v 31 then
    let s := s.setReg .eccTestT t 0 (Rg.eccTestT.written old v)
    iter 4 (fun n s => if bitAt v (20 + n) then s.setPQ (4 * t + n) { s.pq (4 * t + n) with flip := true } else s) s
  else s.setReg .eccTestT t 0 (Rg.eccTestT.written old (setBits v 19 19 (bits old 19 19)))

/-- A write of ECC_TEST of stack group st (R376). -/
def State.writeEccTestS (s : State) (st v : Nat) : State :=
  let s := s.setReg .eccTestS st 0 (Rg.eccTestS.written (s.reg .eccTestS st 0) v)
  if bitAt v 31 then { s with ecc.sev := tput 0 s.ecc.sev st (bits v 1 0) } else s

def cmdEccTest : Body := fun c s =>
  let i := c.num 2 2
  let v := c.num 4 4
  let tile := decide (c.num 0 1 = 0)
  if c.tenant ≠ 0 then refuse s 0x12
  else (if tile then s.writeEccTestT i v else s.writeEccTestS i v, .done 0 [])

/-- The memory group of an ECC_LOG command. -/
def eccGroup (g : Nat) : EGroup := if g = 0 then .tile else if g = 1 then .stack else .store

/-- ECC_COUNT and the 16 log entries of a group. -/
def State.eccBytesOf (s : State) (g : EGroup) (i : Nat) : List Byte :=
  leBytes 4 (s.reg g.countR i 0) ++ (List.range 16).flatMap (fun k => leBytes 4 (s.reg g.loR i k) ++ leBytes 4 (s.reg g.hiR i k))

def cmdEccLog : Body := fun c s =>
  let g := eccGroup (c.num 0 1)
  let i := c.num 2 2
  let clear := decide (c.num 1 1 = 1)
  if c.tenant ≠ 0 ∧ (clear ∨ g ≠ .tile ∨ s.tileTenant i ≠ c.tenant) then refuse s 0x12
  else
    let pay := s.eccBytesOf g i
    (if clear then (s.eccClear g i).setReg g.countR i 0 0 else s, .done 0 pay)

def cmdIstSchedule : Body := fun c s =>
  let v (k : Nat) : Nat := c.num (8 * k) 8
  if c.tenant ≠ 0 then refuse s 0x12
  else ({ s with ecc.period := (List.range 5).map (fun k => if v k = 2 ^ 64 - 1 then s.ecc.period.getD k 0 else v k) }, .done 0 [])

def cmdBar2Map : Body := fun c s =>
  if c.tenant ≠ s.portTenant (c.num 0 1) then refuse s 0x12
  else (s.setReg .hpXlat (c.num 0 1) (c.num 1 1) (2 ^ 31 * c.num 2 1 + c.num 4 2), .done 0 [])

/-- ECC_TEST: T0 (R375, R376). -/
def execEccTest (p : Port) (m : Mbox) (s : State) : Out := .next (takeMailbox 0x0330 cmdEccTest p m s)
/-- ECC_LOG (R483). -/
def execEccLog (p : Port) (m : Mbox) (s : State) : Out := .next (takeMailbox 0x0331 cmdEccLog p m s)
/-- IST_SCHEDULE: T0 (R377, R483). -/
def execIstSchedule (p : Port) (m : Mbox) (s : State) : Out := .next (takeMailbox 0x0340 cmdIstSchedule p m s)
/-- BAR2_MAP: the tenant of the named port (R463). -/
def execBar2Map (p : Port) (m : Mbox) (s : State) : Out := .next (takeMailbox 0x0350 cmdBar2Map p m s)

/-! ### The in-service test (R377) -/

/-- Test k runs now: its period is not 0, Maltar runs, and the mode is one of the table's. -/
def State.istRuns (s : State) (k : Nat) : Bool :=
  let m := s.pw.mode
  decide (s.ecc.period.getD k 0 ≠ 0) && s.maltarRuns &&
  (match k with
   | 0 => decide (m = .run ∨ m = .hold)
   | 1 => decide (m = .run ∨ m = .rest ∨ m = .hold ∨ m = .lockout)
   | 3 => decide (m = .run ∨ m = .hold)
   | _ => decide (m = .run ∨ m = .rest ∨ m = .hold))

/-- A pass of test k has ended: the time, and whether it was late. -/
def State.istDone (s : State) (k : Nat) (late : Bool) : State :=
  { s with ecc.last := s.ecc.last.set k (s.keeper 0).sec, ecc.late := s.ecc.late.set k (s.ecc.late.getD k 0 + b2n late) }

/-! ### Tile scrub (R379) -/

/-- Scrub an engine memory: 0 program, 1 X, 2 Y. Corrected words are written back; uncorrectable ones are logged and left. -/
def State.scrubEng (s : State) (t m : Nat) : State :=
  let mem := (s.engine t).mem m
  mem.words.foldl (fun s w =>
    if w.2.chk = 0 ∨ (mem.uninit ∧ tget false mem.written w.1 = false) then s
    else
      let r := mem.read (if m = 0 then 32 else 16) (if m = 0 then 6 else 5) (m + 1) w.1
      let s := s.noteReads t [r]
      if r.bad then s else s.setEngine t ((s.engine t).setMem m (((s.engine t).mem m).put w.1 r.val 0))) s

/-- Scrub block b of tile t, in 512 × 72 mode with ECC. -/
def State.scrubBlk (s : State) (t b : Nat) : State :=
  let m := s.blk t b
  ((m.bytes.map (fun x => x.1 / 8)).eraseDups).foldl (fun s r =>
    if m.unwritten (8 * r) 8 then s
    else
      match eccRead (fun p => m.unwritten p 1) (fun p => tget 0 m.bytes p) r with
      | (v, _, _, _, out, p, y) =>
        let s := s.eccOutcome .tile t 0 (b * 2 ^ 24 + r) out p y
        if out = .corrected then s.setBlk t b ((s.blk t b).store (eccBytes r v false) false) else s) s

/-- A tile that the scrub reads: its region is LIVE and its group is not in test mode. -/
def State.scrubs (s : State) (t : Nat) : Bool := !s.notLive t && !s.flag F.eccTestT_testEn t 0

/-- TILE_SCRUB: one pass over every written word of engine memories and ECC-mode blocks (R377, R379). -/
def execTileScrub (late : Bool) (s : State) : Out :=
  .next (if !s.istRuns 0 then s else
    let s := s.eng.foldl (fun s e => if s.scrubs e.1 then ((s.scrubEng e.1 0).scrubEng e.1 1).scrubEng e.1 2 else s) s
    let s := s.fab.blks.foldl (fun s e =>
      let t := e.1 / 24
      let c := s.blkCfg t (e.1 % 24)
      if s.scrubs t && c.wide && c.ecc then s.scrubBlk t (e.1 % 24) else s) s
    s.istDone 0 late)

/-! ### Link test (R380) -/

/-- LINK_TEST: one pass of test flits. `errs`: inputs whose test flit fails its check, and whether it is uncorrectable; a failure of a
link out of service is none (R181, R380). -/
def execLinkTest (late : Bool) (errs : List (Tile × Fin 8 × Bool)) (s : State) : Out :=
  .next (if !s.istRuns 1 then s else
    let s := errs.foldl (fun s e =>
      if !s.portOn e.1 e.2.1 then s
      else if e.2.2 then s.inputFault e.1 e.2.1
      else s.count F.rtrErrors_corrected e.1 0 1) s
    s.istDone 1 late)

/-! ### Seam spare test (R81) -/

/-- FABRIC_REPAIR of a bundle by its key. -/
def State.repairWord (s : State) (k : Nat) : Nat :=
  let (d, _, p) := seamEnds (k / 1024)
  s.reg .fabricRepair d (1024 * p + k % 1024)

/-- The user wire that a line of bundle k carries, and whether the line is a spare: bench lanes are lines 64–67, slack wires lines
8j + 7 when the image declares seam slack (R73, R123). None: a spare without a repair, or a user wire that another line carries. -/
def State.lineCarries (s : State) (k line : Nat) : Bool × Option Nat :=
  let w := s.repairWord k
  if 64 ≤ line then (true, if bitAt w (10 + 7 * (line - 64)) then some (bits w (9 + 7 * (line - 64)) (4 + 7 * (line - 64))) else none)
  else if s.seams.declared ∧ line % 8 = 7 then (true, (s.seams.slackUse.find? (fun u => u.1 = k && u.2.1 = line / 8)).map (fun u => u.2.2))
  else
    let moved := (List.range 4).any (fun n => bitAt w (10 + 7 * n) && decide (bits w (9 + 7 * n) (4 + 7 * n) = line)) ||
      s.seams.slackUse.any (fun u => u.1 = k && u.2.2 = line)
    (false, if moved then none else some line)

/-- A line of a fabric bundle fails the test at the receiving end on die d (R81). -/
def State.lineFails (s : State) (d p c b line : Nat) : State :=
  let k := fkey (seamOf d p) c b
  let list (s : State) : State := { s with seams.field := if s.seams.field.contains (k, line) then s.seams.field else s.seams.field ++ [(k, line)] }
  match s.lineCarries k line with
  | (true, none) => (list s).count F.seamCounts_spareFails d 0 1
  | (false, none) => s
  | (spare, some u) =>
    let s := list { s with seams.named := if s.seams.named.contains (k, u) then s.seams.named else s.seams.named ++ [(k, u)] }
    s.seamDegr.alarm 255 0x09 (d * 256 + p * 2 ^ 10 + c * 2 ^ 16 + b * 2 ^ 24 + u * 2 ^ 32 + b2n spare * 2 ^ 38) 0 (srcOf .seam d)

/-- SEAM_SPARE_TEST: one pass. `fails`: lines of fabric bundles that fail PRBS7, or whose sampler count passes 16: die and port of the
receiving end, crossing, bundle, line. Bundles of flex groups in network role are not fabric bundles (R58, R81). -/
def execSeamSpareTest (late : Bool) (fails : List (Die × Fin 2 × Fin 16 × Fin 64 × Fin 68)) (s : State) : Out :=
  .next (if !s.istRuns 2 then s else
    let s := fails.foldl (fun s (f : Die × Fin 2 × Fin 16 × Fin 64 × Fin 68) =>
      match f with
      | (d, p, c, b, line) => if 48 ≤ b.val ∧ s.flexOn d p c ((b - 48) / 4) then s else s.lineFails d p c b line) s
    s.istDone 2 late)

/-! ### HBM patrol (R381) -/

/-- One patrolled access with a severity report: its row is opened; 1 and 2 are written back unchanged, 3 freezes the controller and the patrol stops
there. -/
def State.patrolAcc (s : State) (st a sev : Nat) : State :=
  let s := s.activate st (32 * a)
  if sev = 0 then s
  else if sev < 3 then s.eccError .stack st false 8 a 0 sev
  else
    let s := s.eccError .stack st true 8 a 0 3
    State.hbmFreeze { s with hbm.bad := tput false s.hbm.bad (accKey st a) true, ecc.patrol := tput 0 s.ecc.patrol st a } st 1 (32 * a)

/-- The patrol read that a test mode meets completes with the injected report, once; an injected 3 freezes the controller and leaves the stored
content as it is (R376). -/
def State.patrolInject (s : State) (st : Nat) : State :=
  let v := tget 0 s.ecc.sev st
  let a := tget 0 s.ecc.patrol st
  if v = 0 then s
  else
    let s := State.activate { s with ecc.sev := tput 0 s.ecc.sev st 0 } st (32 * a)
    let s := s.eccError .stack st (decide (v = 3)) 8 a 0 v
    if v = 3 then s.hbmFreeze st 1 (32 * a) else s

/-- The patrol of a stack: from where it stopped to the last access, in order; it pauses unless the stack is READY. In test mode it goes no further
than the read that takes an injected report. DESIGN CHOICE (log entry 129): R376 gives a patrol read the report and has the test skip the stack. -/
def State.patrolStack (s : State) (st : Nat) (reps : List (Nat × Nat)) : State :=
  if s.hbmSt st ≠ 1 then s
  else if s.flag F.eccTestS_testEn st 0 then s.patrolInject st
  else
    let bad : List (Nat × Nat) := s.hbm.bad.filterMap (fun x => if x.1 / 2 ^ 30 = st then some (x.1 % 2 ^ 30, 3) else none)
    let all := (bad ++ reps.filter (fun r => !bad.any (fun b => b.1 = r.1))).filter (fun r => tget 0 s.ecc.patrol st ≤ r.1)
    let s := (all.mergeSort (fun x y => x.1 ≤ y.1)).foldl (fun s r => if s.hbmSt st = 1 then s.patrolAcc st r.1 r.2 else s) s
    if s.hbmSt st = 1 then { s with ecc.patrol := tput 0 s.ecc.patrol st 0 } else s

/-- HBM_PATROL: one pass. `reps`: accesses whose severity report is not 0: stack, 32-byte access, severity. -/
def execHbmPatrol (late : Bool) (reps : List (Die × Fin 0x30000000 × Fin 4)) (s : State) : Out :=
  .next (if !s.istRuns 3 then s else
    let s := iter 4 (fun st s =>
      s.patrolStack st (reps.filterMap (fun (r : Die × Fin 0x30000000 × Fin 4) => if r.1.val = st then some (r.2.1.val, r.2.2.val) else none))) s
    s.istDone 3 late)

/-! ### Store margin check (R382) -/

/-- The area of a 1 KiB block of a die's quarter: 0 system, 1 golden, 2 slot A, 3 slot B, 4 library, in the order of R85. -/
def blockArea (b : Nat) : Nat :=
  if b < 32768 then 0 else if b < 65536 then 1 else if b < 327680 then 2 else if b < 589824 then 3 else 4

/-- Alarm 0x0E for a block (R382, R534). -/
def State.storeAlarm (s : State) (d b : Nat) (noSpare : Bool) : State :=
  s.alarm 255 0x0E (d * 256 + b2n noSpare * 2 ^ 10 + blockArea b * 2 ^ 12 + b * 2 ^ 32) 0 (srcOf .seam d)

/-- A block read at reduced margin: corrections needed, or none when it cannot be corrected. From 4 corrections it moves to a spare
block, while one is left (R382). -/
def State.marginBlock (s : State) (d b : Nat) (corr : Option Nat) : State :=
  match corr with
  | none =>
    let s := s.eccError .store d true 0xC b 0 0
    State.storeAlarm { s with ld.storeBad := s.ld.storeBad ||| 2 ^ blockArea b } d b false
  | some 0 => s
  | some n =>
    let s := s.eccError .store d false 0xC b 0 0
    let used := tget 0 s.ld.spares d
    if n < 4 ∨ 4096 ≤ used then s
    else
      let s := { s with ld.spares := tput 0 s.ld.spares d (used + 1), ld.remap := tput 0 s.ld.remap (d * 2 ^ 20 + b) (used + 1) }
      if used + 1 = 4096 then s.storeAlarm d b true else s

/-- The store is in use by a load, a slot or golden write, or a library write; the check pauses (R382). -/
def State.storeBusy (s : State) : Bool :=
  s.ld.slotWrite.isSome || s.ld.ctls.any (fun c => c.2.active) || s.ld.libs.any (fun e => e.2.state = 1 || e.2.state = 4)

/-- STORE_MARGIN_CHECK: one pass. `blks`: blocks that need corrections (1–8), or that cannot be corrected (none). -/
def execStoreMarginCheck (late : Bool) (blks : List (Die × Fin 786432 × Option (Fin 9))) (s : State) : Out :=
  .next (if !s.istRuns 4 || s.storeBusy then s else
    let s := blks.foldl (fun s (x : Die × Fin 786432 × Option (Fin 9)) => s.marginBlock x.1 x.2.1 (x.2.2.map Fin.val)) s
    s.istDone 4 late)

end Sys2Proof.Machine
end

