-- ==== Sys2Proof/Machine/Mac.lean ====
section
/-! DEFINITION. Frames between lanes and packet queues, stamps, and Systemlink time (17_line_lanes.md, R396–R402; 18_time.md,
R422–R427). -/

namespace Sys2Proof.Machine

/-! ### Frames -/

/-- The Ethernet frame check sequence of a byte string: IEEE 802.3 CRC-32, each byte least significant bit first, the value sent
from its most significant coefficient, that is bit-reversed and little-endian. -/
def fcs (l : List Byte) : List Byte :=
  let c := crcBits (lineBits l)
  let rev := (List.range 32).foldl (fun a i => a + b2n (bitAt c i) * 2 ^ (31 - i)) 0
  leBytes 4 rev

/-- The frame ends with its FCS. -/
def fcsOk (l : List Byte) : Bool := decide (4 ≤ l.length) && decide (fcs (l.take (l.length - 4)) = l.drop (l.length - 4))

/-- Pack bytes into 64-bit data words, unused bytes zero (R397). -/
def packWords : Nat → List Byte → List Nat
  | 0, _ => []
  | n + 1, l => leAt l 0 8 :: packWords n (l.drop 8)
def frameWords (l : List Byte) : List Nat := packWords (ceilDiv l.length 8) l

/-- A big-endian number of `n` bytes. -/
def beBytes (n v : Nat) : List Byte := (leBytes n v).reverse
def beAt (l : List Byte) (o n : Nat) : Nat := leNat (slice 0#8 l o n).reverse

/-- Write bytes at an offset of a byte string. -/
def overlay (l : List Byte) (o : Nat) (b : List Byte) : List Byte := l.take o ++ b ++ l.drop (o + b.length)

/-- An Ethernet mode is running on the lane. -/
def ethLink (link : Nat) : Bool := decide (1 ≤ link) && decide (link ≤ 5)

/-- The lane carries frames: ACTIVE, and lanes 1–3 of a bonded 10GBASE-KX4 quad have no MAC (R390). -/
def State.macOn (s : State) (l : Nat) : Bool := s.lnSt l = 5 && !(s.lnF F.lnState_link l = 3 && decide (l % 4 ≠ 0))

/-! ### Stamps (R399, R409, R422) -/

/-- Stamp correction in 2^−32 ns: fixed tenths of a nanosecond and unit intervals (R422). -/
def corrOf (tenths ui rate : Nat) : Nat := tenths * 2 ^ 32 / 10 + (if rate = 0 then 0 else ui * 1000000000 * 2 ^ 32 / rate)

/-- Transmit and receive corrections of a lane in its mode (R422). -/
def State.txCorr (s : State) (l : Nat) : Nat :=
  let r := s.lineRate l
  match s.lnF F.lnState_link l, s.lnF F.lnState_fec l with
  | 1, _ => corrOf 384 0 r
  | 2, _ => corrOf 384 0 r
  | 3, _ => corrOf 240 0 r
  | 4, _ => corrOf 124 0 r
  | 5, 2 => corrOf 73 0 r
  | 5, _ => corrOf 61 0 r
  | _, _ => if s.lineCoding l = 1 then corrOf 40 33 r else corrOf 40 40 r
def State.rxCorr (s : State) (l : Nat) : Nat :=
  let r := s.lineRate l
  match s.lnF F.lnState_link l, s.lnF F.lnState_fec l with
  | 1, _ => corrOf 1120 0 r
  | 2, _ => corrOf 1120 0 r
  | 3, _ => corrOf 704 0 r
  | 4, 0 => corrOf 352 0 r
  | 4, _ => corrOf 856 0 r
  | 5, 0 => corrOf 186 0 r
  | 5, 1 => corrOf 402 0 r
  | 5, _ => corrOf 968 0 r
  | _, _ => if s.lineCoding l = 1 then corrOf 90 99 r else corrOf 90 120 r

/-- The timekeeper that a lane stamps from (R399). -/
def State.stampTk (s : State) (l : Nat) : Nat := if s.lnOn F.lnMac_tkOwn l then s.quadTenant (l / 4) else 0

/-- A stamp of a time in 2^−32 ns. -/
def stampOf (v tk id : Nat) : Stamp :=
  ⟨v / secUnits, v % secUnits / 2 ^ 32, v % 2 ^ 32 / 2 ^ 16, tk, id⟩

/-- The receive and transmit stamps of a lane now; none while its timekeeper is disabled (R53). -/
def State.rxStamp (s : State) (l id : Nat) : Option Stamp :=
  if s.tkRuns (s.stampTk l) then some (stampOf (s.laneTime l (s.lnOn F.lnMac_tkOwn l) - s.rxCorr l) (s.stampTk l) id) else none
def State.txStamp (s : State) (l id : Nat) : Option Stamp :=
  if s.tkRuns (s.stampTk l) then some (stampOf (s.laneTime l (s.lnOn F.lnMac_tkOwn l) + s.txCorr l) (s.stampTk l) id) else none

/-- A transmit stamp enters the four-entry FIFO, or is counted in LOST (R399). -/
def State.pushStamp (s : State) (l : Nat) (t : Stamp) : State :=
  if 4 ≤ (s.lane l).stamps.length then s.lnCount F.lnTxstampStatus_lost l 1
  else
    let s := s.setLane l { s.lane l with stamps := (s.lane l).stamps ++ [t] }
    if s.lnOn F.lnMac_tsEvEn l then s.raiseEv (l / 48) (s.quadTenant (l / 4)) (s.lnF F.lnMac_tsEv l) else s

/-! ### The queue of a direction (R399, R400) -/

/-- The direct queue of lane l. -/
def laneQ (l : Nat) : Nat := 4 * quadTile (l / 4) + l % 4

/-- LN_MAC.DIRECT_RX: the direct queue carries receive, as the frames configure it (R408). -/
def State.directRx (s : State) (l : Nat) : Bool := s.qProd (laneQ l) = 2
def State.directTx (s : State) (l : Nat) : Bool := s.qCons (laneQ l) = 2

/-- The queue that LN_NETQ names. -/
def State.netQ (s : State) (l : Nat) : Nat := 4 * s.lnF F.lnNetq_tile l + s.lnF F.lnNetq_queue l

/-- Requests of a lane's MAC in flight, and of one kind. -/
def State.macOuts (s : State) (l : Nat) : Nat := s.outsFor (fun w => match w with | .mac l' _ => l' = l | _ => false)
def State.macOutsK (s : State) (l k : Nat) : Nat := s.outsFor (fun w => w = .mac l k)

/-- A request of the MAC to a register of the queue that LN_NETQ names (R384, R400). -/
def State.macReq (s : State) (l kind : Nat) (op : NOp) (r : Rg) (n : Nat) (data : List Byte) : State × Option Nat :=
  s.issue (.mac l kind) (mkReq op (r.key (s.lnF F.lnNetq_tile l) (s.lnF F.lnNetq_queue l)) n (s.quadTenant (l / 4)) 5 (quadTile (l / 4)) 2 data)

/-- A refused push: the frame is dropped and counted, and Q_PUSH_ABORT is written (R400). -/
def State.macFail (s : State) (l : Nat) (whole : Bool) : State :=
  let x := s.lane l
  let s := s.count F.qErrors_dropped (s.lnF F.lnNetq_tile l) (s.lnF F.lnNetq_queue l) 1
  let rx := if whole then (x.rx.dropWhile (fun w => !w.last)).drop 1 else x.rx
  let s := s.setLane l { x with rx := rx, rxFail := decide (s.macOutsK l 0 ≠ 0) }
  (s.macReq l 2 .write .qPushAbort 4 (leBytes 4 1)).1

/-- Push the next word of the buffered frame: at most 16 requests in flight, the committing push only after every earlier push has
returned OK (R400). -/
def State.macPushOne (s : State) (l : Nat) : State :=
  let x := s.lane l
  match x.rx with
  | [] => s
  | w :: t =>
    if x.rxFail ∨ 16 ≤ s.macOuts l ∨ (w.last ∧ s.macOutsK l 0 ≠ 0) ∨ s.macOutsK l 1 ≠ 0 then s
    else
      let (s', c) := s.macReq l (b2n w.last) .write (if w.last then .qPushLastLo else .qPushLo) 8 (leBytes 8 w.data)
      match c with
      | none => s
      | some 0 => s'.setLane l { s'.lane l with rx := t }
      | some _ => s'.macFail l true
def State.macPump (s : State) (l : Nat) : State := iter 16 (fun _ s => s.macPushOne l) s

/-- A received packet goes to the direct queue, or through the network to the queue that LN_NETQ names, or is dropped (R400). -/
def State.deliver (s : State) (l : Nat) (words : List Nat) : State :=
  let n := words.length
  let ws : List QWord := words.zipIdx.map (fun q => ⟨q.1, q.2 + 1 = n, false, false, false, false⟩)
  if s.directRx l then s.directPush (laneQ l) ws
  else if s.lnOn F.lnNetq_en l then State.macPump (s.setLane l { s.lane l with rx := (s.lane l).rx ++ ws }) l
  else s

/-- An IEEE 802.3 PAUSE frame (R397). -/
def isPause (l : List Byte) : Bool := beAt l 12 2 = 0x8808 && beAt l 14 2 = 0x0001

/-- The packet of a received frame: descriptor, stamp words, data (R397). -/
def State.rxPacket (s : State) (l : Nat) (data : List Byte) (fecCorr pause : Bool) : List Nat :=
  let st := if s.stampsRx l then s.rxStamp l 0 else none
  let d := data.length * 2 ^ 48 + (b2n st.isSome + 2 * b2n fecCorr + 4 * b2n pause) * 2 ^ 40 + l * 2 ^ 32 + (s.lane l).rxSeq % 2 ^ 32
  let stamps := if s.stampsRx l then
      (match st with
       | some t => [t.sec * 65536 + t.frac, t.ns * 2 ^ 32 + t.tk]
       | none => [0, 0])
    else []
  [d] ++ stamps ++ frameWords data

/-- Half of the elastic buffer of a link: 32 symbols of 8b/10b, 8 blocks of 64b/66b; the fill at which a filler unit is deleted or inserted; and the
size of a filler unit: one block, one column of 10GBASE-KX4, or an ordered set of two symbols (R396). -/
def rateUnits (link coding : Nat) : Int × Int × Int :=
  if coding = 1 then (8, 4, 1) else (32, 8, if link = 3 then 1 else 2)

/-- Rate matching over the gap before a frame and the frame: with the fill far above centre one filler unit of the gap is deleted, never its last; as far
below, one is inserted; then the fill moves by the clocks' difference, and the answer says whether it passes an end of the buffer, which OVF counts
(R396). RAW has no elastic buffer. DESIGN CHOICE (log entry 120): the command brings the gap's filler units and the difference; the manual does not
say where the fill stands after an overflow, which is a free value. -/
def State.rateMatch (s : State) (l gap : Nat) (drift : Int) : State × Bool :=
  let link := s.lnF F.lnState_link l
  if link = 8 then (s, false)
  else
    let (half, far, unit) := rateUnits link (s.lineCoding l)
    let f := (s.lane l).fill
    let (s, f) :=
      if far ≤ f ∧ 2 ≤ gap then (s.lnCount F.lnRmCounts_deleted l 1, f - unit)
      else if f ≤ -far ∧ 1 ≤ gap then (s.lnCount F.lnRmCounts_inserted l 1, f + unit)
      else (s, f)
    let f := f + drift
    if half < f ∨ f < -half then
      let s := { s with free := s.free + 1 }
      ((s.setLane l { s.lane l with fill := Int.ofNat ((Config.freeWord (s.free - 1)).toNat % (2 * half.toNat + 1)) - half }).lnCount F.lnRmCounts_ovf l 1, true)
    else (s.setLane l { s.lane l with fill := f }, false)

/-- A frame is aborted in the direct queue: its words are written until one finds no free word, which drops it, and what was written is rewound (R198,
R199, R397). -/
def State.abortRx (s : State) (l : Nat) (words : List Nat) : State :=
  if s.directRx l then (s.directPush (laneQ l) (words.map (fun w => ⟨w, false, false, false, false, false⟩))).qAbort (laneQ l) else s

/-- Codewords that FEC corrected and could not correct during a frame (R397, R408). -/
def State.fecCount (s : State) (l corr bad : Nat) : State :=
  if s.lnF F.lnState_fec l = 0 then s else (s.lnCount F.lnFecCounts_corrected l corr).lnCount F.lnFecCounts_uncorrected l bad

/-- RX_FRAME: a frame with its FCS (in RAW, MAX_LEN bytes of the stream); `err`: a code error; `fecCorr` and `fecBad`: the codewords of it that FEC
corrected and could not correct, with FEC on; `busy`: the frame is still being received, and `bytes` is what has come of it; `gap` and `drift`: what the
elastic buffer sees before and during it (R393, R396, R397, R401). In TEST the bytes are what the checker receives, bit 0 of each first (R405). -/
def execRxFrame (l : Lane) (bytes : List Byte) (err : Bool) (fecCorr fecBad : Nat) (busy : Bool) (gap : Nat) (drift : Int) (s : State) : Out :=
  let l := l.val
  let x := s.lane l
  let fec := decide (s.lnF F.lnState_fec l ≠ 0)
  let err := err || (fec && decide (fecBad ≠ 0))
  .next (if s.lnSt l = 6 then s.checkBits l (lineBits bytes)
  else if !s.macOn l then s
  else if busy then s.setLane l { x with rxPart := some bytes }
  else
    let (s, cut) := State.rateMatch ((s.setLane l { x with rxPart := none }).fecCount l fecCorr fecBad) l gap drift
    let max := s.lnF F.lnMac_maxLen l
    let link := s.lnF F.lnState_link l
    let abort (s : State) : State := if s.rxQueued l bytes then s.abortRx l (s.rxPacket l (s.rxStored l (bytes.take max)) false false) else s
    if cut then abort s
    else if link = 8 then
      let s := (s.deliver l (s.rxPacket l (slice 0#8 bytes 0 max) false false)).lnCount F.lnRxCounts_frames l 1
      s.setLane l { s.lane l with rxSeq := ((s.lane l).rxSeq + 1) % 2 ^ 32 }
    else
      if max < bytes.length then (abort s).lnCount F.lnRxCounts_long l 1
      else if err ∨ !fcsOk bytes ∨ (ethLink link ∧ bytes.length < 64) then (abort s).lnCount F.lnRxCounts_bad l 1
      else if link = 9 ∧ leAt bytes 0 1 ≠ 4 then
        (if 1 ≤ leAt bytes 0 1 ∧ leAt bytes 0 1 ≤ 3 then s else s.lnCount F.lnRxCounts_bad l 1)
      else
        let body := bytes.take (bytes.length - 4)
        let s := (s.deliver l (s.rxPacket l (s.rxStored l bytes) (fec && decide (fecCorr ≠ 0)) (ethLink link && isPause body))).lnCount F.lnRxCounts_frames l 1
        s.setLane l { s.lane l with rxSeq := ((s.lane l).rxSeq + 1) % 2 ^ 32 })

/-! ### Transmit (R398–R401) -/

/-- Pop the packet at the front of a queue, word by word through its last word. -/
def State.qPopPacket (s : State) (k : Nat) : Nat → List QWord → List QWord × State
  | 0, acc => (acc, s)
  | n + 1, acc =>
    let (w, under, s') := s.qRead k
    if under then (acc, s') else if w.last then (acc ++ [w], s') else s'.qPopPacket k n (acc ++ [w])

/-- The transmit buffer takes a whole packet from the direct queue, or starts to read one through the network (R400). -/
def State.txFill (s : State) (l : Nat) : State :=
  let x := s.lane l
  if x.tx.any (·.last) then s
  else if s.directTx l then
    (if (s.pq (laneQ l)).waiting = 0 then s
     else
       let (ws, s) := s.qPopPacket (laneQ l) 1024 []
       s.setLane l { s.lane l with tx := ws })
  else if s.lnOn F.lnNetq_en l ∧ x.popLeft = 0 ∧ x.popWord.isNone ∧ s.macOutsK l 3 = 0 ∧ s.macOutsK l 4 = 0 ∧ s.macOutsK l 5 = 0 ∧ s.macOuts l < 16 then
    (s.macReq l 3 .read .qStatus 4 []).1
  else s

/-- The packet at the front of the transmit buffer, and what follows it. -/
def takePacket (ws : List QWord) : List QWord × List QWord :=
  let n := (ws.takeWhile (fun w => !w.last)).length + 1
  (ws.take n, ws.drop n)

/-- The 80 bits that one-step insertion writes: seconds and nanoseconds, most significant byte first (R398). -/
def stampBytes (t : Stamp) : List Byte := beBytes 6 t.sec ++ beBytes 4 t.ns

/-- A TIME of a TIME frame: SECONDS, NANOSECONDS, FRACTION, big-endian (R425). -/
def beTime (t : Stamp) : List Byte := beBytes 6 t.sec ++ beBytes 4 t.ns ++ beBytes 2 t.frac

/-- Send a frame: it goes out whole, or is in progress while `busy` (R398). -/
def State.sendFrame (s : State) (l : Nat) (bytes : List Byte) (busy : Bool) : State :=
  let s := s.setLane l { s.lane l with sent := bytes, txBusy := busy, flips := (s.lane l).inject, inject := 0 }
  if busy then s else s.lnCount F.lnTxCounts_frames l 1

/-- The bytes of a RELAY frame, little-endian (R469). -/
def RelayFrame.bytes (f : RelayFrame) : List Byte :=
  leBytes 1 3 ++ leBytes 1 f.kind ++ leBytes 1 f.hops ++ leBytes 1 f.origin ++ leBytes 8 f.originId ++ leBytes 8 f.targetId ++
  leBytes 2 f.rtag ++ leBytes 2 0 ++ f.body

/-- A frame that the Systemlink MAC or the Referee has waiting, in the order of the type table (R401). -/
def State.slNext (s : State) (l : Nat) : Option (List Byte × State) :=
  let x := s.lane l
  match x.slOut.find? (·.1 = 1) with
  | some f => some (f.2, s.setLane l { x with slOut := x.slOut.erase f })
  | none =>
    match x.slOut.find? (·.1 = 2) with
    | some f =>
      let t := (if s.tkRuns 0 then stampOf (s.laneTime l false + s.txCorr l) 0 0 else ⟨0, 0, 0, 0, 0⟩)
      some (overlay f.2 (if leAt f.2 1 1 = 0 then 4 else 28) (beTime t), s.setLane l { x with slOut := x.slOut.erase f })
    | none =>
      match s.hosts.relayOut.find? (fun f => f.lane = l) with
      | some f => some (f.bytes, { s with hosts.relayOut := s.hosts.relayOut.erase f })
      | none => none

/-- A transmit packet breaks its descriptor (R398). -/
def txMalformed (ws : List QWord) (max : Nat) : Bool :=
  let d := (ws.headD QWord.zero).data
  let len := bits d 63 48
  decide (ws.length ≠ 1 + ceilDiv len 8) || len = 0 || decide (max < len) ||
  (bitAt d 46 && decide (len < bits d 43 32 + 10)) || (bitAt d 44 && decide (len < bits d 31 20 + 2))

/-- Send the packet `ws` as a frame (R398, R399, R401). -/
def State.txSend (s : State) (l : Nat) (ws : List QWord) (busy : Bool) : State :=
  let link := s.lnF F.lnState_link l
  let d := (ws.headD QWord.zero).data
  let len := bits d 63 48
  let data := (((ws.drop 1).map (fun w => leBytes 8 w.data)).flatten).take len
  if link = 8 then s.sendFrame l data busy
  else if txMalformed ws (s.lnF F.lnMac_maxLen l) then s.lnCount F.lnTxCounts_txBad l 1
  else if ws.any (fun w => w.p0 || w.p1) then s.lnCount F.lnTxCounts_errEnd l 1
  else
    let st := s.txStamp l (bits d 19 16)
    let data := if bitAt d 46 then (match st with | some t => overlay data (bits d 43 32) (stampBytes t) | none => data) else data
    let data := if bitAt d 44 then overlay data (bits d 31 20) [0#8, 0#8] else data
    let data := if ethLink link ∧ !bitAt d 45 ∧ data.length < 60 then data ++ List.replicate (60 - data.length) 0#8 else data
    let data := if link = 9 then 4#8 :: data else data
    let bytes := if bitAt d 45 then data else data ++ fcs data
    let s := s.sendFrame l bytes busy
    if bitAt d 47 then (match st with | some t => s.pushStamp l t | none => s) else s

/-- The capability block that an end sends in EXCHANGE: W0 to W3, as a frame with its FCS but in RAW (R394). DESIGN CHOICE (log entry 159): the bytes
of each word go least significant first. -/
def State.capBlock (s : State) (l : Nat) : List Byte :=
  let w0 := 0xA5A55A5A0F0FF0F0
  let w1 := s.w1 l
  let w2 := (s.lane l).w2
  let b := leBytes 8 w0 ++ leBytes 8 w1 ++ leBytes 8 w2 ++ leBytes 8 (crcBits (wordBits w0 ++ wordBits w1 ++ wordBits w2) * 2 ^ 32)
  if (s.lane l).mode = 8 then b else b ++ fcs b

/-- TX_PACKET: a frame in progress ends, or the MAC starts the next: Systemlink frames in their order, then a whole packet of its
buffer; RAW with no packet sends its idle word (R398–R401). In REST no frame is sent (R52). In EXCHANGE an own mode sends its capability block (R394),
in TEST the generator its next word (R405). -/
def execTxPacket (l : Lane) (busy : Bool) (s : State) : Out :=
  let l := l.val
  .next (if s.lnSt l = 6 then s.genSend l
  else if s.lnSt l = 4 ∧ ownMode (s.lane l).mode then
    s.setLane l { s.lane l with sent := s.capBlock l, flips := 0 }
  else if !s.macOn l ∨ s.pw.mode = .rest ∧ s.lnF F.lnState_link l ≠ 9 then s
  else if (s.lane l).txBusy then
    (if busy then s else State.lnCount (s.setLane l { s.lane l with txBusy := false }) F.lnTxCounts_frames l 1)
  else
    match (if s.lnF F.lnState_link l = 9 then s.slNext l else none) with
    | some (b, s) => s.sendFrame l (b ++ fcs b) busy
    | none =>
      if s.pw.mode = .rest then s
      else
        let s := s.txFill l
        if (s.lane l).tx.any (·.last) then
          let (ws, rest) := takePacket (s.lane l).tx
          State.txSend (s.setLane l { s.lane l with tx := rest }) l ws busy
        else if s.lnF F.lnState_link l = 8 then s.lnCount F.lnTxCounts_under l 1 else s)

/-! ### Responses of the MAC's requests (R400) -/

/-- Pop the next word through the network. -/
def State.macPop (s : State) (l : Nat) : State :=
  if (s.lane l).popLeft = 0 then s else
  match s.macReq l 4 .read .qPopLo 8 [] with
  | (s', some 0) => s'.setLane l { s'.lane l with popLeft := (s'.lane l).popLeft - 1 }
  | (s', _) => s'.setLane l { s'.lane l with popLeft := 0 }

/-- A response, or a timeout, of a request of a lane's MAC (R400). -/
def State.macResp (s : State) (l kind svc : Nat) (data : List Byte) : State :=
  let x := s.lane l
  let ok := svc ≤ 1
  match kind with
  | 0 =>
    let s := if ok then s else if x.rxFail then s else s.macFail l true
    let s := if s.macOutsK l 0 = 0 then s.setLane l { s.lane l with rxFail := false } else s
    s.macPump l
  | 1 => State.macPump (if ok then s else s.macFail l false) l
  | 3 => if ok then State.macPop (s.setLane l { x with popLeft := bits (leAt data 0 4) 21 11 }) l else s
  | 4 =>
    if ok then (State.macReq (s.setLane l { x with popWord := some (leAt data 0 8) }) l 5 .read .qPopFlags 4 []).1
    else s.setLane l { x with popLeft := 0 }
  | 5 =>
    let f := leAt data 0 4
    let w : QWord := ⟨x.popWord.getD 0, bitAt f 1, false, false, bitAt f 0 || !ok, bitAt f 0 || !ok⟩
    State.macPop (s.setLane l { x with popWord := none, tx := if bitAt f 2 then x.tx else x.tx ++ [w] }) l
  | _ => s.macPump l

/-- MAC_RESPONSE: a response to a MAC's network push or pop (R400). -/
def execMacResponse (r : Resp) (s : State) : Out :=
  .next (if s.net.resps.contains r && s.respFor r (fun w => match w with | .mac _ _ => true | _ => false) then
    match s.arrive r with
    | (s, some (o, r)) => (match o.who with | .mac l k => s.macResp l k r.svc r.data | _ => s)
    | (s, none) => s
  else s)

/-! ### Systemlink heartbeats and time (R402, R423–R426) -/

def State.slPresent (s : State) (l : Nat) : Bool := s.lnOn F.lnSlStatus_present l
def State.nbrId (s : State) (l : Nat) : Nat := s.ln .lnSlIdLo l + 2 ^ 32 * s.ln .lnSlIdHi l
def State.sysActive (s : State) (l : Nat) : Bool := s.lnSt l = 5 && s.lnF F.lnState_link l = 9

/-- The lane takes part in time transfer (R423). -/
def State.timeLane (s : State) (l : Nat) : Bool :=
  s.sysActive l && bitAt (s.ln .lnPartnerLo l) 16 && bitAt (s.ln .lnCapLo l) 16 && s.slPresent l &&
  s.lnF F.lnSlStatus_domain l = s.getF F.timeCtl_domain 0 0

/-- A candidate of R424: ROOT_PRIO, ROOT_ID, HOPS, neighbor, lane; compared in that order. The own candidate has lane 192. -/
structure Cand where
  prio : Nat
  root : Nat
  hops : Nat
  nbr : Nat
  lane : Nat
deriving DecidableEq, Repr

def Cand.key (c : Cand) : Nat := (((c.prio * 2 ^ 64 + c.root) * 32 + c.hops) * 2 ^ 64 + c.nbr) * 256 + c.lane

/-- The lane's candidate (R424). -/
def State.cand (s : State) (l : Nat) : Option Cand :=
  let (p, r, h, _) := (s.lane l).nbr
  if s.timeLane l ∧ h < 16 then some ⟨p, r, h + 1, s.nbrId l, l⟩ else none

/-- TIME_PRIO and SOURCE (R414, R424). -/
def State.timePrio (s : State) : Nat := s.getF F.timeCtl_timePrio 0 0
def State.slSource (s : State) : Bool := s.flag F.timeCtl_source 0 0

/-- The lowest candidate of all lanes and the device's own. -/
def State.bestCand (s : State) : Option Cand :=
  let own : List Cand := if s.timePrio < 255 then [⟨s.timePrio, deviceId, 0, 0, 192⟩] else []
  (own ++ (List.range 192).filterMap s.cand).foldl
    (fun b c => match b with | none => some c | some d => if c.key < d.key then some c else some d) none

/-- Take a position in the tree: a parent lane, the root, or parentless (R424), as SL_STATUS and SL_ROOT_ID show it (R432). -/
def State.takePlace (s : State) (c : Option Cand) : State :=
  let p := match c with | some d => if d.lane < 192 then some d.lane else none | none => none
  let root := match c with | some d => decide (d.lane = 192) | none => false
  let (pr, id, h, ln) := match c with | some d => (d.prio, d.root, d.hops, if d.lane < 192 then d.lane else 0) | none => (0, 0, 0, 0)
  let s := { s with tmr.parent := p, tmr.bestOwn := 0 }
  let s := s.setReg .slStatus 0 0 (b2n root * 2 ^ 31 + b2n p.isSome * 2 ^ 30 + ln * 65536 + h * 256 + pr)
  let s := (s.setReg .slRootIdLo 0 0 (id % 2 ^ 32)).setReg .slRootIdHi 0 0 (id / 2 ^ 32)
  s.updHoldover

/-- The candidate that the device follows now. -/
def State.current (s : State) : Option Cand :=
  match s.tmr.parent with
  | some l => s.cand l
  | none => if s.flag F.slStatus_root 0 0 then some ⟨s.timePrio, deviceId, 0, 0, 192⟩ else none

/-- After a heartbeat on lane l: a better candidate that has stayed best for 3 heartbeats in a row is adopted; a device without a
candidate is parentless; the followed candidate's new fields are taken over (R424). -/
def State.elect (s : State) (l : Nat) : State :=
  if !s.slSource then s else
  match s.bestCand with
  | none => s.takePlace none
  | some b =>
    let cur := s.current
    if cur = none ∨ cur = some b then State.takePlace (iter 192 (fun i s => if (s.lane i).best = 0 then s else s.setLane i { s.lane i with best := 0 }) s) (some b)
    else
      let n := if b.lane = 192 then s.tmr.bestOwn + 1 else if b.lane = l then (s.lane l).best + 1 else (s.lane b.lane).best
      let s := iter 192 (fun i s => if (s.lane i).best = 0 then s else s.setLane i { s.lane i with best := 0 }) s
      if 3 ≤ n then s.takePlace (some b)
      else
        let s := s.takePlace cur
        if b.lane = 192 then { s with tmr.bestOwn := n } else s.setLane b.lane { s.lane b.lane with best := n }

/-- HEARTBEAT bytes (R402, R423): identifiers and numbers little-endian. -/
def hbBytes (id domain seq prio root hops flags : Nat) : List Byte :=
  leBytes 1 1 ++ leBytes 8 id ++ leBytes 2 domain ++ leBytes 2 seq ++ leBytes 1 prio ++ leBytes 8 root ++ leBytes 1 hops ++ leBytes 1 flags

/-- HEARTBEAT_SEND: every 1 ms the MAC of an ACTIVE Systemlink lane sends its fields (R401, R402, R423, R424). -/
def execHeartbeatSend (l : Lane) (s : State) : Out :=
  .next (if s.sysActive l then
    let x := s.lane l
    let c : Option Cand := if s.slSource then s.current else some ⟨s.timePrio, deviceId, 0, 0, 192⟩
    let (p, r, h) := match c with | some d => (d.prio, d.root, d.hops) | none => (255, 0, 0xFF)
    let fl := b2n (s.flag F.tkStatus_holdover 0 0)
    s.setLane l { x with
      hbSeq := (x.hbSeq + 1) % 65536
      slOut := x.slOut ++ [(1, hbBytes deviceId (s.getF F.timeCtl_domain 0 0) x.hbSeq p r h fl)] }
  else s)

/-- HEARTBEAT: a valid heartbeat records the neighbor and its time fields (R402, R423, R424). -/
def execHeartbeat (l : Lane) (id : BitVec 64) (domain : BitVec 16) (prio : Byte) (root : BitVec 64) (hops flags : Byte) (s : State) : Out :=
  .next (if s.sysActive l then
    let first := (s.lane l).hbFirst
    let s := s.setLane l { s.lane l with nbr := (prio.toNat, root.toNat, hops.toNat, flags.toNat), hbFirst := false }
    let s := if s.slPresent l ∧ !first then s
      else ((s.setLn .lnSlIdLo l (id.toNat % 2 ^ 32)).setLn .lnSlIdHi l (id.toNat / 2 ^ 32)).setLnF F.lnSlStatus_domain l domain.toNat
    let s := (s.setLnF F.lnSlStatus_present l 1).setLnF F.lnSlStatus_missed l 0
    s.elect l
  else s)

/-- HEARTBEAT_MISS: a millisecond without a valid heartbeat on a Systemlink lane is counted; after three in a row the neighbor is absent; a device whose
parent it was changes at once, and relay routes through the lane go (R402, R424, R467). -/
def execHeartbeatMiss (l : Lane) (s : State) : Out :=
  let l := l.val
  .next (if s.slPresent l ∨ s.sysActive l then
    let s := s.lnCount F.lnSlStatus_missed l 1
    if !s.slPresent l ∨ s.lnF F.lnSlStatus_missed l < 3 then s
    else
      let s := s.setLnF F.lnSlStatus_present l 0
      let s := State.viewUpdate { s with hosts.routes := s.hosts.routes.filter (fun r => r.lane ≠ l) }
      if s.slSource ∧ s.tmr.parent = some l then s.takePlace s.bestCand else s
  else s)

/-- TIME_REQUEST_SEND: a child sends a request on its parent lane every 62.5 ms; its MAC inserts t1 at send (R425). -/
def execTimeRequestSend (s : State) : Out :=
  .next (match s.tmr.parent with
  | none => s
  | some l =>
    if s.timeLane l then
      let n := (s.tmr.reqSeq + 1) % 65536
      State.setLane { s with tmr.reqSeq := n } l { (s.lane l) with
        slOut := (s.lane l).slOut ++ [(2, leBytes 1 2 ++ leBytes 1 0 ++ beBytes 2 n ++ List.replicate 36 0#8)] }
    else s)

/-- A time of a TIME frame in 2^−16 ns. -/
def timeAt (l : List Byte) (o : Nat) : Int := ((beAt l o 6 * 1000000000 + beAt l (o + 6) 4) * 65536 + beAt l (o + 10) 2 : Nat)

/-- Maltar takes an exchange: delay and offset, and at the first exchange after TK0 has been armed an adjust (R426). -/
def State.exchange (s : State) (l : Nat) (t1 t2 t3 t4 : Int) : State :=
  let d := ((t4 - t1) - (t3 - t2)) / 2
  let o := ((t2 - t1) + (t3 - t4)) / 2 + sgn 16 (s.getF F.slAsym_asym 0 l) * 256
  let s := (s.setReg .slDelay 0 0 (unsgn 32 d)).setReg .slOffset 0 0 (unsgn 32 o)
  if !s.maltarRuns ∨ !s.slSource then s
  else if s.flag F.tkStatus_armed 0 0 ∧ !s.tmr.servoed then
    (if s.flag F.tkStatus_pending 0 0 then s else State.stageCorr { s with tmr.servoed := true, tmr.offs := none } 0 (.adj o) none)
  else { s with tmr.offs := some o }

/-- TIME_FRAME: a valid TIME frame (without its FCS): a request is answered, a response of the parent gives delay and offset
(R425, R426). -/
def execTimeFrame (l : Lane) (f : List Byte) (s : State) : Out :=
  let l := l.val
  .next (if !s.timeLane l ∨ f.length ≠ 40 ∨ leAt f 0 1 ≠ 2 ∨ !s.tkRuns 0 then s
  else
    let rx := s.laneTime l false - s.rxCorr l
    if leAt f 1 1 = 0 then
      s.setLane l { (s.lane l) with
        slOut := (s.lane l).slOut ++ [(2, overlay (overlay f 1 [1#8]) 16 (beTime (stampOf rx 0 0) ++ List.replicate 12 0#8))] }
    else if leAt f 1 1 = 1 ∧ s.tmr.parent = some l ∧ beAt f 2 2 = s.tmr.reqSeq then
      s.exchange l (timeAt f 4) (timeAt f 16) (timeAt f 28) (rx / 2 ^ 16 : Nat)
    else s)

/-- SERVO_UPDATE: once per second Maltar's servo writes a rate correction that removes the offset measured, within RATE_TH (R426,
R33). One nanosecond of offset in a second is 2^33 / 10^9 of INCR. -/
def execServoUpdate (s : State) : Out :=
  .next (if !s.maltarRuns ∨ !s.slSource ∨ s.tmr.parent.isNone ∨ s.flag F.tkStatus_pending 0 0 then s
  else
    match s.tmr.offs with
    | none => s
    | some o =>
      let th : Int := s.getF F.timeRateTh_rateTh 0 0
      let d := o * 2 ^ 17 / 1000000000
      let d := if d < -th then -th else if th < d then th else d
      State.stageCorr { s with tmr.offs := none } 0 (.rate ((s.incrNow 0 : Int) + d).toNat) none)

end Sys2Proof.Machine
end

