-- ==== Sys2Proof/Machine/RegView.lean ====
section
/-! DEFINITION. What a read of each register returns: the stored fields (R7), and the fields that show state kept elsewhere (03 R84, 07
R190–R191, 08 R207, 10 R267, 11 R282, 13 R331, 14 R353, 17 R408, 20 R470, 23 R517). -/

namespace Sys2Proof.Machine

/-- ENG_STATUS (R267). -/
def State.engStatus (s : State) (t : Nat) : Nat :=
  let e := s.engine t
  engCode e.run * 2 ^ 29 + b2n e.shd * 2 ^ 28 + b2n (e.lock || e.atomic) * 2 ^ 27 + b2n (s.flag F.engStatus_lockBroken t 0) * 2 ^ 26 +
  e.pc % 2 ^ 14

/-- Q_STATUS (R207). -/
def State.qStatus (s : State) (k : Nat) : Nat :=
  s.qProd k * 2 ^ 29 + s.qCons k * 2 ^ 26 + b2n (s.flag F.qStatus_underrun (k / 4) (k % 4)) * 2 ^ 25 +
  (s.pq k).vis.length * 2 ^ 11 + (s.pq k).held

/-- NI_STATUS (R191). -/
def State.niStatus (s : State) (t : Nat) : Nat :=
  b2n (s.niFenced t || s.inHold) * 2 ^ 31 +
  min 127 (s.net.outs.filter (fun o => o.old && niOf o.req.src = t)).length * 2 ^ 16 +
  (s.ni t).tqi.length * 2 ^ 8 + s.niOuts t

/-- HP_STATUS (R470). MP has no link; it is up in every powered mode (R452). -/
def State.hpStatus (s : State) (p : Nat) : Nat :=
  let v := setBits (s.reg .hpStatus p 0) 10 8 (min 7 (s.inProgress p))
  if p = 4 then setBits v 31 31 (b2n (s.pw.mode ≠ .off)) else v

/-- DBG_ENG_STATUS and DBG_ENG_SAMPLE of a path's selected engine (R516, R517). -/
def State.dbgEngStatus (s : State) (path : Nat) : Nat :=
  let t := s.getF F.dbgEngSel_tile path 0
  let f := s.feed t
  engCode (s.engine t).run * 2 ^ 29 + b2n f.busy * 2 ^ 28 + f.cause * 2 ^ 24 + b2n f.fault * 2 ^ 23 + b2n f.brk * 2 ^ 22 + f.unit * 2 ^ 16 +
  (s.engine t).pc % 2 ^ 14

def State.dbgEngSample (s : State) (path : Nat) : Nat :=
  let e := s.engine (s.getF F.dbgEngSel_tile path 0)
  b2n (e.run = .running) * 2 ^ 31 + e.lastPc % 2 ^ 14

/-- A patch unit of Maltar's own patch set (R515). -/
def maltarUnit (u : Nat) : Bool := u < Config.patchUsed.val

/-- The value of a register before the masks of its access codes, as a path of the debug master or any other requester sees it. -/
def State.view (s : State) (path : Nat) (r : Rg) (i j : Nat) : Nat :=
  match r with
  | .engStatus => s.engStatus i
  | .engWdcnt => (s.engine i).wd / 256
  | .qStatus => s.qStatus (4 * i + j)
  | .qCount => setBits (s.reg .qCount i j) 15 0 (s.pq (4 * i + j)).waiting
  | .niStatus => s.niStatus i
  | .rtrStatus => setBits (s.reg .rtrStatus i 0) 14 0 (s.portsPresent i)
  | .rtrLinkEn => s.reg .rtrLinkEn i 0 &&& s.portsPresent i
  | .rtrLinkEnSh => s.reg .rtrLinkEnSh i 0 &&& s.portsPresent i
  | .routeLo => (s.route i j).1
  | .routeHi => (s.route i j).2.1
  | .routeCtl => (s.route i j).2.2
  | .deStatus => min 128 (s.engOuts i) * 2 ^ 6 + ((List.range 32).filter (fun c => s.chState (32 * i + c) = 1)).length
  | .chStatus => setBits (s.reg .chStatus i j) 6 0 (s.chanOuts (32 * i + j))
  | .hpStatus => s.hpStatus i
  | .seamStatus => s.seamStatus i
  | .fabricRepair =>
    let c := j / 64 % 16
    let b := j % 64
    if 48 ≤ b ∧ s.flexOn i (j / 1024) c ((b - 48) / 4) then 0 else s.reg .fabricRepair i j
  | .quadStatus => s.quadStatus i
  | .hbmFreezeRow => s.freezeRowView i
  | .protStatus => setBits (s.reg .protStatus i 0) 25 21 ((List.range 16).filter (fun w => decide (s.getF F.pwinCtl_state i w ≠ 0))).length
  | .lnTxstampStatus => setBits (s.reg .lnTxstampStatus i j) 2 0 (s.lane (4 * i + j)).stamps.length
  | .lnTxstampNs => match (s.lane (4 * i + j)).stamps with | [] => 0 | x :: _ => x.ns
  | .lnMac => setBits (s.reg .lnMac i j) 19 19 (b2n (s.directRx (4 * i + j)))
  | .qPopLo => match (s.pq (4 * i + j)).vis with | [] => (s.pq (4 * i + j)).last.data % 2 ^ 32 | w :: _ => w.data % 2 ^ 32
  | .dbgEngStatus => s.dbgEngStatus path
  | .dbgEngSample => s.dbgEngSample path
  | .puStatus => Config.patchUsed.val
  | .puCtl => if maltarUnit j then 2 ^ 31 + (Config.patchBlock j).toNat else s.reg .puCtl i j
  | .puRam => if maltarUnit (j / 16) then (Config.patchWord (j / 16) (j % 16)).toNat else s.reg .puRam i j
  | _ => s.reg r i j

/-- A side effect of a read was suppressed by the peek path (R510). -/
def State.peeked (s : State) (path : Nat) (on : Bool) : State := if on then s.setF F.dbgStatus_peeked path 0 1 else s

/-- Read a register: the value and the state after it. `eff`: with its side effects, else by the peek path (R7, R205, R399, R510). -/
def State.readReg (s : State) (eff : Bool) (path : Nat) (r : Rg) (i j : Nat) : State × Nat :=
  let v := r.readable (s.view path r i j)
  if eff then
    match r with
    | .qPopLo => match s.qPopReg (4 * i + j) with | (s, _, d) => (s, d)
    | .lnTxstampNs => s.popStamp (4 * i + j)
    | _ => (if r.clears (s.reg r i j) then s.setReg r i j (r.afterRead (s.reg r i j)) else s, v)
  else
    (s.peeked path (match r with
      | .qPopLo => true
      | .lnTxstampNs => true
      | _ => r.clears (s.reg r i j)), v)

end Sys2Proof.Machine
end

