-- ==== Sys2Proof/Machine/RegAccess.lean ====
section
/-! DEFINITION. An access to register space: the checks of R31 in their order, then the effects of a read or a write (R6–R9). -/

namespace Sys2Proof.Machine

/-! ### What a write does -/

/-- A write of the debug block by a path (R511, R514–R517). A write that names both an action and a setting sets first, then acts, in bit
order from the top. -/
def State.writeDebug (s : State) (path : Nat) (r : Rg) (j v : Nat) : State :=
  let k := if r.perPath then path else 0
  let old := s.reg r k j
  let t := s.getF F.dbgEngSel_tile path 0
  match r with
  | .dbgEngCtl =>
    let s := s.setReg r 0 0 (r.written old v)
    let s := if bitAt v 31 then s.engHaltReq path t else s
    let s := if bitAt v 30 then s.engRelease t else s
    if bitAt v 29 then s.engStep path t else s
  | .dbgEngInject => s.feedStart t v
  | .ebrk => State.setReg { s with dbg.ebrk := tput 0 s.dbg.ebrk j (path + 1) } r 0 j (r.written old v)
  | .trcCtl =>
    let s := if bits v 25 16 = bits old 25 16 then s
      else State.setReg (iter 256 (fun i s => s.setReg .trcEntry path i 0) s) r path 0 0
    s.setReg r path 0 (r.written (s.reg r path 0) v)
  | .refDbgCtl =>
    let s := if bitAt v 31 then s.refHaltReq else s
    let s := if bitAt v 30 then s.refRelease else s
    if bitAt v 29 then s.refStep else s
  | .refInject => s.refFeed v
  | .puCtl =>
    if maltarUnit j || (List.range 32).any (fun u => maltarUnit u && decide ((Config.patchBlock u).toNat = bits v 18 0)) then s
    else State.setReg { s with dbg.pu := tput 0 s.dbg.pu j (path + 1) } r 0 j (r.written old v)
  | .puRam => if maltarUnit (j / 16) then s else s.setReg r 0 j v
  | _ => s.setReg r k j (r.written old v)

/-- A write of a tile's register block (R29, R188, R190, R191, R207, R251, R260, R262, R375). -/
def State.writeTile (s : State) (r : Rg) (i j v : Nat) : State :=
  let w := r.written (s.reg r i j) v
  match r with
  | .rtrApply => s.rtrApply i v
  | .routeLo => s.setNi i { s.ni i with stageLo := tput 0 (s.ni i).stageLo j (v + 1) }
  | .routeHi => s.setNi i { s.ni i with stageHi := tput 0 (s.ni i).stageHi j (v + 1) }
  | .routeCtl =>
    let x := s.ni i
    let use (t : Tbl Nat) (old : Nat) : Nat := if tget 0 t j = 0 then old else tget 0 t j - 1
    let s' := s.putRoute i j (use x.stageLo (s.route i j).1) (use x.stageHi (s.route i j).2.1) (r.written 0 v)
    s'.setNi i { x with stageLo := tput 0 x.stageLo j 0, stageHi := tput 0 x.stageHi j 0 }
  | .engCtl =>
    let s := s.setReg r i j w
    if bitAt v 31 then s.engStart i else if bitAt v 30 then s.engStop i else s
  | .engDoorbell => if bitAt v 0 then s.engPend i 13 else s
  | .engWdog => (s.setReg r i j w).wdReload i
  | .qCtl => s.writeQCtl (4 * i + j) v
  | .qPushLo => (s.qPushReg (4 * i + j) r v).1
  | .qPushHi => (s.qPushReg (4 * i + j) r v).1
  | .qPushLastLo => (s.qPushReg (4 * i + j) r v).1
  | .qPushLastHi => (s.qPushReg (4 * i + j) r v).1
  | .qPushAbort => (s.qPushReg (4 * i + j) r v).1
  | .eccLogctlT => if bitAt v 31 then s.eccClear .tile i else s
  | .eccTestT => s.writeEccTestT i v
  | _ => s.setReg r i j w

/-- A write of a quad's register block (R387, R391, R393, R405, R406). -/
def State.writeQuad (s : State) (r : Rg) (i j v : Nat) : State :=
  match r with
  | .quadCtl => s.writeQuadCtl i v
  | .quadReffreq => s.writeReffreq i v
  | .lnCtl => s.writeLnCtl (4 * i + j) v
  | .lnTest => s.writeLnTest (4 * i + j) v
  | .lnTxeq => s.writeTxeq (4 * i + j) v
  | .lnRate => s.writeRate (4 * i + j) false v
  | .lnRateF => s.writeRate (4 * i + j) true v
  | _ => s.setReg r i j (r.written (s.reg r i j) v)

/-- A write of a device-wide, seam, stack, DMA or host port register block. -/
def State.writeDevice (s : State) (q : Rq) (r : Rg) (i j v : Nat) : State :=
  let w := r.written (s.reg r i j) v
  match r with
  | .evRaise => (s.evRaise q.tenant j v).1
  | .tkCtl => s.writeTkCtl j v q.tenant (q.mclass = 4)
  | .tkAlarmNs => (s.setReg r i j w).alarmSet j
  | .tkAlarmSecLo => (s.setReg r i j w).alarmSet j
  | .tkAlarmSecHi => (s.setReg r i j w).alarmSet j
  | .tkAlarmPeriod => (s.setReg r i j w).alarmSet j
  | .timeCtl => (s.setReg r i j w).sourceSet (s.flag F.timeCtl_source 0 0)
  | .tripLog => if bitAt v 31 then { s.setReg r i j w with pw.tripRec := none } else s
  | .carCtl => s.writeCarCtl v
  | .syCtl => s.writeSyCtl j v
  | .syFrac => s.writeSyFrac j v
  | .gcCtl => s.writeGcCtl j v
  | .fcCtl => s.writeFcCtl j v
  | .leafGate => s.writeLeaf j v
  | .seamReset => s.writeSeamReset i v
  | .eccLogctlD => if bitAt v 31 then s.eccClear .store i else s
  | .eccLogctlS => if bitAt v 31 then s.eccClear .stack i else s
  | .eccTestS => s.writeEccTestS i v
  | .hbmCtl => s.writeHbmCtl i v
  | .hbmRt => (s.setReg r i j w).panicUpdate i
  | .hbmDelay => if s.selfRefresh i then s.setReg r i j w else s
  | .chCtl => s.writeChCtl (32 * i + j) v
  | _ => s.setReg r i j w

/-- Write one register. A reserved encoding leaves the whole register as it was (R8). -/
def State.writeReg (s : State) (q : Rq) (r : Rg) (i j v : Nat) : State :=
  if !r.okWrite v then s
  else match r.info.blk with
    | .dbg => s.writeDebug q.path r j v
    | .tile => s.writeTile r i j v
    | .quad => s.writeQuad r i j v
    | _ => s.writeDevice q r i j v

/-! ### The checks of R31 -/

/-- The registers that an access of `n` bytes reaches: one of 4 aligned bytes, or two of 8 (R6); none where one of them does not exist
(R28). -/
def regsAt (a n : Nat) : Option (List (Rg × Nat × Nat)) :=
  if n = 4 ∧ a % 4 = 0 then (regAt a).map (fun x => [x])
  else if n = 8 ∧ a % 8 = 0 then
    (match regAt a, regAt (a + 4) with
     | some x, some y => some [x, y]
     | _, _ => none)
  else none

/-- The requester holds the right for one register: R31 step 2, ownership of the lines that EV_RAISE names (R209), and the scope of a debug
path over the engine that a debug register acts on (R507). -/
def State.regRight (s : State) (q : Rq) (wr : Bool) (r : Rg) (i j v : Nat) : Bool :=
  (if wr then s.mayWrite q r i j else s.mayRead q r i j) &&
  (match r with
   | .evRaise => !wr || ((List.range 32).filter (fun k => bitAt v k)).all (fun k => decide (s.lineOwner (32 * j + k) = q.tenant))
   | .dbgEngCtl => s.dbgCovers q.path (s.getF F.dbgEngSel_tile q.path 0)
   | .dbgEngInject => s.dbgCovers q.path (s.getF F.dbgEngSel_tile q.path 0)
   | .dbgEngStatus => s.dbgCovers q.path (s.getF F.dbgEngSel_tile q.path 0)
   | .dbgEngSample => s.dbgCovers q.path (s.getF F.dbgEngSel_tile q.path 0)
   | .ebrk => !wr || s.dbgCovers q.path (bits v 25 16)
   | .trcCtl => !wr || s.dbgCovers q.path (bits v 25 16)
   | .trcEntry => s.dbgCovers q.path (s.getF F.trcCtl_tile q.path 0)
   | _ => true)

/-- The target's own answer for one register: the engine and queue parts of a fenced tile (R29, R31, R191), and the push and pop registers
of a queue (R200, R205). `eff`: not a peek. -/
def State.regCode (s : State) (wr eff : Bool) (r : Rg) (i j : Nat) : Nat :=
  let k := 4 * i + j
  if r.info.blk = .tile ∧ 0x8000 ≤ r.info.off ∧ s.niFenced i then svcFenced
  else match r with
    | .qPushLo => if wr then (s.qPushReg k r 0).2 else svcOK
    | .qPushHi => if wr then (s.qPushReg k r 0).2 else svcOK
    | .qPushLastLo => if wr then (s.qPushReg k r 0).2 else svcOK
    | .qPushLastHi => if wr then (s.qPushReg k r 0).2 else svcOK
    | .qPushAbort => if wr then (s.qPushReg k r 0).2 else svcOK
    | .qPopLo => if !wr && eff && decide (s.qCons k ≠ 3) then svcFenced else svcOK
    | _ => svcOK

/-- The parts of an access: register, instance (the path's own copy where there is one for each path, R517), index and byte offset. -/
def regParts (q : Rq) (l : List (Rg × Nat × Nat)) : List (Rg × Nat × Nat × Nat) :=
  l.zipIdx.map (fun x => (x.1.1, if x.1.1.perPath then q.path else x.1.2.1, x.1.2.2, 4 * x.2))

/-- Serve an access to register space: address and width, then rights, then the target, then the effects, lower register first (R6, R31). -/
def State.regAccess (s : State) (q : Rq) (eff : Bool) (op : NOp) (a n : Nat) (data : List Byte) : Served :=
  match regsAt a n with
  | none => refused s svcAddress
  | some l =>
    let l := regParts q l
    let wr := decide (op = .write)
    if !(op = .read ∨ op = .write) then refused s svcAddress
    else if l.any (fun x => !s.regRight q wr x.1 x.2.1 x.2.2.1 (leAt data x.2.2.2 4)) then refused s svcDenied
    else match l.find? (fun x => decide (s.regCode wr eff x.1 x.2.1 x.2.2.1 ≠ 0)) with
      | some x => refused s (s.regCode wr eff x.1 x.2.1 x.2.2.1)
      | none =>
        if wr then (l.foldl (fun s x => s.writeReg q x.1 x.2.1 x.2.2.1 (leAt data x.2.2.2 4)) s, svcOK, [])
        else
          let (s, d) := l.foldl (fun (y : State × List Byte) x =>
            let (s, v) := y.1.readReg eff q.path x.1 x.2.1 x.2.2.1
            (s, y.2 ++ leBytes 4 v)) (s, [])
          (s, svcOK, d)

/-- A network request to register space, served by its destination. -/
def State.serveReg (s : State) (r : Req) : State :=
  s.serve r (niOf r.dst) (fun s => some (s.regAccess r.rq true r.op r.addr r.size r.data))

end Sys2Proof.Machine
end

