-- ==== Sys2Proof/Machine/DbgCmd.lean ====
section
/-! DEFINITION. Debug accesses, the mailbox debug commands and the TAP (23_debug.md R504–R513; 21 R489). Paths: 0–3 HP0–HP3, 4 MP, 5
the TAP. -/

namespace Sys2Proof.Machine

/-! ### One access of the debug master (R507, R510) -/

/-- A request of the debug master to a tile's aperture or to HBM, which the network carries. -/
def State.dbgSend (s : State) (path : Nat) (op : NOp) (a : Nat) (data : List Byte) : State × Option Nat :=
  let q := s.dbgRq path
  s.issue (.debug path) { mkReq op a 4 q.tenant 3 17 6 data with scopeAll := q.scopeAll, path := path }

/-- One 32-bit access: its service code and data at once for registers, none while the network carries it (R507, R510). -/
def State.dbgWord (s : State) (path : Nat) (eff : Bool) (op : NOp) (a : Nat) (data : List Byte) : State × Option (Nat × List Byte) :=
  if a < 0x1800000000 || (aperture a).isSome then
    (match s.dbgSend path op a data with
     | (s, some 0) => (s, none)
     | (s, some code) => (s, some (code, []))
     | (s, none) => (s, some (svcBusy, [])))
  else
    if !reqShape op a 4 then (s, some (svcAddress, []))
    else
      let r := s.regAccess (s.dbgRq path) eff op a 4 data
      (r.1, some r.2)

/-! ### Mailbox commands (R489) -/

/-- Words read one after another: ended with a code, or waiting for the network with the words so far; address, words left, bytes. -/
def State.peekRun : Nat → State → Nat → Bool → Nat → List Byte → State × Option Nat × List Byte × Nat
  | 0, s, _, _, _, acc => (s, some 0, acc, 0)
  | n + 1, s, path, eff, a, acc =>
    match s.dbgWord path eff .read a [] with
    | (s, none) => (s, none, acc, n + 1)
    | (s, some (code, d)) => if code = 0 then State.peekRun n s path eff (a + 4) (acc ++ d) else (s, some code, acc, 0)

/-- Payload of a DBG_PEEK reply. -/
def peekPay (code : Nat) (d : List Byte) : List Byte := leBytes 8 code ++ d

/-- The path's access is in progress: Maltar takes no further DBG_PEEK or DBG_POKE of it (R473). -/
def State.dbgBusy (s : State) (path : Nat) : Bool := !(s.opsOn path [0x0813, 0x0814]).isEmpty

/-- A register that only the TAP may use (R513). -/
def tapOnly (a : Nat) : Bool :=
  match regAt a with
  | some (r, _, _) => (match r.writer with | .debug tap => tap | _ => false) || r = .refPc
  | none => false

/-- The address lies in memory of the path's tenant (R333). -/
def State.dbgOwnMem (s : State) (path a : Nat) : Bool :=
  decide (a < 0x1800000000) && decide (s.unitOwner (s.hbmLocal a).1 (unitOf (s.hbmLocal a).2) = (s.dbgRq path).tenant)

/-- An access denied for its scope is refused with NOT_AUTHORIZED on a mailbox path; one that the rights of the tenant's own memory or window deny
keeps DENIED_RIGHTS (R341, R507). -/
def State.dbgScopeRefuses (s : State) (path a code : Nat) : Bool :=
  decide (code = svcDenied) && s.scopeTenant path && !tapOnly a && !s.dbgOwnMem path a

def cmdDbgChallenge : Body := fun c s =>
  if 5 ≤ c.port then refuse s 0x13
  else
    let level := c.num 0 1
    let scope := c.num 1 1 = 1
    match s.challengeCode c.port level scope with
    | 0 =>
      let (s, n) := s.challenge c.port level scope c.tenant
      (s, .done 0 n)
    | code => refuse s code

/-- A response of the path is being verified: Maltar takes no further DBG_CHALLENGE or DBG_RESPONSE of it, since it executes commands one at a time
(R473, R505). -/
def State.dbgVerifies (s : State) (path : Nat) : Bool := decide (path < 5) && (s.dpath path).sig.isSome

/-- Without a valid nonce nothing is verified, and the response is refused. -/
def cmdDbgResponse : Body := fun c s =>
  if 5 ≤ c.port then refuse s 0x13
  else
    let x := s.dpath c.port
    if x.nonce = 0 then refuse s 0x13
    else (State.addWait (s.setDpath c.port { x with sig := some c.pay, mbox := some c.mbox }) (c.op c.port []), .wait)

def cmdDbgDrop : Body := fun c s => (if c.port < 5 then s.dropAuth c.port else s, .done 0 [])

def cmdDbgStatus : Body := fun c s =>
  let v := if c.port < 5 then s.reg .dbgStatus c.port 0 else 0
  (s, .done 0 (leBytes 1 (bits v 31 30) ++ leBytes 1 (bits v 29 29) ++ leBytes 1 (bits v 25 25 + 2 * bits v 24 24)))

/-- The port holds FULL over a tile (R489, R507). -/
def State.dbgFull (s : State) (p t : Nat) : Bool := decide (p < 5) && decide (s.level p = 2) && s.dbgCovers p t

def cmdDbgHalt : Body := fun c s =>
  let t := c.num 0 2
  if !s.dbgFull c.port t then refuse s 0x13
  else
    let e := s.engine t
    if e.run = .running ∨ e.run = .idle then (State.addWait (s.engHaltReq c.port t) (c.op t []), .wait) else (s, .done 0 [])

def cmdDbgResume : Body := fun c s =>
  let t := c.num 0 2
  if !s.dbgFull c.port t then refuse s 0x13 else (s.engRelease t, .done 0 [])

/-- An engine that is not HALTED cannot take a word. -/
def cmdDbgFeed : Body := fun c s =>
  let t := c.num 0 2
  if !s.dbgFull c.port t then refuse s 0x13
  else if (s.engine t).run ≠ .halted then refuse s 0x10
  else if (s.feed t).busy then refuse s 0x15
  else
    let s := s.feedStart t (c.num 4 4)
    if (s.feed t).busy then (s.addWait (c.op t []), .wait) else (s, .done 0 [])

def cmdDbgPeek : Body := fun c s =>
  let eff := bitAt (c.num 9 1) 0
  let a := c.num 0 8
  if 5 ≤ c.port ∨ s.level c.port < (if eff then 2 else 1) then refuse s 0x13
  else match s.peekRun (c.num 8 1) c.port eff a [] with
    | (s', none, acc, left) => (s'.addWait (c.op c.port ([a + acc.length, left, b2n eff] ++ acc.map BitVec.toNat)), .wait)
    | (s', some code, acc, _) => if acc.isEmpty ∧ s.dbgScopeRefuses c.port a code then refuse s 0x13 else (s', .done 0 (peekPay code acc))

def cmdDbgPoke : Body := fun c s =>
  let a := c.num 0 8
  if 5 ≤ c.port ∨ s.level c.port < 2 then refuse s 0x13
  else match s.dbgWord c.port true .write a (leBytes 4 (c.num 8 4)) with
    | (s', none) => (s'.addWait (c.op c.port [a]), .wait)
    | (s', some (code, _)) => if s.dbgScopeRefuses c.port a code then refuse s 0x13 else (s', .done 0 (leBytes 1 code))

/-- DBG_CHALLENGE: any tenant; device-wide scope T0 only. A relayed command has no port of this device, and so no path (R489). -/
def execDbgChallenge (p : Port) (m : Mbox) (s : State) : Out := .next (if s.dbgVerifies p then s else takeMailbox 0x0800 cmdDbgChallenge p m s)
/-- DBG_RESPONSE. -/
def execDbgResponse (p : Port) (m : Mbox) (s : State) : Out := .next (if s.dbgVerifies p then s else takeMailbox 0x0801 cmdDbgResponse p m s)
/-- DBG_DROP. -/
def execDbgDrop (p : Port) (m : Mbox) (s : State) : Out := .next (takeMailbox 0x0802 cmdDbgDrop p m s)
/-- DBG_STATUS. -/
def execDbgStatus (p : Port) (m : Mbox) (s : State) : Out := .next (takeMailbox 0x0803 cmdDbgStatus p m s)
/-- DBG_HALT: answered once the engine is HALTED (R263). -/
def execDbgHalt (p : Port) (m : Mbox) (s : State) : Out := .next (takeMailbox 0x0810 cmdDbgHalt p m s)
/-- DBG_RESUME. -/
def execDbgResume (p : Port) (m : Mbox) (s : State) : Out := .next (takeMailbox 0x0811 cmdDbgResume p m s)
/-- DBG_FEED: answered once the word has completed (R511). -/
def execDbgFeed (p : Port) (m : Mbox) (s : State) : Out := .next (takeMailbox 0x0812 cmdDbgFeed p m s)
/-- DBG_PEEK (R510). -/
def execDbgPeek (p : Port) (m : Mbox) (s : State) : Out := .next (if s.dbgBusy p then s else takeMailbox 0x0813 cmdDbgPeek p m s)
/-- DBG_POKE (R507). -/
def execDbgPoke (p : Port) (m : Mbox) (s : State) : Out := .next (if s.dbgBusy p then s else takeMailbox 0x0814 cmdDbgPoke p m s)

/-! ### The TAP (R508, R509, R512, R513) -/

/-- The TAP answers: the supplies are valid (R51). -/
def State.tapOn (s : State) : Bool := decide (s.pw.mode ≠ .off)

/-- The identification register of a silicon revision: the revision, 0x1260, 0x2B5, 1 (R508). -/
def idcodeOf (rev : Nat) : Nat := 0x0126056B + 2 ^ 28 * (rev % 16)

/-- The identification register of this device. -/
def idcode : Nat := idcodeOf (Config.partFact 4).toNat

/-- DBG_AUTH as captured: STATE, the level held, and the nonce while one is valid (R512). -/
def State.authCapture (s : State) : Nat :=
  let x := s.dpath 5
  x.tap * 2 ^ 797 + s.level 5 * 2 ^ 795 + (if x.nonce = 0 then 0 else (Config.freeNonce (x.nonce - 1)).toNat)

/-- DBG_ACCESS as captured: BUSY, PEEKED, the service code, the address and the data read (R513). -/
def State.accessCapture (s : State) : Nat :=
  b2n s.dbg.accBusy * 2 ^ 87 + b2n s.dbg.accPeek * 2 ^ 86 + s.dbg.accSvc * 2 ^ 80 + s.dbg.accAddr * 2 ^ 32 + s.dbg.accData

/-- What Capture-DR loads under an instruction (R508, R509, R512, R513). -/
def State.tapCapture (s : State) (op : Nat) : Nat :=
  match op with
  | 0x01 => idcode
  | 0x02 => s.dbg.boundary
  | 0x03 => s.dbg.boundary
  | 0x06 => s.dbg.boundary
  | 0x07 => s.dbg.boundary
  | 0x10 => s.authCapture
  | 0x11 => s.accessCapture
  | _ => 0

/-- Select an instruction, and capture its data register; pins that a boundary instruction drives return to R51 (R508, R509). -/
def State.tapIr (s : State) (op : Nat) : State := { s with dbg.ir := op, dbg.drive := 0, dbg.dr := s.tapCapture op }

/-- A pin instruction may take effect: RESET_N low, or device-wide FULL on the TAP (R509). -/
def State.pinTest (s : State) : Bool := !s.pw.resetN || s.fullAll 5

/-- Select an instruction that drives the pins, where it is allowed; otherwise BYPASS (R509). -/
def State.tapDrive (s : State) (op drive : Nat) : State :=
  if s.pinTest then { s with dbg.ir := op, dbg.drive := drive, dbg.dr := s.tapCapture op } else s.tapIr 0xFF

/-- TAP_RESET: Test-Logic-Reset: the authorization and its exchange are dropped, IDCODE is selected, the pins return to R51 (R506, R508,
R509). -/
def execTapReset (s : State) : Out :=
  .next (if !s.tapOn then s
    else
      let s := (s.dropAuth 5).dropExchange 5
      State.tapIr (s.setDpath 5 { s.dpath 5 with tap := if (s.dpath 5).locked then 5 else 0 }) 0x01)

/-- IDCODE (R508). -/
def execIdcode (s : State) : Out := .next (if s.tapOn then s.tapIr 0x01 else s)

/-- SAMPLE/PRELOAD: the boundary register takes the cells captured from the pins, or those shifted in (R509). -/
def execSamplePreload (cells : BitVec 2896) (s : State) : Out :=
  .next (if s.tapOn then { s.tapIr 0x02 with dbg.boundary := cells.toNat, dbg.dr := cells.toNat } else s)

/-- EXTEST (R509). -/
def execExtest (s : State) : Out := .next (if s.tapOn then s.tapDrive 0x03 1 else s)
/-- HIGHZ (R509). -/
def execHighz (s : State) : Out := .next (if s.tapOn then s.tapDrive 0x04 2 else s)
/-- CLAMP (R509). -/
def execClamp (s : State) : Out := .next (if s.tapOn then s.tapDrive 0x05 3 else s)
/-- EXTEST_PULSE (R509). -/
def execExtestPulse (s : State) : Out := .next (if s.tapOn then s.tapDrive 0x06 4 else s)
/-- EXTEST_TRAIN (R509). -/
def execExtestTrain (s : State) : Out := .next (if s.tapOn then s.tapDrive 0x07 5 else s)
/-- BYPASS, or an undefined opcode (R508). -/
def execBypass (s : State) : Out := .next (if s.tapOn then s.tapIr 0xFF else s)

/-- AUTH_CHALLENGE: OP 1 of DBG_AUTH. Level 0 and 3 are no levels; STATE becomes nonce ready, refused or locked out (R505, R512). -/
def execAuthChallenge (level : Fin 4) (scope : Bool) (tenant : Tenant) (s : State) : Out :=
  .next (if !s.tapOn then s
    else
      let s := s.tapIr 0x10
      if level.val = 0 ∨ level.val = 3 then s
      else match s.challengeCode 5 level scope with
        | 0 => (s.challenge 5 level scope (if scope then tenant else 0)).1
        | code => s.setDpath 5 { s.dpath 5 with nonce := 0, sig := none, tap := if code = 0x15 then 5 else 4 })

/-- AUTH_RESPONSE: OP 2 of DBG_AUTH: the 96 bytes of r and s (R505, R512). -/
def execAuthResponse (sig : List Byte) (s : State) : Out :=
  .next (if !s.tapOn then s
    else
      let s := s.tapIr 0x10
      let x := s.dpath 5
      if sig.length ≠ 96 ∨ x.sig.isSome then s
      else if x.nonce = 0 then s.setDpath 5 { x with tap := if x.locked then 5 else 4 }
      else s.setDpath 5 { x with sig := some sig, tap := 2 })

/-- AUTH_DROP: OP 3 of DBG_AUTH (R506, R512). -/
def execAuthDrop (s : State) : Out :=
  .next (if !s.tapOn then s
    else
      let s := s.tapIr 0x10
      State.dropAuth (s.setDpath 5 { s.dpath 5 with tap := if (s.dpath 5).locked then 5 else 0 }) 5)

/-- The result of an access for the next Capture-DR of DBG_ACCESS (R513). -/
def State.accDone (s : State) (code : Nat) (d : List Byte) : State :=
  { s with
    dbg.accBusy := false
    dbg.accSvc := code
    dbg.accData := leAt d 0 4 }

/-- One access through DBG_ACCESS; discarded while the previous one has not completed. Nothing is accessed without the level it needs. While
RESET_N holds the device nothing is accessed, and the manual states no answer: code and data are free values (R36, R507, R513). -/
def State.tapAccess (s : State) (need : Nat) (eff : Bool) (op : NOp) (a : Nat) (data : List Byte) : State :=
  if !s.tapOn then s
  else
    let s := s.tapIr 0x11
    if s.dbg.accBusy then s
    else
      let s := { s with dbg.accAddr := a, dbg.accPeek := false, dbg.accData := 0 }
      if s.level 5 < need then s.accDone svcDenied []
      else if !s.pw.resetN ∨ s.pw.tripped then
        State.accDone { s with free := s.free + 2 } ((Config.freeWord s.free).toNat % 11) (leBytes 4 (Config.freeWord (s.free + 1)).toNat)
      else
        let was := s.getF F.dbgStatus_peeked 5 0
        match State.dbgWord (s.setF F.dbgStatus_peeked 5 0 0) 5 eff op a data with
        | (s, none) => State.setF { s with dbg.accBusy := true } F.dbgStatus_peeked 5 0 was
        | (s, some (code, d)) =>
          let p := s.getF F.dbgStatus_peeked 5 0
          State.setF (State.accDone { s with dbg.accPeek := decide (p = 1) } code d) F.dbgStatus_peeked 5 0 (max was p)

/-- ACCESS_READ: CMD 1, a peek read (R510, R513). -/
def execAccessRead (a : NetAddr) (s : State) : Out := .next (s.tapAccess 1 false .read a.toNat [])
/-- ACCESS_WRITE: CMD 2 (R513). -/
def execAccessWrite (a : NetAddr) (w : Word32) (s : State) : Out := .next (s.tapAccess 2 true .write a.toNat (leBytes 4 w.toNat))
/-- ACCESS_EFFECTFUL_READ: CMD 3 (R510, R513). -/
def execAccessEffectfulRead (a : NetAddr) (s : State) : Out := .next (s.tapAccess 2 true .read a.toNat [])

/-! ### Responses to the debug master -/

/-- A response, or a timeout, of a request that the network carried for a path: the TAP's access ends; a DBG_PEEK goes on with its next
word; a DBG_POKE is answered. -/
def State.dbgResp (s : State) (path svc : Nat) (data : List Byte) : State :=
  if path = 5 then s.accDone svc data
  else match (s.opsOn path [0x0813, 0x0814]).head? with
    | none => s
    | some o =>
      if o.opcode = 0x0814 then
        (if s.dbgScopeRefuses path (o.args.getD 0 0) svc then s.finishOp o 0x13 0 0 [] else s.finishOp o 0 0 0 (leBytes 1 svc))
      else
        let a := o.args.getD 0 0
        let n := o.args.getD 1 0
        let eff := decide (o.args.getD 2 0 = 1)
        let acc := (o.args.drop 3).map (BitVec.ofNat 8)
        if svc ≠ 0 then
          (if acc.isEmpty ∧ s.dbgScopeRefuses path a svc then s.finishOp o 0x13 0 0 [] else s.finishOp o 0 0 0 (peekPay svc acc))
        else match s.peekRun (n - 1) path eff (a + 4) (acc ++ data) with
          | (s, some code, acc, _) => s.finishOp o 0 0 0 (peekPay code acc)
          | (s, none, acc, left) =>
            { s with hosts.ops := s.hosts.ops.map (fun x => if x = o then { x with args := [a + (acc.length - (o.args.length - 3)), left, b2n eff] ++ acc.map BitVec.toNat } else x) }

end Sys2Proof.Machine
end

