-- ==== Sys2Proof/Machine/Deliver.lean ====
section
/-! DEFINITION. Delivery of event pulses to the sinks of a die (08 R208–R212; 10 R251; 11 R280; 18 R419). -/

namespace Sys2Proof.Machine

/-- A pulse on line `l` reaches tile t: its counters, its receive ports while their clocks can run, and its engine's sources (R210, R211, R251). Pulses
that come before a receive port's next edge are presented as one. -/
def State.pulseTile (s : State) (l t : Nat) : State :=
  let c := s.tcfg t
  let s := iter 4 (fun k s =>
    if c.cnts.getD k 256 = l then
      { s with evs.evcnt := tput 0 s.evs.evcnt (4 * t + k) ((tget 0 s.evs.evcnt (4 * t + k) + 1) % 2 ^ 32) }
    else s) s
  let s := iter 8 (fun p s =>
    if c.recv.getD p 256 = l ∧ s.tileClock t then { s with evs.due := tput false s.evs.due (8 * t + p) true }
    else s) s
  iter 8 (fun k s =>
    if bits (s.reg (if k < 4 then .engEvselLo else .engEvselHi) t 0) (8 * (k % 4) + 7) (8 * (k % 4)) = l then s.engPend t k else s) s

/-- A pulse on line `l` reaches every sink of die d that is enabled on it. DESIGN CHOICE (log entry 114): the event line registers and the timekeepers lie
in die 0's blocks, and count and capture a pulse as it is delivered there. -/
def State.pulse (s : State) (d l : Nat) : State :=
  let s := if d = 0 then s.wrap F.evCount_count 0 l 1 else s
  let s := iter 256 (fun t s => s.pulseTile l (256 * d + t)) s
  let s := s.dmaTrigger d l
  if d = 0 then iter 8 (fun n s => if s.getF F.tkCapCtl_capSrc 0 n = 2 ∧ s.getF F.tkCtl_capEv 0 n = l then s.capture n else s) s else s

/-- EVENT_DELIVERY: the oldest `n` pulses, raised in one slot, are delivered on their dies; several on one line are one pulse, counted once in MERGED
(R208). -/
def execEventDelivery (n : Nat) (s : State) : Out :=
  let now := s.evs.waiting.take n
  let s := { s with evs.waiting := s.evs.waiting.drop n }
  .next (now.eraseDups.foldl (fun s w =>
    let s := if 1 < now.count w ∧ w / 256 = 0 then s.count F.evErrors_merged 0 0 1 else s
    s.pulse (w / 256) (w % 256)) s)

end Sys2Proof.Machine
end

