-- ==== Sys2Proof/Machine/EngineArith.lean ====
section
/-! DEFINITION. The signal engine's multiply, accumulator, D-register, load, store and move instructions (10 R239–R243; 09 R222–R232).
A row issues the instruction at the engine's program counter when it is the one the row names. -/

namespace Sys2Proof.Machine

/-! ### Multiply group (R239) -/

/-- The two operands of a multiply, and what reading them and the parallel move do (R239). -/
def Engine.mulOperands (e : Engine) (c : Nat) (src : MSrc) : Nat × Nat × Fx :=
  match src with
  | .dd m n mv => (e.rd m (c + 3), e.rd n (c + 3), e.pmove c mv)
  | .dm m so =>
    let (v, f) := e.soRead c so
    (e.rd m (c + 3), v, f)
  | .xy x y =>
    let (a, f) := e.opRead c x.px 0 false x.am
    let (b, g) := e.opRead c (4 + y.py.val) 2 true y.am
    (a, b, f.and g)
  | .yp y pp mv =>
    let (a, f) := e.opRead c (4 + y.py.val) 2 true y.am
    let (pa, g) := e.addr (n := 1) c (if pp then 7 else 6) 0 .inc
    let r := e.progOperand pa
    (a, r.val, (f.and g).and (Fx.and ⟨[], [r]⟩ (e.pmove c mv)))

/-- A multiply: the product with FRAC of stage M, added to, subtracted from or replacing the accumulator of stage X, and rounded in the
R forms; the flags describe the final value (R222, R223, R239). `sign` 0 replaces. -/
def planMul (a : Bool) (src : MSrc) (sign : Int) (round : Bool) (e : Engine) : Plan :=
  let c := e.now
  let (x, y, f) := e.mulOperands c src
  let p := product (stFRAC (e.rd rST (c + 4))) x y
  let st := e.rd rST (c + 5)
  let exact := if sign = 0 then p else sgn 40 (e.rd (rAC a) (c + 5)) + sign * p
  let (v, w) := accResult (stSATA st) a exact 0
  let (v, w) := if round then accRound (stSATA st) a (bits st 13 12) v w.sticky else (v, w)
  { Plan.of (f.and ⟨[e.wr (rAC a) (2 ^ 40 - 1) v (c + 5), e.wrSt w (c + 5)], []⟩) with
    prog := match src with | .yp _ _ _ => true | _ => false }

/-- MPY: Ad := p. -/
def execMpy (t : Tile) (s : State) : Out :=
  .next (s.issueOp t fun op => match op with | .mul .mpy a src => some (fun s => planMul a src 0 false (s.engine t)) | _ => none)
/-- MAC: Ad := Ad + p. -/
def execMac (t : Tile) (s : State) : Out :=
  .next (s.issueOp t fun op => match op with | .mul .mac a src => some (fun s => planMul a src 1 false (s.engine t)) | _ => none)
/-- MSU: Ad := Ad − p. -/
def execMsu (t : Tile) (s : State) : Out :=
  .next (s.issueOp t fun op => match op with | .mul .msu a src => some (fun s => planMul a src (-1) false (s.engine t)) | _ => none)
/-- MPYR: MPY, rounded. -/
def execMpyr (t : Tile) (s : State) : Out :=
  .next (s.issueOp t fun op => match op with | .mul .mpyr a src => some (fun s => planMul a src 0 true (s.engine t)) | _ => none)
/-- MACR: MAC, rounded. -/
def execMacr (t : Tile) (s : State) : Out :=
  .next (s.issueOp t fun op => match op with | .mul .macr a src => some (fun s => planMul a src 1 true (s.engine t)) | _ => none)
/-- MSUR: MSU, rounded. -/
def execMsur (t : Tile) (s : State) : Out :=
  .next (s.issueOp t fun op => match op with | .mul .msur a src => some (fun s => planMul a src (-1) true (s.engine t)) | _ => none)

/-! ### Accumulator group (R240) -/

/-- An accumulator as an integer, in stage X. -/
def Engine.acc (e : Engine) (b : Bool) : Int := sgn 40 (e.rd (rAC b) (e.now + 5))

/-- An accumulator operation with its exact result (R223, R240). -/
def planAcc (ad : Bool) (mv : Option PMove) (exact : Int) (e : Engine) : Plan :=
  let c := e.now
  let (v, w) := accResult (stSATA (e.rd rST (c + 5))) ad exact 0
  Plan.of ((e.pmove c mv).and ⟨[e.wr (rAC ad) (2 ^ 40 - 1) v (c + 5), e.wrSt w (c + 5)], []⟩)

/-- The operand of ADDD and SUBD: Dn × 2^16, shifted right arithmetically by SH; Dn is read in stage R (R240). -/
def Engine.dOperand (e : Engine) (dn : Nat) (sh : Nat) : Int := sgn 16 (e.rd dn (e.now + 3)) * 65536 / 2 ^ sh

/-- ADD: Ad := Ad + As. -/
def execAdd (t : Tile) (s : State) : Out :=
  .next (s.issueOp t fun op => match op with
    | .acc .add ad as mv => some (fun s => planAcc ad mv ((s.engine t).acc ad + (s.engine t).acc as) (s.engine t)) | _ => none)
/-- SUB: Ad := Ad − As. -/
def execSub (t : Tile) (s : State) : Out :=
  .next (s.issueOp t fun op => match op with
    | .acc .sub ad as mv => some (fun s => planAcc ad mv ((s.engine t).acc ad - (s.engine t).acc as) (s.engine t)) | _ => none)
/-- ADDD: Ad := Ad + the shifted Dn. -/
def execAddd (t : Tile) (s : State) : Out :=
  .next (s.issueOp t fun op => match op with
    | .accd false ad dn sh mv => some (fun s => planAcc ad mv ((s.engine t).acc ad + (s.engine t).dOperand dn sh) (s.engine t)) | _ => none)
/-- SUBD: Ad := Ad − the shifted Dn. -/
def execSubd (t : Tile) (s : State) : Out :=
  .next (s.issueOp t fun op => match op with
    | .accd true ad dn sh mv => some (fun s => planAcc ad mv ((s.engine t).acc ad - (s.engine t).dOperand dn sh) (s.engine t)) | _ => none)
/-- NEG: Ad := −As. -/
def execNeg (t : Tile) (s : State) : Out :=
  .next (s.issueOp t fun op => match op with
    | .acc .neg ad as mv => some (fun s => planAcc ad mv (-(s.engine t).acc as) (s.engine t)) | _ => none)
/-- ABS: Ad := |As|. -/
def execAbs (t : Tile) (s : State) : Out :=
  .next (s.issueOp t fun op => match op with
    | .acc .abs ad as mv => some (fun s => planAcc ad mv (((s.engine t).acc as).natAbs : Int) (s.engine t)) | _ => none)
/-- CLR: Ad := 0; sets Z, clears N and V. -/
def execClr (t : Tile) (s : State) : Out :=
  .next (s.issueOp t fun op => match op with
    | .clr ad mv => some (fun s =>
        let e := s.engine t
        Plan.of ((e.pmove e.now mv).and ⟨[e.wr (rAC ad) (2 ^ 40 - 1) 0 (e.now + 5), e.wrSt ⟨stZ + stN + stV, stZ⟩ (e.now + 5)], []⟩))
    | _ => none)
/-- RND: Ad := As rounded (R224). -/
def execRnd (t : Tile) (s : State) : Out :=
  .next (s.issueOp t fun op => match op with
    | .acc .rnd ad as mv => some (fun s =>
        let e := s.engine t
        let st := e.rd rST (e.now + 5)
        let (v, w) := accRound (stSATA st) ad (bits st 13 12) (e.rd (rAC as) (e.now + 5)) 0
        Plan.of ((e.pmove e.now mv).and ⟨[e.wr (rAC ad) (2 ^ 40 - 1) v (e.now + 5), e.wrSt w (e.now + 5)], []⟩))
    | _ => none)
/-- SHL: Ad := As × 2^(SH + 1), the exact result taken without a width limit. -/
def execShl (t : Tile) (s : State) : Out :=
  .next (s.issueOp t fun op => match op with
    | .shl ad as sh mv => some (fun s => planAcc ad mv ((s.engine t).acc as * 2 ^ (sh.val + 1)) (s.engine t)) | _ => none)
/-- SHR: Ad := As shifted right arithmetically by SH + 1. -/
def execShr (t : Tile) (s : State) : Out :=
  .next (s.issueOp t fun op => match op with
    | .shr ad as sh mv => some (fun s => planAcc ad mv ((s.engine t).acc as / 2 ^ (sh.val + 1)) (s.engine t)) | _ => none)
/-- MOVA: Ad := As. -/
def execMova (t : Tile) (s : State) : Out :=
  .next (s.issueOp t fun op => match op with
    | .acc .mova ad as mv => some (fun s => planAcc ad mv ((s.engine t).acc as) (s.engine t)) | _ => none)
/-- EXP: Dn := headroom of As; no flag changes (R230). -/
def execExp (t : Tile) (s : State) : Out :=
  .next (s.issueOp t fun op => match op with
    | .exp as dn mv => some (fun s =>
        let e := s.engine t
        Plan.of ((e.pmove e.now mv).and ⟨[e.wr dn 0xFFFF (unsgn 16 (headroom (e.rd (rAC as) (e.now + 5)))) (e.now + 5)], []⟩))
    | _ => none)
/-- NORM: Ad shifted to normal form, Dn := Dn + h; N and Z from the result, V cleared; zero changes neither (R231). -/
def execNorm (t : Tile) (s : State) : Out :=
  .next (s.issueOp t fun op => match op with
    | .norm ad dn mv => some (fun s =>
        let e := s.engine t
        let c := e.now
        let a := e.rd (rAC ad) (c + 5)
        let v := normShift a
        Plan.of ((e.pmove c mv).and ⟨[e.wr (rAC ad) (2 ^ 40 - 1) v (c + 5), e.wrSt ⟨stZ + stN + stV, zn40 v⟩ (c + 5)] ++
          (if a = 0 then [] else [e.wr dn 0xFFFF (unsgn 16 ((e.rd dn (c + 5) : Int) + headroom a)) (c + 5)]), []⟩))
    | _ => none)

/-! ### D-register arithmetic (R241) -/

/-- The operand b. -/
def Engine.dSrc (e : Engine) : DSrc → Nat
  | .reg t => e.rd t (e.now + 3)
  | .imm v => v

/-- D-register arithmetic: sources in stage R, result and flags at the end of stage X. CMP writes no register. -/
def planD (op : DOp) (dd : Option Nat) (ds : Nat) (b : DSrc) (e : Engine) : Plan :=
  let (r, cy) := dAlu op (e.rd ds (e.now + 3)) (e.dSrc b)
  Plan.of ⟨(match dd with | some d => [e.wr d 0xFFFF r (e.now + 5)] | none => []) ++ [e.wrSt (dFlags r cy) (e.now + 5)], []⟩

/-- ADD of D registers. -/
def execDAdd (t : Tile) (s : State) : Out :=
  .next (s.issueOp t fun op => match op with | .darith .add d ds b => some (fun s => planD .add (some d.val) ds b (s.engine t)) | _ => none)
/-- SUB of D registers. -/
def execDSub (t : Tile) (s : State) : Out :=
  .next (s.issueOp t fun op => match op with | .darith .sub d ds b => some (fun s => planD .sub (some d.val) ds b (s.engine t)) | _ => none)
/-- AND. -/
def execAnd (t : Tile) (s : State) : Out :=
  .next (s.issueOp t fun op => match op with | .darith .and d ds b => some (fun s => planD .and (some d.val) ds b (s.engine t)) | _ => none)
/-- OR. -/
def execOr (t : Tile) (s : State) : Out :=
  .next (s.issueOp t fun op => match op with | .darith .or d ds b => some (fun s => planD .or (some d.val) ds b (s.engine t)) | _ => none)
/-- XOR. -/
def execXor (t : Tile) (s : State) : Out :=
  .next (s.issueOp t fun op => match op with | .darith .xor d ds b => some (fun s => planD .xor (some d.val) ds b (s.engine t)) | _ => none)
/-- SHL of a D register. -/
def execDShl (t : Tile) (s : State) : Out :=
  .next (s.issueOp t fun op => match op with | .darith .shl d ds b => some (fun s => planD .shl (some d.val) ds b (s.engine t)) | _ => none)
/-- SHR of a D register. -/
def execDShr (t : Tile) (s : State) : Out :=
  .next (s.issueOp t fun op => match op with | .darith .shr d ds b => some (fun s => planD .shr (some d.val) ds b (s.engine t)) | _ => none)
/-- SRA. -/
def execSra (t : Tile) (s : State) : Out :=
  .next (s.issueOp t fun op => match op with | .darith .sra d ds b => some (fun s => planD .sra (some d.val) ds b (s.engine t)) | _ => none)
/-- CMP. -/
def execCmp (t : Tile) (s : State) : Out :=
  .next (s.issueOp t fun op => match op with | .cmp ds b => some (fun s => planD .sub none ds b (s.engine t)) | _ => none)

/-! ### Loads and stores (R242, R215, R225) -/

/-- An accumulator part load: written at the end of stage X, changing no flag (R215, R242). -/
def planLda (p : APart) (b : Bool) (so : SOp) (e : Engine) : Plan :=
  let (v, f) := e.soRead e.now so
  let (m, w) : Nat × Nat := match p with
    | .e => (0xFF00000000, v % 256 * 2 ^ 32)
    | .u => (2 ^ 40 - 1, unsgn 40 (sgn 16 v * 65536))
    | .b => (0xFFFF, v)
  Plan.of (f.and ⟨[e.wr (rAC b) m w (e.now + 5)], []⟩)

/-- An accumulator part as a 16-bit word (R215). -/
def accPart (p : APart) (a : Nat) : Nat :=
  match p with
  | .e => unsgn 16 (sgn 8 (bits a 39 32))
  | .u => bits a 31 16
  | .b => bits a 15 0

/-- LD Dn. -/
def execLd (t : Tile) (s : State) : Out :=
  .next (s.issueOp t fun op => match op with | .ld d so => some (fun s => Plan.of ((s.engine t).loadD (s.engine t).now so d)) | _ => none)
/-- ST Dn: the source is read in stage M. -/
def execSt (t : Tile) (s : State) : Out :=
  .next (s.issueOp t fun op => match op with
    | .st d so bx => some (fun s =>
        let e := s.engine t
        Plan.of (e.soStore e.now so (e.rd d (e.now + 4)) false bx))
    | _ => none)
/-- LDU: ACxU, sign-extended into ACxE, ACxB cleared. -/
def execLdu (t : Tile) (s : State) : Out :=
  .next (s.issueOp t fun op => match op with | .lda .u b so => some (fun s => planLda .u b so (s.engine t)) | _ => none)
/-- LDB: ACxB alone. -/
def execLdb (t : Tile) (s : State) : Out :=
  .next (s.issueOp t fun op => match op with | .lda .b b so => some (fun s => planLda .b b so (s.engine t)) | _ => none)
/-- LDE: ACxE alone. -/
def execLde (t : Tile) (s : State) : Out :=
  .next (s.issueOp t fun op => match op with | .lda .e b so => some (fun s => planLda .e b so (s.engine t)) | _ => none)
/-- STU: ACxU, converted as SATS states (R225). -/
def execStu (t : Tile) (s : State) : Out :=
  .next (s.issueOp t fun op => match op with
    | .stu b so bx => some (fun s => Plan.of ((s.engine t).storeU (s.engine t).now so b bx)) | _ => none)
/-- STB: ACxB as it is. -/
def execStb (t : Tile) (s : State) : Out :=
  .next (s.issueOp t fun op => match op with
    | .stb b so => some (fun s =>
        let e := s.engine t
        Plan.of (e.soStore e.now so (accPart .b (e.rd (rAC b) (e.now + 4))) false false))
    | _ => none)
/-- STE: the guard bits, sign-extended. -/
def execSte (t : Tile) (s : State) : Out :=
  .next (s.issueOp t fun op => match op with
    | .ste b so => some (fun s =>
        let e := s.engine t
        Plan.of (e.soStore e.now so (accPart .e (e.rd (rAC b) (e.now + 4))) false false))
    | _ => none)

/-- LDK: takes the Y lock at issue and loads a Y word; illegal while the lock is held (R259). -/
def execLdk (t : Tile) (s : State) : Out :=
  .next (s.issueOp t fun op => match op with
    | .ldk d pn am => some (fun s =>
        let e := s.engine t
        if e.lock then Plan.bad 2
        else { Plan.of (e.loadD e.now ⟨true, pn, am⟩ d) with fin := fun s => s.setEngine t { s.engine t with lock := true } })
    | _ => none)

/-- STK: stores a Y word and releases the lock in stage X; without the lock illegal, but for the first after a forced halt broke it (R259). -/
def execStk (t : Tile) (s : State) : Out :=
  .next (s.issueOp t fun op => match op with
    | .stk d pn am => some (fun s =>
        let e := s.engine t
        let f := e.soStore e.now ⟨true, pn, am⟩ (e.rd d (e.now + 4)) false false
        let first (p : Plan) : Plan := { p with fin := fun s => s.setEngine t { s.engine t with lockBroken := false } }
        if e.lock then first (Plan.of (f.and ⟨[⟨.unlock, 0, 0, e.now + 5⟩], []⟩))
        else if e.lockBroken then first (Plan.of f)
        else Plan.bad 2)
    | _ => none)

/-! ### Moves (R243, R216) -/

/-- The source of a MOV and the stage that reads it: D, RC, RS, RE in R; P, PB, PL, M in A; ST, BEX and accumulator parts in X (R234). -/
def Engine.movSource (e : Engine) (rs : Nat) : Nat :=
  let c := e.now
  if rs < 8 then e.rd rs (c + 3)
  else if rs < 36 then e.rd rs (c + 2)
  else if rs = 36 then setBits (e.rd rST (c + 5) % 65536) 15 15 (b2n e.shd)
  else if rs < 40 then e.rd rs (c + 3)
  else if rs = 40 then e.rd rBEX (c + 5)
  else
    let a := e.rd (rAC (decide (44 ≤ rs))) (c + 5)
    accPart (if rs = 41 ∨ rs = 44 then .e else if rs = 42 ∨ rs = 45 then .u else .b) a

/-- The writes of a move into register `rd` (R215, R216, R243). A move from an accumulator part into a D register is written at the
end of stage X, every other at the end of stage M (R234). The flags that a move puts into ST reach branches at distance 4 (R234). -/
def Engine.movWrites (e : Engine) (rd v : Nat) (fromAcc : Bool) : List PWrite :=
  let c := e.now
  if rd < 8 then [e.wr rd 0xFFFF v (if fromAcc then c + 5 else c + 4)]
  else if rd < 36 then [e.wr rd 0xFFFF v (c + 4)]
  else if rd = 36 then
    (if bits v 13 12 = 3 then [] else [e.wrSt ⟨stRW - 0xF, v⟩ (c + 4), e.wrSt ⟨0xF, v⟩ (c + 5)])
  else if rd = 37 then [e.wr rRC 0xFFFF v (c + 4)]
  else if rd < 40 then [e.wr rd 0x3FFF v (c + 4)]
  else if rd = 40 then []
  else
    let b := decide (44 ≤ rd)
    if rd = 41 ∨ rd = 44 then [e.wr (rAC b) 0xFF00000000 (v % 256 * 2 ^ 32) (c + 5)]
    else if rd = 42 ∨ rd = 45 then [e.wr (rAC b) (2 ^ 40 - 1) (unsgn 40 (sgn 16 v * 65536)) (c + 5)]
    else [e.wr (rAC b) 0xFFFF v (c + 5)]

/-- MOV. -/
def execMov (t : Tile) (s : State) : Out :=
  .next (s.issueOp t fun op => match op with
    | .mov rd rs => some (fun s =>
        let e := s.engine t
        Plan.of ⟨e.movWrites rd (e.movSource rs) (decide (41 ≤ rs.val)), []⟩)
    | _ => none)
/-- LDI: an immediate into a register. -/
def execLdi (t : Tile) (s : State) : Out :=
  .next (s.issueOp t fun op => match op with
    | .ldi rd imm => some (fun s => Plan.of ⟨(s.engine t).movWrites rd imm false, []⟩) | _ => none)
/-- BEXR: BEX := 15 (R232). -/
def execBexr (t : Tile) (s : State) : Out :=
  .next (s.issueOp t fun op => match op with
    | .bexr => some (fun s => Plan.of ⟨[(s.engine t).wr rBEX 0xF 15 ((s.engine t).now + 5)], []⟩) | _ => none)

end Sys2Proof.Machine
end

