-- ==== Sys2Proof/Machine/Expert.lean ====
section
/-! DEFINITION. Expert register access, group 0x0F (21_referee_commands.md, R492). -/

namespace Sys2Proof.Machine

/-- The requester of an expert command: the tenant of the issuing port, with the rights of R9 but none of the Referee's own. -/
def Ctx.rq (c : Ctx) : Rq := ⟨c.tenant, 6, false, 0⟩

/-- Every address that a command names is a register that its tenant may reach: the code NOT_OWNER otherwise. An address that is no register
passes here, and its access is answered ADDRESS_ERROR (R492). -/
def State.expertOwner (s : State) (q : Rq) (wr : Bool) (l : List Nat) : Bool :=
  l.all (fun a => match regsAt a 4 with
    | none => true
    | some rs => rs.all (fun x => if wr then s.mayWrite q x.1 x.2.1 x.2.2 else s.mayRead q x.1 x.2.1 x.2.2))

/-- Maltar's access to a register block of another die goes there in a MGMT unit (R63, R79). -/
def State.mgmtTo (s : State) (a : Nat) : State := s.ctrlSend 5 0 ((regDie a).getD 0)

/-- One access: its service code, and the value read. -/
def State.expertRead (s : State) (q : Rq) (a : Nat) : State × Nat × Nat :=
  match (s.mgmtTo a).regAccess q true .read a 4 [] with
  | (s, code, d) => (s, code, leAt d 0 4)

def State.expertWrite (s : State) (q : Rq) (a v : Nat) : State × Nat :=
  match (s.mgmtTo a).regAccess q true .write a 4 (leBytes 4 v) with
  | (s, code, _) => (s, code)

/-- Reads in order until one fails: state, code, and the values of the reads that were answered OK. -/
def State.expertReads (q : Rq) : List Nat → State → List Nat → State × Nat × List Nat
  | [], s, acc => (s, svcOK, acc)
  | a :: l, s, acc =>
    match s.expertRead q a with
    | (s', code, v) => if code = svcOK then State.expertReads q l s' (acc ++ [v]) else (s', code, acc)

/-- Writes in order until one fails: state, code, and the number of accesses made. -/
def State.expertWrites (q : Rq) : List (Nat × Nat) → State → Nat → State × Nat × Nat
  | [], s, n => (s, svcOK, n)
  | (a, v) :: l, s, n =>
    match s.expertWrite q a v with
    | (s', code) => if code = svcOK then State.expertWrites q l s' (n + 1) else (s', code, n + 1)

/-- The reply's head: SVC, the number of accesses made, and zeros up to offset `o`. -/
def expertHead (code n o : Nat) : List Byte := leBytes 1 code ++ leBytes 1 n ++ leBytes (o - 2) 0

def cmdRegRead : Body := fun c s =>
  if !s.expertOwner c.rq false [c.num 0 8] then refuse s 0x12
  else match s.expertRead c.rq (c.num 0 8) with
    | (s, code, v) => (s, .done 0 (expertHead code 1 4 ++ leBytes 4 v))

def cmdRegWrite : Body := fun c s =>
  if !s.expertOwner c.rq true [c.num 0 8] then refuse s 0x12
  else match s.expertWrite c.rq (c.num 0 8) (c.num 8 4) with
    | (s, code) => (s, .done 0 (expertHead code 1 2))

/-- One read and one write of (old and not MASK) or (VALUE and MASK); a read that fails is the only access. -/
def cmdRegModify : Body := fun c s =>
  let a := c.num 0 8
  if !s.expertOwner c.rq true [a] || !s.expertOwner c.rq false [a] then refuse s 0x12
  else match s.expertRead c.rq a with
    | (s1, code, v) =>
      if code ≠ svcOK then (s1, .done 0 (expertHead code 1 4 ++ leBytes 4 v))
      else
        let mask := BitVec.ofNat 32 (c.num 8 4)
        let new := (BitVec.ofNat 32 v &&& ~~~mask) ||| (BitVec.ofNat 32 (c.num 12 4) &&& mask)
        match s1.expertWrite c.rq a new.toNat with
        | (s2, code) => (s2, .done 0 (expertHead code 2 4 ++ leBytes 4 v))

def cmdRegReadN : Body := fun c s =>
  let l := (List.range (c.num 8 1)).map (fun i => c.num 0 8 + 4 * i)
  if !s.expertOwner c.rq false l then refuse s 0x12
  else match State.expertReads c.rq l s [] with
    | (s, code, vs) => (s, .done 0 (expertHead code (vs.length + b2n (decide (code ≠ svcOK))) 8 ++ vs.flatMap (leBytes 4)))

def cmdRegWriteList : Body := fun c s =>
  let l := (List.range (c.num 0 1)).map (fun i => (c.num (16 + 12 * i) 8, c.num (24 + 12 * i) 4))
  if !s.expertOwner c.rq true (l.map (·.1)) then refuse s 0x12
  else match State.expertWrites c.rq l s 0 with
    | (s, code, n) => (s, .done 0 (expertHead code n 2))

/-- REG_READ (R492). -/
def execRegRead (p : Port) (m : Mbox) (s : State) : Out := .next (takeMailbox 0x0F00 cmdRegRead p m s)
/-- REG_WRITE (R492). -/
def execRegWrite (p : Port) (m : Mbox) (s : State) : Out := .next (takeMailbox 0x0F01 cmdRegWrite p m s)
/-- REG_MODIFY (R492). -/
def execRegModify (p : Port) (m : Mbox) (s : State) : Out := .next (takeMailbox 0x0F02 cmdRegModify p m s)
/-- REG_READ_N (R492). -/
def execRegReadN (p : Port) (m : Mbox) (s : State) : Out := .next (takeMailbox 0x0F03 cmdRegReadN p m s)
/-- REG_WRITE_LIST (R492). -/
def execRegWriteList (p : Port) (m : Mbox) (s : State) : Out := .next (takeMailbox 0x0F04 cmdRegWriteList p m s)

end Sys2Proof.Machine
end

