-- ==== Sys2Proof/Machine/FabricPorts.lean ====
section
/-! DEFINITION. The fabric's side of a tile's hard strip (05_fabric.md, R119): packet queue ports, event ports and counters, the engine's Y port and
ENGIRQ (08 R196–R204, R210, R211; 10 R251, R264). A command here is an edge of its
port's clock net, or joins the edge of the command before it, and takes what stood before that edge. What a port receives is what the tile's routing
brings to its pins; a command carries the levels of the
pins that nothing drives. -/

namespace Sys2Proof.Machine

/-! ### Packet queues (R196, R198, R201) -/

/-- FABRIC_PUSH: an edge with PVALID high writes a word when the fabric is the producer, the queue is enabled and PREADY is high
(R196, R199, R53). With PABORT high too, the word is discarded with its packet (R198). -/
def execFabricPush (t : Tile) (n : QNum) (data : Word64) (last poison join : Bool) (s : State) : Out :=
  let k := 4 * t.val + n.val
  let u : Slot := .queue n
  .next (if s.qProd k = 1 ∧ s.qOn k ∧ s.portRuns t u 0 then
    let s := s.portEdge t u 0 join
    let p := s.preEdge
    if !p.senseBit t u .pvalid 0 true then s
    else if p.senseBit t u .pabort 0 false then s.qAbort k
    else if 0 < (p.pq k).space ∧ 0 < (s.pq k).space then
      s.qWrite k (p.sense t u .pdata 64 data.toNat) (p.senseBit t u .plast 0 last) (p.senseBit t u .ppoison 0 poison)
    else s
  else s)

/-- PABORT: an edge with PABORT high rewinds the uncommitted packet; a word on the same edge is discarded with it (R198). -/
def execPabort (t : Tile) (n : QNum) (join : Bool) (s : State) : Out :=
  let k := 4 * t.val + n.val
  .next (if s.qProd k = 1 ∧ s.qOn k ∧ s.portRuns t (.queue n) 0 then
    let s := s.portEdge t (.queue n) 0 join
    if s.preEdge.senseBit t (.queue n) .pabort 0 true then s.qAbort k else s
  else s)

/-- FABRIC_POP: a consumer edge with CREAD high; what takes the port's outputs on the same edge takes those before it (R201, R202). -/
def execFabricPop (t : Tile) (n : QNum) (join : Bool) (s : State) : Out :=
  let k := 4 * t.val + n.val
  .next (if s.qCons k = 1 ∧ s.portRuns t (.queue n) 1 then
    let s := s.portEdge t (.queue n) 1 join
    if s.preEdge.senseBit t (.queue n) .cread 0 true then (s.qRead k).2.2 else s
  else s)

/-! ### Event lines (R208–R211) -/

/-- FABRIC_RAISE: raise port i of tile t is high on an edge of its clock net (R210); nothing is raised before the HUDDLE exit. -/
def execFabricRaise (t : Tile) (i : Fin 8) (join : Bool) (s : State) : Out :=
  let l := (s.tcfg t).raise.getD i 256
  .next (if l < 256 ∧ s.portRuns t .events i then
    let s := s.portEdge t .events i join
    if s.preEdge.senseBit t .events .raise i true then s.raiseEv (t / 256) (s.tileTenant t) l else s
  else s)

/-- EVCLR: a pulse on EVCLRk clears fabric event counter k (R211). -/
def execEvclr (t : Tile) (k : Fin 4) (join : Bool) (s : State) : Out :=
  .next (if s.portRuns t .events (16 + k) then
    let s := s.portEdge t .events (16 + k) join
    if s.preEdge.senseBit t .events .evclr k true then { s with evs.evcnt := tput 0 s.evs.evcnt (4 * t.val + k.val) 0 } else s
  else s)

/-! ### The engine (R251, R264) -/

/-- ENGIRQ_RISE: the fabric input ENGIRQ rises (R251). -/
def execEngirqRise (t : Tile) (join : Bool) (s : State) : Out :=
  .next (if s.portRuns t .engine 1 then
    let s := s.portEdge t .engine 1 join
    if s.preEdge.senseBit t .engine .engirq 0 true then s.engPend t 14 else s
  else s)

/-- FABRIC_Y_ACCESS: an access is presented at the fabric Y port: accepted while fewer than 4 are in flight, and served in order once the Y lock is free
(R259, R264, R265). -/
def execFabricYAccess (t : Tile) (we : Bool) (a : Fin 16384) (din : Word16) (join : Bool) (s : State) : Out :=
  let u : Slot := .engine
  .next (if s.portRuns t u 0 then
    let s := s.portEdge t u 0 join
    let p := s.preEdge
    let e := s.engine t
    if p.senseBit t u .yvalid 0 true ∧ (p.engine t).yq.length + (p.engine t).yout.length < 4 then
      State.yServe (s.setEngine t { e with
        yq := e.yq ++ [(p.senseBit t u .ywe 0 we, p.sense t u .yaddr 14 a, p.sense t u .ydin 16 din.toNat)] }) t
    else s
  else s)

end Sys2Proof.Machine
end

