-- ==== Sys2Proof/Machine/RCache.lean ====
section
/-! DEFINITION. The remote caches and the shared read-mostly windows (13_hbm_controllers.md, R327–R329, R332). -/

namespace Sys2Proof.Machine

/-! ### Requests (R328) -/

/-- The errors that a read finds in the lines it hits are counted; an uncorrectable one discards its line, which is fetched again (R371, R372). -/
def State.lineErrs (s : State) (d : Nat) (ls : List Nat) (errs : List LineErr) : State :=
  errs.foldl (fun s e =>
    match ls[e.pos]? with
    | none => s
    | some l =>
      if (s.rline d l).isNone then s
      else
        let s := s.eccError .stack d e.ue 0xB (e.loc % 2 ^ 18) (e.par % 2) (e.syn % 128)
        if e.ue then s.setRline d l none else s) s

/-- A read at the cache: lines that hit are taken at once, the others are filled; it is answered when it has every line. A read that starts a fill
counts in MISSES, one that the cache answers in HITS (R328, R332). -/
def State.cacheRead (s : State) (d : Nat) (r : Req) (errs : List LineErr) : State :=
  let ls := rlines r
  let was := s
  let s := s.lineErrs d ls errs
  let hit := ls.all (fun l => (s.rline d l).isSome)
  let miss := (ls.filter (fun l => (s.rline d l).isNone))
  let need := (miss.filter (fun l => !(s.hbm.fills.any (fun f => decide (f.die = d) && decide (f.line = l) && !f.stale)))).length
  if (s.tagsFree (dieTile d) 5).length < need then was
  else
    let s := s.takeReq r
    let n := s.hbm.fills.length
    let (s, w) := ls.foldl (fun (acc : State × RWait) l =>
      match acc.1.rline d l with
      | some x =>
        (State.setRline { acc.1 with hbm.stamp := acc.1.hbm.stamp + 1 } d l (some { x with used := acc.1.hbm.stamp }),
         { acc.2 with got := acc.2.got ++ [(l, x.data)] })
      | none => acc.1.refill d acc.2 l) (s, (⟨r, [], [], 0⟩ : RWait))
    let s := if hit then s.count F.rcacheCounts_hits d 0 1 else if n < s.hbm.fills.length then s.count F.rcacheCounts_misses d 0 1 else s
    if w.need.isEmpty then s.readAnswer w else { s with hbm.waits := s.hbm.waits ++ [w] }

/-- A write or atomic at the cache is forwarded to the home memory port (R328). -/
def State.cacheForward (s : State) (d : Nat) (r : Req) : State :=
  let id := s.hbm.nextId
  let (st, l) := s.hbmLocal r.addr
  match s.issueTo (.rcache d id false) { r with src := dieTile d, sport := 5, rt := false } (1024 + 16 * st + (s.hbmLoc st l).pc / 2) 1 with
  | (s, some 0) => State.takeReq { s with hbm.nextId := id + 1, hbm.fwds := s.hbm.fwds ++ [⟨id, r⟩] } r
  | (s, some c) => State.respond (s.takeReq r) r c []
  | (s, none) => s

/-- REMOTE_CACHE_REQUEST: a request to a shared window homed on another die, at its own die's cache: rights first. `errs`: errors found in the lines it
hits (R328, R371). -/
def execRemoteCacheRequest (r : Req) (errs : List LineErr) (s : State) : Out :=
  let d := r.dst / 256
  .next (
    if !s.net.reqs.contains r ∨ 1024 ≤ r.dst ∨ r.dst ≠ dieTile d ∨ 0x1800000000 ≤ r.addr ∨ r.op = .invalidate then s
    else if !r.crcOk then State.respond (State.count (s.takeReq r) F.niErrors_crcFails r.dst 0 1) r svcPoisoned []
    else
      let (st, l) := s.hbmLocal r.addr
      if !s.protGrant st r.rq r.op l then State.respond (s.takeReq r) r svcDenied []
      else if r.op = .read then s.cacheRead d r errs
      else s.cacheForward d r)

/-! ### Responses (R328, R329) -/

/-- A fill ends with a code and data: the line is installed when it is whole, good and not stale, and the reads that wait for it go on;
with `drop` they are given up, as their requesters time out themselves. -/
def State.fillDone (s : State) (id svc : Nat) (data : List Byte) (drop : Bool) : State :=
  match s.hbm.fills.find? (fun f => f.id = id) with
  | none => s
  | some f =>
    let s := { s with hbm.fills := s.hbm.fills.filter (fun x => x.id ≠ id) }
    let s := if svc ≤ 1 ∧ !f.stale ∧ !drop ∧ s.shared (f.line * 64) then s.install f.die f.line data else s
    let mine := s.hbm.waits.filter (fun w => w.need.contains id)
    let s := { s with hbm.waits := s.hbm.waits.filter (fun w => !w.need.contains id) }
    if drop then s
    else mine.foldl (fun s w =>
      let w : RWait := { w with need := w.need.filter (· ≠ id), got := w.got ++ [(f.line, data)], svc := joinSvc w.svc svc }
      if w.need.isEmpty then s.readAnswer w else { s with hbm.waits := s.hbm.waits ++ [w] }) s

/-- A forwarded request ends: the home's response goes back unchanged; after a timeout there is none. -/
def State.fwdDone (s : State) (id svc : Nat) (poison : Bool) (data : List Byte) (drop : Bool) : State :=
  match s.hbm.fwds.find? (fun f => f.id = id) with
  | none => s
  | some f =>
    let s := { s with hbm.fwds := s.hbm.fwds.filter (fun x => x.id ≠ id) }
    if drop then s else s.hsend f.req svc poison data

/-- The outcome of a cache's request. -/
def State.cacheEnd (s : State) (id : Nat) (fill : Bool) (svc : Nat) (poison : Bool) (data : List Byte) (drop : Bool) : State :=
  if fill then s.fillDone id svc data drop else s.fwdDone id svc poison data drop

/-- CACHE_FILL_RESPONSE: a response to a remote cache's fill or forwarded request (R328, R329). -/
def execCacheFillResponse (r : Resp) (s : State) : Out :=
  .next (if s.net.resps.contains r && s.respFor r (fun w => match w with | .rcache _ _ _ => true | _ => false) then
    match s.arrive r with
    | (s, some (o, r)) => (match o.who with | .rcache _ id fill => s.cacheEnd id fill r.svc r.poison r.data false | _ => s)
    | (s, none) => s
  else s)

/-- INVALIDATE: the line is dropped, or its fill in flight is marked stale, and the home is answered (R329). -/
def execInvalidate (r : Req) (s : State) : Out :=
  let d := r.dst / 256
  .next (
    if !s.net.reqs.contains r ∨ 1024 ≤ r.dst ∨ r.dst ≠ dieTile d ∨ r.op ≠ .invalidate then s
    else if (s.tagsFree (dieTile d) 5).length < (s.holdsLine d (r.addr / 64)).length then s
    else State.respond (State.dropLine (s.takeReq r) d (r.addr / 64)) r svcOK [])

/-! ### Shared windows (R327, R332, R482) -/

/-- Invalidate every cache line of all dies within a range of units of 64 MiB. -/
def State.dropRange (s : State) (base size : Nat) : State :=
  let inR (l : Nat) : Bool := decide (base ≤ l / 0x100000) && decide (l / 0x100000 < base + size)
  { s with
    hbm.lines := s.hbm.lines.filter (fun e => !inR (e.1 % 2 ^ 42))
    hbm.fills := s.hbm.fills.map (fun f => if inR f.line then { f with stale := true } else f) }

/-- A protected window that is not DISABLED covers part of the network range (R327, R338). In interleaved mapping a unit of 64 MiB of
network addresses lies in a quarter of one unit of L of every stack. -/
def State.sharesProt (s : State) (base size : Nat) : Bool :=
  if s.getF F.hbmMap_interleave 0 0 = 1 then
    (List.range 4).any (fun st => (List.range 16).any (fun i => decide (s.getF F.pwinCtl_state st i ≠ 0) &&
      decide (s.getF F.pwinRange_base st i * 4 < base + size) && decide (base < (s.getF F.pwinRange_base st i + s.getF F.pwinRange_size st i) * 4)))
  else
    (List.range 4).any (fun st => (List.range 16).any (fun i => decide (s.getF F.pwinCtl_state st i ≠ 0) &&
      decide (st * 384 + s.getF F.pwinRange_base st i < base + size) &&
      decide (base < st * 384 + s.getF F.pwinRange_base st i + s.getF F.pwinRange_size st i)))

/-- SHARED_WINDOW (R327): the caches' lines in the old and the new range are gone before it completes. -/
def cmdSharedWindow : Body := fun c s =>
  let w := c.num 0 1
  let en := c.num 1 1
  let base := c.num 4 2
  let size := c.num 6 2
  if c.tenant ≠ 0 then refuse s 0x12
  else if en = 1 ∧ s.sharesProt base size then refuse s 0x10
  else
    let old := s.reg .rcacheWin 0 w
    let s := if bitAt old 31 then s.dropRange (bits old 10 0) (bits old 26 16) else s
    let s := if en = 1 then s.dropRange base size else s
    (iter 4 (fun d s => s.setReg .rcacheWin d w (if en = 1 then 2 ^ 31 + size * 65536 + base else 0)) s, .done 0 [])

/-- SHARED_WINDOW: T0. -/
def execSharedWindow (p : Port) (m : Mbox) (s : State) : Out := .next (takeMailbox 0x0313 cmdSharedWindow p m s)

end Sys2Proof.Machine
end

