-- ==== Sys2Proof/Machine/NetRows.lean ====
section
/-! DEFINITION. The tile interface's requests and every source's responses and timeouts (07_network_on_chip.md R165–R185, R191; 02 R40,
R53). -/

namespace Sys2Proof.Machine

/-- A response on RSI: RID, service code, data, POISON (R167). -/
def State.rsiPush (s : State) (t rid svc : Nat) (data : List Byte) (poison : Bool) : State :=
  s.setNi t { s.ni t with rsi := (s.ni t).rsi ++ [(rid, svc, data, poison)] }

/-- A request of an outstanding list has ended with a response or a timeout: its source takes the outcome. `late` is used for INVALIDATE
alone (R314); `drop`: a timeout, of which a remote cache's requesters learn by their own (R167, R184). -/
def State.finishReq (s : State) (o : Outst) (svc : Nat) (data : List Byte) (poison late drop : Bool) : State :=
  let t := o.req.src
  match o.who with
  | .fabric rid => if s.niSinks t then s else s.rsiPush t rid svc data poison
  | .nget pd ps => if s.niSinks t then s else s.engNetDone t (.nget pd ps) svc data
  | .nput ps => if s.niSinks t then s else s.engNetDone t (.nput ps) svc data
  | .atomic => if s.niSinks t then s else s.engAtomicDone t svc data
  | .sunk => s
  | .dma k kind burst off _ => s.dmaResp o k kind burst off svc data
  | .bar2 p id off _ => s.bar2Resp p id off o.req svc data
  | .mac l k => s.macResp l k svc data
  | .rcache _ id fill => s.cacheEnd id fill svc poison data drop
  | .inval st wid => s.invalEnd st wid svc late
  | .debug path => s.dbgResp path svc data
  | .referee => s

/-- The outstanding request that a response names is the tile's engine's. -/
def State.forEngine (s : State) (r : Resp) : Bool :=
  s.respFor r (fun w => match w with | .nget _ _ => true | .nput _ => true | .atomic => true | _ => false)

/-- A tile's own request whose response the interface keeps: in HOLD, and in REST one of the engine, whose memories and registers keep their contents;
none where the interface sinks it (R39, R40, R53). DESIGN CHOICE (log entry 145): REST's kept responses come when it ends. -/
def State.holds (s : State) (r : Resp) : Bool :=
  (s.inHold || (decide (s.pw.mode = .rest) && s.forEngine r)) && decide (r.sport = 0) && decide (r.src < 1024) && !s.niSinks r.src

/-- A response of the request is kept already. -/
def State.isKept (s : State) (t tag gen : Nat) : Bool := (s.ni t).kept.any (fun r => r.tag = tag && r.gen = gen)

/-- Keep a response in arrival order (R40). -/
def State.keep (s : State) (r : Resp) : State := s.setNi r.src { s.ni r.src with kept := (s.ni r.src).kept ++ [r] }

/-- A response at its source: delivered, or discarded as late (R182, R184). -/
def State.deliverResp (s : State) (r : Resp) (late : Bool) : State :=
  match s.arrive r with
  | (s, some (o, r)) => s.finishReq o r.svc r.data r.poison late false
  | (s, none) => s

/-- HOLD or REST ends: an interface delivers the responses that it kept, in arrival order (R40). -/
def State.deliverKept (s : State) (t : Nat) : State :=
  (s.ni t).kept.foldl (fun s r => s.deliverResp r false) (s.setNi t { s.ni t with kept := [] })

/-- RESPONSE_ARRIVAL (R184). -/
def execResponseArrival (r : Resp) (late : Bool) (s : State) : Out :=
  .next (if !s.net.resps.contains r then s
    else if s.holds r && (s.findOut r.src r.sport r.tag r.gen).isSome && !s.isKept r.src r.tag r.gen then (s.takeResp r).keep r
    else s.deliverResp r late)

/-- NI_TIMEOUT: the request of the tag is complete with TIMEOUT (R184). -/
def execNiTimeout (src : Fin 1088) (sport : Fin 8) (tag : Fin 128) (gen : Fin 16) (late : Bool) (s : State) : Out :=
  .next (match s.findOut src sport tag gen with
    | none => s
    | some o =>
      let r : Resp := ⟨src, sport, tag, gen, svcTimeout, [], false, true⟩
      if s.isKept src tag gen && decide (sport.val = 0) then s
      else if s.holds r then (s.count F.niErrors_timeouts src 0 1).keep r
      else (s.timeOut o).1.finishReq o svcTimeout [] false late true)

/-- The operations a fabric can request (R170). -/
def fabricOp : Nat → NOp
  | 0 => .read
  | 1 => .write
  | 2 => .swap
  | 3 => .fetchAdd
  | _ => .compareSwap

/-- A destination is a memory port that its stack's settings name as real-time (R170, R317). -/
def State.rtDest (s : State) (a : NetAddr) (d : Nat) : Bool :=
  match s.decodeDst d a.toNat with
  | none => false
  | some (dst, _) =>
    decide (1024 ≤ dst) && (List.range 4).any (fun j =>
      s.flag F.hbmRt_en ((dst - 1024) / 16) j && decide (s.getF F.hbmRt_port ((dst - 1024) / 16) j = (dst - 1024) % 16))

/-- The request that the fabric presents on RQO, but its data (R167, R170). Size is one less than the bytes addressed (R169). -/
def State.rqoReq (s : State) (t : Tile) (op : Fin 5) (a : NetAddr) (size : Fin 256) (rt : Bool) : Req :=
  let o := fabricOp (s.sense t .ni .rqoOp 3 op)
  let a : NetAddr := BitVec.ofNat 48 (s.sense t .ni .rqoAddr 48 a.toNat)
  { mkReq o a.toNat (s.sense t .ni .rqoSize 8 size + 1) (s.tileTenant t) 0 t 0 [] with
    rt := s.senseBit t .ni .rqoRt 0 rt && decide (o = .read ∨ o = .write) && s.rtDest a (t / 256) }

/-- A whole request of the fabric: the interface refuses it when it is fenced, answers it itself when it has no destination, shape or route, and otherwise
sends it; while the fabric holds all its tags or response space it waits on RQO (R165–R167, R170, R171, R175, R178, R184). -/
def State.rqoEnd (s : State) (t id : Nat) (r : Req) : State :=
  if s.niShut t then s.rsiPush t id svcFenced [] false
  else match s.issue (.fabric id) r with
    | (_, none) => s
    | (s, some code) => if code = 0 then s else s.rsiPush t id code [] false

/-- RQO_REQUEST: an edge with VALID and READY carries one beat of 256 bits; the last one ends the request (R167). DESIGN CHOICE (log entry 135): a
request's other fields come with its first beat. `data`: the levels of data pins that nothing drives. -/
def execRqoRequest (t : Tile) (rid : Byte) (op : Fin 5) (a : NetAddr) (size : Fin 256) (rt : Bool) (data : List Byte) (join : Bool) (s : State) : Out :=
  .next (if !s.portRuns t .ni 0 then s
    else
      let s := s.portEdge t .ni 0 join
      let p := s.preEdge
      if !p.senseBit t .ni .rqoValid 0 true ∨ !p.rqoRoom t then s
      else
        let (id, r, got) := (p.ni t).rqo.getD (p.sense t .ni .rqoRid 8 rid.toNat, p.rqoReq t op a size rt, [])
        let n := payloadLen r.op r.size - got.length
        let d := got ++ p.beat t .rqoData n data
        if 32 < n then s.setNi t { s.ni t with rqo := some (id, r, d) }
        else State.rqoEnd (s.setNi t { s.ni t with rqo := none }) t id { r with data := d })

end Sys2Proof.Machine
end

