-- ==== Sys2Proof/Machine/Pins.lean ====
section
/-! DEFINITION. What each pin group shows outside the device (02 R35, R47, R51, R52; 04 R101; 12 R286; 18 R420; 23 R509; 24 R521, R527). -/

namespace Sys2Proof.Machine

/-- User I/O pin k, by mode; a bank without its VCCIO is at high impedance whatever the mode (R35, R51, R521). -/
def State.modePin (s : State) (k : Nat) : PinState :=
  if bitAt s.elec.bankBad (k / 64) then .hiz
  else if !s.pw.resetN ∨ s.pw.tripped then .hiz
  else match s.pw.mode with
    | .off => .unpowered
    | .boot => .hiz
    | .run => s.runPin k
    | .rest => if (tget IoCfg.blank s.fab.io k).used then tget PinState.hiz s.elec.kept k else s.quietPin (k / 64)
    | .hold => if (tget IoCfg.blank s.fab.io k).used then tget PinState.hiz s.elec.kept k else s.quietPin (k / 64)
    | _ => s.quietPin (k / 64)

/-- User I/O pin k: the boundary register drives it under a pin-driving instruction, else the mode rules hold (R51, R509). The order of the boundary
cells is in the BSDL file, not in the manual: what EXTEST drives is named only. -/
def State.userPin (s : State) (k : Nat) : PinState :=
  if !s.pw.supplies then .unpowered
  else if s.pinTest ∧ s.dbg.drive = 2 then .hiz
  else if s.pinTest ∧ s.dbg.drive ≠ 0 then .scan
  else s.modePin k

/-- The device runs a mode rather than waiting under RESET_N low or after a thermal trip (R36, R527). -/
def State.inMode (s : State) (m : Mode) : Bool := s.pw.supplies && s.pw.resetN && !s.pw.tripped && decide (s.pw.mode = m)

/-- FOUL_N: driven low in LOCKOUT, released in every other powered mode (R35, R51, R104). -/
def State.foulLow (s : State) : Bool := s.inMode .lockout

/-- THERMTRIP_N: low from a trip until the supplies are gone (R527). -/
def State.tripLow (s : State) : Bool := s.pw.supplies && s.pw.tripped

/-- HUDDLE: held low in BOOT, LOAD and LOCKOUT and while RESET_N is low; released otherwise (R47, R51). -/
def State.huddleLow (s : State) : Bool :=
  s.pw.supplies && (!s.pw.resetN || s.pw.tripped || decide (s.pw.mode = .boot ∨ s.pw.mode = .load ∨ s.pw.mode = .lockout))

/-- PPS_OUT: low but in RUN, REST and HOLD (R51, R420). -/
def State.ppsHigh (s : State) : Bool := (s.inMode .run || s.inMode .rest || s.inMode .hold) && s.tmr.ppsOut

/-- The settings-memory pins: reading in BOOT, idle from LOAD on but during a settings write (R51). -/
def State.flashPins (s : State) : FlashPins :=
  if !s.pw.supplies then .unpowered
  else if s.inMode .boot then .reading
  else if s.sett.commit.isSome then .writing
  else .idle

end Sys2Proof.Machine
end

