-- ==== Sys2Proof/Machine/ProtCmd.lean ====
section
/-! DEFINITION. Enabling, disabling and rebuilding protected windows, their metadata, their commands, and the scrub of their roots
(14_memory_protection.md R338–R340, R345–R352; 21 R482). -/

namespace Sys2Proof.Machine

/-! ### Metadata (R339) -/

/-- 64 KiB areas of the tags, and of the tree, of a window of `u` units of 64 MiB. -/
def tagAreas (u : Nat) : Nat := u * 128
def treeAreas (u : Nat) : Nat := ceilDiv (64 * nodesBelow u (treeLevels u)) 65536

/-- The areas of a stack's carve-out in use: start and length. -/
def State.metaUsed (s : State) (st : Nat) : List (Nat × Nat) :=
  ((List.range 16).filter (fun i => s.getF F.pwinCtl_state st i ≠ 0)).flatMap (fun i =>
    let u := s.getF F.pwinRange_size st i
    [(s.getF F.pwinMeta_tagBase st i, tagAreas u), (s.getF F.pwinMeta_treeBase st i, treeAreas u)])

/-- The lowest free start of `n` areas among `total`. -/
def lowestFree (used : List (Nat × Nat)) (total n : Nat) : Option Nat :=
  let cand := 0 :: used.map (fun a => a.1 + a.2)
  let ok := cand.filter (fun c => decide (c + n ≤ total) && used.all (fun a => decide (c + n ≤ a.1) || decide (a.1 + a.2 ≤ c)))
  match ok with
  | [] => none
  | c :: l => some (l.foldl min c)

/-- Place the tags and then the tree of a window of `u` units. -/
def State.metaPlace (s : State) (st u : Nat) : Option (Nat × Nat) :=
  let used := s.metaUsed st
  let total := s.getF F.protStatus_carve st 0 * 1024
  match lowestFree used total (tagAreas u) with
  | none => none
  | some t =>
    match lowestFree ((t, tagAreas u) :: used) total (treeAreas u) with
    | none => none
    | some r => some (t, r)

/-! ### Windows -/

/-- Forget what the counter cache holds of a window. -/
def State.dropCache (s : State) (w : Nat) : State := { s with prot.cache := s.prot.cache.filter (fun e => e.1 / 2 ^ 24 / 16 ≠ w) }

/-- A window becomes DISABLED: keys and root are discarded, its metadata is free, and PWIN_FAULT clears (R346, R347). -/
def State.pwinClear (s : State) (st i : Nat) : State :=
  let s := [Rg.pwinRange, .pwinCtl, .pwinRights, .pwinMeta, .pwinFault].foldl (fun s r => s.setReg r st i 0) s
  (s.dropCache (16 * st + i)).setPwin (16 * st + i) PWin.init

/-- What PROT_ENABLE names (R345). -/
structure EnableArgs where
  tenant : Nat
  rights : Nat
  flags : Nat
  chan : Nat
  fill : Nat
deriving DecidableEq, Repr

/-- Create a window in ENABLING: metadata, keys, zero counters (R345). -/
def State.pwinCreate (s : State) (st i base u tag tree : Nat) (a : EnableArgs) : State :=
  let s := s.setReg .pwinRange st i (u * 65536 + base)
  let s := s.setReg .pwinCtl st i (2 ^ 29 + a.tenant * 2 ^ 26 + a.flags / 2 % 2 * 2 ^ 25 + treeLevels u * 2 ^ 21)
  let s := s.setReg .pwinRights st i (a.flags % 2 * 2 ^ 31 + a.rights)
  let s := (s.setReg .pwinMeta st i (tag * 65536 + tree)).setReg .pwinFault st i 0
  let s := s.dropCache (16 * st + i)
  let s := s.mend st (s.nodeAddr st i 0 0) (64 * nodesBelow u (treeLevels u))
  State.setPwin { s with free := s.free + 2 } (16 * st + i)
    ⟨some a.chan, a.fill, s.free + 1, if a.flags / 2 % 2 = 1 then s.free + 2 else 0, [], []⟩

/-- Run a channel as one FILL descriptor of `n` bytes from `dst` (R345). CH_HEAD is not used, and no event is pulsed. -/
def State.dmaFill (s : State) (k w : Nat) (ilv : Option Nat) (dst n fill : Nat) : State :=
  let s := (s.setReg .chStatus (k / 32) (k % 32) 0).setChState k 1
  s.setChan k { Channel.init with cur := some ⟨0, dst, fill, 0, false, true, 1, 0, false, n, true, ilv⟩, owner := some w }

/-- A channel is free again after a window's command. -/
def State.dmaRelease (s : State) (k : Nat) : State := s.setChan k { s.chan k with owner := none, ended := none }

/-- How the fill of a window's command on channel `k` stands: running, complete, or ended with a code (R346). A frozen stack ends it; a
channel that was disabled ends it with INTERNAL_ERROR. -/
def State.fillEnd (s : State) (k : Nat) (sts : List Nat) : Option Nat :=
  if (s.chan k).ended = some 0 then some 0
  else if sts.any (fun st => s.getF F.hbmStatus_state st 0 = 3) then some 0x40
  else (s.chan k).ended.map (fun c => if c = 0xFF then 0xFF else bufferCode c false)

/-- Windows that a PROT_ENABLE created: stack and index, from its list of four (255: none). -/
def enableWins (l : List Nat) : List (Nat × Nat) := (List.range 4).filterMap (fun st => let i := lget 255 l st; if i = 255 then none else some (st, i))

/-- Fail a running enable: its windows are DISABLED and their metadata free (R346). -/
def State.enableFail (s : State) (o : LongOp) (code : Nat) : State :=
  let s := (enableWins o.args).foldl (fun s w => if s.getF F.pwinCtl_state w.1 w.2 = 1 then s.pwinClear w.1 w.2 else s) s
  ((s.dmaAbort o.res).dmaRelease o.res).finishOp o code 0 0 []

/-- A function reset of a stack controller fails the enables on it (R346). -/
def State.enableReset (s : State) (st : Nat) : State :=
  (s.hosts.ops.filter (fun o => o.opcode = 0x0320 && (enableWins o.args).any (fun w => w.1 = st))).foldl (fun s o => s.enableFail o 0xFF) s

/-- PROT_ENABLE_DONE: the fill has ended; Maltar makes the windows ENABLED, or fails the enable (R345, R346). -/
def execProtEnableDone (k : Fin 512) (s : State) : Out :=
  .next (if !s.maltarRuns then s else match s.opsOn k [0x0320] with
    | [] => s
    | o :: _ =>
      let ws := enableWins o.args
      match s.fillEnd k (ws.map (·.1)) with
      | none => s
      | some 0 =>
        let good := ws.all (fun w => s.getF F.pwinCtl_state w.1 w.2 = 1)
        let s := ws.foldl (fun s w =>
          if s.getF F.pwinCtl_state w.1 w.2 = 1 then
            (s.setF F.pwinCtl_state w.1 w.2 2).setPwin (16 * w.1 + w.2) { s.pwin (16 * w.1 + w.2) with chan := none }
          else s) s
        (s.dmaRelease k).finishOp o (if good then 0 else 0xFF) (leNat (o.args.map (BitVec.ofNat 8))) 0 []
      | some code => s.enableFail o code)

/-- PROT_DISABLE_DONE: the zero fill has ended, and the window is DISABLED; after a failed fill it stays DISABLING, and may be disabled
again (R347). -/
def execProtDisableDone (k : Fin 512) (s : State) : Out :=
  .next (if !s.maltarRuns then s else match s.opsOn k [0x0321] with
    | [] => s
    | o :: _ =>
      let st := lget 0 o.args 0
      let i := lget 0 o.args 1
      match s.fillEnd k [st] with
      | none => s
      | some 0 => ((s.pwinClear st i).dmaRelease k).finishOp o 0 0 0 []
      | some code => ((s.dmaAbort k).dmaRelease k).finishOp o code 0 0 [])

/-- PROT_REBUILD_DONE: the fill of the subtree has ended: PWIN_FAULT clears and the window is ENABLED; after a failed fill it is ENABLED
with PWIN_FAULT as it was (R351). -/
def execProtRebuildDone (k : Fin 512) (s : State) : Out :=
  .next (if !s.maltarRuns then s else match s.opsOn k [0x0323] with
    | [] => s
    | o :: _ =>
      let st := lget 0 o.args 0
      let i := lget 0 o.args 1
      let back (s : State) : State :=
        let s := s.setPwin (16 * st + i) { s.pwin (16 * st + i) with chan := none }
        if s.getF F.pwinCtl_state st i = 3 then s.setF F.pwinCtl_state st i 2 else s
      match s.fillEnd k [st] with
      | none => s
      | some 0 =>
        let j := s.getF F.pwinFault_level st i
        let n := s.getF F.pwinFault_node st i
        let w := s.pwin (16 * st + i)
        let s := s.setPwin (16 * st + i) { w with unver := w.unver.filter (fun e => !(decide (e.1 ≤ j) && decide (e.2 / 8 ^ (j - e.1) = n))) }
        ((back (s.setReg .pwinFault st i 0)).dmaRelease k).finishOp o 0 0 0 []
      | some code => ((back (s.dmaAbort k)).dmaRelease k).finishOp o code 0 0 [])

/-! ### Commands (R482) -/

/-- The stack-local units that a PROT_ENABLE names on each stack: base and size in units of 64 MiB, and the stacks (R338). -/
def State.enableRange (s : State) (base size : Nat) : Option (Nat × Nat × List Nat) :=
  if s.getF F.hbmMap_interleave 0 0 = 1 then
    (if base % 0x10000000 = 0 ∧ size % 0x10000000 = 0 ∧ size ≠ 0 ∧ size ≤ 0x1500000000 ∧ base + size ≤ 0x1800000000 then
       some (base / 0x10000000, size / 0x10000000, [0, 1, 2, 3])
     else none)
  else
    let st := base / 0x600000000
    let l := base % 0x600000000
    if base < 0x1800000000 ∧ l % 0x4000000 = 0 ∧ size % 0x4000000 = 0 ∧ size ≠ 0 ∧ size ≤ 0x540000000 ∧ l + size ≤ 0x600000000 then
      some (l / 0x4000000, size / 0x4000000, [st])
    else none

/-- A stack's range lies wholly in one tenant window. -/
def State.inTwin (s : State) (st b u : Nat) : Bool :=
  match s.twinAt st b with
  | some w => decide (b + u ≤ s.getF F.twinRange_base st w + s.getF F.twinRange_size st w)
  | none => false

/-- A network range meets a shared window (R327, R338). -/
def State.meetsShared (s : State) (a n : Nat) : Bool :=
  (List.range 8).any (fun w => s.flag F.rcacheWin_en 0 w && decide (s.getF F.rcacheWin_base 0 w * 0x4000000 < a + n) &&
    decide (a < (s.getF F.rcacheWin_base 0 w + s.getF F.rcacheWin_size 0 w) * 0x4000000))

/-- An enable or rebuild runs on a stack (R346). -/
def State.protBusy (s : State) (st : Nat) : Bool :=
  s.hosts.ops.any (fun o => decide (o.phase < 200) &&
    ((o.opcode = 0x0320 && (enableWins o.args).any (fun w => w.1 = st)) || (o.opcode = 0x0323 && lget 0 o.args 0 = st)))

/-- A window's earlier command still runs (R473). -/
def State.winBusy (s : State) (st i : Nat) : Bool :=
  s.hosts.ops.any (fun o => decide (o.phase < 200) && ((o.opcode = 0x0320 && (enableWins o.args).contains (st, i)) ||
    ((o.opcode = 0x0321 || o.opcode = 0x0323) && lget 0 o.args 0 = st && lget 0 o.args 1 = i)))

/-- The lowest free window index and the places of its metadata on each stack of an enable. -/
def State.enablePlan (s : State) (u : Nat) : List Nat → Option (List (Nat × Nat × Nat × Nat))
  | [] => some []
  | st :: l =>
    match (List.range 16).find? (fun i => s.getF F.pwinCtl_state st i = 0), s.metaPlace st u, s.enablePlan u l with
    | some i, some (t, r), some p => some ((st, i, t, r) :: p)
    | _, _, _ => none

def cmdProtEnable : Body := fun c s =>
  let base := c.num 0 8
  let size := c.num 8 8
  let k := 32 * c.num 19 1 + c.num 20 1
  match s.enableRange base size with
  | none => refuse s 0x11
  | some (b, u, sts) =>
    if sts.any (fun st => s.unitOwner st b ≠ c.tenant) ∨ s.chanTenant k ≠ c.tenant then refuse s 0x12
    else if sts.any (fun st => !s.inTwin st b u) then refuse s 0x11
    else if s.meetsShared base size ∨ sts.any (fun st => (List.range u).any (fun j => (s.pwinAt st (b + j)).isSome)) then refuse s 0x11
    else if sts.any s.protBusy ∨ !s.dmaFree k then refuse s 0x15
    else if sts.any (fun st => s.getF F.hbmStatus_state st 0 = 3) then refuse s 0x40
    else match s.enablePlan u sts with
      | none => refuse s 0x11
      | some plan =>
        let a : EnableArgs := ⟨c.tenant, c.num 16 2, c.num 18 1, k, c.num 24 8⟩
        let s := plan.foldl (fun s p => s.pwinCreate p.1 p.2.1 b u p.2.2.1 p.2.2.2 a) s
        let ws := (List.range 4).map (fun st => ((plan.find? (fun p => p.1 = st)).map (fun p => p.2.1)).getD 255)
        (s.dmaFill k ((plan.map (fun p => 16 * p.1 + p.2.1)).headD 0) none base size (c.num 24 8), .accepted (c.op k ws))

/-- The network address, or the stack-local one on interleaved stacks, of a range of a window. -/
def State.winFill (s : State) (st i off : Nat) : Option Nat × Nat :=
  let l := s.getF F.pwinRange_base st i * 0x4000000 + off
  if s.getF F.hbmMap_interleave 0 0 = 1 then (some st, l) else (none, st * 0x600000000 + l)

/-- The tenant owns the window. -/
def State.ownsWin (s : State) (t st i : Nat) : Bool := decide (s.getF F.pwinCtl_state st i ≠ 0) && s.getF F.pwinCtl_tenant st i = t

def cmdProtDisable : Body := fun c s =>
  let st := c.num 0 1
  let i := c.num 1 1
  let k := 32 * c.num 2 1 + c.num 3 1
  if !s.ownsWin c.tenant st i ∨ s.chanTenant k ≠ c.tenant then refuse s 0x12
  else if s.winBusy st i ∨ !s.dmaFree k then refuse s 0x15
  else
    let s := s.setF F.pwinCtl_state st i 5
    let s := s.setPwin (16 * st + i) { s.pwin (16 * st + i) with chan := some k, fill := 0 }
    (s.dmaFill k (16 * st + i) (s.winFill st i 0).1 (s.winFill st i 0).2 (s.getF F.pwinRange_size st i * 0x4000000) 0, .accepted (c.op k [st, i]))

def cmdProtRights : Body := fun c s =>
  let st := c.num 0 1
  let i := c.num 1 1
  if !s.ownsWin c.tenant st i then refuse s 0x12
  else if s.winBusy st i then refuse s 0x15
  else if s.getF F.pwinCtl_state st i = 4 then refuse s 0x10
  else (s.setReg .pwinRights st i (c.num 4 1 % 2 * 2 ^ 31 + c.num 2 2), .done 0 [])

/-- The nodes of the subtree of node `n` of level `j` are zero, verified, and stored anew (R351). -/
def State.freshSubtree (s : State) (st i j n : Nat) : State :=
  let inside (e : Nat) : Bool := decide (e / 2 ^ 24 ≤ j) && e % 2 ^ 24 / 8 ^ (j - e / 2 ^ 24) = n
  let w := s.pwin (16 * st + i)
  let s := iter (j + 1) (fun k s => s.mend st (s.nodeAddr st i k (n * 8 ^ (j - k))) (64 * 8 ^ (j - k))) s
  let s := s.setPwin (16 * st + i) { w with nodes := w.nodes.filter (fun e => !inside e.1) }
  { s with prot.cache := s.prot.cache.filter (fun e => !(decide (e.1 / 2 ^ 24 / 16 = 16 * st + i) && inside (e.1 / 2 ^ 24 % 16 * 2 ^ 24 + e.1 % 2 ^ 24))) }

def cmdProtRebuild : Body := fun c s =>
  let st := c.num 0 1
  let i := c.num 1 1
  let k := 32 * c.num 2 1 + c.num 3 1
  if !s.ownsWin c.tenant st i ∨ s.chanTenant k ≠ c.tenant then refuse s 0x12
  else if s.getF F.hbmStatus_state st 0 = 3 then refuse s 0x40
  else if s.getF F.pwinCtl_state st i = 4 ∨ !s.flag F.pwinFault_valid st i then refuse s 0x10
  else if s.winBusy st i ∨ s.protBusy st ∨ !s.dmaFree k then refuse s 0x15
  else
    let j := s.getF F.pwinFault_level st i
    let n := s.getF F.pwinFault_node st i
    let per := 64 * 8 ^ j
    let lines := s.getF F.pwinRange_size st i * 0x100000
    let cnt := min per (lines - n * per)
    let s := (s.fetchNode (s.levels st i) st i (j + 1) (n / 8) ProtIn.clean).1
    let s := if j + 1 < s.levels st i then s.setCached st i (j + 1) (n / 8) (some true) else s
    let s := (s.bumpChild st i j n ProtIn.clean).freshSubtree st i j n
    let s := s.setF F.pwinCtl_state st i 3
    let s := s.setPwin (16 * st + i) { s.pwin (16 * st + i) with chan := some k, fill := c.num 8 8 }
    (s.dmaFill k (16 * st + i) (s.winFill st i (n * per * 64)).1 (s.winFill st i (n * per * 64)).2 (cnt * 64) (c.num 8 8), .accepted (c.op k [st, i]))

def cmdProtStatus : Body := fun c s =>
  let st := c.num 0 1
  let i := c.num 1 1
  if c.tenant ≠ 0 ∧ !s.ownsWin c.tenant st i then refuse s 0x12
  else if s.getF F.pwinCtl_state st i = 4 then refuse s 0x10
  else (s, .done 0 ([Rg.pwinRange, .pwinCtl, .pwinRights, .pwinMeta, .pwinTamper, .pwinFault].flatMap (fun r => leBytes 4 (s.reg r st i))))

/-- PROT_ENABLE: the owner of the tenant window. -/
def execProtEnable (p : Port) (m : Mbox) (s : State) : Out := .next (takeMailbox 0x0320 cmdProtEnable p m s)
/-- PROT_DISABLE: the window's owner. -/
def execProtDisable (p : Port) (m : Mbox) (s : State) : Out := .next (takeMailbox 0x0321 cmdProtDisable p m s)
/-- PROT_RIGHTS: the window's owner. -/
def execProtRights (p : Port) (m : Mbox) (s : State) : Out := .next (takeMailbox 0x0322 cmdProtRights p m s)
/-- PROT_REBUILD: the window's owner. -/
def execProtRebuild (p : Port) (m : Mbox) (s : State) : Out := .next (takeMailbox 0x0323 cmdProtRebuild p m s)
/-- PROT_STATUS: the window's owner, or T0; a FAILED window accepts PROT_DISABLE alone (R352). -/
def execProtStatus (p : Port) (m : Mbox) (s : State) : Out := .next (takeMailbox 0x0324 cmdProtStatus p m s)

/-! ### The roots (R340, R352) -/

/-- ROOT_SCRUB: the 1 ms scrub of the roots of a stack's windows. Each error names its window, whether it is uncorrectable, and its parity
and syndrome; an uncorrectable one makes the window FAILED and sets ALARM. -/
def execRootScrub (st : Die) (errs : List (Fin 16 × Bool × Bool × Fin 128)) (s : State) : Out :=
  .next (errs.foldl (fun s e =>
    let i := e.1.val
    if s.getF F.pwinCtl_state st i = 0 then s
    else
      let s := s.eccError .stack st e.2.1 0xA i (b2n e.2.2.1) e.2.2.2
      if e.2.1 ∧ s.getF F.pwinCtl_state st i ≠ 4 then
        State.alarm (s.setF F.pwinCtl_state st i 4) (s.getF F.pwinCtl_tenant st i) 0x0F (st.val * 256 + i * 4096) 0 (srcOf .prot st)
      else s) s)

end Sys2Proof.Machine
end

