-- ==== Sys2Proof/Machine/Modes.lean ====
section
/-! DEFINITION. Power, resets, HUDDLE, the Referee watchdog and the mode commands (02_modes_and_startup.md; 04 R100–R103; 19
R445–R448; 20 R449–R451; 21 R480, R481; 24 R518–R533). -/

namespace Sys2Proof.Machine

/-! ### Device reset (R36, R48, R445) -/

/-- A device reset: everything returns to its reset state but the internal store, the pins' levels, the faults stored at assembly and in the
field, and, except at power-on, the TAP (R51, R445, R506). `cause`: 0 power-on, 1 RESET_N, 2 reboot. Without exactly one live die there is
no captain, and the state of R68 lasts until the next power cycle. -/
def State.deviceReset (s : State) (cause : Nat) : State :=
  let tap := cause ≠ 0
  let lone := s.seams.captains = 1 ∨ s.seams.captains = 2 ∨ s.seams.captains = 4 ∨ s.seams.captains = 8
  let s' : State := { State.reset with
    pw := { Power.init with
      supplies := s.pw.supplies
      resetN := s.pw.resetN
      tripped := s.pw.tripped
      tripRec := s.pw.tripRec
      mode := if !s.pw.supplies then .off else if lone then .boot else .lockout
      maltarFailed := decide (s.pw.supplies ∧ ¬ lone) }
    ld := { Load.init with
      swapRecs := s.ld.swapRecs ++ s.openSwaps
      store := s.ld.store
      slotA := s.ld.slotA
      slotB := s.ld.slotB
      golden := s.ld.golden
      ptrP := s.ld.ptrP
      ptrQ := s.ld.ptrQ
      libs := s.ld.libs
      spares := s.ld.spares
      remap := s.ld.remap
      storeBad := s.ld.storeBad }
    seams := { Seams.init with captains := s.seams.captains, assembly := s.seams.assembly, field := s.seams.field }
    elec := ⟨0, s.elec.bankBad, [], s.elec.railOrder⟩
    free := s.free
    pending := s.pending }
  let s' := if tap then
      State.setReg { s' with
        dbg := { s'.dbg with
          ir := s.dbg.ir
          boundary := s.dbg.boundary
          drive := s.dbg.drive
          dr := s.dbg.dr
          accPeek := s.dbg.accPeek
          accSvc := s.dbg.accSvc
          accAddr := s.dbg.accAddr
          accData := s.dbg.accData } } .dbgStatus 5 0 (s.reg .dbgStatus 5 0) |>.setDpath 5 (s.dpath 5)
    else s'
  let s' := iter 4 (fun p s' => s'.setPort p { HostPort.init with
    perst := (s.port p).perst
    training := (s.port p).perst && s.pw.resetN && s.pw.supplies && !s.pw.tripped }) s'
  let s' := iter 8 (fun i s' => s'.setReg .railMv 0 i (s.reg .railMv 0 i)) s'
  let s' := iter 10 (fun b s' => s'.setReg .vccioMv 0 b (s.reg .vccioMv 0 b)) s'
  s'.setF F.rstCause_cause 0 0 cause

/-! ### Supplies and RESET_N (R37, R48, R520) -/

/-- SUPPLIES_VALID: power-on. The dies whose system pins are live, the level of RESET_N, the rails' readings in mV, all within range, and the stacks
whose VHBM_DD or VHBM_DDQ rose too early (R37, R68, R519, R520, R533). -/
def execSuppliesValid (live : BitVec 4) (resetN : Bool) (mv : List Word16) (early : BitVec 4) (s : State) : Out :=
  .next (if s.pw.supplies then s
    else
      let s := { s with pw.supplies := true, pw.resetN := resetN, pw.tripped := false, seams.captains := live.toNat, elec.bankBad := 0, elec.railOrder := early.toNat }
      let s := iter 8 (fun i s => s.setReg .railMv 0 i (lget 0#16 mv i).toNat) s
      let s := iter 10 (fun b s => s.setReg .vccioMv 0 b 0) s
      s.deviceReset 0)

/-- SUPPLIES_INVALID: the device enters OFF; what it held but the internal store is lost (R37, R520). -/
def execSuppliesInvalid (s : State) : Out :=
  .next (if s.pw.supplies then State.deviceReset { s with pw.supplies := false, pw.tripped := false } 0 else s)

/-- RESET_N_LOW: every operation ends, and the device is held at the first step of BOOT (R36, R48). -/
def execResetNLow (s : State) : Out :=
  .next (if !s.pw.supplies then { s with pw.resetN := false }
    else if s.pw.resetN then State.deviceReset { s with pw.resetN := false } 1 else s)

/-- RESET_N_HIGH: the device restarts at boot step 1; after a thermal trip nothing releases it (R48, R527). -/
def execResetNHigh (s : State) : Out :=
  .next (if s.pw.resetN then s
    else if s.pw.supplies then State.deviceReset { s with pw.resetN := true } 1 else { s with pw.resetN := true })

/-- The device runs: supplies valid, RESET_N high, no trip. -/
def State.awake (s : State) : Bool := s.pw.supplies && s.pw.resetN && !s.pw.tripped

/-- MALTAR_START_DONE: Maltar has passed its check and owns the mailboxes, or the device enters LOCKOUT without it. Maltar marks what it
finds WRITING as INVALID and shows the trip record (R42, R50, R107, R302, R528). -/
def execMaltarStartDone (ok : Bool) (s : State) : Out :=
  .next (if s.pw.mode ≠ .boot ∨ s.pw.step ≠ 1 ∨ !s.awake ∨ s.pw.maltarOwns then s
    else if !ok then State.lockout { s with pw.maltarFailed := true } 0 0
    else
      let s := State.startRoll { s with pw.maltarOwns := true, pw.step := 2 }
      let s := { s with
        ld.slotA := if s.ld.slotA = 1 then 3 else s.ld.slotA
        ld.slotB := if s.ld.slotB = 1 then 3 else s.ld.slotB
        ld.libs := s.ld.libs.map (fun (e : Nat × LibEntry) => (e.1, if e.2.state = 1 ∨ e.2.state = 4 then { e.2 with state := 3 } else e.2)) }
      match s.pw.tripRec with
      | none => s
      | some (src, t) =>
        (s.setReg .tripLog 0 0 (2 ^ 31 + src * 2 ^ 28 + t)).alarm 255 0x11 (src * 256 + t * 65536) 0 (srcOf .devctl 0))

/-! ### Temperature (R525–R528) -/

/-- The WARN bit of a die: the die or its stack reads above WARN_C (R526). -/
def State.warnBit (s : State) (d : Nat) : State := s.setF F.thermDie_warn 0 d (b2n (bitAt s.elec.warn d || bitAt s.elec.warn (d + 4)))

/-- The warning rule for one source: set above WARN_C, with an alarm, and cleared below WARN_C − 3 (R526). -/
def State.warn (s : State) (src : Nat) (x : Int) : State :=
  let c : Int := s.getF F.thermCtl_warnC 0 0
  let was := bitAt s.elec.warn src
  if !was ∧ c < x then
    (State.warnBit { s with elec.warn := setBits s.elec.warn src src 1 } (src % 4)).alarm 255 0x10 (src * 256) 0 (srcOf .devctl 0)
  else if was ∧ x < c - 3 then State.warnBit { s with elec.warn := setBits s.elec.warn src src 0 } (src % 4)
  else s

/-- A thermal trip: THERMTRIP_N falls, the device acts as under RESET_N low, and the record is written (R527, R528). -/
def State.trip (s : State) (src t : Nat) : State := State.deviceReset { s with pw.tripped := true, pw.tripRec := some (src, t) } 1

/-- DIE_SENSOR_READING: die `src`, or stack `src − 4`, reads t °C in two's complement. No reading is −128 (R525–R528). -/
def execDieSensorReading (src : Fin 8) (t : Fin 256) (s : State) : Out :=
  let x := sgn 8 t
  .next (if !s.pw.supplies ∨ t.val = 0x80 then s
    else
      let s :=
        if src.val < 4 then
          let peak := s.getF F.thermDie_peak 0 src
          (s.setF F.thermDie_temp 0 src t).setF F.thermDie_peak 0 src (if peak = 0x80 ∨ sgn 8 peak < x then t.val else peak)
        else if s.tempKnown (src.val - 4) then s.stackTemp (src.val - 4) (some t.val) else s
      let s := s.warn src x
      if !s.pw.tripped ∧ (if src.val < 4 then (120 : Int) else 115) ≤ x then s.trip src t else s)

/-! ### I/O banks (R521) -/

/-- Alarm 0x12 for a bank. -/
def State.bankAlarm (s : State) (b : Nat) : State := s.alarm 255 0x12 (b * 256) 0 (srcOf .devctl 0)

/-- VCCIO_FAULT: the bank stays at high impedance; in RUN an alarm is latched (R521, R533). -/
def execVccioFault (b : Fin 10) (mv : Word16) (low high mismatch : Bool) (s : State) : Out :=
  .next (if !s.pw.supplies ∨ !(low || high || mismatch) then s
    else
      let s := s.setReg .vccioMv 0 b (b2n low * 2 ^ 31 + b2n high * 2 ^ 30 + b2n mismatch * 2 ^ 29 + mv.toNat)
      let s := { s with elec.bankBad := setBits s.elec.bankBad b b 1 }
      if s.pw.mode = .run then s.bankAlarm b else s)

/-- VCCIO_RESTORED: the bank follows R51 again (R521). -/
def execVccioRestored (b : Fin 10) (mv : Word16) (s : State) : Out :=
  .next (if !s.pw.supplies then s
    else { (s.setReg .vccioMv 0 b mv.toNat) with elec.bankBad := setBits s.elec.bankBad b b 0 })

/-! ### HUDDLE (R46, R51, R100–R103) -/

/-- The tiles that hold an engine or a setting. -/
def State.usedTiles (s : State) : List Nat := (s.eng.map (·.1) ++ s.fab.cfg.map (·.1)).eraseDups

/-- The HUDDLE exit: the hold is released, the engines that the frames name start, TK0 is armed, lanes take their assigned profiles, and
banks without their VCCIO are reported (R41, R100, R102, R262, R503, R521). -/
def State.huddleGo (s : State) : State :=
  let s := { s with pw.ffHold := false, pw.step := 6, pw.huddleLate := false, pw.huddleFilter := false }
  let s := State.armTk0 (s.setMode .run)
  let s := s.usedTiles.foldl (fun s t => s.engExit t) s
  let s := s.applyAssigned.isolatedAll
  iter 10 (fun b s => if bitAt s.elec.bankBad b then s.bankAlarm b else s) s

/-- HUDDLE_LINE_RISE: the line is above 1.17 V; in HUDDLE the edge filter starts (R102). -/
def execHuddleLineRise (s : State) : Out :=
  .next (if !s.awake ∨ s.huddleLow then s
    else { s with pw.huddleHigh := true, pw.huddleFilter := decide (s.pw.mode = .huddle) })

/-- HUDDLE_LINE_FALL: a pulse shorter than 8 ns has no effect (R102). -/
def execHuddleLineFall (s : State) : Out := .next { s with pw.huddleHigh := false, pw.huddleFilter := false }

/-- HUDDLE_EXIT: the filter has seen the line high (R102). -/
def execHuddleExit (s : State) : Out :=
  .next (if s.pw.mode = .huddle ∧ s.pw.huddleHigh ∧ s.pw.huddleFilter then s.huddleGo else s)

/-- HUDDLE_TIMEOUT: ATTENTION, then the policy: wait, run alone, or LOCKOUT (R46, R104). -/
def execHuddleTimeout (s : State) : Out :=
  .next (if s.pw.mode ≠ .huddle then s
    else
      let s := { s with pw.huddleLate := true }
      match s.huddlePolicy with
      | 1 => s.huddleGo
      | 2 => State.lockout { s with pw.huddleHigh := false, pw.huddleFilter := false } 5 0
      | _ => s)

/-! ### MODE_SET (R37–R41, R300, R480) -/

/-- A region is in a state other than LIVE or BLANK (R38, R300). -/
def State.regionMoves (s : State) : Bool := (List.range 64).any (fun r => decide (s.regionState r ≠ 0 ∧ s.regionState r ≠ 5))

/-- An HBM frequency change is in progress (R38); a band change alone changes no frequency (R320). -/
def State.rateChanges (s : State) : Bool := (List.range 4).any (fun st => (s.hchange st).any (·.rate.isSome))

/-- What keeps the device from REST (R38). -/
def State.restBusy (s : State) : Bool :=
  (List.range 512).any (fun k => decide (s.chState k = 1)) || s.regionMoves || s.ld.slotWrite.isSome ||
  s.hosts.ops.any (fun o => o.opcode = 0x0320 || o.opcode = 0x0323) || s.rateChanges

/-- Entry to REST: clocks gated, stacks to self-refresh, lanes as their profiles say (R39, R406, R443). -/
def State.enterRest (s : State) : State :=
  let s := { s.keepPins with fab.stopped := true }
  let s := iter 4 (fun st s => if s.hbmSt st = 1 then (s.setHbmSt st 2).precharge st else s) s
  let s := { s with clk.leafSave := (List.range 1024).filterMap (fun t => if s.reg .leafGate 0 t = 0 then none else some (t, s.reg .leafGate 0 t)) }
  let s := s.clk.leafSave.foldl (fun s e => s.setReg .leafGate 0 e.1 0) s
  (s.setMode .rest).lanesRest

/-- The engines go on after a pause, each watchdog with its full period (R39, R40, R260). -/
def State.enginesResume (s : State) : State :=
  s.eng.foldl (fun s e => State.wdReload (s.setEngine e.1 { s.engine e.1 with holdReq := false }) e.1) s

/-- Exit from REST: stacks leave self-refresh, the gates are restored, the engines go on (R39, R41, R443). -/
def State.leaveRest (s : State) : State :=
  let s := s.setMode .run
  let s := iter 4 (fun st s => if s.hbmSt st = 2 ∧ (s.hchange st).isNone then s.setHbmSt st 1 else s) s
  let s := s.clk.leafSave.foldl (fun s e => s.setReg .leafGate 0 e.1 e.2) s
  let s := State.lanesRun (State.enginesResume { s with clk.leafSave := [], fab.stopped := false, pw.ioHeld := false, elec.kept := [] })
  (State.armTk0 ((s.net.nis.map (·.1)).foldl (fun s t => s.deliverKept t) s)).isolatedAll

/-- Entry to HOLD: DMA pauses, the interfaces are fenced, the engines stop at their next issue boundary, and then the user clocks stop (R40). -/
def State.enterHold (s : State) : State :=
  let s := { s with pw.holding := true }
  State.holdEnd (s.eng.foldl (fun s e => s.engHold e.1) s)

/-- Exit from HOLD: user clocks, then engines with their watchdogs reloaded, then the kept responses; TK0 is armed (R40, R41). -/
def State.leaveHold (s : State) : State :=
  let s := State.enginesResume { s.setMode .run with fab.stopped := false, pw.ioHeld := false, elec.kept := [] }
  (State.armTk0 ((s.net.nis.map (·.1)).foldl (fun s t => s.deliverKept t) s)).isolatedAll

def cmdModeSet : Body := fun c s =>
  let v := c.num 0 1
  let full := decide (c.port < 5) && s.fullAll c.port
  if c.tenant ≠ 0 then refuse s 0x12
  else if (v = 6 ∨ (v = 4 ∧ s.pw.mode = .hold)) ∧ !full then refuse s 0x13
  else match s.pw.mode, v with
    | .run, 5 => if s.restBusy ∨ s.pw.holding then refuse s 0x15 else (s.enterRest, .done 0 [])
    | .rest, 4 => (s.leaveRest, .done 0 [])
    | .run, 6 =>
      if s.regionMoves ∨ s.pw.holding then refuse s 0x15
      else if s.enterHold.pw.holding then (s.enterHold.addWait (c.op 0 []), .wait) else (s.enterHold, .done 0 [])
    | .hold, 4 => (s.leaveHold, .done 0 [])
    | _, _ => refuse s 0x14

/-- MODE_SET: T0; HOLD entry and exit with device-wide FULL on the issuing port. -/
def execModeSet (p : Port) (m : Mbox) (s : State) : Out := .next (takeMailbox 0x0200 cmdModeSet p m s)

def cmdReboot : Body := fun c s => if c.tenant ≠ 0 then refuse s 0x12 else ({ s with pw.rebooting := true }, .done 0 [])

/-- REBOOT: T0 (R481). -/
def execReboot (p : Port) (m : Mbox) (s : State) : Out := .next (takeMailbox 0x0201 cmdReboot p m s)

/-- REBOOT_RESET: 10 ms after the reply (R481). -/
def execRebootReset (s : State) : Out := .next (if s.pw.rebooting then s.deviceReset 2 else s)

/-! ### Host port links (R49, R446, R450, R451) -/

/-- A port stops taking commands: its mailboxes are empty, and what still runs for it is answered nowhere (R53, R446). -/
def State.portStop (s : State) (p : Nat) : State :=
  let s := State.setPort { s with
      hosts.ops := s.hosts.ops.map (fun o => if o.port = p ∧ (o.phase = 100 ∨ o.phase = 201) ∧ o.mbox < 4 then { o with mbox := o.mbox + 4 } else o)
      hosts.waits := s.hosts.waits.filter (fun w => w.port ≠ p) } p { s.port p with mbs := [] }
  iter 8 (fun n s => match (s.keeper n).cmd with
    | some (q, _) => if q = p then s.setKeeper n { s.keeper n with cmd := none } else s
    | none => s) s

/-- A port goes down: it stops, and its link and BAR2 requests with it; a disable that waited for them is over (R53, R446). -/
def State.portDown (s : State) (p : Nat) : State :=
  let s := s.portStop p
  let s := s.setPort p { s.port p with
    tlps := []
    cpls := []
    enabled := false
    training := false
    d3hot := false
    seq := 0
    bar0 := 0
    bar2 := 0
    cfg := 0 }
  ((s.setF F.hpStatus_linkUp p 0 0).setF F.hpStatus_speed p 0 0).setF F.hpStatus_width p 0 0

/-- Link training starts (R49, R474). -/
def State.portTrain (s : State) (p : Nat) : State :=
  s.setPort p { s.port p with enabled := true, training := (s.port p).perst && s.awake, seq := 0 }

/-- PERST_N_LOW: the port's debug authorization ends too (R446, R489). -/
def execPerstNLow (p : Die) (s : State) : Out :=
  .next (if !(s.port p).perst then s
    else
      let s := s.portDown p
      State.dropExchange (State.dropAuth (s.setPort p { s.port p with perst := false }) p) p)

/-- PERST_N_RISE (R49, R446). -/
def execPerstNRise (p : Die) (s : State) : Out :=
  .next (if (s.port p).perst then s else State.portTrain (s.setPort p { s.port p with perst := true }) p)

/-- PCI_EXPRESS_LINK_UP: training ends at 2.5–32.0 GT/s and 1, 2, 4 or 8 lanes (R49, R450, R470). -/
def execPciExpressLinkUp (p : Die) (speed : Fin 5) (width : Fin 4) (s : State) : Out :=
  .next (if !(s.port p).training ∨ !s.awake then s
    else
      let s := s.setPort p { s.port p with training := false }
      ((s.setF F.hpStatus_linkUp p 0 1).setF F.hpStatus_speed p 0 (speed.val + 1)).setF F.hpStatus_width p 0 (2 ^ width.val))

/-- A configuration register as the host reads it (R451); one that the manual leaves to PCI Express Base 5.0 reads as a free value. -/
def State.cfgRead (s : State) (p : Nat) (r : CfgReg) : Nat :=
  match r with
  | .id => 0x12601E8C
  | .classRev => 0x11800000 + (Config.partFact 1).toNat % 256
  | .bar0 => (s.port p).bar0
  | .bar2lo => (s.port p).bar2 % 2 ^ 32 + 12
  | .bar2hi => (s.port p).bar2 / 2 ^ 32
  | .intPin => 0
  | .dsnLo => deviceId % 2 ^ 32
  | .dsnHi => deviceId / 2 ^ 32 % 2 ^ 32
  | .powerState => if (s.port p).d3hot then 3 else 0
  | .other => (Config.freeWord s.free).toNat % 2 ^ 32

/-- A configuration write: BAR0 keeps bits [31:14], BAR2 bits [63:36], and the power state is D0 or D3hot (R450, R451). -/
def HostPort.cfgWrite (x : HostPort) (r : CfgReg) (v : Nat) : HostPort :=
  match r with
  | .bar0 => { x with bar0 := v / 2 ^ 14 * 2 ^ 14 }
  | .bar2hi => { x with bar2 := v / 16 * 2 ^ 36 }
  | .powerState => if v % 4 = 0 then { x with d3hot := false } else if v % 4 = 3 then { x with d3hot := true } else x
  | _ => x

/-- CONFIG_REQUEST: a read, whose answer the port holds, or a write. It is answered in every powered mode while the link is up (R49). -/
def execConfigRequest (p : Die) (r : CfgReg) (w : Option Word32) (s : State) : Out :=
  .next (if !s.flag F.hpStatus_linkUp p 0 then s
    else match w with
      | none =>
        let v := s.cfgRead p r
        let s := if r = .other then { s with free := s.free + 1 } else s
        s.setPort p { s.port p with cfg := v }
      | some v => s.setPort p ((s.port p).cfgWrite r v.toNat))

/-! ### The Referee watchdog (R447) -/

/-- REFEREE_WATCHDOG_EXPIRY: Maltar restarts; the mailbox authorizations end (R447, R489). -/
def execRefereeWatchdogExpiry (s : State) : Out :=
  .next (if !s.awake ∨ !s.maltarRuns then s
    else iter 5 (fun p s => (s.dropAuth p).dropExchange p) { s with pw.refRestarting := true, dbg.haltReq := 0 })

/-- The regions that the restarted Maltar finds neither LIVE nor BLANK, or whose fence still runs, are blanked (R301). -/
def State.restartRegion (s : State) (r : Nat) : State :=
  let a (s : State) : State := s.alarm (s.regionTenant r) 0x14 (r * 256) 0 (srcOf .devctl 0)
  if (s.region r).fencing ≠ 0 then a ((s.setRegion r { s.region r with blank := true }).regionJoin r)
  else if s.regionState r ≠ 0 ∧ s.regionState r ≠ 5 then a (s.regionInterrupt r)
  else s.regionDone r (s.getF F.regionStatus_lastCode 0 r)

/-- An operation that the restart finds unfinished fails with INTERNAL_ERROR: an enable leaves its windows DISABLED, a rebuild leaves its
window ENABLED with PWIN_FAULT as it was, a disable stays DISABLING (R346, R347, R351, R447). -/
def State.restartOp (s : State) (o : LongOp) : State :=
  let s := s.regionEnds o 0xFF
  if o.opcode = 0x0320 ∧ o.phase < 200 then s.enableFail o 0xFF
  else
    let s :=
      if o.opcode = 0x0321 then (s.dmaAbort o.res).dmaRelease o.res
      else if o.opcode = 0x0323 then
        let st := lget 0 o.args 0
        let i := lget 0 o.args 1
        let s := (s.dmaAbort o.res).dmaRelease o.res
        let s := s.setPwin (16 * st + i) { s.pwin (16 * st + i) with chan := none }
        if s.getF F.pwinCtl_state st i = 3 then s.setF F.pwinCtl_state st i 2 else s
      else s
    if 200 ≤ o.phase then s.closeOp o (o.phase = 201) 0xFF 0 0 [] else s.finishOp o 0xFF 0 0 []

/-- REFEREE_RESTART_DONE: the restart is counted, with its alarm; WRITING slots and library entries are INVALID; interrupted regions are
blanked; every open operation ends with INTERNAL_ERROR, and so does a command that was being executed; staged settings and relay state are
gone (R301, R447, R476, R488). -/
def execRefereeRestartDone (s : State) : Out :=
  .next (if !s.pw.refRestarting then s
    else
      let s := State.count { s with pw.refRestarting := false } F.rstCause_refereeRestarts 0 0 1
      let s := s.alarm 255 0x13 (s.getF F.rstCause_refereeRestarts 0 0 * 256) 0 (srcOf .devctl 0)
      let s := { s with
        ld.slotA := if s.ld.slotA = 1 then 3 else s.ld.slotA
        ld.slotB := if s.ld.slotB = 1 then 3 else s.ld.slotB
        ld.slotWrite := none
        ld.libs := s.ld.libs.map (fun (e : Nat × LibEntry) => (e.1, if e.2.state = 1 ∨ e.2.state = 4 then { e.2 with state := 3 } else e.2))
        sett.staged := []
        sett.commit := none
        hosts.waits := []
        hosts.reverse := []
        pw.funcOps := [] }
      let s := s.hosts.ops.foldl (fun s o => s.restartOp o) s
      let s := iter 64 (fun r s => s.restartRegion r) s
      let s := iter 8 (fun n s => s.setKeeper n { s.keeper n with cmd := none }) s
      let s := iter 5 (fun p s => iter 4 (fun m s => s.replyWaiting p m 0xFF []) s) s
      State.seamsResume (s.setPort 5 { s.port 5 with mbs := [] }))

end Sys2Proof.Machine
end

