-- ==== Sys2Proof/Machine/Func.lean ====
section
/-! DEFINITION. Disabling, enabling and resetting functions (02 R53, R54; 19 R445, R446, R448; 21 R474, R480). Kinds: 0 region, 1 signal
engine, 2 DMA channel, 3 stack controller, 4 lane, 5 quad, 6 host port, 7 timekeeper, 8 packet queue, 9 network interface. -/

namespace Sys2Proof.Machine

/-- The tenant that owns a function; T0 owns the others (R474). -/
def State.funcOwner (s : State) (kind i : Nat) : Nat :=
  match kind with
  | 0 => s.regionTenant i
  | 1 => s.tileTenant i
  | 2 => s.chanTenant i
  | 4 => s.quadTenant (i / 4)
  | 5 => s.quadTenant i
  | 7 => i
  | 8 => s.tileTenant (i / 4)
  | 9 => s.tileTenant i
  | _ => 0

/-- The function belongs to a tile whose region is not LIVE (R474). -/
def State.funcHeld (s : State) (kind i : Nat) : Bool :=
  match kind with
  | 1 => s.tileHeld i
  | 8 => s.tileHeld (i / 4)
  | 9 => s.tileHeld i
  | _ => false

/-- Owner, state, and an earlier disable or reset of the function (R54, R472, R474). -/
def State.funcRefuses (s : State) (tenant kind i : Nat) : Option Nat :=
  if tenant ≠ 0 ∧ tenant ≠ s.funcOwner kind i then some 0x12
  else if s.funcHeld kind i then some 0x14
  else if s.pw.funcOps.any (fun f => f.1 = kind && f.2.1 = i) then some 0x15
  else none

/-- The disable of R53. -/
def State.funcStop (s : State) (kind i : Nat) : State :=
  match kind with
  | 1 => s.engStop i
  | 2 => s.dmaDisable i
  | 3 => s.hbmDisable i
  | 4 => s.disableLane i
  | 5 => s.disableQuad i
  | 6 => s.portStop i
  | 7 => (s.setF F.tkCtl_enable 0 i 0).tkDisabled i
  | 8 => s.qDisable i
  | 9 => (s.setF F.niStatus_fenced i 0 1).sinkKept i
  | _ => s

/-- Requests of a host port that have not come back. -/
def State.portOuts (s : State) (p : Nat) : Nat := s.outsFor (fun w => match w with | .bar2 q _ _ _ => q = p | _ => false)

/-- The work in flight of a disabled function has ended (R53). -/
def State.funcQuiet (s : State) (kind i : Nat) : Bool :=
  match kind with
  | 1 => decide ((s.engine i).run ≠ .running) && !(decide ((s.engine i).run = .idle) && (s.engine i).stopReq)
  | 2 => decide (s.chanBusy i = 0)
  | 3 => s.hbmQuiet i && !tget false s.hbm.reinit i
  | 6 => decide (s.portOuts i = 0) && (s.port i).tlps.isEmpty
  | 9 => decide (s.niOuts i = 0)
  | _ => true

/-- The registers of a host port that a function reset returns to their reset values: tenant binding and BAR2 translation survive (R445,
R446). After it, as after a PERST_N rise, the link trains while PERST_N is high. -/
def State.portReset (s : State) (p : Nat) : State :=
  let s := [Rg.hpCounts, .hpBar2Err, .hpBar2AddrLo, .hpBar2AddrHi, .hpRelay].foldl (fun s r => s.resetReg r p 0) s
  State.dropExchange (s.portTrain p |>.dropAuth p) p

/-- The registers of a network interface but its route table. -/
def niRegs : List Rg := [.niCtl, .niTimeout, .niStatus, .niErrors]

/-- The reset that follows the disable (R54, R191, R206, R262, R281, R326, R406, R431, R446). A correction that was staged in a timekeeper
is gone, and its command ends with INTERNAL_ERROR. -/
def State.funcReset (s : State) (kind i : Nat) : State :=
  match kind with
  | 1 => s.engReset i
  | 2 => s.dmaReset i
  | 3 => (s.hbmReset i).enableReset i
  | 4 => s.resetLane i
  | 5 => s.resetQuad i
  | 6 => s.portReset i
  | 7 =>
    (match (s.keeper i).cmd with
     | some (p, m) => (s.resetTk i).replyWaiting p m 0xFF []
     | none => s.resetTk i)
  | 8 => s.qReset i
  | 9 => niRegs.foldl (fun s r => s.resetReg r i 0) (s.setNi i { s.ni i with tqi := [] })
  | _ => s

/-- The bound of a disable or reset exceeds 1 ms: NI_TIMEOUT for an interface and a port, and the rerun of a failed initialization (R53,
R54, R326). -/
def State.funcLong (s : State) (kind i : Nat) (reset : Bool) : Bool :=
  match kind with
  | 3 => reset && decide (s.getF F.hbmFreeze_cause i 0 = 4)
  | 6 => decide (1000 < s.getF F.niTimeout_timeoutUs (portTile i) 0)
  | 9 => decide (1000 < s.getF F.niTimeout_timeoutUs i 0)
  | _ => false

/-- The work in flight of a function has ended: a host port's link goes down, and the reset follows where one was asked for (R53, R54). -/
def State.funcEnd (s : State) (kind i : Nat) (reset : Bool) : State :=
  let s := if kind = 6 then s.portDown i else s
  if reset then s.funcReset kind i else s

/-- A function is disabled, and reset when the command says so, once its work in flight has ended; until then, and when the bound exceeds
1 ms, an operation waits (R53, R54). A command that takes its own port down has no reply; its record tells the outcome (R474). -/
def State.funcStart (s : State) (c : Ctx) (kind i : Nat) (reset : Bool) : State × Reply :=
  let long := s.funcLong kind i reset
  let own := decide (kind = 6) && decide (c.port = i)
  let op := c.op (kind * 65536 + i) []
  let s := State.funcStop (if kind = 3 ∧ reset then s.changeAbort i else s) kind i
  if decide (kind = 3) && long then
    ({ s.funcReset 3 i with pw.funcOps := s.pw.funcOps ++ [(3, i, false)] }, .accepted op)
  else if own then
    let x := s.port i
    ({ (s.setPort i { x with ops := addRec x.ops ⟨c.tag, c.opcode, c.mbox, false, 0, 0, 0, none⟩ }) with
        hosts.ops := s.hosts.ops ++ [op], pw.funcOps := s.pw.funcOps ++ [(kind, i, reset)] }, .wait)
  else if long then ({ s with pw.funcOps := s.pw.funcOps ++ [(kind, i, reset)] }, .accepted op)
  else if s.funcQuiet kind i then (s.funcEnd kind i reset, .done 0 [])
  else (State.addWait { s with pw.funcOps := s.pw.funcOps ++ [(kind, i, reset)] } op, .wait)

/-- The longest NI_TIMEOUT of a region's interfaces, in µs. -/
def State.regionTimeout (s : State) (r : Nat) : Nat :=
  (s.region r).tiles.foldl (fun m t => max m (s.getF F.niTimeout_timeoutUs t 0)) 0

/-- The bound of a region's function reset exceeds 1 ms: its fence with the default DRAIN, and 112.1 µs of blanking for each tile of the die with most of
them (R53, R54, R289, R296). -/
def State.regionResetLong (s : State) (r : Nat) : Bool :=
  let most := (List.range 4).foldl (fun m d => max m ((s.region r).tiles.filter (fun t => t / 256 = d)).length) 0
  decide (10000 < 10 * (10 + s.regionTimeout r) + 1121 * most)

/-- FUNC_DISABLE of a region: a fence with the default DRAIN of 10 µs (R53, R289). -/
def State.regionDisable (s : State) (c : Ctx) (r : Nat) : State × Reply :=
  match s.regionRefuses c.tenant r [0] with
  | some code => refuse s code
  | none =>
    let op := c.op r [10]
    if 1000 < 10 + s.regionTimeout r then (s.fenceStart r, .accepted op) else ((s.fenceStart r).addWait op, .wait)

/-- FUNC_RESET of a region: its command in progress ends with INTERNAL_ERROR, and the region is blanked; a BLANK region stays as it is.
The kind of reply follows the bound of the fence (R53, R54, R301, R448). -/
def State.regionFuncReset (s : State) (c : Ctx) (r : Nat) : State × Reply :=
  if c.tenant ≠ 0 ∧ c.tenant ≠ s.regionTenant r then refuse s 0x12
  else if !s.flag F.regionStatus_defined 0 r then refuse s 0x10
  else if !(s.opsOn r [0x0202, 0x0204]).isEmpty ∨ (s.region r).failCode.isSome ∨ (s.region r).blank then refuse s 0x15
  else if s.regionState r = 5 then (s, .done 0 [])
  else
    let s := (s.opsOn r regionOps).foldl (fun s o => s.regionEnds o 0xFF) (s.regionReset r)
    let s := State.finishOps s r regionOps 0xFF 0 0 []
    let op := c.op r []
    if s.regionResetLong r then (s, .accepted op) else (s.addWait op, .wait)

def cmdFuncDisable : Body := fun c s =>
  let kind := c.num 0 1
  let i := c.num 2 2
  if kind = 0 then s.regionDisable c i
  else match s.funcRefuses c.tenant kind i with
    | some code => refuse s code
    | none => s.funcStart c kind i false

def cmdFuncReset : Body := fun c s =>
  let kind := c.num 0 1
  let i := c.num 2 2
  if kind = 0 then s.regionFuncReset c i
  else match s.funcRefuses c.tenant kind i with
    | some code => refuse s code
    | none => s.funcStart c kind i true

/-- FUNC_ENABLE by kind (R474). -/
def State.funcEnable (s : State) (kind i : Nat) : State :=
  match kind with
  | 1 => s.engStart i
  | 2 => s.setF F.chCtl_enable (i / 32) (i % 32) 1
  | 3 => s.hbmEnable i
  | 4 => s.enableLane i
  | 5 => s.enableQuad i
  | 6 => if s.flag F.hpStatus_linkUp i 0 then s else s.portTrain i
  | 7 => s.setF F.tkCtl_enable 0 i 1
  | 8 => s.setF F.qCtl_enable (i / 4) (i % 4) 1
  | 9 => s.setF F.niStatus_fenced i 0 0
  | _ => s

def cmdFuncEnable : Body := fun c s =>
  let kind := c.num 0 1
  let i := c.num 2 2
  match s.funcRefuses c.tenant kind i with
  | some code => refuse s code
  | none => if kind = 0 then refuse s 0x10 else (s.funcEnable kind i, .done 0 [])

/-- FUNCTION_DISABLE_DONE: the work in flight of a function has ended; an engine that only a lock or an atomic keeps running is stopped by
force (R53, R54). -/
def execFunctionDisableDone (kind : Fin 10) (idx : Fin 4096) (s : State) : Out :=
  .next (match s.pw.funcOps.find? (fun f => f.1 = kind.val && f.2.1 = idx.val) with
    | none => s
    | some f =>
      let s := if kind.val = 1 ∧ ((s.engine idx).run = .running ∨ (s.engine idx).run = .idle ∧ (s.engine idx).stopReq) ∧ (s.engine idx).br.isNone then
          (s.engForce idx).engStopNow idx false else s
      if !s.funcQuiet kind idx then s
      else
        let s := s.funcEnd kind idx f.2.2
        State.finishOps { s with pw.funcOps := s.pw.funcOps.erase f } (kind.val * 65536 + idx.val) [0x0202, 0x0204] 0 0 0 [])

/-- FUNC_DISABLE: the function's owner, or T0. -/
def execFuncDisable (p : Port) (m : Mbox) (s : State) : Out := .next (takeMailbox 0x0202 cmdFuncDisable p m s)
/-- FUNC_ENABLE: the function's owner, or T0. -/
def execFuncEnable (p : Port) (m : Mbox) (s : State) : Out := .next (takeMailbox 0x0203 cmdFuncEnable p m s)
/-- FUNC_RESET: the function's owner, or T0. -/
def execFuncReset (p : Port) (m : Mbox) (s : State) : Out := .next (takeMailbox 0x0204 cmdFuncReset p m s)

end Sys2Proof.Machine
end

