-- ==== Sys2Proof/Machine/Mp.lean ====
section
/-! DEFINITION. The management port's bus transactions over its mailbox space (20 R452, R453, R455, R457). -/

namespace Sys2Proof.Machine

/-- MP acknowledges its address: a powered mode, and the address that settings give it (R452). -/
def State.mpAnswers (s : State) (addr : Nat) : Bool := s.portUp 4 && decide (addr = s.reg .mpAddr 4 0)

/-- MB_STATUS of a mailbox (R457). -/
def Mailbox.status (x : Mailbox) : Nat := 2 ^ 30 * (x.state % 4) + 2 ^ 26 * (x.seq % 16) + 2 ^ 16 * (x.code % 256) + x.tag % 65536

/-- A data byte at offset `o`, the `i`-th of its transaction: a command buffer takes it; a doorbell takes effect when its fourth byte follows the
other three (R453, R455, R457). -/
def State.mpByte (s : State) (o i : Nat) (b : Byte) : State :=
  if o < 0x1000 then (if o % 1024 < 512 then s.bufferWrite 4 (o / 1024) (o % 1024) [b] else s)
  else if o < 0x1040 ∧ o % 16 = 3 ∧ 3 ≤ i ∧ bitAt b.toNat 7 then s.ring 4 ((o - 0x1000) / 16)
  else s

/-- The data bytes of a write; the offset increments after each. -/
def State.mpBytes : Nat → Nat → List Byte → State → State
  | _, _, [], s => s
  | o, i, b :: l, s => State.mpBytes ((o + 1) % 65536) (i + 1) l (s.mpByte o i b)

/-- The byte that a read returns at offset `o`, the `i`-th of its transaction: buffers; MB_STATUS, latched when its first byte is read; zero
elsewhere, and for a part of MB_STATUS without its first byte (R453, R455). -/
def State.mpGet (s : State) (o i : Nat) : State × Byte :=
  if o < 0x1000 then
    (s, if o % 1024 < 512 then tget 0#8 (s.mbox 4 (o / 1024)).cmd (o % 1024) else tget 0#8 (s.mbox 4 (o / 1024)).rep (o % 1024 - 512))
  else if o < 0x1040 ∧ 4 ≤ o % 16 ∧ o % 16 < 8 ∧ o % 16 - 4 ≤ i then
    let s := if o % 16 = 4 then { s with hosts.mpLatch := leBytes 4 (s.mbox 4 ((o - 0x1000) / 16)).status } else s
    (s, s.hosts.mpLatch.getD (o % 16 - 4) 0#8)
  else (s, 0#8)

/-- Read `n` bytes. -/
def State.mpGets : Nat → Nat → Nat → State → List Byte → State × List Byte
  | 0, _, _, s, acc => (s, acc)
  | n + 1, o, i, s, acc =>
    match s.mpGet o i with
    | (s', b) => State.mpGets n ((o + 1) % 65536) (i + 1) s' (acc ++ [b])

/-- MP_WRITE: the address byte, the offset, then data bytes (R453). -/
def execMpWrite (addr : BitVec 7) (off : Word16) (data : List Byte) (s : State) : Out :=
  .next (if !s.mpAnswers addr.toNat then s
  else
    let s := { s with hosts.mpIdle := false, hosts.mpOff := (off.toNat + data.length) % 65536 }
    State.mpBytes off.toNat 0 data s)

/-- MP_READ: the offset, a repeated START, then `n` bytes (R453). -/
def execMpRead (addr : BitVec 7) (off : Word16) (n : Nat) (s : State) : Out :=
  .next (if !s.mpAnswers addr.toNat then s
  else
    let s := { s with hosts.mpIdle := false, hosts.mpOff := (off.toNat + n) % 65536 }
    match State.mpGets n off.toNat 0 s [] with
    | (s, l) => { s with hosts.mpOut := l })

/-- MP_SCL_TIMEOUT: MP releases SDA and waits for the next START (R452). -/
def execMpSclTimeout (s : State) : Out := .next (if s.portUp 4 then { s with hosts.mpIdle := true } else s)

end Sys2Proof.Machine
end

