-- ==== Sys2Proof/Machine/RegRows.lean ====
section
/-! DEFINITION. The rows of single registers: network requests to register space that carry out the action of one register. Each row serves a
request that names its register (and sets its bit), with the checks and effects of RegAccess.lean; any other request is left as it is. The
debug rows are writes of the debug block by a path. -/

namespace Sys2Proof.Machine

/-- The request is of kind `op` and one of the registers it reaches, with the value written there, satisfies `p`. -/
def Req.hits (r : Req) (op : NOp) (p : Rg → Nat → Bool) : Bool :=
  decide (r.op = op) &&
  (match regsAt r.addr r.size with
   | none => false
   | some l => l.zipIdx.any (fun x => p x.1.1 (leAt r.data (4 * x.2) 4)))

/-- Serve the request when it hits; otherwise nothing happens. -/
def regRow (op : NOp) (p : Rg → Nat → Bool) (q : Req) (s : State) : Out := .next (if q.hits op p then s.serveReg q else s)

/-- REGISTER_WRITE: a request to register space that has no row of its own; reads are served in the same way (R31). -/
def execRegisterWrite (q : Req) (s : State) : Out := .next (if 0x7F0000000000 ≤ q.addr ∧ q.addr < 0x800000000000 then s.serveReg q else s)

/-- SEAM_RESET_GO: GO retrains the selected bundles without the route steps (R84). -/
def execSeamResetGo (q : Req) (s : State) : Out := regRow .write (fun r v => r = .seamReset && bitAt v 31) q s

/-- RTR_APPLY: the ports named take their shadow settings (R186). -/
def execRtrApply (q : Req) (s : State) : Out := regRow .write (fun r _ => r = .rtrApply) q s

/-- ROUTE_CTL_WRITE: the staged codes and the new control word of an entry take effect together (R188). -/
def execRouteCtlWrite (q : Req) (s : State) : Out := regRow .write (fun r _ => r = .routeCtl) q s

/-- Q_PUSH_LO: stages bits [31:0] (R200). -/
def execQPushLo (q : Req) (s : State) : Out := regRow .write (fun r _ => r = .qPushLo) q s

/-- Q_PUSH_HI: pushes a word with the staged low half (R200). -/
def execQPushHi (q : Req) (s : State) : Out := regRow .write (fun r _ => r = .qPushHi) q s

/-- Q_PUSH_LAST_LO: stages bits [31:0] of a last word (R200). -/
def execQPushLastLo (q : Req) (s : State) : Out := regRow .write (fun r _ => r = .qPushLastLo) q s

/-- Q_PUSH_LAST_HI: pushes a word and commits its packet (R200). -/
def execQPushLastHi (q : Req) (s : State) : Out := regRow .write (fun r _ => r = .qPushLastHi) q s

/-- Q_PUSH_ABORT: rewinds the uncommitted packet (R198). -/
def execQPushAbort (q : Req) (s : State) : Out := regRow .write (fun r _ => r = .qPushAbort) q s

/-- Q_POP_LO: a read pops a word (R205). -/
def execQPopLo (q : Req) (s : State) : Out := regRow .read (fun r _ => r = .qPopLo) q s

/-- Q_FLUSH: FLUSH in Q_CTL discards the committed words that the consumer sees (R206). -/
def execQFlush (q : Req) (s : State) : Out := regRow .write (fun r v => r = .qCtl && bitAt v 30) q s

/-- Q_CTL_ENABLE: ENABLE in Q_CTL disables or enables a queue (R53, R207). -/
def execQCtlEnable (q : Req) (s : State) : Out := regRow .write (fun r _ => r = .qCtl) q s

/-- EV_RAISE: raises the named lines, or is refused (R209). -/
def execEvRaise (q : Req) (s : State) : Out := regRow .write (fun r _ => r = .evRaise) q s

/-- WATCHDOG_RELOAD: a write of ENG_WDOG reloads the watchdog (R260). -/
def execWatchdogReload (q : Req) (s : State) : Out := regRow .write (fun r _ => r = .engWdog) q s

/-- ENG_START: START in ENG_CTL (R262). -/
def execEngStart (q : Req) (s : State) : Out := regRow .write (fun r v => r = .engCtl && bitAt v 31) q s

/-- ENG_STOP: STOP in ENG_CTL (R262). -/
def execEngStop (q : Req) (s : State) : Out := regRow .write (fun r v => r = .engCtl && bitAt v 30) q s

/-- ENG_DOORBELL_RING: RING sets source 13 pending (R251). -/
def execEngDoorbellRing (q : Req) (s : State) : Out := regRow .write (fun r v => r = .engDoorbell && bitAt v 0) q s

/-- CHANNEL_START: START in CH_CTL (R280). -/
def execChannelStart (q : Req) (s : State) : Out := regRow .write (fun r v => r = .chCtl && bitAt v 31) q s

/-- CH_CTL_ENABLE: ENABLE in CH_CTL (R281). -/
def execChCtlEnable (q : Req) (s : State) : Out := regRow .write (fun r _ => r = .chCtl) q s

/-- RATE_GO: RATE_GO in HBM_CTL (R323). -/
def execRateGo (q : Req) (s : State) : Out := regRow .write (fun r v => r = .hbmCtl && bitAt v 30) q s

/-- THAW: THAW in HBM_CTL (R326). -/
def execThaw (q : Req) (s : State) : Out := regRow .write (fun r v => r = .hbmCtl && bitAt v 31) q s

/-- HBM_CTL_ENABLE: ENABLE in HBM_CTL (R53). -/
def execHbmCtlEnable (q : Req) (s : State) : Out := regRow .write (fun r _ => r = .hbmCtl) q s

/-- ECC_CLEAR: CLEAR in ECC_LOGCTL empties the log (R373). -/
def execEccClear (q : Req) (s : State) : Out := regRow .write (fun r v => (r = .eccLogctlT || r = .eccLogctlS || r = .eccLogctlD) && bitAt v 31) q s

/-- QFLIP: QFLIP in test mode (R375). -/
def execQflip (q : Req) (s : State) : Out := regRow .write (fun r v => r = .eccTestT && decide (bits v 23 20 ≠ 0)) q s

/-- CHK_ARM: CHK_ARM in test mode (R375). -/
def execChkArm (q : Req) (s : State) : Out := regRow .write (fun r v => r = .eccTestT && bitAt v 19) q s

/-- SEV_INJ: SEV_INJ in test mode (R376). -/
def execSevInj (q : Req) (s : State) : Out := regRow .write (fun r _ => r = .eccTestS) q s

/-- LN_RESTART: RESTART in LN_CTL (R393). -/
def execLnRestart (q : Req) (s : State) : Out := regRow .write (fun r v => r = .lnCtl && bitAt v 30) q s

/-- LN_CTL_ENABLE: ENABLE in LN_CTL (R406). -/
def execLnCtlEnable (q : Req) (s : State) : Out := regRow .write (fun r _ => r = .lnCtl) q s

/-- QUAD_CTL_ENABLE: ENABLE in QUAD_CTL (R53). -/
def execQuadCtlEnable (q : Req) (s : State) : Out := regRow .write (fun r _ => r = .quadCtl) q s

/-- PATTERN_TEST_ENABLE: GEN_EN or CHK_EN moves the lane into or out of TEST (R405). -/
def execPatternTestEnable (q : Req) (s : State) : Out := regRow .write (fun r _ => r = .lnTest) q s

/-- INJECT: inverts bit 0 of the next word sent (R405). -/
def execInject (q : Req) (s : State) : Out := regRow .write (fun r v => r = .lnTest && bitAt v 24) q s

/-- BURST: inverts BURST_LEN + 1 bits of the next word sent (R405). -/
def execBurst (q : Req) (s : State) : Out := regRow .write (fun r v => r = .lnTest && bitAt v 23) q s

/-- LN_TXSTAMP_NS: a read pops the oldest transmit stamp (R399). -/
def execLnTxstampNs (q : Req) (s : State) : Out := regRow .read (fun r _ => r = .lnTxstampNs) q s

/-- GO_SET: stages a set of the timekeeper (R417). -/
def execGoSet (q : Req) (s : State) : Out := regRow .write (fun r v => r = .tkCtl && bitAt v 29) q s

/-- GO_ADJ: stages an adjust (R417). -/
def execGoAdj (q : Req) (s : State) : Out := regRow .write (fun r v => r = .tkCtl && bitAt v 28) q s

/-- GO_INCR: stages a rate (R417). -/
def execGoIncr (q : Req) (s : State) : Out := regRow .write (fun r v => r = .tkCtl && bitAt v 27) q s

/-- ARM: re-arms TK0 (R413). -/
def execArm (q : Req) (s : State) : Out := regRow .write (fun r v => r = .tkCtl && bitAt v 30) q s

/-- SNAP: copies the value into TK_SNAP (R419). -/
def execSnap (q : Req) (s : State) : Out := regRow .write (fun r v => r = .tkCtl && bitAt v 26) q s

/-- TK_CTL_ENABLE: ENABLE in TK_CTL (R431). -/
def execTkCtlEnable (q : Req) (s : State) : Out := regRow .write (fun r _ => r = .tkCtl) q s

/-- CAR_SEL: SEL in CAR_CTL starts a carrier switch (R438). -/
def execCarSel (q : Req) (s : State) : Out := regRow .write (fun r _ => r = .carCtl) q s

/-- GC_SRC: SRC of an enabled global net starts a switch (R441). -/
def execGcSrc (q : Req) (s : State) : Out := regRow .write (fun r _ => r = .gcCtl) q s

/-- GC_ENABLE: ENABLE in GC_CTL (R443). -/
def execGcEnable (q : Req) (s : State) : Out := regRow .write (fun r _ => r = .gcCtl) q s

/-- SY_ENABLE: ENABLE in SY_CTL (R436). -/
def execSyEnable (q : Req) (s : State) : Out := regRow .write (fun r _ => r = .syCtl) q s

/-- LEAF_GATE: turns leaf gates of a tile on or off (R443). -/
def execLeafGate (q : Req) (s : State) : Out := regRow .write (fun r _ => r = .leafGate) q s

/-- FC_START: START in FC_CTL begins a count (R444). -/
def execFcStart (q : Req) (s : State) : Out := regRow .write (fun r v => r = .fcCtl && bitAt v 31) q s

/-- A write of the debug block by a path, at the service of the debug master. -/
def dbgWrite (path off v : Nat) (s : State) : Out :=
  .next (s.regAccess (s.dbgRq path) true .write (0x7F0200010000 + off) 4 (leBytes 4 v)).1

/-- DBG_ENG_HALT: HALT in DBG_ENG_CTL (R511). -/
def execDbgEngHalt (path : Fin 6) (irqInStep : Bool) (s : State) : Out := dbgWrite path 0x104 (2 ^ 31 + b2n irqInStep * 2 ^ 28) s

/-- DBG_ENG_RESUME: RESUME in DBG_ENG_CTL (R511). -/
def execDbgEngResume (path : Fin 6) (irqInStep : Bool) (s : State) : Out := dbgWrite path 0x104 (2 ^ 30 + b2n irqInStep * 2 ^ 28) s

/-- DBG_ENG_STEP: STEP in DBG_ENG_CTL (R511). -/
def execDbgEngStep (path : Fin 6) (irqInStep : Bool) (s : State) : Out := dbgWrite path 0x104 (2 ^ 29 + b2n irqInStep * 2 ^ 28) s

/-- DBG_ENG_INJECT: a write of DBG_ENG_INJECT feeds a word (R511). -/
def execDbgEngInject (path : Fin 6) (w : Word32) (s : State) : Out := dbgWrite path 0x108 w.toNat s

/-- REF_HALT: HALT in REF_DBG_CTL, from the TAP (R514). -/
def execRefHalt (s : State) : Out := dbgWrite 5 0x1000 (2 ^ 31) s

/-- REF_RESUME: RESUME in REF_DBG_CTL, from the TAP (R514). -/
def execRefResume (s : State) : Out := dbgWrite 5 0x1000 (2 ^ 30) s

/-- REF_STEP: STEP in REF_DBG_CTL, from the TAP (R514). -/
def execRefStep (s : State) : Out := dbgWrite 5 0x1000 (2 ^ 29) s

/-- REF_INJECT: a write of REF_INJECT feeds a Referee word, from the TAP (R514). -/
def execRefInject (w : Word32) (s : State) : Out := dbgWrite 5 0x100C w.toNat s

end Sys2Proof.Machine
end

