-- ==== Sys2Proof/Machine/Relay.lean ====
section
/-! DEFINITION. Relay: command, reply and route frames, and the relay commands (20 R466–R469; 21 R490, R491). -/

namespace Sys2Proof.Machine

/-! ### The relay commands (R490) -/

/-- RELAY_VIEW: a page of 48 entries of the port's view. -/
def cmdRelayView : Body := fun c s =>
  let l := ((s.port (s.ctxHost c)).view.drop (48 * c.num 0 1)).take 48
  (s, .done 0 (leBytes 1 l.length ++ leBytes 7 0 ++
    l.flatMap (fun (e : Nat × Nat) => leBytes 8 e.1 ++ leBytes 1 e.2 ++ leBytes 1 (b2n (s.trusted e.1)))))

/-- RELAY_ROUTES: up to 48 routes from START on, in order of hops and then identifier. -/
def cmdRelayRoutes : Body := fun c s =>
  let l := (s.routeOrder.drop (c.num 0 2)).take 48
  (s, .done 0 (leBytes 2 s.hosts.routes.length ++ leBytes 1 l.length ++ leBytes 5 0 ++
    l.flatMap (fun (r : RelayRoute) => leBytes 8 r.dev ++ leBytes 1 r.hops ++ leBytes 1 r.lane)))

/-- RELAY_VIEW (R490). -/
def execRelayView (p : Port) (m : Mbox) (s : State) : Out := .next (takeMailbox 0x0900 cmdRelayView p m s)
/-- RELAY_ROUTES (R490). -/
def execRelayRoutes (p : Port) (m : Mbox) (s : State) : Out := .next (takeMailbox 0x0901 cmdRelayRoutes p m s)

/-! ### What a target executes (R468) -/

/-- The command of each opcode (R475–R492); GET_EVENTS (0x0002) is not relayed (R491). -/
def bodyOf : Nat → Option Body
  | 0x0000 => some cmdPoll
  | 0x0001 => some cmdIdentify
  | 0x0003 => some cmdGetStatus
  | 0x0100 => some cmdRegionStatus
  | 0x0101 => some cmdRegionSwap
  | 0x0102 => some cmdRegionFence
  | 0x0103 => some cmdRegionCapture
  | 0x0104 => some cmdRegionLoad
  | 0x0105 => some cmdRegionRestore
  | 0x0106 => some cmdRegionRelease
  | 0x0107 => some cmdRegionBlank
  | 0x0108 => some cmdRegionLibWrite
  | 0x0109 => some cmdLibStatus
  | 0x0110 => some cmdSlotWrite
  | 0x0111 => some cmdSlotData
  | 0x0112 => some (cmdSlotActivate 9)
  | 0x0113 => some cmdGoldenWrite
  | 0x0200 => some cmdModeSet
  | 0x0201 => some cmdReboot
  | 0x0202 => some cmdFuncDisable
  | 0x0203 => some cmdFuncEnable
  | 0x0204 => some cmdFuncReset
  | 0x0205 => some cmdSeamReset
  | 0x0300 => some cmdDmaRun
  | 0x0301 => some cmdDmaStatus
  | 0x0302 => some cmdDmaStop
  | 0x0310 => some cmdHbmStatus
  | 0x0311 => some cmdHbmRate
  | 0x0312 => some cmdHbmThaw
  | 0x0313 => some cmdSharedWindow
  | 0x0320 => some cmdProtEnable
  | 0x0321 => some cmdProtDisable
  | 0x0322 => some cmdProtRights
  | 0x0323 => some cmdProtRebuild
  | 0x0324 => some cmdProtStatus
  | 0x0330 => some cmdEccTest
  | 0x0331 => some cmdEccLog
  | 0x0340 => some cmdIstSchedule
  | 0x0350 => some cmdBar2Map
  | 0x0400 => some cmdLaneApply
  | 0x0401 => some cmdLaneStatus
  | 0x0402 => some cmdLaneRestart
  | 0x0403 => some cmdLaneDisable
  | 0x0404 => some cmdLaneTest
  | 0x0500 => some cmdTimeGet
  | 0x0501 => some cmdTimeSet
  | 0x0502 => some cmdTimeAdjust
  | 0x0503 => some cmdTimeRate
  | 0x0504 => some cmdTimeArm
  | 0x0505 => some cmdTimeClear
  | 0x0506 => some cmdTimeAlarm
  | 0x0507 => some cmdTimeCapture
  | 0x0508 => some cmdTimePps
  | 0x0509 => some cmdTimeSource
  | 0x050A => some cmdTimeStatus
  | 0x0600 => some cmdClockStatus
  | 0x0601 => some cmdClockPlan
  | 0x0602 => some cmdClockSelect
  | 0x0603 => some cmdClockGate
  | 0x0604 => some cmdClockMeasure
  | 0x0700 => some cmdSettingsGet
  | 0x0701 => some cmdSettingsPut
  | 0x0702 => some cmdSettingsDelete
  | 0x0703 => some cmdSettingsCommit
  | 0x0704 => some cmdSettingsDiscard
  | 0x0800 => some cmdDbgChallenge
  | 0x0801 => some cmdDbgResponse
  | 0x0802 => some cmdDbgDrop
  | 0x0803 => some cmdDbgStatus
  | 0x0810 => some cmdDbgHalt
  | 0x0811 => some cmdDbgResume
  | 0x0812 => some cmdDbgFeed
  | 0x0813 => some cmdDbgPeek
  | 0x0814 => some cmdDbgPoke
  | 0x0900 => some cmdRelayView
  | 0x0901 => some cmdRelayRoutes
  | 0x0F00 => some cmdRegRead
  | 0x0F01 => some cmdRegWrite
  | 0x0F02 => some cmdRegModify
  | 0x0F03 => some cmdRegReadN
  | 0x0F04 => some cmdRegWriteList
  | _ => none

/-- The completion codes that a reply carries (R13). -/
def completionCodes : List Nat :=
  [0x00, 0x01, 0x10, 0x11, 0x12, 0x13, 0x14, 0x15, 0x16, 0x17, 0x20, 0x21, 0x22, 0x23, 0x30, 0x31, 0x40, 0x41, 0x7F, 0xFF]

/-- A RELAY frame of the given KIND obeys its layout: reserved fields zero, the origin's port one of the five; a command's BODY a header and
its payload, a reply's the same, a route's up to 64 entries of 9 bytes (R456, R469). DESIGN CHOICE (log entry 117): a reply whose CODE is none of R13
breaks it. -/
def relayOk (kind : Nat) (b : List Byte) : Bool :=
  let n := b.length - 24
  decide (24 ≤ b.length) && decide (leAt b 0 1 = 3) && decide (leAt b 1 1 = kind) && decide (leAt b 3 1 / 4 % 8 ≤ 4) && decide (leAt b 22 2 = 0) &&
  (if kind = 2 then decide (n % 9 = 0) && decide (n ≤ 576)
   else decide (16 ≤ n) && decide (n ≤ 512) && decide (n = 16 + leAt b 26 2) && (kind ≠ 1 || completionCodes.contains (leAt b 24 1)))

/-- Send a RELAY frame with HOPS increased by one over `hops` (R467). -/
def State.relaySend (s : State) (lane kind hops : Nat) (b body : List Byte) : State :=
  { s with hosts.relayOut := s.hosts.relayOut ++ [⟨lane, kind, hops + 1, leAt b 3 1, leAt b 4 8, leAt b 12 8, leAt b 20 2, body⟩] }

/-- Answer a command frame with a completion code, back on the lane it came from. Its reply has LENGTH 0, and no device executed it, so
REMOTE_SB is zero (R456, R467). -/
def State.relayRefuse (s : State) (l code : Nat) (b : List Byte) : State :=
  s.relaySend l 1 0 b (replyBytes code (leAt b 2 1) (leAt b 24 2) (leAt b 28 2) 0 0 [])

/-- Execute a relayed command as the tenant of its origin port; as T0 only for a trusted origin (R468, R472, R491). The origin's port counts it
as in progress (R467). -/
def State.relayExecute (s : State) (l : Nat) (b : List Byte) : State :=
  let org := leAt b 3 1
  let t := org / 32
  let op := leAt b 24 2
  let m := ((List.range 1024).map (fun i => 4 * i + org % 4)).find? (fun m => (s.mbox 5 m).state = 0)
  match m with
  | none => s
  | some m =>
    let buf := putBytes (putBytes (putBytes [] 0 (b.drop 24)) 1024 (b.take 24)) 1048 (leBytes 2 l)
    let s := s.setMbox 5 m { Mailbox.init with state := 2, tag := leAt b 28 2, cmd := buf }
    if t = 0 ∧ !s.trusted (leAt b 4 8) then s.reply 5 m 0x13 []
    else
      let c : Ctx := ⟨5, m, t, op, leAt b 28 2, b.drop 40, some (leAt b 4 8, t)⟩
      match bodyOf op with
      | none => s.reply 5 m 0x10 []
      | some body =>
        let (s, r) := runChecked body c false s
        s.answer c r

/-- A command frame on lane l: executed when this device is its target, otherwise forwarded, with the lane kept for the reply; 63 hops are the
limit (R466, R467). -/
def State.relayArrive (s : State) (l : Nat) (b : List Byte) : State :=
  if leAt b 12 8 = deviceId then s.relayExecute l b
  else if 63 ≤ leAt b 2 1 then s.relayRefuse l 0x31 b
  else match s.relayLane (leAt b 12 8) with
    | none => s.relayRefuse l 0x30 b
    | some out =>
      let key (e : Nat × Nat × Nat) : Bool := e.1 = leAt b 20 2 && e.2.1 = leAt b 4 8
      let back := s.hosts.reverse.filter (fun e => !key e) ++ [(leAt b 20 2, leAt b 4 8, l)]
      State.relaySend { s with hosts.reverse := back } out 0 (leAt b 2 1) b (b.drop 24)

/-- A reply frame: delivered to the mailbox that waits under its RTAG, or forwarded on the reverse path; one that nothing waits for is discarded
(R467, R491). -/
def State.relayDeliver (s : State) (b : List Byte) : State :=
  if leAt b 4 8 = deviceId then
    match s.hosts.waits.find? (fun w => w.rtag = leAt b 20 2) with
    | none => s
    | some w =>
      let s := { s with hosts.waits := s.hosts.waits.filter (fun w => w.rtag ≠ leAt b 20 2) }
      if (s.mbox w.port w.mbox).state = 2 then
        s.replyWith w.port w.mbox (leAt b 24 1) (leAt b 25 1) (leAt b 36 4) (b.drop 40)
      else s
  else
    match s.hosts.reverse.find? (fun e => e.1 = leAt b 20 2 && e.2.1 = leAt b 4 8) with
    | none => s
    | some e =>
      State.relaySend { s with hosts.reverse := s.hosts.reverse.erase e } e.2.2 1 (leAt b 2 1) b (b.drop 24)

/-- Take one entry of a route frame: a device at `hops` through lane l replaces a longer route, and confirms or changes the one through the
same lane; beyond 63 hops a device cannot be reached. -/
def takeRoute (routes : List RelayRoute) (l dev hops : Nat) : List RelayRoute :=
  if dev = deviceId then routes
  else
    let same := routes.find? (fun r => r.dev = dev)
    let others := routes.filter (fun r => r.dev ≠ dev)
    match same with
    | none => if hops ≤ 63 then routes ++ [⟨dev, hops, l, 0⟩] else routes
    | some r =>
      if r.lane = l then (if hops ≤ 63 then others ++ [⟨dev, hops, l, 0⟩] else others)
      else if hops < r.hops then others ++ [⟨dev, hops, l, 0⟩] else routes

/-- A route frame of the neighbor on lane l: each of its entries is one hop further from here. -/
def State.relayLearn (s : State) (l : Nat) (b : List Byte) : State :=
  let n := (b.length - 24) / 9
  let routes := (List.range n).foldl (fun rs i => takeRoute rs l (leAt b (24 + 9 * i) 8) (leAt b (32 + 9 * i) 1 + 1)) s.hosts.routes
  State.viewUpdate { s with hosts.routes := routes }

/-- A frame of one of the three kinds arrives on a Systemlink lane; one that breaks its layout is counted in BAD (R401, R469). While Maltar
does not run, nothing takes the frame (R33, R467). -/
def State.relayFrame (s : State) (l kind : Nat) (b : List Byte) (act : State → State) : State :=
  if !s.sysActive l then s
  else if !relayOk kind b then s.lnCount F.lnRxCounts_bad l 1
  else if !s.maltarRuns then s
  else act s

/-- RELAY_COMMAND: a frame without its FCS (R466–R469). -/
def execRelayCommand (l : Lane) (b : List Byte) (s : State) : Out := .next (s.relayFrame l 0 b (fun s => s.relayArrive l b))
/-- RELAY_REPLY: a frame without its FCS (R467, R469). -/
def execRelayReply (l : Lane) (b : List Byte) (s : State) : Out := .next (s.relayFrame l 1 b (fun s => s.relayDeliver b))
/-- RELAY_ROUTE: a frame without its FCS, from a neighbor that is present (R402, R467, R469). -/
def execRelayRoute (l : Lane) (b : List Byte) (s : State) : Out :=
  .next (s.relayFrame l 2 b (fun s => if s.slPresent l then s.relayLearn l b else s))

/-! ### Routes and timeouts (R467) -/

/-- Cut a list into parts of at most 64 entries. -/
def parts64 (l : List (Nat × Nat)) : List (List (Nat × Nat)) :=
  (List.range (ceilDiv l.length 64)).map (fun i => (l.drop (64 * i)).take 64)

/-- The route frames for the neighbor on lane l: this device at 0 hops, then every route but those through that lane. -/
def State.routeFrames (s : State) (l : Nat) : List RelayFrame :=
  let l1 := (deviceId, 0) :: (s.hosts.routes.filter (fun r => r.lane ≠ l)).map (fun r => (r.dev, r.hops))
  (parts64 l1).map (fun p => ⟨l, 2, 1, 0, deviceId, s.nbrId l, 0, p.flatMap (fun (e : Nat × Nat) => leBytes 8 e.1 ++ leBytes 1 e.2)⟩)

/-- ROUTE_EXCHANGE: every 100 ms Maltar sends its routes to each neighbor that is present; a route that three exchanges have not confirmed is
dropped. -/
def execRouteExchange (s : State) : Out :=
  .next (if !s.maltarRuns then s
  else
    let routes := (s.hosts.routes.map (fun (r : RelayRoute) => { r with age := r.age + 1 })).filter (fun r => r.age ≤ 3)
    let s := State.viewUpdate { s with hosts.routes := routes }
    iter 192 (fun l s => if s.sysActive l ∧ s.slPresent l then { s with hosts.relayOut := s.hosts.relayOut ++ s.routeFrames l } else s) s)

/-- RELAY_TIMEOUT: the command under this RTAG has waited for RELAY_TIMEOUT since its ring: RELAY_UNREACHABLE, and a later reply finds nothing
waiting. While the Referee is halted the command stays RUNNING, and Maltar completes it after release (R460, R467). -/
def execRelayTimeout (rtag : Word16) (s : State) : Out :=
  .next (match s.hosts.waits.find? (fun w => w.rtag = rtag.toNat) with
  | none => s
  | some w =>
    let s := { s with hosts.waits := s.hosts.waits.filter (fun w => w.rtag ≠ rtag.toNat) }
    if s.maltarRuns then s.replyWaiting w.port w.mbox 0x30 []
    else
      let x := s.mbox w.port w.mbox
      { s with hosts.ops := s.hosts.ops ++ [⟨w.port, w.mbox, x.htag, x.opcode, s.portTenant w.port, 0, [0x30, 0, 0], 201, none⟩] })

end Sys2Proof.Machine
end

