-- ==== Sys2Proof/Machine/Tqi.lean ====
section
/-! DEFINITION. The fabric port window of a tile: requests handed to the design on TQI and answered on TSO (07 R167, R179, R180; 01
R30, R535). -/

namespace Sys2Proof.Machine

/-- The lowest TID that no held request uses. -/
def freeTid (l : List Tqi) : Option Nat := (List.range 32).find? (fun i => l.all (fun q => decide (q.tid ≠ i)))

/-- FABRIC_WINDOW_REQUEST: a reserved offset, rights, then a fenced interface or a window that the frames do not enable, then 32 requests held; otherwise
the request is held under a TID and handed to the design (R31, R40, R167, R535). -/
def execFabricWindowRequest (r : Req) (s : State) : Out :=
  .next (match aperture r.addr with
    | none => s
    | some (t, o) =>
      if o < 0x200000 ∨ !s.net.reqs.contains r then s
      else if !r.crcOk then State.respond (State.count (s.takeReq r) F.niErrors_crcFails t 0 1) r svcPoisoned []
      else
        let s := s.takeReq r
        if o < 0x800000 then s.respond r svcAddress []
        else if !s.mayReach r.rq t then s.respond r svcDenied []
        else if s.niFenced t || s.inHold || !(s.tcfg t).tqiOn then s.respond r svcFenced []
        else match freeTid (s.ni t).tqi with
          | none => s.respond r svcBusy []
          | some tid => s.setNi t { s.ni t with tqi := (s.ni t).tqi ++ [⟨tid, r, false, 0⟩] })

/-- The read data that a response carries: as many bytes as the request addresses, for a READ or an atomic (R170). -/
def respData (r : Req) (data : List Byte) : List Byte :=
  match r.op with
  | .write => []
  | .invalidate => []
  | _ => slice 0#8 data 0 r.size

/-- The service code that the design presents on TSO. DESIGN CHOICE (log entry 118): where it presents a reserved code, which the device never returns
(R8), a free one of R185. -/
def State.tsoCode (s : State) (t v : Nat) : Nat :=
  let c := s.sense t .ni .tsoSvc 4 v
  if c ≤ 10 then c else (Config.freeWord s.free).toNat % 11

/-- A whole TSO response: it answers the held request of its TID in any order; one whose TID is not held is discarded and counted in BAD_TID (R167). -/
def State.tsoEnd (s : State) (t tid code : Nat) (data : List Byte) : State :=
  match (s.ni t).tqi.find? (fun q => q.tid = tid) with
  | none => s.count F.niErrors_badTid t 0 1
  | some q => State.respond (s.setNi t { s.ni t with tqi := (s.ni t).tqi.erase q }) q.req code (respData q.req data)

/-- The bytes of read data that a response to the held request of a TID brings; none where it is not held. -/
def State.tsoLen (s : State) (t tid : Nat) : Nat :=
  match (s.ni t).tqi.find? (fun q => q.tid = tid) with
  | none => 0
  | some q => (respData q.req []).length

/-- TSO_RESPONSE: an edge with VALID carries one beat of 256 bits; the last one ends the response (R167). DESIGN CHOICE (log entry 135): TID and the
service code come with its first beat. `data`: the levels of data pins that nothing drives. -/
def execTsoResponse (t : Tile) (tid : Fin 32) (svc : Fin 11) (data : List Byte) (join : Bool) (s : State) : Out :=
  .next (if !s.portRuns t .ni 0 then s
    else
      let s := s.portEdge t .ni 0 join
      let p := s.preEdge
      if !p.senseBit t .ni .tsoValid 0 true then s
      else
        let id := p.sense t .ni .tsoTid 5 tid
        let (id, code, len, got) := (p.ni t).tso.getD (id, p.tsoCode t svc, p.tsoLen t id, [])
        let n := len - got.length
        let d := got ++ p.beat t .tsoData n data
        if 32 < n then s.setNi t { s.ni t with tso := some (id, code, len, d) }
        else State.tsoEnd (s.setNi t { s.ni t with tso := none }) t id code d)

end Sys2Proof.Machine
end

