-- ==== Sys2Proof/Machine/Dispatch.lean ====
section
/-! DEFINITION. The meaning of each command: one arm per constructor of Instr. -/

namespace Sys2Proof.Machine

/-- The effect of a command on everything but the queue of waiting commands. -/
def exec (i : Instr) (s : State) : Host.Outcome State Fault Refusal :=
  match i with
  | .suppliesValid live resetN mv early => Sys2Proof.Machine.execSuppliesValid live resetN mv early s
  | .suppliesInvalid => Sys2Proof.Machine.execSuppliesInvalid s
  | .resetNLow => Sys2Proof.Machine.execResetNLow s
  | .resetNHigh => Sys2Proof.Machine.execResetNHigh s
  | .dieSensorReading src t => Sys2Proof.Machine.execDieSensorReading src t s
  | .vccioFault b mv low high mismatch => Sys2Proof.Machine.execVccioFault b mv low high mismatch s
  | .perstNLow p => Sys2Proof.Machine.execPerstNLow p s
  | .perstNRise p => Sys2Proof.Machine.execPerstNRise p s
  | .configRequest p r w => Sys2Proof.Machine.execConfigRequest p r w s
  | .refereeWatchdogExpiry => Sys2Proof.Machine.execRefereeWatchdogExpiry s
  | .refereeRestartDone => Sys2Proof.Machine.execRefereeRestartDone s
  | .maltarStartDone ok => Sys2Proof.Machine.execMaltarStartDone ok s
  | .rollCall d p copies => Sys2Proof.Machine.execRollCall d p copies s
  | .rollAnswer d p copies => Sys2Proof.Machine.execRollAnswer d p copies s
  | .rollRelay src copies => Sys2Proof.Machine.execRollRelay src copies s
  | .rollConfirm c1 c2 c3 => Sys2Proof.Machine.execRollConfirm c1 c2 c3 s
  | .rollCallMissed => Sys2Proof.Machine.execRollCallMissed s
  | .seamBootTestDone maps bad allow => Sys2Proof.Machine.execSeamBootTestDone maps bad allow s
  | .settingsRead missing c0 c1 holdGood => Sys2Proof.Machine.execSettingsRead missing c0 c1 holdGood s
  | .headerAuthenticated maps bad errs => Sys2Proof.Machine.execHeaderAuthenticated maps bad errs s
  | .framesRecord r d errs bad rb gap => Sys2Proof.Machine.execFramesRecord r d errs bad rb gap s
  | .uninitRecord r d errs gap => Sys2Proof.Machine.execUninitRecord r d errs gap s
  | .tagRecord r d errs => Sys2Proof.Machine.execTagRecord r d errs s
  | .dieLoadDone d gap => Sys2Proof.Machine.execDieLoadDone d gap s
  | .loadComplete cfg => Sys2Proof.Machine.execLoadComplete cfg s
  | .hbmInitDone st fail t rfm => Sys2Proof.Machine.execHbmInitDone st fail t rfm s
  | .huddleLineRise => Sys2Proof.Machine.execHuddleLineRise s
  | .huddleExit => Sys2Proof.Machine.execHuddleExit s
  | .huddleTimeout => Sys2Proof.Machine.execHuddleTimeout s
  | .mailboxRing p m writes => Sys2Proof.Machine.execMailboxRing p m writes s
  | .poll p m => Sys2Proof.Machine.execPoll p m s
  | .identify p m => Sys2Proof.Machine.execIdentify p m s
  | .getEvents p m => Sys2Proof.Machine.execGetEvents p m s
  | .getStatus p m => Sys2Proof.Machine.execGetStatus p m s
  | .modeSet p m => Sys2Proof.Machine.execModeSet p m s
  | .reboot p m => Sys2Proof.Machine.execReboot p m s
  | .rebootReset => Sys2Proof.Machine.execRebootReset s
  | .funcDisable p m => Sys2Proof.Machine.execFuncDisable p m s
  | .funcEnable p m => Sys2Proof.Machine.execFuncEnable p m s
  | .funcReset p m => Sys2Proof.Machine.execFuncReset p m s
  | .functionDisableDone kind idx => Sys2Proof.Machine.execFunctionDisableDone kind idx s
  | .seamReset p m => Sys2Proof.Machine.execSeamReset p m s
  | .seamResetGo r => Sys2Proof.Machine.execSeamResetGo r s
  | .bundleTrainingDone d p n own late => Sys2Proof.Machine.execBundleTrainingDone d p n own late s
  | .idle d p n lanes => Sys2Proof.Machine.execIdle d p n lanes s
  | .flit d p n lanes => Sys2Proof.Machine.execFlit d p n lanes s
  | .train d p n copies => Sys2Proof.Machine.execTrain d p n copies s
  | .event d p lanes => Sys2Proof.Machine.execEvent d p lanes s
  | .mgmt d p lanes => Sys2Proof.Machine.execMgmt d p lanes s
  | .config d p lanes => Sys2Proof.Machine.execConfig d p lanes s
  | .replayWindowEnd d p n => Sys2Proof.Machine.execReplayWindowEnd d p n s
  | .linkDisable t dir express => Sys2Proof.Machine.execLinkDisable t dir express s
  | .flitArrival t p f => Sys2Proof.Machine.execFlitArrival t p f s
  | .flitGrant t out => Sys2Proof.Machine.execFlitGrant t out s
  | .creditReturn t p v => Sys2Proof.Machine.execCreditReturn t p v s
  | .rtrApply r => Sys2Proof.Machine.execRtrApply r s
  | .applyComplete t p => Sys2Proof.Machine.execApplyComplete t p s
  | .applyCut t p => Sys2Proof.Machine.execApplyCut t p s
  | .linkTest late errs => Sys2Proof.Machine.execLinkTest late errs s
  | .rqoRequest t rid op a size rt data join => Sys2Proof.Machine.execRqoRequest t rid op a size rt data join s
  | .responseArrival r late => Sys2Proof.Machine.execResponseArrival r late s
  | .niTimeout src sport tag gen late => Sys2Proof.Machine.execNiTimeout src sport tag gen late s
  | .registerWrite r => Sys2Proof.Machine.execRegisterWrite r s
  | .routeCtlWrite r => Sys2Proof.Machine.execRouteCtlWrite r s
  | .fabricWindowRequest r => Sys2Proof.Machine.execFabricWindowRequest r s
  | .tsoResponse t tid svc data join => Sys2Proof.Machine.execTsoResponse t tid svc data join s
  | .blockWindowRequest r near => Sys2Proof.Machine.execBlockWindowRequest r near s
  | .engineMemoryRequest r => Sys2Proof.Machine.execEngineMemoryRequest r s
  | .blockPortAccess t b net near join pa pb => Sys2Proof.Machine.execBlockPortAccess t b net near join pa pb s
  | .xpulsePulse k join => Sys2Proof.Machine.execXpulsePulse k join s
  | .xwordSend k w join => Sys2Proof.Machine.execXwordSend k w join s
  | .ovrClr k join => Sys2Proof.Machine.execOvrClr k join s
  | .fabricPush t n data last poison join => Sys2Proof.Machine.execFabricPush t n data last poison join s
  | .pabort t n join => Sys2Proof.Machine.execPabort t n join s
  | .qPushLo r => Sys2Proof.Machine.execQPushLo r s
  | .qPushHi r => Sys2Proof.Machine.execQPushHi r s
  | .qPushLastLo r => Sys2Proof.Machine.execQPushLastLo r s
  | .qPushLastHi r => Sys2Proof.Machine.execQPushLastHi r s
  | .qPushAbort r => Sys2Proof.Machine.execQPushAbort r s
  | .qPopLo r => Sys2Proof.Machine.execQPopLo r s
  | .fabricPop t n join => Sys2Proof.Machine.execFabricPop t n join s
  | .commitVisible t n => Sys2Proof.Machine.execCommitVisible t n s
  | .wordsFreed t n => Sys2Proof.Machine.execWordsFreed t n s
  | .qFlush r => Sys2Proof.Machine.execQFlush r s
  | .qCtlEnable r => Sys2Proof.Machine.execQCtlEnable r s
  | .evRaise r => Sys2Proof.Machine.execEvRaise r s
  | .fabricRaise t n join => Sys2Proof.Machine.execFabricRaise t n join s
  | .eventDelivery n => Sys2Proof.Machine.execEventDelivery n s
  | .evclr t k join => Sys2Proof.Machine.execEvclr t k join s
  | .mpy t => Sys2Proof.Machine.execMpy t s
  | .mac t => Sys2Proof.Machine.execMac t s
  | .msu t => Sys2Proof.Machine.execMsu t s
  | .mpyr t => Sys2Proof.Machine.execMpyr t s
  | .macr t => Sys2Proof.Machine.execMacr t s
  | .msur t => Sys2Proof.Machine.execMsur t s
  | .add t => Sys2Proof.Machine.execAdd t s
  | .sub t => Sys2Proof.Machine.execSub t s
  | .addd t => Sys2Proof.Machine.execAddd t s
  | .subd t => Sys2Proof.Machine.execSubd t s
  | .neg t => Sys2Proof.Machine.execNeg t s
  | .abs t => Sys2Proof.Machine.execAbs t s
  | .clr t => Sys2Proof.Machine.execClr t s
  | .rnd t => Sys2Proof.Machine.execRnd t s
  | .shl t => Sys2Proof.Machine.execShl t s
  | .shr t => Sys2Proof.Machine.execShr t s
  | .mova t => Sys2Proof.Machine.execMova t s
  | .exp t => Sys2Proof.Machine.execExp t s
  | .norm t => Sys2Proof.Machine.execNorm t s
  | .dAdd t => Sys2Proof.Machine.execDAdd t s
  | .dSub t => Sys2Proof.Machine.execDSub t s
  | .and t => Sys2Proof.Machine.execAnd t s
  | .or t => Sys2Proof.Machine.execOr t s
  | .xor t => Sys2Proof.Machine.execXor t s
  | .dShl t => Sys2Proof.Machine.execDShl t s
  | .dShr t => Sys2Proof.Machine.execDShr t s
  | .sra t => Sys2Proof.Machine.execSra t s
  | .cmp t => Sys2Proof.Machine.execCmp t s
  | .ld t => Sys2Proof.Machine.execLd t s
  | .st t => Sys2Proof.Machine.execSt t s
  | .ldu t => Sys2Proof.Machine.execLdu t s
  | .stu t => Sys2Proof.Machine.execStu t s
  | .ldb t => Sys2Proof.Machine.execLdb t s
  | .stb t => Sys2Proof.Machine.execStb t s
  | .lde t => Sys2Proof.Machine.execLde t s
  | .ste t => Sys2Proof.Machine.execSte t s
  | .ldk t => Sys2Proof.Machine.execLdk t s
  | .stk t => Sys2Proof.Machine.execStk t s
  | .mov t => Sys2Proof.Machine.execMov t s
  | .ldi t => Sys2Proof.Machine.execLdi t s
  | .bexr t => Sys2Proof.Machine.execBexr t s
  | .b t => Sys2Proof.Machine.execB t s
  | .call t => Sys2Proof.Machine.execCall t s
  | .br t => Sys2Proof.Machine.execBr t s
  | .reti t => Sys2Proof.Machine.execReti t s
  | .repi t => Sys2Proof.Machine.execRepi t s
  | .rep t => Sys2Proof.Machine.execRep t s
  | .wait t => Sys2Proof.Machine.execWait t s
  | .waitWake t k => Sys2Proof.Machine.execWaitWake t k s
  | .sig t => Sys2Proof.Machine.execSig t s
  | .wdt t => Sys2Proof.Machine.execWdt t s
  | .stop t => Sys2Proof.Machine.execStop t s
  | .nop t => Sys2Proof.Machine.execNop t s
  | .push t => Sys2Proof.Machine.execPush t s
  | .pushl t => Sys2Proof.Machine.execPushl t s
  | .pop t => Sys2Proof.Machine.execPop t s
  | .qabort t => Sys2Proof.Machine.execQabort t s
  | .nget t => Sys2Proof.Machine.execNget t s
  | .nput t => Sys2Proof.Machine.execNput t s
  | .nfadd t => Sys2Proof.Machine.execNfadd t s
  | .nswap t => Sys2Proof.Machine.execNswap t s
  | .ncas t => Sys2Proof.Machine.execNcas t s
  | .interruptEntry t k => Sys2Proof.Machine.execInterruptEntry t k s
  | .engirqRise t join => Sys2Proof.Machine.execEngirqRise t join s
  | .watchdogWarn t => Sys2Proof.Machine.execWatchdogWarn t s
  | .watchdogExpiry t => Sys2Proof.Machine.execWatchdogExpiry t s
  | .watchdogReload r => Sys2Proof.Machine.execWatchdogReload r s
  | .engStart r => Sys2Proof.Machine.execEngStart r s
  | .engStop r => Sys2Proof.Machine.execEngStop r s
  | .engDoorbellRing r => Sys2Proof.Machine.execEngDoorbellRing r s
  | .fabricYAccess t we a din join => Sys2Proof.Machine.execFabricYAccess t we a din join s
  | .haltEffect t => Sys2Proof.Machine.execHaltEffect t s
  | .haltForced t => Sys2Proof.Machine.execHaltForced t s
  | .breakMatch t => Sys2Proof.Machine.execBreakMatch t s
  | .channelStart r => Sys2Proof.Machine.execChannelStart r s
  | .chCtlEnable r => Sys2Proof.Machine.execChCtlEnable r s
  | .dmaBurstIssue e => Sys2Proof.Machine.execDmaBurstIssue e s
  | .dmaResponse r => Sys2Proof.Machine.execDmaResponse r s
  | .dmaReissue k expired => Sys2Proof.Machine.execDmaReissue k expired s
  | .dmaRun p m => Sys2Proof.Machine.execDmaRun p m s
  | .dmaStatus p m => Sys2Proof.Machine.execDmaStatus p m s
  | .dmaStop p m => Sys2Proof.Machine.execDmaStop p m s
  | .regionStatus p m => Sys2Proof.Machine.execRegionStatus p m s
  | .regionSwap p m => Sys2Proof.Machine.execRegionSwap p m s
  | .regionFence p m => Sys2Proof.Machine.execRegionFence p m s
  | .regionCapture p m => Sys2Proof.Machine.execRegionCapture p m s
  | .regionLoad p m => Sys2Proof.Machine.execRegionLoad p m s
  | .regionRestore p m => Sys2Proof.Machine.execRegionRestore p m s
  | .regionRelease p m => Sys2Proof.Machine.execRegionRelease p m s
  | .regionBlank p m => Sys2Proof.Machine.execRegionBlank p m s
  | .regionLibWrite p m => Sys2Proof.Machine.execRegionLibWrite p m s
  | .libStatus p m => Sys2Proof.Machine.execLibStatus p m s
  | .regionHeaderChecked r errs => Sys2Proof.Machine.execRegionHeaderChecked r errs s
  | .drainEnd r => Sys2Proof.Machine.execDrainEnd r s
  | .fenceComplete r => Sys2Proof.Machine.execFenceComplete r s
  | .captureDone r => Sys2Proof.Machine.execCaptureDone r s
  | .regionLoadDone r cfg gap => Sys2Proof.Machine.execRegionLoadDone r cfg gap s
  | .restoreDone r => Sys2Proof.Machine.execRestoreDone r s
  | .blankingDone r rb => Sys2Proof.Machine.execBlankingDone r rb s
  | .slotWrite p m => Sys2Proof.Machine.execSlotWrite p m s
  | .slotData p m => Sys2Proof.Machine.execSlotData p m s
  | .slotWriteDone errs => Sys2Proof.Machine.execSlotWriteDone errs s
  | .slotActivate p m n => Sys2Proof.Machine.execSlotActivate p m n s
  | .goldenWrite p m => Sys2Proof.Machine.execGoldenWrite p m s
  | .goldenWriteDone errs => Sys2Proof.Machine.execGoldenWriteDone errs s
  | .libraryVerifyDone e errs => Sys2Proof.Machine.execLibraryVerifyDone e errs s
  | .memoryPortRequest r => Sys2Proof.Machine.execMemoryPortRequest r s
  | .hbmSchedule st pc late => Sys2Proof.Machine.execHbmSchedule st pc late s
  | .hbmAccessDone st id sev acc parity late p => Sys2Proof.Machine.execHbmAccessDone st id sev acc parity late p s
  | .rowClose st pc bank => Sys2Proof.Machine.execRowClose st pc bank s
  | .perBankRefresh st pc => Sys2Proof.Machine.execPerBankRefresh st pc s
  | .rtlevelChange st j level => Sys2Proof.Machine.execRtlevelChange st j level s
  | .hbmTempPoll st t => Sys2Proof.Machine.execHbmTempPoll st t s
  | .rateGo r => Sys2Proof.Machine.execRateGo r s
  | .rateChangeDone st => Sys2Proof.Machine.execRateChangeDone st s
  | .thaw r => Sys2Proof.Machine.execThaw r s
  | .hbmCtlEnable r => Sys2Proof.Machine.execHbmCtlEnable r s
  | .hbmStatus p m => Sys2Proof.Machine.execHbmStatus p m s
  | .hbmRate p m => Sys2Proof.Machine.execHbmRate p m s
  | .hbmThaw p m => Sys2Proof.Machine.execHbmThaw p m s
  | .sharedWindow p m => Sys2Proof.Machine.execSharedWindow p m s
  | .remoteCacheRequest r errs => Sys2Proof.Machine.execRemoteCacheRequest r errs s
  | .cacheFillResponse r => Sys2Proof.Machine.execCacheFillResponse r s
  | .invalidate r => Sys2Proof.Machine.execInvalidate r s
  | .invalidateResponse r late => Sys2Proof.Machine.execInvalidateResponse r late s
  | .rootScrub st errs => Sys2Proof.Machine.execRootScrub st errs s
  | .protEnable p m => Sys2Proof.Machine.execProtEnable p m s
  | .protEnableDone k => Sys2Proof.Machine.execProtEnableDone k s
  | .protDisable p m => Sys2Proof.Machine.execProtDisable p m s
  | .protDisableDone k => Sys2Proof.Machine.execProtDisableDone k s
  | .protRights p m => Sys2Proof.Machine.execProtRights p m s
  | .protRebuild p m => Sys2Proof.Machine.execProtRebuild p m s
  | .protRebuildDone k => Sys2Proof.Machine.execProtRebuildDone k s
  | .protStatus p m => Sys2Proof.Machine.execProtStatus p m s
  | .eccTest p m => Sys2Proof.Machine.execEccTest p m s
  | .eccLog p m => Sys2Proof.Machine.execEccLog p m s
  | .istSchedule p m => Sys2Proof.Machine.execIstSchedule p m s
  | .bar2Map p m => Sys2Proof.Machine.execBar2Map p m s
  | .eccClear r => Sys2Proof.Machine.execEccClear r s
  | .qflip r => Sys2Proof.Machine.execQflip r s
  | .chkArm r => Sys2Proof.Machine.execChkArm r s
  | .sevInj r => Sys2Proof.Machine.execSevInj r s
  | .tileScrub late => Sys2Proof.Machine.execTileScrub late s
  | .seamSpareTest late fails => Sys2Proof.Machine.execSeamSpareTest late fails s
  | .hbmPatrol late reps => Sys2Proof.Machine.execHbmPatrol late reps s
  | .storeMarginCheck late blks => Sys2Proof.Machine.execStoreMarginCheck late blks s
  | .laneApply p m => Sys2Proof.Machine.execLaneApply p m s
  | .laneStatus p m => Sys2Proof.Machine.execLaneStatus p m s
  | .laneRestart p m => Sys2Proof.Machine.execLaneRestart p m s
  | .laneDisable p m => Sys2Proof.Machine.execLaneDisable p m s
  | .laneTest p m => Sys2Proof.Machine.execLaneTest p m s
  | .lnRestart r => Sys2Proof.Machine.execLnRestart r s
  | .lnCtlEnable r => Sys2Proof.Machine.execLnCtlEnable r s
  | .quadCtlEnable r => Sys2Proof.Machine.execQuadCtlEnable r s
  | .patternTestEnable r => Sys2Proof.Machine.execPatternTestEnable r s
  | .inject r => Sys2Proof.Machine.execInject r s
  | .burst r => Sys2Proof.Machine.execBurst r s
  | .lnTxstampNs r => Sys2Proof.Machine.execLnTxstampNs r s
  | .receiverDetect l found => Sys2Proof.Machine.execReceiverDetect l found s
  | .losAssert l => Sys2Proof.Machine.execLosAssert l s
  | .losDeassert l => Sys2Proof.Machine.execLosDeassert l s
  | .lolAssert l => Sys2Proof.Machine.execLolAssert l s
  | .lolDeassert l => Sys2Proof.Machine.execLolDeassert l s
  | .huntDwellEnd l matched => Sys2Proof.Machine.execHuntDwellEnd l matched s
  | .huntTxStep l => Sys2Proof.Machine.execHuntTxStep l s
  | .anComplete l mode fec => Sys2Proof.Machine.execAnComplete l mode fec s
  | .linkTrainingDone l steps => Sys2Proof.Machine.execLinkTrainingDone l steps s
  | .lockAcquired l => Sys2Proof.Machine.execLockAcquired l s
  | .lockTimeout l => Sys2Proof.Machine.execLockTimeout l s
  | .capabilityBlock l w0 w1 w2 w3 => Sys2Proof.Machine.execCapabilityBlock l w0 w1 w2 w3 s
  | .exchangeTimeout l => Sys2Proof.Machine.execExchangeTimeout l s
  | .hiBer l => Sys2Proof.Machine.execHiBer l s
  | .rxFrame l bytes err fecCorr fecBad busy gap drift => Sys2Proof.Machine.execRxFrame l bytes err fecCorr fecBad busy gap drift s
  | .txPacket l busy => Sys2Proof.Machine.execTxPacket l busy s
  | .macResponse r => Sys2Proof.Machine.execMacResponse r s
  | .heartbeatSend l => Sys2Proof.Machine.execHeartbeatSend l s
  | .heartbeat l id domain prio root hops flags => Sys2Proof.Machine.execHeartbeat l id domain prio root hops flags s
  | .heartbeatMiss l => Sys2Proof.Machine.execHeartbeatMiss l s
  | .timeRequestSend => Sys2Proof.Machine.execTimeRequestSend s
  | .timeFrame l f => Sys2Proof.Machine.execTimeFrame l f s
  | .servoUpdate => Sys2Proof.Machine.execServoUpdate s
  | .relayCommand l b => Sys2Proof.Machine.execRelayCommand l b s
  | .relayReply l b => Sys2Proof.Machine.execRelayReply l b s
  | .relayRoute l b => Sys2Proof.Machine.execRelayRoute l b s
  | .routeExchange => Sys2Proof.Machine.execRouteExchange s
  | .relayTimeout rtag => Sys2Proof.Machine.execRelayTimeout rtag s
  | .relayView p m => Sys2Proof.Machine.execRelayView p m s
  | .relayRoutes p m => Sys2Proof.Machine.execRelayRoutes p m s
  | .bar2Memrd p off n => Sys2Proof.Machine.execBar2Memrd p off n s
  | .bar2Memwr p off data => Sys2Proof.Machine.execBar2Memwr p off data s
  | .bar2Response r => Sys2Proof.Machine.execBar2Response r s
  | .bar2Reissue p expired => Sys2Proof.Machine.execBar2Reissue p expired s
  | .mpWrite addr off data => Sys2Proof.Machine.execMpWrite addr off data s
  | .mpRead addr off n => Sys2Proof.Machine.execMpRead addr off n s
  | .mpSclTimeout => Sys2Proof.Machine.execMpSclTimeout s
  | .goSet r => Sys2Proof.Machine.execGoSet r s
  | .goAdj r => Sys2Proof.Machine.execGoAdj r s
  | .goIncr r => Sys2Proof.Machine.execGoIncr r s
  | .arm r => Sys2Proof.Machine.execArm r s
  | .snap r => Sys2Proof.Machine.execSnap r s
  | .tkCtlEnable r => Sys2Proof.Machine.execTkCtlEnable r s
  | .correctionApply n => Sys2Proof.Machine.execCorrectionApply n s
  | .alarmFire n => Sys2Proof.Machine.execAlarmFire n s
  | .ppsOutRise => Sys2Proof.Machine.execPpsOutRise s
  | .ppsOutFall => Sys2Proof.Machine.execPpsOutFall s
  | .ppsInEdge => Sys2Proof.Machine.execPpsInEdge s
  | .quadCopyRealign => Sys2Proof.Machine.execQuadCopyRealign s
  | .timeGet p m => Sys2Proof.Machine.execTimeGet p m s
  | .timeSet p m => Sys2Proof.Machine.execTimeSet p m s
  | .timeAdjust p m => Sys2Proof.Machine.execTimeAdjust p m s
  | .timeRate p m => Sys2Proof.Machine.execTimeRate p m s
  | .timeArm p m => Sys2Proof.Machine.execTimeArm p m s
  | .timeClear p m => Sys2Proof.Machine.execTimeClear p m s
  | .timeAlarm p m => Sys2Proof.Machine.execTimeAlarm p m s
  | .timeCapture p m => Sys2Proof.Machine.execTimeCapture p m s
  | .timePps p m => Sys2Proof.Machine.execTimePps p m s
  | .timeSource p m => Sys2Proof.Machine.execTimeSource p m s
  | .timeStatus p m => Sys2Proof.Machine.execTimeStatus p m s
  | .clockStatus p m => Sys2Proof.Machine.execClockStatus p m s
  | .clockPlan p m => Sys2Proof.Machine.execClockPlan p m s
  | .clockSelect p m => Sys2Proof.Machine.execClockSelect p m s
  | .clockGate p m => Sys2Proof.Machine.execClockGate p m s
  | .clockMeasure p m => Sys2Proof.Machine.execClockMeasure p m s
  | .carSel r => Sys2Proof.Machine.execCarSel r s
  | .carrierRevert => Sys2Proof.Machine.execCarrierRevert s
  | .gcSrc r => Sys2Proof.Machine.execGcSrc r s
  | .clockSwitchDone net => Sys2Proof.Machine.execClockSwitchDone net s
  | .switchForced net => Sys2Proof.Machine.execSwitchForced net s
  | .gcEnable r => Sys2Proof.Machine.execGcEnable r s
  | .syEnable r => Sys2Proof.Machine.execSyEnable r s
  | .syLock k => Sys2Proof.Machine.execSyLock k s
  | .syUnlock k => Sys2Proof.Machine.execSyUnlock k s
  | .leafGate r => Sys2Proof.Machine.execLeafGate r s
  | .fcStart r => Sys2Proof.Machine.execFcStart r s
  | .fcGateEnd c n => Sys2Proof.Machine.execFcGateEnd c n s
  | .settingsGet p m => Sys2Proof.Machine.execSettingsGet p m s
  | .settingsPut p m => Sys2Proof.Machine.execSettingsPut p m s
  | .settingsDelete p m => Sys2Proof.Machine.execSettingsDelete p m s
  | .settingsCommit p m => Sys2Proof.Machine.execSettingsCommit p m s
  | .settingsCommitDone ok => Sys2Proof.Machine.execSettingsCommitDone ok s
  | .settingsDiscard p m => Sys2Proof.Machine.execSettingsDiscard p m s
  | .dbgChallenge p m => Sys2Proof.Machine.execDbgChallenge p m s
  | .dbgResponse p m => Sys2Proof.Machine.execDbgResponse p m s
  | .authVerifyDone path => Sys2Proof.Machine.execAuthVerifyDone path s
  | .nonceExpiry path => Sys2Proof.Machine.execNonceExpiry path s
  | .authLockoutEnd path => Sys2Proof.Machine.execAuthLockoutEnd path s
  | .dbgDrop p m => Sys2Proof.Machine.execDbgDrop p m s
  | .dbgStatus p m => Sys2Proof.Machine.execDbgStatus p m s
  | .dbgHalt p m => Sys2Proof.Machine.execDbgHalt p m s
  | .dbgResume p m => Sys2Proof.Machine.execDbgResume p m s
  | .dbgFeed p m => Sys2Proof.Machine.execDbgFeed p m s
  | .dbgPeek p m => Sys2Proof.Machine.execDbgPeek p m s
  | .dbgPoke p m => Sys2Proof.Machine.execDbgPoke p m s
  | .dbgEngHalt path irqInStep => Sys2Proof.Machine.execDbgEngHalt path irqInStep s
  | .dbgEngResume path irqInStep => Sys2Proof.Machine.execDbgEngResume path irqInStep s
  | .dbgEngStep path irqInStep => Sys2Proof.Machine.execDbgEngStep path irqInStep s
  | .dbgEngInject path w => Sys2Proof.Machine.execDbgEngInject path w s
  | .refHalt => Sys2Proof.Machine.execRefHalt s
  | .refResume => Sys2Proof.Machine.execRefResume s
  | .refStep => Sys2Proof.Machine.execRefStep s
  | .refInject w => Sys2Proof.Machine.execRefInject w s
  | .refereeHaltEffect => Sys2Proof.Machine.execRefereeHaltEffect s
  | .refereeHaltForced p => Sys2Proof.Machine.execRefereeHaltForced p s
  | .patchBreak u => Sys2Proof.Machine.execPatchBreak u s
  | .tapReset => Sys2Proof.Machine.execTapReset s
  | .idcode => Sys2Proof.Machine.execIdcode s
  | .samplePreload cells => Sys2Proof.Machine.execSamplePreload cells s
  | .extest => Sys2Proof.Machine.execExtest s
  | .highz => Sys2Proof.Machine.execHighz s
  | .clamp => Sys2Proof.Machine.execClamp s
  | .extestPulse => Sys2Proof.Machine.execExtestPulse s
  | .extestTrain => Sys2Proof.Machine.execExtestTrain s
  | .bypass => Sys2Proof.Machine.execBypass s
  | .authChallenge level scope tenant => Sys2Proof.Machine.execAuthChallenge level scope tenant s
  | .authResponse sig => Sys2Proof.Machine.execAuthResponse sig s
  | .authDrop => Sys2Proof.Machine.execAuthDrop s
  | .accessRead a => Sys2Proof.Machine.execAccessRead a s
  | .accessWrite a w => Sys2Proof.Machine.execAccessWrite a w s
  | .accessEffectfulRead a => Sys2Proof.Machine.execAccessEffectfulRead a s
  | .regRead p m => Sys2Proof.Machine.execRegRead p m s
  | .regWrite p m => Sys2Proof.Machine.execRegWrite p m s
  | .regModify p m => Sys2Proof.Machine.execRegModify p m s
  | .regReadN p m => Sys2Proof.Machine.execRegReadN p m s
  | .regWriteList p m => Sys2Proof.Machine.execRegWriteList p m s
  | .illegalInstruction t => Sys2Proof.Machine.execIllegalInstruction t s
  | .trainingTimeout l => Sys2Proof.Machine.execTrainingTimeout l s
  | .losClearHeld l => Sys2Proof.Machine.execLosClearHeld l s
  | .sgmiiAnComplete l => Sys2Proof.Machine.execSgmiiAnComplete l s
  | .huddleLineFall => Sys2Proof.Machine.execHuddleLineFall s
  | .cellClockEdge t cluster net rise join ins cin ms ce sr => Sys2Proof.Machine.execCellClockEdge t cluster net rise join ins cin ms ce sr s
  | .asyncSetReset t cluster line => Sys2Proof.Machine.execAsyncSetReset t cluster line s
  | .multiplierSliceEdge l join => Sys2Proof.Machine.execMultiplierSliceEdge l join s
  | .bandChangeDone st => Sys2Proof.Machine.execBandChangeDone st s
  | .vccioRestored b mv => Sys2Proof.Machine.execVccioRestored b mv s
  | .pciExpressLinkUp p speed width => Sys2Proof.Machine.execPciExpressLinkUp p speed width s

end Sys2Proof.Machine
end

