-- ==== Sys2Proof/Machine/Step.lean ====
section
/-! DEFINITION. One step: the command at the front of the queue runs; on an empty queue the timekeeper clock ticks. -/

namespace Sys2Proof.Machine

/-- One step of the block. DESIGN CHOICE (log entry 1): with no command waiting, one tick of the timekeeper clock passes (R410). Maltar
takes the mailbox commands whose opcode no row of the table has before it (log entry 38). -/
def step (s : State) : Host.Outcome State Fault Refusal :=
  match s.pending with
  | [] => .next s.takeUnknown.tick
  | c :: rest => exec c { s with pending := rest }

/-- The table gives its rows no bits, so no word spells a command and the state stays as it is. -/
def State.withFetchWord (s : State) (nbits w : Nat) : State :=
  match decodeTableWord nbits w with
  | some c => { s with pending := c :: s.pending }
  | none => s

end Sys2Proof.Machine
end

