-- ==== Sys2Proof/Safety.lean ====
section
/-! DEFINITION. The terms that statements use: a mailbox command that Maltar takes and that passes its checks, a request that a register
grants, and a run that goes on. -/

namespace Sys2Proof.Machine

/-- Instances of a register block (R28). Instance k of the debug block is the copy of path k (R517). -/
def Blk.count : Blk → Nat
  | .devctl => 1
  | .clk => 1
  | .time => 1
  | .ev => 1
  | .seam => 4
  | .hbm => 4
  | .prot => 4
  | .rcache => 4
  | .dma => 16
  | .quad => 48
  | .hp => 5
  | .tile => 1024
  | .dbg => 1

/-- The register exists at this instance and index. -/
def Rg.valid (r : Rg) (i j : Nat) : Bool := decide (i < r.info.blk.count) && decide (j < r.info.n) && r.exists i j

/-- The reset value of the register stored at a key. -/
def rstAt (k : Nat) : Word32 :=
  match regAt (k % 2 ^ 48) with
  | some (r, _, j) => BitVec.ofNat 32 (r.rst j)
  | none => 0

/-- The register storage is in canonical form: addresses rise, and no entry holds its reset value. -/
def State.regsWf (s : State) : Bool := Tbl.wf rstAt s.regs

/-- Contents of the stacks in canonical form: addresses rise, and no entry equals what an unlisted byte reads as. -/
def Memory.wf (m : Tbl Byte) : Bool := Tbl.wf (fun _ => 0#8) m

/-- Every step from a state goes on, for `n` steps. -/
def safeFor : Nat → State → Prop
  | 0, _ => True
  | n + 1, s => ∃ t, step s = .next t ∧ safeFor n t

/-- A payload field of the command in mailbox m of port p. -/
def State.arg (s : State) (p m o n : Nat) : Nat := leAt (s.mbox p m).payload o n

/-- Mailbox m of port p holds a command with this opcode that Maltar takes now, executes here, and finds to pass checks 1 to 4 of R472, and Maltar
reaches every die whose registers it needs (R79). -/
def State.ready (s : State) (p m opcode : Nat) : Prop :=
  s.canTake p m opcode = true ∧ ((s.mbox p m).relay = false ∨ (s.mbox p m).target = deviceId) ∧ s.portFull p opcode = false ∧
  preCheck opcode (s.mbox p m).payload = none ∧ groupOk s.pw.mode s.pw.lockoutFrom opcode (s.mbox p m).payload = true ∧
  s.outOfReach opcode (s.mbox p m).payload = false

/-- The record at the place of die d's section, of the full load or of region r's, in an image that lies in the store (R93). -/
def State.recAt (s : State) (r : Option Nat) (d : Nat) : Rec :=
  let c := s.ctl r d
  let h := s.storeBytes c.area (c.off + c.pos) 8
  ⟨hdrType h, hdrCount h, hdrAddr h, h ++ s.storeBytes c.area (c.off + c.pos + 8) (bodyLen h)⟩

/-- Die d's controller takes its next record from the store, and the record's header is well formed and lies inside the area (R95, R105). -/
def State.takesRec (s : State) (r : Option Nat) (d : Nat) : Prop :=
  let c := s.ctl r d
  let h := s.storeBytes c.area (c.off + c.pos) 8
  s.ctlRuns r d = true ∧ c.hbm = none ∧ c.wellFormed d h = true ∧ c.off + c.pos + 8 + bodyLen h ≤ c.srcLen

/-- A request in flight that writes `v` to one register whose writer it is, with an intact payload, and that the register's unit can take
(R6, R31, R182). -/
def State.grantsWrite (s : State) (r : Req) (g : Rg) (i j v : Nat) : Prop :=
  s.net.reqs.contains r = true ∧ r.crcOk = true ∧ r.op = .write ∧ regsAt r.addr r.size = some [(g, i, j)] ∧ g.perPath = false ∧
  leAt r.data 0 4 = v ∧ (s.takeReq r).regRight r.rq true g i j v = true ∧ (s.takeReq r).regCode true true g i j = svcOK ∧ g.okWrite v = true

/-- A request in flight that reads one register that it may read (R6, R31). -/
def State.grantsRead (s : State) (r : Req) (g : Rg) (i j : Nat) : Prop :=
  s.net.reqs.contains r = true ∧ r.crcOk = true ∧ r.op = .read ∧ regsAt r.addr r.size = some [(g, i, j)] ∧ g.perPath = false ∧
  (s.takeReq r).regRight r.rq false g i j (leAt r.data 0 4) = true ∧ (s.takeReq r).regCode false true g i j = svcOK

/-- The engine of tile t issues `op`, fetched as word `w`, at its program counter: it can issue, the fetch is clean, and the word may stand
where it stands (R221, R236, R247, R249). -/
def State.issues (s : State) (t w : Nat) (cached : Bool) (op : EOp) : Prop :=
  (s.engine t).feed = none ∧ s.canIssue t = true ∧ (s.engine t).fetch = (⟨w, false, none⟩, cached) ∧ decodeEngine w = some op ∧
  ((s.engine t).br.isSome && op.notInSlot) = false ∧ (bitAt ((s.engine t).rd rST (s.engine t).now) 4 && op.notInRepeat) = false

/-- The state after an instruction that reads operands with `f`, and sets the writes `ws` in flight. -/
def State.issued (s : State) (t w : Nat) (cached : Bool) (f : Fx) (ws : List PWrite) : State :=
  s.engIssue t cached w (Plan.of ⟨f.ws ++ ws, f.rds⟩)

/-- No read of an operand found poison. -/
def Fx.clean (f : Fx) : Bool := !f.rds.any (·.bad)

end Sys2Proof.Machine
end

