-- ==== Sys2Proof/WellFormed.lean ====
section
/-! DEFINITION. Well-formed commands: what a command carries obeys the sizes and ranges that the manual gives it. The meanings do not need it:
they are total over every operand. -/

namespace Sys2Proof

open Machine

/-- A network request obeys its header's ranges, and its payload has the length of its operation (07 R169–R171). -/
def Machine.Req.wf (r : Req) : Bool :=
  decide (r.addr < 2 ^ 48) && decide (1 ≤ r.size) && decide (r.size ≤ 256) && decide (r.tenant < 8) && decide (r.mclass < 6) && decide (r.src < 1088) &&
  decide (r.sport < 16) && decide (r.path < 6) && decide (r.dst < 1088) && decide (r.data.length = payloadLen r.op r.size)

/-- A decoded image names tiles and regions that exist, and gives a user I/O pin only to a tile of the die its bank connects to (04 R93, R97; 01 R22). -/
def Machine.ImageCfg.wf (c : ImageCfg) : Bool :=
  c.tiles.all (fun p => decide (p.1 < 1024)) && c.regions.all (fun p => decide (p.1 < 1024) && decide (p.2 ≤ 64)) &&
    c.io.all (fun p => decide (bankDie (p.1 / 64) = some (p.2.tile / 256)))

/-- The command is well formed. -/
def wellFormed (i : Instr) : Bool :=
  match i with
  | .suppliesValid _ _ mv _ => decide (mv.length = 8)
  | .settingsRead _ c0 c1 _ => decide (c0.length = 65536) && decide (c1.length = 65536)
  | .loadComplete cfg => cfg.wf
  | .mailboxRing _ _ writes => writes.all (fun w => decide (1 ≤ w.2.length) && decide (w.1.val + w.2.length ≤ 512))
  | .idle _ _ _ lanes => decide (lanes.length = 16)
  | .flit _ _ _ lanes => decide (lanes.length = 16)
  | .event _ _ lanes => decide (lanes.length = 16)
  | .mgmt _ _ lanes => decide (lanes.length = 16)
  | .config _ _ lanes => decide (lanes.length = 16)
  | .rqoRequest _ _ _ _ _ _ data _ => decide (data.length ≤ 32)
  | .tsoResponse _ _ _ data _ => decide (data.length ≤ 32)
  | .eventDelivery n => decide (1 ≤ n) && decide (n ≤ 2048)
  | .regionLoadDone _ cfg _ => cfg.wf
  | .hbmSchedule _ _ late => decide late.Nodup
  | .rxFrame _ bytes _ _ _ _ _ _ => decide (bytes.length ≤ 16383)
  | .timeFrame _ f => decide (f.length = 40)
  | .relayCommand _ b => decide (b.length ≤ 536)
  | .relayReply _ b => decide (b.length ≤ 536)
  | .relayRoute _ b => decide (b.length ≤ 600)
  | .bar2Memwr _ _ data => decide (1 ≤ data.length) && decide (data.length ≤ 512)
  | .mpRead _ _ n => decide (1 ≤ n)
  | .authResponse sig => decide (sig.length = 96)
  | .cellClockEdge _ _ _ _ _ ins _ _ _ _ => decide (ins.length = 16)
  | .multiplierSliceEdge l _ => decide (l.map (fun i => (i.tile, i.slice))).Nodup
  | .seamResetGo r | .rtrApply r | .registerWrite r | .routeCtlWrite r | .fabricWindowRequest r | .blockWindowRequest r _
  | .engineMemoryRequest r | .qPushLo r | .qPushHi r | .qPushLastLo r | .qPushLastHi r | .qPushAbort r | .qPopLo r | .qFlush r
  | .qCtlEnable r | .evRaise r | .watchdogReload r | .engStart r | .engStop r | .engDoorbellRing r | .channelStart r | .chCtlEnable r
  | .memoryPortRequest r | .rateGo r | .thaw r | .hbmCtlEnable r | .remoteCacheRequest r _ | .invalidate r | .eccClear r | .qflip r
  | .chkArm r | .sevInj r | .lnRestart r | .lnCtlEnable r | .quadCtlEnable r | .patternTestEnable r | .inject r | .burst r | .lnTxstampNs r
  | .goSet r | .goAdj r | .goIncr r | .arm r | .snap r | .tkCtlEnable r | .carSel r | .gcSrc r | .gcEnable r | .syEnable r | .leafGate r
  | .fcStart r => r.wf
  | .suppliesInvalid | .resetNLow | .resetNHigh | .dieSensorReading _ _ | .vccioFault _ _ _ _ _ | .perstNLow _ | .perstNRise _
  | .configRequest _ _ _ | .refereeWatchdogExpiry | .refereeRestartDone | .maltarStartDone _ | .rollCall _ _ _ | .rollAnswer _ _ _
  | .rollRelay _ _ | .rollConfirm _ _ _ | .rollCallMissed | .seamBootTestDone _ _ _ | .headerAuthenticated _ _ _
  | .framesRecord _ _ _ _ _ _ | .uninitRecord _ _ _ _ | .tagRecord _ _ _ | .dieLoadDone _ _ | .hbmInitDone _ _ _ _ | .huddleLineRise
  | .huddleExit | .huddleTimeout | .poll _ _ | .identify _ _ | .getEvents _ _ | .getStatus _ _ | .modeSet _ _ | .reboot _ _ | .rebootReset
  | .funcDisable _ _ | .funcEnable _ _ | .funcReset _ _ | .functionDisableDone _ _ | .seamReset _ _ | .bundleTrainingDone _ _ _ _ _
  | .train _ _ _ _ | .replayWindowEnd _ _ _ | .linkDisable _ _ _ | .flitArrival _ _ _ | .flitGrant _ _ | .creditReturn _ _ _
  | .applyComplete _ _ | .applyCut _ _ | .linkTest _ _ | .responseArrival _ _ | .niTimeout _ _ _ _ _ | .blockPortAccess _ _ _ _ _ _ _
  | .xpulsePulse _ _ | .xwordSend _ _ _ | .ovrClr _ _ | .fabricPush _ _ _ _ _ _ | .pabort _ _ _ | .fabricPop _ _ _ | .commitVisible _ _
  | .wordsFreed _ _ | .fabricRaise _ _ _ | .evclr _ _ _ | .mpy _ | .mac _ | .msu _ | .mpyr _ | .macr _ | .msur _ | .add _ | .sub _
  | .addd _ | .subd _ | .neg _ | .abs _ | .clr _ | .rnd _ | .shl _ | .shr _ | .mova _ | .exp _ | .norm _ | .dAdd _ | .dSub _ | .and _
  | .or _ | .xor _ | .dShl _ | .dShr _ | .sra _ | .cmp _ | .ld _ | .st _ | .ldu _ | .stu _ | .ldb _ | .stb _ | .lde _ | .ste _ | .ldk _
  | .stk _ | .mov _ | .ldi _ | .bexr _ | .b _ | .call _ | .br _ | .reti _ | .repi _ | .rep _ | .wait _ | .waitWake _ _ | .sig _ | .wdt _
  | .stop _ | .nop _ | .push _ | .pushl _ | .pop _ | .qabort _ | .nget _ | .nput _ | .nfadd _ | .nswap _ | .ncas _ | .interruptEntry _ _
  | .engirqRise _ _ | .watchdogWarn _ | .watchdogExpiry _ | .fabricYAccess _ _ _ _ _ | .haltEffect _ | .haltForced _ | .breakMatch _
  | .dmaBurstIssue _ | .dmaResponse _ | .dmaReissue _ _ | .dmaRun _ _ | .dmaStatus _ _ | .dmaStop _ _ | .regionStatus _ _ | .regionSwap _ _
  | .regionFence _ _ | .regionCapture _ _ | .regionLoad _ _ | .regionRestore _ _ | .regionRelease _ _ | .regionBlank _ _
  | .regionLibWrite _ _ | .libStatus _ _ | .regionHeaderChecked _ _ | .drainEnd _ | .fenceComplete _ | .captureDone _ | .restoreDone _
  | .blankingDone _ _ | .slotWrite _ _ | .slotData _ _ | .slotWriteDone _ | .slotActivate _ _ _ | .goldenWrite _ _ | .goldenWriteDone _
  | .libraryVerifyDone _ _ | .hbmAccessDone _ _ _ _ _ _ _ | .rowClose _ _ _ | .perBankRefresh _ _ | .rtlevelChange _ _ _ | .hbmTempPoll _ _
  | .rateChangeDone _ | .hbmStatus _ _ | .hbmRate _ _ | .hbmThaw _ _ | .sharedWindow _ _ | .cacheFillResponse _ | .invalidateResponse _ _
  | .rootScrub _ _ | .protEnable _ _ | .protEnableDone _ | .protDisable _ _ | .protDisableDone _ | .protRights _ _ | .protRebuild _ _
  | .protRebuildDone _ | .protStatus _ _ | .eccTest _ _ | .eccLog _ _ | .istSchedule _ _ | .bar2Map _ _ | .tileScrub _ | .seamSpareTest _ _
  | .hbmPatrol _ _ | .storeMarginCheck _ _ | .laneApply _ _ | .laneStatus _ _ | .laneRestart _ _ | .laneDisable _ _ | .laneTest _ _
  | .receiverDetect _ _ | .losAssert _ | .losDeassert _ | .lolAssert _ | .lolDeassert _ | .huntDwellEnd _ _ | .huntTxStep _
  | .anComplete _ _ _ | .linkTrainingDone _ _ | .lockAcquired _ | .lockTimeout _ | .capabilityBlock _ _ _ _ _ | .exchangeTimeout _ | .hiBer _
  | .txPacket _ _ | .macResponse _ | .heartbeatSend _ | .heartbeat _ _ _ _ _ _ _ | .heartbeatMiss _ | .timeRequestSend | .servoUpdate
  | .routeExchange | .relayTimeout _ | .relayView _ _ | .relayRoutes _ _ | .bar2Memrd _ _ _ | .bar2Response _ | .bar2Reissue _ _
  | .mpWrite _ _ _ | .mpSclTimeout | .correctionApply _ | .alarmFire _ | .ppsOutRise | .ppsOutFall | .ppsInEdge | .quadCopyRealign
  | .timeGet _ _ | .timeSet _ _ | .timeAdjust _ _ | .timeRate _ _ | .timeArm _ _ | .timeClear _ _ | .timeAlarm _ _ | .timeCapture _ _
  | .timePps _ _ | .timeSource _ _ | .timeStatus _ _ | .clockStatus _ _ | .clockPlan _ _ | .clockSelect _ _ | .clockGate _ _
  | .clockMeasure _ _ | .carrierRevert | .clockSwitchDone _ | .switchForced _ | .syLock _ | .syUnlock _ | .fcGateEnd _ _ | .settingsGet _ _
  | .settingsPut _ _ | .settingsDelete _ _ | .settingsCommit _ _ | .settingsCommitDone _ | .settingsDiscard _ _ | .dbgChallenge _ _
  | .dbgResponse _ _ | .authVerifyDone _ | .nonceExpiry _ | .authLockoutEnd _ | .dbgDrop _ _ | .dbgStatus _ _ | .dbgHalt _ _
  | .dbgResume _ _ | .dbgFeed _ _ | .dbgPeek _ _ | .dbgPoke _ _ | .dbgEngHalt _ _ | .dbgEngResume _ _ | .dbgEngStep _ _ | .dbgEngInject _ _
  | .refHalt | .refResume | .refStep | .refInject _ | .refereeHaltEffect | .refereeHaltForced _ | .patchBreak _ | .tapReset | .idcode
  | .samplePreload _ | .extest | .highz | .clamp | .extestPulse | .extestTrain | .bypass | .authChallenge _ _ _ | .authDrop | .accessRead _
  | .accessWrite _ _ | .accessEffectfulRead _ | .regRead _ _ | .regWrite _ _ | .regModify _ _ | .regReadN _ _ | .regWriteList _ _
  | .illegalInstruction _ | .trainingTimeout _ | .losClearHeld _ | .sgmiiAnComplete _ | .huddleLineFall | .asyncSetReset _ _ _
  | .bandChangeDone _ | .vccioRestored _ _ | .pciExpressLinkUp _ _ _ => true

end Sys2Proof
end

