-- ==== Sys2Proof/Certificates/Slice0/Obligations.lean ====
section
/-! DEFINITION. The statements for the provers, by family of the opcode table. A statement whose state after is written with the model's own
operations says which of them the rule's effect is. -/

open Sys2Proof Sys2Proof.Machine

/-! ### The block as a whole: its queue, reset, its register file, and who may command it -/

/-- A step of a state with a waiting command is that command's effect with the rest of the queue. -/
def Obligations.StepRunsFront : Prop :=
  ∀ (c : Instr) (rest : List Instr) (s : State), s.pending = c :: rest → step s = exec c { s with pending := rest }

/-- The model's choice (log entries 1 and 38): with no command waiting, Maltar takes the mailbox commands of an unknown opcode whose turn it is, and
one tick of the timekeeper clock passes. R410: an enabled timekeeper adds INCR to its value, SECONDS wrapping at 2^48, and a disabled one keeps it;
nothing else of the block changes in a tick but a pulse of PPS_OUT and the copies of a quad that is cut off. -/
def Obligations.IdleTick : Prop :=
  (∀ s : State, s.pending = [] → step s = .next s.takeUnknown.tick) ∧
  (∀ (s : State) (n : Nat), Tbl.wf (fun _ => Keeper.init) s.tmr.tks = true → n < 8 → s.tkRuns n = true →
    (s.tick.keeper n).val = ((s.keeper n).val + s.incrNow n) % (2 ^ 48 * secUnits)) ∧
  (∀ (s : State) (n : Nat), Tbl.wf (fun _ => Keeper.init) s.tmr.tks = true → n < 8 → s.tkRuns n = false → s.tick.keeper n = s.keeper n) ∧
  (∀ s : State, s.tick.tmr.ticks = s.tmr.ticks + 1 ∧ s.tick.regs = s.regs ∧ s.tick.pending = s.pending ∧ s.tick.hbm = s.hbm ∧
    s.tick.eng = s.eng ∧ s.tick.hosts = s.hosts ∧ s.tick.net = s.net ∧ s.tick.pw = s.pw ∧ s.tick.free = s.free) ∧
  (∀ s : State, s.unknownTurn = none → s.takeUnknown = s)

/-- What reset leaves (R36, R37, R48, R213): BOOT at step 1 with supplies valid and RESET_N high, Maltar not yet owning the mailboxes, every mailbox
IDLE, every register at its table's reset value, the engines at R213's values, memory and registers in canonical form. Nothing waits in the queue. The
contents of HBM before initialization and the registers without a stated reset value are the model's choices (log entries 2 and 3). -/
def Obligations.ResetState : Prop :=
  State.reset.pw.mode = .boot ∧ State.reset.pw.step = 1 ∧ State.reset.pw.supplies = true ∧ State.reset.pw.resetN = true ∧
  State.reset.pw.maltarOwns = false ∧ State.reset.pending = [] ∧ State.reset.hosts.ops = [] ∧
  Memory.wf State.reset.hbm.mem = true ∧ State.reset.regsWf = true ∧
  (∀ (r : Rg) (i j : Nat), r.valid i j = true → State.reset.reg r i j = r.rst j) ∧
  (∀ (t id tau : Nat), (State.reset.engine t).rd id tau = engRst id) ∧
  (∀ p m : Nat, (State.reset.mbox p m).state = 0) ∧ (∀ a : Nat, ¬ ∃ b, (a, b) ∈ State.reset.hbm.mem)

/-- The register map of R28 with the chapters' offsets: the network address of a register that exists names that register, its instance and its
index, and no other; so two registers never share an address. -/
def Obligations.RegisterAddresses : Prop :=
  (∀ (r : Rg) (i j : Nat), r.valid i j = true → regAt (r.key i j) = some (r, i, j)) ∧
  (∀ (r r' : Rg) (i j i' j' : Nat), r.valid i j = true → r'.valid i' j' = true → r.key i j = r'.key i' j' → r = r' ∧ i = i' ∧ j = j') ∧
  (∀ (a : Nat) (r : Rg) (i j : Nat), regAt a = some (r, i, j) → r.valid i j = true ∧ r.key i j = a)

/-- Storage of a register that exists: what is written is read back, every other register keeps its value, and the storage stays canonical. -/
def Obligations.RegistersReadBack : Prop :=
  (∀ (s : State) (r : Rg) (i j v : Nat), s.regsWf = true → r.valid i j = true → v < 2 ^ 32 → (s.setReg r i j v).reg r i j = v) ∧
  (∀ (s : State) (r r' : Rg) (i j i' j' v : Nat), s.regsWf = true → r.valid i j = true → r'.valid i' j' = true → (r', i', j') ≠ (r, i, j) →
    (s.setReg r i j v).reg r' i' j' = s.reg r' i' j') ∧
  (∀ (s : State) (r : Rg) (i j v : Nat), s.regsWf = true → r.valid i j = true → (s.setReg r i j v).regsWf = true) ∧
  (∀ (s : State) (q : Rq) (r : Rg) (i j v : Nat), r.okWrite v = false → s.writeReg q r i j v = s)

/-- The checks of R472 for every mailbox row, in their order, with R457, R458 and R471: a command that Maltar cannot take yet changes nothing; a
refusal changes the mailbox alone; so does a command for a die that Maltar does not reach (R79). Maltar serves the ports in turn (R369) and the
oldest ring of a port first (R368); a command with an unknown opcode is answered in its turn. -/
def Obligations.MailboxChecks : Prop :=
  (∀ (opcode : Nat) (body : Body) (p m : Nat) (s : State), s.canTake p m opcode = false → s.unknownTurn = none →
    takeMailbox opcode body p m s = s) ∧
  (∀ (opcode : Nat) (body : Body) (p m : Nat) (s : State), s.canTake p m opcode = true → (s.mbox p m).relay = false →
    s.portFull p opcode = true → takeMailbox opcode body p m s = (s.taken p m).reply p m 0x15 []) ∧
  (∀ (opcode code : Nat) (body : Body) (p m : Nat) (s : State), s.canTake p m opcode = true → (s.mbox p m).relay = false →
    s.portFull p opcode = false → preCheck opcode (s.mbox p m).payload = some code →
    takeMailbox opcode body p m s = (s.taken p m).reply p m code []) ∧
  (∀ (opcode : Nat) (body : Body) (p m : Nat) (s : State), s.canTake p m opcode = true → (s.mbox p m).relay = false →
    s.portFull p opcode = false → preCheck opcode (s.mbox p m).payload = none →
    groupOk s.pw.mode s.pw.lockoutFrom opcode (s.mbox p m).payload = false →
    takeMailbox opcode body p m s = (s.taken p m).reply p m 0x14 []) ∧
  (∀ (opcode : Nat) (body : Body) (p m : Nat) (s : State), s.canTake p m opcode = true → (s.mbox p m).relay = false →
    s.portFull p opcode = false → preCheck opcode (s.mbox p m).payload = none →
    groupOk s.pw.mode s.pw.lockoutFrom opcode (s.mbox p m).payload = true → s.outOfReach opcode (s.mbox p m).payload = true →
    (body (s.ctxOf p m) (s.taken p m)).2.isRefusal = false →
    takeMailbox opcode body p m s = (s.taken p m).reply p m 0xFF []) ∧
  (∀ (opcode : Nat) (l : List Byte), cmdSpec opcode = none → preCheck opcode l = some 0x10) ∧
  (∀ (opcode : Nat) (l : List Byte) (c : CmdSpec), cmdSpec opcode = some c → c.lenOk l = false → preCheck opcode l = some 0x11) ∧
  (∀ (opcode : Nat) (l : List Byte) (c : CmdSpec), cmdSpec opcode = some c → c.lenOk l = true → lenByField opcode l = true →
    c.valuesOk l = false ∨ fieldsOk opcode l = false → preCheck opcode l = some 0x10) ∧
  (∀ (opcode p : Nat) (s : State), opcode < 256 → s.portFull p opcode = false) ∧
  (∀ (lf m : Mode) (l : List Byte) (opcode : Nat), opcode < 256 → m ≠ .off → groupOk m lf opcode l = true) ∧
  (∀ (s : State) (p m code : Nat), p < 5 → m < 4 → ((s.taken p m).reply p m code []).mbox p m =
    { s.mbox p m with
      state := 3
      code := code
      seq := (s.port p).seq % 16
      rep := putBytes [] 0 (replyBytes code 0 (s.mbox p m).opcode (s.mbox p m).htag ((s.taken p m).sbWord p ((s.port p).seq % 16)) 0 []) }) ∧
  (∀ (s : State) (p m code : Nat) (pay : List Byte), p ≠ 5 → (s.reply p m code pay).regs = s.regs ∧ (s.reply p m code pay).hbm = s.hbm ∧
    (s.reply p m code pay).eng = s.eng ∧ (s.reply p m code pay).rgn = s.rgn ∧ (s.reply p m code pay).pending = s.pending) ∧
  (∀ (s : State) (p m : Nat), s.maltarRuns = true → s.turn = some (p, m) → cmdSpec (s.mbox p m).opcode = none →
    ((s.taken p m).reply p m (if s.portFull p (s.mbox p m).opcode then 0x15 else 0x10) []).unknownTurn = none →
    s.takeUnknown = (s.taken p m).reply p m (if s.portFull p (s.mbox p m).opcode then 0x15 else 0x10) []) ∧
  (∀ (s : State) (p m : Nat), p < 5 → s.queued p = true → (∀ q, q < 5 → q ≠ p → s.queued q = false) →
    (s.port p).rings.find? (fun n => (s.mbox p n).state = 1) = some m → s.turn = some (p, m)) ∧
  (∀ (s : State) (p m : Nat), p < 5 → s.queued p = true → p = (s.hosts.rr + 1) % 5 →
    (s.port p).rings.find? (fun n => (s.mbox p n).state = 1) = some m → s.turn = some (p, m))

/-- Event queues (R462): an event reaches every port of its tenant and every port of T0, at the end of its queue; a full queue drops and counts it. -/
def Obligations.EventQueues : Prop :=
  (∀ (s : State) (p : Nat) (e : EvRec), (s.port p).events.length < 256 → (s.port p).dropped = 0 →
    (s.queuePort p e) = s.setPort p { s.port p with events := (s.port p).events ++ [e] }) ∧
  (∀ (s : State) (p : Nat) (e : EvRec), 256 ≤ (s.port p).events.length →
    ∃ x, s.queuePort p e = (s.count F.hpCounts_eventsLost p 0 1).setPort p x ∧ x.events = (s.port p).events) ∧
  (∀ (s : State) (tenant kind code source data : Nat) (p : Nat), p < 5 → tenant ≠ 255 → s.portTenant p ≠ tenant → s.portTenant p ≠ 0 →
    (s.queueEv tenant kind code source data).port p = s.port p)

/-- Every command leaves the queue of waiting commands as it is, so a step takes exactly the front one. -/
def Obligations.CommandsKeepTheQueue : Prop :=
  (∀ (c : Instr) (s t : State), exec c s = .next t → t.pending = s.pending) ∧
  (∀ (s t : State), step s = .next t → t.pending = s.pending.tail)

/-- Invariant: whatever command runs, in whatever state, the contents of the HBM stacks and the mixes under which they are stored stay in canonical
form: keys rise strictly, and no entry equals what an unlisted one reads as. -/
def Obligations.MemoryStaysCanonical : Prop :=
  ∀ (s t : State), Memory.wf s.hbm.mem = true ∧ Tbl.wf (fun _ => 0) s.hbm.mixed = true → step s = .next t →
    Memory.wf t.hbm.mem = true ∧ Tbl.wf (fun _ => 0) t.hbm.mixed = true

/-- Contents of a stack (R307, R308): bytes written are read back, bytes outside them keep their contents, and an aligned atomic delivers the old
value and stores the new one. -/
def Obligations.MemoryReadsBack : Prop :=
  (∀ (s : State) (st l : Nat) (data : List Byte), Memory.wf s.hbm.mem = true → Tbl.wf (fun _ => 0) s.hbm.mixed = true →
    (s.hwrite st l data).hread st l data.length = data) ∧
  (∀ (s : State) (st l st' l' : Nat) (data : List Byte), Memory.wf s.hbm.mem = true → Tbl.wf (fun _ => 0) s.hbm.mixed = true →
    l + data.length ≤ 0x600000000 → l' < 0x600000000 →
    (st' ≠ st ∨ l' < l ∨ l + data.length ≤ l') → (s.hwrite st l data).hread st' l' 1 = s.hread st' l' 1) ∧
  (∀ (s : State) (st l : Nat) (data : List Byte), Memory.wf s.hbm.mem = true → Memory.wf (s.hwrite st l data).hbm.mem = true) ∧
  (∀ (s : State) (st l : Nat) (data : List Byte), Memory.wf s.hbm.mem = true → Tbl.wf (fun _ => 0) s.hbm.mixed = true →
    (s.hperform st l 8 .fetchAdd data).2 = s.hread st l 8 ∧
    leNat ((s.hperform st l 8 .fetchAdd data).1.hread st l 8) = (leNat (s.hread st l 8) + leAt data 0 8) % 2 ^ 64) ∧
  (∀ (s : State) (st l : Nat) (data : List Byte), Memory.wf s.hbm.mem = true → Tbl.wf (fun _ => 0) s.hbm.mixed = true → leNat (s.hread st l 8) ≠ leAt data 0 8 →
    ((s.hperform st l 8 .compareSwap data).1.hread st l 8) = s.hread st l 8)

/-- The SECDED codes of R371 correct every single error of data or check bits, and find every double error of data bits (R370). -/
def Obligations.ErrorCorrection : Prop :=
  ∀ (k r : Nat), (k, r) ∈ [(16, 5), (32, 6), (64, 7), (262, 9)] → ∀ v, v < 2 ^ k →
    secDecode k r v (secEncode k r v) = (.clean, v, 0, 0) ∧
    (∀ i, i < k → secDecode k r (Nat.xor v (2 ^ i)) (secEncode k r v) = (.corrected, v, (dataPos k r).getD i 0, 1)) ∧
    (∀ j, j < r + 1 → (secDecode k r v (Nat.xor (secEncode k r v) (2 ^ j))).1 = .corrected ∧
      (secDecode k r v (Nat.xor (secEncode k r v) (2 ^ j))).2.1 = v) ∧
    (∀ i j, i < j → j < k → (secDecode k r (Nat.xor (Nat.xor v (2 ^ i)) (2 ^ j)) (secEncode k r v)).1 = .bad)

/-! ### Power, resets and the boot (02, 19, 24) -/

/-- Supplies and resets (R36, R37, R48, R520): OFF without supplies; with them, and a captain, BOOT at step 1 before Maltar owns the mailboxes. The
internal store and the queue of commands stay. Readings and pins (R35, R51, R521, R525–R528): a trip point resets the device with its record; a bank
out of range is kept at high impedance; FOUL_N, HUDDLE and user I/O by mode. -/
def Obligations.PowerAndPins : Prop :=
  (∀ (live : BitVec 4) (resetN : Bool) (mv : List Word16) (early : BitVec 4) (s : State), s.pw.supplies = false →
    ∃ t, exec (.suppliesValid live resetN mv early) s = .next t ∧ t.pw.supplies = true ∧ t.pw.resetN = resetN ∧ t.pw.step = 1 ∧ t.pw.maltarOwns = false ∧
      (live.toNat ∈ [1, 2, 4, 8] → t.pw.mode = .boot) ∧ t.ld.store = s.ld.store ∧ t.pending = s.pending) ∧
  (∀ s : State, s.pw.supplies = true →
    ∃ t, exec .suppliesInvalid s = .next t ∧ t.pw.supplies = false ∧ t.pw.mode = .off ∧ t.ld.store = s.ld.store ∧ t.pending = s.pending) ∧
  (∀ s : State, s.pw.supplies = true → s.pw.resetN = true → s.seams.captains ∈ [1, 2, 4, 8] →
    ∃ t, exec .resetNLow s = .next t ∧ t.pw.resetN = false ∧ t.pw.mode = .boot ∧ t.pw.step = 1 ∧ t.pw.maltarOwns = false ∧
      t.hosts.ops = [] ∧ t.ld.store = s.ld.store ∧ t.pending = s.pending) ∧
  (∀ s : State, s.pw.supplies = true → s.pw.resetN = false → s.seams.captains ∈ [1, 2, 4, 8] →
    ∃ t, exec .resetNHigh s = .next t ∧ t.pw.resetN = true ∧ t.pw.mode = .boot ∧ t.pw.step = 1 ∧ t.pw.maltarOwns = false ∧
      t.hosts.ops = [] ∧ t.ld.store = s.ld.store ∧ t.pending = s.pending) ∧
  (∀ s : State, s.pw.supplies = true → s.pw.rebooting = true → s.seams.captains ∈ [1, 2, 4, 8] →
    ∃ t, exec .rebootReset s = .next t ∧ t.pw.resetN = s.pw.resetN ∧ t.pw.mode = .boot ∧ t.pw.step = 1 ∧ t.pw.maltarOwns = false ∧
      t.pw.rebooting = false ∧ t.hosts.ops = [] ∧ t.ld.store = s.ld.store ∧ t.pending = s.pending) ∧
  (∀ (src : Fin 8) (c : Fin 256) (s : State), s.pw.supplies = true → s.pw.tripped = false → c.val ≠ 0x80 →
    (if src.val < 4 then (120 : Int) else 115) ≤ sgn 8 c →
    ∃ t, exec (.dieSensorReading src c) s = .next t ∧ t.pw.tripped = true ∧ t.pw.tripRec = some (src.val, c.val) ∧ t.pw.step = 1 ∧ t.hosts.ops = [] ∧
      t.ld.store = s.ld.store ∧ t.pending = s.pending) ∧
  (∀ (src : Fin 8) (c : Fin 256) (s : State), s.pw.supplies = true → c.val ≠ 0x80 → sgn 8 c < (if src.val < 4 then (120 : Int) else 115) →
    ∃ t, exec (.dieSensorReading src c) s = .next t ∧ t.pw = s.pw ∧ t.eng = s.eng ∧ t.fab = s.fab ∧ t.pqs = s.pqs ∧ t.pending = s.pending) ∧
  (∀ (b : Fin 10) (mv : Word16) (low high mismatch : Bool) (s : State), s.pw.supplies = true → (low || high || mismatch) = true → s.pw.mode ≠ .run →
    exec (.vccioFault b mv low high mismatch) s =
      .next { (s.setReg .vccioMv 0 b (b2n low * 2 ^ 31 + b2n high * 2 ^ 30 + b2n mismatch * 2 ^ 29 + mv.toNat)) with
        elec.bankBad := setBits s.elec.bankBad b b 1 }) ∧
  (∀ (b : Fin 10) (mv : Word16) (s : State), s.pw.supplies = true →
    exec (.vccioRestored b mv) s = .next { (s.setReg .vccioMv 0 b mv.toNat) with elec.bankBad := setBits s.elec.bankBad b b 0 }) ∧
  (∀ s : State, s.awake = true → (s.foulLow = true ↔ s.pw.mode = .lockout) ∧
    (s.huddleLow = true ↔ s.pw.mode = .boot ∨ s.pw.mode = .load ∨ s.pw.mode = .lockout)) ∧
  (∀ (s : State) (k : Nat), s.awake = true → s.pinTest = false → bitAt s.elec.bankBad (k / 64) = true → s.userPin k = .hiz) ∧
  (∀ (s : State) (k : Nat), s.awake = true → s.pinTest = false → bitAt s.elec.bankBad (k / 64) = false →
    (s.pw.mode = .boot → s.userPin k = .hiz) ∧
    (s.pw.mode = .load ∨ s.pw.mode = .huddle ∨ s.pw.mode = .lockout → s.userPin k = s.quietPin (k / 64)) ∧
    (s.pw.mode = .run → s.tileHeld (tget IoCfg.blank s.fab.io k).tile = true → s.userPin k = s.quietPin (k / 64)))

/-- Start-up, HUDDLE and the Referee watchdog (R42, R46, R100, R102, R447). -/
def Obligations.StartAndHuddle : Prop :=
  (∀ s : State, s.pw.mode = .boot → s.pw.step = 1 → s.awake = true → s.pw.maltarOwns = false →
    ∃ t, exec (.maltarStartDone true) s = .next t ∧ t.pw.maltarOwns = true ∧ t.pw.step = 2 ∧ t.pw.mode = .boot ∧ t.eng = s.eng ∧ t.pending = s.pending) ∧
  (∀ s : State, s.pw.mode = .boot → s.pw.step = 1 → s.awake = true → s.pw.maltarOwns = false →
    ∃ t, exec (.maltarStartDone false) s = .next t ∧ t.pw.maltarFailed = true ∧ t.pw.mode = .lockout ∧ t.pending = s.pending) ∧
  (∀ s : State, s.awake = true → s.pw.mode = .huddle →
    exec .huddleLineRise s = .next { s with pw.huddleHigh := true, pw.huddleFilter := true }) ∧
  (∀ s : State, exec .huddleLineFall s = .next { s with pw.huddleHigh := false, pw.huddleFilter := false }) ∧
  (∀ s : State, s.pw.mode = .huddle → s.pw.huddleHigh = true → s.pw.huddleFilter = true →
    ∃ t, exec .huddleExit s = .next t ∧ t.pw.mode = .run ∧ t.pw.ffHold = false ∧ t.pw.huddleLate = false ∧ t.pending = s.pending) ∧
  (∀ s : State, s.pw.mode = .huddle → s.huddlePolicy = 0 → exec .huddleTimeout s = .next { s with pw.huddleLate := true }) ∧
  (∀ s : State, s.pw.mode = .huddle → s.huddlePolicy = 1 →
    ∃ t, exec .huddleTimeout s = .next t ∧ t.pw.mode = .run ∧ t.pw.ffHold = false ∧ t.pending = s.pending) ∧
  (∀ s : State, s.pw.mode = .huddle → s.huddlePolicy = 2 → ∃ t, exec .huddleTimeout s = .next t ∧ t.pw.mode = .lockout ∧ t.pending = s.pending) ∧
  (∀ s : State, s.awake = true → s.maltarRuns = true →
    ∃ t, exec .refereeWatchdogExpiry s = .next t ∧ t.pw.refRestarting = true ∧ t.maltarRuns = false ∧ t.pw.mode = s.pw.mode ∧ t.eng = s.eng ∧
      t.pending = s.pending) ∧
  (∀ s : State, s.pw.refRestarting = true →
    ∃ t, exec .refereeRestartDone s = .next t ∧ t.pw.refRestarting = false ∧ t.pw.mode = s.pw.mode ∧ t.sett.staged = [] ∧ t.hosts.waits = [] ∧
      t.pending = s.pending)

/-- MODE_SET and REBOOT from T0 (R37–R40, R480, R481); HOLD is reported once the engines have stopped (R40). FUNC_DISABLE, FUNC_ENABLE and FUNC_RESET of a function whose work in flight has ended, and the
end of one that waited; a host port's link goes down only then (R53, R54, R474). -/
def Obligations.ModeAndFunctionCommands : Prop :=
  (∀ (p : Port) (m : Mbox) (s : State), s.ready p m 0x200 → s.portTenant p = 0 → s.pw.mode = .run → s.arg p m 0 1 = 5 →
    (s.taken p m).restBusy = false → s.pw.holding = false → exec (.modeSet p m) s = .next ((s.taken p m).enterRest.reply p m 0 [])) ∧
  (∀ (p : Port) (m : Mbox) (s : State), s.ready p m 0x200 → s.portTenant p = 0 → s.pw.mode = .rest → s.arg p m 0 1 = 4 →
    exec (.modeSet p m) s = .next ((s.taken p m).leaveRest.reply p m 0 [])) ∧
  (∀ (p : Port) (m : Mbox) (s : State), s.ready p m 0x200 → s.portTenant p = 0 → s.pw.mode = .run → s.arg p m 0 1 = 6 →
    (s.taken p m).fullAll p = true → (s.taken p m).regionMoves = false → s.pw.holding = false → (s.taken p m).enterHold.pw.holding = false →
    exec (.modeSet p m) s = .next ((s.taken p m).enterHold.reply p m 0 [])) ∧
  (∀ (p : Port) (m : Mbox) (s : State), s.ready p m 0x200 → s.portTenant p = 0 → s.pw.mode = .hold → s.arg p m 0 1 = 4 →
    (s.taken p m).fullAll p = true → exec (.modeSet p m) s = .next ((s.taken p m).leaveHold.reply p m 0 [])) ∧
  (∀ (p : Port) (m : Mbox) (s : State), s.ready p m 0x200 → s.portTenant p ≠ 0 → exec (.modeSet p m) s = .next ((s.taken p m).reply p m 0x12 [])) ∧
  (∀ (p : Port) (m : Mbox) (s : State), s.ready p m 0x201 → s.portTenant p = 0 →
    exec (.reboot p m) s = .next ({ s.taken p m with pw.rebooting := true }.reply p m 0 [])) ∧
  (∀ s : State, s.enterHold.pw.holding = false → s.enterHold.pw.mode = .hold ∧ s.enterHold.fab.stopped = true ∧ s.enterHold.pw.ioHeld = true) ∧
  (∀ s : State, (∀ t, (s.engine t).pend = []) → s.enterHold.net = s.net ∧ s.enterHold.hbm = s.hbm ∧ s.enterHold.pending = s.pending) ∧
  (∀ s : State, s.enterRest.pw.mode = .rest ∧ s.enterRest.fab.stopped = true ∧ s.enterRest.pw.ioHeld = true ∧ s.enterRest.pending = s.pending) ∧
  (∀ s : State, s.leaveRest.fab.stopped = false ∧ s.leaveRest.pw.ioHeld = false ∧ s.leaveRest.clk.leafSave = [] ∧ s.leaveRest.pending = s.pending) ∧
  (∀ (p : Port) (m : Mbox) (s : State) (kind i : Nat), s.ready p m 0x202 → s.arg p m 0 1 = kind → s.arg p m 2 2 = i → kind ≠ 0 → kind ≠ 6 →
    (s.taken p m).funcRefuses (s.portTenant p) kind i = none → (s.taken p m).funcLong kind i false = false →
    ((s.taken p m).funcStop kind i).funcQuiet kind i = true →
    exec (.funcDisable p m) s = .next (((s.taken p m).funcStop kind i).reply p m 0 [])) ∧
  (∀ (p : Port) (m : Mbox) (s : State) (kind i : Nat), s.ready p m 0x203 → s.arg p m 0 1 = kind → s.arg p m 2 2 = i → kind ≠ 0 →
    (s.taken p m).funcRefuses (s.portTenant p) kind i = none →
    exec (.funcEnable p m) s = .next (((s.taken p m).funcEnable kind i).reply p m 0 [])) ∧
  (∀ (p : Port) (m : Mbox) (s : State) (kind i : Nat), s.ready p m 0x204 → s.arg p m 0 1 = kind → s.arg p m 2 2 = i → kind ≠ 0 → kind ≠ 6 →
    (s.taken p m).funcRefuses (s.portTenant p) kind i = none → (s.taken p m).funcLong kind i true = false → kind ≠ 3 →
    ((s.taken p m).funcStop kind i).funcQuiet kind i = true →
    exec (.funcReset p m) s = .next ((((s.taken p m).funcStop kind i).funcReset kind i).reply p m 0 [])) ∧
  (∀ (p : Port) (m : Mbox) (s : State) (i : Nat), s.ready p m 0x202 → s.arg p m 0 1 = 8 → s.arg p m 2 2 = i → s.portTenant p ≠ 0 →
    s.portTenant p ≠ s.tileTenant (i / 4) → exec (.funcDisable p m) s = .next ((s.taken p m).reply p m 0x12 [])) ∧
  (∀ (kind : Fin 10) (idx : Fin 4096) (s : State) (reset : Bool), kind.val ≠ 1 →
    s.pw.funcOps.find? (fun f => f.1 = kind.val && f.2.1 = idx.val) = some (kind.val, idx.val, reset) → s.funcQuiet kind idx = true →
    exec (.functionDisableDone kind idx) s = .next (State.finishOps
      (let t := s.funcEnd kind idx reset
       { t with pw.funcOps := t.pw.funcOps.erase (kind.val, idx.val, reset) }) (kind.val * 65536 + idx.val) [0x0202, 0x0204] 0 0 0 [])) ∧
  (∀ (p : Port) (m : Mbox) (s : State), s.ready p m 0x200 → s.portTenant p = 0 → s.pw.mode = .run → s.arg p m 0 1 = 6 →
    (s.taken p m).fullAll p = true → (s.taken p m).regionMoves = false → s.pw.holding = false → (s.taken p m).enterHold.pw.holding = true →
    exec (.modeSet p m) s = .next ((s.taken p m).enterHold.addWait ((s.ctxOf p m).op 0 []))) ∧
  (∀ s : State, s.pw.holding = true → s.eng.all (fun e => !e.2.holdReq) = true →
    s.holdEnd.pw.holding = false ∧ s.holdEnd.pw.mode = .hold ∧ s.holdEnd.fab.stopped = true) ∧
  (∀ s : State, s.pw.holding = true → s.eng.any (fun e => e.2.holdReq && decide (e.2.run = .running)) = true → s.holdEnd = s)

/-- The link of a host port: PERST_N, training, configuration requests (R49, R446, R450, R451). The management port (R452, R453, R455, R457): a write to
its mailbox space, a doorbell, a read, an address of another device. -/
def Obligations.HostPorts : Prop :=
  (∀ (p : Die) (s : State), (s.port p).perst = true →
    exec (.perstNLow p) s = .next (State.dropExchange (State.dropAuth ((s.portDown p).setPort p { (s.portDown p).port p with perst := false }) p) p)) ∧
  (∀ (p : Die) (s : State), (s.port p).perst = false →
    exec (.perstNRise p) s = .next (s.setPort p { s.port p with perst := true, enabled := true, training := s.awake, seq := 0 })) ∧
  (∀ (p : Die) (speed : Fin 5) (width : Fin 4) (s : State), (s.port p).training = true → s.awake = true →
    exec (.pciExpressLinkUp p speed width) s = .next ((((s.setPort p { s.port p with training := false }).setF F.hpStatus_linkUp p 0 1).setF
      F.hpStatus_speed p 0 (speed.val + 1)).setF F.hpStatus_width p 0 (2 ^ width.val))) ∧
  (∀ (p : Die) (r : CfgReg) (s : State), s.flag F.hpStatus_linkUp p 0 = true → r ≠ .other →
    exec (.configRequest p r none) s = .next (s.setPort p { s.port p with cfg := s.cfgRead p r })) ∧
  (∀ (p : Die) (v : Word32) (s : State), s.flag F.hpStatus_linkUp p 0 = true →
    exec (.configRequest p .bar0 (some v)) s = .next (s.setPort p { s.port p with bar0 := v.toNat / 2 ^ 14 * 2 ^ 14 })) ∧
  (∀ (p : Die) (v : Word32) (s : State), s.flag F.hpStatus_linkUp p 0 = true → v.toNat % 4 = 3 →
    exec (.configRequest p .powerState (some v)) s = .next (s.setPort p { s.port p with d3hot := true })) ∧
  (∀ (addr : BitVec 7) (off : Word16) (data : List Byte) (s : State), s.portUp 4 = true → addr.toNat ≠ s.reg .mpAddr 4 0 →
    exec (.mpWrite addr off data) s = .next s) ∧
  (∀ (addr : BitVec 7) (off : Word16) (b : Byte) (s : State) (m o : Nat), s.portUp 4 = true → addr.toNat = s.reg .mpAddr 4 0 → m < 4 → o < 512 →
    off.toNat = 1024 * m + o →
    exec (.mpWrite addr off [b]) s = .next (State.bufferWrite { s with hosts.mpIdle := false, hosts.mpOff := off.toNat + 1 } 4 m o [b])) ∧
  (∀ (addr : BitVec 7) (off : Word16) (b0 b1 b2 b3 : Byte) (s : State) (m : Nat), s.portUp 4 = true → addr.toNat = s.reg .mpAddr 4 0 → m < 4 →
    off.toNat = 0x1000 + 16 * m → bitAt b3.toNat 7 = true →
    exec (.mpWrite addr off [b0, b1, b2, b3]) s = .next (State.ring { s with hosts.mpIdle := false, hosts.mpOff := off.toNat + 4 } 4 m)) ∧
  (∀ (addr : BitVec 7) (off : Word16) (b0 b1 b2 b3 : Byte) (s : State) (m : Nat), s.portUp 4 = true → addr.toNat = s.reg .mpAddr 4 0 → m < 4 →
    off.toNat = 0x1000 + 16 * m → bitAt b3.toNat 7 = false →
    exec (.mpWrite addr off [b0, b1, b2, b3]) s = .next { s with hosts.mpIdle := false, hosts.mpOff := off.toNat + 4 }) ∧
  (∀ (addr : BitVec 7) (off : Word16) (s : State) (m o : Nat), s.portUp 4 = true → addr.toNat = s.reg .mpAddr 4 0 → m < 4 → o < 512 →
    off.toNat = 1024 * m + 512 + o →
    exec (.mpRead addr off 1) s = .next { s with hosts.mpIdle := false, hosts.mpOff := off.toNat + 1, hosts.mpOut := [tget 0#8 (s.mbox 4 m).rep o] }) ∧
  (∀ (addr : BitVec 7) (off : Word16) (s : State) (m : Nat), s.portUp 4 = true → addr.toNat = s.reg .mpAddr 4 0 → m < 4 →
    off.toNat = 0x1000 + 16 * m + 4 →
    exec (.mpRead addr off 4) s = .next { s with
      hosts.mpIdle := false
      hosts.mpOff := off.toNat + 4
      hosts.mpLatch := leBytes 4 (s.mbox 4 m).status
      hosts.mpOut := leBytes 4 (s.mbox 4 m).status }) ∧
  (∀ s : State, s.portUp 4 = true → exec .mpSclTimeout s = .next { s with hosts.mpIdle := true })

/-- The ring of a mailbox and the general commands (R457, R460, R475–R477). -/
def Obligations.GeneralCommands : Prop :=
  (∀ (p : Port) (m : Mbox) (s : State), s.portUp p = true → (s.mbox p m).state ≠ 1 → (s.mbox p m).state ≠ 2 → s.hardwareCode = none →
    exec (.mailboxRing p m []) s = .next
      (let t := s.setMbox p m { s.mbox p m with state := 1, tag := (s.mbox p m).htag }
       t.setPort p { t.port p with rings := (t.port p).rings.filter (· ≠ m.val) ++ [m.val] })) ∧
  (∀ (p : Port) (m : Mbox) (s : State), s.portUp p = true → (s.mbox p m).state = 1 ∨ (s.mbox p m).state = 2 →
    exec (.mailboxRing p m []) s = .next (s.count F.hpCounts_ringLost p 0 1)) ∧
  (∀ (p : Port) (m : Mbox) (s : State) (code : Nat), s.portUp p = true → (s.mbox p m).state ≠ 1 → (s.mbox p m).state ≠ 2 →
    s.hardwareCode = some code →
    exec (.mailboxRing p m []) s =
      .next (State.reply (s.setMbox p m { s.mbox p m with state := 1, tag := (s.mbox p m).htag }) p m code [])) ∧
  (∀ (p : Port) (m : Mbox) (s : State), s.ready p m 0 → exec (.poll p m) s = .next ((s.taken p m).reply p m 0 [])) ∧
  (∀ (p : Port) (m : Mbox) (s : State), s.ready p m 1 →
    exec (.identify p m) s = .next ((s.taken p m).reply p m 0 (leBytes 2 0x000A ++ leBytes 2 0x0126 ++
      leBytes 1 (1 + (Config.partFact 0).toNat % 3) ++ leBytes 1 0x45 ++ leBytes 2 (Config.partFact 1).toNat ++ leBytes 8 deviceId ++
      leBytes 4 (Config.partFact 2).toNat ++ leBytes 4 (Config.partFact 3).toNat ++ leBytes 2 (s.getF F.timeCtl_domain 0 0) ++
      leBytes 1 (s.portTenant p) ++ leBytes 1 p.val))) ∧
  (∀ (p : Port) (m : Mbox) (s : State) (n : Nat), s.ready p m 2 → min 15 (s.arg p m 0 1) = n →
    exec (.getEvents p m) s = .next (((s.taken p m).setPort p { (s.taken p m).port p with events := ((s.taken p m).port p).events.drop n }).reply p m 0
      (leBytes 1 (((s.taken p m).port p).events.take n).length ++ leBytes 1 (min 255 (((s.taken p m).port p).events.drop n).length) ++ leBytes 14 0 ++
        (((s.taken p m).port p).events.take n).flatMap EvRec.bytes))) ∧
  (∀ (p : Port) (m : Mbox) (s : State), s.ready p m 3 →
    ∃ pay, exec (.getStatus p m) s = .next (State.reply
      (let x := (s.taken p m).port p
       let t := (s.taken p m).setPort p { x with ops := x.ops.filter (fun r => !(decide (r.origin = none) && r.done)) }
       let keep (a : Alarm) : Bool := !(a.tenant = s.portTenant p || (a.tenant = 255 && s.portTenant p = 0))
       if bitAt (s.arg p m 0 1) 0 then { t with hosts.alarms := s.hosts.alarms.filter keep } else t) p m 0 pay))

/-- Roll call (R69, R70): numbers, answers, the relayed identifier, CONFIRM and its absence. The boot seam test, bundle training and seam reset (R71,
R74, R76, R82–R84, R537). -/
def Obligations.SeamStart : Prop :=
  (∀ (d : Die) (p : Fin 2) (c : List (BitVec 336)) (w : BitVec 288) (s : State), s.rolling = true → rollUnit c = some w → rollKind w = 1 →
    ((s.roll (across d p)).out p).contains w = true → rollTo w = 3 →
    exec (.rollCall d p c) s = .next (((s.setRoll d { s.roll d with numbered := some 3 }).rollSend d p
      (rollPay 2 3 3 p (silicon d) (rollCaptain w))).setF F.seamIdent_die d 0 3)) ∧
  (∀ (d : Die) (p : Fin 2) (c : List (BitVec 336)) (w : BitVec 288) (s : State), s.rolling = true → rollUnit c = some w → rollKind w = 1 →
    ((s.roll (across d p)).out p).contains w = true → rollTo w = 1 →
    exec (.rollCall d p c) s = .next ((((s.setRoll d { s.roll d with numbered := some 1 }).rollSend d p
      (rollPay 2 1 1 p (silicon d) (rollCaptain w))).rollSend d 1 (rollPay 1 1 3 1 (silicon d) (rollCaptain w))).setF F.seamIdent_die d 0 1)) ∧
  (∀ (d : Die) (p : Fin 2) (c : List (BitVec 336)) (s : State), rollUnit c = none → exec (.rollCall d p c) s = .next s) ∧
  (∀ (d : Die) (p : Fin 2) (c : List (BitVec 336)) (w : BitVec 288) (s : State) (n : Nat), s.rolling = true → rollUnit c = some w →
    rollKind w = 2 → (s.roll (across d p)).numbered = some n → rollTo w = n → (s.roll d).sent p 1 = true → n ≠ 3 →
    exec (.rollAnswer d p c) s = .next (s.setRoll d (if p.val = 0 then { s.roll d with ansX := some (rollSilicon w) }
      else { s.roll d with ansY := some (rollSilicon w) }))) ∧
  (∀ (d : Die) (p : Fin 2) (c : List (BitVec 336)) (w : BitVec 288) (s : State), s.rolling = true → rollUnit c = some w →
    rollKind w = 2 → (s.roll (across d p)).numbered = some 3 → rollTo w = 3 → (s.roll d).sent p 1 = true →
    ∃ t : State, exec (.rollAnswer d p c) s = .next (t.rollSend d (1 - p.val)
      (rollPay 3 ((s.roll d).numbered.getD 0) 0 (1 - p.val) (rollSilicon w) (rollCaptain w))) ∧ t.seams.relay1 = s.seams.relay1 ∧ t.pw = s.pw) ∧
  (∀ (c : List (BitVec 336)) (w : BitVec 288) (s : State), s.rolling = true → rollUnit c = some w → rollKind w = 3 →
    (s.roll 1).outX.contains w = true → s.seams.relay2 = none →
    exec (.rollRelay 0 c) s = .next { s with seams.relay1 := some (rollSilicon w) }) ∧
  (∀ (c : List (BitVec 336)) (w : BitVec 288) (s : State) (a : Nat), s.rolling = true → rollUnit c = some w → rollKind w = 3 →
    (s.roll 2).outY.contains w = true → s.seams.relay1 = some a → a ≠ rollSilicon w →
    exec (.rollRelay 1 c) s = .next ((State.seamFault { s with seams.relay2 := some (rollSilicon w) } 0 2 0 0 0 0).lockout 2 0)) ∧
  (∀ (c : List (BitVec 336)) (w : BitVec 288) (s : State), s.rolling = true → rollUnit c = some w → rollKind w = 3 →
    (s.roll 2).outY.contains w = true → s.seams.relay1 = some (rollSilicon w) →
    ∃ t, exec (.rollRelay 1 c) s = .next t ∧ (∀ n p, (n, p) ∈ [(1, 0), (3, 0), (2, 1), (3, 1)] →
      rollPay 4 0 n p (silicon 0) (silicon 0) ∈ (t.roll 0).out p) ∧ t.pw = s.pw) ∧
  (∀ (c1 c2 c3 : List (BitVec 336)) (s : State), s.rolling = true → s.confirms 1 c1 = true → s.confirms 2 c2 = true → s.confirms 3 c3 = true →
    exec (.rollConfirm c1 c2 c3) s = .next (iter 4 (fun d s => s.setF F.seamIdent_numbered d 0 1) { s with seams.rollDone := true })) ∧
  (∀ s : State, s.rolling = true → ∃ t, exec .rollCallMissed s = .next t ∧ t.pw.mode = .lockout ∧ t.pw.lockoutFrom = .boot ∧ t.pending = s.pending) ∧
  (∀ (maps bad : List (Nat × Nat)) (allow : Bool) (s : State), s.pw.mode = .boot → s.pw.step = 2 → s.seams.rollDone = true →
    exec (.seamBootTestDone maps bad allow) s = .next (State.seamBoot { s.applyHeader s.bootHeader allow with seams.test := bad } maps)) ∧
  (∀ (maps : List (Nat × Nat)) (s : State), s.seamBoot maps =
    let q := (State.trainAll { s with pw.seamsTrained := true } maps (fun _ _ _ => true)).repairAll (fun _ => true)
    q.1.seamBootEnd q.2) ∧
  (∀ s : State, s.seamBootEnd none = State.writeRoutes (State.seamDegr { s with pw.step := 3 })) ∧
  (∀ (s : State) (k w : Nat), s.seamBootEnd (some (k, w)) = s.unrepairable k w) ∧
  (∀ (s : State) (k w : Nat), (s.unrepairable k w).pw.mode = .lockout ∧ (s.unrepairable k w).pw.lockoutFrom = s.pw.mode) ∧
  (∀ (d : Die) (p : Fin 2) (n : Fin 129) (c : List (BitVec 336)) (u : Nat) (s : State), receives d p n = true → s.bstate d p n = 3 →
    firstCopy 2 c = some u →
    exec (.train d p n c) s = .next (s.setBundle (bkey d p n) { s.bundle (bkey d p n) with partnerMap := some (unitPay u % 65536) })) ∧
  (∀ (d : Die) (p : Fin 2) (n : Fin 129) (own : BitVec 16) (late : Bool) (s : State) (map : Nat), receives d p n = true → s.bstate d p n = 3 →
    (s.bundle (bkey d p n)).partnerMap = some map → 14 ≤ ones16 (s.agreed d p n (own.toNat &&& map)) →
    exec (.bundleTrainingDone d p n own late) s = .next (State.resetEnd
      (let t := s.trained d p n (s.agreed d p n (own.toNat &&& map))
       { t with seams.resets := t.seams.resets.filter (· ≠ (2 * d.val + p.val, n.val)) }) d p late)) ∧
  (∀ (p : Port) (m : Mbox) (s : State) (set : List (Nat × Nat × Nat)), s.ready p m 0x205 → s.portTenant p = 0 →
    (s.taken p m).resetSet (s.arg p m 0 1) (s.arg p m 1 1) (s.arg p m 2 1) = set → set ≠ [] →
    (s.taken p m).seamBusy (s.arg p m 0 1) (s.arg p m 1 1) = false →
    (s.taken p m).noReplacement (namedLinks set) = false ∨ s.arg p m 3 1 = 1 →
    exec (.seamReset p m) s = .next (State.resetsGo (State.addWait
      ((s.taken p m).rerouteAll (s.taken p m).net.avoid ((s.taken p m).net.named ++ namedLinks set)
        ((s.taken p m).net.closed ++ (s.taken p m).closedLinks))
      ((s.ctxOf p m).op (seamOf (s.arg p m 0 1) (s.arg p m 1 1)) (resetArgs (s.arg p m 0 1) (s.arg p m 1 1) (s.arg p m 2 1)))))) ∧
  (∀ (p : Port) (m : Mbox) (s : State) (set : List (Nat × Nat × Nat)), s.ready p m 0x205 → s.portTenant p = 0 →
    (s.taken p m).resetSet (s.arg p m 0 1) (s.arg p m 1 1) (s.arg p m 2 1) = set → set ≠ [] →
    (s.taken p m).seamBusy (s.arg p m 0 1) (s.arg p m 1 1) = false →
    (s.taken p m).noReplacement (namedLinks set) = true → s.arg p m 3 1 = 0 →
    exec (.seamReset p m) s = .next ((s.taken p m).reply p m 0x15 [])) ∧
  (∀ (r : Req) (s : State) (d v : Nat), s.grantsWrite r .seamReset d 0 v → bitAt v 31 = true → s.seamTraining d 0 = false →
    s.seamTraining d 1 = false →
    exec (.seamResetGo r) s = .next (State.respond
      (((s.takeReq r).setReg .seamReset d 0 (Rg.seamReset.written (s.reg .seamReset d 0) v)).startTraining
        (((s.takeReq r).setReg .seamReset d 0 (Rg.seamReset.written (s.reg .seamReset d 0) v)).resetSet d (bits v 16 16) (bits v 7 0))) r svcOK [])) ∧
  (∀ (d : Die) (p : Fin 2) (n : Fin 129) (s : State), s.regsWf = true → receives d p n = true → n.val = 0x80 →
    ¬ (s.bstate d p n = 1 ∧ s.getF F.replayLimit_limit d 0 < (s.bundle (bkey d p n)).replays) →
    exec (.replayWindowEnd d p n) s = .next ((s.setBundle (bkey d p n) { s.bundle (bkey d p n) with replays := 0 }).setF F.privStatus_replays d
      (256 * p.val + n.val) (min 255 (s.bundle (bkey d p n)).replays)))

/-- Units of the seam protocol (R62–R67): what a unit that arrives does, when one is discarded and a replay asked for, and what an end sends: at most 64
unacknowledged units, and EVENT units first. A unit travels on the 14 lowest good lanes of the agreed map (R62); a CONFIG unit for another die goes
on (log entry 147). -/
def Obligations.SeamUnits : Prop :=
  (∀ (d : Die) (p : Fin 2) (n : Fin 129) (lanes : List (BitVec 24)) (u : Nat) (s : State), receives d p n = true → s.pairUp d p n = true →
    s.lanesIn d p n lanes = u → unitCrcOk u = true → u % 2 ^ 312 = (s.bundle (farKey d p n)).idleUnit % 2 ^ 312 →
    exec (.idle d p n lanes) s = .next
      (let f := s.bundle (farKey d p n)
       ((s.setBundle (farKey d p n) (Bundle.paid { f with nakOut := false } f.creditBits)).ackIn d p n u).creditsIn d p n u)) ∧
  (∀ (d : Die) (p : Fin 2) (n : Fin 129) (lanes : List (BitVec 24)) (u : Nat) (v : List (Nat × BitVec 24)) (b : Bool)
    (l : List (Bool × List (Nat × BitVec 24))) (s t : State), receives d p n = true → n.val ≠ 0x80 → s.pairUp d p n = true →
    (s.bundle (farKey d p n)).wire = (b, v) :: l → unitType (unstripe v) = 1 → s.lanesIn d p n lanes = u → unitCrcOk u = true → unitType u = 1 →
    (s.setBundle (farKey d p n) { s.bundle (farKey d p n) with wire := l }).ackIn d p n u = t → unitSeq u = (t.bundle (bkey d p n)).expSeq →
    exec (.flit d p n lanes) s = .next (State.flitIn
      (State.creditsIn (t.setBundle (bkey d p n) { t.bundle (bkey d p n) with
        expSeq := ((t.bundle (bkey d p n)).expSeq + 1) % 256, skipping := false, fails := 0,
        delivered := (t.bundle (bkey d p n)).delivered ++ [(1, BitVec.ofNat 288 (unitPay u))] }) d p n u)
      (privPort d p n).1 (privPort d p n).2 (unitPay u))) ∧
  (∀ (d : Die) (p : Fin 2) (lanes : List (BitVec 24)) (u : Nat) (v : List (Nat × BitVec 24)) (b : Bool)
    (l : List (Bool × List (Nat × BitVec 24))) (s t t' : State) (typ : Nat), s.pairUp d p 0x80 = true →
    (s.bundle (farKey d p 0x80)).wire = (b, v) :: l → unitType (unstripe v) = typ → s.lanesIn d p 0x80 lanes = u → unitCrcOk u = true →
    unitType u = typ → (s.setBundle (farKey d p 0x80) { s.bundle (farKey d p 0x80) with wire := l }).ackIn d p 0x80 u = t →
    unitSeq u = (t.bundle (bkey d p 0x80)).expSeq →
    t.setBundle (bkey d p 0x80) { t.bundle (bkey d p 0x80) with
      expSeq := ((t.bundle (bkey d p 0x80)).expSeq + 1) % 256, skipping := false, fails := 0,
      delivered := (t.bundle (bkey d p 0x80)).delivered ++ [(typ, BitVec.ofNat 288 (unitPay u))] } = t' →
    (typ = 4 → exec (.event d p lanes) s = .next (t'.evIn d p (unitPay u))) ∧
    (typ = 5 → t'.seams.units.find? (fun x => x.1 = 5 && x.2.2 = BitVec.ofNat 288 (unitPay u)) = none →
      exec (.mgmt d p lanes) s = .next
        (let r : State := { t' with
          seams.mgmt := tput [] t'.seams.mgmt (bkey d p 0x80) (tget [] t'.seams.mgmt (bkey d p 0x80) ++ [BitVec.ofNat 288 (unitPay u)]) }
         if d.val = 0 then r else r.ctrlSend 5 d 0)) ∧
    (typ = 6 → t'.seams.units.find? (fun x => x.1 = 6 && x.2.2 = BitVec.ofNat 288 (unitPay u)) = none →
      exec (.config d p lanes) s = .next { t' with
        seams.config := tput [] t'.seams.config (bkey d p 0x80) (tget [] t'.seams.config (bkey d p 0x80) ++ [BitVec.ofNat 288 (unitPay u)]) }) ∧
    (∀ x, typ = 6 → t'.seams.units.find? (fun x => x.1 = 6 && x.2.2 = BitVec.ofNat 288 (unitPay u)) = some x → x.2.1 ≠ d.val →
      exec (.config d p lanes) s = .next (State.ctrlForward { t' with seams.units := t'.seams.units.erase x } 6 d x.2.1 (BitVec.ofNat 288 (unitPay u))))) ∧
  (∀ (d : Die) (p : Fin 2) (n : Fin 129) (lanes : List (BitVec 24)) (s : State), receives d p n = true → s.pairUp d p n = true →
    unitCrcOk (s.lanesIn d p n lanes) = false → (s.bundle (bkey d p n)).skipping = false →
    exec (.idle d p n lanes) s = .next (s.setBundle (bkey d p n) { s.bundle (bkey d p n) with
      skipping := true, nakOut := true, replays := (s.bundle (bkey d p n)).replays + 1, fails := 0 })) ∧
  (∀ (d : Die) (p : Fin 2) (n : Fin 129) (lanes : List (BitVec 24)) (v : List (Nat × BitVec 24)) (b : Bool)
    (l : List (Bool × List (Nat × BitVec 24))) (s t : State), receives d p n = true → n.val ≠ 0x80 → s.pairUp d p n = true →
    (s.bundle (farKey d p n)).wire = (b, v) :: l → unitType (unstripe v) = 1 → unitCrcOk (s.lanesIn d p n lanes) = false →
    s.setBundle (farKey d p n) { s.bundle (farKey d p n) with wire := l } = t → (t.bundle (bkey d p n)).skipping = false →
    exec (.flit d p n lanes) s = .next (t.setBundle (bkey d p n) { t.bundle (bkey d p n) with
      skipping := true, nakOut := true, replays := (t.bundle (bkey d p n)).replays + 1, fails := 0 })) ∧
  (∀ (d : Die) (p : Fin 2) (n : Fin 129) (lanes : List (BitVec 24)) (s : State), s.pairUp d p n = false →
    exec (.idle d p n lanes) s = .next s ∧ exec (.flit d p n lanes) s = .next s) ∧
  (∀ (b : Bundle) (map : Nat), 64 ≤ b.kept.length → b.pump map = b) ∧
  (∀ (b : Bundle) (map : Nat), b.kept.length ≤ 64 → (b.pump map).kept.length ≤ 64) ∧
  (∀ (b : Bundle) (typ pay : Nat), (b.queue.dropWhile (fun x => x.1 = 4)).all (fun x => x.1 ≠ 4) = true →
    ((b.enqueue typ pay).queue.dropWhile (fun x => x.1 = 4)).all (fun x => x.1 ≠ 4) = true) ∧
  (∀ (d : Die) (p i typ pay : Nat) (s : State), s.pairUp d p i = false →
    s.sendUnit d p i typ pay = s.setBundle (bkey d p i) ((s.bundle (bkey d p i)).enqueue typ pay)) ∧
  (∀ u : Nat, ∀ map : Nat, u < 2 ^ 336 → 14 ≤ ones16 map → unstripe (stripe map u) = u) ∧
  (∀ (seq ack typ credit pay : Nat) (nak : Bool), seq < 256 → ack < 256 → typ < 16 → credit < 256 → pay < 2 ^ 288 →
    unitCrcOk (mkUnit seq ack typ credit nak pay) = true ∧ unitSeq (mkUnit seq ack typ credit nak pay) = seq ∧
    unitAck (mkUnit seq ack typ credit nak pay) = ack ∧ unitType (mkUnit seq ack typ credit nak pay) = typ ∧
    unitCredit (mkUnit seq ack typ credit nak pay) = credit ∧ unitNak (mkUnit seq ack typ credit nak pay) = nak ∧
    unitPay (mkUnit seq ack typ credit nak pay) = pay) ∧
  (∀ (u map : Nat) (lanes : List (BitVec 24)), u < 2 ^ 336 → 14 ≤ ones16 map → (∀ q ∈ stripe map u, lanes.getD q.1 0#24 = q.2) → gather map lanes = u) ∧
  (∀ (u map : Nat), ∀ q ∈ stripe map u, q.1 < 16 ∧ bitAt map q.1 = true)

/-- Records of a section (R93–R99, R285): a FRAMES record is written, an UNINIT record leaves its words unwritten, a TAG record closes its block or
fails the section. The full load (R45, R92, R97, R104, R105): the header, the reports of the dies, and its end. -/
def Obligations.ConfigurationLoad : Prop :=
  (∀ (r : Option RegionId) (d : Die) (s : State) (x : Rec), s.takesRec (r.map (·.val)) d → s.recAt (r.map (·.val)) d = x → x.type = 1 →
    (∀ i < x.count, x.frameOk i = true) → (∀ i < x.count, s.inFence (r.map (·.val)) (x.addr + 1024 * i) = true) →
    exec (.framesRecord r d [] none none none) s = .next (State.setCtl
      (iter x.count (fun i s => s.putFrame (x.addr + 1024 * i) (x.frame i)) (s.blankTo (r.map (·.val)) d x.addr none).1)
      (r.map (·.val)) d ((s.ctl (r.map (·.val)) d).took x))) ∧
  (∀ (r : RegionId) (d : Die) (s : State) (x : Rec), s.takesRec (some r.val) d → s.recAt (some r.val) d = x → x.type = 1 → 0 < x.count →
    s.inFence (some r.val) x.addr = false →
    exec (.framesRecord (some r) d [] none none none) s = .next (((s.blankTo (some r.val) d x.addr none).1).ctlFail (some r.val) d 0x23 x.addr)) ∧
  (∀ (r : Option RegionId) (d : Die) (s : State) (x : Rec), s.takesRec (r.map (·.val)) d → s.recAt (r.map (·.val)) d = x → x.type = 1 → 0 < x.count →
    s.inFence (r.map (·.val)) x.addr = true → x.frameOk 0 = false →
    exec (.framesRecord r d [] none none none) s = .next (((s.blankTo (r.map (·.val)) d x.addr none).1).ctlFail (r.map (·.val)) d 0x22 x.addr)) ∧
  (∀ (d : Die) (s : State) (x : Rec), s.takesRec none d → s.recAt none d = x → x.type = 2 →
    exec (.uninitRecord none d [] none) s = .next (State.setCtl
      (iter x.count (fun i s => s.uninitFrame (x.addr + 1024 * i)) (s.blankTo none d x.addr none).1) none d ((s.ctl none d).took x))) ∧
  (∀ (r : Option RegionId) (d : Die) (s : State) (x : Rec), s.takesRec (r.map (·.val)) d → s.recAt (r.map (·.val)) d = x → x.type = 3 →
    (s.ctl (r.map (·.val)) d).digestOk x = true →
    (∀ n, ((s.ctl (r.map (·.val)) d).took x).endSeen = some n → n = (s.ctl (r.map (·.val)) d).frames) →
    exec (.tagRecord r d []) s = .next (s.setCtl (r.map (·.val)) d ((s.ctl (r.map (·.val)) d).took x))) ∧
  (∀ (r : Option RegionId) (d : Die) (s : State) (x : Rec), s.takesRec (r.map (·.val)) d → s.recAt (r.map (·.val)) d = x → x.type = 3 →
    (s.ctl (r.map (·.val)) d).digestOk x = false →
    exec (.tagRecord r d []) s = .next (s.ctlFail (r.map (·.val)) d 0x22 x.addr)) ∧
  (∀ (r : Option RegionId) (d : Die) (s : State), s.ctlRuns (r.map (·.val)) d = true → (s.ctl (r.map (·.val)) d).hbm = none →
    exec (.framesRecord r d [true] none none none) s =
      .next ((s.storeErrs d [true]).ctlFail (r.map (·.val)) d 0x22 ((s.ctl (r.map (·.val)) d).lastAddr.getD 0))) ∧
  (∀ (maps bad : List (Nat × Nat)) (s : State), s.pw.mode = .load → s.ld.loading = 0 → s.pw.loadDone = false → s.ld.fellBack = false →
    s.loadSlot ≠ 2 → s.slotState s.loadSlot = 2 → headerOk (s.slotHeader s.loadSlot) 1 = true → headerSigned (s.slotHeader s.loadSlot) = true →
    exec (.headerAuthenticated maps bad []) s = .next
      (iter 4 (fun d t => (t.setCtl none d (mkCtl (s.slotHeader s.loadSlot) d (slotArea s.loadSlot) none (areaSize (slotArea s.loadSlot)))).ctrlSend 6 0 d)
        { s with eng := tmap Engine.init (fun _ e => e.memories) s.eng, fab.cfg := [], fab.ffs := [], fab.muls := [], fab.seamFfs := [],
                 fab.xings := [], fab.seamCfg := [], fab.seamClk := [], fab.xcfg := [], fab.io := [], ld.loading := s.loadSlot + 1,
                 ld.imgSlack := hSlack (s.slotHeader s.loadSlot) })) ∧
  (∀ (maps bad : List (Nat × Nat)) (s t : State), s.pw.mode = .load → s.ld.loading = 0 → s.pw.loadDone = false → s.ld.fellBack = true →
    s.ld.golden ≠ 3 → headerOk (s.slotHeader 2) 2 = true → headerSigned (s.slotHeader 2) = true → s.reassign (s.slotHeader 2) maps bad = t →
    t.pw.mode = .load →
    exec (.headerAuthenticated maps bad []) s = .next
      (iter 4 (fun d t => (t.setCtl none d (mkCtl (s.slotHeader 2) d 1 none (areaSize 1))).ctrlSend 6 0 d)
        { t with eng := tmap Engine.init (fun _ e => e.memories) t.eng, fab.cfg := [], fab.ffs := [], fab.muls := [], fab.seamFfs := [],
                 fab.xings := [], fab.seamCfg := [], fab.seamClk := [], fab.xcfg := [], fab.io := [], ld.loading := 3,
                 ld.imgSlack := hSlack (s.slotHeader 2) })) ∧
  (∀ (maps bad : List (Nat × Nat)) (errs : List Bool) (s : State), s.pw.mode = .load → s.ld.loading = 0 → s.pw.loadDone = false →
    s.slotCode s.loadSlot (unread errs) ≠ 0 →
    exec (.headerAuthenticated maps bad errs) s = .next ((s.storeErrs 0 errs).loadFail 0 (s.slotCode s.loadSlot (unread errs)) 0)) ∧
  (∀ (s : State) (k : Nat), k < 2 → (s.slotState k ≠ 2 → s.slotCode k false = 0x21) ∧
    (s.slotState k = 2 → headerOk (s.slotHeader k) 1 = false → s.slotCode k false = 0x20) ∧
    (s.slotState k = 2 → headerOk (s.slotHeader k) 1 = true → headerSigned (s.slotHeader k) = false → s.slotCode k false = 0x22)) ∧
  (∀ (d : Die) (s : State), (s.ctl none d).active = true → (s.ctl none d).reported = false → (s.ctl none d).fail = none → s.otherFailed none = false →
    (s.ctl none d).short = false →
    ((s.ctl none d).len = 0 ∧ (s.ctl none d).frames = 0) ∨ ((s.ctl none d).len ≠ 0 ∧ (s.ctl none d).endSeen = some (s.ctl none d).frames) →
    exec (.dieLoadDone d none) s = .next (State.ctrlSend
      (State.setCtl (s.blankTo none d ((d.val + 1) * 2 ^ 30) none).1 none d { s.ctl none d with reported := true }) 6 d 0)) ∧
  (∀ (d : Die) (s : State) (code : Nat), (s.ctl none d).active = true → (s.ctl none d).reported = false → (s.ctl none d).fail = some code →
    exec (.dieLoadDone d none) s = .next (State.ctrlSend (s.setCtl none d { s.ctl none d with reported := true }) 6 d 0)) ∧
  (∀ (cfg : ImageCfg) (s : State), s.pw.mode = .load → s.ld.loading ≠ 0 → (∀ d < 4, (s.ctl none d).reported = true ∧ (s.ctl none d).fail = none) →
    s.loadSlot ≠ 2 →
    exec (.loadComplete cfg) s = .next (State.huddleCheck
      (let t := State.applyImage { s with ld.ctls := s.ld.ctls.filter (fun e => decide (4 ≤ e.1)), ld.repLoaded := s.loadSlot + 1 } cfg
       { t with pw.loadDone := true }))) ∧
  (∀ (cfg : ImageCfg) (s : State) (code : Nat), s.pw.mode = .load → s.ld.loading ≠ 0 → (∀ d < 4, (s.ctl none d).reported = true) →
    (s.ctl none 0).fail = some code → exec (.loadComplete cfg) s = .next (s.loadFail 0 code (s.ctl none 0).failAddr)) ∧
  (∀ (s : State) (die code addr : Nat), s.loadSlot ≠ 2 → s.ld.fellBack = false →
    s.loadFail die code addr = { s with ld.ctls := s.ld.ctls.filter (fun e => decide (4 ≤ e.1)), ld.loading := 0, ld.repDie := die,
                                        ld.repAddr := addr, ld.repPrimary := code, ld.fellBack := true }) ∧
  (∀ (s : State) (die code addr : Nat), s.loadSlot = 2 → (s.loadFail die code addr).pw.mode = .lockout) ∧
  (∀ (d : Die) (g : Word32) (s : State), (s.ctl none d).active = true → (s.ctl none d).reported = false → (s.ctl none d).fail = none →
    s.otherFailed none = false → (s.ctl none d).short = false → (s.ctl none d).len = 0 → (s.ctl none d).frames = 0 →
    (s.ctl none d).from d ≤ g.toNat → s.frameOf none d g.toNat = true →
    exec (.dieLoadDone d (some g)) s = .next (State.ctrlSend (State.setCtl (s.blankTo none d (g.toNat + 1) none).1 none d
      { s.ctl none d with reported := true, fail := some 0xFF, failAddr := g.toNat }) 6 d 0)) ∧
  (∀ (s : State) (r : Option Nat) (d hi a : Nat), d * 2 ^ 30 ≤ a → (s.ctl r d).lastAddr = none → a < hi → s.frameOf r d a = true →
    tget 0#4096 (s.blankTo r d hi none).1.ld.frames a = 0#4096)

/-- Writing the slots and the region library (R106–R111, R302, R478, R479). -/
def Obligations.StoreCommands : Prop :=
  (∀ (p : Port) (m : Mbox) (s : State), s.ready p m 0x110 → s.portTenant p = 0 → s.arg p m 0 1 = 1 → s.ld.slotWrite = none →
    512 ≤ s.arg p m 16 8 → s.arg p m 16 8 ≤ 0x40000000 →
    exec (.slotWrite p m) s = .next (State.answer
      { s.taken p m with ld.slotWrite := some ⟨s.inactiveSlot, 1, s.arg p m 8 8, s.arg p m 16 8, 0, []⟩ } (s.ctxOf p m)
      (.accepted ((s.ctxOf p m).op 0 [])))) ∧
  (∀ (p : Port) (m : Mbox) (s : State), s.ready p m 0x113 → s.portTenant p = 0 → (s.taken p m).fullAll p = true → s.arg p m 0 1 = 1 →
    s.ld.slotWrite = none → 512 ≤ s.arg p m 16 8 → s.arg p m 16 8 ≤ 0x8000000 →
    exec (.goldenWrite p m) s = .next (State.answer
      { s.taken p m with ld.slotWrite := some ⟨2, 1, s.arg p m 8 8, s.arg p m 16 8, 0, []⟩ } (s.ctxOf p m) (.accepted ((s.ctxOf p m).op 0 [])))) ∧
  (∀ (p : Port) (m : Mbox) (s : State) (w : SlotWrite), s.ready p m 0x111 → s.portTenant p = 0 → s.ld.slotWrite = some w → w.source = 1 →
    512 ≤ w.pos → w.buf = [] → s.libReading = false → s.arg p m 0 4 = w.pos → w.pos + ((s.mbox p m).payload.drop 8).length ≤ w.len →
    exec (.slotData p m) s = .next (State.reply { (s.taken p m).storePut (slotArea w.target) w.pos ((s.mbox p m).payload.drop 8) with
      ld.slotWrite := some { w with pos := w.pos + ((s.mbox p m).payload.drop 8).length } } p m 0 [])) ∧
  (∀ (p : Port) (m : Mbox) (s : State) (w : SlotWrite), s.ready p m 0x111 → s.portTenant p = 0 → s.ld.slotWrite = some w → w.source = 1 →
    512 ≤ w.pos → s.libReading = true → s.arg p m 0 4 = w.pos → w.pos + ((s.mbox p m).payload.drop 8).length ≤ w.len →
    exec (.slotData p m) s = .next (State.reply { s.taken p m with ld.slotWrite := some { w with
      pos := w.pos + ((s.mbox p m).payload.drop 8).length, buf := w.buf ++ (s.mbox p m).payload.drop 8 } } p m 0 [])) ∧
  (∀ (s : State) (w : SlotWrite) (errs : List (Die × Bool)), s.maltarRuns = true → s.libReading = false → s.ld.slotWrite = some w → w.source = 1 →
    w.target ≠ 2 → w.pos = w.len →
    exec (.slotWriteDone errs) s = .next
      (let t := State.storeErrsAt { s.storePut (slotArea w.target) (w.pos - w.buf.length) w.buf with ld.slotWrite := some { w with buf := [] } } errs
       (t.setSlot w.target (if t.verifyImage (slotArea w.target) w.len 1 (errs.any (·.2)) = 0 then 2 else 3)).slotEnd
         w.target (t.verifyImage (slotArea w.target) w.len 1 (errs.any (·.2))))) ∧
  (∀ (s : State) (w : SlotWrite) (errs : List (Die × Bool)), s.maltarRuns = true → s.libReading = false → s.ld.slotWrite = some w → w.source = 1 →
    w.target = 2 → w.pos = w.len →
    exec (.goldenWriteDone errs) s = .next
      (let t := State.storeErrsAt { s.storePut 1 (w.pos - w.buf.length) w.buf with ld.slotWrite := some { w with buf := [] } } errs
       (t.setSlot 2 (if t.verifyImage 1 w.len 2 (errs.any (·.2)) = 0 then 2 else 3)).slotEnd 2 (t.verifyImage 1 w.len 2 (errs.any (·.2))))) ∧
  (∀ (s : State) (w : SlotWrite) (errs : List (Die × Bool)), s.libReading = true → s.ld.slotWrite = some w →
    exec (.slotWriteDone errs) s = .next s ∧ exec (.goldenWriteDone errs) s = .next s) ∧
  (∀ (s : State) (area len target : Nat), s.verifyImage area len target true = 0x22) ∧
  (∀ (p : Port) (m : Mbox) (n : Fin 10) (s : State) (a b : Nat × Nat), s.ready p m 0x112 → s.portTenant p = 0 → s.ld.slotWrite = none →
    s.slotState (s.arg p m 0 1) = 2 → ptrRead s.ld.ptrP = some a → ptrRead s.ld.ptrQ = some b → n.val = 9 →
    exec (.slotActivate p m n) s = .next (State.reply
      (if a.1 < b.1 then { s.taken p m with ld.ptrP := ptrRecord ((b.1 + 1) % 2 ^ 32) (s.arg p m 0 1) }
       else { s.taken p m with ld.ptrQ := ptrRecord ((a.1 + 1) % 2 ^ 32) (s.arg p m 0 1) }) p m 0 [])) ∧
  (∀ seq slot : Nat, seq < 2 ^ 32 → slot < 2 → ptrRead (ptrRecord seq slot) = some (seq, slot)) ∧
  (∀ (p : Port) (m : Mbox) (s : State) (e : Nat) (d : List Byte), s.ready p m 0x108 → s.portTenant p = 0 → s.arg p m 0 1 = e → s.arg p m 1 1 = 0 →
    (s.mbox p m).payload.drop 8 = d → (s.taken p m).libBusy e = false → (s.lib e).state = 1 → s.arg p m 4 4 = (s.lib e).pos → 512 ≤ (s.lib e).pos →
    (s.lib e).pos + d.length ≤ (s.lib e).len →
    exec (.regionLibWrite p m) s = .next ((((s.taken p m).storePut (4 + e) (s.lib e).pos d).setLib e
      { s.lib e with state := 1, pos := (s.lib e).pos + d.length }).reply p m 0 [])) ∧
  (∀ (p : Port) (m : Mbox) (s : State) (x : LibEntry), s.ready p m 0x109 → s.lib (s.arg p m 0 1) = x → x.state ≠ 4 →
    exec (.libStatus p m) s = .next ((s.taken p m).reply p m 0
      (leBytes 1 x.state ++ leBytes 1 x.tenant ++ List.replicate 6 0#8 ++ leBytes 8 x.len))) ∧
  (∀ (e : Fin 256) (errs : List (Die × Bool)) (s : State), s.maltarRuns = true → (s.lib e).state = 4 →
    exec (.libraryVerifyDone e errs) s = .next ((s.storeErrsAt errs).setLib e { s.lib e with
      state := if (s.storeErrsAt errs).verifyImage (4 + e) (s.lib e).pos 3 (errs.any (·.2)) = 0 then 2 else 3 }))

/-- The router (R163, R164, R172, R181, R186–R188, R377): flits, credits, applied settings, links taken out of use. -/
def Obligations.RouterCommands : Prop :=
  (∀ (t : Tile) (p : Fin 15) (f : BitVec 288) (s : State), (seamBundle t p).isSome = true ∨ (8 ≤ p.val ∧ s.hasSpace t p f.toNat = false) →
    exec (.flitArrival t p f) s = .next s) ∧
  (∀ (t : Tile) (p : Fin 15) (f : BitVec 288) (s u : State), seamBundle t p = none → (8 ≤ p.val → s.hasSpace t p f.toNat = true) →
    s.popArriving t p f.toNat = u → bitAt (u.portsPresent t) p = true → bitAt (u.router t).shut p = true →
    exec (.flitArrival t p f) s =
      .next (State.freeCredit (u.setRouter t { u.router t with lost := (u.router t).lost + 1 }) t (8 * p + flitVc f.toNat))) ∧
  (∀ (t : Tile) (p : Fin 15) (f : BitVec 288) (s u : State), seamBundle t p = none → (8 ≤ p.val → s.hasSpace t p f.toNat = true) →
    s.popArriving t p f.toNat = u → bitAt (u.portsPresent t) p = true → bitAt (u.router t).shut p = false →
    (checkFlit (fun v => decide (tget 0 (u.router t).cur (8 * p + v) ≠ 0)) f.toNat).1 = .bad →
    exec (.flitArrival t p f) s = .next (u.inputFault t p)) ∧
  (∀ (t : Tile) (p : Fin 15) (f : BitVec 288) (s u : State), seamBundle t p = none → (8 ≤ p.val → s.hasSpace t p f.toNat = true) →
    s.popArriving t p f.toNat = u → bitAt (u.portsPresent t) p = true → bitAt (u.router t).shut p = false →
    checkFlit (fun v => decide (tget 0 (u.router t).cur (8 * p + v) ≠ 0)) f.toNat = (.clean, f.toNat) → flitHead f.toNat = true →
    (u.routeHead t p f.toNat).1 ≠ 15 →
    exec (.flitArrival t p f) s = .next (u.setRouter t (Router.put { u.router t with
      cur := tput 0 (u.router t).cur (8 * p + flitVc f.toNat)
        (if flitTail (u.routeHead t p f.toNat).2 then 0 else (u.routeHead t p f.toNat).1 + 1) } p (flitVc f.toNat)
      (withCheck (u.routeHead t p f.toNat).2) (u.routeHead t p f.toNat).1))) ∧
  (∀ (t : Tile) (p : Fin 15) (f : BitVec 288) (s u : State) (o : Nat), seamBundle t p = none → (8 ≤ p.val → s.hasSpace t p f.toNat = true) →
    s.popArriving t p f.toNat = u → bitAt (u.portsPresent t) p = true → bitAt (u.router t).shut p = false →
    checkFlit (fun v => decide (tget 0 (u.router t).cur (8 * p + v) ≠ 0)) f.toNat = (.clean, f.toNat) → flitHead f.toNat = false →
    flitTail f.toNat = false → tget 0 (u.router t).cur (8 * p + flitVc f.toNat) = o + 1 → o ≠ 15 →
    exec (.flitArrival t p f) s = .next (u.setRouter t ((u.router t).put p (flitVc f.toNat) f.toNat o))) ∧
  (∀ (t : Tile) (out : Fin 15) (s : State) (k v : Nat) (f : Flit) (rest : List Flit), s.portOn t out = true → k < 128 →
    s.grantable t out k = some v → (∀ x < 128, x ≠ k → s.grantable t out x = none) → tget [] (s.router t).bufs k = f :: rest → v / 2 = 3 →
    exec (.flitGrant t out) s = .next (State.sendFlit (State.freeCredit (s.setRouter t { s.router t with
      bufs := tput [] (s.router t).bufs k rest
      rr := tput 0 (s.router t).rr (4 * out + 3) ((k / 8 + 1) % 16)
      holder := tput 0 (s.router t).holder (8 * out + v) (if flitTail f.raw.toNat then 0 else k + 1)
      used := if 8 ≤ out.val then (s.router t).used
        else tput 0 (s.router t).used (8 * out + v) (tget 0 (s.router t).used (8 * out + v) + 1) }) t k)
      t out v (withCheck (setBits f.raw.toNat 285 283 v)))) ∧
  (∀ (t : Tile) (out : Fin 15) (s : State) (k v n : Nat) (f : Flit) (rest : List Flit), s.portOn t out = true → k < 128 →
    s.grantable t out k = some v → (∀ x < 128, x ≠ k → s.grantable t out x = none) → tget [] (s.router t).bufs k = f :: rest → v / 2 < 3 →
    tget 0 (s.router t).wrr (4 * out + v / 2) = n + 1 →
    exec (.flitGrant t out) s = .next (State.sendFlit (State.freeCredit (s.setRouter t { s.router t with
      bufs := tput [] (s.router t).bufs k rest
      rr := tput 0 (s.router t).rr (4 * out + v / 2) ((k / 8 + 1) % 16)
      wrr := tput 0 (s.router t).wrr (4 * out + v / 2) n
      holder := tput 0 (s.router t).holder (8 * out + v) (if flitTail f.raw.toNat then 0 else k + 1)
      used := if 8 ≤ out.val then (s.router t).used
        else tput 0 (s.router t).used (8 * out + v) (tget 0 (s.router t).used (8 * out + v) + 1) }) t k)
      t out v (withCheck (setBits f.raw.toNat 285 283 v)))) ∧
  (∀ (t : Tile) (p v : Fin 8) (s : State), tget 0 (s.router t).credit (8 * p + v) = 0 → exec (.creditReturn t p v) s = .next s) ∧
  (∀ (t : Tile) (p v : Fin 8) (s : State) (n : Nat), tget 0 (s.router t).credit (8 * p + v) = n + 1 →
    Tbl.wf (fun _ => Router.init) s.net.routers = true →
    exec (.creditReturn t p v) s = .next (s.setRouter t { s.router t with
      credit := tput 0 (s.router t).credit (8 * p + v) n
      used := tput 0 (s.router t).used (8 * p + v) (tget 0 (s.router t).used (8 * p + v) - 1) })) ∧
  (∀ (r : Req) (s : State) (t v : Nat), s.grantsWrite r .rtrApply t 0 v →
    exec (.rtrApply r) s = .next (State.respond (State.setF ((s.takeReq r).setRouter t { s.router t with
      applying := (s.router t).applying ||| (v % 2 ^ 15 &&& s.portsPresent t) }) F.rtrStatus_pending t 0
        ((s.router t).applying ||| (v % 2 ^ 15 &&& s.portsPresent t))) r svcOK [])) ∧
  (∀ (t : Tile) (p : Fin 15) (s : State), bitAt (s.router t).applying p = true → (s.router t).idleOut p = true →
    exec (.applyComplete t p) s = .next (s.takeShadow t p).resetsGo) ∧
  (∀ (t : Tile) (p : Fin 15) (s : State), bitAt (s.router t).applying p = true →
    exec (.applyCut t p) s = .next (((if s.shadowOn t p = true ∨ (s.router t).idleOut p = true then s else s.endOutput t p)).takeShadow t p).resetsGo) ∧
  (∀ (t : Tile) (dir : Fin 4) (s : State), s.maltarRuns = true → s.net.avoid.contains (linkId t dir) = true → s.noOld (linkId t dir) = true →
    exec (.linkDisable t dir false) s = .next (s.disableLink (linkId t dir))) ∧
  (∀ (t : Nat) (r : Router) (s : State), r ≠ Router.init → (s.setRouter t r).router t = r) ∧
  (∀ (t p v : Nat) (s : State), p < 8 → v < 8 → Tbl.wf (fun _ => Router.init) s.net.routers = true →
    Tbl.wf (fun _ => 0) (s.router t).used = true → t ≠ neighbor t (p % 4) →
    tget 0 ((s.resync t p).router t).used (8 * p + v) =
      ((s.router (neighbor t (p % 4))).q (farPort p) v).length + tget 0 (s.router t).credit (8 * p + v))

/-- The network interfaces and their responses (R31, R40, R165–R167, R175, R182, R184, R188, R535). The packets of R168, R169 and R174: what a head
flit carries is read back, and a payload arrives as it was sent. -/
def Obligations.NetworkInterface : Prop :=
  (∀ (t : Tile) (rid : Byte) (op : Fin 5) (a : NetAddr) (size : Fin 256) (rt : Bool) (data : List Byte) (join : Bool) (s u p : State) (r : Req),
    s.portRuns t .ni 0 = true → s.portEdge t .ni 0 join = u → u.preEdge = p → p.senseBit t .ni .rqoValid 0 true = true → p.rqoRoom t = true →
    (p.ni t).rqo = none → p.rqoReq t op a size rt = r → payloadLen r.op r.size ≤ 32 →
    exec (.rqoRequest t rid op a size rt data join) s = .next (State.rqoEnd (u.setNi t { u.ni t with rqo := none }) t
      (p.sense t .ni .rqoRid 8 rid.toNat) { r with data := p.beat t .rqoData (payloadLen r.op r.size) data })) ∧
  (∀ (t : Tile) (rid : Byte) (op : Fin 5) (a : NetAddr) (size : Fin 256) (rt : Bool) (data : List Byte) (join : Bool) (s u p : State) (r : Req),
    s.portRuns t .ni 0 = true → s.portEdge t .ni 0 join = u → u.preEdge = p → p.senseBit t .ni .rqoValid 0 true = true → p.rqoRoom t = true →
    (p.ni t).rqo = none → p.rqoReq t op a size rt = r → 32 < payloadLen r.op r.size →
    exec (.rqoRequest t rid op a size rt data join) s = .next (u.setNi t { u.ni t with
      rqo := some (p.sense t .ni .rqoRid 8 rid.toNat, r, p.beat t .rqoData (payloadLen r.op r.size) data) })) ∧
  (∀ (t id : Nat) (r : Req) (s : State), s.niShut t = true →
    s.rqoEnd t id r = s.setNi t { s.ni t with rsi := (s.ni t).rsi ++ [(id, svcFenced, [], false)] }) ∧
  (∀ (t id : Nat) (r : Req) (s : State) (code : Nat), s.niShut t = false →
    (s.decodeDst (niOf r.src / 256) r.addr = none ∧ code = svcAddress) ∨
      (∃ dst dport, s.decodeDst (niOf r.src / 256) r.addr = some (dst, dport) ∧ reqShape r.op r.addr r.size = false ∧ code = svcAddress) ∨
      (∃ dst dport, s.decodeDst (niOf r.src / 256) r.addr = some (dst, dport) ∧ reqShape r.op r.addr r.size = true ∧ s.routed r.src dst = false ∧
        code = svcUnroutable) →
    s.rqoEnd t id r = s.setNi t { s.ni t with rsi := (s.ni t).rsi ++ [(id, code, [], false)] }) ∧
  (∀ (t id dst dport : Nat) (r : Req) (s : State), s.niShut t = false → s.decodeDst (niOf r.src / 256) r.addr = some (dst, dport) →
    reqShape r.op r.addr r.size = true → s.routed r.src dst = true → s.hasTag r = true → s.rqoEnd t id r = s.sendReq (.fabric id) r dst dport) ∧
  (∀ (r : Resp) (late : Bool) (s : State), s.net.resps.contains r = true → s.holds r = false → s.findOut r.src r.sport r.tag r.gen = none →
    exec (.responseArrival r late) s = .next (State.count (s.takeResp r) F.niErrors_lateRsp (niOf r.src) 0 1)) ∧
  (∀ (r : Resp) (late : Bool) (s : State) (o : Outst), s.net.resps.contains r = true → s.holds r = false →
    s.findOut r.src r.sport r.tag r.gen = some o → r.crcOk = true →
    exec (.responseArrival r late) s = .next ((State.retire (s.takeResp r) o).finishReq o r.svc r.data r.poison late false)) ∧
  (∀ (r : Resp) (late : Bool) (s : State) (o : Outst), s.net.resps.contains r = true → s.holds r = true →
    s.findOut r.src r.sport r.tag r.gen = some o → s.isKept r.src r.tag r.gen = false →
    exec (.responseArrival r late) s = .next ((s.takeResp r).keep r)) ∧
  (∀ (src : Fin 1088) (sport : Fin 8) (tag : Fin 128) (gen : Fin 16) (late : Bool) (s : State) (o : Outst), s.findOut src sport tag gen = some o →
    s.holds ⟨src, sport, tag, gen, svcTimeout, [], false, true⟩ = false → s.isKept src tag gen = false →
    exec (.niTimeout src sport tag gen late) s =
      .next ((State.count (s.retire o) F.niErrors_timeouts (niOf o.req.src) 0 1).finishReq o svcTimeout [] false late true)) ∧
  (∀ (src : Fin 1088) (tag : Fin 128) (gen : Fin 16) (late : Bool) (s : State) (o : Outst), s.findOut src 0 tag gen = some o →
    s.pw.mode = .hold → src.val < 1024 → s.niSinks src = false → s.isKept src tag gen = false →
    exec (.niTimeout src 0 tag gen late) s =
      .next ((s.count F.niErrors_timeouts src 0 1).keep ⟨src, 0, tag, gen, svcTimeout, [], false, true⟩)) ∧
  (∀ (r : Req) (s : State) (g : Rg) (i j v : Nat), s.grantsWrite r g i j v → 0x7F0000000000 ≤ r.addr → r.addr < 0x800000000000 →
    exec (.registerWrite r) s = .next (State.respond ((s.takeReq r).writeReg r.rq g i j v) r svcOK [])) ∧
  (∀ (r : Req) (s : State) (t j v : Nat), s.grantsWrite r .routeCtl t j v → tget 0 (s.ni t).stageLo j = 0 → tget 0 (s.ni t).stageHi j = 0 →
    exec (.routeCtlWrite r) s = .next (State.respond (((s.takeReq r).putRoute t j (s.route t j).1 (s.route t j).2.1 (Rg.routeCtl.written 0 v)).setNi t
      { s.ni t with stageLo := tput 0 (s.ni t).stageLo j 0, stageHi := tput 0 (s.ni t).stageHi j 0 }) r svcOK [])) ∧
  (∀ (r : Req) (s : State) (t o tid : Nat), aperture r.addr = some (t, o) → 0x800000 ≤ o → s.net.reqs.contains r = true → r.crcOk = true →
    s.mayReach r.rq t = true → s.niFenced t = false → s.inHold = false → (s.tcfg t).tqiOn = true → freeTid (s.ni t).tqi = some tid →
    exec (.fabricWindowRequest r) s = .next ((s.takeReq r).setNi t { s.ni t with tqi := (s.ni t).tqi ++ [⟨tid, r, false, 0⟩] })) ∧
  (∀ (r : Req) (s : State) (t o : Nat), aperture r.addr = some (t, o) → 0x200000 ≤ o → o < 0x800000 → s.net.reqs.contains r = true → r.crcOk = true →
    exec (.fabricWindowRequest r) s = .next ((s.takeReq r).respond r svcAddress [])) ∧
  (∀ (t : Tile) (tid : Fin 32) (svc : Fin 11) (data : List Byte) (join : Bool) (s u p : State), s.portRuns t .ni 0 = true →
    s.portEdge t .ni 0 join = u → u.preEdge = p → p.senseBit t .ni .tsoValid 0 true = true → (p.ni t).tso = none →
    p.tsoLen t (p.sense t .ni .tsoTid 5 tid) ≤ 32 →
    exec (.tsoResponse t tid svc data join) s = .next (State.tsoEnd (u.setNi t { u.ni t with tso := none }) t (p.sense t .ni .tsoTid 5 tid)
      (p.tsoCode t svc) (p.beat t .tsoData (p.tsoLen t (p.sense t .ni .tsoTid 5 tid)) data))) ∧
  (∀ (t tid code : Nat) (data : List Byte) (s : State) (q : Tqi), (s.ni t).tqi.find? (fun q => q.tid = tid) = some q →
    s.tsoEnd t tid code data = (s.setNi t { s.ni t with tqi := (s.ni t).tqi.erase q }).respond q.req code (respData q.req data)) ∧
  (∀ (t tid code : Nat) (data : List Byte) (s : State), (s.ni t).tqi.find? (fun q => q.tid = tid) = none →
    s.tsoEnd t tid code data = s.count F.niErrors_badTid t 0 1) ∧
  (∀ (h : Header) (vc : Nat) (data : List Byte), h.codes < 2 ^ 64 → h.start < 8 → h.hop < 64 → h.op < 16 → h.svc < 16 → h.tenant < 8 → h.mclass < 8 →
    h.sport < 8 → h.dport < 8 → h.src < 2048 → h.dst < 2048 → h.tag < 64 → h.gen < 16 → h.size < 256 → h.addr < 2 ^ 48 → vc < 8 → data.length ≤ 256 →
    headerOf ((mkPacket h vc data).headD 0).toNat =
      { h with length := ceilDiv data.length 32, crc := if ceilDiv data.length 32 = 0 then 0 else crc32 data } ∧
    flitVc ((mkPacket h vc data).headD 0).toNat = vc) ∧
  (∀ (h : Header) (vc : Nat) (data : List Byte), vc < 8 → data.length ≤ 256 →
    slice 0#8 (flitBytes (((mkPacket h vc data).drop 1).map BitVec.toNat)) 0 data.length = data)

/-- A request that R31 refuses (R31 steps 1 to 3): its service code is answered and nothing else changes. -/
def Obligations.RefusedRegisterAccess : Prop :=
  (∀ (r : Req) (s : State), s.net.reqs.contains r = true → r.crcOk = true → 0x7F0000000000 ≤ r.addr → r.addr < 0x800000000000 →
    regsAt r.addr r.size = none → exec (.registerWrite r) s = .next ((s.takeReq r).respond r svcAddress [])) ∧
  (∀ (r : Req) (s : State) (g : Rg) (i j : Nat), s.net.reqs.contains r = true → r.crcOk = true → 0x7F0000000000 ≤ r.addr →
    r.addr < 0x800000000000 → regsAt r.addr r.size = some [(g, i, j)] → g.perPath = false → r.op = .write →
    (s.takeReq r).regRight r.rq true g i j (leAt r.data 0 4) = false →
    exec (.registerWrite r) s = .next ((s.takeReq r).respond r svcDenied [])) ∧
  (∀ (r : Req) (s : State) (g : Rg) (i j : Nat), s.net.reqs.contains r = true → r.crcOk = true → 0x7F0000000000 ≤ r.addr →
    r.addr < 0x800000000000 → regsAt r.addr r.size = some [(g, i, j)] → g.perPath = false → g.info.blk = .tile → 0x8000 ≤ g.info.off →
    (s.takeReq r).niFenced i = true →
    r.op = .write → (s.takeReq r).regRight r.rq true g i j (leAt r.data 0 4) = true →
    exec (.registerWrite r) s = .next ((s.takeReq r).respond r svcFenced [])) ∧
  (∀ (r : Req) (s : State), s.net.reqs.contains r = true → r.crcOk = false → 0x7F0000000000 ≤ r.addr → r.addr < 0x800000000000 →
    exec (.registerWrite r) s = .next (State.respond (State.count (s.takeReq r) F.niErrors_crcFails (niOf r.dst) 0 1) r svcPoisoned []))

/-- The fabric ports of the packet queues (R196–R206): words, abort, pop, visibility, freed space. The network registers of the packet queues (R53,
R198, R200, R205, R206). -/
def Obligations.QueueAccess : Prop :=
  (∀ (t : Tile) (n : QNum) (data : Word64) (last poison join : Bool) (s u p : State) (k v : Nat) (b : Bool), k = 4 * t.val + n.val → s.qProd k = 1 →
    s.qOn k = true → s.portRuns t (.queue n) 0 = true → s.portEdge t (.queue n) 0 join = u → u.preEdge = p → 0 < (p.pq k).space → 0 < (u.pq k).space →
    p.senseBit t (.queue n) .pvalid 0 true = true → p.senseBit t (.queue n) .pabort 0 false = false →
    p.senseBit t (.queue n) .plast 0 last = true → p.sense t (.queue n) .pdata 64 data.toNat = v → p.senseBit t (.queue n) .ppoison 0 poison = b →
    exec (.fabricPush t n data last poison join) s = .next (u.setPQ k { u.pq k with
      unc := [], transit := (u.pq k).transit ++ [(u.pq k).unc ++ [mkWord v true b (u.pq k).flip]], flip := false })) ∧
  (∀ (t : Tile) (n : QNum) (data : Word64) (last poison join : Bool) (s u p : State) (k v : Nat) (b : Bool), k = 4 * t.val + n.val → s.qProd k = 1 →
    s.qOn k = true → s.portRuns t (.queue n) 0 = true → s.portEdge t (.queue n) 0 join = u → u.preEdge = p → 0 < (p.pq k).space → 0 < (u.pq k).space →
    p.senseBit t (.queue n) .pvalid 0 true = true → p.senseBit t (.queue n) .pabort 0 false = false →
    p.senseBit t (.queue n) .plast 0 last = false → p.sense t (.queue n) .pdata 64 data.toNat = v → p.senseBit t (.queue n) .ppoison 0 poison = b →
    (u.pq k).unc.length < 1023 →
    exec (.fabricPush t n data last poison join) s = .next (u.setPQ k { u.pq k with
      unc := (u.pq k).unc ++ [mkWord v false b (u.pq k).flip], flip := false })) ∧
  (∀ (t : Tile) (n : QNum) (data : Word64) (last poison join : Bool) (s : State) (k : Nat), k = 4 * t.val + n.val →
    s.qProd k ≠ 1 ∨ s.qOn k = false ∨ s.portRuns t (.queue n) 0 = false →
    exec (.fabricPush t n data last poison join) s = .next s) ∧
  (∀ (t : Tile) (n : QNum) (data : Word64) (last poison join : Bool) (s u p : State) (k : Nat), k = 4 * t.val + n.val → s.qProd k = 1 → s.qOn k = true →
    s.portRuns t (.queue n) 0 = true → s.portEdge t (.queue n) 0 join = u → u.preEdge = p → p.senseBit t (.queue n) .pvalid 0 true = true →
    p.senseBit t (.queue n) .pabort 0 false = true → (u.pq k).unc ≠ [] →
    exec (.fabricPush t n data last poison join) s = .next (State.count (u.setPQ k { u.pq k with unc := [] }) F.qErrors_aborts (k / 4) (k % 4) 1)) ∧
  (∀ (t : Tile) (n : QNum) (join : Bool) (s u : State) (k : Nat), k = 4 * t.val + n.val → s.qProd k = 1 → s.qOn k = true →
    s.portRuns t (.queue n) 0 = true → s.portEdge t (.queue n) 0 join = u → u.preEdge.senseBit t (.queue n) .pabort 0 true = true →
    (u.pq k).unc ≠ [] →
    exec (.pabort t n join) s = .next (State.count (u.setPQ k { u.pq k with unc := [] }) F.qErrors_aborts (k / 4) (k % 4) 1)) ∧
  (∀ (t : Tile) (n : QNum) (join : Bool) (s u : State) (k : Nat) (w : QWord) (l : List QWord), k = 4 * t.val + n.val → s.qCons k = 1 →
    s.portRuns t (.queue n) 1 = true → s.portEdge t (.queue n) 1 join = u → u.preEdge.senseBit t (.queue n) .cread 0 true = true →
    (u.pq k).vis = w :: l → w.deliver.2 = false → exec (.fabricPop t n join) s = .next (u.setPQ k { u.pq k with
      vis := l, freed := (u.pq k).freed + 1, last := w.deliver.1, cunder := false, rd := ((u.pq k).rd + 1) % 1024 })) ∧
  (∀ (t : Tile) (n : QNum) (join : Bool) (s u : State) (k : Nat), k = 4 * t.val + n.val → s.qCons k = 1 → s.portRuns t (.queue n) 1 = true →
    s.portEdge t (.queue n) 1 join = u → u.preEdge.senseBit t (.queue n) .cread 0 true = true → (u.pq k).vis = [] →
    exec (.fabricPop t n join) s = .next (State.setF (u.setPQ k { u.pq k with cunder := true }) F.qStatus_underrun (k / 4) (k % 4) 1)) ∧
  (∀ (t : Tile) (n : QNum) (s : State) (k : Nat) (w : List QWord) (l : List (List QWord)), k = 4 * t.val + n.val → (s.pq k).transit = w :: l →
    exec (.commitVisible t n) s = .next
      (if s.qCons k = 1 then s.setPQ k { s.pq k with vis := (s.pq k).vis ++ w, transit := l, notices := (s.pq k).notices + 1 }
       else State.qNotice (s.setPQ k { s.pq k with vis := (s.pq k).vis ++ w, transit := l }) k)) ∧
  (∀ (s : State) (k : Nat), Tbl.wf (fun _ => PQ.init) s.pqs = true → (s.qCut k).pq k = { s.pq k with transit := [] }) ∧
  (∀ (t : Tile) (n : QNum) (s : State),
    exec (.wordsFreed t n) s = .next (s.setPQ (4 * t.val + n.val) { s.pq (4 * t.val + n.val) with freed := 0 })) ∧
  (∀ (r : Req) (s : State) (t n k v : Nat), s.grantsWrite r .qPushLo t n v → k = 4 * t + n → s.qProd k = 3 → s.qOn k = true →
    exec (.qPushLo r) s = .next (((s.takeReq r).setPQ k { s.pq k with stLo := v }).respond r svcOK [])) ∧
  (∀ (r : Req) (s : State) (t n k v : Nat), s.grantsWrite r .qPushLastLo t n v → k = 4 * t + n → s.qProd k = 3 → s.qOn k = true →
    exec (.qPushLastLo r) s = .next (((s.takeReq r).setPQ k { s.pq k with stLastLo := v }).respond r svcOK [])) ∧
  (∀ (r : Req) (s : State) (t n k v : Nat), s.grantsWrite r .qPushHi t n v → k = 4 * t + n → s.qProd k = 3 → s.qOn k = true → (s.pq k).space ≠ 0 →
    exec (.qPushHi r) s = .next (((s.takeReq r).qWrite k ((s.pq k).stLo + 2 ^ 32 * v) false false).respond r svcOK [])) ∧
  (∀ (r : Req) (s : State) (t n k v : Nat), s.grantsWrite r .qPushLastHi t n v → k = 4 * t + n → s.qProd k = 3 → s.qOn k = true →
    (s.pq k).space ≠ 0 →
    exec (.qPushLastHi r) s = .next (((s.takeReq r).qWrite k ((s.pq k).stLastLo + 2 ^ 32 * v) true false).respond r svcOK [])) ∧
  (∀ (r : Req) (s : State) (t n k v : Nat), s.grantsWrite r .qPushAbort t n v → k = 4 * t + n → s.qProd k = 3 → s.qOn k = true → v % 2 = 1 →
    exec (.qPushAbort r) s = .next (((s.takeReq r).qAbort k).respond r svcOK [])) ∧
  (∀ (r : Req) (s : State) (t n k : Nat) (w : QWord) (l : List QWord), s.grantsRead r .qPopLo t n → k = 4 * t + n → s.qCons k = 3 →
    (s.pq k).vis = w :: l → w.deliver.2 = false →
    exec (.qPopLo r) s = .next (State.respond ((((s.takeReq r).setPQ k { s.pq k with
        vis := l, freed := (s.pq k).freed + 1, last := w.deliver.1, cunder := false, rd := ((s.pq k).rd + 1) % 1024 }).setReg .qPopHi (k / 4) (k % 4)
          (w.deliver.1.data / 2 ^ 32)).setReg .qPopFlags (k / 4) (k % 4) (2 * b2n w.deliver.1.last + b2n w.deliver.1.p0))
      r svcOK (leBytes 4 (w.deliver.1.data % 2 ^ 32)))) ∧
  (∀ (r : Req) (s : State) (t n v : Nat), s.grantsWrite r .qCtl t n v → bitAt v 30 = true →
    exec (.qFlush r) s = .next (((s.takeReq r).writeQCtl (4 * t + n) v).respond r svcOK [])) ∧
  (∀ (r : Req) (s : State) (t n v : Nat), s.grantsWrite r .qCtl t n v →
    exec (.qCtlEnable r) s = .next (((s.takeReq r).writeQCtl (4 * t + n) v).respond r svcOK [])) ∧
  (∀ (s : State) (t n v : Nat), n < 4 → bitAt v 30 = false → bitAt v 31 = true →
    s.writeQCtl (4 * t + n) v = s.setReg .qCtl t n (Rg.qCtl.written (s.reg .qCtl t n) v)) ∧
  (∀ (s : State) (t n v : Nat), n < 4 → bitAt v 30 = true → bitAt v 31 = true →
    s.writeQCtl (4 * t + n) v = (s.setPQ (4 * t + n) { s.pq (4 * t + n) with
      vis := [], freed := (s.pq (4 * t + n)).freed + (s.pq (4 * t + n)).vis.length,
      rd := ((s.pq (4 * t + n)).rd + (s.pq (4 * t + n)).vis.length) % 1024 }).setReg .qCtl t n (Rg.qCtl.written (s.reg .qCtl t n) v))

/-- Event lines (R67, R79, R208–R211): a pulse from the owner waits for the sinks of its die and leaves for the others by the ports whose control
bundle pair is up; one from another tenant is dropped and counted; the oldest are delivered. -/
def Obligations.EventLines : Prop :=
  (∀ (r : Req) (s : State) (w v : Nat), s.grantsWrite r .evRaise 0 w v →
    exec (.evRaise r) s = .next (State.respond (((List.range 32).filter (fun i => bitAt v i)).foldl
      (fun s i => s.raiseEv 0 r.rq.tenant (32 * w + i)) (s.takeReq r)) r svcOK [])) ∧
  (∀ (t : Tile) (n : Fin 8) (join : Bool) (s u : State) (l : Nat), (s.tcfg t).raise.getD n 256 = l → l < 256 → s.portRuns t .events n = true →
    s.portEdge t .events n join = u → u.preEdge.senseBit t .events .raise n true = true →
    u.lineOwner l = u.tileTenant t → u.cutOff (t / 256) = true → u.pw.mode ≠ .run →
    exec (.fabricRaise t n join) s = .next { u with evs.waiting := u.evs.waiting ++ [t / 256 * 256 + l] }) ∧
  (∀ (t : Tile) (n : Fin 8) (join : Bool) (s u : State) (l : Nat), (s.tcfg t).raise.getD n 256 = l → l < 256 → s.portRuns t .events n = true →
    s.portEdge t .events n join = u → u.preEdge.senseBit t .events .raise n true = true →
    u.lineOwner l = u.tileTenant t → u.ctrlRing = true → Tbl.wf (fun _ => Bundle.init) u.seams.bundles = true →
    ∃ v, exec (.fabricRaise t n join) s = .next v ∧ v.evs.waiting = u.evs.waiting ++ [t / 256 * 256 + l] ∧ v.regs = u.regs ∧
      (u.evPorts (t / 256) none = [0, 1]) ∧
      (∀ p, p < 2 → v.bundle (bkey (t / 256) p 0x80) =
        ((u.bundle (bkey (t / 256) p 0x80)).enqueue 4 (2 ^ l)).pump (u.farMap (across (t / 256) p) p 0x80))) ∧
  (∀ (t : Tile) (n : Fin 8) (join : Bool) (s u : State) (l : Nat), (s.tcfg t).raise.getD n 256 = l → l < 256 → s.portRuns t .events n = true →
    s.portEdge t .events n join = u → u.preEdge.senseBit t .events .raise n true = true →
    u.lineOwner l ≠ u.tileTenant t → exec (.fabricRaise t n join) s = .next (u.count F.evErrors_refused 0 0 1)) ∧
  (∀ (t : Tile) (n : Fin 8) (join : Bool) (s : State), s.portRuns t .events n = false → exec (.fabricRaise t n join) s = .next s) ∧
  (∀ (s : State) (d e : Nat), s.regsWf = true → s.pw.mode = .run → d < 4 → s.cutOff d = false → e < 4 → (∀ x < 4, s.cutOff x = true ↔ x = e) →
    s.evLost d = (s.count F.seamCounts_eventsLost (across e 0) 0 1).count F.seamCounts_eventsLost (across e 1) 0 1) ∧
  (∀ (s : State), exec (.eventDelivery 0) s = .next s) ∧
  (∀ (s : State) (x : Nat) (w : List Nat), s.evs.waiting = x :: w →
    exec (.eventDelivery 1) s = .next (State.pulse { s with evs.waiting := w } (x / 256) (x % 256))) ∧
  (∀ (s : State) (d l : Nat) (w : List Nat), d ≠ 0 → l < 256 → s.evs.waiting = (d * 256 + l) :: (d * 256 + l) :: w →
    exec (.eventDelivery 2) s = .next (State.pulse { s with evs.waiting := w } d l)) ∧
  (∀ (s : State) (l : Nat) (w : List Nat), l < 256 → s.evs.waiting = l :: l :: w →
    exec (.eventDelivery 2) s = .next (State.pulse (State.count { s with evs.waiting := w } F.evErrors_merged 0 0 1) 0 l)) ∧
  (∀ (t : Tile) (k : Fin 4) (join : Bool) (s u : State), s.portRuns t .events (16 + k) = true → s.portEdge t .events (16 + k) join = u →
    u.preEdge.senseBit t .events .evclr k true = true →
    exec (.evclr t k join) s = .next { u with evs.evcnt := tput 0 u.evs.evcnt (4 * t.val + k.val) 0 }) ∧
  (∀ (t : Tile) (k : Fin 4) (join : Bool) (s : State), s.portRuns t .events (16 + k) = false → exec (.evclr t k join) s = .next s)

/-- Settings (R488, R497, R500, R538). -/
def Obligations.SettingsCommands : Prop :=
  (∀ (c0 c1 : List Byte) (holdGood : Bool) (s : State), s.pw.mode = .boot → s.pw.step = 3 →
    ∃ t, exec (.settingsRead true c0 c1 holdGood) s = .next t ∧ t.pw.mode = .load ∧ t.pw.step = 4 ∧ t.sett.missing = true ∧ t.sett.recs = [] ∧
      t.sett.staged = [] ∧ ⟨255, 1⟩ ∈ t.hosts.alarms ∧ t.ld.store = s.ld.store ∧ t.pending = s.pending) ∧
  (∀ (p : Port) (m : Mbox) (s : State) (t n : Nat), s.ready p m 0x700 → s.arg p m 0 2 = t → s.arg p m 2 2 = n → inCatalogue t n = true →
    s.portTenant p = 0 → s.arg p m 4 1 = 0 → exec (.settingsGet p m) s =
      .next ((s.taken p m).reply p m 0 (leBytes 2 (s.setting t n).length ++ List.replicate 6 0#8 ++ s.setting t n))) ∧
  (∀ (p : Port) (m : Mbox) (s : State) (t n : Nat) (v : List Byte), s.ready p m 0x701 → s.arg p m 0 2 = t → s.arg p m 2 2 = n →
    (s.mbox p m).payload.drop 8 = v → inCatalogue t n = true → s.portTenant p = 0 → recOk (mergeRecs s.sett.recs s.sett.staged) t n v = true →
    copyBytes (mergeRecs s.sett.raw (stage s.sett.staged t n (some v))) ≤ 65520 →
    exec (.settingsPut p m) s = .next ({ s.taken p m with sett.staged := stage s.sett.staged t n (some v) }.reply p m 0 [])) ∧
  (∀ (p : Port) (m : Mbox) (s : State) (t n : Nat), s.ready p m 0x702 → s.arg p m 0 2 = t → s.arg p m 2 2 = n → inCatalogue t n = true →
    s.portTenant p = 0 → exec (.settingsDelete p m) s =
      .next ({ s.taken p m with sett.staged := stage s.sett.staged t n none }.reply p m 0 [])) ∧
  (∀ (p : Port) (m : Mbox) (s : State), s.ready p m 0x703 → s.portTenant p = 0 → s.sett.missing = false → s.sett.commit = none →
    exec (.settingsCommit p m) s = .next (State.answer { s.taken p m with sett.commit := some s.merged } (s.ctxOf p m)
      (.accepted ((s.ctxOf p m).op 0 [])))) ∧
  (∀ (p : Port) (m : Mbox) (s : State), s.ready p m 0x704 → s.portTenant p = 0 →
    exec (.settingsDiscard p m) s = .next ({ s.taken p m with sett.staged := [] }.reply p m 0 [])) ∧
  (∀ (s : State) (l : List SRec), s.sett.commit = some l →
    exec (.settingsCommitDone false) s = .next (State.finishOps { s with sett.commit := none } 0 [0x703] 0xFF 0 0 [])) ∧
  (∀ (s : State) (l : List SRec) (a : Nat), s.sett.commit = some l → s.sett.area = some a →
    exec (.settingsCommitDone true) s = .next (State.finishOps ((newlyIgnored s.sett.raw l).foldl
      (fun s r => s.alarm 255 0x03 (r.inst * 65536 + r.type * 2 ^ 32) 0 (srcOf .devctl 0)) (State.viewUpdate (State.applyIst { s with
        sett := { s.sett with
          commit := none, area := some (1 - a), seq := (s.sett.seq + 1) % 2 ^ 32, recs := accepted l, raw := l,
          staged := s.sett.staged.filter (fun q => decide (findRec l q.1 q.2.1 ≠ q.2.2)) } }))) 0 [0x703] 0 0 0 []))

/-- The link sequencer of a lane (R390–R393, R395, R403): what each of its events does in the state that heeds it. The detectors of a lane (R393, R403):
in OFF they stay as they are; a change of state returns an ACTIVE lane to DETECT. -/
def Obligations.LaneEvents : Prop :=
  (∀ (l : Lane) (found : Bool) (s : State), s.lnSt l = 1 →
    exec (.receiverDetect l found) s = .next (s.setLane l { s.lane l with txOn := (s.lane l).txOn || found })) ∧
  (∀ (l : Lane) (s : State), s.lnSt l = 1 → 1 ≤ (s.lane l).mode → (s.lane l).mode ≤ 5 → s.lnOn F.lnState_los l = false →
    exec (.losClearHeld l) s = .next (s.enterTrain l (s.lane l).mode 0)) ∧
  (∀ (l : Lane) (s : State), s.lnSt l = 1 → ownMode (s.lane l).mode = true → (s.lane l).entries ≠ [] → (s.lane l).held = none →
    exec (.huntDwellEnd l true) s = .next (State.setLnF (s.setLane l { s.lane l with
      first := true, held := some (s.lane l).rxEntry, txEntry := (s.lane l).rxEntry }) F.lnState_hunt l (s.lane l).rxEntry)) ∧
  (∀ (l : Lane) (s : State), s.lnSt l = 1 → ownMode (s.lane l).mode = true → (s.lane l).entries ≠ [] → (s.lane l).held = none →
    exec (.huntDwellEnd l false) s = .next (s.tryEntry l ((s.lane l).nextEntry (s.lane l).rxEntry))) ∧
  (∀ (l : Lane) (s : State), s.lnSt l = 1 → ownMode (s.lane l).mode = true → (s.lane l).first = false →
    exec (.huntTxStep l) s = .next (s.setLane l { s.lane l with txEntry := (s.lane l).nextEntry (s.lane l).txEntry })) ∧
  (∀ (l : Lane) (mode : Fin 16) (fec : Fin 3) (s : State), s.lnSt l = 1 → (s.lane l).mode = 6 →
    anResolves (s.lnF F.lnAn_abil l) (l.val % 4) mode fec = true → mode.val ≠ 3 →
    exec (.anComplete l mode fec) s = .next ((s.useRate l (stdRate mode)).enterTrain l mode fec)) ∧
  (∀ (l : Lane) (mode : Fin 16) (fec : Fin 3) (s : State), s.lnSt l = 1 → (s.lane l).mode = 6 →
    anResolves (s.lnF F.lnAn_abil l) (l.val % 4) mode fec = true → mode.val = 3 → (∀ n, 1 ≤ n → n ≤ 3 → (s.lane (l.val + n)).mode ≠ 6) →
    exec (.anComplete l mode fec) s = .next ((s.useRate l 3125000000).enterTrain l 3 fec)) ∧
  (∀ (a lane mode fec : Nat), bitAt a 4 = false → bitAt a 5 = false → bitAt a 6 = false → bitAt a 7 = false → bitAt a 8 = false →
    anResolves a lane mode fec = false) ∧
  (∀ (l : Lane) (mode : Fin 16) (fec : Fin 3) (s : State), anResolves (s.lnF F.lnAn_abil l) (l.val % 4) mode fec = false →
    exec (.anComplete l mode fec) s = .next s) ∧
  (∀ (l : Lane) (steps : List (Fin 3 × Bool)) (s : State), s.lnSt l = 2 → s.lnF F.lnState_link l ≠ 4 → s.lnF F.lnState_link l ≠ 5 →
    exec (.linkTrainingDone l steps) s = .next (s.setLnSt l 3)) ∧
  (∀ (l : Lane) (steps : List (Fin 3 × Bool)) (s : State), s.lnSt l = 2 → s.lnF F.lnState_link l = 4 ∨ s.lnF F.lnState_link l = 5 →
    exec (.linkTrainingDone l steps) s = .next ((s.setLn .lnTxeq l (steps.foldl stepTap (s.ln .lnTxeq l))).setLnSt l 3)) ∧
  (∀ (w : Nat) (q : Fin 3 × Bool), bits w 19 16 + bits w 5 0 + bits w 12 8 ≤ 63 → 16 ≤ bits w 5 0 →
    bits (stepTap w q) 19 16 + bits (stepTap w q) 5 0 + bits (stepTap w q) 12 8 ≤ 63 ∧ 16 ≤ bits (stepTap w q) 5 0) ∧
  (∀ (l : Lane) (s : State), s.lnSt l = 2 → s.lnF F.lnState_link l = 5 → exec (.trainingTimeout l) s = .next (s.enterDetect l)) ∧
  (∀ (l : Lane) (s : State), s.lnSt l = 3 → s.lnOn F.lnState_lol l = false → exec (.lockAcquired l) s = .next (s.enterExchange l)) ∧
  (∀ (l : Lane) (s : State), s.lnSt l = 3 → exec (.lockTimeout l) s = .next (s.enterDetect l)) ∧
  (∀ (l : Lane) (s : State), s.lnSt l = 4 → exec (.exchangeTimeout l) s = .next (s.enterDetect l)) ∧
  (∀ (l : Lane) (s : State), s.lnSt l = 4 → s.lnF F.lnState_link l = 2 → exec (.sgmiiAnComplete l) s = .next (s.enterActive l)) ∧
  (∀ (l : Lane) (s : State), s.lnSt l = 5 → (s.lane l).mode ≠ 8 → exec (.hiBer l) s = .next (s.dropLane l)) ∧
  (∀ (l : Lane) (w0 w1 w2 w3 : Word64) (s : State), s.lnSt l = 4 → ownMode (s.lane l).mode = true →
    capOk w0.toNat w1.toNat w2.toNat w3.toNat = false →
    exec (.capabilityBlock l w0 w1 w2 w3) s = .next (s.setLane l { s.lane l with valid := 0 })) ∧
  (∀ (l : Lane) (w0 w1 w2 w3 : Word64) (s t u : State), s.lnSt l = 4 → ownMode (s.lane l).mode = true →
    capOk w0.toNat w1.toNat w2.toNat w3.toNat = true →
    (s.setLn .lnPartnerLo l (w1.toNat % 2 ^ 32)).setLn .lnPartnerHi l (w1.toNat / 2 ^ 32) = t →
    t.setLane l { s.lane l with w2 := w1.toNat, valid := if w2.toNat = t.w1 l then (s.lane l).valid + 1 else 0 } = u →
    exec (.capabilityBlock l w0 w1 w2 w3) s = .next
      (if bits w1.toNat 55 24 ≠ bits (t.w1 l) 55 24 then (u.setLnF F.lnState_mismatch l 1).enterDetect l
       else if w2.toNat = t.w1 l ∧ 2 ≤ (s.lane l).valid then u.enterActive l else u)) ∧
  (∀ (l : Lane) (w0 w1 w2 w3 : Word64) (s : State), s.lnSt l ≠ 4 ∨ ownMode (s.lane l).mode = false →
    exec (.capabilityBlock l w0 w1 w2 w3) s = .next s) ∧
  (∀ (l : Lane) (s : State), s.regsWf = true → s.lnSt l ≠ 0 → s.lnSt l ≠ 5 → exec (.losAssert l) s = .next (s.setLos l true)) ∧
  (∀ (l : Lane) (s : State), s.lnSt l ≠ 0 → exec (.losDeassert l) s = .next (s.setLos l false)) ∧
  (∀ (l : Lane) (s : State), s.regsWf = true → s.lnSt l ≠ 0 → s.lnSt l ≠ 5 → exec (.lolAssert l) s = .next (s.setLol l true)) ∧
  (∀ (l : Lane) (s : State), s.lnSt l ≠ 0 → exec (.lolDeassert l) s = .next (s.setLol l false)) ∧
  (∀ (l : Lane) (s : State), s.lnSt l = 0 → exec (.losAssert l) s = .next s ∧ exec (.losDeassert l) s = .next s ∧
    exec (.lolAssert l) s = .next s ∧ exec (.lolDeassert l) s = .next s) ∧
  (∀ (l : Lane) (b : Bool) (s : State), s.lnOn F.lnState_los l = !b → b = false →
    s.setLos l b = (s.setLnF F.lnState_los l 0).lnEv l) ∧
  (∀ (l : Lane) (b : Bool) (s : State), s.lnOn F.lnState_los l = b → s.setLos l b = s)

/-- Writes of the registers of lanes and quads by their owner (R53, R391, R393, R399, R405, R406). The lane commands (R53, R393, R405, R407, R484): the
quad's tenant alone may use them. -/
def Obligations.LaneControl : Prop :=
  (∀ (r : Req) (s : State) (q n v : Nat), s.grantsWrite r .lnCtl q n v → bitAt v 30 = true → bitAt v 31 = true →
    exec (.lnRestart r) s = .next (((State.setLn (s.takeReq r) .lnCtl (4 * q + n)
      (Rg.lnCtl.written (s.ln .lnCtl (4 * q + n)) v)).restartLane (4 * q + n)).respond r svcOK [])) ∧
  (∀ (r : Req) (s : State) (q n v : Nat), s.grantsWrite r .lnCtl q n v → bitAt v 31 = false →
    exec (.lnCtlEnable r) s = .next (((State.setLn (s.takeReq r) .lnCtl (4 * q + n)
      (Rg.lnCtl.written (s.ln .lnCtl (4 * q + n)) v)).disableLane (4 * q + n)).respond r svcOK [])) ∧
  (∀ (r : Req) (s : State) (q v : Nat), s.grantsWrite r .quadCtl q 0 v → s.quadOff q = false → bitAt v 31 = false →
    exec (.quadCtlEnable r) s = .next (((s.takeReq r).disableQuad q).respond r svcOK [])) ∧
  (∀ (r : Req) (s : State) (q n v : Nat), s.grantsWrite r .lnTest q n v →
    exec (.patternTestEnable r) s = .next (((s.takeReq r).writeLnTest (4 * q + n) v).respond r svcOK [])) ∧
  (∀ (r : Req) (s : State) (q n v : Nat), s.grantsWrite r .lnTest q n v → bitAt v 24 = true →
    exec (.inject r) s = .next (((s.takeReq r).writeLnTest (4 * q + n) v).respond r svcOK [])) ∧
  (∀ (r : Req) (s : State) (q n v : Nat), s.grantsWrite r .lnTest q n v → bitAt v 23 = true →
    exec (.burst r) s = .next (((s.takeReq r).writeLnTest (4 * q + n) v).respond r svcOK [])) ∧
  (∀ (r : Req) (s : State) (q n : Nat), n < 4 → s.grantsRead r .lnTxstampNs q n → (s.lane (4 * q + n)).stamps = [] →
    exec (.lnTxstampNs r) s = .next (((s.takeReq r).setLnF F.lnTxstampStatus_valid (4 * q + n) 0).respond r svcOK (leBytes 4 0))) ∧
  (∀ (p : Port) (m : Mbox) (s : State) (l n : Nat), s.ready p m 0x400 → s.arg p m 0 1 = 0 → s.arg p m 1 1 = l → s.arg p m 2 1 = 0 →
    s.arg p m 4 2 = n → n < 256 → (s.mbox p m).payload.length = 8 → s.setting 0x0030 n ≠ [] → profileOk (s.setting 0x0030 n) = true →
    s.portTenant p = s.quadTenant (l / 4) → profMode (s.setting 0x0030 n) ≠ 9 →
    exec (.laneApply p m) s = .next (((s.taken p m).applyLanes (l / 4) [l % 4] (s.setting 0x0030 n)).reply p m 0 [])) ∧
  (∀ (p : Port) (m : Mbox) (s : State) (l : Nat), s.ready p m 0x401 → s.arg p m 0 1 = l → s.portTenant p = s.quadTenant (l / 4) →
    exec (.laneStatus p m) s = .next ((s.taken p m).reply p m 0 (([Rg.lnState, .lnPartnerLo, .lnPartnerHi, .lnRxCounts, .lnTxCounts, .lnRmCounts,
      .lnFecCounts].map (fun r => leBytes 4 (s.ln r l))).flatten))) ∧
  (∀ (p : Port) (m : Mbox) (s : State) (l : Nat), s.ready p m 0x402 → s.arg p m 0 1 = l → s.portTenant p = s.quadTenant (l / 4) →
    exec (.laneRestart p m) s = .next (((s.taken p m).restartLane l).reply p m 0 [])) ∧
  (∀ (p : Port) (m : Mbox) (s : State) (l : Nat), s.ready p m 0x403 → s.arg p m 0 1 = 0 → s.arg p m 1 1 = l → s.portTenant p = s.quadTenant (l / 4) →
    exec (.laneDisable p m) s = .next (((s.taken p m).disableLane (4 * (l / 4) + l % 4)).reply p m 0 [])) ∧
  (∀ (p : Port) (m : Mbox) (s : State) (l : Nat), s.ready p m 0x404 → s.arg p m 0 1 = l → s.portTenant p = s.quadTenant (l / 4) →
    ∃ w pay, exec (.laneTest p m) s = .next (((s.taken p m).writeLnTest l w).reply p m 0 pay)) ∧
  (∀ (p : Port) (m : Mbox) (s : State) (l : Nat), s.arg p m 0 1 = l → s.portTenant p ≠ s.quadTenant (l / 4) →
    (s.ready p m 0x401 → exec (.laneStatus p m) s = .next ((s.taken p m).reply p m 0x12 [])) ∧
    (s.ready p m 0x402 → exec (.laneRestart p m) s = .next ((s.taken p m).reply p m 0x12 [])) ∧
    (s.ready p m 0x404 → exec (.laneTest p m) s = .next ((s.taken p m).reply p m 0x12 [])))

/-- Rate matching of a lane's elastic buffer (R396). The MAC of a lane (R397-R400): a received frame, a frame sent, responses of its network requests,
the codewords that FEC corrected or lost (R408), the capability block that EXCHANGE sends (R394) and the pattern test's words (R405; log entries 158, 159);
a frame for a direct queue that is full or disabled is dropped and counted (R199, R289; for a disabled queue log entry 143). Systemlink heartbeats and
time transfer (R401, R402, R423-R426). -/
def Obligations.LaneFrames : Prop :=
  (∀ (l : Lane) (bytes : List Byte) (err : Bool) (corr bad gap : Nat) (drift : Int) (s : State), s.macOn l = true →
    exec (.rxFrame l bytes err corr bad true gap drift) s = .next (s.setLane l { s.lane l with rxPart := some bytes })) ∧
  (∀ (l : Lane) (bytes : List Byte) (corr bad gap : Nat) (drift : Int) (s u t : State), s.macOn l = true →
    State.fecCount (s.setLane l { s.lane l with rxPart := none }) l corr bad = u → (u.rateMatch l gap drift).1 = t →
    (u.rateMatch l gap drift).2 = false → t.lnF F.lnState_link l = 4 → 64 ≤ bytes.length →
    bytes.length ≤ t.lnF F.lnMac_maxLen l → fcsOk bytes = true → t.lnOn F.lnMac_stripFcs l = true → s.lnF F.lnState_fec l = 0 ∨ bad = 0 →
    exec (.rxFrame l bytes false corr bad false gap drift) s = .next
      (let body := bytes.take (bytes.length - 4)
       let u := (t.deliver l (t.rxPacket l body (decide (s.lnF F.lnState_fec l ≠ 0) && decide (corr ≠ 0)) (isPause body))).lnCount F.lnRxCounts_frames l 1
       u.setLane l { u.lane l with rxSeq := ((u.lane l).rxSeq + 1) % 2 ^ 32 })) ∧
  (∀ (l : Lane) (bytes : List Byte) (err : Bool) (corr bad gap : Nat) (drift : Int) (s u t : State), s.macOn l = true →
    State.fecCount (s.setLane l { s.lane l with rxPart := none }) l corr bad = u → (u.rateMatch l gap drift).1 = t →
    (u.rateMatch l gap drift).2 = false → t.lnF F.lnState_link l ≠ 8 →
    bytes.length ≤ t.lnF F.lnMac_maxLen l → err = true ∨ fcsOk bytes = false ∨ (s.lnF F.lnState_fec l ≠ 0 ∧ bad ≠ 0) → t.directRx l = false →
    exec (.rxFrame l bytes err corr bad false gap drift) s = .next (t.lnCount F.lnRxCounts_bad l 1)) ∧
  (∀ (l : Lane) (bytes : List Byte) (err : Bool) (corr bad gap : Nat) (drift : Int) (s u : State), s.macOn l = true →
    State.fecCount (s.setLane l { s.lane l with rxPart := none }) l corr bad = u → (u.rateMatch l gap drift).2 = true →
    (u.rateMatch l gap drift).1.directRx l = false →
    exec (.rxFrame l bytes err corr bad false gap drift) s = .next (u.rateMatch l gap drift).1) ∧
  (∀ (l corr bad : Nat) (s : State), s.lnF F.lnState_fec l ≠ 0 →
    s.fecCount l corr bad = (s.lnCount F.lnFecCounts_corrected l corr).lnCount F.lnFecCounts_uncorrected l bad) ∧
  (∀ (l corr bad : Nat) (s : State), s.lnF F.lnState_fec l = 0 → s.fecCount l corr bad = s) ∧
  (∀ (l : Lane) (bytes : List Byte) (err : Bool) (corr bad gap : Nat) (busy : Bool) (drift : Int) (s : State), s.lnSt l = 6 →
    exec (.rxFrame l bytes err corr bad busy gap drift) s = .next (s.checkBits l (lineBits bytes))) ∧
  (∀ (l : Lane) (busy : Bool) (s : State), s.lnSt l = 6 → exec (.txPacket l busy) s = .next (s.genSend l)) ∧
  (∀ (l : Lane) (busy : Bool) (s : State), s.lnSt l = 4 → ownMode (s.lane l).mode = true →
    exec (.txPacket l busy) s = .next (s.setLane l { s.lane l with sent := s.capBlock l, flips := 0 })) ∧
  (∀ (k : Nat) (w : QWord) (ws : List QWord) (s : State), s.qOn k = false ∨ (s.pq k).space = 0 →
    s.directPush k (w :: ws) = (s.qAbort k).count F.qErrors_dropped (k / 4) (k % 4) 1) ∧
  (∀ (l : Lane) (gap : Nat) (drift half far unit : Int) (s : State), s.lnF F.lnState_link l ≠ 8 →
    rateUnits (s.lnF F.lnState_link l) (s.lineCoding l) = (half, far, unit) → far ≤ (s.lane l).fill → 2 ≤ gap →
    -half ≤ (s.lane l).fill - unit + drift → (s.lane l).fill - unit + drift ≤ half →
    s.rateMatch l gap drift = (State.setLane (s.lnCount F.lnRmCounts_deleted l 1) l { s.lane l with fill := (s.lane l).fill - unit + drift }, false)) ∧
  (∀ (l : Lane) (gap : Nat) (drift half far unit : Int) (s : State), s.lnF F.lnState_link l ≠ 8 →
    rateUnits (s.lnF F.lnState_link l) (s.lineCoding l) = (half, far, unit) → (s.lane l).fill ≤ -far → 1 ≤ gap →
    -half ≤ (s.lane l).fill + unit + drift → (s.lane l).fill + unit + drift ≤ half →
    s.rateMatch l gap drift = (State.setLane (s.lnCount F.lnRmCounts_inserted l 1) l { s.lane l with fill := (s.lane l).fill + unit + drift }, false)) ∧
  (∀ (l : Lane) (gap : Nat) (drift half far unit : Int) (s : State), s.lnF F.lnState_link l ≠ 8 →
    rateUnits (s.lnF F.lnState_link l) (s.lineCoding l) = (half, far, unit) → -far < (s.lane l).fill → (s.lane l).fill < far →
    half < (s.lane l).fill + drift ∨ (s.lane l).fill + drift < -half →
    (s.rateMatch l gap drift).2 = true ∧ ∃ u : State, (s.rateMatch l gap drift).1 = u.lnCount F.lnRmCounts_ovf l 1 ∧ u.regs = s.regs) ∧
  (∀ (l : Lane) (s : State), s.macOn l = true → s.pw.mode = .run → (s.lane l).txBusy = true →
    exec (.txPacket l false) s = .next (State.lnCount (s.setLane l { s.lane l with txBusy := false }) F.lnTxCounts_frames l 1)) ∧
  (∀ (l : Lane) (busy : Bool) (s : State), s.macOn l = true → s.pw.mode = .run → s.lnF F.lnState_link l = 4 → (s.lane l).txBusy = false →
    (s.lane l).tx.any (·.last) = true →
    exec (.txPacket l busy) s = .next (State.txSend (s.setLane l { s.lane l with tx := (takePacket (s.lane l).tx).2 }) l (takePacket (s.lane l).tx).1 busy)) ∧
  (∀ (r : Resp) (s : State) (o : Outst) (l k : Nat), s.net.resps.contains r = true → s.findOut r.src r.sport r.tag r.gen = some o →
    o.who = .mac l k → r.crcOk = true →
    exec (.macResponse r) s = .next ((State.retire (s.takeResp r) o).macResp l k r.svc r.data)) ∧
  (∀ (l : Lane) (s : State), s.sysActive l = true → s.slSource = false →
    exec (.heartbeatSend l) s = .next (s.setLane l { s.lane l with
      hbSeq := ((s.lane l).hbSeq + 1) % 65536
      slOut := (s.lane l).slOut ++ [(1, hbBytes deviceId (s.getF F.timeCtl_domain 0 0) (s.lane l).hbSeq s.timePrio deviceId 0
        (b2n (s.flag F.tkStatus_holdover 0 0)))] })) ∧
  (∀ (l : Lane) (id : BitVec 64) (domain : BitVec 16) (prio : Byte) (root : BitVec 64) (hops flags : Byte) (s : State), s.sysActive l = true →
    s.slPresent l = true → (s.lane l).hbFirst = false →
    exec (.heartbeat l id domain prio root hops flags) s = .next (State.elect (State.setLnF (State.setLnF
      (s.setLane l { s.lane l with nbr := (prio.toNat, root.toNat, hops.toNat, flags.toNat), hbFirst := false })
      F.lnSlStatus_present l 1) F.lnSlStatus_missed l 0) l)) ∧
  (∀ (l : Lane) (id : BitVec 64) (domain : BitVec 16) (prio : Byte) (root : BitVec 64) (hops flags : Byte) (s t : State), s.sysActive l = true →
    (s.lane l).hbFirst = true →
    s.setLane l { s.lane l with nbr := (prio.toNat, root.toNat, hops.toNat, flags.toNat), hbFirst := false } = t →
    exec (.heartbeat l id domain prio root hops flags) s = .next (State.elect (State.setLnF (State.setLnF (State.setLnF
      ((t.setLn .lnSlIdLo l (id.toNat % 2 ^ 32)).setLn .lnSlIdHi l (id.toNat / 2 ^ 32)) F.lnSlStatus_domain l domain.toNat)
      F.lnSlStatus_present l 1) F.lnSlStatus_missed l 0) l)) ∧
  (∀ (l : Lane) (s : State), s.regsWf = true → s.slPresent l = true → s.lnF F.lnSlStatus_missed l = 0 →
    exec (.heartbeatMiss l) s = .next (s.lnCount F.lnSlStatus_missed l 1)) ∧
  (∀ (l : Lane) (s : State), s.regsWf = true → s.slPresent l = false → s.sysActive l = true →
    exec (.heartbeatMiss l) s = .next (s.lnCount F.lnSlStatus_missed l 1)) ∧
  (∀ (l : Lane) (s : State), s.slPresent l = false → s.sysActive l = false → exec (.heartbeatMiss l) s = .next s) ∧
  (∀ (s : State) (l : Nat), s.tmr.parent = some l → s.timeLane l = true →
    exec .timeRequestSend s = .next (State.setLane { s with tmr.reqSeq := (s.tmr.reqSeq + 1) % 65536 } l { s.lane l with
      slOut := (s.lane l).slOut ++ [(2, leBytes 1 2 ++ leBytes 1 0 ++ beBytes 2 ((s.tmr.reqSeq + 1) % 65536) ++ List.replicate 36 0#8)] })) ∧
  (∀ (l : Lane) (f : List Byte) (s : State), s.timeLane l = true → f.length = 40 → leAt f 0 1 = 2 → s.tkRuns 0 = true → leAt f 1 1 = 0 →
    exec (.timeFrame l f) s = .next (s.setLane l { s.lane l with
      slOut := (s.lane l).slOut ++ [(2, overlay (overlay f 1 [1#8]) 16 (beTime (stampOf (s.laneTime l false - s.rxCorr l) 0 0) ++ List.replicate 12 0#8))] })) ∧
  (∀ (l : Lane) (f : List Byte) (s : State), s.timeLane l = true → f.length = 40 → leAt f 0 1 = 2 → s.tkRuns 0 = true → leAt f 1 1 = 1 →
    s.tmr.parent = some l.val → beAt f 2 2 = s.tmr.reqSeq →
    exec (.timeFrame l f) s = .next (s.exchange l (timeAt f 4) (timeAt f 16) (timeAt f 28) ((s.laneTime l false - s.rxCorr l) / 2 ^ 16 : Nat))) ∧
  (∀ (s : State) (o : Int) (p : Nat), s.maltarRuns = true → s.slSource = true → s.tmr.parent = some p → s.flag F.tkStatus_pending 0 0 = false →
    s.tmr.offs = some o → -(s.getF F.timeRateTh_rateTh 0 0 : Int) ≤ o * 2 ^ 17 / 1000000000 → o * 2 ^ 17 / 1000000000 ≤ s.getF F.timeRateTh_rateTh 0 0 →
    exec .servoUpdate s = .next (State.stageCorr { s with tmr.offs := none } 0 (.rate ((s.incrNow 0 : Int) + o * 2 ^ 17 / 1000000000).toNat) none))

/-- Flip-flops of a cluster on an edge of its clocks, with the inputs that its crossbar brings (R113, R114, R117, R120), seam flip-flops (R122-R124,
R126), set and reset lines, which act on no flip-flop of a region that is not LIVE (R287), the carry into a cluster (R116), and the open level that
another user clock domain sees of a flip-flop (R25). The model's choice (log entries 110, 111): the operands are the levels of what nothing drives,
and the commands of one edge are joined. -/
def Obligations.CellFlipFlops : Prop :=
  (∀ (t : Tile) (cluster : Fin 768) (net : Fin 8) (rise join : Bool) (ins : List CellIn) (cin : Bool) (ms ce : BitVec 4) (sr : BitVec 2)
    (s p : State) (ext : Wire → Bool), s.userClock = true → s.netRuns t net = true → Tbl.wf (fun _ => none) s.fab.ffs = true →
    (s.edgeStart join).preEdge = p → p.extCluster t cluster (destIn ins cin ms ce sr) = ext →
    ∃ u, exec (.cellClockEdge t cluster net rise join ins cin ms ce sr) s = .next u ∧
      (∀ n < 32, (s.clusterCfg t cluster).active (s.ffCfg t (ffKey cluster (n / 2) (n % 2))).clk net rise = true →
        u.ff t (ffKey cluster (n / 2) (n % 2)) = ffNext (s.ffCfg t (ffKey cluster (n / 2) (n % 2))) (p.ff t (ffKey cluster (n / 2) (n % 2)))
          (p.ffD ext t cluster (n / 2) (n % 2) (s.ffCfg t (ffKey cluster (n / 2) (n % 2)))) (p.dests ext t cluster net 128 4) (p.dests ext t cluster net 132 2)) ∧
      (∀ n < 32, (s.clusterCfg t cluster).active (s.ffCfg t (ffKey cluster (n / 2) (n % 2))).clk net rise = false →
        u.ff t (ffKey cluster (n / 2) (n % 2)) = s.ff t (ffKey cluster (n / 2) (n % 2))) ∧
      (∀ k < 24576, k / 32 ≠ cluster.val → u.ff t k = s.ff t k) ∧ ((∀ q < 4, (s.pq (4 * t.val + q)).notices = 0) → u.regs = s.regs) ∧
      u.fab.blks = s.fab.blks ∧ u.fab.muls = s.fab.muls ∧
      u.fab.cfg = s.fab.cfg ∧ u.hbm = s.hbm ∧ u.pending = s.pending) ∧
  (∀ s : State, (s.edgeStart false).preEdge = { s with fab.before := (s.edgeStart false).fab.before }) ∧
  (∀ (c : FfCfg) (old d : Bool) (ce sr : Nat), bitAt sr c.sr = false → c.ce < 4 → bitAt ce c.ce = false → ffNext c old d ce sr = old) ∧
  (∀ (c : FfCfg) (old d : Bool) (ce sr : Nat), bitAt sr c.sr = false ∨ c.kind = .none → c.ce = 4 ∨ bitAt ce c.ce = true → ffNext c old d ce sr = d) ∧
  (∀ (c : FfCfg) (old d : Bool) (ce sr : Nat), bitAt sr c.sr = true →
    (c.kind = .syncSet ∨ c.kind = .asyncSet → ffNext c old d ce sr = true) ∧ (c.kind = .syncReset ∨ c.kind = .asyncReset → ffNext c old d ce sr = false)) ∧
  (∀ (t : Tile) (cluster : Fin 768) (net : Fin 8) (rise join : Bool) (ins : List CellIn) (cin : Bool) (ms ce : BitVec 4) (sr : BitVec 2) (s : State),
    s.userClock = false ∨ s.netRuns t net = false → exec (.cellClockEdge t cluster net rise join ins cin ms ce sr) s = .next s) ∧
  (∀ (t : Tile) (cluster : Fin 768) (net : Fin 8) (join : Bool) (ins : List CellIn) (cin : Bool) (ms ce : BitVec 4) (sr : BitVec 2) (s p : State)
    (ext : Wire → Bool) (w : SeamWire) (a n : Nat), s.userClock = true → s.netRuns t net = true → Tbl.wf (fun _ => false) s.fab.seamFfs = true →
    s.fab.seamCfg = [w] → w.reg = true → w.arrives = some (a, t.val, n) → tget 0 s.fab.seamClk (w.key / 64) = net.val →
    w.agrees a t = true → s.seams.named = [] → (s.edgeStart join).preEdge = p → p.extCluster t cluster (destIn ins cin ms ce sr) = ext →
    ∃ u, exec (.cellClockEdge t cluster net true join ins cin ms ce sr) s = .next u ∧
      tget false u.fab.seamFfs w.key = (s.seamWireOn w.key && p.wire (p.netId t net) ext (.line w.line.1 w.line.2.1 w.line.2.2.1 w.line.2.2.2 n))) ∧
  (∀ (s : State) (k : Nat), s.seams.declared = true → k % 8 = 7 → s.seamWireOn k = false) ∧
  (∀ (t : Tile) (cluster : Fin 768) (line : Fin 2) (s : State), s.ffMoves t = true → Tbl.wf (fun _ => none) s.fab.ffs = true →
    ∃ u, exec (.asyncSetReset t cluster line) s = .next u ∧
      (∀ n < 32, (s.ffCfg t (ffKey cluster (n / 2) (n % 2))).sr = line.val → (s.ffCfg t (ffKey cluster (n / 2) (n % 2))).kind = .asyncSet →
        s.lineHigh t cluster line (s.ffCfg t (ffKey cluster (n / 2) (n % 2))).clk = true → u.ff t (ffKey cluster (n / 2) (n % 2)) = true) ∧
      (∀ n < 32, (s.ffCfg t (ffKey cluster (n / 2) (n % 2))).sr = line.val → (s.ffCfg t (ffKey cluster (n / 2) (n % 2))).kind = .asyncReset →
        s.lineHigh t cluster line (s.ffCfg t (ffKey cluster (n / 2) (n % 2))).clk = true → u.ff t (ffKey cluster (n / 2) (n % 2)) = false) ∧
      (∀ n < 32, s.lineHigh t cluster line (s.ffCfg t (ffKey cluster (n / 2) (n % 2))).clk = false →
        u.ff t (ffKey cluster (n / 2) (n % 2)) = s.ff t (ffKey cluster (n / 2) (n % 2))) ∧
      (∀ n < 32, (s.ffCfg t (ffKey cluster (n / 2) (n % 2))).sr ≠ line.val → u.ff t (ffKey cluster (n / 2) (n % 2)) = s.ff t (ffKey cluster (n / 2) (n % 2))) ∧
      u.regs = s.regs) ∧
  (∀ (t : Tile) (cluster : Fin 768) (line : Fin 2) (s : State), s.ffMoves t = false → exec (.asyncSetReset t cluster line) s = .next s) ∧
  (∀ (s : State) (t cluster line clk : Nat), s.xbarSrc t cluster (132 + line) = none → s.lineHigh t cluster line clk = true) ∧
  (∀ (s : State) (ext ev : Wire → Bool) (t c : Nat), ((s.clusterCfg t c).cin = 0 → s.carryIn ext ev t c = false) ∧
    ((s.clusterCfg t c).cin = 1 → s.carryIn ext ev t c = true) ∧
    ((s.clusterCfg t c).cin = 3 → c % 24 ≠ 0 → s.carryIn ext ev t c = ev (.carry t (c - 1) 16)) ∧
    ((s.clusterCfg t c).cin = 3 → c % 24 = 0 → t / 16 % 16 ≠ 15 → s.sameRegion t (t + 16) = true →
      s.carryIn ext ev t c = ev (.carry (t + 16) (c + 23) 16))) ∧
  (∀ (s : State) (dom : Nat) (ext ev : Wire → Bool) (t c n : Nat), n < 64 → 2 ≤ n % 4 →
    foreign dom (s.ffNet t (ffKey c (n / 4) (n % 2))) = true → s.wireStep dom ext ev (.src t c n) = ext (.src t c n))

/-- Multiplier slices with their stages on and off (R127-R131), and crossing primitives at their source and destination, with the undefined output of
a broken input rule (R135-R137) and the clamp between two regions (R286); a slice is clocked by its own net (R23). The model's choice (log entry 111):
commands of one edge are joined. -/
def Obligations.SlicesAndCrossings : Prop :=
  (∀ (i : MulIn) (join : Bool) (s u p : State), s.userClock = true → s.netRuns i.tile (s.mulCfg i.tile i.slice).clk = true → s.edgeStart join = u →
    u.preEdge = p → exec (.multiplierSliceEdge [i] join) s = .next { u with
      fab.muls := tput MulSt.init u.fab.muls (i.tile.val * 64 + i.slice.val)
        (mulNext (s.mulCfg i.tile i.slice) (p.mul i.tile i.slice)
          (p.mulPins (p.wire (s.netId i.tile (s.mulCfg i.tile i.slice).clk) (p.extSlices [i])) i.tile i.slice)) }) ∧
  (∀ (l : List MulIn) (join : Bool) (s u : State), s.userClock = true → (∀ i ∈ l, s.netRuns i.tile (s.mulCfg i.tile i.slice).clk = false) →
    s.edgeStart join = u → exec (.multiplierSliceEdge l join) s = .next u) ∧
  (∀ (l : List MulIn) (join : Bool) (s : State), s.userClock = false → exec (.multiplierSliceEdge l join) s = .next s) ∧
  (∀ (c : MulCfg) (m : MulSt) (p : MulPins), c.prodStage = true → bitAt p.clr 2 = false → bitAt p.ce 2 = true →
    (mulNext c m p).acc =
      (let x := mulFn m.fn2 m.neg2 (sgn 48 m.prod) m.ad2 p.chi m.acc
       if c.sat = true ∧ (2 : Int) ^ 47 ≤ x then 2 ^ 47 - 1 else if c.sat = true ∧ x < -(2 : Int) ^ 47 then 2 ^ 47 else unsgn 48 x)) ∧
  (∀ (c : MulCfg) (m : MulSt) (p : MulPins), c.inStage = true → bitAt p.clr 1 = false → bitAt p.ce 1 = true →
    (mulNext c m p).prod = unsgn 48 (sgn 18 m.ma * pairOp m.pair1 m.mb m.me)) ∧
  (∀ (c : MulCfg) (m : MulSt) (p : MulPins), c.inStage = false → bitAt p.clr 1 = false → bitAt p.ce 1 = true →
    (mulNext c m p).prod = unsgn 48 (sgn 18 p.ma * pairOp (c.pairOf p) p.mb p.me)) ∧
  (∀ (c : MulCfg) (m : MulSt) (p : MulPins) (back : Nat), (c.resStage = true → mulOut c m p back = (m.acc, m.above, m.below)) ∧
    (c.resStage = false → c.prodStage = true → c.sat = false →
      (mulOut c m p back).1 = unsgn 48 (mulFn m.fn2 m.neg2 (sgn 48 m.prod) m.ad2 p.chi back))) ∧
  (∀ (c : MulCfg) (m : MulSt) (p : MulPins), (bitAt p.clr 2 = true → (mulNext c m p).acc = 0) ∧ (bitAt p.clr 1 = true → (mulNext c m p).prod = 0) ∧
    (bitAt p.clr 0 = true → (mulNext c m p).ma = 0 ∧ (mulNext c m p).mb = 0 ∧ (mulNext c m p).me = 0 ∧ (mulNext c m p).ad = 0)) ∧
  (∀ (p : Int) (ad chi acc : Nat), mulFn 0 false p ad chi acc = p ∧ mulFn 2 true p ad chi acc = sgn 48 acc - p ∧
    mulFn 3 false p ad chi acc = sgn 48 ad + p ∧ mulFn 6 false p ad chi acc = sgn 48 chi / 65536 + p ∧ mulFn 7 true p ad chi acc = sgn 48 ad) ∧
  (∀ (k : Nat) (c : XCfg) (join : Bool) (s u : State), s.xcfg k = some c → c.kind = .xpulse → s.xSrcRuns c = true → s.edgeStart join = u →
    u.preEdge.xHigh c c.send = true →
    ((u.preEdge.xing k).ready c.n = true → exec (.xpulsePulse k join) s = .next (u.setXing k { u.xing k with
      tog := !(u.xing k).tog, word := 0, broken := if u.preEdge.xDirect c then (u.xing k).broken else c.n + 3 })) ∧
    ((u.preEdge.xing k).ready c.n = false → exec (.xpulsePulse k join) s = .next (u.setXing k { u.xing k with overrun := true }))) ∧
  (∀ (k : Nat) (c : XCfg) (w : Word64) (join : Bool) (s u : State), s.xcfg k = some c → c.kind = .xword → s.xSrcRuns c = true →
    s.edgeStart join = u → u.preEdge.xHigh c c.send = true →
    ((u.preEdge.xing k).ready c.n = true → exec (.xwordSend k w join) s = .next (u.setXing k { u.xing k with
      tog := !(u.xing k).tog, word := (if c.ins = [] then w.toNat else u.preEdge.xIns u.preEdge.openWires c) % 2 ^ c.width,
      broken := if u.preEdge.xDirect c then (u.xing k).broken else c.n + 3 })) ∧
    ((u.preEdge.xing k).ready c.n = false → exec (.xwordSend k w join) s = .next (u.setXing k { u.xing k with overrun := true }))) ∧
  (∀ (k : Nat) (c : XCfg) (join : Bool) (s u : State), s.xcfg k = some c → s.xSrcRuns c = true → s.edgeStart join = u →
    u.preEdge.xHigh c c.clear = true → exec (.ovrClr k join) s = .next (u.setXing k { u.xing k with overrun := false })) ∧
  (∀ (k : Nat) (w : Word64) (join : Bool) (s : State), s.xcfg k = none →
    exec (.xpulsePulse k join) s = .next s ∧ exec (.xwordSend k w join) s = .next s ∧ exec (.ovrClr k join) s = .next s) ∧
  (∀ (c : XCfg) (d : Bool) (old cur : Crossing) (v w : Nat), c.kind = .xsync ∨ c.kind = .xgray →
    (xDst c d old cur v w).pipe = (v :: old.pipe).take (c.n + 1)) ∧
  (∀ (c : XCfg) (x : Crossing) (j : Nat) (free : Bool), x.broken = 0 → (c.kind = .xsync → xOut c x j free = bitAt (x.level c.n) 0) ∧
    (c.kind = .xgray → xOut c x j free = bitAt (x.level c.n) j) ∧ (c.kind = .xpulse → xOut c x j free = x.out)) ∧
  (∀ (c : XCfg) (x : Crossing) (j : Nat) (free : Bool), 0 < x.broken → xOut c x j free = free) ∧
  (∀ (c : XCfg) (d : Bool) (old cur : Crossing) (v w : Nat), c.kind = .xpulse ∨ c.kind = .xword →
    (xDst c d old cur v w).out = decide (old.pipe.getD c.n 0 ≠ old.pipe.getD (c.n + 1) 0) ∧
    (xDst c d old cur v w).delivered = cur.delivered + b2n (xDst c d old cur v w).out ∧
    (old.pipe.getD (c.n - 1) 0 ≠ old.pipe.getD c.n 0 → (xDst c d old cur v w).dword = w)) ∧
  (∀ (s : State) (t t' : Nat) (w : Wire) (v : Bool), (s.sameRegion t t' = true → s.xPass t t' w v = v) ∧
    (∀ b, s.sameRegion t t' = false → s.clamp t w = some b → s.xPass t t' w v = b))

/-- Block memories and engine memories, from their ports and from the network (R139, R143-R146, R149, R151, R154, R156, R157, R259, R264, R266): a
request to program or X memory of a running engine is refused, one to Y waits while the engine holds the lock, and the fabric and the network take
turns at Y.
The model's choice (log entries 110, 111): the operands are the levels of pins that nothing drives, and the commands of one edge are joined. -/
def Obligations.TileMemories : Prop :=
  (∀ (t : Tile) (b : Fin 24) (net : Fin 8) (join : Bool) (pa pb : PortIn) (s u : State) (x : PortIn) (c : BlkCfg), s.userClock = true →
    s.netRuns t net = true → s.blkFused t b = false → s.blkCfg t b = c → c.wide = false → s.netRuns t c.clkA = true →
    s.netId t c.clkA = s.netId t net → s.netId t c.clkB ≠ s.netId t net → s.edgeStart join = u →
    u.preEdge.portIn (u.preEdge.extBlk t b false pa pb) t b false false false = x →
    x.pen = true → x.we = 0#8 →
    exec (.blockPortAccess t b net none join pa pb) s = .next (State.setBlk { u with free := u.free + 8192 } t b { u.blk t b with
      latchA := (plainRead (u.arr t b) (u.bare t b) c.widthA x.loc.toNat).1
      oregA := if c.oregA then oreg x c.clrA (u.blk t b).oregA (u.blk t b).latchA else (u.blk t b).oregA
      poisonA := (plainRead (u.arr t b) (u.bare t b) c.widthA x.loc.toNat).2
      regPoisonA := if c.oregA then oreg x false (u.blk t b).regPoisonA (u.blk t b).poisonA else (u.blk t b).regPoisonA })) ∧
  (∀ (c : BlkCfg) (s : State) (x : PortIn) (t b : Nat) (m : BlkMem) (e : Option (Nat × SecOut × Nat × Nat)), c.wide = true → c.ecc = true →
    c.oregB = true → x.pen = true → portRegs c true (s.blk t b) x (s.arr t b) (s.bare t b) [] [] = (m, e) →
    m.oregB = oreg x (c.word c.clrA c.clrB) (s.blk t b).oregB (s.blk t b).latchB ∧ m.regUncorr = oreg x false (s.blk t b).regUncorr (s.blk t b).errUncorr ∧
    m.regCorr = oreg x false (s.blk t b).regCorr (s.blk t b).errCorr ∧
    (m.latchB, m.errCorr, m.errUncorr, m.poisonB) = ((eccRead (s.bare t b) (s.arr t b) (x.loc.toNat / 64)).1,
      (eccRead (s.bare t b) (s.arr t b) (x.loc.toNat / 64)).2.1, (eccRead (s.bare t b) (s.arr t b) (x.loc.toNat / 64)).2.2.1,
      (eccRead (s.bare t b) (s.arr t b) (x.loc.toNat / 64)).2.2.2.1)) ∧
  (∀ (t : Tile) (b : Fin 24) (net : Fin 8) (join : Bool) (pa pb : PortIn) (s u : State) (x y : PortIn) (c : BlkCfg), s.userClock = true →
    s.netRuns t net = true → s.blkFused t b = false → s.blkCfg t b = c → c.wide = false → c.window = false → s.netRuns t c.clkA = true →
    s.netRuns t c.clkB = true → s.netId t c.clkA = s.netId t net → s.netId t c.clkB = s.netId t net → s.edgeStart join = u →
    u.preEdge.portIn (u.preEdge.extBlk t b false pa pb) t b false false false = x →
    u.preEdge.portIn (u.preEdge.extBlk t b false pa pb) t b true false false = y →
    ∃ m, exec (.blockPortAccess t b net none join pa pb) s = .next (State.storeArr (State.setBlk { u with free := u.free + 8192 } t b m) t b
        (blkWrites c true y ++ blkWrites c false x)) ∧ m.bytes = (u.blk t b).bytes ∧ m.marks = (u.blk t b).marks ∧
      (x.pen = true → c.modeA = 0 ∨ blkWrites c false x = [] →
        (m.latchA, m.poisonA) = plainRead (u.arr t b) (u.bare t b) c.widthA x.loc.toNat) ∧
      (y.pen = true → c.modeB = 0 ∨ blkWrites c true y = [] →
        (m.latchB, m.poisonB) = plainRead (u.arr t b) (u.bare t b) c.widthB y.loc.toNat) ∧
      (x.pen = false → m.latchA = (u.blk t b).latchA ∧ m.oregA = (u.blk t b).oregA) ∧
      (y.pen = false → m.latchB = (u.blk t b).latchB ∧ m.oregB = (u.blk t b).oregB)) ∧
  (∀ (t : Tile) (b : Fin 24) (net : Fin 8) (join : Bool) (pa pb : PortIn) (s u : State) (x : PortIn) (c : BlkCfg), s.userClock = true →
    s.netRuns t net = true → s.blkFused t b = false → s.blkCfg t b = c → c.wide = false → s.netRuns t c.clkA = true →
    s.netId t c.clkA = s.netId t net → s.netId t c.clkB ≠ s.netId t net → s.edgeStart join = u →
    u.preEdge.portIn (u.preEdge.extBlk t b false pa pb) t b false false false = x →
    ∃ m ws, exec (.blockPortAccess t b net none join pa pb) s = .next (State.storeArr (State.setBlk { u with free := u.free + 8192 } t b m) t b ws) ∧
      ws.Perm (blkWrites c false x) ∧ m.bytes = (u.blk t b).bytes ∧ m.marks = (u.blk t b).marks ∧ m.latchB = (u.blk t b).latchB) ∧
  (∀ (c : BlkCfg) (x : PortIn) (portB : Bool), x.pen = false → blkWrites c portB x = []) ∧
  (∀ (c : BlkCfg) (x : PortIn), x.pen = true → c.wide = false →
    blkWrites c false x = writeSet c.widthA x.loc.toNat x.we.toNat x.wdata.toNat ∧
    blkWrites c true x = writeSet c.widthB x.loc.toNat x.we.toNat x.wdata.toNat) ∧
  (∀ (s : State) (t b p m v : Nat), Tbl.wf (fun _ => BlkMem.init) s.fab.blks = true → (∀ k, Tbl.wf (fun _ => 0) (s.blk t k).bytes = true) →
    (s.storeArr t b [(p, m, v)]).arr t b p = mergeBits (s.arr t b p) m v ∧
    ∀ q, q ≠ p → (s.storeArr t b [(p, m, v)]).arr t b q = s.arr t b q) ∧
  (∀ (t : Tile) (b : Fin 24) (net : Fin 8) (near : Option (Fin 8)) (join : Bool) (pa pb : PortIn) (s : State),
    s.userClock = false ∨ s.netRuns t net = false ∨ (s.blkFused t b = true ∧ b.val % 2 = 1) →
    exec (.blockPortAccess t b net near join pa pb) s = .next s) ∧
  (∀ (r : Req) (s : State) (t o : Nat), s.net.reqs.contains r = true → r.crcOk = true → aperture r.addr = some (t, o) → 0x100000 ≤ o → o < 0x200000 →
    exec (.blockWindowRequest r none) s = .next (State.respond ((s.takeReq r).blkWindow r.rq t o r.op r.size r.data).1 r
      ((s.takeReq r).blkWindow r.rq t o r.op r.size r.data).2.1 ((s.takeReq r).blkWindow r.rq t o r.op r.size r.data).2.2)) ∧
  (∀ (r : Req) (near : Bool × PortIn) (s : State) (t o : Nat), s.net.reqs.contains r = true → r.crcOk = true → aperture r.addr = some (t, o) →
    0x100000 ≤ o → o < 0x200000 → s.pw.mode ≠ .run →
    exec (.blockWindowRequest r (some near)) s = exec (.blockWindowRequest r none) s) ∧
  (∀ (s : State) (q : Rq) (t b k : Nat) (data : List Byte), b < 24 → k < 0x200 → s.mayReach q t = true → s.niFenced t = false →
    s.pw.mode = .run → (s.blkCfg t b).window = true → (s.blkCfg t b).wide = false → (s.blk t b).unwritten (8 * k) 8 = true →
    s.blkWindow q t (0x101000 + 0x8000 * b + k) .read 1 data = (s, svcPoisoned, [0#8])) ∧
  (∀ (s : State) (q : Rq) (t b w : Nat) (data : List Byte), b < 24 → w < 0x1000 → s.mayReach q t = true → s.niFenced t = false →
    s.pw.mode = .run → (s.blkCfg t b).window = true → (s.blkCfg t b).wide = false →
    s.blkWindow q t (0x100000 + 0x8000 * b + w) .write 1 data =
      (s.setBlk t b ((s.blk t b).store [(w, 255, leAt data 0 1)] false), svcOK, []) ∧
    ((s.blk t b).unwritten w 1 = false → s.blkWindow q t (0x100000 + 0x8000 * b + w) .read 1 data =
      (s, svcOK, [BitVec.ofNat 8 (tget 0 (s.blk t b).bytes w)])) ∧
    ((s.blk t b).unwritten w 1 = true → s.blkWindow q t (0x100000 + 0x8000 * b + w) .read 1 data = (s, svcPoisoned, [0#8]))) ∧
  (∀ (r : Req) (s : State) (t o m a : Nat), s.net.reqs.contains r = true → r.crcOk = true → aperture r.addr = some (t, o) → o < 0x20000 →
    engWindow o = some (m, a) → engShape m a r.size = true → r.op = .write → s.mayReach r.rq t = true → s.niFenced t = false → s.pw.mode ≠ .rest →
    m = 2 ∨ (s.engine t).run ≠ .running ∨ s.engPaused t = true → m ≠ 2 ∨ (s.engine t).lock = false →
    exec (.engineMemoryRequest r) s = .next (State.respond ((s.takeReq r).engMemWrite t m a r.data) r svcOK [])) ∧
  (∀ (r : Req) (s : State) (t o m a : Nat), s.net.reqs.contains r = true → r.crcOk = true → aperture r.addr = some (t, o) → o < 0x20000 →
    engWindow o = some (m, a) → engShape m a r.size = true → r.op = .write ∨ r.op = .read → s.mayReach r.rq t = true → m ≠ 2 →
    (s.engine t).run = .running → s.engPaused t = false →
    exec (.engineMemoryRequest r) s = .next (State.respond (s.takeReq r) r svcFenced [])) ∧
  (∀ (r : Req) (s : State) (t o a : Nat), s.net.reqs.contains r = true → r.crcOk = true → aperture r.addr = some (t, o) → o < 0x20000 →
    engWindow o = some (2, a) → engShape 2 a r.size = true → r.op = .write ∨ r.op = .read → s.mayReach r.rq t = true → s.niFenced t = false →
    s.pw.mode ≠ .rest → (s.engine t).lock = true →
    exec (.engineMemoryRequest r) s = .next (State.setEngine (s.takeReq r) t { s.engine t with ynet := (s.engine t).ynet ++ [.req r] })) ∧
  (∀ (s : State) (t m o : Nat) (data : List Byte), s.flag F.eccTestT_testEn t 0 = false →
    s.engMemWrite t m o data = s.setEngine t ((s.engine t).setMem m (iter (data.length / (if m = 0 then 4 else 2))
      (fun k (mm : EMem) => mm.put (o / (if m = 0 then 4 else 2) + k) (leAt data ((if m = 0 then 4 else 2) * k) (if m = 0 then 4 else 2)) 0)
      ((s.engine t).mem m)))) ∧
  (∀ (t : Tile) (we : Bool) (a : Fin 16384) (din : Word16) (join : Bool) (s u p : State), s.portRuns t .engine 0 = true → s.portEdge t .engine 0 join = u →
    u.preEdge = p → p.senseBit t .engine .yvalid 0 true = true → (p.engine t).yq.length + (p.engine t).yout.length < 4 →
    p.senseBit t .engine .ywe 0 we = true → (u.engine t).lock = false → (u.engine t).yq = [] → (u.engine t).ynet = [] →
    Tbl.wf (fun _ => Engine.init) u.eng = true →
    exec (.fabricYAccess t we a din join) s = .next (u.setEngine t { u.engine t with
      y := (u.engine t).y.put (p.sense t .engine .yaddr 14 a) (p.sense t .engine .ydin 16 din.toNat) 0, yturn := true })) ∧
  (∀ (t : Tile) (we : Bool) (a : Fin 16384) (din : Word16) (join : Bool) (s u p : State) (v : Nat) (bad : Bool), s.portRuns t .engine 0 = true →
    s.portEdge t .engine 0 join = u →
    u.preEdge = p → p.senseBit t .engine .yvalid 0 true = true → (p.engine t).yq.length + (p.engine t).yout.length < 4 →
    p.senseBit t .engine .ywe 0 we = false → (u.engine t).lock = false → (u.engine t).yq = [] → (u.engine t).ynet = [] →
    (u.engine t).y.read 16 5 3 (p.sense t .engine .yaddr 14 a) = ⟨v, bad, none⟩ → Tbl.wf (fun _ => Engine.init) u.eng = true →
    exec (.fabricYAccess t we a din join) s = .next (u.setEngine t { u.engine t with yout := (u.engine t).yout ++ [(v, bad)], yturn := true })) ∧
  (∀ (t : Tile) (we : Bool) (a : Fin 16384) (din : Word16) (join : Bool) (s u p : State), s.portRuns t .engine 0 = true → s.portEdge t .engine 0 join = u →
    u.preEdge = p → p.senseBit t .engine .yvalid 0 true = true → (p.engine t).yq.length + (p.engine t).yout.length < 4 →
    (u.engine t).lock = true → Tbl.wf (fun _ => Engine.init) u.eng = true →
    exec (.fabricYAccess t we a din join) s = .next (u.setEngine t { u.engine t with yq := (u.engine t).yq ++
      [(p.senseBit t .engine .ywe 0 we, p.sense t .engine .yaddr 14 a, p.sense t .engine .ydin 16 din.toNat)] })) ∧
  (∀ (t : Tile) (we : Bool) (a : Fin 16384) (din : Word16) (join : Bool) (s u p : State), s.portRuns t .engine 0 = true → s.portEdge t .engine 0 join = u →
    u.preEdge = p → p.senseBit t .engine .yvalid 0 true = false ∨ 4 ≤ (p.engine t).yq.length + (p.engine t).yout.length →
    exec (.fabricYAccess t we a din join) s = .next u) ∧
  (∀ (t : Tile) (we : Bool) (a : Fin 16384) (din : Word16) (join : Bool) (s : State), s.portRuns t .engine 0 = false →
    exec (.fabricYAccess t we a din join) s = .next s) ∧
  (∀ (s : State) (t : Nat) (we : Bool) (a din : Nat) (l : List (Bool × Nat × Nat)) (j : NiJob) (js : List NiJob), (s.engine t).lock = false →
    (s.engine t).yq = (we, a, din) :: l → (s.engine t).ynet = j :: js →
    ((s.engine t).yturn = true → s.yStep t = s.yNet t) ∧ ((s.engine t).yturn = false → s.yStep t = s.yFabric t))

/-- The multiply group (R222–R224, R239): each row issues its own instruction, and the accumulator and the flags take the result. -/
def Obligations.EngineMultiplyGroup : Prop :=
  ∀ (t : Tile) (w : Nat) (c : Bool) (a : Bool) (src : MSrc) (x y : Nat) (f : Fx) (s : State),
    (s.engine t).endCheck.mulOperands (s.engine t).endCheck.now src = (x, y, f) → f.clean = true →
    let e := (s.engine t).endCheck
    let st := e.rd rST (e.now + 5)
    let p := product (stFRAC (e.rd rST (e.now + 4))) x y
    let ac := sgn 40 (e.rd (rAC a) (e.now + 5))
    let res (v : Nat × StW) : State := s.engIssue t c w { Plan.of ⟨f.ws ++ [e.wr (rAC a) (2 ^ 40 - 1) v.1 (e.now + 5), e.wrSt v.2 (e.now + 5)], f.rds⟩ with
      prog := match src with | .yp _ _ _ => true | _ => false }
    let rnd (v : Nat × StW) : Nat × StW := accRound (stSATA st) a (bits st 13 12) v.1 v.2.sticky
    (s.issues t w c (.mul .mpy a src) → exec (.mpy t) s = .next (res (accResult (stSATA st) a p 0))) ∧
    (s.issues t w c (.mul .mac a src) → exec (.mac t) s = .next (res (accResult (stSATA st) a (ac + p) 0))) ∧
    (s.issues t w c (.mul .msu a src) → exec (.msu t) s = .next (res (accResult (stSATA st) a (ac - p) 0))) ∧
    (s.issues t w c (.mul .mpyr a src) → exec (.mpyr t) s = .next (res (rnd (accResult (stSATA st) a p 0)))) ∧
    (s.issues t w c (.mul .macr a src) → exec (.macr t) s = .next (res (rnd (accResult (stSATA st) a (ac + p) 0)))) ∧
    (s.issues t w c (.mul .msur a src) → exec (.msur t) s = .next (res (rnd (accResult (stSATA st) a (ac - p) 0))))

/-- The accumulator group (R223, R224, R230, R231, R240). -/
def Obligations.EngineAccumulatorGroup : Prop :=
  ∀ (t : Tile) (w : Nat) (c : Bool) (ad as : Bool) (dn : Fin 8) (sh : Fin 16) (mv : Option PMove) (f : Fx) (s : State),
    (s.engine t).endCheck.pmove (s.engine t).endCheck.now mv = f → f.clean = true →
    let e := (s.engine t).endCheck
    let st := e.rd rST (e.now + 5)
    let acD := sgn 40 (e.rd (rAC ad) (e.now + 5))
    let acS := sgn 40 (e.rd (rAC as) (e.now + 5))
    let d := sgn 16 (e.rd dn (e.now + 3)) * 65536 / 2 ^ sh.val
    let put (v : Nat × StW) : State := s.issued t w c f [e.wr (rAC ad) (2 ^ 40 - 1) v.1 (e.now + 5), e.wrSt v.2 (e.now + 5)]
    let res (v : Int) : State := put (accResult (stSATA st) ad v 0)
    let nrm := normShift (e.rd (rAC ad) (e.now + 5))
    (s.issues t w c (.acc .add ad as mv) → exec (.add t) s = .next (res (acD + acS))) ∧
    (s.issues t w c (.acc .sub ad as mv) → exec (.sub t) s = .next (res (acD - acS))) ∧
    (s.issues t w c (.accd false ad dn sh mv) → exec (.addd t) s = .next (res (acD + d))) ∧
    (s.issues t w c (.accd true ad dn sh mv) → exec (.subd t) s = .next (res (acD - d))) ∧
    (s.issues t w c (.acc .neg ad as mv) → exec (.neg t) s = .next (res (-acS))) ∧
    (s.issues t w c (.acc .abs ad as mv) → exec (.abs t) s = .next (res acS.natAbs)) ∧
    (s.issues t w c (.clr ad mv) → exec (.clr t) s = .next (put (0, ⟨stZ + stN + stV, stZ⟩))) ∧
    (s.issues t w c (.acc .rnd ad as mv) →
      exec (.rnd t) s = .next (put (accRound (stSATA st) ad (bits st 13 12) (e.rd (rAC as) (e.now + 5)) 0))) ∧
    (s.issues t w c (.shl ad as sh mv) → exec (.shl t) s = .next (res (acS * 2 ^ (sh.val + 1)))) ∧
    (s.issues t w c (.shr ad as sh mv) → exec (.shr t) s = .next (res (acS / 2 ^ (sh.val + 1)))) ∧
    (s.issues t w c (.acc .mova ad as mv) → exec (.mova t) s = .next (res acS)) ∧
    (s.issues t w c (.exp as dn mv) → exec (.exp t) s = .next (s.issued t w c f
      [e.wr dn 0xFFFF (unsgn 16 (headroom (e.rd (rAC as) (e.now + 5)))) (e.now + 5)])) ∧
    (s.issues t w c (.norm ad dn mv) → e.rd (rAC ad) (e.now + 5) ≠ 0 → exec (.norm t) s = .next (s.issued t w c f
      [e.wr (rAC ad) (2 ^ 40 - 1) nrm (e.now + 5), e.wrSt ⟨stZ + stN + stV, zn40 nrm⟩ (e.now + 5),
       e.wr dn 0xFFFF (unsgn 16 ((e.rd dn (e.now + 5) : Int) + headroom (e.rd (rAC ad) (e.now + 5)))) (e.now + 5)])) ∧
    (s.issues t w c (.norm ad dn mv) → e.rd (rAC ad) (e.now + 5) = 0 → exec (.norm t) s = .next (s.issued t w c f
      [e.wr (rAC ad) (2 ^ 40 - 1) 0 (e.now + 5), e.wrSt ⟨stZ + stN + stV, stZ⟩ (e.now + 5)]))

/-- D-register arithmetic and moves (R215, R216, R232, R234, R241, R243). -/
def Obligations.EngineRegisterGroup : Prop :=
  ∀ (t : Tile) (w : Nat) (c : Bool) (d ds : Fin 8) (b : DSrc) (s : State),
    let e := (s.engine t).endCheck
    let u := e.rd ds (e.now + 3)
    let v := match b with | .reg k => e.rd k (e.now + 3) | .imm k => k.val
    let n := v % 16
    let put (r : Nat) (fl : StW) : State := s.issued t w c Fx.none [e.wr d 0xFFFF r (e.now + 5), e.wrSt fl (e.now + 5)]
    let fl (r : Nat) (cy : Bool) : StW := ⟨stZ + stN + stC, zn16 r + b2n cy * stC⟩
    let zn (r : Nat) : StW := ⟨stZ + stN, zn16 r⟩
    (s.issues t w c (.darith .add d ds b) → exec (.dAdd t) s = .next (put ((u + v) % 65536) (fl ((u + v) % 65536) (decide (65536 ≤ u + v))))) ∧
    (s.issues t w c (.darith .sub d ds b) →
      exec (.dSub t) s = .next (put ((u + 65536 - v) % 65536) (fl ((u + 65536 - v) % 65536) (decide (u < v))))) ∧
    (s.issues t w c (.darith .and d ds b) → exec (.and t) s = .next (put (Nat.land u v) (zn (Nat.land u v)))) ∧
    (s.issues t w c (.darith .or d ds b) → exec (.or t) s = .next (put (Nat.lor u v) (zn (Nat.lor u v)))) ∧
    (s.issues t w c (.darith .xor d ds b) → exec (.xor t) s = .next (put (Nat.xor u v) (zn (Nat.xor u v)))) ∧
    (s.issues t w c (.darith .shl d ds b) → exec (.dShl t) s = .next (put (u * 2 ^ n % 65536)
      (if n = 0 then zn (u * 2 ^ n % 65536) else fl (u * 2 ^ n % 65536) (bitAt u (16 - n))))) ∧
    (s.issues t w c (.darith .shr d ds b) → exec (.dShr t) s = .next (put (u / 2 ^ n)
      (if n = 0 then zn (u / 2 ^ n) else fl (u / 2 ^ n) (bitAt u (n - 1))))) ∧
    (s.issues t w c (.darith .sra d ds b) → exec (.sra t) s = .next (put (unsgn 16 (sgn 16 u / 2 ^ n))
      (if n = 0 then zn (unsgn 16 (sgn 16 u / 2 ^ n)) else fl (unsgn 16 (sgn 16 u / 2 ^ n)) (bitAt u (n - 1))))) ∧
    (s.issues t w c (.cmp ds b) → exec (.cmp t) s = .next (s.issued t w c Fx.none
      [e.wrSt (fl ((u + 65536 - v) % 65536) (decide (u < v))) (e.now + 5)])) ∧
    (∀ (rd rs : Fin 47), s.issues t w c (.mov rd rs) → rd.val < 8 → rs.val < 8 →
      exec (.mov t) s = .next (s.issued t w c Fx.none [e.wr rd 0xFFFF (e.rd rs (e.now + 3)) (e.now + 4)])) ∧
    (∀ (rd rs : Fin 47), s.issues t w c (.mov rd rs) →
      exec (.mov t) s = .next (s.issued t w c Fx.none (e.movWrites rd (e.movSource rs) (decide (41 ≤ rs.val))))) ∧
    (∀ (rd : Fin 47) (imm : Fin 65536), s.issues t w c (.ldi rd imm) → rd.val < 36 →
      exec (.ldi t) s = .next (s.issued t w c Fx.none [e.wr rd 0xFFFF imm (e.now + 4)])) ∧
    (∀ (rd : Fin 47) (imm : Fin 65536), s.issues t w c (.ldi rd imm) →
      exec (.ldi t) s = .next (s.issued t w c Fx.none (e.movWrites rd imm false))) ∧
    (s.issues t w c .bexr → exec (.bexr t) s = .next (s.issued t w c Fx.none [e.wr rBEX 0xF 15 (e.now + 5)]))

/-- Loads and stores (R215, R219, R225, R226, R232, R242, R259). -/
def Obligations.EngineLoadsAndStores : Prop :=
  ∀ (t : Tile) (w : Nat) (c : Bool) (d : Fin 8) (b bx : Bool) (so : SOp) (s : State),
    let e := (s.engine t).endCheck
    let upd := (e.addr e.now so.pn 0 so.am).2
    let cell (o : SOp) : PTgt := if o.y then .ymem ((e.addr e.now o.pn 0 o.am).1 % 16384) else .xmem ((e.addr e.now o.pn 0 o.am).1 % 16384)
    let bex (v : Nat) : List PWrite := if bx then [e.wr rBEX 0xF (min (e.rd rBEX (e.now + 5)) (signCount 16 v)) (e.now + 5)] else []
    let sat (x : Bool) : List PWrite := if x then [e.wrSt ⟨stSF, stSF⟩ (e.now + 5)] else []
    let up := storeUpper (stSATS (e.rd rST (e.now + 4))) (e.rd (rAC b) (e.now + 4))
    (∀ (v : Nat) (f : Fx), e.soRead e.now so = (v, f) → f.clean = true →
      (s.issues t w c (.ld d so) → exec (.ld t) s = .next (s.issued t w c f [e.wr d 0xFFFF v (e.now + 4)])) ∧
      (s.issues t w c (.lda .u b so) →
        exec (.ldu t) s = .next (s.issued t w c f [e.wr (rAC b) (2 ^ 40 - 1) (unsgn 40 (sgn 16 v * 65536)) (e.now + 5)])) ∧
      (s.issues t w c (.lda .b b so) → exec (.ldb t) s = .next (s.issued t w c f [e.wr (rAC b) 0xFFFF v (e.now + 5)])) ∧
      (s.issues t w c (.lda .e b so) →
        exec (.lde t) s = .next (s.issued t w c f [e.wr (rAC b) 0xFF00000000 (v % 256 * 2 ^ 32) (e.now + 5)]))) ∧
    (s.issues t w c (.st d so bx) → exec (.st t) s = .next (s.issued t w c upd
      (⟨cell so, 0xFFFF, e.rd d (e.now + 4), e.now + 5⟩ :: bex (e.rd d (e.now + 4))))) ∧
    (s.issues t w c (.stu b so bx) → exec (.stu t) s = .next (s.issued t w c upd
      (⟨cell so, 0xFFFF, up.1, e.now + 5⟩ :: (sat up.2 ++ bex up.1)))) ∧
    (s.issues t w c (.stb b so) → exec (.stb t) s = .next (s.issued t w c upd
      [⟨cell so, 0xFFFF, bits (e.rd (rAC b) (e.now + 4)) 15 0, e.now + 5⟩])) ∧
    (s.issues t w c (.ste b so) → exec (.ste t) s = .next (s.issued t w c upd
      [⟨cell so, 0xFFFF, unsgn 16 (sgn 8 (bits (e.rd (rAC b) (e.now + 4)) 39 32)), e.now + 5⟩])) ∧
    (∀ (v : Nat) (f : Fx), so.y = true → e.soRead e.now so = (v, f) → f.clean = true → s.issues t w c (.ldk d so.pn so.am) → e.lock = false →
      exec (.ldk t) s = .next (s.engIssue t c w { Plan.of ⟨f.ws ++ [e.wr d 0xFFFF v (e.now + 4)], f.rds⟩ with
        fin := fun s => s.setEngine t { s.engine t with lock := true } })) ∧
    (s.issues t w c (.ldk d so.pn so.am) → e.lock = true → exec (.ldk t) s = .next (s.engFault t 2)) ∧
    (so.y = true → s.issues t w c (.stk d so.pn so.am) → e.lock = true → exec (.stk t) s = .next (s.engIssue t c w { Plan.of
      ⟨upd.ws ++ [⟨cell so, 0xFFFF, e.rd d (e.now + 4), e.now + 5⟩, ⟨.unlock, 0, 0, e.now + 5⟩], upd.rds⟩ with
        fin := fun s => s.setEngine t { s.engine t with lockBroken := false } })) ∧
    (so.y = true → s.issues t w c (.stk d so.pn so.am) → e.lock = false → e.lockBroken = true → exec (.stk t) s = .next (s.engIssue t c w { Plan.of
      ⟨upd.ws ++ [⟨cell so, 0xFFFF, e.rd d (e.now + 4), e.now + 5⟩], upd.rds⟩ with
        fin := fun s => s.setEngine t { s.engine t with lockBroken := false } })) ∧
    (s.issues t w c (.stk d so.pn so.am) → e.lock = false → e.lockBroken = false → exec (.stk t) s = .next (s.engFault t 2))

/-- Branches, repeats, WAIT, SIG, WDT, STOP and NOP (R244–R249, R254, R255, R260, R262). -/
def Obligations.EngineControlGroup : Prop :=
  ∀ (t : Tile) (w : Nat) (c : Bool) (cond : Fin 11) (pn dn : Fin 8) (target stop : Fin 16384) (count : Fin 1024) (mask : Fin 65536) (ev : Fin 256)
    (s : State),
    let e := (s.engine t).endCheck
    let go (taken : Bool) (a : Nat) (ws : List PWrite) : State := s.engIssue t c w { Plan.of ⟨ws, []⟩ with
      branch := some (if taken then a % 16384 else (e.pc + 3) % 16384)
      note := if taken then some (0, a) else none }
    let rept (n : Nat) : State := s.engIssue t c w { Plan.of ⟨[e.wr rRC 0xFFFF (n % 65536) e.now, e.wr rRS 0x3FFF (e.pc + 1) e.now,
        e.wr rRE 0x3FFF stop e.now, e.wr rST stRPT stRPT e.now], []⟩ with
      fin := fun s => s.setEngine t { s.engine t with cphase := 1, cache := [] } }
    (s.issues t w c (.b cond target) → exec (.b t) s = .next (go (condHolds cond (e.rd rST (e.now + 2))) target [])) ∧
    (s.issues t w c (.call pn target) → exec (.call t) s = .next (go true target [e.wr (rP pn) 0xFFFF (e.pc + 3) (e.now + 4)])) ∧
    (s.issues t w c (.br cond pn) → exec (.br t) s = .next (go (condHolds cond (e.rd rST (e.now + 2))) (e.rd (rP pn) (e.now + 2)) [])) ∧
    (s.issues t w c .reti → e.shd = true → exec (.reti t) s = .next (s.engIssue t c w { Plan.of Fx.none with
      branch := some 0
      fin := fun s => s.setEngine t { s.engine t with brReti := true }
      note := some (2, s.getF F.engReturn_latch t 0) })) ∧
    (s.issues t w c .reti → e.shd = false → exec (.reti t) s = .next (s.engFault t 6)) ∧
    (s.issues t w c (.repi count stop) → e.pc < stop.val → exec (.repi t) s = .next (rept (if count.val = 0 then 1024 else count))) ∧
    (s.issues t w c (.rep dn stop) → e.pc < stop.val → exec (.rep t) s = .next (rept (e.rd dn (e.now + 1)))) ∧
    (s.issues t w c (.repi count stop) → stop.val ≤ e.pc → exec (.repi t) s = .next (s.engFault t 2)) ∧
    (s.issues t w c (.wait dn mask) → exec (.wait t) s = .next (s.engIssue t c w { Plan.of Fx.none with
      fin := fun u => State.engFlushMem (State.wdCount (u.setEngine t { u.engine t with
        run := .idle, wait := some (mask.val, dn.val), pc := e.pc, now := (u.engine t).now + 1 }) t 1) t })) ∧
    (s.issues t w c (.sig ev) → exec (.sig t) s = .next (s.issued t w c Fx.none [⟨.sig ev, 0, 0, e.now + 5⟩])) ∧
    (s.issues t w c .wdt → exec (.wdt t) s = .next (s.engIssue t c w { Plan.of Fx.none with fin := fun s => s.wdReload t })) ∧
    (s.issues t w c .stop → exec (.stop t) s = .next (s.engIssue t c w { Plan.of Fx.none with
      fin := fun s => s.setEngine t { s.engine t with stopReq := true } })) ∧
    (s.issues t w c .nop → exec (.nop t) s = .next (s.issued t w c Fx.none [])) ∧
    (∀ op, s.issues t w c op → op ≠ .nop → exec (.nop t) s = .next s)

/-- Queue and network instructions (R256–R258, R198–R205). -/
def Obligations.EngineQueueAndNetworkGroup : Prop :=
  ∀ (t : Tile) (w : Nat) (c : Bool) (q : Fin 4) (pd ps : Fin 8) (s : State),
    let e := (s.engine t).endCheck
    let k := 4 * t.val + q.val
    let word := e.rd 0 (e.now + 3) + 2 ^ 16 * e.rd 1 (e.now + 3) + 2 ^ 32 * e.rd 2 (e.now + 3) + 2 ^ 48 * e.rd 3 (e.now + 3)
    let addr := e.rd 4 (e.now + 3) + 2 ^ 16 * e.rd 5 (e.now + 3) + 2 ^ 32 * e.rd 6 (e.now + 3)
    let n := e.rd 7 (e.now + 3) % 256 + 1
    let atomic (op : NOp) (data : List Byte) (rds : List Rd) : State := s.engIssue t c w { Plan.of ⟨[], rds⟩ with
      fin := fun u => u.sendAtomic t op addr data }
    (s.issues t w c (.push q) → s.qProd k = 4 → (s.qOn k = true → e.pushes q < (s.pq k).space) →
      exec (.push t) s = .next (s.issued t w c Fx.none [⟨.push q false, 0, word, e.now + 5⟩])) ∧
    (s.issues t w c (.pushl q) → s.qProd k = 4 → (s.qOn k = true → e.pushes q < (s.pq k).space) →
      exec (.pushl t) s = .next (s.issued t w c Fx.none [⟨.push q true, 0, word, e.now + 5⟩])) ∧
    (s.issues t w c (.push q) → s.qProd k = 4 → s.qOn k = true → (s.pq k).space ≤ e.pushes q → exec (.push t) s = .next ((s.engPass t 1).engBoundary t)) ∧
    (s.issues t w c (.push q) → s.qProd k ≠ 4 → exec (.push t) s = .next (s.engFault t 2)) ∧
    (s.issues t w c (.pop q) → s.qCons k = 4 → exec (.pop t) s = .next (s.engIssue t c w { Plan.of ⟨
      [e.wr 0 0xFFFF ((s.qRead k).1.data / 2 ^ (16 * 0) % 65536) (e.now + 4), e.wr 1 0xFFFF ((s.qRead k).1.data / 2 ^ (16 * 1) % 65536) (e.now + 4),
       e.wr 2 0xFFFF ((s.qRead k).1.data / 2 ^ (16 * 2) % 65536) (e.now + 4), e.wr 3 0xFFFF ((s.qRead k).1.data / 2 ^ (16 * 3) % 65536) (e.now + 4),
       e.wr 4 0xFFFF (4 * b2n (s.qRead k).2.1 + 2 * b2n (s.qRead k).1.last + b2n (s.qRead k).1.p0) (e.now + 4)], []⟩ with
      fin := fun s => (s.qRead k).2.2 })) ∧
    (s.issues t w c (.qabort q) → s.qProd k = 4 → exec (.qabort t) s = .next (s.issued t w c Fx.none [⟨.qabort q, 0, 0, e.now + 5⟩])) ∧
    (s.issues t w c (.nget pd ps) → s.engNoTag t = false → exec (.nget t) s = .next (s.engIssue t c w { Plan.of Fx.none with
      fin := fun u => u.netIssue t (.nget (e.rd (rP pd) (e.now + 2)) (e.rd (rP ps) (e.now + 2))) (e.rd (rP ps) (e.now + 2))
        (mkReq .read addr n (u.tileTenant t) 0 t 0 []) e.now })) ∧
    (s.issues t w c (.nput pd ps) → s.engNoTag t = false → e.lock = false → exec (.nput t) s = .next (s.engIssue t c w { Plan.of Fx.none with
      fin := fun u => u.nputSend t (e.rd (rP pd) (e.now + 2)) (e.rd (rP ps) (e.now + 2)) n addr })) ∧
    (s.issues t w c (.nput pd ps) → s.engNoTag t = false → e.lock = true → exec (.nput t) s = .next (s.engIssue t c w { Plan.of Fx.none with
      fin := fun u => u.setEngine t { u.engine t with
        ynet := (u.engine t).ynet ++ [.send (e.rd (rP ps) (e.now + 2)) (e.rd (rP pd) (e.now + 2)) n addr] } })) ∧
    (s.issues t w c (.nput pd ps) → s.engNoTag t = true → exec (.nput t) s = .next ((s.engPass t 1).engBoundary t)) ∧
    (s.issues t w c (.nget pd ps) → s.engNoTag t = true → exec (.nget t) s = .next ((s.engPass t 1).engBoundary t)) ∧
    (s.issues t w c .nfadd → s.engNoTag t = false → exec (.nfadd t) s = .next (atomic .fetchAdd (leBytes 8 word) [])) ∧
    (s.issues t w c .nswap → s.engNoTag t = false → exec (.nswap t) s = .next (atomic .swap (leBytes 8 word) [])) ∧
    (s.issues t w c (.ncas pd) → s.engNoTag t = false → (e.yBytes (e.rd (rP pd) (e.now + 2)) 8).2.any (·.bad) = false →
      exec (.ncas t) s = .next (atomic .compareSwap (leBytes 8 word ++ (e.yBytes (e.rd (rP pd) (e.now + 2)) 8).1)
        (e.yBytes (e.rd (rP pd) (e.now + 2)) 8).2))

/-- Engine faults (R219, R236, R247, R249, R250). -/
def Obligations.EngineFaults : Prop :=
  (∀ (t : Tile) (w : Nat) (c : Bool) (s : State), (s.engine t).feed = none → s.canIssue t = true → (s.engine t).fetch = (⟨w, false, none⟩, c) →
    decodeEngine w = none → exec (.illegalInstruction t) s = .next (s.engFault t 2)) ∧
  (∀ (t : Tile) (w : Nat) (c : Bool) (s : State), (s.engine t).feed = none → s.canIssue t = true → (s.engine t).fetch = (⟨w, true, none⟩, c) →
    exec (.illegalInstruction t) s = .next (s.engFault t 1) ∧ exec (.nop t) s = .next (s.engFault t 1)) ∧
  (∀ (t : Tile) (w : Nat) (c : Bool) (s : State), (s.engine t).feed = none → s.canIssue t = true → (s.engine t).fetch = (⟨w, false, none⟩, c) →
    (decodeEngine w = some .stop → (s.engine t).br.isSome = true → exec (.stop t) s = .next (s.engFault t 3)) ∧
    (decodeEngine w = some .stop → (s.engine t).br = none → bitAt ((s.engine t).rd rST (s.engine t).now) 4 = true →
      exec (.stop t) s = .next (s.engFault t 4))) ∧
  (∀ (t : Tile) (w : Nat) (c : Bool) (d : Fin 8) (so : SOp) (v : Nat) (f : Fx) (s : State), s.issues t w c (.ld d so) →
    (s.engine t).endCheck.soRead (s.engine t).endCheck.now so = (v, f) → f.clean = false → exec (.ld t) s = .next ((s.noteReads t f.rds).engFault t 1)) ∧
  (∀ (t : Tile) (w : Nat) (s : State), (s.engine t).feed = some w → (s.engine t).run = .halted → (s.engine t).atomic = false →
    decodeEngine w = some .nop → Tbl.wf (fun _ => Feed.init) s.dbg.feeds = true →
    ∃ u, exec (.nop t) s = .next u ∧ (u.engine t).feed = none ∧ (u.engine t).pc = (s.engine t).pc ∧ (u.engine t).run = .halted ∧
      (u.feed t).busy = false ∧ (u.feed t).fault = false)

/-- Interrupts, the watchdog, start and stop of an engine, halts (R250–R255, R260–R263, R511). -/
def Obligations.EngineRunControl : Prop :=
  (∀ (t : Tile) (k n : Nat) (s0 s : State), s0.idlePass t k = s → s.irqDue t = some n →
    exec (.interruptEntry t k) s0 = .next (State.engPass
      (let u := State.trace (State.setF (s.setF F.engIrq_pending t 0 (Nat.land (s.getF F.engIrq_pending t 0) (0xFFFF - 2 ^ n)))
         F.engReturn_latch t 0 (s.engine t).pc) t 1 (s.engine t).pc (0x3FC0 + 4 * n)
       u.setEngine t { s.engine t with
         run := .running
         wait := none
         shd := true
         regs := tput (engRst rST) (s.engine t).regs (64 + rST) (mergeBits (tget (engRst rST) (s.engine t).regs (64 + rST)) stRPT 0)
         pc := 0x3FC0 + 4 * n
         cphase := 0
         cache := [] }) t 1)) ∧
  (∀ (t : Tile) (k : Nat) (s : State), (s.idlePass t k).irqDue t = none → exec (.interruptEntry t k) s = .next (s.idlePass t k)) ∧
  (∀ (t : Tile) (k : Nat) (s : State), (s.engine t).run ≠ .idle ∨ s.engPaused t = true → s.idlePass t k = s) ∧
  (∀ (t : Tile) (k mask dd n : Nat) (s0 s : State), s0.idlePass t k = s → (s.engine t).wait = some (mask, dd) → (s.engine t).run = .idle →
    s.engPaused t = false → topBit (Nat.land (s.getF F.engIrq_pending t 0) mask) = some n →
    exec (.waitWake t k) s0 = .next (State.engPass
      (State.setEngine (s.setF F.engIrq_pending t 0 (Nat.land (s.getF F.engIrq_pending t 0) (0xFFFF - 2 ^ n))) t { s.engine t with
        run := .running, wait := none, pend := addPend (s.engine t).pend ((s.engine t).wr dd 0xFFFF n (s.engine t).now)
        pc := ((s.engine t).pc + 1) % 16384 }) t 1)) ∧
  (∀ (t : Tile) (join : Bool) (s u : State), s.portRuns t .engine 1 = true → s.portEdge t .engine 1 join = u →
    u.preEdge.senseBit t .engine .engirq 0 true = true →
    exec (.engirqRise t join) s = .next (u.setF F.engIrq_pending t 0 (Nat.lor (u.getF F.engIrq_pending t 0) (2 ^ 14)))) ∧
  (∀ (t : Tile) (s : State), (s.engine t).stopReq = true → (s.engine t).free = true → (s.engine t).run = .running ∨ (s.engine t).run = .idle →
    s.engBoundary t = s.engStopNow t false) ∧
  (∀ (t : Tile) (s : State), s.wdRuns t = true → s.getF F.engWdog_period t 0 * 256 / 2 < (s.engine t).wd →
    exec (.watchdogWarn t) s = .next (State.engPend (s.setEngine t { s.engine t with wd := s.getF F.engWdog_period t 0 * 256 / 2 }) t 15)) ∧
  (∀ (t : Tile) (s : State), s.wdRuns t = true → (s.engine t).wd ≤ s.getF F.engWdog_period t 0 * 256 / 2 →
    exec (.watchdogExpiry t) s = .next (State.engFault (s.setEngine t { s.engine t with wd := 0 }) t 5)) ∧
  (∀ (r : Req) (s : State) (t v : Nat), s.grantsWrite r .engWdog t 0 v →
    exec (.watchdogReload r) s = .next (State.respond (State.wdReload
      ((s.takeReq r).setReg .engWdog t 0 (Rg.engWdog.written (s.reg .engWdog t 0) v)) t) r svcOK [])) ∧
  (∀ (r : Req) (s : State) (t v : Nat), s.grantsWrite r .engCtl t 0 v → bitAt v 31 = true →
    exec (.engStart r) s = .next (State.respond (State.engStart
      ((s.takeReq r).setReg .engCtl t 0 (Rg.engCtl.written (s.reg .engCtl t 0) v)) t) r svcOK [])) ∧
  (∀ (r : Req) (s : State) (t v : Nat), s.grantsWrite r .engCtl t 0 v → bitAt v 30 = true →
    exec (.engStop r) s = .next (State.respond (State.engStop
      ((s.takeReq r).setReg .engCtl t 0 (Rg.engCtl.written (s.reg .engCtl t 0) v)) t) r svcOK [])) ∧
  (∀ (r : Req) (s : State) (t v : Nat), s.grantsWrite r .engDoorbell t 0 v → bitAt v 0 = true →
    exec (.engDoorbellRing r) s = .next (State.respond (State.engPend (s.takeReq r) t 13) r svcOK [])) ∧
  (∀ (t : Nat) (s : State), s.pw.ffHold = true → s.engStart t = s) ∧
  (∀ (t : Nat) (s : State), (s.engine t).run = .stopped ∨ (s.engine t).run = .faulted → s.pw.ffHold = false →
    s.engStart t = State.yServe (State.wdReload (State.setEngine (s.setF F.engFault_cause t 0 0) t { s.engine t with
      run := .running
      shd := false
      lock := false
      lockBroken := false
      pc := s.getF F.engCtl_entry t 0
      br := none
      brReti := false
      afterReti := false
      cphase := 0
      cache := []
      wait := none
      skipBreak := false
      stopReq := false }) t) t) ∧
  (∀ (t : Nat) (s : State), ((s.engine t).run = .running ∧ (s.engine t).free = true) ∨ ((s.engine t).run = .idle ∧ (s.engine t).lock = false) →
    s.engStop t = s.engStopNow t false) ∧
  (∀ (t : Tile) (s : State), (s.engine t).run = .running → (s.engine t).haltReq = none → (s.engine t).stopReq = true → (s.engine t).stepping = 0 →
    (s.engine t).lock = true → exec (.haltForced t) s = .next
      (if ((s.engForce t).engine t).free then (s.engForce t).engStopNow t false else s.engForce t)) ∧
  (∀ (t : Tile) (p : Nat) (s : State), (s.engine t).run = .running → (s.engine t).haltReq = some p → (s.engine t).closed = false →
    (s.engine t).stepping = 0 → exec (.haltEffect t) s = .next (s.engHalted t (some p))) ∧
  (∀ (t : Tile) (p : Nat) (s : State), (s.engine t).run = .running → (s.engine t).haltReq = some p → (s.engine t).stepping = 0 →
    (s.engine t).lock = true → exec (.haltForced t) s = .next
      (let u := (s.engForce t).setF F.dbgStatus_lockBroken p 0 1
       if (u.engine t).closed then u else u.engHalted t (some p))) ∧
  (∀ (t : Tile) (k : Nat) (s : State), s.brkDue t = some k → (s.engine t).run = .running → s.engPaused t = false → s.irqDue t = none →
    exec (.breakMatch t) s = .next
      (let u := s.engHalted t (if tget 0 s.dbg.ebrk k = 0 then none else some (tget 0 s.dbg.ebrk k - 1))
       u.setFeed t { u.feed t with brk := true, unit := k }))

/-! ### The signal engine's encoding, arithmetic and pipeline (09, 10) -/

/-- Encoding and decoding agree in both directions: every well-formed engine instruction, with every operand, is what its word decodes to, and every word
that decodes is the word of the instruction it decodes to (R236–R245). -/
def Obligations.EngineEncoding : Prop :=
  (∀ op : EOp, op.wf = true → encodeEngine op < 2 ^ 32 ∧ decodeEngine (encodeEngine op) = some op) ∧
  (∀ (w : Nat) (op : EOp), w < 2 ^ 32 → decodeEngine w = some op → op.wf = true ∧ encodeEngine op = w)

/-- Products and accumulator results (R222, R223). -/
def Obligations.EngineArithmetic : Prop :=
  (∀ (frac : Bool) (a b : Nat), a < 65536 → b < 65536 → product frac a b = (if frac then 2 else 1) * (sgn 16 a * sgn 16 b) ∧
    (in32 (product frac a b) = false ↔ frac = true ∧ a = 0x8000 ∧ b = 0x8000)) ∧
  (unsgn 40 (product true 0x8000 0x8000) = 0x0080000000 ∧ sgn 40 0x0080000000 = product true 0x8000 0x8000) ∧
  (∀ (sata b : Bool) (x : Int), -(2 ^ 40) ≤ x → x < 2 ^ 40 → (accResult sata b x 0).1 < 2 ^ 40 ∧
    bitAt (accResult sata b x 0).2.mask 3 = true ∧ bitAt (accResult sata b x 0).2.val 3 = !in32 x ∧
    bitAt (accResult sata b x 0).2.mask 1 = true ∧ bitAt (accResult sata b x 0).2.val 1 = bitAt (accResult sata b x 0).1 39 ∧
    bitAt (accResult sata b x 0).2.mask 0 = true ∧ bitAt (accResult sata b x 0).2.val 0 = decide ((accResult sata b x 0).1 = 0)) ∧
  (∀ (b : Bool) (x : Int), 2 ^ 31 ≤ x → (accResult true b x 0).1 = 0x007FFFFFFF ∧ bitAt (accResult true b x 0).2.mask 7 = true ∧
    bitAt (accResult true b x 0).2.val 7 = true) ∧
  (∀ (b : Bool) (x : Int), x < -(2 ^ 31) → (accResult true b x 0).1 = 0xFF80000000 ∧ bitAt (accResult true b x 0).2.mask 7 = true ∧
    bitAt (accResult true b x 0).2.val 7 = true) ∧
  (∀ (sata b : Bool) (x : Int), in32 x = true → sgn 40 (accResult sata b x 0).1 = x ∧ (accResult sata b x 0).2.mask = stZ + stN + stV) ∧
  (∀ (b : Bool) (x : Int), -(2 ^ 40) ≤ x → x < 2 ^ 40 → (accResult false b x 0).1 = (x % 2 ^ 40).toNat ∧
    bitAt (accResult false b x 0).2.mask 7 = false ∧
    (bitAt (accResult false b x 0).2.mask (if b then 6 else 5) = true ↔ sgn 40 (accResult false b x 0).1 ≠ x) ∧
    bitAt (accResult false b x 0).2.mask (if b then 5 else 6) = false ∧
    bitAt (accResult false b x 0).2.val (if b then 6 else 5) = bitAt (accResult false b x 0).2.mask (if b then 6 else 5))

/-- Rounding, headroom and NORM (R224, R229–R231). -/
def Obligations.RoundingAndExponents : Prop :=
  (∀ (sata b : Bool) (rnd p : Nat), rnd < 3 → p < 2 ^ 40 → (accRound sata b rnd p 0).1 % 65536 = 0 ∧
    bitAt (accRound sata b rnd p 0).2.val 1 = bitAt (accRound sata b rnd p 0).1 39 ∧
    bitAt (accRound sata b rnd p 0).2.val 0 = decide ((accRound sata b rnd p 0).1 = 0)) ∧
  (∀ (b : Bool) (p : Nat), p < 2 ^ 40 → in32 (sgn 40 p) = true → sgn 40 (accRound true b 0 p 0).1 = sgn 40 p / 65536 * 65536) ∧
  (∀ (b : Bool) (p : Nat), p < 2 ^ 40 → in32 (sgn 40 p + 32768) = true → sgn 40 (accRound true b 1 p 0).1 = (sgn 40 p + 32768) / 65536 * 65536) ∧
  (∀ (b : Bool) (p : Nat), p < 2 ^ 40 → in32 (sgn 40 p + 32768) = true → bits p 15 0 = 0x8000 → in32 (sgn 40 p) = true →
    sgn 40 (accRound true b 2 p 0).1 = (if bitAt p 16 then (sgn 40 p + 32768) / 65536 * 65536 else sgn 40 p / 65536 * 65536)) ∧
  (∀ w p : Nat, p < 2 ^ w → 0 < w → signCount w p ≤ w - 1 ∧ (∀ i, i < signCount w p → bitAt p (w - 2 - i) = bitAt p (w - 1)) ∧
    (signCount w p < w - 1 → bitAt p (w - 2 - signCount w p) ≠ bitAt p (w - 1))) ∧
  (signCount 16 0 = 15 ∧ signCount 16 0xFFFF = 15) ∧
  (∀ p : Nat, p < 2 ^ 40 → -31 ≤ headroom p ∧ headroom p ≤ 8) ∧
  (∀ p : Nat, p < 2 ^ 40 → p ≠ 0 → (0x40000000 ≤ normShift p ∧ normShift p ≤ 0x7FFFFFFF) ∨ (0xFF80000000 ≤ normShift p ∧ normShift p ≤ 0xFFBFFFFFFF)) ∧
  (normShift 0 = 0 ∧ normShift 0x3000 = 0x60000000 ∧ headroom 0x3000 = -17)

/-- Pointer steps (R227, R228): linear, circular and bit-reversed. -/
def Obligations.PointerSteps : Prop :=
  (∀ (p pb : Nat) (x : Int), (stepPtr p pb 0 x : Int) = ((p : Int) + x) % 65536) ∧
  (∀ (p pb pl : Nat) (x : Int), 0 < pl → (stepPtr p pb pl x : Int) = ((pb : Int) + ((p : Int) - pb + x) % pl) % 65536) ∧
  (∀ (p pb pl : Nat) (x : Int), 0 < pl → pb + pl ≤ 65536 → pb ≤ stepPtr p pb pl x ∧ stepPtr p pb pl x < pb + pl) ∧
  (∀ (p pb pl : Nat) (x : Int), 0 < pl → pb + pl ≤ 65536 → pb ≤ p → p < pb + pl → stepPtr (stepPtr p pb pl x) pb pl (-x) = p) ∧
  (∀ m v : Nat, v < 2 ^ m → revBits m v < 2 ^ m ∧ revBits m (revBits m v) = v ∧ ∀ i, i < m → bitAt (revBits m v) i = bitAt v (m - 1 - i)) ∧
  (∀ p pb m : Nat, p < 65536 → revStep p pb 0 m % 2 ^ 14 = revBits 14 ((revBits 14 (p % 2 ^ 14) + revBits 14 (m % 2 ^ 14)) % 2 ^ 14) ∧
    revStep p pb 0 m / 2 ^ 14 = p / 2 ^ 14) ∧
  (∀ p pb pl m : Nat, p < 65536 → pb < 65536 → 0 < pl → pl < 65536 → revStep p pb pl m = (pb + revBits (Nat.log2 pl)
    ((revBits (Nat.log2 pl) ((((p : Int) - pb) % 2 ^ (Nat.log2 pl)).toNat) + revBits (Nat.log2 pl) (m % 2 ^ (Nat.log2 pl))) % 2 ^ (Nat.log2 pl))) % 65536) ∧
  (∀ p pb pl m : Nat, p < 65536 → pb < 65536 → 0 < pl → pb + pl ≤ 65536 → pb ≤ revStep p pb pl m ∧ revStep p pb pl m < pb + 2 ^ (Nat.log2 pl))

/-- Writes in flight (R233–R235): a write is seen from the cycle after it is due, other targets do not see it, and of two writes of one register in one
cycle the later instruction's is kept. -/
def Obligations.PipelineWrites : Prop :=
  (∀ (l : List PWrite) (w : PWrite), l.Pairwise (fun a b => a.due ≤ b.due) → (addPend l w).Pairwise (fun a b => a.due ≤ b.due)) ∧
  (∀ (l : List PWrite) (w : PWrite) (tau base : Nat), tau ≤ w.due → pendView (addPend l w) w.tgt tau base = pendView l w.tgt tau base) ∧
  (∀ (l : List PWrite) (w : PWrite) (tgt : PTgt) (tau base : Nat), tgt ≠ w.tgt → pendView (addPend l w) tgt tau base = pendView l tgt tau base) ∧
  (∀ (l : List PWrite) (w : PWrite) (tau base : Nat), l.Pairwise (fun a b => a.due ≤ b.due) → (∀ x ∈ l, x.tgt = w.tgt → x.due ≤ w.due) → w.due < tau →
    pendView (addPend l w) w.tgt tau base = mergeBits (pendView l w.tgt tau base) w.mask w.val) ∧
  (∀ v w : Nat, v < 65536 → w < 65536 → mergeBits v 0xFFFF w = w)

/-- Starting and stopping DMA channels, by register and by command (R53, R280-R282, R482). Bursts, responses and reissues of DMA channels (R40, R271,
R272, R274-R277). A stop drops the fetch of the next descriptor and lets the bursts already begun go on. -/
def Obligations.DmaChannels : Prop :=
  (∀ (r : Req) (s : State) (e c v : Nat), c < 32 → s.grantsWrite r .chCtl e c v → bitAt v 31 = true → bitAt v 30 = true →
    exec (.channelStart r) s = .next (State.respond (State.dmaTryStart ((s.takeReq r).setReg .chCtl e c (Rg.chCtl.written (s.reg .chCtl e c) v))
      (32 * e + c)) r svcOK [])) ∧
  (∀ (r : Req) (s : State) (e c v : Nat), c < 32 → s.grantsWrite r .chCtl e c v → bitAt v 31 = false → bitAt v 30 = false →
    s.flag F.chCtl_enable e c = true →
    exec (.chCtlEnable r) s = .next (State.respond (State.dmaAbort ((s.takeReq r).setReg .chCtl e c (Rg.chCtl.written (s.reg .chCtl e c) v))
      (32 * e + c)) r svcOK [])) ∧
  (∀ (s : State) (k : Nat), s.dmaCanStart k = false → s.dmaTryStart k = s) ∧
  (∀ (s : State) (k : Nat), s.regsWf = true → s.dmaCanStart k = true → ∃ u, s.dmaTryStart k = u ∧ (u.chan k).want = some (s.chHead k) ∧ (u.chan k).todo = [] ∧
    (u.chan k).bursts = [] ∧ (u.chan k).cur = none ∧ u.pw = s.pw ∧ u.hosts = s.hosts ∧ u.net = s.net) ∧
  (∀ (s : State) (k : Nat) (c : Channel), s.chState k = 1 → (s.chan k).finishUnit = c → s.dmaAbort k = State.dmaPump 16
    ((s.setChan k (Channel.fillOver { c with
      nxt := none, want := none, fetch := none, mism := none
      todo := c.todo.filter (fun r => r.kind ≠ 0), retries := c.retries.filter (fun r => r.kind ≠ 0) } 0xFF)).setChState k 2) k) ∧
  (∀ (c : Channel) (d : Desc), c.cur = some d → d.mode ≠ 3 → c.finishUnit = c) ∧
  (∀ (s : State) (k burst code : Nat), s.chState k ≠ 1 → s.dmaRefuse k 0 burst code = s) ∧
  (∀ (s : State) (k : Nat), s.chState k ≠ 1 → s.dmaAbort k = s) ∧
  (∀ (p : Port) (m : Mbox) (s : State), s.ready p m 0x0300 → s.arg p m 8 8 % 32 = 0 →
    s.portTenant p = s.chanTenant (32 * s.arg p m 0 1 + s.arg p m 1 1) → s.dmaFree (32 * s.arg p m 0 1 + s.arg p m 1 1) = true →
    exec (.dmaRun p m) s = .next (State.reply (State.dmaStart (State.setF
      ((s.taken p m).setPair .chHeadLo .chHeadHi ((32 * s.arg p m 0 1 + s.arg p m 1 1) / 32) ((32 * s.arg p m 0 1 + s.arg p m 1 1) % 32) (s.arg p m 8 8))
      F.chCtl_prio ((32 * s.arg p m 0 1 + s.arg p m 1 1) / 32) ((32 * s.arg p m 0 1 + s.arg p m 1 1) % 32) (s.arg p m 2 1))
      (32 * s.arg p m 0 1 + s.arg p m 1 1)) p m 0 [])) ∧
  (∀ (p : Port) (m : Mbox) (s : State), s.ready p m 0x0300 → s.arg p m 8 8 % 32 = 0 →
    s.portTenant p = s.chanTenant (32 * s.arg p m 0 1 + s.arg p m 1 1) → s.dmaFree (32 * s.arg p m 0 1 + s.arg p m 1 1) = false →
    exec (.dmaRun p m) s = .next ((s.taken p m).reply p m 0x15 [])) ∧
  (∀ (p : Port) (m : Mbox) (s : State) (k : Nat), s.ready p m 0x0301 → 32 * s.arg p m 0 1 + s.arg p m 1 1 = k → s.portTenant p = s.chanTenant k →
    exec (.dmaStatus p m) s = .next ((s.taken p m).reply p m 0 (leBytes 4 (s.chStatusView k) ++ leBytes 4 0 ++ leBytes 8 (s.chDesc k) ++
      leBytes 8 (s.reg .chMmLo (k / 32) (k % 32) + 2 ^ 32 * s.reg .chMmHi (k / 32) (k % 32))))) ∧
  (∀ (p : Port) (m : Mbox) (s : State) (k : Nat), s.ready p m 0x0302 → 32 * s.arg p m 0 1 + s.arg p m 1 1 = k → s.portTenant p = s.chanTenant k →
    exec (.dmaStop p m) s = .next (State.reply (State.dmaAbort ((s.taken p m).setF F.chCtl_enable (k / 32) (k % 32) 0) k) p m 0 [])) ∧
  (∀ (p : Port) (m : Mbox) (s : State) (k : Nat), s.ready p m 0x0302 → 32 * s.arg p m 0 1 + s.arg p m 1 1 = k → s.portTenant p ≠ s.chanTenant k →
    exec (.dmaStop p m) s = .next ((s.taken p m).reply p m 0x12 [])) ∧
  (∀ (e : DmaEng) (s : State), s.inHold = true → exec (.dmaBurstIssue e) s = .next s) ∧
  (∀ (e : DmaEng) (s : State), s.dmaBegun e ≠ [] → exec (.dmaBurstIssue e) s = .next s) ∧
  (∀ (e : DmaEng) (s : State), s.inHold = false → s.dmaPick e = none → exec (.dmaBurstIssue e) s = .next s) ∧
  (∀ (e : DmaEng) (s : State) (c a : Nat), s.inHold = false → s.dmaBegun e = [] → s.dmaPick e = some c → (s.chan (32 * e.val + c)).want = some a →
    exec (.dmaBurstIssue e) s = .next (State.dmaPump 1
      (State.setChan { s with dma.rr := tput 31 s.dma.rr (e.val * 8 + s.getF F.chCtl_prio e c) c } (32 * e.val + c)
        { s.chan (32 * e.val + c) with want := none, fetch := some a, todo := [⟨0, a, ⟨a, 32, 0, []⟩⟩] }) (32 * e.val + c))) ∧
  (∀ (e : DmaEng) (s : State) (c : Nat) (d : Desc), s.inHold = false → s.dmaBegun e = [] → s.dmaPick e = some c → (s.chan (32 * e.val + c)).want = none →
    (s.chan (32 * e.val + c)).cur = some d →
    exec (.dmaBurstIssue e) s = .next (State.dmaPump 256
      (State.dmaBegin { s with dma.rr := tput 31 s.dma.rr (e.val * 8 + s.getF F.chCtl_prio e c) c } (32 * e.val + c) d) (32 * e.val + c))) ∧
  (∀ (r : Resp) (s : State) (o : Outst) (k kind burst off n : Nat), s.net.resps.contains r = true → s.findOut r.src r.sport r.tag r.gen = some o →
    o.who = .dma k kind burst off n → r.crcOk = true →
    exec (.dmaResponse r) s = .next ((State.retire (s.takeResp r) o).dmaResp o k kind burst off r.svc r.data)) ∧
  (∀ (s : State) (o : Outst) (k kind burst off : Nat) (data : List Byte), (s.chan k).expects kind burst = true →
    s.dmaResp o k kind burst off 2 data = State.dmaPumpAll (s.setChan k { s.chan k with
      retries := (s.chan k).retries ++ [⟨kind, burst, ⟨o.req.addr, o.req.size, off, o.req.data⟩⟩] }) (k / 32)) ∧
  (∀ (s : State) (o : Outst) (k kind burst off svc : Nat) (data : List Byte), (s.chan k).expects kind burst = true → 3 ≤ svc → s.chState k = 1 →
    s.dmaResp o k kind burst off svc data = State.dmaPumpAll (s.dmaFail k svc (if kind = 0 then 0 else if kind = 2 then 2 else 1)
      (if kind = 0 then burst else s.chDesc k)) (k / 32)) ∧
  (∀ (s : State) (o : Outst) (k kind burst off svc : Nat) (data : List Byte), (s.chan k).expects kind burst = false →
    s.dmaResp o k kind burst off svc data = s.dmaPumpAll (k / 32)) ∧
  (∀ (k : Fin 512) (s : State) (r : Retry) (rest : List Retry), (s.chan k).retries = r :: rest →
    exec (.dmaReissue k true) s = .next (State.dmaPumpAll ((s.setChan k { s.chan k with retries := rest }).dmaRefuse k r.kind r.burst 2) (k.val / 32))) ∧
  (∀ (k : Fin 512) (s : State) (r : Retry) (rest : List Retry) (dst dport : Nat), (s.chan k).retries = r :: rest → s.chanOuts k < 64 →
    s.engOuts (k.val / 32) < 128 → s.decodeDst (niOf (s.dmaReq k r).src / 256) r.piece.addr = some (dst, dport) →
    reqShape (s.dmaReq k r).op r.piece.addr r.piece.len = true → s.routed (s.dmaReq k r).src dst = true → s.hasTag (s.dmaReq k r) = true →
    let u := s.sendReq (.dma k r.kind r.burst r.piece.off r.piece.len) (s.dmaReq k r) dst dport
    exec (.dmaReissue k false) s = .next (State.count (u.setChan k { u.chan k with retries := rest }) F.chCounts_retries (k.val / 32) (k.val % 32) 1)) ∧
  (∀ (d : Desc), d.falls = true → d.mode = 0 ∨ d.mode = 3) ∧
  (∀ (d : Desc) (pos : Nat), d.falls = true → pos < d.len → (d.nextBurst pos).1 + (d.nextBurst pos).2 = d.len - pos ∧
    0 < (d.nextBurst pos).2 ∧ (d.nextBurst pos).2 ≤ 256) ∧
  (∀ (d : Desc) (off : Nat), off < d.len → 0 < burstLen d off ∧ burstLen d off ≤ 256 ∧ off + burstLen d off ≤ d.len ∧
    (d.dst + off) % 256 + burstLen d off ≤ 256) ∧
  (∀ (narrow : Bool) (a n : Nat), ((pieces narrow a n).map (·.2)).sum = n)

/-- Region commands (R284, R288, R289, R291, R295, R297–R300, R478): what each leaves, and how it is answered. The steps of a swap (R289, R291–R298,
R300, R301, R303): a step that ends while Maltar does not run is taken by Maltar later, and the regions of a die take their steps in the order of
acceptance. -/
def Obligations.RegionSwaps : Prop :=
  (∀ (p : Port) (m : Mbox) (s : State) (r : Nat), s.ready p m 0x0100 → s.arg p m 0 1 = r → s.portTenant p = 0 ∨ s.portTenant p = s.regionTenant r →
    exec (.regionStatus p m) s = .next ((s.taken p m).reply p m 0 (leBytes 4 (s.reg .regionStatus 0 r) ++ leBytes 4 (s.reg .regionFault 0 r)))) ∧
  (∀ (p : Port) (m : Mbox) (s : State) (r : Nat), s.ready p m 0x0100 → s.arg p m 0 1 = r → s.portTenant p ≠ 0 → s.portTenant p ≠ s.regionTenant r →
    exec (.regionStatus p m) s = .next ((s.taken p m).reply p m 0x12 [])) ∧
  (∀ (p : Port) (m : Mbox) (s : State) (r : Nat), s.ready p m 0x0101 → s.arg p m 0 1 = r → (s.taken p m).regionRefuses (s.portTenant p) r [0] = none →
    s.arg p m 1 1 = 0 → s.imageOk (s.arg p m 2 1) (s.arg p m 3 1) = true → s.arg p m 24 8 = 0 →
    exec (.regionSwap p m) s = .next (State.answer (State.regionJoin ((s.taken p m).setRegion r { s.region r with
      classes := 0
      image := some (s.arg p m 2 1, s.arg p m 3 1, s.arg p m 8 8)
      buffer := none
      plan := [] }) r) (s.ctxOf p m) (.accepted ((s.ctxOf p m).op r [s.arg p m 4 4])))) ∧
  (∀ (p : Port) (m : Mbox) (s : State) (r code : Nat), s.ready p m 0x0101 → s.arg p m 0 1 = r →
    (s.taken p m).regionRefuses (s.portTenant p) r [0] = some code → exec (.regionSwap p m) s = .next ((s.taken p m).reply p m code [])) ∧
  (∀ (p : Port) (m : Mbox) (s : State) (r : Nat), s.ready p m 0x0102 → s.arg p m 0 1 = r → (s.taken p m).regionRefuses (s.portTenant p) r [0] = none →
    exec (.regionFence p m) s = .next (State.answer ((s.taken p m).fenceStart r) (s.ctxOf p m) (.accepted ((s.ctxOf p m).op r [s.arg p m 4 4])))) ∧
  (∀ (p : Port) (m : Mbox) (s : State) (r : Nat), s.ready p m 0x0103 → s.arg p m 0 1 = r → (s.taken p m).regionRefuses (s.portTenant p) r [1] = none →
    s.arg p m 8 8 % 64 = 0 →
    exec (.regionCapture p m) s = .next (State.answer ((((s.taken p m).setRegion r { s.region r with
      classes := s.arg p m 1 1, buffer := some (s.arg p m 8 8) }).setRState r 3).regionJoin r) (s.ctxOf p m) (.accepted ((s.ctxOf p m).op r [])))) ∧
  (∀ (p : Port) (m : Mbox) (s : State) (r : Nat), s.ready p m 0x0104 → s.arg p m 0 1 = r → (s.taken p m).regionRefuses (s.portTenant p) r [1, 5] = none →
    s.imageOk (s.arg p m 2 1) (s.arg p m 3 1) = true →
    exec (.regionLoad p m) s = .next (State.answer (((s.taken p m).setRegion r { s.region r with
      image := some (s.arg p m 2 1, s.arg p m 3 1, s.arg p m 8 8), classes := 0 }).regionJoin r) (s.ctxOf p m) (.accepted ((s.ctxOf p m).op r [])))) ∧
  (∀ (p : Port) (m : Mbox) (s : State) (r : Nat), s.ready p m 0x0105 → s.arg p m 0 1 = r →
    (s.taken p m).regionRefuses (s.portTenant p) r [1] = none → (s.region r).loaded = true →
    let q := (s.taken p m).bufRead (s.regionTenant r) (s.arg p m 8 8) 64
    q.2.1 = 0 → captureOk q.2.2 r (q.1.regionTenant r) = true →
    exec (.regionRestore p m) s = .next (State.answer
      (((q.1.setRegion r { q.1.region r with buffer := some (s.arg p m 8 8) }).setRState r 4).regionJoin r) (s.ctxOf p m) (.accepted ((s.ctxOf p m).op r [])))) ∧
  (∀ (p : Port) (m : Mbox) (s : State) (r : Nat), s.ready p m 0x0105 → s.arg p m 0 1 = r →
    (s.taken p m).regionRefuses (s.portTenant p) r [1] = none → (s.region r).loaded = true →
    let q := (s.taken p m).bufRead (s.regionTenant r) (s.arg p m 8 8) 64
    q.2.1 = 0 → captureOk q.2.2 r (q.1.regionTenant r) = false → exec (.regionRestore p m) s = .next (q.1.reply p m 0x10 [])) ∧
  (∀ (p : Port) (m : Mbox) (s : State) (r : Nat), s.ready p m 0x0106 → s.arg p m 0 1 = r → (s.taken p m).regionRefuses (s.portTenant p) r [1] = none →
    s.arg p m 8 8 = 0 →
    exec (.regionRelease p m) s = .next (State.releaseAccepted (State.answer ((s.taken p m).setRegion r { s.region r with plan := [] }) (s.ctxOf p m)
      (.accepted ((s.ctxOf p m).op r []))))) ∧
  (∀ (p : Port) (m : Mbox) (s : State) (r : Nat), s.ready p m 0x0107 → s.arg p m 0 1 = r → (s.taken p m).regionRefuses (s.portTenant p) r [1] = none →
    exec (.regionBlank p m) s = .next (State.answer (((s.taken p m).blankStart r 0).regionJoin r) (s.ctxOf p m) (.accepted ((s.ctxOf p m).op r [])))) ∧
  (∀ (s : State) (tenant r : Nat) (l : List Nat), tenant ≠ 0 → tenant ≠ s.regionTenant r → s.regionRefuses tenant r l = some 0x12) ∧
  (∀ (s : State) (tenant r : Nat) (l : List Nat), s.regionRefuses tenant r l = none → s.regionState r ∈ l) ∧
  (∀ (r : RegionId) (errs e : List Bool) (s : State) (o : LongOp), s.maltarRuns = true → s.regionOp r = some o → o.opcode = 0x0101 →
    (s.region r).image.isSome = true → (s.region r).fencing = 0 → (s.region r).failCode = none → s.regionState r = 0 →
    (if (s.regionSrc r).2.1.isNone then errs else []) = e →
    let q := (s.storeErrs 0 e).regionHeader r
    let u := q.1.setRegion r { q.1.region r with hdr := q.2.2 }
    q.2.1 = 0 → unread e = false → q.1.regionHeaderCode r q.2.2 = 0 → exec (.regionHeaderChecked r errs) s = .next (u.fenceStart r)) ∧
  (∀ (r : RegionId) (errs e : List Bool) (s : State) (o : LongOp), s.maltarRuns = true → s.regionOp r = some o → o.opcode = 0x0104 →
    (s.region r).image.isSome = true → (s.region r).fencing = 0 → (s.region r).failCode = none → s.regionState r = 1 ∨ s.regionState r = 5 →
    (if (s.regionSrc r).2.1.isNone then errs else []) = e →
    let q := (s.storeErrs 0 e).regionHeader r
    let u := q.1.setRegion r { q.1.region r with hdr := q.2.2 }
    q.2.1 = 0 → unread e = false → q.1.regionHeaderCode r q.2.2 = 0 → exec (.regionHeaderChecked r errs) s = .next (u.loadStart r)) ∧
  (∀ (r : RegionId) (errs e : List Bool) (s : State) (o : LongOp), s.maltarRuns = true → s.regionOp r = some o → o.opcode = 0x0101 →
    (s.region r).image.isSome = true → (s.region r).fencing = 0 → (s.region r).failCode = none → s.regionState r = 0 →
    (if (s.regionSrc r).2.1.isNone then errs else []) = e →
    let q := (s.storeErrs 0 e).regionHeader r
    let u := q.1.setRegion r { q.1.region r with hdr := q.2.2 }
    q.2.1 = 0 → unread e = false → q.1.regionHeaderCode r q.2.2 ≠ 0 →
    exec (.regionHeaderChecked r errs) s = .next (u.regionDone r (q.1.regionHeaderCode r q.2.2))) ∧
  (∀ (r : RegionId) (errs e : List Bool) (s : State) (o : LongOp), s.maltarRuns = true → s.regionOp r = some o → o.opcode = 0x0101 →
    (s.region r).image.isSome = true → (s.region r).fencing = 0 → (s.region r).failCode = none → s.regionState r = 0 →
    (if (s.regionSrc r).2.1.isNone then errs else []) = e →
    let q := (s.storeErrs 0 e).regionHeader r
    let u := q.1.setRegion r { q.1.region r with hdr := q.2.2 }
    q.2.1 = 0 → unread e = true → exec (.regionHeaderChecked r errs) s = .next (u.regionDone r 0x22)) ∧
  (∀ (r : RegionId) (s : State), s.maltarRuns = true → (s.region r).fencing = 1 →
    let u := s.setRegion r { s.region r with fencing := 2, clamped := true, clamps := s.fenceValues r }
    exec (.drainEnd r) s = .next (State.forTiles (u.rtFence r) r (fun t s =>
      iter 4 (fun n s => s.qDisable (4 * t + n)) (((s.fenceEngine t).dropTqi t).sinkKept t)))) ∧
  (∀ (s : State) (r : Nat), s.fenceStart r = (s.forTiles r (fun t s => s.setF F.niStatus_fenced t 0 1)).setRegion r
    { (s.forTiles r (fun t s => s.setF F.niStatus_fenced t 0 1)).region r with fencing := 1 }) ∧
  (∀ (r : RegionId) (s : State) (o : LongOp), s.maltarRuns = true → (s.region r).fencing = 2 →
    let u := s.forTiles r (fun t s => s.fenceForce t)
    (∀ t ∈ (u.region r).tiles, u.niOuts t = 0 ∧ (u.engine t).run ≠ .running ∧ (u.engine t).run ≠ .idle) → (u.region r).blank = false →
    State.regionOp ((u.setRegion r { u.region r with fencing := 0 }).setRState r 1) r = some o → o.opcode = 0x0102 →
    exec (.fenceComplete r) s = .next (((u.setRegion r { u.region r with fencing := 0 }).setRState r 1).regionDone r 0)) ∧
  (∀ (r : RegionId) (s : State) (t : Nat), s.maltarRuns = true → (s.region r).fencing = 2 →
    let u := s.forTiles r (fun t s => s.fenceForce t)
    t ∈ (u.region r).tiles → u.niOuts t ≠ 0 → exec (.fenceComplete r) s = .next u) ∧
  (∀ (r : RegionId) (s : State), s.regionState r = 3 → s.stepTurn r = true → (s.region r).due = none →
    let recs := s.captureRecs r (s.region r).classes
    let w := s.writeRecs (s.regionTenant r) ((s.region r).buffer.getD 0 + 64) recs
    let v := w.1.bufWrite (s.regionTenant r) ((s.region r).buffer.getD 0) (captureHeader r (s.regionTenant r) (s.region r).classes recs.length)
    (w.2 = 0 → exec (.captureDone r) s = .next (v.1.stepEnd r 1 v.2 0)) ∧ (w.2 ≠ 0 → exec (.captureDone r) s = .next (w.1.stepEnd r 1 w.2 0))) ∧
  (∀ (s : State) (r : Nat) (o : LongOp), let u := (s.setRegion r { s.region r with loaded := false }).setRState r 1
    (u.regionOp r = some o → o.opcode = 0x0103 → s.captureEnd r 0 = u.regionDone r 0) ∧
    (u.regionOp r = some o → o.opcode = 0x0101 → s.captureEnd r 0 = u.loadStart r) ∧
    (∀ code, code ≠ 0 → s.captureEnd r code = (u.regionFault r code 0).regionDone r code)) ∧
  (∀ (r : RegionId) (cfg : ImageCfg) (gap : Option Word32) (s u : State) (d : Nat), s.regionState r = 2 → (s.region r).failCode = none →
    s.stepTurn r = true → (s.region r).due = none → iter 4 (fun d s => s.ctlReport (some r.val) d (gap.map (·.toNat))) s = u →
    (∀ d < 4, (u.ctl (some r.val) d).reported = true) →
    (List.range 4).find? (fun d => (u.ctl (some r.val) d).fail.isSome) = some d →
    exec (.regionLoadDone r cfg gap) s = .next (u.stepEnd r 2 ((u.ctl (some r.val) d).fail.getD 0) (u.ctl (some r.val) d).failAddr)) ∧
  (∀ (r : RegionId) (cfg : ImageCfg) (gap : Option Word32) (s u : State), s.regionState r = 2 → (s.region r).failCode = none →
    s.stepTurn r = true → (s.region r).due = none → iter 4 (fun d s => s.ctlReport (some r.val) d (gap.map (·.toNat))) s = u →
    (∀ d < 4, (u.ctl (some r.val) d).reported = true ∧ (u.ctl (some r.val) d).fail = none) →
    let v := iter 4 (fun d s => s.setCtl (some r.val) d LoadCtl.init) (State.setXings
      ((cfg.tiles.filter (fun p => (u.region r).tiles.contains p.1 && u.carried p.1)).foldl (fun s p => s.setTile p.1 p.2) u)
      (u.region r).tiles cfg.xings)
    exec (.regionLoadDone r cfg gap) s = .next ((v.setRegion r { v.region r with image := none }).stepEnd r 2 0 0)) ∧
  (∀ (s : State) (r addr : Nat) (o : LongOp), let u := (s.setRegion r { s.region r with loaded := true }).setRState r 1
    (u.regionOp r = some o → o.opcode = 0x0104 → s.loadEnd r 0 addr = u.regionDone r 0) ∧
    (u.regionOp r = some o → o.opcode = 0x0101 → (u.region r).classes = 0 → s.loadEnd r 0 addr = (u.regionRelease r).regionDone r 0) ∧
    (∀ code, code ≠ 0 → s.loadEnd r code addr = (s.regionFault r code addr).blankStart r code)) ∧
  (∀ (r : RegionId) (s : State), s.regionState r = 4 → s.stepTurn r = true → (s.region r).due = none →
    let q := s.bufRead (s.regionTenant r) ((s.region r).buffer.getD 0) 64
    let v := q.1.restoreRecs r (s.regionTenant r) ((s.region r).buffer.getD 0 + 64) (leAt q.2.2 8 4)
    q.2.1 = 0 → (captureOk q.2.2 r (s.regionTenant r) = true → v.2 = none → exec (.restoreDone r) s = .next (v.1.stepEnd r 3 0 0)) ∧
      (∀ c a, captureOk q.2.2 r (s.regionTenant r) = true → v.2 = some (c, a) → exec (.restoreDone r) s = .next (v.1.stepEnd r 3 c a)) ∧
      (captureOk q.2.2 r (s.regionTenant r) = false → exec (.restoreDone r) s = .next (q.1.stepEnd r 3 0x10 0))) ∧
  (∀ (s : State) (r addr : Nat) (o : LongOp), let u := (s.setRegion r { s.region r with restored := true }).setRState r 1
    (u.regionOp r = some o → o.opcode = 0x0105 → s.restoreEnd r 0 addr = u.regionDone r 0) ∧
    (∀ code, code ≠ 0 → s.restoreEnd r code addr = (s.regionFault r code addr).blankStart r code)) ∧
  (∀ (r : RegionId) (s : State) (code : Nat), (s.region r).failCode = some code → s.regionState r = 2 → s.stepTurn r = true → (s.region r).due = none →
    exec (.blankingDone r none) s = .next ((s.regionClear r).stepEnd r 4 0 0) ∧
    (∀ a : Word32, frKind a.toNat = 0 → (s.region r).tiles.contains (frTile a.toNat) = true →
      exec (.blankingDone r (some a)) s = .next ((s.regionClear r).stepEnd r 4 0xFF a.toNat))) ∧
  (∀ (s : State) (r why addr : Nat), (s.region r).failCode = some why →
    s.blankEnd r 0 addr = ((s.setRegion r { s.region r with failCode := none }).setRState r 5).regionDone r why) ∧
  (∀ (s : State) (r code addr : Nat), (s.region r).due = some (1, code, addr) →
    (s.maltarRuns = true → s.stepGo r = (s.setRegion r { s.region r with due := none }).captureEnd r code) ∧ (s.maltarRuns = false → s.stepGo r = s)) ∧
  (∀ (s : State) (r code addr : Nat), (s.region r).due = some (2, code, addr) → s.maltarRuns = true →
    s.stepGo r = (s.setRegion r { s.region r with due := none }).loadEnd r code addr) ∧
  (∀ (s : State) (r code addr : Nat), (s.region r).due = some (3, code, addr) → s.maltarRuns = true →
    s.stepGo r = (s.setRegion r { s.region r with due := none }).restoreEnd r code addr) ∧
  (∀ (s : State) (r code addr : Nat), (s.region r).due = some (4, code, addr) → s.maltarRuns = true →
    s.stepGo r = (s.setRegion r { s.region r with due := none }).blankEnd r code addr) ∧
  (∀ (r : RegionId) (s : State) (code addr : Nat), (s.region r).due = some (1, code, addr) → exec (.captureDone r) s = .next (s.stepGo r)) ∧
  (∀ (s : State) (r d x : Nat), s.rgn.order.find? (fun x => s.regionOn x d) = some x → s.regionTurn r d = decide (x = r))

/-- The stack controllers' requests (R306, R311–R314, R316, R325, R329), and that a real-time request in panic is never late (R357). -/
def Obligations.HbmRequests : Prop :=
  (∀ (r : Req) (s : State) (code : Nat), s.net.reqs.contains r = true → 1024 ≤ r.dst → r.addr < 0x1800000000 → r.crcOk = true →
    s.portRefuses (s.hbmLocal r.addr).1 (s.hbmLocal r.addr).2 r = some code →
    exec (.memoryPortRequest r) s = .next ((s.takeReq r).respond r code [])) ∧
  (∀ (r : Req) (s : State), s.net.reqs.contains r = true → 1024 ≤ r.dst → r.addr < 0x1800000000 → r.crcOk = true →
    s.portRefuses (s.hbmLocal r.addr).1 (s.hbmLocal r.addr).2 r = none →
    let st := (s.hbmLocal r.addr).1
    let l := (s.hbmLocal r.addr).2
    exec (.memoryPortRequest r) s = .next (State.setHreqs { s.takeReq r with hbm.nextId := s.hbm.nextId + 1 } st
      (s.hreqs st ++ [⟨s.hbm.nextId, r, (s.hbmLoc st l).pc, l, 0, false, false, false, 0, 0, [], false, false⟩]))) ∧
  (∀ (r : Req) (s : State) (st l : Nat), r.op ≠ .invalidate → s.protGrant st r.rq r.op l = true → s.pwinAt st (unitOf l) = none →
    (s.hbmSt st = 3 → s.portRefuses st l r = some svcFrozen) ∧ (s.hbmSt st = 0 ∨ s.hbmSt st = 4 → s.portRefuses st l r = some svcBusy)) ∧
  (∀ (st : Die) (pc : Fin 32) (late : List Nat) (s : State), s.hbmRuns st = false → exec (.hbmSchedule st pc late) s = .next s) ∧
  (∀ (st : Die) (pc : Fin 32) (s u : State) (h : HReq), s.hbmRuns st = true →
    { s.setHreqs st (s.hreqs st) with hbm.wmode := tput false s.hbm.wmode (st.val * 32 + pc.val) ((s.setHreqs st (s.hreqs st)).writesFirst st pc) } = u →
    u.hbmPick st pc = some h →
    exec (.hbmSchedule st pc []) s = .next (State.activate (u.setHreqs st ((u.hreqs st).map
      (fun x => if x.id = h.id then { x with phase := 1 } else x))) st h.loc)) ∧
  (∀ (st : Die) (pc bank : Fin 32) (s : State), s.hreqs st = [] →
    exec (.rowClose st pc bank) s = .next { s with hbm.rows := tput 0 s.hbm.rows ((st.val * 32 + pc.val) * 32 + bank.val) 0 }) ∧
  (∀ (st : Die) (id : Nat) (sev : Fin 4) (acc : Nat) (late : Bool) (p : ProtIn) (s : State) (h : HReq),
    (s.hreqs st).find? (fun h => decide (h.id = id) && decide (h.phase = 1)) = some h → s.hbmSt st ≠ 0 → s.hbmSt st ≠ 3 →
    exec (.hbmAccessDone st id sev acc true late p) s = .next (s.hbmFreeze st 3 h.loc)) ∧
  (∀ (st : Die) (id : Nat) (sev : Fin 4) (acc : Nat) (slow : Bool) (p : ProtIn) (s : State) (h : HReq),
    (s.hreqs st).find? (fun h => decide (h.id = id) && decide (h.phase = 1)) = some h → s.hbmSt st ≠ 0 → s.hbmSt st ≠ 3 →
    h.req.op = .read ∨ s.shared h.req.addr = false ∨ 12 ≤ (s.tagsFree (1024 + 16 * st.val + h.pc / 2) 1).length →
    let q := s.severity st (s.readAccs st h.req.op h.loc h.req.size) sev acc
    let late := slow && !s.urgent st h
    (q.2.1 = 0 → exec (.hbmAccessDone st id sev acc false slow p) s = .next (q.1.hcomplete st h late p)) ∧
    (q.2.1 = 1 ∨ q.2.1 = 2 → exec (.hbmAccessDone st id sev acc false slow p) s =
      .next ((q.1.eccError .stack st false 8 q.2.2.1 0 q.2.1).hcomplete st h late p)) ∧
    (q.2.1 = 3 →
      let u := q.1.eccError .stack st true 8 q.2.2.1 0 3
      let v := if q.2.2.2 then u else { u with hbm.bad := tput false u.hbm.bad (accKey st q.2.2.1) true }
      exec (.hbmAccessDone st id sev acc false slow p) s = .next (State.hbmFreeze (v.setHreqs st ((v.hreqs st).map
        (fun x => if x.id = h.id then { x with failed := true } else x))) st 1 (32 * q.2.2.1)))) ∧
  (∀ (s : State) (st : Nat) (h : HReq) (late : Bool) (p : ProtIn), s.pwinAt st (unitOf h.loc) = none → h.req.op = .read →
    s.hcomplete st h late p = State.hanswer (s.hperform st h.loc h.req.size h.req.op h.req.data).1 st h 0 false late
      (s.hperform st h.loc h.req.size h.req.op h.req.data).2) ∧
  (∀ (s : State) (st : Nat) (h : HReq) (poison : Bool) (data : List Byte), h.gone = false → s.hanswer st h 0 poison true data =
    State.hsend (State.count (s.setHreqs st ((s.hreqs st).filter (fun x => x.id ≠ h.id))) F.hbmCounts_delayed st 0 1) h.req 1 poison data) ∧
  (∀ (r : Resp) (late : Bool) (s : State) (o : Outst) (st wid : Nat), s.net.resps.contains r = true → s.findOut r.src r.sport r.tag r.gen = some o →
    o.who = .inval st wid → r.crcOk = true →
    exec (.invalidateResponse r late) s = .next ((State.retire (s.takeResp r) o).invalEnd st wid r.svc late)) ∧
  (∀ (s : State) (st wid : Nat) (late : Bool), s.invalEnd st wid 0 late = s.invalBack st wid late)

/-- Refresh, temperature bands, rates, freeze and thaw, initialization and its failing steps, also for the order of the rails (R519), and the
commands of the stack controllers (R53, R315–R326, R331, R482). A real-time level keeps its fence value while clamps apply (R286). -/
def Obligations.HbmUpkeep : Prop :=
  (∀ (st : Die) (pc : Fin 32) (s : State), s.hbmSt st = 0 ∨ s.selfRefresh st = true → exec (.perBankRefresh st pc) s = .next s) ∧
  (∀ (st : Die) (pc : Fin 32) (s : State), s.hbmSt st = 1 → s.selfRefresh st = false → s.panic st = false →
    exec (.perBankRefresh st pc) s = .next { s with
      hbm.rot := tput 0 s.hbm.rot (st.val * 32 + pc.val) ((tget 0 s.hbm.rot (st.val * 32 + pc.val) + 1) % 32)
      hbm.rows := tput 0 s.hbm.rows ((st.val * 32 + pc.val) * 32 + tget 0 s.hbm.rot (st.val * 32 + pc.val)) 0 }) ∧
  (∀ (st : Die) (j : Fin 4) (level : Fin 16) (s : State), s.flag F.hbmRt_en st j = true → s.pw.mode = .run →
    exec (.rtlevelChange st j level) s = .next (State.panicUpdate (s.setF F.hbmRt_level st j (s.rtClamp (s.rtTile st j) level)) st)) ∧
  (∀ (s : State) (t level : Nat), level < 16 → (∀ i < 4, s.clamp t (.pin t .ni .rtlevel i) = none) → s.rtClamp t level = level) ∧
  (∀ (st : Die) (s : State), s.tempKnown st = true → exec (.hbmTempPoll st none) s = .next (s.setF F.hbmStatus_temp st 0 0x80)) ∧
  (∀ (st : Die) (t : Fin 256) (s u : State) (b : Nat), s.tempKnown st = true → s.stackTemp st (some t.val) = u → u.hbmSt st = 1 → u.hchange st = none →
    u.maltarRuns = true → u.getF F.hbmStatus_band st 0 = b → bandFor b (sgn 8 t.val) ≠ b →
    let v := State.setHchange { (u.setHbmSt st 2).precharge st with hbm.bandDue := tput false u.hbm.bandDue st false } st
      (some ⟨none, some (bandFor b (sgn 8 t.val))⟩)
    (staleAt b (sgn 8 t.val) = false → exec (.hbmTempPoll st (some t)) s = .next v) ∧
    (staleAt b (sgn 8 t.val) = true → v.flag F.hbmStatus_delayStale st 0 = false → exec (.hbmTempPoll st (some t)) s =
      .next (State.alarm (v.setF F.hbmStatus_delayStale st 0 1) 255 0x0C (st.val * 256 + t.val * 65536) 0 (srcOf .hbm st)))) ∧
  (∀ (s : State) (st e : Nat), (s.precharge st).hbm.rows.all (fun x => decide (x.1 / 1024 ≠ st)) = true ∧
    (e / 1024 ≠ st → (s.precharge st).hbm.rows.find? (fun x => decide (x.1 = e)) = s.hbm.rows.find? (fun x => decide (x.1 = e)))) ∧
  (∀ (st : Die) (s u : State) (b : Nat), s.hchange st = some ⟨none, some b⟩ → s.drained st = true →
    State.unstale ((s.setF F.hbmStatus_band st 0 b).writeDelays st b) st = u →
    exec (.bandChangeDone st) s = .next (State.setHbmSt (u.setHchange st none) st
      (if u.flag F.hbmCtl_enable st 0 = true then (if u.pw.mode = .rest then 2 else 1) else 4))) ∧
  (∀ (s : State) (st : Nat), s.regsWf = true → st < 4 → s.flag F.hbmStatus_delayStale st 0 = true →
    (s.unstale st).flag F.hbmStatus_delayStale st 0 = false ∧
    ((∀ d < 4, d ≠ st → s.flag F.hbmStatus_delayStale d 0 = false) → (⟨255, 0x0C⟩ : Alarm) ∉ (s.unstale st).hosts.alarms)) ∧
  (∀ (r : Req) (s : State) (st v : Nat), s.grantsWrite r .hbmCtl st 0 v → bitAt v 30 = true → bitAt v 31 = false → bitAt v 0 = true →
    s.flag F.hbmCtl_enable st 0 = true →
    exec (.rateGo r) s = .next (State.respond (State.rateGo ((s.takeReq r).setReg .hbmCtl st 0 (Rg.hbmCtl.written (s.reg .hbmCtl st 0) v)) st) r svcOK [])) ∧
  (∀ (r : Req) (s : State) (st v : Nat), s.grantsWrite r .hbmCtl st 0 v → bitAt v 30 = false → bitAt v 31 = true → bitAt v 0 = true →
    s.flag F.hbmCtl_enable st 0 = true →
    exec (.thaw r) s = .next (State.respond (State.hbmThaw ((s.takeReq r).setReg .hbmCtl st 0 (Rg.hbmCtl.written (s.reg .hbmCtl st 0) v)) st) r svcOK [])) ∧
  (∀ (r : Req) (s : State) (st v : Nat), s.grantsWrite r .hbmCtl st 0 v → bitAt v 30 = false → bitAt v 31 = false → bitAt v 0 = false →
    s.flag F.hbmCtl_enable st 0 = true →
    exec (.hbmCtlEnable r) s =
      .next (State.respond (State.hbmDisable ((s.takeReq r).setReg .hbmCtl st 0 (Rg.hbmCtl.written (s.reg .hbmCtl st 0) v)) st) r svcOK [])) ∧
  (∀ (s : State) (st : Nat), s.hbmSt st = 3 → s.getF F.hbmFreeze_cause st 0 ≠ 4 →
    (∀ h ∈ s.hreqs st, h.failed = false ∧ h.unver = false) → s.hbmThaw st = State.setDegr (State.setHbmSt
      (((s.setHreqs st ((s.hreqs st).map (fun h => { h with first := true }))).setReg .hbmFreeze st 0 0).setReg .hbmFreezeRow st 0 0) st
      (if s.pw.mode = .rest then 2 else 1)) st false) ∧
  (∀ (s : State) (st : Nat), s.hbmSt st ≠ 3 → s.hbmThaw st = s) ∧
  (∀ (st : Die) (s u : State) (rate : Nat), s.hchange st = some ⟨some rate, none⟩ → s.drained st = true →
    [(Rg.hbmTim0, Rg.hbmTim0Sh), (.hbmTim1, .hbmTim1Sh), (.hbmTim2, .hbmTim2Sh)].foldl
      (fun s p => (s.setReg p.1 st 0 (s.reg p.2 st 0)).setReg p.2 st 0 (s.reg p.1 st 0)) s = u →
    exec (.rateChangeDone st) s = .next (State.finishOps ((u.setF F.hbmStatus_rate st 0 rate).changeEnd st) st [0x0311] 0 0 0 [])) ∧
  (∀ (p : Port) (m : Mbox) (s : State), s.ready p m 0x0310 →
    exec (.hbmStatus p m) s = .next ((s.taken p m).reply p m 0 (leBytes 4 (s.reg .hbmStatus (s.arg p m 0 1) 0) ++
      leBytes 4 (s.reg .hbmFreeze (s.arg p m 0 1) 0) ++ leBytes 4 (s.freezeRowView (s.arg p m 0 1))))) ∧
  (∀ (p : Port) (m : Mbox) (s : State) (st : Nat), s.ready p m 0x0311 → s.portTenant p = 0 → s.arg p m 0 1 = st → s.hbmSt st = 1 → s.hchange st = none →
    exec (.hbmRate p m) s = .next (State.addWait (State.rateStart ((((s.taken p m).setReg .hbmTim0Sh st 0 (Rg.hbmTim0Sh.rst 0)).setReg
      .hbmTim1Sh st 0 (Rg.hbmTim1Sh.rst 0)).setReg .hbmTim2Sh st 0 (Rg.hbmTim2Sh.rst 0)) st (s.arg p m 1 1)) ((s.ctxOf p m).op st []))) ∧
  (∀ (p : Port) (m : Mbox) (s : State) (st : Nat), s.ready p m 0x0311 → s.portTenant p = 0 → s.arg p m 0 1 = st → s.hbmSt st = 3 →
    exec (.hbmRate p m) s = .next ((s.taken p m).reply p m 0x40 [])) ∧
  (∀ (p : Port) (m : Mbox) (s : State), s.ready p m 0x0312 → s.portTenant p = 0 → s.hbmSt (s.arg p m 0 1) ≠ 3 →
    exec (.hbmThaw p m) s = .next ((s.taken p m).reply p m 0 [])) ∧
  (∀ (p : Port) (m : Mbox) (s : State) (st : Nat), s.ready p m 0x0312 → s.portTenant p = 0 → s.arg p m 0 1 = st → s.hbmSt st = 3 →
    s.getF F.hbmFreeze_cause st 0 ≠ 4 → exec (.hbmThaw p m) s = .next (((s.taken p m).hbmThaw st).reply p m 0 [])) ∧
  (∀ (p : Port) (m : Mbox) (s : State) (st : Nat), s.ready p m 0x0312 → s.portTenant p = 0 → s.arg p m 0 1 = st → s.hbmSt st = 3 →
    s.getF F.hbmFreeze_cause st 0 = 4 → exec (.hbmThaw p m) s = .next ((s.taken p m).reply p m 0x10 [])) ∧
  (∀ (p : Port) (m : Mbox) (s : State), s.ready p m 0x0312 → s.portTenant p ≠ 0 → exec (.hbmThaw p m) s = .next ((s.taken p m).reply p m 0x12 [])) ∧
  (∀ (st : Die) (fail : Option (Fin 5)) (t : Option (Fin 256)) (rfm : Bool) (s : State), s.hbmSt st ≠ 0 ∨ s.pw.step < 4 →
    exec (.hbmInitDone st fail t rfm) s = .next s.dropSwaps.huddleCheck) ∧
  (∀ (st : Die) (t : Option (Fin 256)) (rfm : Bool) (s u v : State) (b : Nat), s.hbmSt st = 0 → 4 ≤ s.pw.step →
    bitAt s.elec.railOrder st = false ∨ tget false s.hbm.reinit st = true →
    State.stackTemp { s with
      hbm.reinit := tput false s.hbm.reinit st false
      pw.hbmEnded := if bitAt s.pw.hbmEnded st then s.pw.hbmEnded else s.pw.hbmEnded + 2 ^ st.val } st (t.map (·.val)) = u →
    (match t with | some x => bandAt (sgn 8 x.val) | none => 1) = b →
    State.setDegr (State.setHbmSt (State.setF (State.zeroStack (State.drawScr
        ((((u.bootTimings st).writeDelays st b).setF F.hbmStatus_band st 0 b).setF F.hbmDisturb_rfm st 0 (b2n rfm)) st) st)
      F.hbmStatus_rate st 0 (leAt (State.bootSetting (State.zeroStack (State.drawScr
        ((((u.bootTimings st).writeDelays st b).setF F.hbmStatus_band st 0 b).setF F.hbmDisturb_rfm st 0 (b2n rfm)) st) st) 0x0021 st) 0 1)) st 1) st false = v →
    exec (.hbmInitDone st none t rfm) s = .next (State.huddleCheck (State.dropSwaps (if v.flag F.hbmCtl_enable st 0 = true then v else v.setHbmSt st 4)))) ∧
  (∀ (x : Int), (x < 0 → bandAt x = 0) ∧ (0 ≤ x → x ≤ 70 → bandAt x = 1) ∧ (70 < x → bandAt x = 2)) ∧
  (∀ (st : Die) (t : Option (Fin 256)) (rfm : Bool) (s u : State), s.hbmSt st = 0 → 4 ≤ s.pw.step →
    { s with
      hbm.reinit := tput false s.hbm.reinit st false
      pw.hbmEnded := if bitAt s.pw.hbmEnded st then s.pw.hbmEnded else s.pw.hbmEnded + 2 ^ st.val } = u →
    exec (.hbmInitDone st (some 0) t rfm) s = .next (State.huddleCheck (State.dropSwaps (u.hbmFreeze st 4 0))) ∧
    exec (.hbmInitDone st (some 1) t rfm) s = .next (State.huddleCheck (State.dropSwaps ((u.stackTemp st (t.map (·.val))).hbmFreeze st 4 0))) ∧
    (bitAt s.elec.railOrder st = true → tget false s.hbm.reinit st = false →
      exec (.hbmInitDone st none t rfm) s = .next (State.huddleCheck (State.dropSwaps (u.hbmFreeze st 4 0))))) ∧
  (∀ (s : State), s.pw.hbmEnded ≠ 15 → s.dropSwaps = s)

/-- The remote caches and the shared windows (R327–R329, R332, R482); a line that fails its check is dropped and logged (R371, R374). -/
def Obligations.RemoteCaches : Prop :=
  (∀ (r : Req) (errs : List LineErr) (s : State), s.net.reqs.contains r = true → r.dst < 1024 → r.dst = dieTile (r.dst / 256) → r.addr < 0x1800000000 →
    r.op ≠ .invalidate → r.crcOk = true → s.protGrant (s.hbmLocal r.addr).1 r.rq r.op (s.hbmLocal r.addr).2 = false →
    exec (.remoteCacheRequest r errs) s = .next ((s.takeReq r).respond r svcDenied [])) ∧
  (∀ (r : Req) (s : State) (d l : Nat) (x : RLine), s.net.reqs.contains r = true → r.dst < 1024 → r.dst = dieTile d → r.dst / 256 = d →
    r.addr < 0x1800000000 → r.op = .read → r.crcOk = true → s.protGrant (s.hbmLocal r.addr).1 r.rq .read (s.hbmLocal r.addr).2 = true →
    rlines r = [l] → s.rline d l = some x →
    exec (.remoteCacheRequest r []) s = .next (State.readAnswer (State.count
      (State.setRline { s.takeReq r with hbm.stamp := s.hbm.stamp + 1 } d l (some { x with used := s.hbm.stamp })) F.rcacheCounts_hits d 0 1)
      ⟨r, [], [(l, x.data)], 0⟩)) ∧
  (∀ (r : Req) (s : State) (d l : Nat), s.net.reqs.contains r = true → r.dst < 1024 → r.dst = dieTile d → r.dst / 256 = d →
    r.addr < 0x1800000000 → r.op = .read → r.crcOk = true → s.protGrant (s.hbmLocal r.addr).1 r.rq .read (s.hbmLocal r.addr).2 = true →
    rlines r = [l] → s.rline d l = none → s.hbm.fills.find? (fun f => decide (f.die = d) && decide (f.line = l) && !f.stale) = none →
    s.shared (l * 64) = true →
    let u := s.takeReq r
    let q : Req := { mkReq .read (l * 64) 64 r.tenant r.mclass (dieTile d) 5 [] with scopeAll := r.scopeAll, path := r.path }
    let dst := 1024 + 16 * (s.hbmLocal (l * 64)).1 + (s.hbmLoc (s.hbmLocal (l * 64)).1 (s.hbmLocal (l * 64)).2).pc / 2
    let v := u.sendReq (.rcache d s.hbm.nextId true) q dst 1
    u.routed (dieTile d) dst = true → u.hasTag q = true → s.tagsFree (dieTile d) 5 ≠ [] →
    exec (.remoteCacheRequest r []) s = .next (State.count { v with
      hbm.nextId := s.hbm.nextId + 1
      hbm.fills := s.hbm.fills ++ [⟨s.hbm.nextId, d, l, false⟩]
      hbm.waits := s.hbm.waits ++ [⟨r, [s.hbm.nextId], [], 0⟩] } F.rcacheCounts_misses d 0 1)) ∧
  (∀ (r : Req) (errs : List LineErr) (s : State) (d : Nat), s.net.reqs.contains r = true → r.dst < 1024 → r.dst = dieTile d → r.dst / 256 = d →
    r.addr < 0x1800000000 → r.op ≠ .read → r.op ≠ .invalidate → r.crcOk = true →
    s.protGrant (s.hbmLocal r.addr).1 r.rq r.op (s.hbmLocal r.addr).2 = true →
    let q : Req := { r with src := dieTile d, sport := 5, rt := false }
    let dst := 1024 + 16 * (s.hbmLocal r.addr).1 + (s.hbmLoc (s.hbmLocal r.addr).1 (s.hbmLocal r.addr).2).pc / 2
    let v := s.sendReq (.rcache d s.hbm.nextId false) q dst 1
    reqShape r.op r.addr r.size = true → s.routed (dieTile d) dst = true → s.hasTag q = true →
    exec (.remoteCacheRequest r errs) s = .next
      (State.takeReq { v with hbm.nextId := s.hbm.nextId + 1, hbm.fwds := s.hbm.fwds ++ [⟨s.hbm.nextId, r⟩] } r)) ∧
  (∀ (r : Resp) (s : State) (o : Outst) (d id : Nat) (fill : Bool), s.net.resps.contains r = true → s.findOut r.src r.sport r.tag r.gen = some o →
    o.who = .rcache d id fill → r.crcOk = true →
    exec (.cacheFillResponse r) s = .next ((State.retire (s.takeResp r) o).cacheEnd id fill r.svc r.poison r.data false)) ∧
  (∀ (s : State) (id svc : Nat) (poison : Bool) (data : List Byte) (f : RFwd), s.hbm.fwds.find? (fun f => f.id = id) = some f →
    s.cacheEnd id false svc poison data false =
      State.hsend { s with hbm.fwds := s.hbm.fwds.filter (fun x => x.id ≠ id) } f.req svc poison data) ∧
  (∀ (r : Req) (s : State), s.net.reqs.contains r = true → r.dst < 1024 → r.dst = dieTile (r.dst / 256) → r.op = .invalidate →
    (s.holdsLine (r.dst / 256) (r.addr / 64)).length ≤ (s.tagsFree r.dst 5).length →
    exec (.invalidate r) s = .next (State.respond (State.dropLine (s.takeReq r) (r.dst / 256) (r.addr / 64)) r svcOK [])) ∧
  (∀ (s : State) (d line : Nat) (data : List Byte), (s.rset d line).length < 16 →
    s.install d line data = State.setRline { s with hbm.stamp := s.hbm.stamp + 1 } d line (some ⟨data, s.hbm.stamp⟩)) ∧
  (∀ (s : State) (d l : Nat) (e : LineErr), e.pos = 0 → e.ue = true → (s.rline d l).isSome = true →
    s.lineErrs d [l] [e] = State.setRline (s.eccError .stack d true 0xB (e.loc % 2 ^ 18) (e.par % 2) (e.syn % 128)) d l none) ∧
  (∀ a b : Nat, (1 < a → joinSvc a b = a) ∧ (a ≤ 1 → 1 < b → joinSvc a b = b) ∧ (a ≤ 1 → b ≤ 1 → joinSvc a b = max a b)) ∧
  (∀ (s : State) (d line : Nat), Tbl.wf (fun _ => none) s.hbm.lines = true → (s.dropLine d line).rline d line = none) ∧
  (∀ (p : Port) (m : Mbox) (s : State), s.ready p m 0x0313 → s.portTenant p = 0 → s.arg p m 1 1 = 1 → s.arg p m 6 2 ≠ 0 →
    s.arg p m 4 2 + s.arg p m 6 2 ≤ 1536 → s.sharesProt (s.arg p m 4 2) (s.arg p m 6 2) = false → bitAt (s.reg .rcacheWin 0 (s.arg p m 0 1)) 31 = false →
    exec (.sharedWindow p m) s = .next (State.reply (iter 4 (fun d u => u.setReg .rcacheWin d (s.arg p m 0 1)
      (2 ^ 31 + s.arg p m 6 2 * 65536 + s.arg p m 4 2)) ((s.taken p m).dropRange (s.arg p m 4 2) (s.arg p m 6 2))) p m 0 [])) ∧
  (∀ (p : Port) (m : Mbox) (s : State), s.canTake p m 0x0313 = true → (s.mbox p m).relay = false → s.portFull p 0x0313 = false →
    (s.mbox p m).payload.length = 8 → s.arg p m 1 1 = 1 → 1536 < s.arg p m 4 2 + s.arg p m 6 2 →
    exec (.sharedWindow p m) s = .next ((s.taken p m).reply p m 0x10 []))

/-- Protected windows (R338, R340, R345–R347, R351, R352, R482); what waits for Maltar ends once it runs, and PROT_STATUS of a FAILED window receives
BAD_VALUE. -/
def Obligations.ProtectedWindows : Prop :=
  (∀ (st : Die) (s : State), exec (.rootScrub st []) s = .next s) ∧
  (∀ (st : Die) (i : Fin 16) (p : Bool) (y : Fin 128) (s u : State), s.getF F.pwinCtl_state st i ≠ 0 →
    s.eccError .stack st true 0xA i (b2n p) y = u → u.getF F.pwinCtl_state st i ≠ 4 →
    exec (.rootScrub st [(i, true, p, y)]) s = .next (State.alarm (u.setF F.pwinCtl_state st i 4) (u.getF F.pwinCtl_tenant st i) 0x0F
      (st.val * 256 + i.val * 4096) 0 (srcOf .prot st))) ∧
  (∀ (p : Port) (m : Mbox) (s : State), s.ready p m 0x0320 → s.enableRange (s.arg p m 0 8) (s.arg p m 8 8) = none →
    exec (.protEnable p m) s = .next ((s.taken p m).reply p m 0x11 [])) ∧
  (∀ (p : Port) (m : Mbox) (s : State) (b u st k i t r : Nat), s.ready p m 0x0320 →
    (s.taken p m).enableRange (s.arg p m 0 8) (s.arg p m 8 8) = some (b, u, [st]) → 32 * s.arg p m 19 1 + s.arg p m 20 1 = k →
    (s.taken p m).unitOwner st b = s.portTenant p → (s.taken p m).chanTenant k = s.portTenant p → (s.taken p m).inTwin st b u = true →
    (s.taken p m).meetsShared (s.arg p m 0 8) (s.arg p m 8 8) = false →
    (List.range u).any (fun j => ((s.taken p m).pwinAt st (b + j)).isSome) = false →
    (s.taken p m).protBusy st = false → (s.taken p m).dmaFree k = true → (s.taken p m).getF F.hbmStatus_state st 0 ≠ 3 →
    (s.taken p m).enablePlan u [st] = some [(st, i, t, r)] →
    exec (.protEnable p m) s = .next (State.answer (State.dmaFill ((s.taken p m).pwinCreate st i b u t r
        ⟨s.portTenant p, s.arg p m 16 2, s.arg p m 18 1, k, s.arg p m 24 8⟩) k (16 * st + i) none (s.arg p m 0 8) (s.arg p m 8 8) (s.arg p m 24 8))
      (s.ctxOf p m) (.accepted ((s.ctxOf p m).op k
        ((List.range 4).map (fun x => ((if st = x then some (st, i, t, r) else none).map (fun (q : Nat × Nat × Nat × Nat) => q.2.1)).getD 255)))))) ∧
  (∀ (k : Fin 512) (s : State), s.opsOn k [0x0320] = [] → exec (.protEnableDone k) s = .next s) ∧
  (∀ (k : Fin 512) (s : State) (o : LongOp) (l : List LongOp) (code : Nat), s.maltarRuns = true → s.opsOn k [0x0320] = o :: l → code ≠ 0 →
    s.fillEnd k ((enableWins o.args).map (·.1)) = some code → exec (.protEnableDone k) s = .next (s.enableFail o code)) ∧
  (∀ (k : Fin 512) (s : State) (o : LongOp) (l : List LongOp) (st i : Nat), s.maltarRuns = true → s.opsOn k [0x0320] = o :: l → enableWins o.args = [(st, i)] →
    s.fillEnd k [st] = some 0 → s.getF F.pwinCtl_state st i = 1 →
    exec (.protEnableDone k) s = .next (State.finishOp (State.dmaRelease ((s.setF F.pwinCtl_state st i 2).setPwin (16 * st + i)
      { s.pwin (16 * st + i) with chan := none }) k) o 0 (leNat (o.args.map (BitVec.ofNat 8))) 0 [])) ∧
  (∀ (p : Port) (m : Mbox) (s : State) (st i k : Nat), s.ready p m 0x0321 → s.arg p m 0 1 = st → s.arg p m 1 1 = i →
    32 * s.arg p m 2 1 + s.arg p m 3 1 = k → (s.taken p m).ownsWin (s.portTenant p) st i = true → (s.taken p m).chanTenant k = s.portTenant p →
    (s.taken p m).winBusy st i = false → (s.taken p m).dmaFree k = true →
    exec (.protDisable p m) s = .next (
      let u := State.setPwin ((s.taken p m).setF F.pwinCtl_state st i 5) (16 * st + i)
        { State.pwin ((s.taken p m).setF F.pwinCtl_state st i 5) (16 * st + i) with chan := some k, fill := 0 }
      State.answer (u.dmaFill k (16 * st + i) (u.winFill st i 0).1 (u.winFill st i 0).2 (u.getF F.pwinRange_size st i * 0x4000000) 0)
        (s.ctxOf p m) (.accepted ((s.ctxOf p m).op k [st, i])))) ∧
  (∀ (p : Port) (m : Mbox) (s : State), s.ready p m 0x0321 → (s.taken p m).ownsWin (s.portTenant p) (s.arg p m 0 1) (s.arg p m 1 1) = false →
    exec (.protDisable p m) s = .next ((s.taken p m).reply p m 0x12 [])) ∧
  (∀ (k : Fin 512) (s : State) (o : LongOp) (l : List LongOp), s.maltarRuns = true → s.opsOn k [0x0321] = o :: l → s.fillEnd k [lget 0 o.args 0] = some 0 →
    exec (.protDisableDone k) s =
      .next (State.finishOp ((s.pwinClear (lget 0 o.args 0) (lget 0 o.args 1)).dmaRelease k) o 0 0 0 [])) ∧
  (∀ (p : Port) (m : Mbox) (s : State) (st i : Nat), s.ready p m 0x0322 → s.arg p m 0 1 = st → s.arg p m 1 1 = i →
    (s.taken p m).ownsWin (s.portTenant p) st i = true → (s.taken p m).winBusy st i = false → (s.taken p m).getF F.pwinCtl_state st i ≠ 4 →
    exec (.protRights p m) s = .next (State.reply ((s.taken p m).setReg .pwinRights st i (s.arg p m 4 1 % 2 * 2 ^ 31 + s.arg p m 2 2)) p m 0 [])) ∧
  (∀ (p : Port) (m : Mbox) (s : State) (st i k : Nat), s.ready p m 0x0323 → s.arg p m 0 1 = st → s.arg p m 1 1 = i →
    32 * s.arg p m 2 1 + s.arg p m 3 1 = k → (s.taken p m).ownsWin (s.portTenant p) st i = true → (s.taken p m).chanTenant k = s.portTenant p →
    (s.taken p m).getF F.hbmStatus_state st 0 ≠ 3 → (s.taken p m).getF F.pwinCtl_state st i ≠ 4 → (s.taken p m).flag F.pwinFault_valid st i = true →
    (s.taken p m).winBusy st i = false → (s.taken p m).protBusy st = false → (s.taken p m).dmaFree k = true →
    exec (.protRebuild p m) s = .next (
      let j := (s.taken p m).getF F.pwinFault_level st i
      let n := (s.taken p m).getF F.pwinFault_node st i
      let a := ((s.taken p m).fetchNode ((s.taken p m).levels st i) st i (j + 1) (n / 8) ProtIn.clean).1
      let b := if j + 1 < a.levels st i then a.setCached st i (j + 1) (n / 8) (some true) else a
      let v := State.setF ((b.bumpChild st i j n ProtIn.clean).freshSubtree st i j n) F.pwinCtl_state st i 3
      let u := v.setPwin (16 * st + i) { v.pwin (16 * st + i) with chan := some k, fill := s.arg p m 8 8 }
      State.answer (u.dmaFill k (16 * st + i) (u.winFill st i (n * (64 * 8 ^ j) * 64)).1 (u.winFill st i (n * (64 * 8 ^ j) * 64)).2
        (min (64 * 8 ^ j) ((s.taken p m).getF F.pwinRange_size st i * 0x100000 - n * (64 * 8 ^ j)) * 64) (s.arg p m 8 8))
        (s.ctxOf p m) (.accepted ((s.ctxOf p m).op k [st, i])))) ∧
  (∀ (k : Fin 512) (s : State) (o : LongOp) (l : List LongOp), s.maltarRuns = true → s.opsOn k [0x0323] = o :: l → s.fillEnd k [lget 0 o.args 0] = some 0 →
    ∃ u : State, exec (.protRebuildDone k) s = .next (State.finishOp (u.dmaRelease k) o 0 0 0 []) ∧
      u = (let j := s.getF F.pwinFault_level (lget 0 o.args 0) (lget 0 o.args 1)
           let n := s.getF F.pwinFault_node (lget 0 o.args 0) (lget 0 o.args 1)
           let w := s.pwin (16 * lget 0 o.args 0 + lget 0 o.args 1)
           let a := State.setReg (s.setPwin (16 * lget 0 o.args 0 + lget 0 o.args 1)
             { w with unver := w.unver.filter (fun e => !(decide (e.1 ≤ j) && decide (e.2 / 8 ^ (j - e.1) = n))) })
             .pwinFault (lget 0 o.args 0) (lget 0 o.args 1) 0
           let v := a.setPwin (16 * lget 0 o.args 0 + lget 0 o.args 1)
             { a.pwin (16 * lget 0 o.args 0 + lget 0 o.args 1) with chan := none }
           if v.getF F.pwinCtl_state (lget 0 o.args 0) (lget 0 o.args 1) = 3 then v.setF F.pwinCtl_state (lget 0 o.args 0) (lget 0 o.args 1) 2 else v)) ∧
  (∀ (p : Port) (m : Mbox) (s : State) (st i : Nat), s.ready p m 0x0324 → s.arg p m 0 1 = st → s.arg p m 1 1 = i →
    s.portTenant p = 0 ∨ (s.taken p m).ownsWin (s.portTenant p) st i = true → (s.taken p m).getF F.pwinCtl_state st i = 4 →
    exec (.protStatus p m) s = .next ((s.taken p m).reply p m 0x10 [])) ∧
  (∀ (p : Port) (m : Mbox) (s : State) (st i : Nat), s.ready p m 0x0324 → s.arg p m 0 1 = st → s.arg p m 1 1 = i →
    s.portTenant p = 0 ∨ (s.taken p m).ownsWin (s.portTenant p) st i = true → (s.taken p m).getF F.pwinCtl_state st i ≠ 4 →
    exec (.protStatus p m) s = .next ((s.taken p m).reply p m 0 ([Rg.pwinRange, .pwinCtl, .pwinRights, .pwinMeta, .pwinTamper, .pwinFault].flatMap
      (fun r => leBytes 4 (s.reg r st i)))))

/-- Error logs and test modes (R373, R375, R376, R483), and the in-service test (R81, R377–R382). How far the patrol goes in a test mode is the
model's choice (log entry 129). -/
def Obligations.TestModes : Prop :=
  (∀ (p : Port) (m : Mbox) (s : State), s.ready p m 0x0330 → s.portTenant p = 0 → s.arg p m 0 1 = 0 → s.arg p m 2 2 < 1024 →
    Rg.eccTestT.okWrite (s.arg p m 4 4) = true →
    exec (.eccTest p m) s = .next (State.reply ((s.taken p m).writeEccTestT (s.arg p m 2 2) (s.arg p m 4 4)) p m 0 [])) ∧
  (∀ (p : Port) (m : Mbox) (s : State), s.canTake p m 0x0330 = true → (s.mbox p m).relay = false → s.portFull p 0x0330 = false →
    (s.mbox p m).payload.length = 8 → s.arg p m 0 1 = 0 → 1024 ≤ s.arg p m 2 2 →
    exec (.eccTest p m) s = .next ((s.taken p m).reply p m 0x10 [])) ∧
  (∀ (p : Port) (m : Mbox) (s : State), s.ready p m 0x0331 → s.portTenant p = 0 → s.arg p m 0 1 = 0 → s.arg p m 1 1 = 0 → s.arg p m 2 2 < 1024 →
    exec (.eccLog p m) s = .next ((s.taken p m).reply p m 0 (leBytes 4 (s.reg .eccCountT (s.arg p m 2 2) 0) ++ (List.range 16).flatMap
      (fun k => leBytes 4 (s.reg EGroup.tile.loR (s.arg p m 2 2) k) ++ leBytes 4 (s.reg EGroup.tile.hiR (s.arg p m 2 2) k))))) ∧
  (∀ (p : Port) (m : Mbox) (s : State), s.ready p m 0x0340 → s.portTenant p = 0 → (∀ k < 5, istOk k (s.arg p m (8 * k) 8) = true) →
    exec (.istSchedule p m) s = .next (State.reply { s.taken p m with ecc.period := (List.range 5).map (fun k =>
      if s.arg p m (8 * k) 8 = 2 ^ 64 - 1 then s.ecc.period.getD k 0 else s.arg p m (8 * k) 8) } p m 0 [])) ∧
  (∀ (r : Req) (s : State) (t v : Nat), s.grantsWrite r .eccLogctlT t 0 v → bitAt v 31 = true →
    exec (.eccClear r) s = .next (State.respond ((s.takeReq r).eccClear .tile t) r svcOK [])) ∧
  (∀ (r : Req) (s : State) (t v : Nat), s.grantsWrite r .eccTestT t 0 v → bits v 23 20 ≠ 0 →
    exec (.qflip r) s = .next (State.respond ((s.takeReq r).writeEccTestT t v) r svcOK [])) ∧
  (∀ (r : Req) (s : State) (t v : Nat), s.grantsWrite r .eccTestT t 0 v → bitAt v 19 = true →
    exec (.chkArm r) s = .next (State.respond ((s.takeReq r).writeEccTestT t v) r svcOK [])) ∧
  (∀ (s : State) (t v : Nat), bitAt v 31 = false →
    s.writeEccTestT t v = s.setReg .eccTestT t 0 (Rg.eccTestT.written (s.reg .eccTestT t 0) (setBits v 19 19 (bits (s.reg .eccTestT t 0) 19 19)))) ∧
  (∀ (r : Req) (s : State) (st v : Nat), s.grantsWrite r .eccTestS st 0 v → bitAt v 31 = true → bits v 1 0 ≠ 0 →
    exec (.sevInj r) s = .next (State.respond
      (let u := (s.takeReq r).setReg .eccTestS st 0 (Rg.eccTestS.written (s.reg .eccTestS st 0) v)
       { u with ecc.sev := tput 0 u.ecc.sev st (bits v 1 0) }) r svcOK [])) ∧
  (∀ (late : Bool) (s : State), s.istRuns 0 = false → exec (.tileScrub late) s = .next s) ∧
  (∀ (late : Bool) (s : State), s.istRuns 0 = true → s.eng = [] → s.fab.blks = [] → exec (.tileScrub late) s = .next (s.istDone 0 late)) ∧
  (∀ (late : Bool) (t : Tile) (p : Fin 8) (s : State), s.istRuns 1 = true → s.portOn t p = true →
    exec (.linkTest late [(t, p, true)]) s = .next ((s.inputFault t p).istDone 1 late) ∧
    exec (.linkTest late [(t, p, false)]) s = .next ((s.count F.rtrErrors_corrected t 0 1).istDone 1 late)) ∧
  (∀ (late : Bool) (s : State), s.istRuns 1 = true → exec (.linkTest late []) s = .next (s.istDone 1 late)) ∧
  (∀ (late : Bool) (d : Die) (p : Fin 2) (c : Fin 16) (b : Fin 64) (line : Fin 68) (s : State), s.istRuns 2 = true → b.val < 48 →
    exec (.seamSpareTest late [(d, p, c, b, line)]) s = .next ((s.lineFails d p c b line).istDone 2 late)) ∧
  (∀ (s : State) (d p c b line : Nat), s.lineCarries (fkey (seamOf d p) c b) line = (false, none) → s.lineFails d p c b line = s) ∧
  (∀ (late : Bool) (reps : List (Die × Fin 0x30000000 × Fin 4)) (s : State), s.istRuns 3 = true → (∀ st < 4, s.hbmSt st ≠ 1) →
    exec (.hbmPatrol late reps) s = .next (s.istDone 3 late)) ∧
  (∀ (s : State) (st a sev : Nat), sev = 1 ∨ sev = 2 →
    s.patrolAcc st a sev = (s.activate st (32 * a)).eccError .stack st false 8 a 0 sev) ∧
  (∀ (s : State) (st : Nat) (reps : List (Nat × Nat)), s.hbmSt st = 1 → s.flag F.eccTestS_testEn st 0 = true →
    let u := State.activate { s with ecc.sev := tput 0 s.ecc.sev st 0 } st (32 * tget 0 s.ecc.patrol st)
    (tget 0 s.ecc.sev st = 0 → s.patrolStack st reps = s) ∧
    (tget 0 s.ecc.sev st = 1 ∨ tget 0 s.ecc.sev st = 2 →
      s.patrolStack st reps = u.eccError .stack st false 8 (tget 0 s.ecc.patrol st) 0 (tget 0 s.ecc.sev st)) ∧
    (tget 0 s.ecc.sev st = 3 → s.patrolStack st reps =
      State.hbmFreeze (u.eccError .stack st true 8 (tget 0 s.ecc.patrol st) 0 3) st 1 (32 * tget 0 s.ecc.patrol st))) ∧
  (∀ (late : Bool) (d : Die) (b : Fin 786432) (s : State), s.istRuns 4 = true → s.storeBusy = false →
    exec (.storeMarginCheck late [(d, b, none)]) s = .next ((s.marginBlock d b none).istDone 4 late)) ∧
  (∀ (s : State) (d b n : Nat), 0 < n → n < 4 → s.marginBlock d b (some n) = s.eccError .store d false 0xC b 0 0) ∧
  (∀ (s u : State) (d b n : Nat), 4 ≤ n → s.eccError .store d false 0xC b 0 0 = u → tget 0 u.ld.spares d + 1 < 4096 →
    s.marginBlock d b (some n) = { u with
      ld.spares := tput 0 u.ld.spares d (tget 0 u.ld.spares d + 1)
      ld.remap := tput 0 u.ld.remap (d * 2 ^ 20 + b) (tget 0 u.ld.spares d + 1) })

/-! ### Host windows, the management port and relay (20) -/

/-- BAR2 (R463–R465): the map of a segment, requests that are answered at once, those that the port issues, responses, and refused requests
sent again. Unsupported Requests reported through AER are one flag (log entry 22). A posted write to an unmapped segment fails with a code and an address that the manual does not state. -/
def Obligations.HostWindow : Prop :=
  (∀ (p : Port) (m : Mbox) (s : State) (q seg en base : Nat), s.ready p m 0x350 → s.arg p m 0 1 = q → s.arg p m 1 1 = seg → s.arg p m 2 1 = en →
    s.arg p m 4 2 = base → s.portTenant p = s.portTenant q →
    exec (.bar2Map p m) s = .next (((s.taken p m).setReg .hpXlat q seg (2 ^ 31 * en + base)).reply p m 0 [])) ∧
  (∀ (p : Port) (m : Mbox) (s : State) (q : Nat), s.ready p m 0x350 → s.arg p m 0 1 = q → s.portTenant p ≠ s.portTenant q →
    exec (.bar2Map p m) s = .next ((s.taken p m).reply p m 0x12 [])) ∧
  (∀ (p : Die) (off : BitVec 36) (n : Fin 4096) (s : State), s.flag F.hpStatus_linkUp p 0 = true → s.portEnds p = false →
    off.toNat % 4096 + n.val + 1 ≤ 4096 →
    ((s.port p).d3hot = true ∨ s.bar2Mode = false ∨ s.flag F.hpXlat_en p (off.toNat / 2 ^ 32) = false) →
    exec (.bar2Memrd p off n) s = .next (s.setPort p { s.port p with cpls := (s.port p).cpls ++ [⟨2, [], false⟩] })) ∧
  (∀ (p : Die) (off : BitVec 36) (n : Fin 4096) (s : State), s.flag F.hpStatus_linkUp p 0 = true → s.portEnds p = false →
    off.toNat % 4096 + n.val + 1 ≤ 4096 →
    (s.port p).d3hot = false → s.bar2Mode = true → s.flag F.hpXlat_en p (off.toNat / 2 ^ 32) = true →
    exec (.bar2Memrd p off n) s = .next (s.bar2Take p false
      (s.getF F.hpXlat_base p (off.toNat / 2 ^ 32) * 2 ^ 32 + off.toNat % 2 ^ 32) (n.val + 1) [])) ∧
  (∀ (p : Die) (off : BitVec 36) (data : List Byte) (s : State), s.flag F.hpStatus_linkUp p 0 = true → s.portEnds p = false →
    0 < data.length → data.length ≤ 512 →
    off.toNat % 4096 + data.length ≤ 4096 → (s.port p).d3hot = false → s.bar2Mode = true → s.flag F.hpXlat_en p (off.toNat / 2 ^ 32) = true →
    exec (.bar2Memwr p off data) s = .next (s.bar2Take p true
      (s.getF F.hpXlat_base p (off.toNat / 2 ^ 32) * 2 ^ 32 + off.toNat % 2 ^ 32) data.length data)) ∧
  (∀ (p : Die) (off : BitVec 36) (data : List Byte) (s : State), s.flag F.hpStatus_linkUp p 0 = true → s.portEnds p = false →
    0 < data.length → data.length ≤ 512 →
    off.toNat % 4096 + data.length ≤ 4096 → (s.port p).d3hot = false → s.bar2Mode = true → s.flag F.hpXlat_en p (off.toNat / 2 ^ 32) = false →
    ∃ svc a, exec (.bar2Memwr p off data) s = .next (State.bar2Error { s.setPort p { s.port p with aerUr := true } with free := s.free + 2 } p svc a)) ∧
  (∀ (p : Die) (off : BitVec 36) (data : List Byte) (s : State), s.flag F.hpStatus_linkUp p 0 = true → s.portEnds p = false →
    0 < data.length → data.length ≤ 512 → off.toNat % 4096 + data.length ≤ 4096 → (s.port p).d3hot = true ∨ s.bar2Mode = false →
    exec (.bar2Memwr p off data) s = .next (s.setPort p { s.port p with aerUr := true })) ∧
  (∀ (s : State) (p svc a : Nat), s.regsWf = true → p < 4 → s.flag F.hpBar2Err_valid p 0 = true →
    s.bar2Error p svc a = (s.count F.hpCounts_bar2Errs p 0 1).queueEv (s.portTenant p) 6 svc (srcOf .hp p) (a % 2 ^ 48)) ∧
  (∀ (r : Resp) (s : State) (o : Outst) (p id off len : Nat), s.net.resps.contains r = true → s.findOut r.src r.sport r.tag r.gen = some o →
    o.who = .bar2 p id off len → r.crcOk = true →
    exec (.bar2Response r) s = .next ((State.retire (s.takeResp r) o).bar2Resp p id off o.req r.svc r.data)) ∧
  (∀ (p : Die) (s : State) (t : Tlp) (x : Nat × Nat × List Byte) (rest : List (Nat × Nat × List Byte)),
    (s.port p).tlps.find? (fun t => !t.retry.isEmpty) = some t → t.retry = x :: rest →
    exec (.bar2Reissue p true) s = .next ((s.bar2Fail p { t with retry := rest } svcBusy).bar2Go p)) ∧
  (∀ (p : Die) (s u : State) (t : Tlp) (x : Nat × Nat × List Byte) (rest : List (Nat × Nat × List Byte)),
    (s.port p).tlps.find? (fun t => !t.retry.isEmpty) = some t → t.retry = x :: rest → s.bar2Send p t x = (u, some 0) →
    exec (.bar2Reissue p false) s = .next (u.setTlp p { t with retry := rest, left := t.left + 1 }))

/-- Relay (R466–R469, R490, R491): frames on an active Systemlink lane while Maltar runs. Which frames count as broken, and that a frame is lost
while Maltar does not run, are the model's choices (see the log). -/
def Obligations.Relay : Prop :=
  (∀ (l : Lane) (b : List Byte) (s : State), s.sysActive l = true → s.maltarRuns = true → relayOk 0 b = true → leAt b 12 8 = deviceId →
    exec (.relayCommand l b) s = .next (s.relayExecute l b)) ∧
  (∀ (l : Lane) (b : List Byte) (s : State), s.sysActive l = true → s.maltarRuns = true → relayOk 0 b = true → leAt b 12 8 ≠ deviceId →
    63 ≤ leAt b 2 1 → exec (.relayCommand l b) s = .next (s.relayRefuse l 0x31 b)) ∧
  (∀ (l : Lane) (b : List Byte) (s : State), s.sysActive l = true → s.maltarRuns = true → relayOk 0 b = true → leAt b 12 8 ≠ deviceId →
    leAt b 2 1 < 63 → s.relayLane (leAt b 12 8) = none → exec (.relayCommand l b) s = .next (s.relayRefuse l 0x30 b)) ∧
  (∀ (l : Lane) (b : List Byte) (s : State) (out : Nat), s.sysActive l = true → s.maltarRuns = true → relayOk 0 b = true →
    leAt b 12 8 ≠ deviceId → leAt b 2 1 < 63 → s.relayLane (leAt b 12 8) = some out →
    ∃ t, exec (.relayCommand l b) s = .next t ∧ (leAt b 20 2, leAt b 4 8, l.val) ∈ t.hosts.reverse ∧ t.hosts.relayOut = s.hosts.relayOut ++
      [⟨out, 0, leAt b 2 1 + 1, leAt b 3 1, leAt b 4 8, leAt b 12 8, leAt b 20 2, b.drop 24⟩] ∧ t.hosts.ports = s.hosts.ports ∧ t.regs = s.regs) ∧
  (∀ (l : Lane) (b : List Byte) (s : State) (w : RelayWait), s.sysActive l = true → s.maltarRuns = true → relayOk 1 b = true →
    leAt b 4 8 = deviceId → s.hosts.waits.find? (fun w => w.rtag = leAt b 20 2) = some w → (s.mbox w.port w.mbox).state = 2 →
    exec (.relayReply l b) s = .next (State.replyWith { s with hosts.waits := s.hosts.waits.filter (fun w => w.rtag ≠ leAt b 20 2) } w.port w.mbox
      (leAt b 24 1) (leAt b 25 1) (leAt b 36 4) (b.drop 40))) ∧
  (∀ (l : Lane) (b : List Byte) (s : State), s.sysActive l = true → s.maltarRuns = true → relayOk 1 b = true →
    leAt b 4 8 = deviceId → s.hosts.waits.find? (fun w => w.rtag = leAt b 20 2) = none → exec (.relayReply l b) s = .next s) ∧
  (∀ (l : Lane) (b : List Byte) (s : State), s.sysActive l = true → s.maltarRuns = true → relayOk 2 b = true → s.slPresent l = true →
    exec (.relayRoute l b) s = .next (s.relayLearn l b)) ∧
  (∀ (l : Lane) (b : List Byte) (s : State), s.sysActive l = true → relayOk 0 b = false →
    exec (.relayCommand l b) s = .next (s.lnCount F.lnRxCounts_bad l 1)) ∧
  (∀ (routes : List RelayRoute) (l dev hops : Nat) (r : RelayRoute), dev ≠ deviceId → routes.find? (fun r => r.dev = dev) = some r → r.lane ≠ l →
    takeRoute routes l dev hops = if hops < r.hops then routes.filter (fun r => r.dev ≠ dev) ++ [⟨dev, hops, l, 0⟩] else routes) ∧
  (∀ s : State, s.maltarRuns = true → ∃ t, exec .routeExchange s = .next t ∧ t.hosts.waits = s.hosts.waits ∧ t.ld = s.ld ∧ t.pending = s.pending ∧
    t.hosts.routes = (s.hosts.routes.map (fun (r : RelayRoute) => { r with age := r.age + 1 })).filter (fun r => decide (r.age ≤ 3))) ∧
  (∀ (rtag : Word16) (s : State) (w : RelayWait), s.hosts.waits.find? (fun w => w.rtag = rtag.toNat) = some w → s.maltarRuns = true →
    exec (.relayTimeout rtag) s = .next (State.replyWaiting
      { s with hosts.waits := s.hosts.waits.filter (fun w => w.rtag ≠ rtag.toNat) } w.port w.mbox 0x30 [])) ∧
  (∀ (p : Port) (m : Mbox) (s : State) (l : List (Nat × Nat)), s.ready p m 0x900 → ((s.port p).view.drop (48 * s.arg p m 0 1)).take 48 = l →
    exec (.relayView p m) s = .next ((s.taken p m).reply p m 0 (leBytes 1 l.length ++ leBytes 7 0 ++
      l.flatMap (fun (e : Nat × Nat) => leBytes 8 e.1 ++ leBytes 1 e.2 ++ leBytes 1 (b2n (s.trusted e.1)))))) ∧
  (∀ (p : Port) (m : Mbox) (s : State) (l : List RelayRoute), s.ready p m 0x901 → (s.routeOrder.drop (s.arg p m 0 2)).take 48 = l →
    exec (.relayRoutes p m) s = .next ((s.taken p m).reply p m 0 (leBytes 2 s.hosts.routes.length ++ leBytes 1 l.length ++ leBytes 5 0 ++
      l.flatMap (fun (r : RelayRoute) => leBytes 8 r.dev ++ leBytes 1 r.hops ++ leBytes 1 r.lane))))

/-! ### Time (18, 21 group 0x05) -/

/-- Writes of TK_CTL, a staged correction at its tick, alarms, PPS, the servo's retry (R426; half the change, log entry 160), and the copies of
the quads (R411, R413–R420, R431, R432). The commands of group 0x05
(R413–R420, R485). -/
def Obligations.Timekeepers : Prop :=
  (∀ (r : Req) (s : State) (n v : Nat), s.grantsWrite r .tkCtl 0 n v → bitAt v 29 = true →
    exec (.goSet r) s = .next (State.respond ((s.takeReq r).writeTkCtl n v r.rq.tenant (r.rq.mclass = 4)) r svcOK [])) ∧
  (∀ (r : Req) (s : State) (n v : Nat), s.grantsWrite r .tkCtl 0 n v → bitAt v 28 = true →
    exec (.goAdj r) s = .next (State.respond ((s.takeReq r).writeTkCtl n v r.rq.tenant (r.rq.mclass = 4)) r svcOK [])) ∧
  (∀ (r : Req) (s : State) (n v : Nat), s.grantsWrite r .tkCtl 0 n v → bitAt v 27 = true →
    exec (.goIncr r) s = .next (State.respond ((s.takeReq r).writeTkCtl n v r.rq.tenant (r.rq.mclass = 4)) r svcOK [])) ∧
  (∀ (r : Req) (s : State) (n v : Nat), s.grantsWrite r .tkCtl 0 n v → bitAt v 30 = true →
    exec (.arm r) s = .next (State.respond ((s.takeReq r).writeTkCtl n v r.rq.tenant (r.rq.mclass = 4)) r svcOK [])) ∧
  (∀ (r : Req) (s : State) (n v : Nat), s.grantsWrite r .tkCtl 0 n v → bitAt v 26 = true →
    exec (.snap r) s = .next (State.respond ((s.takeReq r).writeTkCtl n v r.rq.tenant (r.rq.mclass = 4)) r svcOK [])) ∧
  (∀ (r : Req) (s : State) (n v : Nat), s.grantsWrite r .tkCtl 0 n v →
    exec (.tkCtlEnable r) s = .next (State.respond ((s.takeReq r).writeTkCtl n v r.rq.tenant (r.rq.mclass = 4)) r svcOK [])) ∧
  (∀ (s : State) (n v tenant : Nat) (ref : Bool), bits v 29 27 = 1 ∨ bits v 29 27 = 2 ∨ bits v 29 27 = 4 → s.flag F.tkStatus_pending 0 n = true →
    s.writeTkCtl n v tenant ref = s) ∧
  (∀ (s : State) (n v tenant : Nat) (ref : Bool), bits v 29 27 = 3 ∨ 4 < bits v 29 27 → s.writeTkCtl n v tenant ref = s) ∧
  (∀ (s : State) (n v tenant : Nat) (ref : Bool), bits v 29 27 = 0 → bitAt v 31 = true → bitAt v 30 = false → bitAt v 26 = true →
    s.writeTkCtl n v tenant ref = (s.setReg .tkCtl 0 n (Rg.tkCtl.written (s.reg .tkCtl 0 n) v)).snap n) ∧
  (∀ (s : State) (n v tenant : Nat) (ref : Bool), bits v 29 27 = 4 → n ≠ 0 → bitAt v 31 = true → bitAt v 26 = false →
    s.flag F.tkStatus_pending 0 n = false → s.writeTkCtl n v tenant ref =
      State.stageCorr (s.setReg .tkCtl 0 n (Rg.tkCtl.written (s.reg .tkCtl 0 n) v)) n (State.goCorr (s.setReg .tkCtl 0 n
        (Rg.tkCtl.written (s.reg .tkCtl 0 n) v)) n 4) none) ∧
  (∀ (n : Tk) (s : State), (s.keeper n).pend = none → exec (.correctionApply n) s = .next s) ∧
  (∀ (n : Tk) (s u : State) (c : Corr), (s.keeper n).pend = some c → (s.keeper n).cmd = none →
    (s.setKeeper n { s.keeper n with pend := none, cmd := none }).setF F.tkStatus_pending 0 n 0 = u → u.corrFault n c = none →
    exec (.correctionApply n) s = .next (u.applyCorr n c)) ∧
  (∀ (n : Tk) (s u : State) (c : Corr) (k : Nat), (s.keeper n).pend = some c → (s.keeper n).cmd = none →
    (s.setKeeper n { s.keeper n with pend := none, cmd := none }).setF F.tkStatus_pending 0 n 0 = u → u.corrFault n c = some k →
    exec (.correctionApply n) s = .next ((u.refuseCorr n k).servoRetry n c none)) ∧
  (∀ (s : State) (n : Nat) (c : Corr) (cmd : Option (Nat × Nat)), n ≠ 0 ∨ cmd.isSome = true ∨ s.flag F.timeCtl_source 0 0 = false ∨
    s.maltarRuns = false ∨ (∀ m, c ≠ .rate m) → s.servoRetry n c cmd = s) ∧
  (∀ (s : State) (m : Nat), s.flag F.timeCtl_source 0 0 = true → s.maltarRuns = true → s.incrNow 0 + 2 ≤ m →
    s.servoRetry 0 (.rate m) none = s.stageCorr 0 (.rate (s.incrNow 0 + (m - s.incrNow 0) / 2)) none) ∧
  (∀ (n : Tk) (s u : State) (c : Corr) (k p m : Nat), (s.keeper n).pend = some c → (s.keeper n).cmd = some (p, m) →
    (s.setKeeper n { s.keeper n with pend := none, cmd := none }).setF F.tkStatus_pending 0 n 0 = u → u.corrFault n c = some k →
    exec (.correctionApply n) s = .next ((u.refuseCorr n k).replyWaiting p m 0x17 [])) ∧
  (∀ (n : Tk) (s : State), s.alarmDue n = false → exec (.alarmFire n) s = .next s) ∧
  (∀ (n : Tk) (s : State), s.alarmDue n = true → s.alarmPeriod n = 0 → s.flag F.tkCtl_alarmEn 0 n = false →
    exec (.alarmFire n) s = .next (s.setKeeper n { s.keeper n with fired := true })) ∧
  (∀ (n : Tk) (s : State), s.alarmDue n = true → s.alarmPeriod n ≠ 0 → s.flag F.tkCtl_alarmEn 0 n = false →
    exec (.alarmFire n) s = .next (s.setKeeper n { s.keeper n with next := (s.keeper n).next + s.alarmPeriod n })) ∧
  (∀ s : State, s.ppsOn = true → s.getF F.ppsOffset_ns 0 0 * 2 ^ 32 ≤ (s.keeper 0).sub →
    (s.keeper 0).sub < s.getF F.ppsOffset_ns 0 0 * 2 ^ 32 + s.incrNow 0 →
    exec .ppsOutRise s = .next { s with tmr.ppsOut := true, tmr.ppsLeft := s.getF F.ppsWidth_us 0 0 * 500 }) ∧
  (∀ s : State, s.ppsOn = false → exec .ppsOutRise s = .next s) ∧
  (∀ s : State, s.tmr.ppsLeft = 0 → exec .ppsOutFall s = .next { s with tmr.ppsOut := false }) ∧
  (∀ s : State, exec .ppsInEdge s =
    .next (iter 8 (fun n s => if s.getF F.tkCapCtl_capSrc 0 n = 1 then s.capture n else s) s)) ∧
  (∀ (s : State) (n : Nat), s.flag F.tkCtl_enable 0 n = true → s.flag F.tkCapCtl_valid 0 n = true →
    s.capture n = s.setF F.tkCapCtl_overrun 0 n 1) ∧
  (∀ (s : State) (q : Nat), q < 48 → s.ctrlUp (q / 12) = true → Tbl.wf (fun _ => none) s.tmr.copies = true →
    ∃ t, exec .quadCopyRealign s = .next t ∧ tget none t.tmr.copies q = none ∧ t.regs = s.regs ∧ t.tmr.tks = s.tmr.tks) ∧
  (∀ (p : Port) (m : Mbox) (s : State) (n : Nat), s.ready p m 0x500 → s.arg p m 0 1 = n → (n = 0 ∨ s.portTenant p = n ∨ s.portTenant p = 0) →
    exec (.timeGet p m) s = .next ((s.taken p m).reply p m 0
      (timeBytes (s.keeper n).val ++ leBytes 8 (s.incrNow n) ++ leBytes 4 (s.reg .tkStatus 0 n)))) ∧
  (∀ (p : Port) (m : Mbox) (s : State) (n : Nat), s.ready p m 0x500 → s.arg p m 0 1 = n → n ≠ 0 → s.portTenant p ≠ n → s.portTenant p ≠ 0 →
    exec (.timeGet p m) s = .next ((s.taken p m).reply p m 0x12 [])) ∧
  (∀ (p : Port) (m : Mbox) (s : State) (n : Nat), s.ready p m 0x501 → s.arg p m 0 1 = n → n = s.portTenant p →
    (n = 0 → s.flag F.timeCtl_source 0 0 = false) → s.flag F.tkStatus_pending 0 n = false →
    exec (.timeSet p m) s = .next ((s.taken p m).stageCorr n (.set (s.arg p m 4 6) (s.arg p m 10 4) (s.arg p m 14 2)) (some (p.val, m.val)))) ∧
  (∀ (p : Port) (m : Mbox) (s : State) (n : Nat), s.ready p m 0x502 → s.arg p m 0 1 = n → n = s.portTenant p →
    (n = 0 → s.flag F.timeCtl_source 0 0 = false) → s.flag F.tkStatus_pending 0 n = false →
    exec (.timeAdjust p m) s = .next ((s.taken p m).stageCorr n (.adj (sgn 64 (s.arg p m 8 8))) (some (p.val, m.val)))) ∧
  (∀ (p : Port) (m : Mbox) (s : State) (n : Nat), s.ready p m 0x503 → s.arg p m 0 1 = n → n = s.portTenant p →
    (n = 0 → s.flag F.timeCtl_source 0 0 = false) → s.flag F.tkStatus_pending 0 n = false →
    exec (.timeRate p m) s = .next ((s.taken p m).stageCorr n (.rate (s.arg p m 8 5)) (some (p.val, m.val)))) ∧
  (∀ (p : Port) (m : Mbox) (s : State), s.ready p m 0x501 → s.arg p m 0 1 = 0 → s.portTenant p = 0 → s.flag F.timeCtl_source 0 0 = true →
    exec (.timeSet p m) s = .next ((s.taken p m).reply p m 0x15 [])) ∧
  (∀ (p : Port) (m : Mbox) (s : State), s.ready p m 0x504 → s.portTenant p = 0 →
    exec (.timeArm p m) s = .next ((s.taken p m).armTk0.reply p m 0 [])) ∧
  (∀ (p : Port) (m : Mbox) (s : State), s.ready p m 0x504 → s.portTenant p ≠ 0 →
    exec (.timeArm p m) s = .next ((s.taken p m).reply p m 0x12 [])) ∧
  (∀ (p : Port) (m : Mbox) (s : State) (n : Nat), s.ready p m 0x505 → s.arg p m 0 1 = n → s.portTenant p = n →
    exec (.timeClear p m) s = .next (((s.taken p m).setF F.tkStatus_timeFault 0 n 0).reply p m 0 [])) ∧
  (∀ (p : Port) (m : Mbox) (s t u v : State) (n : Nat), s.ready p m 0x506 → s.arg p m 0 1 = n → s.portTenant p = n →
    ((s.taken p m).setF F.tkCtl_alarmEn 0 n (s.arg p m 1 1)).setF F.tkCtl_alarmEv 0 n (s.arg p m 2 1) = t →
    (t.setReg .tkAlarmSecLo 0 n (s.arg p m 4 4)).setF F.tkAlarmSecHi_seconds 0 n (s.arg p m 8 2) = u →
    (u.setReg .tkAlarmNs 0 n (s.arg p m 10 4)).setReg .tkAlarmPeriod 0 n (s.arg p m 16 4) = v →
    exec (.timeAlarm p m) s = .next ((v.alarmSet n).reply p m 0 [])) ∧
  (∀ (p : Port) (m : Mbox) (s : State) (n hi : Nat), s.ready p m 0x507 → s.arg p m 0 1 = n → s.portTenant p = n → s.arg p m 3 1 = 0 →
    s.reg .tkCapSecHi 0 n = hi →
    exec (.timeCapture p m) s = .next (State.reply (((s.taken p m).setF F.tkCapCtl_capSrc 0 n (s.arg p m 1 1)).setF F.tkCtl_capEv 0 n
      (s.arg p m 2 1)) p m 0 (leBytes 4 (s.reg .tkCapSecLo 0 n) ++ leBytes 2 hi ++ leBytes 4 (s.reg .tkCapNs 0 n) ++ leBytes 2 (hi / 65536) ++
        leBytes 1 (s.getF F.tkCapCtl_valid 0 n + 2 * s.getF F.tkCapCtl_overrun 0 n)))) ∧
  (∀ (p : Port) (m : Mbox) (s : State), s.ready p m 0x508 → s.portTenant p = 0 →
    exec (.timePps p m) s = .next (State.reply (((((s.taken p m).setF F.timeCtl_ppsEn 0 0 (s.arg p m 0 1)).setF F.timeCtl_ppsValidOnly 0 0
      (s.arg p m 1 1)).setReg .ppsOffset 0 0 (s.arg p m 4 4)).setReg .ppsWidth 0 0 (s.arg p m 8 4)) p m 0 [])) ∧
  (∀ (p : Port) (m : Mbox) (s : State), s.ready p m 0x509 → s.portTenant p = 0 →
    exec (.timeSource p m) s = .next (State.reply (State.sourceSet (((s.taken p m).setF F.timeCtl_source 0 0 (s.arg p m 0 1)).setF
      F.timeCtl_timePrio 0 0 (s.arg p m 1 1)) (s.flag F.timeCtl_source 0 0)) p m 0 [])) ∧
  (∀ (p : Port) (m : Mbox) (s : State), s.ready p m 0x50A →
    exec (.timeStatus p m) s = .next ((s.taken p m).reply p m 0 (leBytes 4 (s.reg .slStatus 0 0) ++ leBytes 4 (s.reg .slRootIdLo 0 0) ++
      leBytes 4 (s.reg .slRootIdHi 0 0) ++ leBytes 4 (s.reg .slDelay 0 0) ++ leBytes 4 (s.reg .slOffset 0 0) ++
      ((List.range 8).map (fun n => leBytes 4 (if n = 0 ∨ s.portTenant p = n ∨ s.portTenant p = 0 then s.reg .tkStatus 0 n else 0))).flatten)))

/-! ### Clocks (19, 21 group 0x06) -/

/-- Clock registers and events (R436–R444): refusals change nothing, a new source of an enabled net starts a switch, a switch ends with its held write,
the carrier's fallback and return, locks and counts. The commands of group 0x06 (R486, R487): T0 alone changes shared clocks; a plan's entries are
checked before any is applied. -/
def Obligations.Clocks : Prop :=
  (∀ (r : Req) (s : State) (v : Nat), s.grantsWrite r .carCtl 0 0 v →
    exec (.carSel r) s = .next (State.respond (State.carRequest ((s.takeReq r).setReg .carCtl 0 0 (Rg.carCtl.written (s.reg .carCtl 0 0) v))
      (bits v 24 16)) r svcOK [])) ∧
  (∀ (s : State) (x : Nat × Nat) (c : Nat), s.clk.car = some x → s.carRequest c = { s with clk.carHeld := some c }) ∧
  (∀ (s : State) (c : Nat), s.clk.car = none → s.getF F.carStatus_active 0 0 = c → s.carRequest c = s) ∧
  (∀ (r : Req) (s : State) (j v : Nat), s.grantsWrite r .gcCtl 0 j v →
    exec (.gcSrc r) s = .next (State.respond ((s.takeReq r).writeGcCtl j v) r svcOK [])) ∧
  (∀ (r : Req) (s : State) (j v : Nat), s.grantsWrite r .gcCtl 0 j v →
    exec (.gcEnable r) s = .next (State.respond ((s.takeReq r).writeGcCtl j v) r svcOK [])) ∧
  (∀ (s : State) (j v : Nat), s.flag F.gcCtl_switching 0 j = true → Rg.gcCtl.okWrite v = true →
    s.writeGcCtl j v = { s with clk.gcHeld := tput 0 s.clk.gcHeld j (v + 1) }) ∧
  (∀ (s : State) (j v c : Nat), s.flag F.gcCtl_switching 0 j = false → s.gcCheck j v = some c → s.writeGcCtl j v = s) ∧
  (∀ (s : State) (j v : Nat), bitAt (s.reg .gcCtl 0 j) 31 = true → bitAt v 31 = false → s.gcChild j = true → Rg.gcCtl.okWrite v = true →
    s.gcCheck j v = some 0x16) ∧
  (∀ (s : State) (j v : Nat), s.flag F.gcCtl_switching 0 j = false → s.gcCheck j v = none → bitAt (s.reg .gcCtl 0 j) 31 = true → bitAt v 31 = true →
    bits (s.reg .gcCtl 0 j) 8 0 ≠ bits v 8 0 → s.writeGcCtl j v =
      State.setF { s.setReg .gcCtl 0 j (Rg.gcCtl.written (s.reg .gcCtl 0 j) v) with
        clk.gcFrom := tput 0 s.clk.gcFrom j (bits (s.reg .gcCtl 0 j) 8 0 + 1) } F.gcCtl_switching 0 j 1) ∧
  (∀ (r : Req) (s : State) (k v : Nat), s.grantsWrite r .syCtl 0 k v →
    exec (.syEnable r) s = .next (State.respond ((s.takeReq r).writeSyCtl k v) r svcOK [])) ∧
  (∀ (s : State) (k v c : Nat), s.syCheck k v (s.getF F.syFrac_f 0 k) = some c → s.writeSyCtl k v = s) ∧
  (∀ (s : State) (k v f : Nat), Rg.syCtl.okWrite v = true → sySrcOk k (bits v 30 22) = true → bitAt (s.reg .syCtl 0 k) 31 = true →
    bits (s.reg .syCtl 0 k) 30 0 ≠ bits v 30 0 → s.syCheck k v f = some 0x10) ∧
  (∀ (s : State) (k v f : Nat), Rg.syCtl.okWrite v = true → sySrcOk k (bits v 30 22) = true → bitAt (s.reg .syCtl 0 k) 31 = true →
    bits (s.reg .syCtl 0 k) 30 0 = bits v 30 0 → bitAt v 31 = false → s.syChild k = true → s.syCheck k v f = some 0x16) ∧
  (∀ (s : State) (k v : Nat), s.syCheck k v (s.getF F.syFrac_f 0 k) = none → bitAt v 31 = true →
    s.writeSyCtl k v = s.setReg .syCtl 0 k (Rg.syCtl.written (s.reg .syCtl 0 k) v)) ∧
  (∀ (r : Req) (s : State) (t v : Nat), s.grantsWrite r .leafGate 0 t v →
    exec (.leafGate r) s = .next (State.respond ((s.takeReq r).writeLeaf t v) r svcOK [])) ∧
  (∀ (s : State) (t v : Nat), s.leafCheck t v = none → s.writeLeaf t v = s.setReg .leafGate 0 t (v % 256)) ∧
  (∀ (s : State) (t v : Nat), s.notLive t = true → s.writeLeaf t v = s) ∧
  (∀ (r : Req) (s : State) (c v : Nat), s.grantsWrite r .fcCtl 0 c v → bitAt v 31 = true →
    exec (.fcStart r) s = .next (State.respond ((((s.takeReq r).setReg .fcCtl 0 c (Rg.fcCtl.written (s.reg .fcCtl 0 c) v)).setF F.fcCtl_busy 0 c 1).setF
      F.fcCtl_done 0 c 0) r svcOK [])) ∧
  (∀ s : State, s.flag F.carCtl_revert 0 0 = false → exec .carrierRevert s = .next s) ∧
  (∀ (s : State) (l : Nat), s.flag F.carCtl_revert 0 0 = true → s.getF F.carCtl_sel 0 0 = 0x100 + l → s.flag F.carStatus_onHold 0 0 = true →
    s.flag F.lnState_los (l / 4) (l % 4) = false → s.flag F.lnState_lol (l / 4) (l % 4) = false →
    exec .carrierRevert s = .next (s.carRequest (0x100 + l))) ∧
  (∀ (j : GNet) (s : State), s.flag F.gcCtl_switching 0 j = false → exec (.clockSwitchDone (some j)) s = .next s) ∧
  (∀ (j : GNet) (s : State), s.flag F.gcCtl_switching 0 j = true → tget 0 s.clk.gcHeld j = 0 → exec (.clockSwitchDone (some j)) s =
    .next { s.setF F.gcCtl_switching 0 j 0 with clk.gcFrom := tput 0 s.clk.gcFrom j 0, clk.gcHeld := tput 0 s.clk.gcHeld j 0 }) ∧
  (∀ (s : State), exec (.clockSwitchDone none) s = .next s.carDone) ∧
  (∀ (j : GNet) (s : State), s.flag F.gcCtl_switching 0 j = true → exec (.switchForced (some j)) s = .next (s.setF F.gcCtl_forced 0 j 1)) ∧
  (∀ (j : GNet) (s : State), s.flag F.gcCtl_switching 0 j = false → exec (.switchForced (some j)) s = .next s) ∧
  (∀ (k : Synth) (s : State), s.flag F.syCtl_enable 0 k = true → exec (.syLock k) s = .next (s.setF F.syStatus_lock 0 k 1)) ∧
  (∀ (k : Synth) (s : State), s.flag F.syCtl_enable 0 k = true → s.flag F.syStatus_lock 0 k = true →
    exec (.syUnlock k) s = .next (State.alarm (State.count (s.setF F.syStatus_lock 0 k 0) F.syStatus_unlocks 0 k 1) 255 0x15 (k.val * 256) 0
      (srcOf .clk 0))) ∧
  (∀ (c : FCtr) (n : BitVec 40) (s : State), s.flag F.fcCtl_busy 0 c = false → exec (.fcGateEnd c n) s = .next s) ∧
  (∀ (c : FCtr) (n : BitVec 40) (s u : State), s.flag F.fcCtl_busy 0 c = true →
    ((((s.setReg .fcCountLo 0 c (n.toNat % 2 ^ 32)).setReg .fcCountHi 0 c (n.toNat / 2 ^ 32)).setF F.fcCtl_busy 0 c 0).setF F.fcCtl_done 0 c 1) = u →
    u.flag F.fcCtl_evEn 0 c = false →
    exec (.fcGateEnd c n) s = .next (u.finishOps c [0x604] 0 n.toNat 0 (leBytes 8 n.toNat))) ∧
  (∀ (p : Port) (m : Mbox) (s : State), s.ready p m 0x600 → s.arg p m 0 1 = 0 →
    exec (.clockStatus p m) s = .next ((s.taken p m).reply p m 0
      (s.regBytes ([(Rg.carCtl, 0), (.carStatus, 0)] ++ (List.range 9).map (fun i => (.refHz, i)))))) ∧
  (∀ (p : Port) (m : Mbox) (s : State), s.ready p m 0x601 → s.portTenant p ≠ 0 →
    (List.range (s.arg p m 0 1)).find? (fun i => !planOk (s.mbox p m).payload 16 i) = none →
    exec (.clockPlan p m) s = .next ((s.taken p m).reply p m 0x12 [])) ∧
  (∀ (p : Port) (m : Mbox) (s : State) (i : Nat), s.ready p m 0x601 →
    (List.range (s.arg p m 0 1)).find? (fun i => !planOk (s.mbox p m).payload 16 i) = some i →
    exec (.clockPlan p m) s = .next ((s.taken p m).reply p m 0x10 (leBytes 1 i))) ∧
  (∀ (p : Port) (m : Mbox) (s t : State), s.ready p m 0x601 → s.portTenant p = 0 →
    (List.range (s.arg p m 0 1)).find? (fun i => !planOk (s.mbox p m).payload 16 i) = none →
    (s.taken p m).planRun (planOrder ((List.range (s.arg p m 0 1)).map (planEntry (s.mbox p m).payload 16))) = .ok t →
    exec (.clockPlan p m) s = .next (t.reply p m 0 [])) ∧
  (∀ (p : Port) (m : Mbox) (s : State) (code i : Nat), s.ready p m 0x601 → s.portTenant p = 0 →
    (List.range (s.arg p m 0 1)).find? (fun i => !planOk (s.mbox p m).payload 16 i) = none →
    (s.taken p m).planRun (planOrder ((List.range (s.arg p m 0 1)).map (planEntry (s.mbox p m).payload 16))) = .error (code, i) →
    exec (.clockPlan p m) s = .next ((s.taken p m).reply p m code (leBytes 1 i))) ∧
  (∀ (p : Port) (m : Mbox) (s : State), s.ready p m 0x602 → s.portTenant p = 0 →
    exec (.clockSelect p m) s = .next (State.reply ((s.taken p m).writeCarCtl (s.arg p m 3 1 * 2 ^ 31 + s.arg p m 2 1 * 2 ^ 28 +
      s.arg p m 0 2 * 2 ^ 16 + s.arg p m 4 2)) p m 0 [])) ∧
  (∀ (p : Port) (m : Mbox) (s : State), s.ready p m 0x602 → s.portTenant p ≠ 0 → exec (.clockSelect p m) s = .next ((s.taken p m).reply p m 0x12 [])) ∧
  (∀ (p : Port) (m : Mbox) (s : State) (i : Nat), s.ready p m 0x603 → s.arg p m 0 1 = 2 → s.arg p m 2 2 = i → i < 1024 → s.portTenant p ≠ 0 →
    s.portTenant p ≠ s.tileTenant i → exec (.clockGate p m) s = .next ((s.taken p m).reply p m 0x12 [])) ∧
  (∀ (p : Port) (m : Mbox) (s : State) (i v : Nat), s.ready p m 0x603 → s.arg p m 0 1 = 2 → s.arg p m 2 2 = i → i < 1024 →
    (s.portTenant p = 0 ∨ s.portTenant p = s.tileTenant i) →
    setBits (s.reg .leafGate 0 i) (s.arg p m 4 1) (s.arg p m 4 1) (s.arg p m 5 1) = v → (s.taken p m).leafCheck i v = none →
    exec (.clockGate p m) s = .next (State.reply ((s.taken p m).writeLeaf i v) p m 0 [])) ∧
  (∀ (p : Port) (m : Mbox) (s : State) (i v code : Nat), s.ready p m 0x603 → s.arg p m 0 1 = 0 → s.arg p m 2 2 = i → i < 32 →
    s.portTenant p = 0 → s.arg p m 5 1 * 2 ^ 31 + bits (s.reg .syCtl 0 i) 30 0 = v → s.syCheck i v (s.getF F.syFrac_f 0 i) = some code →
    exec (.clockGate p m) s = .next ((s.taken p m).reply p m code [])) ∧
  (∀ (p : Port) (m : Mbox) (s : State), s.ready p m 0x604 → (∀ k, k < 8 → s.flag F.fcCtl_busy 0 k = true) →
    exec (.clockMeasure p m) s = .next ((s.taken p m).reply p m 0x15 [])) ∧
  (∀ (p : Port) (m : Mbox) (s : State), s.ready p m 0x604 → s.flag F.fcCtl_busy 0 0 = false → 0x20 ≤ s.arg p m 0 2 →
    2 ^ s.arg p m 4 1 * 1000 ≤ s.srcHz (s.arg p m 0 2) →
    exec (.clockMeasure p m) s = .next (State.addWait (((((s.taken p m).setReg .fcSrc 0 0 (s.arg p m 0 2 * 65536 + s.arg p m 2 2)).setF
      F.fcCtl_n 0 0 (s.arg p m 4 1)).setF F.fcCtl_busy 0 0 1).setF F.fcCtl_done 0 0 0) ((s.ctxOf p m).op 0 [])))

/-! ### Debug, the TAP and expert access (23, 21 groups 0x08 and 0x0F) -/

/-- The debug commands of a mailbox (R489, R504–R507, R510, R511): challenge and response, which wait while one is verified (log entry 164), status,
halt, feed, peek and poke, and what a tenant scope refuses (R341). -/
def Obligations.DebugCommands : Prop :=
  (∀ (p : Port) (m : Mbox) (s : State) (sig : List Byte), (s.dpath p).sig = some sig →
    exec (.dbgChallenge p m) s = .next s ∧ exec (.dbgResponse p m) s = .next s) ∧
  (∀ (p : Port) (m : Mbox) (s : State) (level : Nat) (scope : Bool), (s.dpath p).sig = none → s.ready p m 0x800 → s.arg p m 0 1 = level →
    decide (s.arg p m 1 1 = 1) = scope → (s.taken p m).challengeCode p level scope = 0 →
    exec (.dbgChallenge p m) s = .next (State.reply ((s.taken p m).challenge p level scope (s.portTenant p)).1 p m 0
      ((s.taken p m).challenge p level scope (s.portTenant p)).2)) ∧
  (∀ (p : Port) (m : Mbox) (s : State) (level code : Nat) (scope : Bool), (s.dpath p).sig = none → s.ready p m 0x800 → s.arg p m 0 1 = level →
    decide (s.arg p m 1 1 = 1) = scope → (s.taken p m).challengeCode p level scope = code → code ≠ 0 →
    exec (.dbgChallenge p m) s = .next ((s.taken p m).reply p m code [])) ∧
  (∀ (s : State) (path level : Nat), path < 5 → s.portTenant path ≠ 0 → s.challengeCode path level false = 0x12) ∧
  (∀ (p : Port) (m : Mbox) (s : State), s.ready p m 0x801 → (s.dpath p).sig = none → (s.dpath p).nonce = 0 →
    exec (.dbgResponse p m) s = .next ((s.taken p m).reply p m 0x13 [])) ∧
  (∀ (p : Port) (m : Mbox) (s : State), s.ready p m 0x801 → (s.dpath p).sig = none → (s.dpath p).nonce ≠ 0 →
    exec (.dbgResponse p m) s = .next (State.addWait ((s.taken p m).setDpath p { s.dpath p with
      sig := some (s.mbox p m).payload, mbox := some m.val }) ((s.ctxOf p m).op p []))) ∧
  (∀ (p : Port) (m : Mbox) (s : State), s.ready p m 0x802 → exec (.dbgDrop p m) s = .next (((s.taken p m).dropAuth p).reply p m 0 [])) ∧
  (∀ (p : Port) (m : Mbox) (s : State) (v : Nat), s.ready p m 0x803 → s.reg .dbgStatus p 0 = v →
    exec (.dbgStatus p m) s = .next ((s.taken p m).reply p m 0
      (leBytes 1 (bits v 31 30) ++ leBytes 1 (bits v 29 29) ++ leBytes 1 (bits v 25 25 + 2 * bits v 24 24)))) ∧
  (∀ (p : Port) (m : Mbox) (s : State) (t : Nat), s.ready p m 0x810 → s.arg p m 0 2 = t → s.level p ≠ 2 ∨ s.dbgCovers p t = false →
    exec (.dbgHalt p m) s = .next ((s.taken p m).reply p m 0x13 [])) ∧
  (∀ (p : Port) (m : Mbox) (s : State) (t : Nat), s.ready p m 0x810 → s.arg p m 0 2 = t → s.level p = 2 → s.dbgCovers p t = true →
    (s.engine t).run = .running ∨ (s.engine t).run = .idle →
    exec (.dbgHalt p m) s = .next (State.addWait ((s.taken p m).engHaltReq p t) ((s.ctxOf p m).op t []))) ∧
  (∀ (p : Port) (m : Mbox) (s : State) (t : Nat), s.ready p m 0x810 → s.arg p m 0 2 = t → s.level p = 2 → s.dbgCovers p t = true →
    (s.engine t).run ≠ .running → (s.engine t).run ≠ .idle → exec (.dbgHalt p m) s = .next ((s.taken p m).reply p m 0 [])) ∧
  (∀ (p : Port) (m : Mbox) (s : State) (t : Nat), s.ready p m 0x811 → s.arg p m 0 2 = t → s.level p = 2 → s.dbgCovers p t = true →
    exec (.dbgResume p m) s = .next (((s.taken p m).engRelease t).reply p m 0 [])) ∧
  (∀ (p : Port) (m : Mbox) (s : State) (t : Nat), s.ready p m 0x812 → s.arg p m 0 2 = t → s.level p = 2 → s.dbgCovers p t = true →
    (s.engine t).run = .halted → (s.feed t).busy = false →
    let u := (s.taken p m).feedStart t (s.arg p m 4 4)
    ((u.feed t).busy = true → exec (.dbgFeed p m) s = .next (u.addWait ((s.ctxOf p m).op t []))) ∧
    ((u.feed t).busy = false → exec (.dbgFeed p m) s = .next (u.reply p m 0 []))) ∧
  (∀ (p : Port) (m : Mbox) (s : State) (t : Nat), s.ready p m 0x812 → s.arg p m 0 2 = t → s.level p = 2 → s.dbgCovers p t = true →
    (s.engine t).run ≠ .halted → exec (.dbgFeed p m) s = .next ((s.taken p m).reply p m 0x10 [])) ∧
  (∀ (s : State) (t w : Nat), (s.engine t).run = .halted → (s.feed t).busy = false → decodeEngine w = none →
    s.feedStart t w = (s.setFeed t { Feed.init with busy := true }).feedEnd t 2) ∧
  (∀ (p : Port) (m : Mbox) (s : State) (eff : Bool), s.dbgBusy p = false → s.ready p m 0x813 →
    bitAt (s.arg p m 9 1) 0 = eff → (if eff then 2 else 1) ≤ s.level p →
    let q := (s.taken p m).peekRun (s.arg p m 8 1) p eff (s.arg p m 0 8) []
    (∀ code, q.2.1 = some code → q.2.2.1 ≠ [] → exec (.dbgPeek p m) s = .next (q.1.reply p m 0 (leBytes 8 code ++ q.2.2.1))) ∧
    (q.2.1 = none → exec (.dbgPeek p m) s = .next (q.1.addWait ((s.ctxOf p m).op p
      ([s.arg p m 0 8 + q.2.2.1.length, q.2.2.2, b2n eff] ++ q.2.2.1.map BitVec.toNat))))) ∧
  (∀ (p : Port) (m : Mbox) (s : State) (eff : Bool) (code : Nat), s.dbgBusy p = false → s.ready p m 0x813 →
    bitAt (s.arg p m 9 1) 0 = eff → (if eff then 2 else 1) ≤ s.level p →
    let q := (s.taken p m).peekRun (s.arg p m 8 1) p eff (s.arg p m 0 8) []
    q.2.1 = some code → q.2.2.1 = [] →
    ((s.taken p m).dbgScopeRefuses p (s.arg p m 0 8) code = false → exec (.dbgPeek p m) s = .next (q.1.reply p m 0 (peekPay code []))) ∧
    ((s.taken p m).dbgScopeRefuses p (s.arg p m 0 8) code = true → exec (.dbgPeek p m) s = .next ((s.taken p m).reply p m 0x13 []))) ∧
  (∀ (s : State) (path a code : Nat), s.dbgOwnMem path a = true ∨ code ≠ svcDenied → s.dbgScopeRefuses path a code = false) ∧
  (∀ (p : Port) (m : Mbox) (s : State), s.dbgBusy p = false → s.ready p m 0x813 → s.level p = 0 →
    exec (.dbgPeek p m) s = .next ((s.taken p m).reply p m 0x13 [])) ∧
  (∀ (p : Port) (m : Mbox) (s : State), s.dbgBusy p = false → s.ready p m 0x814 → s.level p = 2 →
    let q := (s.taken p m).dbgWord p true .write (s.arg p m 0 8) (leBytes 4 (s.arg p m 8 4))
    (∀ x, q.2 = some x → x.1 ≠ svcDenied → exec (.dbgPoke p m) s = .next (q.1.reply p m 0 (leBytes 1 x.1))) ∧
    (q.2 = none → exec (.dbgPoke p m) s = .next (q.1.addWait ((s.ctxOf p m).op p [s.arg p m 0 8])))) ∧
  (∀ (p : Port) (m : Mbox) (s : State), s.dbgBusy p = false → s.ready p m 0x814 → s.level p ≠ 2 → s.level p < 2 →
    exec (.dbgPoke p m) s = .next ((s.taken p m).reply p m 0x13 []))

/-- Verification and its ends, run control of engines and of the Referee by registers, and patch units (R460, R505, R511, R514, R515). -/
def Obligations.DebugControl : Prop :=
  (∀ (path : Fin 6) (s : State), (s.dpath path).sig = none → exec (.authVerifyDone path) s = .next s) ∧
  (∀ (path : Fin 6) (s : State) (x : DPath) (sig : List Byte), s.dpath path = x → x.sig = some sig → x.level = 1 → path.val ≠ 5 →
    verifies (debugKey (if x.scope then 1 + x.tenant else 0)) (s.authMsg path) sig = true →
    let t := (s.setAuth path 1 x.scope x.tenant).setF F.dbgStatus_fails path 0 0
    exec (.authVerifyDone path) s = .next (State.finishOps (t.setDpath path { t.dpath path with nonce := 0, sig := none }) path [0x801] 0 0 0 [])) ∧
  (∀ (path : Fin 6) (s : State) (x : DPath) (sig : List Byte), s.dpath path = x → x.sig = some sig → path.val ≠ 5 →
    verifies (debugKey (if x.scope then 1 + x.tenant else 0)) (s.authMsg path) sig = false →
    let t := (s.count F.dbgStatus_fails path 0 1).authAlarm path 0x19
    let u := if 4 ≤ t.getF F.dbgStatus_fails path 0 then t.setDpath path { t.dpath path with locked := true } else t
    exec (.authVerifyDone path) s = .next (State.finishOps (u.setDpath path { u.dpath path with nonce := 0, sig := none }) path [0x801] 0x13 0 0 [])) ∧
  (∀ (path : Fin 6) (s : State), (s.dpath path).sig = none → (s.dpath path).nonce ≠ 0 → (s.dpath path).tap ≠ 1 →
    exec (.nonceExpiry path) s = .next (s.setDpath path { s.dpath path with nonce := 0 })) ∧
  (∀ (path : Fin 6) (s : State) (sig : List Byte), (s.dpath path).sig = some sig → exec (.nonceExpiry path) s = .next s) ∧
  (∀ (path : Fin 6) (s : State), (s.dpath path).locked = true → (s.dpath path).tap ≠ 5 →
    exec (.authLockoutEnd path) s = .next (s.setDpath path { s.dpath path with locked := false })) ∧
  (∀ (path : Fin 6) (s : State), (s.dpath path).locked = false → exec (.authLockoutEnd path) s = .next s) ∧
  (∀ (path : Fin 6) (b : Bool) (s : State) (t : Nat), s.level path = 2 → s.getF F.dbgEngSel_tile path 0 = t → s.dbgCovers path t = true →
    exec (.dbgEngHalt path b) s = .next (State.engHaltReq (s.setReg .dbgEngCtl 0 0
      (Rg.dbgEngCtl.written (s.reg .dbgEngCtl 0 0) (2 ^ 31 + b2n b * 2 ^ 28))) path t)) ∧
  (∀ (path : Fin 6) (b : Bool) (s : State) (t : Nat), s.level path = 2 → s.getF F.dbgEngSel_tile path 0 = t → s.dbgCovers path t = true →
    exec (.dbgEngResume path b) s = .next (State.engRelease (s.setReg .dbgEngCtl 0 0
      (Rg.dbgEngCtl.written (s.reg .dbgEngCtl 0 0) (2 ^ 30 + b2n b * 2 ^ 28))) t)) ∧
  (∀ (path : Fin 6) (b : Bool) (s : State) (t : Nat), s.level path = 2 → s.getF F.dbgEngSel_tile path 0 = t → s.dbgCovers path t = true →
    exec (.dbgEngStep path b) s = .next (State.engStep (s.setReg .dbgEngCtl 0 0
      (Rg.dbgEngCtl.written (s.reg .dbgEngCtl 0 0) (2 ^ 29 + b2n b * 2 ^ 28))) path t)) ∧
  (∀ (path : Fin 6) (w : Word32) (s : State) (t : Nat), s.level path = 2 → s.getF F.dbgEngSel_tile path 0 = t → s.dbgCovers path t = true →
    exec (.dbgEngInject path w) s = .next (s.feedStart t w.toNat)) ∧
  (∀ (path : Fin 6) (b : Bool) (s : State), s.level path ≠ 2 → exec (.dbgEngHalt path b) s = .next s ∧ exec (.dbgEngResume path b) s = .next s ∧
    exec (.dbgEngStep path b) s = .next s) ∧
  (∀ s : State, s.level 5 = 2 → s.scopeTenant 5 = false → s.refHalted = false → s.dbg.haltReq = 0 → s.pw.refRestarting = false →
    exec .refHalt s = .next { s with dbg.haltReq := 1 }) ∧
  (∀ s : State, s.level 5 = 2 → s.scopeTenant 5 = false → s.refHalted = true → exec .refResume s = .next s.refRelease) ∧
  (∀ s : State, s.level 5 = 2 → s.scopeTenant 5 = false → s.refHalted = true → ∃ pc, exec .refStep s =
    .next (State.setF (State.setReg { s with free := s.free + 1 } .refPc 0 0 pc) F.refDbgStatus_cause 0 0 3)) ∧
  (∀ (w : Word32) (s : State), s.level 5 = 2 → s.scopeTenant 5 = false → s.refHalted = true → ∃ b, b < 2 ∧ exec (.refInject w) s =
    .next (State.setF { s with dbg.refFed := s.dbg.refFed ++ [w.toNat], free := s.free + 1 } F.refDbgStatus_feedFault 0 0 b)) ∧
  (∀ s : State, s.dbg.haltReq ≠ 0 → s.pw.refRestarting = false → exec .refereeHaltEffect s = .next (s.refHaltNow s.dbg.haltReq 0)) ∧
  (∀ s : State, s.dbg.haltReq = 0 → exec .refereeHaltEffect s = .next s ∧ exec (.refereeHaltForced none) s = .next s) ∧
  (∀ (p : Option Port) (s : State), s.dbg.haltReq ≠ 0 → s.pw.refRestarting = false →
    exec (.refereeHaltForced p) s = .next (State.alarm ((s.refHaltNow s.dbg.haltReq 0).setF F.refDbgStatus_lockBroken 0 0 1)
      (match p with
       | some p => ((s.refHaltNow s.dbg.haltReq 0).setF F.refDbgStatus_lockBroken 0 0 1).portTenant p
       | none => 0) 0x1A 0 0 (srcOf .devctl 0))) ∧
  (∀ (u : Fin 32) (s : State), s.puBreaks u = true → s.refHalted = false → s.pw.refRestarting = false →
    exec (.patchBreak u) s = .next (s.refHaltNow 2 u)) ∧
  (∀ (u : Fin 32) (s : State), s.puBreaks u = false → exec (.patchBreak u) s = .next s)

/-- The TAP (R506, R508, R509, R512, R513): instructions, what Capture-DR loads, pins, the exchange and accesses, which end at once or wait for the
network. A TAP of an unpowered device does nothing. -/
def Obligations.TapInstructions : Prop :=
  (∀ s : State, s.tapOn = true → exec .tapReset s = .next (State.tapIr (State.setDpath ((s.dropAuth 5).dropExchange 5) 5
    { ((s.dropAuth 5).dropExchange 5).dpath 5 with tap := if (((s.dropAuth 5).dropExchange 5).dpath 5).locked then 5 else 0 }) 0x01)) ∧
  (∀ s : State, s.tapOn = true → exec .idcode s = .next { s with dbg.ir := 0x01, dbg.drive := 0, dbg.dr := idcode }) ∧
  (idcodeOf 0 = 0x0126056B ∧ ∀ rev, bits (idcodeOf rev) 31 28 = rev % 16 ∧ bits (idcodeOf rev) 27 12 = 0x1260 ∧ bits (idcodeOf rev) 11 1 = 0x2B5 ∧
    bitAt (idcodeOf rev) 0 = true) ∧
  (∀ s : State, s.tapOn = true → exec .bypass s = .next { s with dbg.ir := 0xFF, dbg.drive := 0, dbg.dr := 0 }) ∧
  (∀ (cells : BitVec 2896) (s : State), s.tapOn = true →
    exec (.samplePreload cells) s = .next { s with dbg.ir := 0x02, dbg.drive := 0, dbg.boundary := cells.toNat, dbg.dr := cells.toNat }) ∧
  (∀ s : State, s.tapOn = true → s.pinTest = true →
    exec .extest s = .next { s with dbg.ir := 0x03, dbg.drive := 1, dbg.dr := s.dbg.boundary } ∧
    exec .highz s = .next { s with dbg.ir := 0x04, dbg.drive := 2, dbg.dr := 0 } ∧
    exec .clamp s = .next { s with dbg.ir := 0x05, dbg.drive := 3, dbg.dr := 0 } ∧
    exec .extestPulse s = .next { s with dbg.ir := 0x06, dbg.drive := 4, dbg.dr := s.dbg.boundary } ∧
    exec .extestTrain s = .next { s with dbg.ir := 0x07, dbg.drive := 5, dbg.dr := s.dbg.boundary }) ∧
  (∀ s : State, (s.dpath 5).tap < 8 → s.level 5 < 4 → let v := (s.tapIr 0x10).dbg.dr
    v / 2 ^ 797 = (s.dpath 5).tap ∧ v / 2 ^ 795 % 4 = s.level 5 ∧ ((s.dpath 5).nonce = 0 → v % 2 ^ 795 = 0)) ∧
  (∀ s : State, s.dbg.accSvc < 64 → s.dbg.accAddr < 2 ^ 48 → s.dbg.accData < 2 ^ 32 → let v := (s.tapIr 0x11).dbg.dr
    v / 2 ^ 87 = b2n s.dbg.accBusy ∧ v / 2 ^ 86 % 2 = b2n s.dbg.accPeek ∧ v / 2 ^ 80 % 64 = s.dbg.accSvc ∧ v / 2 ^ 32 % 2 ^ 48 = s.dbg.accAddr ∧
    v % 2 ^ 32 = s.dbg.accData) ∧
  (∀ s : State, s.tapOn = true → s.pinTest = false →
    exec .extest s = exec .bypass s ∧ exec .highz s = exec .bypass s ∧ exec .clamp s = exec .bypass s ∧ exec .extestPulse s = exec .bypass s ∧
    exec .extestTrain s = exec .bypass s) ∧
  (∀ (c : Instr) (s : State), s.tapOn = false → c = .tapReset ∨ c = .idcode ∨ c = .extest ∨ c = .bypass ∨ c = .authDrop → exec c s = .next s) ∧
  (∀ (level : Fin 4) (scope : Bool) (tenant : Tenant) (s : State), s.tapOn = true → level.val = 1 ∨ level.val = 2 →
    (s.tapIr 0x10).challengeCode 5 level scope = 0 →
    exec (.authChallenge level scope tenant) s = .next ((s.tapIr 0x10).challenge 5 level scope (if scope then tenant.val else 0)).1) ∧
  (∀ (level : Fin 4) (scope : Bool) (tenant : Tenant) (s : State), s.tapOn = true → level.val = 1 ∨ level.val = 2 →
    (s.tapIr 0x10).challengeCode 5 level scope = 0x13 → exec (.authChallenge level scope tenant) s =
      .next (State.setDpath (s.tapIr 0x10) 5 { s.dpath 5 with nonce := 0, sig := none, tap := 4 })) ∧
  (∀ (sig : List Byte) (s : State), s.tapOn = true → sig.length = 96 → (s.dpath 5).sig = none → (s.dpath 5).nonce ≠ 0 →
    exec (.authResponse sig) s = .next ((s.tapIr 0x10).setDpath 5 { s.dpath 5 with sig := some sig, tap := 2 })) ∧
  (∀ s : State, s.tapOn = true → (s.dpath 5).locked = false →
    exec .authDrop s = .next (State.dropAuth ((s.tapIr 0x10).setDpath 5 { s.dpath 5 with tap := 0 }) 5)) ∧
  (∀ (a : NetAddr) (w : Word32) (s : State), s.tapOn = true → s.dbg.accBusy = true → exec (.accessRead a) s = .next (s.tapIr 0x11) ∧
    exec (.accessWrite a w) s = .next (s.tapIr 0x11) ∧ exec (.accessEffectfulRead a) s = .next (s.tapIr 0x11)) ∧
  (∀ (a : NetAddr) (s : State), s.tapOn = true → s.dbg.accBusy = false → s.level 5 = 0 → exec (.accessRead a) s = .next { s.tapIr 0x11 with
    dbg.accAddr := a.toNat
    dbg.accPeek := false
    dbg.accBusy := false
    dbg.accSvc := svcDenied
    dbg.accData := 0 }) ∧
  (∀ (a : NetAddr) (w : Word32) (s : State), s.tapOn = true → s.dbg.accBusy = false → s.level 5 < 2 →
    exec (.accessWrite a w) s = .next (State.accDone { s.tapIr 0x11 with dbg.accAddr := a.toNat, dbg.accPeek := false, dbg.accData := 0 } svcDenied []) ∧
    exec (.accessEffectfulRead a) s =
      .next (State.accDone { s.tapIr 0x11 with dbg.accAddr := a.toNat, dbg.accPeek := false, dbg.accData := 0 } svcDenied [])) ∧
  (∀ (a : NetAddr) (w : Word32) (s u : State) (was : Nat) (x : Option (Nat × List Byte)), s.tapOn = true → s.dbg.accBusy = false → s.level 5 = 2 →
    s.pw.resetN = true → s.pw.tripped = false → s.getF F.dbgStatus_peeked 5 0 = was →
    State.dbgWord (State.setF { s.tapIr 0x11 with dbg.accAddr := a.toNat, dbg.accPeek := false, dbg.accData := 0 } F.dbgStatus_peeked 5 0 0)
      5 true .write a.toNat (leBytes 4 w.toNat) = (u, x) →
    (∀ code d, x = some (code, d) → exec (.accessWrite a w) s = .next (State.setF
      (State.accDone { u with dbg.accPeek := decide (u.getF F.dbgStatus_peeked 5 0 = 1) } code d) F.dbgStatus_peeked 5 0 (max was (u.getF F.dbgStatus_peeked 5 0)))) ∧
    (x = none → exec (.accessWrite a w) s = .next (State.setF { u with dbg.accBusy := true } F.dbgStatus_peeked 5 0 was))) ∧
  (∀ (a : NetAddr) (s u : State) (was : Nat) (x : Option (Nat × List Byte)), s.tapOn = true → s.dbg.accBusy = false → 1 ≤ s.level 5 →
    s.pw.resetN = true → s.pw.tripped = false → s.getF F.dbgStatus_peeked 5 0 = was →
    State.dbgWord (State.setF { s.tapIr 0x11 with dbg.accAddr := a.toNat, dbg.accPeek := false, dbg.accData := 0 } F.dbgStatus_peeked 5 0 0)
      5 false .read a.toNat [] = (u, x) →
    (∀ code d, x = some (code, d) → exec (.accessRead a) s = .next (State.setF
      (State.accDone { u with dbg.accPeek := decide (u.getF F.dbgStatus_peeked 5 0 = 1) } code d) F.dbgStatus_peeked 5 0 (max was (u.getF F.dbgStatus_peeked 5 0)))) ∧
    (x = none → exec (.accessRead a) s = .next (State.setF { u with dbg.accBusy := true } F.dbgStatus_peeked 5 0 was))) ∧
  (∀ (a : NetAddr) (s u : State) (was : Nat) (x : Option (Nat × List Byte)), s.tapOn = true → s.dbg.accBusy = false → 2 ≤ s.level 5 →
    s.pw.resetN = true → s.pw.tripped = false → s.getF F.dbgStatus_peeked 5 0 = was →
    State.dbgWord (State.setF { s.tapIr 0x11 with dbg.accAddr := a.toNat, dbg.accPeek := false, dbg.accData := 0 } F.dbgStatus_peeked 5 0 0)
      5 true .read a.toNat [] = (u, x) →
    (∀ code d, x = some (code, d) → exec (.accessEffectfulRead a) s = .next (State.setF
      (State.accDone { u with dbg.accPeek := decide (u.getF F.dbgStatus_peeked 5 0 = 1) } code d) F.dbgStatus_peeked 5 0 (max was (u.getF F.dbgStatus_peeked 5 0)))) ∧
    (x = none → exec (.accessEffectfulRead a) s = .next (State.setF { u with dbg.accBusy := true } F.dbgStatus_peeked 5 0 was)))

/-- Expert register access (R492): the access is made with the port's own rights, and its service code is in the reply. An access to another die's
block sends an MGMT unit over the control bundles (R62, R63; its payload is open, log entry 147). -/
def Obligations.ExpertAccess : Prop :=
  (∀ (p : Port) (m : Mbox) (s : State) (a : Nat), s.ready p m 0xF00 → s.arg p m 0 8 = a →
    (s.taken p m).expertOwner (s.ctxOf p m).rq false [a] = false → exec (.regRead p m) s = .next ((s.taken p m).reply p m 0x12 [])) ∧
  (∀ (p : Port) (m : Mbox) (s : State) (r : Rg) (i j : Nat), s.ready p m 0xF00 → s.arg p m 0 8 % 4 = 0 → regAt (s.arg p m 0 8) = some (r, i, j) →
    r.perPath = false → (s.taken p m).expertOwner (s.ctxOf p m).rq false [s.arg p m 0 8] = true →
    let u := (s.taken p m).mgmtTo (s.arg p m 0 8)
    u.regRight (s.ctxOf p m).rq false r i j 0 = true → u.regCode false true r i j = 0 →
    let q := u.readReg true 0 r i j
    exec (.regRead p m) s = .next (q.1.reply p m 0 (expertHead 0 1 4 ++ leBytes 4 q.2))) ∧
  (∀ (p : Port) (m : Mbox) (s : State), s.ready p m 0xF00 → (s.taken p m).expertOwner (s.ctxOf p m).rq false [s.arg p m 0 8] = true →
    let q := (s.taken p m).expertRead (s.ctxOf p m).rq (s.arg p m 0 8)
    exec (.regRead p m) s = .next (q.1.reply p m 0 (expertHead q.2.1 1 4 ++ leBytes 4 q.2.2))) ∧
  (∀ (p : Port) (m : Mbox) (s : State) (r : Rg) (i j : Nat), s.ready p m 0xF01 → s.arg p m 0 8 % 4 = 0 → regAt (s.arg p m 0 8) = some (r, i, j) →
    r.perPath = false → (s.taken p m).expertOwner (s.ctxOf p m).rq true [s.arg p m 0 8] = true →
    let u := (s.taken p m).mgmtTo (s.arg p m 0 8)
    u.regRight (s.ctxOf p m).rq true r i j (s.arg p m 8 4) = true → u.regCode true true r i j = 0 →
    exec (.regWrite p m) s = .next ((u.writeReg (s.ctxOf p m).rq r i j (s.arg p m 8 4)).reply p m 0 (expertHead 0 1 2))) ∧
  (∀ (s : State) (a d p : Nat), regDie a = some d → d ≠ 0 → s.ctrlHop 0 d = some p → ∃ w : BitVec 288, s.mgmtTo a =
    State.sendUnit { s with free := s.free + 4, seams.units := s.seams.units ++ [(5, d, w)] } 0 p 0x80 5 w.toNat) ∧
  (∀ (s : State) (a : Nat), regDie a = some 0 → s.mgmtTo a = s) ∧
  (∀ (p : Port) (m : Mbox) (s : State), s.ready p m 0xF01 → (s.taken p m).expertOwner (s.ctxOf p m).rq true [s.arg p m 0 8] = true →
    let q := (s.taken p m).expertWrite (s.ctxOf p m).rq (s.arg p m 0 8) (s.arg p m 8 4)
    exec (.regWrite p m) s = .next (q.1.reply p m 0 (expertHead q.2 1 2))) ∧
  (∀ (p : Port) (m : Mbox) (s : State), s.ready p m 0xF02 → (s.taken p m).expertOwner (s.ctxOf p m).rq true [s.arg p m 0 8] = true →
    (s.taken p m).expertOwner (s.ctxOf p m).rq false [s.arg p m 0 8] = true →
    let q := (s.taken p m).expertRead (s.ctxOf p m).rq (s.arg p m 0 8)
    let w := q.1.expertWrite (s.ctxOf p m).rq (s.arg p m 0 8)
      ((BitVec.ofNat 32 q.2.2 &&& ~~~BitVec.ofNat 32 (s.arg p m 8 4)) ||| (BitVec.ofNat 32 (s.arg p m 12 4) &&& BitVec.ofNat 32 (s.arg p m 8 4))).toNat
    q.2.1 = svcOK → exec (.regModify p m) s = .next (w.1.reply p m 0 (expertHead w.2 2 4 ++ leBytes 4 q.2.2))) ∧
  (∀ (p : Port) (m : Mbox) (s : State), s.ready p m 0xF03 →
    let l := (List.range (s.arg p m 8 1)).map (fun i => s.arg p m 0 8 + 4 * i)
    let q := State.expertReads (s.ctxOf p m).rq l (s.taken p m) []
    (s.taken p m).expertOwner (s.ctxOf p m).rq false l = true →
    exec (.regReadN p m) s =
      .next (q.1.reply p m 0 (expertHead q.2.1 (q.2.2.length + b2n (decide (q.2.1 ≠ svcOK))) 8 ++ q.2.2.flatMap (leBytes 4)))) ∧
  (∀ (p : Port) (m : Mbox) (s : State), s.ready p m 0xF04 →
    let l := (List.range (s.arg p m 0 1)).map (fun i => (s.arg p m (16 + 12 * i) 8, s.arg p m (24 + 12 * i) 4))
    let q := State.expertWrites (s.ctxOf p m).rq l (s.taken p m) 0
    (s.taken p m).expertOwner (s.ctxOf p m).rq true (l.map (·.1)) = true →
    exec (.regWriteList p m) s = .next (q.1.reply p m 0 (expertHead q.2.1 q.2.2 2))) ∧
  (∀ (q : Rq) (s u : State) (a code v : Nat) (l acc : List Nat), s.expertRead q a = (u, code, v) → code ≠ svcOK →
    State.expertReads q (a :: l) s acc = (u, code, acc)) ∧
  (∀ (q : Rq) (s u : State) (a w code n : Nat) (l : List (Nat × Nat)), s.expertWrite q a w = (u, code) → code ≠ svcOK →
    State.expertWrites q ((a, w) :: l) s n = (u, code, n + 1))
end

