-- ==== Sys2Proof/Laws/State.lean ====
section
/-! SUPPORT. What each update of State leaves as it was: one lemma per update and field, true by definition. -/

namespace Sys2Proof.Machine

@[simp] theorem State.setReg_pw (s : State) (r : Rg) (i j v : Nat) : (s.setReg r i j v).pw = s.pw := (rfl)
@[simp] theorem State.setReg_seams (s : State) (r : Rg) (i j v : Nat) : (s.setReg r i j v).seams = s.seams := (rfl)
@[simp] theorem State.setReg_ld (s : State) (r : Rg) (i j v : Nat) : (s.setReg r i j v).ld = s.ld := (rfl)
@[simp] theorem State.setReg_fab (s : State) (r : Rg) (i j v : Nat) : (s.setReg r i j v).fab = s.fab := (rfl)
@[simp] theorem State.setReg_net (s : State) (r : Rg) (i j v : Nat) : (s.setReg r i j v).net = s.net := (rfl)
@[simp] theorem State.setReg_evs (s : State) (r : Rg) (i j v : Nat) : (s.setReg r i j v).evs = s.evs := (rfl)
@[simp] theorem State.setReg_pqs (s : State) (r : Rg) (i j v : Nat) : (s.setReg r i j v).pqs = s.pqs := (rfl)
@[simp] theorem State.setReg_eng (s : State) (r : Rg) (i j v : Nat) : (s.setReg r i j v).eng = s.eng := (rfl)
@[simp] theorem State.setReg_dma (s : State) (r : Rg) (i j v : Nat) : (s.setReg r i j v).dma = s.dma := (rfl)
@[simp] theorem State.setReg_rgn (s : State) (r : Rg) (i j v : Nat) : (s.setReg r i j v).rgn = s.rgn := (rfl)
@[simp] theorem State.setReg_hbm (s : State) (r : Rg) (i j v : Nat) : (s.setReg r i j v).hbm = s.hbm := (rfl)
@[simp] theorem State.setReg_prot (s : State) (r : Rg) (i j v : Nat) : (s.setReg r i j v).prot = s.prot := (rfl)
@[simp] theorem State.setReg_ecc (s : State) (r : Rg) (i j v : Nat) : (s.setReg r i j v).ecc = s.ecc := (rfl)
@[simp] theorem State.setReg_lanes (s : State) (r : Rg) (i j v : Nat) : (s.setReg r i j v).lanes = s.lanes := (rfl)
@[simp] theorem State.setReg_tmr (s : State) (r : Rg) (i j v : Nat) : (s.setReg r i j v).tmr = s.tmr := (rfl)
@[simp] theorem State.setReg_clk (s : State) (r : Rg) (i j v : Nat) : (s.setReg r i j v).clk = s.clk := (rfl)
@[simp] theorem State.setReg_hosts (s : State) (r : Rg) (i j v : Nat) : (s.setReg r i j v).hosts = s.hosts := (rfl)
@[simp] theorem State.setReg_sett (s : State) (r : Rg) (i j v : Nat) : (s.setReg r i j v).sett = s.sett := (rfl)
@[simp] theorem State.setReg_dbg (s : State) (r : Rg) (i j v : Nat) : (s.setReg r i j v).dbg = s.dbg := (rfl)
@[simp] theorem State.setReg_elec (s : State) (r : Rg) (i j v : Nat) : (s.setReg r i j v).elec = s.elec := (rfl)
@[simp] theorem State.setReg_free (s : State) (r : Rg) (i j v : Nat) : (s.setReg r i j v).free = s.free := (rfl)
@[simp] theorem State.setReg_pending (s : State) (r : Rg) (i j v : Nat) : (s.setReg r i j v).pending = s.pending := (rfl)

@[simp] theorem State.setF_pw (s : State) (f : FRef) (i j v : Nat) : (s.setF f i j v).pw = s.pw := (rfl)
@[simp] theorem State.setF_seams (s : State) (f : FRef) (i j v : Nat) : (s.setF f i j v).seams = s.seams := (rfl)
@[simp] theorem State.setF_ld (s : State) (f : FRef) (i j v : Nat) : (s.setF f i j v).ld = s.ld := (rfl)
@[simp] theorem State.setF_fab (s : State) (f : FRef) (i j v : Nat) : (s.setF f i j v).fab = s.fab := (rfl)
@[simp] theorem State.setF_net (s : State) (f : FRef) (i j v : Nat) : (s.setF f i j v).net = s.net := (rfl)
@[simp] theorem State.setF_evs (s : State) (f : FRef) (i j v : Nat) : (s.setF f i j v).evs = s.evs := (rfl)
@[simp] theorem State.setF_pqs (s : State) (f : FRef) (i j v : Nat) : (s.setF f i j v).pqs = s.pqs := (rfl)
@[simp] theorem State.setF_eng (s : State) (f : FRef) (i j v : Nat) : (s.setF f i j v).eng = s.eng := (rfl)
@[simp] theorem State.setF_dma (s : State) (f : FRef) (i j v : Nat) : (s.setF f i j v).dma = s.dma := (rfl)
@[simp] theorem State.setF_rgn (s : State) (f : FRef) (i j v : Nat) : (s.setF f i j v).rgn = s.rgn := (rfl)
@[simp] theorem State.setF_hbm (s : State) (f : FRef) (i j v : Nat) : (s.setF f i j v).hbm = s.hbm := (rfl)
@[simp] theorem State.setF_prot (s : State) (f : FRef) (i j v : Nat) : (s.setF f i j v).prot = s.prot := (rfl)
@[simp] theorem State.setF_ecc (s : State) (f : FRef) (i j v : Nat) : (s.setF f i j v).ecc = s.ecc := (rfl)
@[simp] theorem State.setF_lanes (s : State) (f : FRef) (i j v : Nat) : (s.setF f i j v).lanes = s.lanes := (rfl)
@[simp] theorem State.setF_tmr (s : State) (f : FRef) (i j v : Nat) : (s.setF f i j v).tmr = s.tmr := (rfl)
@[simp] theorem State.setF_clk (s : State) (f : FRef) (i j v : Nat) : (s.setF f i j v).clk = s.clk := (rfl)
@[simp] theorem State.setF_hosts (s : State) (f : FRef) (i j v : Nat) : (s.setF f i j v).hosts = s.hosts := (rfl)
@[simp] theorem State.setF_sett (s : State) (f : FRef) (i j v : Nat) : (s.setF f i j v).sett = s.sett := (rfl)
@[simp] theorem State.setF_dbg (s : State) (f : FRef) (i j v : Nat) : (s.setF f i j v).dbg = s.dbg := (rfl)
@[simp] theorem State.setF_elec (s : State) (f : FRef) (i j v : Nat) : (s.setF f i j v).elec = s.elec := (rfl)
@[simp] theorem State.setF_free (s : State) (f : FRef) (i j v : Nat) : (s.setF f i j v).free = s.free := (rfl)
@[simp] theorem State.setF_pending (s : State) (f : FRef) (i j v : Nat) : (s.setF f i j v).pending = s.pending := (rfl)

@[simp] theorem State.count_pw (s : State) (f : FRef) (i j k : Nat) : (s.count f i j k).pw = s.pw := (rfl)
@[simp] theorem State.count_seams (s : State) (f : FRef) (i j k : Nat) : (s.count f i j k).seams = s.seams := (rfl)
@[simp] theorem State.count_ld (s : State) (f : FRef) (i j k : Nat) : (s.count f i j k).ld = s.ld := (rfl)
@[simp] theorem State.count_fab (s : State) (f : FRef) (i j k : Nat) : (s.count f i j k).fab = s.fab := (rfl)
@[simp] theorem State.count_net (s : State) (f : FRef) (i j k : Nat) : (s.count f i j k).net = s.net := (rfl)
@[simp] theorem State.count_evs (s : State) (f : FRef) (i j k : Nat) : (s.count f i j k).evs = s.evs := (rfl)
@[simp] theorem State.count_pqs (s : State) (f : FRef) (i j k : Nat) : (s.count f i j k).pqs = s.pqs := (rfl)
@[simp] theorem State.count_eng (s : State) (f : FRef) (i j k : Nat) : (s.count f i j k).eng = s.eng := (rfl)
@[simp] theorem State.count_dma (s : State) (f : FRef) (i j k : Nat) : (s.count f i j k).dma = s.dma := (rfl)
@[simp] theorem State.count_rgn (s : State) (f : FRef) (i j k : Nat) : (s.count f i j k).rgn = s.rgn := (rfl)
@[simp] theorem State.count_hbm (s : State) (f : FRef) (i j k : Nat) : (s.count f i j k).hbm = s.hbm := (rfl)
@[simp] theorem State.count_prot (s : State) (f : FRef) (i j k : Nat) : (s.count f i j k).prot = s.prot := (rfl)
@[simp] theorem State.count_ecc (s : State) (f : FRef) (i j k : Nat) : (s.count f i j k).ecc = s.ecc := (rfl)
@[simp] theorem State.count_lanes (s : State) (f : FRef) (i j k : Nat) : (s.count f i j k).lanes = s.lanes := (rfl)
@[simp] theorem State.count_tmr (s : State) (f : FRef) (i j k : Nat) : (s.count f i j k).tmr = s.tmr := (rfl)
@[simp] theorem State.count_clk (s : State) (f : FRef) (i j k : Nat) : (s.count f i j k).clk = s.clk := (rfl)
@[simp] theorem State.count_hosts (s : State) (f : FRef) (i j k : Nat) : (s.count f i j k).hosts = s.hosts := (rfl)
@[simp] theorem State.count_sett (s : State) (f : FRef) (i j k : Nat) : (s.count f i j k).sett = s.sett := (rfl)
@[simp] theorem State.count_dbg (s : State) (f : FRef) (i j k : Nat) : (s.count f i j k).dbg = s.dbg := (rfl)
@[simp] theorem State.count_elec (s : State) (f : FRef) (i j k : Nat) : (s.count f i j k).elec = s.elec := (rfl)
@[simp] theorem State.count_free (s : State) (f : FRef) (i j k : Nat) : (s.count f i j k).free = s.free := (rfl)
@[simp] theorem State.count_pending (s : State) (f : FRef) (i j k : Nat) : (s.count f i j k).pending = s.pending := (rfl)

@[simp] theorem State.wrap_pw (s : State) (f : FRef) (i j k : Nat) : (s.wrap f i j k).pw = s.pw := (rfl)
@[simp] theorem State.wrap_seams (s : State) (f : FRef) (i j k : Nat) : (s.wrap f i j k).seams = s.seams := (rfl)
@[simp] theorem State.wrap_ld (s : State) (f : FRef) (i j k : Nat) : (s.wrap f i j k).ld = s.ld := (rfl)
@[simp] theorem State.wrap_fab (s : State) (f : FRef) (i j k : Nat) : (s.wrap f i j k).fab = s.fab := (rfl)
@[simp] theorem State.wrap_net (s : State) (f : FRef) (i j k : Nat) : (s.wrap f i j k).net = s.net := (rfl)
@[simp] theorem State.wrap_evs (s : State) (f : FRef) (i j k : Nat) : (s.wrap f i j k).evs = s.evs := (rfl)
@[simp] theorem State.wrap_pqs (s : State) (f : FRef) (i j k : Nat) : (s.wrap f i j k).pqs = s.pqs := (rfl)
@[simp] theorem State.wrap_eng (s : State) (f : FRef) (i j k : Nat) : (s.wrap f i j k).eng = s.eng := (rfl)
@[simp] theorem State.wrap_dma (s : State) (f : FRef) (i j k : Nat) : (s.wrap f i j k).dma = s.dma := (rfl)
@[simp] theorem State.wrap_rgn (s : State) (f : FRef) (i j k : Nat) : (s.wrap f i j k).rgn = s.rgn := (rfl)
@[simp] theorem State.wrap_hbm (s : State) (f : FRef) (i j k : Nat) : (s.wrap f i j k).hbm = s.hbm := (rfl)
@[simp] theorem State.wrap_prot (s : State) (f : FRef) (i j k : Nat) : (s.wrap f i j k).prot = s.prot := (rfl)
@[simp] theorem State.wrap_ecc (s : State) (f : FRef) (i j k : Nat) : (s.wrap f i j k).ecc = s.ecc := (rfl)
@[simp] theorem State.wrap_lanes (s : State) (f : FRef) (i j k : Nat) : (s.wrap f i j k).lanes = s.lanes := (rfl)
@[simp] theorem State.wrap_tmr (s : State) (f : FRef) (i j k : Nat) : (s.wrap f i j k).tmr = s.tmr := (rfl)
@[simp] theorem State.wrap_clk (s : State) (f : FRef) (i j k : Nat) : (s.wrap f i j k).clk = s.clk := (rfl)
@[simp] theorem State.wrap_hosts (s : State) (f : FRef) (i j k : Nat) : (s.wrap f i j k).hosts = s.hosts := (rfl)
@[simp] theorem State.wrap_sett (s : State) (f : FRef) (i j k : Nat) : (s.wrap f i j k).sett = s.sett := (rfl)
@[simp] theorem State.wrap_dbg (s : State) (f : FRef) (i j k : Nat) : (s.wrap f i j k).dbg = s.dbg := (rfl)
@[simp] theorem State.wrap_elec (s : State) (f : FRef) (i j k : Nat) : (s.wrap f i j k).elec = s.elec := (rfl)
@[simp] theorem State.wrap_free (s : State) (f : FRef) (i j k : Nat) : (s.wrap f i j k).free = s.free := (rfl)
@[simp] theorem State.wrap_pending (s : State) (f : FRef) (i j k : Nat) : (s.wrap f i j k).pending = s.pending := (rfl)

@[simp] theorem State.resetReg_pw (s : State) (r : Rg) (i j : Nat) : (s.resetReg r i j).pw = s.pw := (rfl)
@[simp] theorem State.resetReg_seams (s : State) (r : Rg) (i j : Nat) : (s.resetReg r i j).seams = s.seams := (rfl)
@[simp] theorem State.resetReg_ld (s : State) (r : Rg) (i j : Nat) : (s.resetReg r i j).ld = s.ld := (rfl)
@[simp] theorem State.resetReg_fab (s : State) (r : Rg) (i j : Nat) : (s.resetReg r i j).fab = s.fab := (rfl)
@[simp] theorem State.resetReg_net (s : State) (r : Rg) (i j : Nat) : (s.resetReg r i j).net = s.net := (rfl)
@[simp] theorem State.resetReg_evs (s : State) (r : Rg) (i j : Nat) : (s.resetReg r i j).evs = s.evs := (rfl)
@[simp] theorem State.resetReg_pqs (s : State) (r : Rg) (i j : Nat) : (s.resetReg r i j).pqs = s.pqs := (rfl)
@[simp] theorem State.resetReg_eng (s : State) (r : Rg) (i j : Nat) : (s.resetReg r i j).eng = s.eng := (rfl)
@[simp] theorem State.resetReg_dma (s : State) (r : Rg) (i j : Nat) : (s.resetReg r i j).dma = s.dma := (rfl)
@[simp] theorem State.resetReg_rgn (s : State) (r : Rg) (i j : Nat) : (s.resetReg r i j).rgn = s.rgn := (rfl)
@[simp] theorem State.resetReg_hbm (s : State) (r : Rg) (i j : Nat) : (s.resetReg r i j).hbm = s.hbm := (rfl)
@[simp] theorem State.resetReg_prot (s : State) (r : Rg) (i j : Nat) : (s.resetReg r i j).prot = s.prot := (rfl)
@[simp] theorem State.resetReg_ecc (s : State) (r : Rg) (i j : Nat) : (s.resetReg r i j).ecc = s.ecc := (rfl)
@[simp] theorem State.resetReg_lanes (s : State) (r : Rg) (i j : Nat) : (s.resetReg r i j).lanes = s.lanes := (rfl)
@[simp] theorem State.resetReg_tmr (s : State) (r : Rg) (i j : Nat) : (s.resetReg r i j).tmr = s.tmr := (rfl)
@[simp] theorem State.resetReg_clk (s : State) (r : Rg) (i j : Nat) : (s.resetReg r i j).clk = s.clk := (rfl)
@[simp] theorem State.resetReg_hosts (s : State) (r : Rg) (i j : Nat) : (s.resetReg r i j).hosts = s.hosts := (rfl)
@[simp] theorem State.resetReg_sett (s : State) (r : Rg) (i j : Nat) : (s.resetReg r i j).sett = s.sett := (rfl)
@[simp] theorem State.resetReg_dbg (s : State) (r : Rg) (i j : Nat) : (s.resetReg r i j).dbg = s.dbg := (rfl)
@[simp] theorem State.resetReg_elec (s : State) (r : Rg) (i j : Nat) : (s.resetReg r i j).elec = s.elec := (rfl)
@[simp] theorem State.resetReg_free (s : State) (r : Rg) (i j : Nat) : (s.resetReg r i j).free = s.free := (rfl)
@[simp] theorem State.resetReg_pending (s : State) (r : Rg) (i j : Nat) : (s.resetReg r i j).pending = s.pending := (rfl)

@[simp] theorem State.setPQ_pw (s : State) (k : Nat) (q : PQ) : (s.setPQ k q).pw = s.pw := (rfl)
@[simp] theorem State.setPQ_seams (s : State) (k : Nat) (q : PQ) : (s.setPQ k q).seams = s.seams := (rfl)
@[simp] theorem State.setPQ_ld (s : State) (k : Nat) (q : PQ) : (s.setPQ k q).ld = s.ld := (rfl)
@[simp] theorem State.setPQ_fab (s : State) (k : Nat) (q : PQ) : (s.setPQ k q).fab = s.fab := (rfl)
@[simp] theorem State.setPQ_net (s : State) (k : Nat) (q : PQ) : (s.setPQ k q).net = s.net := (rfl)
@[simp] theorem State.setPQ_evs (s : State) (k : Nat) (q : PQ) : (s.setPQ k q).evs = s.evs := (rfl)
@[simp] theorem State.setPQ_eng (s : State) (k : Nat) (q : PQ) : (s.setPQ k q).eng = s.eng := (rfl)
@[simp] theorem State.setPQ_dma (s : State) (k : Nat) (q : PQ) : (s.setPQ k q).dma = s.dma := (rfl)
@[simp] theorem State.setPQ_rgn (s : State) (k : Nat) (q : PQ) : (s.setPQ k q).rgn = s.rgn := (rfl)
@[simp] theorem State.setPQ_hbm (s : State) (k : Nat) (q : PQ) : (s.setPQ k q).hbm = s.hbm := (rfl)
@[simp] theorem State.setPQ_prot (s : State) (k : Nat) (q : PQ) : (s.setPQ k q).prot = s.prot := (rfl)
@[simp] theorem State.setPQ_ecc (s : State) (k : Nat) (q : PQ) : (s.setPQ k q).ecc = s.ecc := (rfl)
@[simp] theorem State.setPQ_lanes (s : State) (k : Nat) (q : PQ) : (s.setPQ k q).lanes = s.lanes := (rfl)
@[simp] theorem State.setPQ_tmr (s : State) (k : Nat) (q : PQ) : (s.setPQ k q).tmr = s.tmr := (rfl)
@[simp] theorem State.setPQ_clk (s : State) (k : Nat) (q : PQ) : (s.setPQ k q).clk = s.clk := (rfl)
@[simp] theorem State.setPQ_hosts (s : State) (k : Nat) (q : PQ) : (s.setPQ k q).hosts = s.hosts := (rfl)
@[simp] theorem State.setPQ_sett (s : State) (k : Nat) (q : PQ) : (s.setPQ k q).sett = s.sett := (rfl)
@[simp] theorem State.setPQ_dbg (s : State) (k : Nat) (q : PQ) : (s.setPQ k q).dbg = s.dbg := (rfl)
@[simp] theorem State.setPQ_elec (s : State) (k : Nat) (q : PQ) : (s.setPQ k q).elec = s.elec := (rfl)
@[simp] theorem State.setPQ_regs (s : State) (k : Nat) (q : PQ) : (s.setPQ k q).regs = s.regs := (rfl)
@[simp] theorem State.setPQ_free (s : State) (k : Nat) (q : PQ) : (s.setPQ k q).free = s.free := (rfl)
@[simp] theorem State.setPQ_pending (s : State) (k : Nat) (q : PQ) : (s.setPQ k q).pending = s.pending := (rfl)

@[simp] theorem State.setEngine_pw (s : State) (k : Nat) (q : Engine) : (s.setEngine k q).pw = s.pw := (rfl)
@[simp] theorem State.setEngine_seams (s : State) (k : Nat) (q : Engine) : (s.setEngine k q).seams = s.seams := (rfl)
@[simp] theorem State.setEngine_ld (s : State) (k : Nat) (q : Engine) : (s.setEngine k q).ld = s.ld := (rfl)
@[simp] theorem State.setEngine_fab (s : State) (k : Nat) (q : Engine) : (s.setEngine k q).fab = s.fab := (rfl)
@[simp] theorem State.setEngine_net (s : State) (k : Nat) (q : Engine) : (s.setEngine k q).net = s.net := (rfl)
@[simp] theorem State.setEngine_evs (s : State) (k : Nat) (q : Engine) : (s.setEngine k q).evs = s.evs := (rfl)
@[simp] theorem State.setEngine_pqs (s : State) (k : Nat) (q : Engine) : (s.setEngine k q).pqs = s.pqs := (rfl)
@[simp] theorem State.setEngine_dma (s : State) (k : Nat) (q : Engine) : (s.setEngine k q).dma = s.dma := (rfl)
@[simp] theorem State.setEngine_rgn (s : State) (k : Nat) (q : Engine) : (s.setEngine k q).rgn = s.rgn := (rfl)
@[simp] theorem State.setEngine_hbm (s : State) (k : Nat) (q : Engine) : (s.setEngine k q).hbm = s.hbm := (rfl)
@[simp] theorem State.setEngine_prot (s : State) (k : Nat) (q : Engine) : (s.setEngine k q).prot = s.prot := (rfl)
@[simp] theorem State.setEngine_ecc (s : State) (k : Nat) (q : Engine) : (s.setEngine k q).ecc = s.ecc := (rfl)
@[simp] theorem State.setEngine_lanes (s : State) (k : Nat) (q : Engine) : (s.setEngine k q).lanes = s.lanes := (rfl)
@[simp] theorem State.setEngine_tmr (s : State) (k : Nat) (q : Engine) : (s.setEngine k q).tmr = s.tmr := (rfl)
@[simp] theorem State.setEngine_clk (s : State) (k : Nat) (q : Engine) : (s.setEngine k q).clk = s.clk := (rfl)
@[simp] theorem State.setEngine_hosts (s : State) (k : Nat) (q : Engine) : (s.setEngine k q).hosts = s.hosts := (rfl)
@[simp] theorem State.setEngine_sett (s : State) (k : Nat) (q : Engine) : (s.setEngine k q).sett = s.sett := (rfl)
@[simp] theorem State.setEngine_dbg (s : State) (k : Nat) (q : Engine) : (s.setEngine k q).dbg = s.dbg := (rfl)
@[simp] theorem State.setEngine_elec (s : State) (k : Nat) (q : Engine) : (s.setEngine k q).elec = s.elec := (rfl)
@[simp] theorem State.setEngine_regs (s : State) (k : Nat) (q : Engine) : (s.setEngine k q).regs = s.regs := (rfl)
@[simp] theorem State.setEngine_free (s : State) (k : Nat) (q : Engine) : (s.setEngine k q).free = s.free := (rfl)
@[simp] theorem State.setEngine_pending (s : State) (k : Nat) (q : Engine) : (s.setEngine k q).pending = s.pending := (rfl)

@[simp] theorem State.setLane_pw (s : State) (k : Nat) (q : LaneSt) : (s.setLane k q).pw = s.pw := (rfl)
@[simp] theorem State.setLane_seams (s : State) (k : Nat) (q : LaneSt) : (s.setLane k q).seams = s.seams := (rfl)
@[simp] theorem State.setLane_ld (s : State) (k : Nat) (q : LaneSt) : (s.setLane k q).ld = s.ld := (rfl)
@[simp] theorem State.setLane_fab (s : State) (k : Nat) (q : LaneSt) : (s.setLane k q).fab = s.fab := (rfl)
@[simp] theorem State.setLane_net (s : State) (k : Nat) (q : LaneSt) : (s.setLane k q).net = s.net := (rfl)
@[simp] theorem State.setLane_evs (s : State) (k : Nat) (q : LaneSt) : (s.setLane k q).evs = s.evs := (rfl)
@[simp] theorem State.setLane_pqs (s : State) (k : Nat) (q : LaneSt) : (s.setLane k q).pqs = s.pqs := (rfl)
@[simp] theorem State.setLane_eng (s : State) (k : Nat) (q : LaneSt) : (s.setLane k q).eng = s.eng := (rfl)
@[simp] theorem State.setLane_dma (s : State) (k : Nat) (q : LaneSt) : (s.setLane k q).dma = s.dma := (rfl)
@[simp] theorem State.setLane_rgn (s : State) (k : Nat) (q : LaneSt) : (s.setLane k q).rgn = s.rgn := (rfl)
@[simp] theorem State.setLane_hbm (s : State) (k : Nat) (q : LaneSt) : (s.setLane k q).hbm = s.hbm := (rfl)
@[simp] theorem State.setLane_prot (s : State) (k : Nat) (q : LaneSt) : (s.setLane k q).prot = s.prot := (rfl)
@[simp] theorem State.setLane_ecc (s : State) (k : Nat) (q : LaneSt) : (s.setLane k q).ecc = s.ecc := (rfl)
@[simp] theorem State.setLane_tmr (s : State) (k : Nat) (q : LaneSt) : (s.setLane k q).tmr = s.tmr := (rfl)
@[simp] theorem State.setLane_clk (s : State) (k : Nat) (q : LaneSt) : (s.setLane k q).clk = s.clk := (rfl)
@[simp] theorem State.setLane_hosts (s : State) (k : Nat) (q : LaneSt) : (s.setLane k q).hosts = s.hosts := (rfl)
@[simp] theorem State.setLane_sett (s : State) (k : Nat) (q : LaneSt) : (s.setLane k q).sett = s.sett := (rfl)
@[simp] theorem State.setLane_dbg (s : State) (k : Nat) (q : LaneSt) : (s.setLane k q).dbg = s.dbg := (rfl)
@[simp] theorem State.setLane_elec (s : State) (k : Nat) (q : LaneSt) : (s.setLane k q).elec = s.elec := (rfl)
@[simp] theorem State.setLane_regs (s : State) (k : Nat) (q : LaneSt) : (s.setLane k q).regs = s.regs := (rfl)
@[simp] theorem State.setLane_free (s : State) (k : Nat) (q : LaneSt) : (s.setLane k q).free = s.free := (rfl)
@[simp] theorem State.setLane_pending (s : State) (k : Nat) (q : LaneSt) : (s.setLane k q).pending = s.pending := (rfl)

@[simp] theorem State.setPort_pw (s : State) (k : Nat) (q : HostPort) : (s.setPort k q).pw = s.pw := (rfl)
@[simp] theorem State.setPort_seams (s : State) (k : Nat) (q : HostPort) : (s.setPort k q).seams = s.seams := (rfl)
@[simp] theorem State.setPort_ld (s : State) (k : Nat) (q : HostPort) : (s.setPort k q).ld = s.ld := (rfl)
@[simp] theorem State.setPort_fab (s : State) (k : Nat) (q : HostPort) : (s.setPort k q).fab = s.fab := (rfl)
@[simp] theorem State.setPort_net (s : State) (k : Nat) (q : HostPort) : (s.setPort k q).net = s.net := (rfl)
@[simp] theorem State.setPort_evs (s : State) (k : Nat) (q : HostPort) : (s.setPort k q).evs = s.evs := (rfl)
@[simp] theorem State.setPort_pqs (s : State) (k : Nat) (q : HostPort) : (s.setPort k q).pqs = s.pqs := (rfl)
@[simp] theorem State.setPort_eng (s : State) (k : Nat) (q : HostPort) : (s.setPort k q).eng = s.eng := (rfl)
@[simp] theorem State.setPort_dma (s : State) (k : Nat) (q : HostPort) : (s.setPort k q).dma = s.dma := (rfl)
@[simp] theorem State.setPort_rgn (s : State) (k : Nat) (q : HostPort) : (s.setPort k q).rgn = s.rgn := (rfl)
@[simp] theorem State.setPort_hbm (s : State) (k : Nat) (q : HostPort) : (s.setPort k q).hbm = s.hbm := (rfl)
@[simp] theorem State.setPort_prot (s : State) (k : Nat) (q : HostPort) : (s.setPort k q).prot = s.prot := (rfl)
@[simp] theorem State.setPort_ecc (s : State) (k : Nat) (q : HostPort) : (s.setPort k q).ecc = s.ecc := (rfl)
@[simp] theorem State.setPort_lanes (s : State) (k : Nat) (q : HostPort) : (s.setPort k q).lanes = s.lanes := (rfl)
@[simp] theorem State.setPort_tmr (s : State) (k : Nat) (q : HostPort) : (s.setPort k q).tmr = s.tmr := (rfl)
@[simp] theorem State.setPort_clk (s : State) (k : Nat) (q : HostPort) : (s.setPort k q).clk = s.clk := (rfl)
@[simp] theorem State.setPort_sett (s : State) (k : Nat) (q : HostPort) : (s.setPort k q).sett = s.sett := (rfl)
@[simp] theorem State.setPort_dbg (s : State) (k : Nat) (q : HostPort) : (s.setPort k q).dbg = s.dbg := (rfl)
@[simp] theorem State.setPort_elec (s : State) (k : Nat) (q : HostPort) : (s.setPort k q).elec = s.elec := (rfl)
@[simp] theorem State.setPort_regs (s : State) (k : Nat) (q : HostPort) : (s.setPort k q).regs = s.regs := (rfl)
@[simp] theorem State.setPort_free (s : State) (k : Nat) (q : HostPort) : (s.setPort k q).free = s.free := (rfl)
@[simp] theorem State.setPort_pending (s : State) (k : Nat) (q : HostPort) : (s.setPort k q).pending = s.pending := (rfl)
@[simp] theorem State.setPort_hosts_rr (s : State) (k : Nat) (q : HostPort) : (s.setPort k q).hosts.rr = s.hosts.rr := (rfl)
@[simp] theorem State.setPort_hosts_alarms (s : State) (k : Nat) (q : HostPort) : (s.setPort k q).hosts.alarms = s.hosts.alarms := (rfl)
@[simp] theorem State.setPort_hosts_degr (s : State) (k : Nat) (q : HostPort) : (s.setPort k q).hosts.degr = s.hosts.degr := (rfl)
@[simp] theorem State.setPort_hosts_ops (s : State) (k : Nat) (q : HostPort) : (s.setPort k q).hosts.ops = s.hosts.ops := (rfl)
@[simp] theorem State.setPort_hosts_relayOut (s : State) (k : Nat) (q : HostPort) : (s.setPort k q).hosts.relayOut = s.hosts.relayOut := (rfl)
@[simp] theorem State.setPort_hosts_routes (s : State) (k : Nat) (q : HostPort) : (s.setPort k q).hosts.routes = s.hosts.routes := (rfl)
@[simp] theorem State.setPort_hosts_waits (s : State) (k : Nat) (q : HostPort) : (s.setPort k q).hosts.waits = s.hosts.waits := (rfl)
@[simp] theorem State.setPort_hosts_nextRtag (s : State) (k : Nat) (q : HostPort) : (s.setPort k q).hosts.nextRtag = s.hosts.nextRtag := (rfl)
@[simp] theorem State.setPort_hosts_reverse (s : State) (k : Nat) (q : HostPort) : (s.setPort k q).hosts.reverse = s.hosts.reverse := (rfl)
@[simp] theorem State.setPort_hosts_mpOff (s : State) (k : Nat) (q : HostPort) : (s.setPort k q).hosts.mpOff = s.hosts.mpOff := (rfl)
@[simp] theorem State.setPort_hosts_mpLatch (s : State) (k : Nat) (q : HostPort) : (s.setPort k q).hosts.mpLatch = s.hosts.mpLatch := (rfl)
@[simp] theorem State.setPort_hosts_mpOut (s : State) (k : Nat) (q : HostPort) : (s.setPort k q).hosts.mpOut = s.hosts.mpOut := (rfl)
@[simp] theorem State.setPort_hosts_mpIdle (s : State) (k : Nat) (q : HostPort) : (s.setPort k q).hosts.mpIdle = s.hosts.mpIdle := (rfl)
@[simp] theorem State.setPort_hosts_curTenant (s : State) (k : Nat) (q : HostPort) : (s.setPort k q).hosts.curTenant = s.hosts.curTenant := (rfl)

@[simp] theorem State.setMbox_pw (s : State) (p m : Nat) (x : Mailbox) : (s.setMbox p m x).pw = s.pw := (rfl)
@[simp] theorem State.setMbox_seams (s : State) (p m : Nat) (x : Mailbox) : (s.setMbox p m x).seams = s.seams := (rfl)
@[simp] theorem State.setMbox_ld (s : State) (p m : Nat) (x : Mailbox) : (s.setMbox p m x).ld = s.ld := (rfl)
@[simp] theorem State.setMbox_fab (s : State) (p m : Nat) (x : Mailbox) : (s.setMbox p m x).fab = s.fab := (rfl)
@[simp] theorem State.setMbox_net (s : State) (p m : Nat) (x : Mailbox) : (s.setMbox p m x).net = s.net := (rfl)
@[simp] theorem State.setMbox_evs (s : State) (p m : Nat) (x : Mailbox) : (s.setMbox p m x).evs = s.evs := (rfl)
@[simp] theorem State.setMbox_pqs (s : State) (p m : Nat) (x : Mailbox) : (s.setMbox p m x).pqs = s.pqs := (rfl)
@[simp] theorem State.setMbox_eng (s : State) (p m : Nat) (x : Mailbox) : (s.setMbox p m x).eng = s.eng := (rfl)
@[simp] theorem State.setMbox_dma (s : State) (p m : Nat) (x : Mailbox) : (s.setMbox p m x).dma = s.dma := (rfl)
@[simp] theorem State.setMbox_rgn (s : State) (p m : Nat) (x : Mailbox) : (s.setMbox p m x).rgn = s.rgn := (rfl)
@[simp] theorem State.setMbox_hbm (s : State) (p m : Nat) (x : Mailbox) : (s.setMbox p m x).hbm = s.hbm := (rfl)
@[simp] theorem State.setMbox_prot (s : State) (p m : Nat) (x : Mailbox) : (s.setMbox p m x).prot = s.prot := (rfl)
@[simp] theorem State.setMbox_ecc (s : State) (p m : Nat) (x : Mailbox) : (s.setMbox p m x).ecc = s.ecc := (rfl)
@[simp] theorem State.setMbox_lanes (s : State) (p m : Nat) (x : Mailbox) : (s.setMbox p m x).lanes = s.lanes := (rfl)
@[simp] theorem State.setMbox_tmr (s : State) (p m : Nat) (x : Mailbox) : (s.setMbox p m x).tmr = s.tmr := (rfl)
@[simp] theorem State.setMbox_clk (s : State) (p m : Nat) (x : Mailbox) : (s.setMbox p m x).clk = s.clk := (rfl)
@[simp] theorem State.setMbox_sett (s : State) (p m : Nat) (x : Mailbox) : (s.setMbox p m x).sett = s.sett := (rfl)
@[simp] theorem State.setMbox_dbg (s : State) (p m : Nat) (x : Mailbox) : (s.setMbox p m x).dbg = s.dbg := (rfl)
@[simp] theorem State.setMbox_elec (s : State) (p m : Nat) (x : Mailbox) : (s.setMbox p m x).elec = s.elec := (rfl)
@[simp] theorem State.setMbox_regs (s : State) (p m : Nat) (x : Mailbox) : (s.setMbox p m x).regs = s.regs := (rfl)
@[simp] theorem State.setMbox_free (s : State) (p m : Nat) (x : Mailbox) : (s.setMbox p m x).free = s.free := (rfl)
@[simp] theorem State.setMbox_pending (s : State) (p m : Nat) (x : Mailbox) : (s.setMbox p m x).pending = s.pending := (rfl)
@[simp] theorem State.setMbox_hosts_rr (s : State) (p m : Nat) (x : Mailbox) : (s.setMbox p m x).hosts.rr = s.hosts.rr := (rfl)
@[simp] theorem State.setMbox_hosts_alarms (s : State) (p m : Nat) (x : Mailbox) : (s.setMbox p m x).hosts.alarms = s.hosts.alarms := (rfl)
@[simp] theorem State.setMbox_hosts_degr (s : State) (p m : Nat) (x : Mailbox) : (s.setMbox p m x).hosts.degr = s.hosts.degr := (rfl)
@[simp] theorem State.setMbox_hosts_ops (s : State) (p m : Nat) (x : Mailbox) : (s.setMbox p m x).hosts.ops = s.hosts.ops := (rfl)
@[simp] theorem State.setMbox_hosts_relayOut (s : State) (p m : Nat) (x : Mailbox) : (s.setMbox p m x).hosts.relayOut = s.hosts.relayOut := (rfl)
@[simp] theorem State.setMbox_hosts_routes (s : State) (p m : Nat) (x : Mailbox) : (s.setMbox p m x).hosts.routes = s.hosts.routes := (rfl)
@[simp] theorem State.setMbox_hosts_waits (s : State) (p m : Nat) (x : Mailbox) : (s.setMbox p m x).hosts.waits = s.hosts.waits := (rfl)
@[simp] theorem State.setMbox_hosts_nextRtag (s : State) (p m : Nat) (x : Mailbox) : (s.setMbox p m x).hosts.nextRtag = s.hosts.nextRtag := (rfl)
@[simp] theorem State.setMbox_hosts_reverse (s : State) (p m : Nat) (x : Mailbox) : (s.setMbox p m x).hosts.reverse = s.hosts.reverse := (rfl)
@[simp] theorem State.setMbox_hosts_mpOff (s : State) (p m : Nat) (x : Mailbox) : (s.setMbox p m x).hosts.mpOff = s.hosts.mpOff := (rfl)
@[simp] theorem State.setMbox_hosts_mpLatch (s : State) (p m : Nat) (x : Mailbox) : (s.setMbox p m x).hosts.mpLatch = s.hosts.mpLatch := (rfl)
@[simp] theorem State.setMbox_hosts_mpOut (s : State) (p m : Nat) (x : Mailbox) : (s.setMbox p m x).hosts.mpOut = s.hosts.mpOut := (rfl)
@[simp] theorem State.setMbox_hosts_mpIdle (s : State) (p m : Nat) (x : Mailbox) : (s.setMbox p m x).hosts.mpIdle = s.hosts.mpIdle := (rfl)
@[simp] theorem State.setMbox_hosts_curTenant (s : State) (p m : Nat) (x : Mailbox) : (s.setMbox p m x).hosts.curTenant = s.hosts.curTenant := (rfl)

@[simp] theorem State.setRegion_pw (s : State) (k : Nat) (q : Region) : (s.setRegion k q).pw = s.pw := (rfl)
@[simp] theorem State.setRegion_seams (s : State) (k : Nat) (q : Region) : (s.setRegion k q).seams = s.seams := (rfl)
@[simp] theorem State.setRegion_ld (s : State) (k : Nat) (q : Region) : (s.setRegion k q).ld = s.ld := (rfl)
@[simp] theorem State.setRegion_fab (s : State) (k : Nat) (q : Region) : (s.setRegion k q).fab = s.fab := (rfl)
@[simp] theorem State.setRegion_net (s : State) (k : Nat) (q : Region) : (s.setRegion k q).net = s.net := (rfl)
@[simp] theorem State.setRegion_evs (s : State) (k : Nat) (q : Region) : (s.setRegion k q).evs = s.evs := (rfl)
@[simp] theorem State.setRegion_pqs (s : State) (k : Nat) (q : Region) : (s.setRegion k q).pqs = s.pqs := (rfl)
@[simp] theorem State.setRegion_eng (s : State) (k : Nat) (q : Region) : (s.setRegion k q).eng = s.eng := (rfl)
@[simp] theorem State.setRegion_dma (s : State) (k : Nat) (q : Region) : (s.setRegion k q).dma = s.dma := (rfl)
@[simp] theorem State.setRegion_hbm (s : State) (k : Nat) (q : Region) : (s.setRegion k q).hbm = s.hbm := (rfl)
@[simp] theorem State.setRegion_prot (s : State) (k : Nat) (q : Region) : (s.setRegion k q).prot = s.prot := (rfl)
@[simp] theorem State.setRegion_ecc (s : State) (k : Nat) (q : Region) : (s.setRegion k q).ecc = s.ecc := (rfl)
@[simp] theorem State.setRegion_lanes (s : State) (k : Nat) (q : Region) : (s.setRegion k q).lanes = s.lanes := (rfl)
@[simp] theorem State.setRegion_tmr (s : State) (k : Nat) (q : Region) : (s.setRegion k q).tmr = s.tmr := (rfl)
@[simp] theorem State.setRegion_clk (s : State) (k : Nat) (q : Region) : (s.setRegion k q).clk = s.clk := (rfl)
@[simp] theorem State.setRegion_hosts (s : State) (k : Nat) (q : Region) : (s.setRegion k q).hosts = s.hosts := (rfl)
@[simp] theorem State.setRegion_sett (s : State) (k : Nat) (q : Region) : (s.setRegion k q).sett = s.sett := (rfl)
@[simp] theorem State.setRegion_dbg (s : State) (k : Nat) (q : Region) : (s.setRegion k q).dbg = s.dbg := (rfl)
@[simp] theorem State.setRegion_elec (s : State) (k : Nat) (q : Region) : (s.setRegion k q).elec = s.elec := (rfl)
@[simp] theorem State.setRegion_regs (s : State) (k : Nat) (q : Region) : (s.setRegion k q).regs = s.regs := (rfl)
@[simp] theorem State.setRegion_free (s : State) (k : Nat) (q : Region) : (s.setRegion k q).free = s.free := (rfl)
@[simp] theorem State.setRegion_pending (s : State) (k : Nat) (q : Region) : (s.setRegion k q).pending = s.pending := (rfl)
@[simp] theorem State.setRegion_rgn_ofTile (s : State) (k : Nat) (q : Region) : (s.setRegion k q).rgn.ofTile = s.rgn.ofTile := (rfl)

@[simp] theorem State.setChan_pw (s : State) (k : Nat) (q : Channel) : (s.setChan k q).pw = s.pw := (rfl)
@[simp] theorem State.setChan_seams (s : State) (k : Nat) (q : Channel) : (s.setChan k q).seams = s.seams := (rfl)
@[simp] theorem State.setChan_ld (s : State) (k : Nat) (q : Channel) : (s.setChan k q).ld = s.ld := (rfl)
@[simp] theorem State.setChan_fab (s : State) (k : Nat) (q : Channel) : (s.setChan k q).fab = s.fab := (rfl)
@[simp] theorem State.setChan_net (s : State) (k : Nat) (q : Channel) : (s.setChan k q).net = s.net := (rfl)
@[simp] theorem State.setChan_evs (s : State) (k : Nat) (q : Channel) : (s.setChan k q).evs = s.evs := (rfl)
@[simp] theorem State.setChan_pqs (s : State) (k : Nat) (q : Channel) : (s.setChan k q).pqs = s.pqs := (rfl)
@[simp] theorem State.setChan_eng (s : State) (k : Nat) (q : Channel) : (s.setChan k q).eng = s.eng := (rfl)
@[simp] theorem State.setChan_rgn (s : State) (k : Nat) (q : Channel) : (s.setChan k q).rgn = s.rgn := (rfl)
@[simp] theorem State.setChan_hbm (s : State) (k : Nat) (q : Channel) : (s.setChan k q).hbm = s.hbm := (rfl)
@[simp] theorem State.setChan_prot (s : State) (k : Nat) (q : Channel) : (s.setChan k q).prot = s.prot := (rfl)
@[simp] theorem State.setChan_ecc (s : State) (k : Nat) (q : Channel) : (s.setChan k q).ecc = s.ecc := (rfl)
@[simp] theorem State.setChan_lanes (s : State) (k : Nat) (q : Channel) : (s.setChan k q).lanes = s.lanes := (rfl)
@[simp] theorem State.setChan_tmr (s : State) (k : Nat) (q : Channel) : (s.setChan k q).tmr = s.tmr := (rfl)
@[simp] theorem State.setChan_clk (s : State) (k : Nat) (q : Channel) : (s.setChan k q).clk = s.clk := (rfl)
@[simp] theorem State.setChan_hosts (s : State) (k : Nat) (q : Channel) : (s.setChan k q).hosts = s.hosts := (rfl)
@[simp] theorem State.setChan_sett (s : State) (k : Nat) (q : Channel) : (s.setChan k q).sett = s.sett := (rfl)
@[simp] theorem State.setChan_dbg (s : State) (k : Nat) (q : Channel) : (s.setChan k q).dbg = s.dbg := (rfl)
@[simp] theorem State.setChan_elec (s : State) (k : Nat) (q : Channel) : (s.setChan k q).elec = s.elec := (rfl)
@[simp] theorem State.setChan_regs (s : State) (k : Nat) (q : Channel) : (s.setChan k q).regs = s.regs := (rfl)
@[simp] theorem State.setChan_free (s : State) (k : Nat) (q : Channel) : (s.setChan k q).free = s.free := (rfl)
@[simp] theorem State.setChan_pending (s : State) (k : Nat) (q : Channel) : (s.setChan k q).pending = s.pending := (rfl)
@[simp] theorem State.setChan_dma_rr (s : State) (k : Nat) (q : Channel) : (s.setChan k q).dma.rr = s.dma.rr := (rfl)

@[simp] theorem State.setKeeper_pw (s : State) (k : Nat) (q : Keeper) : (s.setKeeper k q).pw = s.pw := (rfl)
@[simp] theorem State.setKeeper_seams (s : State) (k : Nat) (q : Keeper) : (s.setKeeper k q).seams = s.seams := (rfl)
@[simp] theorem State.setKeeper_ld (s : State) (k : Nat) (q : Keeper) : (s.setKeeper k q).ld = s.ld := (rfl)
@[simp] theorem State.setKeeper_fab (s : State) (k : Nat) (q : Keeper) : (s.setKeeper k q).fab = s.fab := (rfl)
@[simp] theorem State.setKeeper_net (s : State) (k : Nat) (q : Keeper) : (s.setKeeper k q).net = s.net := (rfl)
@[simp] theorem State.setKeeper_evs (s : State) (k : Nat) (q : Keeper) : (s.setKeeper k q).evs = s.evs := (rfl)
@[simp] theorem State.setKeeper_pqs (s : State) (k : Nat) (q : Keeper) : (s.setKeeper k q).pqs = s.pqs := (rfl)
@[simp] theorem State.setKeeper_eng (s : State) (k : Nat) (q : Keeper) : (s.setKeeper k q).eng = s.eng := (rfl)
@[simp] theorem State.setKeeper_dma (s : State) (k : Nat) (q : Keeper) : (s.setKeeper k q).dma = s.dma := (rfl)
@[simp] theorem State.setKeeper_rgn (s : State) (k : Nat) (q : Keeper) : (s.setKeeper k q).rgn = s.rgn := (rfl)
@[simp] theorem State.setKeeper_hbm (s : State) (k : Nat) (q : Keeper) : (s.setKeeper k q).hbm = s.hbm := (rfl)
@[simp] theorem State.setKeeper_prot (s : State) (k : Nat) (q : Keeper) : (s.setKeeper k q).prot = s.prot := (rfl)
@[simp] theorem State.setKeeper_ecc (s : State) (k : Nat) (q : Keeper) : (s.setKeeper k q).ecc = s.ecc := (rfl)
@[simp] theorem State.setKeeper_lanes (s : State) (k : Nat) (q : Keeper) : (s.setKeeper k q).lanes = s.lanes := (rfl)
@[simp] theorem State.setKeeper_clk (s : State) (k : Nat) (q : Keeper) : (s.setKeeper k q).clk = s.clk := (rfl)
@[simp] theorem State.setKeeper_hosts (s : State) (k : Nat) (q : Keeper) : (s.setKeeper k q).hosts = s.hosts := (rfl)
@[simp] theorem State.setKeeper_sett (s : State) (k : Nat) (q : Keeper) : (s.setKeeper k q).sett = s.sett := (rfl)
@[simp] theorem State.setKeeper_dbg (s : State) (k : Nat) (q : Keeper) : (s.setKeeper k q).dbg = s.dbg := (rfl)
@[simp] theorem State.setKeeper_elec (s : State) (k : Nat) (q : Keeper) : (s.setKeeper k q).elec = s.elec := (rfl)
@[simp] theorem State.setKeeper_regs (s : State) (k : Nat) (q : Keeper) : (s.setKeeper k q).regs = s.regs := (rfl)
@[simp] theorem State.setKeeper_free (s : State) (k : Nat) (q : Keeper) : (s.setKeeper k q).free = s.free := (rfl)
@[simp] theorem State.setKeeper_pending (s : State) (k : Nat) (q : Keeper) : (s.setKeeper k q).pending = s.pending := (rfl)
@[simp] theorem State.setKeeper_tmr_ticks (s : State) (k : Nat) (q : Keeper) : (s.setKeeper k q).tmr.ticks = s.tmr.ticks := (rfl)
@[simp] theorem State.setKeeper_tmr_copies (s : State) (k : Nat) (q : Keeper) : (s.setKeeper k q).tmr.copies = s.tmr.copies := (rfl)
@[simp] theorem State.setKeeper_tmr_ppsOut (s : State) (k : Nat) (q : Keeper) : (s.setKeeper k q).tmr.ppsOut = s.tmr.ppsOut := (rfl)
@[simp] theorem State.setKeeper_tmr_ppsLeft (s : State) (k : Nat) (q : Keeper) : (s.setKeeper k q).tmr.ppsLeft = s.tmr.ppsLeft := (rfl)
@[simp] theorem State.setKeeper_tmr_stepped (s : State) (k : Nat) (q : Keeper) : (s.setKeeper k q).tmr.stepped = s.tmr.stepped := (rfl)
@[simp] theorem State.setKeeper_tmr_holdover (s : State) (k : Nat) (q : Keeper) : (s.setKeeper k q).tmr.holdover = s.tmr.holdover := (rfl)
@[simp] theorem State.setKeeper_tmr_parent (s : State) (k : Nat) (q : Keeper) : (s.setKeeper k q).tmr.parent = s.tmr.parent := (rfl)
@[simp] theorem State.setKeeper_tmr_reqSeq (s : State) (k : Nat) (q : Keeper) : (s.setKeeper k q).tmr.reqSeq = s.tmr.reqSeq := (rfl)
@[simp] theorem State.setKeeper_tmr_servoed (s : State) (k : Nat) (q : Keeper) : (s.setKeeper k q).tmr.servoed = s.tmr.servoed := (rfl)
@[simp] theorem State.setKeeper_tmr_offs (s : State) (k : Nat) (q : Keeper) : (s.setKeeper k q).tmr.offs = s.tmr.offs := (rfl)
@[simp] theorem State.setKeeper_tmr_bestOwn (s : State) (k : Nat) (q : Keeper) : (s.setKeeper k q).tmr.bestOwn = s.tmr.bestOwn := (rfl)

@[simp] theorem State.setNi_pw (s : State) (k : Nat) (q : Ni) : (s.setNi k q).pw = s.pw := (rfl)
@[simp] theorem State.setNi_seams (s : State) (k : Nat) (q : Ni) : (s.setNi k q).seams = s.seams := (rfl)
@[simp] theorem State.setNi_ld (s : State) (k : Nat) (q : Ni) : (s.setNi k q).ld = s.ld := (rfl)
@[simp] theorem State.setNi_fab (s : State) (k : Nat) (q : Ni) : (s.setNi k q).fab = s.fab := (rfl)
@[simp] theorem State.setNi_evs (s : State) (k : Nat) (q : Ni) : (s.setNi k q).evs = s.evs := (rfl)
@[simp] theorem State.setNi_pqs (s : State) (k : Nat) (q : Ni) : (s.setNi k q).pqs = s.pqs := (rfl)
@[simp] theorem State.setNi_eng (s : State) (k : Nat) (q : Ni) : (s.setNi k q).eng = s.eng := (rfl)
@[simp] theorem State.setNi_dma (s : State) (k : Nat) (q : Ni) : (s.setNi k q).dma = s.dma := (rfl)
@[simp] theorem State.setNi_rgn (s : State) (k : Nat) (q : Ni) : (s.setNi k q).rgn = s.rgn := (rfl)
@[simp] theorem State.setNi_hbm (s : State) (k : Nat) (q : Ni) : (s.setNi k q).hbm = s.hbm := (rfl)
@[simp] theorem State.setNi_prot (s : State) (k : Nat) (q : Ni) : (s.setNi k q).prot = s.prot := (rfl)
@[simp] theorem State.setNi_ecc (s : State) (k : Nat) (q : Ni) : (s.setNi k q).ecc = s.ecc := (rfl)
@[simp] theorem State.setNi_lanes (s : State) (k : Nat) (q : Ni) : (s.setNi k q).lanes = s.lanes := (rfl)
@[simp] theorem State.setNi_tmr (s : State) (k : Nat) (q : Ni) : (s.setNi k q).tmr = s.tmr := (rfl)
@[simp] theorem State.setNi_clk (s : State) (k : Nat) (q : Ni) : (s.setNi k q).clk = s.clk := (rfl)
@[simp] theorem State.setNi_hosts (s : State) (k : Nat) (q : Ni) : (s.setNi k q).hosts = s.hosts := (rfl)
@[simp] theorem State.setNi_sett (s : State) (k : Nat) (q : Ni) : (s.setNi k q).sett = s.sett := (rfl)
@[simp] theorem State.setNi_dbg (s : State) (k : Nat) (q : Ni) : (s.setNi k q).dbg = s.dbg := (rfl)
@[simp] theorem State.setNi_elec (s : State) (k : Nat) (q : Ni) : (s.setNi k q).elec = s.elec := (rfl)
@[simp] theorem State.setNi_regs (s : State) (k : Nat) (q : Ni) : (s.setNi k q).regs = s.regs := (rfl)
@[simp] theorem State.setNi_free (s : State) (k : Nat) (q : Ni) : (s.setNi k q).free = s.free := (rfl)
@[simp] theorem State.setNi_pending (s : State) (k : Nat) (q : Ni) : (s.setNi k q).pending = s.pending := (rfl)
@[simp] theorem State.setNi_net_reqs (s : State) (k : Nat) (q : Ni) : (s.setNi k q).net.reqs = s.net.reqs := (rfl)
@[simp] theorem State.setNi_net_resps (s : State) (k : Nat) (q : Ni) : (s.setNi k q).net.resps = s.net.resps := (rfl)
@[simp] theorem State.setNi_net_outs (s : State) (k : Nat) (q : Ni) : (s.setNi k q).net.outs = s.net.outs := (rfl)
@[simp] theorem State.setNi_net_gens (s : State) (k : Nat) (q : Ni) : (s.setNi k q).net.gens = s.net.gens := (rfl)
@[simp] theorem State.setNi_net_freeTags (s : State) (k : Nat) (q : Ni) : (s.setNi k q).net.freeTags = s.net.freeTags := (rfl)
@[simp] theorem State.setNi_net_routers (s : State) (k : Nat) (q : Ni) : (s.setNi k q).net.routers = s.net.routers := (rfl)
@[simp] theorem State.setNi_net_routesOn (s : State) (k : Nat) (q : Ni) : (s.setNi k q).net.routesOn = s.net.routesOn := (rfl)
@[simp] theorem State.setNi_net_avoid (s : State) (k : Nat) (q : Ni) : (s.setNi k q).net.avoid = s.net.avoid := (rfl)
@[simp] theorem State.setNi_net_routeOv (s : State) (k : Nat) (q : Ni) : (s.setNi k q).net.routeOv = s.net.routeOv := (rfl)

@[simp] theorem State.setPwin_pw (s : State) (k : Nat) (q : PWin) : (s.setPwin k q).pw = s.pw := (rfl)
@[simp] theorem State.setPwin_seams (s : State) (k : Nat) (q : PWin) : (s.setPwin k q).seams = s.seams := (rfl)
@[simp] theorem State.setPwin_ld (s : State) (k : Nat) (q : PWin) : (s.setPwin k q).ld = s.ld := (rfl)
@[simp] theorem State.setPwin_fab (s : State) (k : Nat) (q : PWin) : (s.setPwin k q).fab = s.fab := (rfl)
@[simp] theorem State.setPwin_net (s : State) (k : Nat) (q : PWin) : (s.setPwin k q).net = s.net := (rfl)
@[simp] theorem State.setPwin_evs (s : State) (k : Nat) (q : PWin) : (s.setPwin k q).evs = s.evs := (rfl)
@[simp] theorem State.setPwin_pqs (s : State) (k : Nat) (q : PWin) : (s.setPwin k q).pqs = s.pqs := (rfl)
@[simp] theorem State.setPwin_eng (s : State) (k : Nat) (q : PWin) : (s.setPwin k q).eng = s.eng := (rfl)
@[simp] theorem State.setPwin_dma (s : State) (k : Nat) (q : PWin) : (s.setPwin k q).dma = s.dma := (rfl)
@[simp] theorem State.setPwin_rgn (s : State) (k : Nat) (q : PWin) : (s.setPwin k q).rgn = s.rgn := (rfl)
@[simp] theorem State.setPwin_hbm (s : State) (k : Nat) (q : PWin) : (s.setPwin k q).hbm = s.hbm := (rfl)
@[simp] theorem State.setPwin_ecc (s : State) (k : Nat) (q : PWin) : (s.setPwin k q).ecc = s.ecc := (rfl)
@[simp] theorem State.setPwin_lanes (s : State) (k : Nat) (q : PWin) : (s.setPwin k q).lanes = s.lanes := (rfl)
@[simp] theorem State.setPwin_tmr (s : State) (k : Nat) (q : PWin) : (s.setPwin k q).tmr = s.tmr := (rfl)
@[simp] theorem State.setPwin_clk (s : State) (k : Nat) (q : PWin) : (s.setPwin k q).clk = s.clk := (rfl)
@[simp] theorem State.setPwin_hosts (s : State) (k : Nat) (q : PWin) : (s.setPwin k q).hosts = s.hosts := (rfl)
@[simp] theorem State.setPwin_sett (s : State) (k : Nat) (q : PWin) : (s.setPwin k q).sett = s.sett := (rfl)
@[simp] theorem State.setPwin_dbg (s : State) (k : Nat) (q : PWin) : (s.setPwin k q).dbg = s.dbg := (rfl)
@[simp] theorem State.setPwin_elec (s : State) (k : Nat) (q : PWin) : (s.setPwin k q).elec = s.elec := (rfl)
@[simp] theorem State.setPwin_regs (s : State) (k : Nat) (q : PWin) : (s.setPwin k q).regs = s.regs := (rfl)
@[simp] theorem State.setPwin_free (s : State) (k : Nat) (q : PWin) : (s.setPwin k q).free = s.free := (rfl)
@[simp] theorem State.setPwin_pending (s : State) (k : Nat) (q : PWin) : (s.setPwin k q).pending = s.pending := (rfl)
@[simp] theorem State.setPwin_prot_scr (s : State) (k : Nat) (q : PWin) : (s.setPwin k q).prot.scr = s.prot.scr := (rfl)
@[simp] theorem State.setPwin_prot_cache (s : State) (k : Nat) (q : PWin) : (s.setPwin k q).prot.cache = s.prot.cache := (rfl)

@[simp] theorem State.setDpath_pw (s : State) (k : Nat) (q : DPath) : (s.setDpath k q).pw = s.pw := (rfl)
@[simp] theorem State.setDpath_seams (s : State) (k : Nat) (q : DPath) : (s.setDpath k q).seams = s.seams := (rfl)
@[simp] theorem State.setDpath_ld (s : State) (k : Nat) (q : DPath) : (s.setDpath k q).ld = s.ld := (rfl)
@[simp] theorem State.setDpath_fab (s : State) (k : Nat) (q : DPath) : (s.setDpath k q).fab = s.fab := (rfl)
@[simp] theorem State.setDpath_net (s : State) (k : Nat) (q : DPath) : (s.setDpath k q).net = s.net := (rfl)
@[simp] theorem State.setDpath_evs (s : State) (k : Nat) (q : DPath) : (s.setDpath k q).evs = s.evs := (rfl)
@[simp] theorem State.setDpath_pqs (s : State) (k : Nat) (q : DPath) : (s.setDpath k q).pqs = s.pqs := (rfl)
@[simp] theorem State.setDpath_eng (s : State) (k : Nat) (q : DPath) : (s.setDpath k q).eng = s.eng := (rfl)
@[simp] theorem State.setDpath_dma (s : State) (k : Nat) (q : DPath) : (s.setDpath k q).dma = s.dma := (rfl)
@[simp] theorem State.setDpath_rgn (s : State) (k : Nat) (q : DPath) : (s.setDpath k q).rgn = s.rgn := (rfl)
@[simp] theorem State.setDpath_hbm (s : State) (k : Nat) (q : DPath) : (s.setDpath k q).hbm = s.hbm := (rfl)
@[simp] theorem State.setDpath_prot (s : State) (k : Nat) (q : DPath) : (s.setDpath k q).prot = s.prot := (rfl)
@[simp] theorem State.setDpath_ecc (s : State) (k : Nat) (q : DPath) : (s.setDpath k q).ecc = s.ecc := (rfl)
@[simp] theorem State.setDpath_lanes (s : State) (k : Nat) (q : DPath) : (s.setDpath k q).lanes = s.lanes := (rfl)
@[simp] theorem State.setDpath_tmr (s : State) (k : Nat) (q : DPath) : (s.setDpath k q).tmr = s.tmr := (rfl)
@[simp] theorem State.setDpath_clk (s : State) (k : Nat) (q : DPath) : (s.setDpath k q).clk = s.clk := (rfl)
@[simp] theorem State.setDpath_hosts (s : State) (k : Nat) (q : DPath) : (s.setDpath k q).hosts = s.hosts := (rfl)
@[simp] theorem State.setDpath_sett (s : State) (k : Nat) (q : DPath) : (s.setDpath k q).sett = s.sett := (rfl)
@[simp] theorem State.setDpath_elec (s : State) (k : Nat) (q : DPath) : (s.setDpath k q).elec = s.elec := (rfl)
@[simp] theorem State.setDpath_regs (s : State) (k : Nat) (q : DPath) : (s.setDpath k q).regs = s.regs := (rfl)
@[simp] theorem State.setDpath_free (s : State) (k : Nat) (q : DPath) : (s.setDpath k q).free = s.free := (rfl)
@[simp] theorem State.setDpath_pending (s : State) (k : Nat) (q : DPath) : (s.setDpath k q).pending = s.pending := (rfl)
@[simp] theorem State.setDpath_dbg_ebrk (s : State) (k : Nat) (q : DPath) : (s.setDpath k q).dbg.ebrk = s.dbg.ebrk := (rfl)
@[simp] theorem State.setDpath_dbg_pu (s : State) (k : Nat) (q : DPath) : (s.setDpath k q).dbg.pu = s.dbg.pu := (rfl)
@[simp] theorem State.setDpath_dbg_feeds (s : State) (k : Nat) (q : DPath) : (s.setDpath k q).dbg.feeds = s.dbg.feeds := (rfl)
@[simp] theorem State.setDpath_dbg_ir (s : State) (k : Nat) (q : DPath) : (s.setDpath k q).dbg.ir = s.dbg.ir := (rfl)
@[simp] theorem State.setDpath_dbg_boundary (s : State) (k : Nat) (q : DPath) : (s.setDpath k q).dbg.boundary = s.dbg.boundary := (rfl)
@[simp] theorem State.setDpath_dbg_drive (s : State) (k : Nat) (q : DPath) : (s.setDpath k q).dbg.drive = s.dbg.drive := (rfl)
@[simp] theorem State.setDpath_dbg_accBusy (s : State) (k : Nat) (q : DPath) : (s.setDpath k q).dbg.accBusy = s.dbg.accBusy := (rfl)
@[simp] theorem State.setDpath_dbg_accPeek (s : State) (k : Nat) (q : DPath) : (s.setDpath k q).dbg.accPeek = s.dbg.accPeek := (rfl)
@[simp] theorem State.setDpath_dbg_accSvc (s : State) (k : Nat) (q : DPath) : (s.setDpath k q).dbg.accSvc = s.dbg.accSvc := (rfl)
@[simp] theorem State.setDpath_dbg_accAddr (s : State) (k : Nat) (q : DPath) : (s.setDpath k q).dbg.accAddr = s.dbg.accAddr := (rfl)
@[simp] theorem State.setDpath_dbg_accData (s : State) (k : Nat) (q : DPath) : (s.setDpath k q).dbg.accData = s.dbg.accData := (rfl)
@[simp] theorem State.setDpath_dbg_haltReq (s : State) (k : Nat) (q : DPath) : (s.setDpath k q).dbg.haltReq = s.dbg.haltReq := (rfl)
@[simp] theorem State.setDpath_dbg_refFed (s : State) (k : Nat) (q : DPath) : (s.setDpath k q).dbg.refFed = s.dbg.refFed := (rfl)

/-! ### Repetition -/

theorem foldl_keeps {σ ι α : Type} (g : σ → α) (f : σ → ι → σ) (h : ∀ s i, g (f s i) = g s) (l : List ι) (s : σ) : g (l.foldl f s) = g s := by
  induction l generalizing s with
  | nil => rfl
  | cons a l ih => simp only [List.foldl_cons, ih, h]

theorem iter_keeps {σ α : Type} (g : σ → α) (n : Nat) (f : Nat → σ → σ) (h : ∀ i s, g (f i s) = g s) (s : σ) : g (iter n f s) = g s :=
  foldl_keeps g (fun a i => f i a) (fun s i => h i s) (List.range n) s

@[simp] theorem iter_pw (n : Nat) (f : Nat → State → State) (s : State) (h : ∀ i s, (f i s).pw = s.pw) : (iter n f s).pw = s.pw :=
  iter_keeps (·.pw) n f h s
@[simp] theorem foldl_pw {ι : Type} (f : State → ι → State) (l : List ι) (s : State) (h : ∀ s i, (f s i).pw = s.pw) : (l.foldl f s).pw = s.pw :=
  foldl_keeps (·.pw) f h l s
@[simp] theorem iter_seams (n : Nat) (f : Nat → State → State) (s : State) (h : ∀ i s, (f i s).seams = s.seams) : (iter n f s).seams = s.seams :=
  iter_keeps (·.seams) n f h s
@[simp] theorem foldl_seams {ι : Type} (f : State → ι → State) (l : List ι) (s : State) (h : ∀ s i, (f s i).seams = s.seams) : (l.foldl f s).seams = s.seams :=
  foldl_keeps (·.seams) f h l s
@[simp] theorem iter_ld (n : Nat) (f : Nat → State → State) (s : State) (h : ∀ i s, (f i s).ld = s.ld) : (iter n f s).ld = s.ld :=
  iter_keeps (·.ld) n f h s
@[simp] theorem foldl_ld {ι : Type} (f : State → ι → State) (l : List ι) (s : State) (h : ∀ s i, (f s i).ld = s.ld) : (l.foldl f s).ld = s.ld :=
  foldl_keeps (·.ld) f h l s
@[simp] theorem iter_fab (n : Nat) (f : Nat → State → State) (s : State) (h : ∀ i s, (f i s).fab = s.fab) : (iter n f s).fab = s.fab :=
  iter_keeps (·.fab) n f h s
@[simp] theorem foldl_fab {ι : Type} (f : State → ι → State) (l : List ι) (s : State) (h : ∀ s i, (f s i).fab = s.fab) : (l.foldl f s).fab = s.fab :=
  foldl_keeps (·.fab) f h l s
@[simp] theorem iter_net (n : Nat) (f : Nat → State → State) (s : State) (h : ∀ i s, (f i s).net = s.net) : (iter n f s).net = s.net :=
  iter_keeps (·.net) n f h s
@[simp] theorem foldl_net {ι : Type} (f : State → ι → State) (l : List ι) (s : State) (h : ∀ s i, (f s i).net = s.net) : (l.foldl f s).net = s.net :=
  foldl_keeps (·.net) f h l s
@[simp] theorem iter_evs (n : Nat) (f : Nat → State → State) (s : State) (h : ∀ i s, (f i s).evs = s.evs) : (iter n f s).evs = s.evs :=
  iter_keeps (·.evs) n f h s
@[simp] theorem foldl_evs {ι : Type} (f : State → ι → State) (l : List ι) (s : State) (h : ∀ s i, (f s i).evs = s.evs) : (l.foldl f s).evs = s.evs :=
  foldl_keeps (·.evs) f h l s
@[simp] theorem iter_pqs (n : Nat) (f : Nat → State → State) (s : State) (h : ∀ i s, (f i s).pqs = s.pqs) : (iter n f s).pqs = s.pqs :=
  iter_keeps (·.pqs) n f h s
@[simp] theorem foldl_pqs {ι : Type} (f : State → ι → State) (l : List ι) (s : State) (h : ∀ s i, (f s i).pqs = s.pqs) : (l.foldl f s).pqs = s.pqs :=
  foldl_keeps (·.pqs) f h l s
@[simp] theorem iter_eng (n : Nat) (f : Nat → State → State) (s : State) (h : ∀ i s, (f i s).eng = s.eng) : (iter n f s).eng = s.eng :=
  iter_keeps (·.eng) n f h s
@[simp] theorem foldl_eng {ι : Type} (f : State → ι → State) (l : List ι) (s : State) (h : ∀ s i, (f s i).eng = s.eng) : (l.foldl f s).eng = s.eng :=
  foldl_keeps (·.eng) f h l s
@[simp] theorem iter_dma (n : Nat) (f : Nat → State → State) (s : State) (h : ∀ i s, (f i s).dma = s.dma) : (iter n f s).dma = s.dma :=
  iter_keeps (·.dma) n f h s
@[simp] theorem foldl_dma {ι : Type} (f : State → ι → State) (l : List ι) (s : State) (h : ∀ s i, (f s i).dma = s.dma) : (l.foldl f s).dma = s.dma :=
  foldl_keeps (·.dma) f h l s
@[simp] theorem iter_rgn (n : Nat) (f : Nat → State → State) (s : State) (h : ∀ i s, (f i s).rgn = s.rgn) : (iter n f s).rgn = s.rgn :=
  iter_keeps (·.rgn) n f h s
@[simp] theorem foldl_rgn {ι : Type} (f : State → ι → State) (l : List ι) (s : State) (h : ∀ s i, (f s i).rgn = s.rgn) : (l.foldl f s).rgn = s.rgn :=
  foldl_keeps (·.rgn) f h l s
@[simp] theorem iter_hbm (n : Nat) (f : Nat → State → State) (s : State) (h : ∀ i s, (f i s).hbm = s.hbm) : (iter n f s).hbm = s.hbm :=
  iter_keeps (·.hbm) n f h s
@[simp] theorem foldl_hbm {ι : Type} (f : State → ι → State) (l : List ι) (s : State) (h : ∀ s i, (f s i).hbm = s.hbm) : (l.foldl f s).hbm = s.hbm :=
  foldl_keeps (·.hbm) f h l s
@[simp] theorem iter_prot (n : Nat) (f : Nat → State → State) (s : State) (h : ∀ i s, (f i s).prot = s.prot) : (iter n f s).prot = s.prot :=
  iter_keeps (·.prot) n f h s
@[simp] theorem foldl_prot {ι : Type} (f : State → ι → State) (l : List ι) (s : State) (h : ∀ s i, (f s i).prot = s.prot) : (l.foldl f s).prot = s.prot :=
  foldl_keeps (·.prot) f h l s
@[simp] theorem iter_ecc (n : Nat) (f : Nat → State → State) (s : State) (h : ∀ i s, (f i s).ecc = s.ecc) : (iter n f s).ecc = s.ecc :=
  iter_keeps (·.ecc) n f h s
@[simp] theorem foldl_ecc {ι : Type} (f : State → ι → State) (l : List ι) (s : State) (h : ∀ s i, (f s i).ecc = s.ecc) : (l.foldl f s).ecc = s.ecc :=
  foldl_keeps (·.ecc) f h l s
@[simp] theorem iter_lanes (n : Nat) (f : Nat → State → State) (s : State) (h : ∀ i s, (f i s).lanes = s.lanes) : (iter n f s).lanes = s.lanes :=
  iter_keeps (·.lanes) n f h s
@[simp] theorem foldl_lanes {ι : Type} (f : State → ι → State) (l : List ι) (s : State) (h : ∀ s i, (f s i).lanes = s.lanes) : (l.foldl f s).lanes = s.lanes :=
  foldl_keeps (·.lanes) f h l s
@[simp] theorem iter_tmr (n : Nat) (f : Nat → State → State) (s : State) (h : ∀ i s, (f i s).tmr = s.tmr) : (iter n f s).tmr = s.tmr :=
  iter_keeps (·.tmr) n f h s
@[simp] theorem foldl_tmr {ι : Type} (f : State → ι → State) (l : List ι) (s : State) (h : ∀ s i, (f s i).tmr = s.tmr) : (l.foldl f s).tmr = s.tmr :=
  foldl_keeps (·.tmr) f h l s
@[simp] theorem iter_clk (n : Nat) (f : Nat → State → State) (s : State) (h : ∀ i s, (f i s).clk = s.clk) : (iter n f s).clk = s.clk :=
  iter_keeps (·.clk) n f h s
@[simp] theorem foldl_clk {ι : Type} (f : State → ι → State) (l : List ι) (s : State) (h : ∀ s i, (f s i).clk = s.clk) : (l.foldl f s).clk = s.clk :=
  foldl_keeps (·.clk) f h l s
@[simp] theorem iter_hosts (n : Nat) (f : Nat → State → State) (s : State) (h : ∀ i s, (f i s).hosts = s.hosts) : (iter n f s).hosts = s.hosts :=
  iter_keeps (·.hosts) n f h s
@[simp] theorem foldl_hosts {ι : Type} (f : State → ι → State) (l : List ι) (s : State) (h : ∀ s i, (f s i).hosts = s.hosts) : (l.foldl f s).hosts = s.hosts :=
  foldl_keeps (·.hosts) f h l s
@[simp] theorem iter_sett (n : Nat) (f : Nat → State → State) (s : State) (h : ∀ i s, (f i s).sett = s.sett) : (iter n f s).sett = s.sett :=
  iter_keeps (·.sett) n f h s
@[simp] theorem foldl_sett {ι : Type} (f : State → ι → State) (l : List ι) (s : State) (h : ∀ s i, (f s i).sett = s.sett) : (l.foldl f s).sett = s.sett :=
  foldl_keeps (·.sett) f h l s
@[simp] theorem iter_dbg (n : Nat) (f : Nat → State → State) (s : State) (h : ∀ i s, (f i s).dbg = s.dbg) : (iter n f s).dbg = s.dbg :=
  iter_keeps (·.dbg) n f h s
@[simp] theorem foldl_dbg {ι : Type} (f : State → ι → State) (l : List ι) (s : State) (h : ∀ s i, (f s i).dbg = s.dbg) : (l.foldl f s).dbg = s.dbg :=
  foldl_keeps (·.dbg) f h l s
@[simp] theorem iter_elec (n : Nat) (f : Nat → State → State) (s : State) (h : ∀ i s, (f i s).elec = s.elec) : (iter n f s).elec = s.elec :=
  iter_keeps (·.elec) n f h s
@[simp] theorem foldl_elec {ι : Type} (f : State → ι → State) (l : List ι) (s : State) (h : ∀ s i, (f s i).elec = s.elec) : (l.foldl f s).elec = s.elec :=
  foldl_keeps (·.elec) f h l s
@[simp] theorem iter_regs (n : Nat) (f : Nat → State → State) (s : State) (h : ∀ i s, (f i s).regs = s.regs) : (iter n f s).regs = s.regs :=
  iter_keeps (·.regs) n f h s
@[simp] theorem foldl_regs {ι : Type} (f : State → ι → State) (l : List ι) (s : State) (h : ∀ s i, (f s i).regs = s.regs) : (l.foldl f s).regs = s.regs :=
  foldl_keeps (·.regs) f h l s
@[simp] theorem iter_free (n : Nat) (f : Nat → State → State) (s : State) (h : ∀ i s, (f i s).free = s.free) : (iter n f s).free = s.free :=
  iter_keeps (·.free) n f h s
@[simp] theorem foldl_free {ι : Type} (f : State → ι → State) (l : List ι) (s : State) (h : ∀ s i, (f s i).free = s.free) : (l.foldl f s).free = s.free :=
  foldl_keeps (·.free) f h l s
@[simp] theorem iter_pending (n : Nat) (f : Nat → State → State) (s : State) (h : ∀ i s, (f i s).pending = s.pending) : (iter n f s).pending = s.pending :=
  iter_keeps (·.pending) n f h s
@[simp] theorem foldl_pending {ι : Type} (f : State → ι → State) (l : List ι) (s : State) (h : ∀ s i, (f s i).pending = s.pending) : (l.foldl f s).pending = s.pending :=
  foldl_keeps (·.pending) f h l s

end Sys2Proof.Machine
end

