-- ==== Sys2Proof/Laws/Ops.lean ====
section
/-! SUPPORT. What the shared operations leave as it was: event records, alarms, modes and replies touch ports, alarms, DEGRADED, the mode and the
counters of their ports, and nothing else. -/

namespace Sys2Proof.Machine

@[simp] theorem State.queuePort_pw (s : State) (p : Nat) (e : EvRec) : (s.queuePort p e).pw = s.pw := by
  unfold State.queuePort; split <;> simp
@[simp] theorem State.queuePort_seams (s : State) (p : Nat) (e : EvRec) : (s.queuePort p e).seams = s.seams := by
  unfold State.queuePort; split <;> simp
@[simp] theorem State.queuePort_ld (s : State) (p : Nat) (e : EvRec) : (s.queuePort p e).ld = s.ld := by
  unfold State.queuePort; split <;> simp
@[simp] theorem State.queuePort_fab (s : State) (p : Nat) (e : EvRec) : (s.queuePort p e).fab = s.fab := by
  unfold State.queuePort; split <;> simp
@[simp] theorem State.queuePort_net (s : State) (p : Nat) (e : EvRec) : (s.queuePort p e).net = s.net := by
  unfold State.queuePort; split <;> simp
@[simp] theorem State.queuePort_evs (s : State) (p : Nat) (e : EvRec) : (s.queuePort p e).evs = s.evs := by
  unfold State.queuePort; split <;> simp
@[simp] theorem State.queuePort_pqs (s : State) (p : Nat) (e : EvRec) : (s.queuePort p e).pqs = s.pqs := by
  unfold State.queuePort; split <;> simp
@[simp] theorem State.queuePort_eng (s : State) (p : Nat) (e : EvRec) : (s.queuePort p e).eng = s.eng := by
  unfold State.queuePort; split <;> simp
@[simp] theorem State.queuePort_dma (s : State) (p : Nat) (e : EvRec) : (s.queuePort p e).dma = s.dma := by
  unfold State.queuePort; split <;> simp
@[simp] theorem State.queuePort_rgn (s : State) (p : Nat) (e : EvRec) : (s.queuePort p e).rgn = s.rgn := by
  unfold State.queuePort; split <;> simp
@[simp] theorem State.queuePort_hbm (s : State) (p : Nat) (e : EvRec) : (s.queuePort p e).hbm = s.hbm := by
  unfold State.queuePort; split <;> simp
@[simp] theorem State.queuePort_prot (s : State) (p : Nat) (e : EvRec) : (s.queuePort p e).prot = s.prot := by
  unfold State.queuePort; split <;> simp
@[simp] theorem State.queuePort_ecc (s : State) (p : Nat) (e : EvRec) : (s.queuePort p e).ecc = s.ecc := by
  unfold State.queuePort; split <;> simp
@[simp] theorem State.queuePort_lanes (s : State) (p : Nat) (e : EvRec) : (s.queuePort p e).lanes = s.lanes := by
  unfold State.queuePort; split <;> simp
@[simp] theorem State.queuePort_tmr (s : State) (p : Nat) (e : EvRec) : (s.queuePort p e).tmr = s.tmr := by
  unfold State.queuePort; split <;> simp
@[simp] theorem State.queuePort_clk (s : State) (p : Nat) (e : EvRec) : (s.queuePort p e).clk = s.clk := by
  unfold State.queuePort; split <;> simp
@[simp] theorem State.queuePort_sett (s : State) (p : Nat) (e : EvRec) : (s.queuePort p e).sett = s.sett := by
  unfold State.queuePort; split <;> simp
@[simp] theorem State.queuePort_dbg (s : State) (p : Nat) (e : EvRec) : (s.queuePort p e).dbg = s.dbg := by
  unfold State.queuePort; split <;> simp
@[simp] theorem State.queuePort_elec (s : State) (p : Nat) (e : EvRec) : (s.queuePort p e).elec = s.elec := by
  unfold State.queuePort; split <;> simp
@[simp] theorem State.queuePort_free (s : State) (p : Nat) (e : EvRec) : (s.queuePort p e).free = s.free := by
  unfold State.queuePort; split <;> simp
@[simp] theorem State.queuePort_pending (s : State) (p : Nat) (e : EvRec) : (s.queuePort p e).pending = s.pending := by
  unfold State.queuePort; split <;> simp
@[simp] theorem State.queuePort_hosts_rr (s : State) (p : Nat) (e : EvRec) : (s.queuePort p e).hosts.rr = s.hosts.rr := by
  unfold State.queuePort; split <;> simp
@[simp] theorem State.queuePort_hosts_alarms (s : State) (p : Nat) (e : EvRec) : (s.queuePort p e).hosts.alarms = s.hosts.alarms := by
  unfold State.queuePort; split <;> simp
@[simp] theorem State.queuePort_hosts_degr (s : State) (p : Nat) (e : EvRec) : (s.queuePort p e).hosts.degr = s.hosts.degr := by
  unfold State.queuePort; split <;> simp
@[simp] theorem State.queuePort_hosts_ops (s : State) (p : Nat) (e : EvRec) : (s.queuePort p e).hosts.ops = s.hosts.ops := by
  unfold State.queuePort; split <;> simp
@[simp] theorem State.queuePort_hosts_relayOut (s : State) (p : Nat) (e : EvRec) : (s.queuePort p e).hosts.relayOut = s.hosts.relayOut := by
  unfold State.queuePort; split <;> simp
@[simp] theorem State.queuePort_hosts_routes (s : State) (p : Nat) (e : EvRec) : (s.queuePort p e).hosts.routes = s.hosts.routes := by
  unfold State.queuePort; split <;> simp
@[simp] theorem State.queuePort_hosts_waits (s : State) (p : Nat) (e : EvRec) : (s.queuePort p e).hosts.waits = s.hosts.waits := by
  unfold State.queuePort; split <;> simp
@[simp] theorem State.queuePort_hosts_nextRtag (s : State) (p : Nat) (e : EvRec) : (s.queuePort p e).hosts.nextRtag = s.hosts.nextRtag := by
  unfold State.queuePort; split <;> simp
@[simp] theorem State.queuePort_hosts_reverse (s : State) (p : Nat) (e : EvRec) : (s.queuePort p e).hosts.reverse = s.hosts.reverse := by
  unfold State.queuePort; split <;> simp
@[simp] theorem State.queuePort_hosts_mpOff (s : State) (p : Nat) (e : EvRec) : (s.queuePort p e).hosts.mpOff = s.hosts.mpOff := by
  unfold State.queuePort; split <;> simp
@[simp] theorem State.queuePort_hosts_mpLatch (s : State) (p : Nat) (e : EvRec) : (s.queuePort p e).hosts.mpLatch = s.hosts.mpLatch := by
  unfold State.queuePort; split <;> simp
@[simp] theorem State.queuePort_hosts_mpOut (s : State) (p : Nat) (e : EvRec) : (s.queuePort p e).hosts.mpOut = s.hosts.mpOut := by
  unfold State.queuePort; split <;> simp
@[simp] theorem State.queuePort_hosts_mpIdle (s : State) (p : Nat) (e : EvRec) : (s.queuePort p e).hosts.mpIdle = s.hosts.mpIdle := by
  unfold State.queuePort; split <;> simp
@[simp] theorem State.queuePort_hosts_curTenant (s : State) (p : Nat) (e : EvRec) : (s.queuePort p e).hosts.curTenant = s.hosts.curTenant := by
  unfold State.queuePort; split <;> simp

@[simp] theorem State.queueEv_pw (s : State) (t k c src d : Nat) : (s.queueEv t k c src d).pw = s.pw := by
  unfold State.queueEv; dsimp only; refine iter_keeps (fun s => s.pw) 5 _ (fun i s => ?_) s; split <;> simp
@[simp] theorem State.queueEv_seams (s : State) (t k c src d : Nat) : (s.queueEv t k c src d).seams = s.seams := by
  unfold State.queueEv; dsimp only; refine iter_keeps (fun s => s.seams) 5 _ (fun i s => ?_) s; split <;> simp
@[simp] theorem State.queueEv_ld (s : State) (t k c src d : Nat) : (s.queueEv t k c src d).ld = s.ld := by
  unfold State.queueEv; dsimp only; refine iter_keeps (fun s => s.ld) 5 _ (fun i s => ?_) s; split <;> simp
@[simp] theorem State.queueEv_fab (s : State) (t k c src d : Nat) : (s.queueEv t k c src d).fab = s.fab := by
  unfold State.queueEv; dsimp only; refine iter_keeps (fun s => s.fab) 5 _ (fun i s => ?_) s; split <;> simp
@[simp] theorem State.queueEv_net (s : State) (t k c src d : Nat) : (s.queueEv t k c src d).net = s.net := by
  unfold State.queueEv; dsimp only; refine iter_keeps (fun s => s.net) 5 _ (fun i s => ?_) s; split <;> simp
@[simp] theorem State.queueEv_evs (s : State) (t k c src d : Nat) : (s.queueEv t k c src d).evs = s.evs := by
  unfold State.queueEv; dsimp only; refine iter_keeps (fun s => s.evs) 5 _ (fun i s => ?_) s; split <;> simp
@[simp] theorem State.queueEv_pqs (s : State) (t k c src d : Nat) : (s.queueEv t k c src d).pqs = s.pqs := by
  unfold State.queueEv; dsimp only; refine iter_keeps (fun s => s.pqs) 5 _ (fun i s => ?_) s; split <;> simp
@[simp] theorem State.queueEv_eng (s : State) (t k c src d : Nat) : (s.queueEv t k c src d).eng = s.eng := by
  unfold State.queueEv; dsimp only; refine iter_keeps (fun s => s.eng) 5 _ (fun i s => ?_) s; split <;> simp
@[simp] theorem State.queueEv_dma (s : State) (t k c src d : Nat) : (s.queueEv t k c src d).dma = s.dma := by
  unfold State.queueEv; dsimp only; refine iter_keeps (fun s => s.dma) 5 _ (fun i s => ?_) s; split <;> simp
@[simp] theorem State.queueEv_rgn (s : State) (t k c src d : Nat) : (s.queueEv t k c src d).rgn = s.rgn := by
  unfold State.queueEv; dsimp only; refine iter_keeps (fun s => s.rgn) 5 _ (fun i s => ?_) s; split <;> simp
@[simp] theorem State.queueEv_hbm (s : State) (t k c src d : Nat) : (s.queueEv t k c src d).hbm = s.hbm := by
  unfold State.queueEv; dsimp only; refine iter_keeps (fun s => s.hbm) 5 _ (fun i s => ?_) s; split <;> simp
@[simp] theorem State.queueEv_prot (s : State) (t k c src d : Nat) : (s.queueEv t k c src d).prot = s.prot := by
  unfold State.queueEv; dsimp only; refine iter_keeps (fun s => s.prot) 5 _ (fun i s => ?_) s; split <;> simp
@[simp] theorem State.queueEv_ecc (s : State) (t k c src d : Nat) : (s.queueEv t k c src d).ecc = s.ecc := by
  unfold State.queueEv; dsimp only; refine iter_keeps (fun s => s.ecc) 5 _ (fun i s => ?_) s; split <;> simp
@[simp] theorem State.queueEv_lanes (s : State) (t k c src d : Nat) : (s.queueEv t k c src d).lanes = s.lanes := by
  unfold State.queueEv; dsimp only; refine iter_keeps (fun s => s.lanes) 5 _ (fun i s => ?_) s; split <;> simp
@[simp] theorem State.queueEv_tmr (s : State) (t k c src d : Nat) : (s.queueEv t k c src d).tmr = s.tmr := by
  unfold State.queueEv; dsimp only; refine iter_keeps (fun s => s.tmr) 5 _ (fun i s => ?_) s; split <;> simp
@[simp] theorem State.queueEv_clk (s : State) (t k c src d : Nat) : (s.queueEv t k c src d).clk = s.clk := by
  unfold State.queueEv; dsimp only; refine iter_keeps (fun s => s.clk) 5 _ (fun i s => ?_) s; split <;> simp
@[simp] theorem State.queueEv_sett (s : State) (t k c src d : Nat) : (s.queueEv t k c src d).sett = s.sett := by
  unfold State.queueEv; dsimp only; refine iter_keeps (fun s => s.sett) 5 _ (fun i s => ?_) s; split <;> simp
@[simp] theorem State.queueEv_dbg (s : State) (t k c src d : Nat) : (s.queueEv t k c src d).dbg = s.dbg := by
  unfold State.queueEv; dsimp only; refine iter_keeps (fun s => s.dbg) 5 _ (fun i s => ?_) s; split <;> simp
@[simp] theorem State.queueEv_elec (s : State) (t k c src d : Nat) : (s.queueEv t k c src d).elec = s.elec := by
  unfold State.queueEv; dsimp only; refine iter_keeps (fun s => s.elec) 5 _ (fun i s => ?_) s; split <;> simp
@[simp] theorem State.queueEv_free (s : State) (t k c src d : Nat) : (s.queueEv t k c src d).free = s.free := by
  unfold State.queueEv; dsimp only; refine iter_keeps (fun s => s.free) 5 _ (fun i s => ?_) s; split <;> simp
@[simp] theorem State.queueEv_pending (s : State) (t k c src d : Nat) : (s.queueEv t k c src d).pending = s.pending := by
  unfold State.queueEv; dsimp only; refine iter_keeps (fun s => s.pending) 5 _ (fun i s => ?_) s; split <;> simp
@[simp] theorem State.queueEv_hosts_rr (s : State) (t k c src d : Nat) : (s.queueEv t k c src d).hosts.rr = s.hosts.rr := by
  unfold State.queueEv; dsimp only; refine iter_keeps (fun s => s.hosts.rr) 5 _ (fun i s => ?_) s; split <;> simp
@[simp] theorem State.queueEv_hosts_alarms (s : State) (t k c src d : Nat) : (s.queueEv t k c src d).hosts.alarms = s.hosts.alarms := by
  unfold State.queueEv; dsimp only; refine iter_keeps (fun s => s.hosts.alarms) 5 _ (fun i s => ?_) s; split <;> simp
@[simp] theorem State.queueEv_hosts_degr (s : State) (t k c src d : Nat) : (s.queueEv t k c src d).hosts.degr = s.hosts.degr := by
  unfold State.queueEv; dsimp only; refine iter_keeps (fun s => s.hosts.degr) 5 _ (fun i s => ?_) s; split <;> simp
@[simp] theorem State.queueEv_hosts_ops (s : State) (t k c src d : Nat) : (s.queueEv t k c src d).hosts.ops = s.hosts.ops := by
  unfold State.queueEv; dsimp only; refine iter_keeps (fun s => s.hosts.ops) 5 _ (fun i s => ?_) s; split <;> simp
@[simp] theorem State.queueEv_hosts_relayOut (s : State) (t k c src d : Nat) : (s.queueEv t k c src d).hosts.relayOut = s.hosts.relayOut := by
  unfold State.queueEv; dsimp only; refine iter_keeps (fun s => s.hosts.relayOut) 5 _ (fun i s => ?_) s; split <;> simp
@[simp] theorem State.queueEv_hosts_routes (s : State) (t k c src d : Nat) : (s.queueEv t k c src d).hosts.routes = s.hosts.routes := by
  unfold State.queueEv; dsimp only; refine iter_keeps (fun s => s.hosts.routes) 5 _ (fun i s => ?_) s; split <;> simp
@[simp] theorem State.queueEv_hosts_waits (s : State) (t k c src d : Nat) : (s.queueEv t k c src d).hosts.waits = s.hosts.waits := by
  unfold State.queueEv; dsimp only; refine iter_keeps (fun s => s.hosts.waits) 5 _ (fun i s => ?_) s; split <;> simp
@[simp] theorem State.queueEv_hosts_nextRtag (s : State) (t k c src d : Nat) : (s.queueEv t k c src d).hosts.nextRtag = s.hosts.nextRtag := by
  unfold State.queueEv; dsimp only; refine iter_keeps (fun s => s.hosts.nextRtag) 5 _ (fun i s => ?_) s; split <;> simp
@[simp] theorem State.queueEv_hosts_reverse (s : State) (t k c src d : Nat) : (s.queueEv t k c src d).hosts.reverse = s.hosts.reverse := by
  unfold State.queueEv; dsimp only; refine iter_keeps (fun s => s.hosts.reverse) 5 _ (fun i s => ?_) s; split <;> simp
@[simp] theorem State.queueEv_hosts_mpOff (s : State) (t k c src d : Nat) : (s.queueEv t k c src d).hosts.mpOff = s.hosts.mpOff := by
  unfold State.queueEv; dsimp only; refine iter_keeps (fun s => s.hosts.mpOff) 5 _ (fun i s => ?_) s; split <;> simp
@[simp] theorem State.queueEv_hosts_mpLatch (s : State) (t k c src d : Nat) : (s.queueEv t k c src d).hosts.mpLatch = s.hosts.mpLatch := by
  unfold State.queueEv; dsimp only; refine iter_keeps (fun s => s.hosts.mpLatch) 5 _ (fun i s => ?_) s; split <;> simp
@[simp] theorem State.queueEv_hosts_mpOut (s : State) (t k c src d : Nat) : (s.queueEv t k c src d).hosts.mpOut = s.hosts.mpOut := by
  unfold State.queueEv; dsimp only; refine iter_keeps (fun s => s.hosts.mpOut) 5 _ (fun i s => ?_) s; split <;> simp
@[simp] theorem State.queueEv_hosts_mpIdle (s : State) (t k c src d : Nat) : (s.queueEv t k c src d).hosts.mpIdle = s.hosts.mpIdle := by
  unfold State.queueEv; dsimp only; refine iter_keeps (fun s => s.hosts.mpIdle) 5 _ (fun i s => ?_) s; split <;> simp
@[simp] theorem State.queueEv_hosts_curTenant (s : State) (t k c src d : Nat) : (s.queueEv t k c src d).hosts.curTenant = s.hosts.curTenant := by
  unfold State.queueEv; dsimp only; refine iter_keeps (fun s => s.hosts.curTenant) 5 _ (fun i s => ?_) s; split <;> simp

@[simp] theorem State.alarm_pw (s : State) (t c fl code src : Nat) : (s.alarm t c fl code src).pw = s.pw := by
  simp [State.alarm]
@[simp] theorem State.alarm_seams (s : State) (t c fl code src : Nat) : (s.alarm t c fl code src).seams = s.seams := by
  simp [State.alarm]
@[simp] theorem State.alarm_ld (s : State) (t c fl code src : Nat) : (s.alarm t c fl code src).ld = s.ld := by
  simp [State.alarm]
@[simp] theorem State.alarm_fab (s : State) (t c fl code src : Nat) : (s.alarm t c fl code src).fab = s.fab := by
  simp [State.alarm]
@[simp] theorem State.alarm_net (s : State) (t c fl code src : Nat) : (s.alarm t c fl code src).net = s.net := by
  simp [State.alarm]
@[simp] theorem State.alarm_evs (s : State) (t c fl code src : Nat) : (s.alarm t c fl code src).evs = s.evs := by
  simp [State.alarm]
@[simp] theorem State.alarm_pqs (s : State) (t c fl code src : Nat) : (s.alarm t c fl code src).pqs = s.pqs := by
  simp [State.alarm]
@[simp] theorem State.alarm_eng (s : State) (t c fl code src : Nat) : (s.alarm t c fl code src).eng = s.eng := by
  simp [State.alarm]
@[simp] theorem State.alarm_dma (s : State) (t c fl code src : Nat) : (s.alarm t c fl code src).dma = s.dma := by
  simp [State.alarm]
@[simp] theorem State.alarm_rgn (s : State) (t c fl code src : Nat) : (s.alarm t c fl code src).rgn = s.rgn := by
  simp [State.alarm]
@[simp] theorem State.alarm_hbm (s : State) (t c fl code src : Nat) : (s.alarm t c fl code src).hbm = s.hbm := by
  simp [State.alarm]
@[simp] theorem State.alarm_prot (s : State) (t c fl code src : Nat) : (s.alarm t c fl code src).prot = s.prot := by
  simp [State.alarm]
@[simp] theorem State.alarm_ecc (s : State) (t c fl code src : Nat) : (s.alarm t c fl code src).ecc = s.ecc := by
  simp [State.alarm]
@[simp] theorem State.alarm_lanes (s : State) (t c fl code src : Nat) : (s.alarm t c fl code src).lanes = s.lanes := by
  simp [State.alarm]
@[simp] theorem State.alarm_tmr (s : State) (t c fl code src : Nat) : (s.alarm t c fl code src).tmr = s.tmr := by
  simp [State.alarm]
@[simp] theorem State.alarm_clk (s : State) (t c fl code src : Nat) : (s.alarm t c fl code src).clk = s.clk := by
  simp [State.alarm]
@[simp] theorem State.alarm_sett (s : State) (t c fl code src : Nat) : (s.alarm t c fl code src).sett = s.sett := by
  simp [State.alarm]
@[simp] theorem State.alarm_dbg (s : State) (t c fl code src : Nat) : (s.alarm t c fl code src).dbg = s.dbg := by
  simp [State.alarm]
@[simp] theorem State.alarm_elec (s : State) (t c fl code src : Nat) : (s.alarm t c fl code src).elec = s.elec := by
  simp [State.alarm]
@[simp] theorem State.alarm_free (s : State) (t c fl code src : Nat) : (s.alarm t c fl code src).free = s.free := by
  simp [State.alarm]
@[simp] theorem State.alarm_pending (s : State) (t c fl code src : Nat) : (s.alarm t c fl code src).pending = s.pending := by
  simp [State.alarm]
@[simp] theorem State.alarm_hosts_rr (s : State) (t c fl code src : Nat) : (s.alarm t c fl code src).hosts.rr = s.hosts.rr := by
  simp [State.alarm]
@[simp] theorem State.alarm_hosts_degr (s : State) (t c fl code src : Nat) : (s.alarm t c fl code src).hosts.degr = s.hosts.degr := by
  simp [State.alarm]
@[simp] theorem State.alarm_hosts_ops (s : State) (t c fl code src : Nat) : (s.alarm t c fl code src).hosts.ops = s.hosts.ops := by
  simp [State.alarm]
@[simp] theorem State.alarm_hosts_relayOut (s : State) (t c fl code src : Nat) : (s.alarm t c fl code src).hosts.relayOut = s.hosts.relayOut := by
  simp [State.alarm]
@[simp] theorem State.alarm_hosts_routes (s : State) (t c fl code src : Nat) : (s.alarm t c fl code src).hosts.routes = s.hosts.routes := by
  simp [State.alarm]
@[simp] theorem State.alarm_hosts_waits (s : State) (t c fl code src : Nat) : (s.alarm t c fl code src).hosts.waits = s.hosts.waits := by
  simp [State.alarm]
@[simp] theorem State.alarm_hosts_nextRtag (s : State) (t c fl code src : Nat) : (s.alarm t c fl code src).hosts.nextRtag = s.hosts.nextRtag := by
  simp [State.alarm]
@[simp] theorem State.alarm_hosts_reverse (s : State) (t c fl code src : Nat) : (s.alarm t c fl code src).hosts.reverse = s.hosts.reverse := by
  simp [State.alarm]
@[simp] theorem State.alarm_hosts_mpOff (s : State) (t c fl code src : Nat) : (s.alarm t c fl code src).hosts.mpOff = s.hosts.mpOff := by
  simp [State.alarm]
@[simp] theorem State.alarm_hosts_mpLatch (s : State) (t c fl code src : Nat) : (s.alarm t c fl code src).hosts.mpLatch = s.hosts.mpLatch := by
  simp [State.alarm]
@[simp] theorem State.alarm_hosts_mpOut (s : State) (t c fl code src : Nat) : (s.alarm t c fl code src).hosts.mpOut = s.hosts.mpOut := by
  simp [State.alarm]
@[simp] theorem State.alarm_hosts_mpIdle (s : State) (t c fl code src : Nat) : (s.alarm t c fl code src).hosts.mpIdle = s.hosts.mpIdle := by
  simp [State.alarm]
@[simp] theorem State.alarm_hosts_curTenant (s : State) (t c fl code src : Nat) : (s.alarm t c fl code src).hosts.curTenant = s.hosts.curTenant := by
  simp [State.alarm]

@[simp] theorem State.setDegr_pw (s : State) (k : Nat) (on : Bool) : (s.setDegr k on).pw = s.pw := by
  unfold State.setDegr; dsimp only; (repeat' split) <;> simp
@[simp] theorem State.setDegr_seams (s : State) (k : Nat) (on : Bool) : (s.setDegr k on).seams = s.seams := by
  unfold State.setDegr; dsimp only; (repeat' split) <;> simp
@[simp] theorem State.setDegr_ld (s : State) (k : Nat) (on : Bool) : (s.setDegr k on).ld = s.ld := by
  unfold State.setDegr; dsimp only; (repeat' split) <;> simp
@[simp] theorem State.setDegr_fab (s : State) (k : Nat) (on : Bool) : (s.setDegr k on).fab = s.fab := by
  unfold State.setDegr; dsimp only; (repeat' split) <;> simp
@[simp] theorem State.setDegr_net (s : State) (k : Nat) (on : Bool) : (s.setDegr k on).net = s.net := by
  unfold State.setDegr; dsimp only; (repeat' split) <;> simp
@[simp] theorem State.setDegr_evs (s : State) (k : Nat) (on : Bool) : (s.setDegr k on).evs = s.evs := by
  unfold State.setDegr; dsimp only; (repeat' split) <;> simp
@[simp] theorem State.setDegr_pqs (s : State) (k : Nat) (on : Bool) : (s.setDegr k on).pqs = s.pqs := by
  unfold State.setDegr; dsimp only; (repeat' split) <;> simp
@[simp] theorem State.setDegr_eng (s : State) (k : Nat) (on : Bool) : (s.setDegr k on).eng = s.eng := by
  unfold State.setDegr; dsimp only; (repeat' split) <;> simp
@[simp] theorem State.setDegr_dma (s : State) (k : Nat) (on : Bool) : (s.setDegr k on).dma = s.dma := by
  unfold State.setDegr; dsimp only; (repeat' split) <;> simp
@[simp] theorem State.setDegr_rgn (s : State) (k : Nat) (on : Bool) : (s.setDegr k on).rgn = s.rgn := by
  unfold State.setDegr; dsimp only; (repeat' split) <;> simp
@[simp] theorem State.setDegr_hbm (s : State) (k : Nat) (on : Bool) : (s.setDegr k on).hbm = s.hbm := by
  unfold State.setDegr; dsimp only; (repeat' split) <;> simp
@[simp] theorem State.setDegr_prot (s : State) (k : Nat) (on : Bool) : (s.setDegr k on).prot = s.prot := by
  unfold State.setDegr; dsimp only; (repeat' split) <;> simp
@[simp] theorem State.setDegr_ecc (s : State) (k : Nat) (on : Bool) : (s.setDegr k on).ecc = s.ecc := by
  unfold State.setDegr; dsimp only; (repeat' split) <;> simp
@[simp] theorem State.setDegr_lanes (s : State) (k : Nat) (on : Bool) : (s.setDegr k on).lanes = s.lanes := by
  unfold State.setDegr; dsimp only; (repeat' split) <;> simp
@[simp] theorem State.setDegr_tmr (s : State) (k : Nat) (on : Bool) : (s.setDegr k on).tmr = s.tmr := by
  unfold State.setDegr; dsimp only; (repeat' split) <;> simp
@[simp] theorem State.setDegr_clk (s : State) (k : Nat) (on : Bool) : (s.setDegr k on).clk = s.clk := by
  unfold State.setDegr; dsimp only; (repeat' split) <;> simp
@[simp] theorem State.setDegr_sett (s : State) (k : Nat) (on : Bool) : (s.setDegr k on).sett = s.sett := by
  unfold State.setDegr; dsimp only; (repeat' split) <;> simp
@[simp] theorem State.setDegr_dbg (s : State) (k : Nat) (on : Bool) : (s.setDegr k on).dbg = s.dbg := by
  unfold State.setDegr; dsimp only; (repeat' split) <;> simp
@[simp] theorem State.setDegr_elec (s : State) (k : Nat) (on : Bool) : (s.setDegr k on).elec = s.elec := by
  unfold State.setDegr; dsimp only; (repeat' split) <;> simp
@[simp] theorem State.setDegr_free (s : State) (k : Nat) (on : Bool) : (s.setDegr k on).free = s.free := by
  unfold State.setDegr; dsimp only; (repeat' split) <;> simp
@[simp] theorem State.setDegr_pending (s : State) (k : Nat) (on : Bool) : (s.setDegr k on).pending = s.pending := by
  unfold State.setDegr; dsimp only; (repeat' split) <;> simp
@[simp] theorem State.setDegr_hosts_rr (s : State) (k : Nat) (on : Bool) : (s.setDegr k on).hosts.rr = s.hosts.rr := by
  unfold State.setDegr; dsimp only; (repeat' split) <;> simp
@[simp] theorem State.setDegr_hosts_alarms (s : State) (k : Nat) (on : Bool) : (s.setDegr k on).hosts.alarms = s.hosts.alarms := by
  unfold State.setDegr; dsimp only; (repeat' split) <;> simp
@[simp] theorem State.setDegr_hosts_ops (s : State) (k : Nat) (on : Bool) : (s.setDegr k on).hosts.ops = s.hosts.ops := by
  unfold State.setDegr; dsimp only; (repeat' split) <;> simp
@[simp] theorem State.setDegr_hosts_relayOut (s : State) (k : Nat) (on : Bool) : (s.setDegr k on).hosts.relayOut = s.hosts.relayOut := by
  unfold State.setDegr; dsimp only; (repeat' split) <;> simp
@[simp] theorem State.setDegr_hosts_routes (s : State) (k : Nat) (on : Bool) : (s.setDegr k on).hosts.routes = s.hosts.routes := by
  unfold State.setDegr; dsimp only; (repeat' split) <;> simp
@[simp] theorem State.setDegr_hosts_waits (s : State) (k : Nat) (on : Bool) : (s.setDegr k on).hosts.waits = s.hosts.waits := by
  unfold State.setDegr; dsimp only; (repeat' split) <;> simp
@[simp] theorem State.setDegr_hosts_nextRtag (s : State) (k : Nat) (on : Bool) : (s.setDegr k on).hosts.nextRtag = s.hosts.nextRtag := by
  unfold State.setDegr; dsimp only; (repeat' split) <;> simp
@[simp] theorem State.setDegr_hosts_reverse (s : State) (k : Nat) (on : Bool) : (s.setDegr k on).hosts.reverse = s.hosts.reverse := by
  unfold State.setDegr; dsimp only; (repeat' split) <;> simp
@[simp] theorem State.setDegr_hosts_mpOff (s : State) (k : Nat) (on : Bool) : (s.setDegr k on).hosts.mpOff = s.hosts.mpOff := by
  unfold State.setDegr; dsimp only; (repeat' split) <;> simp
@[simp] theorem State.setDegr_hosts_mpLatch (s : State) (k : Nat) (on : Bool) : (s.setDegr k on).hosts.mpLatch = s.hosts.mpLatch := by
  unfold State.setDegr; dsimp only; (repeat' split) <;> simp
@[simp] theorem State.setDegr_hosts_mpOut (s : State) (k : Nat) (on : Bool) : (s.setDegr k on).hosts.mpOut = s.hosts.mpOut := by
  unfold State.setDegr; dsimp only; (repeat' split) <;> simp
@[simp] theorem State.setDegr_hosts_mpIdle (s : State) (k : Nat) (on : Bool) : (s.setDegr k on).hosts.mpIdle = s.hosts.mpIdle := by
  unfold State.setDegr; dsimp only; (repeat' split) <;> simp
@[simp] theorem State.setDegr_hosts_curTenant (s : State) (k : Nat) (on : Bool) : (s.setDegr k on).hosts.curTenant = s.hosts.curTenant := by
  unfold State.setDegr; dsimp only; (repeat' split) <;> simp

@[simp] theorem State.setMode_seams (s : State) (m : Mode) : (s.setMode m).seams = s.seams := by
  unfold State.setMode; split <;> simp
@[simp] theorem State.setMode_ld (s : State) (m : Mode) : (s.setMode m).ld = s.ld := by
  unfold State.setMode; split <;> simp
@[simp] theorem State.setMode_fab (s : State) (m : Mode) : (s.setMode m).fab = s.fab := by
  unfold State.setMode; split <;> simp
@[simp] theorem State.setMode_net (s : State) (m : Mode) : (s.setMode m).net = s.net := by
  unfold State.setMode; split <;> simp
@[simp] theorem State.setMode_evs (s : State) (m : Mode) : (s.setMode m).evs = s.evs := by
  unfold State.setMode; split <;> simp
@[simp] theorem State.setMode_pqs (s : State) (m : Mode) : (s.setMode m).pqs = s.pqs := by
  unfold State.setMode; split <;> simp
@[simp] theorem State.setMode_eng (s : State) (m : Mode) : (s.setMode m).eng = s.eng := by
  unfold State.setMode; split <;> simp
@[simp] theorem State.setMode_dma (s : State) (m : Mode) : (s.setMode m).dma = s.dma := by
  unfold State.setMode; split <;> simp
@[simp] theorem State.setMode_rgn (s : State) (m : Mode) : (s.setMode m).rgn = s.rgn := by
  unfold State.setMode; split <;> simp
@[simp] theorem State.setMode_hbm (s : State) (m : Mode) : (s.setMode m).hbm = s.hbm := by
  unfold State.setMode; split <;> simp
@[simp] theorem State.setMode_prot (s : State) (m : Mode) : (s.setMode m).prot = s.prot := by
  unfold State.setMode; split <;> simp
@[simp] theorem State.setMode_ecc (s : State) (m : Mode) : (s.setMode m).ecc = s.ecc := by
  unfold State.setMode; split <;> simp
@[simp] theorem State.setMode_lanes (s : State) (m : Mode) : (s.setMode m).lanes = s.lanes := by
  unfold State.setMode; split <;> simp
@[simp] theorem State.setMode_tmr (s : State) (m : Mode) : (s.setMode m).tmr = s.tmr := by
  unfold State.setMode; split <;> simp
@[simp] theorem State.setMode_clk (s : State) (m : Mode) : (s.setMode m).clk = s.clk := by
  unfold State.setMode; split <;> simp
@[simp] theorem State.setMode_sett (s : State) (m : Mode) : (s.setMode m).sett = s.sett := by
  unfold State.setMode; split <;> simp
@[simp] theorem State.setMode_dbg (s : State) (m : Mode) : (s.setMode m).dbg = s.dbg := by
  unfold State.setMode; split <;> simp
@[simp] theorem State.setMode_elec (s : State) (m : Mode) : (s.setMode m).elec = s.elec := by
  unfold State.setMode; split <;> simp
@[simp] theorem State.setMode_free (s : State) (m : Mode) : (s.setMode m).free = s.free := by
  unfold State.setMode; split <;> simp
@[simp] theorem State.setMode_pending (s : State) (m : Mode) : (s.setMode m).pending = s.pending := by
  unfold State.setMode; split <;> simp
@[simp] theorem State.setMode_hosts_rr (s : State) (m : Mode) : (s.setMode m).hosts.rr = s.hosts.rr := by
  unfold State.setMode; split <;> simp
@[simp] theorem State.setMode_hosts_alarms (s : State) (m : Mode) : (s.setMode m).hosts.alarms = s.hosts.alarms := by
  unfold State.setMode; split <;> simp
@[simp] theorem State.setMode_hosts_degr (s : State) (m : Mode) : (s.setMode m).hosts.degr = s.hosts.degr := by
  unfold State.setMode; split <;> simp
@[simp] theorem State.setMode_hosts_ops (s : State) (m : Mode) : (s.setMode m).hosts.ops = s.hosts.ops := by
  unfold State.setMode; split <;> simp
@[simp] theorem State.setMode_hosts_relayOut (s : State) (m : Mode) : (s.setMode m).hosts.relayOut = s.hosts.relayOut := by
  unfold State.setMode; split <;> simp
@[simp] theorem State.setMode_hosts_routes (s : State) (m : Mode) : (s.setMode m).hosts.routes = s.hosts.routes := by
  unfold State.setMode; split <;> simp
@[simp] theorem State.setMode_hosts_waits (s : State) (m : Mode) : (s.setMode m).hosts.waits = s.hosts.waits := by
  unfold State.setMode; split <;> simp
@[simp] theorem State.setMode_hosts_nextRtag (s : State) (m : Mode) : (s.setMode m).hosts.nextRtag = s.hosts.nextRtag := by
  unfold State.setMode; split <;> simp
@[simp] theorem State.setMode_hosts_reverse (s : State) (m : Mode) : (s.setMode m).hosts.reverse = s.hosts.reverse := by
  unfold State.setMode; split <;> simp
@[simp] theorem State.setMode_hosts_mpOff (s : State) (m : Mode) : (s.setMode m).hosts.mpOff = s.hosts.mpOff := by
  unfold State.setMode; split <;> simp
@[simp] theorem State.setMode_hosts_mpLatch (s : State) (m : Mode) : (s.setMode m).hosts.mpLatch = s.hosts.mpLatch := by
  unfold State.setMode; split <;> simp
@[simp] theorem State.setMode_hosts_mpOut (s : State) (m : Mode) : (s.setMode m).hosts.mpOut = s.hosts.mpOut := by
  unfold State.setMode; split <;> simp
@[simp] theorem State.setMode_hosts_mpIdle (s : State) (m : Mode) : (s.setMode m).hosts.mpIdle = s.hosts.mpIdle := by
  unfold State.setMode; split <;> simp
@[simp] theorem State.setMode_hosts_curTenant (s : State) (m : Mode) : (s.setMode m).hosts.curTenant = s.hosts.curTenant := by
  unfold State.setMode; split <;> simp
@[simp] theorem State.setMode_pw_supplies (s : State) (m : Mode) : (s.setMode m).pw.supplies = s.pw.supplies := by
  unfold State.setMode; split <;> simp
@[simp] theorem State.setMode_pw_resetN (s : State) (m : Mode) : (s.setMode m).pw.resetN = s.pw.resetN := by
  unfold State.setMode; split <;> simp
@[simp] theorem State.setMode_pw_step (s : State) (m : Mode) : (s.setMode m).pw.step = s.pw.step := by
  unfold State.setMode; split <;> simp
@[simp] theorem State.setMode_pw_maltarOwns (s : State) (m : Mode) : (s.setMode m).pw.maltarOwns = s.pw.maltarOwns := by
  unfold State.setMode; split <;> simp
@[simp] theorem State.setMode_pw_maltarFailed (s : State) (m : Mode) : (s.setMode m).pw.maltarFailed = s.pw.maltarFailed := by
  unfold State.setMode; split <;> simp
@[simp] theorem State.setMode_pw_refRestarting (s : State) (m : Mode) : (s.setMode m).pw.refRestarting = s.pw.refRestarting := by
  unfold State.setMode; split <;> simp
@[simp] theorem State.setMode_pw_seamsTrained (s : State) (m : Mode) : (s.setMode m).pw.seamsTrained = s.pw.seamsTrained := by
  unfold State.setMode; split <;> simp
@[simp] theorem State.setMode_pw_hbmEnded (s : State) (m : Mode) : (s.setMode m).pw.hbmEnded = s.pw.hbmEnded := by
  unfold State.setMode; split <;> simp
@[simp] theorem State.setMode_pw_loadDone (s : State) (m : Mode) : (s.setMode m).pw.loadDone = s.pw.loadDone := by
  unfold State.setMode; split <;> simp
@[simp] theorem State.setMode_pw_huddleHigh (s : State) (m : Mode) : (s.setMode m).pw.huddleHigh = s.pw.huddleHigh := by
  unfold State.setMode; split <;> simp
@[simp] theorem State.setMode_pw_huddleFilter (s : State) (m : Mode) : (s.setMode m).pw.huddleFilter = s.pw.huddleFilter := by
  unfold State.setMode; split <;> simp
@[simp] theorem State.setMode_pw_huddleLate (s : State) (m : Mode) : (s.setMode m).pw.huddleLate = s.pw.huddleLate := by
  unfold State.setMode; split <;> simp
@[simp] theorem State.setMode_pw_lockoutFrom (s : State) (m : Mode) : (s.setMode m).pw.lockoutFrom = s.pw.lockoutFrom := by
  unfold State.setMode; split <;> simp
@[simp] theorem State.setMode_pw_rebooting (s : State) (m : Mode) : (s.setMode m).pw.rebooting = s.pw.rebooting := by
  unfold State.setMode; split <;> simp
@[simp] theorem State.setMode_pw_ffHold (s : State) (m : Mode) : (s.setMode m).pw.ffHold = s.pw.ffHold := by
  unfold State.setMode; split <;> simp
@[simp] theorem State.setMode_pw_tripped (s : State) (m : Mode) : (s.setMode m).pw.tripped = s.pw.tripped := by
  unfold State.setMode; split <;> simp
@[simp] theorem State.setMode_pw_tripRec (s : State) (m : Mode) : (s.setMode m).pw.tripRec = s.pw.tripRec := by
  unfold State.setMode; split <;> simp
@[simp] theorem State.setMode_pw_funcOps (s : State) (m : Mode) : (s.setMode m).pw.funcOps = s.pw.funcOps := by
  unfold State.setMode; split <;> simp
@[simp] theorem State.setMode_pw_ioHeld (s : State) (m : Mode) : (s.setMode m).pw.ioHeld = s.pw.ioHeld := by
  unfold State.setMode; split <;> simp

@[simp] theorem State.setMode_pw_mode (s : State) (m : Mode) : (s.setMode m).pw.mode = m := by
  unfold State.setMode; split <;> simp_all

@[simp] theorem State.relayReply_pw (s : State) (m code : Nat) (pay : List Byte) : (s.relayReply m code pay).pw = s.pw := by
  simp [State.relayReply]
@[simp] theorem State.relayReply_seams (s : State) (m code : Nat) (pay : List Byte) : (s.relayReply m code pay).seams = s.seams := by
  simp [State.relayReply]
@[simp] theorem State.relayReply_ld (s : State) (m code : Nat) (pay : List Byte) : (s.relayReply m code pay).ld = s.ld := by
  simp [State.relayReply]
@[simp] theorem State.relayReply_fab (s : State) (m code : Nat) (pay : List Byte) : (s.relayReply m code pay).fab = s.fab := by
  simp [State.relayReply]
@[simp] theorem State.relayReply_net (s : State) (m code : Nat) (pay : List Byte) : (s.relayReply m code pay).net = s.net := by
  simp [State.relayReply]
@[simp] theorem State.relayReply_evs (s : State) (m code : Nat) (pay : List Byte) : (s.relayReply m code pay).evs = s.evs := by
  simp [State.relayReply]
@[simp] theorem State.relayReply_pqs (s : State) (m code : Nat) (pay : List Byte) : (s.relayReply m code pay).pqs = s.pqs := by
  simp [State.relayReply]
@[simp] theorem State.relayReply_eng (s : State) (m code : Nat) (pay : List Byte) : (s.relayReply m code pay).eng = s.eng := by
  simp [State.relayReply]
@[simp] theorem State.relayReply_dma (s : State) (m code : Nat) (pay : List Byte) : (s.relayReply m code pay).dma = s.dma := by
  simp [State.relayReply]
@[simp] theorem State.relayReply_rgn (s : State) (m code : Nat) (pay : List Byte) : (s.relayReply m code pay).rgn = s.rgn := by
  simp [State.relayReply]
@[simp] theorem State.relayReply_hbm (s : State) (m code : Nat) (pay : List Byte) : (s.relayReply m code pay).hbm = s.hbm := by
  simp [State.relayReply]
@[simp] theorem State.relayReply_prot (s : State) (m code : Nat) (pay : List Byte) : (s.relayReply m code pay).prot = s.prot := by
  simp [State.relayReply]
@[simp] theorem State.relayReply_ecc (s : State) (m code : Nat) (pay : List Byte) : (s.relayReply m code pay).ecc = s.ecc := by
  simp [State.relayReply]
@[simp] theorem State.relayReply_lanes (s : State) (m code : Nat) (pay : List Byte) : (s.relayReply m code pay).lanes = s.lanes := by
  simp [State.relayReply]
@[simp] theorem State.relayReply_tmr (s : State) (m code : Nat) (pay : List Byte) : (s.relayReply m code pay).tmr = s.tmr := by
  simp [State.relayReply]
@[simp] theorem State.relayReply_clk (s : State) (m code : Nat) (pay : List Byte) : (s.relayReply m code pay).clk = s.clk := by
  simp [State.relayReply]
@[simp] theorem State.relayReply_sett (s : State) (m code : Nat) (pay : List Byte) : (s.relayReply m code pay).sett = s.sett := by
  simp [State.relayReply]
@[simp] theorem State.relayReply_dbg (s : State) (m code : Nat) (pay : List Byte) : (s.relayReply m code pay).dbg = s.dbg := by
  simp [State.relayReply]
@[simp] theorem State.relayReply_elec (s : State) (m code : Nat) (pay : List Byte) : (s.relayReply m code pay).elec = s.elec := by
  simp [State.relayReply]
@[simp] theorem State.relayReply_regs (s : State) (m code : Nat) (pay : List Byte) : (s.relayReply m code pay).regs = s.regs := by
  simp [State.relayReply]
@[simp] theorem State.relayReply_free (s : State) (m code : Nat) (pay : List Byte) : (s.relayReply m code pay).free = s.free := by
  simp [State.relayReply]
@[simp] theorem State.relayReply_pending (s : State) (m code : Nat) (pay : List Byte) : (s.relayReply m code pay).pending = s.pending := by
  simp [State.relayReply]
@[simp] theorem State.relayReply_hosts_rr (s : State) (m code : Nat) (pay : List Byte) : (s.relayReply m code pay).hosts.rr = s.hosts.rr := by
  simp [State.relayReply]
@[simp] theorem State.relayReply_hosts_alarms (s : State) (m code : Nat) (pay : List Byte) : (s.relayReply m code pay).hosts.alarms = s.hosts.alarms := by
  simp [State.relayReply]
@[simp] theorem State.relayReply_hosts_degr (s : State) (m code : Nat) (pay : List Byte) : (s.relayReply m code pay).hosts.degr = s.hosts.degr := by
  simp [State.relayReply]
@[simp] theorem State.relayReply_hosts_ops (s : State) (m code : Nat) (pay : List Byte) : (s.relayReply m code pay).hosts.ops = s.hosts.ops := by
  simp [State.relayReply]
@[simp] theorem State.relayReply_hosts_routes (s : State) (m code : Nat) (pay : List Byte) : (s.relayReply m code pay).hosts.routes = s.hosts.routes := by
  simp [State.relayReply]
@[simp] theorem State.relayReply_hosts_waits (s : State) (m code : Nat) (pay : List Byte) : (s.relayReply m code pay).hosts.waits = s.hosts.waits := by
  simp [State.relayReply]
@[simp] theorem State.relayReply_hosts_nextRtag (s : State) (m code : Nat) (pay : List Byte) : (s.relayReply m code pay).hosts.nextRtag = s.hosts.nextRtag := by
  simp [State.relayReply]
@[simp] theorem State.relayReply_hosts_reverse (s : State) (m code : Nat) (pay : List Byte) : (s.relayReply m code pay).hosts.reverse = s.hosts.reverse := by
  simp [State.relayReply]
@[simp] theorem State.relayReply_hosts_mpOff (s : State) (m code : Nat) (pay : List Byte) : (s.relayReply m code pay).hosts.mpOff = s.hosts.mpOff := by
  simp [State.relayReply]
@[simp] theorem State.relayReply_hosts_mpLatch (s : State) (m code : Nat) (pay : List Byte) : (s.relayReply m code pay).hosts.mpLatch = s.hosts.mpLatch := by
  simp [State.relayReply]
@[simp] theorem State.relayReply_hosts_mpOut (s : State) (m code : Nat) (pay : List Byte) : (s.relayReply m code pay).hosts.mpOut = s.hosts.mpOut := by
  simp [State.relayReply]
@[simp] theorem State.relayReply_hosts_mpIdle (s : State) (m code : Nat) (pay : List Byte) : (s.relayReply m code pay).hosts.mpIdle = s.hosts.mpIdle := by
  simp [State.relayReply]
@[simp] theorem State.relayReply_hosts_curTenant (s : State) (m code : Nat) (pay : List Byte) : (s.relayReply m code pay).hosts.curTenant = s.hosts.curTenant := by
  simp [State.relayReply]

@[simp] theorem State.replyWith_pw (s : State) (p m code hops rsb : Nat) (pay : List Byte) : (s.replyWith p m code hops rsb pay).pw = s.pw := by
  unfold State.replyWith; split <;> simp
@[simp] theorem State.replyWith_seams (s : State) (p m code hops rsb : Nat) (pay : List Byte) : (s.replyWith p m code hops rsb pay).seams = s.seams := by
  unfold State.replyWith; split <;> simp
@[simp] theorem State.replyWith_ld (s : State) (p m code hops rsb : Nat) (pay : List Byte) : (s.replyWith p m code hops rsb pay).ld = s.ld := by
  unfold State.replyWith; split <;> simp
@[simp] theorem State.replyWith_fab (s : State) (p m code hops rsb : Nat) (pay : List Byte) : (s.replyWith p m code hops rsb pay).fab = s.fab := by
  unfold State.replyWith; split <;> simp
@[simp] theorem State.replyWith_net (s : State) (p m code hops rsb : Nat) (pay : List Byte) : (s.replyWith p m code hops rsb pay).net = s.net := by
  unfold State.replyWith; split <;> simp
@[simp] theorem State.replyWith_evs (s : State) (p m code hops rsb : Nat) (pay : List Byte) : (s.replyWith p m code hops rsb pay).evs = s.evs := by
  unfold State.replyWith; split <;> simp
@[simp] theorem State.replyWith_pqs (s : State) (p m code hops rsb : Nat) (pay : List Byte) : (s.replyWith p m code hops rsb pay).pqs = s.pqs := by
  unfold State.replyWith; split <;> simp
@[simp] theorem State.replyWith_eng (s : State) (p m code hops rsb : Nat) (pay : List Byte) : (s.replyWith p m code hops rsb pay).eng = s.eng := by
  unfold State.replyWith; split <;> simp
@[simp] theorem State.replyWith_dma (s : State) (p m code hops rsb : Nat) (pay : List Byte) : (s.replyWith p m code hops rsb pay).dma = s.dma := by
  unfold State.replyWith; split <;> simp
@[simp] theorem State.replyWith_rgn (s : State) (p m code hops rsb : Nat) (pay : List Byte) : (s.replyWith p m code hops rsb pay).rgn = s.rgn := by
  unfold State.replyWith; split <;> simp
@[simp] theorem State.replyWith_hbm (s : State) (p m code hops rsb : Nat) (pay : List Byte) : (s.replyWith p m code hops rsb pay).hbm = s.hbm := by
  unfold State.replyWith; split <;> simp
@[simp] theorem State.replyWith_prot (s : State) (p m code hops rsb : Nat) (pay : List Byte) : (s.replyWith p m code hops rsb pay).prot = s.prot := by
  unfold State.replyWith; split <;> simp
@[simp] theorem State.replyWith_ecc (s : State) (p m code hops rsb : Nat) (pay : List Byte) : (s.replyWith p m code hops rsb pay).ecc = s.ecc := by
  unfold State.replyWith; split <;> simp
@[simp] theorem State.replyWith_lanes (s : State) (p m code hops rsb : Nat) (pay : List Byte) : (s.replyWith p m code hops rsb pay).lanes = s.lanes := by
  unfold State.replyWith; split <;> simp
@[simp] theorem State.replyWith_tmr (s : State) (p m code hops rsb : Nat) (pay : List Byte) : (s.replyWith p m code hops rsb pay).tmr = s.tmr := by
  unfold State.replyWith; split <;> simp
@[simp] theorem State.replyWith_clk (s : State) (p m code hops rsb : Nat) (pay : List Byte) : (s.replyWith p m code hops rsb pay).clk = s.clk := by
  unfold State.replyWith; split <;> simp
@[simp] theorem State.replyWith_sett (s : State) (p m code hops rsb : Nat) (pay : List Byte) : (s.replyWith p m code hops rsb pay).sett = s.sett := by
  unfold State.replyWith; split <;> simp
@[simp] theorem State.replyWith_dbg (s : State) (p m code hops rsb : Nat) (pay : List Byte) : (s.replyWith p m code hops rsb pay).dbg = s.dbg := by
  unfold State.replyWith; split <;> simp
@[simp] theorem State.replyWith_elec (s : State) (p m code hops rsb : Nat) (pay : List Byte) : (s.replyWith p m code hops rsb pay).elec = s.elec := by
  unfold State.replyWith; split <;> simp
@[simp] theorem State.replyWith_regs (s : State) (p m code hops rsb : Nat) (pay : List Byte) : (s.replyWith p m code hops rsb pay).regs = s.regs := by
  unfold State.replyWith; split <;> simp
@[simp] theorem State.replyWith_free (s : State) (p m code hops rsb : Nat) (pay : List Byte) : (s.replyWith p m code hops rsb pay).free = s.free := by
  unfold State.replyWith; split <;> simp
@[simp] theorem State.replyWith_pending (s : State) (p m code hops rsb : Nat) (pay : List Byte) : (s.replyWith p m code hops rsb pay).pending = s.pending := by
  unfold State.replyWith; split <;> simp
@[simp] theorem State.replyWith_hosts_rr (s : State) (p m code hops rsb : Nat) (pay : List Byte) : (s.replyWith p m code hops rsb pay).hosts.rr = s.hosts.rr := by
  unfold State.replyWith; split <;> simp
@[simp] theorem State.replyWith_hosts_alarms (s : State) (p m code hops rsb : Nat) (pay : List Byte) : (s.replyWith p m code hops rsb pay).hosts.alarms = s.hosts.alarms := by
  unfold State.replyWith; split <;> simp
@[simp] theorem State.replyWith_hosts_degr (s : State) (p m code hops rsb : Nat) (pay : List Byte) : (s.replyWith p m code hops rsb pay).hosts.degr = s.hosts.degr := by
  unfold State.replyWith; split <;> simp
@[simp] theorem State.replyWith_hosts_ops (s : State) (p m code hops rsb : Nat) (pay : List Byte) : (s.replyWith p m code hops rsb pay).hosts.ops = s.hosts.ops := by
  unfold State.replyWith; split <;> simp
@[simp] theorem State.replyWith_hosts_routes (s : State) (p m code hops rsb : Nat) (pay : List Byte) : (s.replyWith p m code hops rsb pay).hosts.routes = s.hosts.routes := by
  unfold State.replyWith; split <;> simp
@[simp] theorem State.replyWith_hosts_waits (s : State) (p m code hops rsb : Nat) (pay : List Byte) : (s.replyWith p m code hops rsb pay).hosts.waits = s.hosts.waits := by
  unfold State.replyWith; split <;> simp
@[simp] theorem State.replyWith_hosts_nextRtag (s : State) (p m code hops rsb : Nat) (pay : List Byte) : (s.replyWith p m code hops rsb pay).hosts.nextRtag = s.hosts.nextRtag := by
  unfold State.replyWith; split <;> simp
@[simp] theorem State.replyWith_hosts_reverse (s : State) (p m code hops rsb : Nat) (pay : List Byte) : (s.replyWith p m code hops rsb pay).hosts.reverse = s.hosts.reverse := by
  unfold State.replyWith; split <;> simp
@[simp] theorem State.replyWith_hosts_mpOff (s : State) (p m code hops rsb : Nat) (pay : List Byte) : (s.replyWith p m code hops rsb pay).hosts.mpOff = s.hosts.mpOff := by
  unfold State.replyWith; split <;> simp
@[simp] theorem State.replyWith_hosts_mpLatch (s : State) (p m code hops rsb : Nat) (pay : List Byte) : (s.replyWith p m code hops rsb pay).hosts.mpLatch = s.hosts.mpLatch := by
  unfold State.replyWith; split <;> simp
@[simp] theorem State.replyWith_hosts_mpOut (s : State) (p m code hops rsb : Nat) (pay : List Byte) : (s.replyWith p m code hops rsb pay).hosts.mpOut = s.hosts.mpOut := by
  unfold State.replyWith; split <;> simp
@[simp] theorem State.replyWith_hosts_mpIdle (s : State) (p m code hops rsb : Nat) (pay : List Byte) : (s.replyWith p m code hops rsb pay).hosts.mpIdle = s.hosts.mpIdle := by
  unfold State.replyWith; split <;> simp
@[simp] theorem State.replyWith_hosts_curTenant (s : State) (p m code hops rsb : Nat) (pay : List Byte) : (s.replyWith p m code hops rsb pay).hosts.curTenant = s.hosts.curTenant := by
  unfold State.replyWith; split <;> simp

@[simp] theorem State.reply_pw (s : State) (p m code : Nat) (pay : List Byte) : (s.reply p m code pay).pw = s.pw := by
  simp [State.reply]
@[simp] theorem State.reply_seams (s : State) (p m code : Nat) (pay : List Byte) : (s.reply p m code pay).seams = s.seams := by
  simp [State.reply]
@[simp] theorem State.reply_ld (s : State) (p m code : Nat) (pay : List Byte) : (s.reply p m code pay).ld = s.ld := by
  simp [State.reply]
@[simp] theorem State.reply_fab (s : State) (p m code : Nat) (pay : List Byte) : (s.reply p m code pay).fab = s.fab := by
  simp [State.reply]
@[simp] theorem State.reply_net (s : State) (p m code : Nat) (pay : List Byte) : (s.reply p m code pay).net = s.net := by
  simp [State.reply]
@[simp] theorem State.reply_evs (s : State) (p m code : Nat) (pay : List Byte) : (s.reply p m code pay).evs = s.evs := by
  simp [State.reply]
@[simp] theorem State.reply_pqs (s : State) (p m code : Nat) (pay : List Byte) : (s.reply p m code pay).pqs = s.pqs := by
  simp [State.reply]
@[simp] theorem State.reply_eng (s : State) (p m code : Nat) (pay : List Byte) : (s.reply p m code pay).eng = s.eng := by
  simp [State.reply]
@[simp] theorem State.reply_dma (s : State) (p m code : Nat) (pay : List Byte) : (s.reply p m code pay).dma = s.dma := by
  simp [State.reply]
@[simp] theorem State.reply_rgn (s : State) (p m code : Nat) (pay : List Byte) : (s.reply p m code pay).rgn = s.rgn := by
  simp [State.reply]
@[simp] theorem State.reply_hbm (s : State) (p m code : Nat) (pay : List Byte) : (s.reply p m code pay).hbm = s.hbm := by
  simp [State.reply]
@[simp] theorem State.reply_prot (s : State) (p m code : Nat) (pay : List Byte) : (s.reply p m code pay).prot = s.prot := by
  simp [State.reply]
@[simp] theorem State.reply_ecc (s : State) (p m code : Nat) (pay : List Byte) : (s.reply p m code pay).ecc = s.ecc := by
  simp [State.reply]
@[simp] theorem State.reply_lanes (s : State) (p m code : Nat) (pay : List Byte) : (s.reply p m code pay).lanes = s.lanes := by
  simp [State.reply]
@[simp] theorem State.reply_tmr (s : State) (p m code : Nat) (pay : List Byte) : (s.reply p m code pay).tmr = s.tmr := by
  simp [State.reply]
@[simp] theorem State.reply_clk (s : State) (p m code : Nat) (pay : List Byte) : (s.reply p m code pay).clk = s.clk := by
  simp [State.reply]
@[simp] theorem State.reply_sett (s : State) (p m code : Nat) (pay : List Byte) : (s.reply p m code pay).sett = s.sett := by
  simp [State.reply]
@[simp] theorem State.reply_dbg (s : State) (p m code : Nat) (pay : List Byte) : (s.reply p m code pay).dbg = s.dbg := by
  simp [State.reply]
@[simp] theorem State.reply_elec (s : State) (p m code : Nat) (pay : List Byte) : (s.reply p m code pay).elec = s.elec := by
  simp [State.reply]
@[simp] theorem State.reply_regs (s : State) (p m code : Nat) (pay : List Byte) : (s.reply p m code pay).regs = s.regs := by
  simp [State.reply]
@[simp] theorem State.reply_free (s : State) (p m code : Nat) (pay : List Byte) : (s.reply p m code pay).free = s.free := by
  simp [State.reply]
@[simp] theorem State.reply_pending (s : State) (p m code : Nat) (pay : List Byte) : (s.reply p m code pay).pending = s.pending := by
  simp [State.reply]
@[simp] theorem State.reply_hosts_rr (s : State) (p m code : Nat) (pay : List Byte) : (s.reply p m code pay).hosts.rr = s.hosts.rr := by
  simp [State.reply]
@[simp] theorem State.reply_hosts_alarms (s : State) (p m code : Nat) (pay : List Byte) : (s.reply p m code pay).hosts.alarms = s.hosts.alarms := by
  simp [State.reply]
@[simp] theorem State.reply_hosts_degr (s : State) (p m code : Nat) (pay : List Byte) : (s.reply p m code pay).hosts.degr = s.hosts.degr := by
  simp [State.reply]
@[simp] theorem State.reply_hosts_ops (s : State) (p m code : Nat) (pay : List Byte) : (s.reply p m code pay).hosts.ops = s.hosts.ops := by
  simp [State.reply]
@[simp] theorem State.reply_hosts_routes (s : State) (p m code : Nat) (pay : List Byte) : (s.reply p m code pay).hosts.routes = s.hosts.routes := by
  simp [State.reply]
@[simp] theorem State.reply_hosts_waits (s : State) (p m code : Nat) (pay : List Byte) : (s.reply p m code pay).hosts.waits = s.hosts.waits := by
  simp [State.reply]
@[simp] theorem State.reply_hosts_nextRtag (s : State) (p m code : Nat) (pay : List Byte) : (s.reply p m code pay).hosts.nextRtag = s.hosts.nextRtag := by
  simp [State.reply]
@[simp] theorem State.reply_hosts_reverse (s : State) (p m code : Nat) (pay : List Byte) : (s.reply p m code pay).hosts.reverse = s.hosts.reverse := by
  simp [State.reply]
@[simp] theorem State.reply_hosts_mpOff (s : State) (p m code : Nat) (pay : List Byte) : (s.reply p m code pay).hosts.mpOff = s.hosts.mpOff := by
  simp [State.reply]
@[simp] theorem State.reply_hosts_mpLatch (s : State) (p m code : Nat) (pay : List Byte) : (s.reply p m code pay).hosts.mpLatch = s.hosts.mpLatch := by
  simp [State.reply]
@[simp] theorem State.reply_hosts_mpOut (s : State) (p m code : Nat) (pay : List Byte) : (s.reply p m code pay).hosts.mpOut = s.hosts.mpOut := by
  simp [State.reply]
@[simp] theorem State.reply_hosts_mpIdle (s : State) (p m code : Nat) (pay : List Byte) : (s.reply p m code pay).hosts.mpIdle = s.hosts.mpIdle := by
  simp [State.reply]
@[simp] theorem State.reply_hosts_curTenant (s : State) (p m code : Nat) (pay : List Byte) : (s.reply p m code pay).hosts.curTenant = s.hosts.curTenant := by
  simp [State.reply]

end Sys2Proof.Machine
end

