-- ==== Sys2Proof/Laws/Table.lean ====
section
/-! SUPPORT. Sparse tables: a read after a write, and the canonical form that every write keeps. -/

namespace Sys2Proof.Machine

variable {α : Type}

/-- Keys rise strictly from above `lo`, and no value equals its default. -/
theorem Tbl.sortedFrom_cons [DecidableEq α] (d : Nat → α) (lo : Option Nat) (k : Nat) (v : α) (t : Tbl α) :
    Tbl.sortedFrom d lo ((k, v) :: t) = true ↔ (∀ l, lo = some l → l < k) ∧ v ≠ d k ∧ Tbl.sortedFrom d (some k) t = true := by
  cases lo <;> simp [Tbl.sortedFrom, and_assoc]

/-- A canonical table stays canonical above a lower bound. -/
theorem Tbl.sortedFrom_mono [DecidableEq α] (d : Nat → α) {a b : Nat} (h : a ≤ b) (t : Tbl α) (w : Tbl.sortedFrom d (some b) t = true) :
    Tbl.sortedFrom d (some a) t = true := by
  cases t with
  | nil => rfl
  | cons x t =>
    obtain ⟨k, v⟩ := x
    rw [Tbl.sortedFrom_cons] at w ⊢
    exact ⟨fun l hl => by cases hl; exact lt_of_le_of_lt h (w.1 b rfl), w.2⟩

/-- A key at or below the bound is not listed. -/
theorem tget_below [DecidableEq α] (d : Nat → α) (e : α) {b i : Nat} (h : i ≤ b) (t : Tbl α) (w : Tbl.sortedFrom d (some b) t = true) : tget e t i = e := by
  cases t with
  | nil => rfl
  | cons x t =>
    obtain ⟨k, v⟩ := x
    rw [Tbl.sortedFrom_cons] at w
    have hk := w.1 b rfl
    have h1 : i ≠ k := by omega
    have h2 : i < k := by omega
    simp [tget, h1, h2]

/-- Reading back a listed key. -/
@[simp] theorem tget_tins_same (e : α) (t : Tbl α) (i : Nat) (v : α) : tget e (tins t i v) i = v := by
  induction t with
  | nil => simp [tins, tget]
  | cons x t ih =>
    obtain ⟨k, u⟩ := x
    by_cases h1 : i = k
    · simp [tins, tget, h1]
    · by_cases h2 : i < k <;> simp [tins, tget, h1, h2, ih]

/-- Listing one key leaves the others. -/
theorem tget_tins_other (e : α) (t : Tbl α) (i j : Nat) (v : α) (h : j ≠ i) : tget e (tins t i v) j = tget e t j := by
  induction t with
  | nil => simp [tins, tget, h]
  | cons x t ih =>
    obtain ⟨k, u⟩ := x
    by_cases h1 : i = k
    · subst h1; simp [tins, tget, h]
    · by_cases h2 : i < k
      · by_cases h3 : j < i
        · have h4 : j ≠ k := by omega
          have h5 : j < k := by omega
          simp [tins, tget, h1, h2, h, h3, h4, h5]
        · simp [tins, tget, h1, h2, h, h3]
      · simp [tins, tget, h1, h2, ih]

/-- Removing a key makes it read as the default. -/
theorem tget_tdel_same [DecidableEq α] (d : Nat → α) (e : α) (lo : Option Nat) (t : Tbl α) (i : Nat) (w : Tbl.sortedFrom d lo t = true) :
    tget e (tdel t i) i = e := by
  induction t generalizing lo with
  | nil => rfl
  | cons x t ih =>
    obtain ⟨k, u⟩ := x
    rw [Tbl.sortedFrom_cons] at w
    by_cases h1 : i = k
    · subst h1; simp only [tdel, if_true]; exact tget_below d e (le_refl i) t w.2.2
    · by_cases h2 : i < k
      · simp [tdel, tget, h1, h2]
      · simp [tdel, tget, h1, h2, ih (some k) w.2.2]

/-- Removing one key leaves the others. -/
theorem tget_tdel_other [DecidableEq α] (d : Nat → α) (e : α) (lo : Option Nat) (t : Tbl α) (i j : Nat) (h : j ≠ i)
    (w : Tbl.sortedFrom d lo t = true) : tget e (tdel t i) j = tget e t j := by
  induction t generalizing lo with
  | nil => rfl
  | cons x t ih =>
    obtain ⟨k, u⟩ := x
    rw [Tbl.sortedFrom_cons] at w
    by_cases h1 : i = k
    · subst h1
      by_cases h3 : j < i
      · simp [tdel, tget, h, h3, tget_below d e (le_of_lt h3) t w.2.2]
      · simp [tdel, tget, h, h3]
    · by_cases h2 : i < k
      · simp [tdel, h1, h2]
      · simp [tdel, tget, h1, h2, ih (some k) w.2.2]

/-- A read after a write of a key that is not the default gives the value written. -/
theorem tget_tput_ne [DecidableEq α] (e : α) (t : Tbl α) (i : Nat) (v : α) (h : v ≠ e) : tget e (tput e t i v) i = v := by
  simp [tput, h]

/-- A read after a write of the same key gives the value written. -/
theorem tget_tput_same [DecidableEq α] (d : Nat → α) (t : Tbl α) (i : Nat) (v : α) (w : Tbl.wf d t = true) : tget (d i) (tput (d i) t i v) i = v := by
  by_cases h : v = d i
  · simp [tput, h, tget_tdel_same d (d i) none t i w]
  · simp [tput, h]

/-- A write of one key leaves every other. -/
theorem tget_tput_other [DecidableEq α] (d : Nat → α) (e e' : α) (t : Tbl α) (i j : Nat) (v : α) (h : j ≠ i) (w : Tbl.wf d t = true) :
    tget e (tput e' t i v) j = tget e t j := by
  by_cases hv : v = e'
  · simp [tput, hv, tget_tdel_other d e none t i j h w]
  · simp [tput, hv, tget_tins_other e t i j v h]

theorem Tbl.sortedFrom_tins [DecidableEq α] (d : Nat → α) (lo : Option Nat) (t : Tbl α) (i : Nat) (v : α) (hl : ∀ l, lo = some l → l < i) (h : v ≠ d i)
    (w : Tbl.sortedFrom d lo t = true) : Tbl.sortedFrom d lo (tins t i v) = true := by
  induction t generalizing lo with
  | nil => simp only [tins]; rw [Tbl.sortedFrom_cons]; exact ⟨hl, h, rfl⟩
  | cons x t ih =>
    obtain ⟨k, u⟩ := x
    have w' := w
    rw [Tbl.sortedFrom_cons] at w
    by_cases h1 : i = k
    · subst h1; simp only [tins, if_true]; rw [Tbl.sortedFrom_cons]; exact ⟨hl, h, w.2.2⟩
    · by_cases h2 : i < k
      · simp only [tins, h1, h2, if_true, if_false]
        exact (Tbl.sortedFrom_cons ..).2 ⟨hl, h, (Tbl.sortedFrom_cons ..).2 ⟨fun l hl' => (by cases hl'; omega), w.2⟩⟩
      · simp only [tins, h1, h2, if_false]
        rw [Tbl.sortedFrom_cons]
        exact ⟨w.1, w.2.1, ih (some k) (fun l hl' => by cases hl'; omega) w.2.2⟩

theorem Tbl.sortedFrom_tdel [DecidableEq α] (d : Nat → α) (lo : Option Nat) (t : Tbl α) (i : Nat) (w : Tbl.sortedFrom d lo t = true) :
    Tbl.sortedFrom d lo (tdel t i) = true := by
  induction t generalizing lo with
  | nil => rfl
  | cons x t ih =>
    obtain ⟨k, u⟩ := x
    have w' := w
    rw [Tbl.sortedFrom_cons] at w
    by_cases h1 : i = k
    · simp only [tdel, h1, if_true]
      cases lo with
      | none =>
        cases t with
        | nil => rfl
        | cons y t => obtain ⟨a, b⟩ := y; have := w.2.2; rw [Tbl.sortedFrom_cons] at this ⊢; exact ⟨fun l hl => (nomatch hl), this.2⟩
      | some l => exact Tbl.sortedFrom_mono d (le_of_lt (w.1 l rfl)) t w.2.2
    · by_cases h2 : i < k
      · simpa [tdel, h1, h2] using w'
      · simp only [tdel, h1, h2, if_false]; rw [Tbl.sortedFrom_cons]; exact ⟨w.1, w.2.1, ih (some k) w.2.2⟩

/-- Every write keeps the canonical form. -/
theorem Tbl.wf_tput [DecidableEq α] (d : Nat → α) (t : Tbl α) (i : Nat) (v : α) (w : Tbl.wf d t = true) : Tbl.wf d (tput (d i) t i v) = true := by
  by_cases h : v = d i
  · simp only [tput, h, if_true]; exact Tbl.sortedFrom_tdel d none t i w
  · simp only [tput, h, if_false]; exact Tbl.sortedFrom_tins d none t i v (fun l hl => by cases hl) h w

/-- A listed key does not read as a table without entries. -/
theorem tins_ne_nil (t : Tbl α) (i : Nat) (v : α) : tins t i v ≠ [] := by
  cases t with
  | nil => simp [tins]
  | cons x t => obtain ⟨k, u⟩ := x; simp only [tins]; split
                · simp
                · split <;> simp

end Sys2Proof.Machine
end

