-- ==== Sys2Proof/Laws/Cmd.lean ====
section
/-! SUPPORT. What taking a mailbox command and serving a register request can do (20 R457, R460; 21 R471–R473; 01 R31). -/

namespace Sys2Proof.Machine

@[simp] theorem State.taken_pw (s : State) (p m : Nat) : (s.taken p m).pw = s.pw := (rfl)
@[simp] theorem State.taken_regs (s : State) (p m : Nat) : (s.taken p m).regs = s.regs := (rfl)
@[simp] theorem State.taken_pending (s : State) (p m : Nat) : (s.taken p m).pending = s.pending := (rfl)
@[simp] theorem State.taken_reg (s : State) (p m : Nat) (g : Rg) (i j : Nat) : (s.taken p m).reg g i j = s.reg g i j := (rfl)

@[simp] theorem State.ctxOf_num (s : State) (p m o n : Nat) : (s.ctxOf p m).num o n = s.arg p m o n := (rfl)
@[simp] theorem State.ctxOf_tenant (s : State) (p m : Nat) : (s.ctxOf p m).tenant = s.portTenant p := (rfl)
@[simp] theorem State.ctxOf_port (s : State) (p m : Nat) : (s.ctxOf p m).port = p := (rfl)
@[simp] theorem State.ctxOf_mbox (s : State) (p m : Nat) : (s.ctxOf p m).mbox = m := (rfl)
@[simp] theorem State.ctxOf_pay (s : State) (p m : Nat) : (s.ctxOf p m).pay = (s.mbox p m).payload := (rfl)

/-- Repeating what leaves a value as it is leaves it as it is. -/
theorem iter_id {σ : Type} (n : Nat) (f : Nat → σ → σ) (s : σ) (h : ∀ i, f i s = s) : iter n f s = s := by
  unfold iter
  induction List.range n with
  | nil => rfl
  | cons i l ih => simp [h i, ih]

/-- With no command of an unknown opcode at its turn, Maltar answers none. -/
theorem State.takeUnknown_id {s : State} (h : s.unknownTurn = none) : s.takeUnknown = s :=
  iter_id 20 _ s (fun _ => by simp only [h])

/-- A command that Maltar cannot take yet leaves the state as it is, but for the commands of an unknown opcode before it. -/
theorem takeMailbox_waits (opcode : Nat) (body : Body) (p m : Nat) (s : State) (h : s.canTake p m opcode = false) (hu : s.unknownTurn = none) :
    takeMailbox opcode body p m s = s := by
  simp [takeMailbox, State.takeUnknown_id hu, h]

/-- The opcode of a command that can be taken is the row's. -/
theorem State.canTake_opcode {s : State} {p m opcode : Nat} (h : s.canTake p m opcode = true) : (s.mbox p m).opcode = opcode := by
  simp only [State.canTake, Bool.and_eq_true, decide_eq_true_eq] at h
  exact h.1.2

/-- A mailbox that is not at its reset value reads back as it was set, and its port keeps everything else. -/
theorem State.mbox_setMbox (s : State) (p m : Nat) (x : Mailbox) (h : x ≠ Mailbox.init) : (s.setMbox p m x).mbox p m = x := by
  have hp : ({ s.port p with mbs := tput Mailbox.init (s.port p).mbs m x } : HostPort) ≠ HostPort.init := by
    intro hq
    have := congrArg HostPort.mbs hq
    simp only [HostPort.init, tput, h, if_false] at this
    exact tins_ne_nil _ _ _ this
  have e := tget_tput_ne HostPort.init s.hosts.ports p _ hp
  exact (congrArg (fun q => tget Mailbox.init (HostPort.mbs q) m) e).trans (tget_tput_ne _ _ _ _ h)

/-- A taken command's mailbox is RUNNING, with its buffers as they were. -/
theorem State.taken_mbox (s : State) (p m : Nat) : (s.taken p m).mbox p m = { s.mbox p m with state := 2 } := by
  unfold State.taken
  exact State.mbox_setMbox _ _ _ _ (fun h => by simpa [Mailbox.init] using congrArg Mailbox.state h)

/-- Taking a command leaves what Maltar reaches as it was. -/
@[simp] theorem State.taken_outOfReach (s : State) (p m op : Nat) (l : List Byte) : (s.taken p m).outOfReach op l = s.outOfReach op l := (rfl)

/-- A command that Maltar reaches is answered as its body says. -/
theorem State.reachable_of (s : State) (c : Ctx) (x : State × Reply) (h : s.outOfReach c.opcode c.pay = false) : s.reachable c x = x := by
  simp [State.reachable, h]

/-- A ready command runs its body in the taken state and is answered. -/
theorem takeMailbox_ready (opcode : Nat) (body : Body) (p m : Nat) (s : State) (h : s.ready p m opcode) :
    takeMailbox opcode body p m s =
      State.answer (body (s.ctxOf p m) (s.taken p m)).1 (s.ctxOf p m) (body (s.ctxOf p m) (s.taken p m)).2 := by
  obtain ⟨h1, h2, h3, h4, h5, h6⟩ := h
  have ho := State.canTake_opcode h1
  have hc : (s.ctxOf p m).opcode = opcode := ho
  have hp : (s.ctxOf p m).pay = (s.mbox p m).payload := rfl
  have hr : ¬ (((s.taken p m).mbox p m).relay = true ∧ ((s.taken p m).mbox p m).target ≠ deviceId) := by
    rw [State.taken_mbox]
    rintro ⟨a, b⟩
    rcases h2 with h2 | h2
    · have : (s.mbox p m).relay = true := a
      rw [h2] at this; cases this
    · exact b h2
  have hx := State.reachable_of (s.taken p m) (s.ctxOf p m) (body (s.ctxOf p m) (s.taken p m)) (by rw [hc, hp, State.taken_outOfReach]; exact h6)
  simp only [takeMailbox, h1, if_true, hr, if_false, runChecked, h3, Bool.false_eq_true, hc, hp, h4, State.taken_pw, h5, hx]

/-! ### Requests to registers (R31) -/

@[simp] theorem State.takeReq_reg (s : State) (r : Req) (g : Rg) (i j : Nat) : (s.takeReq r).reg g i j = s.reg g i j := (rfl)
@[simp] theorem State.takeReq_pw (s : State) (r : Req) : (s.takeReq r).pw = s.pw := (rfl)
@[simp] theorem State.takeReq_engine (s : State) (r : Req) (t : Nat) : (s.takeReq r).engine t = s.engine t := (rfl)
@[simp] theorem State.takeReq_pq (s : State) (r : Req) (k : Nat) : (s.takeReq r).pq k = s.pq k := (rfl)
@[simp] theorem State.takeReq_lane (s : State) (r : Req) (l : Nat) : (s.takeReq r).lane l = s.lane l := (rfl)
@[simp] theorem State.takeReq_chan (s : State) (r : Req) (c : Nat) : (s.takeReq r).chan c = s.chan c := (rfl)
@[simp] theorem State.takeReq_keeper (s : State) (r : Req) (n : Nat) : (s.takeReq r).keeper n = s.keeper n := (rfl)
@[simp] theorem State.takeReq_pending (s : State) (r : Req) : (s.takeReq r).pending = s.pending := (rfl)

theorem regRow_granted (g : Rg) (i j v : Nat) (p : Rg → Nat → Bool) (r : Req) (s : State) (h : s.grantsWrite r g i j v) (hp : p g v = true) :
    regRow .write p r s = .next (State.respond ((s.takeReq r).writeReg r.rq g i j v) r svcOK []) := by
  obtain ⟨h1, h2, h3, h4, h5, h6, h7, h8, h9⟩ := h
  have hz : regParts r.rq [(g, i, j)] = [(g, i, j, 0)] := by simp [regParts, List.zipIdx, h5]
  have hh : r.hits .write p = true := by simp [Req.hits, h3, h4, List.zipIdx, h6, hp]
  have ha : (s.takeReq r).regAccess r.rq true r.op r.addr r.size r.data = (State.writeReg (s.takeReq r) r.rq g i j v, svcOK, []) := by
    simp [State.regAccess, h4, hz, h3, h6, h7, h8, List.any, svcOK]
  simp only [regRow, hh, if_true, State.serveReg, State.serve, h1, h2, ha]

end Sys2Proof.Machine
end

