-- ==== Sys2Proof/Laws/Engine.lean ====
section
/-! SUPPORT. What issuing an engine instruction can do (09 R219, R233; 10 R236, R246–R250). -/

namespace Sys2Proof.Machine

/-- Logging the reads of a fetch that met no error changes nothing. -/
@[simp] theorem State.noteReads_clean (s : State) (t v : Nat) (b : Bool) : s.noteReads t [⟨v, b, none⟩] = s := (rfl)

@[simp] theorem State.noteReads_nil (s : State) (t : Nat) : s.noteReads t [] = s := (rfl)

/-- An engine that issues the instruction that a row names issues the row's plan, made from the engine after the end check: a fault, a cycle of
waiting, or the instruction. -/
theorem issueOp_issues {s : State} {t w : Nat} {c : Bool} {op : EOp} {sel : EOp → Option (State → Plan)} {k : State → Plan}
    (h : s.issues t w c op) (hs : sel op = some k) :
    s.issueOp t sel =
      let p := k (s.setEngine t (s.engine t).endCheck)
      if p.fault ≠ 0 then s.engFault t p.fault
      else if p.hold then (s.engPass t 1).engBoundary t
      else if p.fx.rds.any (·.bad) then (s.noteReads t p.fx.rds).engFault t 1
      else s.engIssue t c w p := by
  obtain ⟨h1, h2, h3, h4, h5, h6⟩ := h
  simp -implicitDefEqProofs only [State.issueOp, h1, h2, h3, h4, hs, h5, h6, if_true, State.noteReads_clean, Bool.false_eq_true, if_false]

/-- An instruction that neither faults nor waits, and whose operands are clean, is issued. -/
theorem issueOp_plain {s : State} {t w : Nat} {c : Bool} {op : EOp} {sel : EOp → Option (State → Plan)} {k : State → Plan}
    (h : s.issues t w c op) (hs : sel op = some k) {p : Plan} (hp : k (s.setEngine t (s.engine t).endCheck) = p)
    (hf : p.fault = 0) (hh : p.hold = false) (hc : p.fx.clean = true) :
    s.issueOp t sel = s.engIssue t c w p := by
  rw [issueOp_issues h hs, hp]
  simp only [Fx.clean, Bool.not_eq_true'] at hc
  simp [hf, hh, hc]

/-- A row that names another instruction than the one at the program counter leaves the state as it is. -/
theorem issueOp_other {s : State} {t w : Nat} {c : Bool} {op : EOp} {sel : EOp → Option (State → Plan)}
    (h : s.issues t w c op) (hs : sel op = none) : s.issueOp t sel = s := by
  obtain ⟨h1, h2, h3, h4, h5, h6⟩ := h
  simp -implicitDefEqProofs only [State.issueOp, h1, h2, h3, h4, hs, if_true, State.noteReads_clean, Bool.false_eq_true, if_false]

end Sys2Proof.Machine
end

