-- ==== Sys2Proof/Laws/Net.lean ====
section
/-! SUPPORT. What sending a request and a response can do (R165, R166, R174, R184). -/

namespace Sys2Proof.Machine

@[simp] theorem State.injectAt_pw (s : State) (t d : Nat) (l : List (BitVec 288)) : (s.injectAt t d l).pw = s.pw := (rfl)
@[simp] theorem State.injectAt_seams (s : State) (t d : Nat) (l : List (BitVec 288)) : (s.injectAt t d l).seams = s.seams := (rfl)
@[simp] theorem State.injectAt_ld (s : State) (t d : Nat) (l : List (BitVec 288)) : (s.injectAt t d l).ld = s.ld := (rfl)
@[simp] theorem State.injectAt_fab (s : State) (t d : Nat) (l : List (BitVec 288)) : (s.injectAt t d l).fab = s.fab := (rfl)
@[simp] theorem State.injectAt_evs (s : State) (t d : Nat) (l : List (BitVec 288)) : (s.injectAt t d l).evs = s.evs := (rfl)
@[simp] theorem State.injectAt_pqs (s : State) (t d : Nat) (l : List (BitVec 288)) : (s.injectAt t d l).pqs = s.pqs := (rfl)
@[simp] theorem State.injectAt_eng (s : State) (t d : Nat) (l : List (BitVec 288)) : (s.injectAt t d l).eng = s.eng := (rfl)
@[simp] theorem State.injectAt_dma (s : State) (t d : Nat) (l : List (BitVec 288)) : (s.injectAt t d l).dma = s.dma := (rfl)
@[simp] theorem State.injectAt_rgn (s : State) (t d : Nat) (l : List (BitVec 288)) : (s.injectAt t d l).rgn = s.rgn := (rfl)
@[simp] theorem State.injectAt_hbm (s : State) (t d : Nat) (l : List (BitVec 288)) : (s.injectAt t d l).hbm = s.hbm := (rfl)
@[simp] theorem State.injectAt_prot (s : State) (t d : Nat) (l : List (BitVec 288)) : (s.injectAt t d l).prot = s.prot := (rfl)
@[simp] theorem State.injectAt_ecc (s : State) (t d : Nat) (l : List (BitVec 288)) : (s.injectAt t d l).ecc = s.ecc := (rfl)
@[simp] theorem State.injectAt_lanes (s : State) (t d : Nat) (l : List (BitVec 288)) : (s.injectAt t d l).lanes = s.lanes := (rfl)
@[simp] theorem State.injectAt_tmr (s : State) (t d : Nat) (l : List (BitVec 288)) : (s.injectAt t d l).tmr = s.tmr := (rfl)
@[simp] theorem State.injectAt_clk (s : State) (t d : Nat) (l : List (BitVec 288)) : (s.injectAt t d l).clk = s.clk := (rfl)
@[simp] theorem State.injectAt_hosts (s : State) (t d : Nat) (l : List (BitVec 288)) : (s.injectAt t d l).hosts = s.hosts := (rfl)
@[simp] theorem State.injectAt_sett (s : State) (t d : Nat) (l : List (BitVec 288)) : (s.injectAt t d l).sett = s.sett := (rfl)
@[simp] theorem State.injectAt_dbg (s : State) (t d : Nat) (l : List (BitVec 288)) : (s.injectAt t d l).dbg = s.dbg := (rfl)
@[simp] theorem State.injectAt_elec (s : State) (t d : Nat) (l : List (BitVec 288)) : (s.injectAt t d l).elec = s.elec := (rfl)
@[simp] theorem State.injectAt_regs (s : State) (t d : Nat) (l : List (BitVec 288)) : (s.injectAt t d l).regs = s.regs := (rfl)
@[simp] theorem State.injectAt_free (s : State) (t d : Nat) (l : List (BitVec 288)) : (s.injectAt t d l).free = s.free := (rfl)
@[simp] theorem State.injectAt_pending (s : State) (t d : Nat) (l : List (BitVec 288)) : (s.injectAt t d l).pending = s.pending := (rfl)
@[simp] theorem State.injectAt_net_reqs (s : State) (t d : Nat) (l : List (BitVec 288)) : (s.injectAt t d l).net.reqs = s.net.reqs := (rfl)
@[simp] theorem State.injectAt_net_resps (s : State) (t d : Nat) (l : List (BitVec 288)) : (s.injectAt t d l).net.resps = s.net.resps := (rfl)
@[simp] theorem State.injectAt_net_outs (s : State) (t d : Nat) (l : List (BitVec 288)) : (s.injectAt t d l).net.outs = s.net.outs := (rfl)
@[simp] theorem State.injectAt_net_gens (s : State) (t d : Nat) (l : List (BitVec 288)) : (s.injectAt t d l).net.gens = s.net.gens := (rfl)
@[simp] theorem State.injectAt_net_freeTags (s : State) (t d : Nat) (l : List (BitVec 288)) : (s.injectAt t d l).net.freeTags = s.net.freeTags := (rfl)
@[simp] theorem State.injectAt_net_routers (s : State) (t d : Nat) (l : List (BitVec 288)) : (s.injectAt t d l).net.routers = s.net.routers := (rfl)
@[simp] theorem State.injectAt_net_nis (s : State) (t d : Nat) (l : List (BitVec 288)) : (s.injectAt t d l).net.nis = s.net.nis := (rfl)
@[simp] theorem State.injectAt_net_routesOn (s : State) (t d : Nat) (l : List (BitVec 288)) : (s.injectAt t d l).net.routesOn = s.net.routesOn := (rfl)
@[simp] theorem State.injectAt_net_pois (s : State) (t d : Nat) (l : List (BitVec 288)) : (s.injectAt t d l).net.pois = s.net.pois := (rfl)
@[simp] theorem State.injectAt_net_avoid (s : State) (t d : Nat) (l : List (BitVec 288)) : (s.injectAt t d l).net.avoid = s.net.avoid := (rfl)
@[simp] theorem State.injectAt_net_named (s : State) (t d : Nat) (l : List (BitVec 288)) : (s.injectAt t d l).net.named = s.net.named := (rfl)
@[simp] theorem State.injectAt_net_routeOv (s : State) (t d : Nat) (l : List (BitVec 288)) : (s.injectAt t d l).net.routeOv = s.net.routeOv := (rfl)

@[simp] theorem State.respond_pw (s : State) (r : Req) (c : Nat) (l : List Byte) : (s.respond r c l).pw = s.pw := (rfl)
@[simp] theorem State.respond_seams (s : State) (r : Req) (c : Nat) (l : List Byte) : (s.respond r c l).seams = s.seams := (rfl)
@[simp] theorem State.respond_ld (s : State) (r : Req) (c : Nat) (l : List Byte) : (s.respond r c l).ld = s.ld := (rfl)
@[simp] theorem State.respond_fab (s : State) (r : Req) (c : Nat) (l : List Byte) : (s.respond r c l).fab = s.fab := (rfl)
@[simp] theorem State.respond_evs (s : State) (r : Req) (c : Nat) (l : List Byte) : (s.respond r c l).evs = s.evs := (rfl)
@[simp] theorem State.respond_pqs (s : State) (r : Req) (c : Nat) (l : List Byte) : (s.respond r c l).pqs = s.pqs := (rfl)
@[simp] theorem State.respond_eng (s : State) (r : Req) (c : Nat) (l : List Byte) : (s.respond r c l).eng = s.eng := (rfl)
@[simp] theorem State.respond_dma (s : State) (r : Req) (c : Nat) (l : List Byte) : (s.respond r c l).dma = s.dma := (rfl)
@[simp] theorem State.respond_rgn (s : State) (r : Req) (c : Nat) (l : List Byte) : (s.respond r c l).rgn = s.rgn := (rfl)
@[simp] theorem State.respond_hbm (s : State) (r : Req) (c : Nat) (l : List Byte) : (s.respond r c l).hbm = s.hbm := (rfl)
@[simp] theorem State.respond_prot (s : State) (r : Req) (c : Nat) (l : List Byte) : (s.respond r c l).prot = s.prot := (rfl)
@[simp] theorem State.respond_ecc (s : State) (r : Req) (c : Nat) (l : List Byte) : (s.respond r c l).ecc = s.ecc := (rfl)
@[simp] theorem State.respond_lanes (s : State) (r : Req) (c : Nat) (l : List Byte) : (s.respond r c l).lanes = s.lanes := (rfl)
@[simp] theorem State.respond_tmr (s : State) (r : Req) (c : Nat) (l : List Byte) : (s.respond r c l).tmr = s.tmr := (rfl)
@[simp] theorem State.respond_clk (s : State) (r : Req) (c : Nat) (l : List Byte) : (s.respond r c l).clk = s.clk := (rfl)
@[simp] theorem State.respond_hosts (s : State) (r : Req) (c : Nat) (l : List Byte) : (s.respond r c l).hosts = s.hosts := (rfl)
@[simp] theorem State.respond_sett (s : State) (r : Req) (c : Nat) (l : List Byte) : (s.respond r c l).sett = s.sett := (rfl)
@[simp] theorem State.respond_dbg (s : State) (r : Req) (c : Nat) (l : List Byte) : (s.respond r c l).dbg = s.dbg := (rfl)
@[simp] theorem State.respond_elec (s : State) (r : Req) (c : Nat) (l : List Byte) : (s.respond r c l).elec = s.elec := (rfl)
@[simp] theorem State.respond_regs (s : State) (r : Req) (c : Nat) (l : List Byte) : (s.respond r c l).regs = s.regs := (rfl)
@[simp] theorem State.respond_free (s : State) (r : Req) (c : Nat) (l : List Byte) : (s.respond r c l).free = s.free := (rfl)
@[simp] theorem State.respond_pending (s : State) (r : Req) (c : Nat) (l : List Byte) : (s.respond r c l).pending = s.pending := (rfl)
@[simp] theorem State.respond_net_reqs (s : State) (r : Req) (c : Nat) (l : List Byte) : (s.respond r c l).net.reqs = s.net.reqs := (rfl)
@[simp] theorem State.respond_net_resps (s : State) (r : Req) (c : Nat) (l : List Byte) : (s.respond r c l).net.resps = s.net.resps := (rfl)
@[simp] theorem State.respond_net_outs (s : State) (r : Req) (c : Nat) (l : List Byte) : (s.respond r c l).net.outs = s.net.outs := (rfl)
@[simp] theorem State.respond_net_gens (s : State) (r : Req) (c : Nat) (l : List Byte) : (s.respond r c l).net.gens = s.net.gens := (rfl)
@[simp] theorem State.respond_net_freeTags (s : State) (r : Req) (c : Nat) (l : List Byte) : (s.respond r c l).net.freeTags = s.net.freeTags := (rfl)
@[simp] theorem State.respond_net_routers (s : State) (r : Req) (c : Nat) (l : List Byte) : (s.respond r c l).net.routers = s.net.routers := (rfl)
@[simp] theorem State.respond_net_nis (s : State) (r : Req) (c : Nat) (l : List Byte) : (s.respond r c l).net.nis = s.net.nis := (rfl)
@[simp] theorem State.respond_net_routesOn (s : State) (r : Req) (c : Nat) (l : List Byte) : (s.respond r c l).net.routesOn = s.net.routesOn := (rfl)
@[simp] theorem State.respond_net_pois (s : State) (r : Req) (c : Nat) (l : List Byte) : (s.respond r c l).net.pois = s.net.pois := (rfl)
@[simp] theorem State.respond_net_avoid (s : State) (r : Req) (c : Nat) (l : List Byte) : (s.respond r c l).net.avoid = s.net.avoid := (rfl)
@[simp] theorem State.respond_net_named (s : State) (r : Req) (c : Nat) (l : List Byte) : (s.respond r c l).net.named = s.net.named := (rfl)
@[simp] theorem State.respond_net_routeOv (s : State) (r : Req) (c : Nat) (l : List Byte) : (s.respond r c l).net.routeOv = s.net.routeOv := (rfl)

@[simp] theorem State.sendReq_pw (s : State) (w : Who) (r : Req) (d p : Nat) : (s.sendReq w r d p).pw = s.pw := by
  unfold State.sendReq; split <;> rfl
@[simp] theorem State.sendReq_seams (s : State) (w : Who) (r : Req) (d p : Nat) : (s.sendReq w r d p).seams = s.seams := by
  unfold State.sendReq; split <;> rfl
@[simp] theorem State.sendReq_ld (s : State) (w : Who) (r : Req) (d p : Nat) : (s.sendReq w r d p).ld = s.ld := by
  unfold State.sendReq; split <;> rfl
@[simp] theorem State.sendReq_fab (s : State) (w : Who) (r : Req) (d p : Nat) : (s.sendReq w r d p).fab = s.fab := by
  unfold State.sendReq; split <;> rfl
@[simp] theorem State.sendReq_evs (s : State) (w : Who) (r : Req) (d p : Nat) : (s.sendReq w r d p).evs = s.evs := by
  unfold State.sendReq; split <;> rfl
@[simp] theorem State.sendReq_pqs (s : State) (w : Who) (r : Req) (d p : Nat) : (s.sendReq w r d p).pqs = s.pqs := by
  unfold State.sendReq; split <;> rfl
@[simp] theorem State.sendReq_eng (s : State) (w : Who) (r : Req) (d p : Nat) : (s.sendReq w r d p).eng = s.eng := by
  unfold State.sendReq; split <;> rfl
@[simp] theorem State.sendReq_dma (s : State) (w : Who) (r : Req) (d p : Nat) : (s.sendReq w r d p).dma = s.dma := by
  unfold State.sendReq; split <;> rfl
@[simp] theorem State.sendReq_rgn (s : State) (w : Who) (r : Req) (d p : Nat) : (s.sendReq w r d p).rgn = s.rgn := by
  unfold State.sendReq; split <;> rfl
@[simp] theorem State.sendReq_hbm (s : State) (w : Who) (r : Req) (d p : Nat) : (s.sendReq w r d p).hbm = s.hbm := by
  unfold State.sendReq; split <;> rfl
@[simp] theorem State.sendReq_prot (s : State) (w : Who) (r : Req) (d p : Nat) : (s.sendReq w r d p).prot = s.prot := by
  unfold State.sendReq; split <;> rfl
@[simp] theorem State.sendReq_ecc (s : State) (w : Who) (r : Req) (d p : Nat) : (s.sendReq w r d p).ecc = s.ecc := by
  unfold State.sendReq; split <;> rfl
@[simp] theorem State.sendReq_lanes (s : State) (w : Who) (r : Req) (d p : Nat) : (s.sendReq w r d p).lanes = s.lanes := by
  unfold State.sendReq; split <;> rfl
@[simp] theorem State.sendReq_tmr (s : State) (w : Who) (r : Req) (d p : Nat) : (s.sendReq w r d p).tmr = s.tmr := by
  unfold State.sendReq; split <;> rfl
@[simp] theorem State.sendReq_clk (s : State) (w : Who) (r : Req) (d p : Nat) : (s.sendReq w r d p).clk = s.clk := by
  unfold State.sendReq; split <;> rfl
@[simp] theorem State.sendReq_hosts (s : State) (w : Who) (r : Req) (d p : Nat) : (s.sendReq w r d p).hosts = s.hosts := by
  unfold State.sendReq; split <;> rfl
@[simp] theorem State.sendReq_sett (s : State) (w : Who) (r : Req) (d p : Nat) : (s.sendReq w r d p).sett = s.sett := by
  unfold State.sendReq; split <;> rfl
@[simp] theorem State.sendReq_dbg (s : State) (w : Who) (r : Req) (d p : Nat) : (s.sendReq w r d p).dbg = s.dbg := by
  unfold State.sendReq; split <;> rfl
@[simp] theorem State.sendReq_elec (s : State) (w : Who) (r : Req) (d p : Nat) : (s.sendReq w r d p).elec = s.elec := by
  unfold State.sendReq; split <;> rfl
@[simp] theorem State.sendReq_regs (s : State) (w : Who) (r : Req) (d p : Nat) : (s.sendReq w r d p).regs = s.regs := by
  unfold State.sendReq; split <;> rfl
@[simp] theorem State.sendReq_free (s : State) (w : Who) (r : Req) (d p : Nat) : (s.sendReq w r d p).free = s.free := by
  unfold State.sendReq; split <;> rfl
@[simp] theorem State.sendReq_pending (s : State) (w : Who) (r : Req) (d p : Nat) : (s.sendReq w r d p).pending = s.pending := by
  unfold State.sendReq; split <;> rfl
@[simp] theorem State.sendReq_net_reqs (s : State) (w : Who) (r : Req) (d p : Nat) : (s.sendReq w r d p).net.reqs = s.net.reqs := by
  unfold State.sendReq; split <;> rfl
@[simp] theorem State.sendReq_net_resps (s : State) (w : Who) (r : Req) (d p : Nat) : (s.sendReq w r d p).net.resps = s.net.resps := by
  unfold State.sendReq; split <;> rfl
@[simp] theorem State.sendReq_net_routers (s : State) (w : Who) (r : Req) (d p : Nat) : (s.sendReq w r d p).net.routers = s.net.routers := by
  unfold State.sendReq; split <;> rfl
@[simp] theorem State.sendReq_net_nis (s : State) (w : Who) (r : Req) (d p : Nat) : (s.sendReq w r d p).net.nis = s.net.nis := by
  unfold State.sendReq; split <;> rfl
@[simp] theorem State.sendReq_net_routesOn (s : State) (w : Who) (r : Req) (d p : Nat) : (s.sendReq w r d p).net.routesOn = s.net.routesOn := by
  unfold State.sendReq; split <;> rfl
@[simp] theorem State.sendReq_net_pois (s : State) (w : Who) (r : Req) (d p : Nat) : (s.sendReq w r d p).net.pois = s.net.pois := by
  unfold State.sendReq; split <;> rfl
@[simp] theorem State.sendReq_net_avoid (s : State) (w : Who) (r : Req) (d p : Nat) : (s.sendReq w r d p).net.avoid = s.net.avoid := by
  unfold State.sendReq; split <;> rfl
@[simp] theorem State.sendReq_net_named (s : State) (w : Who) (r : Req) (d p : Nat) : (s.sendReq w r d p).net.named = s.net.named := by
  unfold State.sendReq; split <;> rfl
@[simp] theorem State.sendReq_net_routeOv (s : State) (w : Who) (r : Req) (d p : Nat) : (s.sendReq w r d p).net.routeOv = s.net.routeOv := by
  unfold State.sendReq; split <;> rfl

/-- With a tag free, the request goes out under the tag freed longest ago and its next generation (R184). -/
theorem State.sendReq_outs (s : State) (w : Who) (r : Req) (d p tag : Nat) (rest : List Nat) (h : s.tagsFree r.src r.sport = tag :: rest) :
    ∃ q : Req, (s.sendReq w r d p).net.outs = s.net.outs ++ [⟨q, w, false⟩] ∧ q.tag = tag ∧ q.gen = tget 0 s.net.gens ((r.src * 8 + r.sport) * 128 + tag) ∧
      q.dst = d ∧ q.dport = p ∧ q.op = r.op ∧ q.addr = r.addr ∧ q.size = r.size ∧ q.data = r.data := by
  unfold State.sendReq
  simp only [h]
  exact ⟨_, rfl, rfl, rfl, rfl, rfl, rfl, rfl, rfl, rfl⟩

/-- Issuing does one of four things: it answers ADDRESS_ERROR, it answers UNROUTABLE, it waits, or it sends (R165, R166, R171, R175, R178). -/
theorem State.issueTo_cases (s : State) (w : Who) (r : Req) (d p : Nat) :
    (reqShape r.op r.addr r.size = false ∧ s.issueTo w r d p = (s, some svcAddress)) ∨
    (reqShape r.op r.addr r.size = true ∧ s.routed r.src d = false ∧ s.issueTo w r d p = (s, some svcUnroutable)) ∨
    (reqShape r.op r.addr r.size = true ∧ s.routed r.src d = true ∧ s.hasTag r = false ∧ s.issueTo w r d p = (s, none)) ∨
    (reqShape r.op r.addr r.size = true ∧ s.routed r.src d = true ∧ s.hasTag r = true ∧ s.issueTo w r d p = (s.sendReq w r d p, some svcOK)) := by
  unfold State.issueTo
  cases reqShape r.op r.addr r.size
  · exact .inl ⟨rfl, rfl⟩
  cases h2 : s.routed r.src d
  · exact .inr (.inl ⟨rfl, rfl, rfl⟩)
  cases h3 : s.hasTag r
  · exact .inr (.inr (.inl ⟨rfl, rfl, rfl, rfl⟩))
  · exact .inr (.inr (.inr ⟨rfl, rfl, rfl, rfl⟩))

theorem State.issue_nowhere {s : State} {w : Who} {r : Req} (h : s.decodeDst (niOf r.src / 256) r.addr = none) : s.issue w r = (s, some svcAddress) := by
  simp [State.issue, h, svcAddress]

theorem State.issue_decoded {s : State} {w : Who} {r : Req} {d p : Nat} (h : s.decodeDst (niOf r.src / 256) r.addr = some (d, p)) :
    s.issue w r = s.issueTo w r d p := by
  simp [State.issue, h]

end Sys2Proof.Machine
end

