-- ==== Sys2Proof/Laws/Parts.lean ====
section
/-! SUPPORT. The updates of one entry of a table of State: what each leaves as it was, and what is read back. -/

namespace Sys2Proof.Machine

@[simp] theorem State.setBlk_pw (s : State) (t b : Nat) (m : BlkMem) : (s.setBlk t b m).pw = s.pw := (rfl)
@[simp] theorem State.setBlk_seams (s : State) (t b : Nat) (m : BlkMem) : (s.setBlk t b m).seams = s.seams := (rfl)
@[simp] theorem State.setBlk_ld (s : State) (t b : Nat) (m : BlkMem) : (s.setBlk t b m).ld = s.ld := (rfl)
@[simp] theorem State.setBlk_net (s : State) (t b : Nat) (m : BlkMem) : (s.setBlk t b m).net = s.net := (rfl)
@[simp] theorem State.setBlk_evs (s : State) (t b : Nat) (m : BlkMem) : (s.setBlk t b m).evs = s.evs := (rfl)
@[simp] theorem State.setBlk_pqs (s : State) (t b : Nat) (m : BlkMem) : (s.setBlk t b m).pqs = s.pqs := (rfl)
@[simp] theorem State.setBlk_eng (s : State) (t b : Nat) (m : BlkMem) : (s.setBlk t b m).eng = s.eng := (rfl)
@[simp] theorem State.setBlk_dma (s : State) (t b : Nat) (m : BlkMem) : (s.setBlk t b m).dma = s.dma := (rfl)
@[simp] theorem State.setBlk_rgn (s : State) (t b : Nat) (m : BlkMem) : (s.setBlk t b m).rgn = s.rgn := (rfl)
@[simp] theorem State.setBlk_hbm (s : State) (t b : Nat) (m : BlkMem) : (s.setBlk t b m).hbm = s.hbm := (rfl)
@[simp] theorem State.setBlk_prot (s : State) (t b : Nat) (m : BlkMem) : (s.setBlk t b m).prot = s.prot := (rfl)
@[simp] theorem State.setBlk_ecc (s : State) (t b : Nat) (m : BlkMem) : (s.setBlk t b m).ecc = s.ecc := (rfl)
@[simp] theorem State.setBlk_lanes (s : State) (t b : Nat) (m : BlkMem) : (s.setBlk t b m).lanes = s.lanes := (rfl)
@[simp] theorem State.setBlk_tmr (s : State) (t b : Nat) (m : BlkMem) : (s.setBlk t b m).tmr = s.tmr := (rfl)
@[simp] theorem State.setBlk_clk (s : State) (t b : Nat) (m : BlkMem) : (s.setBlk t b m).clk = s.clk := (rfl)
@[simp] theorem State.setBlk_hosts (s : State) (t b : Nat) (m : BlkMem) : (s.setBlk t b m).hosts = s.hosts := (rfl)
@[simp] theorem State.setBlk_sett (s : State) (t b : Nat) (m : BlkMem) : (s.setBlk t b m).sett = s.sett := (rfl)
@[simp] theorem State.setBlk_dbg (s : State) (t b : Nat) (m : BlkMem) : (s.setBlk t b m).dbg = s.dbg := (rfl)
@[simp] theorem State.setBlk_elec (s : State) (t b : Nat) (m : BlkMem) : (s.setBlk t b m).elec = s.elec := (rfl)
@[simp] theorem State.setBlk_regs (s : State) (t b : Nat) (m : BlkMem) : (s.setBlk t b m).regs = s.regs := (rfl)
@[simp] theorem State.setBlk_free (s : State) (t b : Nat) (m : BlkMem) : (s.setBlk t b m).free = s.free := (rfl)
@[simp] theorem State.setBlk_pending (s : State) (t b : Nat) (m : BlkMem) : (s.setBlk t b m).pending = s.pending := (rfl)
@[simp] theorem State.setBlk_fab_cfg (s : State) (t b : Nat) (m : BlkMem) : (s.setBlk t b m).fab.cfg = s.fab.cfg := (rfl)
@[simp] theorem State.setBlk_fab_ffs (s : State) (t b : Nat) (m : BlkMem) : (s.setBlk t b m).fab.ffs = s.fab.ffs := (rfl)
@[simp] theorem State.setBlk_fab_seamFfs (s : State) (t b : Nat) (m : BlkMem) : (s.setBlk t b m).fab.seamFfs = s.fab.seamFfs := (rfl)
@[simp] theorem State.setBlk_fab_muls (s : State) (t b : Nat) (m : BlkMem) : (s.setBlk t b m).fab.muls = s.fab.muls := (rfl)
@[simp] theorem State.setBlk_fab_xings (s : State) (t b : Nat) (m : BlkMem) : (s.setBlk t b m).fab.xings = s.fab.xings := (rfl)
@[simp] theorem State.setBlk_fab_stopped (s : State) (t b : Nat) (m : BlkMem) : (s.setBlk t b m).fab.stopped = s.fab.stopped := (rfl)
@[simp] theorem State.setBlk_fab_seamCfg (s : State) (t b : Nat) (m : BlkMem) : (s.setBlk t b m).fab.seamCfg = s.fab.seamCfg := (rfl)
@[simp] theorem State.setBlk_fab_seamClk (s : State) (t b : Nat) (m : BlkMem) : (s.setBlk t b m).fab.seamClk = s.fab.seamClk := (rfl)
@[simp] theorem State.setBlk_fab_xcfg (s : State) (t b : Nat) (m : BlkMem) : (s.setBlk t b m).fab.xcfg = s.fab.xcfg := (rfl)
@[simp] theorem State.setBlk_fab_io (s : State) (t b : Nat) (m : BlkMem) : (s.setBlk t b m).fab.io = s.fab.io := (rfl)
@[simp] theorem State.setBlk_fab_before (s : State) (t b : Nat) (m : BlkMem) : (s.setBlk t b m).fab.before = s.fab.before := (rfl)

@[simp] theorem State.setXing_pw (s : State) (k : Nat) (x : Crossing) : (s.setXing k x).pw = s.pw := (rfl)
@[simp] theorem State.setXing_seams (s : State) (k : Nat) (x : Crossing) : (s.setXing k x).seams = s.seams := (rfl)
@[simp] theorem State.setXing_ld (s : State) (k : Nat) (x : Crossing) : (s.setXing k x).ld = s.ld := (rfl)
@[simp] theorem State.setXing_net (s : State) (k : Nat) (x : Crossing) : (s.setXing k x).net = s.net := (rfl)
@[simp] theorem State.setXing_evs (s : State) (k : Nat) (x : Crossing) : (s.setXing k x).evs = s.evs := (rfl)
@[simp] theorem State.setXing_pqs (s : State) (k : Nat) (x : Crossing) : (s.setXing k x).pqs = s.pqs := (rfl)
@[simp] theorem State.setXing_eng (s : State) (k : Nat) (x : Crossing) : (s.setXing k x).eng = s.eng := (rfl)
@[simp] theorem State.setXing_dma (s : State) (k : Nat) (x : Crossing) : (s.setXing k x).dma = s.dma := (rfl)
@[simp] theorem State.setXing_rgn (s : State) (k : Nat) (x : Crossing) : (s.setXing k x).rgn = s.rgn := (rfl)
@[simp] theorem State.setXing_hbm (s : State) (k : Nat) (x : Crossing) : (s.setXing k x).hbm = s.hbm := (rfl)
@[simp] theorem State.setXing_prot (s : State) (k : Nat) (x : Crossing) : (s.setXing k x).prot = s.prot := (rfl)
@[simp] theorem State.setXing_ecc (s : State) (k : Nat) (x : Crossing) : (s.setXing k x).ecc = s.ecc := (rfl)
@[simp] theorem State.setXing_lanes (s : State) (k : Nat) (x : Crossing) : (s.setXing k x).lanes = s.lanes := (rfl)
@[simp] theorem State.setXing_tmr (s : State) (k : Nat) (x : Crossing) : (s.setXing k x).tmr = s.tmr := (rfl)
@[simp] theorem State.setXing_clk (s : State) (k : Nat) (x : Crossing) : (s.setXing k x).clk = s.clk := (rfl)
@[simp] theorem State.setXing_hosts (s : State) (k : Nat) (x : Crossing) : (s.setXing k x).hosts = s.hosts := (rfl)
@[simp] theorem State.setXing_sett (s : State) (k : Nat) (x : Crossing) : (s.setXing k x).sett = s.sett := (rfl)
@[simp] theorem State.setXing_dbg (s : State) (k : Nat) (x : Crossing) : (s.setXing k x).dbg = s.dbg := (rfl)
@[simp] theorem State.setXing_elec (s : State) (k : Nat) (x : Crossing) : (s.setXing k x).elec = s.elec := (rfl)
@[simp] theorem State.setXing_regs (s : State) (k : Nat) (x : Crossing) : (s.setXing k x).regs = s.regs := (rfl)
@[simp] theorem State.setXing_free (s : State) (k : Nat) (x : Crossing) : (s.setXing k x).free = s.free := (rfl)
@[simp] theorem State.setXing_pending (s : State) (k : Nat) (x : Crossing) : (s.setXing k x).pending = s.pending := (rfl)
@[simp] theorem State.setXing_fab_cfg (s : State) (k : Nat) (x : Crossing) : (s.setXing k x).fab.cfg = s.fab.cfg := (rfl)
@[simp] theorem State.setXing_fab_ffs (s : State) (k : Nat) (x : Crossing) : (s.setXing k x).fab.ffs = s.fab.ffs := (rfl)
@[simp] theorem State.setXing_fab_seamFfs (s : State) (k : Nat) (x : Crossing) : (s.setXing k x).fab.seamFfs = s.fab.seamFfs := (rfl)
@[simp] theorem State.setXing_fab_muls (s : State) (k : Nat) (x : Crossing) : (s.setXing k x).fab.muls = s.fab.muls := (rfl)
@[simp] theorem State.setXing_fab_blks (s : State) (k : Nat) (x : Crossing) : (s.setXing k x).fab.blks = s.fab.blks := (rfl)
@[simp] theorem State.setXing_fab_stopped (s : State) (k : Nat) (x : Crossing) : (s.setXing k x).fab.stopped = s.fab.stopped := (rfl)
@[simp] theorem State.setXing_fab_seamCfg (s : State) (k : Nat) (x : Crossing) : (s.setXing k x).fab.seamCfg = s.fab.seamCfg := (rfl)
@[simp] theorem State.setXing_fab_seamClk (s : State) (k : Nat) (x : Crossing) : (s.setXing k x).fab.seamClk = s.fab.seamClk := (rfl)
@[simp] theorem State.setXing_fab_xcfg (s : State) (k : Nat) (x : Crossing) : (s.setXing k x).fab.xcfg = s.fab.xcfg := (rfl)
@[simp] theorem State.setXing_fab_io (s : State) (k : Nat) (x : Crossing) : (s.setXing k x).fab.io = s.fab.io := (rfl)
@[simp] theorem State.setXing_fab_before (s : State) (k : Nat) (x : Crossing) : (s.setXing k x).fab.before = s.fab.before := (rfl)

@[simp] theorem State.setHreqs_pw (s : State) (st : Nat) (l : List HReq) : (s.setHreqs st l).pw = s.pw := (rfl)
@[simp] theorem State.setHreqs_seams (s : State) (st : Nat) (l : List HReq) : (s.setHreqs st l).seams = s.seams := (rfl)
@[simp] theorem State.setHreqs_ld (s : State) (st : Nat) (l : List HReq) : (s.setHreqs st l).ld = s.ld := (rfl)
@[simp] theorem State.setHreqs_fab (s : State) (st : Nat) (l : List HReq) : (s.setHreqs st l).fab = s.fab := (rfl)
@[simp] theorem State.setHreqs_net (s : State) (st : Nat) (l : List HReq) : (s.setHreqs st l).net = s.net := (rfl)
@[simp] theorem State.setHreqs_evs (s : State) (st : Nat) (l : List HReq) : (s.setHreqs st l).evs = s.evs := (rfl)
@[simp] theorem State.setHreqs_pqs (s : State) (st : Nat) (l : List HReq) : (s.setHreqs st l).pqs = s.pqs := (rfl)
@[simp] theorem State.setHreqs_eng (s : State) (st : Nat) (l : List HReq) : (s.setHreqs st l).eng = s.eng := (rfl)
@[simp] theorem State.setHreqs_dma (s : State) (st : Nat) (l : List HReq) : (s.setHreqs st l).dma = s.dma := (rfl)
@[simp] theorem State.setHreqs_rgn (s : State) (st : Nat) (l : List HReq) : (s.setHreqs st l).rgn = s.rgn := (rfl)
@[simp] theorem State.setHreqs_prot (s : State) (st : Nat) (l : List HReq) : (s.setHreqs st l).prot = s.prot := (rfl)
@[simp] theorem State.setHreqs_ecc (s : State) (st : Nat) (l : List HReq) : (s.setHreqs st l).ecc = s.ecc := (rfl)
@[simp] theorem State.setHreqs_lanes (s : State) (st : Nat) (l : List HReq) : (s.setHreqs st l).lanes = s.lanes := (rfl)
@[simp] theorem State.setHreqs_tmr (s : State) (st : Nat) (l : List HReq) : (s.setHreqs st l).tmr = s.tmr := (rfl)
@[simp] theorem State.setHreqs_clk (s : State) (st : Nat) (l : List HReq) : (s.setHreqs st l).clk = s.clk := (rfl)
@[simp] theorem State.setHreqs_hosts (s : State) (st : Nat) (l : List HReq) : (s.setHreqs st l).hosts = s.hosts := (rfl)
@[simp] theorem State.setHreqs_sett (s : State) (st : Nat) (l : List HReq) : (s.setHreqs st l).sett = s.sett := (rfl)
@[simp] theorem State.setHreqs_dbg (s : State) (st : Nat) (l : List HReq) : (s.setHreqs st l).dbg = s.dbg := (rfl)
@[simp] theorem State.setHreqs_elec (s : State) (st : Nat) (l : List HReq) : (s.setHreqs st l).elec = s.elec := (rfl)
@[simp] theorem State.setHreqs_regs (s : State) (st : Nat) (l : List HReq) : (s.setHreqs st l).regs = s.regs := (rfl)
@[simp] theorem State.setHreqs_free (s : State) (st : Nat) (l : List HReq) : (s.setHreqs st l).free = s.free := (rfl)
@[simp] theorem State.setHreqs_pending (s : State) (st : Nat) (l : List HReq) : (s.setHreqs st l).pending = s.pending := (rfl)
@[simp] theorem State.setHreqs_hbm_mem (s : State) (st : Nat) (l : List HReq) : (s.setHreqs st l).hbm.mem = s.hbm.mem := (rfl)
@[simp] theorem State.setHreqs_hbm_nextId (s : State) (st : Nat) (l : List HReq) : (s.setHreqs st l).hbm.nextId = s.hbm.nextId := (rfl)
@[simp] theorem State.setHreqs_hbm_rows (s : State) (st : Nat) (l : List HReq) : (s.setHreqs st l).hbm.rows = s.hbm.rows := (rfl)
@[simp] theorem State.setHreqs_hbm_wmode (s : State) (st : Nat) (l : List HReq) : (s.setHreqs st l).hbm.wmode = s.hbm.wmode := (rfl)
@[simp] theorem State.setHreqs_hbm_post (s : State) (st : Nat) (l : List HReq) : (s.setHreqs st l).hbm.post = s.hbm.post := (rfl)
@[simp] theorem State.setHreqs_hbm_rot (s : State) (st : Nat) (l : List HReq) : (s.setHreqs st l).hbm.rot = s.hbm.rot := (rfl)
@[simp] theorem State.setHreqs_hbm_bad (s : State) (st : Nat) (l : List HReq) : (s.setHreqs st l).hbm.bad = s.hbm.bad := (rfl)
@[simp] theorem State.setHreqs_hbm_mixed (s : State) (st : Nat) (l : List HReq) : (s.setHreqs st l).hbm.mixed = s.hbm.mixed := (rfl)
@[simp] theorem State.setHreqs_hbm_change (s : State) (st : Nat) (l : List HReq) : (s.setHreqs st l).hbm.change = s.hbm.change := (rfl)
@[simp] theorem State.setHreqs_hbm_bandDue (s : State) (st : Nat) (l : List HReq) : (s.setHreqs st l).hbm.bandDue = s.hbm.bandDue := (rfl)
@[simp] theorem State.setHreqs_hbm_reinit (s : State) (st : Nat) (l : List HReq) : (s.setHreqs st l).hbm.reinit = s.hbm.reinit := (rfl)
@[simp] theorem State.setHreqs_hbm_lines (s : State) (st : Nat) (l : List HReq) : (s.setHreqs st l).hbm.lines = s.hbm.lines := (rfl)
@[simp] theorem State.setHreqs_hbm_fills (s : State) (st : Nat) (l : List HReq) : (s.setHreqs st l).hbm.fills = s.hbm.fills := (rfl)
@[simp] theorem State.setHreqs_hbm_waits (s : State) (st : Nat) (l : List HReq) : (s.setHreqs st l).hbm.waits = s.hbm.waits := (rfl)
@[simp] theorem State.setHreqs_hbm_fwds (s : State) (st : Nat) (l : List HReq) : (s.setHreqs st l).hbm.fwds = s.hbm.fwds := (rfl)
@[simp] theorem State.setHreqs_hbm_stamp (s : State) (st : Nat) (l : List HReq) : (s.setHreqs st l).hbm.stamp = s.hbm.stamp := (rfl)
@[simp] theorem State.setHreqs_hbm_nbr (s : State) (st : Nat) (l : List HReq) : (s.setHreqs st l).hbm.nbr = s.hbm.nbr := (rfl)

@[simp] theorem State.setHchange_pw (s : State) (st : Nat) (c : Option HChange) : (s.setHchange st c).pw = s.pw := (rfl)
@[simp] theorem State.setHchange_seams (s : State) (st : Nat) (c : Option HChange) : (s.setHchange st c).seams = s.seams := (rfl)
@[simp] theorem State.setHchange_ld (s : State) (st : Nat) (c : Option HChange) : (s.setHchange st c).ld = s.ld := (rfl)
@[simp] theorem State.setHchange_fab (s : State) (st : Nat) (c : Option HChange) : (s.setHchange st c).fab = s.fab := (rfl)
@[simp] theorem State.setHchange_net (s : State) (st : Nat) (c : Option HChange) : (s.setHchange st c).net = s.net := (rfl)
@[simp] theorem State.setHchange_evs (s : State) (st : Nat) (c : Option HChange) : (s.setHchange st c).evs = s.evs := (rfl)
@[simp] theorem State.setHchange_pqs (s : State) (st : Nat) (c : Option HChange) : (s.setHchange st c).pqs = s.pqs := (rfl)
@[simp] theorem State.setHchange_eng (s : State) (st : Nat) (c : Option HChange) : (s.setHchange st c).eng = s.eng := (rfl)
@[simp] theorem State.setHchange_dma (s : State) (st : Nat) (c : Option HChange) : (s.setHchange st c).dma = s.dma := (rfl)
@[simp] theorem State.setHchange_rgn (s : State) (st : Nat) (c : Option HChange) : (s.setHchange st c).rgn = s.rgn := (rfl)
@[simp] theorem State.setHchange_prot (s : State) (st : Nat) (c : Option HChange) : (s.setHchange st c).prot = s.prot := (rfl)
@[simp] theorem State.setHchange_ecc (s : State) (st : Nat) (c : Option HChange) : (s.setHchange st c).ecc = s.ecc := (rfl)
@[simp] theorem State.setHchange_lanes (s : State) (st : Nat) (c : Option HChange) : (s.setHchange st c).lanes = s.lanes := (rfl)
@[simp] theorem State.setHchange_tmr (s : State) (st : Nat) (c : Option HChange) : (s.setHchange st c).tmr = s.tmr := (rfl)
@[simp] theorem State.setHchange_clk (s : State) (st : Nat) (c : Option HChange) : (s.setHchange st c).clk = s.clk := (rfl)
@[simp] theorem State.setHchange_hosts (s : State) (st : Nat) (c : Option HChange) : (s.setHchange st c).hosts = s.hosts := (rfl)
@[simp] theorem State.setHchange_sett (s : State) (st : Nat) (c : Option HChange) : (s.setHchange st c).sett = s.sett := (rfl)
@[simp] theorem State.setHchange_dbg (s : State) (st : Nat) (c : Option HChange) : (s.setHchange st c).dbg = s.dbg := (rfl)
@[simp] theorem State.setHchange_elec (s : State) (st : Nat) (c : Option HChange) : (s.setHchange st c).elec = s.elec := (rfl)
@[simp] theorem State.setHchange_regs (s : State) (st : Nat) (c : Option HChange) : (s.setHchange st c).regs = s.regs := (rfl)
@[simp] theorem State.setHchange_free (s : State) (st : Nat) (c : Option HChange) : (s.setHchange st c).free = s.free := (rfl)
@[simp] theorem State.setHchange_pending (s : State) (st : Nat) (c : Option HChange) : (s.setHchange st c).pending = s.pending := (rfl)
@[simp] theorem State.setHchange_hbm_mem (s : State) (st : Nat) (c : Option HChange) : (s.setHchange st c).hbm.mem = s.hbm.mem := (rfl)
@[simp] theorem State.setHchange_hbm_reqs (s : State) (st : Nat) (c : Option HChange) : (s.setHchange st c).hbm.reqs = s.hbm.reqs := (rfl)
@[simp] theorem State.setHchange_hbm_nextId (s : State) (st : Nat) (c : Option HChange) : (s.setHchange st c).hbm.nextId = s.hbm.nextId := (rfl)
@[simp] theorem State.setHchange_hbm_rows (s : State) (st : Nat) (c : Option HChange) : (s.setHchange st c).hbm.rows = s.hbm.rows := (rfl)
@[simp] theorem State.setHchange_hbm_wmode (s : State) (st : Nat) (c : Option HChange) : (s.setHchange st c).hbm.wmode = s.hbm.wmode := (rfl)
@[simp] theorem State.setHchange_hbm_post (s : State) (st : Nat) (c : Option HChange) : (s.setHchange st c).hbm.post = s.hbm.post := (rfl)
@[simp] theorem State.setHchange_hbm_rot (s : State) (st : Nat) (c : Option HChange) : (s.setHchange st c).hbm.rot = s.hbm.rot := (rfl)
@[simp] theorem State.setHchange_hbm_bad (s : State) (st : Nat) (c : Option HChange) : (s.setHchange st c).hbm.bad = s.hbm.bad := (rfl)
@[simp] theorem State.setHchange_hbm_mixed (s : State) (st : Nat) (c : Option HChange) : (s.setHchange st c).hbm.mixed = s.hbm.mixed := (rfl)
@[simp] theorem State.setHchange_hbm_bandDue (s : State) (st : Nat) (c : Option HChange) : (s.setHchange st c).hbm.bandDue = s.hbm.bandDue := (rfl)
@[simp] theorem State.setHchange_hbm_reinit (s : State) (st : Nat) (c : Option HChange) : (s.setHchange st c).hbm.reinit = s.hbm.reinit := (rfl)
@[simp] theorem State.setHchange_hbm_lines (s : State) (st : Nat) (c : Option HChange) : (s.setHchange st c).hbm.lines = s.hbm.lines := (rfl)
@[simp] theorem State.setHchange_hbm_fills (s : State) (st : Nat) (c : Option HChange) : (s.setHchange st c).hbm.fills = s.hbm.fills := (rfl)
@[simp] theorem State.setHchange_hbm_waits (s : State) (st : Nat) (c : Option HChange) : (s.setHchange st c).hbm.waits = s.hbm.waits := (rfl)
@[simp] theorem State.setHchange_hbm_fwds (s : State) (st : Nat) (c : Option HChange) : (s.setHchange st c).hbm.fwds = s.hbm.fwds := (rfl)
@[simp] theorem State.setHchange_hbm_stamp (s : State) (st : Nat) (c : Option HChange) : (s.setHchange st c).hbm.stamp = s.hbm.stamp := (rfl)
@[simp] theorem State.setHchange_hbm_nbr (s : State) (st : Nat) (c : Option HChange) : (s.setHchange st c).hbm.nbr = s.hbm.nbr := (rfl)

@[simp] theorem State.setRline_pw (s : State) (d line : Nat) (v : Option RLine) : (s.setRline d line v).pw = s.pw := (rfl)
@[simp] theorem State.setRline_seams (s : State) (d line : Nat) (v : Option RLine) : (s.setRline d line v).seams = s.seams := (rfl)
@[simp] theorem State.setRline_ld (s : State) (d line : Nat) (v : Option RLine) : (s.setRline d line v).ld = s.ld := (rfl)
@[simp] theorem State.setRline_fab (s : State) (d line : Nat) (v : Option RLine) : (s.setRline d line v).fab = s.fab := (rfl)
@[simp] theorem State.setRline_net (s : State) (d line : Nat) (v : Option RLine) : (s.setRline d line v).net = s.net := (rfl)
@[simp] theorem State.setRline_evs (s : State) (d line : Nat) (v : Option RLine) : (s.setRline d line v).evs = s.evs := (rfl)
@[simp] theorem State.setRline_pqs (s : State) (d line : Nat) (v : Option RLine) : (s.setRline d line v).pqs = s.pqs := (rfl)
@[simp] theorem State.setRline_eng (s : State) (d line : Nat) (v : Option RLine) : (s.setRline d line v).eng = s.eng := (rfl)
@[simp] theorem State.setRline_dma (s : State) (d line : Nat) (v : Option RLine) : (s.setRline d line v).dma = s.dma := (rfl)
@[simp] theorem State.setRline_rgn (s : State) (d line : Nat) (v : Option RLine) : (s.setRline d line v).rgn = s.rgn := (rfl)
@[simp] theorem State.setRline_prot (s : State) (d line : Nat) (v : Option RLine) : (s.setRline d line v).prot = s.prot := (rfl)
@[simp] theorem State.setRline_ecc (s : State) (d line : Nat) (v : Option RLine) : (s.setRline d line v).ecc = s.ecc := (rfl)
@[simp] theorem State.setRline_lanes (s : State) (d line : Nat) (v : Option RLine) : (s.setRline d line v).lanes = s.lanes := (rfl)
@[simp] theorem State.setRline_tmr (s : State) (d line : Nat) (v : Option RLine) : (s.setRline d line v).tmr = s.tmr := (rfl)
@[simp] theorem State.setRline_clk (s : State) (d line : Nat) (v : Option RLine) : (s.setRline d line v).clk = s.clk := (rfl)
@[simp] theorem State.setRline_hosts (s : State) (d line : Nat) (v : Option RLine) : (s.setRline d line v).hosts = s.hosts := (rfl)
@[simp] theorem State.setRline_sett (s : State) (d line : Nat) (v : Option RLine) : (s.setRline d line v).sett = s.sett := (rfl)
@[simp] theorem State.setRline_dbg (s : State) (d line : Nat) (v : Option RLine) : (s.setRline d line v).dbg = s.dbg := (rfl)
@[simp] theorem State.setRline_elec (s : State) (d line : Nat) (v : Option RLine) : (s.setRline d line v).elec = s.elec := (rfl)
@[simp] theorem State.setRline_regs (s : State) (d line : Nat) (v : Option RLine) : (s.setRline d line v).regs = s.regs := (rfl)
@[simp] theorem State.setRline_free (s : State) (d line : Nat) (v : Option RLine) : (s.setRline d line v).free = s.free := (rfl)
@[simp] theorem State.setRline_pending (s : State) (d line : Nat) (v : Option RLine) : (s.setRline d line v).pending = s.pending := (rfl)
@[simp] theorem State.setRline_hbm_mem (s : State) (d line : Nat) (v : Option RLine) : (s.setRline d line v).hbm.mem = s.hbm.mem := (rfl)
@[simp] theorem State.setRline_hbm_reqs (s : State) (d line : Nat) (v : Option RLine) : (s.setRline d line v).hbm.reqs = s.hbm.reqs := (rfl)
@[simp] theorem State.setRline_hbm_nextId (s : State) (d line : Nat) (v : Option RLine) : (s.setRline d line v).hbm.nextId = s.hbm.nextId := (rfl)
@[simp] theorem State.setRline_hbm_rows (s : State) (d line : Nat) (v : Option RLine) : (s.setRline d line v).hbm.rows = s.hbm.rows := (rfl)
@[simp] theorem State.setRline_hbm_wmode (s : State) (d line : Nat) (v : Option RLine) : (s.setRline d line v).hbm.wmode = s.hbm.wmode := (rfl)
@[simp] theorem State.setRline_hbm_post (s : State) (d line : Nat) (v : Option RLine) : (s.setRline d line v).hbm.post = s.hbm.post := (rfl)
@[simp] theorem State.setRline_hbm_rot (s : State) (d line : Nat) (v : Option RLine) : (s.setRline d line v).hbm.rot = s.hbm.rot := (rfl)
@[simp] theorem State.setRline_hbm_bad (s : State) (d line : Nat) (v : Option RLine) : (s.setRline d line v).hbm.bad = s.hbm.bad := (rfl)
@[simp] theorem State.setRline_hbm_mixed (s : State) (d line : Nat) (v : Option RLine) : (s.setRline d line v).hbm.mixed = s.hbm.mixed := (rfl)
@[simp] theorem State.setRline_hbm_change (s : State) (d line : Nat) (v : Option RLine) : (s.setRline d line v).hbm.change = s.hbm.change := (rfl)
@[simp] theorem State.setRline_hbm_bandDue (s : State) (d line : Nat) (v : Option RLine) : (s.setRline d line v).hbm.bandDue = s.hbm.bandDue := (rfl)
@[simp] theorem State.setRline_hbm_reinit (s : State) (d line : Nat) (v : Option RLine) : (s.setRline d line v).hbm.reinit = s.hbm.reinit := (rfl)
@[simp] theorem State.setRline_hbm_fills (s : State) (d line : Nat) (v : Option RLine) : (s.setRline d line v).hbm.fills = s.hbm.fills := (rfl)
@[simp] theorem State.setRline_hbm_waits (s : State) (d line : Nat) (v : Option RLine) : (s.setRline d line v).hbm.waits = s.hbm.waits := (rfl)
@[simp] theorem State.setRline_hbm_fwds (s : State) (d line : Nat) (v : Option RLine) : (s.setRline d line v).hbm.fwds = s.hbm.fwds := (rfl)
@[simp] theorem State.setRline_hbm_stamp (s : State) (d line : Nat) (v : Option RLine) : (s.setRline d line v).hbm.stamp = s.hbm.stamp := (rfl)
@[simp] theorem State.setRline_hbm_nbr (s : State) (d line : Nat) (v : Option RLine) : (s.setRline d line v).hbm.nbr = s.hbm.nbr := (rfl)

@[simp] theorem State.setFeed_pw (s : State) (t : Nat) (f : Feed) : (s.setFeed t f).pw = s.pw := (rfl)
@[simp] theorem State.setFeed_seams (s : State) (t : Nat) (f : Feed) : (s.setFeed t f).seams = s.seams := (rfl)
@[simp] theorem State.setFeed_ld (s : State) (t : Nat) (f : Feed) : (s.setFeed t f).ld = s.ld := (rfl)
@[simp] theorem State.setFeed_fab (s : State) (t : Nat) (f : Feed) : (s.setFeed t f).fab = s.fab := (rfl)
@[simp] theorem State.setFeed_net (s : State) (t : Nat) (f : Feed) : (s.setFeed t f).net = s.net := (rfl)
@[simp] theorem State.setFeed_evs (s : State) (t : Nat) (f : Feed) : (s.setFeed t f).evs = s.evs := (rfl)
@[simp] theorem State.setFeed_pqs (s : State) (t : Nat) (f : Feed) : (s.setFeed t f).pqs = s.pqs := (rfl)
@[simp] theorem State.setFeed_eng (s : State) (t : Nat) (f : Feed) : (s.setFeed t f).eng = s.eng := (rfl)
@[simp] theorem State.setFeed_dma (s : State) (t : Nat) (f : Feed) : (s.setFeed t f).dma = s.dma := (rfl)
@[simp] theorem State.setFeed_rgn (s : State) (t : Nat) (f : Feed) : (s.setFeed t f).rgn = s.rgn := (rfl)
@[simp] theorem State.setFeed_hbm (s : State) (t : Nat) (f : Feed) : (s.setFeed t f).hbm = s.hbm := (rfl)
@[simp] theorem State.setFeed_prot (s : State) (t : Nat) (f : Feed) : (s.setFeed t f).prot = s.prot := (rfl)
@[simp] theorem State.setFeed_ecc (s : State) (t : Nat) (f : Feed) : (s.setFeed t f).ecc = s.ecc := (rfl)
@[simp] theorem State.setFeed_lanes (s : State) (t : Nat) (f : Feed) : (s.setFeed t f).lanes = s.lanes := (rfl)
@[simp] theorem State.setFeed_tmr (s : State) (t : Nat) (f : Feed) : (s.setFeed t f).tmr = s.tmr := (rfl)
@[simp] theorem State.setFeed_clk (s : State) (t : Nat) (f : Feed) : (s.setFeed t f).clk = s.clk := (rfl)
@[simp] theorem State.setFeed_hosts (s : State) (t : Nat) (f : Feed) : (s.setFeed t f).hosts = s.hosts := (rfl)
@[simp] theorem State.setFeed_sett (s : State) (t : Nat) (f : Feed) : (s.setFeed t f).sett = s.sett := (rfl)
@[simp] theorem State.setFeed_elec (s : State) (t : Nat) (f : Feed) : (s.setFeed t f).elec = s.elec := (rfl)
@[simp] theorem State.setFeed_regs (s : State) (t : Nat) (f : Feed) : (s.setFeed t f).regs = s.regs := (rfl)
@[simp] theorem State.setFeed_free (s : State) (t : Nat) (f : Feed) : (s.setFeed t f).free = s.free := (rfl)
@[simp] theorem State.setFeed_pending (s : State) (t : Nat) (f : Feed) : (s.setFeed t f).pending = s.pending := (rfl)
@[simp] theorem State.setFeed_dbg_paths (s : State) (t : Nat) (f : Feed) : (s.setFeed t f).dbg.paths = s.dbg.paths := (rfl)
@[simp] theorem State.setFeed_dbg_ebrk (s : State) (t : Nat) (f : Feed) : (s.setFeed t f).dbg.ebrk = s.dbg.ebrk := (rfl)
@[simp] theorem State.setFeed_dbg_pu (s : State) (t : Nat) (f : Feed) : (s.setFeed t f).dbg.pu = s.dbg.pu := (rfl)
@[simp] theorem State.setFeed_dbg_ir (s : State) (t : Nat) (f : Feed) : (s.setFeed t f).dbg.ir = s.dbg.ir := (rfl)
@[simp] theorem State.setFeed_dbg_boundary (s : State) (t : Nat) (f : Feed) : (s.setFeed t f).dbg.boundary = s.dbg.boundary := (rfl)
@[simp] theorem State.setFeed_dbg_drive (s : State) (t : Nat) (f : Feed) : (s.setFeed t f).dbg.drive = s.dbg.drive := (rfl)
@[simp] theorem State.setFeed_dbg_accBusy (s : State) (t : Nat) (f : Feed) : (s.setFeed t f).dbg.accBusy = s.dbg.accBusy := (rfl)
@[simp] theorem State.setFeed_dbg_accPeek (s : State) (t : Nat) (f : Feed) : (s.setFeed t f).dbg.accPeek = s.dbg.accPeek := (rfl)
@[simp] theorem State.setFeed_dbg_accSvc (s : State) (t : Nat) (f : Feed) : (s.setFeed t f).dbg.accSvc = s.dbg.accSvc := (rfl)
@[simp] theorem State.setFeed_dbg_accAddr (s : State) (t : Nat) (f : Feed) : (s.setFeed t f).dbg.accAddr = s.dbg.accAddr := (rfl)
@[simp] theorem State.setFeed_dbg_accData (s : State) (t : Nat) (f : Feed) : (s.setFeed t f).dbg.accData = s.dbg.accData := (rfl)
@[simp] theorem State.setFeed_dbg_haltReq (s : State) (t : Nat) (f : Feed) : (s.setFeed t f).dbg.haltReq = s.dbg.haltReq := (rfl)
@[simp] theorem State.setFeed_dbg_refFed (s : State) (t : Nat) (f : Feed) : (s.setFeed t f).dbg.refFed = s.dbg.refFed := (rfl)

@[simp] theorem State.setBundle_pw (s : State) (k : Nat) (b : Bundle) : (s.setBundle k b).pw = s.pw := (rfl)
@[simp] theorem State.setBundle_ld (s : State) (k : Nat) (b : Bundle) : (s.setBundle k b).ld = s.ld := (rfl)
@[simp] theorem State.setBundle_fab (s : State) (k : Nat) (b : Bundle) : (s.setBundle k b).fab = s.fab := (rfl)
@[simp] theorem State.setBundle_net (s : State) (k : Nat) (b : Bundle) : (s.setBundle k b).net = s.net := (rfl)
@[simp] theorem State.setBundle_evs (s : State) (k : Nat) (b : Bundle) : (s.setBundle k b).evs = s.evs := (rfl)
@[simp] theorem State.setBundle_pqs (s : State) (k : Nat) (b : Bundle) : (s.setBundle k b).pqs = s.pqs := (rfl)
@[simp] theorem State.setBundle_eng (s : State) (k : Nat) (b : Bundle) : (s.setBundle k b).eng = s.eng := (rfl)
@[simp] theorem State.setBundle_dma (s : State) (k : Nat) (b : Bundle) : (s.setBundle k b).dma = s.dma := (rfl)
@[simp] theorem State.setBundle_rgn (s : State) (k : Nat) (b : Bundle) : (s.setBundle k b).rgn = s.rgn := (rfl)
@[simp] theorem State.setBundle_hbm (s : State) (k : Nat) (b : Bundle) : (s.setBundle k b).hbm = s.hbm := (rfl)
@[simp] theorem State.setBundle_prot (s : State) (k : Nat) (b : Bundle) : (s.setBundle k b).prot = s.prot := (rfl)
@[simp] theorem State.setBundle_ecc (s : State) (k : Nat) (b : Bundle) : (s.setBundle k b).ecc = s.ecc := (rfl)
@[simp] theorem State.setBundle_lanes (s : State) (k : Nat) (b : Bundle) : (s.setBundle k b).lanes = s.lanes := (rfl)
@[simp] theorem State.setBundle_tmr (s : State) (k : Nat) (b : Bundle) : (s.setBundle k b).tmr = s.tmr := (rfl)
@[simp] theorem State.setBundle_clk (s : State) (k : Nat) (b : Bundle) : (s.setBundle k b).clk = s.clk := (rfl)
@[simp] theorem State.setBundle_hosts (s : State) (k : Nat) (b : Bundle) : (s.setBundle k b).hosts = s.hosts := (rfl)
@[simp] theorem State.setBundle_sett (s : State) (k : Nat) (b : Bundle) : (s.setBundle k b).sett = s.sett := (rfl)
@[simp] theorem State.setBundle_dbg (s : State) (k : Nat) (b : Bundle) : (s.setBundle k b).dbg = s.dbg := (rfl)
@[simp] theorem State.setBundle_elec (s : State) (k : Nat) (b : Bundle) : (s.setBundle k b).elec = s.elec := (rfl)
@[simp] theorem State.setBundle_regs (s : State) (k : Nat) (b : Bundle) : (s.setBundle k b).regs = s.regs := (rfl)
@[simp] theorem State.setBundle_free (s : State) (k : Nat) (b : Bundle) : (s.setBundle k b).free = s.free := (rfl)
@[simp] theorem State.setBundle_pending (s : State) (k : Nat) (b : Bundle) : (s.setBundle k b).pending = s.pending := (rfl)
@[simp] theorem State.setBundle_seams_captains (s : State) (k : Nat) (b : Bundle) : (s.setBundle k b).seams.captains = s.seams.captains := (rfl)
@[simp] theorem State.setBundle_seams_roll (s : State) (k : Nat) (b : Bundle) : (s.setBundle k b).seams.roll = s.seams.roll := (rfl)
@[simp] theorem State.setBundle_seams_relay1 (s : State) (k : Nat) (b : Bundle) : (s.setBundle k b).seams.relay1 = s.seams.relay1 := (rfl)
@[simp] theorem State.setBundle_seams_relay2 (s : State) (k : Nat) (b : Bundle) : (s.setBundle k b).seams.relay2 = s.seams.relay2 := (rfl)
@[simp] theorem State.setBundle_seams_rollDone (s : State) (k : Nat) (b : Bundle) : (s.setBundle k b).seams.rollDone = s.seams.rollDone := (rfl)
@[simp] theorem State.setBundle_seams_assembly (s : State) (k : Nat) (b : Bundle) : (s.setBundle k b).seams.assembly = s.seams.assembly := (rfl)
@[simp] theorem State.setBundle_seams_field (s : State) (k : Nat) (b : Bundle) : (s.setBundle k b).seams.field = s.seams.field := (rfl)
@[simp] theorem State.setBundle_seams_declared (s : State) (k : Nat) (b : Bundle) : (s.setBundle k b).seams.declared = s.seams.declared := (rfl)
@[simp] theorem State.setBundle_seams_slack (s : State) (k : Nat) (b : Bundle) : (s.setBundle k b).seams.slack = s.seams.slack := (rfl)
@[simp] theorem State.setBundle_seams_test (s : State) (k : Nat) (b : Bundle) : (s.setBundle k b).seams.test = s.seams.test := (rfl)
@[simp] theorem State.setBundle_seams_resets (s : State) (k : Nat) (b : Bundle) : (s.setBundle k b).seams.resets = s.seams.resets := (rfl)
@[simp] theorem State.setBundle_seams_slackUse (s : State) (k : Nat) (b : Bundle) : (s.setBundle k b).seams.slackUse = s.seams.slackUse := (rfl)
@[simp] theorem State.setBundle_seams_named (s : State) (k : Nat) (b : Bundle) : (s.setBundle k b).seams.named = s.seams.named := (rfl)
@[simp] theorem State.setBundle_seams_mgmt (s : State) (k : Nat) (b : Bundle) : (s.setBundle k b).seams.mgmt = s.seams.mgmt := (rfl)
@[simp] theorem State.setBundle_seams_config (s : State) (k : Nat) (b : Bundle) : (s.setBundle k b).seams.config = s.seams.config := (rfl)
@[simp] theorem State.setBundle_seams_units (s : State) (k : Nat) (b : Bundle) : (s.setBundle k b).seams.units = s.seams.units := (rfl)

@[simp] theorem State.setRoll_pw (s : State) (d : Nat) (r : RollDie) : (s.setRoll d r).pw = s.pw := (rfl)
@[simp] theorem State.setRoll_ld (s : State) (d : Nat) (r : RollDie) : (s.setRoll d r).ld = s.ld := (rfl)
@[simp] theorem State.setRoll_fab (s : State) (d : Nat) (r : RollDie) : (s.setRoll d r).fab = s.fab := (rfl)
@[simp] theorem State.setRoll_net (s : State) (d : Nat) (r : RollDie) : (s.setRoll d r).net = s.net := (rfl)
@[simp] theorem State.setRoll_evs (s : State) (d : Nat) (r : RollDie) : (s.setRoll d r).evs = s.evs := (rfl)
@[simp] theorem State.setRoll_pqs (s : State) (d : Nat) (r : RollDie) : (s.setRoll d r).pqs = s.pqs := (rfl)
@[simp] theorem State.setRoll_eng (s : State) (d : Nat) (r : RollDie) : (s.setRoll d r).eng = s.eng := (rfl)
@[simp] theorem State.setRoll_dma (s : State) (d : Nat) (r : RollDie) : (s.setRoll d r).dma = s.dma := (rfl)
@[simp] theorem State.setRoll_rgn (s : State) (d : Nat) (r : RollDie) : (s.setRoll d r).rgn = s.rgn := (rfl)
@[simp] theorem State.setRoll_hbm (s : State) (d : Nat) (r : RollDie) : (s.setRoll d r).hbm = s.hbm := (rfl)
@[simp] theorem State.setRoll_prot (s : State) (d : Nat) (r : RollDie) : (s.setRoll d r).prot = s.prot := (rfl)
@[simp] theorem State.setRoll_ecc (s : State) (d : Nat) (r : RollDie) : (s.setRoll d r).ecc = s.ecc := (rfl)
@[simp] theorem State.setRoll_lanes (s : State) (d : Nat) (r : RollDie) : (s.setRoll d r).lanes = s.lanes := (rfl)
@[simp] theorem State.setRoll_tmr (s : State) (d : Nat) (r : RollDie) : (s.setRoll d r).tmr = s.tmr := (rfl)
@[simp] theorem State.setRoll_clk (s : State) (d : Nat) (r : RollDie) : (s.setRoll d r).clk = s.clk := (rfl)
@[simp] theorem State.setRoll_hosts (s : State) (d : Nat) (r : RollDie) : (s.setRoll d r).hosts = s.hosts := (rfl)
@[simp] theorem State.setRoll_sett (s : State) (d : Nat) (r : RollDie) : (s.setRoll d r).sett = s.sett := (rfl)
@[simp] theorem State.setRoll_dbg (s : State) (d : Nat) (r : RollDie) : (s.setRoll d r).dbg = s.dbg := (rfl)
@[simp] theorem State.setRoll_elec (s : State) (d : Nat) (r : RollDie) : (s.setRoll d r).elec = s.elec := (rfl)
@[simp] theorem State.setRoll_regs (s : State) (d : Nat) (r : RollDie) : (s.setRoll d r).regs = s.regs := (rfl)
@[simp] theorem State.setRoll_free (s : State) (d : Nat) (r : RollDie) : (s.setRoll d r).free = s.free := (rfl)
@[simp] theorem State.setRoll_pending (s : State) (d : Nat) (r : RollDie) : (s.setRoll d r).pending = s.pending := (rfl)
@[simp] theorem State.setRoll_seams_captains (s : State) (d : Nat) (r : RollDie) : (s.setRoll d r).seams.captains = s.seams.captains := (rfl)
@[simp] theorem State.setRoll_seams_relay1 (s : State) (d : Nat) (r : RollDie) : (s.setRoll d r).seams.relay1 = s.seams.relay1 := (rfl)
@[simp] theorem State.setRoll_seams_relay2 (s : State) (d : Nat) (r : RollDie) : (s.setRoll d r).seams.relay2 = s.seams.relay2 := (rfl)
@[simp] theorem State.setRoll_seams_rollDone (s : State) (d : Nat) (r : RollDie) : (s.setRoll d r).seams.rollDone = s.seams.rollDone := (rfl)
@[simp] theorem State.setRoll_seams_bundles (s : State) (d : Nat) (r : RollDie) : (s.setRoll d r).seams.bundles = s.seams.bundles := (rfl)
@[simp] theorem State.setRoll_seams_assembly (s : State) (d : Nat) (r : RollDie) : (s.setRoll d r).seams.assembly = s.seams.assembly := (rfl)
@[simp] theorem State.setRoll_seams_field (s : State) (d : Nat) (r : RollDie) : (s.setRoll d r).seams.field = s.seams.field := (rfl)
@[simp] theorem State.setRoll_seams_declared (s : State) (d : Nat) (r : RollDie) : (s.setRoll d r).seams.declared = s.seams.declared := (rfl)
@[simp] theorem State.setRoll_seams_slack (s : State) (d : Nat) (r : RollDie) : (s.setRoll d r).seams.slack = s.seams.slack := (rfl)
@[simp] theorem State.setRoll_seams_test (s : State) (d : Nat) (r : RollDie) : (s.setRoll d r).seams.test = s.seams.test := (rfl)
@[simp] theorem State.setRoll_seams_resets (s : State) (d : Nat) (r : RollDie) : (s.setRoll d r).seams.resets = s.seams.resets := (rfl)
@[simp] theorem State.setRoll_seams_slackUse (s : State) (d : Nat) (r : RollDie) : (s.setRoll d r).seams.slackUse = s.seams.slackUse := (rfl)
@[simp] theorem State.setRoll_seams_named (s : State) (d : Nat) (r : RollDie) : (s.setRoll d r).seams.named = s.seams.named := (rfl)
@[simp] theorem State.setRoll_seams_mgmt (s : State) (d : Nat) (r : RollDie) : (s.setRoll d r).seams.mgmt = s.seams.mgmt := (rfl)
@[simp] theorem State.setRoll_seams_config (s : State) (d : Nat) (r : RollDie) : (s.setRoll d r).seams.config = s.seams.config := (rfl)
@[simp] theorem State.setRoll_seams_units (s : State) (d : Nat) (r : RollDie) : (s.setRoll d r).seams.units = s.seams.units := (rfl)

@[simp] theorem State.setRouter_pw (s : State) (t : Nat) (r : Router) : (s.setRouter t r).pw = s.pw := (rfl)
@[simp] theorem State.setRouter_seams (s : State) (t : Nat) (r : Router) : (s.setRouter t r).seams = s.seams := (rfl)
@[simp] theorem State.setRouter_ld (s : State) (t : Nat) (r : Router) : (s.setRouter t r).ld = s.ld := (rfl)
@[simp] theorem State.setRouter_fab (s : State) (t : Nat) (r : Router) : (s.setRouter t r).fab = s.fab := (rfl)
@[simp] theorem State.setRouter_evs (s : State) (t : Nat) (r : Router) : (s.setRouter t r).evs = s.evs := (rfl)
@[simp] theorem State.setRouter_pqs (s : State) (t : Nat) (r : Router) : (s.setRouter t r).pqs = s.pqs := (rfl)
@[simp] theorem State.setRouter_eng (s : State) (t : Nat) (r : Router) : (s.setRouter t r).eng = s.eng := (rfl)
@[simp] theorem State.setRouter_dma (s : State) (t : Nat) (r : Router) : (s.setRouter t r).dma = s.dma := (rfl)
@[simp] theorem State.setRouter_rgn (s : State) (t : Nat) (r : Router) : (s.setRouter t r).rgn = s.rgn := (rfl)
@[simp] theorem State.setRouter_hbm (s : State) (t : Nat) (r : Router) : (s.setRouter t r).hbm = s.hbm := (rfl)
@[simp] theorem State.setRouter_prot (s : State) (t : Nat) (r : Router) : (s.setRouter t r).prot = s.prot := (rfl)
@[simp] theorem State.setRouter_ecc (s : State) (t : Nat) (r : Router) : (s.setRouter t r).ecc = s.ecc := (rfl)
@[simp] theorem State.setRouter_lanes (s : State) (t : Nat) (r : Router) : (s.setRouter t r).lanes = s.lanes := (rfl)
@[simp] theorem State.setRouter_tmr (s : State) (t : Nat) (r : Router) : (s.setRouter t r).tmr = s.tmr := (rfl)
@[simp] theorem State.setRouter_clk (s : State) (t : Nat) (r : Router) : (s.setRouter t r).clk = s.clk := (rfl)
@[simp] theorem State.setRouter_hosts (s : State) (t : Nat) (r : Router) : (s.setRouter t r).hosts = s.hosts := (rfl)
@[simp] theorem State.setRouter_sett (s : State) (t : Nat) (r : Router) : (s.setRouter t r).sett = s.sett := (rfl)
@[simp] theorem State.setRouter_dbg (s : State) (t : Nat) (r : Router) : (s.setRouter t r).dbg = s.dbg := (rfl)
@[simp] theorem State.setRouter_elec (s : State) (t : Nat) (r : Router) : (s.setRouter t r).elec = s.elec := (rfl)
@[simp] theorem State.setRouter_regs (s : State) (t : Nat) (r : Router) : (s.setRouter t r).regs = s.regs := (rfl)
@[simp] theorem State.setRouter_free (s : State) (t : Nat) (r : Router) : (s.setRouter t r).free = s.free := (rfl)
@[simp] theorem State.setRouter_pending (s : State) (t : Nat) (r : Router) : (s.setRouter t r).pending = s.pending := (rfl)
@[simp] theorem State.setRouter_net_inject (s : State) (t : Nat) (r : Router) : (s.setRouter t r).net.inject = s.net.inject := (rfl)
@[simp] theorem State.setRouter_net_reqs (s : State) (t : Nat) (r : Router) : (s.setRouter t r).net.reqs = s.net.reqs := (rfl)
@[simp] theorem State.setRouter_net_resps (s : State) (t : Nat) (r : Router) : (s.setRouter t r).net.resps = s.net.resps := (rfl)
@[simp] theorem State.setRouter_net_outs (s : State) (t : Nat) (r : Router) : (s.setRouter t r).net.outs = s.net.outs := (rfl)
@[simp] theorem State.setRouter_net_gens (s : State) (t : Nat) (r : Router) : (s.setRouter t r).net.gens = s.net.gens := (rfl)
@[simp] theorem State.setRouter_net_freeTags (s : State) (t : Nat) (r : Router) : (s.setRouter t r).net.freeTags = s.net.freeTags := (rfl)
@[simp] theorem State.setRouter_net_nis (s : State) (t : Nat) (r : Router) : (s.setRouter t r).net.nis = s.net.nis := (rfl)
@[simp] theorem State.setRouter_net_routesOn (s : State) (t : Nat) (r : Router) : (s.setRouter t r).net.routesOn = s.net.routesOn := (rfl)
@[simp] theorem State.setRouter_net_pois (s : State) (t : Nat) (r : Router) : (s.setRouter t r).net.pois = s.net.pois := (rfl)
@[simp] theorem State.setRouter_net_avoid (s : State) (t : Nat) (r : Router) : (s.setRouter t r).net.avoid = s.net.avoid := (rfl)
@[simp] theorem State.setRouter_net_named (s : State) (t : Nat) (r : Router) : (s.setRouter t r).net.named = s.net.named := (rfl)
@[simp] theorem State.setRouter_net_routeOv (s : State) (t : Nat) (r : Router) : (s.setRouter t r).net.routeOv = s.net.routeOv := (rfl)
@[simp] theorem State.setRouter_net_closed (s : State) (t : Nat) (r : Router) : (s.setRouter t r).net.closed = s.net.closed := (rfl)

@[simp] theorem State.setLib_pw (s : State) (e : Nat) (x : LibEntry) : (s.setLib e x).pw = s.pw := (rfl)
@[simp] theorem State.setLib_seams (s : State) (e : Nat) (x : LibEntry) : (s.setLib e x).seams = s.seams := (rfl)
@[simp] theorem State.setLib_fab (s : State) (e : Nat) (x : LibEntry) : (s.setLib e x).fab = s.fab := (rfl)
@[simp] theorem State.setLib_net (s : State) (e : Nat) (x : LibEntry) : (s.setLib e x).net = s.net := (rfl)
@[simp] theorem State.setLib_evs (s : State) (e : Nat) (x : LibEntry) : (s.setLib e x).evs = s.evs := (rfl)
@[simp] theorem State.setLib_pqs (s : State) (e : Nat) (x : LibEntry) : (s.setLib e x).pqs = s.pqs := (rfl)
@[simp] theorem State.setLib_eng (s : State) (e : Nat) (x : LibEntry) : (s.setLib e x).eng = s.eng := (rfl)
@[simp] theorem State.setLib_dma (s : State) (e : Nat) (x : LibEntry) : (s.setLib e x).dma = s.dma := (rfl)
@[simp] theorem State.setLib_rgn (s : State) (e : Nat) (x : LibEntry) : (s.setLib e x).rgn = s.rgn := (rfl)
@[simp] theorem State.setLib_hbm (s : State) (e : Nat) (x : LibEntry) : (s.setLib e x).hbm = s.hbm := (rfl)
@[simp] theorem State.setLib_prot (s : State) (e : Nat) (x : LibEntry) : (s.setLib e x).prot = s.prot := (rfl)
@[simp] theorem State.setLib_ecc (s : State) (e : Nat) (x : LibEntry) : (s.setLib e x).ecc = s.ecc := (rfl)
@[simp] theorem State.setLib_lanes (s : State) (e : Nat) (x : LibEntry) : (s.setLib e x).lanes = s.lanes := (rfl)
@[simp] theorem State.setLib_tmr (s : State) (e : Nat) (x : LibEntry) : (s.setLib e x).tmr = s.tmr := (rfl)
@[simp] theorem State.setLib_clk (s : State) (e : Nat) (x : LibEntry) : (s.setLib e x).clk = s.clk := (rfl)
@[simp] theorem State.setLib_hosts (s : State) (e : Nat) (x : LibEntry) : (s.setLib e x).hosts = s.hosts := (rfl)
@[simp] theorem State.setLib_sett (s : State) (e : Nat) (x : LibEntry) : (s.setLib e x).sett = s.sett := (rfl)
@[simp] theorem State.setLib_dbg (s : State) (e : Nat) (x : LibEntry) : (s.setLib e x).dbg = s.dbg := (rfl)
@[simp] theorem State.setLib_elec (s : State) (e : Nat) (x : LibEntry) : (s.setLib e x).elec = s.elec := (rfl)
@[simp] theorem State.setLib_regs (s : State) (e : Nat) (x : LibEntry) : (s.setLib e x).regs = s.regs := (rfl)
@[simp] theorem State.setLib_free (s : State) (e : Nat) (x : LibEntry) : (s.setLib e x).free = s.free := (rfl)
@[simp] theorem State.setLib_pending (s : State) (e : Nat) (x : LibEntry) : (s.setLib e x).pending = s.pending := (rfl)
@[simp] theorem State.setLib_ld_store (s : State) (e : Nat) (x : LibEntry) : (s.setLib e x).ld.store = s.ld.store := (rfl)
@[simp] theorem State.setLib_ld_slotA (s : State) (e : Nat) (x : LibEntry) : (s.setLib e x).ld.slotA = s.ld.slotA := (rfl)
@[simp] theorem State.setLib_ld_slotB (s : State) (e : Nat) (x : LibEntry) : (s.setLib e x).ld.slotB = s.ld.slotB := (rfl)
@[simp] theorem State.setLib_ld_golden (s : State) (e : Nat) (x : LibEntry) : (s.setLib e x).ld.golden = s.ld.golden := (rfl)
@[simp] theorem State.setLib_ld_ptrP (s : State) (e : Nat) (x : LibEntry) : (s.setLib e x).ld.ptrP = s.ld.ptrP := (rfl)
@[simp] theorem State.setLib_ld_ptrQ (s : State) (e : Nat) (x : LibEntry) : (s.setLib e x).ld.ptrQ = s.ld.ptrQ := (rfl)
@[simp] theorem State.setLib_ld_slotWrite (s : State) (e : Nat) (x : LibEntry) : (s.setLib e x).ld.slotWrite = s.ld.slotWrite := (rfl)
@[simp] theorem State.setLib_ld_loading (s : State) (e : Nat) (x : LibEntry) : (s.setLib e x).ld.loading = s.ld.loading := (rfl)
@[simp] theorem State.setLib_ld_ctls (s : State) (e : Nat) (x : LibEntry) : (s.setLib e x).ld.ctls = s.ld.ctls := (rfl)
@[simp] theorem State.setLib_ld_fellBack (s : State) (e : Nat) (x : LibEntry) : (s.setLib e x).ld.fellBack = s.ld.fellBack := (rfl)
@[simp] theorem State.setLib_ld_imgSlack (s : State) (e : Nat) (x : LibEntry) : (s.setLib e x).ld.imgSlack = s.ld.imgSlack := (rfl)
@[simp] theorem State.setLib_ld_repLoaded (s : State) (e : Nat) (x : LibEntry) : (s.setLib e x).ld.repLoaded = s.ld.repLoaded := (rfl)
@[simp] theorem State.setLib_ld_repCause (s : State) (e : Nat) (x : LibEntry) : (s.setLib e x).ld.repCause = s.ld.repCause := (rfl)
@[simp] theorem State.setLib_ld_repDie (s : State) (e : Nat) (x : LibEntry) : (s.setLib e x).ld.repDie = s.ld.repDie := (rfl)
@[simp] theorem State.setLib_ld_repPrimary (s : State) (e : Nat) (x : LibEntry) : (s.setLib e x).ld.repPrimary = s.ld.repPrimary := (rfl)
@[simp] theorem State.setLib_ld_repGolden (s : State) (e : Nat) (x : LibEntry) : (s.setLib e x).ld.repGolden = s.ld.repGolden := (rfl)
@[simp] theorem State.setLib_ld_repAddr (s : State) (e : Nat) (x : LibEntry) : (s.setLib e x).ld.repAddr = s.ld.repAddr := (rfl)
@[simp] theorem State.setLib_ld_frames (s : State) (e : Nat) (x : LibEntry) : (s.setLib e x).ld.frames = s.ld.frames := (rfl)
@[simp] theorem State.setLib_ld_spares (s : State) (e : Nat) (x : LibEntry) : (s.setLib e x).ld.spares = s.ld.spares := (rfl)
@[simp] theorem State.setLib_ld_remap (s : State) (e : Nat) (x : LibEntry) : (s.setLib e x).ld.remap = s.ld.remap := (rfl)
@[simp] theorem State.setLib_ld_storeBad (s : State) (e : Nat) (x : LibEntry) : (s.setLib e x).ld.storeBad = s.ld.storeBad := (rfl)
@[simp] theorem State.setLib_ld_swapRecs (s : State) (e : Nat) (x : LibEntry) : (s.setLib e x).ld.swapRecs = s.ld.swapRecs := (rfl)

@[simp] theorem State.setNi_net_inject (s : State) (k : Nat) (q : Ni) : (s.setNi k q).net.inject = s.net.inject := (rfl)
@[simp] theorem State.setNi_net_pois (s : State) (k : Nat) (q : Ni) : (s.setNi k q).net.pois = s.net.pois := (rfl)
@[simp] theorem State.setNi_net_named (s : State) (k : Nat) (q : Ni) : (s.setNi k q).net.named = s.net.named := (rfl)
@[simp] theorem State.setNi_net_closed (s : State) (k : Nat) (q : Ni) : (s.setNi k q).net.closed = s.net.closed := (rfl)

/-! ### What is read back -/

theorem State.blk_setBlk_ne (s : State) (t b : Nat) (m : BlkMem) (h : m ≠ BlkMem.init) : (s.setBlk t b m).blk t b = m :=
  tget_tput_ne _ _ _ _ h
theorem State.blk_setBlk (s : State) (t b : Nat) (m : BlkMem) (w : Tbl.wf (fun _ => BlkMem.init) s.fab.blks = true) : (s.setBlk t b m).blk t b = m :=
  tget_tput_same (fun _ => BlkMem.init) _ _ _ w

theorem State.xing_setXing_ne (s : State) (k : Nat) (x : Crossing) (h : x ≠ Crossing.init) : (s.setXing k x).xing k = x :=
  tget_tput_ne _ _ _ _ h
theorem State.xing_setXing (s : State) (k : Nat) (x : Crossing) (w : Tbl.wf (fun _ => Crossing.init) s.fab.xings = true) : (s.setXing k x).xing k = x :=
  tget_tput_same (fun _ => Crossing.init) _ _ _ w

theorem State.hreqs_setHreqs_ne (s : State) (st : Nat) (l : List HReq) (h : l ≠ []) : (s.setHreqs st l).hreqs st = l :=
  tget_tput_ne _ _ _ _ h
theorem State.hreqs_setHreqs (s : State) (st : Nat) (l : List HReq) (w : Tbl.wf (fun _ => []) s.hbm.reqs = true) : (s.setHreqs st l).hreqs st = l :=
  tget_tput_same (fun _ => []) _ _ _ w

theorem State.hchange_setHchange_ne (s : State) (st : Nat) (c : Option HChange) (h : c ≠ none) : (s.setHchange st c).hchange st = c :=
  tget_tput_ne _ _ _ _ h
theorem State.hchange_setHchange (s : State) (st : Nat) (c : Option HChange) (w : Tbl.wf (fun _ => none) s.hbm.change = true) : (s.setHchange st c).hchange st = c :=
  tget_tput_same (fun _ => none) _ _ _ w

theorem State.rline_setRline_ne (s : State) (d line : Nat) (v : Option RLine) (h : v ≠ none) : (s.setRline d line v).rline d line = v :=
  tget_tput_ne _ _ _ _ h
theorem State.rline_setRline (s : State) (d line : Nat) (v : Option RLine) (w : Tbl.wf (fun _ => none) s.hbm.lines = true) : (s.setRline d line v).rline d line = v :=
  tget_tput_same (fun _ => none) _ _ _ w

theorem State.feed_setFeed_ne (s : State) (t : Nat) (f : Feed) (h : f ≠ Feed.init) : (s.setFeed t f).feed t = f :=
  tget_tput_ne _ _ _ _ h
theorem State.feed_setFeed (s : State) (t : Nat) (f : Feed) (w : Tbl.wf (fun _ => Feed.init) s.dbg.feeds = true) : (s.setFeed t f).feed t = f :=
  tget_tput_same (fun _ => Feed.init) _ _ _ w

theorem State.bundle_setBundle_ne (s : State) (k : Nat) (b : Bundle) (h : b ≠ Bundle.init) : (s.setBundle k b).bundle k = b :=
  tget_tput_ne _ _ _ _ h
theorem State.bundle_setBundle (s : State) (k : Nat) (b : Bundle) (w : Tbl.wf (fun _ => Bundle.init) s.seams.bundles = true) : (s.setBundle k b).bundle k = b :=
  tget_tput_same (fun _ => Bundle.init) _ _ _ w

theorem State.roll_setRoll_ne (s : State) (d : Nat) (r : RollDie) (h : r ≠ RollDie.init) : (s.setRoll d r).roll d = r :=
  tget_tput_ne _ _ _ _ h
theorem State.roll_setRoll (s : State) (d : Nat) (r : RollDie) (w : Tbl.wf (fun _ => RollDie.init) s.seams.roll = true) : (s.setRoll d r).roll d = r :=
  tget_tput_same (fun _ => RollDie.init) _ _ _ w

theorem State.router_setRouter_ne (s : State) (t : Nat) (r : Router) (h : r ≠ Router.init) : (s.setRouter t r).router t = r :=
  tget_tput_ne _ _ _ _ h
theorem State.router_setRouter (s : State) (t : Nat) (r : Router) (w : Tbl.wf (fun _ => Router.init) s.net.routers = true) : (s.setRouter t r).router t = r :=
  tget_tput_same (fun _ => Router.init) _ _ _ w

theorem State.pq_setPQ_ne (s : State) (k : Nat) (q : PQ) (h : q ≠ PQ.init) : (s.setPQ k q).pq k = q :=
  tget_tput_ne _ _ _ _ h
theorem State.pq_setPQ (s : State) (k : Nat) (q : PQ) (w : Tbl.wf (fun _ => PQ.init) s.pqs = true) : (s.setPQ k q).pq k = q :=
  tget_tput_same (fun _ => PQ.init) _ _ _ w

theorem State.engine_setEngine_ne (s : State) (t : Nat) (e : Engine) (h : e ≠ Engine.init) : (s.setEngine t e).engine t = e :=
  tget_tput_ne _ _ _ _ h
theorem State.engine_setEngine (s : State) (t : Nat) (e : Engine) (w : Tbl.wf (fun _ => Engine.init) s.eng = true) : (s.setEngine t e).engine t = e :=
  tget_tput_same (fun _ => Engine.init) _ _ _ w

theorem State.lane_setLane_ne (s : State) (l : Nat) (x : LaneSt) (h : x ≠ LaneSt.init) : (s.setLane l x).lane l = x :=
  tget_tput_ne _ _ _ _ h
theorem State.lane_setLane (s : State) (l : Nat) (x : LaneSt) (w : Tbl.wf (fun _ => LaneSt.init) s.lanes = true) : (s.setLane l x).lane l = x :=
  tget_tput_same (fun _ => LaneSt.init) _ _ _ w

theorem State.port_setPort_ne (s : State) (p : Nat) (x : HostPort) (h : x ≠ HostPort.init) : (s.setPort p x).port p = x :=
  tget_tput_ne _ _ _ _ h
theorem State.port_setPort (s : State) (p : Nat) (x : HostPort) (w : Tbl.wf (fun _ => HostPort.init) s.hosts.ports = true) : (s.setPort p x).port p = x :=
  tget_tput_same (fun _ => HostPort.init) _ _ _ w

theorem State.region_setRegion_ne (s : State) (r : Nat) (x : Region) (h : x ≠ Region.init) : (s.setRegion r x).region r = x :=
  tget_tput_ne _ _ _ _ h
theorem State.region_setRegion (s : State) (r : Nat) (x : Region) (w : Tbl.wf (fun _ => Region.init) s.rgn.rs = true) : (s.setRegion r x).region r = x :=
  tget_tput_same (fun _ => Region.init) _ _ _ w

theorem State.chan_setChan_ne (s : State) (c : Nat) (x : Channel) (h : x ≠ Channel.init) : (s.setChan c x).chan c = x :=
  tget_tput_ne _ _ _ _ h
theorem State.chan_setChan (s : State) (c : Nat) (x : Channel) (w : Tbl.wf (fun _ => Channel.init) s.dma.chans = true) : (s.setChan c x).chan c = x :=
  tget_tput_same (fun _ => Channel.init) _ _ _ w

theorem State.keeper_setKeeper_ne (s : State) (n : Nat) (x : Keeper) (h : x ≠ Keeper.init) : (s.setKeeper n x).keeper n = x :=
  tget_tput_ne _ _ _ _ h
theorem State.keeper_setKeeper (s : State) (n : Nat) (x : Keeper) (w : Tbl.wf (fun _ => Keeper.init) s.tmr.tks = true) : (s.setKeeper n x).keeper n = x :=
  tget_tput_same (fun _ => Keeper.init) _ _ _ w

theorem State.ni_setNi_ne (s : State) (t : Nat) (x : Ni) (h : x ≠ Ni.init) : (s.setNi t x).ni t = x :=
  tget_tput_ne _ _ _ _ h
theorem State.ni_setNi (s : State) (t : Nat) (x : Ni) (w : Tbl.wf (fun _ => Ni.init) s.net.nis = true) : (s.setNi t x).ni t = x :=
  tget_tput_same (fun _ => Ni.init) _ _ _ w

theorem State.pwin_setPwin_ne (s : State) (k : Nat) (x : PWin) (h : x ≠ PWin.init) : (s.setPwin k x).pwin k = x :=
  tget_tput_ne _ _ _ _ h
theorem State.pwin_setPwin (s : State) (k : Nat) (x : PWin) (w : Tbl.wf (fun _ => PWin.init) s.prot.wins = true) : (s.setPwin k x).pwin k = x :=
  tget_tput_same (fun _ => PWin.init) _ _ _ w

theorem State.dpath_setDpath_ne (s : State) (p : Nat) (x : DPath) (h : x ≠ DPath.init) : (s.setDpath p x).dpath p = x :=
  tget_tput_ne _ _ _ _ h
theorem State.dpath_setDpath (s : State) (p : Nat) (x : DPath) (w : Tbl.wf (fun _ => DPath.init) s.dbg.paths = true) : (s.setDpath p x).dpath p = x :=
  tget_tput_same (fun _ => DPath.init) _ _ _ w

/-! ### Clock domains (R25) -/

@[simp] theorem foreign_self (g : Nat) : foreign g g = false := by simp [foreign]
@[simp] theorem foreign_unclocked (g : Nat) : foreign 64 g = false := by simp [foreign]

/-- What a clock net takes from a flip-flop of its own net is the flip-flop's output. -/
theorem State.wireStep_own (s : State) (dom : Nat) (ext ev : Wire → Bool) (t c n : Nat) (h : n < 64) (q : 2 ≤ n % 4)
    (f : foreign dom (s.ffNet t (ffKey c (n / 4) (n % 2))) = false) :
    s.wireStep dom ext ev (.src t c n) = s.qOut t (ffKey c (n / 4) (n % 2)) (ext (.src t c n)) := by
  have h0 : n % 4 ≠ 0 := by omega
  have h1 : n % 4 ≠ 1 := by omega
  simp [State.wireStep, Nat.not_le.mpr h, h0, h1, f]

end Sys2Proof.Machine
end

