-- ==== Sys2Proof/Laws/Regs.lean ====
section
/-! SUPPORT. Register storage: what a write of one register does to the others, and the canonical form that it keeps. -/

namespace Sys2Proof.Machine

/-- A write of one register leaves a register at another address. -/
theorem State.reg_setReg_other (s : State) (r r' : Rg) (i j i' j' v : Nat) (w : s.regsWf = true) (h : r'.key i' j' ≠ r.key i j) :
    (s.setReg r i j v).reg r' i' j' = s.reg r' i' j' := by
  simp only [State.reg, State.setReg]
  rw [tget_tput_other rstAt _ _ _ _ _ _ h w]

/-- A register reads back as it was written, when its reset value is that of its address. -/
theorem State.reg_setReg_same (s : State) (r : Rg) (i j v : Nat) (w : s.regsWf = true) (e : rstAt (r.key i j) = BitVec.ofNat 32 (r.rst j)) :
    (s.setReg r i j v).reg r i j = v % 2 ^ 32 := by
  simp only [State.reg, State.setReg]
  rw [← e, tget_tput_same rstAt _ _ _ w, BitVec.toNat_ofNat]

/-- A register that is written with another value than its reset value reads back as it was written. -/
theorem State.reg_setReg_ne (s : State) (r : Rg) (i j v : Nat) (h : v % 2 ^ 32 ≠ r.rst j % 2 ^ 32) :
    (s.setReg r i j v).reg r i j = v % 2 ^ 32 := by
  simp only [State.reg, State.setReg]
  rw [tget_tput_ne, BitVec.toNat_ofNat]
  intro hq
  exact h (by simpa using congrArg BitVec.toNat hq)

/-- A register write keeps the canonical form. -/
theorem State.regsWf_setReg (s : State) (r : Rg) (i j v : Nat) (w : s.regsWf = true) (e : rstAt (r.key i j) = BitVec.ofNat 32 (r.rst j)) :
    (s.setReg r i j v).regsWf = true := by
  simp only [State.regsWf, State.setReg]
  rw [← e]
  exact Tbl.wf_tput rstAt _ _ _ w

/-- A field write leaves the fields of a register at another address. -/
theorem State.getF_setF_other (s : State) (f g : FRef) (i j i' j' v : Nat) (w : s.regsWf = true) (h : g.rg.key i' j' ≠ f.rg.key i j) :
    (s.setF f i j v).getF g i' j' = s.getF g i' j' := by
  simp only [State.getF, State.setF]
  rw [State.reg_setReg_other s f.rg g.rg i j i' j' _ w h]

end Sys2Proof.Machine
end

