-- ==== Sys2Proof/Tests/Slice0.lean ====
section
/-! SUPPORT. The model's own tests, and for each statement that has hypotheses a state and operands that meet them. Expected values come from the
manual's tables and from the standards that it names. -/

set_option Elab.async false

namespace Sys2Proof.Tests

open Sys2Proof Sys2Proof.Machine

/-! ### States for the tests -/

/-- The device in a mode, its start done. -/
def inMode (m : Mode) : State := { State.reset with
  pw := { Power.init with mode := m, step := 6, maltarOwns := true, loadDone := true, ffHold := false } }

/-- The device in BOOT at a step, Maltar running from step 2 on. -/
def inBoot (n : Nat) : State := { State.reset with pw := { Power.init with step := n, maltarOwns := decide (1 < n) } }

/-- A table that lists the numbers of a list from key 0 on. -/
def listed (l : List Byte) : Tbl Byte := (l.zipIdx.map (fun x => (x.2, x.1))).filter (fun x => x.2 ≠ 0#8)

/-- Mailbox 0 of the management port holds a command that has been rung (R456, R457). -/
def withCmd (s : State) (opcode : Nat) (pay : List Byte) : State :=
  s.setPort 4 { s.port 4 with rings := [0], mbs := [(0, { Mailbox.init with
    state := 1
    cmd := listed (leBytes 2 opcode ++ leBytes 2 pay.length ++ [7, 0, 0, 0, 0, 0, 0, 0, 0, 0, 0, 0] ++ pay) })] }

/-- The management port belongs to tenant 1. -/
def asT1 (s : State) : State := s.setF F.hpStatus_tenant 4 0 1

/-- The management port is authorized for FULL, device-wide (R489). -/
def asFull (s : State) : State := s.setF F.dbgStatus_level 4 0 2

/-- A request in flight. -/
def withReq (s : State) (r : Req) : State := { s with net.reqs := [r] }

/-- A register request of the Referee. -/
def regReq (op : NOp) (g : Rg) (i j v : Nat) : Req := mkReq op (g.key i j) 4 0 4 0 0 (if op = .write then leBytes 4 v else [])

/-- A response in flight to a request that its source awaits. -/
def withResp (s : State) (w : Who) (q : Req) (r : Resp) : State := { s with net.resps := [r], net.outs := [⟨q, w, false⟩] }

/-- The premises of a mailbox command that no relay brings (Safety.lean), as one test. -/
def readyB (s : State) (p m opcode : Nat) : Bool :=
  s.canTake p m opcode && !(s.mbox p m).relay && !s.portFull p opcode && (preCheck opcode (s.mbox p m).payload).isNone &&
  groupOk s.pw.mode s.pw.lockoutFrom opcode (s.mbox p m).payload && !s.outOfReach opcode (s.mbox p m).payload

theorem ready_of {s : State} {p m opcode : Nat} (h : readyB s p m opcode = true) : s.ready p m opcode := by
  simp only [readyB, Bool.and_eq_true, Bool.not_eq_true', Option.isNone_iff_eq_none] at h
  exact ⟨h.1.1.1.1.1, .inl h.1.1.1.1.2, h.1.1.1.2, h.1.1.2, h.1.2, h.2⟩

/-! ### The CRC of a transfer unit, one bit at a time -/

/-- One bit of the CRC-16 of R64. -/
def bit16 (c : Nat) (b : Bool) : Nat := let n := c * 2 % 65536; if bitAt c 15 != b then Nat.xor n 0x1021 else n

/-- The CRC over bits; each step is a number before the next one begins. -/
def crcRun : List Bool → Nat → Nat
  | [], c => c
  | b :: l, c => match bit16 c b with
    | 0 => crcRun l 0
    | n + 1 => crcRun l (n + 1)

theorem crcRun_eq (l : List Bool) (c : Nat) : crcRun l c = l.foldl bit16 c := by
  induction l generalizing c with
  | nil => rfl
  | cons b l ih => rw [crcRun, List.foldl_cons]; split <;> rename_i h <;> rw [ih, h]

/-- The check of a received unit, in that form. -/
def unitOk (u : Nat) : Bool := crcRun ((List.range 320).map (fun i => bitAt (u % 2 ^ 320) (319 - i))) 0xFFFF = bits u 335 320

theorem unitCrcOk_eq (u : Nat) : unitCrcOk u = unitOk u := by
  rw [unitCrcOk, crc16, unitOk, crcRun_eq]; rfl

/-- One copy with a good CRC is enough (R69). -/
theorem rollUnit_one {u : BitVec 336} (h : unitOk u.toNat = true) (ht : unitType u.toNat = 3) :
    rollUnit [u] = some (BitVec.ofNat 288 (unitPay u.toNat)) := by
  simp [rollUnit, firstCopy, unitCrcOk_eq, h, ht]

/-- A full load whose image lies in slot A: die 0's section of 1,024 bytes begins at byte 512 with a record header. -/
def loading (h : Nat) : State := { State.reset with
  pw := { Power.init with mode := .load, step := 4, maltarOwns := true }
  ld := { Load.init with
    loading := 1
    ctls := [(0, { LoadCtl.init with active := true, area := 2, srcLen := 0x1000, off := 512, len := 1024, frames := 3 })]
    store := (listed (leBytes 8 h)).map (fun x => (2 * 2 ^ 31 + 512 + x.1, x.2)) } }

/-- The same for region 5, whose fence takes in tile 7 alone. -/
def loadingRegion (h : Nat) : State :=
  let s := loading h
  { s with
    pw := { (inMode .run).pw with step := 6 }
    ld.ctls := [(24, s.ctl none 0)]
    rgn := ⟨[(5, { Region.init with tiles := [7] })], [(7, 6)], []⟩
    regs := (s.setF F.regionStatus_state 0 5 2).regs }

/-- RUN, with a design in tile 34 whose clock net 0 is global net 0 and runs from a locked synthesizer (R441, R442). -/
def clocked (c : TileCfg) : State :=
  State.setF (State.setReg (State.setF { inMode .run with fab.cfg := [(34, { c with clkNets := [0, 1] })] } F.gcCtl_enable 0 0 1) .leafGate 0 34 1)
    F.syStatus_lock 0 0 1

theorem leAt_leBytes (n v : Nat) : leNat (leBytes n v) = v % 256 ^ n := by
  induction n generalizing v with
  | zero => simp [leBytes, leNat, Nat.mod_one]
  | succ n ih =>
    have h : v % (256 * 256 ^ n) = v % 256 + 256 * (v / 256 % 256 ^ n) := Nat.mod_mul
    rw [leBytes, leNat, ih, BitVec.toNat_ofNat, Nat.pow_succ (n := 256), Nat.mul_comm (256 ^ n), h]

/-- A relay frame (R454): its kind, the hops so far, the sender and the device that it goes to. -/
def relayTo (kind hops src dev : Nat) : List Byte :=
  [3, BitVec.ofNat 8 kind, BitVec.ofNat 8 hops, 0] ++ leBytes 8 src ++ leBytes 8 dev ++ List.replicate 4 0 ++ List.replicate 16 0

theorem relayTo_dev (kind hops src dev : Nat) (h : dev < 2 ^ 64) : leAt (relayTo kind hops src dev) 12 8 = dev := by
  have h1 : slice 0#8 (relayTo kind hops src dev) 12 8 = leBytes 8 dev := rfl
  rw [leAt, h1, leAt_leBytes]
  exact Nat.mod_eq_of_lt h

theorem relayTo_src (kind hops src dev : Nat) (h : src < 2 ^ 64) : leAt (relayTo kind hops src dev) 4 8 = src := by
  have h1 : slice 0#8 (relayTo kind hops src dev) 4 8 = leBytes 8 src := rfl
  rw [leAt, h1, leAt_leBytes]
  exact Nat.mod_eq_of_lt h

/-- Another device than this one. -/
def otherId : Nat := (deviceId + 1) % 2 ^ 64

theorem deviceId_lt : deviceId < 2 ^ 64 := BitVec.isLt _

theorem otherId_lt : otherId < 2 ^ 64 := Nat.mod_lt _ (by decide)

theorem otherId_ne : otherId ≠ deviceId := by
  have h := deviceId_lt
  unfold otherId
  omega

theorem relayTo_other (kind hops : Nat) : leAt (relayTo kind hops 0 otherId) 12 8 ≠ deviceId := by
  rw [relayTo_dev _ _ _ _ otherId_lt]
  exact otherId_ne

/-! ### The manual's worked examples -/

theorem test_reset_queue : State.reset.pending = [] := rfl

/-- R31: tile 531 and the register at 0x7F00_0221_0040; R84: bundle 17, crossing 5 of S02, from die 0's Y port. -/
theorem test_register_addresses :
    Blk.tile.base 531 = 0x7F0102130000 ∧ regAt 0x7F0002210040 = some (.quadStatus, 33, 0) ∧ regAt 0x7F0000103544 = some (.fabricRepair, 0, 1361) := by
  decide +kernel

/-- R237, R239: the FIR instruction, and one word of each other group written from its layout. -/
theorem test_engine_words :
    decodeEngine 0x02C1D021 = some (.mul .mac false (.yp ⟨0, .inc⟩ true (some ⟨.store 0, ⟨false, 1, .inc⟩⟩))) ∧
    decodeEngine 0b0001_0010_1_0_011_0101_000000000000000 = some (.accd false true 3 5 none) ∧
    decodeEngine 0b0010_0111_111_001_1_0_1000000000000101 = some (.darith .sra 7 1 (.imm 0x8005)) ∧
    decodeEngine 0b0011_0011_001_1_110_11_101_1_00000000000 = some (.stu true ⟨true, 6, .idx 3⟩ true) ∧
    decodeEngine 0b0100_0000_001001_101110_000000000000 = some (.mov 9 0x2E) ∧
    decodeEngine 0b0101_0100_0000000011_11111111111111 = some (.repi 3 0x3FFF) ∧
    decodeEngine 0b0110_0011_11_0_000_000000000000000000 = some (.qabort 3) ∧
    decodeEngine 0b0111_0100_101_000_000000000000000000 = some (.ncas 5) := by
  decide +kernel

/-- R236, R237, R243: a reserved group, a pointer named twice, a modifier field that must be zero, BEX as a destination. -/
theorem test_engine_words_illegal :
    decodeEngine 0x80000000 = none ∧ decodeEngine 0b0000_0001_0_11_011_001_1_1_10_000_111_00_001 = none ∧
    decodeEngine 0b0011_0000_000_0_000_01_000_0_00000000000 = none ∧ decodeEngine 0b0100_0000_101000_000000_000000000000 = none := by
  decide +kernel

/-- The engine issues what its program holds at the program counter: an instruction of each group. -/
theorem test_engine_issues :
    ∀ op ∈ ([.mul .mpyr false (.dd 0 1 none), .acc .abs true false none, .darith .xor 7 1 (.reg 2), .ld 3 ⟨true, 7, .add 3⟩, .ldi 8 0xFFFF, .call 7
      0x3FFF,
      .wait 7 0x8000, .sig 255, .push 3, .nget 1 2, .nfadd] : List EOp),
    ({ inMode .run with eng := [(34, { Engine.init with run := .running, prog := EMem.init.put 0 (encodeEngine op) 0 })] }).issues 34 (encodeEngine
      op) false op := by
  unfold State.issues
  decide +kernel

/-- R223–R225: three products of 0.5 by 0.75 with FRAC; the third sum leaves 32 bits; ACAU then stores saturated; and the two roundings. -/
theorem test_accumulate :
    product true 0x4000 0x6000 = 0x30000000 ∧ (accResult false false 0x90000000 0).1 = 0x90000000 ∧
    bitAt (accResult false false 0x90000000 0).2.val 3 = true ∧ storeUpper true 0x90000000 = (0x7FFF, true) ∧
    (accResult true false 0x90000000 0).1 = 0x7FFFFFFF ∧
    (accRound false false 1 0x12348000 0).1 = 0x12350000 ∧ (accRound false false 2 0x12348000 0).1 = 0x12340000 := by
  decide +kernel

/-- R227, R228: the circular delay line, and the bit-reversed order of 8 points. -/
theorem test_pointers :
    stepPtr 0x021E 0x0200 32 3 = 0x0201 ∧ stepPtr 0x0200 0x0200 32 (-1) = 0x021F ∧ stepPtr 0x0100 0x0200 32 1 = 0x0201 ∧
    [0, 4, 2, 6, 1, 5, 3, 7].map (fun o => revStep (0x1000 + o) 0x1000 8 4 - 0x1000) = [4, 2, 6, 1, 5, 3, 7, 0] := by
  decide +kernel

/-- R274: the first burst of the copy, and its pieces. -/
theorem test_burst :
    (parseDesc (leBytes 8 0x28C000000000012C ++ leBytes 8 0x10005 ++ leBytes 8 0x20103 ++ leBytes 8 0)).nextBurst 0 = (0, 253) ∧
    pieces false 0x20103 253 = [(0x20103, 1), (0x20104, 4), (0x20108, 248)] ∧ pieces false 0x10005 251 = [(0x10005, 1), (0x10006, 2), (0x10008,
      248)] ∧
    pieces false 0x20200 47 = [(0x20200, 40), (0x20228, 4), (0x2022C, 2), (0x2022E, 1)] := by
  decide +kernel

/-- R307–R309: an HBM address in order 0, stack-contiguous. -/
theorem test_hbm_address :
    (State.setF State.reset F.hbmMap_interleave 0 0 0).hbmLocal 0x12123CEA80 = (3, 0x123CEA80) ∧
    (State.setF State.reset F.hbmMap_order 3 0 0).hbmLoc 3 0x123CEA80 = ⟨10, 1, 1, 2, 0x123, 28⟩ := by
  decide +kernel

/-- R175, R537: the route of tile 531 to endpoint 1077. -/
theorem test_route : maltarRoute (fun _ => false) [] 531 1077 = (0xC0020000, 0, 0x80000003) := by decide +kernel

/-- R370: the check byte of the word 1. -/
theorem test_check_byte : secEncode 64 7 1 = 0x83 := by decide +kernel

/-- R73, R74: the repair of bundle 17 with slack, and its failure without. -/
theorem test_repair :
    repairBundle [9, 22, 40, 41, 63] true = .ok (0x683, [(1, 9), (2, 22), (5, 41)]) ∧ repairBundle [9, 22, 40, 41, 63] false = .error 63 := by
  decide +kernel

/-- Revision 0 of the identification register (R508). -/
theorem test_idcode : idcodeOf 0 = 0x0126056B := by decide

/-- PRBS7 repeats after 127 bits and not before, and holds 64 ones (R405): x^7 + x^6 + 1 is primitive. -/
theorem test_prbs7 :
    (patRun 0 127 (List.replicate 7 true)).2 = List.replicate 7 true ∧ ((patRun 0 127 (List.replicate 7 true)).1.filter id).length = 64 ∧
    (List.range 127).all (fun n => n = 0 || (patRun 0 n (List.replicate 7 true)).2 ≠ List.replicate 7 true) = true := by
  decide +kernel

/-- The checker locks at the 64th correct bit in a row, after the 7 bits of its register, and counts a bit after it that is wrong (R405). -/
theorem test_checker :
    (Checker.run 0 0 ((patRun 0 70 (List.replicate 7 true)).1) Checker.init false 0).2 = (false, 0) ∧
    (Checker.run 0 0 ((patRun 0 71 (List.replicate 7 true)).1) Checker.init false 0).2 = (true, 0) ∧
    (Checker.run 0 0 ((patRun 0 89 (List.replicate 7 true)).1 ++ [true]) Checker.init false 0).2.2 +
      (Checker.run 0 0 ((patRun 0 89 (List.replicate 7 true)).1 ++ [false]) Checker.init false 0).2.2 = 1 := by
  decide +kernel

/-- R90: the CRC-32 of the nine digits, most significant bit first (the catalog's value for these parameters). R94: SHA-384 (FIPS 180-4) of "abc". -/
theorem test_codes :
    crc32 ((List.range 9).map (fun i => BitVec.ofNat 8 (49 + i))) = 0xFC891918 ∧ (sha384 [97, 98, 99]).take 8 = [0xCB, 0x00, 0x75, 0x3F, 0x45,
      0xA3, 0x5E, 0x8B] := by
  decide +kernel

/-! ### Ill-formed commands -/

/-- A request that breaks one range of its header each (R169–R171). -/
def badReqs : List Req :=
  let r := mkReq .read 0 8 0 4 0 0 []
  [{ r with addr := 2 ^ 48 }, { r with size := 0 }, { r with size := 257 }, { r with tenant := 8 }, { r with mclass := 6 }, { r with src := 1088 },
   { r with sport := 16 }, { r with path := 6 }, { r with dst := 1088 }, { r with data := [0] }]

theorem test_refuses_requests : (mkReq .read 0 8 0 4 0 0 []).wf = true ∧ ∀ r ∈ badReqs, wellFormed (.registerWrite r) = false := by decide +kernel

theorem test_refuses_commands :
    ∀ c ∈ ([.suppliesValid 0 true [] 0, .settingsRead false [] [] true, .loadComplete ⟨[(1024, TileCfg.blank)], [], [], [], [], [], []⟩,
      .regionLoadDone 5 ⟨[], [(0, 65)], [], [], [], [], []⟩ none, .mailboxRing 0 0 [(511, [0, 0])], .rqoRequest 0 0 1 0 0 false (List.replicate 33
        0) false,
      .tsoResponse 0 0 0 (List.replicate 257 0) false, .eventDelivery 0, .eventDelivery 2049, .hbmSchedule 0 0 [5, 5], .timeFrame 0 [],
        .relayCommand 0 (List.replicate 537 0),
      .relayReply 0 (List.replicate 537 0), .relayRoute 0 (List.replicate 601 0), .bar2Memwr 0 0 [], .mpRead 0 0 0, .authResponse [],
      .cellClockEdge 0 0 0 true false [] false 0 0 0, .multiplierSliceEdge [⟨34, 63, 0, 0, 0, 0, 0, false, 0, 7, 0⟩, ⟨34, 63, 1, 1, 1, 0, 0, false,
        0, 7, 0⟩] false] : List Instr),
    wellFormed c = false := by
  decide +kernel

theorem test_accepts_commands :
    ∀ c ∈ ([.suppliesValid 0 true (List.replicate 8 0) 0, .mailboxRing 0 0 [(510, [0, 0])], .eventDelivery 2048, .poll 4 0, .authResponse
      (List.replicate 96 0),
      .cellClockEdge 0 0 0 true false (List.replicate 16 0) false 0 0 0] : List Instr), wellFormed c = true := by
  decide +kernel

/-! ### Hypotheses that are met -/

theorem witness_StepRunsFront :
    (∃ (c : Instr) (rest : List Instr) (s : State), s.pending = c :: rest) :=
  ⟨.poll 4 0, [.idcode], { State.reset with pending := [.poll 4 0, .idcode] }, by decide +kernel⟩

theorem witness_IdleTick :
    (∃ (s : State), s.pending = []) ∧
    (∃ (s : State) (n : Nat), Tbl.wf (fun _ => Keeper.init) s.tmr.tks = true ∧ n < 8 ∧ s.tkRuns n = true) ∧
    (∃ (s : State) (n : Nat), Tbl.wf (fun _ => Keeper.init) s.tmr.tks = true ∧ n < 8 ∧ s.tkRuns n = false) ∧
    (∃ (s : State), s.unknownTurn = none) :=
  ⟨⟨State.reset, by decide +kernel⟩,
   ⟨(inMode .run).setF F.tkCtl_enable 0 7 1, 7, by decide +kernel⟩,
   ⟨State.reset.setF F.tkCtl_enable 0 7 0, 7, by decide +kernel⟩,
   ⟨State.reset, by decide +kernel⟩⟩

theorem witness_RegisterAddresses :
    (∃ (r : Rg) (i j : Nat), r.valid i j = true) ∧
    (∃ (r r' : Rg) (i j i' j' : Nat), r.valid i j = true ∧ r'.valid i' j' = true ∧ r.key i j = r'.key i' j') ∧
    (∃ (a : Nat) (r : Rg) (i j : Nat), regAt a = some (r, i, j)) :=
  ⟨⟨.qCtl, 1023, 3, by decide +kernel⟩,
   ⟨.qCtl, .qCtl, 1023, 3, 1023, 3, by decide +kernel⟩,
   ⟨Rg.qCtl.key 1023 3, .qCtl, 1023, 3, by decide +kernel⟩⟩

theorem witness_RegistersReadBack :
    (∃ (s : State) (r : Rg) (i j v : Nat), s.regsWf = true ∧ r.valid i j = true ∧ v < 2 ^ 32) ∧
    (∃ (s : State) (r r' : Rg) (i j i' j' : Nat), s.regsWf = true ∧ r.valid i j = true ∧ r'.valid i' j' = true ∧ (r', i', j') ≠ (r, i, j)) ∧
    (∃ (s : State) (r : Rg) (i j : Nat), s.regsWf = true ∧ r.valid i j = true) ∧
    (∃ (r : Rg) (v : Nat), r.okWrite v = false) :=
  ⟨⟨State.reset, .routeLo, 1023, 1087, 2 ^ 32 - 1, by decide +kernel⟩,
   ⟨State.reset, .qCtl, .qCtl, 1023, 3, 1023, 2, by decide +kernel⟩,
   ⟨State.reset, .qCtl, 1023, 3, by decide +kernel⟩,
   ⟨.engCtl, 0xC0000000, by decide +kernel⟩⟩

theorem witness_MailboxChecks :
    (∃ (opcode : Nat) (p m : Nat) (s : State), s.canTake p m opcode = false ∧ s.unknownTurn = none) ∧
    (∃ (opcode : Nat) (p m : Nat) (s : State), s.canTake p m opcode = true ∧ (s.mbox p m).relay = false ∧ s.portFull p opcode = true) ∧
    (∃ (opcode code : Nat) (p m : Nat) (s : State), s.canTake p m opcode = true ∧ (s.mbox p m).relay = false ∧ s.portFull p opcode = false ∧
      preCheck opcode (s.mbox p m).payload = some code) ∧
    (∃ (opcode : Nat) (p m : Nat) (s : State), s.canTake p m opcode = true ∧ (s.mbox p m).relay = false ∧ s.portFull p opcode = false ∧ preCheck
      opcode (s.mbox p m).payload = none ∧ groupOk s.pw.mode s.pw.lockoutFrom opcode (s.mbox p m).payload = false) ∧
    (∃ (opcode : Nat) (body : Body) (p m : Nat) (s : State), s.canTake p m opcode = true ∧ (s.mbox p m).relay = false ∧ s.portFull p opcode = false
      ∧ preCheck opcode (s.mbox p m).payload = none ∧ groupOk s.pw.mode s.pw.lockoutFrom opcode (s.mbox p m).payload = true ∧ s.outOfReach opcode
      (s.mbox p m).payload = true ∧ (body (s.ctxOf p m) (s.taken p m)).2.isRefusal = false) ∧
    (∃ (opcode : Nat), cmdSpec opcode = none) ∧
    (∃ (opcode : Nat) (l : List Byte) (c : CmdSpec), cmdSpec opcode = some c ∧ c.lenOk l = false) ∧
    (∃ (opcode : Nat) (l : List Byte) (c : CmdSpec), cmdSpec opcode = some c ∧ c.lenOk l = true ∧ lenByField opcode l = true ∧ (c.valuesOk l =
      false ∨ fieldsOk opcode l = false)) ∧
    (∃ (opcode : Nat), opcode < 256) ∧
    (∃ (m : Mode) (opcode : Nat), opcode < 256 ∧ m ≠ .off) ∧
    (∃ (p m : Nat), p < 5 ∧ m < 4) ∧
    (∃ (p : Nat), p ≠ 5) ∧
    (∃ (s : State) (p m : Nat), s.maltarRuns = true ∧ s.turn = some (p, m) ∧ cmdSpec (s.mbox p m).opcode = none ∧ ((s.taken p m).reply p m (if
      s.portFull p (s.mbox p m).opcode then 0x15 else 0x10) []).unknownTurn = none) ∧
    (∃ (s : State) (p m : Nat), p < 5 ∧ s.queued p = true ∧ (∀ q, q < 5 → q ≠ p → s.queued q = false) ∧ (s.port p).rings.find? (fun n => (s.mbox p
      n).state = 1) = some m) ∧
    (∃ (s : State) (p m : Nat), p < 5 ∧ s.queued p = true ∧ p = (s.hosts.rr + 1) % 5 ∧ (s.port p).rings.find? (fun n => (s.mbox p n).state = 1) =
      some m) :=
  ⟨⟨0, 4, 0, State.reset, by decide +kernel⟩,
   ⟨0x100, 4, 0, { withCmd (inMode .run) 0x100 [0] with hosts.ops := List.replicate 5 ⟨4, 1, 7, 0x101, 0, 0, [], 0, none⟩ }, by decide +kernel⟩,
   ⟨0x100, 0x11, 4, 0, (withCmd (inMode .run) 0x100 []), by decide +kernel⟩,
   ⟨0x100, 4, 0, (withCmd (inMode .rest) 0x100 [0]), by decide +kernel⟩,
   ⟨0x310, fun _ s => (s, .done 0 []), 4, 0, { withCmd (inMode .run) 0x310 [3] with pw := { (inMode .run).pw with seamsTrained := true } },
     by decide +kernel⟩,
   ⟨0x1FF, by decide +kernel⟩,
   ⟨0x100, [], fixed 1 [(0, 1, [(0, 63)])], rfl, by decide +kernel⟩,
   ⟨0x0105, ([5] ++ List.replicate 7 0 ++ [32] ++ List.replicate 7 0), _, rfl, by decide +kernel, by decide +kernel, .inr (by decide +kernel)⟩,
   ⟨255, by decide +kernel⟩,
   ⟨.run, 255, by decide +kernel⟩,
   ⟨4, 3, by decide +kernel⟩,
   ⟨0, by decide +kernel⟩,
   ⟨withCmd (inMode .run) 0x1FF [], 4, 0, by decide +kernel⟩,
   ⟨(withCmd (inMode .run) 0x100 []), 4, 0, by decide +kernel⟩,
   ⟨{ (withCmd (inMode .run) 0x100 []) with hosts.rr := 3 }, 4, 0, by decide +kernel⟩⟩

theorem witness_EventQueues :
    (∃ (s : State) (p : Nat), (s.port p).events.length < 256 ∧ (s.port p).dropped = 0) ∧
    (∃ (s : State) (p : Nat), 256 ≤ (s.port p).events.length) ∧
    (∃ (s : State) (tenant : Nat) (p : Nat), p < 5 ∧ tenant ≠ 255 ∧ s.portTenant p ≠ tenant ∧ s.portTenant p ≠ 0) :=
  ⟨⟨State.reset, 0, by decide +kernel⟩,
   ⟨State.reset.setPort 0 { HostPort.init with events := List.replicate 256 ⟨1, 0, 0, 0, 0, 0, 0⟩ }, 0,
     Nat.le_of_eq (List.length_replicate (n := 256) (a := (⟨1, 0, 0, 0, 0, 0, 0⟩ : EvRec))).symm⟩,
   ⟨(asT1 State.reset), 2, 4, by decide +kernel⟩⟩

theorem witness_CommandsKeepTheQueue :
    (∃ (c : Instr) (s t : State), exec c s = .next t) ∧
    (∃ (s t : State), step s = .next t) :=
  ⟨⟨.idcode, State.reset, _, rfl⟩,
   ⟨State.reset, _, rfl⟩⟩

theorem witness_MemoryStaysCanonical :
    (∃ (s t : State), (Memory.wf s.hbm.mem = true ∧ Tbl.wf (fun _ => 0) s.hbm.mixed = true) ∧ step s = .next t) :=
  ⟨State.reset, _, by decide +kernel, rfl⟩

theorem witness_MemoryReadsBack :
    (∃ (s : State), Memory.wf s.hbm.mem = true ∧ Tbl.wf (fun _ => 0) s.hbm.mixed = true) ∧
    (∃ (s : State) (st l st' l' : Nat) (data : List Byte), Memory.wf s.hbm.mem = true ∧ Tbl.wf (fun _ => 0) s.hbm.mixed = true ∧ l + data.length ≤
      0x600000000 ∧ l' < 0x600000000 ∧ (st' ≠ st ∨ l' < l ∨ l + data.length ≤ l')) ∧
    (∃ (s : State), Memory.wf s.hbm.mem = true) ∧
    (∃ (s : State), Memory.wf s.hbm.mem = true ∧ Tbl.wf (fun _ => 0) s.hbm.mixed = true) ∧
    (∃ (s : State) (st l : Nat) (data : List Byte), Memory.wf s.hbm.mem = true ∧ Tbl.wf (fun _ => 0) s.hbm.mixed = true ∧ leNat (s.hread st l 8) ≠
      leAt data 0 8) :=
  ⟨⟨State.reset, by decide +kernel⟩,
   ⟨State.reset, 3, 0x5FFFFFFFF, 2, 0, [1], by decide +kernel⟩,
   ⟨State.reset, by decide +kernel⟩,
   ⟨State.reset, by decide +kernel⟩,
   ⟨State.reset, 3, 0, [1], by decide +kernel⟩⟩

theorem witness_ErrorCorrection :
    (∃ (k r : Nat), (k, r) ∈ [(16, 5), (32, 6), (64, 7), (262, 9)]) :=
  ⟨262, 9, by decide +kernel⟩

theorem witness_PowerAndPins :
    (∃ (s : State), s.pw.supplies = false) ∧
    (∃ (s : State), s.pw.supplies = true) ∧
    (∃ (s : State), s.pw.supplies = true ∧ s.pw.resetN = true ∧ s.seams.captains ∈ [1, 2, 4, 8]) ∧
    (∃ (s : State), s.pw.supplies = true ∧ s.pw.resetN = false ∧ s.seams.captains ∈ [1, 2, 4, 8]) ∧
    (∃ (s : State), s.pw.supplies = true ∧ s.pw.rebooting = true ∧ s.seams.captains ∈ [1, 2, 4, 8]) ∧
    (∃ (src : Fin 8) (c : Fin 256) (s : State), s.pw.supplies = true ∧ s.pw.tripped = false ∧ c.val ≠ 0x80 ∧ (if src.val < 4 then (120 : Int) else
      115) ≤ sgn 8 c) ∧
    (∃ (src : Fin 8) (c : Fin 256) (s : State), s.pw.supplies = true ∧ c.val ≠ 0x80 ∧ sgn 8 c < (if src.val < 4 then (120 : Int) else 115)) ∧
    (∃ (low high mismatch : Bool) (s : State), s.pw.supplies = true ∧ (low || high || mismatch) = true ∧ s.pw.mode ≠ .run) ∧
    (∃ (s : State), s.pw.supplies = true) ∧
    (∃ (s : State), s.awake = true) ∧
    (∃ (s : State) (k : Nat), s.awake = true ∧ s.pinTest = false ∧ bitAt s.elec.bankBad (k / 64) = true) ∧
    (∃ (s : State) (k : Nat), s.awake = true ∧ s.pinTest = false ∧ bitAt s.elec.bankBad (k / 64) = false) :=
  ⟨⟨{ State.reset with pw := { Power.init with supplies := false, mode := .off } }, by decide +kernel⟩,
   ⟨State.reset, by decide +kernel⟩,
   ⟨State.reset, by decide +kernel⟩,
   ⟨{ State.reset with pw := { Power.init with resetN := false } }, by decide +kernel⟩,
   ⟨{ State.reset with pw := { Power.init with rebooting := true } }, by decide +kernel⟩,
   ⟨3, 120, State.reset, by decide +kernel⟩,
   ⟨4, 114, State.reset, by decide +kernel⟩,
   ⟨true, false, false, State.reset, by decide +kernel⟩,
   ⟨State.reset, by decide +kernel⟩,
   ⟨State.reset, by decide +kernel⟩,
   ⟨{ State.reset with elec := ⟨0, 512, [], 0⟩ }, 576, by decide +kernel⟩,
   ⟨State.reset, 639, by decide +kernel⟩⟩

theorem witness_StartAndHuddle :
    (∃ (s : State), s.pw.mode = .boot ∧ s.pw.step = 1 ∧ s.awake = true ∧ s.pw.maltarOwns = false) ∧
    (∃ (s : State), s.pw.mode = .boot ∧ s.pw.step = 1 ∧ s.awake = true ∧ s.pw.maltarOwns = false) ∧
    (∃ (s : State), s.awake = true ∧ s.pw.mode = .huddle) ∧
    (∃ (s : State), s.pw.mode = .huddle ∧ s.pw.huddleHigh = true ∧ s.pw.huddleFilter = true) ∧
    (∃ (s : State), s.pw.mode = .huddle ∧ s.huddlePolicy = 0) ∧
    (∃ (s : State), s.pw.mode = .huddle ∧ s.huddlePolicy = 1) ∧
    (∃ (s : State), s.pw.mode = .huddle ∧ s.huddlePolicy = 2) ∧
    (∃ (s : State), s.awake = true ∧ s.maltarRuns = true) ∧
    (∃ (s : State), s.pw.refRestarting = true) :=
  ⟨⟨inBoot 1, by decide +kernel⟩,
   ⟨inBoot 1, by decide +kernel⟩,
   ⟨inMode .huddle, by decide +kernel⟩,
   ⟨{ State.reset with pw := { Power.init with mode := .huddle, huddleHigh := true, huddleFilter := true } }, by decide +kernel⟩,
   ⟨{ inMode .huddle with sett := ⟨false, some 0, 1, [⟨0x0001, 0, [0, 0, 0, 0, 10, 0, 0, 0]⟩], [], [], [], none⟩ }, by decide +kernel⟩,
   ⟨{ inMode .huddle with sett := ⟨false, some 0, 1, [⟨0x0001, 0, [1, 0, 0, 0, 10, 0, 0, 0]⟩], [], [], [], none⟩ }, by decide +kernel⟩,
   ⟨{ inMode .huddle with sett := ⟨false, some 0, 1, [⟨0x0001, 0, [2, 0, 0, 0, 10, 0, 0, 0]⟩], [], [], [], none⟩ }, by decide +kernel⟩,
   ⟨inMode .run, by decide +kernel⟩,
   ⟨{ State.reset with pw := { Power.init with refRestarting := true } }, by decide +kernel⟩⟩

theorem witness_ModeAndFunctionCommands :
    (∃ (p : Port) (m : Mbox) (s : State), s.ready p m 0x200 ∧ s.portTenant p = 0 ∧ s.pw.mode = .run ∧ s.arg p m 0 1 = 5 ∧ (s.taken p m).restBusy =
      false ∧ s.pw.holding = false) ∧
    (∃ (p : Port) (m : Mbox) (s : State), s.ready p m 0x200 ∧ s.portTenant p = 0 ∧ s.pw.mode = .rest ∧ s.arg p m 0 1 = 4) ∧
    (∃ (p : Port) (m : Mbox) (s : State), s.ready p m 0x200 ∧ s.portTenant p = 0 ∧ s.pw.mode = .run ∧ s.arg p m 0 1 = 6 ∧ (s.taken p m).fullAll p =
      true ∧ (s.taken p m).regionMoves = false ∧ s.pw.holding = false ∧ (s.taken p m).enterHold.pw.holding = false) ∧
    (∃ (p : Port) (m : Mbox) (s : State), s.ready p m 0x200 ∧ s.portTenant p = 0 ∧ s.pw.mode = .hold ∧ s.arg p m 0 1 = 4 ∧ (s.taken p m).fullAll p
      = true) ∧
    (∃ (p : Port) (m : Mbox) (s : State), s.ready p m 0x200 ∧ s.portTenant p ≠ 0) ∧
    (∃ (p : Port) (m : Mbox) (s : State), s.ready p m 0x201 ∧ s.portTenant p = 0) ∧
    (∃ (s : State), s.enterHold.pw.holding = false) ∧
    (∃ (s : State), (∀ t, (s.engine t).pend = [])) ∧
    (∃ (p : Port) (m : Mbox) (s : State) (kind i : Nat), s.ready p m 0x202 ∧ s.arg p m 0 1 = kind ∧ s.arg p m 2 2 = i ∧ kind ≠ 0 ∧ kind ≠ 6 ∧
      (s.taken p m).funcRefuses (s.portTenant p) kind i = none ∧ (s.taken p m).funcLong kind i false = false ∧ ((s.taken p m).funcStop kind
      i).funcQuiet kind i = true) ∧
    (∃ (p : Port) (m : Mbox) (s : State) (kind i : Nat), s.ready p m 0x203 ∧ s.arg p m 0 1 = kind ∧ s.arg p m 2 2 = i ∧ kind ≠ 0 ∧ (s.taken p
      m).funcRefuses (s.portTenant p) kind i = none) ∧
    (∃ (p : Port) (m : Mbox) (s : State) (kind i : Nat), s.ready p m 0x204 ∧ s.arg p m 0 1 = kind ∧ s.arg p m 2 2 = i ∧ kind ≠ 0 ∧ kind ≠ 6 ∧
      (s.taken p m).funcRefuses (s.portTenant p) kind i = none ∧ (s.taken p m).funcLong kind i true = false ∧ kind ≠ 3 ∧ ((s.taken p m).funcStop
      kind i).funcQuiet kind i = true) ∧
    (∃ (p : Port) (m : Mbox) (s : State) (i : Nat), s.ready p m 0x202 ∧ s.arg p m 0 1 = 8 ∧ s.arg p m 2 2 = i ∧ s.portTenant p ≠ 0 ∧ s.portTenant p
      ≠ s.tileTenant (i / 4)) ∧
    (∃ (kind : Fin 10) (idx : Fin 4096) (s : State) (reset : Bool), kind.val ≠ 1 ∧ s.pw.funcOps.find? (fun f => f.1 = kind.val && f.2.1 = idx.val)
      = some (kind.val, idx.val, reset) ∧ s.funcQuiet kind idx = true) ∧
    (∃ (p : Port) (m : Mbox) (s : State), s.ready p m 0x200 ∧ s.portTenant p = 0 ∧ s.pw.mode = .run ∧ s.arg p m 0 1 = 6 ∧ (s.taken p m).fullAll p =
      true ∧ (s.taken p m).regionMoves = false ∧ s.pw.holding = false ∧ (s.taken p m).enterHold.pw.holding = true) ∧
    (∃ (s : State), s.pw.holding = true ∧ s.eng.all (fun e => !e.2.holdReq) = true) ∧
    (∃ (s : State), s.pw.holding = true ∧ s.eng.any (fun e => e.2.holdReq && decide (e.2.run = .running)) = true) :=
  ⟨⟨4, 0, (withCmd (inMode .run) 0x200 [5]), ready_of (by decide +kernel), by decide +kernel⟩,
   ⟨4, 0, (withCmd (inMode .rest) 0x200 [4]), ready_of (by decide +kernel), by decide +kernel⟩,
   ⟨4, 0, (asFull (withCmd (inMode .run) 0x200 [6])), ready_of (by decide +kernel), by decide +kernel⟩,
   ⟨4, 0, (asFull (withCmd (inMode .hold) 0x200 [4])), ready_of (by decide +kernel), by decide +kernel⟩,
   ⟨4, 0, (asT1 (withCmd (inMode .run) 0x200 [5])), ready_of (by decide +kernel), by decide +kernel⟩,
   ⟨4, 0, (withCmd (inMode .run) 0x201 []), ready_of (by decide +kernel), by decide +kernel⟩,
   ⟨(inMode .run), by decide +kernel⟩,
   ⟨State.reset, fun _ => rfl⟩,
   ⟨4, 0, (withCmd (inMode .run) 0x202 [5, 0, 11, 0]), 5, 11, ready_of (by decide +kernel), by decide +kernel⟩,
   ⟨4, 0, (withCmd (inMode .run) 0x203 [5, 0, 11, 0]), 5, 11, ready_of (by decide +kernel), by decide +kernel⟩,
   ⟨4, 0, (withCmd (inMode .run) 0x204 [5, 0, 11, 0]), 5, 11, ready_of (by decide +kernel), by decide +kernel⟩,
   ⟨4, 0, (asT1 (withCmd (inMode .run) 0x202 [8, 0, 3, 0])), 3, ready_of (by decide +kernel), by decide +kernel⟩,
   ⟨5, 47, { State.reset with pw := { Power.init with funcOps := [(5, 47, true)] } }, true, by decide +kernel⟩,
   ⟨4, 0, { (asFull (withCmd (inMode .run) 0x200 [6])) with eng := [(34, { Engine.init with run := .running, lock := true })] },
     ready_of (by decide +kernel), by decide +kernel⟩,
   ⟨{ inMode .run with pw := { (inMode .run).pw with holding := true } }, by decide +kernel⟩,
   ⟨{ { inMode .run with pw := { (inMode .run).pw with holding := true } } with eng := [(34, { Engine.init with run := .running, holdReq := true })] },
     by decide +kernel⟩⟩

theorem witness_HostPorts :
    (∃ (p : Die) (s : State), (s.port p).perst = true) ∧
    (∃ (p : Die) (s : State), (s.port p).perst = false) ∧
    (∃ (p : Die) (s : State), (s.port p).training = true ∧ s.awake = true) ∧
    (∃ (p : Die) (r : CfgReg) (s : State), s.flag F.hpStatus_linkUp p 0 = true ∧ r ≠ .other) ∧
    (∃ (p : Die) (s : State), s.flag F.hpStatus_linkUp p 0 = true) ∧
    (∃ (p : Die) (v : Word32) (s : State), s.flag F.hpStatus_linkUp p 0 = true ∧ v.toNat % 4 = 3) ∧
    (∃ (addr : BitVec 7) (s : State), s.portUp 4 = true ∧ addr.toNat ≠ s.reg .mpAddr 4 0) ∧
    (∃ (addr : BitVec 7) (off : Word16) (s : State) (m o : Nat), s.portUp 4 = true ∧ addr.toNat = s.reg .mpAddr 4 0 ∧ m < 4 ∧ o < 512 ∧ off.toNat =
      1024 * m + o) ∧
    (∃ (addr : BitVec 7) (off : Word16) (b3 : Byte) (s : State) (m : Nat), s.portUp 4 = true ∧ addr.toNat = s.reg .mpAddr 4 0 ∧ m < 4 ∧ off.toNat =
      0x1000 + 16 * m ∧ bitAt b3.toNat 7 = true) ∧
    (∃ (addr : BitVec 7) (off : Word16) (b3 : Byte) (s : State) (m : Nat), s.portUp 4 = true ∧ addr.toNat = s.reg .mpAddr 4 0 ∧ m < 4 ∧ off.toNat =
      0x1000 + 16 * m ∧ bitAt b3.toNat 7 = false) ∧
    (∃ (addr : BitVec 7) (off : Word16) (s : State) (m o : Nat), s.portUp 4 = true ∧ addr.toNat = s.reg .mpAddr 4 0 ∧ m < 4 ∧ o < 512 ∧ off.toNat =
      1024 * m + 512 + o) ∧
    (∃ (addr : BitVec 7) (off : Word16) (s : State) (m : Nat), s.portUp 4 = true ∧ addr.toNat = s.reg .mpAddr 4 0 ∧ m < 4 ∧ off.toNat = 0x1000 + 16
      * m + 4) ∧
    (∃ (s : State), s.portUp 4 = true) :=
  ⟨⟨3, State.reset.setPort 3 { HostPort.init with perst := true }, by decide +kernel⟩,
   ⟨3, State.reset, by decide +kernel⟩,
   ⟨3, State.reset.setPort 3 { HostPort.init with training := true }, by decide +kernel⟩,
   ⟨3, .bar0, (State.reset.setF F.hpStatus_linkUp 3 0 1), by decide +kernel⟩,
   ⟨3, (State.reset.setF F.hpStatus_linkUp 3 0 1), by decide +kernel⟩,
   ⟨3, 3, (State.reset.setF F.hpStatus_linkUp 3 0 1), by decide +kernel⟩,
   ⟨0, (inMode .run), by decide +kernel⟩,
   ⟨BitVec.ofNat 7 (Rg.mpAddr.rst 0), 3583, (inMode .run), 3, 511, by decide +kernel⟩,
   ⟨BitVec.ofNat 7 (Rg.mpAddr.rst 0), 0x1030, 0x80, (inMode .run), 3, by decide +kernel⟩,
   ⟨BitVec.ofNat 7 (Rg.mpAddr.rst 0), 0x1030, 0x7F, (inMode .run), 3, by decide +kernel⟩,
   ⟨BitVec.ofNat 7 (Rg.mpAddr.rst 0), 4095, (inMode .run), 3, 511, by decide +kernel⟩,
   ⟨BitVec.ofNat 7 (Rg.mpAddr.rst 0), 0x1034, (inMode .run), 3, by decide +kernel⟩,
   ⟨(inMode .run), by decide +kernel⟩⟩

theorem witness_GeneralCommands :
    (∃ (p : Port) (m : Mbox) (s : State), s.portUp p = true ∧ (s.mbox p m).state ≠ 1 ∧ (s.mbox p m).state ≠ 2 ∧ s.hardwareCode = none) ∧
    (∃ (p : Port) (m : Mbox) (s : State), s.portUp p = true ∧ ((s.mbox p m).state = 1 ∨ (s.mbox p m).state = 2)) ∧
    (∃ (p : Port) (m : Mbox) (s : State) (code : Nat), s.portUp p = true ∧ (s.mbox p m).state ≠ 1 ∧ (s.mbox p m).state ≠ 2 ∧ s.hardwareCode = some
      code) ∧
    (∃ (p : Port) (m : Mbox) (s : State), s.ready p m 0) ∧
    (∃ (p : Port) (m : Mbox) (s : State), s.ready p m 1) ∧
    (∃ (p : Port) (m : Mbox) (s : State) (n : Nat), s.ready p m 2 ∧ min 15 (s.arg p m 0 1) = n) ∧
    (∃ (p : Port) (m : Mbox) (s : State), s.ready p m 3) :=
  ⟨⟨4, 0, (inMode .run).setPort 4 { HostPort.init with mbs := [(0, { Mailbox.init with cmd := [(0, 1)] })] }, by decide +kernel⟩,
   ⟨4, 0, (withCmd (inMode .run) 0 []), by decide +kernel⟩,
   ⟨4, 3, State.reset, 0x15, by decide +kernel⟩,
   ⟨4, 0, (withCmd (inMode .run) 0 []), ready_of (by decide +kernel)⟩,
   ⟨4, 0, (withCmd (inMode .run) 1 []), ready_of (by decide +kernel)⟩,
   ⟨4, 0, (withCmd (inMode .run) 2 [15]), 15, ready_of (by decide +kernel), by decide +kernel⟩,
   ⟨4, 0, (withCmd (inMode .run) 3 [1]), ready_of (by decide +kernel)⟩⟩

theorem witness_SeamStart :
    (∃ (d : Die) (p : Fin 2) (c : List (BitVec 336)) (w : BitVec 288) (s : State), s.rolling = true ∧ rollUnit c = some w ∧ rollKind w = 1 ∧
      ((s.roll (across d p)).out p).contains w = true ∧ rollTo w = 3) ∧
    (∃ (d : Die) (p : Fin 2) (c : List (BitVec 336)) (w : BitVec 288) (s : State), s.rolling = true ∧ rollUnit c = some w ∧ rollKind w = 1 ∧
      ((s.roll (across d p)).out p).contains w = true ∧ rollTo w = 1) ∧
    (∃ (c : List (BitVec 336)), rollUnit c = none) ∧
    (∃ (d : Die) (p : Fin 2) (c : List (BitVec 336)) (w : BitVec 288) (s : State) (n : Nat), s.rolling = true ∧ rollUnit c = some w ∧ rollKind w =
      2 ∧ (s.roll (across d p)).numbered = some n ∧ rollTo w = n ∧ (s.roll d).sent p 1 = true ∧ n ≠ 3) ∧
    (∃ (d : Die) (p : Fin 2) (c : List (BitVec 336)) (w : BitVec 288) (s : State), s.rolling = true ∧ rollUnit c = some w ∧ rollKind w = 2 ∧
      (s.roll (across d p)).numbered = some 3 ∧ rollTo w = 3 ∧ (s.roll d).sent p 1 = true) ∧
    (∃ (c : List (BitVec 336)) (w : BitVec 288) (s : State), s.rolling = true ∧ rollUnit c = some w ∧ rollKind w = 3 ∧ (s.roll 1).outX.contains w =
      true ∧ s.seams.relay2 = none) ∧
    (∃ (c : List (BitVec 336)) (w : BitVec 288) (s : State) (a : Nat), s.rolling = true ∧ rollUnit c = some w ∧ rollKind w = 3 ∧ (s.roll
      2).outY.contains w = true ∧ s.seams.relay1 = some a ∧ a ≠ rollSilicon w) ∧
    (∃ (c : List (BitVec 336)) (w : BitVec 288) (s : State), s.rolling = true ∧ rollUnit c = some w ∧ rollKind w = 3 ∧ (s.roll 2).outY.contains w =
      true ∧ s.seams.relay1 = some (rollSilicon w)) ∧
    (∃ (c1 c2 c3 : List (BitVec 336)) (s : State), s.rolling = true ∧ s.confirms 1 c1 = true ∧ s.confirms 2 c2 = true ∧ s.confirms 3 c3 = true) ∧
    (∃ (s : State), s.rolling = true) ∧
    (∃ (s : State), s.pw.mode = .boot ∧ s.pw.step = 2 ∧ s.seams.rollDone = true) ∧
    (∃ (d : Die) (p : Fin 2) (n : Fin 129) (c : List (BitVec 336)) (u : Nat) (s : State), receives d p n = true ∧ s.bstate d p n = 3 ∧ firstCopy 2
      c = some u) ∧
    (∃ (d : Die) (p : Fin 2) (n : Fin 129) (own : BitVec 16) (s : State) (map : Nat), receives d p n = true ∧ s.bstate d p n = 3 ∧ (s.bundle (bkey
      d p n)).partnerMap = some map ∧ 14 ≤ ones16 (s.agreed d p n (own.toNat &&& map))) ∧
    (∃ (p : Port) (m : Mbox) (s : State) (set : List (Nat × Nat × Nat)), s.ready p m 0x205 ∧ s.portTenant p = 0 ∧ (s.taken p m).resetSet (s.arg p m
      0 1) (s.arg p m 1 1) (s.arg p m 2 1) = set ∧ set ≠ [] ∧ (s.taken p m).seamBusy (s.arg p m 0 1) (s.arg p m 1 1) = false ∧ ((s.taken p
      m).noReplacement (namedLinks set) = false ∨ s.arg p m 3 1 = 1)) ∧
    (∃ (r : Req) (s : State) (d v : Nat), s.grantsWrite r .seamReset d 0 v ∧ bitAt v 31 = true ∧ s.seamTraining d 0 = false ∧ s.seamTraining d 1 =
      false) ∧
    (∃ (d : Die) (p : Fin 2) (n : Fin 129) (s : State), s.regsWf = true ∧ receives d p n = true ∧ n.val = 0x80 ∧ ¬ (s.bstate d p n = 1 ∧ s.getF
      F.replayLimit_limit d 0 < (s.bundle (bkey d p n)).replays)) :=
  ⟨⟨3, 1, [(0x1A9C00003000010103010000000000000000000000000000000000000000000000000000000000000000 : BitVec 336)],
     (BitVec.ofNat 288 (unitPay 0x1A9C00003000010103010000000000000000000000000000000000000000000000000000000000000000)),
     { inBoot 2 with seams := { Seams.init with roll := [(1, ⟨some 1, [], [(BitVec.ofNat 288 (unitPay 0x1A9C00003000010103010000000000000000000000000000000000000000000000000000000000000000))], none, none⟩)] } },
     by decide +kernel, rollUnit_one (by decide +kernel) (by decide +kernel), by decide +kernel⟩,
   ⟨1, 0, [(0xD81E00003000010001000000000000000000000000000000000000000000000000000000000000000000 : BitVec 336)],
     (BitVec.ofNat 288 (unitPay 0xD81E00003000010001000000000000000000000000000000000000000000000000000000000000000000)),
     { inBoot 2 with seams := { Seams.init with roll := [(0, ⟨some 0, [(BitVec.ofNat 288 (unitPay 0xD81E00003000010001000000000000000000000000000000000000000000000000000000000000000000))], [], none, none⟩)] } },
     by decide +kernel, rollUnit_one (by decide +kernel) (by decide +kernel), by decide +kernel⟩,
   ⟨[], by decide +kernel⟩,
   ⟨0, 0, [(0x87AD00003000020101000000000000000005000000000000000000000000000000000000000000000000 : BitVec 336)],
     (BitVec.ofNat 288 (unitPay 0x87AD00003000020101000000000000000005000000000000000000000000000000000000000000000000)),
     { inBoot 2 with seams := { Seams.init with roll := [(0, ⟨some 0, [(BitVec.ofNat 288 (unitPay 0xD81E00003000010001000000000000000000000000000000000000000000000000000000000000000000))], [], none, none⟩), (1, ⟨some 1, [], [], none, none⟩)] } },
     1, by decide +kernel, rollUnit_one (by decide +kernel) (by decide +kernel), by decide +kernel⟩,
   ⟨1, 1, [(0xE76300003000020303010000000000000009000000000000000000000000000000000000000000000000 : BitVec 336)],
     (BitVec.ofNat 288 (unitPay 0xE76300003000020303010000000000000009000000000000000000000000000000000000000000000000)),
     { inBoot 2 with seams := { Seams.init with roll := [(1, ⟨some 1, [], [(BitVec.ofNat 288 (unitPay 0x1A9C00003000010103010000000000000000000000000000000000000000000000000000000000000000))], none, none⟩), (3, ⟨some 3, [], [], none, none⟩)] } },
     by decide +kernel, rollUnit_one (by decide +kernel) (by decide +kernel), by decide +kernel⟩,
   ⟨[(0x39DA00003000030100000000000000000009000000000000000000000000000000000000000000000000 : BitVec 336)],
     (BitVec.ofNat 288 (unitPay 0x39DA00003000030100000000000000000009000000000000000000000000000000000000000000000000)),
     { inBoot 2 with seams := { Seams.init with roll := [(1, ⟨some 1, [(BitVec.ofNat 288 (unitPay 0x39DA00003000030100000000000000000009000000000000000000000000000000000000000000000000))], [], none, none⟩)] } },
     by decide +kernel, rollUnit_one (by decide +kernel) (by decide +kernel), by decide +kernel⟩,
   ⟨[(0x1D5900003000030200010000000000000009000000000000000000000000000000000000000000000000 : BitVec 336)],
     (BitVec.ofNat 288 (unitPay 0x1D5900003000030200010000000000000009000000000000000000000000000000000000000000000000)),
     { ({ inBoot 2 with seams := { Seams.init with roll := [(2, ⟨some 2, [], [(BitVec.ofNat 288 (unitPay 0x1D5900003000030200010000000000000009000000000000000000000000000000000000000000000000))], none, none⟩)] } } : State) with seams.relay1 := some 8 },
     8, by decide +kernel, rollUnit_one (by decide +kernel) (by decide +kernel), by decide +kernel⟩,
   ⟨[(0x1D5900003000030200010000000000000009000000000000000000000000000000000000000000000000 : BitVec 336)],
     (BitVec.ofNat 288 (unitPay 0x1D5900003000030200010000000000000009000000000000000000000000000000000000000000000000)),
     { ({ inBoot 2 with seams := { Seams.init with roll := [(2, ⟨some 2, [], [(BitVec.ofNat 288 (unitPay 0x1D5900003000030200010000000000000009000000000000000000000000000000000000000000000000))], none, none⟩)] } } : State) with seams.relay1 := some 9 },
     by decide +kernel, rollUnit_one (by decide +kernel) (by decide +kernel), by decide +kernel⟩,
   ⟨[(0x545B00003000040001000000000000000000000000000000000000000000000000000000000000000000 : BitVec 336)],
     [(0xE01500003000040002000000000000000000000000000000000000000000000000000000000000000000 : BitVec 336)],
     [(0x7C3000003000040003000000000000000000000000000000000000000000000000000000000000000000 : BitVec 336)],
     { inBoot 2 with seams := { Seams.init with roll := [(0, ⟨some 0, [(BitVec.ofNat 288 (unitPay 0x545B00003000040001000000000000000000000000000000000000000000000000000000000000000000)), (BitVec.ofNat 288 (unitPay 0xE01500003000040002000000000000000000000000000000000000000000000000000000000000000000))], [(BitVec.ofNat 288 (unitPay 0x7C3000003000040003000000000000000000000000000000000000000000000000000000000000000000))], none, none⟩)] } },
     by decide +kernel, by rw [State.confirms, rollUnit_one (by decide +kernel) (by decide +kernel)]; decide +kernel,
     by rw [State.confirms, rollUnit_one (by decide +kernel) (by decide +kernel)]; decide +kernel,
     by rw [State.confirms, rollUnit_one (by decide +kernel) (by decide +kernel)]; decide +kernel⟩,
   ⟨inBoot 2, by decide +kernel⟩,
   ⟨{ inBoot 2 with seams := { Seams.init with rollDone := true } }, by decide +kernel⟩,
   ⟨0, 0, 0x80, [0xD80B0000200000000000000000000000000000000000000000000000000000000000000000000000FFFF],
     0xD80B0000200000000000000000000000000000000000000000000000000000000000000000000000FFFF, State.reset.setF F.privStatus_state 0 0x80 3,
     by decide +kernel, by decide +kernel, by simp [firstCopy, unitCrcOk_eq]; decide +kernel⟩,
   ⟨0, 0, 0x80, 0xFFFF,
     { State.reset.setF F.privStatus_state 0 0x80 3 with seams := { Seams.init with bundles := [(0x80, { Bundle.init with partnerMap := some 0xFFFF })] } },
     0xFFFF, by decide +kernel⟩,
   ⟨4, 0, (withCmd (inMode .run) 0x205 [0, 0, 128, 1]), [(0, 0, 0x80)], ready_of (by decide +kernel), by decide +kernel, by decide +kernel,
     by decide +kernel, by decide +kernel, .inr (by decide +kernel)⟩,
   ⟨regReq .write .seamReset 3 0 0x80010080, withReq State.reset (regReq .write .seamReset 3 0 0x80010080), 3, 0x80010080,
     by unfold State.grantsWrite; decide +kernel, by decide +kernel⟩,
   ⟨3, 1, 0x80, State.reset, by decide +kernel⟩⟩

theorem witness_SeamUnits :
    (∃ (d : Die) (p : Fin 2) (n : Fin 129) (lanes : List (BitVec 24)) (u : Nat) (s : State), receives d p n = true ∧ s.pairUp d p n = true ∧
      s.lanesIn d p n lanes = u ∧ unitCrcOk u = true ∧ u % 2 ^ 312 = (s.bundle (farKey d p n)).idleUnit % 2 ^ 312) ∧
    (∃ (d : Die) (p : Fin 2) (n : Fin 129) (lanes : List (BitVec 24)) (u : Nat) (v : List (Nat × BitVec 24)) (b : Bool) (l : List (Bool × List (Nat
      × BitVec 24))) (s t : State), receives d p n = true ∧ n.val ≠ 0x80 ∧ s.pairUp d p n = true ∧ (s.bundle (farKey d p n)).wire = (b, v) :: l ∧
      unitType (unstripe v) = 1 ∧ s.lanesIn d p n lanes = u ∧ unitCrcOk u = true ∧ unitType u = 1 ∧ (s.setBundle (farKey d p n)
      { s.bundle (farKey d p n) with wire := l }).ackIn d p n u = t ∧ unitSeq u = (t.bundle (bkey d p n)).expSeq) ∧
    (∃ (d : Die) (p : Fin 2) (lanes : List (BitVec 24)) (u : Nat) (v : List (Nat × BitVec 24)) (b : Bool) (l : List (Bool × List (Nat × BitVec
      24))) (s t t' : State) (typ : Nat), s.pairUp d p 0x80 = true ∧ (s.bundle (farKey d p 0x80)).wire = (b, v) :: l ∧ unitType (unstripe v) = typ
      ∧ s.lanesIn d p 0x80 lanes = u ∧ unitCrcOk u = true ∧ unitType u = typ ∧ (s.setBundle (farKey d p 0x80)
      { s.bundle (farKey d p 0x80) with wire := l }).ackIn d p 0x80 u = t ∧ unitSeq u = (t.bundle (bkey d p 0x80)).expSeq ∧ t.setBundle (bkey d p
      0x80)
      { t.bundle (bkey d p 0x80) with expSeq := ((t.bundle (bkey d p 0x80)).expSeq + 1) % 256, skipping := false, fails := 0, delivered := (t.bundle (bkey d p 0x80)).delivered ++ [(typ, BitVec.ofNat 288 (unitPay u))] }
      = t') ∧
    (∃ (d : Die) (p : Fin 2) (n : Fin 129) (lanes : List (BitVec 24)) (s : State), receives d p n = true ∧ s.pairUp d p n = true ∧ unitCrcOk
      (s.lanesIn d p n lanes) = false ∧ (s.bundle (bkey d p n)).skipping = false) ∧
    (∃ (d : Die) (p : Fin 2) (n : Fin 129) (lanes : List (BitVec 24)) (v : List (Nat × BitVec 24)) (b : Bool) (l : List (Bool × List (Nat × BitVec
      24))) (s t : State), receives d p n = true ∧ n.val ≠ 0x80 ∧ s.pairUp d p n = true ∧ (s.bundle (farKey d p n)).wire = (b, v) :: l ∧ unitType
      (unstripe v) = 1 ∧ unitCrcOk (s.lanesIn d p n lanes) = false ∧ s.setBundle (farKey d p n) { s.bundle (farKey d p n) with wire := l } = t ∧
      (t.bundle (bkey d p n)).skipping = false) ∧
    (∃ (d : Die) (p : Fin 2) (n : Fin 129) (s : State), s.pairUp d p n = false) ∧
    (∃ (b : Bundle), 64 ≤ b.kept.length) ∧
    (∃ (b : Bundle), b.kept.length ≤ 64) ∧
    (∃ (b : Bundle), (b.queue.dropWhile (fun x => x.1 = 4)).all (fun x => x.1 ≠ 4) = true) ∧
    (∃ (d : Die) (p i : Nat) (s : State), s.pairUp d p i = false) ∧
    (∃ (seq ack typ credit pay : Nat), seq < 256 ∧ ack < 256 ∧ typ < 16 ∧ credit < 256 ∧ pay < 2 ^ 288) ∧
    (∃ (u map : Nat) (lanes : List (BitVec 24)), u < 2 ^ 336 ∧ 14 ≤ ones16 map ∧ (∀ q ∈ stripe map u, lanes.getD q.1 0#24 = q.2)) :=
  ⟨⟨0, 0, 1, [0x0, 0x0, 0x0, 0x0, 0x0, 0x0, 0x0, 0x0, 0x0, 0x0, 0x0, 0x0, 0xFF0000, 0xFF, 0, 0],
     0xFFFF0000000000000000000000000000000000000000000000000000000000000000000000000000,
     ([(0, 0), (0, 1), (1, 0), (1, 1)].foldl (fun s (x : Nat × Nat) => State.setF (State.setF s F.privStatus_state x.1 x.2 1) F.privStatus_laneMap
       x.1 x.2 0x3FFF) (inMode .run)),
     by decide +kernel, by decide +kernel, by decide +kernel, (unitCrcOk_eq _).trans (by decide +kernel), by decide +kernel⟩,
   ⟨0, 0, 1, [0x7, 0x0, 0x0, 0x0, 0x0, 0x0, 0x0, 0x0, 0x0, 0x0, 0x0, 0x0, 0x1000, 0x5D4000, 0, 0],
     0x5D4000001000000000000000000000000000000000000000000000000000000000000000000000000007,
     stripe 0x3FFF 0x5D4000001000000000000000000000000000000000000000000000000000000000000000000000000007, false, [],
     { ([(0, 0), (0, 1), (1, 0), (1, 1)].foldl (fun s (x : Nat × Nat) => State.setF (State.setF s F.privStatus_state x.1 x.2 1) F.privStatus_laneMap x.1 x.2 0x3FFF) (inMode .run)) with seams.bundles := [(farKey 0 0 1, { Bundle.init with wire := [(false, stripe 0x3FFF 0x5D4000001000000000000000000000000000000000000000000000000000000000000000000000000007)] })] },
     _, by decide +kernel, by decide +kernel, by decide +kernel, by decide +kernel, by decide +kernel, by decide +kernel,
     (unitCrcOk_eq _).trans (by decide +kernel), by decide +kernel, rfl, by decide +kernel⟩,
   ⟨0, 0, [0x7, 0x0, 0x0, 0x0, 0x0, 0x0, 0x0, 0x0, 0x0, 0x0, 0x0, 0x0, 0x4000, 0x748400, 0, 0],
     0x748400004000000000000000000000000000000000000000000000000000000000000000000000000007,
     stripe 0x3FFF 0x748400004000000000000000000000000000000000000000000000000000000000000000000000000007, false, [],
     { (State.setF (State.setF (State.setF (State.setF (inMode .run) F.privStatus_state 0 0x80 1) F.privStatus_state 1 0x80 1) F.privStatus_laneMap 0 0x80 0x3FFF) F.privStatus_laneMap 1 0x80 0x3FFF) with seams.bundles := [(128, { Bundle.init with sendMap := 0x3FFF }), (640, { Bundle.init with sendMap := 0x3FFF, wire := [(false, stripe 0x3FFF 0x748400004000000000000000000000000000000000000000000000000000000000000000000000000007)] })] },
     _, _, 4, by decide +kernel, by decide +kernel, by decide +kernel, by decide +kernel, (unitCrcOk_eq _).trans (by decide +kernel),
     by decide +kernel, rfl, by decide +kernel, rfl⟩,
   ⟨0, 0, 1, [0x7, 0x0, 0x0, 0x0, 0x0, 0x0, 0x0, 0x0, 0x0, 0x0, 0x0, 0x0, 0x1000, 0x5D4100, 0, 0],
     ([(0, 0), (0, 1), (1, 0), (1, 1)].foldl (fun s (x : Nat × Nat) => State.setF (State.setF s F.privStatus_state x.1 x.2 1) F.privStatus_laneMap
       x.1 x.2 0x3FFF) (inMode .run)),
     by decide +kernel, by decide +kernel, (unitCrcOk_eq _).trans (by decide +kernel), by decide +kernel⟩,
   ⟨0, 0, 1, [0x7, 0x0, 0x0, 0x0, 0x0, 0x0, 0x0, 0x0, 0x0, 0x0, 0x0, 0x0, 0x1000, 0x5D4100, 0, 0],
     stripe 0x3FFF 0x5D4000001000000000000000000000000000000000000000000000000000000000000000000000000007, false, [],
     { ([(0, 0), (0, 1), (1, 0), (1, 1)].foldl (fun s (x : Nat × Nat) => State.setF (State.setF s F.privStatus_state x.1 x.2 1) F.privStatus_laneMap x.1 x.2 0x3FFF) (inMode .run)) with seams.bundles := [(farKey 0 0 1, { Bundle.init with wire := [(false, stripe 0x3FFF 0x5D4000001000000000000000000000000000000000000000000000000000000000000000000000000007)] })] },
     _, by decide +kernel, by decide +kernel, by decide +kernel, by decide +kernel, by decide +kernel, (unitCrcOk_eq _).trans (by decide +kernel),
     rfl, by decide +kernel⟩,
   ⟨0, 0, 1, State.reset, by decide +kernel⟩,
   ⟨{ Bundle.init with kept := List.replicate 64 0 }, Nat.le_of_eq (List.length_replicate (n := 64) (a := (0 : BitVec 336))).symm⟩,
   ⟨{ Bundle.init with kept := List.replicate 64 0 }, Nat.le_of_eq (List.length_replicate (n := 64) (a := (0 : BitVec 336)))⟩,
   ⟨{ Bundle.init with queue := [(4, 1), (5, 1)] }, by decide +kernel⟩,
   ⟨0, 0, 0, State.reset, by decide +kernel⟩,
   ⟨255, 255, 15, 255, 2 ^ 288 - 1, by decide +kernel⟩,
   ⟨(0x5A5A5A5A5A5A5A5A5A5A5A5A5A5A5A5A5A5A5A5A5A5A5A5A5A5A5A5A5A5A5A5A5A5A5A5A5A5A5A5A5A5A : BitVec 336).toNat, 0xBFFF,
     (List.range 16).map (fun i => ((stripe 0xBFFF (0x5A5A5A5A5A5A5A5A5A5A5A5A5A5A5A5A5A5A5A5A5A5A5A5A5A5A5A5A5A5A5A5A5A5A5A5A5A5A5A5A5A5A : BitVec
       336).toNat).find? (fun q => q.1 = i)).elim 0 (·.2)),
     BitVec.isLt _, by decide +kernel⟩⟩

theorem witness_ConfigurationLoad :
    (∃ (r : RegionId) (d : Die) (s : State) (x : Rec), s.takesRec (some r.val) d ∧ s.recAt (some r.val) d = x ∧ x.type = 1 ∧ 0 < x.count ∧
      s.inFence (some r.val) x.addr = false) ∧
    (∃ (d : Die) (s : State) (x : Rec), s.takesRec none d ∧ s.recAt none d = x ∧ x.type = 2) ∧
    (∃ (r : Option RegionId) (d : Die) (s : State) (x : Rec), s.takesRec (r.map (·.val)) d ∧ s.recAt (r.map (·.val)) d = x ∧ x.type = 3 ∧ (s.ctl
      (r.map (·.val)) d).digestOk x = false) ∧
    (∃ (r : Option RegionId) (d : Die) (s : State), s.ctlRuns (r.map (·.val)) d = true ∧ (s.ctl (r.map (·.val)) d).hbm = none) ∧
    (∃ (errs : List Bool) (s : State), s.pw.mode = .load ∧ s.ld.loading = 0 ∧ s.pw.loadDone = false ∧ s.slotCode s.loadSlot (unread errs) ≠ 0) ∧
    (∃ (k : Nat), k < 2) ∧
    (∃ (d : Die) (s : State), (s.ctl none d).active = true ∧ (s.ctl none d).reported = false ∧ (s.ctl none d).fail = none ∧ s.otherFailed none =
      false ∧ (s.ctl none d).short = false ∧ (((s.ctl none d).len = 0 ∧ (s.ctl none d).frames = 0) ∨ ((s.ctl none d).len ≠ 0 ∧ (s.ctl none
      d).endSeen = some (s.ctl none d).frames))) ∧
    (∃ (d : Die) (s : State) (code : Nat), (s.ctl none d).active = true ∧ (s.ctl none d).reported = false ∧ (s.ctl none d).fail = some code) ∧
    (∃ (s : State), s.pw.mode = .load ∧ s.ld.loading ≠ 0 ∧ (∀ d < 4, (s.ctl none d).reported = true ∧ (s.ctl none d).fail = none) ∧ s.loadSlot ≠ 2) ∧
    (∃ (s : State) (code : Nat), s.pw.mode = .load ∧ s.ld.loading ≠ 0 ∧ (∀ d < 4, (s.ctl none d).reported = true) ∧ (s.ctl none 0).fail = some
      code) ∧
    (∃ (s : State), s.loadSlot ≠ 2 ∧ s.ld.fellBack = false) ∧
    (∃ (s : State), s.loadSlot = 2) ∧
    (∃ (d : Die) (g : Word32) (s : State), (s.ctl none d).active = true ∧ (s.ctl none d).reported = false ∧ (s.ctl none d).fail = none ∧
      s.otherFailed none = false ∧ (s.ctl none d).short = false ∧ (s.ctl none d).len = 0 ∧ (s.ctl none d).frames = 0 ∧ (s.ctl none d).from d ≤
      g.toNat ∧ s.frameOf none d g.toNat = true) ∧
    (∃ (s : State) (r : Option Nat) (d hi a : Nat), d * 2 ^ 30 ≤ a ∧ (s.ctl r d).lastAddr = none ∧ a < hi ∧ s.frameOf r d a = true) :=
  ⟨⟨5, 0, (loadingRegion 0x1001000001000000), _, by unfold State.takesRec; decide +kernel, rfl, by decide +kernel⟩,
   ⟨0, (loading 0x2001000000F40000), _, by unfold State.takesRec; decide +kernel, rfl, by decide +kernel⟩,
   ⟨none, 0,
     { (loading 0x3000000000000000 : State) with ld.store := (listed (leBytes 8 0x3000000000000000)).map (fun x => (2 * 2 ^ 31 + 512 + x.1, x.2)) },
     _, by unfold State.takesRec; decide +kernel, rfl, by decide +kernel⟩,
   ⟨none, 0, loading 0, by decide +kernel⟩,
   ⟨[], { State.reset with pw := { Power.init with mode := .load } }, by decide +kernel⟩,
   ⟨1, by decide +kernel⟩,
   ⟨3, { loading 0 with ld.ctls := [(3, { LoadCtl.init with active := true })] }, by decide +kernel, by decide +kernel, by decide +kernel,
     by decide +kernel, by decide +kernel, .inl (by decide +kernel)⟩,
   ⟨3, { loading 0 with ld.ctls := [(3, { LoadCtl.init with active := true, fail := some 0x22 })] }, 0x22, by decide +kernel⟩,
   ⟨{ loading 0 with ld.ctls := [(0, { LoadCtl.init with reported := true }), (1, { LoadCtl.init with reported := true }), (2, { LoadCtl.init with reported := true }), (3, { LoadCtl.init with reported := true })], ld.ptrP := ptrRecord 1 0 },
     by decide +kernel⟩,
   ⟨{ loading 0 with ld.ctls := [(0, { LoadCtl.init with reported := true, fail := some 0x22 }), (1, { LoadCtl.init with reported := true }), (2, { LoadCtl.init with reported := true }), (3, { LoadCtl.init with reported := true })] },
     0x22, by decide +kernel⟩,
   ⟨{ loading 0 with ld.ptrP := ptrRecord 1 1 }, by decide +kernel⟩,
   ⟨State.reset, by decide +kernel⟩,
   ⟨3, 0xC0000000, { loading 0 with ld.ctls := [(3, { LoadCtl.init with active := true })] }, by decide +kernel⟩,
   ⟨{ loading 0 with ld.ctls := [(0, { LoadCtl.init with active := true })] }, none, 0, 0x40000000, 0, by decide +kernel⟩⟩

theorem witness_StoreCommands :
    (∃ (p : Port) (m : Mbox) (s : State), s.ready p m 0x110 ∧ s.portTenant p = 0 ∧ s.arg p m 0 1 = 1 ∧ s.ld.slotWrite = none ∧ 512 ≤ s.arg p m 16 8
      ∧ s.arg p m 16 8 ≤ 0x40000000) ∧
    (∃ (p : Port) (m : Mbox) (s : State), s.ready p m 0x113 ∧ s.portTenant p = 0 ∧ (s.taken p m).fullAll p = true ∧ s.arg p m 0 1 = 1 ∧
      s.ld.slotWrite = none ∧ 512 ≤ s.arg p m 16 8 ∧ s.arg p m 16 8 ≤ 0x8000000) ∧
    (∃ (p : Port) (m : Mbox) (s : State) (w : SlotWrite), s.ready p m 0x111 ∧ s.portTenant p = 0 ∧ s.ld.slotWrite = some w ∧ w.source = 1 ∧ 512 ≤
      w.pos ∧ w.buf = [] ∧ s.libReading = false ∧ s.arg p m 0 4 = w.pos ∧ w.pos + ((s.mbox p m).payload.drop 8).length ≤ w.len) ∧
    (∃ (p : Port) (m : Mbox) (s : State) (w : SlotWrite), s.ready p m 0x111 ∧ s.portTenant p = 0 ∧ s.ld.slotWrite = some w ∧ w.source = 1 ∧ 512 ≤
      w.pos ∧ s.libReading = true ∧ s.arg p m 0 4 = w.pos ∧ w.pos + ((s.mbox p m).payload.drop 8).length ≤ w.len) ∧
    (∃ (s : State) (w : SlotWrite), s.maltarRuns = true ∧ s.libReading = false ∧ s.ld.slotWrite = some w ∧ w.source = 1 ∧ w.target ≠ 2 ∧ w.pos =
      w.len) ∧
    (∃ (s : State) (w : SlotWrite), s.maltarRuns = true ∧ s.libReading = false ∧ s.ld.slotWrite = some w ∧ w.source = 1 ∧ w.target = 2 ∧ w.pos =
      w.len) ∧
    (∃ (s : State) (w : SlotWrite), s.libReading = true ∧ s.ld.slotWrite = some w) ∧
    (∃ (p : Port) (m : Mbox) (n : Fin 10) (s : State) (a b : Nat × Nat), s.ready p m 0x112 ∧ s.portTenant p = 0 ∧ s.ld.slotWrite = none ∧
      s.slotState (s.arg p m 0 1) = 2 ∧ ptrRead s.ld.ptrP = some a ∧ ptrRead s.ld.ptrQ = some b ∧ n.val = 9) ∧
    (∃ (seq slot : Nat), seq < 2 ^ 32 ∧ slot < 2) ∧
    (∃ (p : Port) (m : Mbox) (s : State) (e : Nat) (d : List Byte), s.ready p m 0x108 ∧ s.portTenant p = 0 ∧ s.arg p m 0 1 = e ∧ s.arg p m 1 1 = 0
      ∧ (s.mbox p m).payload.drop 8 = d ∧ (s.taken p m).libBusy e = false ∧ (s.lib e).state = 1 ∧ s.arg p m 4 4 = (s.lib e).pos ∧ 512 ≤ (s.lib
      e).pos ∧ (s.lib e).pos + d.length ≤ (s.lib e).len) ∧
    (∃ (p : Port) (m : Mbox) (s : State) (x : LibEntry), s.ready p m 0x109 ∧ s.lib (s.arg p m 0 1) = x ∧ x.state ≠ 4) ∧
    (∃ (e : Fin 256) (s : State), s.maltarRuns = true ∧ (s.lib e).state = 4) :=
  ⟨⟨4, 0, (withCmd (inMode .run) 0x110 ([1] ++ List.replicate 18 0 ++ [64, 0, 0, 0, 0])), ready_of (by decide +kernel), by decide +kernel⟩,
   ⟨4, 0, (asFull (withCmd (inMode .run) 0x113 ([1] ++ List.replicate 16 0 ++ [2] ++ List.replicate 6 0))), ready_of (by decide +kernel),
     by decide +kernel⟩,
   ⟨4, 0,
     { withCmd (inMode .run) 0x111 ([232, 3] ++ List.replicate 6 0 ++ List.replicate 24 1) with ld.slotWrite := some ⟨1, 1, 0, 1024, 1000, []⟩ },
     ⟨1, 1, 0, 1024, 1000, []⟩, ready_of (by decide +kernel), by decide +kernel⟩,
   ⟨4, 0,
     { withCmd (((inMode .run).setF F.regionStatus_state 0 5 2).setRegion 5 { Region.init with image := some (0, 9, 0) }) 0x111 ([232, 3] ++ List.replicate 6 0 ++ List.replicate 24 1) with ld.slotWrite := some ⟨1, 1, 0, 1024, 1000, []⟩ },
     ⟨1, 1, 0, 1024, 1000, []⟩, ready_of (by decide +kernel), by decide +kernel⟩,
   ⟨{ inMode .run with ld.slotWrite := some ⟨1, 1, 0, 1024, 1024, []⟩ }, ⟨1, 1, 0, 1024, 1024, []⟩, by decide +kernel⟩,
   ⟨{ inMode .run with ld.slotWrite := some ⟨2, 1, 0, 1024, 1024, []⟩ }, ⟨2, 1, 0, 1024, 1024, []⟩, by decide +kernel⟩,
   ⟨{ (((inMode .run).setF F.regionStatus_state 0 5 2).setRegion 5 { Region.init with image := some (0, 9, 0) }) with ld.slotWrite := some ⟨1, 1, 0, 1024, 1000, []⟩ },
     ⟨1, 1, 0, 1024, 1000, []⟩, by decide +kernel⟩,
   ⟨4, 0, 9, { withCmd (inMode .run) 0x112 [1] with ld := { Load.init with slotB := 2, ptrP := ptrRecord 1 0, ptrQ := ptrRecord 0xFFFFFFFF 1 } },
     (1, 0), (0xFFFFFFFF, 1), ready_of (by decide +kernel), by decide +kernel⟩,
   ⟨0xFFFFFFFF, 1, by decide +kernel⟩,
   ⟨4, 0, { withCmd (inMode .run) 0x108 ([9, 0, 0, 0, 232, 3, 0, 0] ++ List.replicate 24 1) with ld.libs := [(9, ⟨1, 1, 5, 1024, 1000, []⟩)] }, 9,
     List.replicate 24 1, ready_of (by decide +kernel), by decide +kernel⟩,
   ⟨4, 0, (withCmd (inMode .run) 0x109 [9]), _, ready_of (by decide +kernel), rfl, by decide +kernel⟩,
   ⟨9, { inMode .run with ld.libs := [(9, ⟨4, 1, 5, 1024, 1024, []⟩)] }, by decide +kernel⟩⟩

theorem witness_RouterCommands :
    (∃ (t : Tile) (p : Fin 15) (f : BitVec 288) (s : State), ((seamBundle t p).isSome = true ∨ (8 ≤ p.val ∧ s.hasSpace t p f.toNat = false))) ∧
    (∃ (t : Tile) (p : Fin 15) (f : BitVec 288) (s u : State), seamBundle t p = none ∧ (8 ≤ p.val → s.hasSpace t p f.toNat = true) ∧ s.popArriving
      t p f.toNat = u ∧ bitAt (u.portsPresent t) p = true ∧ bitAt (u.router t).shut p = true) ∧
    (∃ (t : Tile) (p : Fin 15) (f : BitVec 288) (s u : State), seamBundle t p = none ∧ (8 ≤ p.val → s.hasSpace t p f.toNat = true) ∧ s.popArriving
      t p f.toNat = u ∧ bitAt (u.portsPresent t) p = true ∧ bitAt (u.router t).shut p = false ∧ (checkFlit (fun v => decide (tget 0 (u.router
      t).cur (8 * p + v) ≠ 0)) f.toNat).1 = .bad) ∧
    (∃ (t : Tile) (p : Fin 15) (f : BitVec 288) (s u : State), seamBundle t p = none ∧ (8 ≤ p.val → s.hasSpace t p f.toNat = true) ∧ s.popArriving
      t p f.toNat = u ∧ bitAt (u.portsPresent t) p = true ∧ bitAt (u.router t).shut p = false ∧ checkFlit (fun v => decide (tget 0 (u.router t).cur
      (8 * p + v) ≠ 0)) f.toNat = (.clean, f.toNat) ∧ flitHead f.toNat = true ∧ (u.routeHead t p f.toNat).1 ≠ 15) ∧
    (∃ (t : Tile) (p : Fin 15) (f : BitVec 288) (s u : State) (o : Nat), seamBundle t p = none ∧ (8 ≤ p.val → s.hasSpace t p f.toNat = true) ∧
      s.popArriving t p f.toNat = u ∧ bitAt (u.portsPresent t) p = true ∧ bitAt (u.router t).shut p = false ∧ checkFlit (fun v => decide (tget 0
      (u.router t).cur (8 * p + v) ≠ 0)) f.toNat = (.clean, f.toNat) ∧ flitHead f.toNat = false ∧ flitTail f.toNat = false ∧ tget 0 (u.router
      t).cur (8 * p + flitVc f.toNat) = o + 1 ∧ o ≠ 15) ∧
    (∃ (t : Tile) (out : Fin 15) (s : State) (k v : Nat) (f : Flit) (rest : List Flit), s.portOn t out = true ∧ k < 128 ∧ s.grantable t out k =
      some v ∧ (∀ x < 128, x ≠ k → s.grantable t out x = none) ∧ tget [] (s.router t).bufs k = f :: rest ∧ v / 2 = 3) ∧
    (∃ (t : Tile) (out : Fin 15) (s : State) (k v n : Nat) (f : Flit) (rest : List Flit), s.portOn t out = true ∧ k < 128 ∧ s.grantable t out k =
      some v ∧ (∀ x < 128, x ≠ k → s.grantable t out x = none) ∧ tget [] (s.router t).bufs k = f :: rest ∧ v / 2 < 3 ∧ tget 0 (s.router t).wrr (4 *
      out + v / 2) = n + 1) ∧
    (∃ (t : Tile) (p v : Fin 8) (s : State), tget 0 (s.router t).credit (8 * p + v) = 0) ∧
    (∃ (t : Tile) (p v : Fin 8) (s : State) (n : Nat), tget 0 (s.router t).credit (8 * p + v) = n + 1 ∧ Tbl.wf (fun _ => Router.init) s.net.routers
      = true) ∧
    (∃ (r : Req) (s : State) (t v : Nat), s.grantsWrite r .rtrApply t 0 v) ∧
    (∃ (t : Tile) (p : Fin 15) (s : State), bitAt (s.router t).applying p = true ∧ (s.router t).idleOut p = true) ∧
    (∃ (t : Tile) (p : Fin 15) (s : State), bitAt (s.router t).applying p = true) ∧
    (∃ (t : Tile) (dir : Fin 4) (s : State), s.maltarRuns = true ∧ s.net.avoid.contains (linkId t dir) = true ∧ s.noOld (linkId t dir) = true) ∧
    (∃ (r : Router), r ≠ Router.init) ∧
    (∃ (t p v : Nat) (s : State), p < 8 ∧ v < 8 ∧ Tbl.wf (fun _ => Router.init) s.net.routers = true ∧ Tbl.wf (fun _ => 0) (s.router t).used = true
      ∧ t ≠ neighbor t (p % 4)) :=
  ⟨⟨14, 1, 0, State.reset, .inl (by decide +kernel)⟩,
   ⟨34, 0, 3, { State.reset with net.routers := [(34, { Router.init with shut := 1 })] }, _, by decide +kernel, fun h => absurd h (by decide), rfl,
     by decide +kernel⟩,
   ⟨34, 0, 3, State.reset, _, by decide +kernel, fun h => absurd h (by decide), rfl, by decide +kernel⟩,
   ⟨34, 8, 372992509403931250873719241425082552102762133295618697450505263794198194436483013672960, ((inMode .run).setReg .rtrLinkEn 34 0 0x100),
     _, by decide +kernel, fun _ => by decide +kernel, rfl, by decide +kernel⟩,
   ⟨34, 8, 124330899651860444120110383269215486819057978956464937891037073079120568441200722313216,
     { ((inMode .run).setReg .rtrLinkEn 34 0 0x100) with net.routers := [(34, { Router.init with cur := [(64, 9)] })] }, _, 8, by decide +kernel,
     fun _ => by decide +kernel, rfl, by decide +kernel⟩,
   ⟨34, 8,
     { ((inMode .run).setReg .rtrLinkEn 34 0 0x100) with net.routers := [(34, { Router.init with bufs := [(70, [⟨466240534134174977020670857640783088461870993601702266531432355486238538515924106870784, 8⟩])] })] },
     70, 6, _, [], by decide +kernel, by decide +kernel, by decide +kernel, by decide +kernel, rfl, by decide +kernel⟩,
   ⟨34, 8,
     { ((inMode .run).setReg .rtrLinkEn 34 0 0x100) with net.routers := [(34, { Router.init with bufs := [(66, [⟨404075129582951646751248076622430483449313974752033801851374358374593601389357434929152, 8⟩])], wrr := [(33, 2)] })] },
     66, 2, 1, _, [], by decide +kernel, by decide +kernel, by decide +kernel, by decide +kernel, rfl, by decide +kernel⟩,
   ⟨34, 7, 7, State.reset, by decide +kernel⟩,
   ⟨34, 3, 6, { State.reset with net.routers := [(34, { Router.init with credit := [(30, 2)] })] }, 1, by decide +kernel⟩,
   ⟨(regReq .write .rtrApply 1023 0 0x80007FFF), (withReq State.reset (regReq .write .rtrApply 1023 0 0x80007FFF)), 1023, 0x80007FFF,
     by unfold State.grantsWrite; decide +kernel⟩,
   ⟨34, 14, { State.reset with net.routers := [(34, { Router.init with applying := 2 ^ 14 })] }, by decide +kernel⟩,
   ⟨34, 14, { State.reset with net.routers := [(34, { Router.init with applying := 2 ^ 14 })] }, by decide +kernel⟩,
   ⟨34, 1, { inMode .run with net.avoid := [linkId 34 1] }, by decide +kernel⟩,
   ⟨{ Router.init with lost := 1 }, by decide +kernel⟩,
   ⟨34, 0, 0, State.reset, by decide +kernel⟩⟩

theorem witness_NetworkInterface :
    (∃ (t : Tile) (op : Fin 5) (a : NetAddr) (size : Fin 256) (rt : Bool) (join : Bool) (s u p : State) (r : Req), s.portRuns t .ni 0 = true ∧
      s.portEdge t .ni 0 join = u ∧ u.preEdge = p ∧ p.senseBit t .ni .rqoValid 0 true = true ∧ p.rqoRoom t = true ∧ (p.ni t).rqo = none ∧ p.rqoReq
      t op a size rt = r ∧ payloadLen r.op r.size ≤ 32) ∧
    (∃ (t : Tile) (op : Fin 5) (a : NetAddr) (size : Fin 256) (rt : Bool) (join : Bool) (s u p : State) (r : Req), s.portRuns t .ni 0 = true ∧
      s.portEdge t .ni 0 join = u ∧ u.preEdge = p ∧ p.senseBit t .ni .rqoValid 0 true = true ∧ p.rqoRoom t = true ∧ (p.ni t).rqo = none ∧ p.rqoReq
      t op a size rt = r ∧ 32 < payloadLen r.op r.size) ∧
    (∃ (t : Nat) (s : State), s.niShut t = true) ∧
    (∃ (t : Nat) (r : Req) (s : State) (code : Nat), s.niShut t = false ∧ ((s.decodeDst (niOf r.src / 256) r.addr = none ∧ code = svcAddress) ∨ (∃
      dst dport, s.decodeDst (niOf r.src / 256) r.addr = some (dst, dport) ∧ reqShape r.op r.addr r.size = false ∧ code = svcAddress) ∨ (∃ dst
      dport, s.decodeDst (niOf r.src / 256) r.addr = some (dst, dport) ∧ reqShape r.op r.addr r.size = true ∧ s.routed r.src dst = false ∧ code =
      svcUnroutable))) ∧
    (∃ (t dst dport : Nat) (r : Req) (s : State), s.niShut t = false ∧ s.decodeDst (niOf r.src / 256) r.addr = some (dst, dport) ∧ reqShape r.op
      r.addr r.size = true ∧ s.routed r.src dst = true ∧ s.hasTag r = true) ∧
    (∃ (r : Resp) (s : State), s.net.resps.contains r = true ∧ s.holds r = false ∧ s.findOut r.src r.sport r.tag r.gen = none) ∧
    (∃ (r : Resp) (s : State) (o : Outst), s.net.resps.contains r = true ∧ s.holds r = false ∧ s.findOut r.src r.sport r.tag r.gen = some o ∧
      r.crcOk = true) ∧
    (∃ (r : Resp) (s : State) (o : Outst), s.net.resps.contains r = true ∧ s.holds r = true ∧ s.findOut r.src r.sport r.tag r.gen = some o ∧
      s.isKept r.src r.tag r.gen = false) ∧
    (∃ (src : Fin 1088) (sport : Fin 8) (tag : Fin 128) (gen : Fin 16) (s : State) (o : Outst), s.findOut src sport tag gen = some o ∧ s.holds
      ⟨src, sport, tag, gen, svcTimeout, [], false, true⟩ = false ∧ s.isKept src tag gen = false) ∧
    (∃ (src : Fin 1088) (tag : Fin 128) (gen : Fin 16) (s : State) (o : Outst), s.findOut src 0 tag gen = some o ∧ s.pw.mode = .hold ∧ src.val <
      1024 ∧ s.niSinks src = false ∧ s.isKept src tag gen = false) ∧
    (∃ (r : Req) (s : State) (g : Rg) (i j v : Nat), s.grantsWrite r g i j v ∧ 0x7F0000000000 ≤ r.addr ∧ r.addr < 0x800000000000) ∧
    (∃ (r : Req) (s : State) (t j v : Nat), s.grantsWrite r .routeCtl t j v ∧ tget 0 (s.ni t).stageLo j = 0 ∧ tget 0 (s.ni t).stageHi j = 0) ∧
    (∃ (r : Req) (s : State) (t o tid : Nat), aperture r.addr = some (t, o) ∧ 0x800000 ≤ o ∧ s.net.reqs.contains r = true ∧ r.crcOk = true ∧
      s.mayReach r.rq t = true ∧ s.niFenced t = false ∧ s.inHold = false ∧ (s.tcfg t).tqiOn = true ∧ freeTid (s.ni t).tqi = some tid) ∧
    (∃ (r : Req) (s : State) (t o : Nat), aperture r.addr = some (t, o) ∧ 0x200000 ≤ o ∧ o < 0x800000 ∧ s.net.reqs.contains r = true ∧ r.crcOk =
      true) ∧
    (∃ (t : Tile) (tid : Fin 32) (join : Bool) (s u p : State), s.portRuns t .ni 0 = true ∧ s.portEdge t .ni 0 join = u ∧ u.preEdge = p ∧
      p.senseBit t .ni .tsoValid 0 true = true ∧ (p.ni t).tso = none ∧ p.tsoLen t (p.sense t .ni .tsoTid 5 tid) ≤ 32) ∧
    (∃ (t tid : Nat) (s : State) (q : Tqi), (s.ni t).tqi.find? (fun q => q.tid = tid) = some q) ∧
    (∃ (t tid : Nat) (s : State), (s.ni t).tqi.find? (fun q => q.tid = tid) = none) ∧
    (∃ (h : Header) (vc : Nat) (data : List Byte), h.codes < 2 ^ 64 ∧ h.start < 8 ∧ h.hop < 64 ∧ h.op < 16 ∧ h.svc < 16 ∧ h.tenant < 8 ∧ h.mclass <
      8 ∧ h.sport < 8 ∧ h.dport < 8 ∧ h.src < 2048 ∧ h.dst < 2048 ∧ h.tag < 64 ∧ h.gen < 16 ∧ h.size < 256 ∧ h.addr < 2 ^ 48 ∧ vc < 8 ∧ data.length
      ≤ 256) ∧
    (∃ (vc : Nat) (data : List Byte), vc < 8 ∧ data.length ≤ 256) :=
  ⟨⟨34, 0, 0, 0, false, false, (clocked TileCfg.blank), _, _, _, by decide +kernel, rfl, rfl, by decide +kernel, by decide +kernel,
     by decide +kernel, rfl, by decide +kernel⟩,
   ⟨34, 1, 0, 255, false, false, (clocked TileCfg.blank), _, _, _, by decide +kernel, rfl, rfl, by decide +kernel, by decide +kernel,
     by decide +kernel, rfl, by decide +kernel⟩,
   ⟨34, { State.reset with pw := (inMode .hold).pw }, by decide +kernel⟩,
   ⟨34, (mkReq .read 0x1FFFFFFFFFFF 4 0 0 34 0 []), (inMode .run), svcAddress, by decide +kernel, .inl (by decide +kernel)⟩,
   ⟨34, 1024, 1, (mkReq .read 0 4 0 0 34 0 []), { clocked TileCfg.blank with net.routeOv := [(34 * 1088 + 1024, some (0, 0, 2 ^ 31, []))] },
     by decide +kernel⟩,
   ⟨⟨34, 0, 0, 0, 0, [], false, true⟩, { State.reset with net.resps := [⟨34, 0, 0, 0, 0, [], false, true⟩] }, by decide +kernel⟩,
   ⟨⟨34, 0, 0, 0, 0, [], false, true⟩, withResp (inMode .run) (.fabric 0) (mkReq .read 0 4 0 0 34 0 []) ⟨34, 0, 0, 0, 0, [], false, true⟩, _,
     by decide +kernel, by decide +kernel, rfl, by decide +kernel⟩,
   ⟨⟨34, 0, 0, 0, 0, [], false, true⟩, withResp (inMode .hold) (.fabric 0) (mkReq .read 0 4 0 0 34 0 []) ⟨34, 0, 0, 0, 0, [], false, true⟩, _,
     by decide +kernel, by decide +kernel, rfl, by decide +kernel⟩,
   ⟨34, 0, 0, 0, withResp (inMode .run) (.fabric 0) (mkReq .read 0 4 0 0 34 0 []) ⟨34, 0, 0, 0, 0, [], false, true⟩, _, rfl, by decide +kernel⟩,
   ⟨34, 0, 0, withResp (inMode .hold) (.fabric 0) (mkReq .read 0 4 0 0 34 0 []) ⟨34, 0, 0, 0, 0, [], false, true⟩, _, rfl, by decide +kernel⟩,
   ⟨(regReq .write .qCtl 1023 3 0), (withReq State.reset (regReq .write .qCtl 1023 3 0)), .qCtl, 1023, 3, 0,
     by unfold State.grantsWrite; decide +kernel, by decide +kernel⟩,
   ⟨(regReq .write .routeCtl 1023 1087 0x80000000), (withReq State.reset (regReq .write .routeCtl 1023 1087 0x80000000)), 1023, 1087, 0x80000000,
     by unfold State.grantsWrite; decide +kernel, by decide +kernel⟩,
   ⟨mkReq .read (0x400022000000 + 0xFFFFF0) 4 0 4 0 0 [],
     withReq (clocked { TileCfg.blank with tqiOn := true }) (mkReq .read (0x400022000000 + 0xFFFFF0) 4 0 4 0 0 []), 34, 0xFFFFF0, 0,
     by decide +kernel⟩,
   ⟨mkReq .read (0x400022000000 + 0x7FFFFC) 4 0 4 0 0 [], withReq (inMode .run) (mkReq .read (0x400022000000 + 0x7FFFFC) 4 0 4 0 0 []), 34,
     0x7FFFFC, by decide +kernel⟩,
   ⟨34, 31, false,
     { clocked TileCfg.blank with net.nis := [(34, { Ni.init with tqi := [⟨31, mkReq .read (0x400022000000 + 0x800000) 4 0 4 0 0 [], true, 0⟩] })] },
     _, _, by decide +kernel, rfl, rfl, by decide +kernel⟩,
   ⟨34, 31,
     { clocked TileCfg.blank with net.nis := [(34, { Ni.init with tqi := [⟨31, mkReq .read (0x400022000000 + 0x800000) 4 0 4 0 0 [], true, 0⟩] })] },
     ⟨31, mkReq .read (0x400022000000 + 0x800000) 4 0 4 0 0 [], true, 0⟩, by decide +kernel⟩,
   ⟨34, 31, State.reset, by decide +kernel⟩,
   ⟨⟨2 ^ 64 - 1, 7, 63, true, true, true, 15, 15, 7, 7, 7, 7, 2047, 2047, 63, 15, 255, 0, 2 ^ 48 - 1, 0⟩, 7, List.replicate 256 0,
     by decide +kernel⟩,
   ⟨7, [], by decide +kernel⟩⟩

theorem witness_RefusedRegisterAccess :
    (∃ (r : Req) (s : State), s.net.reqs.contains r = true ∧ r.crcOk = true ∧ 0x7F0000000000 ≤ r.addr ∧ r.addr < 0x800000000000 ∧ regsAt r.addr
      r.size = none) ∧
    (∃ (r : Req) (s : State) (g : Rg) (i j : Nat), s.net.reqs.contains r = true ∧ r.crcOk = true ∧ 0x7F0000000000 ≤ r.addr ∧ r.addr <
      0x800000000000 ∧ regsAt r.addr r.size = some [(g, i, j)] ∧ g.perPath = false ∧ r.op = .write ∧ (s.takeReq r).regRight r.rq true g i j (leAt
      r.data 0 4) = false) ∧
    (∃ (r : Req) (s : State) (g : Rg) (i j : Nat), s.net.reqs.contains r = true ∧ r.crcOk = true ∧ 0x7F0000000000 ≤ r.addr ∧ r.addr <
      0x800000000000 ∧ regsAt r.addr r.size = some [(g, i, j)] ∧ g.perPath = false ∧ g.info.blk = .tile ∧ 0x8000 ≤ g.info.off ∧ (s.takeReq
      r).niFenced i = true ∧ r.op = .write ∧ (s.takeReq r).regRight r.rq true g i j (leAt r.data 0 4) = true) ∧
    (∃ (r : Req) (s : State), s.net.reqs.contains r = true ∧ r.crcOk = false ∧ 0x7F0000000000 ≤ r.addr ∧ r.addr < 0x800000000000) :=
  ⟨⟨mkReq .read 0x7F0000000002 4 0 4 0 0 [], withReq State.reset (mkReq .read 0x7F0000000002 4 0 4 0 0 []), by decide +kernel⟩,
   ⟨{ regReq .write .hbmCtl 0 0 0 with mclass := 0, tenant := 1 },
     withReq State.reset { regReq .write .hbmCtl 0 0 0 with mclass := 0, tenant := 1 }, .hbmCtl, 0, 0, by decide +kernel⟩,
   ⟨(regReq .write .qCtl 34 3 0),
     (withReq (State.setF { clocked TileCfg.blank with rgn := ⟨[], [(34, 6)], []⟩ } F.regionStatus_state 0 5 1) (regReq .write .qCtl 34 3 0)),
     .qCtl, 34, 3, by decide +kernel⟩,
   ⟨{ regReq .write .qCtl 34 3 0 with crcOk := false }, withReq State.reset { regReq .write .qCtl 34 3 0 with crcOk := false }, by decide +kernel⟩⟩

theorem witness_QueueAccess :
    (∃ (t : Tile) (n : QNum) (data : Word64) (last poison join : Bool) (s u p : State) (k v : Nat) (b : Bool), k = 4 * t.val + n.val ∧ s.qProd k =
      1 ∧ s.qOn k = true ∧ s.portRuns t (.queue n) 0 = true ∧ s.portEdge t (.queue n) 0 join = u ∧ u.preEdge = p ∧ 0 < (p.pq k).space ∧ 0 < (u.pq
      k).space ∧ p.senseBit t (.queue n) .pvalid 0 true = true ∧ p.senseBit t (.queue n) .pabort 0 false = false ∧ p.senseBit t (.queue n) .plast 0
      last = true ∧ p.sense t (.queue n) .pdata 64 data.toNat = v ∧ p.senseBit t (.queue n) .ppoison 0 poison = b) ∧
    (∃ (t : Tile) (n : QNum) (data : Word64) (last poison join : Bool) (s u p : State) (k v : Nat) (b : Bool), k = 4 * t.val + n.val ∧ s.qProd k =
      1 ∧ s.qOn k = true ∧ s.portRuns t (.queue n) 0 = true ∧ s.portEdge t (.queue n) 0 join = u ∧ u.preEdge = p ∧ 0 < (p.pq k).space ∧ 0 < (u.pq
      k).space ∧ p.senseBit t (.queue n) .pvalid 0 true = true ∧ p.senseBit t (.queue n) .pabort 0 false = false ∧ p.senseBit t (.queue n) .plast 0
      last = false ∧ p.sense t (.queue n) .pdata 64 data.toNat = v ∧ p.senseBit t (.queue n) .ppoison 0 poison = b ∧ (u.pq k).unc.length < 1023) ∧
    (∃ (t : Tile) (n : QNum) (s : State) (k : Nat), k = 4 * t.val + n.val ∧ (s.qProd k ≠ 1 ∨ s.qOn k = false ∨ s.portRuns t (.queue n) 0 = false)) ∧
    (∃ (t : Tile) (n : QNum) (join : Bool) (s u p : State) (k : Nat), k = 4 * t.val + n.val ∧ s.qProd k = 1 ∧ s.qOn k = true ∧ s.portRuns t (.queue
      n) 0 = true ∧ s.portEdge t (.queue n) 0 join = u ∧ u.preEdge = p ∧ p.senseBit t (.queue n) .pvalid 0 true = true ∧ p.senseBit t (.queue n)
      .pabort 0 false = true ∧ (u.pq k).unc ≠ []) ∧
    (∃ (t : Tile) (n : QNum) (join : Bool) (s u : State) (k : Nat), k = 4 * t.val + n.val ∧ s.qProd k = 1 ∧ s.qOn k = true ∧ s.portRuns t (.queue
      n) 0 = true ∧ s.portEdge t (.queue n) 0 join = u ∧ u.preEdge.senseBit t (.queue n) .pabort 0 true = true ∧ (u.pq k).unc ≠ []) ∧
    (∃ (t : Tile) (n : QNum) (join : Bool) (s u : State) (k : Nat) (w : QWord) (l : List QWord), k = 4 * t.val + n.val ∧ s.qCons k = 1 ∧ s.portRuns
      t (.queue n) 1 = true ∧ s.portEdge t (.queue n) 1 join = u ∧ u.preEdge.senseBit t (.queue n) .cread 0 true = true ∧ (u.pq k).vis = w :: l ∧
      w.deliver.2 = false) ∧
    (∃ (t : Tile) (n : QNum) (join : Bool) (s u : State) (k : Nat), k = 4 * t.val + n.val ∧ s.qCons k = 1 ∧ s.portRuns t (.queue n) 1 = true ∧
      s.portEdge t (.queue n) 1 join = u ∧ u.preEdge.senseBit t (.queue n) .cread 0 true = true ∧ (u.pq k).vis = []) ∧
    (∃ (t : Tile) (n : QNum) (s : State) (k : Nat) (w : List QWord) (l : List (List QWord)), k = 4 * t.val + n.val ∧ (s.pq k).transit = w :: l) ∧
    (∃ (s : State), Tbl.wf (fun _ => PQ.init) s.pqs = true) ∧
    (∃ (r : Req) (s : State) (t n k v : Nat), s.grantsWrite r .qPushLo t n v ∧ k = 4 * t + n ∧ s.qProd k = 3 ∧ s.qOn k = true) ∧
    (∃ (r : Req) (s : State) (t n k v : Nat), s.grantsWrite r .qPushLastLo t n v ∧ k = 4 * t + n ∧ s.qProd k = 3 ∧ s.qOn k = true) ∧
    (∃ (r : Req) (s : State) (t n k v : Nat), s.grantsWrite r .qPushHi t n v ∧ k = 4 * t + n ∧ s.qProd k = 3 ∧ s.qOn k = true ∧ (s.pq k).space ≠ 0) ∧
    (∃ (r : Req) (s : State) (t n k v : Nat), s.grantsWrite r .qPushLastHi t n v ∧ k = 4 * t + n ∧ s.qProd k = 3 ∧ s.qOn k = true ∧ (s.pq k).space
      ≠ 0) ∧
    (∃ (r : Req) (s : State) (t n k v : Nat), s.grantsWrite r .qPushAbort t n v ∧ k = 4 * t + n ∧ s.qProd k = 3 ∧ s.qOn k = true ∧ v % 2 = 1) ∧
    (∃ (r : Req) (s : State) (t n k : Nat) (w : QWord) (l : List QWord), s.grantsRead r .qPopLo t n ∧ k = 4 * t + n ∧ s.qCons k = 3 ∧ (s.pq k).vis
      = w :: l ∧ w.deliver.2 = false) ∧
    (∃ (r : Req) (s : State) (t n v : Nat), s.grantsWrite r .qCtl t n v ∧ bitAt v 30 = true) ∧
    (∃ (r : Req) (s : State) (t n v : Nat), s.grantsWrite r .qCtl t n v) ∧
    (∃ (n v : Nat), n < 4 ∧ bitAt v 30 = false ∧ bitAt v 31 = true) ∧
    (∃ (n v : Nat), n < 4 ∧ bitAt v 30 = true ∧ bitAt v 31 = true) :=
  ⟨⟨34, 3, 2 ^ 64 - 1, true, false, false,
     (State.setF (clocked { TileCfg.blank with prod := [0, 0, 0, 1], cons := [0, 0, 0, 0] }) F.qCtl_enable 34 3 1), _, _, 139, _, _,
     by decide +kernel, by decide +kernel, by decide +kernel, by decide +kernel, rfl, rfl, by decide +kernel, by decide +kernel, by decide +kernel,
     by decide +kernel, by decide +kernel, rfl, rfl⟩,
   ⟨34, 3, 5, false, true, false, (State.setF (clocked { TileCfg.blank with prod := [0, 0, 0, 1], cons := [0, 0, 0, 0] }) F.qCtl_enable 34 3 1), _,
     _, 139, _, _, by decide +kernel, by decide +kernel, by decide +kernel, by decide +kernel, rfl, rfl, by decide +kernel, by decide +kernel,
     by decide +kernel, by decide +kernel, by decide +kernel, rfl, rfl, by decide +kernel⟩,
   ⟨34, 3, State.reset, 139, by decide +kernel, .inl (by decide +kernel)⟩,
   ⟨34, 3, false,
     { (State.setF (clocked { TileCfg.blank with prod := [0, 0, 0, 1], cons := [0, 0, 0, 0], nets := [(.pin 34 (.queue 3) .pabort 0, .seg 34 264 1 4 0), (.seg 34 264 1 4 0, .dest 34 264 139)], xbar := [(264 * 163 + 139, 3)], ffs := [((264 * 16) * 2, ⟨0, 0, 4, 0, .none, false⟩)] }) F.qCtl_enable 34 3 1) with pqs := [(139, { PQ.init with unc := [⟨1, false, true, false, false, false⟩] })], fab.ffs := [((34 * 768 + 264) * 32, some true)] },
     _, _, 139, by decide +kernel, by decide +kernel, by decide +kernel, by decide +kernel, rfl, rfl, by decide +kernel⟩,
   ⟨34, 3, false,
     { (State.setF (clocked { TileCfg.blank with prod := [0, 0, 0, 1], cons := [0, 0, 0, 0] }) F.qCtl_enable 34 3 1) with pqs := [(139, { PQ.init with unc := [⟨1, false, true, false, false, false⟩] })] },
     _, 139, by decide +kernel, by decide +kernel, by decide +kernel, by decide +kernel, rfl, by decide +kernel⟩,
   ⟨34, 3, false,
     { (State.setF (clocked { TileCfg.blank with prod := [0, 0, 0, 0], cons := [0, 0, 0, 1] }) F.qCtl_enable 34 3 1) with pqs := [(139, { PQ.init with vis := [⟨1, false, true, false, false, false⟩] })] },
     _, 139, ⟨1, false, true, false, false, false⟩, [], by decide +kernel, by decide +kernel, by decide +kernel, rfl, by decide +kernel⟩,
   ⟨34, 3, false,
     { (State.setF (clocked { TileCfg.blank with prod := [0, 0, 0, 0], cons := [0, 0, 0, 1] }) F.qCtl_enable 34 3 1) with pqs := [(139, { PQ.init with cunder := true })] },
     _, 139, by decide +kernel, by decide +kernel, by decide +kernel, rfl, by decide +kernel⟩,
   ⟨34, 3, { State.reset with pqs := [(139, { PQ.init with transit := [[⟨1, false, true, false, false, false⟩]] })] }, 139,
     [⟨1, false, true, false, false, false⟩], [], by decide +kernel⟩,
   ⟨State.reset, by decide +kernel⟩,
   ⟨(regReq .write .qPushLo 34 3 0xFFFFFFFF),
     withReq ({ (State.setF (clocked { TileCfg.blank with prod := [0, 0, 0, 3], cons := [0, 0, 0, 0] }) F.qCtl_enable 34 3 1) with pqs := [(139, { PQ.init with rd := 1 })] }) (regReq .write .qPushLo 34 3 0xFFFFFFFF),
     34, 3, 139, 0xFFFFFFFF, by unfold State.grantsWrite; decide +kernel, by decide +kernel⟩,
   ⟨(regReq .write .qPushLastLo 34 3 0xFFFFFFFF),
     withReq ({ (State.setF (clocked { TileCfg.blank with prod := [0, 0, 0, 3], cons := [0, 0, 0, 0] }) F.qCtl_enable 34 3 1) with pqs := [(139, { PQ.init with rd := 1 })] }) (regReq .write .qPushLastLo 34 3 0xFFFFFFFF),
     34, 3, 139, 0xFFFFFFFF, by unfold State.grantsWrite; decide +kernel, by decide +kernel⟩,
   ⟨(regReq .write .qPushHi 34 3 5),
     withReq ({ (State.setF (clocked { TileCfg.blank with prod := [0, 0, 0, 3], cons := [0, 0, 0, 0] }) F.qCtl_enable 34 3 1) with pqs := [(139, { PQ.init with rd := 1 })] }) (regReq .write .qPushHi 34 3 5),
     34, 3, 139, 5, by unfold State.grantsWrite; decide +kernel, by decide +kernel⟩,
   ⟨(regReq .write .qPushLastHi 34 3 5),
     withReq ({ (State.setF (clocked { TileCfg.blank with prod := [0, 0, 0, 3], cons := [0, 0, 0, 0] }) F.qCtl_enable 34 3 1) with pqs := [(139, { PQ.init with rd := 1 })] }) (regReq .write .qPushLastHi 34 3 5),
     34, 3, 139, 5, by unfold State.grantsWrite; decide +kernel, by decide +kernel⟩,
   ⟨(regReq .write .qPushAbort 34 3 1),
     withReq ({ (State.setF (clocked { TileCfg.blank with prod := [0, 0, 0, 3], cons := [0, 0, 0, 0] }) F.qCtl_enable 34 3 1) with pqs := [(139, { PQ.init with rd := 1 })] }) (regReq .write .qPushAbort 34 3 1),
     34, 3, 139, 1, by unfold State.grantsWrite; decide +kernel, by decide +kernel⟩,
   ⟨(regReq .read .qPopLo 34 3 0),
     withReq ({ (State.setF (clocked { TileCfg.blank with prod := [0, 0, 0, 0], cons := [0, 0, 0, 3] }) F.qCtl_enable 34 3 1) with pqs := [(139, { PQ.init with vis := [⟨1, false, true, false, false, false⟩] })] }) (regReq .read .qPopLo 34 3 0),
     34, 3, 139, ⟨1, false, true, false, false, false⟩, [], by unfold State.grantsRead; decide +kernel, by decide +kernel⟩,
   ⟨(regReq .write .qCtl 34 3 0x40000000),
     withReq ({ (State.setF (clocked { TileCfg.blank with prod := [0, 0, 0, 3], cons := [0, 0, 0, 0] }) F.qCtl_enable 34 3 1) with pqs := [(139, { PQ.init with rd := 1 })] }) (regReq .write .qCtl 34 3 0x40000000),
     34, 3, 0x40000000, by unfold State.grantsWrite; decide +kernel, by decide +kernel⟩,
   ⟨(regReq .write .qCtl 34 3 0x80000000),
     withReq ({ (State.setF (clocked { TileCfg.blank with prod := [0, 0, 0, 3], cons := [0, 0, 0, 0] }) F.qCtl_enable 34 3 1) with pqs := [(139, { PQ.init with rd := 1 })] }) (regReq .write .qCtl 34 3 0x80000000),
     34, 3, 0x80000000, by unfold State.grantsWrite; decide +kernel⟩,
   ⟨3, 0x80000000, by decide +kernel⟩,
   ⟨3, 0xC0000000, by decide +kernel⟩⟩

theorem witness_EventLines :
    (∃ (r : Req) (s : State) (w v : Nat), s.grantsWrite r .evRaise 0 w v) ∧
    (∃ (t : Tile) (n : Fin 8) (join : Bool) (s u : State) (l : Nat), (s.tcfg t).raise.getD n 256 = l ∧ l < 256 ∧ s.portRuns t .events n = true ∧
      s.portEdge t .events n join = u ∧ u.preEdge.senseBit t .events .raise n true = true ∧ u.lineOwner l = u.tileTenant t ∧ u.cutOff (t / 256) =
      true ∧ u.pw.mode ≠ .run) ∧
    (∃ (t : Tile) (n : Fin 8) (join : Bool) (s u : State) (l : Nat), (s.tcfg t).raise.getD n 256 = l ∧ l < 256 ∧ s.portRuns t .events n = true ∧
      s.portEdge t .events n join = u ∧ u.preEdge.senseBit t .events .raise n true = true ∧ u.lineOwner l = u.tileTenant t ∧ u.ctrlRing = true ∧
      Tbl.wf (fun _ => Bundle.init) u.seams.bundles = true) ∧
    (∃ (t : Tile) (n : Fin 8) (join : Bool) (s u : State) (l : Nat), (s.tcfg t).raise.getD n 256 = l ∧ l < 256 ∧ s.portRuns t .events n = true ∧
      s.portEdge t .events n join = u ∧ u.preEdge.senseBit t .events .raise n true = true ∧ u.lineOwner l ≠ u.tileTenant t) ∧
    (∃ (t : Tile) (n : Fin 8) (s : State), s.portRuns t .events n = false) ∧
    (∃ (s : State) (d e : Nat), s.regsWf = true ∧ s.pw.mode = .run ∧ d < 4 ∧ s.cutOff d = false ∧ e < 4 ∧ (∀ x < 4, s.cutOff x = true ↔ x = e)) ∧
    (∃ (s : State) (x : Nat) (w : List Nat), s.evs.waiting = x :: w) ∧
    (∃ (s : State) (d l : Nat) (w : List Nat), d ≠ 0 ∧ l < 256 ∧ s.evs.waiting = (d * 256 + l) :: (d * 256 + l) :: w) ∧
    (∃ (s : State) (l : Nat) (w : List Nat), l < 256 ∧ s.evs.waiting = l :: l :: w) ∧
    (∃ (t : Tile) (k : Fin 4) (join : Bool) (s u : State), s.portRuns t .events (16 + k) = true ∧ s.portEdge t .events (16 + k) join = u ∧
      u.preEdge.senseBit t .events .evclr k true = true) ∧
    (∃ (t : Tile) (k : Fin 4) (s : State), s.portRuns t .events (16 + k) = false) :=
  ⟨⟨(regReq .write .evRaise 0 7 0x80000000), (withReq State.reset (regReq .write .evRaise 0 7 0x80000000)), 7, 0x80000000,
     by unfold State.grantsWrite; decide +kernel⟩,
   ⟨34, 7, false, { (clocked { TileCfg.blank with raise := (List.replicate 7 0 ++ [255]) }) with pw := { (inMode .rest).pw with step := 6 } }, _,
     255, by decide +kernel, by decide +kernel, by decide +kernel, rfl, by decide +kernel⟩,
   ⟨34, 7, false,
     (State.setF (State.setF (State.setF (State.setF (State.setF (State.setF (State.setF (State.setF (clocked
       { TileCfg.blank with raise := (List.replicate 7 0 ++ [255]) }) F.privStatus_state 0 0x80 1) F.privStatus_state 0 0x180 1) F.privStatus_state
       1 0x80 1) F.privStatus_state 1 0x180 1) F.privStatus_state 2 0x80 1) F.privStatus_state 2 0x180 1) F.privStatus_state 3 0x80 1)
       F.privStatus_state 3 0x180 1),
     _, 255, by decide +kernel, by decide +kernel, by decide +kernel, rfl, by decide +kernel⟩,
   ⟨34, 7, false, State.setReg (clocked { TileCfg.blank with raise := (List.replicate 7 0 ++ [255]) }) .evOwner 0 31 0x10000000, _, 255,
     by decide +kernel, by decide +kernel, by decide +kernel, rfl, by decide +kernel⟩,
   ⟨34, 7, State.reset, by decide +kernel⟩,
   ⟨(State.setF (State.setF (State.setF (State.setF (inMode .run) F.privStatus_state 0 0x180 1) F.privStatus_state 2 0x180 1) F.privStatus_state 2
     0x80 1) F.privStatus_state 3 0x80 1),
     0, 1, by decide +kernel⟩,
   ⟨{ State.reset with evs.waiting := [255] }, 255, [], by decide +kernel⟩,
   ⟨{ State.reset with evs.waiting := [1023, 1023] }, 3, 255, [], by decide +kernel⟩,
   ⟨{ State.reset with evs.waiting := [255, 255] }, 255, [], by decide +kernel⟩,
   ⟨34, 3, false, (clocked TileCfg.blank), _, by decide +kernel, rfl, by decide +kernel⟩,
   ⟨34, 3, State.reset, by decide +kernel⟩⟩

theorem witness_SettingsCommands :
    (∃ (s : State), s.pw.mode = .boot ∧ s.pw.step = 3) ∧
    (∃ (p : Port) (m : Mbox) (s : State) (t n : Nat), s.ready p m 0x700 ∧ s.arg p m 0 2 = t ∧ s.arg p m 2 2 = n ∧ inCatalogue t n = true ∧
      s.portTenant p = 0 ∧ s.arg p m 4 1 = 0) ∧
    (∃ (p : Port) (m : Mbox) (s : State) (t n : Nat) (v : List Byte), s.ready p m 0x701 ∧ s.arg p m 0 2 = t ∧ s.arg p m 2 2 = n ∧ (s.mbox p
      m).payload.drop 8 = v ∧ inCatalogue t n = true ∧ s.portTenant p = 0 ∧ recOk (mergeRecs s.sett.recs s.sett.staged) t n v = true ∧ copyBytes
      (mergeRecs s.sett.raw (stage s.sett.staged t n (some v))) ≤ 65520) ∧
    (∃ (p : Port) (m : Mbox) (s : State) (t n : Nat), s.ready p m 0x702 ∧ s.arg p m 0 2 = t ∧ s.arg p m 2 2 = n ∧ inCatalogue t n = true ∧
      s.portTenant p = 0) ∧
    (∃ (p : Port) (m : Mbox) (s : State), s.ready p m 0x703 ∧ s.portTenant p = 0 ∧ s.sett.missing = false ∧ s.sett.commit = none) ∧
    (∃ (p : Port) (m : Mbox) (s : State), s.ready p m 0x704 ∧ s.portTenant p = 0) ∧
    (∃ (s : State) (l : List SRec), s.sett.commit = some l) ∧
    (∃ (s : State) (l : List SRec) (a : Nat), s.sett.commit = some l ∧ s.sett.area = some a) :=
  ⟨⟨{ State.reset with pw := { Power.init with step := 3 } }, by decide +kernel⟩,
   ⟨4, 0, (withCmd (inMode .run) 0x700 [2, 0, 0, 0, 0]), 2, 0, ready_of (by decide +kernel), by decide +kernel⟩,
   ⟨4, 0, (withCmd (inMode .run) 0x701 ([2] ++ List.replicate 7 0 ++ [2])), 2, 0, [2], ready_of (by decide +kernel), by decide +kernel⟩,
   ⟨4, 0, (withCmd (inMode .run) 0x702 [2, 0, 0, 0]), 2, 0, ready_of (by decide +kernel), by decide +kernel⟩,
   ⟨4, 0, (withCmd (inMode .run) 0x703 []), ready_of (by decide +kernel), by decide +kernel⟩,
   ⟨4, 0, (withCmd (inMode .run) 0x704 []), ready_of (by decide +kernel), by decide +kernel⟩,
   ⟨{ State.reset with sett := ⟨false, some 0, 1, [], [], [], [], some []⟩ }, [], by decide +kernel⟩,
   ⟨{ State.reset with sett := ⟨false, some 1, 1, [], [], [], [], some []⟩ }, [], 1, by decide +kernel⟩⟩

theorem witness_LaneEvents :
    (∃ (l : Lane) (s : State), s.lnSt l = 1) ∧
    (∃ (l : Lane) (s : State), s.lnSt l = 1 ∧ 1 ≤ (s.lane l).mode ∧ (s.lane l).mode ≤ 5 ∧ s.lnOn F.lnState_los l = false) ∧
    (∃ (l : Lane) (s : State), s.lnSt l = 1 ∧ ownMode (s.lane l).mode = true ∧ (s.lane l).entries ≠ [] ∧ (s.lane l).held = none) ∧
    (∃ (l : Lane) (s : State), s.lnSt l = 1 ∧ ownMode (s.lane l).mode = true ∧ (s.lane l).entries ≠ [] ∧ (s.lane l).held = none) ∧
    (∃ (l : Lane) (s : State), s.lnSt l = 1 ∧ ownMode (s.lane l).mode = true ∧ (s.lane l).first = false) ∧
    (∃ (l : Lane) (mode : Fin 16) (fec : Fin 3) (s : State), s.lnSt l = 1 ∧ (s.lane l).mode = 6 ∧ anResolves (s.lnF F.lnAn_abil l) (l.val % 4) mode
      fec = true ∧ mode.val ≠ 3) ∧
    (∃ (l : Lane) (mode : Fin 16) (fec : Fin 3) (s : State), s.lnSt l = 1 ∧ (s.lane l).mode = 6 ∧ anResolves (s.lnF F.lnAn_abil l) (l.val % 4) mode
      fec = true ∧ mode.val = 3 ∧ (∀ n, 1 ≤ n → n ≤ 3 → (s.lane (l.val + n)).mode ≠ 6)) ∧
    (∃ (a : Nat), bitAt a 4 = false ∧ bitAt a 5 = false ∧ bitAt a 6 = false ∧ bitAt a 7 = false ∧ bitAt a 8 = false) ∧
    (∃ (l : Lane) (mode : Fin 16) (fec : Fin 3) (s : State), anResolves (s.lnF F.lnAn_abil l) (l.val % 4) mode fec = false) ∧
    (∃ (l : Lane) (s : State), s.lnSt l = 2 ∧ s.lnF F.lnState_link l ≠ 4 ∧ s.lnF F.lnState_link l ≠ 5) ∧
    (∃ (l : Lane) (s : State), s.lnSt l = 2 ∧ (s.lnF F.lnState_link l = 4 ∨ s.lnF F.lnState_link l = 5)) ∧
    (∃ (w : Nat), bits w 19 16 + bits w 5 0 + bits w 12 8 ≤ 63 ∧ 16 ≤ bits w 5 0) ∧
    (∃ (l : Lane) (s : State), s.lnSt l = 2 ∧ s.lnF F.lnState_link l = 5) ∧
    (∃ (l : Lane) (s : State), s.lnSt l = 3 ∧ s.lnOn F.lnState_lol l = false) ∧
    (∃ (l : Lane) (s : State), s.lnSt l = 3) ∧
    (∃ (l : Lane) (s : State), s.lnSt l = 4) ∧
    (∃ (l : Lane) (s : State), s.lnSt l = 4 ∧ s.lnF F.lnState_link l = 2) ∧
    (∃ (l : Lane) (s : State), s.lnSt l = 5 ∧ (s.lane l).mode ≠ 8) ∧
    (∃ (l : Lane) (w0 w1 w2 w3 : Word64) (s : State), s.lnSt l = 4 ∧ ownMode (s.lane l).mode = true ∧ capOk w0.toNat w1.toNat w2.toNat w3.toNat =
      false) ∧
    (∃ (l : Lane) (w0 w1 w2 w3 : Word64) (s t u : State), s.lnSt l = 4 ∧ ownMode (s.lane l).mode = true ∧ capOk w0.toNat w1.toNat w2.toNat w3.toNat
      = true ∧ (s.setLn .lnPartnerLo l (w1.toNat % 2 ^ 32)).setLn .lnPartnerHi l (w1.toNat / 2 ^ 32) = t ∧ t.setLane l
      { s.lane l with w2 := w1.toNat, valid := if w2.toNat = t.w1 l then (s.lane l).valid + 1 else 0 } = u) ∧
    (∃ (l : Lane) (s : State), (s.lnSt l ≠ 4 ∨ ownMode (s.lane l).mode = false)) ∧
    (∃ (l : Lane) (s : State), s.regsWf = true ∧ s.lnSt l ≠ 0 ∧ s.lnSt l ≠ 5) ∧
    (∃ (l : Lane) (s : State), s.lnSt l ≠ 0) ∧
    (∃ (l : Lane) (s : State), s.regsWf = true ∧ s.lnSt l ≠ 0 ∧ s.lnSt l ≠ 5) ∧
    (∃ (l : Lane) (s : State), s.lnSt l ≠ 0) ∧
    (∃ (l : Lane) (s : State), s.lnSt l = 0) ∧
    (∃ (l : Lane) (b : Bool) (s : State), s.lnOn F.lnState_los l = !b ∧ b = false) ∧
    (∃ (l : Lane) (b : Bool) (s : State), s.lnOn F.lnState_los l = b) :=
  ⟨⟨191, (State.setF (State.setF (State.setF (inMode .run) F.lnState_los 47 3 0) F.lnState_lol 47 3 0) F.lnState_state 47 3 1), by decide +kernel⟩,
   ⟨191,
     { (State.setF (State.setF (State.setF (inMode .run) F.lnState_los 47 3 0) F.lnState_lol 47 3 0) F.lnState_state 47 3 1) with lanes := [(191, { LaneSt.init with mode := 5 })] },
     by decide +kernel⟩,
   ⟨191,
     { (State.setF (State.setF (State.setF (inMode .run) F.lnState_los 47 3 0) F.lnState_lol 47 3 0) F.lnState_state 47 3 1) with lanes := [(191, { LaneSt.init with mode := 9, hunt := [2 ^ 31] })] },
     by decide +kernel⟩,
   ⟨191,
     { (State.setF (State.setF (State.setF (inMode .run) F.lnState_los 47 3 0) F.lnState_lol 47 3 0) F.lnState_state 47 3 1) with lanes := [(191, { LaneSt.init with mode := 7, hunt := [0, 0, 0, 0, 0, 0, 0, 2 ^ 31] })] },
     by decide +kernel⟩,
   ⟨191,
     { (State.setF (State.setF (State.setF (inMode .run) F.lnState_los 47 3 0) F.lnState_lol 47 3 0) F.lnState_state 47 3 1) with lanes := [(191, { LaneSt.init with mode := 8 })] },
     by decide +kernel⟩,
   ⟨191, 4, 0,
     (State.setF ({ (State.setF (State.setF (State.setF (inMode .run) F.lnState_los 47 3 0) F.lnState_lol 47 3 0) F.lnState_state 47 3 1) with lanes := [(191, { LaneSt.init with mode := 6 })] }) F.lnAn_abil 47 3 64),
     by decide +kernel⟩,
   ⟨188, 3, 0,
     State.setF { (State.setF (inMode .run) F.lnState_state 47 0 1) with lanes := [(188, { LaneSt.init with mode := 6 })] } F.lnAn_abil 47 0 32,
     by decide +kernel⟩,
   ⟨0, by decide +kernel⟩,
   ⟨191, 2, 0,
     { (State.setF (State.setF (State.setF (inMode .run) F.lnState_los 47 3 0) F.lnState_lol 47 3 0) F.lnState_state 47 3 1) with lanes := [(191, { LaneSt.init with mode := 6 })] },
     by decide +kernel⟩,
   ⟨191, (State.setF (State.setF (State.setF (inMode .run) F.lnState_los 47 3 0) F.lnState_lol 47 3 0) F.lnState_state 47 3 2), by decide +kernel⟩,
   ⟨191,
     (State.setF (State.setF (State.setF (State.setF (inMode .run) F.lnState_los 47 3 0) F.lnState_lol 47 3 0) F.lnState_state 47 3 2)
       F.lnState_link 47 3 5),
     by decide +kernel, .inr (by decide +kernel)⟩,
   ⟨0x0F0020, by decide +kernel⟩,
   ⟨191,
     (State.setF (State.setF (State.setF (State.setF (inMode .run) F.lnState_los 47 3 0) F.lnState_lol 47 3 0) F.lnState_state 47 3 2)
       F.lnState_link 47 3 5),
     by decide +kernel⟩,
   ⟨191, (State.setF (State.setF (State.setF (inMode .run) F.lnState_los 47 3 0) F.lnState_lol 47 3 0) F.lnState_state 47 3 3), by decide +kernel⟩,
   ⟨191, (State.setF (State.setF (State.setF (inMode .run) F.lnState_los 47 3 0) F.lnState_lol 47 3 0) F.lnState_state 47 3 3), by decide +kernel⟩,
   ⟨191, (State.setF (State.setF (State.setF (inMode .run) F.lnState_los 47 3 0) F.lnState_lol 47 3 0) F.lnState_state 47 3 4), by decide +kernel⟩,
   ⟨191,
     (State.setF (State.setF (State.setF (State.setF (inMode .run) F.lnState_los 47 3 0) F.lnState_lol 47 3 0) F.lnState_state 47 3 4)
       F.lnState_link 47 3 2),
     by decide +kernel⟩,
   ⟨191,
     { (State.setF (State.setF (State.setF (inMode .run) F.lnState_los 47 3 0) F.lnState_lol 47 3 0) F.lnState_state 47 3 5) with lanes := [(191, { LaneSt.init with mode := 4 })] },
     by decide +kernel⟩,
   ⟨191, 0, 0, 0, 0,
     { (State.setF (State.setF (State.setF (inMode .run) F.lnState_los 47 3 0) F.lnState_lol 47 3 0) F.lnState_state 47 3 4) with lanes := [(191, { LaneSt.init with mode := 8 })] },
     by decide +kernel⟩,
   ⟨191, 0xA5A55A5A0F0FF0F0, 5, 0, BitVec.ofNat 64 (crcBits (wordBits 0xA5A55A5A0F0FF0F0 ++ wordBits 5 ++ wordBits 0) * 2 ^ 32),
     { (State.setF (State.setF (State.setF (inMode .run) F.lnState_los 47 3 0) F.lnState_lol 47 3 0) F.lnState_state 47 3 4) with lanes := [(191, { LaneSt.init with mode := 8 })] },
     _, _, by decide +kernel, by decide +kernel, by decide +kernel, rfl, rfl⟩,
   ⟨191, (State.setF (State.setF (State.setF (inMode .run) F.lnState_los 47 3 0) F.lnState_lol 47 3 0) F.lnState_state 47 3 1),
     .inl (by decide +kernel)⟩,
   ⟨191, (State.setF (State.setF (State.setF (inMode .run) F.lnState_los 47 3 0) F.lnState_lol 47 3 0) F.lnState_state 47 3 1), by decide +kernel⟩,
   ⟨191, (State.setF (State.setF (State.setF (inMode .run) F.lnState_los 47 3 0) F.lnState_lol 47 3 0) F.lnState_state 47 3 5), by decide +kernel⟩,
   ⟨191, (State.setF (State.setF (State.setF (inMode .run) F.lnState_los 47 3 0) F.lnState_lol 47 3 0) F.lnState_state 47 3 4), by decide +kernel⟩,
   ⟨191, (State.setF (State.setF (State.setF (inMode .run) F.lnState_los 47 3 0) F.lnState_lol 47 3 0) F.lnState_state 47 3 1), by decide +kernel⟩,
   ⟨191, State.reset, by decide +kernel⟩,
   ⟨191, false,
     (State.setF (State.setF (State.setF (State.setF (inMode .run) F.lnState_los 47 3 0) F.lnState_lol 47 3 0) F.lnState_state 47 3 1)
       F.lnState_los 47 3 1),
     by decide +kernel⟩,
   ⟨191, true,
     (State.setF (State.setF (State.setF (State.setF (inMode .run) F.lnState_los 47 3 0) F.lnState_lol 47 3 0) F.lnState_state 47 3 1)
       F.lnState_los 47 3 1),
     by decide +kernel⟩⟩

theorem witness_LaneControl :
    (∃ (r : Req) (s : State) (q n v : Nat), s.grantsWrite r .lnCtl q n v ∧ bitAt v 30 = true ∧ bitAt v 31 = true) ∧
    (∃ (r : Req) (s : State) (q n v : Nat), s.grantsWrite r .lnCtl q n v ∧ bitAt v 31 = false) ∧
    (∃ (r : Req) (s : State) (q v : Nat), s.grantsWrite r .quadCtl q 0 v ∧ s.quadOff q = false ∧ bitAt v 31 = false) ∧
    (∃ (r : Req) (s : State) (q n v : Nat), s.grantsWrite r .lnTest q n v) ∧
    (∃ (r : Req) (s : State) (q n v : Nat), s.grantsWrite r .lnTest q n v ∧ bitAt v 24 = true) ∧
    (∃ (r : Req) (s : State) (q n v : Nat), s.grantsWrite r .lnTest q n v ∧ bitAt v 23 = true) ∧
    (∃ (r : Req) (s : State) (q n : Nat), n < 4 ∧ s.grantsRead r .lnTxstampNs q n ∧ (s.lane (4 * q + n)).stamps = []) ∧
    (∃ (p : Port) (m : Mbox) (s : State) (l n : Nat), s.ready p m 0x400 ∧ s.arg p m 0 1 = 0 ∧ s.arg p m 1 1 = l ∧ s.arg p m 2 1 = 0 ∧ s.arg p m 4 2
      = n ∧ n < 256 ∧ (s.mbox p m).payload.length = 8 ∧ s.setting 0x0030 n ≠ [] ∧ profileOk (s.setting 0x0030 n) = true ∧ s.portTenant p =
      s.quadTenant (l / 4) ∧ profMode (s.setting 0x0030 n) ≠ 9) ∧
    (∃ (p : Port) (m : Mbox) (s : State) (l : Nat), s.ready p m 0x401 ∧ s.arg p m 0 1 = l ∧ s.portTenant p = s.quadTenant (l / 4)) ∧
    (∃ (p : Port) (m : Mbox) (s : State) (l : Nat), s.ready p m 0x402 ∧ s.arg p m 0 1 = l ∧ s.portTenant p = s.quadTenant (l / 4)) ∧
    (∃ (p : Port) (m : Mbox) (s : State) (l : Nat), s.ready p m 0x403 ∧ s.arg p m 0 1 = 0 ∧ s.arg p m 1 1 = l ∧ s.portTenant p = s.quadTenant (l /
      4)) ∧
    (∃ (p : Port) (m : Mbox) (s : State) (l : Nat), s.ready p m 0x404 ∧ s.arg p m 0 1 = l ∧ s.portTenant p = s.quadTenant (l / 4)) ∧
    (∃ (p : Port) (m : Mbox) (s : State) (l : Nat), s.arg p m 0 1 = l ∧ s.portTenant p ≠ s.quadTenant (l / 4)) :=
  ⟨⟨(regReq .write .lnCtl 47 3 0xD000000A), (withReq State.reset (regReq .write .lnCtl 47 3 0xD000000A)), 47, 3, 0xD000000A,
     by unfold State.grantsWrite; decide +kernel, by decide +kernel⟩,
   ⟨(regReq .write .lnCtl 47 3 0x1000000A), (withReq State.reset (regReq .write .lnCtl 47 3 0x1000000A)), 47, 3, 0x1000000A,
     by unfold State.grantsWrite; decide +kernel, by decide +kernel⟩,
   ⟨(regReq .write .quadCtl 47 0 0),
     (withReq (State.setF (State.setF (State.setF (inMode .run) F.lnState_los 47 3 0) F.lnState_lol 47 3 0) F.lnState_state 47 3 1) (regReq .write
       .quadCtl 47 0 0)),
     47, 0, by unfold State.grantsWrite; decide +kernel, by decide +kernel⟩,
   ⟨(regReq .write .lnTest 47 3 1), (withReq State.reset (regReq .write .lnTest 47 3 1)), 47, 3, 1, by unfold State.grantsWrite; decide +kernel⟩,
   ⟨(regReq .write .lnTest 47 3 0x1000000), (withReq State.reset (regReq .write .lnTest 47 3 0x1000000)), 47, 3, 0x1000000,
     by unfold State.grantsWrite; decide +kernel, by decide +kernel⟩,
   ⟨(regReq .write .lnTest 47 3 0x800000), (withReq State.reset (regReq .write .lnTest 47 3 0x800000)), 47, 3, 0x800000,
     by unfold State.grantsWrite; decide +kernel, by decide +kernel⟩,
   ⟨(regReq .read .lnTxstampNs 47 3 0), withReq State.reset (regReq .read .lnTxstampNs 47 3 0), 47, 3, by decide +kernel,
     by unfold State.grantsRead; decide +kernel, by decide +kernel⟩,
   ⟨4, 0,
     { (withCmd (inMode .run) 0x400 [0, 191, 0, 0, 255, 0, 0, 0]) with sett := ⟨false, some 0, 1, [⟨0x0030, 255, ([0x1000001, 0, 0, 0x8000003F, 0xA0000, 1051140, 0, 64, 0] ++ List.replicate 8 0).flatMap (leBytes 4)⟩], [], [], [], none⟩ },
     191, 255, ready_of (by decide +kernel), by decide +kernel⟩,
   ⟨4, 0, (withCmd (inMode .run) 0x401 [5]), 5, ready_of (by decide +kernel), by decide +kernel⟩,
   ⟨4, 0, (withCmd (inMode .run) 0x402 [5]), 5, ready_of (by decide +kernel), by decide +kernel⟩,
   ⟨4, 0, (withCmd (inMode .run) 0x403 [0, 5]), 5, ready_of (by decide +kernel), by decide +kernel⟩,
   ⟨4, 0, (withCmd (inMode .run) 0x404 [5, 5, 0, 0, 0]), 5, ready_of (by decide +kernel), by decide +kernel⟩,
   ⟨4, 0, asT1 (withCmd (inMode .run) 0x401 [5]), 5, by decide +kernel⟩⟩

theorem witness_LaneFrames :
    (∃ (l : Lane) (s : State), s.macOn l = true) ∧
    (∃ (l : Lane) (bytes : List Byte) (corr bad gap : Nat) (drift : Int) (s u t : State), s.macOn l = true ∧ State.fecCount (s.setLane l
      { s.lane l with rxPart := none }) l corr bad = u ∧ (u.rateMatch l gap drift).1 = t ∧ (u.rateMatch l gap drift).2 = false ∧ t.lnF
      F.lnState_link l = 4 ∧ 64 ≤ bytes.length ∧ bytes.length ≤ t.lnF F.lnMac_maxLen l ∧ fcsOk bytes = true ∧ t.lnOn F.lnMac_stripFcs l = true ∧
      (s.lnF F.lnState_fec l = 0 ∨ bad = 0)) ∧
    (∃ (l : Lane) (bytes : List Byte) (err : Bool) (corr bad gap : Nat) (drift : Int) (s u t : State), s.macOn l = true ∧ State.fecCount (s.setLane
      l { s.lane l with rxPart := none }) l corr bad = u ∧ (u.rateMatch l gap drift).1 = t ∧ (u.rateMatch l gap drift).2 = false ∧ t.lnF
      F.lnState_link l ≠ 8 ∧ bytes.length ≤ t.lnF F.lnMac_maxLen l ∧ (err = true ∨ fcsOk bytes = false ∨ (s.lnF F.lnState_fec l ≠ 0 ∧ bad ≠ 0)) ∧
      t.directRx l = false) ∧
    (∃ (l : Lane) (corr bad gap : Nat) (drift : Int) (s u : State), s.macOn l = true ∧ State.fecCount (s.setLane l
      { s.lane l with rxPart := none }) l corr bad = u ∧ (u.rateMatch l gap drift).2 = true ∧ (u.rateMatch l gap drift).1.directRx l = false) ∧
    (∃ (l : Nat) (s : State), s.lnF F.lnState_fec l ≠ 0) ∧
    (∃ (l : Nat) (s : State), s.lnF F.lnState_fec l = 0) ∧
    (∃ (l : Lane) (s : State), s.lnSt l = 6) ∧
    (∃ (l : Lane) (s : State), s.lnSt l = 6) ∧
    (∃ (l : Lane) (s : State), s.lnSt l = 4 ∧ ownMode (s.lane l).mode = true) ∧
    (∃ (k : Nat) (s : State), (s.qOn k = false ∨ (s.pq k).space = 0)) ∧
    (∃ (l : Lane) (gap : Nat) (drift half far unit : Int) (s : State), s.lnF F.lnState_link l ≠ 8 ∧ rateUnits (s.lnF F.lnState_link l)
      (s.lineCoding l) = (half, far, unit) ∧ far ≤ (s.lane l).fill ∧ 2 ≤ gap ∧ -half ≤ (s.lane l).fill - unit + drift ∧ (s.lane l).fill - unit +
      drift ≤ half) ∧
    (∃ (l : Lane) (gap : Nat) (drift half far unit : Int) (s : State), s.lnF F.lnState_link l ≠ 8 ∧ rateUnits (s.lnF F.lnState_link l)
      (s.lineCoding l) = (half, far, unit) ∧ (s.lane l).fill ≤ -far ∧ 1 ≤ gap ∧ -half ≤ (s.lane l).fill + unit + drift ∧ (s.lane l).fill + unit +
      drift ≤ half) ∧
    (∃ (l : Lane) (drift half far unit : Int) (s : State), s.lnF F.lnState_link l ≠ 8 ∧ rateUnits (s.lnF F.lnState_link l) (s.lineCoding l) =
      (half, far, unit) ∧ -far < (s.lane l).fill ∧ (s.lane l).fill < far ∧ (half < (s.lane l).fill + drift ∨ (s.lane l).fill + drift < -half)) ∧
    (∃ (l : Lane) (s : State), s.macOn l = true ∧ s.pw.mode = .run ∧ (s.lane l).txBusy = true) ∧
    (∃ (l : Lane) (s : State), s.macOn l = true ∧ s.pw.mode = .run ∧ s.lnF F.lnState_link l = 4 ∧ (s.lane l).txBusy = false ∧ (s.lane l).tx.any
      (·.last) = true) ∧
    (∃ (r : Resp) (s : State) (o : Outst) (l k : Nat), s.net.resps.contains r = true ∧ s.findOut r.src r.sport r.tag r.gen = some o ∧ o.who = .mac
      l k ∧ r.crcOk = true) ∧
    (∃ (l : Lane) (s : State), s.sysActive l = true ∧ s.slSource = false) ∧
    (∃ (l : Lane) (s : State), s.sysActive l = true ∧ s.slPresent l = true ∧ (s.lane l).hbFirst = false) ∧
    (∃ (l : Lane) (prio : Byte) (root : BitVec 64) (hops flags : Byte) (s t : State), s.sysActive l = true ∧ (s.lane l).hbFirst = true ∧ s.setLane
      l { s.lane l with nbr := (prio.toNat, root.toNat, hops.toNat, flags.toNat), hbFirst := false } = t) ∧
    (∃ (l : Lane) (s : State), s.regsWf = true ∧ s.slPresent l = true ∧ s.lnF F.lnSlStatus_missed l = 0) ∧
    (∃ (l : Lane) (s : State), s.regsWf = true ∧ s.slPresent l = false ∧ s.sysActive l = true) ∧
    (∃ (l : Lane) (s : State), s.slPresent l = false ∧ s.sysActive l = false) ∧
    (∃ (s : State) (l : Nat), s.tmr.parent = some l ∧ s.timeLane l = true) ∧
    (∃ (l : Lane) (f : List Byte) (s : State), s.timeLane l = true ∧ f.length = 40 ∧ leAt f 0 1 = 2 ∧ s.tkRuns 0 = true ∧ leAt f 1 1 = 0) ∧
    (∃ (l : Lane) (f : List Byte) (s : State), s.timeLane l = true ∧ f.length = 40 ∧ leAt f 0 1 = 2 ∧ s.tkRuns 0 = true ∧ leAt f 1 1 = 1 ∧
      s.tmr.parent = some l.val ∧ beAt f 2 2 = s.tmr.reqSeq) ∧
    (∃ (s : State) (o : Int) (p : Nat), s.maltarRuns = true ∧ s.slSource = true ∧ s.tmr.parent = some p ∧ s.flag F.tkStatus_pending 0 0 = false ∧
      s.tmr.offs = some o ∧ -(s.getF F.timeRateTh_rateTh 0 0 : Int) ≤ o * 2 ^ 17 / 1000000000 ∧ o * 2 ^ 17 / 1000000000 ≤ s.getF
      F.timeRateTh_rateTh 0 0) :=
  ⟨⟨191,
     (State.setF (State.setF (State.setF (State.setF (inMode .run) F.lnState_los 47 3 0) F.lnState_lol 47 3 0) F.lnState_state 47 3 5)
       F.lnState_link 47 3 4),
     by decide +kernel⟩,
   ⟨191, List.replicate 60 0 ++ fcs (List.replicate 60 0), 0, 0, 0, 0,
     (State.setF (State.setF (State.setF (State.setF (inMode .run) F.lnState_los 47 3 0) F.lnState_lol 47 3 0) F.lnState_state 47 3 5)
       F.lnState_link 47 3 4),
     _, _, by decide +kernel, rfl, rfl, by decide +kernel, by decide +kernel, by decide +kernel, by decide +kernel, by decide +kernel,
     by decide +kernel, .inl (by decide +kernel)⟩,
   ⟨191, List.replicate 64 0, true, 0, 0, 0, 0,
     (State.setF (State.setF (State.setF (State.setF (inMode .run) F.lnState_los 47 3 0) F.lnState_lol 47 3 0) F.lnState_state 47 3 5)
       F.lnState_link 47 3 4),
     _, _, by decide +kernel, rfl, rfl, by decide +kernel, by decide +kernel, by decide +kernel, .inl rfl, by decide +kernel⟩,
   ⟨191, 0, 0, 0, 17,
     (State.setF (State.setF (State.setF (State.setF (inMode .run) F.lnState_los 47 3 0) F.lnState_lol 47 3 0) F.lnState_state 47 3 5)
       F.lnState_link 47 3 4),
     _, by decide +kernel, rfl, by decide +kernel⟩,
   ⟨191,
     (State.setF (State.setF (State.setF (State.setF (State.setF (inMode .run) F.lnState_los 47 3 0) F.lnState_lol 47 3 0) F.lnState_state 47 3 5)
       F.lnState_link 47 3 4) F.lnState_fec 47 3 1),
     by decide +kernel⟩,
   ⟨191,
     (State.setF (State.setF (State.setF (State.setF (inMode .run) F.lnState_los 47 3 0) F.lnState_lol 47 3 0) F.lnState_state 47 3 5)
       F.lnState_link 47 3 4),
     by decide +kernel⟩,
   ⟨191, (State.setF (State.setF (State.setF (inMode .run) F.lnState_los 47 3 0) F.lnState_lol 47 3 0) F.lnState_state 47 3 6), by decide +kernel⟩,
   ⟨191, (State.setF (State.setF (State.setF (inMode .run) F.lnState_los 47 3 0) F.lnState_lol 47 3 0) F.lnState_state 47 3 6), by decide +kernel⟩,
   ⟨191,
     { (State.setF (State.setF (State.setF (inMode .run) F.lnState_los 47 3 0) F.lnState_lol 47 3 0) F.lnState_state 47 3 4) with lanes := [(191, { LaneSt.init with mode := 9 })] },
     by decide +kernel⟩,
   ⟨191, State.reset, by decide +kernel⟩,
   ⟨191, 2, -4, 8, 4, 1,
     { (State.setF (State.setF (State.setF (State.setF (inMode .run) F.lnState_los 47 3 0) F.lnState_lol 47 3 0) F.lnState_state 47 3 5) F.lnState_link 47 3 4) with lanes := [(191, { LaneSt.init with fill := 5 })] },
     by decide +kernel⟩,
   ⟨191, 1, 4, 8, 4, 1,
     { (State.setF (State.setF (State.setF (State.setF (inMode .run) F.lnState_los 47 3 0) F.lnState_lol 47 3 0) F.lnState_state 47 3 5) F.lnState_link 47 3 4) with lanes := [(191, { LaneSt.init with fill := -5 })] },
     by decide +kernel⟩,
   ⟨191, 12, 8, 4, 1,
     (State.setF (State.setF (State.setF (State.setF (inMode .run) F.lnState_los 47 3 0) F.lnState_lol 47 3 0) F.lnState_state 47 3 5)
       F.lnState_link 47 3 4),
     by decide +kernel, by decide +kernel, by decide +kernel, by decide +kernel, .inl (by decide +kernel)⟩,
   ⟨191,
     { (State.setF (State.setF (State.setF (State.setF (inMode .run) F.lnState_los 47 3 0) F.lnState_lol 47 3 0) F.lnState_state 47 3 5) F.lnState_link 47 3 4) with lanes := [(191, { LaneSt.init with txBusy := true })] },
     by decide +kernel⟩,
   ⟨191,
     { (State.setF (State.setF (State.setF (State.setF (inMode .run) F.lnState_los 47 3 0) F.lnState_lol 47 3 0) F.lnState_state 47 3 5) F.lnState_link 47 3 4) with lanes := [(191, { LaneSt.init with tx := [⟨0, true, false, false, false, false⟩] })] },
     by decide +kernel⟩,
   ⟨⟨34, 2, 0, 0, 0, [], false, true⟩, withResp State.reset (.mac 191 3) (mkReq .read 0 4 0 5 34 2 []) ⟨34, 2, 0, 0, 0, [], false, true⟩, _, 191,
     3, by decide +kernel, rfl, by decide +kernel⟩,
   ⟨191,
     (State.setF (State.setF (State.setF (State.setF (inMode .run) F.lnState_los 47 3 0) F.lnState_lol 47 3 0) F.lnState_state 47 3 5)
       F.lnState_link 47 3 9),
     by decide +kernel⟩,
   ⟨191,
     (State.setReg (State.setReg (State.setF (State.setF (State.setF (State.setF (State.setF (State.setF (inMode .run) F.lnState_los 47 3 0)
       F.lnState_lol 47 3 0) F.lnState_state 47 3 5) F.lnState_link 47 3 9) F.lnSlStatus_present 47 3 1) F.tkCtl_enable 0 0 1) .lnPartnerLo 47 3
       0x10000) .lnCapLo 47 3 0x10000),
     by decide +kernel⟩,
   ⟨191, 0, 0, 0, 0,
     { (State.setReg (State.setReg (State.setF (State.setF (State.setF (State.setF (State.setF (State.setF (inMode .run) F.lnState_los 47 3 0) F.lnState_lol 47 3 0) F.lnState_state 47 3 5) F.lnState_link 47 3 9) F.lnSlStatus_present 47 3 1) F.tkCtl_enable 0 0 1) .lnPartnerLo 47 3 0x10000) .lnCapLo 47 3 0x10000) with lanes := [(191, { LaneSt.init with hbFirst := true })] },
     _, by decide +kernel, by decide +kernel, rfl⟩,
   ⟨191,
     (State.setReg (State.setReg (State.setF (State.setF (State.setF (State.setF (State.setF (State.setF (inMode .run) F.lnState_los 47 3 0)
       F.lnState_lol 47 3 0) F.lnState_state 47 3 5) F.lnState_link 47 3 9) F.lnSlStatus_present 47 3 1) F.tkCtl_enable 0 0 1) .lnPartnerLo 47 3
       0x10000) .lnCapLo 47 3 0x10000),
     by decide +kernel⟩,
   ⟨191,
     (State.setF (State.setF (State.setF (State.setF (inMode .run) F.lnState_los 47 3 0) F.lnState_lol 47 3 0) F.lnState_state 47 3 5)
       F.lnState_link 47 3 9),
     by decide +kernel⟩,
   ⟨191, State.reset, by decide +kernel⟩,
   ⟨{ (State.setReg (State.setReg (State.setF (State.setF (State.setF (State.setF (State.setF (State.setF (inMode .run) F.lnState_los 47 3 0) F.lnState_lol 47 3 0) F.lnState_state 47 3 5) F.lnState_link 47 3 9) F.lnSlStatus_present 47 3 1) F.tkCtl_enable 0 0 1) .lnPartnerLo 47 3 0x10000) .lnCapLo 47 3 0x10000) with tmr.parent := some 191 },
     191, by decide +kernel⟩,
   ⟨191, [2] ++ List.replicate 39 0,
     (State.setReg (State.setReg (State.setF (State.setF (State.setF (State.setF (State.setF (State.setF (inMode .run) F.lnState_los 47 3 0)
       F.lnState_lol 47 3 0) F.lnState_state 47 3 5) F.lnState_link 47 3 9) F.lnSlStatus_present 47 3 1) F.tkCtl_enable 0 0 1) .lnPartnerLo 47 3
       0x10000) .lnCapLo 47 3 0x10000),
     by decide +kernel⟩,
   ⟨191, [2, 1] ++ List.replicate 38 0,
     { (State.setReg (State.setReg (State.setF (State.setF (State.setF (State.setF (State.setF (State.setF (inMode .run) F.lnState_los 47 3 0) F.lnState_lol 47 3 0) F.lnState_state 47 3 5) F.lnState_link 47 3 9) F.lnSlStatus_present 47 3 1) F.tkCtl_enable 0 0 1) .lnPartnerLo 47 3 0x10000) .lnCapLo 47 3 0x10000) with tmr.parent := some 191 },
     by decide +kernel⟩,
   ⟨{ State.setF (inMode .run) F.timeCtl_source 0 0 1 with tmr.parent := some 191, tmr.offs := some 0 }, 0, 191, by decide +kernel⟩⟩

theorem witness_CellFlipFlops :
    (∃ (t : Tile) (cluster : Fin 768) (net : Fin 8) (join : Bool) (ins : List CellIn) (cin : Bool) (ms ce : BitVec 4) (sr : BitVec 2) (s p : State)
      (ext : Wire → Bool), s.userClock = true ∧ s.netRuns t net = true ∧ Tbl.wf (fun _ => none) s.fab.ffs = true ∧ (s.edgeStart join).preEdge = p ∧
      p.extCluster t cluster (destIn ins cin ms ce sr) = ext) ∧
    (∃ (c : FfCfg) (ce sr : Nat), bitAt sr c.sr = false ∧ c.ce < 4 ∧ bitAt ce c.ce = false) ∧
    (∃ (c : FfCfg) (ce sr : Nat), (bitAt sr c.sr = false ∨ c.kind = .none) ∧ (c.ce = 4 ∨ bitAt ce c.ce = true)) ∧
    (∃ (c : FfCfg) (sr : Nat), bitAt sr c.sr = true) ∧
    (∃ (t : Tile) (net : Fin 8) (s : State), (s.userClock = false ∨ s.netRuns t net = false)) ∧
    (∃ (s : State) (k : Nat), s.seams.declared = true ∧ k % 8 = 7) ∧
    (∃ (t : Tile) (s : State), s.ffMoves t = true ∧ Tbl.wf (fun _ => none) s.fab.ffs = true) ∧
    (∃ (t : Tile) (s : State), s.ffMoves t = false) ∧
    (∃ (s : State) (t cluster line : Nat), s.xbarSrc t cluster (132 + line) = none) ∧
    (∃ (s : State) (dom : Nat) (t c n : Nat), n < 64 ∧ 2 ≤ n % 4 ∧ foreign dom (s.ffNet t (ffKey c (n / 4) (n % 2))) = true) :=
  ⟨⟨34, 767, 0, false, [], false, 0, 0, 0, (clocked TileCfg.blank), _, _, by decide +kernel, by decide +kernel, by decide +kernel, rfl, rfl⟩,
   ⟨⟨0, 0, 3, 0, .none, false⟩, 7, 0, by decide +kernel⟩,
   ⟨⟨0, 0, 4, 0, .syncSet, false⟩, 0, 0, .inl (by decide), .inl (by decide)⟩,
   ⟨⟨0, 0, 0, 0, .asyncSet, false⟩, 1, by decide +kernel⟩,
   ⟨34, 0, State.reset, .inl (by decide +kernel)⟩,
   ⟨{ State.reset with seams.declared := true }, 0x1FF, by decide +kernel⟩,
   ⟨34, (inMode .run), by decide +kernel⟩,
   ⟨34, State.reset, by decide +kernel⟩,
   ⟨State.reset, 34, 767, 1, by decide +kernel⟩,
   ⟨clocked TileCfg.blank, 7, 34, 767, 2, by decide +kernel⟩⟩

theorem witness_SlicesAndCrossings :
    (∃ (i : MulIn) (join : Bool) (s u p : State), s.userClock = true ∧ s.netRuns i.tile (s.mulCfg i.tile i.slice).clk = true ∧ s.edgeStart join = u
      ∧ u.preEdge = p) ∧
    (∃ (l : List MulIn) (join : Bool) (s u : State), s.userClock = true ∧ (∀ i ∈ l, s.netRuns i.tile (s.mulCfg i.tile i.slice).clk = false) ∧
      s.edgeStart join = u) ∧
    (∃ (s : State), s.userClock = false) ∧
    (∃ (c : MulCfg) (p : MulPins), c.prodStage = true ∧ bitAt p.clr 2 = false ∧ bitAt p.ce 2 = true) ∧
    (∃ (c : MulCfg) (p : MulPins), c.inStage = true ∧ bitAt p.clr 1 = false ∧ bitAt p.ce 1 = true) ∧
    (∃ (c : MulCfg) (p : MulPins), c.inStage = false ∧ bitAt p.clr 1 = false ∧ bitAt p.ce 1 = true) ∧
    (∃ (k : Nat) (c : XCfg) (join : Bool) (s u : State), s.xcfg k = some c ∧ c.kind = .xpulse ∧ s.xSrcRuns c = true ∧ s.edgeStart join = u ∧
      u.preEdge.xHigh c c.send = true) ∧
    (∃ (k : Nat) (c : XCfg) (join : Bool) (s u : State), s.xcfg k = some c ∧ c.kind = .xword ∧ s.xSrcRuns c = true ∧ s.edgeStart join = u ∧
      u.preEdge.xHigh c c.send = true) ∧
    (∃ (k : Nat) (c : XCfg) (join : Bool) (s u : State), s.xcfg k = some c ∧ s.xSrcRuns c = true ∧ s.edgeStart join = u ∧ u.preEdge.xHigh c c.clear
      = true) ∧
    (∃ (k : Nat) (s : State), s.xcfg k = none) ∧
    (∃ (c : XCfg), (c.kind = .xsync ∨ c.kind = .xgray)) ∧
    (∃ (x : Crossing), x.broken = 0) ∧
    (∃ (x : Crossing), 0 < x.broken) ∧
    (∃ (c : XCfg), (c.kind = .xpulse ∨ c.kind = .xword)) :=
  ⟨⟨⟨34, 63, 0, 0, 0, 0, 0, false, 0, 7, 0⟩, false, (clocked TileCfg.blank), _, _, by decide +kernel, by decide +kernel, rfl, rfl⟩,
   ⟨[], false, (clocked TileCfg.blank), _, by decide +kernel, by decide +kernel, rfl⟩,
   ⟨State.reset, by decide +kernel⟩,
   ⟨⟨none, true, true, false, true, 0⟩, ⟨1, 1, 1, 1, 0, false, 0, 4, 0, 0⟩, by decide +kernel⟩,
   ⟨⟨none, true, true, false, true, 0⟩, ⟨1, 1, 1, 1, 0, false, 0, 2, 0, 0⟩, by decide +kernel⟩,
   ⟨⟨none, false, true, false, true, 0⟩, ⟨1, 1, 1, 1, 0, false, 0, 2, 0, 0⟩, by decide +kernel⟩,
   ⟨5, ⟨.xpulse, 2, 8, 34, 3, 0, 35, 4, 0, [], none, none, [], []⟩, false,
     { clocked { TileCfg.blank with clusters := [(3, ⟨0, 0, false, false, 0⟩)] } with fab.xcfg := [(5, ⟨.xpulse, 2, 8, 34, 3, 0, 35, 4, 0, [], none, none, [], []⟩)] },
     _, by decide +kernel, by decide +kernel, by decide +kernel, rfl, by decide +kernel⟩,
   ⟨5, ⟨.xword, 2, 8, 34, 3, 0, 35, 4, 0, [], none, none, [], []⟩, false,
     { clocked { TileCfg.blank with clusters := [(3, ⟨0, 0, false, false, 0⟩)] } with fab.xcfg := [(5, ⟨.xword, 2, 8, 34, 3, 0, 35, 4, 0, [], none, none, [], []⟩)] },
     _, by decide +kernel, by decide +kernel, by decide +kernel, rfl, by decide +kernel⟩,
   ⟨5, ⟨.xword, 2, 8, 34, 3, 0, 35, 4, 0, [], none, none, [], []⟩, false,
     { clocked { TileCfg.blank with clusters := [(3, ⟨0, 0, false, false, 0⟩)] } with fab.xcfg := [(5, ⟨.xword, 2, 8, 34, 3, 0, 35, 4, 0, [], none, none, [], []⟩)] },
     _, by decide +kernel, by decide +kernel, rfl, by decide +kernel⟩,
   ⟨5, State.reset, by decide +kernel⟩,
   ⟨⟨.xgray, 2, 8, 34, 3, 0, 35, 4, 0, [], none, none, [], []⟩, .inr (by decide)⟩,
   ⟨Crossing.init, by decide +kernel⟩,
   ⟨{ Crossing.init with broken := 1 }, by decide +kernel⟩,
   ⟨⟨.xword, 2, 8, 34, 3, 0, 35, 4, 0, [], none, none, [], []⟩, .inr (by decide)⟩⟩

theorem witness_TileMemories :
    (∃ (t : Tile) (b : Fin 24) (net : Fin 8) (join : Bool) (pa pb : PortIn) (s u : State) (x : PortIn) (c : BlkCfg), s.userClock = true ∧ s.netRuns
      t net = true ∧ s.blkFused t b = false ∧ s.blkCfg t b = c ∧ c.wide = false ∧ s.netRuns t c.clkA = true ∧ s.netId t c.clkA = s.netId t net ∧
      s.netId t c.clkB ≠ s.netId t net ∧ s.edgeStart join = u ∧ u.preEdge.portIn (u.preEdge.extBlk t b false pa pb) t b false false false = x ∧
      x.pen = true ∧ x.we = 0#8) ∧
    (∃ (c : BlkCfg) (x : PortIn), c.wide = true ∧ c.ecc = true ∧ c.oregB = true ∧ x.pen = true) ∧
    (∃ (t : Tile) (b : Fin 24) (net : Fin 8) (join : Bool) (pa pb : PortIn) (s u : State) (x y : PortIn) (c : BlkCfg), s.userClock = true ∧
      s.netRuns t net = true ∧ s.blkFused t b = false ∧ s.blkCfg t b = c ∧ c.wide = false ∧ c.window = false ∧ s.netRuns t c.clkA = true ∧
      s.netRuns t c.clkB = true ∧ s.netId t c.clkA = s.netId t net ∧ s.netId t c.clkB = s.netId t net ∧ s.edgeStart join = u ∧ u.preEdge.portIn
      (u.preEdge.extBlk t b false pa pb) t b false false false = x ∧ u.preEdge.portIn (u.preEdge.extBlk t b false pa pb) t b true false false = y) ∧
    (∃ (t : Tile) (b : Fin 24) (net : Fin 8) (join : Bool) (pa pb : PortIn) (s u : State) (x : PortIn) (c : BlkCfg), s.userClock = true ∧ s.netRuns
      t net = true ∧ s.blkFused t b = false ∧ s.blkCfg t b = c ∧ c.wide = false ∧ s.netRuns t c.clkA = true ∧ s.netId t c.clkA = s.netId t net ∧
      s.netId t c.clkB ≠ s.netId t net ∧ s.edgeStart join = u ∧ u.preEdge.portIn (u.preEdge.extBlk t b false pa pb) t b false false false = x) ∧
    (∃ (x : PortIn), x.pen = false) ∧
    (∃ (c : BlkCfg) (x : PortIn), x.pen = true ∧ c.wide = false) ∧
    (∃ (s : State) (t : Nat), Tbl.wf (fun _ => BlkMem.init) s.fab.blks = true ∧ (∀ k, Tbl.wf (fun _ => 0) (s.blk t k).bytes = true)) ∧
    (∃ (t : Tile) (b : Fin 24) (net : Fin 8) (s : State), (s.userClock = false ∨ s.netRuns t net = false ∨ (s.blkFused t b = true ∧ b.val % 2 =
      1))) ∧
    (∃ (r : Req) (s : State) (t o : Nat), s.net.reqs.contains r = true ∧ r.crcOk = true ∧ aperture r.addr = some (t, o) ∧ 0x100000 ≤ o ∧ o <
      0x200000) ∧
    (∃ (r : Req) (s : State) (t o : Nat), s.net.reqs.contains r = true ∧ r.crcOk = true ∧ aperture r.addr = some (t, o) ∧ 0x100000 ≤ o ∧ o <
      0x200000 ∧ s.pw.mode ≠ .run) ∧
    (∃ (s : State) (q : Rq) (t b k : Nat), b < 24 ∧ k < 0x200 ∧ s.mayReach q t = true ∧ s.niFenced t = false ∧ s.pw.mode = .run ∧ (s.blkCfg t
      b).window = true ∧ (s.blkCfg t b).wide = false ∧ (s.blk t b).unwritten (8 * k) 8 = true) ∧
    (∃ (s : State) (q : Rq) (t b w : Nat), b < 24 ∧ w < 0x1000 ∧ s.mayReach q t = true ∧ s.niFenced t = false ∧ s.pw.mode = .run ∧ (s.blkCfg t
      b).window = true ∧ (s.blkCfg t b).wide = false) ∧
    (∃ (r : Req) (s : State) (t o m a : Nat), s.net.reqs.contains r = true ∧ r.crcOk = true ∧ aperture r.addr = some (t, o) ∧ o < 0x20000 ∧
      engWindow o = some (m, a) ∧ engShape m a r.size = true ∧ r.op = .write ∧ s.mayReach r.rq t = true ∧ s.niFenced t = false ∧ s.pw.mode ≠ .rest
      ∧ (m = 2 ∨ (s.engine t).run ≠ .running ∨ s.engPaused t = true) ∧ (m ≠ 2 ∨ (s.engine t).lock = false)) ∧
    (∃ (r : Req) (s : State) (t o m a : Nat), s.net.reqs.contains r = true ∧ r.crcOk = true ∧ aperture r.addr = some (t, o) ∧ o < 0x20000 ∧
      engWindow o = some (m, a) ∧ engShape m a r.size = true ∧ (r.op = .write ∨ r.op = .read) ∧ s.mayReach r.rq t = true ∧ m ≠ 2 ∧ (s.engine t).run
      = .running ∧ s.engPaused t = false) ∧
    (∃ (r : Req) (s : State) (t o a : Nat), s.net.reqs.contains r = true ∧ r.crcOk = true ∧ aperture r.addr = some (t, o) ∧ o < 0x20000 ∧ engWindow
      o = some (2, a) ∧ engShape 2 a r.size = true ∧ (r.op = .write ∨ r.op = .read) ∧ s.mayReach r.rq t = true ∧ s.niFenced t = false ∧ s.pw.mode ≠
      .rest ∧ (s.engine t).lock = true) ∧
    (∃ (s : State) (t : Nat), s.flag F.eccTestT_testEn t 0 = false) ∧
    (∃ (t : Tile) (we : Bool) (join : Bool) (s u p : State), s.portRuns t .engine 0 = true ∧ s.portEdge t .engine 0 join = u ∧ u.preEdge = p ∧
      p.senseBit t .engine .yvalid 0 true = true ∧ (p.engine t).yq.length + (p.engine t).yout.length < 4 ∧ p.senseBit t .engine .ywe 0 we = true ∧
      (u.engine t).lock = false ∧ (u.engine t).yq = [] ∧ (u.engine t).ynet = [] ∧ Tbl.wf (fun _ => Engine.init) u.eng = true) ∧
    (∃ (t : Tile) (we : Bool) (a : Fin 16384) (join : Bool) (s u p : State) (v : Nat) (bad : Bool), s.portRuns t .engine 0 = true ∧ s.portEdge t
      .engine 0 join = u ∧ u.preEdge = p ∧ p.senseBit t .engine .yvalid 0 true = true ∧ (p.engine t).yq.length + (p.engine t).yout.length < 4 ∧
      p.senseBit t .engine .ywe 0 we = false ∧ (u.engine t).lock = false ∧ (u.engine t).yq = [] ∧ (u.engine t).ynet = [] ∧ (u.engine t).y.read 16 5
      3 (p.sense t .engine .yaddr 14 a) = ⟨v, bad, none⟩ ∧ Tbl.wf (fun _ => Engine.init) u.eng = true) ∧
    (∃ (t : Tile) (join : Bool) (s u p : State), s.portRuns t .engine 0 = true ∧ s.portEdge t .engine 0 join = u ∧ u.preEdge = p ∧ p.senseBit t
      .engine .yvalid 0 true = true ∧ (p.engine t).yq.length + (p.engine t).yout.length < 4 ∧ (u.engine t).lock = true ∧ Tbl.wf (fun _ =>
      Engine.init) u.eng = true) ∧
    (∃ (t : Tile) (join : Bool) (s u p : State), s.portRuns t .engine 0 = true ∧ s.portEdge t .engine 0 join = u ∧ u.preEdge = p ∧ (p.senseBit t
      .engine .yvalid 0 true = false ∨ 4 ≤ (p.engine t).yq.length + (p.engine t).yout.length)) ∧
    (∃ (t : Tile) (s : State), s.portRuns t .engine 0 = false) ∧
    (∃ (s : State) (t : Nat) (we : Bool) (a din : Nat) (l : List (Bool × Nat × Nat)) (j : NiJob) (js : List NiJob), (s.engine t).lock = false ∧
      (s.engine t).yq = (we, a, din) :: l ∧ (s.engine t).ynet = j :: js) :=
  ⟨⟨34, 23, 0, false, ⟨true, 0#8, 5#16, 0#72, false, false⟩, ⟨false, 0#8, 0#16, 0#72, false, false⟩,
     (clocked { TileCfg.blank with blks := [(23, { BlkCfg.blank with clkB := 1 })] }), _, _, _, by decide +kernel, by decide +kernel,
     by decide +kernel, rfl, by decide +kernel, by decide +kernel, by decide +kernel, by decide +kernel, rfl, rfl, by decide +kernel⟩,
   ⟨{ BlkCfg.blank with wide := true, ecc := true, oregB := true }, ⟨true, 0#8, 5#16, 0#72, false, false⟩, by decide +kernel⟩,
   ⟨34, 22, 0, false, ⟨true, 0#8, 5#16, 0#72, false, false⟩, ⟨false, 0#8, 0#16, 0#72, false, false⟩,
     (clocked { TileCfg.blank with blks := [(22, { BlkCfg.blank with wide := false })] }), _, _, _, _, by decide +kernel, by decide +kernel,
     by decide +kernel, rfl, by decide +kernel, by decide +kernel, by decide +kernel, by decide +kernel, by decide +kernel, by decide +kernel, rfl,
     rfl, rfl⟩,
   ⟨34, 23, 0, false, ⟨true, 0#8, 5#16, 0#72, false, false⟩, ⟨false, 0#8, 0#16, 0#72, false, false⟩,
     (clocked { TileCfg.blank with blks := [(23, { BlkCfg.blank with clkB := 1 })] }), _, _, _, by decide +kernel, by decide +kernel,
     by decide +kernel, rfl, by decide +kernel, by decide +kernel, by decide +kernel, by decide +kernel, rfl, rfl⟩,
   ⟨⟨false, 0#8, 0#16, 0#72, false, false⟩, by decide +kernel⟩,
   ⟨BlkCfg.blank, ⟨true, 0#8, 5#16, 0#72, false, false⟩, by decide +kernel⟩,
   ⟨State.reset, 34, by decide +kernel, fun _ => rfl⟩,
   ⟨34, 23, 0, State.reset, .inl (by decide +kernel)⟩,
   ⟨mkReq .read (0x400022000000 + 0x100000) 4 0 4 0 0 [], withReq (inMode .run) (mkReq .read (0x400022000000 + 0x100000) 4 0 4 0 0 []), 34,
     0x100000, by decide +kernel⟩,
   ⟨mkReq .read (0x400022000000 + 0x1FFFF8) 4 0 4 0 0 [], withReq (inMode .hold) (mkReq .read (0x400022000000 + 0x1FFFF8) 4 0 4 0 0 []), 34,
     0x1FFFF8, by decide +kernel⟩,
   ⟨(clocked { TileCfg.blank with blks := [(23, { BlkCfg.blank with wide := false, window := true })] }).setBlk 34 23
     { BlkMem.init with uninit := true },
     Rq.ref, 34, 23, 0x1FF, by decide +kernel⟩,
   ⟨(clocked { TileCfg.blank with blks := [(23, { BlkCfg.blank with wide := false, window := true })] }), Rq.ref, 34, 23, 0xFFF, by decide +kernel⟩,
   ⟨mkReq .write (0x400022000000 + 0x10000) 4 0 4 0 0 [1, 2, 3, 4],
     withReq (inMode .run) (mkReq .write (0x400022000000 + 0x10000) 4 0 4 0 0 [1, 2, 3, 4]), 34, 0x10000, 1, 0, by decide +kernel,
     by decide +kernel, by decide +kernel, by decide +kernel, by decide +kernel, by decide +kernel, by decide +kernel, by decide +kernel,
     by decide +kernel, by decide +kernel, .inr (.inl (by decide +kernel)), .inl (by decide)⟩,
   ⟨mkReq .write (0x400022000000 + 0x8) 4 0 4 0 0 [1, 2, 3, 4],
     withReq ({ inMode .run with eng := [(34, { Engine.init with run := .running })] }) (mkReq .write (0x400022000000 + 0x8) 4 0 4 0 0 [1, 2, 3, 4]),
     34, 0x8, 0, 8, by decide +kernel, by decide +kernel, by decide +kernel, by decide +kernel, by decide +kernel, by decide +kernel, .inl rfl,
     by decide +kernel⟩,
   ⟨mkReq .write (0x400022000000 + 0x1FFFC) 4 0 4 0 0 [1, 2, 3, 4],
     withReq ({ inMode .run with eng := [(34, { Engine.init with run := .running, lock := true })] }) (mkReq .write (0x400022000000 + 0x1FFFC) 4 0
       4 0 0 [1, 2, 3, 4]),
     34, 0x1FFFC, 0x7FFC, by decide +kernel, by decide +kernel, by decide +kernel, by decide +kernel, by decide +kernel, by decide +kernel,
     .inl rfl, by decide +kernel⟩,
   ⟨State.reset, 34, by decide +kernel⟩,
   ⟨34, true, false, { clocked TileCfg.blank with eng := [(34, { Engine.init with now := 1 })] }, _, _, by decide +kernel, rfl, rfl,
     by decide +kernel⟩,
   ⟨34, false, 16383, false, { clocked TileCfg.blank with eng := [(34, { Engine.init with now := 1 })] }, _, _, 0, false, by decide +kernel, rfl,
     rfl, by decide +kernel⟩,
   ⟨34, false, { clocked TileCfg.blank with eng := [(34, { Engine.init with lock := true })] }, _, _, by decide +kernel, rfl, rfl,
     by decide +kernel⟩,
   ⟨34, false, { clocked TileCfg.blank with eng := [(34, { Engine.init with yq := List.replicate 4 (true, 0, 0) })] }, _, _, by decide +kernel,
     rfl, rfl, .inr (by decide +kernel)⟩,
   ⟨34, State.reset, by decide +kernel⟩,
   ⟨{ clocked TileCfg.blank with eng := [(34, { Engine.init with yq := [(true, 16383, 5)], ynet := [.done (.fabric 0) 0 []] })] }, 34, true, 16383,
     5, [], .done (.fabric 0) 0 [], [], by decide +kernel⟩⟩

theorem witness_EngineMultiplyGroup :
    (∃ (t : Tile) (w : Nat) (c : Bool) (a : Bool) (src : MSrc) (x y : Nat) (f : Fx) (s : State), (s.engine t).endCheck.mulOperands (s.engine
      t).endCheck.now src = (x, y, f) ∧ f.clean = true ∧ s.issues t w c (.mul .mac a src)) :=
  ⟨34, encodeEngine (.mul .mac true (.dd 1 2 none)), false, true, (.dd 1 2 none), _, _, _,
    { inMode .run with eng := [(34, { Engine.init with run := .running, prog := EMem.init.put 0 (encodeEngine (.mul .mac true (.dd 1 2 none))) 0 })] },
    rfl, by decide +kernel, by unfold State.issues; decide +kernel⟩

theorem witness_EngineAccumulatorGroup :
    (∃ (t : Tile) (w : Nat) (c : Bool) (ad as : Bool) (mv : Option PMove) (f : Fx) (s : State), (s.engine t).endCheck.pmove (s.engine
      t).endCheck.now mv = f ∧ f.clean = true ∧ s.issues t w c (.acc .sub ad as mv)) :=
  ⟨34, encodeEngine (.acc .sub true false none), false, true, false, none, _,
    { inMode .run with eng := [(34, { Engine.init with run := .running, prog := EMem.init.put 0 (encodeEngine (.acc .sub true false none)) 0 })] },
    rfl, by decide +kernel, by unfold State.issues; decide +kernel⟩

theorem witness_EngineFaults :
    (∃ (t : Tile) (w : Nat) (c : Bool) (s : State), (s.engine t).feed = none ∧ s.canIssue t = true ∧ (s.engine t).fetch = (⟨w, false, none⟩, c) ∧
      decodeEngine w = none) ∧
    (∃ (t : Tile) (w : Nat) (c : Bool) (s : State), (s.engine t).feed = none ∧ s.canIssue t = true ∧ (s.engine t).fetch = (⟨w, true, none⟩, c)) ∧
    (∃ (t : Tile) (w : Nat) (c : Bool) (s : State), (s.engine t).feed = none ∧ s.canIssue t = true ∧ (s.engine t).fetch = (⟨w, false, none⟩, c)) ∧
    (∃ (t : Tile) (w : Nat) (c : Bool) (d : Fin 8) (so : SOp) (v : Nat) (f : Fx) (s : State), s.issues t w c (.ld d so) ∧ (s.engine
      t).endCheck.soRead (s.engine t).endCheck.now so = (v, f) ∧ f.clean = false) ∧
    (∃ (t : Tile) (w : Nat) (s : State), (s.engine t).feed = some w ∧ (s.engine t).run = .halted ∧ (s.engine t).atomic = false ∧ decodeEngine w =
      some .nop ∧ Tbl.wf (fun _ => Feed.init) s.dbg.feeds = true) :=
  ⟨⟨34, 0xF0000000, false, { inMode .run with eng := [(34, { Engine.init with run := .running, prog := EMem.init.put 0 0xF0000000 0 })] },
     by decide +kernel⟩,
   ⟨34, 0, false, { inMode .run with eng := [(34, { Engine.init with run := .running, prog := { EMem.init with uninit := true } })] },
     by decide +kernel⟩,
   ⟨34, 0, false, { inMode .run with eng := [(34, { Engine.init with run := .running })] }, by decide +kernel⟩,
   ⟨34, encodeEngine (.ld 3 ⟨false, 0, .plain⟩), false, 3, ⟨false, 0, .plain⟩, _, _,
     { inMode .run with eng := [(34, { Engine.init with run := .running, prog := EMem.init.put 0 (encodeEngine (.ld 3 ⟨false, 0, .plain⟩)) 0, x := { EMem.init with uninit := true } })] },
     by unfold State.issues; decide +kernel, rfl, by decide +kernel⟩,
   ⟨34, encodeEngine .nop, { inMode .run with eng := [(34, { Engine.init with run := .halted, feed := some (encodeEngine .nop) })] },
     by decide +kernel⟩⟩

theorem witness_EngineRunControl :
    (∃ (t : Tile) (k n : Nat) (s0 s : State), s0.idlePass t k = s ∧ s.irqDue t = some n) ∧
    (∃ (t : Tile) (k : Nat) (s : State), (s.idlePass t k).irqDue t = none) ∧
    (∃ (t : Tile) (s : State), ((s.engine t).run ≠ .idle ∨ s.engPaused t = true)) ∧
    (∃ (t : Tile) (k mask dd n : Nat) (s0 s : State), s0.idlePass t k = s ∧ (s.engine t).wait = some (mask, dd) ∧ (s.engine t).run = .idle ∧
      s.engPaused t = false ∧ topBit (Nat.land (s.getF F.engIrq_pending t 0) mask) = some n) ∧
    (∃ (t : Tile) (join : Bool) (s u : State), s.portRuns t .engine 1 = true ∧ s.portEdge t .engine 1 join = u ∧ u.preEdge.senseBit t .engine
      .engirq 0 true = true) ∧
    (∃ (t : Tile) (s : State), (s.engine t).stopReq = true ∧ (s.engine t).free = true ∧ ((s.engine t).run = .running ∨ (s.engine t).run = .idle)) ∧
    (∃ (t : Tile) (s : State), s.wdRuns t = true ∧ s.getF F.engWdog_period t 0 * 256 / 2 < (s.engine t).wd) ∧
    (∃ (t : Tile) (s : State), s.wdRuns t = true ∧ (s.engine t).wd ≤ s.getF F.engWdog_period t 0 * 256 / 2) ∧
    (∃ (r : Req) (s : State) (t v : Nat), s.grantsWrite r .engWdog t 0 v) ∧
    (∃ (r : Req) (s : State) (t v : Nat), s.grantsWrite r .engCtl t 0 v ∧ bitAt v 31 = true) ∧
    (∃ (r : Req) (s : State) (t v : Nat), s.grantsWrite r .engCtl t 0 v ∧ bitAt v 30 = true) ∧
    (∃ (r : Req) (s : State) (t v : Nat), s.grantsWrite r .engDoorbell t 0 v ∧ bitAt v 0 = true) ∧
    (∃ (s : State), s.pw.ffHold = true) ∧
    (∃ (t : Nat) (s : State), ((s.engine t).run = .stopped ∨ (s.engine t).run = .faulted) ∧ s.pw.ffHold = false) ∧
    (∃ (t : Nat) (s : State), (((s.engine t).run = .running ∧ (s.engine t).free = true) ∨ ((s.engine t).run = .idle ∧ (s.engine t).lock = false))) ∧
    (∃ (t : Tile) (s : State), (s.engine t).run = .running ∧ (s.engine t).haltReq = none ∧ (s.engine t).stopReq = true ∧ (s.engine t).stepping = 0
      ∧ (s.engine t).lock = true) ∧
    (∃ (t : Tile) (p : Nat) (s : State), (s.engine t).run = .running ∧ (s.engine t).haltReq = some p ∧ (s.engine t).closed = false ∧ (s.engine
      t).stepping = 0) ∧
    (∃ (t : Tile) (p : Nat) (s : State), (s.engine t).run = .running ∧ (s.engine t).haltReq = some p ∧ (s.engine t).stepping = 0 ∧ (s.engine
      t).lock = true) ∧
    (∃ (t : Tile) (k : Nat) (s : State), s.brkDue t = some k ∧ (s.engine t).run = .running ∧ s.engPaused t = false ∧ s.irqDue t = none) :=
  ⟨⟨34, 0, 8,
     State.setF (State.setF ({ inMode .run with eng := [(34, { Engine.init with run := .running, regs := [(rST, 0x4000)] })] }) F.engIrq_pending 34
       0 0x8100) F.engIrq_enable 34 0 0x100,
     _, rfl, by decide +kernel⟩,
   ⟨34, 5, State.reset, by decide +kernel⟩,
   ⟨34, State.reset, by decide +kernel⟩,
   ⟨34, 5, 0x8000, 7, 15,
     State.setF ({ inMode .run with eng := [(34, { Engine.init with run := .idle, wait := some (0x8000, 7) })] }) F.engIrq_pending 34 0 0x8100, _,
     rfl, by decide +kernel⟩,
   ⟨34, false,
     { clocked { TileCfg.blank with nets := [(.pin 34 .engine .engirq 0, .src 34 0 0)], cells := [(0, ⟨.lut6, 2 ^ 64 - 1, 0, 0, false⟩)] } with free := 0 },
     _, by decide +kernel, rfl, by decide +kernel⟩,
   ⟨34, { inMode .run with eng := [(34, { Engine.init with run := .idle, stopReq := true })] }, by decide +kernel⟩,
   ⟨34,
     State.setF (State.setF ({ inMode .run with eng := [(34, { Engine.init with run := .running, wd := 200 })] }) F.engWdog_en 34 0 1)
       F.engWdog_period 34 0 1,
     by decide +kernel⟩,
   ⟨34,
     State.setF (State.setF ({ inMode .run with eng := [(34, { Engine.init with run := .running, wd := 128 })] }) F.engWdog_en 34 0 1)
       F.engWdog_period 34 0 1,
     by decide +kernel⟩,
   ⟨(regReq .write .engWdog 1023 0 0x80000001), (withReq State.reset (regReq .write .engWdog 1023 0 0x80000001)), 1023, 0x80000001,
     by unfold State.grantsWrite; decide +kernel⟩,
   ⟨(regReq .write .engCtl 1023 0 0x80000000), (withReq State.reset (regReq .write .engCtl 1023 0 0x80000000)), 1023, 0x80000000,
     by unfold State.grantsWrite; decide +kernel, by decide +kernel⟩,
   ⟨(regReq .write .engCtl 1023 0 0x40000000), (withReq State.reset (regReq .write .engCtl 1023 0 0x40000000)), 1023, 0x40000000,
     by unfold State.grantsWrite; decide +kernel, by decide +kernel⟩,
   ⟨(regReq .write .engDoorbell 1023 0 1), (withReq State.reset (regReq .write .engDoorbell 1023 0 1)), 1023, 1,
     by unfold State.grantsWrite; decide +kernel, by decide +kernel⟩,
   ⟨State.reset, by decide +kernel⟩,
   ⟨34, (inMode .run), by decide +kernel⟩,
   ⟨34, { inMode .run with eng := [(34, { Engine.init with run := .idle })] }, by decide +kernel⟩,
   ⟨34, { inMode .run with eng := [(34, { Engine.init with run := .running, stopReq := true, lock := true })] }, by decide +kernel⟩,
   ⟨34, 3, { inMode .run with eng := [(34, { Engine.init with run := .running, haltReq := some 3 })] }, by decide +kernel⟩,
   ⟨34, 3, { inMode .run with eng := [(34, { Engine.init with run := .running, haltReq := some 3, lock := true })] }, by decide +kernel⟩,
   ⟨34, 7,
     State.setF (State.setF (State.setF ({ inMode .run with eng := [(34, { Engine.init with run := .running, pc := 0x3FFF })] }) F.ebrk_en 0 7 1)
       F.ebrk_tile 0 7 34) F.ebrk_addr 0 7 0x3FFF,
     by decide +kernel⟩⟩

theorem witness_EngineEncoding :
    (∃ (op : EOp), op.wf = true) ∧
    (∃ (w : Nat) (op : EOp), w < 2 ^ 32 ∧ decodeEngine w = some op) :=
  ⟨⟨.mov 0 46, by decide +kernel⟩,
   ⟨encodeEngine (.sig 255), .sig 255, by decide +kernel⟩⟩

theorem witness_EngineArithmetic :
    (∃ (a b : Nat), a < 65536 ∧ b < 65536) ∧
    (∃ (x : Int), -(2 ^ 40) ≤ x ∧ x < 2 ^ 40) ∧
    (∃ (x : Int), 2 ^ 31 ≤ x) ∧
    (∃ (x : Int), x < -(2 ^ 31)) ∧
    (∃ (x : Int), in32 x = true) ∧
    (∃ (x : Int), -(2 ^ 40) ≤ x ∧ x < 2 ^ 40) :=
  ⟨⟨32768, 32768, by decide +kernel⟩,
   ⟨-(2 ^ 40), by decide +kernel⟩,
   ⟨2 ^ 31, by decide +kernel⟩,
   ⟨-(2 ^ 31) - 1, by decide +kernel⟩,
   ⟨2 ^ 31 - 1, by decide +kernel⟩,
   ⟨2 ^ 40 - 1, by decide +kernel⟩⟩

theorem witness_RoundingAndExponents :
    (∃ (rnd p : Nat), rnd < 3 ∧ p < 2 ^ 40) ∧
    (∃ (p : Nat), p < 2 ^ 40 ∧ in32 (sgn 40 p) = true) ∧
    (∃ (p : Nat), p < 2 ^ 40 ∧ in32 (sgn 40 p + 32768) = true) ∧
    (∃ (p : Nat), p < 2 ^ 40 ∧ in32 (sgn 40 p + 32768) = true ∧ bits p 15 0 = 0x8000 ∧ in32 (sgn 40 p) = true) ∧
    (∃ (w p : Nat), p < 2 ^ w ∧ 0 < w) ∧
    (∃ (p : Nat), p < 2 ^ 40) ∧
    (∃ (p : Nat), p < 2 ^ 40 ∧ p ≠ 0) :=
  ⟨⟨2, 2 ^ 40 - 1, by decide +kernel⟩,
   ⟨0x7FFFFFFF, by decide +kernel⟩,
   ⟨0x7FFF7FFF, by decide +kernel⟩,
   ⟨0x18000, by decide +kernel⟩,
   ⟨40, 2 ^ 40 - 1, by decide +kernel⟩,
   ⟨0, by decide +kernel⟩,
   ⟨1, by decide +kernel⟩⟩

theorem witness_PointerSteps :
    (∃ (pl : Nat), 0 < pl) ∧
    (∃ (pb pl : Nat), 0 < pl ∧ pb + pl ≤ 65536) ∧
    (∃ (p pb pl : Nat), 0 < pl ∧ pb + pl ≤ 65536 ∧ pb ≤ p ∧ p < pb + pl) ∧
    (∃ (m v : Nat), v < 2 ^ m) ∧
    (∃ (p : Nat), p < 65536) ∧
    (∃ (p pb pl : Nat), p < 65536 ∧ pb < 65536 ∧ 0 < pl ∧ pl < 65536) ∧
    (∃ (p pb pl : Nat), p < 65536 ∧ pb < 65536 ∧ 0 < pl ∧ pb + pl ≤ 65536) :=
  ⟨⟨1, by decide +kernel⟩,
   ⟨65535, 1, by decide +kernel⟩,
   ⟨65535, 65535, 1, by decide +kernel⟩,
   ⟨16, 65535, by decide +kernel⟩,
   ⟨65535, by decide +kernel⟩,
   ⟨65535, 65535, 65535, by decide +kernel⟩,
   ⟨65535, 65535, 1, by decide +kernel⟩⟩

theorem witness_PipelineWrites :
    (∃ (l : List PWrite), l.Pairwise (fun a b => a.due ≤ b.due)) ∧
    (∃ (w : PWrite) (tau : Nat), tau ≤ w.due) ∧
    (∃ (w : PWrite) (tgt : PTgt), tgt ≠ w.tgt) ∧
    (∃ (l : List PWrite) (w : PWrite) (tau : Nat), l.Pairwise (fun a b => a.due ≤ b.due) ∧ (∀ x ∈ l, x.tgt = w.tgt → x.due ≤ w.due) ∧ w.due < tau) ∧
    (∃ (v w : Nat), v < 65536 ∧ w < 65536) :=
  ⟨⟨[⟨.xmem 5, 0xFFFF, 1, 3⟩, ⟨.xmem 5, 0xFFFF, 1, 4⟩], by decide +kernel⟩,
   ⟨⟨.xmem 5, 0xFFFF, 1, 3⟩, 3, by decide +kernel⟩,
   ⟨⟨.xmem 5, 0xFFFF, 1, 3⟩, .ymem 5, by decide +kernel⟩,
   ⟨[⟨.xmem 5, 0xFFFF, 1, 3⟩], ⟨.xmem 5, 0xFFFF, 1, 3⟩, 4, by decide +kernel⟩,
   ⟨65535, 0, by decide +kernel⟩⟩

theorem witness_DmaChannels :
    (∃ (r : Req) (s : State) (e c v : Nat), c < 32 ∧ s.grantsWrite r .chCtl e c v ∧ bitAt v 31 = true ∧ bitAt v 30 = true) ∧
    (∃ (r : Req) (s : State) (e c v : Nat), c < 32 ∧ s.grantsWrite r .chCtl e c v ∧ bitAt v 31 = false ∧ bitAt v 30 = false ∧ s.flag F.chCtl_enable
      e c = true) ∧
    (∃ (s : State) (k : Nat), s.dmaCanStart k = false) ∧
    (∃ (s : State) (k : Nat), s.regsWf = true ∧ s.dmaCanStart k = true) ∧
    (∃ (s : State) (k : Nat) (c : Channel), s.chState k = 1 ∧ (s.chan k).finishUnit = c) ∧
    (∃ (c : Channel) (d : Desc), c.cur = some d ∧ d.mode ≠ 3) ∧
    (∃ (s : State) (k : Nat), s.chState k ≠ 1) ∧
    (∃ (s : State) (k : Nat), s.chState k ≠ 1) ∧
    (∃ (p : Port) (m : Mbox) (s : State), s.ready p m 0x0300 ∧ s.arg p m 8 8 % 32 = 0 ∧ s.portTenant p = s.chanTenant (32 * s.arg p m 0 1 + s.arg p
      m 1 1) ∧ s.dmaFree (32 * s.arg p m 0 1 + s.arg p m 1 1) = true) ∧
    (∃ (p : Port) (m : Mbox) (s : State), s.ready p m 0x0300 ∧ s.arg p m 8 8 % 32 = 0 ∧ s.portTenant p = s.chanTenant (32 * s.arg p m 0 1 + s.arg p
      m 1 1) ∧ s.dmaFree (32 * s.arg p m 0 1 + s.arg p m 1 1) = false) ∧
    (∃ (p : Port) (m : Mbox) (s : State) (k : Nat), s.ready p m 0x0301 ∧ 32 * s.arg p m 0 1 + s.arg p m 1 1 = k ∧ s.portTenant p = s.chanTenant k) ∧
    (∃ (p : Port) (m : Mbox) (s : State) (k : Nat), s.ready p m 0x0302 ∧ 32 * s.arg p m 0 1 + s.arg p m 1 1 = k ∧ s.portTenant p = s.chanTenant k) ∧
    (∃ (p : Port) (m : Mbox) (s : State) (k : Nat), s.ready p m 0x0302 ∧ 32 * s.arg p m 0 1 + s.arg p m 1 1 = k ∧ s.portTenant p ≠ s.chanTenant k) ∧
    (∃ (s : State), s.inHold = true) ∧
    (∃ (e : DmaEng) (s : State), s.dmaBegun e ≠ []) ∧
    (∃ (e : DmaEng) (s : State), s.inHold = false ∧ s.dmaPick e = none) ∧
    (∃ (e : DmaEng) (s : State) (c a : Nat), s.inHold = false ∧ s.dmaBegun e = [] ∧ s.dmaPick e = some c ∧ (s.chan (32 * e.val + c)).want = some a) ∧
    (∃ (e : DmaEng) (s : State) (c : Nat) (d : Desc), s.inHold = false ∧ s.dmaBegun e = [] ∧ s.dmaPick e = some c ∧ (s.chan (32 * e.val + c)).want
      = none ∧ (s.chan (32 * e.val + c)).cur = some d) ∧
    (∃ (r : Resp) (s : State) (o : Outst) (k kind burst off n : Nat), s.net.resps.contains r = true ∧ s.findOut r.src r.sport r.tag r.gen = some o
      ∧ o.who = .dma k kind burst off n ∧ r.crcOk = true) ∧
    (∃ (s : State) (k kind burst : Nat), (s.chan k).expects kind burst = true) ∧
    (∃ (s : State) (k kind burst svc : Nat), (s.chan k).expects kind burst = true ∧ 3 ≤ svc ∧ s.chState k = 1) ∧
    (∃ (s : State) (k kind burst : Nat), (s.chan k).expects kind burst = false) ∧
    (∃ (k : Fin 512) (s : State) (r : Retry) (rest : List Retry), (s.chan k).retries = r :: rest) ∧
    (∃ (k : Fin 512) (s : State) (r : Retry) (rest : List Retry) (dst dport : Nat), (s.chan k).retries = r :: rest ∧ s.chanOuts k < 64 ∧ s.engOuts
      (k.val / 32) < 128 ∧ s.decodeDst (niOf (s.dmaReq k r).src / 256) r.piece.addr = some (dst, dport) ∧ reqShape (s.dmaReq k r).op r.piece.addr
      r.piece.len = true ∧ s.routed (s.dmaReq k r).src dst = true ∧ s.hasTag (s.dmaReq k r) = true) ∧
    (∃ (d : Desc), d.falls = true) ∧
    (∃ (d : Desc) (pos : Nat), d.falls = true ∧ pos < d.len) ∧
    (∃ (d : Desc) (off : Nat), off < d.len) :=
  ⟨⟨(regReq .write .chCtl 15 31 0xC0000000), (withReq State.reset (regReq .write .chCtl 15 31 0xC0000000)), 15, 31, 0xC0000000, by decide +kernel,
     by unfold State.grantsWrite; decide +kernel, by decide +kernel⟩,
   ⟨(regReq .write .chCtl 15 31 0), (withReq (State.setF State.reset F.chCtl_enable 15 31 1) (regReq .write .chCtl 15 31 0)), 15, 31, 0,
     by decide +kernel, by unfold State.grantsWrite; decide +kernel, by decide +kernel⟩,
   ⟨State.setF (State.setF (inMode .run) F.chCtl_enable 0 3 1) F.chStatus_state 0 3 1, 3, by decide +kernel⟩,
   ⟨State.setF (inMode .run) F.chCtl_enable 0 3 1, 3, by decide +kernel⟩,
   ⟨(State.setF (State.setF (inMode .run) F.chCtl_enable 0 3 1) F.chStatus_state 0 3 1).setChan 3
     { Channel.init with cur := some ⟨0, 0x1000, 0x2000, 0, false, true, 0, 0, false, 64, true, none⟩ },
     3, _, by decide +kernel, rfl⟩,
   ⟨{ Channel.init with cur := some ⟨0, 0x1000, 0x2000, 0, false, true, 0, 0, false, 64, true, none⟩ },
     ⟨0, 0x1000, 0x2000, 0, false, true, 0, 0, false, 64, true, none⟩, by decide +kernel⟩,
   ⟨State.reset, 3, by decide +kernel⟩,
   ⟨State.reset, 3, by decide +kernel⟩,
   ⟨4, 0, withCmd (State.setF (inMode .run) F.chCtl_enable 0 3 1) 0x300 ([0, 3, 7] ++ List.replicate 13 0), ready_of (by decide +kernel),
     by decide +kernel⟩,
   ⟨4, 0, withCmd (State.setF (State.setF (inMode .run) F.chCtl_enable 0 3 1) F.chStatus_state 0 3 1) 0x300 ([0, 3, 7] ++ List.replicate 13 0),
     ready_of (by decide +kernel), by decide +kernel⟩,
   ⟨4, 0, withCmd (inMode .run) 0x301 [0, 3], 3, ready_of (by decide +kernel), by decide +kernel⟩,
   ⟨4, 0, withCmd (inMode .run) 0x302 [0, 3], 3, ready_of (by decide +kernel), by decide +kernel⟩,
   ⟨4, 0, asT1 (withCmd (inMode .run) 0x302 [0, 3]), 3, ready_of (by decide +kernel), by decide +kernel⟩,
   ⟨inMode .hold, by decide +kernel⟩,
   ⟨0,
     (State.setF (State.setF (inMode .run) F.chCtl_enable 0 3 1) F.chStatus_state 0 3 1).setChan 3
       { Channel.init with todo := [⟨1, 0, ⟨0, 8, 0, []⟩⟩] },
     by decide +kernel⟩,
   ⟨15, (inMode .run), by decide +kernel⟩,
   ⟨0, (State.setF (State.setF (inMode .run) F.chCtl_enable 0 3 1) F.chStatus_state 0 3 1).setChan 3 { Channel.init with want := some 0x40 }, 3,
     0x40, by decide +kernel⟩,
   ⟨0,
     (State.setF (State.setF (inMode .run) F.chCtl_enable 0 3 1) F.chStatus_state 0 3 1).setChan 3
       { Channel.init with cur := some ⟨0, 0x1000, 0x2000, 0, false, true, 0, 0, false, 64, true, none⟩ },
     3, ⟨0, 0x1000, 0x2000, 0, false, true, 0, 0, false, 64, true, none⟩, by decide +kernel⟩,
   ⟨⟨34, 2, 0, 0, 0, [], false, true⟩,
     { inMode .run with net.resps := [⟨34, 2, 0, 0, 0, [], false, true⟩], net.outs := [⟨mkReq .read 0 4 0 0 34 2 [], .dma 3 1 0 0 8, false⟩] }, _,
     3, 1, 0, 0, 8, by decide +kernel, rfl, by decide +kernel⟩,
   ⟨(State.setF (State.setF (inMode .run) F.chCtl_enable 0 3 1) F.chStatus_state 0 3 1).setChan 3 { Channel.init with fetch := some 0x40 }, 3, 0,
     0x40, by decide +kernel⟩,
   ⟨(State.setF (State.setF (inMode .run) F.chCtl_enable 0 3 1) F.chStatus_state 0 3 1).setChan 3 { Channel.init with fetch := some 0x40 }, 3, 0,
     0x40, 3, by decide +kernel⟩,
   ⟨State.reset, 3, 0, 0x40, by decide +kernel⟩,
   ⟨3,
     (State.setF (State.setF (inMode .run) F.chCtl_enable 0 3 1) F.chStatus_state 0 3 1).setChan 3
       { Channel.init with retries := [⟨1, 0, ⟨0x400000000000, 8, 0, []⟩⟩] },
     ⟨1, 0, ⟨0x400000000000, 8, 0, []⟩⟩, [], by decide +kernel⟩,
   ⟨3,
     ({ (State.setF (State.setF (inMode .run) F.chCtl_enable 0 3 1) F.chStatus_state 0 3 1) with net.routeOv := [(niOf (dmaTile 0) * 1088 + 0, some (0, 0, 2 ^ 31, []))] }).setChan 3 { Channel.init with retries := [⟨1, 0, ⟨0x400000000000, 8, 0, []⟩⟩] },
     ⟨1, 0, ⟨0x400000000000, 8, 0, []⟩⟩, [], 0, 0, by decide +kernel⟩,
   ⟨⟨0, 0x2080, 0x2000, 0, false, true, 0, 0, false, 4096, true, none⟩, by decide +kernel⟩,
   ⟨⟨0, 0x2080, 0x2000, 0, false, true, 0, 0, false, 4096, true, none⟩, 4095, by decide +kernel⟩,
   ⟨⟨0, 0x2080, 0x2000, 0, false, true, 0, 0, false, 4096, true, none⟩, 4095, by decide +kernel⟩⟩

theorem witness_RegionSwaps :
    (∃ (p : Port) (m : Mbox) (s : State) (r : Nat), s.ready p m 0x0100 ∧ s.arg p m 0 1 = r ∧ (s.portTenant p = 0 ∨ s.portTenant p = s.regionTenant
      r)) ∧
    (∃ (p : Port) (m : Mbox) (s : State) (r : Nat), s.ready p m 0x0100 ∧ s.arg p m 0 1 = r ∧ s.portTenant p ≠ 0 ∧ s.portTenant p ≠ s.regionTenant
      r) ∧
    (∃ (p : Port) (m : Mbox) (s : State) (r : Nat), s.ready p m 0x0101 ∧ s.arg p m 0 1 = r ∧ (s.taken p m).regionRefuses (s.portTenant p) r [0] =
      none ∧ s.arg p m 1 1 = 0 ∧ s.imageOk (s.arg p m 2 1) (s.arg p m 3 1) = true ∧ s.arg p m 24 8 = 0) ∧
    (∃ (p : Port) (m : Mbox) (s : State) (r code : Nat), s.ready p m 0x0101 ∧ s.arg p m 0 1 = r ∧ (s.taken p m).regionRefuses (s.portTenant p) r
      [0] = some code) ∧
    (∃ (p : Port) (m : Mbox) (s : State) (r : Nat), s.ready p m 0x0102 ∧ s.arg p m 0 1 = r ∧ (s.taken p m).regionRefuses (s.portTenant p) r [0] =
      none) ∧
    (∃ (p : Port) (m : Mbox) (s : State) (r : Nat), s.ready p m 0x0103 ∧ s.arg p m 0 1 = r ∧ (s.taken p m).regionRefuses (s.portTenant p) r [1] =
      none ∧ s.arg p m 8 8 % 64 = 0) ∧
    (∃ (p : Port) (m : Mbox) (s : State) (r : Nat), s.ready p m 0x0104 ∧ s.arg p m 0 1 = r ∧ (s.taken p m).regionRefuses (s.portTenant p) r [1, 5]
      = none ∧ s.imageOk (s.arg p m 2 1) (s.arg p m 3 1) = true) ∧
    (∃ (p : Port) (m : Mbox) (s : State) (r : Nat), s.ready p m 0x0105 ∧ s.arg p m 0 1 = r ∧ (s.taken p m).regionRefuses (s.portTenant p) r [1] =
      none ∧ (s.region r).loaded = true ∧ ((s.taken p m).bufRead (s.regionTenant r) (s.arg p m 8 8) 64).2.1 = 0 ∧ captureOk ((s.taken p m).bufRead
      (s.regionTenant r) (s.arg p m 8 8) 64).2.2 r (((s.taken p m).bufRead (s.regionTenant r) (s.arg p m 8 8) 64).1.regionTenant r) = true) ∧
    (∃ (p : Port) (m : Mbox) (s : State) (r : Nat), s.ready p m 0x0105 ∧ s.arg p m 0 1 = r ∧ (s.taken p m).regionRefuses (s.portTenant p) r [1] =
      none ∧ (s.region r).loaded = true ∧ ((s.taken p m).bufRead (s.regionTenant r) (s.arg p m 8 8) 64).2.1 = 0 ∧ captureOk ((s.taken p m).bufRead
      (s.regionTenant r) (s.arg p m 8 8) 64).2.2 r (((s.taken p m).bufRead (s.regionTenant r) (s.arg p m 8 8) 64).1.regionTenant r) = false) ∧
    (∃ (p : Port) (m : Mbox) (s : State) (r : Nat), s.ready p m 0x0106 ∧ s.arg p m 0 1 = r ∧ (s.taken p m).regionRefuses (s.portTenant p) r [1] =
      none ∧ s.arg p m 8 8 = 0) ∧
    (∃ (p : Port) (m : Mbox) (s : State) (r : Nat), s.ready p m 0x0107 ∧ s.arg p m 0 1 = r ∧ (s.taken p m).regionRefuses (s.portTenant p) r [1] =
      none) ∧
    (∃ (s : State) (tenant r : Nat), tenant ≠ 0 ∧ tenant ≠ s.regionTenant r) ∧
    (∃ (s : State) (tenant r : Nat) (l : List Nat), s.regionRefuses tenant r l = none) ∧
    (∃ (r : RegionId) (errs e : List Bool) (s : State) (o : LongOp), s.maltarRuns = true ∧ s.regionOp r = some o ∧ o.opcode = 0x0101 ∧ (s.region
      r).image.isSome = true ∧ (s.region r).fencing = 0 ∧ (s.region r).failCode = none ∧ s.regionState r = 0 ∧ (if (s.regionSrc r).2.1.isNone then
      errs else []) = e ∧ ((s.storeErrs 0 e).regionHeader r).2.1 = 0 ∧ unread e = false ∧ ((s.storeErrs 0 e).regionHeader r).1.regionHeaderCode r
      ((s.storeErrs 0 e).regionHeader r).2.2 ≠ 0) ∧
    (∃ (r : RegionId) (errs e : List Bool) (s : State) (o : LongOp), s.maltarRuns = true ∧ s.regionOp r = some o ∧ o.opcode = 0x0101 ∧ (s.region
      r).image.isSome = true ∧ (s.region r).fencing = 0 ∧ (s.region r).failCode = none ∧ s.regionState r = 0 ∧ (if (s.regionSrc r).2.1.isNone then
      errs else []) = e ∧ ((s.storeErrs 0 e).regionHeader r).2.1 = 0 ∧ unread e = true) ∧
    (∃ (r : RegionId) (s : State), s.maltarRuns = true ∧ (s.region r).fencing = 1) ∧
    (∃ (r : RegionId) (s : State) (o : LongOp), s.maltarRuns = true ∧ (s.region r).fencing = 2 ∧ (∀ t ∈ ((s.forTiles r (fun t s => s.fenceForce
      t)).region r).tiles, (s.forTiles r (fun t s => s.fenceForce t)).niOuts t = 0 ∧ ((s.forTiles r (fun t s => s.fenceForce t)).engine t).run ≠
      .running ∧ ((s.forTiles r (fun t s => s.fenceForce t)).engine t).run ≠ .idle) ∧ ((s.forTiles r (fun t s => s.fenceForce t)).region r).blank =
      false ∧ State.regionOp (((s.forTiles r (fun t s => s.fenceForce t)).setRegion r
      { (s.forTiles r (fun t s => s.fenceForce t)).region r with fencing := 0 }).setRState r 1) r = some o ∧ o.opcode = 0x0102) ∧
    (∃ (r : RegionId) (s : State) (t : Nat), s.maltarRuns = true ∧ (s.region r).fencing = 2 ∧ t ∈ ((s.forTiles r (fun t s => s.fenceForce
      t)).region r).tiles ∧ (s.forTiles r (fun t s => s.fenceForce t)).niOuts t ≠ 0) ∧
    (∃ (r : RegionId) (s : State), s.regionState r = 3 ∧ s.stepTurn r = true ∧ (s.region r).due = none) ∧
    (∃ (r : RegionId) (gap : Option Word32) (s u : State) (d : Nat), s.regionState r = 2 ∧ (s.region r).failCode = none ∧ s.stepTurn r = true ∧
      (s.region r).due = none ∧ iter 4 (fun d s => s.ctlReport (some r.val) d (gap.map (·.toNat))) s = u ∧ (∀ d < 4, (u.ctl (some r.val)
      d).reported = true) ∧ (List.range 4).find? (fun d => (u.ctl (some r.val) d).fail.isSome) = some d) ∧
    (∃ (r : RegionId) (gap : Option Word32) (s u : State), s.regionState r = 2 ∧ (s.region r).failCode = none ∧ s.stepTurn r = true ∧ (s.region
      r).due = none ∧ iter 4 (fun d s => s.ctlReport (some r.val) d (gap.map (·.toNat))) s = u ∧ (∀ d < 4, (u.ctl (some r.val) d).reported = true ∧
      (u.ctl (some r.val) d).fail = none)) ∧
    (∃ (r : RegionId) (s : State), s.regionState r = 4 ∧ s.stepTurn r = true ∧ (s.region r).due = none ∧ (s.bufRead (s.regionTenant r) ((s.region
      r).buffer.getD 0) 64).2.1 = 0) ∧
    (∃ (r : RegionId) (s : State) (code : Nat), (s.region r).failCode = some code ∧ s.regionState r = 2 ∧ s.stepTurn r = true ∧ (s.region r).due =
      none) ∧
    (∃ (s : State) (r why : Nat), (s.region r).failCode = some why) ∧
    (∃ (s : State) (r code addr : Nat), (s.region r).due = some (1, code, addr)) ∧
    (∃ (s : State) (r code addr : Nat), (s.region r).due = some (2, code, addr) ∧ s.maltarRuns = true) ∧
    (∃ (s : State) (r code addr : Nat), (s.region r).due = some (3, code, addr) ∧ s.maltarRuns = true) ∧
    (∃ (s : State) (r code addr : Nat), (s.region r).due = some (4, code, addr) ∧ s.maltarRuns = true) ∧
    (∃ (r : RegionId) (s : State) (code addr : Nat), (s.region r).due = some (1, code, addr)) ∧
    (∃ (s : State) (d x : Nat), s.rgn.order.find? (fun x => s.regionOn x d) = some x) :=
  ⟨⟨4, 0,
     withCmd ({ State.setF (State.setF (inMode .run) F.regionStatus_state 0 5 1) F.regionStatus_defined 0 5 1 with rgn := ⟨[(5, { Region.init with tiles := [7] })], [(7, 6)], []⟩ }) 0x100 [5],
     5, ready_of (by decide +kernel), by decide +kernel, .inl (by decide +kernel)⟩,
   ⟨4, 0,
     asT1 (withCmd
       ({ State.setF (State.setF (inMode .run) F.regionStatus_state 0 5 1) F.regionStatus_defined 0 5 1 with rgn := ⟨[(5, { Region.init with tiles := [7] })], [(7, 6)], []⟩ }) 0x100 [5]),
     5, ready_of (by decide +kernel), by decide +kernel⟩,
   ⟨4, 0,
     withCmd ({ State.setF (State.setF (inMode .run) F.regionStatus_state 0 5 0) F.regionStatus_defined 0 5 1 with rgn := ⟨[(5, { Region.init with tiles := [7] })], [(7, 6)], []⟩ }) 0x101 ([5, 0, 1] ++ List.replicate 33 0),
     5, ready_of (by decide +kernel), by decide +kernel⟩,
   ⟨4, 0,
     withCmd ({ State.setF (State.setF (inMode .run) F.regionStatus_state 0 5 1) F.regionStatus_defined 0 5 1 with rgn := ⟨[(5, { Region.init with tiles := [7] })], [(7, 6)], []⟩ }) 0x101 ([5, 0, 1] ++ List.replicate 33 0),
     5, 0x14, ready_of (by decide +kernel), by decide +kernel⟩,
   ⟨4, 0,
     withCmd ({ State.setF (State.setF (inMode .run) F.regionStatus_state 0 5 0) F.regionStatus_defined 0 5 1 with rgn := ⟨[(5, { Region.init with tiles := [7] })], [(7, 6)], []⟩ }) 0x102 ([5] ++ List.replicate 7 0),
     5, ready_of (by decide +kernel), by decide +kernel⟩,
   ⟨4, 0,
     withCmd ({ State.setF (State.setF (inMode .run) F.regionStatus_state 0 5 1) F.regionStatus_defined 0 5 1 with rgn := ⟨[(5, { Region.init with tiles := [7] })], [(7, 6)], []⟩ }) 0x103 ([5, 1] ++ List.replicate 14 0),
     5, ready_of (by decide +kernel), by decide +kernel⟩,
   ⟨4, 0,
     withCmd ({ State.setF (State.setF (inMode .run) F.regionStatus_state 0 5 5) F.regionStatus_defined 0 5 1 with rgn := ⟨[(5, { Region.init with tiles := [7] })], [(7, 6)], []⟩ }) 0x104 ([5, 0, 1] ++ List.replicate 13 0),
     5, ready_of (by decide +kernel), by decide +kernel⟩,
   ⟨4, 0,
     (withCmd (State.setF (State.setF
       ({ State.setF (State.setF (inMode .run) F.regionStatus_state 0 5 1) F.regionStatus_defined 0 5 1 with rgn := ⟨[(5, { Region.init with tiles := [7], loaded := true })], [(7, 6)], []⟩ }) F.hbmStatus_state 0 0 1) F.hbmCtl_enable 0 0 1) 0x105 ([5] ++ List.replicate 15 0)).hwrite 0 0 (leBytes 4 0x5A430001 ++ [5, 0, 0, 1] ++ List.replicate 52 0 ++ leBytes 4 (crc32 (leBytes 4 0x5A430001 ++ [5, 0, 0, 1] ++ List.replicate 52 0))),
     5, ready_of (by decide +kernel), by decide +kernel⟩,
   ⟨4, 0,
     withCmd (State.setF (State.setF
       ({ State.setF (State.setF (inMode .run) F.regionStatus_state 0 5 1) F.regionStatus_defined 0 5 1 with rgn := ⟨[(5, { Region.init with tiles := [7], loaded := true })], [(7, 6)], []⟩ }) F.hbmStatus_state 0 0 1) F.hbmCtl_enable 0 0 1) 0x105 ([5] ++ List.replicate 15 0),
     5, ready_of (by decide +kernel), by decide +kernel⟩,
   ⟨4, 0,
     withCmd ({ State.setF (State.setF (inMode .run) F.regionStatus_state 0 5 1) F.regionStatus_defined 0 5 1 with rgn := ⟨[(5, { Region.init with tiles := [7] })], [(7, 6)], []⟩ }) 0x106 ([5] ++ List.replicate 19 0),
     5, ready_of (by decide +kernel), by decide +kernel⟩,
   ⟨4, 0,
     withCmd ({ State.setF (State.setF (inMode .run) F.regionStatus_state 0 5 1) F.regionStatus_defined 0 5 1 with rgn := ⟨[(5, { Region.init with tiles := [7] })], [(7, 6)], []⟩ }) 0x107 [5],
     5, ready_of (by decide +kernel), by decide +kernel⟩,
   ⟨State.reset, 1, 5, by decide +kernel⟩,
   ⟨{ State.setF (State.setF (inMode .run) F.regionStatus_state 0 5 1) F.regionStatus_defined 0 5 1 with rgn := ⟨[(5, { Region.init with tiles := [7] })], [(7, 6)], []⟩ },
     0, 5, [1], by decide +kernel⟩,
   ⟨5, [], _,
     { { State.setF (State.setF (inMode .run) F.regionStatus_state 0 5 0) F.regionStatus_defined 0 5 1 with rgn := ⟨[(5, { Region.init with tiles := [7], image := some (0, 9, 0) })], [(7, 6)], []⟩, hosts.ops := [⟨4, 1, 7, 0x101, 0, 5, [], 0, none⟩] } with ld.libs := [(9, { LibEntry.init with state := 2, len := 1024 })] },
     ⟨4, 1, 7, 0x101, 0, 5, [], 0, none⟩, by decide +kernel, by decide +kernel, by decide +kernel, by decide +kernel, by decide +kernel,
     by decide +kernel, by decide +kernel, rfl, by decide +kernel⟩,
   ⟨5, [true], _,
     { { State.setF (State.setF (inMode .run) F.regionStatus_state 0 5 0) F.regionStatus_defined 0 5 1 with rgn := ⟨[(5, { Region.init with tiles := [7], image := some (0, 9, 0) })], [(7, 6)], []⟩, hosts.ops := [⟨4, 1, 7, 0x101, 0, 5, [], 0, none⟩] } with ld.libs := [(9, { LibEntry.init with state := 2, len := 1024 })] },
     ⟨4, 1, 7, 0x101, 0, 5, [], 0, none⟩, by decide +kernel, by decide +kernel, by decide +kernel, by decide +kernel, by decide +kernel,
     by decide +kernel, by decide +kernel, rfl, by decide +kernel⟩,
   ⟨5,
     { State.setF (State.setF (inMode .run) F.regionStatus_state 0 5 0) F.regionStatus_defined 0 5 1 with rgn := ⟨[(5, { Region.init with tiles := [7], fencing := 1 })], [(7, 6)], []⟩ },
     by decide +kernel⟩,
   ⟨5,
     { State.setF (State.setF (inMode .run) F.regionStatus_state 0 5 0) F.regionStatus_defined 0 5 1 with rgn := ⟨[(5, { Region.init with tiles := [7], fencing := 2 })], [(7, 6)], []⟩, hosts.ops := [⟨4, 1, 7, 0x102, 0, 5, [], 0, none⟩] },
     ⟨4, 1, 7, 0x102, 0, 5, [], 0, none⟩, by decide +kernel⟩,
   ⟨5,
     { { State.setF (State.setF (inMode .run) F.regionStatus_state 0 5 0) F.regionStatus_defined 0 5 1 with rgn := ⟨[(5, { Region.init with tiles := [7], fencing := 2 })], [(7, 6)], []⟩ } with net.outs := [⟨mkReq .read 0 4 0 0 7 0 [], .fabric 0, false⟩] },
     7, by decide +kernel⟩,
   ⟨5,
     { { State.setF (State.setF (inMode .run) F.regionStatus_state 0 5 3) F.regionStatus_defined 0 5 1 with rgn := ⟨[(5, { Region.init with tiles := [7] })], [(7, 6)], []⟩ } with rgn.order := [5] },
     by decide +kernel⟩,
   ⟨5, none,
     { { State.setF (State.setF (inMode .run) F.regionStatus_state 0 5 2) F.regionStatus_defined 0 5 1 with rgn := ⟨[(5, { Region.init with tiles := [7] })], [(7, 6)], []⟩, ld.ctls := [(24, { LoadCtl.init with reported := true }), (25, { LoadCtl.init with reported := true }), (26, { LoadCtl.init with reported := true }), (27, { LoadCtl.init with reported := true, fail := some 0x22 })] } with rgn.order := [5] },
     _, 3, by decide +kernel, by decide +kernel, by decide +kernel, by decide +kernel, rfl, by decide +kernel⟩,
   ⟨5, none,
     { { State.setF (State.setF (inMode .run) F.regionStatus_state 0 5 2) F.regionStatus_defined 0 5 1 with rgn := ⟨[(5, { Region.init with tiles := [7] })], [(7, 6)], []⟩, ld.ctls := [(24, { LoadCtl.init with reported := true }), (25, { LoadCtl.init with reported := true }), (26, { LoadCtl.init with reported := true }), (27, { LoadCtl.init with reported := true })] } with rgn.order := [5] },
     _, by decide +kernel, by decide +kernel, by decide +kernel, by decide +kernel, rfl, by decide +kernel⟩,
   ⟨5,
     State.setF (State.setF
       ({ { State.setF (State.setF (inMode .run) F.regionStatus_state 0 5 4) F.regionStatus_defined 0 5 1 with rgn := ⟨[(5, { Region.init with tiles := [7] })], [(7, 6)], []⟩ } with rgn.order := [5] }) F.hbmStatus_state 0 0 1) F.hbmCtl_enable 0 0 1,
     by decide +kernel⟩,
   ⟨5,
     { { State.setF (State.setF (inMode .run) F.regionStatus_state 0 5 2) F.regionStatus_defined 0 5 1 with rgn := ⟨[(5, { Region.init with tiles := [7], failCode := some 0x22 })], [(7, 6)], []⟩ } with rgn.order := [5] },
     0x22, by decide +kernel⟩,
   ⟨{ State.setF (State.setF (inMode .run) F.regionStatus_state 0 5 2) F.regionStatus_defined 0 5 1 with rgn := ⟨[(5, { Region.init with tiles := [7], failCode := some 0x22 })], [(7, 6)], []⟩ },
     5, 0x22, by decide +kernel⟩,
   ⟨((inMode .run)).setRegion 5 { Region.init with tiles := [7], due := some (1, 0, 0) }, 5, 0, 0, by decide +kernel⟩,
   ⟨((inMode .run)).setRegion 5 { Region.init with tiles := [7], due := some (2, 0, 0) }, 5, 0, 0, by decide +kernel⟩,
   ⟨((inMode .run)).setRegion 5 { Region.init with tiles := [7], due := some (3, 0, 0) }, 5, 0, 0, by decide +kernel⟩,
   ⟨((inMode .run)).setRegion 5 { Region.init with tiles := [7], due := some (4, 0, 0) }, 5, 0, 0, by decide +kernel⟩,
   ⟨5, ((inMode .run)).setRegion 5 { Region.init with tiles := [7], due := some (1, 0, 0) }, 0, 0, by decide +kernel⟩,
   ⟨{ { State.setF (State.setF (inMode .run) F.regionStatus_state 0 5 2) F.regionStatus_defined 0 5 1 with rgn := ⟨[(5, { Region.init with tiles := [7] })], [(7, 6)], []⟩ } with rgn.order := [5] },
     0, 5, by decide +kernel⟩⟩

theorem witness_HbmRequests :
    (∃ (r : Req) (s : State) (code : Nat), s.net.reqs.contains r = true ∧ 1024 ≤ r.dst ∧ r.addr < 0x1800000000 ∧ r.crcOk = true ∧ s.portRefuses
      (s.hbmLocal r.addr).1 (s.hbmLocal r.addr).2 r = some code) ∧
    (∃ (r : Req) (s : State), s.net.reqs.contains r = true ∧ 1024 ≤ r.dst ∧ r.addr < 0x1800000000 ∧ r.crcOk = true ∧ s.portRefuses (s.hbmLocal
      r.addr).1 (s.hbmLocal r.addr).2 r = none) ∧
    (∃ (r : Req) (s : State) (st l : Nat), r.op ≠ .invalidate ∧ s.protGrant st r.rq r.op l = true ∧ s.pwinAt st (unitOf l) = none) ∧
    (∃ (st : Die) (s : State), s.hbmRuns st = false) ∧
    (∃ (st : Die) (pc : Fin 32) (s u : State) (h : HReq), s.hbmRuns st = true ∧
      { s.setHreqs st (s.hreqs st) with hbm.wmode := tput false s.hbm.wmode (st.val * 32 + pc.val) ((s.setHreqs st (s.hreqs st)).writesFirst st pc) }
      = u ∧ u.hbmPick st pc = some h) ∧
    (∃ (st : Die) (s : State), s.hreqs st = []) ∧
    (∃ (st : Die) (id : Nat) (s : State) (h : HReq), (s.hreqs st).find? (fun h => decide (h.id = id) && decide (h.phase = 1)) = some h ∧ s.hbmSt st
      ≠ 0 ∧ s.hbmSt st ≠ 3) ∧
    (∃ (st : Die) (id : Nat) (s : State) (h : HReq), (s.hreqs st).find? (fun h => decide (h.id = id) && decide (h.phase = 1)) = some h ∧ s.hbmSt st
      ≠ 0 ∧ s.hbmSt st ≠ 3 ∧ (h.req.op = .read ∨ s.shared h.req.addr = false ∨ 12 ≤ (s.tagsFree (1024 + 16 * st.val + h.pc / 2) 1).length)) ∧
    (∃ (s : State) (st : Nat) (h : HReq), s.pwinAt st (unitOf h.loc) = none ∧ h.req.op = .read) ∧
    (∃ (h : HReq), h.gone = false) ∧
    (∃ (r : Resp) (s : State) (o : Outst) (st wid : Nat), s.net.resps.contains r = true ∧ s.findOut r.src r.sport r.tag r.gen = some o ∧ o.who =
      .inval st wid ∧ r.crcOk = true) :=
  ⟨⟨{ mkReq .read 0x40 4 0 4 0 0 [] with dst := 1024 }, withReq (inMode .run) { mkReq .read 0x40 4 0 4 0 0 [] with dst := 1024 }, 2,
     by decide +kernel⟩,
   ⟨{ mkReq .read 0x40 4 0 4 0 0 [] with dst := 1024 },
     withReq (State.setF (inMode .run) F.hbmStatus_state 0 0 1) { mkReq .read 0x40 4 0 4 0 0 [] with dst := 1024 }, by decide +kernel⟩,
   ⟨{ mkReq .read 0x40 4 0 4 0 0 [] with dst := 1024 }, State.reset, 0, 0x40, by decide +kernel⟩,
   ⟨3, State.reset, by decide +kernel⟩,
   ⟨0, 0,
     (State.setF (inMode .run) F.hbmStatus_state 0 0 1).setHreqs 0 [⟨9, mkReq .write 0x40 4 0 4 0 0 [1, 2, 3, 4], 0, 0x40, 0, false, false, false,
       0, 0, [], false, false⟩],
     _, ⟨9, mkReq .write 0x40 4 0 4 0 0 [1, 2, 3, 4], 0, 0x40, 0, false, false, false, 0, 0, [], false, false⟩, by decide +kernel, rfl,
     by decide +kernel⟩,
   ⟨3, State.reset, by decide +kernel⟩,
   ⟨0, 9,
     (State.setF (inMode .run) F.hbmStatus_state 0 0 1).setHreqs 0 [⟨9, mkReq .write 0x40 4 0 4 0 0 [1, 2, 3, 4], 0, 0x40, 1, false, false, false,
       0, 0, [], false, false⟩],
     ⟨9, mkReq .write 0x40 4 0 4 0 0 [1, 2, 3, 4], 0, 0x40, 1, false, false, false, 0, 0, [], false, false⟩, by decide +kernel⟩,
   ⟨0, 9,
     (State.setF (inMode .run) F.hbmStatus_state 0 0 1).setHreqs 0 [⟨9, mkReq .write 0x40 4 0 4 0 0 [1, 2, 3, 4], 0, 0x40, 1, false, false, false,
       0, 0, [], false, false⟩],
     ⟨9, mkReq .write 0x40 4 0 4 0 0 [1, 2, 3, 4], 0, 0x40, 1, false, false, false, 0, 0, [], false, false⟩, by decide +kernel, by decide +kernel,
     by decide +kernel, .inr (.inl (by decide +kernel))⟩,
   ⟨State.reset, 0, ⟨9, mkReq .read 0x40 4 0 4 0 0 [], 0, 0x40, 1, false, false, false, 0, 0, [], false, false⟩, by decide +kernel⟩,
   ⟨⟨9, mkReq .write 0x40 4 0 4 0 0 [1, 2, 3, 4], 0, 0x40, 1, false, false, false, 0, 0, [], false, false⟩, by decide +kernel⟩,
   ⟨⟨34, 2, 0, 0, 0, [], false, true⟩,
     { inMode .run with net.resps := [⟨34, 2, 0, 0, 0, [], false, true⟩], net.outs := [⟨mkReq .read 0 4 0 0 34 2 [], .inval 3 9, false⟩] }, _, 3,
     9, by decide +kernel, rfl, by decide +kernel⟩⟩

theorem witness_HbmUpkeep :
    (∃ (st : Die) (s : State), (s.hbmSt st = 0 ∨ s.selfRefresh st = true)) ∧
    (∃ (st : Die) (s : State), s.hbmSt st = 1 ∧ s.selfRefresh st = false ∧ s.panic st = false) ∧
    (∃ (st : Die) (j : Fin 4) (s : State), s.flag F.hbmRt_en st j = true ∧ s.pw.mode = .run) ∧
    (∃ (s : State) (t level : Nat), level < 16 ∧ (∀ i < 4, s.clamp t (.pin t .ni .rtlevel i) = none)) ∧
    (∃ (st : Die) (s : State), s.tempKnown st = true) ∧
    (∃ (st : Die) (t : Fin 256) (s u : State) (b : Nat), s.tempKnown st = true ∧ s.stackTemp st (some t.val) = u ∧ u.hbmSt st = 1 ∧ u.hchange st =
      none ∧ u.maltarRuns = true ∧ u.getF F.hbmStatus_band st 0 = b ∧ bandFor b (sgn 8 t.val) ≠ b) ∧
    (∃ (st : Die) (s u : State) (b : Nat), s.hchange st = some ⟨none, some b⟩ ∧ s.drained st = true ∧ State.unstale ((s.setF F.hbmStatus_band st 0
      b).writeDelays st b) st = u) ∧
    (∃ (s : State) (st : Nat), s.regsWf = true ∧ st < 4 ∧ s.flag F.hbmStatus_delayStale st 0 = true) ∧
    (∃ (r : Req) (s : State) (st v : Nat), s.grantsWrite r .hbmCtl st 0 v ∧ bitAt v 30 = true ∧ bitAt v 31 = false ∧ bitAt v 0 = true ∧ s.flag
      F.hbmCtl_enable st 0 = true) ∧
    (∃ (r : Req) (s : State) (st v : Nat), s.grantsWrite r .hbmCtl st 0 v ∧ bitAt v 30 = false ∧ bitAt v 31 = true ∧ bitAt v 0 = true ∧ s.flag
      F.hbmCtl_enable st 0 = true) ∧
    (∃ (r : Req) (s : State) (st v : Nat), s.grantsWrite r .hbmCtl st 0 v ∧ bitAt v 30 = false ∧ bitAt v 31 = false ∧ bitAt v 0 = false ∧ s.flag
      F.hbmCtl_enable st 0 = true) ∧
    (∃ (s : State) (st : Nat), s.hbmSt st = 3 ∧ s.getF F.hbmFreeze_cause st 0 ≠ 4 ∧ (∀ h ∈ s.hreqs st, h.failed = false ∧ h.unver = false)) ∧
    (∃ (s : State) (st : Nat), s.hbmSt st ≠ 3) ∧
    (∃ (st : Die) (s u : State) (rate : Nat), s.hchange st = some ⟨some rate, none⟩ ∧ s.drained st = true ∧ [(Rg.hbmTim0, Rg.hbmTim0Sh), (.hbmTim1,
      .hbmTim1Sh), (.hbmTim2, .hbmTim2Sh)].foldl (fun s p => (s.setReg p.1 st 0 (s.reg p.2 st 0)).setReg p.2 st 0 (s.reg p.1 st 0)) s = u) ∧
    (∃ (p : Port) (m : Mbox) (s : State), s.ready p m 0x0310) ∧
    (∃ (p : Port) (m : Mbox) (s : State) (st : Nat), s.ready p m 0x0311 ∧ s.portTenant p = 0 ∧ s.arg p m 0 1 = st ∧ s.hbmSt st = 1 ∧ s.hchange st =
      none) ∧
    (∃ (p : Port) (m : Mbox) (s : State) (st : Nat), s.ready p m 0x0311 ∧ s.portTenant p = 0 ∧ s.arg p m 0 1 = st ∧ s.hbmSt st = 3) ∧
    (∃ (p : Port) (m : Mbox) (s : State), s.ready p m 0x0312 ∧ s.portTenant p = 0 ∧ s.hbmSt (s.arg p m 0 1) ≠ 3) ∧
    (∃ (p : Port) (m : Mbox) (s : State) (st : Nat), s.ready p m 0x0312 ∧ s.portTenant p = 0 ∧ s.arg p m 0 1 = st ∧ s.hbmSt st = 3 ∧ s.getF
      F.hbmFreeze_cause st 0 ≠ 4) ∧
    (∃ (p : Port) (m : Mbox) (s : State) (st : Nat), s.ready p m 0x0312 ∧ s.portTenant p = 0 ∧ s.arg p m 0 1 = st ∧ s.hbmSt st = 3 ∧ s.getF
      F.hbmFreeze_cause st 0 = 4) ∧
    (∃ (p : Port) (m : Mbox) (s : State), s.ready p m 0x0312 ∧ s.portTenant p ≠ 0) ∧
    (∃ (st : Die) (s : State), (s.hbmSt st ≠ 0 ∨ s.pw.step < 4)) ∧
    (∃ (st : Die) (t : Option (Fin 256)) (rfm : Bool) (s u v : State) (b : Nat), s.hbmSt st = 0 ∧ 4 ≤ s.pw.step ∧ (bitAt s.elec.railOrder st =
      false ∨ tget false s.hbm.reinit st = true) ∧ State.stackTemp
      { s with hbm.reinit := tput false s.hbm.reinit st false, pw.hbmEnded := if bitAt s.pw.hbmEnded st then s.pw.hbmEnded else s.pw.hbmEnded + 2 ^ st.val }
      st (t.map (·.val)) = u ∧ (match t with | some x => bandAt (sgn 8 x.val) | none => 1) = b ∧ State.setDegr (State.setHbmSt (State.setF
      (State.zeroStack (State.drawScr ((((u.bootTimings st).writeDelays st b).setF F.hbmStatus_band st 0 b).setF F.hbmDisturb_rfm st 0 (b2n rfm))
      st) st) F.hbmStatus_rate st 0 (leAt (State.bootSetting (State.zeroStack (State.drawScr ((((u.bootTimings st).writeDelays st b).setF
      F.hbmStatus_band st 0 b).setF F.hbmDisturb_rfm st 0 (b2n rfm)) st) st) 0x0021 st) 0 1)) st 1) st false = v) ∧
    (∃ (st : Die) (s u : State), s.hbmSt st = 0 ∧ 4 ≤ s.pw.step ∧
      { s with hbm.reinit := tput false s.hbm.reinit st false, pw.hbmEnded := if bitAt s.pw.hbmEnded st then s.pw.hbmEnded else s.pw.hbmEnded + 2 ^ st.val }
      = u) ∧
    (∃ (s : State), s.pw.hbmEnded ≠ 15) :=
  ⟨⟨3, State.reset, .inl (by decide +kernel)⟩,
   ⟨0, State.setF (inMode .run) F.hbmStatus_state 0 0 1, by decide +kernel⟩,
   ⟨3, 3, State.setF (inMode .run) F.hbmRt_en 3 3 1, by decide +kernel⟩,
   ⟨State.reset, 34, 15, by decide +kernel⟩,
   ⟨0, State.setF (inMode .run) F.hbmStatus_state 0 0 1, by decide +kernel⟩,
   ⟨0, 0x7F, State.setF (State.setF (inMode .run) F.hbmStatus_state 0 0 1) F.hbmStatus_band 0 0 1, _, _, by decide +kernel, rfl, by decide +kernel,
     by decide +kernel, by decide +kernel, rfl, by decide +kernel⟩,
   ⟨3, { State.reset with hbm.change := [(3, some ⟨none, some 2⟩)] }, _, 2, by decide +kernel, rfl, rfl⟩,
   ⟨State.setF State.reset F.hbmStatus_delayStale 3 0 1, 3, by decide +kernel⟩,
   ⟨(regReq .write .hbmCtl 3 0 0x40000001),
     withReq (State.setF (State.setF (inMode .run) F.hbmStatus_state 3 0 1) F.hbmCtl_enable 3 0 1) (regReq .write .hbmCtl 3 0 0x40000001), 3,
     0x40000001, by unfold State.grantsWrite; decide +kernel, by decide +kernel⟩,
   ⟨(regReq .write .hbmCtl 3 0 0x80000001),
     withReq (State.setF (State.setF (inMode .run) F.hbmStatus_state 3 0 1) F.hbmCtl_enable 3 0 1) (regReq .write .hbmCtl 3 0 0x80000001), 3,
     0x80000001, by unfold State.grantsWrite; decide +kernel, by decide +kernel⟩,
   ⟨(regReq .write .hbmCtl 3 0 0),
     withReq (State.setF (State.setF (inMode .run) F.hbmStatus_state 3 0 1) F.hbmCtl_enable 3 0 1) (regReq .write .hbmCtl 3 0 0), 3, 0,
     by unfold State.grantsWrite; decide +kernel, by decide +kernel⟩,
   ⟨State.setF (State.setF (inMode .run) F.hbmStatus_state 3 0 3) F.hbmFreeze_cause 3 0 1, 3, by decide +kernel⟩,
   ⟨State.reset, 3, by decide +kernel⟩,
   ⟨3, { State.reset with hbm.change := [(3, some ⟨some 2, none⟩)] }, _, 2, by decide +kernel, rfl, rfl⟩,
   ⟨4, 0, withCmd (inMode .run) 0x310 [3], ready_of (by decide +kernel)⟩,
   ⟨4, 0, withCmd (State.setF (inMode .run) F.hbmStatus_state 0 0 1) 0x311 [0, 2], 0, ready_of (by decide +kernel), by decide +kernel⟩,
   ⟨4, 0, withCmd (State.setF (inMode .run) F.hbmStatus_state 0 0 3) 0x311 [0, 2], 0, ready_of (by decide +kernel), by decide +kernel⟩,
   ⟨4, 0, withCmd (inMode .run) 0x312 [3], ready_of (by decide +kernel), by decide +kernel⟩,
   ⟨4, 0, withCmd (State.setF (State.setF (inMode .run) F.hbmStatus_state 0 0 3) F.hbmFreeze_cause 0 0 1) 0x312 [0], 0,
     ready_of (by decide +kernel), by decide +kernel⟩,
   ⟨4, 0, withCmd (State.setF (State.setF (inMode .run) F.hbmStatus_state 0 0 3) F.hbmFreeze_cause 0 0 4) 0x312 [0], 0,
     ready_of (by decide +kernel), by decide +kernel⟩,
   ⟨4, 0, asT1 (withCmd (inMode .run) 0x312 [3]), ready_of (by decide +kernel), by decide +kernel⟩,
   ⟨0, State.setF (inMode .run) F.hbmStatus_state 0 0 1, by decide +kernel⟩,
   ⟨3, some 0xFE, false, (inMode .run), _, _, _, by decide +kernel, by decide +kernel, .inl (by decide +kernel), rfl, rfl, rfl⟩,
   ⟨3, (inMode .run), _, by decide +kernel, by decide +kernel, rfl⟩,
   ⟨(inMode .run), by decide +kernel⟩⟩

theorem witness_RemoteCaches :
    (∃ (r : Req) (s : State), s.net.reqs.contains r = true ∧ r.dst < 1024 ∧ r.dst = dieTile (r.dst / 256) ∧ r.addr < 0x1800000000 ∧ r.op ≠
      .invalidate ∧ r.crcOk = true ∧ s.protGrant (s.hbmLocal r.addr).1 r.rq r.op (s.hbmLocal r.addr).2 = false) ∧
    (∃ (r : Req) (s : State) (d l : Nat) (x : RLine), s.net.reqs.contains r = true ∧ r.dst < 1024 ∧ r.dst = dieTile d ∧ r.dst / 256 = d ∧ r.addr <
      0x1800000000 ∧ r.op = .read ∧ r.crcOk = true ∧ s.protGrant (s.hbmLocal r.addr).1 r.rq .read (s.hbmLocal r.addr).2 = true ∧ rlines r = [l] ∧
      s.rline d l = some x) ∧
    (∃ (r : Req) (s : State) (d l : Nat), s.net.reqs.contains r = true ∧ r.dst < 1024 ∧ r.dst = dieTile d ∧ r.dst / 256 = d ∧ r.addr < 0x1800000000
      ∧ r.op = .read ∧ r.crcOk = true ∧ s.protGrant (s.hbmLocal r.addr).1 r.rq .read (s.hbmLocal r.addr).2 = true ∧ rlines r = [l] ∧ s.rline d l =
      none ∧ s.hbm.fills.find? (fun f => decide (f.die = d) && decide (f.line = l) && !f.stale) = none ∧ s.shared (l * 64) = true ∧ (s.takeReq
      r).routed (dieTile d) (1024 + 16 * (s.hbmLocal (l * 64)).1 + (s.hbmLoc (s.hbmLocal (l * 64)).1 (s.hbmLocal (l * 64)).2).pc / 2) = true ∧
      (s.takeReq r).hasTag ({ mkReq .read (l * 64) 64 r.tenant r.mclass (dieTile d) 5 [] with scopeAll := r.scopeAll, path := r.path } : Req) =
      true ∧ s.tagsFree (dieTile d) 5 ≠ []) ∧
    (∃ (r : Req) (s : State) (d : Nat), s.net.reqs.contains r = true ∧ r.dst < 1024 ∧ r.dst = dieTile d ∧ r.dst / 256 = d ∧ r.addr < 0x1800000000 ∧
      r.op ≠ .read ∧ r.op ≠ .invalidate ∧ r.crcOk = true ∧ s.protGrant (s.hbmLocal r.addr).1 r.rq r.op (s.hbmLocal r.addr).2 = true ∧ reqShape r.op
      r.addr r.size = true ∧ s.routed (dieTile d) (1024 + 16 * (s.hbmLocal r.addr).1 + (s.hbmLoc (s.hbmLocal r.addr).1 (s.hbmLocal r.addr).2).pc /
      2) = true ∧ s.hasTag ({ r with src := dieTile d, sport := 5, rt := false } : Req) = true) ∧
    (∃ (r : Resp) (s : State) (o : Outst) (d id : Nat) (fill : Bool), s.net.resps.contains r = true ∧ s.findOut r.src r.sport r.tag r.gen = some o
      ∧ o.who = .rcache d id fill ∧ r.crcOk = true) ∧
    (∃ (s : State) (id : Nat) (f : RFwd), s.hbm.fwds.find? (fun f => f.id = id) = some f) ∧
    (∃ (r : Req) (s : State), s.net.reqs.contains r = true ∧ r.dst < 1024 ∧ r.dst = dieTile (r.dst / 256) ∧ r.op = .invalidate ∧ (s.holdsLine
      (r.dst / 256) (r.addr / 64)).length ≤ (s.tagsFree r.dst 5).length) ∧
    (∃ (s : State) (d line : Nat), (s.rset d line).length < 16) ∧
    (∃ (s : State) (d l : Nat) (e : LineErr), e.pos = 0 ∧ e.ue = true ∧ (s.rline d l).isSome = true) ∧
    (∃ (s : State), Tbl.wf (fun _ => none) s.hbm.lines = true) ∧
    (∃ (p : Port) (m : Mbox) (s : State), s.ready p m 0x0313 ∧ s.portTenant p = 0 ∧ s.arg p m 1 1 = 1 ∧ s.arg p m 6 2 ≠ 0 ∧ s.arg p m 4 2 + s.arg p
      m 6 2 ≤ 1536 ∧ s.sharesProt (s.arg p m 4 2) (s.arg p m 6 2) = false ∧ bitAt (s.reg .rcacheWin 0 (s.arg p m 0 1)) 31 = false) ∧
    (∃ (p : Port) (m : Mbox) (s : State), s.canTake p m 0x0313 = true ∧ (s.mbox p m).relay = false ∧ s.portFull p 0x0313 = false ∧ (s.mbox p
      m).payload.length = 8 ∧ s.arg p m 1 1 = 1 ∧ 1536 < s.arg p m 4 2 + s.arg p m 6 2) :=
  ⟨⟨{ { mkReq .read 0x600000000 4 0 4 0 0 [] with dst := dieTile 0 } with tenant := 1 },
     withReq State.reset { { mkReq .read 0x600000000 4 0 4 0 0 [] with dst := dieTile 0 } with tenant := 1 }, by decide +kernel⟩,
   ⟨{ mkReq .read 0x600000000 4 0 4 0 0 [] with dst := dieTile 0 },
     withReq ({ State.reset with hbm.lines := [(rlKey 0 0x18000000, some ⟨List.replicate 64 0, 0⟩)] })
       { mkReq .read 0x600000000 4 0 4 0 0 [] with dst := dieTile 0 },
     0, 0x18000000, ⟨List.replicate 64 0, 0⟩, by decide +kernel⟩,
   ⟨{ mkReq .read 0x600000000 4 0 4 0 0 [] with dst := dieTile 0 },
     withReq ({ (State.setF (State.setF (State.setF State.reset F.rcacheWin_base 0 7 0x180) F.rcacheWin_size 0 7 1) F.rcacheWin_en 0 7 1) with net.routeOv := [(niOf (dieTile 0) * 1088 + 1040, some (0, 0, 2 ^ 31, []))] }) { mkReq .read 0x600000000 4 0 4 0 0 [] with dst := dieTile 0 },
     0, 0x18000000, by decide +kernel⟩,
   ⟨{ mkReq .write 0x600000000 4 0 4 0 0 [1, 2, 3, 4] with dst := dieTile 0 },
     withReq ({ (State.setF (State.setF (State.setF State.reset F.rcacheWin_base 0 7 0x180) F.rcacheWin_size 0 7 1) F.rcacheWin_en 0 7 1) with net.routeOv := [(niOf (dieTile 0) * 1088 + 1040, some (0, 0, 2 ^ 31, []))] }) { mkReq .write 0x600000000 4 0 4 0 0 [1, 2, 3, 4] with dst := dieTile 0 },
     0, by decide +kernel⟩,
   ⟨⟨34, 2, 0, 0, 0, [], false, true⟩,
     { inMode .run with net.resps := [⟨34, 2, 0, 0, 0, [], false, true⟩], net.outs := [⟨mkReq .read 0 4 0 0 34 2 [], .rcache 0 9 false, false⟩] },
     _, 0, 9, false, by decide +kernel, rfl, by decide +kernel⟩,
   ⟨{ State.reset with hbm.fwds := [⟨9, mkReq .read 0 4 0 0 34 2 []⟩] }, 9, ⟨9, mkReq .read 0 4 0 0 34 2 []⟩, by decide +kernel⟩,
   ⟨{ mkReq .invalidate 0x600000000 4 0 4 0 0 [] with dst := dieTile 0 },
     withReq (State.reset) { mkReq .invalidate 0x600000000 4 0 4 0 0 [] with dst := dieTile 0 }, by decide +kernel⟩,
   ⟨State.reset, 3, 5, by decide +kernel⟩,
   ⟨{ State.reset with hbm.lines := [(rlKey 0 0x18000000, some ⟨List.replicate 64 0, 0⟩)] }, 0, 0x18000000, ⟨0, 0, true, 0, 0⟩, by decide +kernel⟩,
   ⟨State.reset, by decide +kernel⟩,
   ⟨4, 0, withCmd (inMode .run) 0x313 [7, 1, 0, 0, 0, 0, 1, 0], ready_of (by decide +kernel), by decide +kernel⟩,
   ⟨4, 0, withCmd (inMode .run) 0x313 [7, 1, 0, 0, 0, 6, 1, 0], by decide +kernel⟩⟩

theorem witness_ProtectedWindows :
    (∃ (st : Die) (i : Fin 16) (p : Bool) (y : Fin 128) (s u : State), s.getF F.pwinCtl_state st i ≠ 0 ∧ s.eccError .stack st true 0xA i (b2n p) y
      = u ∧ u.getF F.pwinCtl_state st i ≠ 4) ∧
    (∃ (p : Port) (m : Mbox) (s : State), s.ready p m 0x0320 ∧ s.enableRange (s.arg p m 0 8) (s.arg p m 8 8) = none) ∧
    (∃ (p : Port) (m : Mbox) (s : State) (b u st k i t r : Nat), s.ready p m 0x0320 ∧ (s.taken p m).enableRange (s.arg p m 0 8) (s.arg p m 8 8) =
      some (b, u, [st]) ∧ 32 * s.arg p m 19 1 + s.arg p m 20 1 = k ∧ (s.taken p m).unitOwner st b = s.portTenant p ∧ (s.taken p m).chanTenant k =
      s.portTenant p ∧ (s.taken p m).inTwin st b u = true ∧ (s.taken p m).meetsShared (s.arg p m 0 8) (s.arg p m 8 8) = false ∧ (List.range u).any
      (fun j => ((s.taken p m).pwinAt st (b + j)).isSome) = false ∧ (s.taken p m).protBusy st = false ∧ (s.taken p m).dmaFree k = true ∧ (s.taken p
      m).getF F.hbmStatus_state st 0 ≠ 3 ∧ (s.taken p m).enablePlan u [st] = some [(st, i, t, r)]) ∧
    (∃ (k : Fin 512) (s : State), s.opsOn k [0x0320] = []) ∧
    (∃ (k : Fin 512) (s : State) (o : LongOp) (l : List LongOp) (code : Nat), s.maltarRuns = true ∧ s.opsOn k [0x0320] = o :: l ∧ code ≠ 0 ∧
      s.fillEnd k ((enableWins o.args).map (·.1)) = some code) ∧
    (∃ (k : Fin 512) (s : State) (o : LongOp) (l : List LongOp) (st i : Nat), s.maltarRuns = true ∧ s.opsOn k [0x0320] = o :: l ∧ enableWins o.args
      = [(st, i)] ∧ s.fillEnd k [st] = some 0 ∧ s.getF F.pwinCtl_state st i = 1) ∧
    (∃ (p : Port) (m : Mbox) (s : State) (st i k : Nat), s.ready p m 0x0321 ∧ s.arg p m 0 1 = st ∧ s.arg p m 1 1 = i ∧ 32 * s.arg p m 2 1 + s.arg p
      m 3 1 = k ∧ (s.taken p m).ownsWin (s.portTenant p) st i = true ∧ (s.taken p m).chanTenant k = s.portTenant p ∧ (s.taken p m).winBusy st i =
      false ∧ (s.taken p m).dmaFree k = true) ∧
    (∃ (p : Port) (m : Mbox) (s : State), s.ready p m 0x0321 ∧ (s.taken p m).ownsWin (s.portTenant p) (s.arg p m 0 1) (s.arg p m 1 1) = false) ∧
    (∃ (k : Fin 512) (s : State) (o : LongOp) (l : List LongOp), s.maltarRuns = true ∧ s.opsOn k [0x0321] = o :: l ∧ s.fillEnd k [lget 0 o.args 0]
      = some 0) ∧
    (∃ (p : Port) (m : Mbox) (s : State) (st i : Nat), s.ready p m 0x0322 ∧ s.arg p m 0 1 = st ∧ s.arg p m 1 1 = i ∧ (s.taken p m).ownsWin
      (s.portTenant p) st i = true ∧ (s.taken p m).winBusy st i = false ∧ (s.taken p m).getF F.pwinCtl_state st i ≠ 4) ∧
    (∃ (p : Port) (m : Mbox) (s : State) (st i k : Nat), s.ready p m 0x0323 ∧ s.arg p m 0 1 = st ∧ s.arg p m 1 1 = i ∧ 32 * s.arg p m 2 1 + s.arg p
      m 3 1 = k ∧ (s.taken p m).ownsWin (s.portTenant p) st i = true ∧ (s.taken p m).chanTenant k = s.portTenant p ∧ (s.taken p m).getF
      F.hbmStatus_state st 0 ≠ 3 ∧ (s.taken p m).getF F.pwinCtl_state st i ≠ 4 ∧ (s.taken p m).flag F.pwinFault_valid st i = true ∧ (s.taken p
      m).winBusy st i = false ∧ (s.taken p m).protBusy st = false ∧ (s.taken p m).dmaFree k = true) ∧
    (∃ (k : Fin 512) (s : State) (o : LongOp) (l : List LongOp), s.maltarRuns = true ∧ s.opsOn k [0x0323] = o :: l ∧ s.fillEnd k [lget 0 o.args 0]
      = some 0) ∧
    (∃ (p : Port) (m : Mbox) (s : State) (st i : Nat), s.ready p m 0x0324 ∧ s.arg p m 0 1 = st ∧ s.arg p m 1 1 = i ∧ (s.portTenant p = 0 ∨ (s.taken
      p m).ownsWin (s.portTenant p) st i = true) ∧ (s.taken p m).getF F.pwinCtl_state st i = 4) ∧
    (∃ (p : Port) (m : Mbox) (s : State) (st i : Nat), s.ready p m 0x0324 ∧ s.arg p m 0 1 = st ∧ s.arg p m 1 1 = i ∧ (s.portTenant p = 0 ∨ (s.taken
      p m).ownsWin (s.portTenant p) st i = true) ∧ (s.taken p m).getF F.pwinCtl_state st i ≠ 4) :=
  ⟨⟨3, 15, true, 127, State.setF (State.setF (State.setF (inMode .run) F.pwinCtl_state 3 15 1) F.pwinRange_base 3 15 0) F.pwinRange_size 3 15 1, _,
     by decide +kernel, rfl, by decide +kernel⟩,
   ⟨4, 0, withCmd (inMode .run) 0x320 ([0, 0, 0, 0, 24] ++ List.replicate 6 0 ++ [4] ++ List.replicate 20 0), ready_of (by decide +kernel),
     by decide +kernel⟩,
   ⟨4, 0,
     withCmd (State.setF (State.setF (State.setF (State.setF (State.setF (State.setF (inMode .run) F.protStatus_carve 3 0 1) F.hbmMap_interleave 0
       0 0) F.twinRange_base 3 7 0) F.twinRange_size 3 7 1) F.twinCtl_en 3 7 1) F.chCtl_enable 15 31 1) 0x320 ([0, 0, 0, 0, 18] ++ List.replicate 6
       0 ++ [4] ++ List.replicate 7 0 ++ [15, 31] ++ List.replicate 11 0),
     0, 1, 3, 511, 0, 0, 128, ready_of (by decide +kernel), by decide +kernel⟩,
   ⟨511, State.reset, by decide +kernel⟩,
   ⟨511,
     { (State.setF (State.setF (State.setF (inMode .run) F.pwinCtl_state 3 15 1) F.pwinRange_base 3 15 0) F.pwinRange_size 3 15 1).setChan 511 { Channel.init with ended := some 0xFF } with hosts.ops := [⟨4, 1, 7, 0x320, 0, 511, [255, 255, 255, 15], 0, none⟩] },
     ⟨4, 1, 7, 0x320, 0, 511, [255, 255, 255, 15], 0, none⟩, [], 0xFF, by decide +kernel⟩,
   ⟨511,
     { (State.setF (State.setF (State.setF (inMode .run) F.pwinCtl_state 3 15 1) F.pwinRange_base 3 15 0) F.pwinRange_size 3 15 1).setChan 511 { Channel.init with ended := some 0 } with hosts.ops := [⟨4, 1, 7, 0x320, 0, 511, [255, 255, 255, 15], 0, none⟩] },
     ⟨4, 1, 7, 0x320, 0, 511, [255, 255, 255, 15], 0, none⟩, [], 3, 15, by decide +kernel⟩,
   ⟨4, 0,
     withCmd (State.setF (State.setF (State.setF (State.setF (inMode .run) F.pwinCtl_state 3 15 2) F.pwinRange_base 3 15 0) F.pwinRange_size 3 15
       1) F.chCtl_enable 15 31 1) 0x321 [3, 15, 15, 31],
     3, 15, 511, ready_of (by decide +kernel), by decide +kernel⟩,
   ⟨4, 0, withCmd (inMode .run) 0x321 [3, 15, 15, 31], ready_of (by decide +kernel), by decide +kernel⟩,
   ⟨511,
     { (State.setF (State.setF (State.setF (inMode .run) F.pwinCtl_state 3 15 2) F.pwinRange_base 3 15 0) F.pwinRange_size 3 15 1).setChan 511 { Channel.init with ended := some 0 } with hosts.ops := [⟨4, 1, 7, 0x321, 0, 511, [3, 15, 15, 31], 0, none⟩] },
     ⟨4, 1, 7, 0x321, 0, 511, [3, 15, 15, 31], 0, none⟩, [], by decide +kernel⟩,
   ⟨4, 0,
     withCmd (State.setF (State.setF (State.setF (inMode .run) F.pwinCtl_state 3 15 2) F.pwinRange_base 3 15 0) F.pwinRange_size 3 15 1) 0x322 [3,
       15, 0, 0, 0],
     3, 15, ready_of (by decide +kernel), by decide +kernel⟩,
   ⟨4, 0,
     withCmd (State.setF (State.setF (State.setF (State.setF (State.setF (inMode .run) F.pwinCtl_state 3 15 3) F.pwinRange_base 3 15 0)
       F.pwinRange_size 3 15 1) F.chCtl_enable 15 31 1) F.pwinFault_valid 3 15 1) 0x323 ([3, 15, 15, 31] ++ List.replicate 12 0),
     3, 15, 511, ready_of (by decide +kernel), by decide +kernel⟩,
   ⟨511,
     { (State.setF (State.setF (State.setF (inMode .run) F.pwinCtl_state 3 15 3) F.pwinRange_base 3 15 0) F.pwinRange_size 3 15 1).setChan 511 { Channel.init with ended := some 0 } with hosts.ops := [⟨4, 1, 7, 0x323, 0, 511, [3, 15, 15, 31], 0, none⟩] },
     ⟨4, 1, 7, 0x323, 0, 511, [3, 15, 15, 31], 0, none⟩, [], by decide +kernel⟩,
   ⟨4, 0,
     withCmd (State.setF (State.setF (State.setF (inMode .run) F.pwinCtl_state 3 15 4) F.pwinRange_base 3 15 0) F.pwinRange_size 3 15 1) 0x324 [3,
       15],
     3, 15, ready_of (by decide +kernel), by decide +kernel, by decide +kernel, .inl (by decide +kernel), by decide +kernel⟩,
   ⟨4, 0,
     withCmd (State.setF (State.setF (State.setF (inMode .run) F.pwinCtl_state 3 15 2) F.pwinRange_base 3 15 0) F.pwinRange_size 3 15 1) 0x324 [3,
       15],
     3, 15, ready_of (by decide +kernel), by decide +kernel, by decide +kernel, .inl (by decide +kernel), by decide +kernel⟩⟩

theorem witness_TestModes :
    (∃ (p : Port) (m : Mbox) (s : State), s.ready p m 0x0330 ∧ s.portTenant p = 0 ∧ s.arg p m 0 1 = 0 ∧ s.arg p m 2 2 < 1024 ∧ Rg.eccTestT.okWrite
      (s.arg p m 4 4) = true) ∧
    (∃ (p : Port) (m : Mbox) (s : State), s.canTake p m 0x0330 = true ∧ (s.mbox p m).relay = false ∧ s.portFull p 0x0330 = false ∧ (s.mbox p
      m).payload.length = 8 ∧ s.arg p m 0 1 = 0 ∧ 1024 ≤ s.arg p m 2 2) ∧
    (∃ (p : Port) (m : Mbox) (s : State), s.ready p m 0x0331 ∧ s.portTenant p = 0 ∧ s.arg p m 0 1 = 0 ∧ s.arg p m 1 1 = 0 ∧ s.arg p m 2 2 < 1024) ∧
    (∃ (p : Port) (m : Mbox) (s : State), s.ready p m 0x0340 ∧ s.portTenant p = 0 ∧ (∀ k < 5, istOk k (s.arg p m (8 * k) 8) = true)) ∧
    (∃ (r : Req) (s : State) (t v : Nat), s.grantsWrite r .eccLogctlT t 0 v ∧ bitAt v 31 = true) ∧
    (∃ (r : Req) (s : State) (t v : Nat), s.grantsWrite r .eccTestT t 0 v ∧ bits v 23 20 ≠ 0) ∧
    (∃ (r : Req) (s : State) (t v : Nat), s.grantsWrite r .eccTestT t 0 v ∧ bitAt v 19 = true) ∧
    (∃ (v : Nat), bitAt v 31 = false) ∧
    (∃ (r : Req) (s : State) (st v : Nat), s.grantsWrite r .eccTestS st 0 v ∧ bitAt v 31 = true ∧ bits v 1 0 ≠ 0) ∧
    (∃ (s : State), s.istRuns 0 = false) ∧
    (∃ (s : State), s.istRuns 0 = true ∧ s.eng = [] ∧ s.fab.blks = []) ∧
    (∃ (t : Tile) (p : Fin 8) (s : State), s.istRuns 1 = true ∧ s.portOn t p = true) ∧
    (∃ (s : State), s.istRuns 1 = true) ∧
    (∃ (b : Fin 64) (s : State), s.istRuns 2 = true ∧ b.val < 48) ∧
    (∃ (s : State) (d p c b line : Nat), s.lineCarries (fkey (seamOf d p) c b) line = (false, none)) ∧
    (∃ (s : State), s.istRuns 3 = true ∧ (∀ st < 4, s.hbmSt st ≠ 1)) ∧
    (∃ (sev : Nat), (sev = 1 ∨ sev = 2)) ∧
    (∃ (s : State) (st : Nat), s.hbmSt st = 1 ∧ s.flag F.eccTestS_testEn st 0 = true) ∧
    (∃ (s : State), s.istRuns 4 = true ∧ s.storeBusy = false) ∧
    (∃ (n : Nat), 0 < n ∧ n < 4) ∧
    (∃ (s u : State) (d b n : Nat), 4 ≤ n ∧ s.eccError .store d false 0xC b 0 0 = u ∧ tget 0 u.ld.spares d + 1 < 4096) :=
  ⟨⟨4, 0, withCmd (inMode .run) 0x330 [0, 0, 255, 3, 1, 0, 0, 0], ready_of (by decide +kernel), by decide +kernel⟩,
   ⟨4, 0, withCmd (inMode .run) 0x330 [0, 0, 0, 4, 1, 0, 0, 0], by decide +kernel⟩,
   ⟨4, 0, withCmd (inMode .run) 0x331 [0, 0, 255, 3], ready_of (by decide +kernel), by decide +kernel⟩,
   ⟨4, 0, withCmd (inMode .run) 0x340 (List.replicate 40 0), ready_of (by decide +kernel), by decide +kernel⟩,
   ⟨(regReq .write .eccLogctlT 1023 0 0x80000000), (withReq State.reset (regReq .write .eccLogctlT 1023 0 0x80000000)), 1023, 0x80000000,
     by unfold State.grantsWrite; decide +kernel, by decide +kernel⟩,
   ⟨(regReq .write .eccTestT 1023 0 0x100000), (withReq State.reset (regReq .write .eccTestT 1023 0 0x100000)), 1023, 0x100000,
     by unfold State.grantsWrite; decide +kernel, by decide +kernel⟩,
   ⟨(regReq .write .eccTestT 1023 0 0x80000), (withReq State.reset (regReq .write .eccTestT 1023 0 0x80000)), 1023, 0x80000,
     by unfold State.grantsWrite; decide +kernel, by decide +kernel⟩,
   ⟨0x7FFFFFFF, by decide +kernel⟩,
   ⟨(regReq .write .eccTestS 3 0 0x80000001), (withReq State.reset (regReq .write .eccTestS 3 0 0x80000001)), 3, 0x80000001,
     by unfold State.grantsWrite; decide +kernel, by decide +kernel⟩,
   ⟨State.reset, by decide +kernel⟩,
   ⟨{ inMode .run with ecc.period := [1, 0, 0, 0, 0] }, by decide +kernel⟩,
   ⟨34, 1, { State.setReg ((inMode .run).setReg .rtrLinkEn 34 0 0xFF) .rtrLinkEn (neighbor 34 1) 0 0xFF with ecc.period := [0, 1, 0, 0, 0] },
     by decide +kernel⟩,
   ⟨{ inMode .lockout with ecc.period := [0, 1, 0, 0, 0] }, by decide +kernel⟩,
   ⟨47, { inMode .run with ecc.period := [0, 0, 1, 0, 0] }, by decide +kernel⟩,
   ⟨{ State.reset with seams.slackUse := [(fkey (seamOf 3 1) 15 47, 0, 5)] }, 3, 1, 15, 47, 5, by decide +kernel⟩,
   ⟨{ inMode .run with ecc.period := [0, 0, 0, 1, 0] }, by decide +kernel⟩,
   ⟨2, .inr rfl⟩,
   ⟨State.setF (State.setF (inMode .run) F.hbmStatus_state 0 0 1) F.eccTestS_testEn 0 0 1, 0, by decide +kernel⟩,
   ⟨{ inMode .run with ecc.period := [0, 0, 0, 0, 1] }, by decide +kernel⟩,
   ⟨3, by decide +kernel⟩,
   ⟨State.reset, _, 3, 0, 4, by decide +kernel, rfl, by decide +kernel⟩⟩

theorem witness_HostWindow :
    (∃ (p : Port) (m : Mbox) (s : State) (q seg en base : Nat), s.ready p m 0x350 ∧ s.arg p m 0 1 = q ∧ s.arg p m 1 1 = seg ∧ s.arg p m 2 1 = en ∧
      s.arg p m 4 2 = base ∧ s.portTenant p = s.portTenant q) ∧
    (∃ (p : Port) (m : Mbox) (s : State) (q : Nat), s.ready p m 0x350 ∧ s.arg p m 0 1 = q ∧ s.portTenant p ≠ s.portTenant q) ∧
    (∃ (p : Die) (off : BitVec 36) (n : Fin 4096) (s : State), s.flag F.hpStatus_linkUp p 0 = true ∧ s.portEnds p = false ∧ off.toNat % 4096 +
      n.val + 1 ≤ 4096 ∧ ((s.port p).d3hot = true ∨ s.bar2Mode = false ∨ s.flag F.hpXlat_en p (off.toNat / 2 ^ 32) = false)) ∧
    (∃ (p : Die) (off : BitVec 36) (n : Fin 4096) (s : State), s.flag F.hpStatus_linkUp p 0 = true ∧ s.portEnds p = false ∧ off.toNat % 4096 +
      n.val + 1 ≤ 4096 ∧ (s.port p).d3hot = false ∧ s.bar2Mode = true ∧ s.flag F.hpXlat_en p (off.toNat / 2 ^ 32) = true) ∧
    (∃ (p : Die) (off : BitVec 36) (data : List Byte) (s : State), s.flag F.hpStatus_linkUp p 0 = true ∧ s.portEnds p = false ∧ 0 < data.length ∧
      data.length ≤ 512 ∧ off.toNat % 4096 + data.length ≤ 4096 ∧ (s.port p).d3hot = false ∧ s.bar2Mode = true ∧ s.flag F.hpXlat_en p (off.toNat /
      2 ^ 32) = true) ∧
    (∃ (p : Die) (off : BitVec 36) (data : List Byte) (s : State), s.flag F.hpStatus_linkUp p 0 = true ∧ s.portEnds p = false ∧ 0 < data.length ∧
      data.length ≤ 512 ∧ off.toNat % 4096 + data.length ≤ 4096 ∧ (s.port p).d3hot = false ∧ s.bar2Mode = true ∧ s.flag F.hpXlat_en p (off.toNat /
      2 ^ 32) = false) ∧
    (∃ (p : Die) (off : BitVec 36) (data : List Byte) (s : State), s.flag F.hpStatus_linkUp p 0 = true ∧ s.portEnds p = false ∧ 0 < data.length ∧
      data.length ≤ 512 ∧ off.toNat % 4096 + data.length ≤ 4096 ∧ ((s.port p).d3hot = true ∨ s.bar2Mode = false)) ∧
    (∃ (s : State) (p : Nat), s.regsWf = true ∧ p < 4 ∧ s.flag F.hpBar2Err_valid p 0 = true) ∧
    (∃ (r : Resp) (s : State) (o : Outst) (p id off len : Nat), s.net.resps.contains r = true ∧ s.findOut r.src r.sport r.tag r.gen = some o ∧
      o.who = .bar2 p id off len ∧ r.crcOk = true) ∧
    (∃ (p : Die) (s : State) (t : Tlp) (x : Nat × Nat × List Byte) (rest : List (Nat × Nat × List Byte)), (s.port p).tlps.find? (fun t =>
      !t.retry.isEmpty) = some t ∧ t.retry = x :: rest) ∧
    (∃ (p : Die) (s u : State) (t : Tlp) (x : Nat × Nat × List Byte) (rest : List (Nat × Nat × List Byte)), (s.port p).tlps.find? (fun t =>
      !t.retry.isEmpty) = some t ∧ t.retry = x :: rest ∧ s.bar2Send p t x = (u, some 0)) :=
  ⟨⟨4, 0, withCmd (inMode .run) 0x350 [3, 15, 1, 0, 255, 127], 3, 15, 1, 0x7FFF, ready_of (by decide +kernel), by decide +kernel⟩,
   ⟨4, 0, asT1 (withCmd (inMode .run) 0x350 [3, 15, 1, 0, 255, 127]), 3, ready_of (by decide +kernel), by decide +kernel⟩,
   ⟨3, 0xFFFFFFFFF, 0, State.setF (inMode .run) F.hpStatus_linkUp 3 0 1, by decide +kernel, by decide +kernel, by decide +kernel,
     .inr (.inr (by decide +kernel))⟩,
   ⟨3, 0xFFFFFFFFF, 0, State.setF (State.setF (inMode .run) F.hpStatus_linkUp 3 0 1) F.hpXlat_en 3 15 1, by decide +kernel⟩,
   ⟨3, 0xFFFFFFFFF, [7], State.setF (State.setF (inMode .run) F.hpStatus_linkUp 3 0 1) F.hpXlat_en 3 15 1, by decide +kernel⟩,
   ⟨3, 0xFFFFFFFFF, [7], State.setF (inMode .run) F.hpStatus_linkUp 3 0 1, by decide +kernel⟩,
   ⟨3, 0xFFFFFFFFF, [7], State.setF (inMode .load) F.hpStatus_linkUp 3 0 1, by decide +kernel, by decide +kernel, by decide +kernel,
     by decide +kernel, by decide +kernel, .inr (by decide +kernel)⟩,
   ⟨State.setF State.reset F.hpBar2Err_valid 3 0 1, 3, by decide +kernel⟩,
   ⟨⟨34, 2, 0, 0, 0, [], false, true⟩,
     { inMode .run with net.resps := [⟨34, 2, 0, 0, 0, [], false, true⟩], net.outs := [⟨mkReq .read 0 4 0 0 34 2 [], .bar2 3 0 0 4, false⟩] }, _,
     3, 0, 0, 4, by decide +kernel, rfl, by decide +kernel⟩,
   ⟨3, (inMode .run).setPort 3 { HostPort.init with tlps := [⟨0, true, 0x40, 4, [], 1, 0, [], [(0x40, 4, [1, 2, 3, 4])]⟩] },
     ⟨0, true, 0x40, 4, [], 1, 0, [], [(0x40, 4, [1, 2, 3, 4])]⟩, (0x40, 4, [1, 2, 3, 4]), [], by decide +kernel⟩,
   ⟨3,
     { ((inMode .run).setPort 3 { HostPort.init with tlps := [⟨0, true, 0x40, 4, [], 1, 0, [], [(0x40, 4, [1, 2, 3, 4])]⟩] }) with net.routeOv := [(niOf (portTile 3) * 1088 + 1024, some (0, 0, 2 ^ 31, []))] },
     _, ⟨0, true, 0x40, 4, [], 1, 0, [], [(0x40, 4, [1, 2, 3, 4])]⟩, (0x40, 4, [1, 2, 3, 4]), [], by decide +kernel, by decide +kernel, rfl⟩⟩

theorem witness_Relay :
    (∃ (l : Lane) (b : List Byte) (s : State), s.sysActive l = true ∧ s.maltarRuns = true ∧ relayOk 0 b = true ∧ leAt b 12 8 = deviceId) ∧
    (∃ (l : Lane) (b : List Byte) (s : State), s.sysActive l = true ∧ s.maltarRuns = true ∧ relayOk 0 b = true ∧ leAt b 12 8 ≠ deviceId ∧ 63 ≤ leAt
      b 2 1) ∧
    (∃ (l : Lane) (b : List Byte) (s : State), s.sysActive l = true ∧ s.maltarRuns = true ∧ relayOk 0 b = true ∧ leAt b 12 8 ≠ deviceId ∧ leAt b 2
      1 < 63 ∧ s.relayLane (leAt b 12 8) = none) ∧
    (∃ (l : Lane) (b : List Byte) (s : State) (out : Nat), s.sysActive l = true ∧ s.maltarRuns = true ∧ relayOk 0 b = true ∧ leAt b 12 8 ≠ deviceId
      ∧ leAt b 2 1 < 63 ∧ s.relayLane (leAt b 12 8) = some out) ∧
    (∃ (l : Lane) (b : List Byte) (s : State) (w : RelayWait), s.sysActive l = true ∧ s.maltarRuns = true ∧ relayOk 1 b = true ∧ leAt b 4 8 =
      deviceId ∧ s.hosts.waits.find? (fun w => w.rtag = leAt b 20 2) = some w ∧ (s.mbox w.port w.mbox).state = 2) ∧
    (∃ (l : Lane) (b : List Byte) (s : State), s.sysActive l = true ∧ s.maltarRuns = true ∧ relayOk 1 b = true ∧ leAt b 4 8 = deviceId ∧
      s.hosts.waits.find? (fun w => w.rtag = leAt b 20 2) = none) ∧
    (∃ (l : Lane) (b : List Byte) (s : State), s.sysActive l = true ∧ s.maltarRuns = true ∧ relayOk 2 b = true ∧ s.slPresent l = true) ∧
    (∃ (l : Lane) (b : List Byte) (s : State), s.sysActive l = true ∧ relayOk 0 b = false) ∧
    (∃ (routes : List RelayRoute) (l dev : Nat) (r : RelayRoute), dev ≠ deviceId ∧ routes.find? (fun r => r.dev = dev) = some r ∧ r.lane ≠ l) ∧
    (∃ (s : State), s.maltarRuns = true) ∧
    (∃ (rtag : Word16) (s : State) (w : RelayWait), s.hosts.waits.find? (fun w => w.rtag = rtag.toNat) = some w ∧ s.maltarRuns = true) ∧
    (∃ (p : Port) (m : Mbox) (s : State) (l : List (Nat × Nat)), s.ready p m 0x900 ∧ ((s.port p).view.drop (48 * s.arg p m 0 1)).take 48 = l) ∧
    (∃ (p : Port) (m : Mbox) (s : State) (l : List RelayRoute), s.ready p m 0x901 ∧ (s.routeOrder.drop (s.arg p m 0 2)).take 48 = l) :=
  ⟨⟨191, relayTo 0 0 0 deviceId,
     (State.setF (State.setF (State.setF (State.setF (inMode .run) F.lnState_los 47 3 0) F.lnState_lol 47 3 0) F.lnState_state 47 3 5)
       F.lnState_link 47 3 9),
     by decide +kernel, by decide +kernel, by decide +kernel, relayTo_dev 0 0 0 deviceId deviceId_lt⟩,
   ⟨191, relayTo 0 63 0 otherId,
     (State.setF (State.setF (State.setF (State.setF (inMode .run) F.lnState_los 47 3 0) F.lnState_lol 47 3 0) F.lnState_state 47 3 5)
       F.lnState_link 47 3 9),
     by decide +kernel, by decide +kernel, by decide +kernel, relayTo_other 0 63, by decide +kernel⟩,
   ⟨191, relayTo 0 0 0 otherId,
     (State.setF (State.setF (State.setF (State.setF (inMode .run) F.lnState_los 47 3 0) F.lnState_lol 47 3 0) F.lnState_state 47 3 5)
       F.lnState_link 47 3 9),
     by decide +kernel, by decide +kernel, by decide +kernel, relayTo_other 0 0, by decide +kernel, rfl⟩,
   ⟨191, relayTo 0 0 0 otherId,
     { (State.setF (State.setF (State.setF (State.setF (inMode .run) F.lnState_los 47 3 0) F.lnState_lol 47 3 0) F.lnState_state 47 3 5) F.lnState_link 47 3 9) with hosts.routes := [⟨otherId, 1, 191, 0⟩] },
     191, by decide +kernel, by decide +kernel, by decide +kernel, relayTo_other 0 0, by decide +kernel,
     by rw [relayTo_dev _ _ _ _ otherId_lt]; simp only [State.relayLane, List.find?, decide_true]; decide +kernel⟩,
   ⟨191, relayTo 1 0 deviceId 0,
     State.setPort
       { (State.setF (State.setF (State.setF (State.setF (inMode .run) F.lnState_los 47 3 0) F.lnState_lol 47 3 0) F.lnState_state 47 3 5) F.lnState_link 47 3 9) with hosts.waits := [⟨0, 4, 0⟩] } 4 { HostPort.init with mbs := [(0, { Mailbox.init with state := 2 })] },
     ⟨0, 4, 0⟩, by decide +kernel, by decide +kernel, by decide +kernel, relayTo_src 1 0 deviceId 0 deviceId_lt, by decide +kernel⟩,
   ⟨191, relayTo 1 0 deviceId 0,
     (State.setF (State.setF (State.setF (State.setF (inMode .run) F.lnState_los 47 3 0) F.lnState_lol 47 3 0) F.lnState_state 47 3 5)
       F.lnState_link 47 3 9),
     by decide +kernel, by decide +kernel, by decide +kernel, relayTo_src 1 0 deviceId 0 deviceId_lt, by decide +kernel⟩,
   ⟨191, [3, 2, 0, 0] ++ List.replicate 20 0,
     State.setF ((State.setF (State.setF (State.setF (State.setF (inMode .run) F.lnState_los 47 3 0) F.lnState_lol 47 3 0) F.lnState_state 47 3 5)
       F.lnState_link 47 3 9)) F.lnSlStatus_present 47 3 1,
     by decide +kernel⟩,
   ⟨191, [],
     (State.setF (State.setF (State.setF (State.setF (inMode .run) F.lnState_los 47 3 0) F.lnState_lol 47 3 0) F.lnState_state 47 3 5)
       F.lnState_link 47 3 9),
     by decide +kernel⟩,
   ⟨[⟨otherId, 0, 5, 0⟩], 0, otherId, ⟨otherId, 0, 5, 0⟩, otherId_ne, by simp, by decide⟩,
   ⟨(inMode .run), by decide +kernel⟩,
   ⟨7, { inMode .run with hosts.waits := [⟨7, 4, 0⟩] }, ⟨7, 4, 0⟩, by decide +kernel⟩,
   ⟨4, 0, withCmd (inMode .run) 0x900 [1], _, ready_of (by decide +kernel), rfl⟩,
   ⟨4, 0, withCmd (inMode .run) 0x901 [0, 0], _, ready_of (by decide +kernel), rfl⟩⟩

theorem witness_Timekeepers :
    (∃ (r : Req) (s : State) (n v : Nat), s.grantsWrite r .tkCtl 0 n v ∧ bitAt v 29 = true) ∧
    (∃ (r : Req) (s : State) (n v : Nat), s.grantsWrite r .tkCtl 0 n v ∧ bitAt v 28 = true) ∧
    (∃ (r : Req) (s : State) (n v : Nat), s.grantsWrite r .tkCtl 0 n v ∧ bitAt v 27 = true) ∧
    (∃ (r : Req) (s : State) (n v : Nat), s.grantsWrite r .tkCtl 0 n v ∧ bitAt v 30 = true) ∧
    (∃ (r : Req) (s : State) (n v : Nat), s.grantsWrite r .tkCtl 0 n v ∧ bitAt v 26 = true) ∧
    (∃ (r : Req) (s : State) (n v : Nat), s.grantsWrite r .tkCtl 0 n v) ∧
    (∃ (s : State) (n v : Nat), (bits v 29 27 = 1 ∨ bits v 29 27 = 2 ∨ bits v 29 27 = 4) ∧ s.flag F.tkStatus_pending 0 n = true) ∧
    (∃ (v : Nat), (bits v 29 27 = 3 ∨ 4 < bits v 29 27)) ∧
    (∃ (v : Nat), bits v 29 27 = 0 ∧ bitAt v 31 = true ∧ bitAt v 30 = false ∧ bitAt v 26 = true) ∧
    (∃ (s : State) (n v : Nat), bits v 29 27 = 4 ∧ n ≠ 0 ∧ bitAt v 31 = true ∧ bitAt v 26 = false ∧ s.flag F.tkStatus_pending 0 n = false) ∧
    (∃ (n : Tk) (s : State), (s.keeper n).pend = none) ∧
    (∃ (n : Tk) (s u : State) (c : Corr), (s.keeper n).pend = some c ∧ (s.keeper n).cmd = none ∧ (s.setKeeper n
      { s.keeper n with pend := none, cmd := none }).setF F.tkStatus_pending 0 n 0 = u ∧ u.corrFault n c = none) ∧
    (∃ (n : Tk) (s u : State) (c : Corr) (k : Nat), (s.keeper n).pend = some c ∧ (s.keeper n).cmd = none ∧ (s.setKeeper n
      { s.keeper n with pend := none, cmd := none }).setF F.tkStatus_pending 0 n 0 = u ∧ u.corrFault n c = some k) ∧
    (∃ (s : State) (n : Nat) (c : Corr) (cmd : Option (Nat × Nat)), (n ≠ 0 ∨ cmd.isSome = true ∨ s.flag F.timeCtl_source 0 0 = false ∨ s.maltarRuns
      = false ∨ (∀ m, c ≠ .rate m))) ∧
    (∃ (s : State) (m : Nat), s.flag F.timeCtl_source 0 0 = true ∧ s.maltarRuns = true ∧ s.incrNow 0 + 2 ≤ m) ∧
    (∃ (n : Tk) (s u : State) (c : Corr) (k p m : Nat), (s.keeper n).pend = some c ∧ (s.keeper n).cmd = some (p, m) ∧ (s.setKeeper n
      { s.keeper n with pend := none, cmd := none }).setF F.tkStatus_pending 0 n 0 = u ∧ u.corrFault n c = some k) ∧
    (∃ (n : Tk) (s : State), s.alarmDue n = false) ∧
    (∃ (n : Tk) (s : State), s.alarmDue n = true ∧ s.alarmPeriod n = 0 ∧ s.flag F.tkCtl_alarmEn 0 n = false) ∧
    (∃ (n : Tk) (s : State), s.alarmDue n = true ∧ s.alarmPeriod n ≠ 0 ∧ s.flag F.tkCtl_alarmEn 0 n = false) ∧
    (∃ (s : State), s.ppsOn = true ∧ s.getF F.ppsOffset_ns 0 0 * 2 ^ 32 ≤ (s.keeper 0).sub ∧ (s.keeper 0).sub < s.getF F.ppsOffset_ns 0 0 * 2 ^ 32
      + s.incrNow 0) ∧
    (∃ (s : State), s.ppsOn = false) ∧
    (∃ (s : State), s.tmr.ppsLeft = 0) ∧
    (∃ (s : State) (n : Nat), s.flag F.tkCtl_enable 0 n = true ∧ s.flag F.tkCapCtl_valid 0 n = true) ∧
    (∃ (s : State) (q : Nat), q < 48 ∧ s.ctrlUp (q / 12) = true ∧ Tbl.wf (fun _ => none) s.tmr.copies = true) ∧
    (∃ (p : Port) (m : Mbox) (s : State) (n : Nat), s.ready p m 0x500 ∧ s.arg p m 0 1 = n ∧ (n = 0 ∨ s.portTenant p = n ∨ s.portTenant p = 0)) ∧
    (∃ (p : Port) (m : Mbox) (s : State) (n : Nat), s.ready p m 0x500 ∧ s.arg p m 0 1 = n ∧ n ≠ 0 ∧ s.portTenant p ≠ n ∧ s.portTenant p ≠ 0) ∧
    (∃ (p : Port) (m : Mbox) (s : State) (n : Nat), s.ready p m 0x501 ∧ s.arg p m 0 1 = n ∧ n = s.portTenant p ∧ (n = 0 → s.flag F.timeCtl_source 0
      0 = false) ∧ s.flag F.tkStatus_pending 0 n = false) ∧
    (∃ (p : Port) (m : Mbox) (s : State) (n : Nat), s.ready p m 0x502 ∧ s.arg p m 0 1 = n ∧ n = s.portTenant p ∧ (n = 0 → s.flag F.timeCtl_source 0
      0 = false) ∧ s.flag F.tkStatus_pending 0 n = false) ∧
    (∃ (p : Port) (m : Mbox) (s : State) (n : Nat), s.ready p m 0x503 ∧ s.arg p m 0 1 = n ∧ n = s.portTenant p ∧ (n = 0 → s.flag F.timeCtl_source 0
      0 = false) ∧ s.flag F.tkStatus_pending 0 n = false) ∧
    (∃ (p : Port) (m : Mbox) (s : State), s.ready p m 0x501 ∧ s.arg p m 0 1 = 0 ∧ s.portTenant p = 0 ∧ s.flag F.timeCtl_source 0 0 = true) ∧
    (∃ (p : Port) (m : Mbox) (s : State), s.ready p m 0x504 ∧ s.portTenant p = 0) ∧
    (∃ (p : Port) (m : Mbox) (s : State), s.ready p m 0x504 ∧ s.portTenant p ≠ 0) ∧
    (∃ (p : Port) (m : Mbox) (s : State) (n : Nat), s.ready p m 0x505 ∧ s.arg p m 0 1 = n ∧ s.portTenant p = n) ∧
    (∃ (p : Port) (m : Mbox) (s t u v : State) (n : Nat), s.ready p m 0x506 ∧ s.arg p m 0 1 = n ∧ s.portTenant p = n ∧ ((s.taken p m).setF
      F.tkCtl_alarmEn 0 n (s.arg p m 1 1)).setF F.tkCtl_alarmEv 0 n (s.arg p m 2 1) = t ∧ (t.setReg .tkAlarmSecLo 0 n (s.arg p m 4 4)).setF
      F.tkAlarmSecHi_seconds 0 n (s.arg p m 8 2) = u ∧ (u.setReg .tkAlarmNs 0 n (s.arg p m 10 4)).setReg .tkAlarmPeriod 0 n (s.arg p m 16 4) = v) ∧
    (∃ (p : Port) (m : Mbox) (s : State) (n hi : Nat), s.ready p m 0x507 ∧ s.arg p m 0 1 = n ∧ s.portTenant p = n ∧ s.arg p m 3 1 = 0 ∧ s.reg
      .tkCapSecHi 0 n = hi) ∧
    (∃ (p : Port) (m : Mbox) (s : State), s.ready p m 0x508 ∧ s.portTenant p = 0) ∧
    (∃ (p : Port) (m : Mbox) (s : State), s.ready p m 0x509 ∧ s.portTenant p = 0) ∧
    (∃ (p : Port) (m : Mbox) (s : State), s.ready p m 0x50A) :=
  ⟨⟨(regReq .write .tkCtl 0 7 0xA0000000), (withReq State.reset (regReq .write .tkCtl 0 7 0xA0000000)), 7, 0xA0000000,
     by unfold State.grantsWrite; decide +kernel, by decide +kernel⟩,
   ⟨(regReq .write .tkCtl 0 7 0x90000000), (withReq State.reset (regReq .write .tkCtl 0 7 0x90000000)), 7, 0x90000000,
     by unfold State.grantsWrite; decide +kernel, by decide +kernel⟩,
   ⟨(regReq .write .tkCtl 0 7 0x88000000), (withReq State.reset (regReq .write .tkCtl 0 7 0x88000000)), 7, 0x88000000,
     by unfold State.grantsWrite; decide +kernel, by decide +kernel⟩,
   ⟨(regReq .write .tkCtl 0 7 0xC0000000), (withReq State.reset (regReq .write .tkCtl 0 7 0xC0000000)), 7, 0xC0000000,
     by unfold State.grantsWrite; decide +kernel, by decide +kernel⟩,
   ⟨(regReq .write .tkCtl 0 7 0x84000000), (withReq State.reset (regReq .write .tkCtl 0 7 0x84000000)), 7, 0x84000000,
     by unfold State.grantsWrite; decide +kernel, by decide +kernel⟩,
   ⟨(regReq .write .tkCtl 0 7 0x80000000), (withReq State.reset (regReq .write .tkCtl 0 7 0x80000000)), 7, 0x80000000,
     by unfold State.grantsWrite; decide +kernel⟩,
   ⟨State.setF State.reset F.tkStatus_pending 0 7 1, 7, 0xA0000000, .inr (.inr (by decide)), by decide +kernel⟩,
   ⟨0x98000000, .inl (by decide)⟩,
   ⟨0x84000000, by decide +kernel⟩,
   ⟨State.reset, 7, 0xA0000000, by decide +kernel⟩,
   ⟨7, State.reset, by decide +kernel⟩,
   ⟨7, State.setKeeper (inMode .run) 7 { Keeper.init with pend := some (.adj 1), cmd := none }, _, .adj 1, by decide +kernel, by decide +kernel,
     rfl, by decide +kernel⟩,
   ⟨0, State.setKeeper (inMode .run) 0 { Keeper.init with pend := some (.rate 0), cmd := none }, _, .rate 0, 4, by decide +kernel,
     by decide +kernel, rfl, by decide +kernel⟩,
   ⟨State.reset, 1, .adj 0, none, .inl (by decide)⟩,
   ⟨State.setF (inMode .run) F.timeCtl_source 0 0 1, 2 ^ 40, by decide +kernel⟩,
   ⟨0, State.setKeeper (inMode .run) 0 { Keeper.init with pend := some (.rate 0), cmd := some (4, 0) }, _, .rate 0, 4, 4, 0, by decide +kernel,
     by decide +kernel, rfl, by decide +kernel⟩,
   ⟨7, State.setKeeper State.reset 7 { Keeper.init with fired := true }, by decide +kernel⟩,
   ⟨7, State.setKeeper (State.setF (State.setF (inMode .run) F.tkCtl_enable 0 7 1) F.tkAlarmPeriod_ns 0 7 0) 7 { Keeper.init with next := 0 },
     by decide +kernel⟩,
   ⟨7, State.setKeeper (State.setF (State.setF (inMode .run) F.tkCtl_enable 0 7 1) F.tkAlarmPeriod_ns 0 7 1000) 7 { Keeper.init with next := 0 },
     by decide +kernel⟩,
   ⟨State.setReg (State.setF (State.setF (State.setF (inMode .run) F.tkCtl_enable 0 0 1) F.timeCtl_ppsEn 0 0 1) F.timeCtl_ppsValidOnly 0 0 0)
     .tkIncrNowHi 0 0 8,
     by decide +kernel⟩,
   ⟨State.reset, by decide +kernel⟩,
   ⟨State.reset, by decide +kernel⟩,
   ⟨State.setF (State.setF (inMode .run) F.tkCtl_enable 0 7 1) F.tkCapCtl_valid 0 7 1, 7, by decide +kernel⟩,
   ⟨(State.setF (State.setF (State.setF (State.setF (State.setF (State.setF (State.setF (State.setF (inMode .run) F.privStatus_state 0 0x80 1)
     F.privStatus_state 0 0x180 1) F.privStatus_state 1 0x80 1) F.privStatus_state 1 0x180 1) F.privStatus_state 2 0x80 1) F.privStatus_state 2
     0x180 1) F.privStatus_state 3 0x80 1) F.privStatus_state 3 0x180 1),
     47, by decide +kernel⟩,
   ⟨4, 0, withCmd (inMode .run) 0x500 [7], 7, ready_of (by decide +kernel), by decide +kernel, .inr (.inr (by decide +kernel))⟩,
   ⟨4, 0, asT1 (withCmd (inMode .run) 0x500 [7]), 7, ready_of (by decide +kernel), by decide +kernel⟩,
   ⟨4, 0, withCmd (inMode .run) 0x501 (List.replicate 16 0), 0, ready_of (by decide +kernel), by decide +kernel, by decide +kernel,
     fun _ => by decide +kernel, by decide +kernel⟩,
   ⟨4, 0, withCmd (inMode .run) 0x502 (List.replicate 16 0), 0, ready_of (by decide +kernel), by decide +kernel, by decide +kernel,
     fun _ => by decide +kernel, by decide +kernel⟩,
   ⟨4, 0, withCmd (inMode .run) 0x503 (List.replicate 13 0), 0, ready_of (by decide +kernel), by decide +kernel, by decide +kernel,
     fun _ => by decide +kernel, by decide +kernel⟩,
   ⟨4, 0, State.setF (withCmd (inMode .run) 0x501 (List.replicate 16 0)) F.timeCtl_source 0 0 1, ready_of (by decide +kernel), by decide +kernel⟩,
   ⟨4, 0, withCmd (inMode .run) 0x504 [], ready_of (by decide +kernel), by decide +kernel⟩,
   ⟨4, 0, asT1 (withCmd (inMode .run) 0x504 []), ready_of (by decide +kernel), by decide +kernel⟩,
   ⟨4, 0, withCmd (inMode .run) 0x505 [0], 0, ready_of (by decide +kernel), by decide +kernel⟩,
   ⟨4, 0, withCmd (inMode .run) 0x506 (List.replicate 20 0), _, _, _, 0, ready_of (by decide +kernel), by decide +kernel, by decide +kernel, rfl,
     rfl, rfl⟩,
   ⟨4, 0, withCmd (inMode .run) 0x507 [0, 0, 0, 0], 0, _, ready_of (by decide +kernel), by decide +kernel, by decide +kernel, by decide +kernel,
     rfl⟩,
   ⟨4, 0, withCmd (inMode .run) 0x508 (List.replicate 8 0 ++ [1, 0, 0, 0]), ready_of (by decide +kernel), by decide +kernel⟩,
   ⟨4, 0, withCmd (inMode .run) 0x509 [0, 0], ready_of (by decide +kernel), by decide +kernel⟩,
   ⟨4, 0, withCmd (inMode .run) 0x50A [], ready_of (by decide +kernel)⟩⟩

theorem witness_Clocks :
    (∃ (r : Req) (s : State) (v : Nat), s.grantsWrite r .carCtl 0 0 v) ∧
    (∃ (s : State) (x : Nat × Nat), s.clk.car = some x) ∧
    (∃ (s : State) (c : Nat), s.clk.car = none ∧ s.getF F.carStatus_active 0 0 = c) ∧
    (∃ (r : Req) (s : State) (j v : Nat), s.grantsWrite r .gcCtl 0 j v) ∧
    (∃ (r : Req) (s : State) (j v : Nat), s.grantsWrite r .gcCtl 0 j v) ∧
    (∃ (s : State) (j v : Nat), s.flag F.gcCtl_switching 0 j = true ∧ Rg.gcCtl.okWrite v = true) ∧
    (∃ (s : State) (j v c : Nat), s.flag F.gcCtl_switching 0 j = false ∧ s.gcCheck j v = some c) ∧
    (∃ (s : State) (j v : Nat), bitAt (s.reg .gcCtl 0 j) 31 = true ∧ bitAt v 31 = false ∧ s.gcChild j = true ∧ Rg.gcCtl.okWrite v = true) ∧
    (∃ (s : State) (j v : Nat), s.flag F.gcCtl_switching 0 j = false ∧ s.gcCheck j v = none ∧ bitAt (s.reg .gcCtl 0 j) 31 = true ∧ bitAt v 31 =
      true ∧ bits (s.reg .gcCtl 0 j) 8 0 ≠ bits v 8 0) ∧
    (∃ (r : Req) (s : State) (k v : Nat), s.grantsWrite r .syCtl 0 k v) ∧
    (∃ (s : State) (k v c : Nat), s.syCheck k v (s.getF F.syFrac_f 0 k) = some c) ∧
    (∃ (s : State) (k v : Nat), Rg.syCtl.okWrite v = true ∧ sySrcOk k (bits v 30 22) = true ∧ bitAt (s.reg .syCtl 0 k) 31 = true ∧ bits (s.reg
      .syCtl 0 k) 30 0 ≠ bits v 30 0) ∧
    (∃ (s : State) (k v : Nat), Rg.syCtl.okWrite v = true ∧ sySrcOk k (bits v 30 22) = true ∧ bitAt (s.reg .syCtl 0 k) 31 = true ∧ bits (s.reg
      .syCtl 0 k) 30 0 = bits v 30 0 ∧ bitAt v 31 = false ∧ s.syChild k = true) ∧
    (∃ (s : State) (k v : Nat), s.syCheck k v (s.getF F.syFrac_f 0 k) = none ∧ bitAt v 31 = true) ∧
    (∃ (r : Req) (s : State) (t v : Nat), s.grantsWrite r .leafGate 0 t v) ∧
    (∃ (s : State) (t v : Nat), s.leafCheck t v = none) ∧
    (∃ (s : State) (t : Nat), s.notLive t = true) ∧
    (∃ (r : Req) (s : State) (c v : Nat), s.grantsWrite r .fcCtl 0 c v ∧ bitAt v 31 = true) ∧
    (∃ (s : State), s.flag F.carCtl_revert 0 0 = false) ∧
    (∃ (s : State) (l : Nat), s.flag F.carCtl_revert 0 0 = true ∧ s.getF F.carCtl_sel 0 0 = 0x100 + l ∧ s.flag F.carStatus_onHold 0 0 = true ∧
      s.flag F.lnState_los (l / 4) (l % 4) = false ∧ s.flag F.lnState_lol (l / 4) (l % 4) = false) ∧
    (∃ (j : GNet) (s : State), s.flag F.gcCtl_switching 0 j = false) ∧
    (∃ (j : GNet) (s : State), s.flag F.gcCtl_switching 0 j = true ∧ tget 0 s.clk.gcHeld j = 0) ∧
    (∃ (j : GNet) (s : State), s.flag F.gcCtl_switching 0 j = true) ∧
    (∃ (j : GNet) (s : State), s.flag F.gcCtl_switching 0 j = false) ∧
    (∃ (k : Synth) (s : State), s.flag F.syCtl_enable 0 k = true) ∧
    (∃ (k : Synth) (s : State), s.flag F.syCtl_enable 0 k = true ∧ s.flag F.syStatus_lock 0 k = true) ∧
    (∃ (c : FCtr) (s : State), s.flag F.fcCtl_busy 0 c = false) ∧
    (∃ (c : FCtr) (n : BitVec 40) (s u : State), s.flag F.fcCtl_busy 0 c = true ∧ ((((s.setReg .fcCountLo 0 c (n.toNat % 2 ^ 32)).setReg .fcCountHi
      0 c (n.toNat / 2 ^ 32)).setF F.fcCtl_busy 0 c 0).setF F.fcCtl_done 0 c 1) = u ∧ u.flag F.fcCtl_evEn 0 c = false) ∧
    (∃ (p : Port) (m : Mbox) (s : State), s.ready p m 0x600 ∧ s.arg p m 0 1 = 0) ∧
    (∃ (p : Port) (m : Mbox) (s : State), s.ready p m 0x601 ∧ s.portTenant p ≠ 0 ∧ (List.range (s.arg p m 0 1)).find? (fun i => !planOk (s.mbox p
      m).payload 16 i) = none) ∧
    (∃ (p : Port) (m : Mbox) (s : State) (i : Nat), s.ready p m 0x601 ∧ (List.range (s.arg p m 0 1)).find? (fun i => !planOk (s.mbox p m).payload
      16 i) = some i) ∧
    (∃ (p : Port) (m : Mbox) (s t : State), s.ready p m 0x601 ∧ s.portTenant p = 0 ∧ (List.range (s.arg p m 0 1)).find? (fun i => !planOk (s.mbox p
      m).payload 16 i) = none ∧ (s.taken p m).planRun (planOrder ((List.range (s.arg p m 0 1)).map (planEntry (s.mbox p m).payload 16))) = .ok t) ∧
    (∃ (p : Port) (m : Mbox) (s : State) (code i : Nat), s.ready p m 0x601 ∧ s.portTenant p = 0 ∧ (List.range (s.arg p m 0 1)).find? (fun i =>
      !planOk (s.mbox p m).payload 16 i) = none ∧ (s.taken p m).planRun (planOrder ((List.range (s.arg p m 0 1)).map (planEntry (s.mbox p
      m).payload 16))) = .error (code, i)) ∧
    (∃ (p : Port) (m : Mbox) (s : State), s.ready p m 0x602 ∧ s.portTenant p = 0) ∧
    (∃ (p : Port) (m : Mbox) (s : State), s.ready p m 0x602 ∧ s.portTenant p ≠ 0) ∧
    (∃ (p : Port) (m : Mbox) (s : State) (i : Nat), s.ready p m 0x603 ∧ s.arg p m 0 1 = 2 ∧ s.arg p m 2 2 = i ∧ i < 1024 ∧ s.portTenant p ≠ 0 ∧
      s.portTenant p ≠ s.tileTenant i) ∧
    (∃ (p : Port) (m : Mbox) (s : State) (i v : Nat), s.ready p m 0x603 ∧ s.arg p m 0 1 = 2 ∧ s.arg p m 2 2 = i ∧ i < 1024 ∧ (s.portTenant p = 0 ∨
      s.portTenant p = s.tileTenant i) ∧ setBits (s.reg .leafGate 0 i) (s.arg p m 4 1) (s.arg p m 4 1) (s.arg p m 5 1) = v ∧ (s.taken p
      m).leafCheck i v = none) ∧
    (∃ (p : Port) (m : Mbox) (s : State) (i v code : Nat), s.ready p m 0x603 ∧ s.arg p m 0 1 = 0 ∧ s.arg p m 2 2 = i ∧ i < 32 ∧ s.portTenant p = 0
      ∧ s.arg p m 5 1 * 2 ^ 31 + bits (s.reg .syCtl 0 i) 30 0 = v ∧ s.syCheck i v (s.getF F.syFrac_f 0 i) = some code) ∧
    (∃ (p : Port) (m : Mbox) (s : State), s.ready p m 0x604 ∧ (∀ k, k < 8 → s.flag F.fcCtl_busy 0 k = true)) ∧
    (∃ (p : Port) (m : Mbox) (s : State), s.ready p m 0x604 ∧ s.flag F.fcCtl_busy 0 0 = false ∧ 0x20 ≤ s.arg p m 0 2 ∧ 2 ^ s.arg p m 4 1 * 1000 ≤
      s.srcHz (s.arg p m 0 2)) :=
  ⟨⟨(regReq .write .carCtl 0 0 0x1028012C), (withReq State.reset (regReq .write .carCtl 0 0 0x1028012C)), 0x1028012C,
     by unfold State.grantsWrite; decide +kernel⟩,
   ⟨{ State.reset with clk.car := some (0, 0) }, (0, 0), by decide +kernel⟩,
   ⟨State.reset, 40, by decide +kernel⟩,
   ⟨(regReq .write .gcCtl 0 63 0), (withReq State.reset (regReq .write .gcCtl 0 63 0)), 63, 0, by unfold State.grantsWrite; decide +kernel⟩,
   ⟨(regReq .write .gcCtl 0 63 0), (withReq State.reset (regReq .write .gcCtl 0 63 0)), 63, 0, by unfold State.grantsWrite; decide +kernel⟩,
   ⟨State.setF (inMode .run) F.gcCtl_switching 0 63 1, 63, 0, by decide +kernel⟩,
   ⟨(inMode .run), 63, 0x80000000 + 31, 0x10, by decide +kernel⟩,
   ⟨State.setReg (clocked TileCfg.blank) .gcCtl 0 0 0x80000028, 0, 0x28, by decide +kernel⟩,
   ⟨State.setReg (clocked TileCfg.blank) .gcCtl 0 0 0x80000028, 0, 0x80000029, by decide +kernel⟩,
   ⟨(regReq .write .syCtl 0 31 0x0A004010), (withReq State.reset (regReq .write .syCtl 0 31 0x0A004010)), 31, 0x0A004010,
     by unfold State.grantsWrite; decide +kernel⟩,
   ⟨(inMode .run), 31, 0, 0x10, by decide +kernel⟩,
   ⟨State.setReg (State.setReg (inMode .run) .gcCtl 0 0 0x8000001F) .syCtl 0 31 0x8A004010, 31, 0x0A004011, by decide +kernel⟩,
   ⟨State.setReg (State.setReg (inMode .run) .gcCtl 0 0 0x8000001F) .syCtl 0 31 0x8A004010, 31, 0x0A004010, by decide +kernel⟩,
   ⟨State.setReg (inMode .run) .syCtl 0 31 0x8A004010, 31, 0x8A004010, by decide +kernel⟩,
   ⟨(regReq .write .leafGate 0 1023 0), (withReq State.reset (regReq .write .leafGate 0 1023 0)), 1023, 0,
     by unfold State.grantsWrite; decide +kernel⟩,
   ⟨(inMode .run), 1023, 0, by decide +kernel⟩,
   ⟨{ State.setF (inMode .run) F.regionStatus_state 0 5 1 with rgn := ⟨[], [(34, 6)], []⟩ }, 34, by decide +kernel⟩,
   ⟨(regReq .write .fcCtl 0 7 0x80140000), (withReq State.reset (regReq .write .fcCtl 0 7 0x80140000)), 7, 0x80140000,
     by unfold State.grantsWrite; decide +kernel, by decide +kernel⟩,
   ⟨State.setF State.reset F.carCtl_revert 0 0 0, by decide +kernel⟩,
   ⟨State.setF (State.setF (State.setF (State.setF (State.setF (inMode .run) F.carCtl_revert 0 0 1) F.carCtl_sel 0 0 0x1BF) F.carStatus_onHold 0 0
     1) F.lnState_los 47 3 0) F.lnState_lol 47 3 0,
     191, by decide +kernel⟩,
   ⟨63, State.reset, by decide +kernel⟩,
   ⟨63, State.setF (inMode .run) F.gcCtl_switching 0 63 1, by decide +kernel⟩,
   ⟨63, State.setF (inMode .run) F.gcCtl_switching 0 63 1, by decide +kernel⟩,
   ⟨63, State.reset, by decide +kernel⟩,
   ⟨31, State.setF (inMode .run) F.syCtl_enable 0 31 1, by decide +kernel⟩,
   ⟨31, State.setF (State.setF (inMode .run) F.syCtl_enable 0 31 1) F.syStatus_lock 0 31 1, by decide +kernel⟩,
   ⟨7, State.reset, by decide +kernel⟩,
   ⟨7, 5, State.setF (inMode .run) F.fcCtl_busy 0 7 1, _, by decide +kernel, rfl, by decide +kernel⟩,
   ⟨4, 0, withCmd (inMode .run) 0x600 [0], ready_of (by decide +kernel), by decide +kernel⟩,
   ⟨4, 0, asT1 (withCmd (inMode .run) 0x601 ([1] ++ List.replicate 15 0 ++ [1, 63, 0, 0, 40] ++ List.replicate 11 0)),
     ready_of (by decide +kernel), by decide +kernel⟩,
   ⟨4, 0, withCmd (inMode .run) 0x601 ([1] ++ List.replicate 16 0 ++ [31] ++ List.replicate 14 0), 0, ready_of (by decide +kernel),
     by decide +kernel⟩,
   ⟨4, 0, withCmd (inMode .run) 0x601 [1, 0, 0, 0, 0, 0, 0, 0, 0, 0, 0, 0, 0, 0, 0, 0, 1, 63, 0, 0, 40, 0, 0, 0, 0, 0, 0, 0, 0, 0, 0, 0], _,
     ready_of (by decide +kernel), by decide +kernel, by decide +kernel, rfl⟩,
   ⟨4, 0,
     State.setReg (withCmd (inMode .run) 0x601 [1, 0, 0, 0, 0, 0, 0, 0, 0, 0, 0, 0, 0, 0, 0, 0, 1, 63, 0, 0, 31, 0, 0, 0, 0, 0, 0, 0, 0, 0, 0, 0])
       .gcCtl 0 63 0x80000028,
     _, _, ready_of (by decide +kernel), by decide +kernel, by decide +kernel, rfl⟩,
   ⟨4, 0, withCmd (inMode .run) 0x602 [32, 0, 0, 0, 1, 0], ready_of (by decide +kernel), by decide +kernel⟩,
   ⟨4, 0, asT1 (withCmd (inMode .run) 0x602 [32, 0, 0, 0, 1, 0]), ready_of (by decide +kernel), by decide +kernel⟩,
   ⟨4, 0, asT1 (withCmd (inMode .run) 0x603 [2, 0, 255, 3, 0, 0]), 1023, ready_of (by decide +kernel), by decide +kernel⟩,
   ⟨4, 0, withCmd (inMode .run) 0x603 [2, 0, 255, 3, 7, 0], 1023, _, ready_of (by decide +kernel), by decide +kernel, by decide +kernel,
     by decide +kernel, .inl (by decide +kernel), rfl, by decide +kernel⟩,
   ⟨4, 0, withCmd (inMode .run) 0x603 [0, 0, 31, 0, 0, 1], 31, _, 0x10, ready_of (by decide +kernel), by decide +kernel, by decide +kernel,
     by decide +kernel, by decide +kernel, rfl, by decide +kernel⟩,
   ⟨4, 0, withCmd ((List.range 8).foldl (fun s k => State.setF s F.fcCtl_busy 0 k 1) (inMode .run)) 0x604 [32, 0, 40, 0, 10],
     ready_of (by decide +kernel), by decide +kernel⟩,
   ⟨4, 0, withCmd (inMode .run) 0x604 [41, 0, 32, 0, 10], ready_of (by decide +kernel), by decide +kernel⟩⟩

theorem witness_DebugCommands :
    (∃ (p : Port) (s : State) (sig : List Byte), (s.dpath p).sig = some sig) ∧
    (∃ (p : Port) (m : Mbox) (s : State) (level : Nat) (scope : Bool), (s.dpath p).sig = none ∧ s.ready p m 0x800 ∧ s.arg p m 0 1 = level ∧ decide
      (s.arg p m 1 1 = 1) = scope ∧ (s.taken p m).challengeCode p level scope = 0) ∧
    (∃ (p : Port) (m : Mbox) (s : State) (level code : Nat) (scope : Bool), (s.dpath p).sig = none ∧ s.ready p m 0x800 ∧ s.arg p m 0 1 = level ∧
      decide (s.arg p m 1 1 = 1) = scope ∧ (s.taken p m).challengeCode p level scope = code ∧ code ≠ 0) ∧
    (∃ (s : State) (path : Nat), path < 5 ∧ s.portTenant path ≠ 0) ∧
    (∃ (p : Port) (m : Mbox) (s : State), s.ready p m 0x801 ∧ (s.dpath p).sig = none ∧ (s.dpath p).nonce = 0) ∧
    (∃ (p : Port) (m : Mbox) (s : State), s.ready p m 0x801 ∧ (s.dpath p).sig = none ∧ (s.dpath p).nonce ≠ 0) ∧
    (∃ (p : Port) (m : Mbox) (s : State), s.ready p m 0x802) ∧
    (∃ (p : Port) (m : Mbox) (s : State) (v : Nat), s.ready p m 0x803 ∧ s.reg .dbgStatus p 0 = v) ∧
    (∃ (p : Port) (m : Mbox) (s : State) (t : Nat), s.ready p m 0x810 ∧ s.arg p m 0 2 = t ∧ (s.level p ≠ 2 ∨ s.dbgCovers p t = false)) ∧
    (∃ (p : Port) (m : Mbox) (s : State) (t : Nat), s.ready p m 0x810 ∧ s.arg p m 0 2 = t ∧ s.level p = 2 ∧ s.dbgCovers p t = true ∧ ((s.engine
      t).run = .running ∨ (s.engine t).run = .idle)) ∧
    (∃ (p : Port) (m : Mbox) (s : State) (t : Nat), s.ready p m 0x810 ∧ s.arg p m 0 2 = t ∧ s.level p = 2 ∧ s.dbgCovers p t = true ∧ (s.engine
      t).run ≠ .running ∧ (s.engine t).run ≠ .idle) ∧
    (∃ (p : Port) (m : Mbox) (s : State) (t : Nat), s.ready p m 0x811 ∧ s.arg p m 0 2 = t ∧ s.level p = 2 ∧ s.dbgCovers p t = true) ∧
    (∃ (p : Port) (m : Mbox) (s : State) (t : Nat), s.ready p m 0x812 ∧ s.arg p m 0 2 = t ∧ s.level p = 2 ∧ s.dbgCovers p t = true ∧ (s.engine
      t).run = .halted ∧ (s.feed t).busy = false) ∧
    (∃ (p : Port) (m : Mbox) (s : State) (t : Nat), s.ready p m 0x812 ∧ s.arg p m 0 2 = t ∧ s.level p = 2 ∧ s.dbgCovers p t = true ∧ (s.engine
      t).run ≠ .halted) ∧
    (∃ (s : State) (t w : Nat), (s.engine t).run = .halted ∧ (s.feed t).busy = false ∧ decodeEngine w = none) ∧
    (∃ (p : Port) (m : Mbox) (s : State) (eff : Bool), s.dbgBusy p = false ∧ s.ready p m 0x813 ∧ bitAt (s.arg p m 9 1) 0 = eff ∧ (if eff then 2
      else 1) ≤ s.level p) ∧
    (∃ (p : Port) (m : Mbox) (s : State) (eff : Bool) (code : Nat), s.dbgBusy p = false ∧ s.ready p m 0x813 ∧ bitAt (s.arg p m 9 1) 0 = eff ∧ (if
      eff then 2 else 1) ≤ s.level p ∧ ((s.taken p m).peekRun (s.arg p m 8 1) p eff (s.arg p m 0 8) []).2.1 = some code ∧ ((s.taken p m).peekRun
      (s.arg p m 8 1) p eff (s.arg p m 0 8) []).2.2.1 = []) ∧
    (∃ (s : State) (path a code : Nat), (s.dbgOwnMem path a = true ∨ code ≠ svcDenied)) ∧
    (∃ (p : Port) (m : Mbox) (s : State), s.dbgBusy p = false ∧ s.ready p m 0x813 ∧ s.level p = 0) ∧
    (∃ (p : Port) (m : Mbox) (s : State), s.dbgBusy p = false ∧ s.ready p m 0x814 ∧ s.level p = 2) ∧
    (∃ (p : Port) (m : Mbox) (s : State), s.dbgBusy p = false ∧ s.ready p m 0x814 ∧ s.level p ≠ 2 ∧ s.level p < 2) :=
  ⟨⟨4, { State.reset with dbg.paths := [(4, { DPath.init with sig := some [] })] }, [], by decide +kernel⟩,
   ⟨4, 0, { (withCmd (inMode .run) 0x800 [1, 0]) with sett := ⟨false, some 0, 1, [], [⟨0x0004, 0, [2, 0]⟩], [], [], none⟩ }, 1, false,
     by decide +kernel, ready_of (by decide +kernel), by decide +kernel⟩,
   ⟨4, 0, asT1 (withCmd (inMode .run) 0x800 [1, 0]), 1, 0x12, false, by decide +kernel, ready_of (by decide +kernel), by decide +kernel⟩,
   ⟨asT1 State.reset, 4, by decide +kernel⟩,
   ⟨4, 0, withCmd (inMode .run) 0x801 (List.replicate 96 0), ready_of (by decide +kernel), by decide +kernel⟩,
   ⟨4, 0, { withCmd (inMode .run) 0x801 (List.replicate 96 0) with dbg.paths := [(4, { DPath.init with nonce := 1 })] },
     ready_of (by decide +kernel), by decide +kernel⟩,
   ⟨4, 0, withCmd (inMode .run) 0x802 [], ready_of (by decide +kernel)⟩,
   ⟨4, 0, withCmd (inMode .run) 0x803 [], _, ready_of (by decide +kernel), rfl⟩,
   ⟨4, 0, withCmd (inMode .run) 0x810 [255, 3], 1023, ready_of (by decide +kernel), by decide +kernel, .inl (by decide +kernel)⟩,
   ⟨4, 0, State.setF (withCmd ({ inMode .run with eng := [(34, { Engine.init with run := .running })] }) 0x810 [34, 0]) F.dbgStatus_level 4 0 2,
     34, ready_of (by decide +kernel), by decide +kernel, by decide +kernel, by decide +kernel, .inl (by decide +kernel)⟩,
   ⟨4, 0, State.setF (withCmd ({ inMode .run with eng := [(34, { Engine.init with run := .faulted })] }) 0x810 [34, 0]) F.dbgStatus_level 4 0 2,
     34, ready_of (by decide +kernel), by decide +kernel⟩,
   ⟨4, 0, State.setF (withCmd (inMode .run) 0x811 [34, 0]) F.dbgStatus_level 4 0 2, 34, ready_of (by decide +kernel), by decide +kernel⟩,
   ⟨4, 0,
     State.setF (withCmd ({ inMode .run with eng := [(34, { Engine.init with run := .halted })] }) 0x812 ([34] ++ List.replicate 7 0))
       F.dbgStatus_level 4 0 2,
     34, ready_of (by decide +kernel), by decide +kernel⟩,
   ⟨4, 0, State.setF (withCmd (inMode .run) 0x812 ([34] ++ List.replicate 7 0)) F.dbgStatus_level 4 0 2, 34, ready_of (by decide +kernel),
     by decide +kernel⟩,
   ⟨{ inMode .run with eng := [(34, { Engine.init with run := .halted })] }, 34, 0xF0000000, by decide +kernel⟩,
   ⟨4, 0, State.setF (withCmd (inMode .run) 0x813 (List.replicate 8 0 ++ [1, 1])) F.dbgStatus_level 4 0 2, true, by decide +kernel,
     ready_of (by decide +kernel), by decide +kernel⟩,
   ⟨4, 0, State.setF (withCmd (inMode .run) 0x813 ([2] ++ List.replicate 7 0 ++ [1, 0])) F.dbgStatus_level 4 0 2, false, 8, by decide +kernel,
     ready_of (by decide +kernel), by decide +kernel⟩,
   ⟨State.reset, 4, 0, 0, .inr (by decide)⟩,
   ⟨4, 0, withCmd (inMode .run) 0x813 (List.replicate 8 0 ++ [1, 0]), by decide +kernel, ready_of (by decide +kernel), by decide +kernel⟩,
   ⟨4, 0, State.setF (withCmd (inMode .run) 0x814 (List.replicate 12 0)) F.dbgStatus_level 4 0 2, by decide +kernel, ready_of (by decide +kernel),
     by decide +kernel⟩,
   ⟨4, 0, State.setF (withCmd (inMode .run) 0x814 (List.replicate 12 0)) F.dbgStatus_level 4 0 1, by decide +kernel, ready_of (by decide +kernel),
     by decide +kernel⟩⟩

theorem witness_DebugControl :
    (∃ (path : Fin 6) (s : State), (s.dpath path).sig = none) ∧
    (∃ (path : Fin 6) (s : State), (s.dpath path).sig = none ∧ (s.dpath path).nonce ≠ 0 ∧ (s.dpath path).tap ≠ 1) ∧
    (∃ (path : Fin 6) (s : State) (sig : List Byte), (s.dpath path).sig = some sig) ∧
    (∃ (path : Fin 6) (s : State), (s.dpath path).locked = true ∧ (s.dpath path).tap ≠ 5) ∧
    (∃ (path : Fin 6) (s : State), (s.dpath path).locked = false) ∧
    (∃ (path : Fin 6) (s : State) (t : Nat), s.level path = 2 ∧ s.getF F.dbgEngSel_tile path 0 = t ∧ s.dbgCovers path t = true) ∧
    (∃ (path : Fin 6) (s : State) (t : Nat), s.level path = 2 ∧ s.getF F.dbgEngSel_tile path 0 = t ∧ s.dbgCovers path t = true) ∧
    (∃ (path : Fin 6) (s : State) (t : Nat), s.level path = 2 ∧ s.getF F.dbgEngSel_tile path 0 = t ∧ s.dbgCovers path t = true) ∧
    (∃ (path : Fin 6) (s : State) (t : Nat), s.level path = 2 ∧ s.getF F.dbgEngSel_tile path 0 = t ∧ s.dbgCovers path t = true) ∧
    (∃ (path : Fin 6) (s : State), s.level path ≠ 2) ∧
    (∃ (s : State), s.level 5 = 2 ∧ s.scopeTenant 5 = false ∧ s.refHalted = false ∧ s.dbg.haltReq = 0 ∧ s.pw.refRestarting = false) ∧
    (∃ (s : State), s.level 5 = 2 ∧ s.scopeTenant 5 = false ∧ s.refHalted = true) ∧
    (∃ (s : State), s.level 5 = 2 ∧ s.scopeTenant 5 = false ∧ s.refHalted = true) ∧
    (∃ (s : State), s.level 5 = 2 ∧ s.scopeTenant 5 = false ∧ s.refHalted = true) ∧
    (∃ (s : State), s.dbg.haltReq ≠ 0 ∧ s.pw.refRestarting = false) ∧
    (∃ (s : State), s.dbg.haltReq = 0) ∧
    (∃ (s : State), s.dbg.haltReq ≠ 0 ∧ s.pw.refRestarting = false) ∧
    (∃ (u : Fin 32) (s : State), s.puBreaks u = false) :=
  ⟨⟨5, State.reset, by decide +kernel⟩,
   ⟨4, { State.reset with dbg.paths := [(4, { DPath.init with nonce := 1 })] }, by decide +kernel⟩,
   ⟨5, { inMode .run with dbg.paths := [(5, { DPath.init with sig := some [] })] }, [], by decide +kernel⟩,
   ⟨4, { State.reset with dbg.paths := [(4, { DPath.init with locked := true })] }, by decide +kernel⟩,
   ⟨5, State.reset, by decide +kernel⟩,
   ⟨5, State.setF (State.setF (inMode .run) F.dbgStatus_level 5 0 2) F.dbgEngSel_tile 5 0 1023, 1023, by decide +kernel⟩,
   ⟨5, State.setF (State.setF (inMode .run) F.dbgStatus_level 5 0 2) F.dbgEngSel_tile 5 0 1023, 1023, by decide +kernel⟩,
   ⟨5, State.setF (State.setF (inMode .run) F.dbgStatus_level 5 0 2) F.dbgEngSel_tile 5 0 1023, 1023, by decide +kernel⟩,
   ⟨5, State.setF (State.setF (inMode .run) F.dbgStatus_level 5 0 2) F.dbgEngSel_tile 5 0 1023, 1023, by decide +kernel⟩,
   ⟨5, State.reset, by decide +kernel⟩,
   ⟨State.setF (inMode .run) F.dbgStatus_level 5 0 2, by decide +kernel⟩,
   ⟨State.setF (State.setF (inMode .run) F.dbgStatus_level 5 0 2) F.refDbgStatus_halted 0 0 1, by decide +kernel⟩,
   ⟨State.setF (State.setF (inMode .run) F.dbgStatus_level 5 0 2) F.refDbgStatus_halted 0 0 1, by decide +kernel⟩,
   ⟨State.setF (State.setF (inMode .run) F.dbgStatus_level 5 0 2) F.refDbgStatus_halted 0 0 1, by decide +kernel⟩,
   ⟨{ inMode .run with dbg.haltReq := 1 }, by decide +kernel⟩,
   ⟨State.reset, by decide +kernel⟩,
   ⟨{ inMode .run with dbg.haltReq := 1 }, by decide +kernel⟩,
   ⟨0, State.reset, by have h : State.reset.flag F.puCtl_en 0 0 = false := (by decide +kernel); simp [State.puBreaks, h]⟩⟩

theorem witness_TapInstructions :
    (∃ (s : State), s.tapOn = true) ∧
    (∃ (s : State), s.tapOn = true) ∧
    (∃ (s : State), s.tapOn = true) ∧
    (∃ (s : State), s.tapOn = true) ∧
    (∃ (s : State), s.tapOn = true ∧ s.pinTest = true) ∧
    (∃ (s : State), (s.dpath 5).tap < 8 ∧ s.level 5 < 4) ∧
    (∃ (s : State), s.dbg.accSvc < 64 ∧ s.dbg.accAddr < 2 ^ 48 ∧ s.dbg.accData < 2 ^ 32) ∧
    (∃ (s : State), s.tapOn = true ∧ s.pinTest = false) ∧
    (∃ (c : Instr) (s : State), s.tapOn = false ∧ (c = .tapReset ∨ c = .idcode ∨ c = .extest ∨ c = .bypass ∨ c = .authDrop)) ∧
    (∃ (level : Fin 4) (scope : Bool) (s : State), s.tapOn = true ∧ (level.val = 1 ∨ level.val = 2) ∧ (s.tapIr 0x10).challengeCode 5 level scope =
      0) ∧
    (∃ (level : Fin 4) (scope : Bool) (s : State), s.tapOn = true ∧ (level.val = 1 ∨ level.val = 2) ∧ (s.tapIr 0x10).challengeCode 5 level scope =
      0x13) ∧
    (∃ (sig : List Byte) (s : State), s.tapOn = true ∧ sig.length = 96 ∧ (s.dpath 5).sig = none ∧ (s.dpath 5).nonce ≠ 0) ∧
    (∃ (s : State), s.tapOn = true ∧ (s.dpath 5).locked = false) ∧
    (∃ (s : State), s.tapOn = true ∧ s.dbg.accBusy = true) ∧
    (∃ (s : State), s.tapOn = true ∧ s.dbg.accBusy = false ∧ s.level 5 = 0) ∧
    (∃ (s : State), s.tapOn = true ∧ s.dbg.accBusy = false ∧ s.level 5 < 2) ∧
    (∃ (a : NetAddr) (w : Word32) (s u : State) (was : Nat) (x : Option (Nat × List Byte)), s.tapOn = true ∧ s.dbg.accBusy = false ∧ s.level 5 = 2
      ∧ s.pw.resetN = true ∧ s.pw.tripped = false ∧ s.getF F.dbgStatus_peeked 5 0 = was ∧ State.dbgWord (State.setF
      { s.tapIr 0x11 with dbg.accAddr := a.toNat, dbg.accPeek := false, dbg.accData := 0 } F.dbgStatus_peeked 5 0 0) 5 true .write a.toNat (leBytes
      4 w.toNat) = (u, x)) ∧
    (∃ (a : NetAddr) (s u : State) (was : Nat) (x : Option (Nat × List Byte)), s.tapOn = true ∧ s.dbg.accBusy = false ∧ 1 ≤ s.level 5 ∧ s.pw.resetN
      = true ∧ s.pw.tripped = false ∧ s.getF F.dbgStatus_peeked 5 0 = was ∧ State.dbgWord (State.setF
      { s.tapIr 0x11 with dbg.accAddr := a.toNat, dbg.accPeek := false, dbg.accData := 0 } F.dbgStatus_peeked 5 0 0) 5 false .read a.toNat [] = (u,
      x)) ∧
    (∃ (a : NetAddr) (s u : State) (was : Nat) (x : Option (Nat × List Byte)), s.tapOn = true ∧ s.dbg.accBusy = false ∧ 2 ≤ s.level 5 ∧ s.pw.resetN
      = true ∧ s.pw.tripped = false ∧ s.getF F.dbgStatus_peeked 5 0 = was ∧ State.dbgWord (State.setF
      { s.tapIr 0x11 with dbg.accAddr := a.toNat, dbg.accPeek := false, dbg.accData := 0 } F.dbgStatus_peeked 5 0 0) 5 true .read a.toNat [] = (u,
      x)) :=
  ⟨⟨State.reset, by decide +kernel⟩,
   ⟨State.reset, by decide +kernel⟩,
   ⟨State.reset, by decide +kernel⟩,
   ⟨State.reset, by decide +kernel⟩,
   ⟨{ State.reset with pw := { Power.init with resetN := false } }, by decide +kernel⟩,
   ⟨State.reset, by decide +kernel⟩,
   ⟨State.reset, by decide +kernel⟩,
   ⟨State.reset, by decide +kernel⟩,
   ⟨.idcode, { State.reset with pw := { Power.init with mode := .off } }, by decide +kernel, .inr (.inl rfl)⟩,
   ⟨1, false, { State.reset with sett := ⟨false, some 0, 1, [], [⟨0x0004, 0, [2, 0]⟩], [], [], none⟩ }, by decide +kernel, .inl rfl,
     by decide +kernel⟩,
   ⟨2, false, { State.reset with sett := ⟨false, some 0, 1, [], [⟨0x0004, 0, [1, 0]⟩], [], [], none⟩ }, by decide +kernel, .inr rfl,
     by decide +kernel⟩,
   ⟨List.replicate 96 0, { inMode .run with dbg.paths := [(5, { DPath.init with nonce := 1 })] }, by decide +kernel,
     List.length_replicate (n := 96) (a := (0 : Byte)), by decide +kernel⟩,
   ⟨State.reset, by decide +kernel⟩,
   ⟨{ State.reset with dbg.accBusy := true }, by decide +kernel⟩,
   ⟨State.reset, by decide +kernel⟩,
   ⟨State.reset, by decide +kernel⟩,
   ⟨0x7F0000000000, 0, State.setF (inMode .run) F.dbgStatus_level 5 0 2, _, _, _, by decide +kernel, by decide +kernel, by decide +kernel,
     by decide +kernel, by decide +kernel, rfl, rfl⟩,
   ⟨0x7F0000000000, State.setF (inMode .run) F.dbgStatus_level 5 0 2, _, _, _, by decide +kernel, by decide +kernel, by decide +kernel,
     by decide +kernel, by decide +kernel, rfl, rfl⟩,
   ⟨0x7F0000000000, State.setF (inMode .run) F.dbgStatus_level 5 0 2, _, _, _, by decide +kernel, by decide +kernel, by decide +kernel,
     by decide +kernel, by decide +kernel, rfl, rfl⟩⟩

theorem witness_ExpertAccess :
    (∃ (p : Port) (m : Mbox) (s : State) (a : Nat), s.ready p m 0xF00 ∧ s.arg p m 0 8 = a ∧ (s.taken p m).expertOwner (s.ctxOf p m).rq false [a] =
      false) ∧
    (∃ (p : Port) (m : Mbox) (s : State) (r : Rg) (i j : Nat), s.ready p m 0xF00 ∧ s.arg p m 0 8 % 4 = 0 ∧ regAt (s.arg p m 0 8) = some (r, i, j) ∧
      r.perPath = false ∧ (s.taken p m).expertOwner (s.ctxOf p m).rq false [s.arg p m 0 8] = true ∧ ((s.taken p m).mgmtTo (s.arg p m 0 8)).regRight
      (s.ctxOf p m).rq false r i j 0 = true ∧ ((s.taken p m).mgmtTo (s.arg p m 0 8)).regCode false true r i j = 0) ∧
    (∃ (p : Port) (m : Mbox) (s : State), s.ready p m 0xF00 ∧ (s.taken p m).expertOwner (s.ctxOf p m).rq false [s.arg p m 0 8] = true) ∧
    (∃ (p : Port) (m : Mbox) (s : State) (r : Rg) (i j : Nat), s.ready p m 0xF01 ∧ s.arg p m 0 8 % 4 = 0 ∧ regAt (s.arg p m 0 8) = some (r, i, j) ∧
      r.perPath = false ∧ (s.taken p m).expertOwner (s.ctxOf p m).rq true [s.arg p m 0 8] = true ∧ ((s.taken p m).mgmtTo (s.arg p m 0 8)).regRight
      (s.ctxOf p m).rq true r i j (s.arg p m 8 4) = true ∧ ((s.taken p m).mgmtTo (s.arg p m 0 8)).regCode true true r i j = 0) ∧
    (∃ (s : State) (a d p : Nat), regDie a = some d ∧ d ≠ 0 ∧ s.ctrlHop 0 d = some p) ∧
    (∃ (a : Nat), regDie a = some 0) ∧
    (∃ (p : Port) (m : Mbox) (s : State), s.ready p m 0xF01 ∧ (s.taken p m).expertOwner (s.ctxOf p m).rq true [s.arg p m 0 8] = true) ∧
    (∃ (p : Port) (m : Mbox) (s : State), s.ready p m 0xF02 ∧ (s.taken p m).expertOwner (s.ctxOf p m).rq true [s.arg p m 0 8] = true ∧ (s.taken p
      m).expertOwner (s.ctxOf p m).rq false [s.arg p m 0 8] = true ∧ ((s.taken p m).expertRead (s.ctxOf p m).rq (s.arg p m 0 8)).2.1 = svcOK) ∧
    (∃ (p : Port) (m : Mbox) (s : State), s.ready p m 0xF03 ∧ (s.taken p m).expertOwner (s.ctxOf p m).rq false ((List.range (s.arg p m 8 1)).map
      (fun i => s.arg p m 0 8 + 4 * i)) = true) ∧
    (∃ (p : Port) (m : Mbox) (s : State), s.ready p m 0xF04 ∧ (s.taken p m).expertOwner (s.ctxOf p m).rq true ((List.range (s.arg p m 0 1)).map
      (fun i => s.arg p m (16 + 12 * i) 8)) = true) ∧
    (∃ (q : Rq) (s u : State) (a code v : Nat), s.expertRead q a = (u, code, v) ∧ code ≠ svcOK) ∧
    (∃ (q : Rq) (s u : State) (a w code : Nat), s.expertWrite q a w = (u, code) ∧ code ≠ svcOK) :=
  ⟨⟨4, 0, asT1 (withCmd (inMode .run) 0xF00 [4, 0, 80, 0, 0, 127, 0, 0]), _, ready_of (by decide +kernel), rfl, by decide +kernel⟩,
   ⟨4, 0, withCmd (inMode .run) 0xF00 [4, 0, 80, 0, 0, 127, 0, 0], .hbmCtl, 3, 0, ready_of (by decide +kernel), by decide +kernel⟩,
   ⟨4, 0, withCmd (inMode .run) 0xF00 [4, 0, 80, 0, 0, 127, 0, 0], ready_of (by decide +kernel), by decide +kernel⟩,
   ⟨4, 0, State.setF (withCmd (inMode .run) 0xF01 ([28, 1, 3, 0, 0, 127] ++ List.replicate 6 0)) F.dbgStatus_level 4 0 2, .evRaise, 0, 7,
     ready_of (by decide +kernel), by decide +kernel⟩,
   ⟨(State.setF (State.setF (State.setF (State.setF (State.setF (State.setF (State.setF (State.setF (inMode .run) F.privStatus_state 0 0x80 1)
     F.privStatus_state 0 0x180 1) F.privStatus_state 1 0x80 1) F.privStatus_state 1 0x180 1) F.privStatus_state 2 0x80 1) F.privStatus_state 2
     0x180 1) F.privStatus_state 3 0x80 1) F.privStatus_state 3 0x180 1),
     Rg.qCtl.key 1023 3, 3, _, by decide +kernel, by decide +kernel, rfl⟩,
   ⟨139637976924444, by decide +kernel⟩,
   ⟨4, 0, State.setF (withCmd (inMode .run) 0xF01 ([28, 1, 3, 0, 0, 127] ++ List.replicate 6 0)) F.dbgStatus_level 4 0 2,
     ready_of (by decide +kernel), by decide +kernel⟩,
   ⟨4, 0, State.setF (withCmd (inMode .run) 0xF02 [4, 0, 80, 0, 0, 127, 0, 0, 1, 0, 0, 0, 1, 0, 0, 0]) F.dbgStatus_level 4 0 2,
     ready_of (by decide +kernel), by decide +kernel⟩,
   ⟨4, 0, withCmd (inMode .run) 0xF03 [4, 0, 80, 0, 0, 127, 0, 0, 1], ready_of (by decide +kernel), by decide +kernel⟩,
   ⟨4, 0,
     State.setF (withCmd (inMode .run) 0xF04 ([1] ++ List.replicate 15 0 ++ [28, 1, 3, 0, 0, 127] ++ List.replicate 6 0)) F.dbgStatus_level 4 0 2,
     ready_of (by decide +kernel), by decide +kernel⟩,
   ⟨Rq.ref, State.reset, _, 2, 10, 0, rfl, by decide +kernel⟩,
   ⟨Rq.ref, State.reset, _, 2, 0, 10, rfl, by decide +kernel⟩⟩

end Sys2Proof.Tests
end

/-! SUPPORT. The register map read back (R28): the network address of a register that exists names that register, the copy of its block and its
index. Storage keyed by network address therefore keeps one value for each register. -/

namespace Sys2Proof.Machine

/-! ### Registers within a block -/

/-- Two registers of a block share no offset: one range ends before the other begins, or their offsets differ modulo every common
divisor of the strides. -/
def RegInfo.apart (a b : RegInfo) : Bool :=
  decide (a.off + a.n * a.stride ≤ b.off) || decide (b.off + b.n * b.stride ≤ a.off) ||
    decide (a.off % a.stride.gcd b.stride ≠ b.off % a.stride.gcd b.stride)

/-- The indexes of a register lie within the 64 KB of its block (R28). -/
def RegInfo.fits (a : RegInfo) : Bool := decide (0 < a.stride) && decide (a.off + a.stride * (a.n - 1) < 0x10000)

theorem RegInfo.offset_lt_end (a : RegInfo) (hs : 0 < a.stride) {j : Nat} (hj : j < a.n) : a.off + a.stride * j < a.off + a.n * a.stride := by
  rw [Nat.mul_comm a.n]
  exact Nat.add_lt_add_left (Nat.mul_lt_mul_of_pos_left hj hs) _

theorem RegInfo.offset_mod (a : RegInfo) {g : Nat} (hg : g ∣ a.stride) (j : Nat) : (a.off + a.stride * j) % g = a.off % g := by
  obtain ⟨c, hc⟩ := hg
  rw [hc, Nat.mul_assoc, Nat.add_mul_mod_self_left]

theorem RegInfo.offset_ne_of_apart {a b : RegInfo} (h : a.apart b = true) (ha : 0 < a.stride) (hb : 0 < b.stride) {j k : Nat}
    (hj : j < a.n) (hk : k < b.n) : a.off + a.stride * j ≠ b.off + b.stride * k := by
  intro heq
  simp only [RegInfo.apart, Bool.or_eq_true, decide_eq_true_eq] at h
  have hja := a.offset_lt_end ha hj
  have hkb := b.offset_lt_end hb hk
  rcases h with (hab | hba) | hmod
  · omega
  · omega
  · apply hmod
    rw [← a.offset_mod (Nat.gcd_dvd_left _ _) j, heq, b.offset_mod (Nat.gcd_dvd_right _ _)]

theorem RegInfo.stride_pos_of_fits {a : RegInfo} (h : a.fits = true) : 0 < a.stride := by
  simp only [RegInfo.fits, Bool.and_eq_true, decide_eq_true_eq] at h
  exact h.1

theorem RegInfo.offset_lt_of_fits {a : RegInfo} (h : a.fits = true) {j : Nat} (hj : j < a.n) : a.off + a.stride * j < 0x10000 := by
  simp only [RegInfo.fits, Bool.and_eq_true, decide_eq_true_eq] at h
  have hle : a.stride * j ≤ a.stride * (a.n - 1) := Nat.mul_le_mul_left _ (by omega)
  omega

/-- In a list of registers that share no offset, each offset of a register finds that register and its index. -/
theorem regIn_offset {l : List Rg} (hp : l.Pairwise (fun a b => a.info.apart b.info = true)) (hf : ∀ r ∈ l, r.info.fits = true)
    {r : Rg} (hr : r ∈ l) {j : Nat} (hj : j < r.info.n) : regIn l (r.info.off + r.info.stride * j) = some (r, j) := by
  induction l with
  | nil => cases hr
  | cons a l ih =>
    obtain ⟨hap, hpl⟩ := List.pairwise_cons.mp hp
    have hsr := RegInfo.stride_pos_of_fits (hf r hr)
    rcases List.mem_cons.mp hr with rfl | hrl
    · simp [regIn, Nat.mul_div_cancel_left j hsr, hj]
    · have hsa := RegInfo.stride_pos_of_fits (hf a List.mem_cons_self)
      rw [regIn, if_neg, ih hpl (fun x hx => hf x (List.mem_cons_of_mem _ hx)) hrl]
      rintro ⟨hle, hmod, hlt⟩
      apply RegInfo.offset_ne_of_apart (hap r hrl) hsa hsr hlt hj
      rw [Nat.mul_div_cancel' (Nat.dvd_of_mod_eq_zero hmod)]
      omega

/-! ### The chapters' register tables -/

theorem Blk.regs_apart (b : Blk) : b.regs.Pairwise (fun x y => x.info.apart y.info = true) := by
  cases b <;> decide +kernel

theorem Blk.regs_fit (b : Blk) : ∀ r ∈ b.regs, r.info.fits = true := by
  cases b <;> decide +kernel

theorem Rg.mem_regs (r : Rg) : r ∈ r.info.blk.regs := by
  cases r <;> decide +kernel

theorem Rg.fits (r : Rg) : r.info.fits = true := r.info.blk.regs_fit r r.mem_regs

/-! ### The address map -/

/-- The pages of the device's own blocks, of 64 KB each. -/
theorem blkAt_device {k o : Nat} (hk : k < 4) (ho : o < 0x10000) :
    blkAt (k * 0x10000 + o) = some (if k = 0 then .devctl else if k = 1 then .clk else if k = 2 then .time else .ev, 0, o) := by
  have hpage : (k * 0x10000 + o) / 0x10000 = k := by omega
  have hoff : (k * 0x10000 + o) % 0x10000 = o := by omega
  rw [blkAt, if_pos (by omega), hpage, hoff]

/-- The pages of stack `i`. -/
theorem blkAt_stack {i k o : Nat} (hi : i < 4) (hk : k < 3) (ho : o < 0x10000) :
    blkAt (0x200000 + i * 0x100000 + k * 0x10000 + o) = some (if k = 0 then .hbm else if k = 1 then .prot else .rcache, i, o) := by
  have hpage : (0x200000 + i * 0x100000 + k * 0x10000 + o) % 0x100000 / 0x10000 = k := by omega
  have hinst : (0x200000 + i * 0x100000 + k * 0x10000 + o - 0x200000) / 0x100000 = i := by omega
  have hoff : (0x200000 + i * 0x100000 + k * 0x10000 + o) % 0x10000 = o := by omega
  rw [blkAt, if_neg (by omega), if_neg (by omega), if_pos (by omega), hpage, hinst, hoff]
  interval_cases k <;> rfl

/-- Instances of a block whose pages follow each other. -/
theorem page_split {x i o : Nat} (hx : x % 0x10000 = 0) (ho : o < 0x10000) :
    (x + i * 0x10000 + o - x) / 0x10000 = i ∧ (x + i * 0x10000 + o) % 0x10000 = o := by
  omega

/-- Each register block lies at an offset of register space (R28), and `blkAt` finds the block and its number there. -/
theorem Blk.base_eq (b : Blk) {i o : Nat} (hi : i < b.count) (ho : o < 0x10000) :
    ∃ x, b.base i = 0x7F0000000000 + x ∧ blkAt (x + o) = some (b, i, o) := by
  cases b <;> simp only [Blk.count, Nat.lt_one_iff] at hi
  case devctl => exact hi ▸ ⟨0 * 0x10000, rfl, blkAt_device (by decide) ho⟩
  case clk => exact hi ▸ ⟨1 * 0x10000, rfl, blkAt_device (by decide) ho⟩
  case time => exact hi ▸ ⟨2 * 0x10000, rfl, blkAt_device (by decide) ho⟩
  case ev => exact hi ▸ ⟨3 * 0x10000, rfl, blkAt_device (by decide) ho⟩
  case hbm => exact ⟨0x200000 + i * 0x100000 + 0 * 0x10000, by simp only [Blk.base]; omega, blkAt_stack hi (by decide) ho⟩
  case prot => exact ⟨0x200000 + i * 0x100000 + 1 * 0x10000, by simp only [Blk.base]; omega, blkAt_stack hi (by decide) ho⟩
  case rcache => exact ⟨0x200000 + i * 0x100000 + 2 * 0x10000, by simp only [Blk.base]; omega, blkAt_stack hi (by decide) ho⟩
  case seam =>
    obtain ⟨hinst, hoff⟩ := page_split (x := 0x100000) (i := i) (by decide) ho
    refine ⟨0x100000 + i * 0x10000, by simp only [Blk.base]; omega, ?_⟩
    rw [blkAt, if_neg, if_pos, hinst, hoff] <;> omega
  case dma =>
    obtain ⟨hinst, hoff⟩ := page_split (x := 0x1000000) (i := i) (by decide) ho
    refine ⟨0x1000000 + i * 0x10000, by simp only [Blk.base]; omega, ?_⟩
    rw [blkAt, if_neg, if_neg, if_neg, if_pos, hinst, hoff] <;> omega
  case quad =>
    obtain ⟨hinst, hoff⟩ := page_split (x := 0x2000000) (i := i) (by decide) ho
    refine ⟨0x2000000 + i * 0x10000, by simp only [Blk.base]; omega, ?_⟩
    rw [blkAt, if_neg, if_neg, if_neg, if_neg, if_pos, hinst, hoff] <;> omega
  case hp =>
    obtain ⟨hinst, hoff⟩ := page_split (x := 0x3000000) (i := i) (by decide) ho
    refine ⟨0x3000000 + i * 0x10000, by simp only [Blk.base]; omega, ?_⟩
    rw [blkAt, if_neg, if_neg, if_neg, if_neg, if_neg, if_pos, hinst, hoff] <;> omega
  case tile =>
    obtain ⟨hinst, hoff⟩ := page_split (x := 0x100000000) (i := i) (by decide) ho
    refine ⟨0x100000000 + i * 0x10000, by simp only [Blk.base]; omega, ?_⟩
    rw [blkAt, if_neg, if_neg, if_neg, if_neg, if_neg, if_neg, if_pos, hinst, hoff] <;> omega
  case dbg =>
    have hoff : (0x200010000 + o) % 0x10000 = o := by omega
    refine ⟨0x200010000, by rw [hi]; rfl, ?_⟩
    rw [blkAt, if_neg, if_neg, if_neg, if_neg, if_neg, if_neg, if_neg, if_pos, hoff, hi] <;> omega

/-- An offset within a register block finds that block and its number. -/
theorem blkAt_base (b : Blk) {i o : Nat} (hi : i < b.count) (ho : o < 0x10000) :
    blkAt (b.base i + o - 0x7F0000000000) = some (b, i, o) := by
  obtain ⟨x, hx, hat⟩ := b.base_eq hi ho
  rw [hx, Nat.add_assoc, Nat.add_sub_cancel_left, hat]

theorem Blk.base_range (b : Blk) (i : Nat) (hi : i < b.count) : 0x7F0000000000 ≤ b.base i ∧ b.base i + 0x10000 ≤ 0x800000000000 := by
  cases b <;> simp only [Blk.count] at hi <;> simp only [Blk.base] <;> omega

theorem Rg.valid_iff (r : Rg) (i j : Nat) : r.valid i j = true ↔ i < r.info.blk.count ∧ j < r.info.n ∧ r.exists i j = true := by
  simp only [Rg.valid, Bool.and_eq_true, decide_eq_true_eq, and_assoc]

/-- The network address of a register that exists names it (R28). -/
theorem regAt_key {r : Rg} {i j : Nat} (h : r.valid i j = true) : regAt (r.key i j) = some (r, i, j) := by
  obtain ⟨hi, hj, hex⟩ := (r.valid_iff i j).mp h
  have ho := RegInfo.offset_lt_of_fits r.fits hj
  have hb := r.info.blk.base_range i hi
  have hblk := blkAt_base r.info.blk hi ho
  have hreg := regIn_offset r.info.blk.regs_apart r.info.blk.regs_fit r.mem_regs hj
  have hkey : r.key i j = r.info.blk.base i + (r.info.off + r.info.stride * j) := Nat.add_assoc _ _ _
  rw [hkey, regAt, if_neg (by omega)]
  simp [hblk, hreg, hex]

theorem Rg.key_lt {r : Rg} {i j : Nat} (h : r.valid i j = true) : r.key i j < 2 ^ 48 := by
  obtain ⟨hi, hj, -⟩ := (r.valid_iff i j).mp h
  have ho := RegInfo.offset_lt_of_fits r.fits hj
  have hb := r.info.blk.base_range i hi
  simp only [Rg.key]
  omega

/-- Registers that exist have addresses of their own. -/
theorem Rg.key_ne {r r' : Rg} {i j i' j' : Nat} (h : r.valid i j = true) (h' : r'.valid i' j' = true) (hne : (r', i', j') ≠ (r, i, j)) :
    r'.key i' j' ≠ r.key i j := by
  intro heq
  have hat := regAt_key h'
  rw [heq, regAt_key h] at hat
  exact hne (Option.some.inj hat).symm

/-- The storage holds a register at the reset value of its table. -/
theorem rstAt_key {r : Rg} {i j : Nat} (h : r.valid i j = true) : rstAt (r.key i j) = BitVec.ofNat 32 (r.rst j) := by
  rw [rstAt, Nat.mod_eq_of_lt (Rg.key_lt h), regAt_key h]

/-- R8: a write that places a reserved encoding changes nothing. -/
theorem State.writeReg_reserved (s : State) (q : Rq) (r : Rg) (i j v : Nat) (h : r.okWrite v = false) : s.writeReg q r i j v = s := by
  simp [State.writeReg, h]

/-- Settles O5: the address of a register that exists names it alone (R28), so the storage's laws apply to it; a reserved encoding stops at the
first test of a write (R8). -/
theorem registersReadBack : Obligations.RegistersReadBack := by
  unfold Obligations.RegistersReadBack
  refine ⟨?readsBack, ?othersKept, ?staysCanonical, ?reserved⟩
  case readsBack =>
    intro s r i j v hwf hvalid hv
    rw [s.reg_setReg_same r i j v hwf (rstAt_key hvalid), Nat.mod_eq_of_lt hv]
  case othersKept =>
    intro s r r' i j i' j' v hwf hvalid hvalid' hne
    exact s.reg_setReg_other r r' i j i' j' v hwf (Rg.key_ne hvalid hvalid' hne)
  case staysCanonical =>
    intro s r i j v hwf hvalid
    exact s.regsWf_setReg r i j v hwf (rstAt_key hvalid)
  case reserved => exact State.writeReg_reserved

end Sys2Proof.Machine

/-! SUPPORT. The register map read forwards (R28): a register that an address names exists, and the address is its own. -/

namespace Sys2Proof.Machine

/-- A register that a block's list finds at an offset is of the list, and its index lies at that offset. -/
theorem regIn_some {l : List Rg} {o : Nat} {r : Rg} {j : Nat} (h : regIn l o = some (r, j)) :
    r ∈ l ∧ j < r.info.n ∧ r.info.off + r.info.stride * j = o := by
  induction l with
  | nil => cases h
  | cons a l ih =>
    rw [regIn] at h
    split at h
    next hat =>
      obtain ⟨hle, hmod, hlt⟩ := hat
      obtain ⟨rfl, rfl⟩ := Prod.mk.inj (Option.some.inj h)
      refine ⟨List.mem_cons_self, hlt, ?_⟩
      rw [Nat.mul_div_cancel' (Nat.dvd_of_mod_eq_zero hmod)]
      omega
    next =>
      obtain ⟨hmem, hj, ho⟩ := ih h
      exact ⟨List.mem_cons_of_mem _ hmem, hj, ho⟩

theorem Blk.info_of_mem_regs (b : Blk) : ∀ r ∈ b.regs, r.info.blk = b := by
  cases b <;> decide +kernel

/-- The block, the instance and the offset that `blkAt` names exist and lie at that place of register space. -/
theorem blkAt_some {x i o : Nat} {b : Blk} (h : blkAt x = some (b, i, o)) : i < b.count ∧ b.base i + o = 0x7F0000000000 + x := by
  unfold blkAt at h
  repeat' split at h
  all_goals simp only [Option.some.injEq, Prod.mk.injEq, reduceCtorEq] at h
  all_goals
    obtain ⟨rfl, rfl, rfl⟩ := h
    simp only [Blk.count, Blk.base]
    omega

/-- What an address names is a register that exists, and the address is its own. -/
theorem regAt_some {a : Nat} {r : Rg} {i j : Nat} (h : regAt a = some (r, i, j)) : r.valid i j = true ∧ r.key i j = a := by
  rw [regAt] at h
  split at h
  next => cases h
  next hrange =>
    split at h
    next => cases h
    next b i' o hblk =>
      split at h
      next => cases h
      next r' j' hreg =>
        split at h
        next hex =>
          obtain ⟨rfl, rfl, rfl⟩ := h
          obtain ⟨hmem, hj, hoff⟩ := regIn_some hreg
          obtain ⟨hi, hbase⟩ := blkAt_some hblk
          have hb := b.info_of_mem_regs _ hmem
          refine ⟨(Rg.valid_iff _ _ _).mpr ⟨hb ▸ hi, hj, hex⟩, ?_⟩
          rw [Rg.key, hb]
          omega
        next => cases h

/-- Settles O4: `regAt` and the address of a register are inverse to each other, so an address is no two registers'. -/
theorem registerAddresses : Obligations.RegisterAddresses := by
  unfold Obligations.RegisterAddresses
  refine ⟨?names, ?apart, ?lies⟩
  case names => exact fun r i j => regAt_key
  case apart =>
    intro r r' i j i' j' h h' hkey
    have hat := regAt_key h
    rw [hkey, regAt_key h'] at hat
    cases Option.some.inj hat
    exact ⟨rfl, rfl, rfl⟩
  case lies => exact fun a r i j => regAt_some

end Sys2Proof.Machine

/-! SUPPORT. What serving a request to register space can do, case by case in the order of R31: a payload check that fails (R182), an address that names
no register, a right that is missing, a target that refuses, and a write of the one register that the request names. -/

namespace Sys2Proof.Machine

/-- An access to one register that is not held once for each path has one part, at the start of the data. -/
theorem regParts_single {q : Rq} {g : Rg} (i j : Nat) (h : g.perPath = false) : regParts q [(g, i, j)] = [(g, i, j, 0)] := by
  simp [regParts, List.zipIdx, h]

/-! ### The checks of R31 -/

theorem State.regAccess_nowhere {s : State} {q : Rq} {eff : Bool} {op : NOp} {a n : Nat} {data : List Byte} (h : regsAt a n = none) :
    s.regAccess q eff op a n data = refused s svcAddress := by
  simp [State.regAccess, h]

section
variable {s : State} {q : Rq} {eff : Bool} {a n i j : Nat} {g : Rg} {data : List Byte}
  (hat : regsAt a n = some [(g, i, j)]) (hpath : g.perPath = false)
include hat hpath

theorem State.regAccess_write_denied (hright : s.regRight q true g i j (leAt data 0 4) = false) :
    s.regAccess q eff .write a n data = refused s svcDenied := by
  simp [State.regAccess, hat, regParts_single i j hpath, hright]

theorem State.regAccess_write_refused (hright : s.regRight q true g i j (leAt data 0 4) = true) (hcode : s.regCode true eff g i j ≠ 0) :
    s.regAccess q eff .write a n data = refused s (s.regCode true eff g i j) := by
  simp [State.regAccess, hat, regParts_single i j hpath, hright, hcode]

theorem State.regAccess_write_granted (hright : s.regRight q true g i j (leAt data 0 4) = true) (hcode : s.regCode true eff g i j = svcOK) :
    s.regAccess q eff .write a n data = (s.writeReg q g i j (leAt data 0 4), svcOK, []) := by
  simp [State.regAccess, hat, regParts_single i j hpath, hright, hcode, svcOK]

theorem State.regAccess_read_granted (hright : s.regRight q false g i j (leAt data 0 4) = true) (hcode : s.regCode false eff g i j = svcOK) :
    s.regAccess q eff .read a n data = ((s.readReg eff q.path g i j).1, svcOK, leBytes 4 (s.readReg eff q.path g i j).2) := by
  simp [State.regAccess, hat, regParts_single i j hpath, hright, hcode, svcOK]

end

/-- The engine and queue parts of a tile whose interface is fenced refuse (R29, R31, R191). -/
theorem State.regCode_fenced {s : State} {g : Rg} {i : Nat} (wr eff : Bool) (j : Nat) (hblk : g.info.blk = .tile) (hoff : 0x8000 ≤ g.info.off)
    (hfen : s.niFenced i = true) : s.regCode wr eff g i j = svcFenced := by
  simp [State.regCode, hblk, hoff, hfen]

/-! ### The destination of a request -/

/-- An intact request in flight is taken up, served and answered (R182). -/
theorem State.serveReg_intact {s : State} {r : Req} {t : State} {code : Nat} {data : List Byte} (hin : s.net.reqs.contains r = true)
    (hcrc : r.crcOk = true) (h : (s.takeReq r).regAccess r.rq true r.op r.addr r.size r.data = (t, code, data)) :
    s.serveReg r = t.respond r code data := by
  simp only [State.serveReg, State.serve, hin, hcrc, h, if_true]

/-- A request whose payload check fails is counted and answered POISONED (R182). -/
theorem State.serveReg_poisoned {s : State} {r : Req} (hin : s.net.reqs.contains r = true) (hcrc : r.crcOk = false) :
    s.serveReg r = State.respond (State.count (s.takeReq r) F.niErrors_crcFails (niOf r.dst) 0 1) r svcPoisoned [] := by
  simp only [State.serveReg, State.serve, hin, hcrc, if_true, Bool.false_eq_true, if_false, svcPoisoned]

/-- A request that writes one register, and is granted, writes it. -/
theorem State.serveReg_grantsWrite {s : State} {r : Req} {g : Rg} {i j v : Nat} (h : s.grantsWrite r g i j v) :
    s.serveReg r = State.respond ((s.takeReq r).writeReg r.rq g i j v) r svcOK [] := by
  obtain ⟨hin, hcrc, hop, hat, hpath, rfl, hright, hcode, -⟩ := h
  apply State.serveReg_intact hin hcrc
  rw [hop]
  exact State.regAccess_write_granted hat hpath hright hcode

/-- A request that reads one register, and is granted, reads it. -/
theorem State.serveReg_grantsRead {s : State} {r : Req} {g : Rg} {i j : Nat} (h : s.grantsRead r g i j) :
    s.serveReg r = State.respond ((s.takeReq r).readReg true r.rq.path g i j).1 r svcOK
      (leBytes 4 ((s.takeReq r).readReg true r.rq.path g i j).2) := by
  obtain ⟨hin, hcrc, hop, hat, hpath, hright, hcode⟩ := h
  apply State.serveReg_intact hin hcrc
  rw [hop]
  exact State.regAccess_read_granted hat hpath hright hcode

/-- A row of a register that the request reads serves the request. -/
theorem regRow_grantsRead {s : State} {r : Req} {g : Rg} {i j : Nat} {p : Rg → Nat → Bool} (h : s.grantsRead r g i j)
    (hp : p g (leAt r.data 0 4) = true) : regRow .read p r s = .next (s.serveReg r) := by
  obtain ⟨-, -, hop, hat, -, -, -⟩ := h
  have hhit : r.hits .read p = true := by simp [Req.hits, hop, hat, List.zipIdx, hp]
  simp only [regRow, hhit, if_true]

/-- A request to register space runs its destination. -/
theorem exec_registerWrite {r : Req} (s : State) (hlo : 0x7F0000000000 ≤ r.addr) (hhi : r.addr < 0x800000000000) :
    exec (.registerWrite r) s = .next (s.serveReg r) :=
  congrArg Host.Outcome.next (if_pos ⟨hlo, hhi⟩)

/-- A write that grants its register to the writer carries no reserved encoding, so the register's block takes it (R8). -/
theorem State.writeReg_tile {s : State} {q : Rq} {g : Rg} {i j v : Nat} (hok : g.okWrite v = true) (hblk : g.info.blk = .tile) :
    s.writeReg q g i j v = s.writeTile g i j v := by
  simp [State.writeReg, hok, hblk]

/-- Settles O23: the checks of R31 in their order; what a check refuses reaches no later one, so only the answer leaves. -/
theorem refusedRegisterAccess : Obligations.RefusedRegisterAccess := by
  unfold Obligations.RefusedRegisterAccess
  refine ⟨?noRegister, ?noRight, ?fenced, ?poisoned⟩
  case noRegister =>
    intro r s hin hcrc hlo hhi hat
    rw [exec_registerWrite s hlo hhi, State.serveReg_intact hin hcrc (State.regAccess_nowhere hat)]
  case noRight =>
    intro r s g i j hin hcrc hlo hhi hat hpath hop hright
    rw [exec_registerWrite s hlo hhi, State.serveReg_intact hin hcrc (hop ▸ State.regAccess_write_denied hat hpath hright)]
  case fenced =>
    intro r s g i j hin hcrc hlo hhi hat hpath hblk hoff hfen hop hright
    have hcode := State.regCode_fenced true true j hblk hoff hfen
    have hserve := State.regAccess_write_refused (eff := true) hat hpath hright (by rw [hcode]; decide)
    rw [hcode, ← hop] at hserve
    rw [exec_registerWrite s hlo hhi, State.serveReg_intact hin hcrc hserve]
  case poisoned =>
    intro r s hin hcrc hlo hhi
    rw [exec_registerWrite s hlo hhi, State.serveReg_poisoned hin hcrc]

end Sys2Proof.Machine

/-! SUPPORT. What the packet queues' operations do with a word (R196–R206), and the rows of their fabric ports and registers. -/

namespace Sys2Proof.Machine

/-! ### Words -/

/-- A last word commits its packet (R196, R197). -/
theorem State.qWrite_last (s : State) (k v : Nat) (b : Bool) : s.qWrite k v true b = s.setPQ k { s.pq k with
    unc := [], transit := (s.pq k).transit ++ [(s.pq k).unc ++ [mkWord v true b (s.pq k).flip]], flip := false } := rfl

/-- Any other word joins the uncommitted packet, which ends before 1,024 words (R196, R199). -/
theorem State.qWrite_more {s : State} {k : Nat} (v : Nat) (b : Bool) (h : (s.pq k).unc.length < 1023) :
    s.qWrite k v false b = s.setPQ k { s.pq k with unc := (s.pq k).unc ++ [mkWord v false b (s.pq k).flip], flip := false } := by
  have hlen : ¬ 1024 ≤ (s.pq k).unc.length + 1 := by omega
  simp [State.qWrite, hlen]

/-- An abort of an uncommitted packet rewinds it and is counted (R198). -/
theorem State.qAbort_open {s : State} {k : Nat} (h : (s.pq k).unc ≠ []) :
    s.qAbort k = State.count (s.setPQ k { s.pq k with unc := [] }) F.qErrors_aborts (k / 4) (k % 4) 1 := by
  simp [State.qAbort, h]

/-- A read of a word without a parity failure delivers it (R201–R203). -/
theorem State.qRead_clean {s : State} {k : Nat} {w : QWord} {l : List QWord} (hvis : (s.pq k).vis = w :: l) (hpar : w.deliver.2 = false) :
    s.qRead k = (w.deliver.1, false, s.setPQ k { s.pq k with
      vis := l, freed := (s.pq k).freed + 1, last := w.deliver.1, cunder := false, rd := ((s.pq k).rd + 1) % 1024 }) := by
  simp [State.qRead, hvis, hpar]

/-- A read of a queue that shows no word sets UNDERRUN (R202). -/
theorem State.qRead_empty {s : State} {k : Nat} (hvis : (s.pq k).vis = []) :
    s.qRead k = ((s.pq k).last, true, State.setF (s.setPQ k { s.pq k with cunder := true }) F.qStatus_underrun (k / 4) (k % 4) 1) := by
  simp [State.qRead, hvis]

/-- The oldest commit becomes visible, with its notice (R197, R204). -/
theorem State.qVisible_commit {s : State} {k : Nat} {w : List QWord} {l : List (List QWord)} (h : (s.pq k).transit = w :: l) :
    s.qVisible k = if s.qCons k = 1 then s.setPQ k { s.pq k with vis := (s.pq k).vis ++ w, transit := l, notices := (s.pq k).notices + 1 }
      else State.qNotice (s.setPQ k { s.pq k with vis := (s.pq k).vis ++ w, transit := l }) k := by
  simp [State.qVisible, h]

/-! ### Fabric ports -/

section
variable {t : Tile} {n : QNum} {s u : State} {k : Nat} (hk : k = 4 * t.val + n.val) {join : Bool}
include hk

/-- An edge of a producer's port that runs: PABORT rewinds, else a word is written where there is space before and on the edge (R196, R198, R199). -/
theorem exec_fabricPush_edge (data : Word64) (last poison : Bool) (hprod : s.qProd k = 1) (hon : s.qOn k = true)
    (hrun : s.portRuns t (.queue n) 0 = true) (hedge : s.portEdge t (.queue n) 0 join = u)
    (hvalid : u.preEdge.senseBit t (.queue n) .pvalid 0 true = true) :
    exec (.fabricPush t n data last poison join) s = .next (
      if u.preEdge.senseBit t (.queue n) .pabort 0 false then u.qAbort k
      else if 0 < (u.preEdge.pq k).space ∧ 0 < (u.pq k).space then
        u.qWrite k (u.preEdge.sense t (.queue n) .pdata 64 data.toNat) (u.preEdge.senseBit t (.queue n) .plast 0 last)
          (u.preEdge.senseBit t (.queue n) .ppoison 0 poison)
      else u) := by
  subst hk
  refine congrArg Host.Outcome.next ((if_pos ⟨hprod, hon, hrun⟩).trans ?_)
  simp only [hedge, hvalid, Bool.not_true, Bool.false_eq_true, if_false]

/-- A push at a port that does not run, or at a queue without a fabric producer or disabled, leaves everything as it was (R53, R196). -/
theorem exec_fabricPush_off (data : Word64) (last poison : Bool)
    (h : s.qProd k ≠ 1 ∨ s.qOn k = false ∨ s.portRuns t (.queue n) 0 = false) :
    exec (.fabricPush t n data last poison join) s = .next s := by
  subst hk
  refine congrArg Host.Outcome.next (if_neg ?_)
  rintro ⟨hprod, hon, hrun⟩
  simp [hprod, hon, hrun] at h

theorem exec_pabort_edge (hprod : s.qProd k = 1) (hon : s.qOn k = true) (hrun : s.portRuns t (.queue n) 0 = true)
    (hedge : s.portEdge t (.queue n) 0 join = u) (habort : u.preEdge.senseBit t (.queue n) .pabort 0 true = true) :
    exec (.pabort t n join) s = .next (u.qAbort k) := by
  subst hk
  refine congrArg Host.Outcome.next ((if_pos ⟨hprod, hon, hrun⟩).trans ?_)
  simp only [hedge, habort, if_true]

theorem exec_fabricPop_edge (hcons : s.qCons k = 1) (hrun : s.portRuns t (.queue n) 1 = true)
    (hedge : s.portEdge t (.queue n) 1 join = u) (hread : u.preEdge.senseBit t (.queue n) .cread 0 true = true) :
    exec (.fabricPop t n join) s = .next (u.qRead k).2.2 := by
  subst hk
  refine congrArg Host.Outcome.next ((if_pos ⟨hcons, hrun⟩).trans ?_)
  simp only [hedge, hread, if_true]

end

/-! ### Network registers -/

section
variable {s : State} {k : Nat} (v : Nat) (hprod : s.qProd k = 3) (hon : s.qOn k = true)
include hprod hon

theorem State.qPushReg_lo : s.qPushReg k .qPushLo v = (s.setPQ k { s.pq k with stLo := v }, svcOK) := by
  simp [State.qPushReg, hprod, hon]

theorem State.qPushReg_lastLo : s.qPushReg k .qPushLastLo v = (s.setPQ k { s.pq k with stLastLo := v }, svcOK) := by
  simp [State.qPushReg, hprod, hon]

theorem State.qPushReg_hi (hroom : (s.pq k).space ≠ 0) :
    s.qPushReg k .qPushHi v = (s.qWrite k ((s.pq k).stLo + 2 ^ 32 * v) false false, svcOK) := by
  simp [State.qPushReg, hprod, hon, hroom]

theorem State.qPushReg_lastHi (hroom : (s.pq k).space ≠ 0) :
    s.qPushReg k .qPushLastHi v = (s.qWrite k ((s.pq k).stLastLo + 2 ^ 32 * v) true false, svcOK) := by
  simp [State.qPushReg, hprod, hon, hroom]

theorem State.qPushReg_abort (hv : v % 2 = 1) : s.qPushReg k .qPushAbort v = (s.qAbort k, svcOK) := by
  simp [State.qPushReg, hprod, hon, hv]

end

/-- A pop by the network of a word without a parity failure (R205). -/
theorem State.qPopReg_clean {s : State} {k : Nat} {w : QWord} {l : List QWord} (hcons : s.qCons k = 3) (hvis : (s.pq k).vis = w :: l)
    (hpar : w.deliver.2 = false) :
    s.qPopReg k = (((s.setPQ k { s.pq k with
        vis := l, freed := (s.pq k).freed + 1, last := w.deliver.1, cunder := false, rd := ((s.pq k).rd + 1) % 1024 }).setReg .qPopHi (k / 4) (k % 4)
          (w.deliver.1.data / 2 ^ 32)).setReg .qPopFlags (k / 4) (k % 4) (2 * b2n w.deliver.1.last + b2n w.deliver.1.p0),
      svcOK, w.deliver.1.data % 2 ^ 32) := by
  simp [State.qPopReg, hcons, State.qRead_clean hvis hpar, b2n]

/-- A granted write of a tile's register, by the row of that register. -/
theorem regRow_tile {r : Req} {s : State} {g : Rg} {i j v : Nat} {p : Rg → Nat → Bool} (h : s.grantsWrite r g i j v)
    (hblk : g.info.blk = .tile) (hp : p g v = true) :
    regRow .write p r s = .next (State.respond ((s.takeReq r).writeTile g i j v) r svcOK []) := by
  have hok : g.okWrite v = true := by
    obtain ⟨-, -, -, -, -, -, -, -, hok⟩ := h
    exact hok
  rw [regRow_granted g i j v p r s h hp, State.writeReg_tile hok hblk]

/-- The row of a push register answers what the queue does with the write (R200). -/
theorem regRow_pushReg {r : Req} {s u : State} {g : Rg} {t n v code : Nat} {p : Rg → Nat → Bool} (h : s.grantsWrite r g t n v)
    (hblk : g.info.blk = .tile) (hp : p g v = true)
    (hwrite : (s.takeReq r).writeTile g t n v = ((s.takeReq r).qPushReg (4 * t + n) g v).1)
    (hpush : (s.takeReq r).qPushReg (4 * t + n) g v = (u, code)) : regRow .write p r s = .next (u.respond r svcOK []) := by
  rw [regRow_tile h hblk hp, hwrite, hpush]

/-- ENABLE kept high: the queue keeps its uncommitted packet (R53). -/
theorem State.writeQCtl_keep (s : State) {t n v : Nat} (hn : n < 4) (hflush : bitAt v 30 = false) (hen : bitAt v 31 = true) :
    s.writeQCtl (4 * t + n) v = s.setReg .qCtl t n (Rg.qCtl.written (s.reg .qCtl t n) v) := by
  have ht : (4 * t + n) / 4 = t := by omega
  have hr : (4 * t + n) % 4 = n := by omega
  simp [State.writeQCtl, hflush, hen, ht, hr]

/-- FLUSH discards what the consumer sees (R206). -/
theorem State.writeQCtl_flush (s : State) {t n v : Nat} (hn : n < 4) (hflush : bitAt v 30 = true) (hen : bitAt v 31 = true) :
    s.writeQCtl (4 * t + n) v = (s.qFlush (4 * t + n)).setReg .qCtl t n (Rg.qCtl.written (s.reg .qCtl t n) v) := by
  have ht : (4 * t + n) / 4 = t := by omega
  have hr : (4 * t + n) % 4 = n := by omega
  simp only [State.writeQCtl, hflush, hen, ht, hr, if_true]
  rfl

/-- Settles O24: each operation of a queue by its rule above; a register's row is the granted write or read of that register. -/
theorem queueAccess : Obligations.QueueAccess := by
  unfold Obligations.QueueAccess
  refine ⟨?pushLast, ?pushMore, ?pushOff, ?pushAbort, ?abort, ?pop, ?popEmpty, ?visible, ?cut, ?freed, ?stageLo, ?stageLastLo, ?high, ?lastHigh,
    ?abortReg, ?popReg, ?flushRow, ?enableRow, ?keep, ?flush⟩
  case pushLast =>
    intro t n data last poison join s u p k v b hk hprod hon hrun hedge hp hroom hroom' hvalid habort hlast hdata hpoison
    subst hp
    rw [exec_fabricPush_edge hk data last poison hprod hon hrun hedge hvalid, habort, if_neg Bool.false_ne_true, if_pos ⟨hroom, hroom'⟩, hlast, hdata,
      hpoison, State.qWrite_last]
  case pushMore =>
    intro t n data last poison join s u p k v b hk hprod hon hrun hedge hp hroom hroom' hvalid habort hlast hdata hpoison hlen
    subst hp
    rw [exec_fabricPush_edge hk data last poison hprod hon hrun hedge hvalid, habort, if_neg Bool.false_ne_true, if_pos ⟨hroom, hroom'⟩, hlast, hdata,
      hpoison, State.qWrite_more v b hlen]
  case pushOff => exact fun t n data last poison join s k hk h => exec_fabricPush_off hk data last poison h
  case pushAbort =>
    intro t n data last poison join s u p k hk hprod hon hrun hedge hp hvalid habort hopen
    subst hp
    rw [exec_fabricPush_edge hk data last poison hprod hon hrun hedge hvalid, habort, if_pos rfl, State.qAbort_open hopen]
  case abort =>
    intro t n join s u k hk hprod hon hrun hedge habort hopen
    rw [exec_pabort_edge hk hprod hon hrun hedge habort, State.qAbort_open hopen]
  case pop =>
    intro t n join s u k w l hk hcons hrun hedge hread hvis hpar
    rw [exec_fabricPop_edge hk hcons hrun hedge hread, State.qRead_clean hvis hpar]
  case popEmpty =>
    intro t n join s u k hk hcons hrun hedge hread hvis
    rw [exec_fabricPop_edge hk hcons hrun hedge hread, State.qRead_empty hvis]
  case visible =>
    intro t n s k w l hk htransit
    subst hk
    exact congrArg Host.Outcome.next (State.qVisible_commit htransit)
  case cut => exact fun s k hwf => State.pq_setPQ s k _ hwf
  case freed => exact fun t n s => rfl
  case stageLo =>
    intro r s t n k v h hk hprod hon
    subst hk
    exact regRow_pushReg h rfl rfl rfl (State.qPushReg_lo (s := s.takeReq r) v hprod hon)
  case stageLastLo =>
    intro r s t n k v h hk hprod hon
    subst hk
    exact regRow_pushReg h rfl rfl rfl (State.qPushReg_lastLo (s := s.takeReq r) v hprod hon)
  case high =>
    intro r s t n k v h hk hprod hon hroom
    subst hk
    exact regRow_pushReg h rfl rfl rfl (State.qPushReg_hi (s := s.takeReq r) v hprod hon hroom)
  case lastHigh =>
    intro r s t n k v h hk hprod hon hroom
    subst hk
    exact regRow_pushReg h rfl rfl rfl (State.qPushReg_lastHi (s := s.takeReq r) v hprod hon hroom)
  case abortReg =>
    intro r s t n k v h hk hprod hon hv
    subst hk
    exact regRow_pushReg h rfl rfl rfl (State.qPushReg_abort (s := s.takeReq r) v hprod hon hv)
  case popReg =>
    intro r s t n k w l h hk hcons hvis hpar
    subst hk
    refine (regRow_grantsRead h rfl).trans ?_
    rw [State.serveReg_grantsRead h]
    exact congrArg (fun x : State × Nat × Nat => Host.Outcome.next (x.1.respond r svcOK (leBytes 4 x.2.2)))
      (State.qPopReg_clean (s := s.takeReq r) hcons hvis hpar)
  case flushRow => exact fun r s t n v h hflush => regRow_tile h rfl hflush
  case enableRow => exact fun r s t n v h => regRow_tile h rfl rfl
  case keep => exact fun s t n v hn hflush hen => s.writeQCtl_keep hn hflush hen
  case flush => exact fun s t n v hn hflush hen => s.writeQCtl_flush hn hflush hen

end Sys2Proof.Machine

/-! SUPPORT. A packet read back (R168, R169): a number packed from fields has each field at its place, CHECK leaves the other bits of a flit as they were,
and bytes cut into flits come together again. -/

namespace Sys2Proof.Machine

/-! ### Bits -/

theorem bits_mod_two_pow {n hi lo : Nat} (w : Nat) (h : hi < n) : bits (w % 2 ^ n) hi lo = bits w hi lo := by
  apply Nat.eq_of_testBit_eq
  intro i
  simp only [bits, Nat.testBit_mod_two_pow, Nat.testBit_div_two_pow]
  by_cases hi' : i < hi + 1 - lo
  · have hlt : i + lo < n := by omega
    simp [hi', hlt]
  · simp [hi']

theorem bits_ofNat {m hi lo : Nat} (w : Nat) (h : hi < m) : bits (BitVec.ofNat m w).toNat hi lo = bits w hi lo := by
  rw [BitVec.toNat_ofNat, bits_mod_two_pow _ h]

/-- What lies above a field does not reach it. -/
theorem bits_mul_add {n hi lo : Nat} (c w : Nat) (h : hi < n) : bits (c * 2 ^ n + w) hi lo = bits w hi lo := by
  rw [← bits_mod_two_pow _ h, Nat.mul_add_mod_self_right, bits_mod_two_pow _ h]

theorem bitAt_eq_bits (w n : Nat) : bitAt w n = decide (bits w n n = 1) := by
  rw [bitAt, bits, Nat.add_sub_cancel_left, Nat.pow_one]

/-! ### Fields side by side -/

/-- Values side by side in one number, each in its width, the first one highest. -/
def packFields : List Nat → List Nat → Nat
  | n :: ns, v :: vs => v % 2 ^ n * 2 ^ ns.sum + packFields ns vs
  | _, _ => 0

theorem packFields_lt (ns vs : List Nat) : packFields ns vs < 2 ^ ns.sum := by
  induction ns generalizing vs with
  | nil => simp [packFields]
  | cons n ns ih =>
    cases vs with
    | nil => simp [packFields]
    | cons v vs =>
      have hv : v % 2 ^ n + 1 ≤ 2 ^ n := Nat.mod_lt _ (Nat.two_pow_pos n)
      have hrest := ih vs
      calc v % 2 ^ n * 2 ^ ns.sum + packFields ns vs < (v % 2 ^ n + 1) * 2 ^ ns.sum := by rw [Nat.add_mul, Nat.one_mul]; omega
        _ ≤ 2 ^ n * 2 ^ ns.sum := Nat.mul_le_mul_right _ hv
        _ = 2 ^ (n :: ns).sum := by rw [List.sum_cons, Nat.pow_add]

theorem sum_eq_drop_add (ns : List Nat) (i : Nat) : ∃ m, ns.sum = (ns.drop (i + 1)).sum + (ns.getD i 0 + m) := by
  induction ns generalizing i with
  | nil => exact ⟨0, by simp⟩
  | cons n ns ih =>
    cases i with
    | zero => exact ⟨0, by simp [Nat.add_comm]⟩
    | succ i =>
      obtain ⟨m, hm⟩ := ih i
      exact ⟨n + m, by simp only [List.sum_cons, List.drop_succ_cons, List.getD_cons_succ, hm]; omega⟩

/-- Each value lies above those after it. -/
theorem packFields_at (ns vs : List Nat) (i : Nat) :
    packFields ns vs / 2 ^ (ns.drop (i + 1)).sum % 2 ^ ns.getD i 0 = vs.getD i 0 % 2 ^ ns.getD i 0 := by
  induction i generalizing ns vs with
  | zero =>
    match ns, vs with
    | [], _ => simp [Nat.mod_one]
    | _ :: _, [] => simp [packFields]
    | n :: ns, v :: vs =>
      simp only [packFields, List.drop_succ_cons, List.drop_zero, List.getD_cons_zero]
      rw [Nat.mul_comm, Nat.mul_add_div (Nat.two_pow_pos _), Nat.div_eq_of_lt (packFields_lt ns vs), Nat.add_zero, Nat.mod_mod]
  | succ i ih =>
    match ns, vs with
    | [], _ => simp [Nat.mod_one]
    | _ :: _, [] => simp [packFields]
    | n :: ns, v :: vs =>
      obtain ⟨m, hm⟩ := sum_eq_drop_add ns i
      simp only [packFields, List.drop_succ_cons, List.getD_cons_succ]
      rw [hm, Nat.pow_add, Nat.pow_add, Nat.mul_left_comm, Nat.mul_add_div (Nat.two_pow_pos _), Nat.mul_left_comm, Nat.mul_add_mod, ih]

/-! ### Headers (R169) -/

/-- The widths of a header's fields from bit 255 down; bits 35 to 0 are zero. -/
def headerWidths : List Nat := [64, 3, 6, 1, 1, 1, 4, 4, 3, 3, 3, 3, 11, 11, 6, 4, 8, 4, 48, 32, 36]

def Header.values (h : Header) : List Nat :=
  [h.codes, h.start, h.hop, b2n h.turned, b2n h.order, b2n h.express, h.op, h.svc, h.tenant, h.mclass, h.sport, h.dport, h.src, h.dst, h.tag, h.gen,
    h.size, h.length, h.addr, h.crc, 0]

theorem b2n_mod_two (b : Bool) : b2n b % 2 ^ 1 = b2n b := by cases b <;> rfl

theorem Header.word_eq_packFields (h : Header) : h.word = packFields headerWidths h.values := by
  simp only [Header.word, headerWidths, Header.values, packFields, b2n_mod_two, List.sum_cons, List.sum_nil]
  omega

/-- A field of a header, by its place in the list. -/
theorem Header.bits_word (h : Header) (hi lo i : Nat) (hlo : (headerWidths.drop (i + 1)).sum = lo) (hhi : headerWidths.getD i 0 = hi + 1 - lo)
    (hv : h.values.getD i 0 < 2 ^ headerWidths.getD i 0) : bits h.word hi lo = h.values.getD i 0 := by
  rw [bits, h.word_eq_packFields, ← hhi, ← hlo, packFields_at, Nat.mod_eq_of_lt hv]

/-- The fields of a header fit the bits that R169 gives them. -/
structure Header.InRange (h : Header) : Prop where
  codes : h.codes < 2 ^ 64
  start : h.start < 8
  hop : h.hop < 64
  op : h.op < 16
  svc : h.svc < 16
  tenant : h.tenant < 8
  mclass : h.mclass < 8
  sport : h.sport < 8
  dport : h.dport < 8
  src : h.src < 2048
  dst : h.dst < 2048
  tag : h.tag < 64
  gen : h.gen < 16
  size : h.size < 256
  length : h.length < 16
  addr : h.addr < 2 ^ 48
  crc : h.crc < 2 ^ 32

theorem b2n_lt_two (b : Bool) : b2n b < 2 ^ 1 := by cases b <;> decide

theorem decide_b2n (b : Bool) : decide (b2n b = 1) = b := by cases b <;> rfl

/-- A header in range is read back from its word. -/
theorem headerOf_word {h : Header} (hr : h.InRange) : headerOf h.word = h := by
  simp only [headerOf, bitAt_eq_bits, Header.values, List.getD_cons_succ, List.getD_cons_zero, decide_b2n, h.bits_word 255 192 0 rfl rfl hr.codes,
    h.bits_word 191 189 1 rfl rfl hr.start, h.bits_word 188 183 2 rfl rfl hr.hop, h.bits_word 182 182 3 rfl rfl (b2n_lt_two _),
    h.bits_word 181 181 4 rfl rfl (b2n_lt_two _), h.bits_word 180 180 5 rfl rfl (b2n_lt_two _), h.bits_word 179 176 6 rfl rfl hr.op,
    h.bits_word 175 172 7 rfl rfl hr.svc, h.bits_word 171 169 8 rfl rfl hr.tenant, h.bits_word 168 166 9 rfl rfl hr.mclass,
    h.bits_word 165 163 10 rfl rfl hr.sport, h.bits_word 162 160 11 rfl rfl hr.dport, h.bits_word 159 149 12 rfl rfl hr.src,
    h.bits_word 148 138 13 rfl rfl hr.dst, h.bits_word 137 132 14 rfl rfl hr.tag, h.bits_word 131 128 15 rfl rfl hr.gen,
    h.bits_word 127 120 16 rfl rfl hr.size, h.bits_word 119 116 17 rfl rfl hr.length, h.bits_word 115 68 18 rfl rfl hr.addr,
    h.bits_word 67 36 19 rfl rfl hr.crc]

theorem Header.word_lt (h : Header) : h.word < 2 ^ 256 := by
  rw [h.word_eq_packFields]
  exact packFields_lt headerWidths h.values

/-- A header lies in the low 256 bits of its flit. -/
theorem headerOf_congr {f g : Nat} (h : ∀ hi lo, hi < 256 → bits f hi lo = bits g hi lo) : headerOf f = headerOf g := by
  simp only [headerOf, bitAt_eq_bits, h, Nat.reduceLT]

/-! ### Flits (R168) -/

theorem setBits_mod {w lo v : Nat} (hi : Nat) (h : lo ≤ hi + 1) : setBits w hi lo v % 2 ^ lo = w % 2 ^ lo := by
  have hsplit : (2 : Nat) ^ (hi + 1) = 2 ^ (hi + 1 - lo) * 2 ^ lo := by rw [← Nat.pow_add, Nat.sub_add_cancel h]
  rw [setBits, hsplit, ← Nat.mul_assoc, ← Nat.add_mul, Nat.mul_add_mod_self_right, Nat.mod_mod]

theorem setBits_div {w lo v : Nat} (hi : Nat) (h : lo ≤ hi + 1) : setBits w hi lo v / 2 ^ (hi + 1) = w / 2 ^ (hi + 1) := by
  have hlow : v % 2 ^ (hi + 1 - lo) * 2 ^ lo + w % 2 ^ lo < 2 ^ (hi + 1) := by
    have hv : v % 2 ^ (hi + 1 - lo) + 1 ≤ 2 ^ (hi + 1 - lo) := Nat.mod_lt _ (Nat.two_pow_pos _)
    have hw : w % 2 ^ lo < 2 ^ lo := Nat.mod_lt _ (Nat.two_pow_pos _)
    calc v % 2 ^ (hi + 1 - lo) * 2 ^ lo + w % 2 ^ lo < (v % 2 ^ (hi + 1 - lo) + 1) * 2 ^ lo := by rw [Nat.add_mul, Nat.one_mul]; omega
      _ ≤ 2 ^ (hi + 1 - lo) * 2 ^ lo := Nat.mul_le_mul_right _ hv
      _ = 2 ^ (hi + 1) := by rw [← Nat.pow_add, Nat.sub_add_cancel h]
  rw [setBits, Nat.add_assoc, Nat.mul_comm (w / 2 ^ (hi + 1)), Nat.mul_add_div (Nat.two_pow_pos _), Nat.div_eq_of_lt hlow, Nat.add_zero]

/-- CHECK lies above a flit's payload. -/
theorem withCheck_mod (f : Nat) : withCheck f % 2 ^ 256 = f % 2 ^ 256 := setBits_mod 265 (by decide)

/-- CHECK lies below a flit's sideband. -/
theorem withCheck_div (f : Nat) : withCheck f / 2 ^ (265 + 1) = f / 2 ^ (265 + 1) := setBits_div 265 (by decide)

/-- The low bits of a flit of kind `k` on virtual channel `vc` are its payload. -/
theorem bits_flit {hi lo : Nat} (k vc w : Nat) (h : hi < 256) :
    bits (BitVec.ofNat 288 (withCheck (k * 2 ^ 286 + vc * 2 ^ 283 + w))).toNat hi lo = bits w hi lo := by
  rw [bits_ofNat _ (by omega), ← bits_mod_two_pow _ h, withCheck_mod, bits_mod_two_pow _ h, Nat.add_assoc,
    bits_mul_add _ _ (by omega), bits_mul_add _ _ (by omega)]

/-- The virtual channel of a flit lies above its payload. -/
theorem flitVc_flit {vc w : Nat} (k : Nat) (hvc : vc < 8) (hw : w < 2 ^ 256) :
    flitVc (BitVec.ofNat 288 (withCheck (k * 2 ^ 286 + vc * 2 ^ 283 + w))).toNat = vc := by
  have hhigh (f : Nat) : bits (withCheck f) 285 283 = bits f 285 283 := by
    have hpow : (2 : Nat) ^ 283 = 2 ^ (265 + 1) * 2 ^ 17 := Nat.pow_add 2 (265 + 1) 17
    rw [bits, bits, hpow, ← Nat.div_div_eq_div_mul, ← Nat.div_div_eq_div_mul, withCheck_div]
  have hlow : w < 2 ^ 283 := lt_of_lt_of_le hw (Nat.pow_le_pow_right (by decide) (by decide))
  rw [flitVc, bits_ofNat _ (by decide), hhigh, Nat.add_assoc, bits_mul_add _ _ (by decide), bits,
    Nat.mul_comm, Nat.mul_add_div (Nat.two_pow_pos _), Nat.div_eq_of_lt hlow, Nat.add_zero]
  exact Nat.mod_eq_of_lt hvc

theorem crcStep_lt (c : Nat) (b : Bool) : crcStep c b < 2 ^ 32 := by
  have hc : c * 2 % 2 ^ 32 < 2 ^ 32 := Nat.mod_lt _ (by decide)
  rw [crcStep]
  split
  · exact Nat.xor_lt_two_pow hc (by decide)
  · exact hc

theorem crc32_lt (l : List Byte) : crc32 l < 2 ^ 32 := by
  have hbits (l : List Bool) (c : Nat) (hc : c < 2 ^ 32) : l.foldl crcStep c < 2 ^ 32 := by
    induction l generalizing c with
    | nil => exact hc
    | cons b l ih => exact ih _ (crcStep_lt c b)
  have hbytes (c : Nat) (hc : c < 2 ^ 32) : l.foldl (fun c b => (byteBits b).foldl crcStep c) c < 2 ^ 32 := by
    induction l generalizing c with
    | nil => exact hc
    | cons b l ih => exact ih _ (hbits _ c hc)
  exact Nat.xor_lt_two_pow (hbytes _ (by decide)) (by decide)

/-! ### Payloads (R169) -/

theorem leBytes_mod (n v : Nat) : leBytes n (v % 256 ^ n) = leBytes n v := by
  induction n generalizing v with
  | zero => rfl
  | succ n ih =>
    have hlow : v % 256 ^ (n + 1) % 256 = v % 256 := Nat.mod_mod_of_dvd _ ⟨256 ^ n, Nat.pow_succ'⟩
    have hhigh : v % 256 ^ (n + 1) / 256 = v / 256 % 256 ^ n := by rw [Nat.pow_succ', Nat.mod_mul_right_div_self]
    have hbyte : BitVec.ofNat 8 (v % 256 ^ (n + 1)) = BitVec.ofNat 8 v := BitVec.eq_of_toNat_eq (by simp [hlow])
    rw [leBytes, leBytes, hhigh, ih, hbyte]

theorem leBytes_leNat (l : List Byte) : leBytes l.length (leNat l) = l := by
  induction l with
  | nil => rfl
  | cons b l ih =>
    have hlow : BitVec.ofNat 8 (b.toNat + 256 * leNat l) = b := BitVec.eq_of_toNat_eq (by simp; omega)
    have hhigh : (b.toNat + 256 * leNat l) / 256 = leNat l := by have := b.isLt; omega
    rw [List.length_cons, leNat, leBytes, hlow, hhigh, ih]

section
variable {α : Type} (d : α) (l : List α)

@[simp] theorem length_slice (i n : Nat) : (slice d l i n).length = n := by
  simp [slice]

/-- A slice holds the elements from its position on, and the default beyond the list. -/
theorem slice_eq_map (i n : Nat) : slice d l i n = (List.range n).map (fun k => l.getD (i + k) d) := by
  apply List.ext_getElem (by simp)
  intro k hk _
  rw [length_slice] at hk
  have hin : k < ((l.drop i).take n).length ↔ i + k < l.length := by simp; omega
  by_cases hlt : i + k < l.length
  · simp [slice, List.getElem_append_left (hin.mpr hlt), hlt]
  · simp [slice, List.getElem_append_right (Nat.not_lt.mp (mt hin.mp hlt)), Nat.not_lt.mp hlt]

/-- Slices one after the other. -/
theorem slice_add (i m n : Nat) : slice d l i (m + n) = slice d l i m ++ slice d l (i + m) n := by
  simp [slice_eq_map, List.range_add, Nat.add_assoc]

theorem flatMap_slice (m n : Nat) : (List.range n).flatMap (fun f => slice d l (m * f) m) = slice d l 0 (m * n) := by
  induction n with
  | zero => simp [slice]
  | succ n ih => rw [List.range_succ, List.flatMap_append, ih, Nat.mul_succ, slice_add]; simp

theorem slice_slice {n k : Nat} (h : k ≤ n) : slice d (slice d l 0 n) 0 k = slice d l 0 k := by
  obtain ⟨m, rfl⟩ := Nat.exists_eq_add_of_le h
  have hleft (a b : List α) : slice d (a ++ b) 0 a.length = a := by simp [slice]
  have hk := hleft (slice d l 0 k) (slice d l (0 + k) m)
  rwa [length_slice, ← slice_add] at hk

theorem slice_length : slice d l 0 l.length = l := by
  simp [slice]

end

/-- A flit carries 32 bytes of its packet's payload. -/
theorem leBytes_flit (k vc : Nat) (data : List Byte) (f : Nat) :
    leBytes 32 (BitVec.ofNat 288 (withCheck (k * 2 ^ 286 + vc * 2 ^ 283 + payFlit data f))).toNat = slice 0#8 data (32 * f) 32 := by
  have hbytes := leBytes_leNat (slice 0#8 data (32 * f) 32)
  rw [length_slice] at hbytes
  have hlow := bits_flit (hi := 255) (lo := 0) k vc (payFlit data f) (by decide)
  simp only [bits, Nat.pow_zero, Nat.div_one] at hlow
  calc leBytes 32 (BitVec.ofNat 288 (withCheck (k * 2 ^ 286 + vc * 2 ^ 283 + payFlit data f))).toNat
      _ = leBytes 32 (payFlit data f % 256 ^ 32) := by rw [← leBytes_mod]; exact congrArg (leBytes 32) hlow
      _ = slice 0#8 data (32 * f) 32 := by rw [leBytes_mod]; exact hbytes

theorem ceilDiv_le {n k : Nat} (h : n ≤ 32 * k) : ceilDiv n 32 ≤ k := by
  rw [ceilDiv]
  omega

theorem le_ceilDiv (n : Nat) : n ≤ 32 * ceilDiv n 32 := by
  rw [ceilDiv]
  omega

/-- The head flit of a packet carries its header, with the payload's length and CRC, and its virtual channel (R168, R169). -/
theorem headerOf_mkPacket {h : Header} {vc : Nat} {data : List Byte}
    (hr : { h with length := ceilDiv data.length 32, crc := if ceilDiv data.length 32 = 0 then 0 else crc32 data }.InRange) (hvc : vc < 8) :
    headerOf ((mkPacket h vc data).headD 0).toNat =
        { h with length := ceilDiv data.length 32, crc := if ceilDiv data.length 32 = 0 then 0 else crc32 data } ∧
      flitVc ((mkPacket h vc data).headD 0).toNat = vc :=
  ⟨(headerOf_congr (fun _ _ hhi => bits_flit _ _ _ hhi)).trans (headerOf_word hr), flitVc_flit _ hvc (Header.word_lt _)⟩

theorem mkPacket_tail (h : Header) (vc : Nat) (data : List Byte) :
    (mkPacket h vc data).drop 1 = (List.range (ceilDiv data.length 32)).map (fun f =>
      BitVec.ofNat 288 (withCheck ((if f + 1 = ceilDiv data.length 32 then 2 else 1) * 2 ^ 286 + vc * 2 ^ 283 + payFlit data f))) := by
  rw [mkPacket, List.drop_succ_cons, List.drop_zero]

theorem flitBytes_map {ι : Type} (g : ι → BitVec 288) (l : List ι) :
    flitBytes ((l.map g).map BitVec.toNat) = l.flatMap (fun f => leBytes 32 (g f).toNat) := by
  simp [flitBytes, List.flatMap_map]

/-- The data flits of a packet bring its payload. -/
theorem flitBytes_mkPacket (h : Header) (vc : Nat) (data : List Byte) :
    slice 0#8 (flitBytes (((mkPacket h vc data).drop 1).map BitVec.toNat)) 0 data.length = data := by
  have hall : flitBytes (((mkPacket h vc data).drop 1).map BitVec.toNat) = slice 0#8 data 0 (32 * ceilDiv data.length 32) := by
    rw [mkPacket_tail, flitBytes_map, ← flatMap_slice]
    simp only [leBytes_flit]
  rw [hall, slice_slice _ _ (le_ceilDiv _), slice_length]

end Sys2Proof.Machine

/-! SUPPORT. What a network interface does with a request of the fabric, with a response, and with a request through the fabric port window (R165–R167,
R175, R178, R182, R184, R535). -/

namespace Sys2Proof.Machine

/-! ### Requests of the fabric (R165–R167, R178) -/

/-- The first beat of a request on RQO: the last one of a short request ends it, and a longer one waits for the next (R167). -/
theorem exec_rqoRequest_first {t : Tile} {rid : Byte} {op : Fin 5} {a : NetAddr} {size : Fin 256} {rt : Bool} {data : List Byte} {join : Bool}
    {s u : State} (hrun : s.portRuns t .ni 0 = true) (hedge : s.portEdge t .ni 0 join = u)
    (hvalid : u.preEdge.senseBit t .ni .rqoValid 0 true = true) (hroom : u.preEdge.rqoRoom t = true) (hfirst : (u.preEdge.ni t).rqo = none) :
    exec (.rqoRequest t rid op a size rt data join) s = .next (
      let p := u.preEdge
      let r := p.rqoReq t op a size rt
      let id := p.sense t .ni .rqoRid 8 rid.toNat
      let d := p.beat t .rqoData (payloadLen r.op r.size) data
      if 32 < payloadLen r.op r.size then u.setNi t { u.ni t with rqo := some (id, r, d) }
      else State.rqoEnd (u.setNi t { u.ni t with rqo := none }) t id { r with data := d }) := by
  subst hedge
  change execRqoRequest t rid op a size rt data join s = _
  simp [execRqoRequest, hrun, hvalid, hroom, hfirst]

/-- A shut interface answers its fabric FENCED (R40, R53). -/
theorem State.rqoEnd_shut {s : State} {t : Nat} (id : Nat) (r : Req) (h : s.niShut t = true) :
    s.rqoEnd t id r = s.rsiPush t id svcFenced [] false := by
  simp [State.rqoEnd, h]

/-- What the interface answers itself comes back on RSI (R165, R166, R175). -/
theorem State.rqoEnd_answered {s : State} {t id code : Nat} {r : Req} (hopen : s.niShut t = false) (h : s.issue (.fabric id) r = (s, some code))
    (hcode : code ≠ 0) : s.rqoEnd t id r = s.rsiPush t id code [] false := by
  simp [State.rqoEnd, hopen, h, hcode]

/-- A request that is sent leaves nothing on RSI. -/
theorem State.rqoEnd_sent {s u : State} {t id : Nat} {r : Req} (hopen : s.niShut t = false) (h : s.issue (.fabric id) r = (u, some 0)) :
    s.rqoEnd t id r = u := by
  simp [State.rqoEnd, hopen, h]

section
variable {s : State} {w : Who} {r : Req} {dst dport : Nat} (hdst : s.decodeDst (niOf r.src / 256) r.addr = some (dst, dport))
include hdst

theorem State.issue_misshapen (hshape : reqShape r.op r.addr r.size = false) : s.issue w r = (s, some svcAddress) := by
  simp [State.issue_decoded hdst, State.issueTo, hshape, svcAddress]

theorem State.issue_unroutable (hshape : reqShape r.op r.addr r.size = true) (hroute : s.routed r.src dst = false) :
    s.issue w r = (s, some svcUnroutable) := by
  simp [State.issue_decoded hdst, State.issueTo, hshape, hroute, svcUnroutable]

theorem State.issue_sent (hshape : reqShape r.op r.addr r.size = true) (hroute : s.routed r.src dst = true) (htag : s.hasTag r = true) :
    s.issue w r = (s.sendReq w r dst dport, some 0) := by
  simp [State.issue_decoded hdst, State.issueTo, hshape, hroute, htag]

end

/-! ### Responses and timeouts (R40, R182, R184) -/

/-- A response that the interface does not hold goes to its source. -/
theorem exec_responseArrival_delivered {s : State} {r : Resp} (late : Bool) (hin : s.net.resps.contains r = true) (hfree : s.holds r = false) :
    exec (.responseArrival r late) s = .next (s.deliverResp r late) := by
  change execResponseArrival r late s = _
  simp only [execResponseArrival, hin, hfree, Bool.not_true, Bool.false_and, Bool.false_eq_true, if_false]

theorem State.deliverResp_late {s : State} {r : Resp} (late : Bool) (h : s.findOut r.src r.sport r.tag r.gen = none) :
    s.deliverResp r late = State.count (s.takeResp r) F.niErrors_lateRsp (niOf r.src) 0 1 := by
  have h' : (s.takeResp r).findOut r.src r.sport r.tag r.gen = none := h
  simp only [State.deliverResp, State.arrive, h']

theorem State.deliverResp_intact {s : State} {r : Resp} {o : Outst} (late : Bool) (h : s.findOut r.src r.sport r.tag r.gen = some o)
    (hcrc : r.crcOk = true) :
    s.deliverResp r late = (State.retire (s.takeResp r) o).finishReq o r.svc r.data r.poison late false := by
  have h' : (s.takeResp r).findOut r.src r.sport r.tag r.gen = some o := h
  simp only [State.deliverResp, State.arrive, h', hcrc, if_true]

/-- A held response of an outstanding request is kept once. -/
theorem exec_responseArrival_kept {s : State} {r : Resp} {o : Outst} (late : Bool) (hin : s.net.resps.contains r = true) (hheld : s.holds r = true)
    (hout : s.findOut r.src r.sport r.tag r.gen = some o) (hnew : s.isKept r.src r.tag r.gen = false) :
    exec (.responseArrival r late) s = .next ((s.takeResp r).keep r) := by
  change execResponseArrival r late s = _
  simp [execResponseArrival, List.contains_iff_mem.mp hin, hheld, hout, hnew]

section
variable {src : Fin 1088} {sport : Fin 8} {tag : Fin 128} {gen : Fin 16} {s : State} {o : Outst} (late : Bool)
  (hout : s.findOut src sport tag gen = some o) (hnew : s.isKept src tag gen = false)
include hout hnew

/-- A timeout that the interface does not hold completes the request with TIMEOUT. -/
theorem exec_niTimeout_ends (hfree : s.holds ⟨src, sport, tag, gen, svcTimeout, [], false, true⟩ = false) :
    exec (.niTimeout src sport tag gen late) s =
      .next ((State.count (s.retire o) F.niErrors_timeouts (niOf o.req.src) 0 1).finishReq o svcTimeout [] false late true) := by
  change execNiTimeout src sport tag gen late s = _
  simp [execNiTimeout, hout, hnew, hfree, State.timeOut]

/-- A timeout that the interface holds is counted, and kept as a response (R40). -/
theorem exec_niTimeout_kept (hheld : s.holds ⟨src, sport, tag, gen, svcTimeout, [], false, true⟩ = true) :
    exec (.niTimeout src sport tag gen late) s =
      .next ((s.count F.niErrors_timeouts src 0 1).keep ⟨src, sport, tag, gen, svcTimeout, [], false, true⟩) := by
  change execNiTimeout src sport tag gen late s = _
  simp [execNiTimeout, hout, hnew, hheld]

end

/-- In HOLD an interface that does not sink holds its tile's responses (R40). -/
theorem State.holds_of_hold {s : State} {r : Resp} (hmode : s.pw.mode = .hold) (hport : r.sport = 0) (hsrc : r.src < 1024)
    (hsink : s.niSinks r.src = false) : s.holds r = true := by
  simp [State.holds, State.inHold, hmode, hport, hsrc, hsink]

/-! ### The fabric port window and its responses (R167, R535) -/

/-- An intact request at a reserved offset of the window is answered ADDRESS_ERROR (R31, R535). -/
theorem exec_fabricWindowRequest_reserved {r : Req} {s : State} {t o : Nat} (hat : aperture r.addr = some (t, o)) (hlo : 0x200000 ≤ o)
    (hhi : o < 0x800000) (hin : s.net.reqs.contains r = true) (hcrc : r.crcOk = true) :
    exec (.fabricWindowRequest r) s = .next ((s.takeReq r).respond r svcAddress []) := by
  change execFabricWindowRequest r s = _
  simp [execFabricWindowRequest, hat, List.contains_iff_mem.mp hin, hcrc, hhi, Nat.not_lt.mpr hlo]

/-- A granted request is held under the lowest free TID. -/
theorem exec_fabricWindowRequest_held {r : Req} {s : State} {t o tid : Nat} (hat : aperture r.addr = some (t, o)) (hlo : 0x800000 ≤ o)
    (hin : s.net.reqs.contains r = true) (hcrc : r.crcOk = true) (hreach : s.mayReach r.rq t = true) (hopen : s.niFenced t = false)
    (hrun : s.inHold = false) (hon : (s.tcfg t).tqiOn = true) (htid : freeTid (s.ni t).tqi = some tid) :
    exec (.fabricWindowRequest r) s = .next ((s.takeReq r).setNi t { s.ni t with tqi := (s.ni t).tqi ++ [⟨tid, r, false, 0⟩] }) := by
  have hlow : ¬ o < 0x200000 := by omega
  have hreach' : (s.takeReq r).mayReach r.rq t = true := hreach
  have hopen' : (s.takeReq r).niFenced t = false := hopen
  have hrun' : (s.takeReq r).inHold = false := hrun
  have hon' : ((s.takeReq r).tcfg t).tqiOn = true := hon
  have htid' : freeTid ((s.takeReq r).ni t).tqi = some tid := htid
  change execFabricWindowRequest r s = _
  simp [execFabricWindowRequest, hat, List.contains_iff_mem.mp hin, hcrc, hlow, Nat.not_lt.mpr hlo, hreach', hopen', hrun', hon', htid']
  rfl

/-- The first beat of a short response on TSO ends it (R167). -/
theorem exec_tsoResponse_short {t : Tile} {tid : Fin 32} {svc : Fin 11} {data : List Byte} {join : Bool} {s u : State}
    (hrun : s.portRuns t .ni 0 = true) (hedge : s.portEdge t .ni 0 join = u) (hvalid : u.preEdge.senseBit t .ni .tsoValid 0 true = true)
    (hfirst : (u.preEdge.ni t).tso = none) (hshort : u.preEdge.tsoLen t (u.preEdge.sense t .ni .tsoTid 5 tid) ≤ 32) :
    exec (.tsoResponse t tid svc data join) s = .next (
      let p := u.preEdge
      let id := p.sense t .ni .tsoTid 5 tid
      State.tsoEnd (u.setNi t { u.ni t with tso := none }) t id (p.tsoCode t svc) (p.beat t .tsoData (p.tsoLen t id) data)) := by
  subst hedge
  change execTsoResponse t tid svc data join s = _
  simp [execTsoResponse, hrun, hvalid, hfirst, Nat.not_lt.mpr hshort]

theorem State.tsoEnd_held {s : State} {t tid : Nat} {q : Tqi} (code : Nat) (data : List Byte)
    (h : (s.ni t).tqi.find? (fun q => q.tid = tid) = some q) :
    s.tsoEnd t tid code data = (s.setNi t { s.ni t with tqi := (s.ni t).tqi.erase q }).respond q.req code (respData q.req data) := by
  simp only [State.tsoEnd, h]

theorem State.tsoEnd_unknown {s : State} {t tid : Nat} (code : Nat) (data : List Byte)
    (h : (s.ni t).tqi.find? (fun q => q.tid = tid) = none) : s.tsoEnd t tid code data = s.count F.niErrors_badTid t 0 1 := by
  simp only [State.tsoEnd, h]

/-! ### Route tables (R188) -/

/-- ROUTE_CTL with no staged code keeps the codes of the entry. -/
theorem State.writeTile_routeCtl_unstaged {s : State} {t j : Nat} (v : Nat) (hlo : tget 0 (s.ni t).stageLo j = 0)
    (hhi : tget 0 (s.ni t).stageHi j = 0) :
    s.writeTile .routeCtl t j v = (s.putRoute t j (s.route t j).1 (s.route t j).2.1 (Rg.routeCtl.written 0 v)).setNi t
      { s.ni t with stageLo := tput 0 (s.ni t).stageLo j 0, stageHi := tput 0 (s.ni t).stageHi j 0 } := by
  simp only [State.writeTile, hlo, hhi, if_true]

/-- ROUTE_CTL_WRITE serves a granted write as every register's row does (R31). -/
theorem exec_routeCtlWrite_granted {r : Req} {s : State} {t j v : Nat} (h : s.grantsWrite r .routeCtl t j v) :
    exec (.routeCtlWrite r) s = .next (State.respond ((s.takeReq r).writeTile .routeCtl t j v) r svcOK []) :=
  regRow_tile h rfl rfl

/-- Settles O22: what a request on RQO, a response, a timeout, a register write and a request through the window does, by the lemmas of each; a packet is
read back from its bits. -/
theorem networkInterface : Obligations.NetworkInterface := by
  unfold Obligations.NetworkInterface
  refine ⟨?short, ?long, ?shut, ?answered, ?sent, ?lateResponse, ?response, ?keptResponse, ?timeout, ?keptTimeout, ?registerWrite, ?routeCtl, ?held,
    ?reserved, ?tso, ?tsoHeld, ?tsoUnknown, ?header, ?payload⟩
  case short =>
    intro t rid op a size rt data join s u p r hrun hedge hp hvalid hroom hfirst hr hlen
    subst hp hr
    rw [exec_rqoRequest_first hrun hedge hvalid hroom hfirst]
    exact congrArg Host.Outcome.next (if_neg (Nat.not_lt.mpr hlen))
  case long =>
    intro t rid op a size rt data join s u p r hrun hedge hp hvalid hroom hfirst hr hlen
    subst hp hr
    rw [exec_rqoRequest_first hrun hedge hvalid hroom hfirst]
    exact congrArg Host.Outcome.next (if_pos hlen)
  case shut => exact fun t id r s hshut => State.rqoEnd_shut id r hshut
  case answered =>
    rintro t id r s code hopen (⟨hdst, rfl⟩ | ⟨dst, dport, hdst, hshape, rfl⟩ | ⟨dst, dport, hdst, hshape, hroute, rfl⟩)
    · exact State.rqoEnd_answered hopen (State.issue_nowhere hdst) (by decide)
    · exact State.rqoEnd_answered hopen (State.issue_misshapen hdst hshape) (by decide)
    · exact State.rqoEnd_answered hopen (State.issue_unroutable hdst hshape hroute) (by decide)
  case sent =>
    intro t id dst dport r s hopen hdst hshape hroute htag
    exact State.rqoEnd_sent hopen (State.issue_sent hdst hshape hroute htag)
  case lateResponse =>
    intro r late s hin hfree hout
    rw [exec_responseArrival_delivered late hin hfree, State.deliverResp_late late hout]
  case response =>
    intro r late s o hin hfree hout hcrc
    rw [exec_responseArrival_delivered late hin hfree, State.deliverResp_intact late hout hcrc]
  case keptResponse => exact fun r late s o hin hheld hout hnew => exec_responseArrival_kept late hin hheld hout hnew
  case timeout => exact fun src sport tag gen late s o hout hfree hnew => exec_niTimeout_ends late hout hnew hfree
  case keptTimeout =>
    intro src tag gen late s o hout hmode hsrc hsink hnew
    exact exec_niTimeout_kept late hout hnew (State.holds_of_hold hmode rfl hsrc hsink)
  case registerWrite =>
    intro r s g i j v h hlo hhi
    rw [exec_registerWrite s hlo hhi, State.serveReg_grantsWrite h]
  case routeCtl =>
    intro r s t j v h hlo hhi
    rw [exec_routeCtlWrite_granted h, State.writeTile_routeCtl_unstaged (s := s.takeReq r) v hlo hhi]
    rfl
  case held =>
    intro r s t o tid hat hlo hin hcrc hreach hopen hrun hon htid
    exact exec_fabricWindowRequest_held hat hlo hin hcrc hreach hopen hrun hon htid
  case reserved => exact fun r s t o hat hlo hhi hin hcrc => exec_fabricWindowRequest_reserved hat hlo hhi hin hcrc
  case tso =>
    intro t tid svc data join s u p hrun hedge hp hvalid hfirst hshort
    subst hp
    exact exec_tsoResponse_short hrun hedge hvalid hfirst hshort
  case tsoHeld => exact fun t tid code data s q hq => State.tsoEnd_held code data hq
  case tsoUnknown => exact fun t tid code data s hq => State.tsoEnd_unknown code data hq
  case header =>
    intro h vc data hcodes hstart hhop hop hsvc htenant hmclass hsport hdport hsrc hdst htag hgen hsize haddr hvc hlen
    have hflits : ceilDiv data.length 32 < 16 := Nat.lt_succ_of_le (ceilDiv_le (by omega))
    have hcrc : (if ceilDiv data.length 32 = 0 then 0 else crc32 data) < 2 ^ 32 := by
      split
      · decide
      · exact crc32_lt data
    exact headerOf_mkPacket ⟨hcodes, hstart, hhop, hop, hsvc, htenant, hmclass, hsport, hdport, hsrc, hdst, htag, hgen, hsize, hflits, haddr, hcrc⟩ hvc
  case payload => exact fun h vc data _ _ => flitBytes_mkPacket h vc data

end Sys2Proof.Machine

/-! SUPPORT. What an edge at the fabric's clocks leaves as it was. The hard ports of a tile (R202, R204, R210, R211, R264) keep the fabric, memory and the
queue of commands; they keep the registers too where no queue has a notice to give. Seam flip-flops and crossing primitives change nothing else. -/

namespace Sys2Proof.Machine

/-! ### Repetition and tables -/

theorem iter_succ {σ : Type} (n : Nat) (f : Nat → σ → σ) (s : σ) : iter (n + 1) f s = f n (iter n f s) := by
  simp [iter, List.range_succ]

/-- What holds at first, and passes from each step to the next, holds at the end. -/
theorem iter_induction {σ : Type} {f : Nat → σ → σ} {s : σ} (P : Nat → σ → Prop) (n : Nat) (h0 : P 0 s)
    (hstep : ∀ i u, i < n → P i u → P (i + 1) (f i u)) : P n (iter n f s) := by
  induction n with
  | zero => exact h0
  | succ n ih =>
    rw [iter_succ]
    exact hstep n _ (Nat.lt_succ_self n) (ih (fun i u hi => hstep i u (Nat.lt_succ_of_lt hi)))

/-- Removing a key leaves those above it, whatever the table. -/
theorem tget_tdel_above {α : Type} (e : α) (t : Tbl α) {i j : Nat} (h : i < j) : tget e (tdel t i) j = tget e t j := by
  induction t with
  | nil => rfl
  | cons x t ih =>
    obtain ⟨k, u⟩ := x
    by_cases h1 : i = k
    · subst h1
      simp [tdel, tget, h.ne', h.not_gt]
    · by_cases h2 : i < k
      · simp [tdel, h1, h2]
      · simp [tdel, tget, h1, h2, ih]

/-- Writing a key leaves those above it, whatever the table. -/
theorem tget_tput_above {α : Type} [DecidableEq α] (e e' : α) (t : Tbl α) {i j : Nat} (v : α) (h : i < j) :
    tget e (tput e' t i v) j = tget e t j := by
  rw [tput]
  split
  · exact tget_tdel_above e t h
  · exact tget_tins_other e t i j v h.ne'

/-! ### What the hard ports keep -/

/-- The fabric but for the record of the edge, memory, and the queue of waiting commands. -/
def State.fabricFrame (s : State) : Fabric × Hbm × List Instr := ({ s.fab with before := none }, s.hbm, s.pending)

@[simp] theorem State.setF_fabricFrame (s : State) (f : FRef) (i j v : Nat) : (s.setF f i j v).fabricFrame = s.fabricFrame := (rfl)
@[simp] theorem State.count_fabricFrame (s : State) (f : FRef) (i j k : Nat) : (s.count f i j k).fabricFrame = s.fabricFrame := (rfl)
@[simp] theorem State.wrap_fabricFrame (s : State) (f : FRef) (i j k : Nat) : (s.wrap f i j k).fabricFrame = s.fabricFrame := (rfl)
@[simp] theorem State.setPQ_fabricFrame (s : State) (k : Nat) (q : PQ) : (s.setPQ k q).fabricFrame = s.fabricFrame := (rfl)
@[simp] theorem State.setBundle_fabricFrame (s : State) (k : Nat) (b : Bundle) : (s.setBundle k b).fabricFrame = s.fabricFrame := (rfl)
@[simp] theorem State.sendUnit_fabricFrame (s : State) (d p i typ pay : Nat) : (s.sendUnit d p i typ pay).fabricFrame = s.fabricFrame := by
  simp only [State.sendUnit, State.setBundle_fabricFrame]
@[simp] theorem State.engPend_fabricFrame (s : State) (t src : Nat) : (s.engPend t src).fabricFrame = s.fabricFrame := by
  simp only [State.engPend, State.setF_fabricFrame]

@[simp] theorem State.evForward_fabricFrame (s : State) (d : Nat) (via : Option Nat) (mask : Nat) :
    (s.evForward d via mask).fabricFrame = s.fabricFrame := by
  unfold State.evForward
  exact foldl_keeps State.fabricFrame _ (fun u p => u.sendUnit_fabricFrame d p 0x80 4 mask) _ s

@[simp] theorem State.evLost_fabricFrame (s : State) (d : Nat) : (s.evLost d).fabricFrame = s.fabricFrame := by
  have hcount (u : State) (n : Nat) : (if u.cutOff n then u else u.count F.seamCounts_eventsLost n 0 1).fabricFrame = u.fabricFrame := by
    split <;> simp
  unfold State.evLost
  split
  · rfl
  · exact foldl_keeps State.fabricFrame _ (fun u e => foldl_keeps State.fabricFrame _ hcount _ u) _ s

@[simp] theorem State.raiseEv_fabricFrame (s : State) (d tenant l : Nat) : (s.raiseEv d tenant l).fabricFrame = s.fabricFrame := by
  unfold State.raiseEv
  split
  · simp only [State.evLost_fabricFrame, State.evForward_fabricFrame]
    rfl
  · simp

@[simp] theorem State.qNotice_fabricFrame (s : State) (k : Nat) : (s.qNotice k).fabricFrame = s.fabricFrame := by
  simp [State.qNotice, apply_ite State.fabricFrame]

@[simp] theorem State.noticeEdge_fabricFrame (s : State) (k : Nat) : (s.noticeEdge k).fabricFrame = s.fabricFrame := by
  simp [State.noticeEdge, apply_ite State.fabricFrame]

/-- A queue without a notice to give raises none, and the queues after it keep theirs. -/
theorem State.noticeEdge_quiet {s : State} {k : Nat} (h : (s.pq k).notices = 0) :
    (s.noticeEdge k).regs = s.regs ∧ ∀ j, k < j → (s.noticeEdge k).pq j = s.pq j := by
  unfold State.noticeEdge
  simp only [h, ne_eq, not_true_eq_false, or_false, if_false]
  split
  · exact ⟨rfl, fun j hj => tget_tput_above _ _ _ _ hj⟩
  · exact ⟨rfl, fun _ _ => rfl⟩

theorem State.yEdge_keeps (s : State) (t : Nat) : ((s.yEdge t).pqs, (s.yEdge t).regs, (s.yEdge t).fabricFrame) = (s.pqs, s.regs, s.fabricFrame) := by
  unfold State.yEdge
  dsimp only
  split <;> rfl

theorem State.niEdge_keeps (s : State) (t : Nat) (a b : Bool) :
    ((s.niEdge t a b).pqs, (s.niEdge t a b).regs, (s.niEdge t a b).fabricFrame) = (s.pqs, s.regs, s.fabricFrame) := by
  unfold State.niEdge
  dsimp only
  repeat' split
  all_goals rfl

/-- What the hard ports but those of the queues keep: the queues, the registers and the fabric. -/
def State.portFrame (s : State) : Tbl PQ × Tbl Word32 × Fabric × Hbm × List Instr := (s.pqs, s.regs, s.fabricFrame)

@[simp] theorem State.recvEdge_portFrame (s : State) (k : Nat) : (s.recvEdge k).portFrame = s.portFrame := (rfl)
@[simp] theorem State.cntEdge_portFrame (s : State) (k : Nat) : (s.cntEdge k).portFrame = s.portFrame := (rfl)

@[simp] theorem State.yEdge_portFrame (s : State) (t : Nat) : (s.yEdge t).portFrame = s.portFrame := by
  unfold State.yEdge
  dsimp only
  split <;> rfl

@[simp] theorem State.niEdge_portFrame (s : State) (t : Nat) (a b : Bool) : (s.niEdge t a b).portFrame = s.portFrame := by
  unfold State.niEdge
  dsimp only
  repeat' split
  all_goals rfl

/-- The ports of the queues come last on an edge. -/
theorem State.portsEdge_notices (s : State) (t net : Nat) : ∃ (u : State) (on : Nat → State → Bool),
    s.portsEdge t net = iter 4 (fun n u => if on n u then u.noticeEdge (4 * t + n) else u) u ∧ u.portFrame = s.portFrame := by
  refine ⟨_, _, rfl, ?_⟩
  have hite (c : Bool) (f : State → State) (hf : ∀ u, (f u).portFrame = u.portFrame) (u : State) :
      (if c then f u else u).portFrame = u.portFrame := by
    split
    · exact hf u
    · rfl
  have hiter (n : Nat) (c : Nat → State → Bool) (f : Nat → State → State) (hf : ∀ i u, (f i u).portFrame = u.portFrame) (u : State) :
      (iter n (fun i u => if c i u then f i u else u) u).portFrame = u.portFrame :=
    iter_keeps State.portFrame n _ (fun i u => hite _ (f i) (hf i) u) u
  rw [hite _ _ (fun u => u.niEdge_portFrame t _ _), hite _ _ (fun u => u.yEdge_portFrame t), hiter 4 _ _ (fun k u => u.cntEdge_portFrame (4 * t + k)),
    hiter 8 _ _ (fun p u => u.recvEdge_portFrame (8 * t + p))]

theorem State.portsEdge_fabricFrame (s : State) (t net : Nat) : (s.portsEdge t net).fabricFrame = s.fabricFrame := by
  obtain ⟨u, on, heq, hu⟩ := s.portsEdge_notices t net
  have hnotice (n : Nat) (v : State) : (if on n v then v.noticeEdge (4 * t + n) else v).fabricFrame = v.fabricFrame := by
    split <;> simp
  rw [heq, iter_keeps State.fabricFrame 4 _ hnotice]
  exact congrArg (fun x => x.2.2) hu

/-- An edge at ports whose queues have no notice to give keeps every register. -/
theorem State.portsEdge_quiet {s : State} {t : Nat} (net : Nat) (h : ∀ q < 4, (s.pq (4 * t + q)).notices = 0) :
    (s.portsEdge t net).regs = s.regs := by
  obtain ⟨u, on, heq, hu⟩ := s.portsEdge_notices t net
  have hpqs : u.pqs = s.pqs := congrArg (·.1) hu
  have hregs : u.regs = s.regs := congrArg (·.2.1) hu
  rw [heq]
  refine (iter_induction (fun n (v : State) => v.regs = s.regs ∧ ∀ q < 4, n ≤ q → (v.pq (4 * t + q)).notices = 0) 4 ⟨hregs, ?start⟩ ?step).1
  case start =>
    intro q hq _
    rw [State.pq, hpqs]
    exact h q hq
  case step =>
    rintro n v hn ⟨hv, hquiet⟩
    split
    · obtain ⟨hr, hlater⟩ := State.noticeEdge_quiet (hquiet n hn (Nat.le_refl n))
      refine ⟨hr.trans hv, fun q hq hnq => ?_⟩
      rw [hlater (4 * t + q) (by omega)]
      exact hquiet q hq (Nat.le_of_succ_le hnq)
    · exact ⟨hv, fun q hq hnq => hquiet q hq (Nat.le_of_succ_le hnq)⟩

@[simp] theorem State.hardEdge_fabricFrame (s : State) (t net : Nat) : (s.hardEdge t net).fabricFrame = s.fabricFrame := by
  unfold State.hardEdge
  split
  · rfl
  · split
    · rfl
    · exact State.portsEdge_fabricFrame _ t net

theorem State.hardEdge_quiet {s : State} {t : Nat} (net : Nat) (h : ∀ q < 4, (s.pq (4 * t + q)).notices = 0) :
    (s.hardEdge t net).regs = s.regs := by
  unfold State.hardEdge
  split
  · rfl
  · split
    · rfl
    · exact State.portsEdge_quiet net h

/-! ### What begins an edge, and what crossings and seam flip-flops keep -/

theorem State.edgeStart_eq (s : State) (join : Bool) : ∃ b f, s.edgeStart join = { s with fab.before := b, free := f } := by
  unfold State.edgeStart
  split
  · exact ⟨_, _, rfl⟩
  · exact ⟨_, _, rfl⟩

theorem State.xingEdge_eq (s p : State) (ext : Wire → Bool) (t cluster net : Nat) (rise : Bool) :
    ∃ x, s.xingEdge p ext t cluster net rise = { s with fab.xings := x } := by
  let rest (u : State) : State := { u with fab.xings := [] }
  have hkeep : rest (s.xingEdge p ext t cluster net rise) = rest s := by
    refine foldl_keeps rest _ (fun u e => ?_) s.fab.xcfg s
    obtain ⟨k, c⟩ := e
    dsimp only
    split <;> split <;> rfl
  exact ⟨_, congrArg (fun u : State => { u with fab.xings := (s.xingEdge p ext t cluster net rise).fab.xings }) hkeep⟩

/-- The state with other seam flip-flops: what a seam edge leaves is the rest. -/
theorem State.seamEdge_eq (s p : State) (ext : Wire → Bool) (t net : Nat) : ∃ x, s.seamEdge p ext t net = { s with fab.seamFfs := x } := by
  let rest (u : State) : State := { u with fab.seamFfs := [] }
  have hkeep : rest (s.seamEdge p ext t net) = rest s := by
    refine foldl_keeps rest _ (fun u w => ?_) s.fab.seamCfg s
    dsimp only
    split
    · split <;> rfl
    · rfl
  exact ⟨_, congrArg (fun u : State => { u with fab.seamFfs := (s.seamEdge p ext t net).fab.seamFfs }) hkeep⟩

/-- The one seam wire of the fabric, with its flip-flop on the clock net, takes its line where its ends agree and it is not damaged (R122–R126). -/
theorem State.seamEdge_single {s : State} (p : State) (ext : Wire → Bool) {t net a n : Nat} {w : SeamWire} (hcfg : s.fab.seamCfg = [w])
    (hreg : w.reg = true) (harr : w.arrives = some (a, t, n)) (hclk : tget 0 s.fab.seamClk (w.key / 64) = net) (hagree : w.agrees a t = true)
    (hnamed : s.seams.named = []) :
    s.seamEdge p ext t net = { s with
      fab.seamFfs := tput false s.fab.seamFfs w.key
        (s.seamWireOn w.key && p.wire (p.netId t net) ext (.line w.line.1 w.line.2.1 w.line.2.2.1 w.line.2.2.2 n)) } := by
  simp [State.seamEdge, hcfg, harr, hreg, hclk, hagree, hnamed]

end Sys2Proof.Machine

/-! SUPPORT. The flip-flops of a cluster (R113, R114): what one write of a flip-flop does to the others, and a pass over the 32 of a cluster. -/

namespace Sys2Proof.Machine

/-! ### One flip-flop -/

theorem State.ff_setFf (s : State) (t k : Nat) (v : Bool) (w : Tbl.wf (fun _ => none) s.fab.ffs = true) : (s.setFf t k v).ff t k = v := by
  have hread := tget_tput_same (fun _ => none) s.fab.ffs (t * 24576 + k) (if v = (s.ffCfg t k).init then none else some v) w
  change (tget none (tput none s.fab.ffs (t * 24576 + k) (if v = (s.ffCfg t k).init then none else some v)) (t * 24576 + k)).getD
    (s.ffCfg t k).init = v
  rw [hread]
  split
  · next h => exact h.symm
  · rfl

theorem State.ff_setFf_other (s : State) (t : Nat) {k j : Nat} (v : Bool) (h : j ≠ k) (w : Tbl.wf (fun _ => none) s.fab.ffs = true) :
    (s.setFf t k v).ff t j = s.ff t j := by
  have hread := tget_tput_other (fun _ => none) none none s.fab.ffs (t * 24576 + k) (t * 24576 + j)
    (if v = (s.ffCfg t k).init then none else some v) (by omega) w
  exact congrArg (Option.getD · (s.ffCfg t j).init) hread

theorem State.wf_setFf (s : State) (t k : Nat) (v : Bool) (w : Tbl.wf (fun _ => none) s.fab.ffs = true) :
    Tbl.wf (fun _ => none) (s.setFf t k v).fab.ffs = true :=
  Tbl.wf_tput (fun _ => none) _ _ _ w

/-- A flip-flop's value is that of its entry under the frames' initial value. -/
theorem State.ff_congr {u v : State} (hffs : u.fab.ffs = v.fab.ffs) (hcfg : u.fab.cfg = v.fab.cfg) (t k : Nat) : u.ff t k = v.ff t k := by
  simp only [State.ff, State.ffCfg, State.tcfg, hffs, hcfg]

/-- The flip-flops of a cluster in order. -/
theorem ffKey_half (cluster n : Nat) : ffKey cluster (n / 2) (n % 2) = 32 * cluster + n := by
  rw [ffKey]
  omega

/-! ### A pass over a cluster -/

/-- Set flip-flop `k` of tile t, or leave it. -/
def State.putFf (s : State) (t k : Nat) : Option Bool → State
  | some v => s.setFf t k v
  | none => s

theorem State.putFf_eq (s : State) (t k : Nat) (v : Option Bool) : ∃ l, s.putFf t k v = { s with fab.ffs := l } := by
  cases v <;> exact ⟨_, rfl⟩

/-- A pass over flip-flops changes nothing else. -/
theorem iter_putFf_eq {s : State} {t cluster : Nat} {f : Nat → State → State} {g : Nat → Option Bool}
    (hf : ∀ n u, u.fab.cfg = s.fab.cfg → f n u = u.putFf t (ffKey cluster (n / 2) (n % 2)) (g n)) (m : Nat) :
    ∃ l, iter m f s = { s with fab.ffs := l } := by
  refine iter_induction (f := f) (s := s) (fun _ u => ∃ l, u = { s with fab.ffs := l }) m ⟨s.fab.ffs, rfl⟩ ?step
  rintro i u - ⟨l, hu⟩
  obtain ⟨l', hput⟩ := u.putFf_eq t (ffKey cluster (i / 2) (i % 2)) (g i)
  exact ⟨l', by rw [hf i u (by rw [hu]), hput, hu]⟩

/-- After a pass over the flip-flops of a cluster, each set from what the pass began with or left, each has its value and every other its own. -/
theorem iter_putFf {s : State} {t cluster : Nat} {f : Nat → State → State} {g : Nat → Option Bool}
    (hf : ∀ n u, u.fab.cfg = s.fab.cfg → f n u = u.putFf t (ffKey cluster (n / 2) (n % 2)) (g n)) (w : Tbl.wf (fun _ => none) s.fab.ffs = true) (m : Nat) :
    (∀ n < m, (iter m f s).ff t (ffKey cluster (n / 2) (n % 2)) = (g n).getD (s.ff t (ffKey cluster (n / 2) (n % 2)))) ∧
      (∀ k, (∀ n < m, k ≠ 32 * cluster + n) → (iter m f s).ff t k = s.ff t k) := by
  have hall := iter_induction (f := f) (s := s) (fun m u => u.fab.cfg = s.fab.cfg ∧ Tbl.wf (fun _ => none) u.fab.ffs = true ∧
    (∀ n < m, u.ff t (ffKey cluster (n / 2) (n % 2)) = (g n).getD (s.ff t (ffKey cluster (n / 2) (n % 2)))) ∧
    (∀ k, (∀ n < m, k ≠ 32 * cluster + n) → u.ff t k = s.ff t k)) m ⟨rfl, w, by simp, by simp⟩ ?step
  case step =>
    rintro i u - ⟨hcfg, hw, hset, hkept⟩
    have hold : u.ff t (ffKey cluster (i / 2) (i % 2)) = s.ff t (ffKey cluster (i / 2) (i % 2)) :=
      hkept _ (fun n hn => by rw [ffKey_half]; omega)
    rw [hf i u hcfg]
    cases hg : g i with
    | none =>
      refine ⟨hcfg, hw, fun n hn => ?_, fun k hk => hkept k (fun n hn => hk n (Nat.lt_succ_of_lt hn))⟩
      rcases Nat.lt_succ_iff_lt_or_eq.mp hn with hlt | rfl
      · exact hset n hlt
      · simpa [State.putFf, hg] using hold
    | some v =>
      refine ⟨hcfg, State.wf_setFf _ _ _ _ hw, fun n hn => ?_, fun k hk => ?_⟩
      · rcases Nat.lt_succ_iff_lt_or_eq.mp hn with hlt | rfl
        · have hne : ffKey cluster (n / 2) (n % 2) ≠ ffKey cluster (i / 2) (i % 2) := by rw [ffKey_half, ffKey_half]; omega
          exact (State.ff_setFf_other u t v hne hw).trans (hset n hlt)
        · rw [hg]
          exact State.ff_setFf u t _ v hw
      · have hne : k ≠ ffKey cluster (i / 2) (i % 2) := by rw [ffKey_half]; exact hk i (Nat.lt_succ_self i)
        exact (State.ff_setFf_other u t v hne hw).trans (hkept k (fun n hn => hk n (Nat.lt_succ_of_lt hn)))
  exact hall.2.2

/-- What flip-flop n of a cluster takes on an edge of a clock net: its next value where its clock is active, from what stood before (`p`). -/
def State.edgeTakes (s p : State) (ext : Wire → Bool) (t cluster net : Nat) (rise : Bool) (n : Nat) : Option Bool :=
  let key := ffKey cluster (n / 2) (n % 2)
  let c := s.ffCfg t key
  if (s.clusterCfg t cluster).active c.clk net rise then
    some (ffNext c (p.ff t key) (p.ffD ext t cluster (n / 2) (n % 2) c) (p.dests ext t cluster net 128 4) (p.dests ext t cluster net 132 2))
  else none

theorem State.edgeTakes_congr {u v : State} (hcfg : u.fab.cfg = v.fab.cfg) : u.edgeTakes = v.edgeTakes := by
  have hff : u.ffCfg = v.ffCfg := by
    funext t k
    simp only [State.ffCfg, State.tcfg, hcfg]
  have hcl : u.clusterCfg = v.clusterCfg := by
    funext t c
    simp only [State.clusterCfg, State.tcfg, hcfg]
  unfold State.edgeTakes
  rw [hff, hcl]

/-- The cells' edge is a pass over the cluster. -/
theorem State.clusterEdge_pass (s p : State) (ext : Wire → Bool) (t cluster net : Nat) (rise : Bool) : ∃ f,
    s.clusterEdge p ext t cluster net rise = iter 32 f s ∧
      ∀ n u, u.fab.cfg = s.fab.cfg → f n u = u.putFf t (ffKey cluster (n / 2) (n % 2)) (s.edgeTakes p ext t cluster net rise n) := by
  refine ⟨_, rfl, fun n u hcfg => ?_⟩
  have hff (k : Nat) : u.ffCfg t k = s.ffCfg t k := by simp only [State.ffCfg, State.tcfg, hcfg]
  have hcl : u.clusterCfg t cluster = s.clusterCfg t cluster := by simp only [State.clusterCfg, State.tcfg, hcfg]
  simp only [hff, hcl, State.edgeTakes]
  split <;> rfl

/-- What a set/reset line makes of flip-flop n of a cluster (R114). -/
def State.lineSets (s : State) (t cluster line n : Nat) : Option Bool :=
  let c := s.ffCfg t (ffKey cluster (n / 2) (n % 2))
  if c.sr = line ∧ s.lineHigh t cluster line c.clk then
    match c.kind with
    | .asyncSet => some true
    | .asyncReset => some false
    | _ => none
  else none

/-- A set/reset line makes one pass over its cluster where the tile's flip-flops can change (R114, R287). -/
theorem exec_asyncSetReset_moves (t : Tile) (cluster : Fin 768) (line : Fin 2) {s : State} (hmoves : s.ffMoves t = true) :
    ∃ f, exec (.asyncSetReset t cluster line) s = .next (iter 32 f { s with free := s.free + 1 }) ∧
      ∀ n u, f n u = u.putFf t (ffKey cluster (n / 2) (n % 2)) (s.lineSets t cluster line n) := by
  refine ⟨_, congrArg Host.Outcome.next (if_neg (by simp [hmoves])), fun n u => ?_⟩
  simp only [State.lineSets]
  split
  · generalize (s.ffCfg t (ffKey cluster (n / 2) (n % 2))).kind = kind
    cases kind <;> rfl
  · rfl

theorem exec_asyncSetReset_held (t : Tile) (cluster : Fin 768) (line : Fin 2) {s : State} (hheld : s.ffMoves t = false) :
    exec (.asyncSetReset t cluster line) s = .next s :=
  congrArg Host.Outcome.next (if_pos (by simp [hheld]))

/-! ### The edge of a cluster's clock (R113, R126, R135) -/

/-- The cells and the crossing primitives of a cluster on an edge, from what stood before (`p`). -/
def State.cellsEdge (s p : State) (ext : Wire → Bool) (t cluster net : Nat) (rise : Bool) : State :=
  (s.clusterEdge p ext t cluster net rise).xingEdge p ext t cluster net rise

/-- What a rising edge brings beyond the cluster: the seam flip-flops and the hard ports of the tile. -/
def State.tileEdge (s p : State) (ext : Wire → Bool) (t net : Nat) (rise : Bool) : State :=
  if rise then (s.seamEdge p ext t net).hardEdge t net else s

section
variable {s : State} (t : Tile) (cluster : Fin 768) (net : Fin 8) (rise join : Bool) (ins : List CellIn) (cin : Bool) (ms ce : BitVec 4) (sr : BitVec 2)

theorem exec_cellClockEdge_runs (hclk : s.userClock = true) (hrun : s.netRuns t net = true) {p : State} {ext : Wire → Bool}
    (hp : (s.edgeStart join).preEdge = p) (hext : p.extCluster t cluster (destIn ins cin ms ce sr) = ext) :
    exec (.cellClockEdge t cluster net rise join ins cin ms ce sr) s =
      .next (((s.edgeStart join).cellsEdge p ext t cluster net rise).tileEdge p ext t net rise) := by
  subst hext hp
  exact congrArg Host.Outcome.next (if_pos (by simp [hclk, hrun]))

theorem exec_cellClockEdge_stopped (h : s.userClock = false ∨ s.netRuns t net = false) :
    exec (.cellClockEdge t cluster net rise join ins cin ms ce sr) s = .next s :=
  congrArg Host.Outcome.next (if_neg (by rcases h with h | h <;> simp [h]))

end

section
variable {s : State} (p : State) (ext : Wire → Bool) (t cluster net : Nat) (rise join : Bool)

/-- The cells' edge changes flip-flops, crossings and the record of the edge alone. -/
theorem State.cellsEdge_eq : ∃ b f l x, (s.edgeStart join).cellsEdge p ext t cluster net rise =
    { s with fab.before := b, fab.ffs := l, fab.xings := x, free := f } := by
  obtain ⟨b, f, hstart⟩ := s.edgeStart_eq join
  obtain ⟨pass, hpass, hstep⟩ := (s.edgeStart join).clusterEdge_pass p ext t cluster net rise
  obtain ⟨l, hl⟩ := iter_putFf_eq hstep 32
  obtain ⟨x, hx⟩ := ((s.edgeStart join).clusterEdge p ext t cluster net rise).xingEdge_eq p ext t cluster net rise
  exact ⟨b, f, l, x, by rw [State.cellsEdge, hx, hpass, hl, hstart]⟩

/-- After the cells' edge a flip-flop is as the pass over the cluster left it. -/
theorem State.cellsEdge_pass : ∃ f, (∀ k, ((s.edgeStart join).cellsEdge p ext t cluster net rise).ff t k = (iter 32 f (s.edgeStart join)).ff t k) ∧
    (∀ n u, u.fab.cfg = (s.edgeStart join).fab.cfg → f n u = u.putFf t (ffKey cluster (n / 2) (n % 2)) (s.edgeTakes p ext t cluster net rise n)) := by
  obtain ⟨b, f, hstart⟩ := s.edgeStart_eq join
  obtain ⟨pass, hpass, hstep⟩ := (s.edgeStart join).clusterEdge_pass p ext t cluster net rise
  obtain ⟨x, hx⟩ := ((s.edgeStart join).clusterEdge p ext t cluster net rise).xingEdge_eq p ext t cluster net rise
  have hcfg : (s.edgeStart join).fab.cfg = s.fab.cfg := by rw [hstart]
  rw [State.edgeTakes_congr hcfg] at hstep
  refine ⟨pass, fun k => ?_, hstep⟩
  rw [State.cellsEdge, hx, hpass]
  exact State.ff_congr rfl rfl t k

theorem State.edgeStart_ff (k : Nat) : (s.edgeStart join).ff t k = s.ff t k := by
  obtain ⟨b, f, hstart⟩ := s.edgeStart_eq join
  rw [hstart]
  exact State.ff_congr rfl rfl t k

theorem State.wf_edgeStart (w : Tbl.wf (fun _ => none) s.fab.ffs = true) : Tbl.wf (fun _ => none) (s.edgeStart join).fab.ffs = true := by
  obtain ⟨b, f, hstart⟩ := s.edgeStart_eq join
  rw [hstart]
  exact w

/-- A flip-flop of the cluster takes what its active clock brings, and keeps its value where its clock is not active. -/
theorem State.cellsEdge_ff (w : Tbl.wf (fun _ => none) s.fab.ffs = true) {n : Nat} (hn : n < 32) :
    ((s.edgeStart join).cellsEdge p ext t cluster net rise).ff t (ffKey cluster (n / 2) (n % 2)) =
      (s.edgeTakes p ext t cluster net rise n).getD (s.ff t (ffKey cluster (n / 2) (n % 2))) := by
  obtain ⟨pass, hff, hstep⟩ := State.cellsEdge_pass (s := s) p ext t cluster net rise join
  rw [hff, (iter_putFf hstep (State.wf_edgeStart join w) 32).1 n hn, State.edgeStart_ff]

/-- The flip-flops of every other cluster keep their values. -/
theorem State.cellsEdge_ff_other (w : Tbl.wf (fun _ => none) s.fab.ffs = true) {k : Nat} (hk : k / 32 ≠ cluster) :
    ((s.edgeStart join).cellsEdge p ext t cluster net rise).ff t k = s.ff t k := by
  obtain ⟨pass, hff, hstep⟩ := State.cellsEdge_pass (s := s) p ext t cluster net rise join
  rw [hff, (iter_putFf hstep (State.wf_edgeStart join w) 32).2 k (fun n hn => by omega), State.edgeStart_ff]

end

section
variable (s p : State) (ext : Wire → Bool) (t net : Nat) (rise : Bool)

/-- Beyond the cluster, flip-flops, multiplier slices, block memories and frames stay as they were, with memory and the queue of commands. -/
theorem State.tileEdge_frame : let u := s.tileEdge p ext t net rise
    u.fab.ffs = s.fab.ffs ∧ u.fab.cfg = s.fab.cfg ∧ u.fab.blks = s.fab.blks ∧ u.fab.muls = s.fab.muls ∧ u.hbm = s.hbm ∧ u.pending = s.pending := by
  unfold State.tileEdge
  split
  · obtain ⟨x, hx⟩ := s.seamEdge_eq p ext t net
    have hframe := (s.seamEdge p ext t net).hardEdge_fabricFrame t net
    rw [hx] at hframe ⊢
    exact ⟨congrArg (fun y => y.1.ffs) hframe, congrArg (fun y => y.1.cfg) hframe, congrArg (fun y => y.1.blks) hframe,
      congrArg (fun y => y.1.muls) hframe, congrArg (fun y => y.2.1) hframe, congrArg (fun y => y.2.2) hframe⟩
  · exact ⟨rfl, rfl, rfl, rfl, rfl, rfl⟩

/-- Queues without a notice to give raise nothing, and no register changes. -/
theorem State.tileEdge_regs (h : ∀ q < 4, (s.pq (4 * t + q)).notices = 0) : (s.tileEdge p ext t net rise).regs = s.regs := by
  unfold State.tileEdge
  split
  · obtain ⟨x, hx⟩ := s.seamEdge_eq p ext t net
    rw [hx]
    exact State.hardEdge_quiet net h
  · rfl

end

/-- The one seam wire of the fabric takes its line on a rising edge of its clock net. -/
theorem State.tileEdge_seam (s p : State) (ext : Wire → Bool) {t net a n : Nat} {w : SeamWire} (hcfg : s.fab.seamCfg = [w])
    (hreg : w.reg = true) (harr : w.arrives = some (a, t, n)) (hclk : tget 0 s.fab.seamClk (w.key / 64) = net) (hagree : w.agrees a t = true)
    (hnamed : s.seams.named = []) (hw : Tbl.wf (fun _ => false) s.fab.seamFfs = true) :
    tget false (s.tileEdge p ext t net true).fab.seamFfs w.key =
      (s.seamWireOn w.key && p.wire (p.netId t net) ext (.line w.line.1 w.line.2.1 w.line.2.2.1 w.line.2.2.2 n)) := by
  have hkept : ((s.seamEdge p ext t net).hardEdge t net).fab.seamFfs = (s.seamEdge p ext t net).fab.seamFfs :=
    congrArg (fun y => y.1.seamFfs) ((s.seamEdge p ext t net).hardEdge_fabricFrame t net)
  rw [State.tileEdge, if_pos rfl, hkept, State.seamEdge_single p ext hcfg hreg harr hclk hagree hnamed]
  exact tget_tput_same (fun _ => false) _ _ _ hw

/-! ### Single flip-flops, set/reset lines, the carry and open levels -/

/-- Before an edge that begins anew, everything is as it was but for the record of the edge. -/
theorem State.preEdge_edgeStart (s : State) : (s.edgeStart false).preEdge = { s with fab.before := (s.edgeStart false).fab.before } :=
  (rfl)

section
variable {c : FfCfg} (old d : Bool) {ce sr : Nat}

/-- Without its set/reset line and its clock enable a flip-flop keeps its value (R113). -/
theorem ffNext_disabled (hsr : bitAt sr c.sr = false) (hce : c.ce < 4) (hen : bitAt ce c.ce = false) : ffNext c old d ce sr = old := by
  have hne : c.ce ≠ 4 := by omega
  cases hk : c.kind <;> simp [ffNext, hk, hsr, hne, hen]

/-- An enabled flip-flop without an asserted set/reset takes D (R113). -/
theorem ffNext_enabled (hsr : bitAt sr c.sr = false ∨ c.kind = .none) (hen : c.ce = 4 ∨ bitAt ce c.ce = true) : ffNext c old d ce sr = d := by
  rcases hsr with hsr | hk
  · cases hk : c.kind <;> simp [ffNext, hk, hsr, hen]
  · simp [ffNext, hk, hen]

/-- An asserted set or reset acts whatever the clock enable (R114). -/
theorem ffNext_set (hsr : bitAt sr c.sr = true) (hk : c.kind = .syncSet ∨ c.kind = .asyncSet) : ffNext c old d ce sr = true := by
  rcases hk with hk | hk <;> simp [ffNext, hk, hsr]

theorem ffNext_reset (hsr : bitAt sr c.sr = true) (hk : c.kind = .syncReset ∨ c.kind = .asyncReset) : ffNext c old d ce sr = false := by
  rcases hk with hk | hk <;> simp [ffNext, hk, hsr]

end

theorem State.seamWireOn_declared {s : State} {k : Nat} (hdecl : s.seams.declared = true) (hk : k % 8 = 7) : s.seamWireOn k = false := by
  simp [State.seamWireOn, hdecl, hk]

theorem State.lineHigh_undriven {s : State} {t cluster line : Nat} (clk : Nat) (h : s.xbarSrc t cluster (132 + line) = none) :
    s.lineHigh t cluster line clk = true := by
  simp [State.lineHigh, h]

section
variable {s : State} (ext ev : Wire → Bool) {t c : Nat}

theorem State.carryIn_low (h : (s.clusterCfg t c).cin = 0) : s.carryIn ext ev t c = false := by
  simp [State.carryIn, h]

theorem State.carryIn_high (h : (s.clusterCfg t c).cin = 1) : s.carryIn ext ev t c = true := by
  simp [State.carryIn, h]

/-- The carry comes from the cluster before, in the same tile (R116). -/
theorem State.carryIn_chained (h : (s.clusterCfg t c).cin = 3) (hc : c % 24 ≠ 0) : s.carryIn ext ev t c = ev (.carry t (c - 1) 16) := by
  simp [State.carryIn, h, hc]

/-- A column's first cluster takes the carry from the tile of the next row, in the same region (R116). -/
theorem State.carryIn_tile (h : (s.clusterCfg t c).cin = 3) (hc : c % 24 = 0) (hrow : t / 16 % 16 ≠ 15) (hreg : s.sameRegion t (t + 16) = true) :
    s.carryIn ext ev t c = ev (.carry (t + 16) (c + 23) 16) := by
  simp [State.carryIn, h, hc, hrow, hreg]

end

/-- Another user clock domain sees a flip-flop at an open level (R25). -/
theorem State.wireStep_foreign (s : State) {dom : Nat} (ext ev : Wire → Bool) {t c n : Nat} (h : n < 64) (q : 2 ≤ n % 4)
    (f : foreign dom (s.ffNet t (ffKey c (n / 4) (n % 2))) = true) : s.wireStep dom ext ev (.src t c n) = ext (.src t c n) := by
  have h0 : n % 4 ≠ 0 := by omega
  have h1 : n % 4 ≠ 1 := by omega
  simp [State.wireStep, Nat.not_le.mpr h, h0, h1, f]

/-! ### The set/reset lines and the edges as the obligation states them -/

/-- An asynchronous set/reset line gives each flip-flop of its cluster what the line sets it to, and changes no register (R114). -/
theorem exec_asyncSetReset_ff (t : Tile) (cluster : Fin 768) (line : Fin 2) {s : State} (hmoves : s.ffMoves t = true)
    (w : Tbl.wf (fun _ => none) s.fab.ffs = true) : ∃ u, exec (.asyncSetReset t cluster line) s = .next u ∧ u.regs = s.regs ∧
      ∀ n < 32, u.ff t (ffKey cluster (n / 2) (n % 2)) = (s.lineSets t cluster line n).getD (s.ff t (ffKey cluster (n / 2) (n % 2))) := by
  obtain ⟨f, hexec, hstep⟩ := exec_asyncSetReset_moves t cluster line hmoves
  obtain ⟨v, hv⟩ : ∃ v : State, v = { s with free := s.free + 1 } := ⟨_, rfl⟩
  rw [← hv] at hexec
  have hffs : v.fab.ffs = s.fab.ffs := by rw [hv]
  have hcfg : v.fab.cfg = s.fab.cfg := by rw [hv]
  have hregs : v.regs = s.regs := by rw [hv]
  obtain ⟨l, hl⟩ := iter_putFf_eq (s := v) (fun n u _ => hstep n u) 32
  obtain ⟨hset, -⟩ := iter_putFf (s := v) (fun n u _ => hstep n u) (by rw [hffs]; exact w) 32
  refine ⟨_, hexec, by rw [hl, ← hregs], fun n hn => ?_⟩
  rw [hset n hn, State.ff_congr hffs hcfg]

section
variable {s : State} {t cluster line n : Nat}

theorem State.lineSets_low (h : s.lineHigh t cluster line (s.ffCfg t (ffKey cluster (n / 2) (n % 2))).clk = false) :
    s.lineSets t cluster line n = none := by
  simp [State.lineSets, h]

theorem State.lineSets_other (h : (s.ffCfg t (ffKey cluster (n / 2) (n % 2))).sr ≠ line) : s.lineSets t cluster line n = none := by
  simp [State.lineSets, h]

theorem State.lineSets_set (hsr : (s.ffCfg t (ffKey cluster (n / 2) (n % 2))).sr = line)
    (hkind : (s.ffCfg t (ffKey cluster (n / 2) (n % 2))).kind = .asyncSet)
    (hline : s.lineHigh t cluster line (s.ffCfg t (ffKey cluster (n / 2) (n % 2))).clk = true) : s.lineSets t cluster line n = some true := by
  simp [State.lineSets, hsr, hkind, hline]

theorem State.lineSets_reset (hsr : (s.ffCfg t (ffKey cluster (n / 2) (n % 2))).sr = line)
    (hkind : (s.ffCfg t (ffKey cluster (n / 2) (n % 2))).kind = .asyncReset)
    (hline : s.lineHigh t cluster line (s.ffCfg t (ffKey cluster (n / 2) (n % 2))).clk = true) : s.lineSets t cluster line n = some false := by
  simp [State.lineSets, hsr, hkind, hline]

end

section
variable {s : State} (p : State) (ext : Wire → Bool) {t cluster net : Nat} {rise : Bool} {n : Nat}

theorem State.edgeTakes_active
    (h : (s.clusterCfg t cluster).active (s.ffCfg t (ffKey cluster (n / 2) (n % 2))).clk net rise = true) :
    s.edgeTakes p ext t cluster net rise n = some (ffNext (s.ffCfg t (ffKey cluster (n / 2) (n % 2))) (p.ff t (ffKey cluster (n / 2) (n % 2)))
      (p.ffD ext t cluster (n / 2) (n % 2) (s.ffCfg t (ffKey cluster (n / 2) (n % 2)))) (p.dests ext t cluster net 128 4)
      (p.dests ext t cluster net 132 2)) :=
  if_pos h

theorem State.edgeTakes_inactive
    (h : (s.clusterCfg t cluster).active (s.ffCfg t (ffKey cluster (n / 2) (n % 2))).clk net rise = false) :
    s.edgeTakes p ext t cluster net rise n = none :=
  if_neg (by simp [h])

end

/-- Settles O30: an edge is a pass over the cluster's flip-flops, of which each takes what its clock brings, followed by the crossings, the seam
flip-flops and the hard ports, none of which writes a flip-flop; a set/reset line is such a pass too. -/
theorem cellFlipFlops : Obligations.CellFlipFlops := by
  unfold Obligations.CellFlipFlops
  refine ⟨?edge, State.preEdge_edgeStart, fun c old d ce sr hsr hce hen => ffNext_disabled old d hsr hce hen,
    fun c old d ce sr hsr hen => ffNext_enabled old d hsr hen, fun c old d ce sr hsr => ⟨ffNext_set old d hsr, ffNext_reset old d hsr⟩,
    fun t cluster net rise join ins cin ms ce sr s h => exec_cellClockEdge_stopped t cluster net rise join ins cin ms ce sr h, ?seam,
    fun s k => State.seamWireOn_declared, ?line, fun t cluster line s => exec_asyncSetReset_held t cluster line,
    fun s t cluster line clk => State.lineHigh_undriven clk,
    fun s ext ev t c => ⟨State.carryIn_low ext ev, State.carryIn_high ext ev, State.carryIn_chained ext ev, State.carryIn_tile ext ev⟩,
    fun s dom ext ev t c n => s.wireStep_foreign ext ev⟩
  case edge =>
    intro t cluster net rise join ins cin ms ce sr s p ext hclk hrun w hp hext
    have hrest := State.cellsEdge_eq (s := s) p ext t cluster net rise join
    have hffs := fun n (hn : n < 32) => State.cellsEdge_ff p ext t cluster net rise join w hn
    have hother := fun k => State.cellsEdge_ff_other (k := k) p ext t cluster net rise join w
    refine ⟨_, exec_cellClockEdge_runs t cluster net rise join ins cin ms ce sr hclk hrun hp hext, ?_⟩
    generalize (s.edgeStart join).cellsEdge p ext t cluster net rise = v at hrest hffs hother ⊢
    obtain ⟨b, f, l, x, hv⟩ := hrest
    obtain ⟨hf, hcfg, hblks, hmuls, hhbm, hpend⟩ := v.tileEdge_frame p ext t net rise
    have hff (k : Nat) : (v.tileEdge p ext t net rise).ff t k = v.ff t k := State.ff_congr hf hcfg t k
    refine ⟨fun n hn h => ?_, fun n hn h => ?_, fun k _ hk => (hff k).trans (hother k hk), fun hq => ?_, hblks.trans (by rw [hv]),
      hmuls.trans (by rw [hv]), hcfg.trans (by rw [hv]), hhbm.trans (by rw [hv]), hpend.trans (by rw [hv])⟩
    · rw [hff, hffs n hn, State.edgeTakes_active p ext h]
      rfl
    · rw [hff, hffs n hn, State.edgeTakes_inactive p ext h]
      rfl
    · rw [State.tileEdge_regs v p ext t net rise (by rw [hv]; exact hq), hv]
  case seam =>
    intro t cluster net join ins cin ms ce sr s p ext w a n hclk hrun hw hcfg hreg harr hnet hagree hnamed hp hext
    obtain ⟨b, f, l, x, hv⟩ := State.cellsEdge_eq (s := s) p ext t cluster net true join
    refine ⟨_, exec_cellClockEdge_runs t cluster net true join ins cin ms ce sr hclk hrun hp hext, ?_⟩
    rw [hv]
    exact State.tileEdge_seam _ p ext hcfg hreg harr hnet hagree hnamed hw
  case line =>
    intro t cluster line s hmoves w
    obtain ⟨u, hexec, hregs, hff⟩ := exec_asyncSetReset_ff t cluster line hmoves w
    refine ⟨u, hexec, fun n hn hsr hkind hline => ?_, fun n hn hsr hkind hline => ?_, fun n hn hline => ?_, fun n hn hsr => ?_, hregs⟩
    · rw [hff n hn, State.lineSets_set hsr hkind hline]
      rfl
    · rw [hff n hn, State.lineSets_reset hsr hkind hline]
      rfl
    · rw [hff n hn, State.lineSets_low hline]
      rfl
    · rw [hff n hn, State.lineSets_other hsr]
      rfl

end Sys2Proof.Machine

/-! SUPPORT. The register file after reset: every reset value of a table is a word, so it is what the storage reads as before a write. -/

namespace Sys2Proof.Machine

/-- The reset value that the table of a register gives its fields. -/
def Rg.fieldReset (r : Rg) (a : Nat) : Nat := r.info.flds.foldl (fun a f => a + f.reset % 2 ^ (f.hi + 1 - f.lo) * 2 ^ f.lo) a

theorem Rg.fieldReset_lt (r : Rg) : r.fieldReset 0 < 2 ^ 32 := by
  cases r <;> decide +kernel

theorem tkStatus_fieldReset_lt : ∀ j < Rg.tkStatus.info.n, Rg.tkStatus.fieldReset j < 2 ^ 32 := by
  decide +kernel

/-- Reset values are words. -/
theorem Rg.rst_lt {r : Rg} {i j : Nat} (h : r.valid i j = true) : r.rst j < 2 ^ 32 := by
  obtain ⟨-, hj, -⟩ := (r.valid_iff i j).mp h
  change r.fieldReset (if r = .tkStatus then j else 0) < 2 ^ 32
  split
  · next htk => subst htk; exact tkStatus_fieldReset_lt j hj
  · exact r.fieldReset_lt

/-- Settles O3: reset lists no entry in any table, so every register, engine and mailbox stands at its default. -/
theorem resetState : Obligations.ResetState := by
  unfold Obligations.ResetState
  refine ⟨rfl, rfl, rfl, rfl, rfl, rfl, rfl, rfl, rfl, ?registers, fun _ _ _ => rfl, fun _ _ => rfl, fun _ => not_exists.mpr fun _ => List.not_mem_nil⟩
  case registers =>
    intro r i j h
    exact (BitVec.toNat_ofNat (r.rst j) 32).trans (Nat.mod_eq_of_lt (Rg.rst_lt h))

end Sys2Proof.Machine

/-! SUPPORT. Supplies and resets, sensor readings, and the pins by mode (R35–R37, R48, R51, R520–R528): what a device reset keeps and sets, and what a
reading leaves as it was. -/

namespace Sys2Proof.Machine

/-! ### Device reset -/

/-- What a device reset leaves of the power state: the supplies, RESET_N and the trip stay, and the mode follows from them (R36, R37, R68). -/
def State.resetPower (s : State) : Power :=
  { Power.init with
    supplies := s.pw.supplies
    resetN := s.pw.resetN
    tripped := s.pw.tripped
    tripRec := s.pw.tripRec
    mode := if !s.pw.supplies then .off
      else if s.seams.captains = 1 ∨ s.seams.captains = 2 ∨ s.seams.captains = 4 ∨ s.seams.captains = 8 then .boot else .lockout
    maltarFailed := decide (s.pw.supplies ∧
      ¬ (s.seams.captains = 1 ∨ s.seams.captains = 2 ∨ s.seams.captains = 4 ∨ s.seams.captains = 8)) }

/-- The parts of the state that no register, port or debug path holds. -/
def State.resetFrame (s : State) : Power × Tbl Byte × List LongOp × List Instr := (s.pw, s.ld.store, s.hosts.ops, s.pending)

theorem State.setF_resetFrame (s : State) (f : FRef) (i j v : Nat) : (s.setF f i j v).resetFrame = s.resetFrame := (rfl)
theorem State.setReg_resetFrame (s : State) (r : Rg) (i j v : Nat) : (s.setReg r i j v).resetFrame = s.resetFrame := (rfl)

theorem State.setPort_resetFrame (s : State) (p : Nat) (x : HostPort) : (s.setPort p x).resetFrame = s.resetFrame := (rfl)

/-- A device reset ends every operation, and keeps the internal store and the waiting commands (R36, R48). -/
theorem State.deviceReset_resetFrame (s : State) (cause : Nat) :
    (s.deviceReset cause).resetFrame = (s.resetPower, s.ld.store, [], s.pending) := by
  unfold State.deviceReset
  extract_lets tap _ _ _ _ _ base _ paths _ ports rails banks
  calc (banks.setF F.rstCause_cause 0 0 cause).resetFrame
    _ = banks.resetFrame := banks.setF_resetFrame _ _ _ _
    _ = rails.resetFrame := iter_keeps State.resetFrame 10 _ (fun _ u => u.setReg_resetFrame _ _ _ _) rails
    _ = ports.resetFrame := iter_keeps State.resetFrame 8 _ (fun _ u => u.setReg_resetFrame _ _ _ _) ports
    _ = paths.resetFrame := iter_keeps State.resetFrame 4 _ (fun _ u => u.setPort_resetFrame _ _) paths
    _ = base.resetFrame := by
      simp only [paths]
      split <;> rfl
    _ = (s.resetPower, s.ld.store, [], s.pending) := rfl

section
variable (s : State) (cause : Nat)

theorem State.deviceReset_keeps : (s.deviceReset cause).pw = s.resetPower ∧ (s.deviceReset cause).ld.store = s.ld.store ∧
    (s.deviceReset cause).hosts.ops = [] ∧ (s.deviceReset cause).pending = s.pending := by
  simpa only [State.resetFrame, Prod.mk.injEq] using s.deviceReset_resetFrame cause

@[simp] theorem State.deviceReset_pw : (s.deviceReset cause).pw = s.resetPower := (s.deviceReset_keeps cause).1
@[simp] theorem State.deviceReset_ld_store : (s.deviceReset cause).ld.store = s.ld.store := (s.deviceReset_keeps cause).2.1
@[simp] theorem State.deviceReset_hosts_ops : (s.deviceReset cause).hosts.ops = [] := (s.deviceReset_keeps cause).2.2.1
@[simp] theorem State.deviceReset_pending : (s.deviceReset cause).pending = s.pending := (s.deviceReset_keeps cause).2.2.2

end

/-- With supplies and a captain a device reset leaves BOOT (R36, R37). -/
theorem State.resetPower_mode_boot {s : State} (hsup : s.pw.supplies = true) (hcap : s.seams.captains ∈ [1, 2, 4, 8]) :
    s.resetPower.mode = .boot := by
  simp only [List.mem_cons, List.not_mem_nil, or_false] at hcap
  simp [State.resetPower, hsup, hcap]

/-- A device reset with supplies and a captain leaves BOOT at step 1, before Maltar owns the mailboxes (R36, R37, R48). -/
theorem State.deviceReset_boot {u : State} (hsup : u.pw.supplies = true) (hcap : u.seams.captains ∈ [1, 2, 4, 8]) (cause : Nat) :
    (u.deviceReset cause).pw.resetN = u.pw.resetN ∧ (u.deviceReset cause).pw.mode = .boot ∧ (u.deviceReset cause).pw.step = 1 ∧
      (u.deviceReset cause).pw.maltarOwns = false ∧ (u.deviceReset cause).pw.rebooting = false ∧ (u.deviceReset cause).hosts.ops = [] ∧
      (u.deviceReset cause).ld.store = u.ld.store ∧ (u.deviceReset cause).pending = u.pending := by
  obtain ⟨hpw, hstore, hops, hpend⟩ := u.deviceReset_keeps cause
  rw [hpw]
  exact ⟨rfl, State.resetPower_mode_boot hsup hcap, rfl, rfl, rfl, hops, hstore, hpend⟩

/-! ### Readings (R525–R528) -/

/-- What a temperature reading leaves as it was. -/
def State.thermFrame (s : State) : Power × Load × Tbl Engine × Fabric × Tbl PQ × List Instr := (s.pw, s.ld, s.eng, s.fab, s.pqs, s.pending)

@[simp] theorem State.setF_thermFrame (s : State) (f : FRef) (i j v : Nat) : (s.setF f i j v).thermFrame = s.thermFrame := (rfl)

@[simp] theorem State.alarm_thermFrame (s : State) (t c fl code src : Nat) : (s.alarm t c fl code src).thermFrame = s.thermFrame := by
  simp [State.thermFrame]

@[simp] theorem State.stackTemp_thermFrame (s : State) (st : Nat) (t : Option Nat) : (s.stackTemp st t).thermFrame = s.thermFrame := by
  cases t with
  | none => simp [State.stackTemp]
  | some v => simp [State.stackTemp, apply_ite State.thermFrame]

@[simp] theorem State.warnBit_thermFrame (s : State) (d : Nat) : (s.warnBit d).thermFrame = s.thermFrame := by
  simp [State.warnBit]

/-- The warning flags are of no part of the frame. -/
theorem State.warnFlag_thermFrame (s : State) (w : Nat) : ({ s with elec.warn := w } : State).thermFrame = s.thermFrame := (rfl)

@[simp] theorem State.warn_thermFrame (s : State) (src : Nat) (x : Int) : (s.warn src x).thermFrame = s.thermFrame := by
  simp [State.warn, apply_ite State.thermFrame, State.warnFlag_thermFrame]

/-- A reading is stored and checked against WARN_C, and then against the trip point of a die or of a stack (R525–R527). -/
theorem exec_dieSensorReading_stored {src : Fin 8} {c : Fin 256} {s : State} (hsup : s.pw.supplies = true) (hc : c.val ≠ 0x80) :
    ∃ u : State, u.thermFrame = s.thermFrame ∧ exec (.dieSensorReading src c) s =
      .next (if !u.pw.tripped ∧ (if src.val < 4 then (120 : Int) else 115) ≤ sgn 8 c then u.trip src c else u) := by
  refine ⟨_, ?_, congrArg Host.Outcome.next (if_neg (by simp [hsup, hc]))⟩
  simp [apply_ite State.thermFrame]

/-! ### Pins (R35, R51) -/

section
variable {s : State} (hawake : s.awake = true)
include hawake

theorem State.awake_iff : s.pw.supplies = true ∧ s.pw.resetN = true ∧ s.pw.tripped = false := by
  simpa [State.awake, and_assoc] using hawake

/-- Outside the pin tests a device that is awake shows its user pins by mode. -/
theorem State.userPin_awake (htest : s.pinTest = false) (k : Nat) : s.userPin k =
    if bitAt s.elec.bankBad (k / 64) then .hiz
    else match s.pw.mode with
      | .off => .unpowered
      | .boot => .hiz
      | .run => s.runPin k
      | .rest => if (tget IoCfg.blank s.fab.io k).used then tget PinState.hiz s.elec.kept k else s.quietPin (k / 64)
      | .hold => if (tget IoCfg.blank s.fab.io k).used then tget PinState.hiz s.elec.kept k else s.quietPin (k / 64)
      | _ => s.quietPin (k / 64) := by
  obtain ⟨hsup, hres, htrip⟩ := State.awake_iff hawake
  cases hmode : s.pw.mode <;> simp [State.userPin, State.modePin, hsup, hres, htrip, htest, hmode]

end

/-! ### The obligation -/

/-- Settles O12: a device reset keeps the store and the queue and takes its mode from the supplies and the captains; a reading leaves everything but its
registers until it trips; the pins follow from the mode. -/
theorem powerAndPins : Obligations.PowerAndPins := by
  unfold Obligations.PowerAndPins
  refine ⟨?supplies, ?suppliesGone, ?resetLow, ?resetHigh, ?reboot, ?trip, ?reading, ?bankFault, ?bankBack, ?lines, ?badBank, ?modes⟩
  case supplies =>
    intro live resetN mv early s hsup
    refine ⟨_, congrArg Host.Outcome.next (if_neg (by simp [hsup])), ?_⟩
    simp [State.resetPower, Power.init]
    tauto
  case suppliesGone =>
    intro s hsup
    refine ⟨_, congrArg Host.Outcome.next (if_pos hsup), ?_⟩
    simp [State.resetPower]
  case resetLow =>
    intro s hsup hres hcap
    obtain ⟨hresN, hmode, hstep, howns, -, hkept⟩ := State.deviceReset_boot (u := { s with pw.resetN := false }) hsup hcap 1
    exact ⟨_, congrArg Host.Outcome.next ((if_neg (by simp [hsup])).trans (if_pos hres)), hresN, hmode, hstep, howns, hkept⟩
  case resetHigh =>
    intro s hsup hres hcap
    obtain ⟨hresN, hmode, hstep, howns, -, hkept⟩ := State.deviceReset_boot (u := { s with pw.resetN := true }) hsup hcap 1
    exact ⟨_, congrArg Host.Outcome.next ((if_neg (by simp [hres])).trans (if_pos hsup)), hresN, hmode, hstep, howns, hkept⟩
  case reboot =>
    exact fun s hsup hboot hcap => ⟨_, congrArg Host.Outcome.next (if_pos hboot), State.deviceReset_boot hsup hcap 2⟩
  case trip =>
    intro src c s hsup htrip hc hlimit
    obtain ⟨u, hu, hexec⟩ := exec_dieSensorReading_stored hsup hc
    simp only [State.thermFrame, Prod.mk.injEq] at hu
    obtain ⟨hpw, hld, -, -, -, hpend⟩ := hu
    rw [if_pos ⟨by simp [hpw, htrip], hlimit⟩] at hexec
    refine ⟨_, hexec, ?_⟩
    simp [State.trip, State.resetPower, Power.init, hld, hpend]
  case reading =>
    intro src c s hsup hc hlimit
    obtain ⟨u, hu, hexec⟩ := exec_dieSensorReading_stored hsup hc
    simp only [State.thermFrame, Prod.mk.injEq] at hu
    obtain ⟨hpw, -, heng, hfab, hpqs, hpend⟩ := hu
    rw [if_neg (fun h => absurd h.2 (not_le.mpr hlimit))] at hexec
    exact ⟨u, hexec, hpw, heng, hfab, hpqs, hpend⟩
  case bankFault =>
    intro b mv low high mismatch s hsup hfault hmode
    simp only [exec, execVccioFault, hsup, hfault, hmode, State.setReg_pw, State.setReg_elec, Bool.not_true, Bool.false_eq_true, or_self, if_false]
  case bankBack =>
    intro b mv s hsup
    exact congrArg Host.Outcome.next (if_neg (by simp [hsup]))
  case lines =>
    intro s hawake
    obtain ⟨hsup, hres, htrip⟩ := State.awake_iff hawake
    simp [State.foulLow, State.inMode, State.huddleLow, hsup, hres, htrip]
  case badBank =>
    intro s k hawake htest hbad
    rw [State.userPin_awake hawake htest, if_pos hbad]
  case modes =>
    intro s k hawake htest hgood
    rw [State.userPin_awake hawake htest, if_neg (by simp [hgood])]
    refine ⟨fun hboot => by rw [hboot], ?_, fun hrun hheld => by rw [hrun]; exact if_pos hheld⟩
    rintro (hmode | hmode | hmode) <;> rw [hmode]

end Sys2Proof.Machine

/-! SUPPORT. The Referee watchdog while a port's debugger holds an engine halted (R447, R489, R506). -/

namespace Sys2Proof.Machine

/-- RUN, with port 0 authorized FULL and engine 0 halted by its debugger. -/
def haltedByPort : State :=
  { State.reset with
    pw := { Power.init with mode := .run, maltarOwns := true }
    eng := [(0, { Engine.init with run := .halted, haltedBy := some 0, before := .running })] }.setF F.dbgStatus_level 0 0 2

/-- What the expiry leaves of engine 0: it runs again. -/
theorem refereeWatchdogExpiry_releases :
    ∃ u, exec .refereeWatchdogExpiry haltedByPort = .next u ∧ (u.engine 0).run = .running := by
  refine ⟨_, rfl, ?_⟩
  decide +kernel

/-- Refutes O13: the watchdog's expiry ends the authorizations of the ports, and a path that loses FULL releases the engines that it halted
(R506), so the engines do not stay as they were. The counterexample has engine 0 halted by port 0. -/
theorem not_startAndHuddle : ¬ Obligations.StartAndHuddle := by
  unfold Obligations.StartAndHuddle
  rintro ⟨-, -, -, -, -, -, -, -, hexpiry, -⟩
  obtain ⟨t, hexec, -, -, -, heng, -⟩ := hexpiry haltedByPort (by decide +kernel) (by decide +kernel)
  obtain ⟨u, hexec', hrun⟩ := refereeWatchdogExpiry_releases
  cases Host.Outcome.next.inj (hexec.symm.trans hexec')
  rw [State.engine, heng] at hrun
  exact absurd hrun (by decide +kernel)

end Sys2Proof.Machine

/-! SUPPORT. An exit from REST while a HOLD that was asked for still waits (R39, R40). -/

namespace Sys2Proof.Machine

/-- REST, with HOLD asked for, and engine 0 told to stop while it waits for the response of an atomic, which its interface keeps. -/
def restWithHoldAsked : State :=
  { State.reset with
    pw := { Power.init with mode := .rest, maltarOwns := true, holding := true }
    fab.stopped := true
    net := { State.reset.net with
      outs := [⟨mkReq .swap 0 8 0 0 0 0 [], .atomic, false⟩]
      nis := [(0, { Ni.init with kept := [⟨0, 0, 0, 0, svcOK, [], false, true⟩] })] }
    eng := [(0, { Engine.init with run := .running, atomic := true, stopReq := true })] }

/-- The kept response ends the atomic, engine 0 stops at that boundary, and with no engine left to wait for HOLD stops the user clocks again. -/
theorem leaveRest_restWithHoldAsked : restWithHoldAsked.leaveRest.fab.stopped = true := by
  decide +kernel

/-- Refutes O14: an exit from REST does not withdraw a HOLD that was asked for. The counterexample delivers, on that exit, the response after which
the last engine stops, and then the user clocks are stopped again. -/
theorem not_modeAndFunctionCommands : ¬ Obligations.ModeAndFunctionCommands := by
  unfold Obligations.ModeAndFunctionCommands
  rintro ⟨-, -, -, -, -, -, -, -, -, hleave, -⟩
  obtain ⟨hstopped, -⟩ := hleave restWithHoldAsked
  exact absurd (leaveRest_restWithHoldAsked.symm.trans hstopped) (by decide)

end Sys2Proof.Machine

/-! SUPPORT. The links of the host ports (R49, R446, R450, R451), and the bytes of the management port's transactions (R452, R453, R455, R457). -/

namespace Sys2Proof.Machine

/-! ### Links -/

/-- The second of two writes of a key stands. -/
theorem tins_tins {α : Type} (t : Tbl α) (i : Nat) (v w : α) : tins (tins t i v) i w = tins t i w := by
  induction t with
  | nil => simp [tins]
  | cons x t ih =>
    obtain ⟨k, u⟩ := x
    by_cases h1 : i = k
    · simp [tins, h1]
    · by_cases h2 : i < k <;> simp [tins, h1, h2, ih]

theorem State.setPort_setPort (s : State) (p : Nat) {x y : HostPort} (hx : x ≠ HostPort.init) (hy : y ≠ HostPort.init) :
    (s.setPort p x).setPort p y = s.setPort p y := by
  simp [State.setPort, tput, hx, hy, tins_tins]

/-- A port whose PERST_N is high is not as reset leaves it. -/
theorem HostPort.ne_init_of_perst {x : HostPort} (h : x.perst = true) : x ≠ HostPort.init := by
  rintro rfl
  exact absurd h (by decide)

theorem exec_perstNRise_high {p : Die} {s : State} (h : (s.port p).perst = false) :
    exec (.perstNRise p) s = .next (s.setPort p { s.port p with perst := true, enabled := true, training := s.awake, seq := 0 }) := by
  have hne : ({ s.port p with perst := true } : HostPort) ≠ HostPort.init := HostPort.ne_init_of_perst rfl
  have hread := s.port_setPort_ne p _ hne
  have htrain : (s.setPort p { s.port p with perst := true }).portTrain p =
      s.setPort p { s.port p with perst := true, enabled := true, training := s.awake, seq := 0 } := by
    rw [State.portTrain, hread]
    exact State.setPort_setPort s p hne (HostPort.ne_init_of_perst rfl)
  rw [← htrain]
  exact congrArg Host.Outcome.next (if_neg (by simp [h]))

/-- A configuration write changes the port's registers alone while the link is up (R49). -/
theorem exec_configRequest_write {p : Die} {s : State} (r : CfgReg) (v : Word32) (h : s.flag F.hpStatus_linkUp p 0 = true) :
    exec (.configRequest p r (some v)) s = .next (s.setPort p ((s.port p).cfgWrite r v.toNat)) :=
  congrArg Host.Outcome.next (if_neg (by simp [h]))

theorem exec_configRequest_read {p : Die} {s : State} {r : CfgReg} (h : s.flag F.hpStatus_linkUp p 0 = true) (hr : r ≠ .other) :
    exec (.configRequest p r none) s = .next (s.setPort p { s.port p with cfg := s.cfgRead p r }) := by
  simp [exec, execConfigRequest, h, hr]

theorem HostPort.cfgWrite_d3hot (x : HostPort) {v : Nat} (h : v % 4 = 3) : x.cfgWrite .powerState v = { x with d3hot := true } := by
  simp [HostPort.cfgWrite, h]

/-! ### The management port's transactions -/

/-- The management port has taken its address and `n` bytes from offset `o` on. -/
def State.mpAt (s : State) (o n : Nat) : State := { s with hosts.mpIdle := false, hosts.mpOff := o + n }

section
variable {s : State} {addr : BitVec 7} {off : Word16} (hup : s.portUp 4 = true) (haddr : addr.toNat = s.reg .mpAddr 4 0)
include hup haddr

theorem State.mpAnswers_own : s.mpAnswers addr.toNat = true := by
  simp [State.mpAnswers, hup, haddr]

theorem exec_mpWrite_own {data : List Byte} (hoff : off.toNat + data.length < 65536) :
    exec (.mpWrite addr off data) s = .next (State.mpBytes off.toNat 0 data (s.mpAt off.toNat data.length)) := by
  have hans := State.mpAnswers_own hup haddr
  simp only [exec, execMpWrite, hans, Bool.not_true, Bool.false_eq_true, if_false, Nat.mod_eq_of_lt hoff, State.mpAt]

theorem exec_mpRead_own {n : Nat} (hoff : off.toNat + n < 65536) :
    exec (.mpRead addr off n) s = .next { (State.mpGets n off.toNat 0 (s.mpAt off.toNat n) []).1 with
      hosts.mpOut := (State.mpGets n off.toNat 0 (s.mpAt off.toNat n) []).2 } := by
  have hans := State.mpAnswers_own hup haddr
  simp only [exec, execMpRead, hans, Bool.not_true, Bool.false_eq_true, if_false, Nat.mod_eq_of_lt hoff, State.mpAt]

end

/-- A byte of a mailbox's command buffer (R455). -/
theorem State.mpByte_buffer (s : State) {m o : Nat} (i : Nat) (b : Byte) (hm : m < 4) (ho : o < 512) :
    s.mpByte (1024 * m + o) i b = s.bufferWrite 4 m o [b] := by
  have hlow : 1024 * m + o < 0x1000 := by omega
  have hbox : (1024 * m + o) / 1024 = m := by omega
  have hin : (1024 * m + o) % 1024 = o := by omega
  simp [State.mpByte, hlow, hbox, hin, ho]

/-- The first bytes of a doorbell have no effect of their own (R457). -/
theorem State.mpByte_doorbell_early (s : State) (m i : Nat) (b : Byte) (hi : i < 3) : s.mpByte (0x1000 + 16 * m + i) i b = s := by
  have hhigh : ¬ 0x1000 + 16 * m + i < 0x1000 := by omega
  have hearly : ¬ 3 ≤ i := by omega
  rw [State.mpByte, if_neg hhigh, if_neg (fun h => hearly h.2.2.1)]

/-- The fourth byte of a doorbell rings the mailbox when RING is set (R457). -/
theorem State.mpByte_doorbell (s : State) {m : Nat} (b : Byte) (hm : m < 4) :
    s.mpByte (0x1000 + 16 * m + 3) 3 b = if bitAt b.toNat 7 = true then s.ring 4 m else s := by
  have hhigh : ¬ 0x1000 + 16 * m + 3 < 0x1000 := by omega
  have hdoor : 0x1000 + 16 * m + 3 < 0x1040 := by omega
  have hpos : (0x1000 + 16 * m + 3) % 16 = 3 := by omega
  have hbox : (0x1000 + 16 * m + 3 - 0x1000) / 16 = m := by omega
  simp only [State.mpByte, hhigh, hdoor, hpos, hbox, if_false, le_refl, true_and]

/-- The four bytes of a doorbell (R453, R457). -/
theorem State.mpBytes_doorbell (s : State) {m : Nat} (b0 b1 b2 b3 : Byte) (hm : m < 4) :
    State.mpBytes (0x1000 + 16 * m) 0 [b0, b1, b2, b3] s = if bitAt b3.toNat 7 = true then s.ring 4 m else s := by
  have hwrap (i : Nat) (hi : i < 4) : (0x1000 + 16 * m + i) % 65536 = 0x1000 + 16 * m + i := by omega
  have h0 := s.mpByte_doorbell_early m 0 b0 (by decide)
  have h1 := s.mpByte_doorbell_early m 1 b1 (by decide)
  have h2 := s.mpByte_doorbell_early m 2 b2 (by decide)
  have h3 := s.mpByte_doorbell b3 hm
  simp only [State.mpBytes, Nat.add_zero] at h0 ⊢
  rw [h0, Nat.zero_add, hwrap 1 (by decide), h1, Nat.add_assoc (0x1000 + 16 * m) 1 1, hwrap 2 (by decide), h2,
    Nat.add_assoc (0x1000 + 16 * m) 2 1, hwrap 3 (by decide), h3]

/-- A byte of a mailbox's reply buffer (R455). -/
theorem State.mpGet_reply (s : State) {m o : Nat} (i : Nat) (hm : m < 4) (ho : o < 512) :
    s.mpGet (1024 * m + 512 + o) i = (s, tget 0#8 (s.mbox 4 m).rep o) := by
  have hlow : 1024 * m + 512 + o < 0x1000 := by omega
  have hbox : (1024 * m + 512 + o) / 1024 = m := by omega
  have hin : (1024 * m + 512 + o) % 1024 = 512 + o := by omega
  simp [State.mpGet, hlow, hbox, hin]

/-- The first byte of MB_STATUS latches it (R453). -/
theorem State.mpGet_status (s : State) {m : Nat} (i : Nat) (hm : m < 4) : s.mpGet (0x1000 + 16 * m + 4) i =
    ({ s with hosts.mpLatch := leBytes 4 (s.mbox 4 m).status }, (leBytes 4 (s.mbox 4 m).status).getD 0 0#8) := by
  have hhigh : ¬ 0x1000 + 16 * m + 4 < 0x1000 := by omega
  have hdoor : 0x1000 + 16 * m + 4 < 0x1040 := by omega
  have hpos : (0x1000 + 16 * m + 4) % 16 = 4 := by omega
  have hbox : (0x1000 + 16 * m + 4 - 0x1000) / 16 = m := by omega
  rw [State.mpGet, if_neg hhigh, if_pos ⟨hdoor, by omega, by omega, by omega⟩, if_pos hpos, hbox, hpos]

/-- The other bytes of MB_STATUS come from the latch (R453). -/
theorem State.mpGet_latched (s : State) {m i : Nat} (hm : m < 4) (hi : i < 4) (h0 : 0 < i) :
    s.mpGet (0x1000 + 16 * m + 4 + i) i = (s, s.hosts.mpLatch.getD i 0#8) := by
  have hhigh : ¬ 0x1000 + 16 * m + 4 + i < 0x1000 := by omega
  have hdoor : 0x1000 + 16 * m + 4 + i < 0x1040 ∧ 4 ≤ (0x1000 + 16 * m + 4 + i) % 16 ∧ (0x1000 + 16 * m + 4 + i) % 16 < 8 ∧
      (0x1000 + 16 * m + 4 + i) % 16 - 4 ≤ i := by omega
  have hpos : (0x1000 + 16 * m + 4 + i) % 16 - 4 = i := by omega
  have hlater : (0x1000 + 16 * m + 4 + i) % 16 ≠ 4 := by omega
  rw [State.mpGet, if_neg hhigh, if_pos hdoor, if_neg hlater, hpos]

/-- The four bytes of MB_STATUS (R453, R457). -/
theorem State.mpGets_status (s : State) {m : Nat} (hm : m < 4) : State.mpGets 4 (0x1000 + 16 * m + 4) 0 s [] =
    ({ s with hosts.mpLatch := leBytes 4 (s.mbox 4 m).status }, leBytes 4 (s.mbox 4 m).status) := by
  have hwrap (i : Nat) (hi : i < 4) : (0x1000 + 16 * m + 4 + i) % 65536 = 0x1000 + 16 * m + 4 + i := by omega
  simp only [State.mpGets]
  rw [s.mpGet_status 0 hm]
  dsimp only
  rw [Nat.zero_add, hwrap 1 (by decide), State.mpGet_latched _ hm (by decide) (by decide)]
  dsimp only
  rw [Nat.add_assoc (0x1000 + 16 * m + 4) 1 1, hwrap 2 (by decide), State.mpGet_latched _ hm (by decide) (by decide)]
  dsimp only
  rw [Nat.add_assoc (0x1000 + 16 * m + 4) 2 1, hwrap 3 (by decide), State.mpGet_latched _ hm (by decide) (by decide)]
  rfl

/-- Settles O15: the links change their port alone; a transaction of the management port goes byte by byte, and a doorbell or a status register acts by
its fourth or its first byte. -/
theorem hostPorts : Obligations.HostPorts := by
  unfold Obligations.HostPorts
  refine ⟨?perstLow, fun p s h => exec_perstNRise_high h, ?linkUp, fun p r s h hr => exec_configRequest_read h hr,
    fun p v s h => exec_configRequest_write .bar0 v h, ?d3hot, ?otherAddress, ?command, ?ring, ?noRing, ?reply, ?status, ?timeout⟩
  case perstLow => exact fun p s h => congrArg Host.Outcome.next (if_neg (by simp [h]))
  case linkUp => exact fun p speed width s htrain hawake => congrArg Host.Outcome.next (if_neg (by simp [htrain, hawake]))
  case d3hot =>
    intro p v s h hv
    rw [exec_configRequest_write .powerState v h, HostPort.cfgWrite_d3hot _ hv]
  case otherAddress => exact fun addr off data s hup haddr => congrArg Host.Outcome.next (if_pos (by simp [State.mpAnswers, hup, haddr]))
  case command =>
    intro addr off b s m o hup haddr hm ho hoff
    rw [exec_mpWrite_own hup haddr (by simp; omega), hoff]
    exact congrArg Host.Outcome.next (State.mpByte_buffer _ 0 b hm ho)
  case ring =>
    intro addr off b0 b1 b2 b3 s m hup haddr hm hoff hring
    rw [exec_mpWrite_own hup haddr (by simp; omega), hoff, State.mpBytes_doorbell _ b0 b1 b2 b3 hm, if_pos hring]
    rfl
  case noRing =>
    intro addr off b0 b1 b2 b3 s m hup haddr hm hoff hring
    rw [exec_mpWrite_own hup haddr (by simp; omega), hoff, State.mpBytes_doorbell _ b0 b1 b2 b3 hm, if_neg (by simp [hring])]
    rfl
  case reply =>
    intro addr off s m o hup haddr hm ho hoff
    rw [exec_mpRead_own hup haddr (by omega), hoff, State.mpGets, State.mpGet_reply _ 0 hm ho]
    rfl
  case status =>
    intro addr off s m hup haddr hm hoff
    rw [exec_mpRead_own hup haddr (by omega), hoff, State.mpGets_status _ hm]
    rfl
  case timeout => exact fun s hup => congrArg Host.Outcome.next (if_pos hup)

end Sys2Proof.Machine


/-! SUPPORT. Records of a section and the full load (R45, R92–R99, R104, R105): what the next record is, what blank and carried frames leave as it was,
and what the store's errors and the lanes' idling keep. -/

namespace Sys2Proof.Machine

/-! ### LOCKOUT's electrical idle keeps the mode -/

@[simp] theorem State.sendUnit_pw (s : State) (d p i typ pay : Nat) : (s.sendUnit d p i typ pay).pw = s.pw := (rfl)

@[simp] theorem State.evForward_pw (s : State) (d : Nat) (via : Option Nat) (mask : Nat) : (s.evForward d via mask).pw = s.pw := by
  unfold State.evForward
  exact foldl_keeps State.pw _ (fun u p => u.sendUnit_pw d p 0x80 4 mask) _ s

@[simp] theorem State.evLost_pw (s : State) (d : Nat) : (s.evLost d).pw = s.pw := by
  have hcount (u : State) (n : Nat) : (if u.cutOff n then u else u.count F.seamCounts_eventsLost n 0 1).pw = u.pw := by
    split <;> simp
  unfold State.evLost
  split
  · rfl
  · exact foldl_keeps State.pw _ (fun u e => foldl_keeps State.pw _ hcount _ u) _ s

@[simp] theorem State.raiseEv_pw (s : State) (d tenant l : Nat) : (s.raiseEv d tenant l).pw = s.pw := by
  simp [State.raiseEv, apply_ite State.pw]

@[simp] theorem State.updHoldover_pw (s : State) : s.updHoldover.pw = s.pw := by
  unfold State.updHoldover
  exact iter_keeps State.pw _ _ (fun n u => by simp [apply_ite State.pw]) s

@[simp] theorem State.carRequest_pw (s : State) (c : Nat) : (s.carRequest c).pw = s.pw := by
  unfold State.carRequest
  split
  · rfl
  · simp [apply_ite State.pw]

@[simp] theorem State.carrierLost_pw (s : State) (l : Nat) : (s.carrierLost l).pw = s.pw := by
  simp [State.carrierLost, apply_ite State.pw]

@[simp] theorem State.lnEv_pw (s : State) (l : Nat) : (s.lnEv l).pw = s.pw := by
  simp [State.lnEv, apply_ite State.pw]

@[simp] theorem State.setLnF_pw (s : State) (f : FRef) (l v : Nat) : (s.setLnF f l v).pw = s.pw := (rfl)

@[simp] theorem State.setLnSt_pw (s : State) (l v : Nat) : (s.setLnSt l v).pw = s.pw := by
  simp [State.setLnSt, apply_ite State.pw]

@[simp] theorem State.setLos_pw (s : State) (l : Nat) (b : Bool) : (s.setLos l b).pw = s.pw := by
  simp [State.setLos, apply_ite State.pw]

@[simp] theorem State.setLol_pw (s : State) (l : Nat) (b : Bool) : (s.setLol l b).pw = s.pw := by
  simp [State.setLol, apply_ite State.pw]

@[simp] theorem State.qAbort_pw (s : State) (k : Nat) : (s.qAbort k).pw = s.pw := by
  simp [State.qAbort, apply_ite State.pw]

@[simp] theorem State.qWrite_pw (s : State) (k data : Nat) (last poison : Bool) : (s.qWrite k data last poison).pw = s.pw := by
  simp [State.qWrite, apply_ite State.pw]

@[simp] theorem State.directPush_pw (s : State) (k : Nat) (l : List QWord) : (s.directPush k l).pw = s.pw := by
  induction l generalizing s with
  | nil => rfl
  | cons w t ih => simp [State.directPush, apply_ite State.pw, ih]

@[simp] theorem State.cutFrames_pw (s : State) (l : Nat) : (s.cutFrames l).pw = s.pw := by
  have hbusy : (if (s.lane l).txBusy then s.lnCount F.lnTxCounts_errEnd l 1 else s).pw = s.pw := by
    split <;> rfl
  unfold State.cutFrames
  dsimp only
  generalize (if (s.lane l).txBusy then s.lnCount F.lnTxCounts_errEnd l 1 else s) = u at hbusy ⊢
  rw [State.setLane_pw]
  split
  · split <;> simp [hbusy]
  · exact hbusy

@[simp] theorem State.laneOff_pw (s : State) (l : Nat) : (s.laneOff l).pw = s.pw := by
  simp [State.laneOff, State.setLn]

@[simp] theorem State.lanesIdle_pw (s : State) : s.lanesIdle.pw = s.pw := by
  unfold State.lanesIdle
  exact iter_keeps State.pw _ _ (fun n u => by simp [apply_ite State.pw]) s

theorem State.lockout_mode (s : State) (cause die : Nat) : (s.lockout cause die).pw.mode = .lockout := by
  simp [State.lockout]

/-! ### Errors of the store -/

@[simp] theorem State.eccLog_ld (s : State) (g : EGroup) (i : Nat) (ue : Bool) (unit loc p syn : Nat) : (s.eccLog g i ue unit loc p syn).ld = s.ld := by
  unfold State.eccLog
  split
  · rfl
  · simp [apply_ite State.ld]

@[simp] theorem State.eccError_ld (s : State) (g : EGroup) (i : Nat) (ue : Bool) (unit loc p syn : Nat) :
    (s.eccError g i ue unit loc p syn).ld = s.ld := by
  simp [State.eccError, apply_ite State.ld]

@[simp] theorem State.storeErrs_ld (s : State) (d : Nat) (l : List Bool) : (s.storeErrs d l).ld = s.ld :=
  foldl_keeps State.ld _ (fun _ _ => by simp) l s

/-- The code of a slot is a matter of the store and of the slots' states alone. -/
theorem State.slotCode_congr {s t : State} (h : s.ld = t.ld) (k : Nat) (u : Bool) : s.slotCode k u = t.slotCode k u := by
  simp [State.slotCode, State.slotState, State.slotHeader, State.storeBytes, h]

/-! ### The next record -/

/-- A read of an image in the store within its bytes (R95). -/
theorem State.imgRead_store {s : State} {c : LoadCtl} {o n : Nat} (hstore : c.hbm = none) (hfit : o + n ≤ c.srcLen) :
    s.imgRead c o n = (s, 0, s.storeBytes c.area o n) := by
  simp [State.imgRead, hstore, Nat.not_lt.mpr hfit]

theorem LoadCtl.fits_of_wellFormed {c : LoadCtl} {d : Nat} {h : List Byte} (hw : c.wellFormed d h = true) : c.pos + 8 + bodyLen h ≤ c.len := by
  simp only [LoadCtl.wellFormed, Bool.and_eq_true, decide_eq_true_eq] at hw
  exact hw.1

/-- The record at the controller's place is its next one. -/
theorem State.nextRec_of_takesRec {s : State} {r : Option Nat} {d : Nat} (h : s.takesRec r d) :
    s.nextRec (s.ctl r d) d = (s, .ok (s.recAt r d)) := by
  obtain ⟨-, hstore, hwf, hfit⟩ := h
  have hlen := LoadCtl.fits_of_wellFormed hwf
  have hroom : ¬ (s.ctl r d).len < (s.ctl r d).pos + 8 := by omega
  simp only [State.nextRec, if_neg hroom, State.imgRead_store hstore (Nat.le_trans (Nat.le_add_right _ _) hfit), hwf,
    State.imgRead_store hstore hfit, Bool.not_true, Bool.false_eq_true, if_false]
  rfl

/-- A row takes the record at its controller's place when it is of the row's type. -/
theorem State.takeRec_of_takesRec {s : State} {r : Option Nat} {d type : Nat} {x : Rec} (h : s.takesRec r d) (hx : s.recAt r d = x)
    (htype : x.type = type) (f : State → Rec → State) : s.takeRec r d type [] f = f s x := by
  have hrec := State.nextRec_of_takesRec h
  rw [hx] at hrec
  have hstore : (s.ctl r d).hbm = none := h.2.1
  simp [State.takeRec, h.1, hstore, State.storeErrs, unread, hrec, htype]

/-! ### Frames -/

/-- What writing frames leaves as it was: the controllers and the regions. -/
def State.loadFrame (s : State) : Tbl LoadCtl × Regions := (s.ld.ctls, s.rgn)

theorem State.ctl_congr {s t : State} (h : s.loadFrame = t.loadFrame) (r : Option Nat) (d : Nat) : s.ctl r d = t.ctl r d := by
  have hctls : s.ld.ctls = t.ld.ctls := congrArg Prod.fst h
  rw [State.ctl, State.ctl, hctls]

theorem State.inFence_congr {s t : State} (h : s.loadFrame = t.loadFrame) (r : Option Nat) (a : Nat) : s.inFence r a = t.inFence r a := by
  have hrgn : s.rgn = t.rgn := congrArg Prod.snd h
  cases r with
  | none => rfl
  | some r => simp [State.inFence, State.region, hrgn]

@[simp] theorem State.blankTo_none_ctl (s : State) (r r' : Option Nat) (d d' hi : Nat) : (s.blankTo r d hi none).1.ctl r' d' = s.ctl r' d' := (rfl)

/-- Without a frame that reads back wrong, the blank frames are all written. -/
theorem State.blankTo_none (s : State) (r : Option Nat) (d hi : Nat) :
    ∃ u, s.blankTo r d hi none = (u, true) ∧ u.loadFrame = s.loadFrame := ⟨_, rfl, rfl⟩

@[simp] theorem State.putFrame_loadFrame (s : State) (a v : Nat) : (s.putFrame a v).loadFrame = s.loadFrame := by
  unfold State.putFrame
  dsimp only
  repeat' split
  all_goals rfl

@[simp] theorem State.uninitFrame_loadFrame (s : State) (a : Nat) : (s.uninitFrame a).loadFrame = s.loadFrame := by
  unfold State.uninitFrame
  dsimp only
  repeat' split
  all_goals rfl

/-- A key that a filter drops reads as the default, whatever the table. -/
theorem tget_filter_keys {α : Type} (e : α) (t : Tbl α) {p : Nat → Bool} {i : Nat} (h : p i = false) : tget e (t.filter (fun x => p x.1)) i = e := by
  induction t with
  | nil => rfl
  | cons x t ih =>
    obtain ⟨k, v⟩ := x
    by_cases hk : p k = true
    · have hne : i ≠ k := by
        rintro rfl
        exact absurd hk (by simp [h])
      simp [hk, tget, hne, ih]
    · simp [hk, ih]

/-- A record's frames are all written when each is inside the fence and its check holds (R95, R98). -/
theorem State.putFrames_all {s : State} {r : Option Nat} {d : Nat} {x : Rec} {n : Nat} (hok : ∀ i < n, x.frameOk i = true)
    (hin : ∀ i < n, s.inFence r (x.addr + 1024 * i) = true) :
    s.putFrames r d x none none n = (iter n (fun i s => s.putFrame (x.addr + 1024 * i) (x.frame i)) s, true) := by
  induction n with
  | zero => rfl
  | succ n ih =>
    have hkeep := iter_keeps State.loadFrame n (fun i s => s.putFrame (x.addr + 1024 * i) (x.frame i)) (fun i u => u.putFrame_loadFrame _ _) s
    have hfence := (State.inFence_congr hkeep r (x.addr + 1024 * n)).trans (hin n (Nat.lt_succ_self n))
    have hprev := ih (fun i hi => hok i (Nat.lt_succ_of_lt hi)) (fun i hi => hin i (Nat.lt_succ_of_lt hi))
    simp [State.putFrames, hprev, iter_succ, hfence, hok n (Nat.lt_succ_self n)]

/-- Writing stops at a record's first frame when that fails. -/
theorem State.putFrames_stopped {s t : State} {r : Option Nat} {d : Nat} {x : Rec} {n : Nat} (h : s.putFrames r d x none none 1 = (t, false)) (hn : 0 < n) :
    s.putFrames r d x none none n = (t, false) := by
  induction n, hn using Nat.le_induction with
  | base => exact h
  | succ n _ ih => simp [State.putFrames, ih]

theorem State.putFrames_one_outside {s : State} {r : Option Nat} {d : Nat} {x : Rec} (h : s.inFence r x.addr = false) :
    s.putFrames r d x none none 1 = (s.ctlFail r d 0x23 x.addr, false) := by
  simp [State.putFrames, h]

theorem State.putFrames_one_badCheck {s : State} {r : Option Nat} {d : Nat} {x : Rec} (hin : s.inFence r x.addr = true) (h : x.frameOk 0 = false) :
    s.putFrames r d x none none 1 = (s.ctlFail r d 0x22 x.addr, false) := by
  simp [State.putFrames, hin, h]

/-! ### The rows of a section -/

section
variable {r : Option RegionId} {d : Die} {s : State} {x : Rec} (h : s.takesRec (r.map (·.val)) d) (hx : s.recAt (r.map (·.val)) d = x)
include h hx

theorem exec_framesRecord_all (htype : x.type = 1) (hok : ∀ i < x.count, x.frameOk i = true)
    (hin : ∀ i < x.count, s.inFence (r.map (·.val)) (x.addr + 1024 * i) = true) :
    exec (.framesRecord r d [] none none none) s = .next (State.setCtl
      (iter x.count (fun i s => s.putFrame (x.addr + 1024 * i) (x.frame i)) (s.blankTo (r.map (·.val)) d x.addr none).1)
      (r.map (·.val)) d ((s.ctl (r.map (·.val)) d).took x)) := by
  refine congrArg Host.Outcome.next ((State.takeRec_of_takesRec h hx htype _).trans ?_)
  obtain ⟨u, hblank, hu⟩ := s.blankTo_none (r.map (·.val)) d x.addr
  have hput := State.putFrames_all (d := d) hok (fun i hi => (State.inFence_congr hu _ _).trans (hin i hi))
  have hkeep := iter_keeps State.loadFrame x.count (fun i s => s.putFrame (x.addr + 1024 * i) (x.frame i)) (fun i u => u.putFrame_loadFrame _ _) u
  simp only [Option.map_none, hblank, hput, State.ctl_congr (hkeep.trans hu)]

/-- Writing the blank frames and then the first carried one that fails ends the section there. -/
theorem exec_framesRecord_stopped {code : Nat} (htype : x.type = 1) (hcount : 0 < x.count)
    (hstop : ∀ u : State, u.loadFrame = s.loadFrame →
      u.putFrames (r.map (·.val)) d x none none 1 = (u.ctlFail (r.map (·.val)) d code x.addr, false)) :
    exec (.framesRecord r d [] none none none) s = .next (((s.blankTo (r.map (·.val)) d x.addr none).1).ctlFail (r.map (·.val)) d code x.addr) := by
  refine congrArg Host.Outcome.next ((State.takeRec_of_takesRec h hx htype _).trans ?_)
  obtain ⟨u, hblank, hu⟩ := s.blankTo_none (r.map (·.val)) d x.addr
  simp only [Option.map_none, hblank, State.putFrames_stopped (hstop u hu) hcount]

theorem exec_tagRecord_good (htype : x.type = 3) (hdigest : (s.ctl (r.map (·.val)) d).digestOk x = true)
    (hend : ∀ n, ((s.ctl (r.map (·.val)) d).took x).endSeen = some n → n = (s.ctl (r.map (·.val)) d).frames) :
    exec (.tagRecord r d []) s = .next (s.setCtl (r.map (·.val)) d ((s.ctl (r.map (·.val)) d).took x)) := by
  refine congrArg Host.Outcome.next ((State.takeRec_of_takesRec h hx htype _).trans ?_)
  cases he : ((s.ctl (r.map (·.val)) d).took x).endSeen with
  | none => simp [hdigest, he]
  | some n => simp [hdigest, he, hend n he]

theorem exec_tagRecord_bad (htype : x.type = 3) (hdigest : (s.ctl (r.map (·.val)) d).digestOk x = false) :
    exec (.tagRecord r d []) s = .next (s.ctlFail (r.map (·.val)) d 0x22 x.addr) := by
  refine congrArg Host.Outcome.next ((State.takeRec_of_takesRec h hx htype _).trans ?_)
  simp [hdigest]

end

theorem exec_uninitRecord_all {d : Die} {s : State} {x : Rec} (h : s.takesRec none d) (hx : s.recAt none d = x) (htype : x.type = 2) :
    exec (.uninitRecord none d [] none) s = .next (State.setCtl
      (iter x.count (fun i s => s.uninitFrame (x.addr + 1024 * i)) (s.blankTo none d x.addr none).1) none d ((s.ctl none d).took x)) := by
  refine congrArg Host.Outcome.next ((State.takeRec_of_takesRec h hx htype _).trans ?_)
  obtain ⟨u, hblank, hu⟩ := s.blankTo_none none d x.addr
  have hkeep := iter_keeps State.loadFrame x.count (fun i s => s.uninitFrame (x.addr + 1024 * i)) (fun i u => u.uninitFrame_loadFrame _) u
  simp only [Option.map_none, hblank, State.inFence, if_true, State.ctl_congr (hkeep.trans hu)]

/-- An error that the store cannot correct in a record's header fails the section (R96). -/
theorem exec_framesRecord_unread {r : Option RegionId} {d : Die} {s : State} (hruns : s.ctlRuns (r.map (·.val)) d = true)
    (hstore : (s.ctl (r.map (·.val)) d).hbm = none) :
    exec (.framesRecord r d [true] none none none) s =
      .next ((s.storeErrs d [true]).ctlFail (r.map (·.val)) d 0x22 ((s.ctl (r.map (·.val)) d).lastAddr.getD 0)) := by
  refine congrArg Host.Outcome.next ?_
  simp [State.takeRec, hruns, hstore, unread]

/-! ### Reports of the dies -/

section
variable {d : Die} {s : State} (hactive : (s.ctl none d).active = true) (hreported : (s.ctl none d).reported = false)
include hactive hreported

theorem exec_dieLoadDone_failed {code : Nat} (hfail : (s.ctl none d).fail = some code) :
    exec (.dieLoadDone d none) s = .next (State.ctrlSend (s.setCtl none d { s.ctl none d with reported := true }) 6 d 0) := by
  have hend : s.ctlEnd none d = some (some code) := by simp [State.ctlEnd, hfail]
  have hsame : ({ s.ctl none d with reported := true, fail := some code, failAddr := (s.ctl none d).failAddr } : LoadCtl) =
      { s.ctl none d with reported := true } := by rw [← hfail]
  refine congrArg Host.Outcome.next ?_
  rw [State.ctlReport, if_neg (by simp [hactive, hreported]), hend, ← hsame]
  simp only [hfail, Option.isSome_some, if_true]

/-- A section ends well, its die's remaining frames blank, when the bytes and the frames that it was to carry are there. -/
theorem exec_dieLoadDone_done {gap : Option Word32} (hend : s.ctlEnd none d = some none) (hother : s.otherFailed none = false) :
    exec (.dieLoadDone d gap) s = .next (State.ctrlSend (State.setCtl (s.blankTo none d ((d.val + 1) * 2 ^ 30) (gap.map (·.toNat))).1 none d
      { (s.blankTo none d ((d.val + 1) * 2 ^ 30) (gap.map (·.toNat))).1.ctl none d with reported := true }) 6 d 0) := by
  refine congrArg Host.Outcome.next ?_
  rw [State.ctlReport, if_neg (by simp [hactive, hreported]), hend]
  simp only [hother, Bool.false_eq_true, if_false]

end

theorem State.ctlEnd_empty {s : State} {d : Nat} (hfail : (s.ctl none d).fail = none) (hother : s.otherFailed none = false)
    (hshort : (s.ctl none d).short = false) (hlen : (s.ctl none d).len = 0) (hframes : (s.ctl none d).frames = 0) : s.ctlEnd none d = some none := by
  simp [State.ctlEnd, hfail, hother, hshort, hlen, hframes]

theorem State.ctlEnd_tagged {s : State} {d : Nat} (hfail : (s.ctl none d).fail = none) (hother : s.otherFailed none = false)
    (hshort : (s.ctl none d).short = false) (hlen : (s.ctl none d).len ≠ 0) (hend : (s.ctl none d).endSeen = some (s.ctl none d).frames) :
    s.ctlEnd none d = some none := by
  simp [State.ctlEnd, hfail, hother, hshort, hlen, hend]

theorem State.setCtl_setCtl (s : State) (r : Option Nat) (d : Nat) {b c : LoadCtl} (hb : b ≠ LoadCtl.init) (hc : c ≠ LoadCtl.init) :
    (s.setCtl r d b).setCtl r d c = s.setCtl r d c := by
  simp [State.setCtl, tput, hb, hc, tins_tins]

theorem State.ctl_setCtl (s : State) (r : Option Nat) (d : Nat) {c : LoadCtl} (hc : c ≠ LoadCtl.init) : (s.setCtl r d c).ctl r d = c := by
  simp [State.ctl, State.setCtl, tget_tput_ne _ _ _ _ hc]

theorem LoadCtl.ne_init_of_fail {c : LoadCtl} {code : Nat} (h : c.fail = some code) : c ≠ LoadCtl.init := by
  rintro rfl
  exact absurd h (by simp [LoadCtl.init])

/-- A frame of die d lies below the next die's frames. -/
theorem lt_of_framesOk {d n : Nat} (g : Word32) (h : framesOk d g.toNat n = true) : g.toNat < (d + 1) * 2 ^ 30 := by
  have hd : bits g.toNat 31 30 = d := by
    simp only [framesOk, Bool.and_eq_true, decide_eq_true_eq] at h
    exact h.1.1
  simp only [bits] at hd
  omega

/-- The blank pattern up to a frame that reads back wrong twice (R98). -/
theorem State.blankTo_gap {s : State} {d : Nat} (g : Word32) (hlo : (s.ctl none d).from d ≤ g.toNat) (hof : s.frameOf none d g.toNat = true) :
    (s.blankTo none d ((d + 1) * 2 ^ 30) (some g.toNat)).1 = ((s.blankTo none d (g.toNat + 1) none).1).ctlFail none d 0xFF g.toNat := by
  have hframe : framesOk d g.toNat 1 = true := by
    simp only [State.frameOf, Bool.and_eq_true] at hof
    exact hof.1
  have hhi := lt_of_framesOk g hframe
  simp only [State.blankTo, hlo, hhi, hof, and_self, if_true]

theorem exec_dieLoadDone_gap {d : Die} (g : Word32) {s : State} (hactive : (s.ctl none d).active = true) (hreported : (s.ctl none d).reported = false)
    (hend : s.ctlEnd none d = some none) (hother : s.otherFailed none = false) (hlo : (s.ctl none d).from d ≤ g.toNat)
    (hof : s.frameOf none d g.toNat = true) :
    exec (.dieLoadDone d (some g)) s = .next (State.ctrlSend (State.setCtl (s.blankTo none d (g.toNat + 1) none).1 none d
      { s.ctl none d with reported := true, fail := some 0xFF, failAddr := g.toNat }) 6 d 0) := by
  have hne : ({ s.ctl none d with fail := some 0xFF, failAddr := g.toNat } : LoadCtl) ≠ LoadCtl.init := LoadCtl.ne_init_of_fail rfl
  have hne' : ({ s.ctl none d with reported := true, fail := some 0xFF, failAddr := g.toNat } : LoadCtl) ≠ LoadCtl.init := LoadCtl.ne_init_of_fail rfl
  rw [exec_dieLoadDone_done hactive hreported hend hother, Option.map_some, State.blankTo_gap g hlo hof, State.ctlFail, State.blankTo_none_ctl,
    State.ctl_setCtl _ _ _ hne, State.setCtl_setCtl _ _ _ hne hne']

/-! ### The full load -/

theorem State.slotCode_primary_good {s : State} {k : Nat} (hk : k ≠ 2) (hstate : s.slotState k = 2) (hok : headerOk (s.slotHeader k) 1 = true)
    (hsigned : headerSigned (s.slotHeader k) = true) : s.slotCode k false = 0 := by
  simp [State.slotCode, hk, hstate, hok, hsigned]

theorem State.slotCode_golden_good {s : State} (hstate : s.ld.golden ≠ 3) (hok : headerOk (s.slotHeader 2) 2 = true)
    (hsigned : headerSigned (s.slotHeader 2) = true) : s.slotCode 2 false = 0 := by
  simp [State.slotCode, hstate, hok, hsigned]

theorem State.loadSlot_fellBack {s : State} (h : s.ld.fellBack = true) : s.loadSlot = 2 := by
  simp [State.loadSlot, h]

section
variable {maps bad : List (Nat × Nat)} {s : State} (hmode : s.pw.mode = .load) (hidle : s.ld.loading = 0) (hmore : s.pw.loadDone = false)
include hmode hidle hmore

theorem exec_headerAuthenticated_primary (hfirst : s.ld.fellBack = false) (hcode : s.slotCode s.loadSlot false = 0) :
    exec (.headerAuthenticated maps bad []) s = .next
      (iter 4 (fun d t => (t.setCtl none d (mkCtl (s.slotHeader s.loadSlot) d (slotArea s.loadSlot) none (areaSize (slotArea s.loadSlot)))).ctrlSend 6 0 d)
        { s with eng := tmap Engine.init (fun _ e => e.memories) s.eng, fab.cfg := [], fab.ffs := [], fab.muls := [], fab.seamFfs := [],
                 fab.xings := [], fab.seamCfg := [], fab.seamClk := [], fab.xcfg := [], fab.io := [], ld.loading := s.loadSlot + 1,
                 ld.imgSlack := hSlack (s.slotHeader s.loadSlot) }) := by
  refine congrArg Host.Outcome.next ?_
  simp [hmode, hidle, hmore, hfirst, hcode, State.storeErrs, unread]

theorem exec_headerAuthenticated_golden {t : State} (hback : s.ld.fellBack = true) (hcode : s.slotCode 2 false = 0)
    (ht : s.reassign (s.slotHeader 2) maps bad = t) (htmode : t.pw.mode = .load) :
    exec (.headerAuthenticated maps bad []) s = .next
      (iter 4 (fun d t => (t.setCtl none d (mkCtl (s.slotHeader 2) d 1 none (areaSize 1))).ctrlSend 6 0 d)
        { t with eng := tmap Engine.init (fun _ e => e.memories) t.eng, fab.cfg := [], fab.ffs := [], fab.muls := [], fab.seamFfs := [],
                 fab.xings := [], fab.seamCfg := [], fab.seamClk := [], fab.xcfg := [], fab.io := [], ld.loading := 3,
                 ld.imgSlack := hSlack (s.slotHeader 2) }) := by
  refine congrArg Host.Outcome.next ?_
  simp [hmode, hidle, hmore, hback, State.loadSlot_fellBack hback, hcode, ht, htmode, State.storeErrs, unread, slotArea]

theorem exec_headerAuthenticated_refused {errs : List Bool} (hcode : s.slotCode s.loadSlot (unread errs) ≠ 0) :
    exec (.headerAuthenticated maps bad errs) s = .next ((s.storeErrs 0 errs).loadFail 0 (s.slotCode s.loadSlot (unread errs)) 0) := by
  refine congrArg Host.Outcome.next ?_
  simp [hmode, hidle, hmore, State.slotCode_congr (s.storeErrs_ld 0 errs), hcode]

end

section
variable {cfg : ImageCfg} {s : State} (hmode : s.pw.mode = .load) (hloading : s.ld.loading ≠ 0)
include hmode hloading

theorem exec_loadComplete_good (hall : ∀ d < 4, (s.ctl none d).reported = true ∧ (s.ctl none d).fail = none) (hslot : s.loadSlot ≠ 2) :
    exec (.loadComplete cfg) s = .next (State.huddleCheck
      (let t := State.applyImage { s with ld.ctls := s.ld.ctls.filter (fun e => decide (4 ≤ e.1)), ld.repLoaded := s.loadSlot + 1 } cfg
       { t with pw.loadDone := true })) := by
  have hreported : (List.range 4).all (fun d => (s.ctl none d).reported) = true := by
    simpa using fun d hd => (hall d hd).1
  have hnone : (List.range 4).find? (fun d => (s.ctl none d).fail.isSome) = none := by
    simpa using fun d hd => (hall d hd).2
  refine congrArg Host.Outcome.next ?_
  simp [hmode, hloading, hreported, hnone, hslot]

theorem exec_loadComplete_failed {code : Nat} (hall : ∀ d < 4, (s.ctl none d).reported = true) (hfail : (s.ctl none 0).fail = some code) :
    exec (.loadComplete cfg) s = .next (s.loadFail 0 code (s.ctl none 0).failAddr) := by
  have hreported : (List.range 4).all (fun d => (s.ctl none d).reported) = true := by
    simpa using hall
  have hfirst : (List.range 4).find? (fun d => (s.ctl none d).fail.isSome) = some 0 := by
    simp [List.range_succ, hfail]
  refine congrArg Host.Outcome.next ?_
  simp [hmode, hloading, hreported, hfirst, hfail]

end

theorem State.loadFail_primary {s : State} (die code addr : Nat) (hslot : s.loadSlot ≠ 2) (hfirst : s.ld.fellBack = false) :
    s.loadFail die code addr = { s with ld.ctls := s.ld.ctls.filter (fun e => decide (4 ≤ e.1)), ld.loading := 0, ld.repDie := die,
                                        ld.repAddr := addr, ld.repPrimary := code, ld.fellBack := true } := by
  simp [State.loadFail, hslot, hfirst]

theorem State.loadFail_golden {s : State} (die code addr : Nat) (hslot : s.loadSlot = 2) : (s.loadFail die code addr).pw.mode = .lockout := by
  simp [State.loadFail, hslot, State.lockout_mode]

theorem State.slotCode_primary {s : State} {k : Nat} (hk : k < 2) :
    (s.slotState k ≠ 2 → s.slotCode k false = 0x21) ∧
    (s.slotState k = 2 → headerOk (s.slotHeader k) 1 = false → s.slotCode k false = 0x20) ∧
    (s.slotState k = 2 → headerOk (s.slotHeader k) 1 = true → headerSigned (s.slotHeader k) = false → s.slotCode k false = 0x22) := by
  have hne : k ≠ 2 := Nat.ne_of_lt hk
  refine ⟨fun hstate => ?_, fun hstate hbad => ?_, fun hstate hok hunsigned => ?_⟩
  · simp [State.slotCode, hne, hstate]
  · simp [State.slotCode, hne, hstate, hbad]
  · simp [State.slotCode, hne, hstate, hok, hunsigned]

/-- The frames that the image does not carry read zero (R97). -/
theorem State.tget_blankTo {s : State} {r : Option Nat} {d hi a : Nat} (hlo : (s.ctl r d).from d ≤ a) (hhi : a < hi) (hof : s.frameOf r d a = true) :
    tget 0#4096 (s.blankTo r d hi none).1.ld.frames a = 0#4096 :=
  tget_filter_keys (p := fun x => !(decide ((s.ctl r d).from d ≤ x) && decide (x < hi) && s.frameOf r d x)) _ _ (by simp [hlo, hhi, hof])

/-- Settles O19: each row takes the record at its controller's place or fails its section, and the load ends by its reports. -/
theorem configurationLoad : Obligations.ConfigurationLoad := by
  unfold Obligations.ConfigurationLoad
  refine ⟨fun r d s x h hx htype hok hin => exec_framesRecord_all h hx htype hok hin, ?outside, ?badCheck,
    fun d s x h hx htype => exec_uninitRecord_all h hx htype, fun r d s x h hx htype hdigest hend => exec_tagRecord_good h hx htype hdigest hend,
    fun r d s x h hx htype hdigest => exec_tagRecord_bad h hx htype hdigest, fun r d s hruns hstore => exec_framesRecord_unread hruns hstore,
    ?primary, ?golden, fun maps bad errs s hmode hidle hmore hcode => exec_headerAuthenticated_refused hmode hidle hmore hcode,
    fun s k hk => State.slotCode_primary hk, ?done, fun d s code hactive hreported hfail => exec_dieLoadDone_failed hactive hreported hfail,
    fun cfg s hmode hloading hall hslot => exec_loadComplete_good hmode hloading hall hslot,
    fun cfg s code hmode hloading hall hfail => exec_loadComplete_failed hmode hloading hall hfail,
    fun s die code addr hslot hfirst => State.loadFail_primary die code addr hslot hfirst,
    fun s die code addr hslot => State.loadFail_golden die code addr hslot, ?gap, ?blank⟩
  case outside =>
    exact fun r d s x h hx htype hcount hout => exec_framesRecord_stopped (r := some r) h hx htype hcount
      (fun u hu => State.putFrames_one_outside ((State.inFence_congr hu _ _).trans hout))
  case badCheck =>
    exact fun r d s x h hx htype hcount hin hbad => exec_framesRecord_stopped h hx htype hcount
      (fun u hu => State.putFrames_one_badCheck ((State.inFence_congr hu _ _).trans hin) hbad)
  case primary =>
    exact fun maps bad s hmode hidle hmore hfirst hslot hstate hok hsigned =>
      exec_headerAuthenticated_primary hmode hidle hmore hfirst (State.slotCode_primary_good hslot hstate hok hsigned)
  case golden =>
    exact fun maps bad s t hmode hidle hmore hback hgolden hok hsigned ht htmode =>
      exec_headerAuthenticated_golden hmode hidle hmore hback (State.slotCode_golden_good hgolden hok hsigned) ht htmode
  case done =>
    intro d s hactive hreported hfail hother hshort hcarried
    have hend : s.ctlEnd none d = some none := by
      rcases hcarried with ⟨hlen, hframes⟩ | ⟨hlen, hseen⟩
      · exact State.ctlEnd_empty hfail hother hshort hlen hframes
      · exact State.ctlEnd_tagged hfail hother hshort hlen hseen
    exact exec_dieLoadDone_done (gap := none) hactive hreported hend hother
  case gap =>
    exact fun d g s hactive hreported hfail hother hshort hlen hframes hlo hof =>
      exec_dieLoadDone_gap g hactive hreported (State.ctlEnd_empty hfail hother hshort hlen hframes) hother hlo hof
  case blank =>
    exact fun s r d hi a hlo hlast hhi hof => State.tget_blankTo (by simpa [LoadCtl.from, hlast] using hlo) hhi hof

end Sys2Proof.Machine


/-! SUPPORT. DMA channels (R271–R282): writes of registers whose keys may lie anywhere, the arithmetic of bursts and pieces, and what each row of a
channel does. -/

namespace Sys2Proof.Machine

/-! ### Tables whose keys rise -/

/-- The keys of a table rise strictly, whatever its values. -/
def Tbl.rising {α : Type} (t : Tbl α) : Prop := t.Pairwise (fun a b => a.1 < b.1)

section
variable {α : Type}

theorem Tbl.rising_of_sortedFrom [DecidableEq α] {d : Nat → α} {lo : Option Nat} {t : Tbl α} (h : Tbl.sortedFrom d lo t = true) :
    t.rising ∧ ∀ l, lo = some l → ∀ x ∈ t, l < x.1 := by
  induction t generalizing lo with
  | nil => exact ⟨List.Pairwise.nil, fun l _ x hx => absurd hx (by simp)⟩
  | cons x t ih =>
    obtain ⟨k, v⟩ := x
    obtain ⟨hlo, -, ht⟩ := (Tbl.sortedFrom_cons d lo k v t).mp h
    obtain ⟨hrise, habove⟩ := ih ht
    have hk := habove k rfl
    refine ⟨List.pairwise_cons.mpr ⟨hk, hrise⟩, fun l hl x hx => ?_⟩
    rcases List.mem_cons.mp hx with rfl | hx
    · exact hlo l hl
    · exact (hlo l hl).trans (hk x hx)

theorem Tbl.rising_of_wf [DecidableEq α] {d : Nat → α} {t : Tbl α} (h : Tbl.wf d t = true) : t.rising := (Tbl.rising_of_sortedFrom h).1

theorem mem_tins {t : Tbl α} {i : Nat} {v : α} {x : Nat × α} (h : x ∈ tins t i v) : x = (i, v) ∨ x ∈ t := by
  induction t with
  | nil => exact .inl (by simpa [tins] using h)
  | cons y t ih =>
    obtain ⟨k, u⟩ := y
    simp only [tins] at h
    split_ifs at h
    · exact (List.mem_cons.mp h).imp_right (List.mem_cons_of_mem _)
    · exact List.mem_cons.mp h
    · rcases List.mem_cons.mp h with rfl | h
      · exact .inr List.mem_cons_self
      · exact (ih h).imp_right (List.mem_cons_of_mem _)

theorem tdel_sublist (t : Tbl α) (i : Nat) : (tdel t i).Sublist t := by
  induction t with
  | nil => exact List.Sublist.refl _
  | cons y t ih =>
    obtain ⟨k, u⟩ := y
    simp only [tdel]
    split_ifs
    · exact List.sublist_cons_self _ _
    · exact List.Sublist.refl _
    · exact ih.cons_cons _

theorem Tbl.rising_tins {t : Tbl α} (h : t.rising) (i : Nat) (v : α) : (tins t i v : Tbl α).rising := by
  induction t with
  | nil => simp [tins, Tbl.rising]
  | cons y t ih =>
    obtain ⟨k, u⟩ := y
    obtain ⟨hk, ht⟩ := List.pairwise_cons.mp h
    simp only [tins]
    split_ifs with heq hlt
    · subst heq
      exact List.pairwise_cons.mpr ⟨hk, ht⟩
    · refine List.pairwise_cons.mpr ⟨fun x hx => ?_, h⟩
      rcases List.mem_cons.mp hx with rfl | hx
      · exact hlt
      · exact hlt.trans (hk x hx)
    · refine List.pairwise_cons.mpr ⟨fun x hx => ?_, ih ht⟩
      rcases mem_tins hx with rfl | hx
      · exact show k < i by omega
      · exact hk x hx

theorem Tbl.rising_tput [DecidableEq α] {t : Tbl α} (h : t.rising) (e : α) (i : Nat) (v : α) : (tput e t i v : Tbl α).rising := by
  rw [tput]
  split
  · exact h.sublist (tdel_sublist t i)
  · exact Tbl.rising_tins h i v

/-- A key below those of a table is not listed in it. -/
theorem tget_of_below (e : α) {t : Tbl α} {j : Nat} (h : ∀ x ∈ t, j < x.1) : tget e t j = e := by
  cases t with
  | nil => rfl
  | cons x t =>
    have hx : j < x.1 := h x List.mem_cons_self
    simp [tget, hx.ne, hx]

theorem tget_tdel_rising (e : α) {t : Tbl α} (h : t.rising) {i j : Nat} (hne : j ≠ i) : tget e (tdel t i) j = tget e t j := by
  induction t with
  | nil => rfl
  | cons y t ih =>
    obtain ⟨k, u⟩ := y
    obtain ⟨hk, ht⟩ := List.pairwise_cons.mp h
    simp only [tdel]
    split_ifs with heq hlt
    · subst heq
      by_cases hj : j < i
      · rw [tget_of_below e (fun x hx => hj.trans (hk x hx))]
        simp [tget, hne, hj]
      · simp [tget, hne, hj]
    · rfl
    · simp [tget, ih ht]

/-- Writing a key of a table whose keys rise leaves the others. -/
theorem tget_tput_rising [DecidableEq α] (e e' : α) {t : Tbl α} (h : t.rising) {i j : Nat} (v : α) (hne : j ≠ i) :
    tget e (tput e' t i v) j = tget e t j := by
  rw [tput]
  split
  · exact tget_tdel_rising e h hne
  · exact tget_tins_other e t i j v hne

end

theorem State.setReg_rising {s : State} (h : s.regs.rising) (r : Rg) (i j v : Nat) : (s.setReg r i j v).regs.rising :=
  Tbl.rising_tput h _ _ _

/-- A write of a register leaves one at another address where the storage's keys rise. -/
theorem State.reg_setReg_rising {s : State} (h : s.regs.rising) {r r' : Rg} {i j i' j' : Nat} (v : Nat) (hne : r'.key i' j' ≠ r.key i j) :
    (s.setReg r i j v).reg r' i' j' = s.reg r' i' j' := by
  simp only [State.reg, State.setReg]
  rw [tget_tput_rising _ _ h _ hne]

/-- Two registers of one block and channel lie apart. -/
theorem Rg.key_ne_of_offset {r r' : Rg} {i j : Nat} (hblk : r'.info.blk = r.info.blk) (hstride : r'.info.stride = r.info.stride)
    (hoff : r'.info.off ≠ r.info.off) : r'.key i j ≠ r.key i j := by
  simp only [Rg.key, hblk, hstride]
  omega

/-! ### Starting -/

/-- What a start writes leaves CH_HEAD. -/
theorem State.chHead_setReg {s : State} (h : s.regs.rising) (r : Rg) (v k : Nat) (hblk : Rg.chHeadLo.info.blk = r.info.blk)
    (hstride : Rg.chHeadLo.info.stride = r.info.stride) (hlo : Rg.chHeadLo.info.off ≠ r.info.off) (hhi : Rg.chHeadHi.info.off ≠ r.info.off) :
    (s.setReg r (k / 32) (k % 32) v).chHead k = s.chHead k := by
  have h1 := State.reg_setReg_rising h v (Rg.key_ne_of_offset (r' := .chHeadLo) (i := k / 32) (j := k % 32) hblk hstride hlo)
  have h2 := State.reg_setReg_rising h v (Rg.key_ne_of_offset (r' := .chHeadHi) (i := k / 32) (j := k % 32) hblk hstride hhi)
  simp only [State.chHead, State.getF, h1, h2]

/-- The registers as a start leaves them. -/
def State.dmaStartRegs (s : State) (k : Nat) : State :=
  (((s.setReg .chStatus (k / 32) (k % 32) 0).setChState k 1).setChDesc k (((s.setReg .chStatus (k / 32) (k % 32) 0).setChState k 1).chHead k))

theorem State.chHead_dmaStartRegs {s : State} (h : s.regs.rising) (k : Nat) : (s.dmaStartRegs k).chHead k = s.chHead k := by
  have h1 : (s.setReg .chStatus (k / 32) (k % 32) 0).regs.rising := State.setReg_rising h _ _ _ _
  have h2 : ((s.setReg .chStatus (k / 32) (k % 32) 0).setChState k 1).regs.rising := State.setReg_rising h1 _ _ _ _
  have hdesc (u : State) (hu : u.regs.rising) (a : Nat) : (u.setChDesc k a).chHead k = u.chHead k := by
    rw [State.setChDesc, State.setPair, State.chHead_setReg (State.setReg_rising hu _ _ _ _) .chDescHi _ _ rfl rfl (by decide) (by decide),
      State.chHead_setReg hu .chDescLo _ _ rfl rfl (by decide) (by decide)]
  rw [State.dmaStartRegs, hdesc _ h2, State.setChState, State.setF,
    State.chHead_setReg h1 F.chStatus_state.rg _ _ rfl rfl (by decide) (by decide), State.chHead_setReg h .chStatus _ _ rfl rfl (by decide) (by decide)]

theorem State.dmaStart_eq (s : State) (k : Nat) : s.dmaStart k = (s.dmaStartRegs k).setChan k
    { Channel.init with want := some ((s.dmaStartRegs k).chHead k), owner := ((s.dmaStartRegs k).chan k).owner,
                        ended := ((s.dmaStartRegs k).chan k).ended } := by
  simp only [State.dmaStart, State.dmaStartRegs]

theorem State.dmaStartRegs_keeps (s : State) (k : Nat) :
    (s.dmaStartRegs k).pw = s.pw ∧ (s.dmaStartRegs k).hosts = s.hosts ∧ (s.dmaStartRegs k).net = s.net := by
  simp [State.dmaStartRegs, State.setChDesc, State.setPair, State.setChState]

theorem Channel.ne_init_of_want {c : Channel} {a : Nat} (h : c.want = some a) : c ≠ Channel.init := by
  rintro rfl
  exact absurd h (by simp [Channel.init])

/-- A channel as a start leaves it. -/
def Channel.started (c : Channel) (head : Nat) : Channel := { Channel.init with want := some head, owner := c.owner, ended := c.ended }

theorem State.setChan_started (s : State) (k head : Nat) (c : Channel) :
    (s.setChan k (c.started head)).chan k = c.started head ∧ (s.setChan k (c.started head)).pw = s.pw ∧
      (s.setChan k (c.started head)).hosts = s.hosts ∧ (s.setChan k (c.started head)).net = s.net :=
  ⟨State.chan_setChan_ne s k _ (Channel.ne_init_of_want rfl), rfl, rfl, rfl⟩

theorem State.dmaTryStart_starts {s : State} {k : Nat} (w : s.regsWf = true) (h : s.dmaCanStart k = true) :
    ∃ u, s.dmaTryStart k = u ∧ (u.chan k).want = some (s.chHead k) ∧ (u.chan k).todo = [] ∧
      (u.chan k).bursts = [] ∧ (u.chan k).cur = none ∧ u.pw = s.pw ∧ u.hosts = s.hosts ∧ u.net = s.net := by
  have hstart : s.dmaStart k = (s.dmaStartRegs k).setChan k (((s.dmaStartRegs k).chan k).started (s.chHead k)) := by
    rw [State.dmaStart_eq, State.chHead_dmaStartRegs (Tbl.rising_of_wf w), Channel.started]
  obtain ⟨hpw, hhosts, hnet⟩ := s.dmaStartRegs_keeps k
  refine ⟨s.dmaStart k, by rw [State.dmaTryStart, if_pos h], ?_⟩
  generalize s.dmaStartRegs k = u at hstart hpw hhosts hnet
  obtain ⟨hchan, hpw', hhosts', hnet'⟩ := u.setChan_started k (s.chHead k) (u.chan k)
  rw [hstart, hchan, hpw', hhosts', hnet']
  exact ⟨rfl, rfl, rfl, rfl, hpw, hhosts, hnet⟩

/-! ### Rows of a register -/

theorem State.writeReg_chCtl {s : State} (q : Rq) {e c v : Nat} (hok : Rg.chCtl.okWrite v = true) :
    s.writeReg q .chCtl e c v = s.writeChCtl (32 * e + c) v := by
  rw [State.writeReg, hok]
  rfl

/-- A write of CH_CTL of a channel by its engine and number. -/
theorem State.writeChCtl_channel (s : State) (e v : Nat) {c : Nat} (hc : c < 32) :
    s.writeChCtl (32 * e + c) v =
      let t := s.setReg .chCtl e c (Rg.chCtl.written (s.reg .chCtl e c) v)
      let t := if s.flag F.chCtl_enable e c && !bitAt v 30 then t.dmaAbort (32 * e + c) else t
      if bitAt v 31 then t.dmaTryStart (32 * e + c) else t := by
  have he : (32 * e + c) / 32 = e := by omega
  have hm : (32 * e + c) % 32 = c := by omega
  simp only [State.writeChCtl, he, hm]

section
variable {r : Req} {s : State} {e c v : Nat} (hc : c < 32) (h : s.grantsWrite r .chCtl e c v)
include hc h

theorem exec_channelStart_granted (hstart : bitAt v 31 = true) (henable : bitAt v 30 = true) :
    exec (.channelStart r) s = .next (State.respond (State.dmaTryStart ((s.takeReq r).setReg .chCtl e c (Rg.chCtl.written (s.reg .chCtl e c) v))
      (32 * e + c)) r svcOK []) := by
  have hrow : exec (.channelStart r) s = .next (State.respond ((s.takeReq r).writeReg r.rq .chCtl e c v) r svcOK []) :=
    regRow_granted .chCtl e c v _ r s h (by simp [hstart])
  rw [hrow, State.writeReg_chCtl _ h.2.2.2.2.2.2.2.2, State.writeChCtl_channel _ e v hc]
  simp [hstart, henable]

theorem exec_chCtlEnable_disables (hstart : bitAt v 31 = false) (henable : bitAt v 30 = false) (hwas : s.flag F.chCtl_enable e c = true) :
    exec (.chCtlEnable r) s = .next (State.respond (State.dmaAbort ((s.takeReq r).setReg .chCtl e c (Rg.chCtl.written (s.reg .chCtl e c) v))
      (32 * e + c)) r svcOK []) := by
  have hrow : exec (.chCtlEnable r) s = .next (State.respond ((s.takeReq r).writeReg r.rq .chCtl e c v) r svcOK []) :=
    regRow_granted .chCtl e c v _ r s h (by simp)
  have hflag : (s.takeReq r).flag F.chCtl_enable e c = true := hwas
  rw [hrow, State.writeReg_chCtl _ h.2.2.2.2.2.2.2.2, State.writeChCtl_channel _ e v hc]
  simp [hstart, henable, hflag]

end

/-! ### Stopping -/

theorem State.dmaAbort_active {s : State} {k : Nat} {c : Channel} (h : s.chState k = 1) (hc : (s.chan k).finishUnit = c) :
    s.dmaAbort k = State.dmaPump 16
      ((s.setChan k (Channel.fillOver { c with
        nxt := none, want := none, fetch := none, mism := none
        todo := c.todo.filter (fun r => r.kind ≠ 0), retries := c.retries.filter (fun r => r.kind ≠ 0) } 0xFF)).setChState k 2) k := by
  subst hc
  rw [State.dmaAbort, if_pos h]

theorem State.dmaAbort_idle {s : State} {k : Nat} (h : s.chState k ≠ 1) : s.dmaAbort k = s := by
  rw [State.dmaAbort, if_neg h]

/-- Only a COPY_SWAP has units to finish (R273). -/
theorem Channel.finishUnit_whole {c : Channel} {d : Desc} (hcur : c.cur = some d) (hmode : d.mode ≠ 3) : c.finishUnit = c := by
  simp [Channel.finishUnit, hcur, hmode]

theorem State.dmaRefuse_fetch_idle {s : State} {k : Nat} (burst code : Nat) (h : s.chState k ≠ 1) : s.dmaRefuse k 0 burst code = s := by
  simp [State.dmaRefuse, h]

theorem State.dmaRefuse_active {s : State} {k : Nat} (kind burst code : Nat) (h : s.chState k = 1) :
    s.dmaRefuse k kind burst code = s.dmaFail k code (phaseOf kind) (if kind = 0 then burst else s.chDesc k) := by
  rw [State.dmaRefuse, if_pos h]

/-! ### Commands -/

@[simp] theorem State.taken_chanTenant (s : State) (p m k : Nat) : (s.taken p m).chanTenant k = s.chanTenant k := (rfl)
@[simp] theorem State.taken_dmaFree (s : State) (p m k : Nat) : (s.taken p m).dmaFree k = s.dmaFree k := (rfl)
@[simp] theorem State.taken_chStatusView (s : State) (p m k : Nat) : (s.taken p m).chStatusView k = s.chStatusView k := (rfl)
@[simp] theorem State.taken_chDesc (s : State) (p m k : Nat) : (s.taken p m).chDesc k = s.chDesc k := (rfl)

section
variable {p : Port} {m : Mbox} {s : State}

theorem exec_dmaRun_free (h : s.ready p m 0x0300) (howner : s.portTenant p = s.chanTenant (32 * s.arg p m 0 1 + s.arg p m 1 1))
    (hfree : s.dmaFree (32 * s.arg p m 0 1 + s.arg p m 1 1) = true) :
    exec (.dmaRun p m) s = .next (State.reply (State.dmaStart (State.setF
      ((s.taken p m).setPair .chHeadLo .chHeadHi ((32 * s.arg p m 0 1 + s.arg p m 1 1) / 32) ((32 * s.arg p m 0 1 + s.arg p m 1 1) % 32) (s.arg p m 8 8))
      F.chCtl_prio ((32 * s.arg p m 0 1 + s.arg p m 1 1) / 32) ((32 * s.arg p m 0 1 + s.arg p m 1 1) % 32) (s.arg p m 2 1))
      (32 * s.arg p m 0 1 + s.arg p m 1 1)) p m 0 []) := by
  refine congrArg Host.Outcome.next ((takeMailbox_ready 0x0300 cmdDmaRun p m s h).trans ?_)
  simp only [cmdDmaRun, Ctx.chanNo, State.ctxOf_num, State.ctxOf_tenant, State.taken_chanTenant, State.taken_dmaFree, howner, hfree, ne_eq,
    not_true_eq_false, if_false, Bool.not_true, Bool.false_eq_true, State.answer, State.ctxOf_port, State.ctxOf_mbox]

theorem exec_dmaRun_busy (h : s.ready p m 0x0300) (howner : s.portTenant p = s.chanTenant (32 * s.arg p m 0 1 + s.arg p m 1 1))
    (hfree : s.dmaFree (32 * s.arg p m 0 1 + s.arg p m 1 1) = false) :
    exec (.dmaRun p m) s = .next ((s.taken p m).reply p m 0x15 []) := by
  refine congrArg Host.Outcome.next ((takeMailbox_ready 0x0300 cmdDmaRun p m s h).trans ?_)
  simp [cmdDmaRun, Ctx.chanNo, howner, hfree, refuse, State.answer]

section
variable {k : Nat} (hk : 32 * s.arg p m 0 1 + s.arg p m 1 1 = k)
include hk

theorem exec_dmaStatus_owner (h : s.ready p m 0x0301) (howner : s.portTenant p = s.chanTenant k) :
    exec (.dmaStatus p m) s = .next ((s.taken p m).reply p m 0 (leBytes 4 (s.chStatusView k) ++ leBytes 4 0 ++ leBytes 8 (s.chDesc k) ++
      leBytes 8 (s.reg .chMmLo (k / 32) (k % 32) + 2 ^ 32 * s.reg .chMmHi (k / 32) (k % 32)))) := by
  refine congrArg Host.Outcome.next ((takeMailbox_ready 0x0301 cmdDmaStatus p m s h).trans ?_)
  simp [cmdDmaStatus, Ctx.chanNo, hk, howner, State.answer]

theorem exec_dmaStop_owner (h : s.ready p m 0x0302) (howner : s.portTenant p = s.chanTenant k) :
    exec (.dmaStop p m) s = .next (State.reply (State.dmaAbort ((s.taken p m).setF F.chCtl_enable (k / 32) (k % 32) 0) k) p m 0 []) := by
  refine congrArg Host.Outcome.next ((takeMailbox_ready 0x0302 cmdDmaStop p m s h).trans ?_)
  simp [cmdDmaStop, Ctx.chanNo, hk, howner, State.dmaDisable, State.answer]

theorem exec_dmaStop_other (h : s.ready p m 0x0302) (howner : s.portTenant p ≠ s.chanTenant k) :
    exec (.dmaStop p m) s = .next ((s.taken p m).reply p m 0x12 []) := by
  refine congrArg Host.Outcome.next ((takeMailbox_ready 0x0302 cmdDmaStop p m s h).trans ?_)
  simp [cmdDmaStop, Ctx.chanNo, hk, howner, refuse, State.answer]

end
end

/-! ### Burst slots -/

section
variable {e : DmaEng} {s : State}

theorem exec_dmaBurstIssue_hold (h : s.inHold = true) : exec (.dmaBurstIssue e) s = .next s :=
  congrArg Host.Outcome.next (if_pos h)

theorem exec_dmaBurstIssue_begun (h : s.dmaBegun e ≠ []) : exec (.dmaBurstIssue e) s = .next s := by
  refine congrArg Host.Outcome.next ?_
  simp [h]

section
variable (hrun : s.inHold = false)
include hrun

theorem exec_dmaBurstIssue_nothing (hpick : s.dmaPick e = none) : exec (.dmaBurstIssue e) s = .next s := by
  refine congrArg Host.Outcome.next ?_
  simp [hrun, hpick]

variable (hbegun : s.dmaBegun e = []) {c : Nat} (hpick : s.dmaPick e = some c)
include hbegun hpick

theorem exec_dmaBurstIssue_fetch {a : Nat} (hwant : (s.chan (32 * e.val + c)).want = some a) :
    exec (.dmaBurstIssue e) s = .next (State.dmaPump 1
      (State.setChan { s with dma.rr := tput 31 s.dma.rr (e.val * 8 + s.getF F.chCtl_prio e c) c } (32 * e.val + c)
        { s.chan (32 * e.val + c) with want := none, fetch := some a, todo := [⟨0, a, ⟨a, 32, 0, []⟩⟩] }) (32 * e.val + c)) := by
  have hsame (rr : Tbl Nat) : State.chan { s with dma.rr := rr } (32 * e.val + c) = s.chan (32 * e.val + c) := rfl
  refine congrArg Host.Outcome.next ?_
  simp only [hrun, hbegun, hpick, hsame, hwant, Bool.false_eq_true, if_false, List.isEmpty_nil, Bool.not_true]

theorem exec_dmaBurstIssue_burst {d : Desc} (hwant : (s.chan (32 * e.val + c)).want = none) (hcur : (s.chan (32 * e.val + c)).cur = some d) :
    exec (.dmaBurstIssue e) s = .next (State.dmaPump 256
      (State.dmaBegin { s with dma.rr := tput 31 s.dma.rr (e.val * 8 + s.getF F.chCtl_prio e c) c } (32 * e.val + c) d) (32 * e.val + c)) := by
  have hsame (rr : Tbl Nat) : State.chan { s with dma.rr := rr } (32 * e.val + c) = s.chan (32 * e.val + c) := rfl
  refine congrArg Host.Outcome.next ?_
  simp only [hrun, hbegun, hpick, hsame, hwant, hcur, Bool.false_eq_true, if_false, List.isEmpty_nil, Bool.not_true]

end
end

/-! ### Responses and reissues -/

theorem exec_dmaResponse_expected {r : Resp} {s : State} {o : Outst} {k kind burst off n : Nat} (hresp : s.net.resps.contains r = true)
    (hout : s.findOut r.src r.sport r.tag r.gen = some o) (hwho : o.who = .dma k kind burst off n) (hcrc : r.crcOk = true) :
    exec (.dmaResponse r) s = .next ((State.retire (s.takeResp r) o).dmaResp o k kind burst off r.svc r.data) := by
  have hout' : (s.takeResp r).findOut r.src r.sport r.tag r.gen = some o := hout
  have harrive : s.arrive r = ((s.takeResp r).retire o, some (o, r)) := by simp [State.arrive, hout', hcrc]
  refine congrArg Host.Outcome.next ((if_pos (by simp only [hresp, State.respFor, hout, hwho, Bool.and_self])).trans ?_)
  simp only [harrive, hwho]

section
variable {s : State} {k kind burst : Nat}

theorem State.dmaResp_busy (o : Outst) (off : Nat) (data : List Byte) (h : (s.chan k).expects kind burst = true) :
    s.dmaResp o k kind burst off 2 data = State.dmaPumpAll (s.setChan k { s.chan k with
      retries := (s.chan k).retries ++ [⟨kind, burst, ⟨o.req.addr, o.req.size, off, o.req.data⟩⟩] }) (k / 32) := by
  simp [State.dmaResp, h]

theorem State.dmaResp_failed (o : Outst) (off : Nat) {svc : Nat} (data : List Byte) (h : (s.chan k).expects kind burst = true) (hsvc : 3 ≤ svc)
    (hactive : s.chState k = 1) :
    s.dmaResp o k kind burst off svc data = State.dmaPumpAll (s.dmaFail k svc (if kind = 0 then 0 else if kind = 2 then 2 else 1)
      (if kind = 0 then burst else s.chDesc k)) (k / 32) := by
  have h1 : ¬ svc ≤ 1 := by omega
  have h2 : svc ≠ 2 := by omega
  simp only [State.dmaResp, h, h1, h2, State.dmaRefuse_active kind burst svc hactive, phaseOf, Bool.not_true, Bool.false_eq_true, if_false]

theorem State.dmaResp_unexpected (o : Outst) (off svc : Nat) (data : List Byte) (h : (s.chan k).expects kind burst = false) :
    s.dmaResp o k kind burst off svc data = s.dmaPumpAll (k / 32) := by
  simp [State.dmaResp, h]

end

section
variable {k : Fin 512} {s : State} {r : Retry} {rest : List Retry} (hretry : (s.chan k).retries = r :: rest)
include hretry

theorem exec_dmaReissue_expired :
    exec (.dmaReissue k true) s = .next (State.dmaPumpAll ((s.setChan k { s.chan k with retries := rest }).dmaRefuse k r.kind r.burst 2) (k.val / 32)) := by
  refine congrArg Host.Outcome.next ?_
  simp only [hretry, if_true]

theorem exec_dmaReissue_sent {dst dport : Nat} (hchan : s.chanOuts k < 64) (heng : s.engOuts (k.val / 32) < 128)
    (hdst : s.decodeDst (niOf (s.dmaReq k r).src / 256) r.piece.addr = some (dst, dport))
    (hshape : reqShape (s.dmaReq k r).op r.piece.addr r.piece.len = true) (hroute : s.routed (s.dmaReq k r).src dst = true)
    (htag : s.hasTag (s.dmaReq k r) = true) :
    let u := s.sendReq (.dma k r.kind r.burst r.piece.off r.piece.len) (s.dmaReq k r) dst dport
    exec (.dmaReissue k false) s = .next (State.count (u.setChan k { u.chan k with retries := rest }) F.chCounts_retries (k.val / 32) (k.val % 32) 1) := by
  intro u
  have hissue : s.issue (.dma k r.kind r.burst r.piece.off r.piece.len) (s.dmaReq k r) = (u, some 0) := State.issue_sent hdst hshape hroute htag
  have hsend : s.dmaSend k r = (u, some 0) := by
    rw [State.dmaSend, if_neg (by omega), hissue]
  refine congrArg Host.Outcome.next ?_
  simp only [hretry, hsend, Bool.false_eq_true, if_false, if_true]

end

/-! ### Bursts and pieces -/

theorem Desc.mode_of_falls {d : Desc} (h : d.falls = true) : d.mode = 0 ∨ d.mode = 3 := by
  simp only [Desc.falls, Bool.and_eq_true, Bool.or_eq_true, decide_eq_true_eq] at h
  exact h.1.1

/-- The bursts of a falling walk end where the last one began. -/
theorem Desc.nextBurst_falls {d : Desc} {pos : Nat} (h : d.falls = true) (hpos : pos < d.len) :
    (d.nextBurst pos).1 + (d.nextBurst pos).2 = d.len - pos ∧ 0 < (d.nextBurst pos).2 ∧ (d.nextBurst pos).2 ≤ 256 := by
  simp only [Desc.nextBurst, h, if_true]
  omega

theorem burstLen_bounds {d : Desc} {off : Nat} (h : off < d.len) : 0 < burstLen d off ∧ burstLen d off ≤ 256 ∧ off + burstLen d off ≤ d.len ∧
    (d.dst + off) % 256 + burstLen d off ≤ 256 := by
  simp only [burstLen]
  omega

theorem pieceSize_bounds (a : Nat) {n : Nat} (h : 0 < n) : 0 < pieceSize a n ∧ pieceSize a n ≤ n := by
  unfold pieceSize
  split
  · omega
  · split <;> omega

/-- Small pieces cover their range when there is fuel for every byte. -/
theorem smallPieces_sum {f : Nat} (a : Nat) {n : Nat} (h : n ≤ f) : ((smallPieces f a n).map (·.2)).sum = n := by
  induction f generalizing a n with
  | zero => simp [smallPieces, Nat.le_zero.mp h]
  | succ f ih =>
    rw [smallPieces]
    split
    · next hn => simp [hn]
    · next hn =>
      have hb := pieceSize_bounds a (Nat.pos_of_ne_zero hn)
      have hrest := ih (a + pieceSize a n) (n := n - pieceSize a n) (by omega)
      rw [List.map_cons, List.sum_cons, hrest]
      omega

/-- The pieces of a range carry all its bytes (R275). -/
theorem pieces_sum (narrow : Bool) (a n : Nat) : ((pieces narrow a n).map (·.2)).sum = n := by
  have hmiddle (h m : Nat) : ((if narrow then (List.range m).map (fun i => (a + h + 8 * i, 8)) else
      if m = 0 then [] else [(a + h, 8 * m)]).map (·.2)).sum = 8 * m := by
    split
    · simp [Function.comp_def, Nat.mul_comm]
    · split
      · next hm => simp [hm]
      · simp
  simp only [pieces, List.map_append, List.sum_append, hmiddle]
  rw [smallPieces_sum a (by omega), smallPieces_sum _ (by omega)]
  omega

/-- Settles O46: a channel starts and stops as its registers and its owner's commands say, and its requests follow R272–R278. -/
theorem dmaChannels : Obligations.DmaChannels := by
  unfold Obligations.DmaChannels
  exact ⟨fun r s e c v hc h hstart henable => exec_channelStart_granted hc h hstart henable,
    fun r s e c v hc h hstart henable hwas => exec_chCtlEnable_disables hc h hstart henable hwas,
    fun s k h => if_neg (by simp [h]),
    fun s k w h => State.dmaTryStart_starts w h,
    fun s k c h hc => State.dmaAbort_active h hc,
    fun c d hcur hmode => Channel.finishUnit_whole hcur hmode,
    fun s k burst code h => State.dmaRefuse_fetch_idle burst code h,
    fun s k h => State.dmaAbort_idle h,
    fun p m s h _ howner hfree => exec_dmaRun_free h howner hfree,
    fun p m s h _ howner hfree => exec_dmaRun_busy h howner hfree,
    fun p m s k h hk howner => exec_dmaStatus_owner hk h howner,
    fun p m s k h hk howner => exec_dmaStop_owner hk h howner,
    fun p m s k h hk howner => exec_dmaStop_other hk h howner,
    fun e s h => exec_dmaBurstIssue_hold h,
    fun e s h => exec_dmaBurstIssue_begun h,
    fun e s hrun hpick => exec_dmaBurstIssue_nothing hrun hpick,
    fun e s c a hrun hbegun hpick hwant => exec_dmaBurstIssue_fetch hrun hbegun hpick hwant,
    fun e s c d hrun hbegun hpick hwant hcur => exec_dmaBurstIssue_burst hrun hbegun hpick hwant hcur,
    fun r s o k kind burst off n hresp hout hwho hcrc => exec_dmaResponse_expected hresp hout hwho hcrc,
    fun s o k kind burst off data h => State.dmaResp_busy o off data h,
    fun s o k kind burst off svc data h hsvc hactive => State.dmaResp_failed o off data h hsvc hactive,
    fun s o k kind burst off svc data h => State.dmaResp_unexpected o off svc data h,
    fun k s r rest h => exec_dmaReissue_expired h,
    fun k s r rest dst dport h hchan heng hdst hshape hroute htag => exec_dmaReissue_sent h hchan heng hdst hshape hroute htag,
    fun d h => Desc.mode_of_falls h, fun d pos h hpos => Desc.nextBurst_falls h hpos, fun d off h => burstLen_bounds h, pieces_sum⟩

end Sys2Proof.Machine


/-! SUPPORT. The stack controllers' upkeep (R53, R286, R315–R326, R331): refresh, bands, rates, freeze, thaw and initialization, row by row. -/

namespace Sys2Proof.Machine

/-! ### Refresh and real-time levels -/

section
variable {st : Die} {pc : Fin 32} {s : State}

theorem exec_perBankRefresh_none (h : s.hbmSt st = 0 ∨ s.selfRefresh st = true) : exec (.perBankRefresh st pc) s = .next s :=
  congrArg Host.Outcome.next (if_pos (by simpa using h))

theorem exec_perBankRefresh_ready (hst : s.hbmSt st = 1) (hself : s.selfRefresh st = false) (hpanic : s.panic st = false) :
    exec (.perBankRefresh st pc) s = .next { s with
      hbm.rot := tput 0 s.hbm.rot (st.val * 32 + pc.val) ((tget 0 s.hbm.rot (st.val * 32 + pc.val) + 1) % 32)
      hbm.rows := tput 0 s.hbm.rows ((st.val * 32 + pc.val) * 32 + tget 0 s.hbm.rot (st.val * 32 + pc.val)) 0 } := by
  have hsame (rot : Tbl Nat) : State.panic { s with hbm.rot := rot } st = false := hpanic
  refine congrArg Host.Outcome.next ((if_neg (by simp [hst, hself])).trans ?_)
  simp only [hsame, Bool.false_eq_true, if_false]

end

/-- Four bits make up their number. -/
theorem sum_bits_four {level : Nat} (h : level < 16) : ((List.range 4).map (fun i => b2n (bitAt level i) * 2 ^ i)).sum = level := by
  interval_cases level <;> rfl

theorem State.rtClamp_unclamped {s : State} {t level : Nat} (hlevel : level < 16) (h : ∀ i < 4, s.clamp t (.pin t .ni .rtlevel i) = none) :
    s.rtClamp t level = level := by
  have hbits : (List.range 4).map (fun i => b2n ((s.clamp t (.pin t .ni .rtlevel i)).getD (bitAt level i)) * 2 ^ i) =
      (List.range 4).map (fun i => b2n (bitAt level i) * 2 ^ i) :=
    List.map_congr_left (fun i hi => by rw [h i (List.mem_range.mp hi), Option.getD_none])
  rw [State.rtClamp, hbits, sum_bits_four hlevel]

/-! ### Temperature and bands -/

/-- A band that a controller in READY must take is made at once (R320). -/
theorem State.bandWant_ready {s : State} {st want : Nat} (hst : s.hbmSt st = 1) (hchange : s.hchange st = none) (hrun : s.maltarRuns = true)
    (hne : want ≠ s.getF F.hbmStatus_band st 0) :
    s.bandWant st want = State.setHchange { (s.setHbmSt st 2).precharge st with hbm.bandDue := tput false s.hbm.bandDue st false } st
      (some ⟨none, some want⟩) := by
  simp only [State.bandWant, hrun, hchange, hne, hst, State.changeStart, Bool.not_true, Bool.false_eq_true, decide_false, if_false, if_true,
    Nat.reduceEqDiff]

section
variable {st : Die} {t : Fin 256} {s u : State} {b : Nat} (hknown : s.tempKnown st = true) (hu : s.stackTemp st (some t.val) = u) (hst : u.hbmSt st = 1)
  (hchange : u.hchange st = none) (hrun : u.maltarRuns = true) (hb : u.getF F.hbmStatus_band st 0 = b) (hne : bandFor b (sgn 8 t.val) ≠ b)
include hknown hu hst hchange hrun hb hne

theorem exec_hbmTempPoll_band : exec (.hbmTempPoll st (some t)) s =
    .next (
      let v := State.setHchange { (u.setHbmSt st 2).precharge st with hbm.bandDue := tput false u.hbm.bandDue st false } st
        (some ⟨none, some (bandFor b (sgn 8 t.val))⟩)
      if staleAt b (sgn 8 t.val) && !v.flag F.hbmStatus_delayStale st 0 then
        State.alarm (v.setF F.hbmStatus_delayStale st 0 1) 255 0x0C (st.val * 256 + t.val * 65536) 0 (srcOf .hbm st)
      else v) := by
  have hwant := State.bandWant_ready hst hchange hrun (by rw [hb]; exact hne)
  refine congrArg Host.Outcome.next ((if_neg (by simp [hknown])).trans ?_)
  simp only [Option.map_some, hu, hst, hb, hwant, Nat.one_ne_zero, if_false]

end

theorem State.precharge_rows (s : State) (st : Nat) : (s.precharge st).hbm.rows.all (fun x => decide (x.1 / 1024 ≠ st)) = true := by
  simp [State.precharge]

/-- Precharging a stack leaves the rows of the others. -/
theorem State.precharge_find {s : State} {st e : Nat} (h : e / 1024 ≠ st) :
    (s.precharge st).hbm.rows.find? (fun x => decide (x.1 = e)) = s.hbm.rows.find? (fun x => decide (x.1 = e)) := by
  simp only [State.precharge, List.find?_filter]
  congr 1
  funext x
  by_cases hx : x.1 = e <;> simp [hx, h]

theorem exec_bandChangeDone_drained {st : Die} {s u : State} {b : Nat} (hchange : s.hchange st = some ⟨none, some b⟩) (hdrained : s.drained st = true)
    (hu : State.unstale ((s.setF F.hbmStatus_band st 0 b).writeDelays st b) st = u) :
    exec (.bandChangeDone st) s = .next (State.setHbmSt (u.setHchange st none) st
      (if u.flag F.hbmCtl_enable st 0 = true then (if u.pw.mode = .rest then 2 else 1) else 4)) := by
  have hdone : s.changeDone st = u.changeEnd st := by simp only [State.changeDone, hchange, State.bandTake, hu]
  refine congrArg Host.Outcome.next ?_
  simp only [hchange, hdrained, if_true, hdone, State.changeEnd, State.hbmReady]

/-- The number of one-bit fields that are set, where none is. -/
theorem filter_flag_nil {s : State} {f : FRef} (h : ∀ d < 4, s.flag f d 0 = false) : ((List.range 4).filter (fun d => s.flag f d 0)).length = 0 := by
  rw [List.length_eq_zero_iff, List.filter_eq_nil_iff]
  exact fun d hd => by simp [h d (List.mem_range.mp hd)]

theorem hbmStatus_valid {st : Nat} (h : st < 4) : Rg.hbmStatus.valid st 0 = true := by
  interval_cases st <;> decide

/-- Clearing a stack's DELAY_STALE leaves the others'. -/
theorem State.flag_delayStale_cleared {s : State} {st d : Nat} (w : s.regsWf = true) (hst : st < 4) (hd : d < 4) :
    (s.setF F.hbmStatus_delayStale st 0 0).flag F.hbmStatus_delayStale d 0 = (if d = st then false else s.flag F.hbmStatus_delayStale d 0) := by
  split
  · next heq =>
    subst heq
    have hreg := s.reg_setReg_same .hbmStatus d 0 (setBits (s.reg .hbmStatus d 0) 23 23 0) w (rstAt_key (hbmStatus_valid hd))
    have hbit : bits (setBits (s.reg .hbmStatus d 0) 23 23 0 % 2 ^ 32) 23 23 ≠ 1 := by
      simp only [bits, setBits]
      omega
    simp only [State.flag, State.getF, State.setF, hreg, hbit, decide_false]
  · next hne =>
    have hother := s.getF_setF_other F.hbmStatus_delayStale F.hbmStatus_delayStale st 0 d 0 0 w
      (Rg.key_ne (hbmStatus_valid hst) (hbmStatus_valid hd) (by simp [hne]))
    simp only [State.flag, hother]

/-- The alarms that stay of those that a stale delay set latches: one for each stack that still has one (R321). -/
def State.staleAlarms (s : State) : List Alarm :=
  s.hosts.alarms.filter (fun a => !decide (a = ⟨255, 0x0C⟩)) ++
    (s.hosts.alarms.filter (fun a => decide (a = ⟨255, 0x0C⟩))).take ((List.range 4).filter (fun d => s.flag F.hbmStatus_delayStale d 0)).length

theorem State.unstale_eq {s : State} {st : Nat} (h : s.flag F.hbmStatus_delayStale st 0 = true) :
    s.unstale st = { s.setF F.hbmStatus_delayStale st 0 0 with hosts.alarms := (s.setF F.hbmStatus_delayStale st 0 0).staleAlarms } := by
  unfold State.unstale
  rw [if_pos h]
  simp only [State.staleAlarms]

theorem State.flag_setAlarms (s : State) (l : List Alarm) (f : FRef) (i j : Nat) : State.flag { s with hosts.alarms := l } f i j = s.flag f i j := (rfl)

/-- Without a stale delay set no alarm of that kind stays. -/
theorem State.staleAlarms_none {s : State} (h : ∀ d < 4, s.flag F.hbmStatus_delayStale d 0 = false) : (⟨255, 0x0C⟩ : Alarm) ∉ s.staleAlarms := by
  simp [State.staleAlarms, filter_flag_nil h]

theorem State.unstale_clears {s : State} {st : Nat} (w : s.regsWf = true) (hst : st < 4) (h : s.flag F.hbmStatus_delayStale st 0 = true) :
    (s.unstale st).flag F.hbmStatus_delayStale st 0 = false ∧
    ((∀ d < 4, d ≠ st → s.flag F.hbmStatus_delayStale d 0 = false) → (⟨255, 0x0C⟩ : Alarm) ∉ (s.unstale st).hosts.alarms) := by
  have hflag (d : Nat) (hd : d < 4) := State.flag_delayStale_cleared (d := d) w hst hd
  rw [State.unstale_eq h]
  generalize s.setF F.hbmStatus_delayStale st 0 0 = u at hflag ⊢
  rw [State.flag_setAlarms]
  refine ⟨(hflag st hst).trans (if_pos rfl), fun hothers => State.staleAlarms_none (fun d hd => ?_)⟩
  rw [hflag d hd]
  split
  · rfl
  · next hne => exact hothers d hd hne

/-! ### Rows of HBM_CTL -/

theorem State.writeReg_hbmCtl {s : State} (q : Rq) {st v : Nat} (hok : Rg.hbmCtl.okWrite v = true) :
    s.writeReg q .hbmCtl st 0 v = s.writeHbmCtl st v := by
  rw [State.writeReg, hok]
  rfl

section
variable {r : Req} {s : State} {st v : Nat} (h : s.grantsWrite r .hbmCtl st 0 v) (hwas : s.flag F.hbmCtl_enable st 0 = true)
include h hwas

theorem exec_rateGo_granted (hgo : bitAt v 30 = true) (hthaw : bitAt v 31 = false) (henable : bitAt v 0 = true) :
    exec (.rateGo r) s =
      .next (State.respond (State.rateGo ((s.takeReq r).setReg .hbmCtl st 0 (Rg.hbmCtl.written (s.reg .hbmCtl st 0) v)) st) r svcOK []) := by
  have hrow : exec (.rateGo r) s = .next (State.respond ((s.takeReq r).writeReg r.rq .hbmCtl st 0 v) r svcOK []) :=
    regRow_granted .hbmCtl st 0 v _ r s h (by simp [hgo])
  have hflag : (s.takeReq r).flag F.hbmCtl_enable st 0 = true := hwas
  rw [hrow, State.writeReg_hbmCtl _ h.2.2.2.2.2.2.2.2]
  simp [State.writeHbmCtl, hflag, hgo, hthaw, henable]

theorem exec_thaw_granted (hgo : bitAt v 30 = false) (hthaw : bitAt v 31 = true) (henable : bitAt v 0 = true) :
    exec (.thaw r) s =
      .next (State.respond (State.hbmThaw ((s.takeReq r).setReg .hbmCtl st 0 (Rg.hbmCtl.written (s.reg .hbmCtl st 0) v)) st) r svcOK []) := by
  have hrow : exec (.thaw r) s = .next (State.respond ((s.takeReq r).writeReg r.rq .hbmCtl st 0 v) r svcOK []) :=
    regRow_granted .hbmCtl st 0 v _ r s h (by simp [hthaw])
  have hflag : (s.takeReq r).flag F.hbmCtl_enable st 0 = true := hwas
  rw [hrow, State.writeReg_hbmCtl _ h.2.2.2.2.2.2.2.2]
  simp [State.writeHbmCtl, hflag, hgo, hthaw, henable]

theorem exec_hbmCtlEnable_disables (hgo : bitAt v 30 = false) (hthaw : bitAt v 31 = false) (henable : bitAt v 0 = false) :
    exec (.hbmCtlEnable r) s =
      .next (State.respond (State.hbmDisable ((s.takeReq r).setReg .hbmCtl st 0 (Rg.hbmCtl.written (s.reg .hbmCtl st 0) v)) st) r svcOK []) := by
  have hrow : exec (.hbmCtlEnable r) s = .next (State.respond ((s.takeReq r).writeReg r.rq .hbmCtl st 0 v) r svcOK []) :=
    regRow_granted .hbmCtl st 0 v _ r s h (by simp)
  have hflag : (s.takeReq r).flag F.hbmCtl_enable st 0 = true := hwas
  rw [hrow, State.writeReg_hbmCtl _ h.2.2.2.2.2.2.2.2]
  simp [State.writeHbmCtl, hflag, hgo, hthaw, henable]

end

/-! ### Thaw and rate changes -/

/-- A thaw of a controller that holds no failed request (R326). -/
theorem State.hbmThaw_clean {s : State} {st : Nat} (hst : s.hbmSt st = 3) (hcause : s.getF F.hbmFreeze_cause st 0 ≠ 4)
    (hclean : ∀ h ∈ s.hreqs st, h.failed = false ∧ h.unver = false) : s.hbmThaw st = State.setDegr (State.setHbmSt
      (((s.setHreqs st ((s.hreqs st).map (fun h => { h with first := true }))).setReg .hbmFreeze st 0 0).setReg .hbmFreezeRow st 0 0) st
      (if s.pw.mode = .rest then 2 else 1)) st false := by
  have hnone : (s.hreqs st).filter (fun h => h.failed || h.unver) = [] := by
    rw [List.filter_eq_nil_iff]
    exact fun x hx => by simp [hclean x hx]
  rw [State.hbmThaw, if_neg (by simp [hst, hcause]), hnone]
  rfl

theorem State.hbmThaw_unfrozen {s : State} {st : Nat} (h : s.hbmSt st ≠ 3) : s.hbmThaw st = s := by
  rw [State.hbmThaw, if_pos (.inl h)]

theorem exec_rateChangeDone_drained {st : Die} {s u : State} {rate : Nat} (hchange : s.hchange st = some ⟨some rate, none⟩)
    (hdrained : s.drained st = true) (hu : [(Rg.hbmTim0, Rg.hbmTim0Sh), (.hbmTim1, .hbmTim1Sh), (.hbmTim2, .hbmTim2Sh)].foldl
      (fun s p => (s.setReg p.1 st 0 (s.reg p.2 st 0)).setReg p.2 st 0 (s.reg p.1 st 0)) s = u) :
    exec (.rateChangeDone st) s = .next (State.finishOps ((u.setF F.hbmStatus_rate st 0 rate).changeEnd st) st [0x0311] 0 0 0 []) := by
  have hdone : s.changeDone st = State.finishOps ((u.setF F.hbmStatus_rate st 0 rate).changeEnd st) st [0x0311] 0 0 0 [] := by
    simp only [State.changeDone, hchange, State.bandTake, ← hu, List.foldl_cons, List.foldl_nil]
  refine congrArg Host.Outcome.next ?_
  simp only [hchange, hdrained, if_true, hdone]

/-! ### Commands -/

@[simp] theorem State.taken_hbmSt (s : State) (p m st : Nat) : (s.taken p m).hbmSt st = s.hbmSt st := (rfl)
@[simp] theorem State.taken_hchange (s : State) (p m st : Nat) : (s.taken p m).hchange st = s.hchange st := (rfl)
@[simp] theorem State.taken_getF (s : State) (p m : Nat) (f : FRef) (i j : Nat) : (s.taken p m).getF f i j = s.getF f i j := (rfl)
@[simp] theorem State.taken_freezeRowView (s : State) (p m st : Nat) : (s.taken p m).freezeRowView st = s.freezeRowView st := (rfl)

section
variable {p : Port} {m : Mbox} {s : State}

theorem exec_hbmStatus_ready (h : s.ready p m 0x0310) :
    exec (.hbmStatus p m) s = .next ((s.taken p m).reply p m 0 (leBytes 4 (s.reg .hbmStatus (s.arg p m 0 1) 0) ++
      leBytes 4 (s.reg .hbmFreeze (s.arg p m 0 1) 0) ++ leBytes 4 (s.freezeRowView (s.arg p m 0 1)))) := by
  refine congrArg Host.Outcome.next ((takeMailbox_ready 0x0310 cmdHbmStatus p m s h).trans ?_)
  simp [cmdHbmStatus, State.answer]

section
variable {st : Nat} (h : s.ready p m 0x0311) (howner : s.portTenant p = 0) (hstack : s.arg p m 0 1 = st)
include h howner hstack

theorem exec_hbmRate_starts (hst : s.hbmSt st = 1) (hchange : s.hchange st = none) :
    exec (.hbmRate p m) s = .next (State.addWait (State.rateStart ((((s.taken p m).setReg .hbmTim0Sh st 0 (Rg.hbmTim0Sh.rst 0)).setReg
      .hbmTim1Sh st 0 (Rg.hbmTim1Sh.rst 0)).setReg .hbmTim2Sh st 0 (Rg.hbmTim2Sh.rst 0)) st (s.arg p m 1 1)) ((s.ctxOf p m).op st [])) := by
  refine congrArg Host.Outcome.next ((takeMailbox_ready 0x0311 cmdHbmRate p m s h).trans ?_)
  simp [cmdHbmRate, howner, hstack, hst, hchange, State.answer]

theorem exec_hbmRate_frozen (hst : s.hbmSt st = 3) : exec (.hbmRate p m) s = .next ((s.taken p m).reply p m 0x40 []) := by
  refine congrArg Host.Outcome.next ((takeMailbox_ready 0x0311 cmdHbmRate p m s h).trans ?_)
  simp [cmdHbmRate, howner, hstack, hst, refuse, State.answer]

end

theorem exec_hbmThaw_other (h : s.ready p m 0x0312) (howner : s.portTenant p ≠ 0) :
    exec (.hbmThaw p m) s = .next ((s.taken p m).reply p m 0x12 []) := by
  refine congrArg Host.Outcome.next ((takeMailbox_ready 0x0312 cmdHbmThaw p m s h).trans ?_)
  simp [cmdHbmThaw, howner, refuse, State.answer]

section
variable (h : s.ready p m 0x0312) (howner : s.portTenant p = 0)
include h howner

/-- A thaw that the cause of the freeze allows. -/
theorem exec_hbmThaw_allowed (hcause : ¬ (s.hbmSt (s.arg p m 0 1) = 3 ∧ s.getF F.hbmFreeze_cause (s.arg p m 0 1) 0 = 4)) :
    exec (.hbmThaw p m) s = .next (((s.taken p m).hbmThaw (s.arg p m 0 1)).reply p m 0 []) := by
  refine congrArg Host.Outcome.next ((takeMailbox_ready 0x0312 cmdHbmThaw p m s h).trans ?_)
  simp only [cmdHbmThaw, State.ctxOf_num, State.ctxOf_tenant, howner, ne_eq, not_true_eq_false, if_false, State.taken_hbmSt, State.taken_getF, hcause,
    State.answer, State.ctxOf_port, State.ctxOf_mbox]

theorem exec_hbmThaw_refused (hst : s.hbmSt (s.arg p m 0 1) = 3) (hcause : s.getF F.hbmFreeze_cause (s.arg p m 0 1) 0 = 4) :
    exec (.hbmThaw p m) s = .next ((s.taken p m).reply p m 0x10 []) := by
  refine congrArg Host.Outcome.next ((takeMailbox_ready 0x0312 cmdHbmThaw p m s h).trans ?_)
  simp [cmdHbmThaw, howner, hst, hcause, refuse, State.answer]

end
end

/-! ### Initialization -/

/-- A controller's initialization counts as ended, and is not owed again. -/
def State.initEnded (s : State) (st : Nat) : State :=
  { s with
    hbm.reinit := tput false s.hbm.reinit st false
    pw.hbmEnded := if bitAt s.pw.hbmEnded st then s.pw.hbmEnded else s.pw.hbmEnded + 2 ^ st }

/-- What steps 2 to 5 of an initialization leave (R322). -/
def State.initSteps (s : State) (st b : Nat) (rfm : Bool) : State :=
  State.zeroStack (State.drawScr ((((s.bootTimings st).writeDelays st b).setF F.hbmStatus_band st 0 b).setF F.hbmDisturb_rfm st 0 (b2n rfm)) st) st

/-- The last step of an initialization: the rate in settings, and the controller is READY (R322). -/
def State.initReady (s : State) (st : Nat) : State :=
  State.setDegr (State.setHbmSt (s.setF F.hbmStatus_rate st 0 (leAt (s.bootSetting 0x0021 st) 0 1)) st 1) st false

section
variable {st : Die} {t : Option (Fin 256)} {rfm : Bool} {s : State}

theorem exec_hbmInitDone_skipped {fail : Option (Fin 5)} (h : s.hbmSt st ≠ 0 ∨ s.pw.step < 4) :
    exec (.hbmInitDone st fail t rfm) s = .next s.dropSwaps.huddleCheck :=
  congrArg (fun u => Host.Outcome.next (State.huddleCheck (State.dropSwaps u))) (if_pos h)

section
variable (hst : s.hbmSt st = 0) (hstep : 4 ≤ s.pw.step)
include hst hstep

theorem exec_hbmInitDone_good {b : Nat} (hrails : bitAt s.elec.railOrder st = false ∨ tget false s.hbm.reinit st = true)
    (hb : (match t with | some x => bandAt (sgn 8 x.val) | none => 1) = b) :
    exec (.hbmInitDone st none t rfm) s = .next (State.huddleCheck (State.dropSwaps
      (let v := (((s.initEnded st).stackTemp st (t.map (·.val))).initSteps st b rfm).initReady st
       if v.flag F.hbmCtl_enable st 0 = true then v else v.setHbmSt st 4))) := by
  have hfail : ¬ (bitAt s.elec.railOrder st = true ∧ (!tget false s.hbm.reinit st) = true) := by
    rcases hrails with hgood | hagain
    · simp [hgood]
    · simp [hagain]
  have hbegin : ¬ (s.hbmSt st ≠ 0 ∨ s.pw.step < 4) := by omega
  refine congrArg (fun u => Host.Outcome.next (State.huddleCheck (State.dropSwaps u))) ((if_neg hbegin).trans ?_)
  subst hb
  cases t with
  | none =>
    simp only [hfail, if_false]
    rfl
  | some x =>
    simp only [hfail, if_false]
    rfl

theorem exec_hbmInitDone_first {fail : Option (Fin 5)}
    (hfail : (if bitAt s.elec.railOrder st ∧ !tget false s.hbm.reinit st then some (fail.getD 0) else fail) = some 0) :
    exec (.hbmInitDone st fail t rfm) s = .next (State.huddleCheck (State.dropSwaps ((s.initEnded st).hbmFreeze st 4 0))) := by
  have hbegin : ¬ (s.hbmSt st ≠ 0 ∨ s.pw.step < 4) := by omega
  refine congrArg (fun u => Host.Outcome.next (State.huddleCheck (State.dropSwaps u))) ((if_neg hbegin).trans ?_)
  simp only [hfail, Fin.val_zero, Nat.reduceLeDiff, decide_false, Bool.false_eq_true, if_false, State.initEnded]

theorem exec_hbmInitDone_second :
    exec (.hbmInitDone st (some 1) t rfm) s =
      .next (State.huddleCheck (State.dropSwaps (((s.initEnded st).stackTemp st (t.map (·.val))).hbmFreeze st 4 0))) := by
  have hbegin : ¬ (s.hbmSt st ≠ 0 ∨ s.pw.step < 4) := by omega
  refine congrArg (fun u => Host.Outcome.next (State.huddleCheck (State.dropSwaps u))) ((if_neg hbegin).trans ?_)
  simp only [Option.getD_some, ite_self, Fin.val_one, Nat.reduceLeDiff, decide_false, decide_true, Bool.false_eq_true, if_false, if_true, State.initEnded]

end
end

theorem bandAt_edges (x : Int) : (x < 0 → bandAt x = 0) ∧ (0 ≤ x → x ≤ 70 → bandAt x = 1) ∧ (70 < x → bandAt x = 2) := by
  unfold bandAt
  refine ⟨fun h => if_pos h, fun h h' => ?_, fun h => ?_⟩
  · rw [if_neg (by omega), if_pos h']
  · rw [if_neg (by omega), if_neg (by omega)]

/-- Settles O49: each row of a stack controller does what its register, reading or command asks, in the states that R315–R326 name. -/
theorem hbmUpkeep : Obligations.HbmUpkeep := by
  unfold Obligations.HbmUpkeep
  refine ⟨fun st pc s h => exec_perBankRefresh_none h, fun st pc s hst hself hpanic => exec_perBankRefresh_ready hst hself hpanic,
    fun st j level s hen hmode => congrArg Host.Outcome.next (if_pos ⟨hen, .inl hmode⟩),
    fun s t level hlevel h => State.rtClamp_unclamped hlevel h,
    fun st s h => congrArg Host.Outcome.next (if_neg (by simp [h])), ?poll, fun s st e => ⟨s.precharge_rows st, fun h => State.precharge_find h⟩,
    fun st s u b hchange hdrained hu => exec_bandChangeDone_drained hchange hdrained hu, fun s st w hst h => State.unstale_clears w hst h,
    fun r s st v h hgo hthaw henable hwas => exec_rateGo_granted h hwas hgo hthaw henable,
    fun r s st v h hgo hthaw henable hwas => exec_thaw_granted h hwas hgo hthaw henable,
    fun r s st v h hgo hthaw henable hwas => exec_hbmCtlEnable_disables h hwas hgo hthaw henable,
    fun s st hst hcause hclean => State.hbmThaw_clean hst hcause hclean, fun s st h => State.hbmThaw_unfrozen h,
    fun st s u rate hchange hdrained hu => exec_rateChangeDone_drained hchange hdrained hu, fun p m s h => exec_hbmStatus_ready h,
    fun p m s st h howner hstack hst hchange => exec_hbmRate_starts h howner hstack hst hchange,
    fun p m s st h howner hstack hst => exec_hbmRate_frozen h howner hstack hst, ?thawIdle, ?thawFrozen, ?thawFailed,
    fun p m s h howner => exec_hbmThaw_other h howner, fun st fail t rfm s h => exec_hbmInitDone_skipped h, ?initGood, bandAt_edges, ?initFails,
    fun s h => if_pos h⟩
  case poll =>
    intro st t s u b hknown hu hst hchange hrun hb hne
    have hpoll := exec_hbmTempPoll_band hknown hu hst hchange hrun hb hne
    exact ⟨fun hfresh => by rw [hpoll]; simp only [hfresh, Bool.false_and, Bool.false_eq_true, if_false],
      fun hstale hclear => by rw [hpoll]; simp only [hstale, hclear, Bool.not_false, Bool.and_self, if_true]⟩
  case thawIdle =>
    intro p m s h howner hst
    have hidle : (s.taken p m).hbmThaw (s.arg p m 0 1) = s.taken p m := State.hbmThaw_unfrozen hst
    rw [exec_hbmThaw_allowed h howner (fun hboth => hst hboth.1), hidle]
  case thawFrozen =>
    intro p m s st h howner hstack hst hcause
    subst hstack
    exact exec_hbmThaw_allowed h howner (fun hboth => hcause hboth.2)
  case thawFailed =>
    intro p m s st h howner hstack hst hcause
    subst hstack
    exact exec_hbmThaw_refused h howner hst hcause
  case initGood =>
    intro st t rfm s u v b hst hstep hrails hu hb hv
    subst hu hv
    exact exec_hbmInitDone_good hst hstep hrails hb
  case initFails =>
    intro st t rfm s u hst hstep hu
    subst hu
    refine ⟨exec_hbmInitDone_first hst hstep ?_, exec_hbmInitDone_second hst hstep, fun hrails hfirst => exec_hbmInitDone_first hst hstep ?_⟩
    · simp
    · simp [hrails, hfirst]

end Sys2Proof.Machine

/-! SUPPORT. How Maltar takes a mailbox command (20 R455–R457; 21 R368, R369, R471–R473): the checks of R472 in their order, the mailbox that a reply
leaves, and the mailbox whose turn it is. -/

namespace Sys2Proof.Machine

/-! ### The checks of R472 -/

section
variable {opcode : Nat} (body : Body) {p m : Nat} {s : State} (htake : s.canTake p m opcode = true) (hlocal : (s.mbox p m).relay = false)
include htake hlocal

/-- A command taken for this device is answered as its checks and its body say. -/
theorem takeMailbox_local : takeMailbox opcode body p m s =
    State.answer (runChecked body (s.ctxOf p m) (s.portFull p opcode) (s.taken p m)).1 (s.ctxOf p m)
      (runChecked body (s.ctxOf p m) (s.portFull p opcode) (s.taken p m)).2 := by
  have hrelay : ((s.taken p m).mbox p m).relay = false := by rw [State.taken_mbox]; exact hlocal
  simp only [takeMailbox, htake, if_true, hrelay, Bool.false_eq_true, false_and, if_false]

theorem takeMailbox_refused {code : Nat}
    (hrefuse : runChecked body (s.ctxOf p m) (s.portFull p opcode) (s.taken p m) = refuse (s.taken p m) code) :
    takeMailbox opcode body p m s = (s.taken p m).reply p m code [] := by
  rw [takeMailbox_local body htake hlocal, hrefuse]
  rfl

end

section
variable (body : Body) {c : Ctx} {s : State}

theorem runChecked_full : runChecked body c true s = refuse s 0x15 := (rfl)

theorem runChecked_malformed {code : Nat} (h : preCheck c.opcode c.pay = some code) : runChecked body c false s = refuse s code := by
  simp only [runChecked, Bool.false_eq_true, if_false, h]

theorem runChecked_otherMode (hpre : preCheck c.opcode c.pay = none) (hgroup : groupOk s.pw.mode s.pw.lockoutFrom c.opcode c.pay = false) :
    runChecked body c false s = refuse s 0x14 := by
  simp only [runChecked, Bool.false_eq_true, if_false, hpre, hgroup]

theorem runChecked_unreached (hpre : preCheck c.opcode c.pay = none) (hgroup : groupOk s.pw.mode s.pw.lockoutFrom c.opcode c.pay = true)
    (hout : s.outOfReach c.opcode c.pay = true) (hbody : (body c s).2.isRefusal = false) : runChecked body c false s = refuse s 0xFF := by
  simp only [runChecked, State.reachable, Bool.false_eq_true, if_false, hpre, hgroup, if_true, hout, hbody, Bool.not_false, Bool.and_self]

end

section
variable {opcode : Nat} {l : List Byte}

theorem preCheck_undefined (h : cmdSpec opcode = none) : preCheck opcode l = some 0x10 := by
  simp only [preCheck, h]

theorem preCheck_badLength {c : CmdSpec} (hspec : cmdSpec opcode = some c) (hlen : c.lenOk l = false) : preCheck opcode l = some 0x11 := by
  simp [preCheck, hspec, hlen]

theorem preCheck_reserved {c : CmdSpec} (hspec : cmdSpec opcode = some c) (hlen : c.lenOk l = true) (hfield : lenByField opcode l = true)
    (hvalue : c.valuesOk l = false ∨ fieldsOk opcode l = false) : preCheck opcode l = some 0x10 := by
  have hbad : (!c.valuesOk l || !fieldsOk opcode l) = true := by
    rcases hvalue with h | h <;> simp [h]
  simp [preCheck, hspec, hlen, hfield, hbad]

end

/-- A command of group 0x00 is not counted among the four of its port (R458). -/
theorem State.portFull_queries (s : State) {opcode : Nat} (p : Nat) (h : opcode < 256) : s.portFull p opcode = false := by
  simp [State.portFull, h]

/-- Group 0x00 is accepted in every mode but OFF (R50). -/
theorem groupOk_queries {mode : Mode} {opcode : Nat} (lf : Mode) (l : List Byte) (h : opcode < 256) (hmode : mode ≠ .off) :
    groupOk mode lf opcode l = true := by
  have hgroup : opcode / 256 = 0 := by omega
  cases mode with
  | off => exact absurd rfl hmode
  | _ => simp [groupOk, hgroup]

/-! ### The mailbox after a reply -/

/-- Storing a mailbox that is not at its reset value leaves the rest of its port as it was. -/
theorem State.port_setMbox (s : State) (p m : Nat) {x : Mailbox} (h : x ≠ Mailbox.init) :
    (s.setMbox p m x).port p = { s.port p with mbs := tput Mailbox.init (s.port p).mbs m x } := by
  refine State.port_setPort_ne s p _ (fun heq => ?_)
  have hmbs : tput Mailbox.init (s.port p).mbs m x = [] := congrArg HostPort.mbs heq
  rw [tput, if_neg h] at hmbs
  exact tins_ne_nil _ _ _ hmbs

theorem Mailbox.ne_init_of_state {x : Mailbox} (h : x.state ≠ 0) : x ≠ Mailbox.init := fun heq => h (congrArg Mailbox.state heq)

theorem State.taken_port_seq (s : State) (p m : Nat) : ((s.taken p m).port p).seq = (s.port p).seq := by
  have hrunning : ({ s.mbox p m with state := 2 } : Mailbox) ≠ Mailbox.init := Mailbox.ne_init_of_state (Nat.succ_ne_zero 1)
  have hport := State.port_setMbox { s with hosts.rr := p } p m hrunning
  rw [State.taken, hport]
  rfl

/-- The mailbox that a reply leaves: DONE, with the reply and the port's next SEQ (R457, R461). -/
theorem State.reply_mbox {p : Nat} (hp : p ≠ 5) (s : State) (m code : Nat) (pay : List Byte) : (s.reply p m code pay).mbox p m =
    { s.mbox p m with
      state := 3
      code := code
      seq := (s.port p).seq % 16
      rep := putBytes [] 0 (replyBytes code 0 (s.mbox p m).opcode (s.mbox p m).htag (s.sbWord p ((s.port p).seq % 16)) 0 pay) } := by
  simp only [State.reply, State.replyWith, hp, if_false]
  exact State.mbox_setMbox _ _ _ _ (Mailbox.ne_init_of_state (by simp))

/-! ### The turn (R368, R369) -/

/-- What is done over and over and changes nothing after the first time has the effect of that one time. -/
theorem iter_succ_of_id {σ : Type} (n : Nat) (f : σ → σ) (s : σ) (h : f (f s) = f s) : iter (n + 1) (fun _ => f) s = f s := by
  induction n with
  | zero => rfl
  | succ n ih => rw [iter_succ, ih, h]

theorem State.unknownTurn_of_turn {s : State} {p m : Nat} (hrun : s.maltarRuns = true) (hturn : s.turn = some (p, m))
    (hspec : cmdSpec (s.mbox p m).opcode = none) : s.unknownTurn = some (p, m) := by
  simp [State.unknownTurn, hrun, hturn, hspec]

theorem find?_unique {α : Type} {q : α → Bool} {a : α} {l : List α} (hmem : a ∈ l) (ha : q a = true) (hother : ∀ b ∈ l, b ≠ a → q b = false) :
    l.find? q = some a := by
  cases hfind : l.find? q with
  | none => exact absurd ha (List.find?_eq_none.1 hfind a hmem)
  | some b =>
    by_cases hba : b = a
    · rw [hba]
    · exact absurd (List.find?_some hfind) (by simp [hother b (List.mem_of_find?_eq_some hfind) hba])

/-- The round robin visits each of the five ports. -/
theorem mem_roundRobin (rr : Nat) {p : Nat} (h : p < 5) : p ∈ (List.range 5).map (fun i => (rr + 1 + i) % 5) :=
  List.mem_map.2 ⟨(p + 4 - rr % 5) % 5, List.mem_range.2 (by omega), by omega⟩

theorem State.turn_of_port {s : State} {p m : Nat} (hport : ((List.range 5).map (fun i => (s.hosts.rr + 1 + i) % 5)).find? s.queued = some p)
    (hring : (s.port p).rings.find? (fun n => (s.mbox p n).state = 1) = some m) : s.turn = some (p, m) := by
  simp only [State.turn, hport, List.find?_append, hring, Option.some_or, Option.map_some]

/-- Settles O6: a refusal is the reply of the first check of R472 that fails, and the turn is the round robin's next port and its oldest ring. -/
theorem mailboxChecks : Obligations.MailboxChecks := by
  unfold Obligations.MailboxChecks
  refine ⟨takeMailbox_waits, ?full, ?malformed, ?otherMode, ?unreached, fun _ _ => preCheck_undefined, fun _ _ _ => preCheck_badLength,
    fun _ _ _ => preCheck_reserved, fun _ p s => s.portFull_queries p, fun lf _ l _ => groupOk_queries lf l, ?done, ?frame, ?unknown, ?alone, ?next⟩
  case full =>
    intro opcode body p m s htake hlocal hfull
    exact takeMailbox_refused body htake hlocal (by rw [hfull, runChecked_full])
  case malformed =>
    intro opcode code body p m s htake hlocal hfull hpre
    rw [← State.canTake_opcode htake] at hpre
    exact takeMailbox_refused body htake hlocal (by rw [hfull]; exact runChecked_malformed body hpre)
  case otherMode =>
    intro opcode body p m s htake hlocal hfull hpre hgroup
    rw [← State.canTake_opcode htake] at hpre hgroup
    exact takeMailbox_refused body htake hlocal (by rw [hfull]; exact runChecked_otherMode body hpre hgroup)
  case unreached =>
    intro opcode body p m s htake hlocal hfull hpre hgroup hout hbody
    rw [← State.canTake_opcode htake] at hpre hgroup hout
    exact takeMailbox_refused body htake hlocal (by rw [hfull]; exact runChecked_unreached body hpre hgroup hout hbody)
  case done =>
    intro s p m code hp hm
    rw [State.reply_mbox (by omega), State.taken_mbox, State.taken_port_seq]
    rfl
  case frame =>
    intro s p m code pay hp
    simp [State.reply]
  case unknown =>
    intro s p m hrun hturn hspec hnone
    have hstep := State.unknownTurn_of_turn hrun hturn hspec
    refine (iter_succ_of_id 19 _ s ?_).trans ?_
    · simp only [hstep, hnone]
    · simp only [hstep]
  case alone =>
    intro s p m hp hqueued hother hring
    refine State.turn_of_port (find?_unique (mem_roundRobin _ hp) hqueued (fun q hq hne => ?_)) hring
    obtain ⟨i, -, rfl⟩ := List.mem_map.1 hq
    exact hother _ (Nat.mod_lt _ (by decide)) hne
  case next =>
    intro s p m hp hqueued hnext hring
    subst hnext
    exact State.turn_of_port (List.find?_cons_of_pos hqueued) hring

end Sys2Proof.Machine

/-! SUPPORT. Transfer units of the seams (03 R58, R62–R67, R77): their fields and CRC, their lanes, what an end sends, and what a unit that arrives does. -/

namespace Sys2Proof.Machine

/-! ### Fields and CRC (R63, R64) -/

theorem crc16_lt (v : Nat) : crc16 v < 2 ^ 16 := by
  refine List.foldlRecOn (motive := fun c => c < 2 ^ 16) _ _ (by decide) (fun c _ b _ => ?_)
  have hshift : c * 2 % 65536 < 2 ^ 16 := Nat.mod_lt _ (by decide)
  dsimp only
  split
  · exact Nat.xor_lt_two_pow hshift (by decide)
  · exact hshift

/-- The widths of a unit's fields from bit 319 down: SEQ, ACKSEQ, TYPE, CREDIT, NAK, three zero bits, and the payload. -/
def unitWidths : List Nat := [8, 8, 4, 8, 1, 3, 288]

section
variable {seq ack typ credit pay : Nat} {nak : Bool} (hseq : seq < 256) (hack : ack < 256) (htyp : typ < 16) (hcredit : credit < 256)
include hseq hack htyp hcredit

/-- A unit is its fields side by side, with their CRC above them. -/
theorem mkUnit_eq_packFields : mkUnit seq ack typ credit nak pay =
    crc16 (packFields unitWidths [seq, ack, typ, credit, b2n nak, 0, pay]) * 2 ^ 320 + packFields unitWidths [seq, ack, typ, credit, b2n nak, 0, pay] := by
  have hword : seq * 2 ^ 312 + ack * 2 ^ 304 + typ * 2 ^ 300 + credit * 2 ^ 292 + b2n nak * 2 ^ 291 + pay % 2 ^ 288 =
      packFields unitWidths [seq, ack, typ, credit, b2n nak, 0, pay] := by
    simp only [unitWidths, packFields, b2n_mod_two, List.sum_cons, List.sum_nil]
    omega
  rw [← hword]
  rfl

/-- A field of a unit, by its place in the list. -/
theorem bits_mkUnit (hi lo i v : Nat) (hhi : hi < 320) (hlo : (unitWidths.drop (i + 1)).sum = lo) (hwidth : unitWidths.getD i 0 = hi + 1 - lo)
    (hv : [seq, ack, typ, credit, b2n nak, 0, pay].getD i 0 = v) (hfits : v < 2 ^ unitWidths.getD i 0) :
    bits (mkUnit seq ack typ credit nak pay) hi lo = v := by
  rw [mkUnit_eq_packFields hseq hack htyp hcredit, bits_mul_add _ _ hhi, bits, ← hwidth, ← hlo, packFields_at, hv, Nat.mod_eq_of_lt hfits]

/-- A unit that an end builds carries a correct CRC (R64). -/
theorem unitCrcOk_mkUnit : unitCrcOk (mkUnit seq ack typ credit nak pay) = true := by
  have hlow : packFields unitWidths [seq, ack, typ, credit, b2n nak, 0, pay] < 2 ^ 320 := packFields_lt unitWidths _
  rw [unitCrcOk, mkUnit_eq_packFields hseq hack htyp hcredit, Nat.mul_add_mod_self_right, Nat.mod_eq_of_lt hlow, bits, Nat.mul_comm,
    Nat.mul_add_div (Nat.two_pow_pos _), Nat.div_eq_of_lt hlow, Nat.add_zero, Nat.mod_eq_of_lt (crc16_lt _)]
  exact decide_eq_true rfl

/-- The fields of a unit are read back (R63). -/
theorem unitFields_mkUnit (hpay : pay < 2 ^ 288) : unitSeq (mkUnit seq ack typ credit nak pay) = seq ∧
    unitAck (mkUnit seq ack typ credit nak pay) = ack ∧ unitType (mkUnit seq ack typ credit nak pay) = typ ∧
    unitCredit (mkUnit seq ack typ credit nak pay) = credit ∧ unitNak (mkUnit seq ack typ credit nak pay) = nak ∧
    unitPay (mkUnit seq ack typ credit nak pay) = pay := by
  have hfield := bits_mkUnit (pay := pay) (nak := nak) hseq hack htyp hcredit
  have hpayload := hfield 287 0 6 _ (by decide) rfl rfl rfl hpay
  rw [bits, Nat.pow_zero, Nat.div_one] at hpayload
  have hnak := hfield 291 291 4 (b2n nak) (by decide) rfl rfl rfl (b2n_lt_two nak)
  exact ⟨hfield 319 312 0 _ (by decide) rfl rfl rfl hseq, hfield 311 304 1 _ (by decide) rfl rfl rfl hack,
    hfield 303 300 2 _ (by decide) rfl rfl rfl htyp, hfield 299 292 3 _ (by decide) rfl rfl rfl hcredit,
    by rw [unitNak, bitAt_eq_bits, hnak, decide_b2n], hpayload⟩

end

/-! ### Lanes (R62) -/

theorem length_dataLanes {map : Nat} (h : 14 ≤ ones16 map) : (dataLanes map).length = 14 := by
  rw [dataLanes, List.length_take]
  exact Nat.min_eq_left h

theorem mem_dataLanes {map l : Nat} (h : l ∈ dataLanes map) : l < 16 ∧ bitAt map l = true := by
  obtain ⟨hrange, hbit⟩ := List.mem_filter.1 (List.mem_of_mem_take h)
  exact ⟨List.mem_range.1 hrange, hbit⟩

theorem stripe_lane {map u : Nat} {q : Nat × BitVec 24} (h : q ∈ stripe map u) : q.1 ∈ dataLanes map := by
  obtain ⟨x, hx, rfl⟩ := List.mem_map.1 h
  exact List.fst_mem_of_mem_zipIdx hx

/-- Lanes from number `k` on carry the bits of the unit from `24 k` on. -/
theorem unstripe_lanes (l : List Nat) (k u : Nat) :
    ((((l.zipIdx k).map (fun q => (q.1, BitVec.ofNat 24 (u / 2 ^ (24 * q.2))))).zipIdx k).map (fun q => q.1.2.toNat * 2 ^ (24 * q.2))).sum =
      u / 2 ^ (24 * k) % 2 ^ (24 * l.length) * 2 ^ (24 * k) := by
  induction l generalizing k with
  | nil => simp [Nat.mod_one]
  | cons a l ih =>
    have hnext : (2 : Nat) ^ (24 * (k + 1)) = 2 ^ (24 * k) * 2 ^ 24 := Nat.pow_add 2 (24 * k) 24
    have hlength : (2 : Nat) ^ (24 * (a :: l).length) = 2 ^ 24 * 2 ^ (24 * l.length) := by
      rw [List.length_cons, Nat.mul_add, Nat.mul_one, Nat.add_comm, Nat.pow_add]
    rw [List.zipIdx_cons, List.map_cons, List.zipIdx_cons, List.map_cons, List.sum_cons, ih, BitVec.toNat_ofNat, hnext, hlength, Nat.mod_mul,
      ← Nat.div_div_eq_div_mul]
    ring

/-- A unit striped over 14 lanes is read back from them. -/
theorem unstripe_stripe {map u : Nat} (hu : u < 2 ^ 336) (hmap : 14 ≤ ones16 map) : unstripe (stripe map u) = u := by
  have hsum := unstripe_lanes (dataLanes map) 0 u
  rw [length_dataLanes hmap, Nat.mul_zero, Nat.pow_zero, Nat.div_one, Nat.mul_one, Nat.mod_eq_of_lt hu] at hsum
  exact hsum

/-- A receiver whose data lanes carry a striped unit reads that unit. -/
theorem gather_stripe {map u : Nat} {lanes : List (BitVec 24)} (h : ∀ q ∈ stripe map u, lanes.getD q.1 0#24 = q.2) :
    gather map lanes = unstripe (stripe map u) := by
  have hlanes : (dataLanes map).map (fun l => (l, lanes.getD l 0#24)) = stripe map u := by
    rw [stripe, ← List.zipIdx_map_fst 0 (dataLanes map), List.map_map, List.zipIdx_map_fst]
    exact List.map_congr_left (fun q hq => Prod.ext rfl (h _ (List.mem_map_of_mem hq)))
  rw [gather, hlanes]

/-! ### Sending (R65, R67) -/

/-- One content that waits is sent while fewer than 64 units are unacknowledged, and else waits on. -/
def Bundle.pumpOne (map : Nat) (b : Bundle) (x : Nat × Nat) : Bundle :=
  if b.kept.length < 64 then b.send map x else { b with queue := b.queue ++ [x] }

theorem Bundle.pump_eq (map : Nat) (b : Bundle) : b.pump map = b.queue.foldl (Bundle.pumpOne map) { b with queue := [] } := (rfl)

theorem Bundle.send_kept_length (map : Nat) (b : Bundle) (x : Nat × Nat) : (b.send map x).kept.length = b.kept.length + 1 := by
  simp only [Bundle.send, Bundle.paid, List.length_append, List.length_singleton]

/-- With 64 units unacknowledged, what waits keeps its order behind what waited before. -/
theorem Bundle.pumpOne_foldl_full (map : Nat) (l : List (Nat × Nat)) (b : Bundle) (h : 64 ≤ b.kept.length) :
    l.foldl (Bundle.pumpOne map) b = { b with queue := b.queue ++ l } := by
  induction l generalizing b with
  | nil => simp
  | cons x l ih =>
    have hwaits : b.pumpOne map x = { b with queue := b.queue ++ [x] } := if_neg (Nat.not_lt.2 h)
    rw [List.foldl_cons, hwaits, ih { b with queue := b.queue ++ [x] } h]
    simp only [List.append_assoc, List.singleton_append]

theorem Bundle.pump_full {b : Bundle} (map : Nat) (h : 64 ≤ b.kept.length) : b.pump map = b := by
  exact Bundle.pumpOne_foldl_full map b.queue { b with queue := [] } h

theorem Bundle.pump_kept_length {b : Bundle} (map : Nat) (h : b.kept.length ≤ 64) : (b.pump map).kept.length ≤ 64 := by
  rw [Bundle.pump_eq]
  refine List.foldlRecOn (motive := fun (b : Bundle) => b.kept.length ≤ 64) _ _ h (fun b hb x _ => ?_)
  unfold Bundle.pumpOne
  split
  · rw [Bundle.send_kept_length]
    omega
  · exact hb

/-- EVENT units stay ahead of all others in the queue (R67). -/
theorem Bundle.enqueue_eventsFirst {b : Bundle} (typ pay : Nat) (h : (b.queue.dropWhile (fun x => x.1 = 4)).all (fun x => x.1 ≠ 4) = true) :
    ((b.enqueue typ pay).queue.dropWhile (fun x => x.1 = 4)).all (fun x => x.1 ≠ 4) = true := by
  by_cases htyp : typ = 4
  · have hevents : ∀ x ∈ b.queue.takeWhile (fun x => x.1 = 4) ++ [(typ, pay)], decide (x.1 = 4) = true := by
      intro x hx
      rcases List.mem_append.1 hx with hx | hx
      · simpa using List.mem_takeWhile_imp hx
      · rw [List.mem_singleton.1 hx, htyp]; rfl
    rw [Bundle.enqueue, if_pos htyp]
    dsimp only
    rw [List.dropWhile_append_of_pos hevents, List.dropWhile_idempotent]
    exact h
  · rw [Bundle.enqueue, if_neg htyp]
    dsimp only
    rw [List.dropWhile_append]
    split
    · simp [List.dropWhile, htyp]
    · rw [List.all_append, h]
      simp [htyp]

theorem State.sendUnit_down {s : State} {d p i : Nat} (typ pay : Nat) (h : s.pairUp d p i = false) :
    s.sendUnit d p i typ pay = s.setBundle (bkey d p i) ((s.bundle (bkey d p i)).enqueue typ pay) := by
  simp only [State.sendUnit, h, Bool.false_eq_true, if_false]

/-! ### Units that arrive (R62, R65, R66) -/

/-- The bundle that has accepted a unit: the next SEQ is expected, and the payload is delivered. -/
def Bundle.accept (b : Bundle) (typ u : Nat) : Bundle :=
  { b with expSeq := (b.expSeq + 1) % 256, skipping := false, fails := 0, delivered := b.delivered ++ [(typ, BitVec.ofNat 288 (unitPay u))] }

/-- The bundle that asks for a replay: it discards what follows until then. -/
def Bundle.askReplay (b : Bundle) : Bundle := { b with skipping := true, nakOut := true, replays := b.replays + 1, fails := 0 }

theorem State.unitFail_first {s : State} {d p i : Nat} (first : Bool) (h : (s.bundle (bkey d p i)).skipping = false) :
    s.unitFail d p i first = s.setBundle (bkey d p i) (s.bundle (bkey d p i)).askReplay := by
  simp only [State.unitFail, h, Bool.not_false, if_true, Bundle.askReplay]

section
variable {s t : State} {d p i typ u : Nat} {v : List (Nat × BitVec 24)} {b : Bool} {l : List (Bool × List (Nat × BitVec 24))} (act : State → State)
  (hrec : receives d p i = true) (hup : s.pairUp d p i = true) (hwire : (s.bundle (farKey d p i)).wire = (b, v) :: l)
  (hsent : unitType (unstripe v) = typ)
include hrec hup hwire hsent

/-- A unit with a correct CRC and the SEQ that is next is taken off the lines and accepted, and then acts. -/
theorem State.unitIn_accepted (hcrc : unitCrcOk u = true) (htyp : unitType u = typ)
    (hack : (s.setBundle (farKey d p i) { s.bundle (farKey d p i) with wire := l }).ackIn d p i u = t)
    (hseq : unitSeq u = (t.bundle (bkey d p i)).expSeq) :
    s.unitIn d p i typ u act = act ((t.setBundle (bkey d p i) ((t.bundle (bkey d p i)).accept typ u)).creditsIn d p i u) := by
  simp only [State.unitIn, hwire, hrec, hup, hsent, hcrc, htyp, State.unitTake, hack, hseq, Bundle.accept, ne_eq, not_true_eq_false, decide_false,
    Bool.not_true, Bool.or_false, Bool.and_false, Bool.false_eq_true, if_false, if_true]

/-- A unit with a wrong CRC is taken off the lines and discarded. -/
theorem State.unitIn_badCrc (hcrc : unitCrcOk u = false) :
    s.unitIn d p i typ u act = (s.setBundle (farKey d p i) { s.bundle (farKey d p i) with wire := l }).unitFail d p i b := by
  simp only [State.unitIn, hwire, hrec, hup, hsent, hcrc, ne_eq, not_true_eq_false, decide_false, Bool.not_true, Bool.or_false, Bool.false_and,
    Bool.false_eq_true, if_false]

end

/-- Nothing arrives on a pair that is not up (R58). -/
theorem State.unitIn_down {s : State} {d p i : Nat} (typ u : Nat) (act : State → State) (h : s.pairUp d p i = false) : s.unitIn d p i typ u act = s := by
  unfold State.unitIn
  dsimp only
  split
  · rfl
  · simp [h]

theorem State.idleIn_down {s : State} {d p i : Nat} (u : Nat) (h : s.pairUp d p i = false) : s.idleIn d p i u = s := by
  simp [State.idleIn, h]

section
variable {s : State} {d p i u : Nat} (hrec : receives d p i = true) (hup : s.pairUp d p i = true)
include hrec hup

theorem State.idleIn_good (hcrc : unitCrcOk u = true) (hu : u % 2 ^ 312 = (s.bundle (farKey d p i)).idleUnit % 2 ^ 312) :
    s.idleIn d p i u = ((s.setBundle (farKey d p i)
      (Bundle.paid { s.bundle (farKey d p i) with nakOut := false } (s.bundle (farKey d p i)).creditBits)).ackIn d p i u).creditsIn d p i u := by
  simp only [State.idleIn, hrec, hup, hcrc, hu, Bool.not_true, Bool.or_false, Bool.false_eq_true, ne_eq, not_true_eq_false, if_false]

theorem State.idleIn_badCrc (hcrc : unitCrcOk u = false) : s.idleIn d p i u = s.unitFail d p i false := by
  simp only [State.idleIn, hrec, hup, hcrc, Bool.not_true, Bool.not_false, Bool.or_false, Bool.false_eq_true, if_false, if_true]

end

/-- A FLIT unit of a link enters the router at this end (R57). -/
def State.flitUnit (s : State) (d p i u : Nat) : State :=
  s.unitIn d p i 1 u (fun s => s.flitIn (privPort d p i).1 (privPort d p i).2 (unitPay u))

theorem exec_flit_link (d : Die) (p : Fin 2) {n : Fin 129} (lanes : List (BitVec 24)) (s : State) (h : n.val ≠ 0x80) :
    exec (.flit d p n lanes) s = .next (s.flitUnit d p n (s.lanesIn d p n lanes)) :=
  congrArg Host.Outcome.next (if_neg h)

theorem exec_flit_down {d : Die} {p : Fin 2} {n : Fin 129} (lanes : List (BitVec 24)) {s : State} (h : s.pairUp d p n = false) :
    exec (.flit d p n lanes) s = .next s := by
  by_cases hn : n.val = 0x80
  · exact congrArg Host.Outcome.next (if_pos hn)
  · rw [exec_flit_link d p lanes s hn, State.flitUnit, State.unitIn_down 1 _ _ h]

/-- A control bundle carries no credits (R63). -/
theorem State.creditsIn_control (s : State) (d p u : Nat) : s.creditsIn d p 0x80 u = s := (rfl)

section
variable {s : State} {typ d : Nat} {w : BitVec 288} (act : State → State)

/-- A payload that no die has sent on is for the die that it reaches. -/
theorem State.ctrlIn_here (h : s.seams.units.find? (fun x => x.1 = typ && x.2.2 = w) = none) : s.ctrlIn typ d w act = act s := by
  simp only [State.ctrlIn, h]

theorem State.ctrlIn_onward {x : Nat × Nat × BitVec 288} (h : s.seams.units.find? (fun x => x.1 = typ && x.2.2 = w) = some x) (hd : x.2.1 ≠ d) :
    s.ctrlIn typ d w act = State.ctrlForward { s with seams.units := s.seams.units.erase x } typ d x.2.1 w := by
  simp only [State.ctrlIn, h, hd, if_false]

end

/-- Settles O18: each unit that arrives is accepted, discarded or ignored by the first test that it meets; a unit and its lanes are read back
because their fields lie side by side. -/
theorem seamUnits : Obligations.SeamUnits := by
  unfold Obligations.SeamUnits
  refine ⟨?idle, ?flit, ?control, ?idleBad, ?flitBad, fun d p n lanes s h => ⟨congrArg Host.Outcome.next (State.idleIn_down _ h), exec_flit_down lanes h⟩,
    fun b map => Bundle.pump_full map, fun b map => Bundle.pump_kept_length map, fun b typ pay => Bundle.enqueue_eventsFirst typ pay,
    fun d p i typ pay s => State.sendUnit_down typ pay, fun u map => unstripe_stripe,
    fun seq ack typ credit pay nak hseq hack htyp hcredit hpay =>
      ⟨unitCrcOk_mkUnit hseq hack htyp hcredit, unitFields_mkUnit hseq hack htyp hcredit hpay⟩,
    fun u map lanes hu hmap h => (gather_stripe h).trans (unstripe_stripe hu hmap), fun u map q hq => mem_dataLanes (stripe_lane hq)⟩
  case idle =>
    intro d p n lanes u s hrec hup hu hcrc hidle
    subst hu
    exact congrArg Host.Outcome.next (State.idleIn_good hrec hup hcrc hidle)
  case flit =>
    intro d p n lanes u v b l s t hrec hn hup hwire hsent hu hcrc htyp hack hseq
    subst hu
    rw [exec_flit_link d p lanes s hn, State.flitUnit, State.unitIn_accepted _ hrec hup hwire hsent hcrc htyp hack hseq]
    rfl
  case control =>
    intro d p lanes u v b l s t t' typ hup hwire hsent hu hcrc htyp hack hseq ht'
    subst hu
    have haccept (act : State → State) : s.unitIn d p 0x80 typ (s.lanesIn d p 0x80 lanes) act = act t' := by
      rw [State.unitIn_accepted act rfl hup hwire hsent hcrc htyp hack hseq, State.creditsIn_control]
      exact congrArg act ht'
    refine ⟨?_, ?_, ?_, ?_⟩
    · rintro rfl
      exact congrArg Host.Outcome.next (haccept _)
    · rintro rfl hnone
      exact congrArg Host.Outcome.next ((haccept _).trans (State.ctrlIn_here _ hnone))
    · rintro rfl hnone
      exact congrArg Host.Outcome.next ((haccept _).trans (State.ctrlIn_here _ hnone))
    · rintro x rfl hsome hd
      exact congrArg Host.Outcome.next ((haccept _).trans (State.ctrlIn_onward _ hsome hd))
  case idleBad =>
    intro d p n lanes s hrec hup hcrc hskip
    exact congrArg Host.Outcome.next ((State.idleIn_badCrc hrec hup hcrc).trans (State.unitFail_first false hskip))
  case flitBad =>
    intro d p n lanes v b l s t hrec hn hup hwire hsent hcrc ht hskip
    subst ht
    rw [exec_flit_link d p lanes s hn, State.flitUnit, State.unitIn_badCrc _ hrec hup hwire hsent hcrc, State.unitFail_first b hskip]
    rfl

end Sys2Proof.Machine

/-! SUPPORT. Event lines (08 R208–R211; 03 R67, R79): what the sending of an EVENT unit leaves as it was, the pulses of a raised line, and their
delivery. -/

namespace Sys2Proof.Machine

/-! ### Control bundle pairs (R79) -/

theorem across_across {d : Nat} (p : Nat) (h : d < 4) : across (across d p) p = d := by
  unfold across
  by_cases hp : p = 0 <;> interval_cases d <;> simp [hp]

theorem across_lt {d : Nat} (p : Nat) (h : d < 4) : across d p < 4 := by
  unfold across
  by_cases hp : p = 0 <;> interval_cases d <;> simp [hp]

theorem State.ctrlPair_eq (s : State) (d p : Nat) : s.ctrlPair d p =
    ((s.bstate d p 0x80 = 1 || s.bstate d p 0x80 = 2) && (s.bstate (across d p) p 0x80 = 1 || s.bstate (across d p) p 0x80 = 2) &&
      s.laneMap d p 0x80 = (s.bundle (bkey (across d p) p 0x80)).sendMap &&
      s.laneMap (across d p) p 0x80 = (s.bundle (bkey (across (across d p) p) p 0x80)).sendMap) := (rfl)

/-- A control bundle pair is up at both of its ends or at neither. -/
theorem State.ctrlPair_across (s : State) {d : Nat} (p : Nat) (h : d < 4) : s.ctrlPair (across d p) p = s.ctrlPair d p := by
  rw [State.ctrlPair_eq, State.ctrlPair_eq, across_across p h]
  ac_rfl

theorem State.ctrlPair_of_ring {s : State} (h : s.ctrlRing = true) {d p : Nat} (hd : d < 4) (hp : p < 2) : s.ctrlPair d p = true := by
  simp only [State.ctrlRing, Bool.and_eq_true] at h
  obtain ⟨⟨⟨h00, h01⟩, h30⟩, h31⟩ := h
  have h10 := (s.ctrlPair_across 0 (d := 0) (by decide)).trans h00
  have h21 := (s.ctrlPair_across 1 (d := 0) (by decide)).trans h01
  have h20 := (s.ctrlPair_across 0 (d := 3) (by decide)).trans h30
  have h11 := (s.ctrlPair_across 1 (d := 3) (by decide)).trans h31
  interval_cases d <;> interval_cases p <;> assumption

theorem State.cutOff_of_ring {s : State} (h : s.ctrlRing = true) {d : Nat} (hd : d < 4) : s.cutOff d = false := by
  simp [State.cutOff, State.ctrlPair_of_ring h hd]

/-- Whether a control bundle pair is up depends on PRIV_STATUS of its two ends, and on the maps by which they send. -/
theorem State.ctrlPair_congr {s t : State} {d p : Nat} (hmap : ∀ k, (s.bundle k).sendMap = (t.bundle k).sendMap)
    (hstate : ∀ e ∈ [d, across d p], s.bstate e p 0x80 = t.bstate e p 0x80) (hlanes : ∀ e ∈ [d, across d p], s.laneMap e p 0x80 = t.laneMap e p 0x80) :
    s.ctrlPair d p = t.ctrlPair d p := by
  rw [State.ctrlPair_eq, State.ctrlPair_eq, hmap, hmap, hstate d (by simp), hstate (across d p) (by simp), hlanes d (by simp),
    hlanes (across d p) (by simp)]

/-! ### What the sending of a unit leaves as it was (R65) -/

@[simp] theorem Bundle.enqueue_sendMap (b : Bundle) (typ pay : Nat) : (b.enqueue typ pay).sendMap = b.sendMap := by
  simp [Bundle.enqueue, apply_ite Bundle.sendMap]

@[simp] theorem Bundle.pumpOne_sendMap (map : Nat) (b : Bundle) (x : Nat × Nat) : (b.pumpOne map x).sendMap = b.sendMap := by
  unfold Bundle.pumpOne
  split <;> rfl

@[simp] theorem Bundle.pump_sendMap (map : Nat) (b : Bundle) : (b.pump map).sendMap = b.sendMap :=
  foldl_keeps Bundle.sendMap _ (Bundle.pumpOne_sendMap map) b.queue { b with queue := [] }

@[simp] theorem State.sendUnit_regs (s : State) (d p i typ pay : Nat) : (s.sendUnit d p i typ pay).regs = s.regs := (rfl)
@[simp] theorem State.sendUnit_evs (s : State) (d p i typ pay : Nat) : (s.sendUnit d p i typ pay).evs = s.evs := (rfl)

section
variable {s : State} (w : Tbl.wf (fun _ => Bundle.init) s.seams.bundles = true)
include w

theorem State.wf_sendUnit (d p i typ pay : Nat) : Tbl.wf (fun _ => Bundle.init) (s.sendUnit d p i typ pay).seams.bundles = true :=
  Tbl.wf_tput (fun _ => Bundle.init) _ _ _ w

theorem State.bundle_setBundle_other {k j : Nat} (b : Bundle) (h : j ≠ k) : (s.setBundle k b).bundle j = s.bundle j :=
  tget_tput_other (fun _ => Bundle.init) _ _ _ _ _ _ h w

/-- A unit joins the queue of its bundle and leaves with what waits there, where the pair is up. -/
theorem State.bundle_sendUnit_up {d p i : Nat} (typ pay : Nat) (hup : s.pairUp d p i = true) : (s.sendUnit d p i typ pay).bundle (bkey d p i) =
    ((s.bundle (bkey d p i)).enqueue typ pay).pump (s.farMap (across d p) p (partner i)) := by
  simp only [State.sendUnit, hup, if_true]
  exact State.bundle_setBundle _ _ _ w

theorem State.sendMap_sendUnit (d p i typ pay k : Nat) : ((s.sendUnit d p i typ pay).bundle k).sendMap = (s.bundle k).sendMap := by
  by_cases hk : k = bkey d p i
  · subst hk
    have hread (b : Bundle) : (s.setBundle (bkey d p i) b).bundle (bkey d p i) = b := State.bundle_setBundle _ _ _ w
    simp [State.sendUnit, hread, apply_ite Bundle.sendMap]
  · exact congrArg Bundle.sendMap (State.bundle_setBundle_other w _ hk)

theorem State.ctrlPair_sendUnit (d p i typ pay e q : Nat) : (s.sendUnit d p i typ pay).ctrlPair e q = s.ctrlPair e q :=
  State.ctrlPair_congr (State.sendMap_sendUnit w d p i typ pay) (fun _ _ => rfl) (fun _ _ => rfl)

end

/-! ### Pulses that leave a die (R67, R79, R209) -/

@[simp] theorem State.evForward_regs (s : State) (d : Nat) (via : Option Nat) (mask : Nat) : (s.evForward d via mask).regs = s.regs :=
  foldl_keeps State.regs _ (fun u p => u.sendUnit_regs d p 0x80 4 mask) _ s

@[simp] theorem State.evForward_evs (s : State) (d : Nat) (via : Option Nat) (mask : Nat) : (s.evForward d via mask).evs = s.evs :=
  foldl_keeps State.evs _ (fun u p => u.sendUnit_evs d p 0x80 4 mask) _ s

theorem State.evPorts_cutOff {s : State} {d : Nat} (h : s.cutOff d = true) : s.evPorts d none = [] := by
  simp only [State.cutOff, Bool.and_eq_true, Bool.not_eq_true'] at h
  simp [State.evPorts, h]

theorem State.evPorts_ring {s : State} {d : Nat} (h : s.ctrlRing = true) (hd : d < 4) : s.evPorts d none = [0, 1] := by
  simp [State.evPorts, State.ctrlPair_of_ring h hd]

section
variable {s : State} (hring : s.ctrlRing = true) (w : Tbl.wf (fun _ => Bundle.init) s.seams.bundles = true) {d : Nat} (hd : d < 4)
include hring hd

/-- With the ring whole, a pulse leaves its die by both ports. -/
theorem State.evForward_ring (mask : Nat) : s.evForward d none mask = (s.sendUnit d 0 0x80 4 mask).sendUnit d 1 0x80 4 mask := by
  rw [State.evForward, State.evPorts_ring hring hd]
  rfl

include w

theorem State.ctrlRing_evForward (mask : Nat) : (s.evForward d none mask).ctrlRing = true := by
  rw [State.evForward_ring hring hd]
  simp only [State.ctrlRing, State.ctrlPair_sendUnit (State.wf_sendUnit w d 0 0x80 4 mask), State.ctrlPair_sendUnit w]
  exact hring

/-- The two EVENT units of a pulse stand on bundles of their own, so each is what it would be alone. -/
theorem State.bundle_evForward_ring (mask : Nat) {p : Nat} (hp : p < 2) : (s.evForward d none mask).bundle (bkey d p 0x80) =
    ((s.bundle (bkey d p 0x80)).enqueue 4 mask).pump (s.farMap (across d p) p 0x80) := by
  have wfirst := State.wf_sendUnit w d 0 0x80 4 mask
  have hapart : bkey d 0 0x80 ≠ bkey d 1 0x80 := by unfold bkey; omega
  rw [State.evForward_ring hring hd]
  interval_cases p
  · exact (State.bundle_setBundle_other wfirst _ hapart).trans (State.bundle_sendUnit_up w 4 mask (State.ctrlPair_of_ring hring hd (by decide)))
  · have hup : (s.sendUnit d 0 0x80 4 mask).pairUp d 1 0x80 = true :=
      (State.ctrlPair_sendUnit w d 0 0x80 4 mask d 1).trans (State.ctrlPair_of_ring hring hd (by decide))
    have hmap : (s.sendUnit d 0 0x80 4 mask).farMap (across d 1) 1 0x80 = s.farMap (across d 1) 1 0x80 := State.sendMap_sendUnit w d 0 0x80 4 mask _
    have hqueue : (s.sendUnit d 0 0x80 4 mask).bundle (bkey d 1 0x80) = s.bundle (bkey d 1 0x80) :=
      State.bundle_setBundle_other w _ hapart.symm
    rw [State.bundle_sendUnit_up wfirst 4 mask hup, hqueue]
    exact congrArg (fun map => ((s.bundle (bkey d 1 0x80)).enqueue 4 mask).pump map) hmap

end

/-! ### Lost pulses (R79) -/

/-- With no die cut off, no pulse is lost. -/
theorem State.evLost_connected {s : State} {d : Nat} (hd : d < 4) (h : ∀ x < 4, s.cutOff x = false) : s.evLost d = s := by
  have hgone : (List.range 4).filter s.cutOff = [] := List.filter_eq_nil_iff.2 (fun x hx => by simp [h x (List.mem_range.1 hx)])
  simp [State.evLost, h d hd, hgone]

theorem privStatus_valid {d p i : Nat} (hd : d < 4) (hp : p < 2) (hi : i ≤ 0x80) : Rg.privStatus.valid d (256 * p + i) = true :=
  (Rg.valid_iff _ _ _).2 ⟨hd, show 256 * p + i < 512 by omega, decide_eq_true (by omega)⟩

theorem seamCounts_valid {d : Nat} (hd : d < 4) : Rg.seamCounts.valid d 0 = true := by
  interval_cases d <;> decide

/-- The count of lost pulses lies beside the states of the bundles. -/
theorem State.cutOff_count {s : State} (w : s.regsWf = true) {n d : Nat} (hn : n < 4) (hd : d < 4) :
    (s.count F.seamCounts_eventsLost n 0 1).cutOff d = s.cutOff d := by
  have hfield (g : FRef) (hg : g.rg = .privStatus) {e p : Nat} (he : e < 4) (hp : p < 2) :
      (s.count F.seamCounts_eventsLost n 0 1).getF g e (256 * p + 0x80) = s.getF g e (256 * p + 0x80) := by
    refine State.getF_setF_other s _ g _ _ _ _ _ w ?_
    rw [hg]
    exact Rg.key_ne (seamCounts_valid hn) (privStatus_valid he hp (Nat.le_refl _)) (by simp)
  have hmap (k : Nat) : ((s.count F.seamCounts_eventsLost n 0 1).bundle k).sendMap = (s.bundle k).sendMap := by
    simp only [State.bundle, State.count_seams]
  have hpair {p : Nat} (hp : p < 2) : (s.count F.seamCounts_eventsLost n 0 1).ctrlPair d p = s.ctrlPair d p := by
    have hends : ∀ e ∈ [d, across d p], e < 4 := by simp [hd, across_lt p hd]
    exact State.ctrlPair_congr hmap (fun e he => hfield F.privStatus_state rfl (hends e he) hp) (fun e he => hfield F.privStatus_laneMap rfl (hends e he) hp)
  simp only [State.cutOff, hpair (p := 0) (by decide), hpair (p := 1) (by decide)]

/-- A pulse of a connected die is lost to the one die that is cut off, and both of that die's neighbors count it. -/
theorem State.evLost_one {s : State} (w : s.regsWf = true) (hrun : s.pw.mode = .run) {d e : Nat} (hd : s.cutOff d = false) (he : e < 4)
    (hcut : ∀ x < 4, s.cutOff x = true ↔ x = e) :
    s.evLost d = (s.count F.seamCounts_eventsLost (across e 0) 0 1).count F.seamCounts_eventsLost (across e 1) 0 1 := by
  have hgone : (List.range 4).filter s.cutOff = [e] := by
    have hiff : (List.range 4).filter s.cutOff = (List.range 4).filter (fun x => x = e) :=
      List.filter_congr (fun x hx => by rw [Bool.eq_iff_iff, decide_eq_true_iff, hcut x (List.mem_range.1 hx)])
    rw [hiff]
    interval_cases e <;> rfl
  have hneighbor {p : Nat} (hp : p < 2) : s.cutOff (across e p) = false := by
    have hne : across e p ≠ e := by
      interval_cases e <;> interval_cases p <;> decide
    exact Bool.eq_false_iff.2 (fun h => hne ((hcut _ (across_lt p he)).1 h))
  have hsecond := State.cutOff_count w (across_lt 0 he) (across_lt 1 he)
  simp [State.evLost, hrun, hd, hgone, hneighbor (p := 0), hneighbor (p := 1), hsecond]

/-! ### Raised lines (R209, R210) -/

section
variable {s : State} {d tenant l : Nat} (howner : s.lineOwner l = tenant)
include howner

/-- A pulse on a die that is cut off waits for the sinks of that die alone. -/
theorem State.raiseEv_cutOff (hcut : s.cutOff d = true) (hmode : s.pw.mode ≠ .run) :
    s.raiseEv d tenant l = { s with evs.waiting := s.evs.waiting ++ [d * 256 + l] } := by
  have hports : State.evPorts { s with evs.waiting := s.evs.waiting ++ [d * 256 + l] } d none = [] := State.evPorts_cutOff hcut
  rw [State.raiseEv, if_pos howner, State.evForward, hports]
  exact if_pos hmode

/-- With the ring whole, a pulse waits for the sinks of its die and leaves it by both ports, and none is lost. -/
theorem State.raiseEv_ring (hd : d < 4) (hring : s.ctrlRing = true) (w : Tbl.wf (fun _ => Bundle.init) s.seams.bundles = true) :
    s.raiseEv d tenant l = State.evForward { s with evs.waiting := s.evs.waiting ++ [d * 256 + l] } d none (2 ^ l) := by
  have hwhole := State.ctrlRing_evForward (s := { s with evs.waiting := s.evs.waiting ++ [d * 256 + l] }) hring w hd (2 ^ l)
  rw [State.raiseEv, if_pos howner, State.evLost_connected hd (fun x hx => State.cutOff_of_ring hwhole hx)]

end

theorem State.raiseEv_refused {s : State} {tenant l : Nat} (d : Nat) (h : s.lineOwner l ≠ tenant) :
    s.raiseEv d tenant l = s.count F.evErrors_refused 0 0 1 := if_neg h

/-- The right to write EV_RAISE is the ownership of every line that it names. -/
theorem State.lineOwner_of_regRight {s : State} {q : Rq} {w v : Nat} (h : s.regRight q true .evRaise 0 w v = true) :
    ∀ i ∈ (List.range 32).filter (fun i => bitAt v i), s.lineOwner (32 * w + i) = q.tenant := by
  simp only [State.regRight, Bool.and_eq_true, Bool.not_true, Bool.false_or, List.all_eq_true, decide_eq_true_eq] at h
  exact h.2

theorem State.evRaise_owned {s : State} {tenant w v : Nat}
    (h : ∀ i ∈ (List.range 32).filter (fun i => bitAt v i), s.lineOwner (32 * w + i) = tenant) :
    (s.evRaise tenant w v).1 = ((List.range 32).filter (fun i => bitAt v i)).foldl (fun s i => s.raiseEv 0 tenant (32 * w + i)) s := by
  have hnone : ((List.range 32).filter (fun i => bitAt v i)).any (fun i => decide (s.lineOwner (32 * w + i) ≠ tenant)) = false :=
    List.any_eq_false.2 (fun i hi => by simp [h i hi])
  simp only [State.evRaise, hnone, Bool.false_eq_true, if_false]

theorem State.writeReg_evRaise {s : State} (q : Rq) {w v : Nat} (hok : Rg.evRaise.okWrite v = true) :
    s.writeReg q .evRaise 0 w v = (s.evRaise q.tenant w v).1 := by
  rw [State.writeReg, hok]
  rfl

theorem exec_evRaise_granted {r : Req} {s : State} {w v : Nat} (h : s.grantsWrite r .evRaise 0 w v) :
    exec (.evRaise r) s = .next (State.respond (((List.range 32).filter (fun i => bitAt v i)).foldl
      (fun s i => s.raiseEv 0 r.rq.tenant (32 * w + i)) (s.takeReq r)) r svcOK []) := by
  obtain ⟨-, -, -, -, -, -, hright, -, hok⟩ := id h
  refine (regRow_granted .evRaise 0 w v _ r s h (decide_eq_true rfl)).trans ?_
  rw [State.writeReg_evRaise r.rq hok, State.evRaise_owned (State.lineOwner_of_regRight hright)]

section
variable {t : Tile} {n : Fin 8} {join : Bool} {s u : State} {l : Nat} (hline : (s.tcfg t).raise.getD n 256 = l) (hl : l < 256)
  (hrun : s.portRuns t .events n = true) (hedge : s.portEdge t .events n join = u) (hhigh : u.preEdge.senseBit t .events .raise n true = true)
include hline hl hrun hedge hhigh

theorem exec_fabricRaise_edge : exec (.fabricRaise t n join) s = .next (u.raiseEv (t.val / 256) (u.tileTenant t) l) := by
  subst hline
  refine congrArg Host.Outcome.next ((if_pos ⟨hl, hrun⟩).trans ?_)
  simp only [hedge, hhigh, if_true]

end

theorem exec_evclr_edge {t : Tile} {k : Fin 4} {join : Bool} {s u : State} (hrun : s.portRuns t .events (16 + k) = true)
    (hedge : s.portEdge t .events (16 + k) join = u) (hhigh : u.preEdge.senseBit t .events .evclr k true = true) :
    exec (.evclr t k join) s = .next { u with evs.evcnt := tput 0 u.evs.evcnt (4 * t.val + k.val) 0 } := by
  refine congrArg Host.Outcome.next ((if_pos hrun).trans ?_)
  simp only [hedge, hhigh, if_true]

/-! ### Delivery (R208) -/

theorem exec_eventDelivery_one {s : State} {x : Nat} {w : List Nat} (h : s.evs.waiting = x :: w) :
    exec (.eventDelivery 1) s = .next (State.pulse { s with evs.waiting := w } (x / 256) (x % 256)) := by
  refine congrArg Host.Outcome.next ?_
  simp [h, List.eraseDups_cons]

/-- Two pulses on one line of a die are one, which die 0 counts (log entry 114). -/
theorem exec_eventDelivery_merged {s : State} {d l : Nat} {w : List Nat} (hl : l < 256) (h : s.evs.waiting = (d * 256 + l) :: (d * 256 + l) :: w) :
    exec (.eventDelivery 2) s = .next (State.pulse
      (if d = 0 then State.count { s with evs.waiting := w } F.evErrors_merged 0 0 1 else { s with evs.waiting := w }) d l) := by
  have hdie : (d * 256 + l) / 256 = d := by omega
  have hnumber : (d * 256 + l) % 256 = l := by omega
  have hzero : d * 256 + l < 256 ↔ d = 0 := by omega
  refine congrArg Host.Outcome.next ?_
  simp [h, List.eraseDups_cons, hdie, hnumber, hzero]

/-- Settles O25: a raised line is a refusal, or a pulse that waits and leaves by the ports that are up; delivery takes the pulses in order. -/
theorem eventLines : Obligations.EventLines := by
  unfold Obligations.EventLines
  refine ⟨fun r s w v => exec_evRaise_granted, ?cutOff, ?ring, ?refused, fun t n join s hstop => congrArg Host.Outcome.next (if_neg (by simp [hstop])),
    fun s d e w hrun _ hd he => State.evLost_one w hrun hd he, fun s => rfl, fun s x w => exec_eventDelivery_one, ?merged, ?mergedZero,
    fun t k join s u => exec_evclr_edge, fun t k join s hstop => congrArg Host.Outcome.next (if_neg (by simp [hstop]))⟩
  case cutOff =>
    intro t n join s u l hline hl hrun hedge hhigh howner hcut hmode
    rw [exec_fabricRaise_edge hline hl hrun hedge hhigh, State.raiseEv_cutOff howner hcut hmode]
  case ring =>
    intro t n join s u l hline hl hrun hedge hhigh howner hring w
    have hdie : t.val / 256 < 4 := by omega
    refine ⟨_, (exec_fabricRaise_edge hline hl hrun hedge hhigh).trans (congrArg Host.Outcome.next (State.raiseEv_ring howner hdie hring w)), ?_, ?_,
      State.evPorts_ring hring hdie, fun p hp =>
        State.bundle_evForward_ring (s := { u with evs.waiting := u.evs.waiting ++ [t.val / 256 * 256 + l] }) hring w hdie (2 ^ l) hp⟩
    · rw [State.evForward_evs]
    · rw [State.evForward_regs]
  case refused =>
    intro t n join s u l hline hl hrun hedge hhigh howner
    rw [exec_fabricRaise_edge hline hl hrun hedge hhigh, State.raiseEv_refused _ howner]
  case merged =>
    intro s d l w hd hl h
    rw [exec_eventDelivery_merged hl h, if_neg hd]
  case mergedZero =>
    intro s l w hl h
    rw [exec_eventDelivery_merged (d := 0) hl (by rw [h, Nat.zero_mul, Nat.zero_add]), if_pos rfl]

end Sys2Proof.Machine

/-! SUPPORT. How the seams start (03 R69–R71, R74, R76–R78, R82–R84): roll call, the boot seam test, the training of a bundle, the end of a replay window,
and seam resets. -/

namespace Sys2Proof.Machine

/-! ### LOCKOUT keeps the queue of commands -/

@[simp] theorem State.raiseEv_pending (s : State) (d tenant l : Nat) : (s.raiseEv d tenant l).pending = s.pending :=
  congrArg (fun x => x.2.2) (s.raiseEv_fabricFrame d tenant l)

@[simp] theorem State.updHoldover_pending (s : State) : s.updHoldover.pending = s.pending := by
  unfold State.updHoldover
  exact iter_keeps State.pending _ _ (fun n u => by simp [apply_ite State.pending]) s

@[simp] theorem State.carrierLost_pending (s : State) (l : Nat) : (s.carrierLost l).pending = s.pending := by
  have hrequest : (s.carRequest 0x28).pending = s.pending := by
    unfold State.carRequest
    split
    · rfl
    · simp [apply_ite State.pending]
  simp [State.carrierLost, apply_ite State.pending, hrequest]

@[simp] theorem State.qAbort_pending (s : State) (k : Nat) : (s.qAbort k).pending = s.pending := by
  simp [State.qAbort, apply_ite State.pending]

@[simp] theorem State.directPush_pending (s : State) (k : Nat) (l : List QWord) : (s.directPush k l).pending = s.pending := by
  induction l generalizing s with
  | nil => rfl
  | cons w l ih => simp [State.directPush, State.qWrite, apply_ite State.pending, ih]

@[simp] theorem State.cutFrames_pending (s : State) (l : Nat) : (s.cutFrames l).pending = s.pending := by
  have hbusy : (if (s.lane l).txBusy then s.lnCount F.lnTxCounts_errEnd l 1 else s).pending = s.pending := by
    split <;> rfl
  unfold State.cutFrames
  dsimp only
  generalize (if (s.lane l).txBusy then s.lnCount F.lnTxCounts_errEnd l 1 else s) = u at hbusy ⊢
  rw [State.setLane_pending]
  split
  · simp [apply_ite State.pending, hbusy]
  · exact hbusy

@[simp] theorem State.lnEv_pending (s : State) (l : Nat) : (s.lnEv l).pending = s.pending := by
  simp [State.lnEv, apply_ite State.pending]

@[simp] theorem State.setLnF_pending (s : State) (f : FRef) (l v : Nat) : (s.setLnF f l v).pending = s.pending := (rfl)

@[simp] theorem State.setLnSt_pending (s : State) (l v : Nat) : (s.setLnSt l v).pending = s.pending := by
  simp [State.setLnSt, apply_ite State.pending]

@[simp] theorem State.setLos_pending (s : State) (l : Nat) (b : Bool) : (s.setLos l b).pending = s.pending := by
  simp [State.setLos, apply_ite State.pending]

@[simp] theorem State.setLol_pending (s : State) (l : Nat) (b : Bool) : (s.setLol l b).pending = s.pending := by
  simp [State.setLol, apply_ite State.pending]

@[simp] theorem State.laneOff_pending (s : State) (l : Nat) : (s.laneOff l).pending = s.pending := by
  simp [State.laneOff, State.setLn]

@[simp] theorem State.lanesIdle_pending (s : State) : s.lanesIdle.pending = s.pending := by
  unfold State.lanesIdle
  exact iter_keeps State.pending _ _ (fun n u => by simp [apply_ite State.pending]) s

@[simp] theorem State.lockout_pending (s : State) (cause die : Nat) : (s.lockout cause die).pending = s.pending := by
  simp [State.lockout, apply_ite State.pending]

@[simp] theorem State.lockout_from (s : State) (cause die : Nat) : (s.lockout cause die).pw.lockoutFrom = s.pw.mode := by
  simp [State.lockout, apply_ite State.pw]

@[simp] theorem State.seamFault_pw (s : State) (d code port c b w : Nat) : (s.seamFault d code port c b w).pw = s.pw := by
  simp [State.seamFault, apply_ite State.pw]

@[simp] theorem State.seamFault_pending (s : State) (d code port c b w : Nat) : (s.seamFault d code port c b w).pending = s.pending := by
  simp [State.seamFault, apply_ite State.pending]

/-! ### Roll call (R69, R70) -/

theorem State.rolling_mode {s : State} (h : s.rolling = true) : s.pw.mode = .boot := by
  simp only [State.rolling, Bool.and_eq_true, decide_eq_true_eq] at h
  exact h.1.1

section
variable {d : Die} {p : Fin 2} {c : List (BitVec 336)} {w : BitVec 288} {s : State} (hroll : s.rolling = true) (hunit : rollUnit c = some w)
include hroll hunit

section
variable (hkind : rollKind w = 1) (hsent : ((s.roll (across d p)).out p).contains w = true)
include hkind hsent

/-- Die 3 takes its number and answers. -/
theorem exec_rollCall_last (hto : rollTo w = 3) : exec (.rollCall d p c) s = .next
    (((s.setRoll d { s.roll d with numbered := some 3 }).rollSend d p (rollPay 2 3 3 p (silicon d) (rollCaptain w))).setF F.seamIdent_die d 0 3) := by
  refine congrArg Host.Outcome.next ?_
  simp [-List.contains_eq_mem, hunit, hroll, hkind, hsent, hto]

/-- Die 1 takes its number, answers, and calls die 3. -/
theorem exec_rollCall_first (hto : rollTo w = 1) : exec (.rollCall d p c) s = .next
    ((((s.setRoll d { s.roll d with numbered := some 1 }).rollSend d p (rollPay 2 1 1 p (silicon d) (rollCaptain w))).rollSend d 1
      (rollPay 1 1 3 1 (silicon d) (rollCaptain w))).setF F.seamIdent_die d 0 1) := by
  refine congrArg Host.Outcome.next ?_
  simp [-List.contains_eq_mem, hunit, hroll, hkind, hsent, hto]

end

section
variable (hkind : rollKind w = 2) {n : Nat} (hnum : (s.roll (across d p)).numbered = some n) (hto : rollTo w = n) (hcall : (s.roll d).sent p 1 = true)
include hkind hnum hto hcall

/-- A die keeps the identifier in the answer to its call; that of die 3 it relays to the captain. -/
theorem exec_rollAnswer_called : exec (.rollAnswer d p c) s = .next
    (let t := s.setRoll d (if p.val = 0 then { s.roll d with ansX := some (rollSilicon w) } else { s.roll d with ansY := some (rollSilicon w) })
     if n = 3 then t.rollSend d (1 - p.val) (rollPay 3 ((s.roll d).numbered.getD 0) 0 (1 - p.val) (rollSilicon w) (rollCaptain w)) else t) := by
  refine congrArg Host.Outcome.next ?_
  simp [hunit, hroll, hkind, hnum, hto, hcall]

end

section
variable (hkind : rollKind w = 3)
include hkind

theorem exec_rollRelay_one (hsent : (s.roll 1).outX.contains w = true) :
    exec (.rollRelay 0 c) s = .next (State.relayed { s with seams.relay1 := some (rollSilicon w) }) := by
  have hout : ((s.roll 1).out 0).contains w = true := hsent
  refine congrArg Host.Outcome.next ?_
  simp [-List.contains_eq_mem, hunit, hroll, hkind, hout]

theorem exec_rollRelay_two (hsent : (s.roll 2).outY.contains w = true) :
    exec (.rollRelay 1 c) s = .next (State.relayed { s with seams.relay2 := some (rollSilicon w) }) := by
  have hout : ((s.roll 2).out 1).contains w = true := hsent
  refine congrArg Host.Outcome.next ?_
  simp [-List.contains_eq_mem, hunit, hroll, hkind, hout]

end

end

/-- A die that has sent a ROLL unit holds it among those of its port. -/
theorem State.roll_rollSend (s : State) (d p : Nat) (w : BitVec 288) : (s.rollSend d p w).roll d =
    (if p = 0 then { s.roll d with outX := (s.roll d).outX ++ [w] } else { s.roll d with outY := (s.roll d).outY ++ [w] }) := by
  refine State.roll_setRoll_ne s d _ (fun hinit => ?_)
  have hx := congrArg RollDie.outX hinit
  have hy := congrArg RollDie.outY hinit
  by_cases hp : p = 0 <;> simp [hp, RollDie.init] at hx hy

theorem State.mem_out_rollSend (s : State) (d p : Nat) (w : BitVec 288) : w ∈ ((s.rollSend d p w).roll d).out p := by
  rw [State.roll_rollSend]
  by_cases hp : p = 0 <;> simp [hp, RollDie.out]

theorem State.mem_out_rollSend_of_mem {s : State} {d q : Nat} {x : BitVec 288} (p : Nat) (w : BitVec 288) (h : x ∈ ((s.roll d).out q)) :
    x ∈ ((s.rollSend d p w).roll d).out q := by
  rw [State.roll_rollSend]
  by_cases hp : p = 0 <;> by_cases hq : q = 0 <;> simp_all [RollDie.out]

@[simp] theorem State.rollSend_pw (s : State) (d p : Nat) (w : BitVec 288) : (s.rollSend d p w).pw = s.pw := (rfl)

/-- The captain's CONFIRM: to dies 1 and 2 by the port that faces each, and to die 3 by both (log entry 94). -/
def State.sendConfirms (s : State) : State :=
  (((s.rollSend 0 0 (rollPay 4 0 1 0 (silicon 0) (silicon 0))).rollSend 0 0 (rollPay 4 0 3 0 (silicon 0) (silicon 0))).rollSend 0 1
    (rollPay 4 0 2 1 (silicon 0) (silicon 0))).rollSend 0 1 (rollPay 4 0 3 1 (silicon 0) (silicon 0))

theorem State.mem_sendConfirms (s : State) : ∀ n p, (n, p) ∈ [(1, 0), (3, 0), (2, 1), (3, 1)] →
    rollPay 4 0 n p (silicon 0) (silicon 0) ∈ (s.sendConfirms.roll 0).out p := by
  intro n p hmem
  simp only [List.mem_cons, Prod.mk.injEq, List.not_mem_nil, or_false] at hmem
  unfold State.sendConfirms
  rcases hmem with ⟨rfl, rfl⟩ | ⟨rfl, rfl⟩ | ⟨rfl, rfl⟩ | ⟨rfl, rfl⟩
  · exact State.mem_out_rollSend_of_mem _ _ (State.mem_out_rollSend_of_mem _ _ (State.mem_out_rollSend_of_mem _ _ (State.mem_out_rollSend ..)))
  · exact State.mem_out_rollSend_of_mem _ _ (State.mem_out_rollSend_of_mem _ _ (State.mem_out_rollSend ..))
  · exact State.mem_out_rollSend_of_mem _ _ (State.mem_out_rollSend ..)
  · exact State.mem_out_rollSend ..

/-- One relayed identifier alone decides nothing. -/
theorem State.relayed_one {s : State} (h : s.seams.relay2 = none) : s.relayed = s := by
  cases hone : s.seams.relay1 <;> simp only [State.relayed, hone, h]

section
variable {s : State} {a b : Nat} (ha : s.seams.relay1 = some a) (hb : s.seams.relay2 = some b)
include ha hb

theorem State.relayed_same (h : a = b) : s.relayed = s.sendConfirms := by
  simp only [State.relayed, ha, hb, h, if_true]
  rfl

theorem State.relayed_mismatch (h : a ≠ b) : s.relayed = (s.seamFault 0 2 0 0 0 0).lockout 2 0 := by
  simp only [State.relayed, ha, hb, h, if_false]

end

/-- Every die with an unanswered CALL records it. -/
def State.recordMissed (s : State) : State :=
  iter 4 (fun d s => iter 2 (fun p s => if s.unanswered d p then s.seamFault d 1 p 0 0 0 else s) s) s

theorem State.recordMissed_keeps (s : State) : (s.recordMissed.pw, s.recordMissed.pending) = (s.pw, s.pending) := by
  refine iter_keeps (fun s => (s.pw, s.pending)) 4 _ (fun d s => iter_keeps (fun s => (s.pw, s.pending)) 2 _ (fun p s => ?_) s) s
  split <;> simp

theorem exec_rollCallMissed_locks {s : State} (h : s.rolling = true) : ∃ die, exec .rollCallMissed s = .next (s.recordMissed.lockout 1 die) :=
  ⟨_, congrArg Host.Outcome.next (if_pos h)⟩

/-! ### The boot seam test (R74) -/

theorem State.unrepairable_lockout (s : State) (k w : Nat) :
    (s.unrepairable k w).pw.mode = .lockout ∧ (s.unrepairable k w).pw.lockoutFrom = s.pw.mode := by
  simp [State.unrepairable, State.lockout_mode]

/-! ### Training (R76) -/

theorem exec_train_partner {d : Die} {p : Fin 2} {n : Fin 129} {c : List (BitVec 336)} {u : Nat} {s : State} (hrec : receives d p n = true)
    (hstate : s.bstate d p n = 3) (hcopy : firstCopy 2 c = some u) :
    exec (.train d p n c) s = .next (s.setBundle (bkey d p n) { s.bundle (bkey d p n) with partnerMap := some (unitPay u % 65536) }) := by
  refine congrArg Host.Outcome.next ?_
  simp only [hcopy, hrec, hstate, and_self, if_true]

theorem exec_bundleTrainingDone_up {d : Die} {p : Fin 2} {n : Fin 129} {own : BitVec 16} {late : Bool} {s : State} {map : Nat}
    (hrec : receives d p n = true) (hstate : s.bstate d p n = 3) (hmap : (s.bundle (bkey d p n)).partnerMap = some map)
    (hgood : 14 ≤ ones16 (s.agreed d p n (own.toNat &&& map))) :
    exec (.bundleTrainingDone d p n own late) s = .next (State.resetEnd
      (let t := s.trained d p n (s.agreed d p n (own.toNat &&& map))
       { t with seams.resets := t.seams.resets.filter (· ≠ (2 * d.val + p.val, n.val)) }) d p late) := by
  refine congrArg Host.Outcome.next ((if_pos ⟨hrec, hstate⟩).trans ?_)
  simp only [hmap, Option.getD_some, hgood, if_true]

/-! ### Seam reset (R82–R84) -/

section
variable {p : Port} {m : Mbox} {s : State} {set : List (Nat × Nat × Nat)} (h : s.ready p m 0x205) (howner : s.portTenant p = 0)
  (hset : (s.taken p m).resetSet (s.arg p m 0 1) (s.arg p m 1 1) (s.arg p m 2 1) = set) (hne : set ≠ [])
  (hidle : (s.taken p m).seamBusy (s.arg p m 0 1) (s.arg p m 1 1) = false)
include h howner hset hne hidle

theorem exec_seamReset_starts (hroute : (s.taken p m).noReplacement (namedLinks set) = false ∨ s.arg p m 3 1 = 1) :
    exec (.seamReset p m) s = .next (State.resetsGo (State.addWait
      ((s.taken p m).rerouteAll (s.taken p m).net.avoid ((s.taken p m).net.named ++ namedLinks set)
        ((s.taken p m).net.closed ++ (s.taken p m).closedLinks))
      ((s.ctxOf p m).op (seamOf (s.arg p m 0 1) (s.arg p m 1 1)) (resetArgs (s.arg p m 0 1) (s.arg p m 1 1) (s.arg p m 2 1))))) := by
  have hgo : ¬ ((s.taken p m).noReplacement (namedLinks set) = true ∧ s.arg p m 3 1 = 0) := by
    rcases hroute with hroute | hroute <;> simp [hroute]
  refine congrArg Host.Outcome.next ((takeMailbox_ready 0x0205 cmdSeamReset p m s h).trans ?_)
  simp only [cmdSeamReset, State.ctxOf_num, State.ctxOf_tenant, hset, List.isEmpty_iff, hne, howner, hidle, hgo, ne_eq, not_true_eq_false,
    Bool.false_eq_true, if_false, State.answer]

theorem exec_seamReset_noRoute (hroute : (s.taken p m).noReplacement (namedLinks set) = true) (hforce : s.arg p m 3 1 = 0) :
    exec (.seamReset p m) s = .next ((s.taken p m).reply p m 0x15 []) := by
  refine congrArg Host.Outcome.next ((takeMailbox_ready 0x0205 cmdSeamReset p m s h).trans ?_)
  simp only [cmdSeamReset, State.ctxOf_num, State.ctxOf_tenant, hset, List.isEmpty_iff, hne, howner, hidle, hroute, hforce, ne_eq, not_true_eq_false,
    Bool.false_eq_true, if_false, and_self, if_true]
  rfl

end

theorem State.writeSeamReset_go {s : State} {d v : Nat} (hgo : bitAt v 31 = true) (hx : s.seamTraining d 0 = false) (hy : s.seamTraining d 1 = false) :
    s.writeSeamReset d v = (s.setReg .seamReset d 0 (Rg.seamReset.written (s.reg .seamReset d 0) v)).startTraining
      ((s.setReg .seamReset d 0 (Rg.seamReset.written (s.reg .seamReset d 0) v)).resetSet d (bits v 16 16) (bits v 7 0)) := by
  simp only [State.writeSeamReset, hgo, hx, hy, Bool.or_false, Bool.false_eq_true, and_false, if_false, if_true]

theorem State.writeReg_seamReset {s : State} (q : Rq) {d v : Nat} (hok : Rg.seamReset.okWrite v = true) :
    s.writeReg q .seamReset d 0 v = s.writeSeamReset d v := by
  rw [State.writeReg, hok]
  rfl

theorem exec_seamResetGo_granted {r : Req} {s : State} {d v : Nat} (h : s.grantsWrite r .seamReset d 0 v) (hgo : bitAt v 31 = true)
    (hx : s.seamTraining d 0 = false) (hy : s.seamTraining d 1 = false) :
    exec (.seamResetGo r) s = .next (State.respond
      (((s.takeReq r).setReg .seamReset d 0 (Rg.seamReset.written (s.reg .seamReset d 0) v)).startTraining
        (((s.takeReq r).setReg .seamReset d 0 (Rg.seamReset.written (s.reg .seamReset d 0) v)).resetSet d (bits v 16 16) (bits v 7 0))) r svcOK []) := by
  obtain ⟨-, -, -, -, -, -, -, -, hok⟩ := id h
  refine (regRow_granted .seamReset d 0 v _ r s h (by simp [hgo])).trans ?_
  rw [State.writeReg_seamReset r.rq hok, State.writeSeamReset_go (s := s.takeReq r) hgo hx hy, State.takeReq_reg]

/-! ### The end of a replay window (R78) -/

theorem replayLimit_valid {d : Nat} (h : d < 4) : Rg.replayLimit.valid d 0 = true := by
  interval_cases d <;> decide

section
variable {s : State} (w : s.regsWf = true) {d p i : Nat} (hd : d < 4) (hp : p < 2) (hi : i ≤ 0x80) (v : Nat)
include w hd hp hi

/-- REPLAYS lies beside STATE in PRIV_STATUS. -/
theorem State.bstate_setF_replays : (s.setF F.privStatus_replays d (256 * p + i) v).bstate d p i = s.bstate d p i := by
  have hreg := s.reg_setReg_same .privStatus d (256 * p + i) (setBits (s.reg .privStatus d (256 * p + i)) 7 0 v) w
    (rstAt_key (privStatus_valid hd hp hi))
  have hbits (x : Nat) : bits (setBits x 7 0 v) 31 30 = bits x 31 30 := by
    simp only [bits, setBits]
    omega
  simp only [State.bstate, State.getF, State.setF, hreg, bits_mod_two_pow _ (show 31 < 32 by decide), hbits]

theorem State.replayLimit_setF_replays :
    (s.setF F.privStatus_replays d (256 * p + i) v).getF F.replayLimit_limit d 0 = s.getF F.replayLimit_limit d 0 :=
  s.getF_setF_other F.privStatus_replays F.replayLimit_limit _ _ _ _ v w (Rg.key_ne (privStatus_valid hd hp hi) (replayLimit_valid hd) (by simp))

end

/-- A control bundle within its limit keeps its STATE, and its replays are counted afresh. -/
theorem exec_replayWindowEnd_control {d : Die} {p : Fin 2} {n : Fin 129} {s : State} (w : s.regsWf = true) (hn : n.val = 0x80)
    (hlimit : ¬ (s.bstate d p n = 1 ∧ s.getF F.replayLimit_limit d 0 < (s.bundle (bkey d p n)).replays)) :
    exec (.replayWindowEnd d p n) s = .next ((s.setBundle (bkey d p n) { s.bundle (bkey d p n) with replays := 0 }).setF F.privStatus_replays d
      (256 * p.val + n.val) (min 255 (s.bundle (bkey d p n)).replays)) := by
  have hrec : ¬ (!receives d p n) = true := by simp [receives, hn]
  have wt (b : Bundle) : (s.setBundle (bkey d p n) b).regsWf = true := by rw [State.regsWf, State.setBundle_regs]; exact w
  have hreg (b : Bundle) : (s.setBundle (bkey d p n) b).reg = s.reg := by
    funext r i j
    simp only [State.reg, State.setBundle_regs]
  refine congrArg Host.Outcome.next ((if_neg hrec).trans ?_)
  dsimp only
  rw [if_pos hn]
  refine if_neg ?_
  rw [State.bstate_setF_replays (wt _) d.isLt p.isLt (Nat.le_of_eq hn), State.replayLimit_setF_replays (wt _) d.isLt p.isLt (Nat.le_of_eq hn)]
  simpa only [State.bstate, State.getF, hreg] using hlimit

/-- Settles O17: each row of the start of the seams has the effect of the branch that its units, its state or its command select. -/
theorem seamStart : Obligations.SeamStart := by
  unfold Obligations.SeamStart
  refine ⟨fun d p c w s hroll hunit hkind hsent hto => exec_rollCall_last hroll hunit hkind hsent hto,
    fun d p c w s hroll hunit hkind hsent hto => exec_rollCall_first hroll hunit hkind hsent hto, ?noCall, ?answer, ?answerThree, ?relayOne, ?mismatch,
    ?confirm, ?confirmed, ?missed, ?bootTest, fun maps s => rfl, fun s => rfl, fun s k w => rfl, State.unrepairable_lockout,
    fun d p n c u s => exec_train_partner, fun d p n own late s map => exec_bundleTrainingDone_up,
    fun p m s set h howner hset hne hidle => exec_seamReset_starts h howner hset hne hidle,
    fun p m s set h howner hset hne hidle => exec_seamReset_noRoute h howner hset hne hidle, fun r s d v => exec_seamResetGo_granted,
    fun d p n s w _ hn hlimit => exec_replayWindowEnd_control w hn hlimit⟩
  case noCall =>
    intro d p c s hunit
    refine congrArg Host.Outcome.next ?_
    simp only [hunit]
  case answer =>
    intro d p c w s n hroll hunit hkind hnum hto hcall hne
    rw [exec_rollAnswer_called hroll hunit hkind hnum hto hcall]
    exact congrArg Host.Outcome.next (if_neg hne)
  case answerThree =>
    intro d p c w s hroll hunit hkind hnum hto hcall
    exact ⟨_, (exec_rollAnswer_called hroll hunit hkind hnum hto hcall).trans (congrArg Host.Outcome.next (if_pos rfl)), rfl, rfl⟩
  case relayOne =>
    intro c w s hroll hunit hkind hsent hnone
    exact (exec_rollRelay_one hroll hunit hkind hsent).trans (congrArg Host.Outcome.next (State.relayed_one hnone))
  case mismatch =>
    intro c w s a hroll hunit hkind hsent ha hne
    exact (exec_rollRelay_two hroll hunit hkind hsent).trans (congrArg Host.Outcome.next (State.relayed_mismatch ha rfl hne))
  case confirm =>
    intro c w s hroll hunit hkind hsent ha
    exact ⟨_, (exec_rollRelay_two hroll hunit hkind hsent).trans (congrArg Host.Outcome.next (State.relayed_same ha rfl rfl)), State.mem_sendConfirms _,
      rfl⟩
  case confirmed =>
    intro c1 c2 c3 s hroll h1 h2 h3
    exact congrArg Host.Outcome.next (if_pos (by simp only [hroll, h1, h2, h3, Bool.and_self]))
  case missed =>
    intro s hroll
    obtain ⟨die, hexec⟩ := exec_rollCallMissed_locks hroll
    obtain ⟨hpw, hpending⟩ := Prod.mk.inj s.recordMissed_keeps
    exact ⟨_, hexec, State.lockout_mode _ _ _, by rw [State.lockout_from, hpw, State.rolling_mode hroll], by rw [State.lockout_pending, hpending]⟩
  case bootTest =>
    intro maps bad allow s hmode hstep hdone
    exact congrArg Host.Outcome.next (if_pos ⟨hmode, hstep, hdone⟩)

end Sys2Proof.Machine

/-! SUPPORT. Writing the internal store (04 R96, R106–R111; 12 R302; 21 R478, R479): a slot write from its acceptance to its verification, the pointer
records of the active slot, and the entries of the region library. -/

namespace Sys2Proof.Machine

@[simp] theorem State.taken_ld (s : State) (p m : Nat) : (s.taken p m).ld = s.ld := (rfl)
@[simp] theorem State.taken_slotState (s : State) (p m k : Nat) : (s.taken p m).slotState k = s.slotState k := (rfl)
@[simp] theorem State.taken_nextPtr (s : State) (p m : Nat) : (s.taken p m).nextPtr = s.nextPtr := (rfl)
@[simp] theorem State.taken_lib (s : State) (p m e : Nat) : (s.taken p m).lib e = s.lib e := (rfl)

/-! ### The start of a slot write (R109, R111, R478) -/

/-- The inactive slot is a primary one, and has a primary slot's size (R106). -/
theorem State.slotMax_inactiveSlot (s : State) : slotMax s.inactiveSlot = 0x40000000 := by
  unfold State.inactiveSlot
  split <;> rfl

/-- A write whose image comes in mailbox chunks is accepted while none is in progress, with a length that the slot can hold. -/
theorem slotWriteBody_chunked {k : Nat} {c : Ctx} {s : State} (hsrc : c.num 0 1 = 1) (hnone : s.ld.slotWrite = none) (hlo : 512 ≤ c.num 16 8)
    (hhi : c.num 16 8 ≤ slotMax k) :
    slotWriteBody k c s = ({ s with ld.slotWrite := some ⟨k, 1, c.num 8 8, c.num 16 8, 0, []⟩ }, .accepted (c.op 0 [])) := by
  have hlen : ¬ (slotMax k < c.num 16 8 ∨ c.num 16 8 < 512) := by omega
  simp [slotWriteBody, hsrc, hnone, hlen]

section
variable {p : Port} {m : Mbox} {s : State}

theorem exec_slotWrite_chunked (h : s.ready p m 0x110) (howner : s.portTenant p = 0) (hsrc : s.arg p m 0 1 = 1) (hnone : s.ld.slotWrite = none)
    (hlo : 512 ≤ s.arg p m 16 8) (hhi : s.arg p m 16 8 ≤ 0x40000000) :
    exec (.slotWrite p m) s = .next (State.answer
      { s.taken p m with ld.slotWrite := some ⟨s.inactiveSlot, 1, s.arg p m 8 8, s.arg p m 16 8, 0, []⟩ } (s.ctxOf p m)
      (.accepted ((s.ctxOf p m).op 0 []))) := by
  have hbody : cmdSlotWrite (s.ctxOf p m) (s.taken p m) = slotWriteBody s.inactiveSlot (s.ctxOf p m) (s.taken p m) := if_neg (by simp [howner])
  refine congrArg Host.Outcome.next ((takeMailbox_ready 0x0110 cmdSlotWrite p m s h).trans ?_)
  have hmax : (s.ctxOf p m).num 16 8 ≤ slotMax s.inactiveSlot := hhi.trans_eq s.slotMax_inactiveSlot.symm
  rw [hbody, slotWriteBody_chunked (c := s.ctxOf p m) (s := s.taken p m) hsrc hnone hlo hmax]
  rfl

theorem exec_goldenWrite_chunked (h : s.ready p m 0x113) (howner : s.portTenant p = 0) (hfull : (s.taken p m).fullAll p = true)
    (hsrc : s.arg p m 0 1 = 1) (hnone : s.ld.slotWrite = none) (hlo : 512 ≤ s.arg p m 16 8) (hhi : s.arg p m 16 8 ≤ 0x8000000) :
    exec (.goldenWrite p m) s = .next (State.answer
      { s.taken p m with ld.slotWrite := some ⟨2, 1, s.arg p m 8 8, s.arg p m 16 8, 0, []⟩ } (s.ctxOf p m)
      (.accepted ((s.ctxOf p m).op 0 []))) := by
  have hauth : ¬ (5 ≤ p.val ∨ (!(s.taken p m).fullAll p) = true) := by simp [hfull]
  have hbody : cmdGoldenWrite (s.ctxOf p m) (s.taken p m) = slotWriteBody 2 (s.ctxOf p m) (s.taken p m) :=
    (if_neg (by simp [howner])).trans (if_neg hauth)
  refine congrArg Host.Outcome.next ((takeMailbox_ready 0x0113 cmdGoldenWrite p m s h).trans ?_)
  rw [hbody, slotWriteBody_chunked (k := 2) (c := s.ctxOf p m) (s := s.taken p m) hsrc hnone hlo hhi]
  rfl

end

/-! ### The chunks of an image (R110, R479) -/

/-- A slot write after a chunk that follows the image's header. -/
def SlotWrite.took (w : SlotWrite) (d : List Byte) : SlotWrite := { w with pos := w.pos + d.length, buf := w.buf ++ d }

/-- Programming pauses while a region load reads the library. -/
theorem State.slotProgram_paused {s : State} (w : SlotWrite) (h : s.libReading = true) : s.slotProgram w = { s with ld.slotWrite := some w } :=
  if_pos h

theorem State.slotProgram_programs {s : State} (w : SlotWrite) (h : s.libReading = false) : s.slotProgram w =
    { s.storePut (slotArea w.target) (w.pos - w.buf.length) w.buf with ld.slotWrite := some { w with buf := [] } } :=
  if_neg (by simp [h])

/-- A chunk that no held bytes precede goes to the place where it stands in the image. -/
theorem State.slotProgram_took {s : State} {w : SlotWrite} (d : List Byte) (h : s.libReading = false) (hbuf : w.buf = []) :
    s.slotProgram (w.took d) =
      { s.storePut (slotArea w.target) w.pos d with ld.slotWrite := some { w with pos := w.pos + d.length } } := by
  rw [State.slotProgram_programs _ h]
  simp [SlotWrite.took, hbuf]

/-- A chunk behind the header is programmed, or held. -/
theorem exec_slotData_follows {p : Port} {m : Mbox} {s : State} {w : SlotWrite} {d : List Byte} (hd : (s.mbox p m).payload.drop 8 = d)
    (h : s.ready p m 0x111) (howner : s.portTenant p = 0) (hw : s.ld.slotWrite = some w) (hsrc : w.source = 1) (hpos : 512 ≤ w.pos)
    (hnext : s.arg p m 0 4 = w.pos) (hlen : w.pos + d.length ≤ w.len) :
    exec (.slotData p m) s = .next (((s.taken p m).slotProgram (w.took d)).reply p m 0 []) := by
  refine congrArg Host.Outcome.next ((takeMailbox_ready 0x0111 cmdSlotData p m s h).trans ?_)
  have hbody : cmdSlotData (s.ctxOf p m) (s.taken p m) = ((s.taken p m).slotProgram (w.took d), .done 0 []) := by
    simp [cmdSlotData, howner, hw, hsrc, hd, hnext, hpos, Nat.not_lt.mpr hlen, SlotWrite.took]
  rw [hbody]
  rfl

/-! ### The end of a slot write (R96, R107, R111) -/

/-- A whole image that came in chunks: what is held is programmed, then the slot is verified. -/
theorem State.slotDone_chunked {s : State} {golden : Bool} {w : SlotWrite} (errs : List (Die × Bool)) (hread : s.libReading = false)
    (hw : s.ld.slotWrite = some w) (hsrc : w.source = 1) (htarget : decide (w.target = 2) = golden) (hwhole : w.pos = w.len) :
    s.slotDone golden errs = State.slotVerify
      { s.storePut (slotArea w.target) (w.pos - w.buf.length) w.buf with ld.slotWrite := some { w with buf := [] } } w errs := by
  rw [← State.slotProgram_programs w hread]
  simp [State.slotDone, hw, hread, hsrc, htarget, hwhole]

theorem State.slotDone_paused {s : State} (golden : Bool) (errs : List (Die × Bool)) (h : s.libReading = true) : s.slotDone golden errs = s := by
  unfold State.slotDone
  cases s.ld.slotWrite with
  | none => rfl
  | some w => exact if_pos (.inr h)

theorem exec_slotWriteDone_eq (s : State) (errs : List (Die × Bool)) :
    exec (.slotWriteDone errs) s = .next (if s.maltarRuns then s.slotDone false errs else s) := (rfl)

theorem exec_goldenWriteDone_eq (s : State) (errs : List (Die × Bool)) :
    exec (.goldenWriteDone errs) s = .next (if s.maltarRuns then s.slotDone true errs else s) := (rfl)

/-! ### The pointer records (R108) -/

@[simp] theorem length_leBytes (n v : Nat) : (leBytes n v).length = n := by
  induction n generalizing v with
  | zero => rfl
  | succ n ih => rw [leBytes, List.length_cons, ih]

@[simp] theorem length_ptrRecord (seq slot : Nat) : (ptrRecord seq slot).length = 9 := by
  simp [ptrRecord]

/-- A number that fits its bytes reads back from them. -/
theorem leNat_leBytes_of_lt {n v : Nat} (h : v < 256 ^ n) : leNat (leBytes n v) = v := by
  induction n generalizing v with
  | zero => exact (Nat.lt_one_iff.mp h).symm
  | succ n ih =>
    have hhigh : v / 256 < 256 ^ n := Nat.div_lt_of_lt_mul (by rwa [← Nat.pow_succ'])
    rw [leBytes, leNat, ih hhigh, BitVec.toNat_ofNat]
    exact Nat.mod_add_div v 256

/-- A field reads back from the bytes around it. -/
theorem leAt_append_leBytes (a b : List Byte) {n v : Nat} (h : v < 256 ^ n) : leAt (a ++ (leBytes n v ++ b)) a.length n = v := by
  have hfield : slice 0#8 (a ++ (leBytes n v ++ b)) a.length n = leBytes n v := by simp [slice]
  rw [leAt, hfield, leNat_leBytes_of_lt h]

/-- A record reads back as it was written. -/
theorem ptrRead_ptrRecord {seq slot : Nat} (hseq : seq < 2 ^ 32) (hslot : slot < 2) : ptrRead (ptrRecord seq slot) = some (seq, slot) := by
  have hrecord : ptrRecord seq slot = leBytes 4 seq ++ (leBytes 1 slot ++ leBytes 4 (crc32 (leBytes 4 seq ++ leBytes 1 slot))) :=
    List.append_assoc _ _ _
  have hfirst : leAt (ptrRecord seq slot) 0 4 = seq := by
    rw [hrecord]
    exact leAt_append_leBytes [] _ hseq
  have hsecond : leAt (ptrRecord seq slot) 4 1 = slot := by
    rw [hrecord]
    exact leAt_append_leBytes (leBytes 4 seq) _ (by omega)
  rw [ptrRead, hfirst, hsecond, if_pos ⟨rfl, hslot⟩]

/-- All nine bytes programmed, nothing of the old record stays. -/
theorem ptrWrite_whole (old : List Byte) {new : List Byte} (h : new.length = 9) : ptrWrite old new 9 = new := by
  simp [ptrWrite, ← h]

/-- Of two valid records, the one with the lower sequence number is next. -/
theorem State.nextPtr_both {s : State} {a b : Nat × Nat} (hp : ptrRead s.ld.ptrP = some a) (hq : ptrRead s.ld.ptrQ = some b) :
    s.nextPtr = if a.1 < b.1 then (true, (b.1 + 1) % 2 ^ 32) else (false, (a.1 + 1) % 2 ^ 32) := by
  rw [State.nextPtr, hp, hq]

theorem exec_slotActivate_whole {p : Port} {m : Mbox} {n : Fin 10} {s : State} {a b : Nat × Nat} (h : s.ready p m 0x112) (howner : s.portTenant p = 0)
    (hnone : s.ld.slotWrite = none) (hslot : s.slotState (s.arg p m 0 1) = 2) (hp : ptrRead s.ld.ptrP = some a) (hq : ptrRead s.ld.ptrQ = some b)
    (hn : n.val = 9) :
    exec (.slotActivate p m n) s = .next (State.reply
      (if a.1 < b.1 then { s.taken p m with ld.ptrP := ptrRecord ((b.1 + 1) % 2 ^ 32) (s.arg p m 0 1) }
       else { s.taken p m with ld.ptrQ := ptrRecord ((a.1 + 1) % 2 ^ 32) (s.arg p m 0 1) }) p m 0 []) := by
  have hwrite (old : List Byte) (seq : Nat) : ptrWrite old (ptrRecord seq (s.arg p m 0 1)) 9 = ptrRecord seq (s.arg p m 0 1) :=
    ptrWrite_whole old (length_ptrRecord _ _)
  refine congrArg Host.Outcome.next ((takeMailbox_ready 0x0112 (cmdSlotActivate n) p m s h).trans ?_)
  by_cases hlt : a.1 < b.1 <;>
    simp [cmdSlotActivate, howner, hnone, hslot, State.nextPtr_both hp hq, hlt, hn, hwrite, State.answer]

/-! ### The region library (R302, R479) -/

/-- A chunk behind the header, before the last, goes to the place where it stands in the image. -/
theorem State.libChunk_follows {s : State} {e : Nat} {x : LibEntry} {d : List Byte} (hpos : 512 ≤ x.pos) (hlen : x.pos + d.length ≤ x.len) :
    s.libChunk e x d false = ((s.storePut (4 + e) x.pos d).setLib e { x with state := 1, pos := x.pos + d.length }, 0) :=
  (if_pos hpos).trans (if_neg (Nat.not_lt.mpr hlen))

section
variable {p : Port} {m : Mbox} {s : State}

theorem exec_regionLibWrite_follows {e : Nat} {d : List Byte} (h : s.ready p m 0x108) (howner : s.portTenant p = 0) (he : s.arg p m 0 1 = e)
    (hflags : s.arg p m 1 1 = 0) (hd : (s.mbox p m).payload.drop 8 = d) (hbusy : (s.taken p m).libBusy e = false) (hstate : (s.lib e).state = 1)
    (hnext : s.arg p m 4 4 = (s.lib e).pos) (hpos : 512 ≤ (s.lib e).pos) (hlen : (s.lib e).pos + d.length ≤ (s.lib e).len) :
    exec (.regionLibWrite p m) s = .next ((((s.taken p m).storePut (4 + e) (s.lib e).pos d).setLib e
      { s.lib e with state := 1, pos := (s.lib e).pos + d.length }).reply p m 0 []) := by
  refine congrArg Host.Outcome.next ((takeMailbox_ready 0x0108 cmdRegionLibWrite p m s h).trans ?_)
  have hbit (i : Nat) : bitAt 0 i = false := by simp [bitAt]
  simp [cmdRegionLibWrite, howner, he, hflags, hbit, hd, hbusy, hstate, hnext, State.libChunk_follows hpos hlen, State.answer]

theorem exec_libStatus_settled {x : LibEntry} (h : s.ready p m 0x109) (hx : s.lib (s.arg p m 0 1) = x) (hstate : x.state ≠ 4) :
    exec (.libStatus p m) s = .next ((s.taken p m).reply p m 0
      (leBytes 1 x.state ++ leBytes 1 x.tenant ++ List.replicate 6 0#8 ++ leBytes 8 x.len)) := by
  refine congrArg Host.Outcome.next ((takeMailbox_ready 0x0109 cmdLibStatus p m s h).trans ?_)
  simp [cmdLibStatus, hx, hstate, State.answer]

end

/-- Settles O20: each row of the store has the effect of the branch that the command's fields, or the write in progress, select. -/
theorem storeCommands : Obligations.StoreCommands := by
  unfold Obligations.StoreCommands
  refine ⟨fun p m s => exec_slotWrite_chunked, fun p m s => exec_goldenWrite_chunked, ?programs, ?held, ?slotDone, ?goldenDone, ?paused,
    fun s area len target => rfl, fun p m n s a b => exec_slotActivate_whole, fun seq slot => ptrRead_ptrRecord,
    fun p m s e d => exec_regionLibWrite_follows, fun p m s x => exec_libStatus_settled,
    fun e errs s hrun hstate => congrArg Host.Outcome.next (if_pos ⟨hrun, hstate⟩)⟩
  case programs =>
    intro p m s w h howner hw hsrc hpos hbuf hread hnext hlen
    rw [exec_slotData_follows rfl h howner hw hsrc hpos hnext hlen, State.slotProgram_took (s := s.taken p m) _ hread hbuf]
  case held =>
    intro p m s w h howner hw hsrc hpos hread hnext hlen
    rw [exec_slotData_follows rfl h howner hw hsrc hpos hnext hlen, State.slotProgram_paused (s := s.taken p m) _ hread]
    rfl
  case slotDone =>
    intro s w errs hrun hread hw hsrc htarget hwhole
    rw [exec_slotWriteDone_eq, if_pos hrun, State.slotDone_chunked errs hread hw hsrc (by simp [htarget]) hwhole, State.slotVerify, if_neg htarget]
  case goldenDone =>
    intro s w errs hrun hread hw hsrc htarget hwhole
    rw [exec_goldenWriteDone_eq, if_pos hrun, State.slotDone_chunked errs hread hw hsrc (by simp [htarget]) hwhole, State.slotVerify, htarget]
    rfl
  case paused =>
    intro s w errs hread _
    constructor
    · rw [exec_slotWriteDone_eq, State.slotDone_paused false errs hread, ite_self]
    · rw [exec_goldenWriteDone_eq, State.slotDone_paused true errs hread, ite_self]

end Sys2Proof.Machine

/-! SUPPORT. Multiplier slices and crossing primitives (05 R127–R131, R135–R137; R23, R286): an edge of one slice and the stages of its next state, a
request at a crossing's source, the destination's stages, and what passes a clamp. -/

namespace Sys2Proof.Machine

/-! ### The edge of a multiplier slice (R23, R129) -/

/-- What stood before an edge has the same frames. -/
theorem State.preEdge_cfg (s : State) : s.preEdge.fab.cfg = s.fab.cfg := by
  unfold State.preEdge
  split <;> rfl

/-- The frames alone give a slice its clock net (R23). -/
theorem State.mulNet_congr {u v : State} (h : u.fab.cfg = v.fab.cfg) (t i : Nat) : u.mulNet t i = v.mulNet t i := by
  have htile : u.tcfg t = v.tcfg t := congrArg (fun l => tget TileCfg.blank l t) h
  unfold State.mulNet State.netId State.mulCfg
  rw [htile]

section
variable {s : State} (join : Bool)

theorem State.edgeStart_mulCfg (t i : Nat) : (s.edgeStart join).mulCfg t i = s.mulCfg t i := by
  obtain ⟨b, f, hstart⟩ := s.edgeStart_eq join
  rw [hstart]
  rfl

theorem State.edgeStart_netRuns (t i : Nat) : (s.edgeStart join).netRuns t i = s.netRuns t i := by
  obtain ⟨b, f, hstart⟩ := s.edgeStart_eq join
  rw [hstart]
  rfl

theorem State.preEdge_edgeStart_mulNet (t i : Nat) : (s.edgeStart join).preEdge.mulNet t i = s.mulNet t i := by
  obtain ⟨b, f, hstart⟩ := s.edgeStart_eq join
  exact State.mulNet_congr ((State.preEdge_cfg _).trans (by rw [hstart])) t i

/-- A slice on a running clock net takes its inputs as they stood before the edge, and nothing else changes. -/
theorem exec_multiplierSliceEdge_one {i : MulIn} {u p : State} (hclk : s.userClock = true)
    (hrun : s.netRuns i.tile (s.mulCfg i.tile i.slice).clk = true) (hu : s.edgeStart join = u) (hp : u.preEdge = p) :
    exec (.multiplierSliceEdge [i] join) s = .next { u with
      fab.muls := tput MulSt.init u.fab.muls (i.tile.val * 64 + i.slice.val) (mulNext (s.mulCfg i.tile i.slice) (p.mul i.tile i.slice)
        (p.mulPins (p.wire (s.mulNet i.tile i.slice) (p.extSlices [i])) i.tile i.slice)) } := by
  subst hu hp
  have hcfg := State.edgeStart_mulCfg (s := s) join i.tile i.slice
  have hnet := State.preEdge_edgeStart_mulNet (s := s) join i.tile i.slice
  have hon : [i].filter (fun i => (s.edgeStart join).netRuns i.tile ((s.edgeStart join).mulCfg i.tile i.slice).clk) = [i] :=
    List.filter_eq_self.2 (by simpa [State.edgeStart_netRuns, hcfg] using hrun)
  refine congrArg Host.Outcome.next ((if_pos hclk).trans ?_)
  simp only [hon, List.foldl_cons, List.foldl_nil, hcfg, hnet]

/-- Slices without a running clock net keep their registers. -/
theorem exec_multiplierSliceEdge_gated {l : List MulIn} (hclk : s.userClock = true)
    (hoff : ∀ i ∈ l, s.netRuns i.tile (s.mulCfg i.tile i.slice).clk = false) :
    exec (.multiplierSliceEdge l join) s = .next (s.edgeStart join) := by
  have hnone : l.filter (fun i => (s.edgeStart join).netRuns i.tile ((s.edgeStart join).mulCfg i.tile i.slice).clk) = [] :=
    List.filter_eq_nil_iff.2 (fun i hi => by simp [State.edgeStart_netRuns, State.edgeStart_mulCfg, hoff i hi])
  refine congrArg Host.Outcome.next ((if_pos hclk).trans ?_)
  simp only [hnone, List.foldl_nil]

theorem exec_multiplierSliceEdge_stopped (l : List MulIn) (hclk : s.userClock = false) : exec (.multiplierSliceEdge l join) s = .next s :=
  congrArg Host.Outcome.next (if_neg (by simp [hclk]))

end

/-! ### The stages of a slice (R127–R130) -/

section
variable (c : MulCfg) (m : MulSt) (p : MulPins)

/-- The result stage: its clear goes before its clock enable (R129). -/
theorem mulNext_acc : (mulNext c m p).acc =
    if bitAt p.clr 2 = true then 0 else if bitAt p.ce 2 = true then (mulResult c m p m.acc).1 else m.acc := by
  dsimp only [mulNext]
  split_ifs <;> rfl

/-- The product stage (R129). -/
theorem mulNext_prod : (mulNext c m p).prod =
    if bitAt p.clr 1 = true then 0 else if bitAt p.ce 1 = true then (mulProd c m p).1 else m.prod := by
  dsimp only [mulNext]
  split_ifs <;> rfl

variable {c m p}

/-- The clear of the input stage (R129). -/
theorem mulNext_clearsIn (hclr : bitAt p.clr 0 = true) :
    (mulNext c m p).ma = 0 ∧ (mulNext c m p).mb = 0 ∧ (mulNext c m p).me = 0 ∧ (mulNext c m p).ad = 0 := by
  dsimp only [mulNext]
  split_ifs <;> exact ⟨rfl, rfl, rfl, rfl⟩

theorem mulNext_acc_cleared (hclr : bitAt p.clr 2 = true) : (mulNext c m p).acc = 0 :=
  (mulNext_acc c m p).trans (if_pos hclr)

theorem mulNext_prod_cleared (hclr : bitAt p.clr 1 = true) : (mulNext c m p).prod = 0 :=
  (mulNext_prod c m p).trans (if_pos hclr)

theorem mulNext_acc_enabled (hclr : bitAt p.clr 2 = false) (hce : bitAt p.ce 2 = true) :
    (mulNext c m p).acc = (mulResult c m p m.acc).1 := by
  rw [mulNext_acc, if_neg (by simp [hclr]), if_pos hce]

theorem mulNext_prod_enabled (hclr : bitAt p.clr 1 = false) (hce : bitAt p.ce 1 = true) : (mulNext c m p).prod = (mulProd c m p).1 := by
  rw [mulNext_prod, if_neg (by simp [hclr]), if_pos hce]

/-- With the input stage on, the multiplier takes its registers (R127, R129). -/
theorem mulProd_registered (hin : c.inStage = true) : (mulProd c m p).1 = unsgn 48 (sgn 18 m.ma * pairOp m.pair1 m.mb m.me) := by
  simp only [mulProd, mulIn, if_pos hin]

/-- With the input stage off, the multiplier takes the inputs (R127, R129). -/
theorem mulProd_direct (hin : c.inStage = false) : (mulProd c m p).1 = unsgn 48 (sgn 18 p.ma * pairOp (c.pairOf p) p.mb p.me) := by
  simp only [mulProd, mulIn, hin, Bool.false_eq_true, if_false]

/-- With the product stage on, the result is the function of its registers, saturated where the configuration says so (R128, R130). -/
theorem mulResult_registered (hprod : c.prodStage = true) (acc : Nat) : (mulResult c m p acc).1 =
    let x := mulFn m.fn2 m.neg2 (sgn 48 m.prod) m.ad2 p.chi acc
    if c.sat = true ∧ (2 : Int) ^ 47 ≤ x then 2 ^ 47 - 1 else if c.sat = true ∧ x < -(2 : Int) ^ 47 then 2 ^ 47 else unsgn 48 x := by
  simp only [mulResult, mulMid, if_pos hprod, Bool.and_eq_true, decide_eq_true_eq]

theorem mulOut_registered (hres : c.resStage = true) (back : Nat) : mulOut c m p back = (m.acc, m.above, m.below) := if_pos hres

/-- With the result stage off, ACC is the result as the inputs make it; without saturation it wraps (R129, R130). -/
theorem mulOut_direct (hres : c.resStage = false) (hprod : c.prodStage = true) (hsat : c.sat = false) (back : Nat) :
    (mulOut c m p back).1 = unsgn 48 (mulFn m.fn2 m.neg2 (sgn 48 m.prod) m.ad2 p.chi back) := by
  have hout : mulOut c m p back = mulResult c m p back := if_neg (by simp [hres])
  rw [hout, mulResult_registered hprod]
  simp only [hsat, Bool.false_eq_true, false_and, if_false]

end

/-! ### The source of a crossing (R135, R137) -/

section
variable {k : Nat} {c : XCfg} {s p : State} (word : Nat)

/-- A request with READY high is taken; the output is undefined for a while where its input breaks R136. -/
theorem State.xSend_ready (h : (p.xing k).ready c.n = true) : s.xSend p k c word = s.setXing k { s.xing k with
    tog := !(s.xing k).tog, word := word, broken := if p.xDirect c then (s.xing k).broken else c.n + 3 } := if_pos h

/-- A request with READY low is dropped, with OVERRUN. -/
theorem State.xSend_busy (h : (p.xing k).ready c.n = false) : s.xSend p k c word = s.setXing k { s.xing k with overrun := true } :=
  if_neg (by simp [h])

end

section
variable {k : Nat} {c : XCfg} {w : Word64} {join : Bool} {s u : State} (hcfg : s.xcfg k = some c) (hruns : s.xSrcRuns c = true)
  (hu : s.edgeStart join = u)
include hcfg hruns hu

theorem exec_xpulsePulse_sent (hkind : c.kind = .xpulse) (hsend : u.preEdge.xHigh c c.send = true) :
    exec (.xpulsePulse k join) s = .next (u.xSend u.preEdge k c 0) := by
  refine congrArg Host.Outcome.next ?_
  simp only [hcfg, hkind, hruns, hu, hsend, and_self, if_true]

/-- The word is the source's inputs, or the command's where no input is connected. -/
theorem exec_xwordSend_sent (hkind : c.kind = .xword) (hsend : u.preEdge.xHigh c c.send = true) :
    exec (.xwordSend k w join) s = .next (u.xSend u.preEdge k c
      ((if c.ins = [] then w.toNat else u.preEdge.xIns u.preEdge.openWires c) % 2 ^ c.width)) := by
  refine congrArg Host.Outcome.next ?_
  simp only [hcfg, hkind, hruns, hu, hsend, and_self, if_true, List.isEmpty_iff]

theorem exec_ovrClr_cleared (hclear : u.preEdge.xHigh c c.clear = true) :
    exec (.ovrClr k join) s = .next (u.setXing k { u.xing k with overrun := false }) := by
  refine congrArg Host.Outcome.next ?_
  simp only [hcfg, hruns, hu, hclear, if_true]

end

/-- Where the frames place no crossing, its commands change nothing. -/
theorem exec_crossing_none {k : Nat} {s : State} (w : Word64) (join : Bool) (h : s.xcfg k = none) :
    exec (.xpulsePulse k join) s = .next s ∧ exec (.xwordSend k w join) s = .next s ∧ exec (.ovrClr k join) s = .next s := by
  refine ⟨congrArg Host.Outcome.next ?_, congrArg Host.Outcome.next ?_, congrArg Host.Outcome.next ?_⟩ <;> simp only [h]

/-! ### The destination of a crossing (R135–R137, R286) -/

section
variable {c : XCfg} (direct : Bool) (old cur : Crossing) (v word : Nat)

/-- A level or a counter passes n + 1 stages (R135). -/
theorem xDst_level (hkind : c.kind = .xsync ∨ c.kind = .xgray) : (xDst c direct old cur v word).pipe = (v :: old.pipe).take (c.n + 1) := by
  rcases hkind with hkind | hkind <;> simp only [xDst, hkind]

/-- A request that has passed the stages is one pulse, and its word is captured on the edge before (R135, R137). -/
theorem xDst_request (hkind : c.kind = .xpulse ∨ c.kind = .xword) :
    (xDst c direct old cur v word).out = decide (old.pipe.getD c.n 0 ≠ old.pipe.getD (c.n + 1) 0) ∧
    (xDst c direct old cur v word).delivered = cur.delivered + b2n (xDst c direct old cur v word).out ∧
    (old.pipe.getD (c.n - 1) 0 ≠ old.pipe.getD c.n 0 → (xDst c direct old cur v word).dword = word) := by
  rcases hkind with hkind | hkind
  all_goals
    simp only [xDst, hkind, true_and]
    exact ⟨by rw [Bool.eq_iff_iff, bne_iff_ne, decide_eq_true_iff], fun h => if_pos h⟩

end

section
variable (c : XCfg) {x : Crossing} (j : Nat) (free : Bool)

/-- An input that broke R136 leaves the output undefined. -/
theorem xOut_broken (h : 0 < x.broken) : xOut c x j free = free := if_pos h

/-- The output of a crossing whose input kept R136: the level, the counter's bit, or the pulse (R135). -/
theorem xOut_defined (h : x.broken = 0) : (c.kind = .xsync → xOut c x j free = bitAt (x.level c.n) 0) ∧
    (c.kind = .xgray → xOut c x j free = bitAt (x.level c.n) j) ∧ (c.kind = .xpulse → xOut c x j free = x.out) := by
  have hwhole : ¬ 0 < x.broken := by omega
  refine ⟨fun hkind => ?_, fun hkind => ?_, fun hkind => ?_⟩ <;> simp only [xOut, if_neg hwhole, hkind]

end

section
variable {s : State} {t t' : Nat} {w : Wire} (v : Bool)

/-- Within a region there is no clamp (R286). -/
theorem State.xPass_within (h : s.sameRegion t t' = true) : s.xPass t t' w v = v := if_pos h

/-- A signal that leaves its region shows the clamp's value while the clamp holds it (R286). -/
theorem State.xPass_clamped {b : Bool} (h : s.sameRegion t t' = false) (hclamp : s.clamp t w = some b) : s.xPass t t' w v = b := by
  rw [State.xPass, h, hclamp]
  rfl

end

/-- Settles O31: an edge gives each slice on a running clock its stages' next values, and nothing to the others; a request at a crossing's source is
taken or dropped by READY, and its destination by its kind. -/
theorem slicesAndCrossings : Obligations.SlicesAndCrossings := by
  unfold Obligations.SlicesAndCrossings
  refine ⟨fun i join s u p hclk hrun hu hp => exec_multiplierSliceEdge_one join hclk hrun hu hp, ?gated,
    fun l join s => exec_multiplierSliceEdge_stopped join l, ?result, ?registered, ?direct,
    fun c m p back => ⟨fun hres => mulOut_registered hres back, fun hres hprod hsat => mulOut_direct hres hprod hsat back⟩,
    fun c m p => ⟨mulNext_acc_cleared, mulNext_prod_cleared, mulNext_clearsIn⟩,
    fun p ad chi acc => ⟨rfl, (Int.sub_eq_add_neg).symm, rfl, rfl, rfl⟩, ?pulse, ?word,
    fun k c join s u hcfg hruns hu hclear => exec_ovrClr_cleared hcfg hruns hu hclear,
    fun k w join s => exec_crossing_none w join, fun c d old cur v w => xDst_level d old cur v w,
    fun c x j free => xOut_defined c j free, fun c x j free => xOut_broken c j free,
    fun c d old cur v w => xDst_request d old cur v w,
    fun s t t' w v => ⟨State.xPass_within v, fun b => State.xPass_clamped v⟩⟩
  case gated =>
    intro l join s u hclk hoff hu
    rw [exec_multiplierSliceEdge_gated join hclk hoff, hu]
  case result =>
    intro c m p hprod hclr hce
    rw [mulNext_acc_enabled hclr hce, mulResult_registered hprod]
  case registered =>
    intro c m p hin hclr hce
    rw [mulNext_prod_enabled hclr hce, mulProd_registered hin]
  case direct =>
    intro c m p hin hclr hce
    rw [mulNext_prod_enabled hclr hce, mulProd_direct hin]
  case pulse =>
    intro k c join s u hcfg hkind hruns hu hsend
    rw [exec_xpulsePulse_sent hcfg hruns hu hkind hsend]
    exact ⟨fun hready => by rw [State.xSend_ready 0 hready], fun hbusy => by rw [State.xSend_busy 0 hbusy]⟩
  case word =>
    intro k c w join s u hcfg hkind hruns hu hsend
    rw [exec_xwordSend_sent hcfg hruns hu hkind hsend]
    exact ⟨fun hready => by rw [State.xSend_ready _ hready], fun hbusy => by rw [State.xSend_busy _ hbusy]⟩

end Sys2Proof.Machine

/-! SUPPORT. Block memories and engine memories (06 R139–R157; 10 R259, R264, R266): what an edge gives the ports of a block and stores in its array, a
request through a block memory window, a request to an engine's memories, and the turns of the fabric and the network at Y. -/

namespace Sys2Proof.Machine

/-! ### A table written twice at one key -/

section
variable {α : Type} [DecidableEq α]

/-- A key below every key listed is listed first. -/
theorem tins_below (d : Nat → α) {i : Nat} (v : α) {t : Tbl α} (h : Tbl.sortedFrom d (some i) t = true) : tins t i v = (i, v) :: t := by
  cases t with
  | nil => rfl
  | cons x t =>
    have hlt := ((Tbl.sortedFrom_cons ..).1 h).1 i rfl
    simp only [tins, if_neg hlt.ne, if_pos hlt]

/-- A key below every key listed has nothing to remove. -/
theorem tdel_below (d : Nat → α) {i : Nat} {t : Tbl α} (h : Tbl.sortedFrom d (some i) t = true) : tdel t i = t := by
  cases t with
  | nil => rfl
  | cons x t =>
    have hlt := ((Tbl.sortedFrom_cons ..).1 h).1 i rfl
    simp only [tdel, if_neg hlt.ne, if_pos hlt]

/-- What was removed or listed at a key is lost when the key is removed or listed again. -/
theorem tdel_tins_absorb (d : Nat → α) (lo : Option Nat) (t : Tbl α) (i : Nat) (v w : α) (h : Tbl.sortedFrom d lo t = true) :
    tdel (tdel t i) i = tdel t i ∧ tdel (tins t i v) i = tdel t i ∧ tins (tdel t i) i w = tins t i w ∧ tins (tins t i v) i w = tins t i w := by
  induction t generalizing lo with
  | nil => simp [tins, tdel]
  | cons x t ih =>
    obtain ⟨k, y⟩ := x
    have ht := ((Tbl.sortedFrom_cons ..).1 h).2.2
    rcases lt_trichotomy i k with hlt | rfl | hgt
    · simp [tins, tdel, hlt, hlt.ne]
    · simp [tins, tdel, tins_below d w ht, tdel_below d ht]
    · simpa [tins, tdel, hgt.ne', hgt.not_gt] using ih (some k) ht

/-- A second write of a key replaces the first. -/
theorem tput_tput (d : Nat → α) (t : Tbl α) (i : Nat) (v w : α) (h : Tbl.wf d t = true) :
    tput (d i) (tput (d i) t i v) i w = tput (d i) t i w := by
  obtain ⟨hdd, hdi, hid, hii⟩ := tdel_tins_absorb d none t i v w h
  unfold tput
  split_ifs
  · exact hdd
  · exact hdi
  · exact hid
  · exact hii

end

theorem State.setEngine_setEngine (s : State) (t : Nat) (e e' : Engine) (w : Tbl.wf (fun _ => Engine.init) s.eng = true) :
    (s.setEngine t e).setEngine t e' = s.setEngine t e' :=
  congrArg (fun l => ({ s with eng := l } : State)) (tput_tput (fun _ => Engine.init) s.eng t e e' w)

/-! ### The array of a block and its fused half (R151, R154) -/

theorem State.blk_setBlk_other (s : State) (t b : Nat) {b' : Nat} (m : BlkMem) (hne : b' ≠ b) (w : Tbl.wf (fun _ => BlkMem.init) s.fab.blks = true) :
    (s.setBlk t b m).blk t b' = s.blk t b' :=
  tget_tput_other (fun _ => BlkMem.init) _ _ _ _ _ _ (by omega) w

section
variable {s : State} {t b p m v : Nat} (hblks : Tbl.wf (fun _ => BlkMem.init) s.fab.blks = true)
  (hbytes : ∀ k, Tbl.wf (fun _ => 0) (s.blk t k).bytes = true)
include hblks hbytes

theorem State.arr_storeArr_same : (s.storeArr t b [(p, m, v)]).arr t b p = mergeBits (s.arr t b p) m v := by
  simp only [State.storeArr, List.foldl_cons, List.foldl_nil, State.arr, State.blk_setBlk s _ _ _ hblks, BlkMem.store]
  exact tget_tput_same (fun _ => 0) _ _ _ (hbytes _)

/-- Storing a byte leaves every other byte, of its own block and of the fused one. -/
theorem State.arr_storeArr_other {q : Nat} (hne : q ≠ p) : (s.storeArr t b [(p, m, v)]).arr t b q = s.arr t b q := by
  simp only [State.storeArr, List.foldl_cons, List.foldl_nil, State.arr]
  by_cases hhalf : q / 4096 = p / 4096
  · rw [hhalf, State.blk_setBlk s _ _ _ hblks]
    exact tget_tput_other (fun _ => 0) _ _ _ _ _ _ (by omega) (hbytes _)
  · rw [State.blk_setBlk_other s _ _ _ (by omega) hblks]

end

/-! ### What a port writes and reads (R139, R144, R149) -/

theorem writeSet_unstrobed (w loc data : Nat) : writeSet w loc 0 data = [] := by
  simp [writeSet, bitAt]

/-- Port B's output register with its flags (R139, R143). -/
def BlkMem.oregsB (c : BlkCfg) (x : PortIn) (m : BlkMem) : BlkMem :=
  if c.oregB then { m with
    oregB := oreg x (c.word c.clrA c.clrB) m.oregB m.latchB
    regPoisonB := oreg x false m.regPoisonB m.poisonB
    regCorr := oreg x false m.regCorr m.errCorr
    regUncorr := oreg x false m.regUncorr m.errUncorr }
  else m

section
variable (c : BlkCfg) (x : PortIn) (m : BlkMem)

@[simp] theorem BlkMem.oregsB_bytes : (m.oregsB c x).bytes = m.bytes := by unfold BlkMem.oregsB; split <;> rfl
@[simp] theorem BlkMem.oregsB_marks : (m.oregsB c x).marks = m.marks := by unfold BlkMem.oregsB; split <;> rfl
@[simp] theorem BlkMem.oregsB_latchA : (m.oregsB c x).latchA = m.latchA := by unfold BlkMem.oregsB; split <;> rfl
@[simp] theorem BlkMem.oregsB_poisonA : (m.oregsB c x).poisonA = m.poisonA := by unfold BlkMem.oregsB; split <;> rfl
@[simp] theorem BlkMem.oregsB_oregA : (m.oregsB c x).oregA = m.oregA := by unfold BlkMem.oregsB; split <;> rfl

end

section
variable {c : BlkCfg} (portB : Bool) {x : PortIn}

/-- With PEN low a port writes nothing (R139). -/
theorem blkWrites_idle (hpen : x.pen = false) : blkWrites c portB x = [] := by
  simp [blkWrites, hpen]

/-- Outside the 512 × 72 mode each port writes the strobed bytes of its own word (R139, R144). -/
theorem blkWrites_narrow (hpen : x.pen = true) (hwide : c.wide = false) :
    blkWrites c portB x = writeSet (if portB then c.widthB else c.widthA) x.loc.toNat x.we.toNat x.wdata.toNat := by
  simp [blkWrites, hpen, hwide]

variable (m : BlkMem) (seen : Nat → Nat) (bare : Nat → Bool) (own fix : List (Nat × Nat × Nat))

/-- A port that does not write, or that is read-first, presents the word as it stood before the edge (R144). -/
theorem portLatch_before (h : (if portB then c.modeB else c.modeA) = 0 ∨ own = []) :
    portLatch c portB m x seen bare own fix = plainRead seen bare (if portB then c.widthB else c.widthA) x.loc.toNat :=
  if_pos (h.symm.imp (fun hown => by simp [hown]) id)

/-- With PEN low a port keeps its registers (R139). -/
theorem portRegs_idle (hpen : x.pen = false) : portRegs c portB m x seen bare own fix = (m, none) := by
  simp [portRegs, hpen]

/-- An edge of port A outside the 512 × 72 mode: its latch, and with the output register on the RDATA before the edge (R139, R143, R144). -/
theorem portRegs_narrowA (hpen : x.pen = true) (hwide : c.wide = false) :
    portRegs c false m x seen bare own fix = ({ m with
      latchA := (portLatch c false m x seen bare own fix).1
      poisonA := (portLatch c false m x seen bare own fix).2
      oregA := if c.oregA then oreg x c.clrA m.oregA m.latchA else m.oregA
      regPoisonA := if c.oregA then oreg x false m.regPoisonA m.poisonA else m.regPoisonA }, none) := by
  simp only [portRegs, hpen, hwide, Bool.not_true, Bool.not_false, Bool.false_eq_true, if_true, if_false]

theorem portRegs_narrowB (hpen : x.pen = true) (hwide : c.wide = false) :
    portRegs c true m x seen bare own fix = ({ m.oregsB c x with
      latchB := (portLatch c true m x seen bare own fix).1
      poisonB := (portLatch c true m x seen bare own fix).2 }, none) := by
  simp only [portRegs, hpen, hwide, Bool.not_true, Bool.not_false, Bool.false_eq_true, if_true, if_false]
  rfl

/-- An edge of the read port of an ECC word (R149). -/
theorem portRegs_ecc (hpen : x.pen = true) (hwide : c.wide = true) (hecc : c.ecc = true) :
    (portRegs c true m x seen bare own fix).1 = { m.oregsB c x with
      latchB := (eccRead bare seen (x.loc.toNat / 64)).1
      errCorr := (eccRead bare seen (x.loc.toNat / 64)).2.1
      errUncorr := (eccRead bare seen (x.loc.toNat / 64)).2.2.1
      poisonB := (eccRead bare seen (x.loc.toNat / 64)).2.2.2.1 } := by
  simp only [portRegs, hpen, hwide, hecc, Bool.not_true, Bool.false_eq_true, if_true, if_false]
  rfl

/-- Outside the 512 × 72 mode a port's edge logs no error, and the array is not in its registers (R149). -/
theorem portRegs_narrow (hwide : c.wide = false) : (portRegs c portB m x seen bare own fix).2 = none ∧
    (portRegs c portB m x seen bare own fix).1.bytes = m.bytes ∧ (portRegs c portB m x seen bare own fix).1.marks = m.marks := by
  cases hpen : x.pen
  · simp only [portRegs_idle portB m seen bare own fix hpen, and_self]
  · cases portB
    · simp only [portRegs_narrowA m seen bare own fix hpen hwide, and_self]
    · simp only [portRegs_narrowB m seen bare own fix hpen hwide, BlkMem.oregsB_bytes, BlkMem.oregsB_marks, and_self]

/-- Port A's edge leaves port B's outputs. -/
theorem portRegs_A_keeps (hwide : c.wide = false) : (portRegs c false m x seen bare own fix).1.latchB = m.latchB ∧
    (portRegs c false m x seen bare own fix).1.oregB = m.oregB := by
  cases hpen : x.pen
  · simp only [portRegs_idle false m seen bare own fix hpen, and_self]
  · simp only [portRegs_narrowA m seen bare own fix hpen hwide, and_self]

/-- Port B's edge leaves port A's outputs. -/
theorem portRegs_B_keeps (hwide : c.wide = false) : (portRegs c true m x seen bare own fix).1.latchA = m.latchA ∧
    (portRegs c true m x seen bare own fix).1.poisonA = m.poisonA ∧ (portRegs c true m x seen bare own fix).1.oregA = m.oregA := by
  cases hpen : x.pen
  · simp only [portRegs_idle true m seen bare own fix hpen, and_self]
  · simp only [portRegs_narrowB m seen bare own fix hpen hwide, BlkMem.oregsB_latchA, BlkMem.oregsB_poisonA, BlkMem.oregsB_oregA, and_self]

/-- Port A presents the word as it stood before the edge where it does not write, or is read-first (R144). -/
theorem portRegs_A_before (hpen : x.pen = true) (hwide : c.wide = false) (h : c.modeA = 0 ∨ own = []) :
    ((portRegs c false m x seen bare own fix).1.latchA, (portRegs c false m x seen bare own fix).1.poisonA) =
      plainRead seen bare c.widthA x.loc.toNat := by
  rw [portRegs_narrowA m seen bare own fix hpen hwide, portLatch_before false m seen bare own fix h]
  rfl

/-- Port B presents the word as it stood before the edge where it does not write, or is read-first (R144). -/
theorem portRegs_B_before (hpen : x.pen = true) (hwide : c.wide = false) (h : c.modeB = 0 ∨ own = []) :
    ((portRegs c true m x seen bare own fix).1.latchB, (portRegs c true m x seen bare own fix).1.poisonB) =
      plainRead seen bare c.widthB x.loc.toNat := by
  rw [portRegs_narrowB m seen bare own fix hpen hwide, portLatch_before true m seen bare own fix h]
  rfl

end

section
variable {c : BlkCfg} {m mA mB : BlkMem} {x y : PortIn} {get : Nat → Nat} {bare : Nat → Bool} {wa wb fix : List (Nat × Nat × Nat)}
  (hwide : c.wide = false) (hA : (portRegs c false m x get bare wa []).1 = mA) (hB : (portRegs c true mA y get bare wb fix).1 = mB)
include hwide hA hB

/-- An edge at both ports: each reads the array as it stood, a port with PEN low keeps its outputs, and the registers leave the array (R139, R145). -/
theorem portRegs_both : mB.bytes = m.bytes ∧ mB.marks = m.marks ∧
    (x.pen = true → c.modeA = 0 ∨ wa = [] → (mB.latchA, mB.poisonA) = plainRead get bare c.widthA x.loc.toNat) ∧
    (y.pen = true → c.modeB = 0 ∨ wb = [] → (mB.latchB, mB.poisonB) = plainRead get bare c.widthB y.loc.toNat) ∧
    (x.pen = false → mB.latchA = m.latchA ∧ mB.oregA = m.oregA) ∧ (y.pen = false → mB.latchB = m.latchB ∧ mB.oregB = m.oregB) := by
  obtain ⟨-, hbytesA, hmarksA⟩ := portRegs_narrow (x := x) false m get bare wa [] hwide
  obtain ⟨-, hbytesB, hmarksB⟩ := portRegs_narrow (x := y) true mA get bare wb fix hwide
  obtain ⟨hlatchB, horegB⟩ := portRegs_A_keeps (x := x) m get bare wa [] hwide
  obtain ⟨hlatchA, hpoisonA, horegA⟩ := portRegs_B_keeps (x := y) mA get bare wb fix hwide
  rw [hA] at hbytesA hmarksA hlatchB horegB
  rw [hB] at hbytesB hmarksB hlatchA hpoisonA horegA
  refine ⟨hbytesB.trans hbytesA, hmarksB.trans hmarksA, fun hpen h => ?_, fun hpen h => ?_, fun hpen => ?_, fun hpen => ?_⟩
  · rw [hlatchA, hpoisonA, ← hA]
    exact portRegs_A_before m get bare wa [] hpen hwide h
  · rw [← hB]
    exact portRegs_B_before mA get bare wb fix hpen hwide h
  · rw [portRegs_idle false m get bare wa [] hpen] at hA
    exact ⟨hlatchA.trans (congrArg BlkMem.latchA hA.symm), horegA.trans (congrArg BlkMem.oregA hA.symm)⟩
  · rw [portRegs_idle true mA get bare wb fix hpen] at hB
    exact ⟨(congrArg BlkMem.latchB hB.symm).trans hlatchB, (congrArg BlkMem.oregB hB.symm).trans horegB⟩

end

/-! ### An edge at a block (R139, R145, R146) -/

/-- What begins an edge leaves the frames, and so the clock nets (R23). -/
theorem State.edgeStart_netId (s : State) (join : Bool) (t i : Nat) : (s.edgeStart join).netId t i = s.netId t i := by
  obtain ⟨b, f, hstart⟩ := s.edgeStart_eq join
  rw [hstart]
  rfl

theorem withWrites_nil (get : Nat → Nat) : withWrites get [] = get := rfl

theorem stillBare_nil (bare : Nat → Bool) : stillBare bare [] = bare := by
  funext p
  simp [stillBare]

/-- Against an access that writes nothing, all writes stand (R146). -/
theorem raced_nil (o : Nat → Bool) (l : List (Nat × Nat × Nat)) : raced o l [] = l := by
  simp [raced]

section
variable {c : BlkCfg} (m : BlkMem) (get : Nat → Nat) (bare : Nat → Bool) (x y : PortIn) (hwide : c.wide = false)
include hwide

/-- Port A alone finds the array as it stood, and writes what its strobes say. -/
theorem blkEdge_portA (o : Nat → Bool) :
    blkEdge c m get bare (some x) none (some o) = ((portRegs c false m x get bare (blkWrites c false x) []).1, blkWrites c false x, none) := by
  simp only [blkEdge, withWrites_nil, stillBare_nil, ite_self, raced_nil, (portRegs_narrow false m get bare _ [] hwide).1, Option.isSome_none,
    Bool.false_eq_true]

/-- Under a common clock both ports find the array as it stood, and port A's writes come last (R145). -/
theorem blkEdge_common :
    blkEdge c m get bare (some x) (some y) none =
      ((portRegs c true (portRegs c false m x get bare (blkWrites c false x) []).1 y get bare (blkWrites c true y)
        (bothWrite (blkWrites c true y) (blkWrites c false x))).1, blkWrites c true y ++ blkWrites c false x, none) := by
  simp only [blkEdge, Option.isNone_none, if_true, (portRegs_narrow _ _ get bare _ _ hwide).1, Option.isSome_none, Bool.false_eq_true, if_false]

end

/-- What an edge gives a block is put into it, its array and the error log. -/
def State.blkTakes (u : State) (t b : Nat) (e : BlkMem × List (Nat × Nat × Nat) × Option (Nat × SecOut × Nat × Nat)) : State :=
  State.blkLog (State.storeArr (State.setBlk { u with free := u.free + 8192 } t b e.1) t b e.2.1) t b e.2.2

section
variable {t : Tile} {b : Fin 24} {net : Fin 8} {join : Bool} (pa pb : PortIn) {s u : State} {c : BlkCfg} (hclk : s.userClock = true)
  (hrun : s.netRuns t net = true) (hfused : s.blkFused t b = false) (hc : s.blkCfg t b = c) (hwide : c.wide = false) (hu : s.edgeStart join = u)
include hclk hrun hfused hc hwide hu

/-- An edge reaches the ports whose own clock input runs on its net; port B not where the window takes it (R139, R156). -/
theorem exec_blockPortAccess_runs :
    exec (.blockPortAccess t b net none join pa pb) s = .next (u.blkTakes t b (blkEdge c (u.blk t b) (u.arr t b) (u.bare t b)
      (if s.netRuns t c.clkA && decide (s.netId t c.clkA = s.netId t net) then
        some (u.preEdge.portIn (u.preEdge.extBlk t b false pa pb) t b false false false) else none)
      (if s.netRuns t c.clkB && decide (s.netId t c.clkB = s.netId t net) && !c.window then
        some (u.preEdge.portIn (u.preEdge.extBlk t b false pa pb) t b true false false) else none)
      (if s.netId t c.clkA = s.netId t c.clkB then none else some (freeOrder c u.free)))) := by
  have hid : ∀ i, u.netId t i = s.netId t i := fun i => by rw [← hu, State.edgeStart_netId]
  have hon : ∀ i, u.netRuns t i = s.netRuns t i := fun i => by rw [← hu, State.edgeStart_netRuns]
  refine congrArg Host.Outcome.next ((if_neg (by simp [hclk, hrun, hfused])).trans ?_)
  simp only [hu, hc, hfused, hwide, hid, hon, Option.bind_eq_bind, Option.bind_none, Option.any_none, Bool.or_false]
  rfl

variable (hrunA : s.netRuns t c.clkA = true) (hnetA : s.netId t c.clkA = s.netId t net)
include hrunA hnetA

/-- An edge that reaches port A alone. -/
theorem exec_blockPortAccess_portA (hnetB : s.netId t c.clkB ≠ s.netId t net) {x : PortIn}
    (hx : u.preEdge.portIn (u.preEdge.extBlk t b false pa pb) t b false false false = x) :
    exec (.blockPortAccess t b net none join pa pb) s = .next (u.blkTakes t b
      ((portRegs c false (u.blk t b) x (u.arr t b) (u.bare t b) (blkWrites c false x) []).1, blkWrites c false x, none)) := by
  have hAB : s.netId t net ≠ s.netId t c.clkB := hnetB.symm
  simp only [exec_blockPortAccess_runs pa pb hclk hrun hfused hc hwide hu, hx, hrunA, hnetA, hnetB, hAB, decide_true, decide_false, Bool.and_self,
    Bool.and_false, Bool.false_and, Bool.false_eq_true, if_true, if_false, blkEdge_portA _ _ _ _ hwide]

/-- An edge of the clock net that both ports take. -/
theorem exec_blockPortAccess_common (hwindow : c.window = false) (hrunB : s.netRuns t c.clkB = true) (hnetB : s.netId t c.clkB = s.netId t net)
    {x y : PortIn} (hx : u.preEdge.portIn (u.preEdge.extBlk t b false pa pb) t b false false false = x)
    (hy : u.preEdge.portIn (u.preEdge.extBlk t b false pa pb) t b true false false = y) :
    exec (.blockPortAccess t b net none join pa pb) s = .next (u.blkTakes t b
      ((portRegs c true (portRegs c false (u.blk t b) x (u.arr t b) (u.bare t b) (blkWrites c false x) []).1 y (u.arr t b) (u.bare t b)
        (blkWrites c true y) (bothWrite (blkWrites c true y) (blkWrites c false x))).1, blkWrites c true y ++ blkWrites c false x, none)) := by
  simp only [exec_blockPortAccess_runs pa pb hclk hrun hfused hc hwide hu, hx, hy, hrunA, hnetA, hrunB, hnetB, hwindow, decide_true, Bool.and_self,
    Bool.not_false, if_true, blkEdge_common _ _ _ _ _ hwide]

end

/-- Without user clocks, on a gated net, and at the odd block of a fused pair, nothing happens (R139, R151). -/
theorem exec_blockPortAccess_off {t : Tile} {b : Fin 24} {net : Fin 8} (near : Option (Fin 8)) (join : Bool) (pa pb : PortIn) {s : State}
    (h : s.userClock = false ∨ s.netRuns t net = false ∨ (s.blkFused t b = true ∧ b.val % 2 = 1)) :
    exec (.blockPortAccess t b net near join pa pb) s = .next s := by
  refine congrArg Host.Outcome.next (if_pos ?_)
  rcases h with h | h | ⟨hfused, hodd⟩
  · simp [h]
  · simp [h]
  · simp [hfused, hodd]

/-! ### The block memory window (R155–R157) -/

/-- An intact request in flight is taken up, served and answered (R182). -/
theorem State.serve_intact {s : State} {r : Req} {ni : Nat} {f : State → Option Served} {x : Served} (hin : s.net.reqs.contains r = true)
    (hcrc : r.crcOk = true) (hf : f (s.takeReq r) = some x) : s.serve r ni f = x.1.respond r x.2.1 x.2.2 := by
  simp only [State.serve, hin, hcrc, hf, if_true]

/-- A request at an offset of the block memory windows is served there. -/
theorem exec_blockWindowRequest_serves {r : Req} (near : Option (Bool × PortIn)) {s : State} {t o : Nat} (hat : aperture r.addr = some (t, o))
    (hlo : 0x100000 ≤ o) (hhi : o < 0x200000) :
    exec (.blockWindowRequest r near) s = .next (s.serve r t (fun s => some (s.blkWindowNear r.rq t o r.op r.size r.data near))) := by
  refine congrArg Host.Outcome.next ?_
  simp only [hat, hlo, hhi, and_self, if_true]

/-- Outside RUN the user clocks give port A no edge near a window access (R146, R156). -/
theorem State.blkWindowNear_stopped {s : State} (q : Rq) (t o : Nat) (op : NOp) (n : Nat) (data : List Byte) (near : Bool × PortIn)
    (hmode : s.pw.mode ≠ .run) : s.blkWindowNear q t o op n data (some near) = s.blkWindow q t o op n data := by
  have haway : ∀ b, (!s.nearA t b) = true := fun b => by simp [State.nearA, hmode]
  rw [State.blkWindowNear]
  exact if_pos (haway _)

/-- A one-byte write to the data of a block without ECC stores the byte's low 8 bits (R155). -/
theorem winWrites_byte {c : BlkCfg} (test : Bool) {w : Nat} (data : List Byte) (hwide : c.wide = false) (hw : w < 0x1000) :
    winWrites c test w 1 data = [(w, 255, leAt data 0 1)] := by
  simp [winWrites, hwide, hw.not_ge]

section
variable {s : State} {q : Rq} {t b w : Nat} {op : NOp} (data : List Byte) (hb : b < 24) (hreach : s.mayReach q t = true)
  (hopen : s.niFenced t = false) (hmode : s.pw.mode = .run) (hwin : (s.blkCfg t b).window = true) (hwide : (s.blkCfg t b).wide = false)
include hb hreach hopen hmode hwin hwide

/-- The one byte that an access to an enabled window of a block without ECC reaches: data below offset 0x1000, above it bit 8 of eight bytes
(R155–R157). -/
theorem State.blkWindow_byte (hw : w < 0x1200) (hop : op = .read ∨ op = .write) :
    s.blkWindow q t (0x100000 + 0x8000 * b + w) op 1 data =
      if op = .write then
        (s.setBlk t b ((s.blk t b).store (winWrites (s.blkCfg t b) (s.flag F.eccTestT_testEn t 0) w 1 data) false), svcOK, [])
      else if w < 0x1000 then
        (if (s.blk t b).unwritten w 1 then (s, svcPoisoned, [0#8]) else (s, svcOK, [BitVec.ofNat 8 (tget 0 (s.blk t b).bytes w)]))
      else if (s.blk t b).unwritten (8 * (w - 0x1000)) 8 then (s, svcPoisoned, [0#8])
      else (s, svcOK, [BitVec.ofNat 8 (bit8Byte (s.blk t b) (w - 0x1000))]) := by
  have hblk : (0x100000 + 0x8000 * b + w - 0x100000) / 0x8000 = b := by omega
  have hoff : (0x100000 + 0x8000 * b + w - 0x100000) % 0x8000 = w := by omega
  have hone : leBytes 1 0 = [0#8] := rfl
  rcases hop with rfl | rfl <;>
    simp [State.blkWindow, hblk, hoff, hb, hw, hreach, hopen, hmode, hwin, hwide, hone, Nat.mod_one]

end


/-! ### The engine memories as the network reaches them (R264, R266) -/

section
variable {s : State} {r : Req} {t o m a : Nat} (hwindow : engWindow o = some (m, a)) (hshape : engShape m a r.size = true)
  (hop : r.op = .write ∨ r.op = .read) (hreach : s.mayReach r.rq t = true)
include hwindow hshape hop hreach

/-- A request of an allowed shape and right is refused only where the tile is fenced or at REST, or where a running engine keeps program or X memory
to itself (R266). -/
theorem State.engMemRefuses_allowed : s.engMemRefuses r.rq t o r.op r.size =
    if s.niFenced t ∨ s.pw.mode = .rest ∨ (m ≠ 2 ∧ (s.engine t).run = .running ∧ !s.engPaused t) then some svcFenced else none := by
  simp only [State.engMemRefuses, hwindow, hshape, hreach, Bool.not_true, Bool.false_eq_true, hop.symm, decide_true, or_self, if_false]

end

/-- Y memory serves no request to program or X memory. -/
theorem State.engYServed_other {s : State} {q : Rq} {t o m a : Nat} {op : NOp} {n : Nat} (hwindow : engWindow o = some (m, a)) (hm : m ≠ 2) :
    s.engYServed q t o op n = false := by
  simp [State.engYServed, hwindow, hm]

theorem State.engMemServe_refused {s : State} {q : Rq} {t o n code : Nat} {op : NOp} (data : List Byte)
    (h : s.engMemRefuses q t o op n = some code) : s.engMemServe q t o op n data = (s, code, []) := by
  simp only [State.engMemServe, h, refused]

theorem State.engMemServe_write {s : State} {q : Rq} {t o n m a : Nat} (data : List Byte) (hwindow : engWindow o = some (m, a))
    (h : s.engMemRefuses q t o .write n = none) : s.engMemServe q t o .write n data = (s.engMemWrite t m a data, svcOK, []) := by
  simp only [State.engMemServe, h, hwindow, Option.getD_some, if_true]

/-- Outside the test mode a network write stores its words with their own check bits (R266, R375). -/
theorem State.engMemWrite_untested {s : State} {t : Nat} (m o : Nat) (data : List Byte) (h : s.flag F.eccTestT_testEn t 0 = false) :
    s.engMemWrite t m o data = s.setEngine t ((s.engine t).setMem m (iter (data.length / (if m = 0 then 4 else 2))
      (fun k (mm : EMem) => mm.put (o / (if m = 0 then 4 else 2) + k) (leAt data ((if m = 0 then 4 else 2) * k) (if m = 0 then 4 else 2)) 0)
      ((s.engine t).mem m))) := by
  simp only [State.engMemWrite, h, Bool.false_and, Bool.false_eq_true, if_false]

section
variable {r : Req} {s : State} {t o : Nat} (hin : s.net.reqs.contains r = true) (hcrc : r.crcOk = true) (hat : aperture r.addr = some (t, o))
  (ho : o < 0x20000)
include hin hcrc hat ho

/-- A request that need not wait for the Y lock is served. -/
theorem exec_engineMemoryRequest_served (hnow : (s.engine t).lock = false ∨ s.engYServed r.rq t o r.op r.size = false) {x : Served}
    (hx : (s.takeReq r).engMemServe r.rq t o r.op r.size r.data = x) : exec (.engineMemoryRequest r) s = .next (x.1.respond r x.2.1 x.2.2) := by
  have hwindows : o < 0x100000 := by omega
  have hfree : ((s.engine t).lock && s.engYServed r.rq t o r.op r.size && r.crcOk) = false := by
    rcases hnow with h | h <;> simp [h]
  refine congrArg Host.Outcome.next (Eq.trans ?_ (State.serve_intact (ni := t)
    (f := fun s => some (s.engMemServe r.rq t o r.op r.size r.data)) hin hcrc (congrArg some hx)))
  simp only [hat, hwindows, hfree, decide_true, Bool.not_true, Bool.false_eq_true, if_false]

/-- A request to Y waits for the tile port while the engine holds the lock (R259, R264). -/
theorem exec_engineMemoryRequest_waits (hlock : (s.engine t).lock = true) (hserved : s.engYServed r.rq t o r.op r.size = true) :
    exec (.engineMemoryRequest r) s = .next (State.setEngine (s.takeReq r) t { s.engine t with ynet := (s.engine t).ynet ++ [.req r] }) := by
  have hwindows : o < 0x100000 := by omega
  refine congrArg Host.Outcome.next ?_
  simp only [hat, hwindows, hlock, hserved, hcrc, hin, decide_true, Bool.not_true, Bool.and_self, Bool.false_eq_true, if_false, if_true]

end

/-! ### The tile port of Y memory (R259, R264) -/

section
variable {s : State} {t : Nat}

/-- While the engine holds the lock the tile port serves nothing. -/
theorem State.yServe_locked (hlock : (s.engine t).lock = true) : s.yServe t = s :=
  iter_id _ _ s (fun _ => if_pos hlock)

/-- A single access of the fabric is served. -/
theorem State.yServe_one {x : Bool × Nat × Nat} (hlock : (s.engine t).lock = false) (hq : (s.engine t).yq = [x]) (hnet : (s.engine t).ynet = []) :
    s.yServe t = s.yFabric t := by
  have hstep : s.yStep t = s.yFabric t := by simp [State.yStep, hlock, hq, hnet]
  simp [State.yServe, hq, hnet, iter, hstep]

/-- The fabric's and the network's accesses alternate while both wait (R264). -/
theorem State.yStep_turns {x : Bool × Nat × Nat} {l : List (Bool × Nat × Nat)} {j : NiJob} {js : List NiJob} (hlock : (s.engine t).lock = false)
    (hq : (s.engine t).yq = x :: l) (hnet : (s.engine t).ynet = j :: js) :
    ((s.engine t).yturn = true → s.yStep t = s.yNet t) ∧ ((s.engine t).yturn = false → s.yStep t = s.yFabric t) := by
  constructor <;> intro hturn <;> simp [State.yStep, hlock, hq, hnet, hturn]

/-- The oldest access of the fabric is a write. -/
theorem State.yFabric_write {a din : Nat} {l : List (Bool × Nat × Nat)} (hq : (s.engine t).yq = (true, a, din) :: l) :
    s.yFabric t = s.setEngine t { s.engine t with yq := l, yturn := true, y := (s.engine t).y.put a din 0 } := by
  simp only [State.yFabric, hq, if_true]
  rfl

/-- The oldest access of the fabric is a read that meets no error. -/
theorem State.yFabric_read {a din v : Nat} {bad : Bool} {l : List (Bool × Nat × Nat)} (hq : (s.engine t).yq = (false, a, din) :: l)
    (hread : (s.engine t).y.read 16 5 3 a = ⟨v, bad, none⟩) :
    s.yFabric t = s.setEngine t { s.engine t with yq := l, yturn := true, yout := (s.engine t).yout ++ [(v, bad)] } := by
  simp only [State.yFabric, hq, Bool.false_eq_true, if_false, hread, State.noteReads_clean]

end

section
variable {u : State} {t a : Nat} (hwf : Tbl.wf (fun _ => Engine.init) u.eng = true) (hlock : (u.engine t).lock = false) (hq : (u.engine t).yq = [])
  (hnet : (u.engine t).ynet = [])
include hwf hlock hq hnet

/-- With nothing else waiting, an access that is queued is served at once. -/
theorem State.yServe_queued (x : Bool × Nat × Nat) : State.yServe (u.setEngine t { u.engine t with yq := (u.engine t).yq ++ [x] }) t =
    State.yFabric (u.setEngine t { u.engine t with yq := [x] }) t := by
  have he := State.engine_setEngine u t { u.engine t with yq := [x] } hwf
  rw [hq, List.nil_append]
  exact State.yServe_one (by rw [he]; exact hlock) (by rw [he]) (by rw [he]; exact hnet)

theorem State.yServe_write (din : Nat) : State.yServe (u.setEngine t { u.engine t with yq := (u.engine t).yq ++ [(true, a, din)] }) t =
    u.setEngine t { u.engine t with y := (u.engine t).y.put a din 0, yturn := true } := by
  have he := State.engine_setEngine u t { u.engine t with yq := [(true, a, din)] } hwf
  rw [State.yServe_queued hwf hlock hq hnet, State.yFabric_write (congrArg Engine.yq he), he, State.setEngine_setEngine u t _ _ hwf]
  simp only [hq]

theorem State.yServe_read {v : Nat} {bad : Bool} (din : Nat) (hread : (u.engine t).y.read 16 5 3 a = ⟨v, bad, none⟩) :
    State.yServe (u.setEngine t { u.engine t with yq := (u.engine t).yq ++ [(false, a, din)] }) t =
      u.setEngine t { u.engine t with yout := (u.engine t).yout ++ [(v, bad)], yturn := true } := by
  have he := State.engine_setEngine u t { u.engine t with yq := [(false, a, din)] } hwf
  rw [State.yServe_queued hwf hlock hq hnet, State.yFabric_read (congrArg Engine.yq he) (by rw [he]; exact hread), he,
    State.setEngine_setEngine u t _ _ hwf]
  simp only [hq]

end

section
variable {t : Tile} {we : Bool} {a : Fin 16384} {din : Word16} {join : Bool} {s u p : State} (hrun : s.portRuns t .engine 0 = true)
  (hedge : s.portEdge t .engine 0 join = u) (hp : u.preEdge = p)
include hrun hedge hp

/-- An access with YVALID high, while fewer than four are in flight, enters the port's queue and is served from there (R264, R265). -/
theorem exec_fabricYAccess_taken (hvalid : p.senseBit t .engine .yvalid 0 true = true) (hroom : (p.engine t).yq.length + (p.engine t).yout.length < 4) :
    exec (.fabricYAccess t we a din join) s = .next (State.yServe (u.setEngine t { u.engine t with yq := (u.engine t).yq ++
      [(p.senseBit t .engine .ywe 0 we, p.sense t .engine .yaddr 14 a, p.sense t .engine .ydin 16 din.toNat)] }) t) := by
  refine congrArg Host.Outcome.next ((if_pos hrun).trans ?_)
  simp only [hedge, hp, hvalid, hroom, and_self, if_true]

theorem exec_fabricYAccess_ignored
    (h : p.senseBit t .engine .yvalid 0 true = false ∨ 4 ≤ (p.engine t).yq.length + (p.engine t).yout.length) :
    exec (.fabricYAccess t we a din join) s = .next u := by
  have hno : ¬ (p.senseBit t .engine .yvalid 0 true = true ∧ (p.engine t).yq.length + (p.engine t).yout.length < 4) := by
    rintro ⟨hvalid, hroom⟩
    rcases h with h | h
    · simp [h] at hvalid
    · omega
  refine congrArg Host.Outcome.next ((if_pos hrun).trans ?_)
  simp only [hedge, hp, hno, if_false]

end

theorem exec_fabricYAccess_gated {t : Tile} (we : Bool) (a : Fin 16384) (din : Word16) (join : Bool) {s : State}
    (h : s.portRuns t .engine 0 = false) : exec (.fabricYAccess t we a din join) s = .next s :=
  congrArg Host.Outcome.next (if_neg (by simp [h]))

/-- Settles O32: an edge at a block is the registers and writes of the ports that it reaches; a window access, a request to the engine memories and an
access at the fabric's Y port are served, refused or kept waiting by the first test that they meet. -/
theorem tileMemories : Obligations.TileMemories := by
  unfold Obligations.TileMemories
  refine ⟨?readA, ?readEcc, ?common, ?alone, fun c x portB hpen => blkWrites_idle portB hpen,
    fun c x hpen hwide => ⟨blkWrites_narrow false hpen hwide, blkWrites_narrow true hpen hwide⟩,
    fun s t b p m v hblks hbytes => ⟨State.arr_storeArr_same hblks hbytes, fun q hne => State.arr_storeArr_other hblks hbytes hne⟩,
    fun t b net near join pa pb s hoff => exec_blockPortAccess_off near join pa pb hoff, ?window, ?windowStopped, ?windowPoisoned, ?windowByte,
    ?engWrite, ?engRefused, ?engWaits, fun s t m o data htest => State.engMemWrite_untested m o data htest, ?yWrite, ?yRead, ?yLocked,
    fun t we a din join s u p hrun hedge hp h => exec_fabricYAccess_ignored hrun hedge hp h,
    fun t we a din join s hoff => exec_fabricYAccess_gated we a din join hoff,
    fun s t we a din l j js hlock hq hnet => State.yStep_turns hlock hq hnet⟩
  case readA =>
    intro t b net join pa pb s u x c hclk hrun hfused hc hwide hrunA hnetA hnetB hu hx hpen hwe
    have hnone : blkWrites c false x = [] := by
      rw [blkWrites_narrow false hpen hwide, hwe]
      exact writeSet_unstrobed _ _ _
    rw [exec_blockPortAccess_portA pa pb hclk hrun hfused hc hwide hu hrunA hnetA hnetB hx, hnone, portRegs_narrowA _ _ _ _ _ hpen hwide,
      portLatch_before false _ _ _ _ _ (.inr rfl)]
    rfl
  case readEcc =>
    intro c s x t b m e hwide hecc horeg hpen hm
    have hregs : m = _ := (congrArg Prod.fst hm).symm.trans (portRegs_ecc (s.blk t b) (s.arr t b) (s.bare t b) [] [] hpen hwide hecc)
    rw [hregs, BlkMem.oregsB, if_pos horeg]
    exact ⟨rfl, rfl, rfl, rfl⟩
  case common =>
    intro t b net join pa pb s u x y c hclk hrun hfused hc hwide hwindow hrunA hrunB hnetA hnetB hu hx hy
    exact ⟨_, exec_blockPortAccess_common pa pb hclk hrun hfused hc hwide hu hrunA hnetA hwindow hrunB hnetB hx hy, portRegs_both hwide rfl rfl⟩
  case alone =>
    intro t b net join pa pb s u x c hclk hrun hfused hc hwide hrunA hnetA hnetB hu hx
    obtain ⟨-, hbytes, hmarks⟩ := portRegs_narrow (x := x) false (u.blk t b) (u.arr t b) (u.bare t b) (blkWrites c false x) [] hwide
    obtain ⟨hlatchB, -⟩ := portRegs_A_keeps (x := x) (u.blk t b) (u.arr t b) (u.bare t b) (blkWrites c false x) [] hwide
    exact ⟨_, _, exec_blockPortAccess_portA pa pb hclk hrun hfused hc hwide hu hrunA hnetA hnetB hx, .refl _, hbytes, hmarks, hlatchB⟩
  case window =>
    intro r s t o hin hcrc hat hlo hhi
    rw [exec_blockWindowRequest_serves none hat hlo hhi, State.serve_intact hin hcrc rfl]
    rfl
  case windowStopped =>
    intro r near s t o hin hcrc hat hlo hhi hmode
    rw [exec_blockWindowRequest_serves (some near) hat hlo hhi, exec_blockWindowRequest_serves none hat hlo hhi,
      State.serve_intact hin hcrc (congrArg some (State.blkWindowNear_stopped (s := s.takeReq r) _ _ _ _ _ _ _ hmode)),
      State.serve_intact hin hcrc rfl]
    rfl
  case windowPoisoned =>
    intro s q t b k data hb hk hreach hopen hmode hwin hwide hbare
    have hoff : 0x101000 + 0x8000 * b + k = 0x100000 + 0x8000 * b + (0x1000 + k) := by omega
    have hhigh : ¬ 0x1000 + k < 0x1000 := by omega
    rw [hoff, State.blkWindow_byte data hb hreach hopen hmode hwin hwide (by omega) (.inl rfl), if_neg (by decide), if_neg hhigh,
      Nat.add_sub_cancel_left, if_pos hbare]
  case windowByte =>
    intro s q t b w data hb hw hreach hopen hmode hwin hwide
    have hbyte := fun op => State.blkWindow_byte (op := op) data hb hreach hopen hmode hwin hwide (show w < 0x1200 by omega)
    refine ⟨?_, fun hset => ?_, fun hbare => ?_⟩
    · rw [hbyte .write (.inr rfl), if_pos rfl, winWrites_byte _ data hwide hw]
    · rw [hbyte .read (.inl rfl), if_neg (by decide), if_pos hw, hset, if_neg (by decide)]
    · rw [hbyte .read (.inl rfl), if_neg (by decide), if_pos hw, if_pos hbare]
  case engWrite =>
    intro r s t o m a hin hcrc hat ho hwindow hshape hop hreach hopen hmode hown hlock
    have hgranted : s.engMemRefuses r.rq t o r.op r.size = none := by
      refine (State.engMemRefuses_allowed hwindow hshape (.inl hop) hreach).trans (if_neg ?_)
      rintro (hfenced | hrest | ⟨hm, hrunning, hruns⟩)
      · simp [hopen] at hfenced
      · exact hmode hrest
      · have hpaused := (hown.resolve_left hm).resolve_left (not_not_intro hrunning)
        simp [hpaused] at hruns
    have hnow : (s.engine t).lock = false ∨ s.engYServed r.rq t o r.op r.size = false :=
      hlock.symm.imp_right (State.engYServed_other hwindow)
    have hserved : (s.takeReq r).engMemServe r.rq t o r.op r.size r.data = ((s.takeReq r).engMemWrite t m a r.data, svcOK, []) := by
      rw [hop] at hgranted ⊢
      exact State.engMemServe_write (s := s.takeReq r) r.data hwindow hgranted
    rw [exec_engineMemoryRequest_served hin hcrc hat ho hnow hserved]
  case engRefused =>
    intro r s t o m a hin hcrc hat ho hwindow hshape hop hreach hm hrunning hpaused
    have hpaused' : (!(s.takeReq r).engPaused t) = true := congrArg not hpaused
    have hrefused : (s.takeReq r).engMemRefuses r.rq t o r.op r.size = some svcFenced :=
      (State.engMemRefuses_allowed (s := s.takeReq r) hwindow hshape hop hreach).trans (if_pos (.inr (.inr ⟨hm, hrunning, hpaused'⟩)))
    rw [exec_engineMemoryRequest_served hin hcrc hat ho (.inr (State.engYServed_other hwindow hm)) (State.engMemServe_refused _ hrefused)]
  case engWaits =>
    intro r s t o a hin hcrc hat ho hwindow hshape hop hreach hopen hmode hlock
    refine exec_engineMemoryRequest_waits hin hcrc hat ho hlock ?_
    have hgranted : s.engMemRefuses r.rq t o r.op r.size = none :=
      (State.engMemRefuses_allowed hwindow hshape hop hreach).trans (if_neg (by simp [hopen, hmode]))
    simp [State.engYServed, hgranted, hwindow]
  case yWrite =>
    intro t we a din join s u p hrun hedge hp hvalid hroom hwe hlock hq hnet hwf
    rw [exec_fabricYAccess_taken hrun hedge hp hvalid hroom, hwe, State.yServe_write hwf hlock hq hnet]
  case yRead =>
    intro t we a din join s u p v bad hrun hedge hp hvalid hroom hwe hlock hq hnet hread hwf
    rw [exec_fabricYAccess_taken hrun hedge hp hvalid hroom, hwe, State.yServe_read hwf hlock hq hnet _ hread]
  case yLocked =>
    intro t we a din join s u p hrun hedge hp hvalid hroom hlock hwf
    rw [exec_fabricYAccess_taken hrun hedge hp hvalid hroom, State.yServe_locked (by rw [State.engine_setEngine u _ _ hwf]; exact hlock)]

end Sys2Proof.Machine

/-! SUPPORT. Contents of a stack (13 R307, R308, with the mixes of 14 R336): bytes put into a table, the byte that the mix of its own unit shows, which
the change of an access's mix keeps, and what a write stores and leaves. -/

namespace Sys2Proof.Machine

/-! ### Bytes put into a table -/

theorem Memory.wf_putBytes {t : Tbl Byte} (h : Memory.wf t = true) (o : Nat) (l : List Byte) : Memory.wf (putBytes t o l) = true := by
  induction l generalizing t o with
  | nil => exact h
  | cons b l ih => exact ih (Tbl.wf_tput (fun _ => 0#8) t o b h) (o + 1)

theorem tget_putBytes_outside {t : Tbl Byte} (hwf : Memory.wf t = true) {o k : Nat} {l : List Byte} (h : k < o ∨ o + l.length ≤ k) :
    tget 0#8 (putBytes t o l) k = tget 0#8 t k := by
  induction l generalizing t o with
  | nil => rfl
  | cons b l ih =>
    rw [List.length_cons] at h
    rw [putBytes, ih (Tbl.wf_tput (fun _ => 0#8) t o b hwf) (by omega)]
    exact tget_tput_other (fun _ => 0#8) _ _ t o k b (by omega) hwf

theorem tget_putBytes_inside {t : Tbl Byte} (hwf : Memory.wf t = true) {o i : Nat} {l : List Byte} (h : i < l.length) :
    tget 0#8 (putBytes t o l) (o + i) = l[i] := by
  induction l generalizing t o i with
  | nil => cases h
  | cons b l ih =>
    have hput := Tbl.wf_tput (fun _ => 0#8) t o b hwf
    cases i with
    | zero =>
      rw [putBytes, tget_putBytes_outside hput (by omega)]
      exact tget_tput_same (fun _ => 0#8) t o b hwf
    | succ i =>
      have hkey : o + (i + 1) = o + 1 + i := (Nat.succ_add_eq_add_succ o i).symm
      rw [putBytes, hkey, ih hput (Nat.lt_of_succ_lt_succ h)]
      rfl

/-! ### Keys of bytes and accesses (R308) -/

/-- A byte outside a range of a stack has its key outside the keys of the range. -/
theorem memKey_outside {st l n st' x : Nat} (hend : l + n ≤ 0x600000000) (hx : x < 0x600000000) (h : st' ≠ st ∨ x < l ∨ l + n ≤ x) :
    memKey st' x < memKey st l ∨ memKey st l + n ≤ memKey st' x := by
  unfold memKey
  omega

theorem accKey_ne {st a st' a' : Nat} (ha : a < 2 ^ 30) (ha' : a' < 2 ^ 30) (h : st' ≠ st ∨ a' ≠ a) : accKey st' a' ≠ accKey st a := by
  unfold accKey
  omega

/-- An access lies in one unit. -/
theorem unitOf_access (x : Nat) : unitOf (32 * (x / 32)) = unitOf x := by
  unfold unitOf
  omega

/-! ### What a byte reads as (R336) -/

/-- Byte `x` of a stack, as the mix of its own unit shows it. -/
def State.plainByte (s : State) (st x : Nat) : Byte := s.hbyte st (s.mixOf st (unitOf x)) x

/-- A read shows each byte under the mix of its own unit. -/
theorem State.hread_eq (s : State) (st l n : Nat) : s.hread st l n = (List.range n).map (fun i => s.plainByte st (l + i)) := by
  refine List.map_congr_left fun i _ => ?_
  rw [State.plainByte]
  split
  · next h => rw [h]
  · rfl

@[simp] theorem State.length_hread (s : State) (st l n : Nat) : (s.hread st l n).length = n := by
  simp [State.hread_eq]

theorem State.plainByte_unmixed {s : State} {st x : Nat} (h : tget 0 s.hbm.mixed (accKey st (x / 32)) = s.mixOf st (unitOf x)) :
    s.plainByte st x = tget 0#8 s.hbm.mem (memKey st x) := if_pos h

/-- A byte is the one at its place in its access. -/
theorem State.plainByte_eq_access (s : State) (st x : Nat) :
    s.plainByte st x = (s.accBytes st (s.mixOf st (unitOf x)) (x / 32)).getD (x % 32) 0#8 := by
  have hlow : x % 32 < 32 := Nat.mod_lt _ (by decide)
  rw [State.plainByte, State.hbyte]
  split
  · next h => simp [State.accBytes, h, hlow, Nat.div_add_mod]
  · rfl

@[simp] theorem State.length_accBytes (s : State) (st c a : Nat) : (s.accBytes st c a).length = 32 := by
  simp only [State.accBytes]
  split <;> simp

/-- Contents that agree on an access, and on its mix, read alike there. -/
theorem State.plainByte_congr {s : State} {h : Hbm} {st x : Nat} (hmixed : tget 0 h.mixed (accKey st (x / 32)) = tget 0 s.hbm.mixed (accKey st (x / 32)))
    (hmem : ∀ i < 32, tget 0#8 h.mem (memKey st (32 * (x / 32) + i)) = tget 0#8 s.hbm.mem (memKey st (32 * (x / 32) + i))) :
    State.plainByte { s with hbm := h } st x = s.plainByte st x := by
  have hacc : State.accBytes { s with hbm := h } st (s.mixOf st (unitOf x)) (x / 32) = s.accBytes st (s.mixOf st (unitOf x)) (x / 32) := by
    have hraw : (List.range 32).map (fun i => tget 0#8 h.mem (memKey st (32 * (x / 32) + i))) =
        (List.range 32).map (fun i => tget 0#8 s.hbm.mem (memKey st (32 * (x / 32) + i))) :=
      List.map_congr_left fun i hi => hmem i (List.mem_range.mp hi)
    simp only [State.accBytes, hraw, hmixed]
    rfl
  rw [State.plainByte_eq_access, State.plainByte_eq_access]
  exact congrArg (·.getD (x % 32) 0#8) hacc

/-! ### The change of an access's mix (R336) -/

section
variable (s : State) (st a : Nat)

/-- An access that stands under the mix of its unit is left; any other is stored anew, as that mix shows it. -/
theorem State.adopt_cases : (tget 0 s.hbm.mixed (accKey st a) = s.mixOf st (unitOf (32 * a)) ∧ s.adopt st a = s) ∨
    s.adopt st a = { s with
      hbm.mem := putBytes s.hbm.mem (memKey st (32 * a)) (s.accBytes st (s.mixOf st (unitOf (32 * a))) a)
      hbm.mixed := tput 0 s.hbm.mixed (accKey st a) (s.mixOf st (unitOf (32 * a))) } := by
  by_cases h : tget 0 s.hbm.mixed (accKey st a) = s.mixOf st (unitOf (32 * a))
  · exact .inl ⟨h, if_pos h⟩
  · exact .inr (if_neg h)

@[simp] theorem State.adopt_mixOf (st' u : Nat) : (s.adopt st a).mixOf st' u = s.mixOf st' u := by
  obtain ⟨-, h⟩ | h := s.adopt_cases st a <;> rw [h]
  rfl

theorem State.adopt_wf_mem (h : Memory.wf s.hbm.mem = true) : Memory.wf (s.adopt st a).hbm.mem = true := by
  obtain ⟨-, heq⟩ | heq := s.adopt_cases st a <;> rw [heq]
  · exact h
  · exact Memory.wf_putBytes h _ _

theorem State.adopt_wf_mixed (h : Tbl.wf (fun _ => 0) s.hbm.mixed = true) : Tbl.wf (fun _ => 0) (s.adopt st a).hbm.mixed = true := by
  obtain ⟨-, heq⟩ | heq := s.adopt_cases st a <;> rw [heq]
  · exact h
  · exact Tbl.wf_tput (fun _ => 0) _ _ _ h

/-- From now on the access is stored under the mix of its unit. -/
theorem State.adopt_mixed_same (h : Tbl.wf (fun _ => 0) s.hbm.mixed = true) :
    tget 0 (s.adopt st a).hbm.mixed (accKey st a) = s.mixOf st (unitOf (32 * a)) := by
  obtain ⟨hmix, heq⟩ | heq := s.adopt_cases st a <;> rw [heq]
  · exact hmix
  · exact tget_tput_same (fun _ => 0) _ _ _ h

theorem State.adopt_mixed_other (h : Tbl.wf (fun _ => 0) s.hbm.mixed = true) {k : Nat} (hk : k ≠ accKey st a) :
    tget 0 (s.adopt st a).hbm.mixed k = tget 0 s.hbm.mixed k := by
  obtain ⟨-, heq⟩ | heq := s.adopt_cases st a <;> rw [heq]
  exact tget_tput_other (fun _ => 0) _ _ _ _ _ _ hk h

variable {s st a}

/-- What the access reads as does not change. -/
theorem State.adopt_plainByte_same (hmem : Memory.wf s.hbm.mem = true) (hmixed : Tbl.wf (fun _ => 0) s.hbm.mixed = true) (x : Nat) :
    (s.adopt st (x / 32)).plainByte st x = s.plainByte st x := by
  have hnow := s.adopt_mixed_same st (x / 32) hmixed
  rw [unitOf_access] at hnow
  rw [State.plainByte_unmixed (by rw [hnow, State.adopt_mixOf])]
  obtain ⟨hmix, heq⟩ | heq := s.adopt_cases st (x / 32) <;> rw [heq]
  · rw [unitOf_access] at hmix
    exact (State.plainByte_unmixed hmix).symm
  · rw [unitOf_access]
    have hlow : x % 32 < (s.accBytes st (s.mixOf st (unitOf x)) (x / 32)).length := by
      rw [State.length_accBytes]
      exact Nat.mod_lt _ (by decide)
    have hkey : memKey st x = memKey st (32 * (x / 32)) + x % 32 := by
      unfold memKey
      omega
    rw [hkey, tget_putBytes_inside hmem hlow, State.plainByte_eq_access, List.getD_eq_getElem _ _ hlow]

/-- What any other access reads as does not change. -/
theorem State.adopt_plainByte_other (hmem : Memory.wf s.hbm.mem = true) (hmixed : Tbl.wf (fun _ => 0) s.hbm.mixed = true) {st' x : Nat}
    (ha : 32 * a < 0x600000000) (hx : x < 0x600000000) (hne : st' ≠ st ∨ x / 32 ≠ a) : (s.adopt st a).plainByte st' x = s.plainByte st' x := by
  obtain ⟨-, heq⟩ | heq := s.adopt_cases st a <;> rw [heq]
  apply State.plainByte_congr
  · exact tget_tput_other (fun _ => 0) _ _ _ _ _ _ (accKey_ne (by omega) (by omega) hne) hmixed
  · intro i hi
    refine tget_putBytes_outside hmem ?_
    rw [State.length_accBytes]
    exact memKey_outside (by omega) (by omega) (by omega)

theorem State.adopt_plainByte (hmem : Memory.wf s.hbm.mem = true) (hmixed : Tbl.wf (fun _ => 0) s.hbm.mixed = true) {st' x : Nat}
    (ha : 32 * a < 0x600000000) (hx : x < 0x600000000) : (s.adopt st a).plainByte st' x = s.plainByte st' x := by
  by_cases h : st' = st ∧ x / 32 = a
  · obtain ⟨rfl, rfl⟩ := h
    exact State.adopt_plainByte_same hmem hmixed x
  · exact State.adopt_plainByte_other hmem hmixed ha hx (not_and_or.mp h)

end

/-! ### Writes (R307) -/

/-- The accesses that `n` bytes from `l` on touch take the mix of their units. -/
def State.adoptRange (s : State) (st l n : Nat) : State := iter ((l % 32 + n + 31) / 32) (fun i u => u.adopt st (l / 32 + i)) s

theorem State.adoptRange_mixOf (s : State) (st l n st' u : Nat) : (s.adoptRange st l n).mixOf st' u = s.mixOf st' u :=
  iter_keeps (fun u' => u'.mixOf st' u) _ _ (fun i u' => u'.adopt_mixOf st (l / 32 + i) st' u) s

/-- A write changes the stacks alone. -/
theorem State.hwrite_frame (s : State) (st l : Nat) (data : List Byte) :
    s.hwrite st l data = { s.adoptRange st l data.length with hbm := (s.hwrite st l data).hbm } := (rfl)

/-- A write stores its bytes after the accesses that it touches have taken the mix of their units. -/
theorem State.hwrite_mem (s : State) (st l : Nat) (data : List Byte) :
    (s.hwrite st l data).hbm.mem = putBytes (s.adoptRange st l data.length).hbm.mem (memKey st l) data := (rfl)

theorem State.hwrite_mixed (s : State) (st l : Nat) (data : List Byte) :
    (s.hwrite st l data).hbm.mixed = (s.adoptRange st l data.length).hbm.mixed := (rfl)

theorem State.hwrite_mixOf (s : State) (st l : Nat) (data : List Byte) (st' u : Nat) : (s.hwrite st l data).mixOf st' u = s.mixOf st' u :=
  s.adoptRange_mixOf st l data.length st' u

theorem State.adoptRange_wf_mem {s : State} (h : Memory.wf s.hbm.mem = true) (st l n : Nat) : Memory.wf (s.adoptRange st l n).hbm.mem = true :=
  iter_induction (fun _ (u : State) => Memory.wf u.hbm.mem = true) _ h (fun i u _ hu => u.adopt_wf_mem st (l / 32 + i) hu)

/-- A write keeps the canonical form of the contents. -/
theorem State.hwrite_wf_mem {s : State} (h : Memory.wf s.hbm.mem = true) (st l : Nat) (data : List Byte) :
    Memory.wf (s.hwrite st l data).hbm.mem = true := by
  rw [State.hwrite_mem]
  exact Memory.wf_putBytes (State.adoptRange_wf_mem h st l data.length) _ _

section
variable {s : State} (hmem : Memory.wf s.hbm.mem = true) (hmixed : Tbl.wf (fun _ => 0) s.hbm.mixed = true)
include hmixed

theorem State.adoptRange_mixed {st l n x : Nat} (hlo : l / 32 ≤ x / 32) (hhi : x / 32 < l / 32 + (l % 32 + n + 31) / 32) :
    tget 0 (s.adoptRange st l n).hbm.mixed (accKey st (x / 32)) = s.mixOf st (unitOf x) := by
  have hdone := iter_induction (s := s) (f := fun i u => u.adopt st (l / 32 + i))
    (fun i u => Tbl.wf (fun _ => 0) u.hbm.mixed = true ∧ (∀ v, u.mixOf st v = s.mixOf st v) ∧
      (x / 32 < l / 32 + i → tget 0 u.hbm.mixed (accKey st (x / 32)) = s.mixOf st (unitOf x)))
    ((l % 32 + n + 31) / 32) ⟨hmixed, fun _ => rfl, fun h => absurd hlo (by omega)⟩ ?_
  · exact hdone.2.2 hhi
  · rintro i u - ⟨hwf, hmix, hbefore⟩
    refine ⟨u.adopt_wf_mixed _ _ hwf, fun v => by rw [State.adopt_mixOf, hmix], fun hlt => ?_⟩
    by_cases heq : x / 32 = l / 32 + i
    · rw [← heq, u.adopt_mixed_same _ _ hwf, unitOf_access, hmix]
    · rw [u.adopt_mixed_other _ _ hwf (by unfold accKey; omega), hbefore (by omega)]

include hmem

/-- Taking the mix of their units changes nothing that the accesses read as. -/
theorem State.adoptRange_plainByte {st l n st' x : Nat} (hend : l + n ≤ 0x600000000) (hx : x < 0x600000000) :
    (s.adoptRange st l n).plainByte st' x = s.plainByte st' x := by
  have hkept := iter_induction (s := s) (f := fun i u => u.adopt st (l / 32 + i))
    (fun _ u => Memory.wf u.hbm.mem = true ∧ Tbl.wf (fun _ => 0) u.hbm.mixed = true ∧ u.plainByte st' x = s.plainByte st' x)
    ((l % 32 + n + 31) / 32) ⟨hmem, hmixed, rfl⟩ ?_
  · exact hkept.2.2
  · rintro i u hi ⟨hwf, hwf', hplain⟩
    exact ⟨u.adopt_wf_mem _ _ hwf, u.adopt_wf_mixed _ _ hwf', (State.adopt_plainByte hwf hwf' (by omega) hx).trans hplain⟩

/-- A byte written reads as the byte stored. -/
theorem State.hwrite_plainByte_inside {st l i : Nat} {data : List Byte} (hi : i < data.length) :
    (s.hwrite st l data).plainByte st (l + i) = data[i] := by
  have hmix := State.adoptRange_mixed hmixed (st := st) (l := l) (n := data.length) (x := l + i) (by omega) (by omega)
  have hkey : memKey st (l + i) = memKey st l + i := (Nat.add_assoc _ _ _).symm
  rw [State.plainByte_unmixed (by rw [State.hwrite_mixed, State.hwrite_mixOf, hmix]), State.hwrite_mem, hkey]
  exact tget_putBytes_inside (State.adoptRange_wf_mem hmem st l data.length) hi

/-- A byte outside a write reads as before. -/
theorem State.hwrite_plainByte_outside {st l st' x : Nat} {data : List Byte} (hend : l + data.length ≤ 0x600000000) (hx : x < 0x600000000)
    (hout : st' ≠ st ∨ x < l ∨ l + data.length ≤ x) : (s.hwrite st l data).plainByte st' x = s.plainByte st' x := by
  have hwf := State.adoptRange_wf_mem hmem st l data.length
  rw [← State.adoptRange_plainByte hmem hmixed (st := st) (st' := st') hend hx]
  by_cases htouch : st' = st ∧ l / 32 ≤ x / 32 ∧ x / 32 < l / 32 + (l % 32 + data.length + 31) / 32
  · obtain ⟨rfl, hlo, hhi⟩ := htouch
    have hmix := State.adoptRange_mixed hmixed (st := st') hlo hhi
    rw [State.plainByte_unmixed (by rw [State.hwrite_mixed, State.hwrite_mixOf, hmix]),
      State.plainByte_unmixed (by rw [State.adoptRange_mixOf, hmix]), State.hwrite_mem]
    exact tget_putBytes_outside hwf (memKey_outside hend hx hout)
  · rw [State.hwrite_frame]
    refine State.plainByte_congr (by rw [State.hwrite_mixed]) fun i hi => ?_
    rw [State.hwrite_mem]
    exact tget_putBytes_outside hwf (memKey_outside hend (by omega) (by omega))

/-- What a write stored is read back. -/
theorem State.hread_hwrite (st l : Nat) (data : List Byte) : (s.hwrite st l data).hread st l data.length = data := by
  rw [State.hread_eq]
  refine List.ext_getElem (by simp) fun i hi _ => ?_
  have hlen : i < data.length := by simpa using hi
  rw [List.getElem_map, List.getElem_range, State.hwrite_plainByte_inside hmem hmixed hlen]

theorem State.hread_hwrite_leBytes (st l n v : Nat) : (s.hwrite st l (leBytes n v)).hread st l n = leBytes n v := by
  have h := State.hread_hwrite hmem hmixed st l (leBytes n v)
  rwa [length_leBytes] at h

end

/-! ### Atomics (R170, R307) -/

theorem State.hperform_fetchAdd (s : State) (st l : Nat) (data : List Byte) :
    s.hperform st l 8 .fetchAdd data = (s.hwrite st l (leBytes 8 ((leNat (s.hread st l 8) + leAt data 0 8) % 2 ^ 64)), s.hread st l 8) := (rfl)

/-- A COMPARE_SWAP whose comparison fails writes the old value again. -/
theorem State.hperform_compareSwap_differs {s : State} {st l : Nat} {data : List Byte} (h : leNat (s.hread st l 8) ≠ leAt data 0 8) :
    s.hperform st l 8 .compareSwap data = (s.hwrite st l (s.hread st l 8), s.hread st l 8) := by
  have hold : leBytes 8 (leNat (s.hread st l 8)) = s.hread st l 8 := by
    have hbytes := leBytes_leNat (s.hread st l 8)
    rwa [State.length_hread] at hbytes
  simp only [State.hperform, atomicNew, if_neg h, hold]

/-- Settles O10: a byte is stored under the mix of its unit once its access is touched, and a change of mix keeps what the bytes around it read as;
an atomic is a read and a write of 8 bytes. -/
theorem memoryReadsBack : Obligations.MemoryReadsBack := by
  unfold Obligations.MemoryReadsBack
  refine ⟨fun s st l data hmem hmixed => State.hread_hwrite hmem hmixed st l data, ?outside, fun s st l data hmem => State.hwrite_wf_mem hmem st l data,
    ?fetchAdd, ?compareSwap⟩
  case outside =>
    intro s st l st' l' data hmem hmixed hend hl' hout
    rw [State.hread_eq, State.hread_eq, List.range_one, List.map_singleton, List.map_singleton, Nat.add_zero,
      State.hwrite_plainByte_outside hmem hmixed hend hl' hout]
  case fetchAdd =>
    intro s st l data hmem hmixed
    rw [State.hperform_fetchAdd, State.hread_hwrite_leBytes hmem hmixed]
    exact ⟨rfl, leNat_leBytes_of_lt (Nat.mod_lt _ (by decide))⟩
  case compareSwap =>
    intro s st l data hmem hmixed hne
    have hread := State.hread_hwrite hmem hmixed st l (s.hread st l 8)
    rw [State.length_hread] at hread
    rw [State.hperform_compareSwap_differs hne, hread]

end Sys2Proof.Machine

/-! SUPPORT. The router (07 R162–R164, R168, R172, R174, R181, R186–R189): what becomes of a flit that arrives, the flit that an output grants, credits,
and the settings that an output takes. -/

namespace Sys2Proof.Machine

theorem State.setRouter_setRouter (s : State) (t : Nat) (r r' : Router) (w : Tbl.wf (fun _ => Router.init) s.net.routers = true) :
    (s.setRouter t r).setRouter t r' = s.setRouter t r' :=
  congrArg (fun l => ({ s with net.routers := l } : State)) (tput_tput (fun _ => Router.init) s.net.routers t r r' w)

/-! ### Arrival (R163, R172, R181) -/

section
variable {t : Tile} {p : Fin 15} {f : BitVec 288} {s : State}

/-- A flit over a seam comes in a unit, and one without space waits at its endpoint. -/
theorem exec_flitArrival_ignored (h : (seamBundle t p).isSome = true ∨ (8 ≤ p.val ∧ s.hasSpace t p f.toNat = false)) :
    exec (.flitArrival t p f) s = .next s :=
  congrArg Host.Outcome.next (if_pos (by simpa using h))

theorem exec_flitArrival_taken (hseam : seamBundle t p = none) (hspace : 8 ≤ p.val → s.hasSpace t p f.toNat = true) :
    exec (.flitArrival t p f) s = .next ((s.popArriving t p f.toNat).flitIn t p f.toNat) :=
  congrArg Host.Outcome.next (if_neg (by simpa [hseam] using hspace))

end

section
variable {s : State} {t p f : Nat} (hpresent : bitAt (s.portsPresent t) p = true)
include hpresent

theorem State.flitIn_shut (hshut : bitAt (s.router t).shut p = true) :
    s.flitIn t p f = State.freeCredit (s.setRouter t { s.router t with lost := (s.router t).lost + 1 }) t (8 * p + flitVc f) := by
  rw [State.flitIn, hpresent, if_neg (by decide), if_pos hshut]

variable (hopen : bitAt (s.router t).shut p = false)
include hopen

theorem State.flitIn_bad (hseam : seamBundle t p = none)
    (hbad : (checkFlit (fun v => decide (tget 0 (s.router t).cur (8 * p + v) ≠ 0)) f).1 = .bad) : s.flitIn t p f = s.inputFault t p := by
  simp only [State.flitIn, hpresent, hopen, hbad, hseam, Bool.not_true, Bool.false_eq_true, if_false, if_true, Option.isSome_none]

variable (hclean : checkFlit (fun v => decide (tget 0 (s.router t).cur (8 * p + v) ≠ 0)) f = (.clean, f))
include hclean

/-- A head flit with a usable output waits for it; unless it is the whole packet, the flits that follow it go the same way. -/
theorem State.flitIn_head (hhead : flitHead f = true) (hout : (s.routeHead t p f).1 ≠ 15) :
    s.flitIn t p f = s.setRouter t (Router.put { s.router t with
      cur := tput 0 (s.router t).cur (8 * p + flitVc f) (if flitTail (s.routeHead t p f).2 then 0 else (s.routeHead t p f).1 + 1) } p (flitVc f)
      (withCheck (s.routeHead t p f).2) (s.routeHead t p f).1) := by
  simp only [State.flitIn, hpresent, hopen, hclean, hhead, hout, Bool.not_true, Bool.false_eq_true, if_false, if_true, reduceCtorEq]

/-- A flit between the first and the last of its packet follows the head. -/
theorem State.flitIn_middle {o : Nat} (hhead : flitHead f = false) (htail : flitTail f = false)
    (hcur : tget 0 (s.router t).cur (8 * p + flitVc f) = o + 1) (hout : o ≠ 15) :
    s.flitIn t p f = s.setRouter t ((s.router t).put p (flitVc f) f o) := by
  have hkept : ¬ o + 1 = 16 := by omega
  simp only [State.flitIn, hpresent, hopen, hclean, hhead, htail, hcur, hkept, Bool.not_true, Bool.false_eq_true, if_false, reduceCtorEq,
    Nat.succ_ne_zero, Nat.add_sub_cancel]

end

/-! ### Granting (R164) -/

theorem filterMap_range_unique {β : Type} {g : Nat → Option β} {n k : Nat} {y : β} (hk : k < n) (hg : g k = some y)
    (hother : ∀ x < n, x ≠ k → g x = none) : (List.range n).filterMap g = [y] := by
  obtain ⟨m, rfl⟩ := Nat.exists_eq_add_of_lt hk
  have hbelow : (List.range k).filterMap g = [] :=
    List.filterMap_eq_nil_iff.2 fun x hx => hother x (by have := List.mem_range.1 hx; omega) (List.mem_range.1 hx).ne
  have habove : ((List.range m).map (fun i => k + 1 + i)).filterMap g = [] := by
    refine List.filterMap_eq_nil_iff.2 fun x hx => ?_
    obtain ⟨i, hi, rfl⟩ := List.mem_map.1 hx
    have := List.mem_range.1 hi
    exact hother _ (by omega) (by omega)
  rw [Nat.add_right_comm, List.range_add, List.range_succ, List.filterMap_append, List.filterMap_append, hbelow, habove]
  simp [hg]

/-- The router after output `out` has granted the flit `f` at the front of input key `k`, on virtual channel `v`; `w` are the weights that are left of
the round. -/
def Router.granted (r : Router) (out k v : Nat) (f : Flit) (rest : List Flit) (w : List (Nat × Nat)) : Router :=
  { r with
    bufs := tput [] r.bufs k rest
    rr := tput 0 r.rr (4 * out + v / 2) ((k / 8 + 1) % 16)
    wrr := w.foldl (fun a p => tput 0 a (4 * out + p.1) p.2) r.wrr
    holder := tput 0 r.holder (8 * out + v) (if flitTail f.raw.toNat then 0 else k + 1)
    used := if 8 ≤ out then r.used else tput 0 r.used (8 * out + v) (tget 0 r.used (8 * out + v) + 1) }

theorem State.absorbStale_on {s : State} {t out : Nat} (hon : s.portOn t out = true) : s.absorbStale t out = s := if_pos hon

theorem rrPick_only (last k : Nat) : rrPick last [k] = some k := by
  by_cases h : last ≤ k / 8 <;> simp [rrPick, h]

/-- The only flit that can go to an output is granted, whatever its class. -/
theorem State.grant_only {s : State} {t out k v : Nat} {f : Flit} {rest : List Flit} {w : List (Nat × Nat)} (hon : s.portOn t out = true) (hk : k < 128)
    (hgrant : s.grantable t out k = some v) (hother : ∀ x < 128, x ≠ k → s.grantable t out x = none) (hbuf : tget [] (s.router t).bufs k = f :: rest)
    (hpick : s.pickClass t out [v / 2] = some (v / 2, w)) :
    s.grant t out = State.sendFlit (State.freeCredit (s.setRouter t ((s.router t).granted out k v f rest w)) t k) t out v
      (withCheck (setBits f.raw.toNat 285 283 v)) := by
  have hcands : (List.range 128).filterMap (fun x => (s.grantable t out x).map (fun y => (x, y))) = [(k, v)] :=
    filterMap_range_unique hk (by rw [hgrant]; rfl) (fun x hx hne => by rw [hother x hx hne]; rfl)
  simp only [State.grant, State.absorbStale_on hon, hcands, List.map_cons, List.map_nil, hpick, List.filter_cons, List.filter_nil, decide_true, if_true,
    rrPick_only, List.find?_cons, hbuf]
  rfl

/-- A class other than control, with weight left, is served and its weight falls. -/
theorem State.pickClass_weighted {s : State} {t out c n : Nat} (hc : c < 3) (hleft : tget 0 (s.router t).wrr (4 * out + c) = n + 1) :
    s.pickClass t out [c] = some (c, [(c, n)]) := by
  have horder : ([0, 2, 1] : List Nat).filter [c].contains = [c] := by
    interval_cases c <;> rfl
  have hctl : ([c].contains 3) = false := by
    interval_cases c <;> rfl
  simp only [State.pickClass, hctl, horder, hleft, Bool.false_eq_true, if_false, List.find?_cons, Nat.succ_pos, decide_true, Nat.add_sub_cancel]

/-! ### Credits (R163) -/

theorem exec_creditReturn_none {t : Tile} {p v : Fin 8} {s : State} (h : tget 0 (s.router t).credit (8 * p + v) = 0) :
    exec (.creditReturn t p v) s = .next s :=
  congrArg Host.Outcome.next (if_pos h)

theorem exec_creditReturn_taken {t : Tile} {p v : Fin 8} {s : State} {n : Nat} (h : tget 0 (s.router t).credit (8 * p + v) = n + 1)
    (hwf : Tbl.wf (fun _ => Router.init) s.net.routers = true) :
    exec (.creditReturn t p v) s = .next (s.setRouter t { s.router t with
      credit := tput 0 (s.router t).credit (8 * p + v) n
      used := tput 0 (s.router t).used (8 * p + v) (tget 0 (s.router t).used (8 * p + v) - 1) }) := by
  have hnow : exec (.creditReturn t p v) s =
      .next ((s.setRouter t { s.router t with credit := tput 0 (s.router t).credit (8 * p + v) (n + 1 - 1) }).creditIn t p v) := by
    rw [← h]
    exact congrArg Host.Outcome.next (if_neg (by rw [h]; exact Nat.succ_ne_zero n))
  rw [hnow, State.creditIn, State.router_setRouter _ _ _ hwf, State.setRouter_setRouter _ _ _ _ hwf, Nat.add_sub_cancel]

/-- A table filled over a run of keys holds at each of them what was put there. -/
theorem tget_iter_tput {α : Type} [DecidableEq α] {e : α} {t : Tbl α} (hwf : Tbl.wf (fun _ => e) t = true) (g : Nat → α) (b : Nat) {n i : Nat}
    (hi : i < n) : tget e (iter n (fun v a => tput e a (b + v) (g v)) t) (b + i) = g i := by
  refine (iter_induction (s := t) (f := fun v a => tput e a (b + v) (g v))
    (fun j a => Tbl.wf (fun _ => e) a = true ∧ (i < j → tget e a (b + i) = g i)) n ⟨hwf, fun h => absurd h (Nat.not_lt_zero i)⟩ ?_).2 hi
  rintro j a - ⟨ha, hbefore⟩
  refine ⟨Tbl.wf_tput (fun _ => e) a (b + j) (g j) ha, fun hlt => ?_⟩
  by_cases hij : i = j
  · rw [hij]
    exact tget_tput_same (fun _ => e) a (b + j) (g j) ha
  · rw [tget_tput_other (fun _ => e) e e a _ _ _ (by omega) ha]
    exact hbefore (by omega)

/-- A link channel at rest has its credits taken by what the far input holds, and by those on their way back. -/
theorem State.resync_used {s : State} {t p v : Nat} (hv : v < 8) (hwf : Tbl.wf (fun _ => Router.init) s.net.routers = true)
    (hused : Tbl.wf (fun _ => 0) (s.router t).used = true) :
    tget 0 ((s.resync t p).router t).used (8 * p + v) =
      ((s.router (neighbor t (p % 4))).q (farPort p) v).length + tget 0 (s.router t).credit (8 * p + v) := by
  rw [State.resync, State.router_setRouter _ _ _ hwf]
  exact tget_iter_tput hused (fun v => ((s.router (neighbor t (p % 4))).q (farPort p) v).length + tget 0 (s.router t).credit (8 * p + v)) (8 * p) hv

/-! ### Settings (R82, R186, R188) -/

theorem State.takeReq_portsPresent (s : State) (r : Req) (t : Nat) : (s.takeReq r).portsPresent t = s.portsPresent t := (rfl)

theorem State.takeReq_router (s : State) (r : Req) (t : Nat) : (s.takeReq r).router t = s.router t := (rfl)

theorem exec_rtrApply_granted {r : Req} {s : State} {t v : Nat} (h : s.grantsWrite r .rtrApply t 0 v) :
    exec (.rtrApply r) s = .next (State.respond (State.setF ((s.takeReq r).setRouter t { s.router t with
      applying := (s.router t).applying ||| (v % 2 ^ 15 &&& s.portsPresent t) }) F.rtrStatus_pending t 0
        ((s.router t).applying ||| (v % 2 ^ 15 &&& s.portsPresent t))) r svcOK []) := by
  have hrow : exec (.rtrApply r) s = .next (State.respond ((s.takeReq r).rtrApply t v) r svcOK []) := regRow_tile h rfl rfl
  rw [hrow, State.rtrApply, State.takeReq_portsPresent, State.takeReq_router]

theorem exec_applyComplete_idle {t : Tile} {p : Fin 15} {s : State} (hpending : bitAt (s.router t).applying p = true)
    (hidle : (s.router t).idleOut p = true) : exec (.applyComplete t p) s = .next (s.takeShadow t p).resetsGo :=
  congrArg Host.Outcome.next (if_pos ⟨hpending, hidle⟩)

theorem exec_applyCut_pending {t : Tile} {p : Fin 15} {s : State} (hpending : bitAt (s.router t).applying p = true) :
    exec (.applyCut t p) s =
      .next ((if s.shadowOn t p = true ∨ (s.router t).idleOut p = true then s else s.endOutput t p).takeShadow t p).resetsGo := by
  change Host.Outcome.next (if _ then _ else s) = _
  simp only [hpending, if_true, Bool.or_eq_true]

theorem exec_linkDisable_avoided {t : Tile} {dir : Fin 4} {s : State} (hrun : s.maltarRuns = true)
    (havoid : s.net.avoid.contains (linkId t dir) = true) (hold : s.noOld (linkId t dir) = true) :
    exec (.linkDisable t dir false) s = .next (s.disableLink (linkId t dir)) := by
  have hin : (s.net.avoid ++ s.net.named).contains (linkId t dir) = true := by
    rw [List.contains_iff_mem] at havoid ⊢
    exact List.mem_append_left _ havoid
  exact congrArg Host.Outcome.next (if_pos ⟨hrun, hin, hold⟩)

/-- Settles O21: an arriving flit meets the tests of its port, its check and its form in their order; a grant is that of the only flit that can go; the
other rows are one change of a router each. -/
theorem routerCommands : Obligations.RouterCommands := by
  unfold Obligations.RouterCommands
  refine ⟨fun t p f s h => exec_flitArrival_ignored h, ?shut, ?bad, ?head, ?middle, ?control, ?weighted, fun t p v s h => exec_creditReturn_none h,
    fun t p v s n h hwf => exec_creditReturn_taken h hwf, fun r s t v h => exec_rtrApply_granted h,
    fun t p s hpending hidle => exec_applyComplete_idle hpending hidle, fun t p s hpending => exec_applyCut_pending hpending,
    fun t dir s hrun havoid hold => exec_linkDisable_avoided hrun havoid hold, fun t r s hr => s.router_setRouter_ne t r hr,
    fun t p v s _ hv hwf hused _ => State.resync_used hv hwf hused⟩
  case shut =>
    rintro t p f s u hseam hspace rfl hpresent hshut
    rw [exec_flitArrival_taken hseam hspace, State.flitIn_shut hpresent hshut]
  case bad =>
    rintro t p f s u hseam hspace rfl hpresent hopen hbad
    rw [exec_flitArrival_taken hseam hspace, State.flitIn_bad hpresent hopen hseam hbad]
  case head =>
    rintro t p f s u hseam hspace rfl hpresent hopen hclean hhead hout
    rw [exec_flitArrival_taken hseam hspace, State.flitIn_head hpresent hopen hclean hhead hout]
  case middle =>
    rintro t p f s u o hseam hspace rfl hpresent hopen hclean hhead htail hcur hout
    rw [exec_flitArrival_taken hseam hspace, State.flitIn_middle hpresent hopen hclean hhead htail hcur hout]
  case control =>
    intro t out s k v f rest hon hk hgrant hother hbuf hclass
    have hgranted := State.grant_only (w := []) hon hk hgrant hother hbuf (by rw [hclass]; rfl)
    simp only [Router.granted, hclass, List.foldl_nil] at hgranted
    exact congrArg Host.Outcome.next hgranted
  case weighted =>
    intro t out s k v n f rest hon hk hgrant hother hbuf hclass hleft
    have hgranted := State.grant_only hon hk hgrant hother hbuf (State.pickClass_weighted hclass hleft)
    simp only [Router.granted, List.foldl_cons, List.foldl_nil] at hgranted
    exact congrArg Host.Outcome.next hgranted

end Sys2Proof.Machine

/-! SUPPORT. The instructions of a signal engine's datapath (09 R215, R216, R222–R232; 10 R236–R243, R259): the plan that each row issues, made from the
engine after the end check, written as the reads of its operands and the writes that it sets in flight. -/

namespace Sys2Proof.Machine

/-! ### Issue of a plan -/

@[simp] theorem Engine.endCheck_run (e : Engine) : e.endCheck.run = e.run := by
  unfold Engine.endCheck
  split
  · dsimp only
    split <;> rfl
  · rfl

theorem Engine.ne_init_of_run {e : Engine} (h : e.run ≠ .stopped) : e ≠ Engine.init := by
  rintro rfl
  exact h rfl

section
variable {s : State} {t w : Nat} {c : Bool} {op : EOp} {sel : EOp → Option (State → Plan)} (h : s.issues t w c op)
include h

/-- An engine that issues is running. -/
theorem State.issues.running : (s.engine t).run = .running := by
  obtain ⟨_, hcan, _⟩ := h
  simp only [State.canIssue, Bool.and_eq_true, decide_eq_true_eq] at hcan
  tauto

/-- The plan is made from the engine after the end check. -/
theorem State.engine_setEngine_endCheck : (s.setEngine t (s.engine t).endCheck).engine t = (s.engine t).endCheck :=
  State.engine_setEngine_ne s t _ (Engine.ne_init_of_run (by rw [Engine.endCheck_run, h.running]; decide))

theorem issueOp_faults {k : State → Plan} {cause : Nat} (hs : sel op = some k) (hp : k (s.setEngine t (s.engine t).endCheck) = Plan.bad cause)
    (hcause : cause ≠ 0) : s.issueOp t sel = s.engFault t cause := by
  rw [issueOp_issues h hs, hp]
  exact if_pos hcause

/-- A plan with effects beyond the pipeline is issued when its operands are clean. -/
theorem issueOp_plan {plan : Engine → Plan} {p : Plan} (hs : sel op = some fun s => plan (s.engine t)) (hp : plan (s.engine t).endCheck = p)
    (hfault : p.fault = 0) (hhold : p.hold = false) (hclean : p.fx.clean = true) : s.issueOp t sel = s.engIssue t c w p :=
  issueOp_plain h hs (by rw [State.engine_setEngine_endCheck h, hp]) hfault hhold hclean

/-- An instruction that reads operands with `f`, all clean, and sets the writes `ws` in flight. -/
theorem issueOp_issued {fx : Engine → Fx} {f : Fx} {ws : List PWrite} (hs : sel op = some fun s => Plan.of (fx (s.engine t)))
    (hfx : fx (s.engine t).endCheck = ⟨f.ws ++ ws, f.rds⟩) (hclean : f.clean = true) : s.issueOp t sel = s.issued t w c f ws :=
  issueOp_plan (plan := fun e => Plan.of (fx e)) h hs (congrArg Plan.of hfx) rfl rfl hclean

/-- An instruction whose operand reads found poison faults, and writes nothing (R219). -/
theorem issueOp_poisoned {fx : Engine → Fx} {f : Fx} {ws : List PWrite} (hs : sel op = some fun s => Plan.of (fx (s.engine t)))
    (hfx : fx (s.engine t).endCheck = ⟨f.ws ++ ws, f.rds⟩) (hbad : f.clean = false) : s.issueOp t sel = (s.noteReads t f.rds).engFault t 1 := by
  simp only [Fx.clean, Bool.not_eq_false'] at hbad
  rw [issueOp_issues h hs]
  simp [State.engine_setEngine_endCheck h, hfx, Plan.of, hbad]

end

@[simp] theorem Fx.and_writes (f : Fx) (ws : List PWrite) : f.and ⟨ws, []⟩ = ⟨f.ws ++ ws, f.rds⟩ := by simp [Fx.and]

/-! ### The multiply group (R239) -/

/-- The plan of a multiply that reads its operands with `f` and sets the accumulator and the flags to `v`. -/
def mulIssue (a : Bool) (src : MSrc) (f : Fx) (v : Nat × StW) (e : Engine) : Plan :=
  { Plan.of ⟨f.ws ++ [e.wr (rAC a) (2 ^ 40 - 1) v.1 (e.now + 5), e.wrSt v.2 (e.now + 5)], f.rds⟩ with
    prog := match src with | .yp _ _ _ => true | _ => false }

section
variable {e : Engine} {src : MSrc} {x y : Nat} {f : Fx} (hops : e.mulOperands e.now src = (x, y, f)) (a : Bool) {sign exact : Int}
  (hexact : (if sign = 0 then product (stFRAC (e.rd rST (e.now + 4))) x y
    else sgn 40 (e.rd (rAC a) (e.now + 5)) + sign * product (stFRAC (e.rd rST (e.now + 4))) x y) = exact)
include hops hexact

theorem planMul_plain : planMul a src sign false e = mulIssue a src f (accResult (stSATA (e.rd rST (e.now + 5))) a exact 0) e := by
  subst hexact
  simp only [planMul, hops, Fx.and_writes]
  rfl

theorem planMul_rounded : planMul a src sign true e = mulIssue a src f
    (accRound (stSATA (e.rd rST (e.now + 5))) a (bits (e.rd rST (e.now + 5)) 13 12)
      (accResult (stSATA (e.rd rST (e.now + 5))) a exact 0).1 (accResult (stSATA (e.rd rST (e.now + 5))) a exact 0).2.sticky) e := by
  subst hexact
  simp only [planMul, hops, Fx.and_writes]
  rfl

end

theorem issueOp_mul {t : Tile} {w : Nat} {c a : Bool} {src : MSrc} {f : Fx} {v : Nat × StW} {s : State} {op : EOp} {sel : EOp → Option (State → Plan)}
    {plan : Engine → Plan} (h : s.issues t w c op) (hs : sel op = some fun s => plan (s.engine t))
    (hplan : plan (s.engine t).endCheck = mulIssue a src f v (s.engine t).endCheck) (hclean : f.clean = true) :
    s.issueOp t sel = s.engIssue t c w (mulIssue a src f v (s.engine t).endCheck) :=
  issueOp_plan h hs hplan rfl rfl hclean

/-- Settles O33: the exact result of each form is the product, alone or with the accumulator, and the R forms round what it gives. -/
theorem engineMultiplyGroup : Obligations.EngineMultiplyGroup := by
  unfold Obligations.EngineMultiplyGroup
  intro t w c a src x y f s hops hclean
  have hadd (u v : Int) : (if (1 : Int) = 0 then v else u + 1 * v) = u + v := by simp
  have hsub (u v : Int) : (if (-1 : Int) = 0 then v else u + -1 * v) = u - v := by simp [Int.sub_eq_add_neg]
  refine ⟨fun h => ?mpy, fun h => ?mac, fun h => ?msu, fun h => ?mpyr, fun h => ?macr, fun h => ?msur⟩
  case mpy => exact congrArg Host.Outcome.next (issueOp_mul (plan := planMul a src 0 false) h rfl (planMul_plain hops a (if_pos rfl)) hclean)
  case mac => exact congrArg Host.Outcome.next (issueOp_mul (plan := planMul a src 1 false) h rfl (planMul_plain hops a (hadd _ _)) hclean)
  case msu => exact congrArg Host.Outcome.next (issueOp_mul (plan := planMul a src (-1) false) h rfl (planMul_plain hops a (hsub _ _)) hclean)
  case mpyr => exact congrArg Host.Outcome.next (issueOp_mul (plan := planMul a src 0 true) h rfl (planMul_rounded hops a (if_pos rfl)) hclean)
  case macr => exact congrArg Host.Outcome.next (issueOp_mul (plan := planMul a src 1 true) h rfl (planMul_rounded hops a (hadd _ _)) hclean)
  case msur => exact congrArg Host.Outcome.next (issueOp_mul (plan := planMul a src (-1) true) h rfl (planMul_rounded hops a (hsub _ _)) hclean)

/-! ### The accumulator group (R240) -/

section
variable {t : Tile} {w : Nat} {c ad : Bool} {mv : Option PMove} {f : Fx} {s : State} {op : EOp} {sel : EOp → Option (State → Plan)}
  (h : s.issues t w c op) (hmove : (s.engine t).endCheck.pmove (s.engine t).endCheck.now mv = f) (hclean : f.clean = true)
include h hmove hclean

/-- An instruction with a parallel move, and the writes `ws` of its own. -/
theorem issueOp_moving (ws : Engine → List PWrite)
    (hs : sel op = some fun s => Plan.of (((s.engine t).pmove (s.engine t).now mv).and ⟨ws (s.engine t), []⟩)) :
    s.issueOp t sel = s.issued t w c f (ws (s.engine t).endCheck) := by
  refine issueOp_issued (fx := fun e => (e.pmove e.now mv).and ⟨ws e, []⟩) h hs ?_ hclean
  rw [Fx.and_writes, hmove]

/-- An accumulator operation with its exact result (R223, R240). -/
theorem issueOp_acc (exact : Engine → Int) (hs : sel op = some fun s => planAcc ad mv (exact (s.engine t)) (s.engine t)) :
    let e := (s.engine t).endCheck
    let v := accResult (stSATA (e.rd rST (e.now + 5))) ad (exact e) 0
    s.issueOp t sel = s.issued t w c f [e.wr (rAC ad) (2 ^ 40 - 1) v.1 (e.now + 5), e.wrSt v.2 (e.now + 5)] :=
  issueOp_moving h hmove hclean (fun e => [e.wr (rAC ad) (2 ^ 40 - 1) (accResult (stSATA (e.rd rST (e.now + 5))) ad (exact e) 0).1 (e.now + 5),
    e.wrSt (accResult (stSATA (e.rd rST (e.now + 5))) ad (exact e) 0).2 (e.now + 5)]) hs

end

/-- The writes of NORM: the shifted accumulator and its flags, and Dn by the headroom unless the accumulator is zero (R231). -/
def normWrites (ad : Bool) (dn : Fin 8) (e : Engine) : List PWrite :=
  let a := e.rd (rAC ad) (e.now + 5)
  [e.wr (rAC ad) (2 ^ 40 - 1) (normShift a) (e.now + 5), e.wrSt ⟨stZ + stN + stV, zn40 (normShift a)⟩ (e.now + 5)] ++
    (if a = 0 then [] else [e.wr dn 0xFFFF (unsgn 16 ((e.rd dn (e.now + 5) : Int) + headroom a)) (e.now + 5)])

theorem normWrites_nonzero {e : Engine} {ad : Bool} (dn : Fin 8) (h : e.rd (rAC ad) (e.now + 5) ≠ 0) : normWrites ad dn e =
    [e.wr (rAC ad) (2 ^ 40 - 1) (normShift (e.rd (rAC ad) (e.now + 5))) (e.now + 5),
     e.wrSt ⟨stZ + stN + stV, zn40 (normShift (e.rd (rAC ad) (e.now + 5)))⟩ (e.now + 5),
     e.wr dn 0xFFFF (unsgn 16 ((e.rd dn (e.now + 5) : Int) + headroom (e.rd (rAC ad) (e.now + 5)))) (e.now + 5)] :=
  congrArg (_ ++ ·) (if_neg h)

theorem normWrites_zero {e : Engine} {ad : Bool} (dn : Fin 8) (h : e.rd (rAC ad) (e.now + 5) = 0) : normWrites ad dn e =
    [e.wr (rAC ad) (2 ^ 40 - 1) 0 (e.now + 5), e.wrSt ⟨stZ + stN + stV, stZ⟩ (e.now + 5)] := by
  simp [normWrites, h, normShift, zn40, b2n, bitAt]

/-- The writes of RND (R224). -/
def rndWrites (ad as : Bool) (e : Engine) : List PWrite :=
  let v := accRound (stSATA (e.rd rST (e.now + 5))) ad (bits (e.rd rST (e.now + 5)) 13 12) (e.rd (rAC as) (e.now + 5)) 0
  [e.wr (rAC ad) (2 ^ 40 - 1) v.1 (e.now + 5), e.wrSt v.2 (e.now + 5)]

/-- Settles O34: each operation is a parallel move beside the writes of its accumulator, its flags, or its D register. -/
theorem engineAccumulatorGroup : Obligations.EngineAccumulatorGroup := by
  unfold Obligations.EngineAccumulatorGroup
  intro t w c ad as dn sh mv f s hmove hclean
  refine ⟨fun h => ?add, fun h => ?sub, fun h => ?addd, fun h => ?subd, fun h => ?neg, fun h => ?abs, fun h => ?clr, fun h => ?rnd, fun h => ?shl,
    fun h => ?shr, fun h => ?mova, fun h => ?exp, fun h hne => ?norm, fun h hzero => ?normZero⟩
  case add => exact congrArg Host.Outcome.next (issueOp_acc h hmove hclean (fun e => e.acc ad + e.acc as) rfl)
  case sub => exact congrArg Host.Outcome.next (issueOp_acc h hmove hclean (fun e => e.acc ad - e.acc as) rfl)
  case addd => exact congrArg Host.Outcome.next (issueOp_acc h hmove hclean (fun e => e.acc ad + e.dOperand dn sh) rfl)
  case subd => exact congrArg Host.Outcome.next (issueOp_acc h hmove hclean (fun e => e.acc ad - e.dOperand dn sh) rfl)
  case neg => exact congrArg Host.Outcome.next (issueOp_acc h hmove hclean (fun e => -e.acc as) rfl)
  case abs => exact congrArg Host.Outcome.next (issueOp_acc h hmove hclean (fun e => ((e.acc as).natAbs : Int)) rfl)
  case clr =>
    exact congrArg Host.Outcome.next (issueOp_moving h hmove hclean
      (fun e => [e.wr (rAC ad) (2 ^ 40 - 1) 0 (e.now + 5), e.wrSt ⟨stZ + stN + stV, stZ⟩ (e.now + 5)]) rfl)
  case rnd => exact congrArg Host.Outcome.next (issueOp_moving h hmove hclean (rndWrites ad as) rfl)
  case shl => exact congrArg Host.Outcome.next (issueOp_acc h hmove hclean (fun e => e.acc as * 2 ^ (sh.val + 1)) rfl)
  case shr => exact congrArg Host.Outcome.next (issueOp_acc h hmove hclean (fun e => e.acc as / 2 ^ (sh.val + 1)) rfl)
  case mova => exact congrArg Host.Outcome.next (issueOp_acc h hmove hclean (fun e => e.acc as) rfl)
  case exp =>
    exact congrArg Host.Outcome.next (issueOp_moving h hmove hclean
      (fun e => [e.wr dn 0xFFFF (unsgn 16 (headroom (e.rd (rAC as) (e.now + 5)))) (e.now + 5)]) rfl)
  case norm =>
    refine congrArg Host.Outcome.next ((issueOp_moving h hmove hclean (normWrites ad dn) rfl).trans ?_)
    rw [normWrites_nonzero dn hne]
  case normZero =>
    refine congrArg Host.Outcome.next ((issueOp_moving h hmove hclean (normWrites ad dn) rfl).trans ?_)
    rw [normWrites_zero dn hzero]

/-! ### D registers and moves (R215, R241, R243) -/

section
variable {t : Tile} {w : Nat} {c : Bool} {s : State} {op : EOp} {sel : EOp → Option (State → Plan)} (h : s.issues t w c op)
include h

/-- An instruction that reads no memory. -/
theorem issueOp_writes (ws : Engine → List PWrite) (hs : sel op = some fun s => Plan.of ⟨ws (s.engine t), []⟩) :
    s.issueOp t sel = s.issued t w c Fx.none (ws (s.engine t).endCheck) :=
  issueOp_issued (fx := fun e => ⟨ws e, []⟩) (f := Fx.none) h hs rfl rfl

/-- D-register arithmetic with its result `r` and carry `cy`; a comparison names no register to write (R241). -/
theorem issueOp_alu {dd : Option Nat} {ds : Fin 8} {b : DSrc} {dop : DOp} {r : Nat} {cy : Option Bool}
    (hs : sel op = some fun s => planD dop dd ds b (s.engine t))
    (hr : dAlu dop ((s.engine t).endCheck.rd ds ((s.engine t).endCheck.now + 3)) ((s.engine t).endCheck.dSrc b) = (r, cy)) :
    let e := (s.engine t).endCheck
    s.issueOp t sel = s.issued t w c Fx.none ((dd.elim [] fun d => [e.wr d 0xFFFF r (e.now + 5)]) ++ [e.wrSt (dFlags r cy) (e.now + 5)]) := by
  refine issueOp_plan (plan := planD dop dd ds b) h hs ?_ rfl rfl rfl
  simp only [planD, hr]
  cases dd <;> rfl

end

/-- The flags of a shift: C where the count is not zero (R241). -/
theorem dFlags_shift (r n : Nat) (cy : Bool) : dFlags r (if n = 0 then none else some cy) =
    if n = 0 then ⟨stZ + stN, zn16 r⟩ else ⟨stZ + stN + stC, zn16 r + b2n cy * stC⟩ := by
  split <;> rfl

theorem movSource_dRegister (e : Engine) {rs : Nat} (h : rs < 8) : e.movSource rs = e.rd rs (e.now + 3) := if_pos h

theorem movWrites_dRegister (e : Engine) {rd : Nat} (v : Nat) (h : rd < 8) : e.movWrites rd v false = [e.wr rd 0xFFFF v (e.now + 4)] := if_pos h

/-- An immediate or a memory word reaches D, P, PB, PL and M registers alike at the end of stage M. -/
theorem movWrites_plain (e : Engine) {rd : Nat} (v : Nat) (h : rd < 36) : e.movWrites rd v false = [e.wr rd 0xFFFF v (e.now + 4)] := by
  simp only [Engine.movWrites, h, if_true, Bool.false_eq_true, if_false, ite_self]

/-- Settles O35: an arithmetic instruction sets its result and flags by the operation's two values; a move sets the writes of its register's kind. -/
theorem engineRegisterGroup : Obligations.EngineRegisterGroup := by
  unfold Obligations.EngineRegisterGroup
  intro t w c d ds b s e u v n put fl zn
  have hv : e.dSrc b = v := by cases b <;> rfl
  have hput {op : EOp} {sel : EOp → Option (State → Plan)} {r : Nat} {cy : Option Bool} (h : s.issues t w c op) (dop : DOp)
      (hs : sel op = some fun s => planD dop (some d.val) ds b (s.engine t)) (hr : dAlu dop u v = (r, cy)) :
      s.issueOp t sel = put r (dFlags r cy) := (issueOp_alu h hs (by rw [hv, ← hr])).trans rfl
  refine ⟨fun h => ?add, fun h => ?sub, fun h => ?and, fun h => ?or, fun h => ?xor, fun h => ?shl, fun h => ?shr, fun h => ?sra, fun h => ?cmp,
    fun rd rs h hrd hrs => ?movD, fun rd rs h => ?mov, fun rd imm h hrd => ?ldiPlain, fun rd imm h => ?ldi, fun h => ?bexr⟩
  case add => exact congrArg Host.Outcome.next ((hput h .add rfl rfl).trans rfl)
  case sub => exact congrArg Host.Outcome.next ((hput h .sub rfl rfl).trans rfl)
  case and => exact congrArg Host.Outcome.next ((hput h .and rfl rfl).trans rfl)
  case or => exact congrArg Host.Outcome.next ((hput h .or rfl rfl).trans rfl)
  case xor => exact congrArg Host.Outcome.next ((hput h .xor rfl rfl).trans rfl)
  case shl => exact congrArg Host.Outcome.next ((hput h .shl rfl rfl).trans (congrArg (put _) (dFlags_shift _ n _)))
  case shr => exact congrArg Host.Outcome.next ((hput h .shr rfl rfl).trans (congrArg (put _) (dFlags_shift _ n _)))
  case sra => exact congrArg Host.Outcome.next ((hput h .sra rfl rfl).trans (congrArg (put _) (dFlags_shift _ n _)))
  case cmp =>
    have hr : dAlu .sub (e.rd ds (e.now + 3)) (e.dSrc b) = ((u + 65536 - v) % 65536, some (decide (u < v))) := by rw [hv]; rfl
    exact congrArg Host.Outcome.next ((issueOp_alu (dd := none) h rfl hr).trans rfl)
  case movD =>
    refine congrArg Host.Outcome.next ((issueOp_writes h (fun e => e.movWrites rd (e.movSource rs) (decide (41 ≤ rs.val))) rfl).trans ?_)
    have hlow : decide (41 ≤ rs.val) = false := decide_eq_false (by omega)
    rw [hlow, movWrites_dRegister _ _ hrd, movSource_dRegister _ hrs]
  case mov => exact congrArg Host.Outcome.next (issueOp_writes h (fun e => e.movWrites rd (e.movSource rs) (decide (41 ≤ rs.val))) rfl)
  case ldiPlain =>
    refine congrArg Host.Outcome.next ((issueOp_writes h (fun e => e.movWrites rd imm false) rfl).trans ?_)
    rw [movWrites_plain _ _ hrd]
  case ldi => exact congrArg Host.Outcome.next (issueOp_writes h (fun e => e.movWrites rd imm false) rfl)
  case bexr => exact congrArg Host.Outcome.next (issueOp_writes h (fun e => [e.wr rBEX 0xF 15 (e.now + 5)]) rfl)

/-! ### Loads and stores (R225, R242, R259) -/

section
variable (e : Engine) (c : Nat)

@[simp] theorem Engine.addr_reads {n : Nat} (pn kb : Nat) (am : AMode n) : (e.addr c pn kb am).2.rds = [] := by
  cases am <;> rfl

theorem Engine.addr_clean {n : Nat} (pn kb : Nat) (am : AMode n) : (e.addr c pn kb am).2.clean = true := by
  rw [Fx.clean, Engine.addr_reads]
  rfl

theorem Engine.loadD_eq {e : Engine} {c v : Nat} {so : SOp} {f : Fx} (hread : e.soRead c so = (v, f)) (d : Nat) :
    e.loadD c so d = ⟨f.ws ++ [e.wr d 0xFFFF v (c + 4)], f.rds⟩ := by
  simp only [Engine.loadD, hread, Fx.and_writes]

/-- The memory word that a store writes. -/
def Engine.cell (so : SOp) : PTgt :=
  if so.y then .ymem ((e.addr c so.pn 0 so.am).1 % 16384) else .xmem ((e.addr c so.pn 0 so.am).1 % 16384)

/-- The writes of a store: the memory word, SF where the word was saturated, BEX in the BX forms (R225, R232). -/
def Engine.storeWrites (so : SOp) (v : Nat) (sf bx : Bool) : List PWrite :=
  ⟨e.cell c so, 0xFFFF, v, c + 5⟩ :: ((if sf then [e.wrSt ⟨stSF, stSF⟩ (c + 5)] else []) ++
    (if bx then [e.wr rBEX 0xF (min (e.rd rBEX (c + 5)) (signCount 16 v)) (c + 5)] else []))

theorem Engine.soStore_eq (so : SOp) (v : Nat) (sf bx : Bool) : e.soStore c so v sf bx =
    ⟨(e.addr c so.pn 0 so.am).2.ws ++ e.storeWrites c so v sf bx, (e.addr c so.pn 0 so.am).2.rds⟩ := by
  simp only [Engine.soStore, Engine.opStore, Fx.and_writes, List.append_assoc]
  rfl

end

section
variable {t : Tile} {w : Nat} {c : Bool} {s : State} {op : EOp} {sel : EOp → Option (State → Plan)} (h : s.issues t w c op)
include h

/-- A store of `v`, which may depend on what the engine holds. -/
theorem issueOp_store {so : SOp} (v : Engine → Nat) (sf : Engine → Bool) (bx : Bool)
    (hs : sel op = some fun s => Plan.of ((s.engine t).soStore (s.engine t).now so (v (s.engine t)) (sf (s.engine t)) bx)) :
    let e := (s.engine t).endCheck
    s.issueOp t sel = s.issued t w c (e.addr e.now so.pn 0 so.am).2 (e.storeWrites e.now so (v e) (sf e) bx) :=
  issueOp_issued (fx := fun e => e.soStore e.now so (v e) (sf e) bx) h hs (Engine.soStore_eq _ _ _ _ _ _) (Engine.addr_clean _ _ _ _ _)

/-- A load into an accumulator part (R215, R242). -/
theorem issueOp_lda {p : APart} {b : Bool} {so : SOp} {v : Nat} {f : Fx} {ws : List PWrite} (hs : sel op = some fun s => planLda p b so (s.engine t))
    (hread : (s.engine t).endCheck.soRead (s.engine t).endCheck.now so = (v, f)) (hclean : f.clean = true)
    (hws : ws = match p with
      | .e => [(s.engine t).endCheck.wr (rAC b) 0xFF00000000 (v % 256 * 2 ^ 32) ((s.engine t).endCheck.now + 5)]
      | .u => [(s.engine t).endCheck.wr (rAC b) (2 ^ 40 - 1) (unsgn 40 (sgn 16 v * 65536)) ((s.engine t).endCheck.now + 5)]
      | .b => [(s.engine t).endCheck.wr (rAC b) 0xFFFF v ((s.engine t).endCheck.now + 5)]) :
    s.issueOp t sel = s.issued t w c f ws := by
  refine issueOp_plan (plan := planLda p b so) h hs ?_ rfl rfl hclean
  simp only [planLda, hread, Fx.and_writes, hws]
  cases p <;> rfl

end

/-- The plan of LDK: a load that takes the Y lock at issue (R259). -/
def takesLock (t : Nat) (f : Fx) : Plan := { Plan.of f with fin := fun s => s.setEngine t { s.engine t with lock := true } }

/-- The plan of STK: a store after which no broken lock is remembered (R259). -/
def endsLockBroken (t : Nat) (f : Fx) : Plan := { Plan.of f with fin := fun s => s.setEngine t { s.engine t with lockBroken := false } }

/-- Settles O36: a load writes what its operand reads; a store writes its word, SF and BEX behind the pointer's update; LDK and STK follow the Y lock. -/
theorem engineLoadsAndStores : Obligations.EngineLoadsAndStores := by
  unfold Obligations.EngineLoadsAndStores
  intro t w c d b bx so s
  refine ⟨fun v f hread hclean => ⟨fun h => ?ld, fun h => ?ldu, fun h => ?ldb, fun h => ?lde⟩, fun h => ?st, fun h => ?stu, fun h => ?stb, fun h => ?ste,
    fun v f hy hread hclean h hlock => ?ldk, fun h hlock => ?ldkHeld, fun hy h hlock => ?stk, fun hy h hlock hbroken => ?stkBroken,
    fun h hlock hbroken => ?stkFree⟩
  case ld =>
    exact congrArg Host.Outcome.next (issueOp_issued (fx := fun e => e.loadD e.now so d) h rfl (Engine.loadD_eq hread d) hclean)
  case ldu => exact congrArg Host.Outcome.next (issueOp_lda h rfl hread hclean rfl)
  case ldb => exact congrArg Host.Outcome.next (issueOp_lda h rfl hread hclean rfl)
  case lde => exact congrArg Host.Outcome.next (issueOp_lda h rfl hread hclean rfl)
  case st =>
    exact congrArg Host.Outcome.next (issueOp_store h (fun e => e.rd d (e.now + 4)) (fun _ => false) bx rfl)
  case stu =>
    exact congrArg Host.Outcome.next (issueOp_store h (fun e => (storeUpper (stSATS (e.rd rST (e.now + 4))) (e.rd (rAC b) (e.now + 4))).1)
      (fun e => (storeUpper (stSATS (e.rd rST (e.now + 4))) (e.rd (rAC b) (e.now + 4))).2) bx rfl)
  case stb =>
    exact congrArg Host.Outcome.next (issueOp_store h (fun e => accPart .b (e.rd (rAC b) (e.now + 4))) (fun _ => false) false rfl)
  case ste =>
    exact congrArg Host.Outcome.next (issueOp_store h (fun e => accPart .e (e.rd (rAC b) (e.now + 4))) (fun _ => false) false rfl)
  case ldk =>
    obtain ⟨y, pn, am⟩ := so
    obtain rfl : y = true := hy
    refine congrArg Host.Outcome.next (issueOp_plain (p := takesLock t _) h rfl ?_ rfl rfl hclean)
    rw [State.engine_setEngine_endCheck h]
    exact (if_neg (ne_true_of_eq_false hlock)).trans (congrArg (takesLock t) (Engine.loadD_eq hread d))
  case ldkHeld =>
    exact congrArg Host.Outcome.next (issueOp_faults h rfl (by rw [State.engine_setEngine_endCheck h]; exact if_pos hlock) (by decide))
  case stk =>
    obtain ⟨y, pn, am⟩ := so
    obtain rfl : y = true := hy
    refine congrArg Host.Outcome.next (issueOp_plain (p := endsLockBroken t _) h rfl ?_ rfl rfl (Engine.addr_clean _ _ _ _ _))
    rw [State.engine_setEngine_endCheck h]
    refine (if_pos hlock).trans (congrArg (endsLockBroken t) ?_)
    rw [Engine.soStore_eq, Fx.and_writes, List.append_assoc]
    rfl
  case stkBroken =>
    obtain ⟨y, pn, am⟩ := so
    obtain rfl : y = true := hy
    refine congrArg Host.Outcome.next (issueOp_plain (p := endsLockBroken t _) h rfl ?_ rfl rfl (Engine.addr_clean _ _ _ _ _))
    rw [State.engine_setEngine_endCheck h]
    exact (if_neg (ne_true_of_eq_false hlock)).trans ((if_pos hbroken).trans (congrArg (endsLockBroken t) (Engine.soStore_eq _ _ _ _ _ _)))
  case stkFree =>
    refine congrArg Host.Outcome.next (issueOp_faults h rfl ?_ (by decide))
    rw [State.engine_setEngine_endCheck h]
    exact (if_neg (ne_true_of_eq_false hlock)).trans (if_neg (ne_true_of_eq_false hbroken))

end Sys2Proof.Machine

/-! SUPPORT. Engine faults, and the word that a debugger feeds a halted engine (10 R219, R236, R247, R249, R250; 23 R511): what the writes in flight and
the tile port leave of a halted engine as they retire. -/

namespace Sys2Proof.Machine

/-! ### What changes neither engines nor the debuggers' state -/

/-- The engines and the debuggers' state. -/
def State.engDbg (s : State) : Tbl Engine × Dbg := (s.eng, s.dbg)

theorem State.engDbg_of {s u : State} (heng : u.eng = s.eng) (hdbg : u.dbg = s.dbg) : u.engDbg = s.engDbg := by
  rw [State.engDbg, heng, hdbg]
  rfl

@[simp] theorem State.setReg_engDbg (s : State) (r : Rg) (i j v : Nat) : (s.setReg r i j v).engDbg = s.engDbg :=
  State.engDbg_of (s.setReg_eng ..) (s.setReg_dbg ..)
@[simp] theorem State.setF_engDbg (s : State) (f : FRef) (i j v : Nat) : (s.setF f i j v).engDbg = s.engDbg :=
  State.engDbg_of (s.setF_eng ..) (s.setF_dbg ..)
@[simp] theorem State.count_engDbg (s : State) (f : FRef) (i j k : Nat) : (s.count f i j k).engDbg = s.engDbg :=
  State.engDbg_of (s.count_eng ..) (s.count_dbg ..)
@[simp] theorem State.setPQ_engDbg (s : State) (k : Nat) (q : PQ) : (s.setPQ k q).engDbg = s.engDbg :=
  State.engDbg_of (s.setPQ_eng ..) (s.setPQ_dbg ..)
@[simp] theorem State.alarm_engDbg (s : State) (t c fl code src : Nat) : (s.alarm t c fl code src).engDbg = s.engDbg :=
  State.engDbg_of (s.alarm_eng ..) (s.alarm_dbg ..)
@[simp] theorem State.respond_engDbg (s : State) (r : Req) (c : Nat) (l : List Byte) : (s.respond r c l).engDbg = s.engDbg :=
  State.engDbg_of (s.respond_eng ..) (s.respond_dbg ..)

@[simp] theorem State.eccLog_engDbg (s : State) (g : EGroup) (i : Nat) (ue : Bool) (unit loc p syn : Nat) :
    (s.eccLog g i ue unit loc p syn).engDbg = s.engDbg := by
  unfold State.eccLog
  split
  · exact State.setF_engDbg ..
  · dsimp only
    split <;> simp only [State.setF_engDbg, State.setReg_engDbg]

@[simp] theorem State.eccError_engDbg (s : State) (g : EGroup) (i : Nat) (ue : Bool) (unit loc p syn : Nat) :
    (s.eccError g i ue unit loc p syn).engDbg = s.engDbg := by
  unfold State.eccError
  cases ue <;>
    simp only [Bool.false_eq_true, if_false, if_true, State.alarm_engDbg, State.eccLog_engDbg, State.count_engDbg]

@[simp] theorem State.noteReads_engDbg (s : State) (t : Nat) (l : List Rd) : (s.noteReads t l).engDbg = s.engDbg := by
  have hout (u : State) (unit a p y : Nat) (o : SecOut) : (u.eccOutcome .tile t unit a o p y).engDbg = u.engDbg := by
    cases o
    case clean => rfl
    case corrected => exact State.eccError_engDbg ..
    case bad => exact State.eccError_engDbg ..
  refine foldl_keeps State.engDbg _ (fun u r => ?_) l s
  split
  · exact hout ..
  · rfl

@[simp] theorem State.engSend_engDbg (s : State) (t : Nat) (who : Who) (r : Req) : (s.engSend t who r).1.engDbg = s.engDbg := by
  have hto (dst dport : Nat) : (s.issueTo who r dst dport).1.engDbg = s.engDbg := by
    unfold State.issueTo
    split_ifs
    · rfl
    · rfl
    · rfl
    · exact State.engDbg_of (s.sendReq_eng ..) (s.sendReq_dbg ..)
  unfold State.engSend State.issue
  split
  · rfl
  · dsimp only
    split
    · rfl
    · exact hto _ _

@[simp] theorem State.qAbort_engDbg (s : State) (k : Nat) : (s.qAbort k).engDbg = s.engDbg := by
  unfold State.qAbort
  split
  · rfl
  · simp only [State.count_engDbg, State.setPQ_engDbg]

@[simp] theorem State.qWrite_engDbg (s : State) (k data : Nat) (last poison : Bool) : (s.qWrite k data last poison).engDbg = s.engDbg := by
  unfold State.qWrite
  dsimp only
  split_ifs <;> simp only [State.count_engDbg, State.qAbort_engDbg, State.setPQ_engDbg]

@[simp] theorem State.raiseEv_engDbg (s : State) (d tenant l : Nat) : (s.raiseEv d tenant l).engDbg = s.engDbg := by
  have hlost (u : State) (e : Nat) : (u.evLost e).engDbg = u.engDbg := by
    have hcount (v : State) (n : Nat) : (if v.cutOff n then v else v.count F.seamCounts_eventsLost n 0 1).engDbg = v.engDbg := by
      split
      · rfl
      · exact State.count_engDbg ..
    unfold State.evLost
    split
    · rfl
    · exact foldl_keeps State.engDbg _ (fun v x => foldl_keeps State.engDbg _ hcount _ v) _ u
  have hsend (u : State) (p typ pay : Nat) : (u.sendUnit d p 0x80 typ pay).engDbg = u.engDbg :=
    State.engDbg_of (u.setBundle_eng ..) (u.setBundle_dbg ..)
  have hforward (u : State) (mask : Nat) : (u.evForward d none mask).engDbg = u.engDbg :=
    foldl_keeps State.engDbg (fun u p => u.sendUnit d p 0x80 4 mask) (fun u p => hsend u p 4 mask) _ u
  unfold State.raiseEv
  split
  · exact (hlost _ d).trans ((hforward _ _).trans (State.engDbg_of rfl rfl))
  · exact State.count_engDbg ..

@[simp] theorem State.finishOps_engDbg (s : State) (res : Nat) (opcodes : List Nat) (code result detail : Nat) (pay : List Byte) :
    (s.finishOps res opcodes code result detail pay).engDbg = s.engDbg := by
  have hend (u : State) (o : LongOp) : (u.endOp o code result detail).engDbg = u.engDbg := by
    unfold State.endOp
    dsimp only
    split
    · exact State.engDbg_of rfl rfl
    · exact State.engDbg_of (State.queueEv_eng ..) (State.queueEv_dbg ..)
  have hreply (u : State) (o : LongOp) : (u.replyWaiting o.port o.mbox code pay).engDbg = u.engDbg := by
    unfold State.replyWaiting
    split
    · exact State.engDbg_of (u.reply_eng ..) (u.reply_dbg ..)
    · rfl
  have hclose (u : State) (o : LongOp) (waiting : Bool) : (u.closeOp o waiting code result detail pay).engDbg = u.engDbg := by
    unfold State.closeOp
    split
    · exact (hreply _ o).trans (State.engDbg_of rfl rfl)
    · exact hend u o
  refine foldl_keeps State.engDbg _ (fun u o => ?_) _ s
  unfold State.finishOp
  split
  · rfl
  · split
    · exact hclose u o _
    · exact State.engDbg_of rfl rfl

/-! ### What a halted engine keeps -/

/-- What a debugger sees of an engine: its state and program counter, whether an atomic waits, and the word fed to it (R511). -/
def Engine.seen (e : Engine) : EngRun × Nat × Bool × Option Nat := (e.run, e.pc, e.atomic, e.feed)

/-- What is seen of tile t's engine, and the debuggers' own state. -/
def State.haltFrame (s : State) (t : Nat) : (EngRun × Nat × Bool × Option Nat) × Dbg := ((s.engine t).seen, s.dbg)

theorem State.haltFrame_of_engDbg {s u : State} (t : Nat) (h : u.engDbg = s.engDbg) : u.haltFrame t = s.haltFrame t := by
  obtain ⟨heng, hdbg⟩ := Prod.mk.inj h
  simp only [State.haltFrame, State.engine, heng, hdbg]

/-- Writing an engine that is not stopped sets what is seen of it, whatever the table. -/
theorem State.haltFrame_setEngine (s : State) (t : Nat) {e : Engine} (h : e.run ≠ .stopped) :
    (s.setEngine t e).haltFrame t = (e.seen, s.dbg) := by
  rw [State.haltFrame, State.engine_setEngine_ne s t e (Engine.ne_init_of_run h)]
  rfl

section
variable {c : (EngRun × Nat × Bool × Option Nat) × Dbg} (hrun : c.1.1 ≠ .stopped) {t : Nat}
include hrun

/-- An update of the engine's other parts keeps what is seen of it. -/
theorem State.haltFrame_update {s : State} (h : s.haltFrame t = c) {e : Engine} (he : e.seen = (s.engine t).seen) :
    (s.setEngine t e).haltFrame t = c := by
  have hne : e.run ≠ .stopped := by
    subst h
    rw [show e.run = (s.engine t).run from congrArg (·.1) he]
    exact hrun
  rw [State.haltFrame_setEngine s t hne, he]
  exact h

omit hrun in
/-- A run of stores keeps it too. -/
theorem Engine.seen_iter_store (a v : Nat → Nat) (n : Nat) (e : Engine) :
    (iter n (fun k (e : Engine) => e.store true (a k) (v k)) e).seen = e.seen :=
  iter_keeps Engine.seen n (fun k (e : Engine) => e.store true (a k) (v k)) (fun _ _ => rfl) e

theorem State.haltFrame_netFinish {s : State} (h : s.haltFrame t = c) (who : Who) (svc : Nat) (data : List Byte) :
    (s.netFinish t who svc data).haltFrame t = c := by
  cases who
  case nget pd ps =>
    refine (State.haltFrame_of_engDbg t (State.setF_engDbg ..)).trans (State.haltFrame_update hrun h ?_)
    split
    · exact Engine.seen_iter_store (fun k => (pd + k) % 16384) (fun k => leAt data (2 * k) 2) _ (s.engine t)
    · rfl
  case nput ps => exact (State.haltFrame_of_engDbg t (State.setF_engDbg ..)).trans (State.haltFrame_update hrun h rfl)
  all_goals exact h

theorem State.haltFrame_nputSend {s : State} (h : s.haltFrame t = c) (pd ps n a : Nat) : (s.nputSend t pd ps n a).haltFrame t = c := by
  have hread (l : List Rd) (who : Who) (r : Req) : ((s.noteReads t l).engSend t who r).1.haltFrame t = c :=
    (State.haltFrame_of_engDbg t ((State.engSend_engDbg ..).trans (s.noteReads_engDbg t l))).trans h
  unfold State.nputSend State.netIssue
  dsimp only
  split
  · exact hread _ _ _
  · exact State.haltFrame_update hrun (hread _ _ _) rfl

theorem State.haltFrame_engMemServe {s : State} (h : s.haltFrame t = c) (q : Rq) (o : Nat) (op : NOp) (n : Nat) (data : List Byte) :
    (s.engMemServe q t o op n data).1.haltFrame t = c := by
  have hset (m o : Nat) : (s.engMemWrite t m o data).haltFrame t = c := by
    have hmem (x : EMem) : (s.setEngine t ((s.engine t).setMem m x)).haltFrame t = c := by
      refine State.haltFrame_update hrun h ?_
      unfold Engine.setMem
      split_ifs <;> rfl
    unfold State.engMemWrite
    dsimp only
    split
    · exact (State.haltFrame_of_engDbg t (State.setF_engDbg ..)).trans (hmem _)
    · exact hmem _
  unfold State.engMemServe
  split
  · exact h
  · dsimp only
    split
    · exact hset _ _
    · exact (State.haltFrame_of_engDbg t (s.noteReads_engDbg t _)).trans h

theorem State.haltFrame_yStep {s : State} (h : s.haltFrame t = c) : (s.yStep t).haltFrame t = c := by
  have hfabric : (s.yFabric t).haltFrame t = c := by
    unfold State.yFabric
    dsimp only
    split
    · exact h
    · split
      · exact State.haltFrame_update hrun h rfl
      · exact (State.haltFrame_of_engDbg t (State.noteReads_engDbg ..)).trans (State.haltFrame_update hrun h rfl)
  have hnet : (s.yNet t).haltFrame t = c := by
    unfold State.yNet
    dsimp only
    split
    · exact h
    next j l _ =>
      have hturn : (s.setEngine t { s.engine t with ynet := l, yturn := false }).haltFrame t = c := State.haltFrame_update hrun h rfl
      split
      · exact State.haltFrame_netFinish hrun hturn ..
      · exact State.haltFrame_nputSend hrun hturn ..
      · split
        · exact (State.haltFrame_of_engDbg t (State.respond_engDbg ..)).trans (State.haltFrame_engMemServe hrun hturn ..)
        · exact hturn
  unfold State.yStep
  dsimp only
  split_ifs
  · exact h
  · exact hnet
  · exact hfabric

theorem State.haltFrame_yServe {s : State} (h : s.haltFrame t = c) : (s.yServe t).haltFrame t = c :=
  iter_induction (fun _ u => State.haltFrame u t = c) _ h (fun _ _ _ hu => State.haltFrame_yStep hrun hu)

theorem State.haltFrame_engWrite {s : State} (h : s.haltFrame t = c) (w : PWrite) : (s.engWrite t w).haltFrame t = c := by
  obtain ⟨tgt, mask, val, due⟩ := w
  cases tgt
  case reg bank id => exact State.haltFrame_update hrun h rfl
  case xmem a => exact State.haltFrame_update hrun h rfl
  case ymem a => exact State.haltFrame_update hrun h rfl
  case push q last =>
    have hpush : (if s.qOn (4 * t + q) then s.qWrite (4 * t + q) val last false else s).haltFrame t = c := by
      split
      · exact (State.haltFrame_of_engDbg t (s.qWrite_engDbg ..)).trans h
      · exact h
    exact hpush
  case qabort q =>
    have habort : (if s.qOn (4 * t + q) then s.qAbort (4 * t + q) else s).haltFrame t = c := by
      split
      · exact (State.haltFrame_of_engDbg t (s.qAbort_engDbg _)).trans h
      · exact h
    exact habort
  case unlock => exact State.haltFrame_yServe hrun (State.haltFrame_update hrun h rfl)
  case sig line => exact (State.haltFrame_of_engDbg t (s.raiseEv_engDbg ..)).trans h
  case net ps svc => exact State.haltFrame_yServe hrun (State.haltFrame_update hrun h rfl)

/-- What is seen of a halted engine stays as it is while its instructions in flight retire. -/
theorem State.haltFrame_engDrain {s : State} (h : s.haltFrame t = c) : (s.engDrain t).haltFrame t = c := by
  unfold State.engDrain State.engCommit
  dsimp only
  refine List.foldlRecOn (motive := fun u : State => u.haltFrame t = c) _ _ (State.haltFrame_update hrun h rfl) (fun u hu w _ => ?_)
  exact State.haltFrame_engWrite hrun hu w

end

theorem State.feedEnd_engDbg (s : State) (t cause : Nat) : (s.feedEnd t cause).engDbg =
    ((s.setEngine t { s.engine t with feed := none }).setFeed t
      { s.feed t with busy := false, fault := decide (cause ≠ 0), cause := cause }).engDbg :=
  State.finishOps_engDbg _ t [0x0810, 0x0812] 0 0 0 []

/-- The end of a fed word clears the feed, at the engine and in the debugger's view of it (R511). -/
theorem State.feedEnd_seen {s : State} {t : Nat} (hrun : (s.engine t).run ≠ .stopped) (hwf : Tbl.wf (fun _ => Feed.init) s.dbg.feeds = true)
    (cause : Nat) : ((s.feedEnd t cause).engine t).seen = ((s.engine t).run, (s.engine t).pc, (s.engine t).atomic, none) ∧
      ((s.feedEnd t cause).feed t).busy = false ∧ ((s.feedEnd t cause).feed t).fault = decide (cause ≠ 0) := by
  obtain ⟨heng, hdbg⟩ := Prod.mk.inj (s.feedEnd_engDbg t cause)
  have hengine : (s.feedEnd t cause).engine t = { s.engine t with feed := none } :=
    (congrArg (tget Engine.init · t) heng).trans (State.engine_setEngine_ne s t _ (Engine.ne_init_of_run hrun))
  have hfeed : (s.feedEnd t cause).feed t = { s.feed t with busy := false, fault := decide (cause ≠ 0), cause := cause } :=
    (congrArg (fun d : Dbg => tget Feed.init d.feeds t) hdbg).trans (State.feed_setFeed _ t _ hwf)
  rw [hengine, hfeed]
  exact ⟨rfl, rfl, rfl⟩

/-! ### Faults (R219, R236, R247, R249) -/

section
variable {s : State} {t w : Nat} {c : Bool} (hfeed : (s.engine t).feed = none) (hcan : s.canIssue t = true)
include hfeed hcan

theorem issueOp_fetchPoison (sel : EOp → Option (State → Plan)) (hfetch : (s.engine t).fetch = (⟨w, true, none⟩, c)) :
    s.issueOp t sel = s.engFault t 1 := by
  simp only [State.issueOp, hfeed, hcan, hfetch, if_true, State.noteReads_clean]

section
variable (hfetch : (s.engine t).fetch = (⟨w, false, none⟩, c)) {op : EOp} (hdec : decodeEngine w = some op) {sel : EOp → Option (State → Plan)}
  {k : State → Plan} (hs : sel op = some k)
include hfetch hdec hs

/-- A word in a delay slot that may not stand there (R247). -/
theorem issueOp_misplacedInSlot (hslot : ((s.engine t).br.isSome && op.notInSlot) = true) : s.issueOp t sel = s.engFault t 3 := by
  simp only [State.issueOp, hfeed, hcan, hfetch, hdec, hs, hslot, if_true, State.noteReads_clean, Bool.false_eq_true, if_false]

/-- A word in a repeat body that may not stand there (R249). -/
theorem issueOp_misplacedInRepeat (hslot : ((s.engine t).br.isSome && op.notInSlot) = false)
    (hrepeat : (bitAt ((s.engine t).rd rST (s.engine t).now) 4 && op.notInRepeat) = true) : s.issueOp t sel = s.engFault t 4 := by
  simp only [State.issueOp, hfeed, hcan, hfetch, hdec, hs, hslot, hrepeat, if_true, State.noteReads_clean, Bool.false_eq_true, if_false]

end

end

section
variable {s : State} {t : Tile} {w : Nat} {c : Bool} (hfeed : (s.engine t).feed = none) (hcan : s.canIssue t = true)
include hfeed hcan

theorem exec_illegalInstruction_undecoded (hfetch : (s.engine t).fetch = (⟨w, false, none⟩, c)) (hdec : decodeEngine w = none) :
    exec (.illegalInstruction t) s = .next (s.engFault t 2) := by
  refine congrArg Host.Outcome.next ((if_pos (by rw [hfeed, hcan]; rfl)).trans ?_)
  simp only [hfetch, hdec, State.noteReads_clean, Bool.false_eq_true, if_false]

theorem exec_illegalInstruction_poison (hfetch : (s.engine t).fetch = (⟨w, true, none⟩, c)) :
    exec (.illegalInstruction t) s = .next (s.engFault t 1) := by
  refine congrArg Host.Outcome.next ((if_pos (by rw [hfeed, hcan]; rfl)).trans ?_)
  simp only [hfetch, State.noteReads_clean, if_true]

end

/-! ### A fed word (R511) -/

/-- The state in which a fed instruction with the plan `p` has retired. -/
def State.fedRetired (s : State) (t : Nat) (p : Plan) : State :=
  let d := (p.fin ((s.noteReads t p.fx.rds).setEngine t { s.engine t with pend := p.fx.ws.foldl addPend (s.engine t).pend })).engDrain t
  d.setEngine t { d.engine t with now := (s.engine t).now + 6 }

/-- A fed instruction that neither faults nor waits retires with all that is in flight, and ends the feed unless its atomic waits. -/
theorem issueOp_fed {s : State} {t w : Nat} {op : EOp} {sel : EOp → Option (State → Plan)} {k : State → Plan} (hfeed : (s.engine t).feed = some w)
    (hhalt : (s.engine t).run = .halted) (hatomic : (s.engine t).atomic = false) (hdec : decodeEngine w = some op) (hs : sel op = some k)
    (hplace : op.notInRepeat = false) {p : Plan} (hp : k s = p) (hfault : p.fault = 0) (hhold : p.hold = false) (hclean : p.fx.clean = true) :
    s.issueOp t sel = if ((s.fedRetired t p).engine t).atomic then (s.fedRetired t p).setEngine t { (s.fedRetired t p).engine t with feed := none }
      else (s.fedRetired t p).feedEnd t 0 := by
  have hgo : ¬ ((s.engine t).run ≠ .halted ∨ (s.engine t).atomic = true) := by simp [hhalt, hatomic]
  have hbody : ¬ (bitAt ((s.engine t).rd rST (s.engine t).now) 4 && op.notInRepeat) = true := by simp [hplace]
  have hpoison : ¬ p.fx.rds.any (·.bad) = true := by simpa [Fx.clean] using hclean
  simp only [State.issueOp, hfeed]
  unfold State.feedOp
  simp only [hdec, hs, hp]
  rw [if_neg hgo, if_neg hbody, if_neg (not_not_intro hfault), if_neg (ne_true_of_eq_false hhold), if_neg hpoison]
  rfl

section
variable {s : State} {t w : Nat} (hhalt : (s.engine t).run = .halted)
include hhalt

/-- A fed NOP leaves what is seen of the engine until its feed ends. -/
theorem State.haltFrame_fedRetired_nop : (s.fedRetired t (Plan.of Fx.none)).haltFrame t = s.haltFrame t := by
  have hrun : (s.haltFrame t).1.1 ≠ .stopped := by
    rw [show (s.haltFrame t).1.1 = .halted from hhalt]
    decide
  exact State.haltFrame_update hrun (State.haltFrame_engDrain hrun (State.haltFrame_update hrun rfl rfl)) rfl

theorem issueOp_fedNop {sel : EOp → Option (State → Plan)} (hfeed : (s.engine t).feed = some w) (hatomic : (s.engine t).atomic = false)
    (hdec : decodeEngine w = some .nop) (hs : sel .nop = some fun _ => Plan.of Fx.none) :
    s.issueOp t sel = (s.fedRetired t (Plan.of Fx.none)).feedEnd t 0 := by
  have hfree : ((s.fedRetired t (Plan.of Fx.none)).engine t).atomic = false :=
    (congrArg (·.1.2.2.1) (State.haltFrame_fedRetired_nop hhalt)).trans hatomic
  rw [issueOp_fed hfeed hhalt hatomic hdec hs rfl rfl rfl rfl rfl, if_neg (ne_true_of_eq_false hfree)]

end

/-- Settles O39: an engine that finds poison, or a word that may not stand where it is, faults; a fed NOP ends its feed and leaves the engine halted. -/
theorem engineFaults : Obligations.EngineFaults := by
  unfold Obligations.EngineFaults
  refine ⟨fun t w c s hfeed hcan hfetch hdec => exec_illegalInstruction_undecoded hfeed hcan hfetch hdec,
    fun t w c s hfeed hcan hfetch => ⟨exec_illegalInstruction_poison hfeed hcan hfetch, ?poison⟩,
    fun t w c s hfeed hcan hfetch => ⟨fun hdec hslot => ?slot, fun hdec hslot hrepeat => ?rept⟩,
    fun t w c d so v f s h hread hbad => ?operand, fun t w s hfeed hhalt hatomic hdec hwf => ?fed⟩
  case poison => exact congrArg Host.Outcome.next (issueOp_fetchPoison hfeed hcan _ hfetch)
  case slot => exact congrArg Host.Outcome.next (issueOp_misplacedInSlot hfeed hcan hfetch hdec rfl (by rw [hslot]; rfl))
  case rept =>
    exact congrArg Host.Outcome.next (issueOp_misplacedInRepeat hfeed hcan hfetch hdec rfl (by rw [hslot]; rfl) (by rw [hrepeat]; rfl))
  case operand =>
    exact congrArg Host.Outcome.next (issueOp_poisoned (fx := fun e => e.loadD e.now so d) h rfl (Engine.loadD_eq hread d) hbad)
  case fed =>
    have hkeep := State.haltFrame_fedRetired_nop hhalt
    have hrun : ((s.fedRetired t (Plan.of Fx.none)).engine t).run = .halted := (congrArg (·.1.1) hkeep).trans hhalt
    have hpc : ((s.fedRetired t (Plan.of Fx.none)).engine t).pc = (s.engine t).pc := congrArg (·.1.2.1) hkeep
    have hdbg : (s.fedRetired t (Plan.of Fx.none)).dbg = s.dbg := congrArg (·.2) hkeep
    obtain ⟨hend, hbusy, hfault⟩ := State.feedEnd_seen (ne_of_eq_of_ne hrun (by decide)) (hdbg ▸ hwf) 0
    exact ⟨_, congrArg Host.Outcome.next (issueOp_fedNop hhalt hfeed hatomic hdec rfl), congrArg (·.2.2.2) hend, (congrArg (·.2.1) hend).trans hpc,
      (congrArg (·.1) hend).trans hrun, hbusy, hfault⟩

end Sys2Proof.Machine

/-! SUPPORT. The arithmetic of a signal engine's pointers (09 R227, R228): linear and circular steps, and steps in reversed bit order. -/

namespace Sys2Proof.Machine

/-! ### Linear and circular steps (R227) -/

theorem unsgn_natCast (n : Nat) (x : Int) : (unsgn n x : Int) = x % 2 ^ n := by
  rw [unsgn, Int.toNat_of_nonneg (Int.emod_nonneg _ (by positivity))]

theorem stepPtr_linear (p pb : Nat) (x : Int) : (stepPtr p pb 0 x : Int) = ((p : Int) + x) % 65536 := by
  rw [stepPtr, if_pos rfl, unsgn_natCast]
  rfl

theorem stepPtr_circular (p pb : Nat) {pl : Nat} (x : Int) (hpl : 0 < pl) :
    (stepPtr p pb pl x : Int) = ((pb : Int) + ((p : Int) - pb + x) % pl) % 65536 := by
  rw [stepPtr, if_neg hpl.ne', unsgn_natCast]
  rfl

/-- In a buffer that does not pass the top of memory the step is taken modulo its length, from its base. -/
theorem stepPtr_inBuffer (p : Nat) {pb pl : Nat} (x : Int) (hpl : 0 < pl) (hfit : pb + pl ≤ 65536) :
    (stepPtr p pb pl x : Int) = pb + ((p : Int) - pb + x) % pl := by
  have hnonneg : 0 ≤ ((p : Int) - pb + x) % pl := Int.emod_nonneg _ (by omega)
  have hlt : ((p : Int) - pb + x) % pl < pl := Int.emod_lt_of_pos _ (by omega)
  rw [stepPtr_circular p pb x hpl]
  exact Int.emod_eq_of_lt (by omega) (by omega)

theorem stepPtr_stays (p : Nat) {pb pl : Nat} (x : Int) (hpl : 0 < pl) (hfit : pb + pl ≤ 65536) :
    pb ≤ stepPtr p pb pl x ∧ stepPtr p pb pl x < pb + pl := by
  have heq := stepPtr_inBuffer p x hpl hfit
  have hnonneg : 0 ≤ ((p : Int) - pb + x) % pl := Int.emod_nonneg _ (by omega)
  have hlt : ((p : Int) - pb + x) % pl < pl := Int.emod_lt_of_pos _ (by omega)
  omega

theorem stepPtr_back {p pb pl : Nat} (x : Int) (hpl : 0 < pl) (hfit : pb + pl ≤ 65536) (hlow : pb ≤ p) (hhigh : p < pb + pl) :
    stepPtr (stepPtr p pb pl x) pb pl (-x) = p := by
  have hround : (((p : Int) - pb + x) % pl + -x) % pl = (p : Int) - pb := by
    rw [Int.emod_add_emod, add_neg_cancel_right]
    exact Int.emod_eq_of_lt (by omega) (by omega)
  have heq := stepPtr_inBuffer (stepPtr p pb pl x) (-x) hpl hfit
  rw [stepPtr_inBuffer p x hpl hfit, add_sub_cancel_left, hround] at heq
  omega

/-! ### Reversed bit order (R228) -/

theorem bitAt_eq_testBit (w n : Nat) : bitAt w n = w.testBit n := Nat.testBit_eq_decide_div_mod_eq.symm

theorem revBits_succ (m v : Nat) : revBits (m + 1) v = revBits m v * 2 + v / 2 ^ m % 2 := by
  simp [revBits, List.range_succ]

theorem revBits_lt (m v : Nat) : revBits m v < 2 ^ m := by
  induction m with
  | zero => exact Nat.one_pos
  | succ m ih =>
    rw [revBits_succ, Nat.pow_succ]
    omega

/-- Bit i of the reversed word is bit m − 1 − i of the word. -/
theorem testBit_revBits {m i : Nat} (v : Nat) (h : i < m) : (revBits m v).testBit i = v.testBit (m - 1 - i) := by
  induction m generalizing i with
  | zero => omega
  | succ m ih =>
    rw [revBits_succ]
    cases i with
    | zero =>
      rw [Nat.testBit_zero, Nat.mul_add_mod_self_right, Nat.mod_mod, ← Nat.testBit_eq_decide_div_mod_eq]
      rfl
    | succ i =>
      have hhalf : (revBits m v * 2 + v / 2 ^ m % 2) / 2 = revBits m v := by omega
      rw [Nat.testBit_succ, hhalf, ih (by omega)]
      congr 1
      omega

theorem revBits_mod (m v : Nat) : revBits m (v % 2 ^ m) = revBits m v := by
  apply Nat.eq_of_testBit_eq
  intro i
  by_cases hi : i < m
  · have hbit : m - 1 - i < m := by omega
    simp [testBit_revBits _ hi, Nat.testBit_mod_two_pow, hbit]
  · have hpow : 2 ^ m ≤ 2 ^ i := Nat.pow_le_pow_right (by decide) (by omega)
    rw [Nat.testBit_lt_two_pow ((revBits_lt m _).trans_le hpow), Nat.testBit_lt_two_pow ((revBits_lt m _).trans_le hpow)]

theorem revBits_revBits {m v : Nat} (h : v < 2 ^ m) : revBits m (revBits m v) = v := by
  apply Nat.eq_of_testBit_eq
  intro i
  by_cases hi : i < m
  · rw [testBit_revBits _ hi, testBit_revBits _ (by omega)]
    congr 1
    omega
  · have hpow : 2 ^ m ≤ 2 ^ i := Nat.pow_le_pow_right (by decide) (by omega)
    rw [Nat.testBit_lt_two_pow ((revBits_lt m _).trans_le hpow), Nat.testBit_lt_two_pow (h.trans_le hpow)]

/-- A step without a buffer reverses the low 14 bits and keeps those above. -/
theorem revStep_linear (p pb m : Nat) :
    revStep p pb 0 m % 2 ^ 14 = revBits 14 ((revBits 14 (p % 2 ^ 14) + revBits 14 (m % 2 ^ 14)) % 2 ^ 14) ∧ revStep p pb 0 m / 2 ^ 14 = p / 2 ^ 14 := by
  have hlt := revBits_lt 14 (revBits 14 p + revBits 14 m)
  rw [revStep, if_pos rfl, revBits_mod, revBits_mod, revBits_mod, Nat.mod_eq_of_lt hlt]
  omega

/-- The offset within the buffer, modulo the power of two that a step visits. -/
theorem revStep_offset {p pb k : Nat} (hpb : pb < 65536) (hk : k ≤ 16) :
    (p + 65536 - pb) % 2 ^ k = (((p : Int) - pb) % 2 ^ k).toNat := by
  have hdvd : (2 ^ k : Int) ∣ 65536 := pow_dvd_pow (2 : Int) hk
  have hshift : ((p + 65536 - pb : Nat) : Int) % 2 ^ k = ((p : Int) - pb) % 2 ^ k := by
    rw [show ((p + 65536 - pb : Nat) : Int) = (p : Int) - pb + 65536 by omega, Int.add_emod, Int.emod_eq_zero_of_dvd hdvd, add_zero, Int.emod_emod]
  rw [← hshift]
  exact_mod_cast (Int.toNat_natCast _).symm

theorem revStep_buffer (p : Nat) {pb pl : Nat} (m : Nat) (hpb : pb < 65536) (hpl : 0 < pl) (hlt : pl < 65536) :
    revStep p pb pl m = (pb + revBits (Nat.log2 pl) ((revBits (Nat.log2 pl) ((((p : Int) - pb) % 2 ^ (Nat.log2 pl)).toNat) +
      revBits (Nat.log2 pl) (m % 2 ^ (Nat.log2 pl))) % 2 ^ (Nat.log2 pl))) % 65536 := by
  rw [revStep, if_neg hpl.ne']
  dsimp only
  have hlog : Nat.log2 pl ≤ 16 := Nat.le_of_lt ((Nat.log2_lt hpl.ne').mpr hlt)
  rw [revStep_offset hpb hlog, revBits_mod (Nat.log2 pl) (_ + _), Nat.mod_eq_of_lt (revBits_lt _ (_ + _))]

theorem revStep_stays (p : Nat) {pb pl : Nat} (m : Nat) (hpl : 0 < pl) (hfit : pb + pl ≤ 65536) :
    pb ≤ revStep p pb pl m ∧ revStep p pb pl m < pb + 2 ^ (Nat.log2 pl) := by
  rw [revStep, if_neg hpl.ne']
  dsimp only
  have hvisited := Nat.log2_self_le hpl.ne'
  generalize revBits (Nat.log2 pl) (_ + _) = r
  have hr : r % 2 ^ Nat.log2 pl < 2 ^ Nat.log2 pl := Nat.mod_lt _ (by positivity)
  rw [Nat.mod_eq_of_lt (by omega)]
  omega

/-- Settles O44: a step is taken modulo the length of the buffer from its base, and in reversed bit order over the largest power of two that fits. -/
theorem pointerSteps : Obligations.PointerSteps := by
  unfold Obligations.PointerSteps
  refine ⟨stepPtr_linear, fun p pb pl x hpl => stepPtr_circular p pb x hpl, fun p pb pl x hpl hfit => stepPtr_stays p x hpl hfit,
    fun p pb pl x hpl hfit hlow hhigh => stepPtr_back x hpl hfit hlow hhigh, fun m v hv => ⟨revBits_lt m v, revBits_revBits hv, fun i hi => ?bit⟩,
    fun p pb m _ => revStep_linear p pb m, fun p pb pl m _ hpb hpl hlt => revStep_buffer p m hpb hpl hlt,
    fun p pb pl m _ _ hpl hfit => revStep_stays p m hpl hfit⟩
  case bit => rw [bitAt_eq_testBit, bitAt_eq_testBit, testBit_revBits v hi]

end Sys2Proof.Machine

/-! SUPPORT. Writes in flight (09 R233–R235): where a new one goes, and what a read sees of it. -/

namespace Sys2Proof.Machine

/-- A new write comes after those due no later, which stand first in a list kept by cycle (R235). -/
theorem addPend_split (l : List PWrite) (w : PWrite) : ∃ a b, l = a ++ b ∧ addPend l w = a ++ w :: b ∧ (∀ x ∈ a, x.due ≤ w.due) ∧
    (l.Pairwise (fun x y => x.due ≤ y.due) → ∀ x ∈ b, w.due < x.due) := by
  induction l with
  | nil => exact ⟨[], [], rfl, rfl, by simp, by simp⟩
  | cons y l ih =>
    by_cases hy : y.due ≤ w.due
    · obtain ⟨a, b, hl, hadd, ha, hb⟩ := ih
      refine ⟨y :: a, b, by rw [hl]; rfl, by rw [addPend, if_pos hy, hadd]; rfl, ?_, fun hp => hb hp.of_cons⟩
      rintro x (_ | ⟨_, hx⟩)
      · exact hy
      · exact ha x hx
    · refine ⟨[], y :: l, rfl, if_neg hy, by simp, fun hp x hx => ?_⟩
      obtain ⟨hfirst, _⟩ := List.pairwise_cons.mp hp
      rcases List.mem_cons.mp hx with rfl | hx
      · omega
      · have := hfirst x hx
        omega

theorem addPend_sorted {l : List PWrite} (w : PWrite) (hl : l.Pairwise (fun a b => a.due ≤ b.due)) :
    (addPend l w).Pairwise (fun a b => a.due ≤ b.due) := by
  obtain ⟨a, b, rfl, hadd, ha, hb⟩ := addPend_split l w
  rw [hadd, List.pairwise_append, List.pairwise_cons]
  obtain ⟨hpa, hpb, hab⟩ := List.pairwise_append.mp hl
  refine ⟨hpa, ⟨fun x hx => (hb hl x hx).le, hpb⟩, fun x hx y hy => ?_⟩
  rcases List.mem_cons.mp hy with rfl | hy
  · exact ha x hx
  · exact hab x hx y hy

@[simp] theorem pendView_append (a b : List PWrite) (tgt : PTgt) (tau base : Nat) :
    pendView (a ++ b) tgt tau base = pendView b tgt tau (pendView a tgt tau base) := List.foldl_append

/-- A read does not see a write of another target, or one that is not due before its cycle. -/
theorem pendView_cons_unseen {w : PWrite} {tgt : PTgt} {tau : Nat} (l : List PWrite) (base : Nat) (h : w.tgt ≠ tgt ∨ tau ≤ w.due) :
    pendView (w :: l) tgt tau base = pendView l tgt tau base := by
  have hno : ¬ (w.tgt = tgt ∧ w.due < tau) := by
    rintro ⟨htgt, hdue⟩
    rcases h with h | h
    · exact h htgt
    · omega
  exact congrArg (pendView l tgt tau) (if_neg hno)

theorem pendView_unseen {l : List PWrite} {tgt : PTgt} {tau : Nat} (base : Nat) (h : ∀ w ∈ l, w.tgt ≠ tgt ∨ tau ≤ w.due) :
    pendView l tgt tau base = base := by
  induction l with
  | nil => rfl
  | cons w l ih =>
    obtain ⟨hw, hl⟩ := List.forall_mem_cons.mp h
    rw [pendView_cons_unseen l base hw, ih hl]

theorem pendView_addPend_unseen (l : List PWrite) {w : PWrite} {tgt : PTgt} {tau : Nat} (base : Nat) (h : w.tgt ≠ tgt ∨ tau ≤ w.due) :
    pendView (addPend l w) tgt tau base = pendView l tgt tau base := by
  obtain ⟨a, b, rfl, hadd, _⟩ := addPend_split l w
  rw [hadd, pendView_append, pendView_cons_unseen _ _ h, pendView_append]

/-- The write of a register that is due last, of those in flight, is the one that a later read sees; among writes of one cycle it is the later
instruction's (R235). -/
theorem pendView_addPend_last {l : List PWrite} {w : PWrite} {tau : Nat} (base : Nat) (hl : l.Pairwise (fun a b => a.due ≤ b.due))
    (hlast : ∀ x ∈ l, x.tgt = w.tgt → x.due ≤ w.due) (hdue : w.due < tau) :
    pendView (addPend l w) w.tgt tau base = mergeBits (pendView l w.tgt tau base) w.mask w.val := by
  obtain ⟨a, b, rfl, hadd, _, hb⟩ := addPend_split l w
  have hrest (v : Nat) : pendView b w.tgt tau v = v := by
    refine pendView_unseen v (fun x hx => Or.inl (fun htgt => ?_))
    have hle := hlast x (List.mem_append_right a hx) htgt
    have hlt := hb hl x hx
    omega
  have hseen (v : Nat) : pendView (w :: b) w.tgt tau v = pendView b w.tgt tau (mergeBits v w.mask w.val) :=
    congrArg (pendView b w.tgt tau) (if_pos ⟨rfl, hdue⟩)
  rw [hadd, pendView_append, hseen, hrest, pendView_append, hrest]

/-- A write of all 16 bits of a register replaces its value. -/
theorem mergeBits_word {v w : Nat} (hv : v < 65536) (hw : w < 65536) : mergeBits v 0xFFFF w = w := by
  have hmask (u : Nat) (hu : u < 65536) : Nat.land u 0xFFFF = u := (Nat.and_two_pow_sub_one_eq_mod u 16).trans (Nat.mod_eq_of_lt hu)
  rw [mergeBits, hmask v hv, hmask w hw, Nat.sub_self, Nat.zero_add]

/-- Settles O45: a new write stands after those due no later, so a read takes it last; a read passes over what it does not see. -/
theorem pipelineWrites : Obligations.PipelineWrites := by
  unfold Obligations.PipelineWrites
  refine ⟨fun l w hl => addPend_sorted w hl, fun l w tau base htau => pendView_addPend_unseen l base (Or.inr htau),
    fun l w tgt tau base hne => pendView_addPend_unseen l base (Or.inl hne.symm),
    fun l w tau base hl hlast hdue => pendView_addPend_last base hl hlast hdue, fun v w hv hw => mergeBits_word hv hw⟩

end Sys2Proof.Machine

/-! SUPPORT. The signal engine's arithmetic (09 R222–R224, R229–R231): patterns and their signed values, the results of accumulator operations with their
flags, rounding, sign counts and normal form. -/

namespace Sys2Proof.Machine

/-! ### Patterns and signed values -/

theorem unsgn_lt (n : Nat) (x : Int) : unsgn n x < 2 ^ n := by
  have hlt : x % 2 ^ n < 2 ^ n := Int.emod_lt_of_pos x (by positivity)
  rw [← unsgn_natCast] at hlt
  exact_mod_cast hlt

/-- A 40-bit pattern of an integer in its range reads as that integer. -/
theorem sgn_unsgn_40 {x : Int} (hlow : -(2 ^ 39) ≤ x) (hhigh : x < 2 ^ 39) : sgn 40 (unsgn 40 x) = x := by
  have hp := unsgn_natCast 40 x
  have hlt := unsgn_lt 40 x
  rw [sgn, Nat.mod_eq_of_lt hlt]
  split <;> omega

theorem in32_iff (x : Int) : in32 x = true ↔ -(2 ^ 31) ≤ x ∧ x < 2 ^ 31 := by simp [in32]

theorem in32_false_iff (x : Int) : in32 x = false ↔ x < -(2 ^ 31) ∨ 2 ^ 31 ≤ x := by
  rw [← Bool.not_eq_true, in32_iff]
  omega

theorem sgn_unsgn_of_in32 {x : Int} (h : in32 x = true) : sgn 40 (unsgn 40 x) = x := by
  obtain ⟨hlow, hhigh⟩ := (in32_iff x).mp h
  exact sgn_unsgn_40 (by omega) (by omega)

theorem sgn_16_range (a : Nat) : -32768 ≤ sgn 16 a ∧ sgn 16 a ≤ 32767 := by
  rw [sgn]
  split <;> omega

theorem sgn_16_eq_min {a : Nat} (h : a < 65536) : sgn 16 a = -32768 ↔ a = 0x8000 := by
  rw [sgn]
  split <;> omega

/-! ### Products (R222) -/

theorem product_eq (frac : Bool) (a b : Nat) : product frac a b = (if frac then 2 else 1) * (sgn 16 a * sgn 16 b) := mul_comm _ _

/-- Two 16-bit factors reach 2^30 in absolute value only as the product of the two least ones. -/
theorem mul_range_16 {u v : Int} (hu : -32768 ≤ u ∧ u ≤ 32767) (hv : -32768 ≤ v ∧ v ≤ 32767) :
    -(2 ^ 30) ≤ u * v ∧ u * v ≤ 2 ^ 30 ∧ (u * v = 2 ^ 30 ↔ u = -32768 ∧ v = -32768) := by
  obtain ⟨hul, huh⟩ := hu
  obtain ⟨hvl, hvh⟩ := hv
  refine ⟨by nlinarith, by nlinarith, fun h => ?_, fun h => by rw [h.1, h.2]; rfl⟩
  constructor <;> nlinarith

/-- Only −1.0 × −1.0 of fractions leaves the 32-bit range. -/
theorem product_overflows_iff {frac : Bool} {a b : Nat} (ha : a < 65536) (hb : b < 65536) :
    in32 (product frac a b) = false ↔ frac = true ∧ a = 0x8000 ∧ b = 0x8000 := by
  obtain ⟨hlow, hhigh, hmax⟩ := mul_range_16 (sgn_16_range a) (sgn_16_range b)
  rw [in32_false_iff, product_eq, ← sgn_16_eq_min ha, ← sgn_16_eq_min hb, ← hmax]
  cases frac <;> simp <;> omega

/-! ### Results and flags (R223) -/

/-- Z, N and V are the low bits of what an operation writes into ST; the sticky bits, from bit 4 up, do not reach them. -/
theorem bitAt_flags (z n v : Bool) (k : Nat) :
    bitAt (b2n z * stZ + b2n n * stN + b2n v * stV + 16 * k) 0 = z ∧ bitAt (b2n z * stZ + b2n n * stN + b2n v * stV + 16 * k) 1 = n ∧
    bitAt (b2n z * stZ + b2n n * stN + b2n v * stV + 16 * k) 3 = v := by
  cases z <;> cases n <;> cases v <;> simp [bitAt, b2n, stZ, stN, stV] <;> omega

/-- The value that an accumulator takes for an exact result: the nearest of the 32-bit range, or its low 40 bits (R223). -/
def accValue (sata : Bool) (x : Int) : Nat := if sata && !in32 x then (if x < 0 then 0xFF80000000 else 0x007FFFFFFF) else unsgn 40 x

/-- The sticky bit that an exact result sets: SF of a saturation, the accumulator's LOV bit where the low 40 bits are another number (R223). -/
def accSticky (sata b : Bool) (x : Int) : Nat :=
  if sata && !in32 x then stSF else if !sata && decide (sgn 40 (accValue sata x) ≠ x) then stLOV b else 0

theorem accResult_eq (sata b : Bool) (x : Int) : accResult sata b x 0 =
    (accValue sata x, ⟨stZ + stN + stV + accSticky sata b x, zn40 (accValue sata x) + b2n (!in32 x) * stV + accSticky sata b x⟩) := by
  have hlor (k : Nat) : Nat.lor 0 k = k := Nat.zero_or k
  simp only [accResult, hlor]
  rfl

theorem accSticky_multiple (sata b : Bool) (x : Int) : ∃ k, accSticky sata b x = 16 * k := by
  unfold accSticky stLOV
  split_ifs
  exacts [⟨8, rfl⟩, ⟨4, rfl⟩, ⟨2, rfl⟩, ⟨0, rfl⟩]

theorem accResult_flags (sata b : Bool) (x : Int) : let r := accResult sata b x 0
    bitAt r.2.mask 3 = true ∧ bitAt r.2.val 3 = !in32 x ∧ bitAt r.2.mask 1 = true ∧ bitAt r.2.val 1 = bitAt r.1 39 ∧
    bitAt r.2.mask 0 = true ∧ bitAt r.2.val 0 = decide (r.1 = 0) := by
  obtain ⟨k, hk⟩ := accSticky_multiple sata b x
  obtain ⟨hz, hn, hv⟩ := bitAt_flags (accValue sata x = 0) (bitAt (accValue sata x) 39) (!in32 x) k
  obtain ⟨hmz, hmn, hmv⟩ := bitAt_flags true true true k
  rw [accResult_eq, hk]
  exact ⟨hmv, hv, hmn, hn, hmz, hz⟩

theorem accValue_lt (sata : Bool) (x : Int) : accValue sata x < 2 ^ 40 := by
  unfold accValue
  split_ifs
  · decide
  · decide
  · exact unsgn_lt 40 x

theorem accValue_of_in32 (sata : Bool) {x : Int} (h : in32 x = true) : accValue sata x = unsgn 40 x := by simp [accValue, h]

theorem accSticky_of_in32 (sata b : Bool) {x : Int} (h : in32 x = true) : accSticky sata b x = 0 := by
  simp [accSticky, h, accValue_of_in32 sata h, sgn_unsgn_of_in32 h]

/-- A saturated result is the end of the range on its side, and sets SF. -/
theorem accResult_saturated (b : Bool) {x : Int} (h : in32 x = false) : (accResult true b x 0).1 = (if x < 0 then 0xFF80000000 else 0x007FFFFFFF) ∧
    bitAt (accResult true b x 0).2.mask 7 = true ∧ bitAt (accResult true b x 0).2.val 7 = true := by
  have hsf (z n v : Bool) : bitAt (b2n z * stZ + b2n n * stN + b2n v * stV + stSF) 7 = true := by
    cases z <;> cases n <;> cases v <;> decide
  rw [accResult_eq]
  simp only [accValue, accSticky, h, Bool.not_false, Bool.and_true, if_true]
  exact ⟨trivial, hsf true true true, hsf _ _ _⟩

/-- Without saturation an accumulator keeps the low 40 bits, and its own LOV bit says when they are another number. -/
theorem accResult_wraps (b : Bool) (x : Int) : (accResult false b x 0).1 = (x % 2 ^ 40).toNat ∧
    bitAt (accResult false b x 0).2.mask 7 = false ∧
    (bitAt (accResult false b x 0).2.mask (if b then 6 else 5) = true ↔ sgn 40 (accResult false b x 0).1 ≠ x) ∧
    bitAt (accResult false b x 0).2.mask (if b then 5 else 6) = false ∧
    bitAt (accResult false b x 0).2.val (if b then 6 else 5) = bitAt (accResult false b x 0).2.mask (if b then 6 else 5) := by
  have hlov (z n v wrap : Bool) : let r := b2n z * stZ + b2n n * stN + b2n v * stV + (if wrap then stLOV b else 0)
      bitAt r 7 = false ∧ bitAt r (if b then 6 else 5) = wrap ∧ bitAt r (if b then 5 else 6) = false := by
    cases z <;> cases n <;> cases v <;> cases wrap <;> cases b <;> decide
  rw [accResult_eq]
  have hvalue : accValue false x = unsgn 40 x := rfl
  have hsticky : accSticky false b x = if decide (sgn 40 (unsgn 40 x) ≠ x) then stLOV b else 0 := rfl
  rw [hvalue, hsticky]
  obtain ⟨hsf, hown, hother⟩ := hlov true true true (decide (sgn 40 (unsgn 40 x) ≠ x))
  obtain ⟨_, hval, _⟩ := hlov (unsgn 40 x = 0) (bitAt (unsgn 40 x) 39) (!in32 x) (decide (sgn 40 (unsgn 40 x) ≠ x))
  refine ⟨rfl, hsf, ?_, hother, hval.trans hown.symm⟩
  rw [show bitAt (stZ + stN + stV + _) _ = _ from hown]
  exact decide_eq_true_iff

/-- Settles O42: the value and the sticky bit of an exact result are `accValue` and `accSticky`. -/
theorem engineArithmetic : Obligations.EngineArithmetic := by
  unfold Obligations.EngineArithmetic
  refine ⟨fun frac a b ha hb => ⟨product_eq frac a b, product_overflows_iff ha hb⟩, by decide, fun sata b x _ _ => ⟨?bound, accResult_flags sata b x⟩,
    fun b x hx => ?above, fun b x hx => ?below, fun sata b x hx => ?inRange, fun b x _ _ => accResult_wraps b x⟩
  case bound =>
    rw [accResult_eq]
    exact accValue_lt sata x
  case above =>
    have hout := accResult_saturated b ((in32_false_iff x).mpr (Or.inr hx))
    rwa [if_neg (by omega)] at hout
  case below =>
    have hout := accResult_saturated b ((in32_false_iff x).mpr (Or.inl hx))
    rwa [if_pos (by omega)] at hout
  case inRange =>
    rw [accResult_eq, accValue_of_in32 sata hx, accSticky_of_in32 sata b hx]
    exact ⟨sgn_unsgn_of_in32 hx, rfl⟩

/-! ### Rounding (R224) -/

/-- A rounded pattern has its low half cleared, and the flags describe it: what the unrounded result set in Z and N is replaced. -/
theorem accRound_flags (sata b : Bool) (rnd p pre : Nat) : let r := accRound sata b rnd p pre
    r.1 % 65536 = 0 ∧ bitAt r.2.val 1 = bitAt r.1 39 ∧ bitAt r.2.val 0 = decide (r.1 = 0) := by
  have hlow (x : Nat) : x - Nat.land x (stZ + stN) = 4 * (x / 4) := by
    have hland : Nat.land x (stZ + stN) = x % 4 := Nat.and_two_pow_sub_one_eq_mod x 2
    omega
  have hbits (z n : Bool) (k : Nat) : bitAt (4 * k + (b2n z * stZ + b2n n * stN)) 0 = z ∧ bitAt (4 * k + (b2n z * stZ + b2n n * stN)) 1 = n := by
    cases z <;> cases n <;> simp [bitAt, b2n, stZ, stN] <;> omega
  intro r
  have hval : r.2.val = 4 * ((accResult sata b (roundAdd rnd (sgn 40 p)) pre).2.val / 4) + zn40 r.1 := congrArg (· + zn40 r.1) (hlow _)
  obtain ⟨hz, hn⟩ := hbits (r.1 = 0) (bitAt r.1 39) ((accResult sata b (roundAdd rnd (sgn 40 p)) pre).2.val / 4)
  exact ⟨Nat.mul_mod_left _ _, hval ▸ hn, hval ▸ hz⟩

/-- In the 32-bit range rounding is the addition of its form, then the multiple of 2^16 below. -/
theorem sgn_accRound (b : Bool) {rnd p : Nat} {x : Int} (hadd : roundAdd rnd (sgn 40 p) = x) (h : in32 x = true) :
    sgn 40 (accRound true b rnd p 0).1 = x / 65536 * 65536 := by
  obtain ⟨hlow, hhigh⟩ := (in32_iff x).mp h
  have hvalue : (accRound true b rnd p 0).1 = unsgn 40 (x / 65536 * 65536) := by
    have hdef : (accRound true b rnd p 0).1 = (accResult true b (roundAdd rnd (sgn 40 p)) 0).1 / 65536 * 65536 := rfl
    have hfloor := unsgn_natCast 40 (x / 65536 * 65536)
    have hwhole := unsgn_natCast 40 x
    rw [hdef, hadd, accResult_eq, accValue_of_in32 true h]
    omega
  rw [hvalue, sgn_unsgn_40 (by omega) (by omega)]

/-- The convergent form leaves a value half way between two multiples where the one below is even (R224). -/
theorem roundAdd_halfway {p : Nat} (h : bits p 15 0 = 0x8000) :
    roundAdd 2 (sgn 40 p) = if bitAt p 16 then sgn 40 p + 32768 else sgn 40 p := by
  have hhalf : sgn 40 p % 65536 = 32768 := by
    have hbits : p % 65536 = 0x8000 := by simpa [bits] using h
    rw [sgn]
    split <;> omega
  have heven : sgn 40 p / 65536 % 2 = 0 ↔ bitAt p 16 = false := by
    have hbit : bitAt p 16 = false ↔ ¬ p / 65536 % 2 = 1 := by simp [bitAt]
    rw [hbit, sgn]
    split <;> omega
  cases hbit : bitAt p 16 <;> simp [roundAdd, hhalf, heven, hbit]

/-! ### Sign counts (R229) -/

/-- The number of leading indexes with a property: they all have it, and the next one has not. -/
theorem length_takeWhile_range (n : Nat) (f : Nat → Bool) : let k := ((List.range n).takeWhile f).length
    k ≤ n ∧ (∀ i, i < k → f i = true) ∧ (k < n → f k = false) := by
  intro k
  have hle : (List.range n).findIdx (fun i => !f i) ≤ n := by simpa using List.findIdx_le_length (xs := List.range n) (p := fun i => !f i)
  have hk : k = (List.range n).findIdx (fun i => !f i) := by
    simp only [k, List.takeWhile_eq_take_findIdx_not, List.length_take, List.length_range]
    exact Nat.min_eq_left hle
  rw [hk]
  refine ⟨hle, fun i hi => ?_, fun hlt => ?_⟩
  · simpa using List.not_of_lt_findIdx hi
  · have hnext := List.findIdx_getElem (p := fun i => !f i) (xs := List.range n) (w := by simpa using hlt)
    rw [List.getElem_range] at hnext
    simpa using hnext

theorem signCount_spec (w p : Nat) : signCount w p ≤ w - 1 ∧ (∀ i, i < signCount w p → bitAt p (w - 2 - i) = bitAt p (w - 1)) ∧
    (signCount w p < w - 1 → bitAt p (w - 2 - signCount w p) ≠ bitAt p (w - 1)) := by
  obtain ⟨hle, hsame, hnext⟩ := length_takeWhile_range (w - 1) (fun i => bitAt p (w - 2 - i) == bitAt p (w - 1))
  exact ⟨hle, fun i hi => eq_of_beq (hsame i hi), fun hlt => ne_of_beq_false (hnext hlt)⟩

theorem headroom_range (p : Nat) : -31 ≤ headroom p ∧ headroom p ≤ 8 := by
  obtain ⟨hle, _⟩ := signCount_spec 40 p
  unfold headroom
  split <;> omega

/-! ### Normal form (R231) -/

/-- The redundant sign bits of a pattern, read off its magnitude `q`: the pattern itself, or its complement. -/
theorem signCount_magnitude {p q : Nat} (hq : q < 2 ^ 39) (hbit : ∀ i < 39, q.testBit i = (bitAt p i != bitAt p 39)) :
    q < 2 ^ (39 - signCount 40 p) ∧ (signCount 40 p < 39 → 2 ^ (38 - signCount 40 p) ≤ q) := by
  obtain ⟨hle, hsame, hnext⟩ := signCount_spec 40 p
  generalize signCount 40 p = n at *
  constructor
  · refine Nat.lt_pow_two_of_testBit q (fun i hi => ?_)
    by_cases hi39 : i < 39
    · have hsign := hsame (38 - i) (by omega)
      rw [show 40 - 2 - (38 - i) = i by omega] at hsign
      rw [hbit i hi39, hsign]
      exact bne_self_eq_false _
    · exact Nat.testBit_lt_two_pow (hq.trans_le (Nat.pow_le_pow_right (by decide) (by omega)))
  · intro hn
    refine Nat.ge_two_pow_of_testBit ?_
    rw [hbit _ (by omega)]
    exact bne_iff_ne.mpr (hnext hn)

/-- The sign count fixes the size of a signed value, from half of 2^(39 − count) up to it. -/
theorem sgn_of_signCount {p : Nat} (hp : p < 2 ^ 40) (hne : p ≠ 0) : let m : Int := 2 ^ (39 - signCount 40 p)
    (m ≤ 2 * sgn 40 p ∧ sgn 40 p < m) ∨ (-m ≤ sgn 40 p ∧ 2 * sgn 40 p < -m) := by
  have hsize {q : Nat} (hlt : q < 2 ^ (39 - signCount 40 p)) (hle : signCount 40 p < 39 → 2 ^ (38 - signCount 40 p) ≤ q) :
      (q : Int) < 2 ^ (39 - signCount 40 p) ∧ (2 : Int) ^ (39 - signCount 40 p) ≤ 2 * q + 1 ∧
        (q ≠ 0 → (2 : Int) ^ (39 - signCount 40 p) ≤ 2 * q) := by
    refine ⟨by exact_mod_cast hlt, ?_⟩
    by_cases hn : signCount 40 p < 39
    · have hhalf : (2 : Int) ^ (39 - signCount 40 p) = 2 * 2 ^ (38 - signCount 40 p) := by
        rw [show 39 - signCount 40 p = 38 - signCount 40 p + 1 by omega, pow_succ, mul_comm]
      have hq : (2 : Int) ^ (38 - signCount 40 p) ≤ q := by exact_mod_cast hle hn
      omega
    · rw [show 39 - signCount 40 p = 0 by omega, pow_zero]
      omega
  have hbitAt (i : Nat) := bitAt_eq_testBit p i
  by_cases hsign : p < 2 ^ 39
  · have htop : bitAt p 39 = false := (hbitAt 39).trans (Nat.testBit_lt_two_pow hsign)
    obtain ⟨hlt, hle⟩ := signCount_magnitude hsign (fun i _ => by rw [htop, hbitAt, Bool.bne_false])
    have hx : sgn 40 p = p := by rw [sgn, Nat.mod_eq_of_lt hp, if_pos hsign]
    obtain ⟨hupper, _, hlower⟩ := hsize hlt hle
    exact Or.inl (hx ▸ ⟨hlower hne, hupper⟩)
  · have htop : bitAt p 39 = true := by
      rw [bitAt, decide_eq_true_iff]
      omega
    obtain ⟨hlt, hle⟩ := signCount_magnitude (p := p) (q := 2 ^ 40 - (p + 1)) (by omega) (fun i hi => by
      rw [Nat.testBit_two_pow_sub_succ hp, htop, hbitAt, Bool.bne_true, decide_eq_true (by omega), Bool.true_and])
    have hx : sgn 40 p = -((2 ^ 40 - (p + 1) : Nat) : Int) - 1 := by
      rw [sgn, Nat.mod_eq_of_lt hp, if_neg hsign]
      omega
    obtain ⟨hupper, hlower, _⟩ := hsize hlt hle
    refine Or.inr ?_
    rw [hx]
    omega

/-- A value in normal form: bit 31 of the accumulator is the sign, and bit 30 differs from it (R231). -/
theorem normShift_eq {p : Nat} (hp : p < 2 ^ 40) (hne : p ≠ 0) :
    ∃ v : Int, normShift p = unsgn 40 v ∧ ((2 ^ 30 ≤ v ∧ v < 2 ^ 31) ∨ (-(2 ^ 31) ≤ v ∧ v < -(2 ^ 30))) := by
  have hsize := sgn_of_signCount hp hne
  obtain ⟨hcount, _⟩ := signCount_spec 40 p
  have hhead : headroom p = 8 - (signCount 40 p : Int) := if_neg hne
  rw [normShift, if_neg hne, hhead]
  generalize signCount 40 p = n at *
  generalize sgn 40 p = x at *
  dsimp only at hsize
  by_cases hn : n ≤ 8
  · refine ⟨_, if_pos (by omega), ?_⟩
    rw [show (8 - (n : Int)).toNat = 8 - n by omega]
    have hpos : (0 : Int) < 2 ^ (8 - n) := by positivity
    rw [show 39 - n = 31 + (8 - n) by omega, pow_add] at hsize
    rw [Int.le_ediv_iff_mul_le hpos, Int.ediv_lt_iff_lt_mul hpos, Int.le_ediv_iff_mul_le hpos, Int.ediv_lt_iff_lt_mul hpos]
    omega
  · refine ⟨_, if_neg (by omega), ?_⟩
    rw [show (-(8 - (n : Int))).toNat = n - 8 by omega]
    have hpos : (0 : Int) < 2 ^ (n - 8) := by positivity
    have hprod : (2 : Int) ^ (39 - n) * 2 ^ (n - 8) = 2 ^ 31 := by
      rw [← pow_add]
      congr 1
      omega
    generalize (2 : Int) ^ (39 - n) = m at *
    generalize (2 : Int) ^ (n - 8) = k at *
    rcases hsize with ⟨hlow, hhigh⟩ | ⟨hlow, hhigh⟩
    · exact Or.inl ⟨by nlinarith, by nlinarith⟩
    · exact Or.inr ⟨by nlinarith, by nlinarith⟩

theorem normShift_range {p : Nat} (hp : p < 2 ^ 40) (hne : p ≠ 0) :
    (0x40000000 ≤ normShift p ∧ normShift p ≤ 0x7FFFFFFF) ∨ (0xFF80000000 ≤ normShift p ∧ normShift p ≤ 0xFFBFFFFFFF) := by
  obtain ⟨v, heq, hrange⟩ := normShift_eq hp hne
  have hv := unsgn_natCast 40 v
  rw [heq]
  omega

/-- Settles O43: rounding adds, then clears the low half; the sign count sizes the value that NORM shifts. -/
theorem roundingAndExponents : Obligations.RoundingAndExponents := by
  unfold Obligations.RoundingAndExponents
  refine ⟨fun sata b rnd p _ _ => accRound_flags sata b rnd p 0, fun b p _ h => sgn_accRound b rfl h, fun b p _ h => sgn_accRound b rfl h,
    fun b p _ hup hhalf hdown => ?convergent, fun w p _ _ => signCount_spec w p, by decide, fun p _ => headroom_range p,
    fun p hp hne => normShift_range hp hne, by decide⟩
  case convergent =>
    have hadd := roundAdd_halfway hhalf
    cases hbit : bitAt p 16 with
    | true =>
      rw [hbit, if_pos rfl] at hadd
      exact sgn_accRound b hadd hup
    | false =>
      rw [hbit, if_neg Bool.false_ne_true] at hadd
      exact sgn_accRound b hadd hdown

end Sys2Proof.Machine

/-! SUPPORT. The signal engine's instruction words (09 R226; 10 R236–R245): what the decoder of each field reads, the word of each instruction read
back, and the word of what each branch of the decoder gives. -/

namespace Sys2Proof.Machine

/-! ### Bits and operand fields (R226, R237–R239, R241) -/

theorem finOf_eq_some {n v : Nat} {x : Fin n} : finOf n v = some x ↔ x.val = v := by
  unfold finOf
  split
  · simp only [Option.some.injEq, Fin.ext_iff]
    exact eq_comm
  · simp only [reduceCtorEq, false_iff]
    exact fun h => absurd x.isLt (h ▸ ‹_›)

theorem b2n_false : b2n false = 0 := rfl

theorem b2n_true : b2n true = 1 := rfl

theorem b2n_bitAt (w n : Nat) : b2n (bitAt w n) = w / 2 ^ n % 2 := by
  simp only [b2n, bitAt, decide_eq_true_eq]
  split <;> omega

theorem bitAt_eq_iff {w n : Nat} {b : Bool} : bitAt w n = b ↔ w / 2 ^ n % 2 = b2n b := by
  rw [← b2n_bitAt]
  cases bitAt w n <;> cases b <;> decide

theorem bits_lt (w hi lo : Nat) : bits w hi lo < 2 ^ (hi + 1 - lo) := Nat.mod_lt _ (Nat.two_pow_pos _)

theorem encAM_lt {n : Nat} (a : AMode (n + 1)) : (encAM a).1 < 8 ∧ (encAM a).2 < n + 1 := by
  cases a <;> simp only [encAM] <;> omega

theorem decAM_eq_some {n am mk : Nat} {a : AMode n} : decAM n am mk = some a ↔ encAM a = (am, mk) := by
  constructor
  · intro h
    unfold decAM at h
    split at h
    · split at h <;> cases h; subst_vars; rfl
    · split at h <;> cases h; subst_vars; rfl
    · split at h <;> cases h; subst_vars; rfl
    · obtain ⟨k, hk, rfl⟩ := Option.map_eq_some_iff.1 h
      rw [encAM, finOf_eq_some.1 hk]
    · obtain ⟨k, hk, rfl⟩ := Option.map_eq_some_iff.1 h
      rw [encAM, finOf_eq_some.1 hk]
    · obtain ⟨k, hk, rfl⟩ := Option.map_eq_some_iff.1 h
      rw [encAM, finOf_eq_some.1 hk]
    · cases h
  · intro h
    have hfin (k : Fin n) : finOf n k = some k := finOf_eq_some.2 rfl
    cases a <;> cases h <;> simp [decAM, hfin]

theorem decSO_eq_some {v : Nat} {o : SOp} (hv : v < 2 ^ 9) : decSO v = some o ↔ encSO o = v := by
  obtain ⟨y, pn, am⟩ := o
  have ham := encAM_lt am
  have hy := b2n_lt_two y
  simp only [decSO, Option.map_eq_some_iff, SOp.mk.injEq, bitAt_eq_iff, Fin.ext_iff, Fin.val_ofNat, decAM_eq_some, encSO, Prod.ext_iff,
    bits]
  constructor
  · rintro ⟨a, ⟨ham, hmk⟩, hy, hpn, rfl⟩
    omega
  · exact fun h => ⟨am, by omega, by omega, by omega, rfl⟩

theorem decXO_eq_some {v : Nat} {o : XOp} (hv : v < 2 ^ 6) : decXO v = some o ↔ encXO o = v := by
  obtain ⟨px, am⟩ := o
  have ham := encAM_lt am
  simp only [decXO, Option.map_eq_some_iff, XOp.mk.injEq, Fin.ext_iff, Fin.val_ofNat, decAM_eq_some, encXO, Prod.ext_iff, bits]
  constructor
  · rintro ⟨a, ⟨hmode, hmod⟩, hpx, rfl⟩
    omega
  · exact fun h => ⟨am, by omega, by omega, rfl⟩

theorem decYO_eq_some {v : Nat} {o : YOp} (hv : v < 2 ^ 6) : decYO v = some o ↔ encYO o = v := by
  obtain ⟨py, am⟩ := o
  have ham := encAM_lt am
  simp only [decYO, Option.map_eq_some_iff, YOp.mk.injEq, Fin.ext_iff, Fin.val_ofNat, decAM_eq_some, encYO, Prod.ext_iff, bits]
  constructor
  · rintro ⟨a, ⟨hmode, hmod⟩, hpy, rfl⟩
    omega
  · exact fun h => ⟨am, by omega, by omega, rfl⟩

theorem decAx_eq_some {r : Nat} {b : Bool} : decAx r = some b ↔ b2n b = r := by
  unfold decAx
  split_ifs <;> cases b <;> simp [b2n] <;> omega

theorem encKind_lt (p : PKind) : (encKind p).1 < 4 ∧ (encKind p).2 < 8 := by
  match p with
  | .load d | .store d => simp only [encKind]; omega
  | .storeU b bx => cases b <;> cases bx <;> decide

theorem decKind_eq_some {k r : Nat} {p : PKind} (hk : k < 4) (hr : r < 8) : decKind k r = some p ↔ encKind p = (k, r) := by
  constructor
  · intro h
    unfold decKind at h
    split at h
    · cases h; simp [encKind, Nat.mod_eq_of_lt hr]
    · cases h; simp [encKind, Nat.mod_eq_of_lt hr]
    · obtain ⟨b, hb, rfl⟩ := Option.map_eq_some_iff.1 h
      rw [encKind, decAx_eq_some.1 hb]
    · obtain ⟨b, hb, rfl⟩ := Option.map_eq_some_iff.1 h
      rw [encKind, decAx_eq_some.1 hb]
      simp only [imp_false] at *
      rw [show k = 3 by omega]
  · match p with
    | .load d | .store d => rintro ⟨⟩; simp [decKind]
    | .storeU b false | .storeU b true => rintro ⟨⟩; simp [decKind, decAx_eq_some.2 rfl]

theorem encSO_lt (o : SOp) : encSO o < 2 ^ 9 := by
  have ham := encAM_lt o.am
  have hy := b2n_lt_two o.y
  unfold encSO
  omega

theorem encXO_lt (o : XOp) : encXO o < 2 ^ 6 := by
  have ham := encAM_lt o.am
  unfold encXO
  omega

theorem encYO_lt (o : YOp) : encYO o < 2 ^ 6 := by
  have ham := encAM_lt o.am
  unfold encYO
  omega

theorem encPMV_lt (mv : Option PMove) : encPMV mv < 2 ^ 15 := by
  match mv with
  | none => decide
  | some m =>
    have hkind := encKind_lt m.kind
    have hso := encSO_lt m.so
    simp only [encPMV]
    omega

theorem decPMV_eq_some {v : Nat} {mv : Option PMove} (hv : v < 2 ^ 15) : decPMV v = some mv ↔ encPMV mv = v := by
  have hkind {k : PKind} : decKind (bits v 13 12) (bits v 11 9) = some k ↔ encKind k = (bits v 13 12, bits v 11 9) :=
    decKind_eq_some (bits_lt v 13 12) (bits_lt v 11 9)
  have hso {o : SOp} : decSO (bits v 8 0) = some o ↔ encSO o = bits v 8 0 := decSO_eq_some (bits_lt v 8 0)
  constructor
  · intro h
    simp only [decPMV, bitAt, decide_eq_true_eq] at h
    split at h
    · split at h
      · cases h
        rename_i hk ho
        simp only [encPMV, hkind.1 hk, hso.1 ho, bits]
        omega
      · cases h
    · split at h <;> cases h
      simp only [encPMV]
      omega
  · match mv with
    | none =>
      rintro rfl
      rfl
    | some ⟨k, o⟩ =>
      intro h
      have hk := encKind_lt k
      have ho := encSO_lt o
      simp only [encPMV] at h
      have hbit : bitAt v 14 = true := by
        simp only [bitAt, decide_eq_true_eq]
        omega
      have hkinds : encKind k = (bits v 13 12, bits v 11 9) := Prod.ext (by simp only [bits]; omega) (by simp only [bits]; omega)
      have hop : encSO o = bits v 8 0 := by simp only [bits]; omega
      rw [decPMV, if_pos hbit, hkind.2 hkinds, hso.2 hop]

theorem decSrc_eq_some {w : Nat} {src : MSrc} : decSrc w = some src ↔ encSrc src = w % 2 ^ 24 := by
  have hpmv {mv : Option PMove} : decPMV (bits w 14 0) = some mv ↔ encPMV mv = bits w 14 0 := decPMV_eq_some (bits_lt w 14 0)
  have hso {o : SOp} : decSO (bits w 18 10) = some o ↔ encSO o = bits w 18 10 := decSO_eq_some (bits_lt w 18 10)
  have hxo {o : XOp} : decXO (bits w 21 16) = some o ↔ encXO o = bits w 21 16 := decXO_eq_some (bits_lt w 21 16)
  have hyo {o : YOp} : decYO (bits w 15 10) = some o ↔ encYO o = bits w 15 10 := decYO_eq_some (bits_lt w 15 10)
  have hyp {o : YOp} : decYO (bits w 21 16) = some o ↔ encYO o = bits w 21 16 := decYO_eq_some (bits_lt w 21 16)
  constructor
  · intro h
    unfold decSrc at h
    split at h
    next hkind =>
      split at h
      · cases h
      next hbit =>
        obtain ⟨mv, hmv, rfl⟩ := Option.map_eq_some_iff.1 h
        simp only [encSrc, hpmv.1 hmv, Fin.val_ofNat, bits, bitAt, decide_eq_true_eq] at *
        omega
    next hkind =>
      obtain ⟨hzero, h⟩ := Option.ite_none_right_eq_some.1 h
      obtain ⟨o, ho, rfl⟩ := Option.map_eq_some_iff.1 h
      simp only [encSrc, hso.1 ho, Fin.val_ofNat, bits] at *
      omega
    next hkind =>
      obtain ⟨hzero, h⟩ := Option.ite_none_right_eq_some.1 h
      split at h
      next x y hx hy =>
        cases h
        simp only [encSrc, hxo.1 hx, hyo.1 hy, bits] at *
        omega
      · cases h
    next h0 h1 h2 =>
      split at h
      next y mv hy hmv =>
        cases h
        simp only [encSrc, hyp.1 hy, hpmv.1 hmv, b2n_bitAt, imp_false, bits] at *
        omega
      · cases h
  · intro h
    match src with
    | .dd m n mv =>
      have hlt := encPMV_lt mv
      simp only [encSrc] at h
      obtain ⟨hkind, hm, hn, hv⟩ : bits w 23 22 = 0 ∧ bits w 21 19 = m ∧ bits w 18 16 = n ∧ encPMV mv = bits w 14 0 := by
        simp only [bits]; omega
      have hbit : bitAt w 15 = false := by rw [bitAt_eq_iff, b2n_false]; omega
      simp [decSrc, hkind, hbit, hm, hn, hpmv.2 hv]
    | .dm m so =>
      have hlt := encSO_lt so
      simp only [encSrc] at h
      obtain ⟨hkind, hm, hzero, hv⟩ : bits w 23 22 = 1 ∧ bits w 21 19 = m ∧ bits w 9 0 = 0 ∧ encSO so = bits w 18 10 := by
        simp only [bits]; omega
      simp [decSrc, hkind, hzero, hm, hso.2 hv]
    | .xy x y =>
      have hxlt := encXO_lt x
      have hylt := encYO_lt y
      simp only [encSrc] at h
      obtain ⟨hkind, hzero, hx, hy⟩ : bits w 23 22 = 2 ∧ bits w 9 0 = 0 ∧ encXO x = bits w 21 16 ∧ encYO y = bits w 15 10 := by
        simp only [bits]; omega
      simp [decSrc, hkind, hzero, hxo.2 hx, hyo.2 hy]
    | .yp y pp mv =>
      have hylt := encYO_lt y
      have hlt := encPMV_lt mv
      have hpplt := b2n_lt_two pp
      simp only [encSrc] at h
      obtain ⟨hkind, hy, hv⟩ : bits w 23 22 = 3 ∧ encYO y = bits w 21 16 ∧ encPMV mv = bits w 14 0 := by
        simp only [bits]; omega
      have hbit : bitAt w 15 = pp := by rw [bitAt_eq_iff]; omega
      simp [decSrc, hkind, hbit, hyp.2 hy, hpmv.2 hv]

theorem mulOp_code_lt (op : MulOp) : op.code < 6 := by cases op <;> decide

theorem decMulOp_eq_some {c : Nat} {op : MulOp} : decMulOp c = some op ↔ op.code = c := by
  constructor
  · intro h
    unfold decMulOp at h
    split at h <;> cases h <;> rfl
  · rintro rfl
    cases op <;> rfl

theorem dOp_code_lt (op : DOp) : op.code < 8 := by cases op <;> decide

theorem decDOp_eq_some {c : Nat} {op : DOp} : decDOp c = some op ↔ op.code = c := by
  constructor
  · intro h
    unfold decDOp at h
    split at h <;> cases h <;> rfl
  · rintro rfl
    cases op <;> rfl

theorem encSrc_lt (src : MSrc) : encSrc src < 2 ^ 24 := by
  match src with
  | .dd m n mv =>
    have hmv := encPMV_lt mv
    simp only [encSrc]
    omega
  | .dm m so =>
    have hso := encSO_lt so
    simp only [encSrc]
    omega
  | .xy x y =>
    have hx := encXO_lt x
    have hy := encYO_lt y
    simp only [encSrc]
    omega
  | .yp y pp mv =>
    have hy := encYO_lt y
    have hpp := b2n_lt_two pp
    have hmv := encPMV_lt mv
    simp only [encSrc]
    omega

theorem encDSrc_lt (b : DSrc) : encDSrc b < 2 ^ 18 := by
  cases b <;> simp only [encDSrc] <;> omega

theorem decDSrc_eq_some {w : Nat} {b : DSrc} : decDSrc w = some b ↔ encDSrc b = w % 2 ^ 18 := by
  constructor
  · intro h
    unfold decDSrc at h
    split_ifs at h with himm hzero hrest <;> cases h
    · simp only [encDSrc, Fin.val_ofNat, bits, bitAt, decide_eq_true_eq] at *
      omega
    · simp only [encDSrc, Fin.val_ofNat, bits, bitAt, decide_eq_true_eq] at *
      omega
  · intro h
    match b with
    | .reg t =>
      simp only [encDSrc] at h
      obtain ⟨ht, hzero⟩ : bits w 16 14 = t ∧ bits w 13 0 = 0 := by simp only [bits]; omega
      have himm : bitAt w 17 = false := by rw [bitAt_eq_iff, b2n_false]; omega
      simp [decDSrc, himm, ht, hzero]
    | .imm v =>
      simp only [encDSrc] at h
      have hv : bits w 15 0 = v := by simp only [bits]; omega
      have himm : bitAt w 17 = true := by rw [bitAt_eq_iff, b2n_true]; omega
      have hzero : bitAt w 16 = false := by rw [bitAt_eq_iff, b2n_false]; omega
      simp [decDSrc, himm, hzero, hv]

/-! ### Words from instructions -/

/-- The word of `op` has 32 bits and decodes to `op`. -/
def ReadsBack (op : EOp) : Prop := ∀ w, encodeEngine op = w → w < 2 ^ 32 ∧ decodeEngine w = some op

theorem readsBack_mul (op : MulOp) (a : Bool) {src : MSrc} (hok : src.ok = true) : ReadsBack (.mul op a src) := by
  intro w h
  have hcode := mulOp_code_lt op
  have ha := b2n_lt_two a
  have hsrc := encSrc_lt src
  simp only [encodeEngine] at h
  obtain ⟨hlt, hgroup, hop, hargs⟩ : w < 2 ^ 32 ∧ bits w 31 28 = 0 ∧ op.code = bits w 27 25 ∧ encSrc src = w % 2 ^ 24 := by
    simp only [bits]; omega
  have hbit : bitAt w 24 = a := by rw [bitAt_eq_iff]; omega
  exact ⟨hlt, by simp [decodeEngine, decMul, hgroup, decMulOp_eq_some.2 hop, decSrc_eq_some.2 hargs, hok, hbit]⟩

section
variable {aop : Nat} {ad as : Bool} {dn : Fin 8} {sh : Fin 16} {mv : Option PMove} {w : Nat} (h : encAcc aop (b2n ad) (b2n as) dn sh mv = w)
include h

/-- The group and the fields of an accumulator word. -/
theorem encAcc_fields (haop : aop < 16) : w < 2 ^ 32 ∧ decodeEngine w = decAcc w ∧ bits w 27 24 = aop ∧ bitAt w 23 = ad ∧ bitAt w 22 = as ∧
    bits w 21 19 = dn ∧ bits w 18 15 = sh ∧ decPMV (bits w 14 0) = some mv := by
  have had := b2n_lt_two ad
  have has := b2n_lt_two as
  have hmv := encPMV_lt mv
  simp only [encAcc] at h
  have hgroup : bits w 31 28 = 1 := by simp only [bits]; omega
  have hmove : decPMV (bits w 14 0) = some mv := (decPMV_eq_some (bits_lt w 14 0)).2 (by simp only [bits]; omega)
  refine ⟨by omega, by simp only [decodeEngine, hgroup], ?_, ?_, ?_, ?_, ?_, hmove⟩ <;> simp only [bitAt_eq_iff, bits] <;> omega

/-- The unused fields of an accumulator word together. -/
theorem encAcc_unused : bits w 21 15 = dn * 16 + sh ∧ bits w 22 15 = b2n as * 128 + dn * 16 + sh := by
  have has := b2n_lt_two as
  have hmv := encPMV_lt mv
  simp only [encAcc] at h
  constructor <;> simp only [bits] <;> omega

end

theorem readsBack_acc (op : AccOp) (ad as : Bool) (mv : Option PMove) : ReadsBack (.acc op ad as mv) := by
  intro w h
  have hop : op.code < 16 := by cases op <;> decide
  obtain ⟨hlt, hdec, hcode, had, has, -, -, hmv⟩ := encAcc_fields (dn := 0) (sh := 0) h hop
  have hzero : bits w 21 15 = 0 := (encAcc_unused (dn := 0) (sh := 0) h).1
  exact ⟨hlt, by cases op <;> simp [hdec, decAcc, hmv, hcode, AccOp.code, had, has, hzero]⟩

theorem readsBack_accd (sub ad : Bool) (dn : Fin 8) (sh : Fin 16) (mv : Option PMove) : ReadsBack (.accd sub ad dn sh mv) := by
  intro w h
  obtain ⟨hlt, hdec, hcode, had, has, hdn, hsh, hmv⟩ := encAcc_fields (as := false) h (by cases sub <;> decide)
  exact ⟨hlt, by cases sub <;> simp [hdec, decAcc, hmv, hcode, b2n, had, has, hdn, hsh]⟩

theorem readsBack_clr (ad : Bool) (mv : Option PMove) : ReadsBack (.clr ad mv) := by
  intro w h
  obtain ⟨hlt, hdec, hcode, had, -, -, -, hmv⟩ := encAcc_fields (as := false) (dn := 0) (sh := 0) h (by decide)
  have hzero : bits w 22 15 = 0 := (encAcc_unused (as := false) (dn := 0) (sh := 0) h).2
  exact ⟨hlt, by simp [hdec, decAcc, hmv, hcode, had, hzero]⟩

theorem readsBack_shl (ad as : Bool) (sh : Fin 16) (mv : Option PMove) : ReadsBack (.shl ad as sh mv) := by
  intro w h
  obtain ⟨hlt, hdec, hcode, had, has, hdn, hsh, hmv⟩ := encAcc_fields (dn := 0) h (by decide)
  exact ⟨hlt, by simp [hdec, decAcc, hmv, hcode, had, has, hdn, hsh]⟩

theorem readsBack_shr (ad as : Bool) (sh : Fin 16) (mv : Option PMove) : ReadsBack (.shr ad as sh mv) := by
  intro w h
  obtain ⟨hlt, hdec, hcode, had, has, hdn, hsh, hmv⟩ := encAcc_fields (dn := 0) h (by decide)
  exact ⟨hlt, by simp [hdec, decAcc, hmv, hcode, had, has, hdn, hsh]⟩

theorem readsBack_exp (as : Bool) (dn : Fin 8) (mv : Option PMove) : ReadsBack (.exp as dn mv) := by
  intro w h
  obtain ⟨hlt, hdec, hcode, had, has, hdn, hsh, hmv⟩ := encAcc_fields (ad := false) (sh := 0) h (by decide)
  exact ⟨hlt, by simp [hdec, decAcc, hmv, hcode, had, has, hdn, hsh]⟩

theorem readsBack_norm (ad : Bool) (dn : Fin 8) (mv : Option PMove) : ReadsBack (.norm ad dn mv) := by
  intro w h
  obtain ⟨hlt, hdec, hcode, had, has, hdn, hsh, hmv⟩ := encAcc_fields (as := false) (sh := 0) h (by decide)
  exact ⟨hlt, by simp [hdec, decAcc, hmv, hcode, had, has, hdn, hsh]⟩

theorem readsBack_darith (op : DOp) (dd ds : Fin 8) (b : DSrc) : ReadsBack (.darith op dd ds b) := by
  intro w h
  have hop := dOp_code_lt op
  have hb := encDSrc_lt b
  simp only [encodeEngine] at h
  obtain ⟨hlt, hgroup, hcode, hdd, hds, hsrc⟩ : w < 2 ^ 32 ∧ bits w 31 28 = 2 ∧ op.code = bits w 27 24 ∧ bits w 23 21 = dd ∧ bits w 20 18 = ds ∧
      encDSrc b = w % 2 ^ 18 := by
    simp only [bits]; omega
  have hne : bits w 27 24 ≠ 8 := by omega
  exact ⟨hlt, by simp [decodeEngine, decD, hgroup, decDSrc_eq_some.2 hsrc, hne, decDOp_eq_some.2 hcode, hdd, hds]⟩

theorem readsBack_cmp (ds : Fin 8) (b : DSrc) : ReadsBack (.cmp ds b) := by
  intro w h
  have hb := encDSrc_lt b
  simp only [encodeEngine] at h
  obtain ⟨hlt, hgroup, hcode, hdd, hds, hsrc⟩ : w < 2 ^ 32 ∧ bits w 31 28 = 2 ∧ bits w 27 24 = 8 ∧ bits w 23 21 = 0 ∧ bits w 20 18 = ds ∧
      encDSrc b = w % 2 ^ 18 := by
    simp only [bits]; omega
  exact ⟨hlt, by simp [decodeEngine, decD, hgroup, decDSrc_eq_some.2 hsrc, hcode, hdd, hds]⟩

/-- The group and the fields of a load or store word. -/
theorem encLS_fields {lop reg w : Nat} {so : SOp} {bx : Bool} (hlop : lop < 16) (hreg : reg < 8) (h : encLS lop reg (encSO so) (b2n bx) = w) :
    w < 2 ^ 32 ∧ decodeEngine w = decLS w ∧ bits w 27 24 = lop ∧ bits w 23 21 = reg ∧ decSO (bits w 20 12) = some so ∧ bitAt w 11 = bx ∧
      bits w 10 0 = 0 := by
  have hso := encSO_lt so
  have hbx := b2n_lt_two bx
  simp only [encLS] at h
  have hgroup : bits w 31 28 = 3 := by simp only [bits]; omega
  have hoperand : decSO (bits w 20 12) = some so := (decSO_eq_some (bits_lt w 20 12)).2 (by simp only [bits]; omega)
  refine ⟨by omega, by simp only [decodeEngine, hgroup], ?_, ?_, hoperand, ?_, ?_⟩ <;> simp only [bitAt_eq_iff, bits] <;> omega

theorem readsBack_ld (d : Fin 8) (so : SOp) : ReadsBack (.ld d so) := by
  intro w h
  obtain ⟨hlt, hdec, hcode, hreg, hso, hbx, hzero⟩ := encLS_fields (bx := false) (by decide) d.isLt h
  exact ⟨hlt, by simp [hdec, decLS, hso, hbx, hzero, hcode, hreg]⟩

theorem readsBack_st (d : Fin 8) (so : SOp) (bx : Bool) : ReadsBack (.st d so bx) := by
  intro w h
  obtain ⟨hlt, hdec, hcode, hreg, hso, hbx, hzero⟩ := encLS_fields (by decide) d.isLt h
  exact ⟨hlt, by simp [hdec, decLS, hso, hbx, hzero, hcode, hreg]⟩

theorem b2n_lt_eight (b : Bool) : b2n b < 8 := by cases b <;> decide

theorem readsBack_lda (p : APart) (b : Bool) (so : SOp) : ReadsBack (.lda p b so) := by
  intro w h
  obtain ⟨hlt, hdec, hcode, hreg, hso, hbx, hzero⟩ := encLS_fields (bx := false) (by cases p <;> decide) (b2n_lt_eight b) h
  exact ⟨hlt, by cases p <;> simp [hdec, decLS, hso, hbx, hzero, hcode, APart.lop, decAx_eq_some.2 hreg.symm]⟩

theorem readsBack_stu (b : Bool) (so : SOp) (bx : Bool) : ReadsBack (.stu b so bx) := by
  intro w h
  obtain ⟨hlt, hdec, hcode, hreg, hso, hbx, hzero⟩ := encLS_fields (by decide) (b2n_lt_eight b) h
  exact ⟨hlt, by simp [hdec, decLS, hso, hbx, hzero, hcode, decAx_eq_some.2 hreg.symm]⟩

theorem readsBack_stb (b : Bool) (so : SOp) : ReadsBack (.stb b so) := by
  intro w h
  obtain ⟨hlt, hdec, hcode, hreg, hso, hbx, hzero⟩ := encLS_fields (bx := false) (by decide) (b2n_lt_eight b) h
  exact ⟨hlt, by simp [hdec, decLS, hso, hbx, hzero, hcode, decAx_eq_some.2 hreg.symm]⟩

theorem readsBack_ste (b : Bool) (so : SOp) : ReadsBack (.ste b so) := by
  intro w h
  obtain ⟨hlt, hdec, hcode, hreg, hso, hbx, hzero⟩ := encLS_fields (bx := false) (by decide) (b2n_lt_eight b) h
  exact ⟨hlt, by simp [hdec, decLS, hso, hbx, hzero, hcode, decAx_eq_some.2 hreg.symm]⟩

theorem readsBack_ldk (d pn : Fin 8) (am : AMode 4) : ReadsBack (.ldk d pn am) := by
  intro w h
  obtain ⟨hlt, hdec, hcode, hreg, hso, hbx, hzero⟩ := encLS_fields (so := ⟨true, pn, am⟩) (bx := false) (by decide) d.isLt h
  exact ⟨hlt, by simp [hdec, decLS, hso, hbx, hzero, hcode, hreg]⟩

theorem readsBack_stk (d pn : Fin 8) (am : AMode 4) : ReadsBack (.stk d pn am) := by
  intro w h
  obtain ⟨hlt, hdec, hcode, hreg, hso, hbx, hzero⟩ := encLS_fields (so := ⟨true, pn, am⟩) (bx := false) (by decide) d.isLt h
  exact ⟨hlt, by simp [hdec, decLS, hso, hbx, hzero, hcode, hreg]⟩

theorem readsBack_mov {rd : Fin 47} (rs : Fin 47) (hrd : rd.val ≠ 0x28) : ReadsBack (.mov rd rs) := by
  intro w h
  simp only [encodeEngine] at h
  obtain ⟨hlt, hgroup, hcode, hd, hs, hzero⟩ : w < 2 ^ 32 ∧ bits w 31 28 = 4 ∧ bits w 27 24 = 0 ∧ bits w 23 18 = rd ∧ bits w 17 12 = rs ∧
      bits w 11 0 = 0 := by
    simp only [bits]; omega
  exact ⟨hlt, by simp [decodeEngine, hgroup, decMove, hcode, finOf_eq_some.2 hd.symm, finOf_eq_some.2 hs.symm, hrd, hzero]⟩

theorem readsBack_ldi {rd : Fin 47} (imm : Fin 65536) (hrd : rd.val ≠ 0x28) : ReadsBack (.ldi rd imm) := by
  intro w h
  simp only [encodeEngine] at h
  obtain ⟨hlt, hgroup, hcode, hd, hzero, himm⟩ : w < 2 ^ 32 ∧ bits w 31 28 = 4 ∧ bits w 27 24 = 1 ∧ bits w 23 18 = rd ∧ bits w 17 16 = 0 ∧
      bits w 15 0 = imm := by
    simp only [bits]; omega
  exact ⟨hlt, by simp [decodeEngine, hgroup, decMove, hcode, finOf_eq_some.2 hd.symm, hrd, hzero, himm]⟩

theorem readsBack_bexr : ReadsBack .bexr := by
  rintro w rfl
  decide

theorem readsBack_b (cond : Fin 11) (target : Fin 16384) : ReadsBack (.b cond target) := by
  intro w h
  simp only [encodeEngine, encCtl] at h
  obtain ⟨hlt, hgroup, hcode, hc, hzero, ht⟩ : w < 2 ^ 32 ∧ bits w 31 28 = 5 ∧ bits w 27 24 = 0 ∧ bits w 23 20 = cond ∧ bits w 19 14 = 0 ∧
      bits w 13 0 = target := by
    simp only [bits]; omega
  exact ⟨hlt, by simp [decodeEngine, hgroup, decCtl, hcode, finOf_eq_some.2 hc.symm, hzero, ht]⟩

theorem readsBack_call (pn : Fin 8) (target : Fin 16384) : ReadsBack (.call pn target) := by
  intro w h
  simp only [encodeEngine, encCtl] at h
  obtain ⟨hlt, hgroup, hcode, hp, hzero, ht⟩ : w < 2 ^ 32 ∧ bits w 31 28 = 5 ∧ bits w 27 24 = 1 ∧ bits w 23 21 = pn ∧ bits w 20 14 = 0 ∧
      bits w 13 0 = target := by
    simp only [bits]; omega
  exact ⟨hlt, by simp [decodeEngine, hgroup, decCtl, hcode, hp, hzero, ht]⟩

theorem readsBack_br (cond : Fin 11) (pn : Fin 8) : ReadsBack (.br cond pn) := by
  intro w h
  simp only [encodeEngine, encCtl] at h
  obtain ⟨hlt, hgroup, hcode, hc, hp, hzero⟩ : w < 2 ^ 32 ∧ bits w 31 28 = 5 ∧ bits w 27 24 = 2 ∧ bits w 23 20 = cond ∧ bits w 19 17 = pn ∧
      bits w 16 0 = 0 := by
    simp only [bits]; omega
  exact ⟨hlt, by simp [decodeEngine, hgroup, decCtl, hcode, finOf_eq_some.2 hc.symm, hp, hzero]⟩

theorem readsBack_reti : ReadsBack .reti := by
  rintro w rfl
  decide

theorem readsBack_repi (count : Fin 1024) (stop : Fin 16384) : ReadsBack (.repi count stop) := by
  intro w h
  simp only [encodeEngine, encCtl] at h
  obtain ⟨hlt, hgroup, hcode, hn, hs⟩ : w < 2 ^ 32 ∧ bits w 31 28 = 5 ∧ bits w 27 24 = 4 ∧ bits w 23 14 = count ∧ bits w 13 0 = stop := by
    simp only [bits]; omega
  exact ⟨hlt, by simp [decodeEngine, hgroup, decCtl, hcode, hn, hs]⟩

theorem readsBack_rep (dn : Fin 8) (stop : Fin 16384) : ReadsBack (.rep dn stop) := by
  intro w h
  simp only [encodeEngine, encCtl] at h
  obtain ⟨hlt, hgroup, hcode, hd, hzero, hs⟩ : w < 2 ^ 32 ∧ bits w 31 28 = 5 ∧ bits w 27 24 = 5 ∧ bits w 23 21 = dn ∧ bits w 20 14 = 0 ∧
      bits w 13 0 = stop := by
    simp only [bits]; omega
  exact ⟨hlt, by simp [decodeEngine, hgroup, decCtl, hcode, hd, hzero, hs]⟩

theorem readsBack_wait (dd : Fin 8) (mask : Fin 65536) : ReadsBack (.wait dd mask) := by
  intro w h
  simp only [encodeEngine, encCtl] at h
  obtain ⟨hlt, hgroup, hcode, hd, hzero, hm⟩ : w < 2 ^ 32 ∧ bits w 31 28 = 5 ∧ bits w 27 24 = 6 ∧ bits w 23 21 = dd ∧ bits w 20 16 = 0 ∧
      bits w 15 0 = mask := by
    simp only [bits]; omega
  exact ⟨hlt, by simp [decodeEngine, hgroup, decCtl, hcode, hd, hzero, hm]⟩

theorem readsBack_sig (ev : Fin 256) : ReadsBack (.sig ev) := by
  intro w h
  simp only [encodeEngine, encCtl] at h
  obtain ⟨hlt, hgroup, hcode, hzero, he⟩ : w < 2 ^ 32 ∧ bits w 31 28 = 5 ∧ bits w 27 24 = 7 ∧ bits w 23 8 = 0 ∧ bits w 7 0 = ev := by
    simp only [bits]; omega
  exact ⟨hlt, by simp [decodeEngine, hgroup, decCtl, hcode, hzero, he]⟩

theorem readsBack_wdt : ReadsBack .wdt := by
  rintro w rfl
  decide

theorem readsBack_stop : ReadsBack .stop := by
  rintro w rfl
  decide

theorem readsBack_nop : ReadsBack .nop := by
  rintro w rfl
  decide

/-- The fields of a queue word. -/
theorem queueWord_fields {code w : Nat} {q : Fin 4} (hcode : code < 16) (h : 6 * 2 ^ 28 + code * 2 ^ 24 + q * 2 ^ 22 = w) :
    w < 2 ^ 32 ∧ decodeEngine w = decQueue w ∧ bits w 27 24 = code ∧ bits w 23 22 = q ∧ bits w 21 0 = 0 := by
  have hgroup : bits w 31 28 = 6 := by simp only [bits]; omega
  exact ⟨by omega, by simp only [decodeEngine, hgroup], by simp only [bits]; omega, by simp only [bits]; omega, by simp only [bits]; omega⟩

theorem readsBack_push (q : Fin 4) : ReadsBack (.push q) := by
  intro w h
  rw [encodeEngine] at h
  obtain ⟨hlt, hdec, hcode, hq, hzero⟩ := queueWord_fields (w := w) (code := 0) (q := q) (by decide) (by omega)
  exact ⟨hlt, by simp [hdec, decQueue, hcode, hq, hzero]⟩

theorem readsBack_pushl (q : Fin 4) : ReadsBack (.pushl q) := by
  intro w h
  rw [encodeEngine] at h
  obtain ⟨hlt, hdec, hcode, hq, hzero⟩ := queueWord_fields (w := w) (code := 1) (q := q) (by decide) (by omega)
  exact ⟨hlt, by simp [hdec, decQueue, hcode, hq, hzero]⟩

theorem readsBack_pop (q : Fin 4) : ReadsBack (.pop q) := by
  intro w h
  rw [encodeEngine] at h
  obtain ⟨hlt, hdec, hcode, hq, hzero⟩ := queueWord_fields (w := w) (code := 2) (q := q) (by decide) (by omega)
  exact ⟨hlt, by simp [hdec, decQueue, hcode, hq, hzero]⟩

theorem readsBack_qabort (q : Fin 4) : ReadsBack (.qabort q) := by
  intro w h
  rw [encodeEngine] at h
  obtain ⟨hlt, hdec, hcode, hq, hzero⟩ := queueWord_fields (w := w) (code := 3) (q := q) (by decide) (by omega)
  exact ⟨hlt, by simp [hdec, decQueue, hcode, hq, hzero]⟩

/-- The fields of a network word. -/
theorem netWord_fields {code pd ps w : Nat} (hcode : code < 16) (hpd : pd < 8) (hps : ps < 8)
    (h : 7 * 2 ^ 28 + code * 2 ^ 24 + pd * 2 ^ 21 + ps * 2 ^ 18 = w) :
    w < 2 ^ 32 ∧ decodeEngine w = decNet w ∧ bits w 27 24 = code ∧ bits w 23 21 = pd ∧ bits w 20 18 = ps ∧ bits w 17 0 = 0 := by
  have hgroup : bits w 31 28 = 7 := by simp only [bits]; omega
  refine ⟨by omega, by simp only [decodeEngine, hgroup], ?_, ?_, ?_, ?_⟩ <;> simp only [bits] <;> omega

theorem readsBack_nget (pd ps : Fin 8) : ReadsBack (.nget pd ps) := by
  intro w h
  rw [encodeEngine] at h
  obtain ⟨hlt, hdec, hcode, hd, hs, hzero⟩ := netWord_fields (w := w) (code := 0) (by decide) pd.isLt ps.isLt (by omega)
  exact ⟨hlt, by simp [hdec, decNet, hcode, hd, hs, hzero]⟩

theorem readsBack_nput (pd ps : Fin 8) : ReadsBack (.nput pd ps) := by
  intro w h
  rw [encodeEngine] at h
  obtain ⟨hlt, hdec, hcode, hd, hs, hzero⟩ := netWord_fields (w := w) (code := 1) (by decide) pd.isLt ps.isLt (by omega)
  exact ⟨hlt, by simp [hdec, decNet, hcode, hd, hs, hzero]⟩

theorem readsBack_nfadd : ReadsBack .nfadd := by
  rintro w rfl
  decide

theorem readsBack_nswap : ReadsBack .nswap := by
  rintro w rfl
  decide

theorem readsBack_ncas (pd : Fin 8) : ReadsBack (.ncas pd) := by
  intro w h
  simp only [encodeEngine] at h
  obtain ⟨hlt, hgroup, hcode, hd, hs, hzero⟩ : w < 2 ^ 32 ∧ bits w 31 28 = 7 ∧ bits w 27 24 = 4 ∧ bits w 23 21 = pd ∧ bits w 20 18 = 0 ∧
      bits w 17 0 = 0 := by
    simp only [bits]; omega
  exact ⟨hlt, by simp [decodeEngine, hgroup, decNet, hcode, hd, hs, hzero]⟩

/-- Every well-formed instruction is what its word decodes to. -/
theorem readsBack_of_wf : ∀ {op : EOp}, op.wf = true → ReadsBack op
  | .mul op a _, h => readsBack_mul op a h
  | .acc op ad as mv, _ => readsBack_acc op ad as mv
  | .accd sub ad dn sh mv, _ => readsBack_accd sub ad dn sh mv
  | .clr ad mv, _ => readsBack_clr ad mv
  | .shl ad as sh mv, _ => readsBack_shl ad as sh mv
  | .shr ad as sh mv, _ => readsBack_shr ad as sh mv
  | .exp as dn mv, _ => readsBack_exp as dn mv
  | .norm ad dn mv, _ => readsBack_norm ad dn mv
  | .darith op dd ds b, _ => readsBack_darith op dd ds b
  | .cmp ds b, _ => readsBack_cmp ds b
  | .ld d so, _ => readsBack_ld d so
  | .st d so bx, _ => readsBack_st d so bx
  | .lda p b so, _ => readsBack_lda p b so
  | .stu b so bx, _ => readsBack_stu b so bx
  | .stb b so, _ => readsBack_stb b so
  | .ste b so, _ => readsBack_ste b so
  | .ldk d pn am, _ => readsBack_ldk d pn am
  | .stk d pn am, _ => readsBack_stk d pn am
  | .mov _ rs, h => readsBack_mov rs (of_decide_eq_true h)
  | .ldi _ imm, h => readsBack_ldi imm (of_decide_eq_true h)
  | .bexr, _ => readsBack_bexr
  | .b cond target, _ => readsBack_b cond target
  | .call pn target, _ => readsBack_call pn target
  | .br cond pn, _ => readsBack_br cond pn
  | .reti, _ => readsBack_reti
  | .repi count stop, _ => readsBack_repi count stop
  | .rep dn stop, _ => readsBack_rep dn stop
  | .wait dd mask, _ => readsBack_wait dd mask
  | .sig ev, _ => readsBack_sig ev
  | .wdt, _ => readsBack_wdt
  | .stop, _ => readsBack_stop
  | .nop, _ => readsBack_nop
  | .push q, _ => readsBack_push q
  | .pushl q, _ => readsBack_pushl q
  | .pop q, _ => readsBack_pop q
  | .qabort q, _ => readsBack_qabort q
  | .nget pd ps, _ => readsBack_nget pd ps
  | .nput pd ps, _ => readsBack_nput pd ps
  | .nfadd, _ => readsBack_nfadd
  | .nswap, _ => readsBack_nswap
  | .ncas pd, _ => readsBack_ncas pd

/-! ### Instructions from words -/

section
variable {w : Nat} {op : EOp} (hw : w < 2 ^ 32)
include hw

theorem encode_of_decMul (hgroup : bits w 31 28 = 0) (h : decMul w = some op) : op.wf = true ∧ encodeEngine op = w := by
  unfold decMul at h
  split at h
  next mop src hop hsrc =>
    obtain ⟨hok, h⟩ := Option.ite_none_right_eq_some.1 h
    cases h
    refine ⟨hok, ?_⟩
    simp only [encodeEngine, decMulOp_eq_some.1 hop, decSrc_eq_some.1 hsrc, b2n_bitAt, bits] at *
    omega
  · cases h

theorem encode_of_decAcc (hgroup : bits w 31 28 = 1) (h : decAcc w = some op) : op.wf = true ∧ encodeEngine op = w := by
  unfold decAcc at h
  split at h
  · cases h
  next mv hdec =>
    have hmv := (decPMV_eq_some (bits_lt w 14 0)).1 hdec
    dsimp only at h
    split at h
    all_goals simp only [Option.ite_none_right_eq_some, Option.ite_none_left_eq_some, Option.some.injEq, reduceCtorEq] at h
    all_goals obtain ⟨hunused, rfl⟩ := h
    all_goals
      refine ⟨rfl, ?_⟩
      simp only [encodeEngine, encAcc, hmv, AccOp.code, b2n_bitAt, bitAt_eq_iff, b2n_false, b2n_true, Fin.val_ofNat, bits] at *
      omega

theorem encode_of_decD (hgroup : bits w 31 28 = 2) (h : decD w = some op) : op.wf = true ∧ encodeEngine op = w := by
  unfold decD at h
  split at h
  · cases h
  next b hdec =>
    have hb := decDSrc_eq_some.1 hdec
    dsimp only at h
    split at h
    next hcmp =>
      obtain ⟨hzero, h⟩ := Option.ite_none_right_eq_some.1 h
      cases h
      refine ⟨rfl, ?_⟩
      simp only [encodeEngine, hb, Fin.val_ofNat, bits] at *
      omega
    next hcmp =>
      obtain ⟨dop, hop, rfl⟩ := Option.map_eq_some_iff.1 h
      refine ⟨rfl, ?_⟩
      simp only [encodeEngine, hb, decDOp_eq_some.1 hop, Fin.val_ofNat, bits] at *
      omega

/-- A load or store word from its fields. -/
theorem encLS_of_fields (hgroup : bits w 31 28 = 3) {so : SOp} (hso : encSO so = bits w 20 12) (hzero : bits w 10 0 = 0) :
    encLS (bits w 27 24) (bits w 23 21) (encSO so) (b2n (bitAt w 11)) = w := by
  simp only [encLS, hso, b2n_bitAt, bits] at *
  omega

theorem encode_of_decLS (hgroup : bits w 31 28 = 3) (h : decLS w = some op) : op.wf = true ∧ encodeEngine op = w := by
  unfold decLS at h
  split at h
  · cases h
  next so hdec =>
    obtain ⟨hunused, h⟩ := Option.ite_none_left_eq_some.1 h
    rw [not_or, not_not] at hunused
    obtain ⟨hzero, hbx⟩ := hunused
    have hword := encLS_of_fields hw hgroup ((decSO_eq_some (bits_lt w 20 12)).1 hdec) hzero
    have hd : (Fin.ofNat 8 (bits w 23 21)).val = bits w 23 21 := Nat.mod_eq_of_lt (bits_lt w 23 21)
    have hplain (h1 : bits w 27 24 ≠ 1) (h3 : bits w 27 24 ≠ 3) : b2n (bitAt w 11) = 0 := by
      rw [Bool.eq_false_iff.2 fun hbit => hbx ⟨hbit, h1, h3⟩]
      rfl
    split at h
    all_goals simp only [Option.ite_none_right_eq_some, Option.some.injEq, Option.map_eq_some_iff, decAx_eq_some, reduceCtorEq] at h
    case h_1 hcode =>
      subst h
      exact ⟨rfl, .trans (by rw [hcode, hplain (by omega) (by omega), encodeEngine, hd]) hword⟩
    case h_2 hcode =>
      subst h
      exact ⟨rfl, .trans (by rw [hcode, encodeEngine, hd]) hword⟩
    case h_4 hcode =>
      obtain ⟨b, hb, rfl⟩ := h
      exact ⟨rfl, .trans (by rw [hcode, ← hb, encodeEngine]) hword⟩
    case h_9 | h_10 =>
      rename_i hcode
      obtain ⟨hy, rfl⟩ := h
      have hso : (⟨true, so.pn, so.am⟩ : SOp) = so := by rw [← hy]
      exact ⟨rfl, .trans (by rw [hcode, hplain (by omega) (by omega), encodeEngine, hd, hso]) hword⟩
    case h_6 | h_8 =>
      rename_i hcode
      obtain ⟨b, hb, rfl⟩ := h
      exact ⟨rfl, .trans (by rw [hcode, hplain (by omega) (by omega), ← hb, encodeEngine]) hword⟩
    all_goals
      rename_i hcode
      obtain ⟨b, hb, rfl⟩ := h
      exact ⟨rfl, .trans (by rw [hcode, hplain (by omega) (by omega), ← hb, encodeEngine, APart.lop]) hword⟩

theorem encode_of_decMove (hgroup : bits w 31 28 = 4) (h : decMove w = some op) : op.wf = true ∧ encodeEngine op = w := by
  unfold decMove at h
  split at h
  next hcode =>
    split at h
    next rd rs hd hs =>
      obtain ⟨hlegal, h⟩ := Option.ite_none_left_eq_some.1 h
      cases h
      rw [finOf_eq_some] at hd hs
      push Not at hlegal
      refine ⟨decide_eq_true hlegal.1, ?_⟩
      simp only [encodeEngine, hd, hs, bits] at *
      omega
    · cases h
  next hcode =>
    split at h
    next rd hd =>
      obtain ⟨hlegal, h⟩ := Option.ite_none_left_eq_some.1 h
      cases h
      rw [finOf_eq_some] at hd
      push Not at hlegal
      refine ⟨decide_eq_true hlegal.1, ?_⟩
      simp only [encodeEngine, hd, Fin.val_ofNat, bits] at *
      omega
    · cases h
  next hcode =>
    obtain ⟨hzero, h⟩ := Option.ite_none_right_eq_some.1 h
    cases h
    refine ⟨rfl, ?_⟩
    simp only [encodeEngine, bits] at *
    omega
  · cases h

theorem encode_of_decCtl (hgroup : bits w 31 28 = 5) (h : decCtl w = some op) : op.wf = true ∧ encodeEngine op = w := by
  unfold decCtl at h
  dsimp only at h
  split at h
  all_goals simp only [Option.ite_none_right_eq_some, Option.some.injEq, Option.map_eq_some_iff, finOf_eq_some, reduceCtorEq] at h
  case h_1 | h_3 =>
    obtain ⟨hzero, c, hc, rfl⟩ := h
    refine ⟨rfl, ?_⟩
    simp only [encodeEngine, encCtl, hc, Fin.val_ofNat, bits] at *
    omega
  case h_5 =>
    subst h
    refine ⟨rfl, ?_⟩
    simp only [encodeEngine, encCtl, Fin.val_ofNat, bits] at *
    omega
  all_goals
    obtain ⟨hzero, rfl⟩ := h
    refine ⟨rfl, ?_⟩
    simp only [encodeEngine, encCtl, Fin.val_ofNat, bits] at *
    omega

theorem encode_of_decQueue (hgroup : bits w 31 28 = 6) (h : decQueue w = some op) : op.wf = true ∧ encodeEngine op = w := by
  unfold decQueue at h
  obtain ⟨hzero, h⟩ := Option.ite_none_left_eq_some.1 h
  split at h <;> cases h
  all_goals
    refine ⟨rfl, ?_⟩
    simp only [encodeEngine, Fin.val_ofNat, bits] at *
    omega

theorem encode_of_decNet (hgroup : bits w 31 28 = 7) (h : decNet w = some op) : op.wf = true ∧ encodeEngine op = w := by
  unfold decNet at h
  obtain ⟨hzero, h⟩ := Option.ite_none_left_eq_some.1 h
  split at h
  all_goals simp only [Option.ite_none_right_eq_some, Option.some.injEq, reduceCtorEq] at h
  case h_1 | h_2 =>
    subst h
    refine ⟨rfl, ?_⟩
    simp only [encodeEngine, Fin.val_ofNat, bits] at *
    omega
  all_goals
    obtain ⟨hargs, rfl⟩ := h
    refine ⟨rfl, ?_⟩
    simp only [encodeEngine, Fin.val_ofNat, bits] at *
    omega

theorem encode_of_decodeEngine (h : decodeEngine w = some op) : op.wf = true ∧ encodeEngine op = w := by
  unfold decodeEngine at h
  split at h
  next hgroup => exact encode_of_decMul hw hgroup h
  next hgroup => exact encode_of_decAcc hw hgroup h
  next hgroup => exact encode_of_decD hw hgroup h
  next hgroup => exact encode_of_decLS hw hgroup h
  next hgroup => exact encode_of_decMove hw hgroup h
  next hgroup => exact encode_of_decCtl hw hgroup h
  next hgroup => exact encode_of_decQueue hw hgroup h
  next hgroup => exact encode_of_decNet hw hgroup h
  · cases h

end

/-- Settles O41: a well-formed instruction's word has its fields in place, and each branch of the decoder takes the fields of the word it decodes. -/
theorem engineEncoding : Obligations.EngineEncoding := by
  unfold Obligations.EngineEncoding
  exact ⟨fun op hwf => readsBack_of_wf hwf _ rfl, fun w op hw h => encode_of_decodeEngine hw h⟩

end Sys2Proof.Machine

/-! SUPPORT. The control instructions of a signal engine (10 R234, R244–R249, R254, R255, R260, R262): the plan of each, made from the engine after
the end check. -/

namespace Sys2Proof.Machine

/-! ### Branches, repeats and effects at issue -/

section
variable {t : Tile} {w : Nat} {c : Bool} {s : State} {op : EOp} {sel : EOp → Option (State → Plan)} (h : s.issues t w c op)
include h

/-- A branch issues with the address after its delay slots, and with what flow trace records of it when it is taken (R246, R516). -/
theorem issueOp_branch (taken : Engine → Bool) (target : Engine → Nat) (ws : Engine → List PWrite)
    (hs : sel op = some fun s => planBranch (s.engine t) (taken (s.engine t)) (target (s.engine t)) (ws (s.engine t))) :
    let e := (s.engine t).endCheck
    s.issueOp t sel = s.engIssue t c w (planBranch e (taken e) (target e) (ws e)) :=
  issueOp_plan (plan := fun e => planBranch e (taken e) (target e) (ws e)) h hs rfl rfl rfl rfl

/-- An instruction with effects at issue only. -/
theorem issueOp_acts (f : State → State) (hs : sel op = some fun _ => Plan.act f) : s.issueOp t sel = s.engIssue t c w (Plan.act f) :=
  issueOp_plain h hs rfl rfl rfl rfl

end

/-- The plan of a repeat that starts: RC, RS, RE and RPT at issue (R248). -/
def repeatStart (t count stop : Nat) (e : Engine) : Plan :=
  { Plan.of ⟨[e.wr rRC 0xFFFF (count % 65536) e.now, e.wr rRS 0x3FFF (e.pc + 1) e.now, e.wr rRE 0x3FFF stop e.now, e.wr rST stRPT stRPT e.now],
      []⟩ with fin := fun s => s.setEngine t { s.engine t with cphase := 1, cache := [] } }

theorem planRepeat_body {e : Engine} {stop : Nat} (t count : Nat) (h : e.pc < stop) : planRepeat t e count stop = repeatStart t count stop e :=
  if_neg (by omega)

theorem planRepeat_ended {e : Engine} {stop : Nat} (t count : Nat) (h : stop ≤ e.pc) : planRepeat t e count stop = Plan.bad 2 := if_pos (by omega)

section
variable {t : Tile} {w : Nat} {c : Bool} {s : State} {op : EOp} {sel : EOp → Option (State → Plan)} (h : s.issues t w c op) (count : Engine → Nat)
  {stop : Nat} (hs : sel op = some fun s => planRepeat t (s.engine t) (count (s.engine t)) stop)
include h hs

/-- A repeat whose END lies in its body starts (R248). -/
theorem issueOp_repeat (hbody : (s.engine t).endCheck.pc < stop) :
    let e := (s.engine t).endCheck
    s.issueOp t sel = s.engIssue t c w (repeatStart t (count e) stop e) :=
  issueOp_plan (plan := fun e => planRepeat t e (count e) stop) h hs (planRepeat_body t _ hbody) rfl rfl rfl

/-- A repeat whose END lies before its body is illegal (R249). -/
theorem issueOp_repeat_ended (hended : stop ≤ (s.engine t).endCheck.pc) : s.issueOp t sel = s.engFault t 2 := by
  refine issueOp_faults h hs ?_ (by decide)
  rw [State.engine_setEngine_endCheck h]
  exact planRepeat_ended t _ hended

end

/-- The plan of RETI (R254). -/
def planReti (t latch : Nat) : Plan :=
  { Plan.of Fx.none with
    branch := some 0
    fin := fun s => s.setEngine t { s.engine t with brReti := true }
    note := some (2, latch) }

/-- Settles O37: a branch names where its delay slots lead, a repeat sets its bounds or faults, the others act at issue; NOP leaves other words. -/
theorem engineControlGroup : Obligations.EngineControlGroup := by
  unfold Obligations.EngineControlGroup
  intro t w c cond pn dn target stop count mask ev s
  refine ⟨fun h => ?b, fun h => ?call, fun h => ?br, fun h hshd => ?reti, fun h hshd => ?nested, fun h hbody => ?repi, fun h hbody => ?rep,
    fun h hended => ?ended, fun h => ?wait, fun h => ?sig, fun h => ?wdt, fun h => ?stop, fun h => ?nop, fun op h hne => ?other⟩
  case b => exact congrArg Host.Outcome.next (issueOp_branch h (fun e => condHolds cond (e.rd rST (e.now + 2))) (fun _ => target) (fun _ => []) rfl)
  case call =>
    exact congrArg Host.Outcome.next (issueOp_branch h (fun _ => true) (fun _ => target) (fun e => [e.wr (rP pn) 0xFFFF (e.pc + 3) (e.now + 4)]) rfl)
  case br =>
    exact congrArg Host.Outcome.next
      (issueOp_branch h (fun e => condHolds cond (e.rd rST (e.now + 2))) (fun e => e.rd (rP pn) (e.now + 2)) (fun _ => []) rfl)
  case reti =>
    refine congrArg Host.Outcome.next (issueOp_plain (p := planReti t _) h rfl ?_ rfl rfl rfl)
    rw [State.engine_setEngine_endCheck h]
    exact if_pos hshd
  case nested =>
    refine congrArg Host.Outcome.next (issueOp_faults h rfl ?_ (by decide))
    rw [State.engine_setEngine_endCheck h]
    exact if_neg (ne_true_of_eq_false hshd)
  case repi => exact congrArg Host.Outcome.next (issueOp_repeat h (fun _ => if count.val = 0 then 1024 else count) rfl hbody)
  case rep => exact congrArg Host.Outcome.next (issueOp_repeat h (fun e => e.rd dn (e.now + 1)) rfl hbody)
  case ended => exact congrArg Host.Outcome.next (issueOp_repeat_ended h (fun _ => if count.val = 0 then 1024 else count) rfl hended)
  case wait =>
    refine congrArg Host.Outcome.next (issueOp_plain (p := Plan.act _) h rfl ?_ rfl rfl rfl)
    rw [State.engine_setEngine_endCheck h]
  case sig => exact congrArg Host.Outcome.next (issueOp_writes h (fun e => [⟨.sig ev, 0, 0, e.now + 5⟩]) rfl)
  case wdt => exact congrArg Host.Outcome.next (issueOp_acts h (fun s => s.wdReload t) rfl)
  case stop => exact congrArg Host.Outcome.next (issueOp_acts h (fun s => s.setEngine t { s.engine t with stopReq := true }) rfl)
  case nop => exact congrArg Host.Outcome.next (issueOp_writes h (fun _ => []) rfl)
  case other =>
    refine congrArg Host.Outcome.next (issueOp_other h ?_)
    cases op
    case nop => exact absurd rfl hne
    all_goals rfl

end Sys2Proof.Machine

/-! SUPPORT. The queue and network instructions of a signal engine (08 R198–R205; 10 R256–R258): when they wait, and what they send. -/

namespace Sys2Proof.Machine

/-! ### Waiting at issue, and queue instructions (R256) -/

/-- The plan of a push that need not wait (R256). -/
def pushPlan (q : Nat) (last : Bool) (e : Engine) : Plan := Plan.of ⟨[⟨.push q last, 0, e.word64 (e.now + 3), e.now + 5⟩], []⟩

section
variable {t : Tile} {w : Nat} {c : Bool} {s : State} {op : EOp} {sel : EOp → Option (State → Plan)} (h : s.issues t w c op)
include h

/-- An instruction that waits at issue lets a cycle pass (R256, R257). -/
theorem issueOp_waits {k : State → Plan} (hs : sel op = some k) (hp : k (s.setEngine t (s.engine t).endCheck) = Plan.wait) :
    s.issueOp t sel = (s.engPass t 1).engBoundary t := by
  rw [issueOp_issues h hs, hp]
  rfl

section
variable {q : Nat} (last : Bool) (hprod : s.qProd (4 * t + q) = 4)
include hprod

theorem planPush_free (hfree : s.qOn (4 * t + q) = true → (s.engine t).endCheck.pushes q < (s.pq (4 * t + q)).space) :
    planPush t q last (s.setEngine t (s.engine t).endCheck) = pushPlan q last (s.engine t).endCheck := by
  simp only [planPush, State.engine_setEngine_endCheck h]
  exact (if_neg (not_not_intro hprod)).trans (if_neg fun hfull => absurd (hfree hfull.1) (Nat.not_lt.2 hfull.2))

theorem planPush_full (hon : s.qOn (4 * t + q) = true) (hfull : (s.pq (4 * t + q)).space ≤ (s.engine t).endCheck.pushes q) :
    planPush t q last (s.setEngine t (s.engine t).endCheck) = Plan.wait := by
  simp only [planPush, State.engine_setEngine_endCheck h]
  exact (if_neg (not_not_intro hprod)).trans (if_pos ⟨hon, hfull⟩)

end

end

/-- What a queue's read delivers, and whether the queue was empty, does not depend on the engine. -/
theorem State.qRead_setEngine (s : State) (t : Nat) (e : Engine) (k : Nat) :
    ((s.setEngine t e).qRead k).1 = (s.qRead k).1 ∧ ((s.setEngine t e).qRead k).2.1 = (s.qRead k).2.1 := by
  have hpq : (s.setEngine t e).pq k = s.pq k := rfl
  unfold State.qRead
  simp only [hpq]
  cases (s.pq k).vis with
  | nil => exact ⟨rfl, rfl⟩
  | cons word rest =>
    obtain ⟨d, bad⟩ := word.deliver
    exact ⟨rfl, rfl⟩

/-- The plan of POP with the word read, and whether the read was empty (R256). -/
def planPop (e : Engine) (k : Nat) (word : QWord) (under : Bool) : Plan :=
  { Plan.of ⟨[e.wr 0 0xFFFF (word.data / 2 ^ (16 * 0) % 65536) (e.now + 4), e.wr 1 0xFFFF (word.data / 2 ^ (16 * 1) % 65536) (e.now + 4),
      e.wr 2 0xFFFF (word.data / 2 ^ (16 * 2) % 65536) (e.now + 4), e.wr 3 0xFFFF (word.data / 2 ^ (16 * 3) % 65536) (e.now + 4),
      e.wr 4 0xFFFF (4 * b2n under + 2 * b2n word.last + b2n word.p0) (e.now + 4)], []⟩ with
    fin := fun s => (s.qRead k).2.2 }

/-! ### Network instructions (R257, R258) -/

theorem Engine.endCheck_sends (e : Engine) : e.endCheck.sends = e.sends := by
  unfold Engine.endCheck
  split
  · dsimp only
    split <;> rfl
  · rfl

section
variable {t : Tile} {w : Nat} {c : Bool} {s : State} {op : EOp} {sel : EOp → Option (State → Plan)} (h : s.issues t w c op)
include h

/-- The end check takes no tag. -/
theorem State.engNoTag_endCheck : (s.setEngine t (s.engine t).endCheck).engNoTag t = s.engNoTag t := by
  have htags : (s.setEngine t (s.engine t).endCheck).engTags t = s.engTags t := by
    unfold State.engTags
    rw [State.engine_setEngine_endCheck h, Engine.endCheck_sends]
    rfl
  have hfull : (s.setEngine t (s.engine t).endCheck).niFull t = s.niFull t := by
    unfold State.niFull
    rw [State.engine_setEngine_endCheck h, Engine.endCheck_sends]
    rfl
  unfold State.engNoTag
  rw [htags, hfull]
  rfl

section
variable (f : Engine → State → State) (hs : sel op = some fun s => if s.engNoTag t then Plan.wait else Plan.act (f (s.engine t)))
include hs

/-- A network instruction acts at issue when a tag is free (R257). -/
theorem issueOp_tagged (hfree : s.engNoTag t = false) : s.issueOp t sel = s.engIssue t c w (Plan.act (f (s.engine t).endCheck)) := by
  refine issueOp_plain h hs ?_ rfl rfl rfl
  rw [State.engNoTag_endCheck h, State.engine_setEngine_endCheck h]
  exact if_neg (ne_true_of_eq_false hfree)

theorem issueOp_untagged (hbusy : s.engNoTag t = true) : s.issueOp t sel = (s.engPass t 1).engBoundary t := by
  refine issueOp_waits h hs ?_
  rw [State.engNoTag_endCheck h]
  exact if_pos hbusy

end

/-- An atomic whose tag is free goes out as the instruction issues (R258). -/
theorem issueOp_atomic {aop : NOp} (data : Engine → List Byte) (rds : Engine → List Rd)
    (hs : sel op = some fun s => planAtomic t aop (data (s.engine t)) (rds (s.engine t)) s) (hfree : s.engNoTag t = false)
    (hclean : (rds (s.engine t).endCheck).any (·.bad) = false) :
    let e := (s.engine t).endCheck
    s.issueOp t sel = s.engIssue t c w { Plan.of ⟨[], rds e⟩ with fin := fun u => u.sendAtomic t aop e.netAddr (data e) } := by
  refine issueOp_plain h hs ?_ rfl rfl (by rw [Fx.clean, Plan.of, hclean]; rfl)
  simp only [planAtomic, State.engNoTag_endCheck h, State.engine_setEngine_endCheck h, hfree, Bool.false_eq_true, if_false]

end

/-- What NGET does at issue (R257). -/
def ngetEffect (t : Nat) (pd ps : Fin 8) (e : Engine) (u : State) : State :=
  u.netIssue t (.nget (e.rd (rP pd) (e.now + 2)) (e.rd (rP ps) (e.now + 2))) (e.rd (rP ps) (e.now + 2))
    (mkReq .read e.netAddr (e.rd 7 (e.now + 3) % 256 + 1) (u.tileTenant t) 0 t 0 []) e.now

/-- What NPUT does at issue: under the lock its data is read later (R257, R259). -/
def nputEffect (t : Nat) (pd ps : Fin 8) (e : Engine) (u : State) : State :=
  if e.lock then u.setEngine t { u.engine t with
    ynet := (u.engine t).ynet ++ [.send (e.rd (rP ps) (e.now + 2)) (e.rd (rP pd) (e.now + 2)) (e.rd 7 (e.now + 3) % 256 + 1) e.netAddr] }
  else u.nputSend t (e.rd (rP pd) (e.now + 2)) (e.rd (rP ps) (e.now + 2)) (e.rd 7 (e.now + 3) % 256 + 1) e.netAddr

/-- Settles O38: a push waits for space and a network instruction for a tag; each then issues what its operands, read behind the end check, say. -/
theorem engineQueueAndNetworkGroup : Obligations.EngineQueueAndNetworkGroup := by
  unfold Obligations.EngineQueueAndNetworkGroup
  intro t w c q pd ps s
  refine ⟨fun h hprod hfree => ?push, fun h hprod hfree => ?pushl, fun h hprod hon hfull => ?full, fun h hprod => ?notProducer, fun h hcons => ?pop,
    fun h hprod => ?qabort, fun h hfree => ?nget, fun h hfree hlock => ?nput, fun h hfree hlock => ?nputLocked, fun h hbusy => ?nputWaits,
    fun h hbusy => ?ngetWaits, fun h hfree => ?nfadd, fun h hfree => ?nswap, fun h hfree hclean => ?ncas⟩
  case push => exact congrArg Host.Outcome.next (issueOp_plain h rfl (planPush_free h false hprod hfree) rfl rfl rfl)
  case pushl => exact congrArg Host.Outcome.next (issueOp_plain h rfl (planPush_free h true hprod hfree) rfl rfl rfl)
  case full => exact congrArg Host.Outcome.next (issueOp_waits h rfl (planPush_full h false hprod hon hfull))
  case notProducer => exact congrArg Host.Outcome.next (issueOp_faults h rfl (if_pos hprod) (by decide))
  case pop =>
    refine congrArg Host.Outcome.next (issueOp_plain (p := planPop _ _ (s.qRead _).1 (s.qRead _).2.1) h rfl ?_ rfl rfl rfl)
    rw [State.engine_setEngine_endCheck h]
    refine (if_neg (not_not_intro hcons)).trans ?_
    obtain ⟨hword, hunder⟩ := s.qRead_setEngine t (s.engine t).endCheck (4 * t.val + q.val)
    rw [planPop, ← hword, ← hunder]
    rfl
  case qabort =>
    refine congrArg Host.Outcome.next (issueOp_plain h rfl ?_ rfl rfl rfl)
    rw [State.engine_setEngine_endCheck h]
    exact if_neg (not_not_intro hprod)
  case nget => exact congrArg Host.Outcome.next (issueOp_tagged h (ngetEffect t pd ps) rfl hfree)
  case nput =>
    exact congrArg Host.Outcome.next ((issueOp_tagged h (nputEffect t pd ps) rfl hfree).trans
      (congrArg (s.engIssue t c w ∘ Plan.act) (funext fun _ => if_neg (ne_true_of_eq_false hlock))))
  case nputLocked =>
    exact congrArg Host.Outcome.next ((issueOp_tagged h (nputEffect t pd ps) rfl hfree).trans
      (congrArg (s.engIssue t c w ∘ Plan.act) (funext fun _ => if_pos hlock)))
  case nputWaits => exact congrArg Host.Outcome.next (issueOp_untagged h (nputEffect t pd ps) rfl hbusy)
  case ngetWaits => exact congrArg Host.Outcome.next (issueOp_untagged h (ngetEffect t pd ps) rfl hbusy)
  case nfadd => exact congrArg Host.Outcome.next (issueOp_atomic h (fun e => leBytes 8 (e.word64 (e.now + 3))) (fun _ => []) rfl hfree rfl)
  case nswap => exact congrArg Host.Outcome.next (issueOp_atomic h (fun e => leBytes 8 (e.word64 (e.now + 3))) (fun _ => []) rfl hfree rfl)
  case ncas =>
    exact congrArg Host.Outcome.next (issueOp_atomic h (fun e => leBytes 8 (e.word64 (e.now + 3)) ++ (e.yBytes (e.rd (rP pd) (e.now + 2)) 8).1)
      (fun e => (e.yBytes (e.rd (rP pd) (e.now + 2)) 8).2) rfl hfree hclean)

end Sys2Proof.Machine

/-! SUPPORT. What runs and halts a signal engine (10 R250–R255, R260–R263; 23 R511): its registers, interrupts, the end of a WAIT, the watchdog, and
halts. -/

namespace Sys2Proof.Machine

/-! ### Registers of an engine (R251, R260, R262) -/

theorem State.writeReg_engWdog {s : State} (q : Rq) {t v : Nat} (hok : Rg.engWdog.okWrite v = true) :
    s.writeReg q .engWdog t 0 v = (s.setReg .engWdog t 0 (Rg.engWdog.written (s.reg .engWdog t 0) v)).wdReload t :=
  (State.writeReg_tile hok rfl).trans rfl

theorem State.writeReg_engCtl {s : State} (q : Rq) {t v : Nat} (hok : Rg.engCtl.okWrite v = true) :
    s.writeReg q .engCtl t 0 v =
      let u := s.setReg .engCtl t 0 (Rg.engCtl.written (s.reg .engCtl t 0) v)
      if bitAt v 31 then u.engStart t else if bitAt v 30 then u.engStop t else u :=
  (State.writeReg_tile hok rfl).trans rfl

theorem State.writeReg_engDoorbell {s : State} (q : Rq) {t v : Nat} (hok : Rg.engDoorbell.okWrite v = true) :
    s.writeReg q .engDoorbell t 0 v = if bitAt v 0 then s.engPend t 13 else s :=
  (State.writeReg_tile hok rfl).trans rfl

theorem State.grantsWrite.okWrite {s : State} {r : Req} {g : Rg} {i j v : Nat} (h : s.grantsWrite r g i j v) : g.okWrite v = true := by
  obtain ⟨-, -, -, -, -, -, -, -, hok⟩ := h
  exact hok

section
variable {r : Req} {s : State} {t v : Nat}

theorem exec_watchdogReload_granted (h : s.grantsWrite r .engWdog t 0 v) :
    exec (.watchdogReload r) s = .next (State.respond (State.wdReload
      ((s.takeReq r).setReg .engWdog t 0 (Rg.engWdog.written (s.reg .engWdog t 0) v)) t) r svcOK []) := by
  refine (regRow_granted .engWdog t 0 v _ r s h (decide_eq_true rfl)).trans ?_
  rw [State.writeReg_engWdog r.rq h.okWrite]
  rfl

theorem exec_engStart_granted (h : s.grantsWrite r .engCtl t 0 v) (hstart : bitAt v 31 = true) :
    exec (.engStart r) s = .next (State.respond (State.engStart
      ((s.takeReq r).setReg .engCtl t 0 (Rg.engCtl.written (s.reg .engCtl t 0) v)) t) r svcOK []) := by
  refine (regRow_granted .engCtl t 0 v _ r s h (by rw [hstart]; rfl)).trans ?_
  rw [State.writeReg_engCtl r.rq h.okWrite, hstart]
  rfl

/-- A write that starts does not stop (R262). -/
theorem exec_engStop_granted (h : s.grantsWrite r .engCtl t 0 v) (hstop : bitAt v 30 = true) :
    exec (.engStop r) s = .next (State.respond (State.engStop
      ((s.takeReq r).setReg .engCtl t 0 (Rg.engCtl.written (s.reg .engCtl t 0) v)) t) r svcOK []) := by
  have hstart : bitAt v 31 = false := by
    have hextra : Rg.engCtl.extraOk v = true := (Bool.and_eq_true_iff.1 h.okWrite).1
    simpa [Rg.extraOk, hstop] using hextra
  refine (regRow_granted .engCtl t 0 v _ r s h (by rw [hstop]; rfl)).trans ?_
  rw [State.writeReg_engCtl r.rq h.okWrite, hstart, hstop]
  rfl

theorem exec_engDoorbellRing_granted (h : s.grantsWrite r .engDoorbell t 0 v) (hring : bitAt v 0 = true) :
    exec (.engDoorbellRing r) s = .next (State.respond (State.engPend (s.takeReq r) t 13) r svcOK []) := by
  refine (regRow_granted .engDoorbell t 0 v _ r s h (by rw [hring]; rfl)).trans ?_
  rw [State.writeReg_engDoorbell r.rq h.okWrite, hring]
  rfl

end

/-! ### Boundaries, start and stop (R53, R255, R262) -/

theorem State.idlePass_active {s : State} {t : Nat} (k : Nat) (h : (s.engine t).run ≠ .idle ∨ s.engPaused t = true) : s.idlePass t k = s :=
  if_pos h

theorem State.engBoundary_stops {s : State} {t : Nat} (hstop : (s.engine t).stopReq = true) (hfree : (s.engine t).free = true)
    (hrun : (s.engine t).run = .running ∨ (s.engine t).run = .idle) : s.engBoundary t = s.engStopNow t false :=
  if_pos ⟨hstop, hfree, hrun⟩

theorem State.engStart_held {s : State} (t : Nat) (h : s.pw.ffHold = true) : s.engStart t = s :=
  if_neg fun hstart => by simp [h] at hstart

theorem State.engStop_open {s : State} {t : Nat} (h : ((s.engine t).run = .running ∧ (s.engine t).free = true) ∨
    ((s.engine t).run = .idle ∧ (s.engine t).lock = false)) : s.engStop t = s.engStopNow t false := by
  unfold State.engStop
  rcases h with ⟨hrun, hfree⟩ | ⟨hrun, hlock⟩
  · simp only [hrun, hfree, if_true]
  · simp only [hrun, hlock, Bool.false_eq_true, if_false]

/-! ### Interrupts and the end of a WAIT (R251–R253, R255) -/

theorem exec_interruptEntry_due {t : Tile} {k n : Nat} {s0 s : State} (hpass : s0.idlePass t k = s) (hdue : s.irqDue t = some n) :
    exec (.interruptEntry t k) s0 = .next (State.engPass
      (let u := State.trace (State.setF (s.setF F.engIrq_pending t 0 (Nat.land (s.getF F.engIrq_pending t 0) (0xFFFF - 2 ^ n)))
         F.engReturn_latch t 0 (s.engine t).pc) t 1 (s.engine t).pc (0x3FC0 + 4 * n)
       u.setEngine t { s.engine t with
         run := .running
         wait := none
         shd := true
         regs := tput (engRst rST) (s.engine t).regs (64 + rST) (mergeBits (tget (engRst rST) (s.engine t).regs (64 + rST)) stRPT 0)
         pc := 0x3FC0 + 4 * n
         cphase := 0
         cache := [] }) t 1) := by
  subst hpass
  show execInterruptEntry t k s0 = _
  simp only [execInterruptEntry, hdue]

theorem exec_interruptEntry_none {t : Tile} {k : Nat} {s : State} (h : (s.idlePass t k).irqDue t = none) :
    exec (.interruptEntry t k) s = .next (s.idlePass t k) := by
  show execInterruptEntry t k s = _
  simp only [execInterruptEntry, h]

theorem exec_waitWake_pending {t : Tile} {k mask dd n : Nat} {s0 s : State} (hpass : s0.idlePass t k = s)
    (hwait : (s.engine t).wait = some (mask, dd)) (hidle : (s.engine t).run = .idle) (hgoes : s.engPaused t = false)
    (htop : topBit (Nat.land (s.getF F.engIrq_pending t 0) mask) = some n) :
    exec (.waitWake t k) s0 = .next (State.engPass
      (State.setEngine (s.setF F.engIrq_pending t 0 (Nat.land (s.getF F.engIrq_pending t 0) (0xFFFF - 2 ^ n))) t { s.engine t with
        run := .running, wait := none, pend := addPend (s.engine t).pend ((s.engine t).wr dd 0xFFFF n (s.engine t).now)
        pc := ((s.engine t).pc + 1) % 16384 }) t 1) := by
  subst hpass
  show execWaitWake t k s0 = _
  simp only [execWaitWake, hwait, htop, hidle, hgoes]
  rfl

theorem exec_engirqRise_high {t : Tile} {join : Bool} {s u : State} (hrun : s.portRuns t .engine 1 = true) (hedge : s.portEdge t .engine 1 join = u)
    (hhigh : u.preEdge.senseBit t .engine .engirq 0 true = true) :
    exec (.engirqRise t join) s = .next (u.setF F.engIrq_pending t 0 (Nat.lor (u.getF F.engIrq_pending t 0) (2 ^ 14))) := by
  subst hedge
  exact congrArg Host.Outcome.next ((if_pos hrun).trans (if_pos hhigh))

/-! ### The watchdog (R260) -/

theorem exec_watchdogWarn_half {t : Tile} {s : State} (hruns : s.wdRuns t = true) (h : s.getF F.engWdog_period t 0 * 256 / 2 < (s.engine t).wd) :
    exec (.watchdogWarn t) s = .next (State.engPend (s.setEngine t { s.engine t with wd := s.getF F.engWdog_period t 0 * 256 / 2 }) t 15) :=
  congrArg Host.Outcome.next (if_pos ⟨hruns, h⟩)

theorem exec_watchdogExpiry_warned {t : Tile} {s : State} (hruns : s.wdRuns t = true) (h : (s.engine t).wd ≤ s.getF F.engWdog_period t 0 * 256 / 2) :
    exec (.watchdogExpiry t) s = .next (State.engFault (s.setEngine t { s.engine t with wd := 0 }) t 5) := by
  have hwarned : (if s.wdFull t / 2 < (s.engine t).wd then s.engPend t 15 else s) = s := if_neg (Nat.not_lt.2 h)
  refine congrArg Host.Outcome.next ((if_pos hruns).trans ?_)
  rw [hwarned]

/-- Settles O40: each event takes the branch that the engine's state, its requests and its comparators select; a register row is a granted write. -/
theorem engineRunControl : Obligations.EngineRunControl := by
  unfold Obligations.EngineRunControl
  refine ⟨fun t k n s0 s hpass hdue => exec_interruptEntry_due hpass hdue, fun t k s h => exec_interruptEntry_none h,
    fun t k s h => s.idlePass_active k h,
    fun t k mask dd n s0 s hpass hwait hidle hgoes htop => exec_waitWake_pending hpass hwait hidle hgoes htop,
    fun t join s u hrun hedge hhigh => exec_engirqRise_high hrun hedge hhigh, fun t s hstop hfree hrun => State.engBoundary_stops hstop hfree hrun,
    fun t s hruns h => exec_watchdogWarn_half hruns h, fun t s hruns h => exec_watchdogExpiry_warned hruns h,
    fun r s t v h => exec_watchdogReload_granted h, fun r s t v h hstart => exec_engStart_granted h hstart,
    fun r s t v h hstop => exec_engStop_granted h hstop, fun r s t v h hring => exec_engDoorbellRing_granted h hring,
    fun t s h => State.engStart_held t h, fun t s hrun hgo => ?start, fun t s h => State.engStop_open h,
    fun t s hrun hhalt hstop hstep hlock => ?stopForced, fun t p s hrun hhalt hopen hstep => ?halt, fun t p s hrun hhalt hstep hlock => ?haltForced,
    fun t k s hdue hrun hgoes hirq => ?breakMatch⟩
  case start => exact if_pos ⟨hrun, by simp [hgo]⟩
  case stopForced =>
    refine congrArg Host.Outcome.next ((if_pos ⟨.inl hrun, hstep, .inl hlock⟩).trans ?_)
    simp only [hhalt, hstop, if_true]
  case halt =>
    have hnow : (s.engine t).haltNow = true := by simp [Engine.haltNow, hhalt, hopen, hstep]
    refine congrArg Host.Outcome.next ((if_pos (.inl ⟨hrun, hnow⟩)).trans ?_)
    rw [hhalt]
  case haltForced =>
    refine congrArg Host.Outcome.next ((if_pos ⟨.inl hrun, hstep, .inl hlock⟩).trans ?_)
    simp only [hhalt]
  case breakMatch =>
    show execBreakMatch t s = _
    simp only [execBreakMatch, hdue, hrun, hgoes, hirq]
    rfl

end Sys2Proof.Machine

/-! SUPPORT. Regions and the steps of a swap (12 R284, R288, R289, R291–R301; 21 R478): how a region's commands are answered, the header check and the
fence, the turn of a step, and what follows a step's end. -/

namespace Sys2Proof.Machine

/-! ### Results with a code -/

theorem eq_pair {α β : Type} {q : α × β} {b : β} (h : q.2 = b) : q = (q.1, b) := Prod.ext rfl h

theorem eq_triple {α β γ : Type} {q : α × β × γ} {b : β} (h : q.2.1 = b) : q = (q.1, b, q.2.2) := Prod.ext rfl (Prod.ext h rfl)

/-! ### Commands (R284, R288, R478) -/

@[simp] theorem State.taken_region (s : State) (p m r : Nat) : (s.taken p m).region r = s.region r := (rfl)
@[simp] theorem State.taken_regionTenant (s : State) (p m r : Nat) : (s.taken p m).regionTenant r = s.regionTenant r := (rfl)
@[simp] theorem State.taken_imageOk (s : State) (p m i e : Nat) : (s.taken p m).imageOk i e = s.imageOk i e := (rfl)

theorem ite_some_eq_none_iff {α : Type} {c : Prop} [Decidable c] {a : α} {x : Option α} : (if c then some a else x) = none ↔ ¬ c ∧ x = none := by
  split <;> simp [*]

/-- A region command passes its checks exactly when it comes from T0 or the region's tenant, for a region that the full image defines, which neither
has a command in progress nor is being fenced or blanked, in a state in which the command is accepted. -/
theorem State.regionRefuses_eq_none_iff {s : State} {tenant r : Nat} {l : List Nat} :
    s.regionRefuses tenant r l = none ↔
      (tenant = 0 ∨ tenant = s.regionTenant r) ∧ s.flag F.regionStatus_defined 0 r = true ∧
      (s.regionOp r = none ∧ (s.region r).fencing = 0 ∧ (s.region r).failCode = none) ∧ s.regionState r ∈ l := by
  have howner : ¬ (tenant ≠ 0 ∧ tenant ≠ s.regionTenant r) ↔ tenant = 0 ∨ tenant = s.regionTenant r := by omega
  simp only [State.regionRefuses, ite_some_eq_none_iff, howner]
  simp

theorem State.regionRefuses_other {s : State} {tenant r : Nat} (l : List Nat) (hnonzero : tenant ≠ 0) (hother : tenant ≠ s.regionTenant r) :
    s.regionRefuses tenant r l = some 0x12 :=
  if_pos ⟨hnonzero, hother⟩

/-- A command without a route plan carries the empty one (R299). -/
@[simp] theorem State.readPlan_absent (s : State) (tenant r n : Nat) : s.readPlan tenant r 0 n = (s, .ok []) := if_pos rfl

section
variable {p : Port} {m : Mbox} {s : State} {r : Nat} (hr : s.arg p m 0 1 = r)
include hr

theorem exec_regionStatus_owner (h : s.ready p m 0x0100) (howner : s.portTenant p = 0 ∨ s.portTenant p = s.regionTenant r) :
    exec (.regionStatus p m) s =
      .next ((s.taken p m).reply p m 0 (leBytes 4 (s.reg .regionStatus 0 r) ++ leBytes 4 (s.reg .regionFault 0 r))) := by
  refine congrArg Host.Outcome.next ((takeMailbox_ready 0x0100 cmdRegionStatus p m s h).trans ?_)
  have hmay : ¬ (s.portTenant p ≠ 0 ∧ s.portTenant p ≠ s.regionTenant r) := by omega
  simp only [cmdRegionStatus, State.ctxOf_num, hr, State.ctxOf_tenant, State.taken_regionTenant, hmay, if_false, State.taken_reg, State.answer,
    State.ctxOf_port, State.ctxOf_mbox]

theorem exec_regionStatus_other (h : s.ready p m 0x0100) (hnonzero : s.portTenant p ≠ 0) (hother : s.portTenant p ≠ s.regionTenant r) :
    exec (.regionStatus p m) s = .next ((s.taken p m).reply p m 0x12 []) := by
  refine congrArg Host.Outcome.next ((takeMailbox_ready 0x0100 cmdRegionStatus p m s h).trans ?_)
  simp [cmdRegionStatus, hr, hnonzero, hother, refuse, State.answer]

theorem exec_regionSwap_plain (h : s.ready p m 0x0101) (hmay : (s.taken p m).regionRefuses (s.portTenant p) r [0] = none)
    (hclasses : s.arg p m 1 1 = 0) (himage : s.imageOk (s.arg p m 2 1) (s.arg p m 3 1) = true) (hplan : s.arg p m 24 8 = 0) :
    exec (.regionSwap p m) s = .next (State.answer (State.regionJoin ((s.taken p m).setRegion r { s.region r with
      classes := 0
      image := some (s.arg p m 2 1, s.arg p m 3 1, s.arg p m 8 8)
      buffer := none
      plan := [] }) r) (s.ctxOf p m) (.accepted ((s.ctxOf p m).op r [s.arg p m 4 4]))) := by
  refine congrArg Host.Outcome.next ((takeMailbox_ready 0x0101 cmdRegionSwap p m s h).trans ?_)
  simp [cmdRegionSwap, hr, hmay, hclasses, himage, hplan]

theorem exec_regionSwap_refused {code : Nat} (h : s.ready p m 0x0101)
    (hrefuses : (s.taken p m).regionRefuses (s.portTenant p) r [0] = some code) :
    exec (.regionSwap p m) s = .next ((s.taken p m).reply p m code []) := by
  refine congrArg Host.Outcome.next ((takeMailbox_ready 0x0101 cmdRegionSwap p m s h).trans ?_)
  simp [cmdRegionSwap, hr, hrefuses, refuse, State.answer]

theorem exec_regionFence_accepted (h : s.ready p m 0x0102) (hmay : (s.taken p m).regionRefuses (s.portTenant p) r [0] = none) :
    exec (.regionFence p m) s =
      .next (State.answer ((s.taken p m).fenceStart r) (s.ctxOf p m) (.accepted ((s.ctxOf p m).op r [s.arg p m 4 4]))) := by
  refine congrArg Host.Outcome.next ((takeMailbox_ready 0x0102 cmdRegionFence p m s h).trans ?_)
  simp [cmdRegionFence, hr, hmay]

theorem exec_regionCapture_accepted (h : s.ready p m 0x0103) (hmay : (s.taken p m).regionRefuses (s.portTenant p) r [1] = none) :
    exec (.regionCapture p m) s = .next (State.answer ((((s.taken p m).setRegion r { s.region r with
      classes := s.arg p m 1 1, buffer := some (s.arg p m 8 8) }).setRState r 3).regionJoin r) (s.ctxOf p m) (.accepted ((s.ctxOf p m).op r []))) := by
  refine congrArg Host.Outcome.next ((takeMailbox_ready 0x0103 cmdRegionCapture p m s h).trans ?_)
  simp [cmdRegionCapture, hr, hmay]

theorem exec_regionLoad_accepted (h : s.ready p m 0x0104) (hmay : (s.taken p m).regionRefuses (s.portTenant p) r [1, 5] = none)
    (himage : s.imageOk (s.arg p m 2 1) (s.arg p m 3 1) = true) :
    exec (.regionLoad p m) s = .next (State.answer (((s.taken p m).setRegion r { s.region r with
      image := some (s.arg p m 2 1, s.arg p m 3 1, s.arg p m 8 8), classes := 0 }).regionJoin r) (s.ctxOf p m)
      (.accepted ((s.ctxOf p m).op r []))) := by
  refine congrArg Host.Outcome.next ((takeMailbox_ready 0x0104 cmdRegionLoad p m s h).trans ?_)
  simp [cmdRegionLoad, hr, hmay, himage]

section
variable {u : State} {d : List Byte} (hbuf : (s.taken p m).bufRead (s.regionTenant r) (s.arg p m 8 8) 64 = (u, 0, d))
include hbuf

theorem exec_regionRestore_accepted (h : s.ready p m 0x0105) (hmay : (s.taken p m).regionRefuses (s.portTenant p) r [1] = none)
    (hloaded : (s.region r).loaded = true) (hvalid : captureOk d r (u.regionTenant r) = true) :
    exec (.regionRestore p m) s = .next (State.answer
      (((u.setRegion r { u.region r with buffer := some (s.arg p m 8 8) }).setRState r 4).regionJoin r) (s.ctxOf p m)
      (.accepted ((s.ctxOf p m).op r []))) := by
  refine congrArg Host.Outcome.next ((takeMailbox_ready 0x0105 cmdRegionRestore p m s h).trans ?_)
  simp [cmdRegionRestore, hr, hmay, hloaded, hbuf, hvalid]

theorem exec_regionRestore_invalid (h : s.ready p m 0x0105) (hmay : (s.taken p m).regionRefuses (s.portTenant p) r [1] = none)
    (hloaded : (s.region r).loaded = true) (hvalid : captureOk d r (u.regionTenant r) = false) :
    exec (.regionRestore p m) s = .next (u.reply p m 0x10 []) := by
  refine congrArg Host.Outcome.next ((takeMailbox_ready 0x0105 cmdRegionRestore p m s h).trans ?_)
  simp [cmdRegionRestore, hr, hmay, hloaded, hbuf, hvalid, refuse, State.answer]

end

theorem exec_regionRelease_planless (h : s.ready p m 0x0106) (hmay : (s.taken p m).regionRefuses (s.portTenant p) r [1] = none)
    (hplan : s.arg p m 8 8 = 0) :
    exec (.regionRelease p m) s = .next (State.releaseAccepted (State.answer ((s.taken p m).setRegion r { s.region r with plan := [] }) (s.ctxOf p m)
      (.accepted ((s.ctxOf p m).op r [])))) := by
  refine congrArg (fun u => Host.Outcome.next (State.releaseAccepted u)) ((takeMailbox_ready 0x0106 cmdRegionRelease p m s h).trans ?_)
  simp [cmdRegionRelease, hr, hmay, hplan]

theorem exec_regionBlank_accepted (h : s.ready p m 0x0107) (hmay : (s.taken p m).regionRefuses (s.portTenant p) r [1] = none) :
    exec (.regionBlank p m) s =
      .next (State.answer (((s.taken p m).blankStart r 0).regionJoin r) (s.ctxOf p m) (.accepted ((s.ctxOf p m).op r []))) := by
  refine congrArg Host.Outcome.next ((takeMailbox_ready 0x0107 cmdRegionBlank p m s h).trans ?_)
  simp [cmdRegionBlank, hr, hmay]

end

/-! ### The header check (R284, R295) -/

/-- Where a command with this opcode has its image's header checked: a swap in LIVE, a load in FENCED or BLANK. -/
def headerState (opcode state : Nat) : Prop := opcode = 0x0101 ∧ state = 0 ∨ opcode = 0x0104 ∧ (state = 1 ∨ state = 5)

section
variable {r : RegionId} {errs e : List Bool} {s u : State} {o : LongOp} {d : List Byte} (hrun : s.maltarRuns = true)
  (hop : s.regionOp r = some o) (hstate : headerState o.opcode (s.regionState r)) (himage : (s.region r).image.isSome = true)
  (hfencing : (s.region r).fencing = 0) (hfail : (s.region r).failCode = none) (he : (if (s.regionSrc r).2.1.isNone then errs else []) = e)
  (hread : (s.storeErrs 0 e).regionHeader r = (u, 0, d))
include hrun hop hstate himage hfencing hfail he hread

/-- An image header that is there to be checked, and can be read, decides how the command goes on: by its code, or by its opcode. -/
theorem exec_regionHeaderChecked_read :
    exec (.regionHeaderChecked r errs) s = .next (
      let code := if unread e then 0x22 else u.regionHeaderCode r d
      let v := u.setRegion r { u.region r with hdr := d }
      if code ≠ 0 then v.regionDone r code else if o.opcode = 0x0101 then v.fenceStart r else v.loadStart r) := by
  subst he
  have hdue : ¬ ((s.region r).image.isNone = true ∨ (s.region r).fencing ≠ 0 ∨ (s.region r).failCode.isSome = true) := by
    simp [Option.isSome_iff_ne_none.mp himage, hfencing, hfail]
  have hswap : ¬ (o.opcode = 0x0101 ∧ s.regionState r ≠ 0) := by rcases hstate with h | h <;> omega
  have hload : ¬ (o.opcode = 0x0104 ∧ s.regionState r ≠ 1 ∧ s.regionState r ≠ 5) := by rcases hstate with h | h <;> omega
  have hkind : ¬ (o.opcode ≠ 0x0101 ∧ o.opcode ≠ 0x0104) := by rcases hstate with h | h <;> omega
  show execRegionHeaderChecked r errs s = _
  simp only [execRegionHeaderChecked, hrun, hop, hdue, hswap, hload, hkind, hread, Bool.not_true, Bool.false_eq_true, if_false]

theorem exec_regionHeaderChecked_refused {code : Nat} (hcode : (if unread e then 0x22 else u.regionHeaderCode r d) = code) (hne : code ≠ 0) :
    exec (.regionHeaderChecked r errs) s = .next ((u.setRegion r { u.region r with hdr := d }).regionDone r code) := by
  subst hcode
  exact (exec_regionHeaderChecked_read hrun hop hstate himage hfencing hfail he hread).trans (congrArg Host.Outcome.next (if_pos hne))

theorem exec_regionHeaderChecked_accepted (hok : unread e = false) (hcode : u.regionHeaderCode r d = 0) :
    exec (.regionHeaderChecked r errs) s = .next (
      let v := u.setRegion r { u.region r with hdr := d }
      if o.opcode = 0x0101 then v.fenceStart r else v.loadStart r) :=
  (exec_regionHeaderChecked_read hrun hop hstate himage hfencing hfail he hread).trans (congrArg Host.Outcome.next (if_neg (by simp [hok, hcode])))

end

/-! ### The fence (R289) -/

theorem exec_drainEnd_fencing {r : RegionId} {s : State} (hrun : s.maltarRuns = true) (hfencing : (s.region r).fencing = 1) :
    exec (.drainEnd r) s = .next (State.forTiles
      ((s.setRegion r { s.region r with fencing := 2, clamped := true, clamps := s.fenceValues r }).rtFence r) r (fun t s =>
        iter 4 (fun n s => s.qDisable (4 * t + n)) (((s.fenceEngine t).dropTqi t).sinkKept t))) :=
  congrArg Host.Outcome.next (if_neg (by simp [hrun, hfencing]))

section
variable {r : RegionId} {s u : State} (hrun : s.maltarRuns = true) (hfencing : (s.region r).fencing = 2)
  (hu : s.forTiles r (fun t s => s.fenceForce t) = u)
include hrun hfencing hu

theorem exec_fenceComplete_outstanding {t : Nat} (ht : t ∈ (u.region r).tiles) (houts : u.niOuts t ≠ 0) :
    exec (.fenceComplete r) s = .next u := by
  subst hu
  refine congrArg Host.Outcome.next ((if_neg (by simp [hrun, hfencing])).trans (if_pos ?_))
  exact List.any_eq_true.mpr ⟨t, ht, by simp [houts]⟩

theorem exec_fenceComplete_command {o : LongOp}
    (hquiet : ∀ t ∈ (u.region r).tiles, u.niOuts t = 0 ∧ (u.engine t).run ≠ .running ∧ (u.engine t).run ≠ .idle) (hblank : (u.region r).blank = false)
    (hop : State.regionOp ((u.setRegion r { u.region r with fencing := 0 }).setRState r 1) r = some o) (hkind : o.opcode = 0x0102) :
    exec (.fenceComplete r) s = .next (((u.setRegion r { u.region r with fencing := 0 }).setRState r 1).regionDone r 0) := by
  subst hu
  refine congrArg Host.Outcome.next ((if_neg (by simp [hrun, hfencing])).trans ((if_neg ?_).trans ((if_neg ?_).trans ?_)))
  · simpa using hquiet
  · simp [hblank]
  · simp only [hop, hkind]
    rfl

end

/-! ### The turn and the end of a step (R300, R301) -/

theorem State.regionTurn_first {s : State} {d x : Nat} (r : Nat) (h : s.rgn.order.find? (fun x => s.regionOn x d) = some x) :
    s.regionTurn r d = decide (x = r) := by
  simp only [State.regionTurn, h]

/-- What follows a step that has ended waits for Maltar. -/
theorem State.stepGo_waits {s : State} (r : Nat) (hrun : s.maltarRuns = false) : s.stepGo r = s := by
  unfold State.stepGo
  split
  · rfl
  · exact if_pos (by simp [hrun])

/-- What follows a step of a region once Maltar runs, by the step's kind: a capture, a load, a restore, or a blanking. -/
def State.stepFollows (s : State) (r kind code addr : Nat) : State :=
  match kind with
  | 1 => s.captureEnd r code
  | 2 => s.loadEnd r code addr
  | 3 => s.restoreEnd r code addr
  | _ => s.blankEnd r code addr

theorem State.stepGo_runs {s : State} {r kind code addr : Nat} (hdue : (s.region r).due = some (kind, code, addr)) (hrun : s.maltarRuns = true) :
    s.stepGo r = (s.setRegion r { s.region r with due := none }).stepFollows r kind code addr := by
  simp only [State.stepGo, hdue]
  exact if_neg (by simp [hrun])

/-- The row of a step whose end is due lets it go on. -/
theorem State.stepDone_due {s : State} {r kind code addr : Nat} (st : Nat) (f : State → State × Nat × Nat)
    (hdue : (s.region r).due = some (kind, code, addr)) : s.stepDone r kind st f = s.stepGo r := by
  simp [State.stepDone, hdue]

/-- In their turn, and in the step's state, the dies carry a step out. -/
theorem State.stepDone_turn {s v : State} {r st code addr : Nat} (kind : Nat) {f : State → State × Nat × Nat} (hdue : (s.region r).due = none)
    (hstate : s.regionState r = st) (hturn : s.stepTurn r = true) (hf : f s = (v, code, addr)) :
    s.stepDone r kind st f = v.stepEnd r kind code addr := by
  simp only [State.stepDone, hdue, hstate, hturn, hf, Option.isSome_none, Bool.false_eq_true, if_false, ne_eq, not_true_eq_false, Bool.not_true, or_self]

/-! ### Capture (R291, R293, R294) -/

theorem State.captureDies_written {s w v : State} {r code : Nat}
    (hrecs : s.writeRecs (s.regionTenant r) ((s.region r).buffer.getD 0 + 64) (s.captureRecs r (s.region r).classes) = (w, 0))
    (hhdr : w.bufWrite (s.regionTenant r) ((s.region r).buffer.getD 0)
      (captureHeader r (s.regionTenant r) (s.region r).classes (s.captureRecs r (s.region r).classes).length) = (v, code)) :
    s.captureDies r = (v, code, 0) := by
  simp only [State.captureDies, hrecs, hhdr]

theorem State.captureDies_fails {s w : State} {r code : Nat}
    (hrecs : s.writeRecs (s.regionTenant r) ((s.region r).buffer.getD 0 + 64) (s.captureRecs r (s.region r).classes) = (w, code)) (hcode : code ≠ 0) :
    s.captureDies r = (w, code, 0) := by
  simp only [State.captureDies, hrecs]

/-! ### What follows a step (R288, R294–R298, R301) -/

section
variable {s : State} {r : Nat} {o : LongOp}

section
variable {u : State} (hu : (s.setRegion r { s.region r with loaded := false }).setRState r 1 = u)
include hu

theorem State.captureEnd_command (hop : u.regionOp r = some o) (hkind : o.opcode = 0x0103) : s.captureEnd r 0 = u.regionDone r 0 := by
  subst hu
  simp [State.captureEnd, hop, hkind]

theorem State.captureEnd_swap (hop : u.regionOp r = some o) (hkind : o.opcode = 0x0101) : s.captureEnd r 0 = u.loadStart r := by
  subst hu
  simp [State.captureEnd, hop, hkind]

theorem State.captureEnd_failed {code : Nat} (hcode : code ≠ 0) : s.captureEnd r code = (u.regionFault r code 0).regionDone r code := by
  subst hu
  exact if_pos hcode

end

section
variable {u : State} (hu : (s.setRegion r { s.region r with loaded := true }).setRState r 1 = u)
include hu

theorem State.loadEnd_command (addr : Nat) (hop : u.regionOp r = some o) (hkind : o.opcode = 0x0104) :
    s.loadEnd r 0 addr = u.regionDone r 0 := by
  subst hu
  simp [State.loadEnd, hop, hkind]

theorem State.loadEnd_swap (addr : Nat) (hop : u.regionOp r = some o) (hkind : o.opcode = 0x0101) (hclasses : (u.region r).classes = 0) :
    s.loadEnd r 0 addr = (u.regionRelease r).regionDone r 0 := by
  subst hu
  simp [State.loadEnd, hop, hkind, hclasses, State.swapRelease]

end

theorem State.loadEnd_failed {code : Nat} (addr : Nat) (hcode : code ≠ 0) :
    s.loadEnd r code addr = (s.regionFault r code addr).blankStart r code :=
  if_pos hcode

theorem State.restoreEnd_command {u : State} (addr : Nat) (hu : (s.setRegion r { s.region r with restored := true }).setRState r 1 = u)
    (hop : u.regionOp r = some o) (hkind : o.opcode = 0x0105) : s.restoreEnd r 0 addr = u.regionDone r 0 := by
  subst hu
  simp [State.restoreEnd, hop, hkind]

theorem State.restoreEnd_failed {code : Nat} (addr : Nat) (hcode : code ≠ 0) :
    s.restoreEnd r code addr = (s.regionFault r code addr).blankStart r code :=
  if_pos hcode

/-- A blanking that its readback finds in order ends its command with the code of what led to it (R296). -/
theorem State.blankEnd_verified {why : Nat} (addr : Nat) (hwhy : (s.region r).failCode = some why) :
    s.blankEnd r 0 addr = ((s.setRegion r { s.region r with failCode := none }).setRState r 5).regionDone r why := by
  simp only [State.blankEnd, hwhy, Option.getD_some, ne_eq, not_true_eq_false, if_false]
  split
  case isTrue hzero => rw [hzero]
  case isFalse => rfl

end

/-! ### Loading (R295) -/

section
variable {r : RegionId} {gap : Option Word32} {s u : State} (cfg : ImageCfg) (hstate : s.regionState r = 2) (hfail : (s.region r).failCode = none)
  (hturn : s.stepTurn r = true) (hdue : (s.region r).due = none) (hu : iter 4 (fun d s => s.ctlReport (some r.val) d (gap.map (·.toNat))) s = u)
  (hreported : ∀ d < 4, (u.ctl (some r.val) d).reported = true)
include hstate hfail hturn hdue hu hreported

/-- Once the die controllers have ended their sections, the first that failed says how the load ends; if none did, the image takes effect. -/
theorem exec_regionLoadDone_reported :
    exec (.regionLoadDone r cfg gap) s = .next (
      match (List.range 4).find? (fun d => (u.ctl (some r.val) d).fail.isSome) with
      | some d => u.stepEnd r 2 ((u.ctl (some r.val) d).fail.getD 0) (u.ctl (some r.val) d).failAddr
      | none => (u.takeImage r cfg).stepEnd r 2 0 0) := by
  subst hu
  refine congrArg Host.Outcome.next ((if_neg (by simp [hdue])).trans ((if_neg (by simp [hstate, hfail, hturn])).trans ((if_neg ?_).trans ?_)))
  · simpa using hreported
  · rfl

theorem exec_regionLoadDone_failed {d : Nat} (hd : (List.range 4).find? (fun d => (u.ctl (some r.val) d).fail.isSome) = some d) :
    exec (.regionLoadDone r cfg gap) s = .next (u.stepEnd r 2 ((u.ctl (some r.val) d).fail.getD 0) (u.ctl (some r.val) d).failAddr) := by
  rw [exec_regionLoadDone_reported cfg hstate hfail hturn hdue hu hreported, hd]

theorem exec_regionLoadDone_taken (hnone : ∀ d < 4, (u.ctl (some r.val) d).fail = none) :
    exec (.regionLoadDone r cfg gap) s = .next ((u.takeImage r cfg).stepEnd r 2 0 0) := by
  have hfind : (List.range 4).find? (fun d => (u.ctl (some r.val) d).fail.isSome) = none := by simpa using hnone
  rw [exec_regionLoadDone_reported cfg hstate hfail hturn hdue hu hreported, hfind]

end

/-! ### Restore and blanking (R296, R297) -/

section
variable {s u : State} {r : Nat} {h : List Byte} (hread : s.bufRead (s.regionTenant r) ((s.region r).buffer.getD 0) 64 = (u, 0, h))
include hread

theorem State.restoreDies_invalid (hvalid : captureOk h r (s.regionTenant r) = false) : s.restoreDies r = (u, 0x10, 0) := by
  simp only [State.restoreDies, hread, hvalid, Bool.not_false, if_true]

section
variable {v : State} (hvalid : captureOk h r (s.regionTenant r) = true)
include hvalid

theorem State.restoreDies_restored
    (hrecs : u.restoreRecs r (s.regionTenant r) ((s.region r).buffer.getD 0 + 64) (leAt h 8 4) = (v, none)) : s.restoreDies r = (v, 0, 0) := by
  simp only [State.restoreDies, hread, hvalid, hrecs, Bool.not_true, Bool.false_eq_true, if_false]

theorem State.restoreDies_failed {c a : Nat}
    (hrecs : u.restoreRecs r (s.regionTenant r) ((s.region r).buffer.getD 0 + 64) (leAt h 8 4) = (v, some (c, a))) :
    s.restoreDies r = (v, c, a) := by
  simp only [State.restoreDies, hread, hvalid, hrecs, Bool.not_true, Bool.false_eq_true, if_false]

end
end

theorem exec_blankingDone_turn {r : RegionId} {s v : State} {why code addr : Nat} (rb : Option Word32) (hwhy : (s.region r).failCode = some why)
    (hstate : s.regionState r = 2) (hturn : s.stepTurn r = true) (hdue : (s.region r).due = none)
    (hdies : s.blankDies r (rb.map (·.toNat)) = (v, code, addr)) : exec (.blankingDone r rb) s = .next (v.stepEnd r 4 code addr) :=
  congrArg Host.Outcome.next ((if_neg (by simp [hwhy])).trans (State.stepDone_turn 4 hdue hstate hturn hdies))

/-- Settles O47: a region's command is answered by its checks and its operands; each step ends by what its dies found, and goes on with Maltar. -/
theorem regionSwaps : Obligations.RegionSwaps := by
  unfold Obligations.RegionSwaps
  refine ⟨fun p m s r h hr => exec_regionStatus_owner hr h, fun p m s r h hr => exec_regionStatus_other hr h,
    fun p m s r h hr => exec_regionSwap_plain hr h, fun p m s r code h hr => exec_regionSwap_refused hr h,
    fun p m s r h hr => exec_regionFence_accepted hr h, fun p m s r h hr hmay _ => exec_regionCapture_accepted hr h hmay,
    fun p m s r h hr => exec_regionLoad_accepted hr h,
    fun p m s r h hr hmay hloaded hread => exec_regionRestore_accepted hr (eq_triple hread) h hmay hloaded,
    fun p m s r h hr hmay hloaded hread => exec_regionRestore_invalid hr (eq_triple hread) h hmay hloaded,
    fun p m s r h hr => exec_regionRelease_planless hr h, fun p m s r h hr => exec_regionBlank_accepted hr h,
    fun s tenant r l => State.regionRefuses_other l, fun s tenant r l h => (State.regionRefuses_eq_none_iff.mp h).2.2.2,
    ?swapHeader, ?loadHeader, ?badHeader, ?unreadHeader, fun r s => exec_drainEnd_fencing, fun s r => rfl,
    fun r s o hrun hfencing => exec_fenceComplete_command hrun hfencing rfl,
    fun r s t hrun hfencing => exec_fenceComplete_outstanding hrun hfencing rfl, ?capture, ?captureEnd, ?loadFailed, ?loadTaken, ?loadEnd, ?restore,
    ?restoreEnd, ?blanking, fun s r why addr => State.blankEnd_verified addr, ?captureGoes, fun s r code addr => State.stepGo_runs,
    fun s r code addr => State.stepGo_runs, fun s r code addr => State.stepGo_runs, ?captureDue, fun s r d x => State.regionTurn_first r⟩
  case swapHeader =>
    intro r errs e s o hrun hop hkind himage hfencing hfail hstate he q u hread hok hcode
    rw [exec_regionHeaderChecked_accepted hrun hop (.inl ⟨hkind, hstate⟩) himage hfencing hfail he (eq_triple hread) hok hcode]
    exact congrArg Host.Outcome.next (if_pos hkind)
  case loadHeader =>
    intro r errs e s o hrun hop hkind himage hfencing hfail hstate he q u hread hok hcode
    rw [exec_regionHeaderChecked_accepted hrun hop (.inr ⟨hkind, hstate⟩) himage hfencing hfail he (eq_triple hread) hok hcode]
    exact congrArg Host.Outcome.next (if_neg (by omega))
  case badHeader =>
    intro r errs e s o hrun hop hkind himage hfencing hfail hstate he q u hread hok
    exact exec_regionHeaderChecked_refused hrun hop (.inl ⟨hkind, hstate⟩) himage hfencing hfail he (eq_triple hread) (by simp [hok, q])
  case unreadHeader =>
    intro r errs e s o hrun hop hkind himage hfencing hfail hstate he q u hread hbad
    exact exec_regionHeaderChecked_refused hrun hop (.inl ⟨hkind, hstate⟩) himage hfencing hfail he (eq_triple hread) (if_pos hbad) (by decide)
  case capture =>
    intro r s hstate hturn hdue recs w v
    exact ⟨fun hwritten => congrArg Host.Outcome.next
        (State.stepDone_turn 1 hdue hstate hturn (State.captureDies_written (eq_pair hwritten) (eq_pair rfl))),
      fun hfails => congrArg Host.Outcome.next (State.stepDone_turn 1 hdue hstate hturn (State.captureDies_fails (eq_pair rfl) hfails))⟩
  case captureEnd =>
    exact fun s r o => ⟨State.captureEnd_command rfl, State.captureEnd_swap rfl, fun code => State.captureEnd_failed rfl⟩
  case loadFailed =>
    exact fun r cfg gap s u d hstate hfail hturn hdue hu hreported => exec_regionLoadDone_failed cfg hstate hfail hturn hdue hu hreported
  case loadTaken =>
    exact fun r cfg gap s u hstate hfail hturn hdue hu hends =>
      exec_regionLoadDone_taken cfg hstate hfail hturn hdue hu (fun d hd => (hends d hd).1) (fun d hd => (hends d hd).2)
  case loadEnd =>
    exact fun s r addr o => ⟨State.loadEnd_command rfl addr, State.loadEnd_swap rfl addr, fun code => State.loadEnd_failed addr⟩
  case restore =>
    intro r s hstate hturn hdue q v hread
    have hq : s.bufRead (s.regionTenant r) ((s.region r).buffer.getD 0) 64 = (q.1, 0, q.2.2) := eq_triple hread
    refine ⟨fun hvalid hall => ?_, fun c a hvalid hrec => ?_, fun hinvalid => ?_⟩ <;>
      refine congrArg Host.Outcome.next (State.stepDone_turn 3 hdue hstate hturn ?_)
    · exact State.restoreDies_restored hq hvalid (eq_pair hall)
    · exact State.restoreDies_failed hq hvalid (eq_pair hrec)
    · exact State.restoreDies_invalid hq hinvalid
  case restoreEnd =>
    exact fun s r addr o => ⟨State.restoreEnd_command addr rfl, fun code => State.restoreEnd_failed addr⟩
  case blanking =>
    exact fun r s why hwhy hstate hturn hdue => ⟨exec_blankingDone_turn none hwhy hstate hturn hdue rfl,
      fun a hkind htile => exec_blankingDone_turn (some a) hwhy hstate hturn hdue (if_pos ⟨hkind, htile⟩)⟩
  case captureGoes =>
    exact fun s r code addr hdue => ⟨State.stepGo_runs hdue, State.stepGo_waits r⟩
  case captureDue =>
    exact fun r s code addr hdue => congrArg Host.Outcome.next (State.stepDone_due 3 _ hdue)

end Sys2Proof.Machine

/-! SUPPORT. The SECDED codes of R370 and R371: the syndrome and the parity of a word are linear over exclusive-or, so what an error of one or two bits
does to them does not depend on the word. -/

namespace Sys2Proof.Machine

/-! ### Linearity -/

theorem bitAt_xor (v w i : Nat) : bitAt (v ^^^ w) i = (bitAt v i ^^ bitAt w i) := by
  simp only [bitAt_eq_testBit, Nat.testBit_xor]

theorem bitAt_two_pow (i j : Nat) : bitAt (2 ^ i) j = decide (i = j) := by
  rw [bitAt_eq_testBit, Nat.testBit_two_pow]

/-- Exclusive-or of the values at the set bits of `v`. -/
def xorAt (v : Nat) : List (Nat × Nat) → Nat
  | [] => 0
  | q :: l => (if bitAt v q.2 = true then q.1 else 0) ^^^ xorAt v l

theorem foldl_xor_filter (v a : Nat) (l : List (Nat × Nat)) :
    (l.filter (fun q => bitAt v q.2)).foldl (fun a q => Nat.xor a q.1) a = a ^^^ xorAt v l := by
  induction l generalizing a with
  | nil => exact (Nat.xor_zero a).symm
  | cons q l ih =>
    rw [xorAt, ← Nat.xor_assoc]
    by_cases h : bitAt v q.2 = true
    · rw [List.filter_cons_of_pos (by exact h), List.foldl_cons, ih, if_pos h]
      rfl
    · rw [List.filter_cons_of_neg (by exact h), ih, if_neg h, Nat.xor_zero]

theorem dataSyn_eq_xorAt (k r v : Nat) : dataSyn k r v = xorAt v (dataPos k r).zipIdx := by
  rw [dataSyn, foldl_xor_filter, Nat.zero_xor]

theorem xorAt_xor (v w : Nat) (l : List (Nat × Nat)) : xorAt (v ^^^ w) l = xorAt v l ^^^ xorAt w l := by
  induction l with
  | nil => simp only [xorAt, Nat.xor_self]
  | cons q l ih =>
    simp only [xorAt, ih, bitAt_xor]
    cases bitAt v q.2 <;> cases bitAt w q.2 <;> simp [Nat.xor_assoc, Nat.xor_left_comm]

theorem xorAt_two_pow_before {n m : Nat} (l : List Nat) (h : n < m) : xorAt (2 ^ n) (l.zipIdx m) = 0 := by
  induction l generalizing m with
  | nil => rfl
  | cons p l ih =>
    have hne : n ≠ m := by omega
    simp [List.zipIdx_cons, xorAt, bitAt_two_pow, hne, ih (m := m + 1) (by omega)]

/-- One set bit selects one value. -/
theorem xorAt_two_pow (l : List Nat) (n i : Nat) : xorAt (2 ^ (n + i)) (l.zipIdx n) = l.getD i 0 := by
  induction l generalizing n i with
  | nil => rfl
  | cons p l ih =>
    cases i with
    | zero => simp [List.zipIdx_cons, xorAt, bitAt_two_pow, xorAt_two_pow_before l (Nat.lt_succ_self n)]
    | succ i =>
      have hnext := ih (n + 1) i
      rw [Nat.add_right_comm, Nat.add_assoc] at hnext
      simp [List.zipIdx_cons, xorAt, bitAt_two_pow, hnext]

theorem dataSyn_xor (k r v w : Nat) : dataSyn k r (v ^^^ w) = dataSyn k r v ^^^ dataSyn k r w := by
  simp only [dataSyn_eq_xorAt, xorAt_xor]

theorem dataSyn_two_pow (k r i : Nat) : dataSyn k r (2 ^ i) = (dataPos k r).getD i 0 := by
  rw [dataSyn_eq_xorAt]
  simpa using xorAt_two_pow (dataPos k r) 0 i

theorem dataSyn_zero (k r : Nat) : dataSyn k r 0 = 0 := by
  have hself := dataSyn_xor k r 0 0
  rwa [Nat.xor_self, Nat.xor_self] at hself

theorem parity_succ (n v : Nat) : parity (n + 1) v = (parity n v + b2n (bitAt v n)) % 2 := by
  cases h : bitAt v n <;> simp [parity, List.range_succ, List.filter_append, h, b2n]

theorem parity_xor (n v w : Nat) : parity n (v ^^^ w) = (parity n v + parity n w) % 2 := by
  induction n with
  | zero => rfl
  | succ n ih =>
    simp only [parity_succ, ih, bitAt_xor]
    cases bitAt v n <;> cases bitAt w n <;> simp [b2n] <;> omega

theorem parity_two_pow (n i : Nat) : parity n (2 ^ i) = b2n (decide (i < n)) := by
  induction n with
  | zero => rfl
  | succ n ih =>
    rw [parity_succ, ih, bitAt_two_pow]
    rcases Nat.lt_trichotomy i n with h | h | h
    · simp [b2n, h, h.ne, h.trans (Nat.lt_succ_self n)]
    · simp [b2n, h]
    · simp [b2n, h.le.not_gt, h.ne', (Nat.succ_le_of_lt h).not_gt]

theorem parity_zero (n : Nat) : parity n 0 = 0 := by
  simp [parity, bitAt]

/-- The bits below `n` alone make a number's parity. -/
theorem parity_mod (n v : Nat) : parity n (v % 2 ^ n) = parity n v := by
  have hbit : ∀ i ∈ List.range n, bitAt (v % 2 ^ n) i = bitAt v i := fun i hi => by
    rw [bitAt_eq_testBit, bitAt_eq_testBit, Nat.testBit_mod_two_pow, decide_eq_true (List.mem_range.mp hi), Bool.true_and]
  rw [parity, List.filter_congr hbit, parity]

/-! ### The check field and the decode -/

theorem parity_lt (n v : Nat) : parity n v < 2 := Nat.mod_lt _ (by decide)

theorem secEncode_mod (k r v : Nat) : secEncode k r v % 2 ^ r = dataSyn k r v % 2 ^ r := by
  simp [secEncode]

/-- The overall parity makes the number of ones of the codeword even. -/
theorem parity_secEncode (k r v : Nat) : parity (r + 1) (secEncode k r v) = parity k v := by
  have hlow : parity r (secEncode k r v) = parity r (dataSyn k r v % 2 ^ r) := by
    rw [← parity_mod, secEncode_mod]
  have hdiv : secEncode k r v / 2 ^ r = (parity k v + parity r (dataSyn k r v % 2 ^ r)) % 2 := by
    rw [secEncode, Nat.add_mul_div_right _ _ (Nat.two_pow_pos r), Nat.div_eq_of_lt (Nat.mod_lt _ (Nat.two_pow_pos r)), Nat.zero_add]
  have hv := parity_lt k v
  have hc := parity_lt r (dataSyn k r v % 2 ^ r)
  rw [parity_succ, hlow, b2n_bitAt, hdiv]
  omega

/-- The data positions of a code are as many as its data bits, and its check bits are as many as its positions need (R370). -/
structure SecCode (k r : Nat) : Prop where
  length : (dataPos k r).length = k
  bound : k + r < 2 ^ r
  needed : 2 ^ r ≤ 2 * (k + r)

section
variable {k r : Nat} (h : SecCode k r)

theorem mem_dataPos {p : Nat} : p ∈ dataPos k r ↔ p ≤ k + r ∧ p ≠ 0 ∧ isPow2 p = false := by
  simp [dataPos]

theorem isPow2_two_pow (j : Nat) : isPow2 (2 ^ j) = true := by
  simp [isPow2, Nat.log2_two_pow]

theorem nodup_dataPos (k r : Nat) : (dataPos k r).Nodup := List.nodup_range.filter _

include h

theorem SecCode.getD_mem {i : Nat} (hi : i < k) : (dataPos k r).getD i 0 ∈ dataPos k r := by
  have hlen : i < (dataPos k r).length := h.length.symm ▸ hi
  rw [List.getD_eq_getElem _ _ hlen]
  exact List.getElem_mem hlen

theorem SecCode.idxOf?_getD {i : Nat} (hi : i < k) : (dataPos k r).idxOf? ((dataPos k r).getD i 0) = some i := by
  have hlen : i < (dataPos k r).length := h.length.symm ▸ hi
  rw [List.getD_eq_getElem _ _ hlen, List.idxOf?_eq_some_iff]
  exact ⟨hlen, rfl, fun j hj heq => hj.ne ((nodup_dataPos k r).getElem_inj_iff.mp heq)⟩

theorem SecCode.getD_ne {i j : Nat} (hij : i < j) (hj : j < k) : (dataPos k r).getD i 0 ≠ (dataPos k r).getD j 0 := by
  intro heq
  have hi := h.idxOf?_getD (hij.trans hj)
  rw [heq, h.idxOf?_getD hj] at hi
  exact hij.ne' (Option.some.inj hi)

theorem SecCode.dataSyn_lt (v : Nat) : dataSyn k r v < 2 ^ r := by
  have hall : ∀ l : List (Nat × Nat), (∀ q ∈ l, q.1 < 2 ^ r) → xorAt v l < 2 ^ r := fun l => by
    induction l with
    | nil => exact fun _ => Nat.two_pow_pos r
    | cons q l ih =>
      intro hl
      refine Nat.xor_lt_two_pow ?_ (ih (fun x hx => hl x (List.mem_cons_of_mem _ hx)))
      split
      · exact hl q List.mem_cons_self
      · exact Nat.two_pow_pos r
  rw [dataSyn_eq_xorAt]
  exact hall _ (fun q hq => lt_of_le_of_lt (mem_dataPos.mp (List.fst_mem_of_mem_zipIdx hq)).1 h.bound)

/-- An error of a check bit shows a syndrome that names no data bit. -/
theorem SecCode.check_syndrome {j : Nat} (hj : j < r + 1) : ¬ k + r < 2 ^ j % 2 ^ r ∧ (dataPos k r).idxOf? (2 ^ j % 2 ^ r) = none := by
  rw [List.idxOf?_eq_none_iff, mem_dataPos]
  rcases Nat.lt_succ_iff_lt_or_eq.mp hj with hlt | rfl
  · have hhalf : 2 * 2 ^ j ≤ 2 ^ r := by rw [← Nat.pow_succ']; exact Nat.pow_le_pow_right (by decide) hlt
    have hneeded := h.needed
    rw [Nat.mod_eq_of_lt (Nat.pow_lt_pow_right (by decide) hlt)]
    exact ⟨by omega, fun hpos => absurd hpos.2.2 (by simp [isPow2_two_pow])⟩
  · rw [Nat.mod_self]
    exact ⟨Nat.not_lt_zero _, fun hpos => hpos.2.1 rfl⟩

/-- The decode of a word with the errors `e` in its data and `f` in its check field, for every word. -/
theorem SecCode.secDecode_errors (v e f : Nat) : secDecode k r (v ^^^ e) (secEncode k r v ^^^ f) =
    let s := dataSyn k r e ^^^ f % 2 ^ r
    let p := (parity k e + parity (r + 1) f) % 2
    if p = 0 ∧ s = 0 then (.clean, v ^^^ e, s, p)
    else if p = 0 ∨ k + r < s then (.bad, v ^^^ e, s, p)
    else (.corrected, (match (dataPos k r).idxOf? s with | some i => (v ^^^ e) ^^^ 2 ^ i | none => v ^^^ e), s, p) := by
  have hsyn : dataSyn k r (v ^^^ e) ^^^ (secEncode k r v ^^^ f) % 2 ^ r = dataSyn k r e ^^^ f % 2 ^ r := by
    rw [dataSyn_xor, Nat.xor_mod_two_pow, secEncode_mod, Nat.mod_eq_of_lt (h.dataSyn_lt v), Nat.xor_comm (dataSyn k r v), Nat.xor_assoc,
      ← Nat.xor_assoc (dataSyn k r v), Nat.xor_self, Nat.zero_xor]
  have hpar : (parity k (v ^^^ e) + parity (r + 1) (secEncode k r v ^^^ f)) % 2 = (parity k e + parity (r + 1) f) % 2 := by
    rw [parity_xor, parity_xor, parity_secEncode]
    omega
  rw [← hsyn, ← hpar]
  rfl

end

theorem secCode_of_mem {k r : Nat} (h : (k, r) ∈ [(16, 5), (32, 6), (64, 7), (262, 9)]) : SecCode k r := by
  simp only [List.mem_cons, Prod.mk.injEq, List.not_mem_nil, or_false] at h
  rcases h with ⟨rfl, rfl⟩ | ⟨rfl, rfl⟩ | ⟨rfl, rfl⟩ | ⟨rfl, rfl⟩ <;> exact ⟨by decide +kernel, by decide, by decide⟩

/-- Settles O11: a single error makes the parity odd and shows its own position as the syndrome, a check position naming no data bit; two errors of data
bits leave the parity even with a syndrome that is not zero. -/
theorem errorCorrection : Obligations.ErrorCorrection := by
  unfold Obligations.ErrorCorrection
  intro k r hmem v hv
  have h := secCode_of_mem hmem
  have hle {i : Nat} (hi : i < k) : ¬ k + r < (dataPos k r).getD i 0 := (mem_dataPos.mp (h.getD_mem hi)).1.not_gt
  refine ⟨?clean, fun i hi => ?data, fun j hj => ?check, fun i j hij hj => ?double⟩
  case clean => simpa [parity_zero, dataSyn_zero] using h.secDecode_errors v 0 0
  case data =>
    have hdec := h.secDecode_errors v (2 ^ i) 0
    simp only [parity_zero, parity_two_pow, hi, dataSyn_two_pow, h.idxOf?_getD hi, hle hi, Nat.zero_mod, Nat.xor_zero, decide_true, b2n,
      if_true, Nat.xor_assoc, Nat.xor_self] at hdec
    exact hdec
  case check =>
    have hdec := h.secDecode_errors v 0 (2 ^ j)
    obtain ⟨hsmall, hnone⟩ := h.check_syndrome hj
    simp only [parity_zero, parity_two_pow, hj, dataSyn_zero, hnone, hsmall, Nat.zero_xor, Nat.xor_zero, decide_true, b2n, if_true] at hdec
    exact ⟨congrArg Prod.fst hdec, congrArg (fun q => q.2.1) hdec⟩
  case double =>
    have hdec := h.secDecode_errors v (2 ^ i ^^^ 2 ^ j) 0
    have hne : (dataPos k r).getD i 0 ^^^ (dataPos k r).getD j 0 ≠ 0 := fun heq => h.getD_ne hij hj (Nat.xor_eq_zero_iff.mp heq)
    simp only [parity_zero, parity_xor, parity_two_pow, hij.trans hj, hj, dataSyn_xor, dataSyn_two_pow, hne, Nat.zero_mod, Nat.xor_zero, decide_true, b2n,
      if_true, ← Nat.xor_assoc] at hdec
    exact congrArg Prod.fst hdec

end Sys2Proof.Machine

/-! SUPPORT. A step with a waiting command (21 R473). -/

namespace Sys2Proof.Machine

/-- Settles O1: `step` looks at the queue alone before it runs the command. -/
theorem stepRunsFront : Obligations.StepRunsFront := by
  intro c rest s h
  rw [step, h]

end Sys2Proof.Machine

/-! SUPPORT. Settings (22 R488, R497–R500, R538): reading the flash at boot step 3, the staged changes, and the end of a commit. -/

namespace Sys2Proof.Machine

/-! ### What applying settings keeps -/

/-- What the settings that are applied at boot leave as it was. -/
def State.bootFrame (s : State) : Sett × Load × Power × List Alarm × List Instr := (s.sett, s.ld, s.pw, s.hosts.alarms, s.pending)

@[simp] theorem State.bootFrame_ite (c : Prop) [Decidable c] (s t : State) :
    (if c then s else t).bootFrame = if c then s.bootFrame else t.bootFrame := apply_ite State.bootFrame c s t

@[simp] theorem iter_bootFrame (n : Nat) (f : Nat → State → State) (s : State) (h : ∀ i u, (f i u).bootFrame = u.bootFrame) :
    (iter n f s).bootFrame = s.bootFrame := iter_keeps State.bootFrame n f h s

@[simp] theorem foldl_bootFrame {ι : Type} (f : State → ι → State) (l : List ι) (s : State) (h : ∀ u i, (f u i).bootFrame = u.bootFrame) :
    (l.foldl f s).bootFrame = s.bootFrame := foldl_keeps State.bootFrame f h l s

@[simp] theorem State.setReg_bootFrame (s : State) (g : Rg) (i j v : Nat) : (s.setReg g i j v).bootFrame = s.bootFrame := (rfl)
@[simp] theorem State.setF_bootFrame (s : State) (f : FRef) (i j v : Nat) : (s.setF f i j v).bootFrame = s.bootFrame := (rfl)
@[simp] theorem State.count_bootFrame (s : State) (f : FRef) (i j k : Nat) : (s.count f i j k).bootFrame = s.bootFrame := (rfl)
@[simp] theorem State.sendUnit_bootFrame (s : State) (d p i typ pay : Nat) : (s.sendUnit d p i typ pay).bootFrame = s.bootFrame := (rfl)
@[simp] theorem State.setPort_bootFrame (s : State) (p : Nat) (x : HostPort) : (s.setPort p x).bootFrame = s.bootFrame := (rfl)
/-- The pulses that wait are of no part of the frame. -/
@[simp] theorem State.waiting_bootFrame (s : State) (l : List Nat) : ({ s with evs.waiting := l } : State).bootFrame = s.bootFrame := (rfl)

@[simp] theorem State.evForward_bootFrame (s : State) (d : Nat) (via : Option Nat) (mask : Nat) :
    (s.evForward d via mask).bootFrame = s.bootFrame := by
  unfold State.evForward
  exact foldl_keeps State.bootFrame _ (fun u p => u.sendUnit_bootFrame d p 0x80 4 mask) _ s

@[simp] theorem State.evLost_bootFrame (s : State) (d : Nat) : (s.evLost d).bootFrame = s.bootFrame := by
  have hcount (u : State) (n : Nat) : (if u.cutOff n then u else u.count F.seamCounts_eventsLost n 0 1).bootFrame = u.bootFrame := by simp
  unfold State.evLost
  split
  · rfl
  · exact foldl_keeps State.bootFrame _ (fun u e => foldl_keeps State.bootFrame _ hcount _ u) _ s

@[simp] theorem State.raiseEv_bootFrame (s : State) (d tenant l : Nat) : (s.raiseEv d tenant l).bootFrame = s.bootFrame := by
  simp [State.raiseEv]

@[simp] theorem State.updHoldover_bootFrame (s : State) : s.updHoldover.bootFrame = s.bootFrame := by
  simp [State.updHoldover]

/-- The time parent is of no part of the frame. -/
@[simp] theorem State.parent_bootFrame (s : State) (x : _) : ({ s with tmr.parent := x } : State).bootFrame = s.bootFrame := (rfl)

@[simp] theorem State.sourceSet_bootFrame (s : State) (was : Bool) : (s.sourceSet was).bootFrame = s.bootFrame := by
  simp [State.sourceSet]

@[simp] theorem State.carRequest_bootFrame (s : State) (c : Nat) : (s.carRequest c).bootFrame = s.bootFrame := by
  unfold State.carRequest
  split
  · rfl
  · simp only [State.bootFrame_ite, State.updHoldover_bootFrame, State.setF_bootFrame]
    exact ite_self _

@[simp] theorem State.setRegs_bootFrame (s : State) (l : List (Rg × Nat × Nat × Nat)) : (s.setRegs l).bootFrame = s.bootFrame := by
  unfold State.setRegs
  exact foldl_keeps State.bootFrame _ (fun u p => u.setReg_bootFrame _ _ _ _) _ s

@[simp] theorem State.applyIst_bootFrame (s : State) : s.applyIst.bootFrame = s.bootFrame := (rfl)

@[simp] theorem State.applyBoot_bootFrame (s : State) : s.applyBoot.bootFrame = s.bootFrame := by
  simp [State.applyBoot]

@[simp] theorem State.queuePort_bootFrame (s : State) (p : Nat) (e : EvRec) : (s.queuePort p e).bootFrame = s.bootFrame := by
  simp [State.queuePort]

@[simp] theorem State.queueEv_bootFrame (s : State) (t k c src d : Nat) : (s.queueEv t k c src d).bootFrame = s.bootFrame := by
  simp [State.queueEv]

@[simp] theorem State.viewUpdate_bootFrame (s : State) : s.viewUpdate.bootFrame = s.bootFrame := by
  simp [State.viewUpdate]

/-! ### Boot step 3 -/

/-- A mode that is entered, and the parts of the frame that stay. -/
theorem State.setMode_load (s : State) : (s.setMode .load).sett = s.sett ∧ (s.setMode .load).ld = s.ld ∧
    (s.setMode .load).pw = { s.pw with mode := .load } ∧ (s.setMode .load).hosts.alarms = s.hosts.alarms ∧ (s.setMode .load).pending = s.pending := by
  unfold State.setMode
  split
  · next heq => exact ⟨rfl, rfl, by rw [heq], rfl, rfl⟩
  · simp

theorem State.alarm_bootFrame (s : State) (t c fl code src : Nat) :
    (s.alarm t c fl code src).bootFrame = (s.sett, s.ld, s.pw, s.hosts.alarms ++ [⟨t, c⟩], s.pending) := by
  simp only [State.alarm, State.queueEv_bootFrame]
  rfl

theorem State.alarm_bootFrame_of {s u : State} (h : s.bootFrame = u.bootFrame) (t c fl code src : Nat) :
    (s.alarm t c fl code src).bootFrame = (u.sett, u.ld, u.pw, u.hosts.alarms ++ [⟨t, c⟩], u.pending) := by
  simp only [State.bootFrame, Prod.mk.injEq] at h
  obtain ⟨hsett, hld, hpw, halarms, hpending⟩ := h
  rw [State.alarm_bootFrame, hsett, hld, hpw, halarms, hpending]

/-- Which source the core clock has is of no part of the frame. -/
theorem State.coreInt_bootFrame (s : State) (b : Bool) : ({ s with clk.coreInt := b } : State).bootFrame = s.bootFrame := (rfl)

/-- How HOLDCLK was found, at the end of step 3 (R434, R494). -/
def State.holdFound (s : State) (holdGood : Bool) : State :=
  if holdGood then { (s.setF F.carStatus_locked 0 0 1) with clk.coreInt := false }
  else State.alarm (s.setF F.carStatus_holdBad 0 0 1) 255 0x17 0 0 (srcOf .clk 0)

theorem State.holdFound_frame (s : State) (holdGood : Bool) :
    ∃ l, (s.holdFound holdGood).bootFrame = (s.sett, s.ld, s.pw, s.hosts.alarms ++ l, s.pending) := by
  cases holdGood with
  | true => exact ⟨[], by rw [State.holdFound, if_pos rfl, State.coreInt_bootFrame, State.setF_bootFrame, State.bootFrame, List.append_nil]⟩
  | false => exact ⟨_, by rw [State.holdFound, if_neg Bool.false_ne_true, State.alarm_bootFrame_of (s.setF_bootFrame _ _ _ _)]⟩

theorem State.holdFound_keeps (s : State) (holdGood : Bool) : (s.holdFound holdGood).sett = s.sett ∧ (s.holdFound holdGood).ld = s.ld ∧
    (s.holdFound holdGood).pw = s.pw ∧ s.hosts.alarms ⊆ (s.holdFound holdGood).hosts.alarms ∧ (s.holdFound holdGood).pending = s.pending := by
  obtain ⟨l, hframe⟩ := s.holdFound_frame holdGood
  simp only [State.bootFrame, Prod.mk.injEq] at hframe
  obtain ⟨hsett, hld, hpw, halarms, hpending⟩ := hframe
  exact ⟨hsett, hld, hpw, fun a ha => halarms ▸ List.mem_append_left _ ha, hpending⟩

/-- The state before the views are formed again, where the flash is missing (R42, R497). -/
def State.bootBare (s : State) (holdGood : Bool) : State :=
  State.holdFound ((State.applyBoot { s with sett := ⟨true, none, 0, [], [], [], [], none⟩ }).alarm 255 0x01 0 0 (srcOf .devctl 0)) holdGood

theorem accepted_nil : accepted [] = [] := (rfl)
theorem ignored_nil : ignored [] = [] := (rfl)

theorem exec_settingsRead_missing {c0 c1 : List Byte} {holdGood : Bool} {s : State} (hmode : s.pw.mode = .boot) (hstep : s.pw.step = 3) :
    exec (.settingsRead true c0 c1 holdGood) s =
      .next (State.setMode (State.viewUpdate { s.bootBare holdGood with pw.step := 4 }) .load) := by
  refine congrArg Host.Outcome.next ((if_neg (by simp [hmode, hstep])).trans ?_)
  simp -implicitDefEqProofs only [if_true, ignored_nil, accepted_nil, List.foldl_nil, State.bootBare, State.holdFound]

theorem State.bootBare_keeps (s : State) (holdGood : Bool) :
    (s.bootBare holdGood).sett = ⟨true, none, 0, [], [], [], [], none⟩ ∧ (s.bootBare holdGood).ld = s.ld ∧ (s.bootBare holdGood).pw = s.pw ∧
      ⟨255, 1⟩ ∈ (s.bootBare holdGood).hosts.alarms ∧ (s.bootBare holdGood).pending = s.pending := by
  have hboot := State.applyBoot_bootFrame { s with sett := ⟨true, none, 0, [], [], [], [], none⟩ }
  unfold State.bootBare
  generalize State.applyBoot { s with sett := ⟨true, none, 0, [], [], [], [], none⟩ } = u at hboot ⊢
  have halarm := u.alarm_bootFrame 255 1 0 0 (srcOf .devctl 0)
  generalize u.alarm 255 1 0 0 (srcOf .devctl 0) = v at halarm ⊢
  obtain ⟨hsett, hld, hpw, halarms, hpending⟩ := v.holdFound_keeps holdGood
  simp only [State.bootFrame, Prod.mk.injEq] at hboot halarm
  obtain ⟨hsett₀, hld₀, hpw₀, -, hpending₀⟩ := hboot
  obtain ⟨hsett₁, hld₁, hpw₁, halarms₁, hpending₁⟩ := halarm
  refine ⟨by rw [hsett, hsett₁, hsett₀], by rw [hld, hld₁, hld₀], by rw [hpw, hpw₁, hpw₀], halarms ?_, by rw [hpending, hpending₁, hpending₀]⟩
  rw [halarms₁]
  exact List.mem_append_right _ (List.mem_singleton.mpr rfl)

theorem exec_settingsRead_keeps {c0 c1 : List Byte} {holdGood : Bool} {s : State} (hmode : s.pw.mode = .boot) (hstep : s.pw.step = 3) :
    ∃ t, exec (.settingsRead true c0 c1 holdGood) s = .next t ∧ t.pw.mode = .load ∧ t.pw.step = 4 ∧ t.sett.missing = true ∧ t.sett.recs = [] ∧
      t.sett.staged = [] ∧ ⟨255, 1⟩ ∈ t.hosts.alarms ∧ t.ld.store = s.ld.store ∧ t.pending = s.pending := by
  obtain ⟨hsett, hld, hpw, halarm, hpending⟩ := s.bootBare_keeps holdGood
  refine ⟨_, exec_settingsRead_missing hmode hstep, ?_⟩
  have hview := State.viewUpdate_bootFrame { s.bootBare holdGood with pw.step := 4 }
  generalize State.viewUpdate { s.bootBare holdGood with pw.step := 4 } = v at hview ⊢
  simp only [State.bootFrame, Prod.mk.injEq] at hview
  obtain ⟨hsett₁, hld₁, hpw₁, halarms₁, hpending₁⟩ := hview
  obtain ⟨hsett₂, hld₂, hpw₂, halarms₂, hpending₂⟩ := v.setMode_load
  rw [hpw₂, hsett₂, hld₂, halarms₂, hpending₂, hpw₁, hsett₁, hld₁, halarms₁, hpending₁, hsett, hld]
  exact ⟨rfl, rfl, rfl, rfl, rfl, halarm, rfl, hpending⟩

/-! ### Staged changes -/

@[simp] theorem State.taken_sett (s : State) (p m : Nat) : (s.taken p m).sett = s.sett := (rfl)
@[simp] theorem State.taken_setting (s : State) (p m t i : Nat) : (s.taken p m).setting t i = s.setting t i := (rfl)
@[simp] theorem State.taken_merged (s : State) (p m : Nat) : (s.taken p m).merged = s.merged := (rfl)

section
variable {p : Port} {m : Mbox} {s : State}

theorem exec_settingsGet_running (h : s.ready p m 0x700) (howner : s.portTenant p = 0) (hwhich : s.arg p m 4 1 = 0) :
    exec (.settingsGet p m) s = .next ((s.taken p m).reply p m 0 (leBytes 2 (s.setting (s.arg p m 0 2) (s.arg p m 2 2)).length ++
      List.replicate 6 0#8 ++ s.setting (s.arg p m 0 2) (s.arg p m 2 2))) := by
  refine congrArg Host.Outcome.next ((takeMailbox_ready 0x700 cmdSettingsGet p m s h).trans ?_)
  simp [cmdSettingsGet, howner, hwhich, State.answer]

theorem exec_settingsPut_staged {t n : Nat} {v : List Byte} (h : s.ready p m 0x701) (ht : s.arg p m 0 2 = t) (hn : s.arg p m 2 2 = n)
    (hv : (s.mbox p m).payload.drop 8 = v) (howner : s.portTenant p = 0) (hok : recOk (mergeRecs s.sett.recs s.sett.staged) t n v = true)
    (hfits : copyBytes (mergeRecs s.sett.raw (stage s.sett.staged t n (some v))) ≤ 65520) :
    exec (.settingsPut p m) s = .next ({ s.taken p m with sett.staged := stage s.sett.staged t n (some v) }.reply p m 0 []) := by
  refine congrArg Host.Outcome.next ((takeMailbox_ready 0x701 cmdSettingsPut p m s h).trans ?_)
  simp only [cmdSettingsPut, State.ctxOf_num, State.ctxOf_pay, State.ctxOf_tenant, State.taken_sett, howner, ht, hn, hv, hok, hfits.not_gt, ne_eq,
    not_true_eq_false, Bool.not_true, Bool.false_eq_true, if_false, State.answer, State.ctxOf_port, State.ctxOf_mbox]

theorem exec_settingsDelete_staged (h : s.ready p m 0x702) (howner : s.portTenant p = 0) :
    exec (.settingsDelete p m) s =
      .next ({ s.taken p m with sett.staged := stage s.sett.staged (s.arg p m 0 2) (s.arg p m 2 2) none }.reply p m 0 []) := by
  refine congrArg Host.Outcome.next ((takeMailbox_ready 0x702 cmdSettingsDelete p m s h).trans ?_)
  simp [cmdSettingsDelete, howner, State.answer]

theorem exec_settingsCommit_begins (h : s.ready p m 0x703) (howner : s.portTenant p = 0) (hflash : s.sett.missing = false) (hidle : s.sett.commit = none) :
    exec (.settingsCommit p m) s = .next (State.answer { s.taken p m with sett.commit := some s.merged } (s.ctxOf p m)
      (.accepted ((s.ctxOf p m).op 0 []))) := by
  refine congrArg Host.Outcome.next ((takeMailbox_ready 0x703 cmdSettingsCommit p m s h).trans ?_)
  simp [cmdSettingsCommit, howner, hflash, hidle]

theorem exec_settingsDiscard_ready (h : s.ready p m 0x704) (howner : s.portTenant p = 0) :
    exec (.settingsDiscard p m) s = .next ({ s.taken p m with sett.staged := [] }.reply p m 0 []) := by
  refine congrArg Host.Outcome.next ((takeMailbox_ready 0x704 cmdSettingsDiscard p m s h).trans ?_)
  simp [cmdSettingsDiscard, howner, State.answer]

end

/-! ### The end of a commit -/

theorem exec_settingsCommitDone_failed {s : State} {l : List SRec} (h : s.sett.commit = some l) :
    exec (.settingsCommitDone false) s = .next (State.finishOps { s with sett.commit := none } 0 [0x703] 0xFF 0 0 []) := by
  refine congrArg Host.Outcome.next ?_
  simp only [h, Bool.not_false, if_true]

theorem exec_settingsCommitDone_adopts {s : State} {l : List SRec} {a : Nat} (h : s.sett.commit = some l) (harea : s.sett.area = some a) :
    exec (.settingsCommitDone true) s = .next (State.finishOps ((newlyIgnored s.sett.raw l).foldl
      (fun s r => s.alarm 255 0x03 (r.inst * 65536 + r.type * 2 ^ 32) 0 (srcOf .devctl 0)) (State.viewUpdate (State.applyIst { s with
        sett := { s.sett with
          commit := none, area := some (1 - a), seq := (s.sett.seq + 1) % 2 ^ 32, recs := accepted l, raw := l,
          staged := s.sett.staged.filter (fun q => decide (findRec l q.1 q.2.1 ≠ q.2.2)) } }))) 0 [0x703] 0 0 0 []) := by
  refine congrArg Host.Outcome.next ?_
  simp only [h, harea, Bool.not_true, Bool.false_eq_true, if_false]

/-- Settles O26: staged changes touch nothing but their list; a commit's end adopts the copy or keeps the one before. -/
theorem settingsCommands : Obligations.SettingsCommands := by
  unfold Obligations.SettingsCommands
  refine ⟨fun c0 c1 holdGood s hmode hstep => exec_settingsRead_keeps hmode hstep, ?get,
    fun p m s t n v h ht hn hv _ howner hok hfits => exec_settingsPut_staged h ht hn hv howner hok hfits, ?delete,
    fun p m s h howner hflash hidle => exec_settingsCommit_begins h howner hflash hidle, fun p m s h howner => exec_settingsDiscard_ready h howner,
    fun s l h => exec_settingsCommitDone_failed h, fun s l a h harea => exec_settingsCommitDone_adopts h harea⟩
  case get =>
    intro p m s t n h ht hn _ howner hwhich
    subst ht hn
    exact exec_settingsGet_running h howner hwhich
  case delete =>
    intro p m s t n h ht hn _ howner
    subst ht hn
    exact exec_settingsDelete_staged h howner

end Sys2Proof.Machine

/-! SUPPORT. Expert register access (21 R492): one access with the port's own rights, the commands that make one or several, and the unit that an
access to another die sends (03 R62, R63). -/

namespace Sys2Proof.Machine

/-! ### Fields of a payload -/

theorem leNat_leBytes (n v : Nat) : leNat (leBytes n v) = v % 256 ^ n := by
  rw [← leBytes_mod, leNat_leBytes_of_lt (Nat.mod_lt _ (Nat.pow_pos (by decide)))]

theorem leNat_lt (l : List Byte) : leNat l < 256 ^ l.length := by
  have h := leNat_leBytes l.length (leNat l)
  rw [leBytes_leNat] at h
  exact h ▸ Nat.mod_lt _ (Nat.pow_pos (by decide))

theorem leAt_lt (l : List Byte) (o n : Nat) : leAt l o n < 256 ^ n := by
  simpa [leAt] using leNat_lt (slice 0#8 l o n)

theorem State.arg_lt (s : State) (p m o n : Nat) : s.arg p m o n < 256 ^ n := leAt_lt _ o n

/-- A number's bytes, read back as a field. -/
theorem leAt_zero_leBytes (n v : Nat) : leAt (leBytes n v) 0 n = v % 256 ^ n := by
  have hall : slice 0#8 (leBytes n v) 0 n = leBytes n v := by simpa using slice_length 0#8 (leBytes n v)
  rw [leAt, hall, leNat_leBytes]

/-! ### One access (R492) -/

theorem regsAt_word {a : Nat} {g : Rg} {i j : Nat} (halign : a % 4 = 0) (hat : regAt a = some (g, i, j)) : regsAt a 4 = some [(g, i, j)] := by
  simp [regsAt, halign, hat]

section
variable {s : State} {q : Rq} {a : Nat} {g : Rg} {i j : Nat} (halign : a % 4 = 0) (hat : regAt a = some (g, i, j)) (hpath : g.perPath = false)
include halign hat hpath

theorem State.expertRead_granted (hright : (s.mgmtTo a).regRight q false g i j 0 = true) (hcode : (s.mgmtTo a).regCode false true g i j = svcOK) :
    s.expertRead q a = (((s.mgmtTo a).readReg true q.path g i j).1, svcOK, ((s.mgmtTo a).readReg true q.path g i j).2 % 256 ^ 4) := by
  simp only [State.expertRead, State.regAccess_read_granted (data := []) (regsAt_word halign hat) hpath hright hcode, leAt_zero_leBytes]

theorem State.expertWrite_granted {v : Nat} (hv : v < 256 ^ 4) (hright : (s.mgmtTo a).regRight q true g i j v = true)
    (hcode : (s.mgmtTo a).regCode true true g i j = svcOK) : s.expertWrite q a v = ((s.mgmtTo a).writeReg q g i j v, svcOK) := by
  have hback : leAt (leBytes 4 v) 0 4 = v := by rw [leAt_zero_leBytes, Nat.mod_eq_of_lt hv]
  have haccess := State.regAccess_write_granted (data := leBytes 4 v) (eff := true) (regsAt_word halign hat) hpath (hback.symm ▸ hright) hcode
  simp only [State.expertWrite, haccess, hback]

end

/-! ### The unit to another die (R62, R63) -/

theorem State.mgmtTo_other {s : State} {a d p : Nat} (hdie : regDie a = some d) (hd : d ≠ 0) (hhop : s.ctrlHop 0 d = some p) :
    ∃ w : BitVec 288, s.mgmtTo a = State.sendUnit { s with free := s.free + 4, seams.units := s.seams.units ++ [(5, d, w)] } 0 p 0x80 5 w.toNat := by
  have hfree (n : Nat) : State.ctrlHop { s with free := n } 0 d = some p := hhop
  simp only [State.mgmtTo, hdie, Option.getD_some, State.ctrlSend, hd.symm, if_false, State.ctrlForward, hfree]
  exact ⟨_, rfl⟩

theorem State.mgmtTo_own {s : State} {a : Nat} (h : regDie a = some 0) : s.mgmtTo a = s := by
  simp [State.mgmtTo, h, State.ctrlSend]

/-! ### The commands -/

@[simp] theorem State.ctxOf_rq_path (s : State) (p m : Nat) : (s.ctxOf p m).rq.path = 0 := (rfl)

section
variable {p : Port} {m : Mbox} {s : State}

section
variable (h : s.ready p m 0xF00)
include h

theorem exec_regRead_notOwner (howner : (s.taken p m).expertOwner (s.ctxOf p m).rq false [s.arg p m 0 8] = false) :
    exec (.regRead p m) s = .next ((s.taken p m).reply p m 0x12 []) := by
  refine congrArg Host.Outcome.next ((takeMailbox_ready 0xF00 cmdRegRead p m s h).trans ?_)
  simp [cmdRegRead, howner, refuse, State.answer]

theorem exec_regRead_owner (howner : (s.taken p m).expertOwner (s.ctxOf p m).rq false [s.arg p m 0 8] = true) :
    let q := (s.taken p m).expertRead (s.ctxOf p m).rq (s.arg p m 0 8)
    exec (.regRead p m) s = .next (q.1.reply p m 0 (expertHead q.2.1 1 4 ++ leBytes 4 q.2.2)) := by
  refine congrArg Host.Outcome.next ((takeMailbox_ready 0xF00 cmdRegRead p m s h).trans ?_)
  simp [cmdRegRead, howner, State.answer]

theorem exec_regRead_granted {r : Rg} {i j : Nat} (halign : s.arg p m 0 8 % 4 = 0) (hat : regAt (s.arg p m 0 8) = some (r, i, j))
    (hpath : r.perPath = false) (howner : (s.taken p m).expertOwner (s.ctxOf p m).rq false [s.arg p m 0 8] = true)
    (hright : ((s.taken p m).mgmtTo (s.arg p m 0 8)).regRight (s.ctxOf p m).rq false r i j 0 = true)
    (hcode : ((s.taken p m).mgmtTo (s.arg p m 0 8)).regCode false true r i j = 0) :
    let q := ((s.taken p m).mgmtTo (s.arg p m 0 8)).readReg true 0 r i j
    exec (.regRead p m) s = .next (q.1.reply p m 0 (expertHead 0 1 4 ++ leBytes 4 q.2)) := by
  have hread := State.expertRead_granted halign hat hpath hright hcode
  have hrow := exec_regRead_owner h howner
  simpa only [hread, leBytes_mod, svcOK, State.ctxOf_rq_path] using hrow

end

section
variable (h : s.ready p m 0xF01) (howner : (s.taken p m).expertOwner (s.ctxOf p m).rq true [s.arg p m 0 8] = true)
include h howner

theorem exec_regWrite_owner : let q := (s.taken p m).expertWrite (s.ctxOf p m).rq (s.arg p m 0 8) (s.arg p m 8 4)
    exec (.regWrite p m) s = .next (q.1.reply p m 0 (expertHead q.2 1 2)) := by
  refine congrArg Host.Outcome.next ((takeMailbox_ready 0xF01 cmdRegWrite p m s h).trans ?_)
  simp [cmdRegWrite, howner, State.answer]

theorem exec_regWrite_granted {r : Rg} {i j : Nat} (halign : s.arg p m 0 8 % 4 = 0) (hat : regAt (s.arg p m 0 8) = some (r, i, j))
    (hpath : r.perPath = false) (hright : ((s.taken p m).mgmtTo (s.arg p m 0 8)).regRight (s.ctxOf p m).rq true r i j (s.arg p m 8 4) = true)
    (hcode : ((s.taken p m).mgmtTo (s.arg p m 0 8)).regCode true true r i j = 0) :
    exec (.regWrite p m) s = .next ((((s.taken p m).mgmtTo (s.arg p m 0 8)).writeReg (s.ctxOf p m).rq r i j (s.arg p m 8 4)).reply p m 0
      (expertHead 0 1 2)) := by
  have hwrite := State.expertWrite_granted halign hat hpath (s.arg_lt p m 8 4) hright hcode
  have hrow := exec_regWrite_owner h howner
  simpa only [hwrite, svcOK] using hrow

end

theorem exec_regModify_owner (h : s.ready p m 0xF02) (hwrites : (s.taken p m).expertOwner (s.ctxOf p m).rq true [s.arg p m 0 8] = true)
    (hreads : (s.taken p m).expertOwner (s.ctxOf p m).rq false [s.arg p m 0 8] = true) :
    let q := (s.taken p m).expertRead (s.ctxOf p m).rq (s.arg p m 0 8)
    let w := q.1.expertWrite (s.ctxOf p m).rq (s.arg p m 0 8)
      ((BitVec.ofNat 32 q.2.2 &&& ~~~BitVec.ofNat 32 (s.arg p m 8 4)) ||| (BitVec.ofNat 32 (s.arg p m 12 4) &&& BitVec.ofNat 32 (s.arg p m 8 4))).toNat
    q.2.1 = svcOK → exec (.regModify p m) s = .next (w.1.reply p m 0 (expertHead w.2 2 4 ++ leBytes 4 q.2.2)) := by
  intro q w hcode
  refine congrArg Host.Outcome.next ((takeMailbox_ready 0xF02 cmdRegModify p m s h).trans ?_)
  simp only [cmdRegModify, State.ctxOf_num, hwrites, hreads, Bool.not_true, Bool.or_self, Bool.false_eq_true, if_false]
  rw [if_neg (not_not_intro hcode)]
  rfl

theorem exec_regReadN_owner {l : List Nat} {q : State × Nat × List Nat} (h : s.ready p m 0xF03)
    (hl : (List.range (s.arg p m 8 1)).map (fun i => s.arg p m 0 8 + 4 * i) = l) (hq : State.expertReads (s.ctxOf p m).rq l (s.taken p m) [] = q)
    (howner : (s.taken p m).expertOwner (s.ctxOf p m).rq false l = true) : exec (.regReadN p m) s =
      .next (q.1.reply p m 0 (expertHead q.2.1 (q.2.2.length + b2n (decide (q.2.1 ≠ svcOK))) 8 ++ q.2.2.flatMap (leBytes 4))) := by
  refine congrArg Host.Outcome.next ((takeMailbox_ready 0xF03 cmdRegReadN p m s h).trans ?_)
  simp only [cmdRegReadN, State.ctxOf_num, hl, hq, howner, Bool.not_true, Bool.false_eq_true, if_false, State.answer, State.ctxOf_port, State.ctxOf_mbox]

theorem exec_regWriteList_owner {l : List (Nat × Nat)} {q : State × Nat × Nat} (h : s.ready p m 0xF04)
    (hl : (List.range (s.arg p m 0 1)).map (fun i => (s.arg p m (16 + 12 * i) 8, s.arg p m (24 + 12 * i) 4)) = l)
    (hq : State.expertWrites (s.ctxOf p m).rq l (s.taken p m) 0 = q) (howner : (s.taken p m).expertOwner (s.ctxOf p m).rq true (l.map (·.1)) = true) :
    exec (.regWriteList p m) s = .next (q.1.reply p m 0 (expertHead q.2.1 q.2.2 2)) := by
  refine congrArg Host.Outcome.next ((takeMailbox_ready 0xF04 cmdRegWriteList p m s h).trans ?_)
  simp only [cmdRegWriteList, State.ctxOf_num, hl, hq, howner, Bool.not_true, Bool.false_eq_true, if_false, State.answer, State.ctxOf_port,
    State.ctxOf_mbox]

end

/-! ### Sequences of accesses -/

theorem State.expertReads_stops {q : Rq} {s u : State} {a code v : Nat} (l acc : List Nat) (h : s.expertRead q a = (u, code, v))
    (hcode : code ≠ svcOK) : State.expertReads q (a :: l) s acc = (u, code, acc) := by
  simp only [State.expertReads, h, hcode, if_false]

theorem State.expertWrites_stops {q : Rq} {s u : State} {a w code : Nat} (n : Nat) (l : List (Nat × Nat)) (h : s.expertWrite q a w = (u, code))
    (hcode : code ≠ svcOK) : State.expertWrites q ((a, w) :: l) s n = (u, code, n + 1) := by
  simp only [State.expertWrites, h, hcode, if_false]

/-- Settles O60: every command of group 0x0F is made of single accesses, each with the rights of the port's tenant. -/
theorem expertAccess : Obligations.ExpertAccess := by
  unfold Obligations.ExpertAccess
  refine ⟨?notOwner, fun p m s r i j h halign hat hpath howner hright hcode => exec_regRead_granted h halign hat hpath howner hright hcode,
    fun p m s h howner => exec_regRead_owner h howner,
    fun p m s r i j h halign hat hpath howner hright hcode => exec_regWrite_granted h howner halign hat hpath hright hcode,
    fun s a d p hdie hd hhop => State.mgmtTo_other hdie hd hhop, fun s a h => State.mgmtTo_own h, fun p m s h howner => exec_regWrite_owner h howner,
    fun p m s h hwrites hreads => exec_regModify_owner h hwrites hreads, fun p m s h => exec_regReadN_owner h rfl rfl, fun p m s h => exec_regWriteList_owner h rfl rfl,
    fun q s u a code v l acc h hcode => State.expertReads_stops l acc h hcode, fun q s u a w code n l h hcode => State.expertWrites_stops n l h hcode⟩
  case notOwner =>
    intro p m s a h ha howner
    subst ha
    exact exec_regRead_notOwner h howner

end Sys2Proof.Machine

/-! SUPPORT. The debug commands of a mailbox (21 R489; 23 R504–R507, R510, R511): the exchange of a challenge and its response, run control of engines
and single accesses of the debug master. -/

namespace Sys2Proof.Machine

/-! ### What a taken command leaves of the debug block -/

@[simp] theorem State.taken_dpath (s : State) (p m path : Nat) : (s.taken p m).dpath path = s.dpath path := (rfl)
@[simp] theorem State.taken_level (s : State) (p m path : Nat) : (s.taken p m).level path = s.level path := (rfl)
@[simp] theorem State.taken_engine (s : State) (p m t : Nat) : (s.taken p m).engine t = s.engine t := (rfl)
@[simp] theorem State.taken_feed (s : State) (p m t : Nat) : (s.taken p m).feed t = s.feed t := (rfl)
@[simp] theorem State.taken_dbgCovers (s : State) (p m path t : Nat) : (s.taken p m).dbgCovers path t = s.dbgCovers path t := (rfl)

@[simp] theorem not_five_le_port (p : Port) : ¬ 5 ≤ p.val := p.isLt.not_ge

/-! ### Challenge and response (R505) -/

theorem State.dbgVerifies_idle {s : State} {path : Nat} (h : (s.dpath path).sig = none) : s.dbgVerifies path = false := by
  simp [State.dbgVerifies, h]

theorem State.dbgVerifies_port {s : State} {p : Port} {sig : List Byte} (h : (s.dpath p).sig = some sig) : s.dbgVerifies p = true := by
  simp [State.dbgVerifies, h, p.isLt]

/-- Device-wide scope is for ports that are bound to T0 (R505). -/
theorem State.challengeCode_notOwner {s : State} {path : Nat} (level : Nat) (hpath : path < 5) (howner : s.portTenant path ≠ 0) :
    s.challengeCode path level false = 0x12 := by
  simp [State.challengeCode, hpath, howner]

section
variable {p : Port} {m : Mbox} {s : State}

section
variable {level : Nat} {scope : Bool} (hidle : (s.dpath p).sig = none) (h : s.ready p m 0x800) (hlevel : s.arg p m 0 1 = level)
  (hscope : decide (s.arg p m 1 1 = 1) = scope)
include hidle h hlevel hscope

theorem exec_dbgChallenge_taken (hcode : (s.taken p m).challengeCode p level scope = 0) :
    exec (.dbgChallenge p m) s = .next (State.reply ((s.taken p m).challenge p level scope (s.portTenant p)).1 p m 0
      ((s.taken p m).challenge p level scope (s.portTenant p)).2) := by
  refine congrArg Host.Outcome.next ((if_neg (by simp [State.dbgVerifies_idle hidle])).trans
    ((takeMailbox_ready 0x800 cmdDbgChallenge p m s h).trans ?_))
  simp only [cmdDbgChallenge, State.ctxOf_port, State.ctxOf_num, State.ctxOf_tenant, not_five_le_port, if_false, hlevel, hscope, hcode, State.answer,
    State.ctxOf_mbox]

theorem exec_dbgChallenge_refused {code : Nat} (hcode : (s.taken p m).challengeCode p level scope = code) (hne : code ≠ 0) :
    exec (.dbgChallenge p m) s = .next ((s.taken p m).reply p m code []) := by
  refine congrArg Host.Outcome.next ((if_neg (by simp [State.dbgVerifies_idle hidle])).trans
    ((takeMailbox_ready 0x800 cmdDbgChallenge p m s h).trans ?_))
  have hbody : cmdDbgChallenge (s.ctxOf p m) (s.taken p m) = refuse (s.taken p m) code := by
    simp only [cmdDbgChallenge, State.ctxOf_port, State.ctxOf_num, not_five_le_port, if_false, hlevel, hscope, hcode]
  rw [hbody]
  rfl

end

section
variable (h : s.ready p m 0x801) (hidle : (s.dpath p).sig = none)
include h hidle

theorem exec_dbgResponse_noNonce (hnonce : (s.dpath p).nonce = 0) : exec (.dbgResponse p m) s = .next ((s.taken p m).reply p m 0x13 []) := by
  refine congrArg Host.Outcome.next ((if_neg (by simp [State.dbgVerifies_idle hidle])).trans
    ((takeMailbox_ready 0x801 cmdDbgResponse p m s h).trans ?_))
  simp [cmdDbgResponse, hnonce, refuse, State.answer]

theorem exec_dbgResponse_verifies (hnonce : (s.dpath p).nonce ≠ 0) :
    exec (.dbgResponse p m) s = .next (State.addWait ((s.taken p m).setDpath p { s.dpath p with
      sig := some (s.mbox p m).payload, mbox := some m.val }) ((s.ctxOf p m).op p [])) := by
  refine congrArg Host.Outcome.next ((if_neg (by simp [State.dbgVerifies_idle hidle])).trans
    ((takeMailbox_ready 0x801 cmdDbgResponse p m s h).trans ?_))
  simp [cmdDbgResponse, hnonce, State.answer]

end

theorem exec_dbgDrop_ready (h : s.ready p m 0x802) : exec (.dbgDrop p m) s = .next (((s.taken p m).dropAuth p).reply p m 0 []) := by
  refine congrArg Host.Outcome.next ((takeMailbox_ready 0x802 cmdDbgDrop p m s h).trans ?_)
  simp [cmdDbgDrop, p.isLt, State.answer]

theorem exec_dbgStatus_ready (h : s.ready p m 0x803) : exec (.dbgStatus p m) s = .next ((s.taken p m).reply p m 0
    (leBytes 1 (bits (s.reg .dbgStatus p 0) 31 30) ++ leBytes 1 (bits (s.reg .dbgStatus p 0) 29 29) ++
      leBytes 1 (bits (s.reg .dbgStatus p 0) 25 25 + 2 * bits (s.reg .dbgStatus p 0) 24 24))) := by
  refine congrArg Host.Outcome.next ((takeMailbox_ready 0x803 cmdDbgStatus p m s h).trans ?_)
  simp [cmdDbgStatus, p.isLt, State.answer]

/-! ### Run control of engines (R511) -/

theorem State.dbgFull_of {t : Nat} (hlevel : s.level p = 2) (hcovers : s.dbgCovers p t = true) : (s.taken p m).dbgFull p t = true := by
  simp [State.dbgFull, hlevel, hcovers, p.isLt]

theorem State.dbgFull_denied {t : Nat} (h : s.level p ≠ 2 ∨ s.dbgCovers p t = false) : (s.taken p m).dbgFull p t = false := by
  rcases h with hlevel | hcovers
  · simp [State.dbgFull, hlevel]
  · simp [State.dbgFull, hcovers]

theorem exec_dbgHalt_denied (h : s.ready p m 0x810) (hnot : s.level p ≠ 2 ∨ s.dbgCovers p (s.arg p m 0 2) = false) :
    exec (.dbgHalt p m) s = .next ((s.taken p m).reply p m 0x13 []) := by
  refine congrArg Host.Outcome.next ((takeMailbox_ready 0x810 cmdDbgHalt p m s h).trans ?_)
  simp [cmdDbgHalt, State.dbgFull_denied hnot, refuse, State.answer]

section
variable {t : Nat} (ht : s.arg p m 0 2 = t) (hlevel : s.level p = 2) (hcovers : s.dbgCovers p t = true)
include ht hlevel hcovers

theorem exec_dbgHalt_requested (h : s.ready p m 0x810) (hrun : (s.engine t).run = .running ∨ (s.engine t).run = .idle) :
    exec (.dbgHalt p m) s = .next (State.addWait ((s.taken p m).engHaltReq p t) ((s.ctxOf p m).op t [])) := by
  refine congrArg Host.Outcome.next ((takeMailbox_ready 0x810 cmdDbgHalt p m s h).trans ?_)
  simp [cmdDbgHalt, ht, State.dbgFull_of hlevel hcovers, hrun, State.answer]

theorem exec_dbgHalt_standing (h : s.ready p m 0x810) (hrun : (s.engine t).run ≠ .running) (hidle : (s.engine t).run ≠ .idle) :
    exec (.dbgHalt p m) s = .next ((s.taken p m).reply p m 0 []) := by
  refine congrArg Host.Outcome.next ((takeMailbox_ready 0x810 cmdDbgHalt p m s h).trans ?_)
  simp [cmdDbgHalt, ht, State.dbgFull_of hlevel hcovers, hrun, hidle, State.answer]

theorem exec_dbgResume_ready (h : s.ready p m 0x811) : exec (.dbgResume p m) s = .next (((s.taken p m).engRelease t).reply p m 0 []) := by
  refine congrArg Host.Outcome.next ((takeMailbox_ready 0x811 cmdDbgResume p m s h).trans ?_)
  simp [cmdDbgResume, ht, State.dbgFull_of hlevel hcovers, State.answer]

theorem exec_dbgFeed_running (h : s.ready p m 0x812) (hrun : (s.engine t).run ≠ .halted) :
    exec (.dbgFeed p m) s = .next ((s.taken p m).reply p m 0x10 []) := by
  refine congrArg Host.Outcome.next ((takeMailbox_ready 0x812 cmdDbgFeed p m s h).trans ?_)
  simp [cmdDbgFeed, ht, State.dbgFull_of hlevel hcovers, hrun, refuse, State.answer]

/-- A word fed to a halted engine: its command waits while the word has not completed. -/
theorem exec_dbgFeed_halted (h : s.ready p m 0x812) (hrun : (s.engine t).run = .halted) (hfree : (s.feed t).busy = false) :
    let u := (s.taken p m).feedStart t (s.arg p m 4 4)
    ((u.feed t).busy = true → exec (.dbgFeed p m) s = .next (u.addWait ((s.ctxOf p m).op t []))) ∧
    ((u.feed t).busy = false → exec (.dbgFeed p m) s = .next (u.reply p m 0 [])) := by
  have hbody : cmdDbgFeed (s.ctxOf p m) (s.taken p m) =
      (let u := (s.taken p m).feedStart t (s.arg p m 4 4)
       if (u.feed t).busy then (u.addWait ((s.ctxOf p m).op t []), .wait) else (u, .done 0 [])) := by
    simp [cmdDbgFeed, ht, State.dbgFull_of hlevel hcovers, hrun, hfree]
  have hrow := takeMailbox_ready 0x812 cmdDbgFeed p m s h
  rw [hbody] at hrow
  exact ⟨fun hbusy => congrArg Host.Outcome.next (hrow.trans (by simp only [hbusy, if_true, State.answer])),
    fun hdone => congrArg Host.Outcome.next (hrow.trans (by simp only [hdone, Bool.false_eq_true, if_false, State.answer, State.ctxOf_port, State.ctxOf_mbox]))⟩

end
end

/-- A word that is no instruction is taken and ends at once (R511). -/
theorem State.feedStart_illegal {s : State} {t w : Nat} (hrun : (s.engine t).run = .halted) (hfree : (s.feed t).busy = false)
    (hword : decodeEngine w = none) : s.feedStart t w = (s.setFeed t { Feed.init with busy := true }).feedEnd t 2 := by
  simp only [State.feedStart, hrun, hfree, hword, ne_eq, not_true_eq_false, Bool.false_eq_true, or_self, if_false]

/-! ### Single accesses (R507, R510) -/

theorem State.dbgScopeRefuses_not {s : State} {path a code : Nat} (h : s.dbgOwnMem path a = true ∨ code ≠ svcDenied) :
    s.dbgScopeRefuses path a code = false := by
  rcases h with hown | hcode
  · simp [State.dbgScopeRefuses, hown]
  · simp [State.dbgScopeRefuses, hcode]

/-- How a DBG_PEEK goes on whose words were read with `q` (R489, R510). -/
def State.peekEnd (s : State) (p m : Nat) (eff : Bool) : State × Option Nat × List Byte × Nat → State
  | (u, none, acc, left) => u.addWait ((s.ctxOf p m).op p ([s.arg p m 0 8 + acc.length, left, b2n eff] ++ acc.map BitVec.toNat))
  | (u, some code, acc, _) =>
    if acc.isEmpty ∧ (s.taken p m).dbgScopeRefuses p (s.arg p m 0 8) code then (s.taken p m).reply p m 0x13 []
    else u.reply p m 0 (peekPay code acc)

section
variable {p : Port} {m : Mbox} {s : State} (hfree : s.dbgBusy p = false)
include hfree

section
variable (h : s.ready p m 0x813)
include h

theorem exec_dbgPeek_unauthorized (hlevel : s.level p = 0) : exec (.dbgPeek p m) s = .next ((s.taken p m).reply p m 0x13 []) := by
  have hlow : s.level p < if bitAt (s.arg p m 9 1) 0 then 2 else 1 := by split <;> omega
  refine congrArg Host.Outcome.next ((if_neg (by simp [hfree])).trans ((takeMailbox_ready 0x813 cmdDbgPeek p m s h).trans ?_))
  simp only [cmdDbgPeek, State.ctxOf_port, State.ctxOf_num, State.taken_level, hlow, or_true, if_true, refuse, State.answer, State.ctxOf_mbox]

section
variable {eff : Bool} (heff : bitAt (s.arg p m 9 1) 0 = eff) (hlevel : (if eff then 2 else 1) ≤ s.level p)
  {q : State × Option Nat × List Byte × Nat} (hq : (s.taken p m).peekRun (s.arg p m 8 1) p eff (s.arg p m 0 8) [] = q)
include heff hlevel hq

/-- A peek that the path may make is answered as its words ended. -/
theorem exec_dbgPeek_allowed : exec (.dbgPeek p m) s = .next (s.peekEnd p m eff q) := by
  have hnot : ¬ (5 ≤ p.val ∨ s.level p < if eff then 2 else 1) := not_or.mpr ⟨not_five_le_port p, hlevel.not_gt⟩
  refine congrArg Host.Outcome.next ((if_neg (by simp [hfree])).trans ((takeMailbox_ready 0x813 cmdDbgPeek p m s h).trans ?_))
  simp only [cmdDbgPeek, State.ctxOf_port, State.ctxOf_num, State.taken_level, heff, if_neg hnot, hq]
  obtain ⟨u, x, acc, left⟩ := q
  cases x with
  | none => rfl
  | some code =>
    by_cases hscope : acc.isEmpty ∧ (s.taken p m).dbgScopeRefuses p (s.arg p m 0 8) code
    · simp only [State.peekEnd, hscope, and_self, if_true, refuse, State.answer, State.ctxOf_port, State.ctxOf_mbox]
    · simp only [State.peekEnd, hscope, if_false, State.answer, State.ctxOf_port, State.ctxOf_mbox]

theorem exec_dbgPeek_words : (∀ code, q.2.1 = some code → q.2.2.1 ≠ [] → exec (.dbgPeek p m) s = .next (q.1.reply p m 0 (leBytes 8 code ++ q.2.2.1))) ∧
    (q.2.1 = none → exec (.dbgPeek p m) s = .next (q.1.addWait ((s.ctxOf p m).op p
      ([s.arg p m 0 8 + q.2.2.1.length, q.2.2.2, b2n eff] ++ q.2.2.1.map BitVec.toNat)))) := by
  rw [exec_dbgPeek_allowed hfree h heff hlevel hq]
  obtain ⟨u, x, acc, left⟩ := q
  refine ⟨fun code hx hacc => ?_, fun hx => ?_⟩
  · simp only at hx hacc
    simp only [State.peekEnd, hx, List.isEmpty_iff, hacc, false_and, if_false, peekPay]
  · simp only at hx
    simp only [State.peekEnd, hx]

theorem exec_dbgPeek_first {code : Nat} (hx : q.2.1 = some code) (hacc : q.2.2.1 = []) :
    ((s.taken p m).dbgScopeRefuses p (s.arg p m 0 8) code = false → exec (.dbgPeek p m) s = .next (q.1.reply p m 0 (peekPay code []))) ∧
    ((s.taken p m).dbgScopeRefuses p (s.arg p m 0 8) code = true → exec (.dbgPeek p m) s = .next ((s.taken p m).reply p m 0x13 [])) := by
  rw [exec_dbgPeek_allowed hfree h heff hlevel hq]
  obtain ⟨u, x, acc, left⟩ := q
  simp only at hx hacc
  refine ⟨fun hscope => ?_, fun hscope => ?_⟩
  · simp only [State.peekEnd, hx, hacc, hscope, Bool.false_eq_true, and_false, if_false]
  · simp only [State.peekEnd, hx, hacc, hscope, List.isEmpty_nil, and_self, if_true]

end
end

section
variable (h : s.ready p m 0x814)
include h

theorem exec_dbgPoke_unauthorized (hlevel : s.level p < 2) : exec (.dbgPoke p m) s = .next ((s.taken p m).reply p m 0x13 []) := by
  refine congrArg Host.Outcome.next ((if_neg (by simp [hfree])).trans ((takeMailbox_ready 0x814 cmdDbgPoke p m s h).trans ?_))
  simp only [cmdDbgPoke, State.ctxOf_port, State.taken_level, hlevel, or_true, if_true, refuse, State.answer, State.ctxOf_mbox]

theorem exec_dbgPoke_full (hlevel : s.level p = 2) {q : State × Option (Nat × List Byte)}
    (hq : (s.taken p m).dbgWord p true .write (s.arg p m 0 8) (leBytes 4 (s.arg p m 8 4)) = q) :
    (∀ x, q.2 = some x → x.1 ≠ svcDenied → exec (.dbgPoke p m) s = .next (q.1.reply p m 0 (leBytes 1 x.1))) ∧
    (q.2 = none → exec (.dbgPoke p m) s = .next (q.1.addWait ((s.ctxOf p m).op p [s.arg p m 0 8]))) := by
  have hnot : ¬ (5 ≤ p.val ∨ s.level p < 2) := not_or.mpr ⟨not_five_le_port p, by omega⟩
  have hrow : exec (.dbgPoke p m) s =
      .next (State.answer (cmdDbgPoke (s.ctxOf p m) (s.taken p m)).1 (s.ctxOf p m) (cmdDbgPoke (s.ctxOf p m) (s.taken p m)).2) :=
    congrArg Host.Outcome.next ((if_neg (by simp [hfree])).trans (takeMailbox_ready 0x814 cmdDbgPoke p m s h))
  rw [hrow]
  simp only [cmdDbgPoke, State.ctxOf_port, State.ctxOf_num, State.taken_level, if_neg hnot, hq]
  obtain ⟨u, x⟩ := q
  refine ⟨fun x hx hcode => ?_, fun hx => ?_⟩
  · simp only at hx
    simp only [hx, State.dbgScopeRefuses_not (.inr hcode), Bool.false_eq_true, if_false, State.answer, State.ctxOf_port, State.ctxOf_mbox]
  · simp only at hx
    simp only [hx, State.answer]

end
end

/-- Settles O57: each debug command checks the level and the scope of its port's path, and then acts or is refused. -/
theorem debugCommands : Obligations.DebugCommands := by
  unfold Obligations.DebugCommands
  refine ⟨fun p m s sig h => ⟨?challengeWaits, ?responseWaits⟩,
    fun p m s level scope hidle h hlevel hscope hcode => exec_dbgChallenge_taken hidle h hlevel hscope hcode,
    fun p m s level code scope hidle h hlevel hscope hcode hne => exec_dbgChallenge_refused hidle h hlevel hscope hcode hne,
    fun s path level hpath howner => State.challengeCode_notOwner level hpath howner,
    fun p m s h hidle hnonce => exec_dbgResponse_noNonce h hidle hnonce, fun p m s h hidle hnonce => exec_dbgResponse_verifies h hidle hnonce,
    fun p m s h => exec_dbgDrop_ready h, ?status, ?haltDenied,
    fun p m s t h ht hlevel hcovers hrun => exec_dbgHalt_requested ht hlevel hcovers h hrun,
    fun p m s t h ht hlevel hcovers hrun hidle => exec_dbgHalt_standing ht hlevel hcovers h hrun hidle,
    fun p m s t h ht hlevel hcovers => exec_dbgResume_ready ht hlevel hcovers h,
    fun p m s t h ht hlevel hcovers hrun hfree => exec_dbgFeed_halted ht hlevel hcovers h hrun hfree,
    fun p m s t h ht hlevel hcovers hrun => exec_dbgFeed_running ht hlevel hcovers h hrun,
    fun s t w hrun hfree hword => State.feedStart_illegal hrun hfree hword,
    fun p m s eff hfree h heff hlevel => exec_dbgPeek_words hfree h heff hlevel rfl,
    fun p m s eff code hfree h heff hlevel hx hacc => exec_dbgPeek_first hfree h heff hlevel rfl hx hacc,
    fun s path a code h => State.dbgScopeRefuses_not h, fun p m s hfree h hlevel => exec_dbgPeek_unauthorized hfree h hlevel,
    fun p m s hfree h hlevel => exec_dbgPoke_full hfree h hlevel rfl, fun p m s hfree h _ hlevel => exec_dbgPoke_unauthorized hfree h hlevel⟩
  case challengeWaits => exact congrArg Host.Outcome.next (if_pos (State.dbgVerifies_port h))
  case responseWaits => exact congrArg Host.Outcome.next (if_pos (State.dbgVerifies_port h))
  case status =>
    intro p m s v h hv
    subst hv
    exact exec_dbgStatus_ready h
  case haltDenied =>
    intro p m s t h ht hnot
    subst ht
    exact exec_dbgHalt_denied h hnot

end Sys2Proof.Machine

/-! SUPPORT. Control of the debug master (20 R460; 23 R505, R511, R514, R515): the end of a verification, and the registers of the debug block that halt,
step and feed engines and the Referee. -/

namespace Sys2Proof.Machine

/-! ### Verification and its ends (R505) -/

section
variable {path : Fin 6} {s : State}

theorem exec_authVerifyDone_idle (h : (s.dpath path).sig = none) : exec (.authVerifyDone path) s = .next s := by
  refine congrArg Host.Outcome.next ?_
  simp only [h]

section
variable {sig : List Byte} (hsig : (s.dpath path).sig = some sig) (hpath : path.val ≠ 5)
include hsig hpath

theorem exec_authVerifyDone_granted (hlevel : (s.dpath path).level = 1)
    (hok : verifies (debugKey (if (s.dpath path).scope then 1 + (s.dpath path).tenant else 0)) (s.authMsg path) sig = true) :
    let t := (s.setAuth path 1 (s.dpath path).scope (s.dpath path).tenant).setF F.dbgStatus_fails path 0 0
    exec (.authVerifyDone path) s = .next (State.finishOps (t.setDpath path { t.dpath path with nonce := 0, sig := none }) path [0x801] 0 0 0 []) := by
  refine congrArg Host.Outcome.next ?_
  simp only [hsig, hok, if_true, hlevel, Nat.reduceEqDiff, if_false, hpath, ne_eq, not_false_eq_true]

theorem exec_authVerifyDone_refused
    (hbad : verifies (debugKey (if (s.dpath path).scope then 1 + (s.dpath path).tenant else 0)) (s.authMsg path) sig = false) :
    let t := (s.count F.dbgStatus_fails path 0 1).authAlarm path 0x19
    let u := if 4 ≤ t.getF F.dbgStatus_fails path 0 then t.setDpath path { t.dpath path with locked := true } else t
    exec (.authVerifyDone path) s = .next (State.finishOps (u.setDpath path { u.dpath path with nonce := 0, sig := none }) path [0x801] 0x13 0 0 []) := by
  refine congrArg Host.Outcome.next ?_
  simp only [hsig, hbad, Bool.false_eq_true, if_false, hpath, ne_eq, not_false_eq_true, if_true]

end

theorem exec_nonceExpiry_expires (hsig : (s.dpath path).sig = none) (hnonce : (s.dpath path).nonce ≠ 0) (htap : (s.dpath path).tap ≠ 1) :
    exec (.nonceExpiry path) s = .next (s.setDpath path { s.dpath path with nonce := 0 }) := by
  refine congrArg Host.Outcome.next ((if_pos (by simp [hsig, hnonce])).trans ?_)
  rw [if_neg htap]

theorem exec_nonceExpiry_verifying {sig : List Byte} (hsig : (s.dpath path).sig = some sig) : exec (.nonceExpiry path) s = .next s :=
  congrArg Host.Outcome.next (if_neg (by simp [hsig]))

theorem exec_authLockoutEnd_locked (hlocked : (s.dpath path).locked = true) (htap : (s.dpath path).tap ≠ 5) :
    exec (.authLockoutEnd path) s = .next (s.setDpath path { s.dpath path with locked := false }) := by
  refine congrArg Host.Outcome.next ((if_pos hlocked).trans ?_)
  rw [if_neg htap]

theorem exec_authLockoutEnd_open (h : (s.dpath path).locked = false) : exec (.authLockoutEnd path) s = .next s :=
  congrArg Host.Outcome.next (if_neg (by simp [h]))

end

/-! ### Writes of the debug block (R507, R517) -/

theorem regAt_dbgEngCtl : regAt 0x7F0200010104 = some (.dbgEngCtl, 0, 0) := regAt_key (r := .dbgEngCtl) (i := 0) (j := 0) (by decide)
theorem regAt_dbgEngInject : regAt 0x7F0200010108 = some (.dbgEngInject, 0, 0) := regAt_key (r := .dbgEngInject) (i := 0) (j := 0) (by decide)
theorem regAt_refDbgCtl : regAt 0x7F0200011000 = some (.refDbgCtl, 0, 0) := regAt_key (r := .refDbgCtl) (i := 0) (j := 0) (by decide)
theorem regAt_refInject : regAt 0x7F020001100C = some (.refInject, 0, 0) := regAt_key (r := .refInject) (i := 0) (j := 0) (by decide)

section
variable {s : State} {path off v j : Nat} {g : Rg} (hat : regAt (0x7F0200010000 + off) = some (g, 0, j)) (halign : (0x7F0200010000 + off) % 4 = 0)
  (hpath : g.perPath = false) (hv : v < 256 ^ 4)
include hat halign hpath hv

theorem dbgWrite_granted (hblk : g.info.blk = .dbg) (hok : g.okWrite v = true) (hright : s.regRight (s.dbgRq path) true g 0 j v = true)
    (hcode : s.regCode true true g 0 j = svcOK) : dbgWrite path off v s = .next (s.writeDebug path g j v) := by
  have hback : leAt (leBytes 4 v) 0 4 = v := by rw [leAt_zero_leBytes, Nat.mod_eq_of_lt hv]
  have haccess := State.regAccess_write_granted (data := leBytes 4 v) (eff := true) (regsAt_word halign hat) hpath (hback.symm ▸ hright) hcode
  have hwrite : s.writeReg (s.dbgRq path) g 0 j v = s.writeDebug path g j v := by
    rw [State.writeReg, hok]
    simp only [Bool.not_true, Bool.false_eq_true, if_false, hblk]
    rfl
  rw [dbgWrite, haccess, hback, hwrite]

theorem dbgWrite_denied (hright : s.regRight (s.dbgRq path) true g 0 j v = false) : dbgWrite path off v s = .next s := by
  have hback : leAt (leBytes 4 v) 0 4 = v := by rw [leAt_zero_leBytes, Nat.mod_eq_of_lt hv]
  rw [dbgWrite, State.regAccess_write_denied (regsAt_word halign hat) hpath (hback.symm ▸ hright)]
  rfl

end

/-! ### Engines by registers (R511) -/

section
variable {path : Fin 6} {s : State} {t : Nat} {v : Nat}

theorem State.mayWrite_dbgEng {g : Rg} (hw : g.writer = .debug false) (htrc : g ≠ .trcCtl) :
    s.mayWrite (s.dbgRq path) g 0 0 = decide (s.level path = 2) := by
  simp [State.mayWrite, hw, htrc, State.dbgRq]

theorem State.regRight_dbgEngCtl : s.regRight (s.dbgRq path) true .dbgEngCtl 0 0 v =
    (decide (s.level path = 2) && s.dbgCovers path (s.getF F.dbgEngSel_tile path 0)) := by
  rw [← State.mayWrite_dbgEng (g := .dbgEngCtl) rfl (by decide)]
  rfl

theorem State.regRight_dbgEngInject : s.regRight (s.dbgRq path) true .dbgEngInject 0 0 v =
    (decide (s.level path = 2) && s.dbgCovers path (s.getF F.dbgEngSel_tile path 0)) := by
  rw [← State.mayWrite_dbgEng (g := .dbgEngInject) rfl (by decide)]
  rfl

theorem dbgWrite_engCtl (hlevel : s.level path = 2) (hcovers : s.dbgCovers path (s.getF F.dbgEngSel_tile path 0) = true) (hv : v < 256 ^ 4)
    (hok : Rg.dbgEngCtl.okWrite v = true) : dbgWrite path 0x104 v s = .next (s.writeDebug path .dbgEngCtl 0 v) :=
  dbgWrite_granted regAt_dbgEngCtl (by decide) rfl hv rfl hok (by rw [State.regRight_dbgEngCtl]; simp [hlevel, hcovers]) rfl

theorem dbgWrite_engCtl_denied (hlevel : s.level path ≠ 2) (hv : v < 256 ^ 4) : dbgWrite path 0x104 v s = .next s :=
  dbgWrite_denied regAt_dbgEngCtl (by decide) rfl hv (by rw [State.regRight_dbgEngCtl]; simp [hlevel])

/-- The engine commands of DBG_ENG_CTL, each with its flag. -/
theorem State.writeDebug_engCtl : s.writeDebug path .dbgEngCtl 0 v =
    let u := s.setReg .dbgEngCtl 0 0 (Rg.dbgEngCtl.written (s.reg .dbgEngCtl 0 0) v)
    let u := if bitAt v 31 then u.engHaltReq path (s.getF F.dbgEngSel_tile path 0) else u
    let u := if bitAt v 30 then u.engRelease (s.getF F.dbgEngSel_tile path 0) else u
    if bitAt v 29 then u.engStep path (s.getF F.dbgEngSel_tile path 0) else u := (rfl)

section
variable (b : Bool) (hlevel : s.level path = 2) (ht : s.getF F.dbgEngSel_tile path 0 = t) (hcovers : s.dbgCovers path t = true)
include hlevel ht hcovers

theorem exec_dbgEngHalt_full : exec (.dbgEngHalt path b) s = .next (State.engHaltReq (s.setReg .dbgEngCtl 0 0
    (Rg.dbgEngCtl.written (s.reg .dbgEngCtl 0 0) (2 ^ 31 + b2n b * 2 ^ 28))) path t) := by
  subst ht
  refine (dbgWrite_engCtl (v := 2 ^ 31 + b2n b * 2 ^ 28) hlevel hcovers (by cases b <;> decide) (by cases b <;> decide)).trans
    (congrArg Host.Outcome.next ?_)
  have h31 : bitAt (2 ^ 31 + b2n b * 2 ^ 28) 31 = true := by cases b <;> decide
  have h30 : bitAt (2 ^ 31 + b2n b * 2 ^ 28) 30 = false := by cases b <;> decide
  have h29 : bitAt (2 ^ 31 + b2n b * 2 ^ 28) 29 = false := by cases b <;> decide
  simp only [State.writeDebug_engCtl, h31, h30, h29, if_true, Bool.false_eq_true, if_false]

theorem exec_dbgEngResume_full : exec (.dbgEngResume path b) s = .next (State.engRelease (s.setReg .dbgEngCtl 0 0
    (Rg.dbgEngCtl.written (s.reg .dbgEngCtl 0 0) (2 ^ 30 + b2n b * 2 ^ 28))) t) := by
  subst ht
  refine (dbgWrite_engCtl (v := 2 ^ 30 + b2n b * 2 ^ 28) hlevel hcovers (by cases b <;> decide) (by cases b <;> decide)).trans
    (congrArg Host.Outcome.next ?_)
  have h31 : bitAt (2 ^ 30 + b2n b * 2 ^ 28) 31 = false := by cases b <;> decide
  have h30 : bitAt (2 ^ 30 + b2n b * 2 ^ 28) 30 = true := by cases b <;> decide
  have h29 : bitAt (2 ^ 30 + b2n b * 2 ^ 28) 29 = false := by cases b <;> decide
  simp only [State.writeDebug_engCtl, h31, h30, h29, if_true, Bool.false_eq_true, if_false]

theorem exec_dbgEngStep_full : exec (.dbgEngStep path b) s = .next (State.engStep (s.setReg .dbgEngCtl 0 0
    (Rg.dbgEngCtl.written (s.reg .dbgEngCtl 0 0) (2 ^ 29 + b2n b * 2 ^ 28))) path t) := by
  subst ht
  refine (dbgWrite_engCtl (v := 2 ^ 29 + b2n b * 2 ^ 28) hlevel hcovers (by cases b <;> decide) (by cases b <;> decide)).trans
    (congrArg Host.Outcome.next ?_)
  have h31 : bitAt (2 ^ 29 + b2n b * 2 ^ 28) 31 = false := by cases b <;> decide
  have h30 : bitAt (2 ^ 29 + b2n b * 2 ^ 28) 30 = false := by cases b <;> decide
  have h29 : bitAt (2 ^ 29 + b2n b * 2 ^ 28) 29 = true := by cases b <;> decide
  simp only [State.writeDebug_engCtl, h31, h30, h29, if_true, Bool.false_eq_true, if_false]

end

theorem okWrite_dbgEngInject (w : Word32) : Rg.dbgEngInject.okWrite w.toNat = true := by
  simp [Rg.okWrite, Rg.extraOk, Rg.info, Fld.okVal]

theorem exec_dbgEngInject_full (w : Word32) (hlevel : s.level path = 2) (ht : s.getF F.dbgEngSel_tile path 0 = t) (hcovers : s.dbgCovers path t = true) :
    exec (.dbgEngInject path w) s = .next (s.feedStart t w.toNat) := by
  subst ht
  exact dbgWrite_granted regAt_dbgEngInject (by decide) rfl w.isLt rfl (okWrite_dbgEngInject w)
    (by rw [State.regRight_dbgEngInject]; simp [hlevel, hcovers]) rfl

end

/-! ### The Referee (R514) -/

theorem okWrite_refInject (w : Word32) : Rg.refInject.okWrite w.toNat = true := by
  simp [Rg.okWrite, Rg.extraOk, Rg.info, Fld.okVal]

/-- The commands of REF_DBG_CTL, each with its flag. -/
theorem State.writeDebug_refDbgCtl (s : State) (v : Nat) : s.writeDebug 5 .refDbgCtl 0 v =
    let u := if bitAt v 31 then s.refHaltReq else s
    let u := if bitAt v 30 then u.refRelease else u
    if bitAt v 29 then u.refStep else u := (rfl)

section
variable {s : State} (hlevel : s.level 5 = 2) (hscope : s.scopeTenant 5 = false)
include hlevel hscope

/-- Device-wide FULL on the TAP may write the Referee's debug registers. -/
theorem State.mayWrite_refDbg {g : Rg} (hw : g.writer = .debug true) : s.mayWrite (s.dbgRq 5) g 0 0 = true := by
  simp [State.mayWrite, hw, State.dbgRq, hlevel, hscope]

theorem dbgWrite_refDbgCtl {v : Nat} (hv : v < 256 ^ 4) (hok : Rg.refDbgCtl.okWrite v = true) :
    dbgWrite 5 0x1000 v s = .next (s.writeDebug 5 .refDbgCtl 0 v) :=
  dbgWrite_granted regAt_refDbgCtl (by decide) rfl hv rfl hok (by simp [State.regRight, State.mayWrite_refDbg hlevel hscope (g := .refDbgCtl) rfl]) rfl

theorem exec_refHalt_requests (hrun : s.refHalted = false) (hreq : s.dbg.haltReq = 0) (hrestart : s.pw.refRestarting = false) :
    exec .refHalt s = .next { s with dbg.haltReq := 1 } := by
  refine (dbgWrite_refDbgCtl hlevel hscope (v := 2 ^ 31) (by decide) (by decide)).trans (congrArg Host.Outcome.next ?_)
  have h31 : bitAt (2 ^ 31) 31 = true := by decide
  have h30 : bitAt (2 ^ 31) 30 = false := by decide
  have h29 : bitAt (2 ^ 31) 29 = false := by decide
  simp only [State.writeDebug_refDbgCtl, h31, h30, h29, if_true, Bool.false_eq_true, if_false]
  exact if_neg (by simp [hrun, hreq, hrestart])

theorem exec_refResume_releases : exec .refResume s = .next s.refRelease := by
  refine (dbgWrite_refDbgCtl hlevel hscope (v := 2 ^ 30) (by decide) (by decide)).trans (congrArg Host.Outcome.next ?_)
  have h31 : bitAt (2 ^ 30) 31 = false := by decide
  have h30 : bitAt (2 ^ 30) 30 = true := by decide
  have h29 : bitAt (2 ^ 30) 29 = false := by decide
  simp only [State.writeDebug_refDbgCtl, h31, h30, h29, if_true, Bool.false_eq_true, if_false]

theorem exec_refStep_halted (hhalted : s.refHalted = true) : ∃ pc, exec .refStep s =
    .next (State.setF (State.setReg { s with free := s.free + 1 } .refPc 0 0 pc) F.refDbgStatus_cause 0 0 3) := by
  refine ⟨(Config.freeWord s.free).toNat % 2 ^ 32,
    (dbgWrite_refDbgCtl hlevel hscope (v := 2 ^ 29) (by decide) (by decide)).trans (congrArg Host.Outcome.next ?_)⟩
  have h31 : bitAt (2 ^ 29) 31 = false := by decide
  have h30 : bitAt (2 ^ 29) 30 = false := by decide
  have h29 : bitAt (2 ^ 29) 29 = true := by decide
  simp only [State.writeDebug_refDbgCtl, h31, h30, h29, if_true, Bool.false_eq_true, if_false]
  exact if_neg (by simp [hhalted])

theorem exec_refInject_halted (w : Word32) (hhalted : s.refHalted = true) : ∃ b, b < 2 ∧ exec (.refInject w) s =
    .next (State.setF { s with dbg.refFed := s.dbg.refFed ++ [w.toNat], free := s.free + 1 } F.refDbgStatus_feedFault 0 0 b) := by
  refine ⟨b2n (Config.freeBool s.free), by cases Config.freeBool s.free <;> decide, ?_⟩
  refine (dbgWrite_granted regAt_refInject (by decide) rfl w.isLt rfl (okWrite_refInject w)
    (by simp [State.regRight, State.mayWrite_refDbg hlevel hscope (g := .refInject) rfl]) rfl).trans (congrArg Host.Outcome.next ?_)
  exact if_neg (by simp [hhalted])

end

theorem exec_refereeHaltEffect_none {s : State} (h : s.dbg.haltReq = 0) : exec .refereeHaltEffect s = .next s ∧ exec (.refereeHaltForced none) s = .next s :=
  ⟨congrArg Host.Outcome.next (if_neg (by simp [h])), congrArg Host.Outcome.next (if_neg (by simp [h]))⟩

/-- Settles O58: a verification ends once, and the debug registers act on an engine or the Referee only with FULL over it. -/
theorem debugControl : Obligations.DebugControl := by
  unfold Obligations.DebugControl
  refine ⟨fun path s h => exec_authVerifyDone_idle h, ?granted, ?refused, fun path s hsig hnonce htap => exec_nonceExpiry_expires hsig hnonce htap,
    fun path s sig hsig => exec_nonceExpiry_verifying hsig, fun path s hlocked htap => exec_authLockoutEnd_locked hlocked htap,
    fun path s h => exec_authLockoutEnd_open h, fun path b s t hlevel ht hcovers => exec_dbgEngHalt_full b hlevel ht hcovers,
    fun path b s t hlevel ht hcovers => exec_dbgEngResume_full b hlevel ht hcovers, fun path b s t hlevel ht hcovers => exec_dbgEngStep_full b hlevel ht hcovers,
    fun path w s t hlevel ht hcovers => exec_dbgEngInject_full w hlevel ht hcovers, ?denied,
    fun s hlevel hscope hrun hreq hrestart => exec_refHalt_requests hlevel hscope hrun hreq hrestart,
    fun s hlevel hscope _ => exec_refResume_releases hlevel hscope, fun s hlevel hscope hhalted => exec_refStep_halted hlevel hscope hhalted,
    fun w s hlevel hscope hhalted => exec_refInject_halted hlevel hscope w hhalted,
    fun s hreq hrestart => congrArg Host.Outcome.next (if_pos (by simp [hreq, hrestart])), fun s h => exec_refereeHaltEffect_none h,
    fun p s hreq hrestart => congrArg Host.Outcome.next (if_pos (by simp [hreq, hrestart])),
    fun u s hbreaks hrun hrestart => congrArg Host.Outcome.next (if_pos (by simp [hbreaks, hrun, hrestart])),
    fun u s h => congrArg Host.Outcome.next (if_neg (by simp [h]))⟩
  case granted =>
    intro path s x sig hx hsig hlevel hpath hok
    subst hx
    exact exec_authVerifyDone_granted hsig hpath hlevel hok
  case refused =>
    intro path s x sig hx hsig hpath hbad
    subst hx
    exact exec_authVerifyDone_refused hsig hpath hbad
  case denied =>
    intro path b s hlevel
    exact ⟨dbgWrite_engCtl_denied hlevel (by cases b <;> decide), dbgWrite_engCtl_denied hlevel (by cases b <;> decide),
      dbgWrite_engCtl_denied hlevel (by cases b <;> decide)⟩

end Sys2Proof.Machine

/-! SUPPORT. The TAP (23 R506, R508, R509, R512, R513): what an instruction selects and captures, the exchange, and accesses. -/

namespace Sys2Proof.Machine

/-! ### Instructions and what they capture (R508, R509) -/

@[simp] theorem State.tapIr_dpath (s : State) (op path : Nat) : (s.tapIr op).dpath path = s.dpath path := (rfl)
@[simp] theorem State.tapIr_level (s : State) (op path : Nat) : (s.tapIr op).level path = s.level path := (rfl)
@[simp] theorem State.tapIr_pw (s : State) (op : Nat) : (s.tapIr op).pw = s.pw := (rfl)
@[simp] theorem State.tapIr_accBusy (s : State) (op : Nat) : (s.tapIr op).dbg.accBusy = s.dbg.accBusy := (rfl)

theorem idcodeOf_fields (rev : Nat) : bits (idcodeOf rev) 31 28 = rev % 16 ∧ bits (idcodeOf rev) 27 12 = 0x1260 ∧ bits (idcodeOf rev) 11 1 = 0x2B5 ∧
    bitAt (idcodeOf rev) 0 = true := by
  simp only [idcodeOf, bits, bitAt, Nat.reducePow, Nat.reduceSub, Nat.reduceAdd]
  exact ⟨by omega, by omega, by omega, decide_eq_true (by omega)⟩

section
variable {s : State}

/-- A pin instruction that may not take effect selects BYPASS (R509). -/
theorem State.tapDrive_denied (op drive : Nat) (h : s.pinTest = false) : s.tapDrive op drive = s.tapIr 0xFF := if_neg (by simp [h])

theorem State.tapDrive_allowed (op drive : Nat) (h : s.pinTest = true) :
    s.tapDrive op drive = { s with dbg.ir := op, dbg.drive := drive, dbg.dr := s.tapCapture op } := if_pos h

section
variable (hon : s.tapOn = true)
include hon

theorem exec_tapReset_on : exec .tapReset s = .next (State.tapIr (State.setDpath ((s.dropAuth 5).dropExchange 5) 5
    { ((s.dropAuth 5).dropExchange 5).dpath 5 with tap := if (((s.dropAuth 5).dropExchange 5).dpath 5).locked then 5 else 0 }) 0x01) :=
  congrArg Host.Outcome.next (if_neg (by simp [hon]))

theorem exec_bypass_on : exec .bypass s = .next (s.tapIr 0xFF) := congrArg Host.Outcome.next (if_pos hon)

theorem exec_pins_allowed (h : s.pinTest = true) :
    exec .extest s = .next { s with dbg.ir := 0x03, dbg.drive := 1, dbg.dr := s.dbg.boundary } ∧
    exec .highz s = .next { s with dbg.ir := 0x04, dbg.drive := 2, dbg.dr := 0 } ∧
    exec .clamp s = .next { s with dbg.ir := 0x05, dbg.drive := 3, dbg.dr := 0 } ∧
    exec .extestPulse s = .next { s with dbg.ir := 0x06, dbg.drive := 4, dbg.dr := s.dbg.boundary } ∧
    exec .extestTrain s = .next { s with dbg.ir := 0x07, dbg.drive := 5, dbg.dr := s.dbg.boundary } :=
  ⟨congrArg Host.Outcome.next ((if_pos hon).trans (s.tapDrive_allowed 0x03 1 h)), congrArg Host.Outcome.next ((if_pos hon).trans (s.tapDrive_allowed 0x04 2 h)),
    congrArg Host.Outcome.next ((if_pos hon).trans (s.tapDrive_allowed 0x05 3 h)),
    congrArg Host.Outcome.next ((if_pos hon).trans (s.tapDrive_allowed 0x06 4 h)),
    congrArg Host.Outcome.next ((if_pos hon).trans (s.tapDrive_allowed 0x07 5 h))⟩

theorem exec_pins_denied (h : s.pinTest = false) :
    exec .extest s = exec .bypass s ∧ exec .highz s = exec .bypass s ∧ exec .clamp s = exec .bypass s ∧ exec .extestPulse s = exec .bypass s ∧
    exec .extestTrain s = exec .bypass s := by
  rw [exec_bypass_on hon]
  exact ⟨congrArg Host.Outcome.next ((if_pos hon).trans (s.tapDrive_denied 0x03 1 h)), congrArg Host.Outcome.next ((if_pos hon).trans (s.tapDrive_denied 0x04 2 h)),
    congrArg Host.Outcome.next ((if_pos hon).trans (s.tapDrive_denied 0x05 3 h)),
    congrArg Host.Outcome.next ((if_pos hon).trans (s.tapDrive_denied 0x06 4 h)),
    congrArg Host.Outcome.next ((if_pos hon).trans (s.tapDrive_denied 0x07 5 h))⟩

end

theorem exec_tap_off {c : Instr} (hoff : s.tapOn = false) (hc : c = .tapReset ∨ c = .idcode ∨ c = .extest ∨ c = .bypass ∨ c = .authDrop) :
    exec c s = .next s := by
  rcases hc with rfl | rfl | rfl | rfl | rfl
  · exact congrArg Host.Outcome.next (if_pos (by simp [hoff]))
  · exact congrArg Host.Outcome.next (if_neg (by simp [hoff]))
  · exact congrArg Host.Outcome.next (if_neg (by simp [hoff]))
  · exact congrArg Host.Outcome.next (if_neg (by simp [hoff]))
  · exact congrArg Host.Outcome.next (if_pos (by simp [hoff]))

end

/-! ### The captured registers (R512, R513) -/

/-- Two fields above a third: each reads back. -/
theorem fields_readBack {a b c k n : Nat} (hb : b < 2 ^ n) (hc : c < 2 ^ k) :
    (a * 2 ^ (k + n) + b * 2 ^ k + c) / 2 ^ (k + n) = a ∧ (a * 2 ^ (k + n) + b * 2 ^ k + c) / 2 ^ k % 2 ^ n = b ∧
      (a * 2 ^ (k + n) + b * 2 ^ k + c) % 2 ^ k = c := by
  have hk : 0 < 2 ^ k := Nat.pow_pos (by decide)
  have hlow : (a * 2 ^ (k + n) + b * 2 ^ k + c) / 2 ^ k = a * 2 ^ n + b := by
    rw [show a * 2 ^ (k + n) + b * 2 ^ k + c = c + (a * 2 ^ n + b) * 2 ^ k by rw [Nat.pow_add]; ring, Nat.add_mul_div_right _ _ hk,
      Nat.div_eq_of_lt hc, Nat.zero_add]
  refine ⟨?_, ?_, ?_⟩
  · rw [Nat.pow_add, ← Nat.div_div_eq_div_mul, ← Nat.pow_add, hlow, Nat.add_comm, Nat.add_mul_div_right _ _ (Nat.pow_pos (by decide)),
      Nat.div_eq_of_lt hb, Nat.zero_add]
  · rw [hlow, Nat.mul_add_mod_of_lt hb]
  · rw [show a * 2 ^ (k + n) + b * 2 ^ k + c = c + (a * 2 ^ n + b) * 2 ^ k by rw [Nat.pow_add]; ring, Nat.add_mul_mod_self_right, Nat.mod_eq_of_lt hc]

/-- The exchange as captured: state, level, and the nonce while one is valid. -/
theorem State.authCapture_fields {s : State} (hlevel : s.level 5 < 4) : (s.tapIr 0x10).dbg.dr / 2 ^ 797 = (s.dpath 5).tap ∧
    (s.tapIr 0x10).dbg.dr / 2 ^ 795 % 4 = s.level 5 ∧ ((s.dpath 5).nonce = 0 → (s.tapIr 0x10).dbg.dr % 2 ^ 795 = 0) := by
  have hdr : (s.tapIr 0x10).dbg.dr = (s.dpath 5).tap * 2 ^ (795 + 2) + s.level 5 * 2 ^ 795 +
    (if (s.dpath 5).nonce = 0 then 0 else (Config.freeNonce ((s.dpath 5).nonce - 1)).toNat) := (rfl)
  have hnonce : (if (s.dpath 5).nonce = 0 then 0 else (Config.freeNonce ((s.dpath 5).nonce - 1)).toNat) < 2 ^ 795 := by
    split
    · exact Nat.pow_pos (by decide)
    · exact (Config.freeNonce _).isLt.trans_le (Nat.pow_le_pow_right (by decide) (by decide))
  obtain ⟨htap, hlev, hlow⟩ := fields_readBack (a := (s.dpath 5).tap) (n := 2) (b := s.level 5) hlevel hnonce
  rw [hdr]
  exact ⟨htap, hlev, fun h => hlow.trans (if_pos h)⟩

/-- An access as captured. -/
theorem State.accessCapture_fields {s : State} (hsvc : s.dbg.accSvc < 64) (haddr : s.dbg.accAddr < 2 ^ 48) (hdata : s.dbg.accData < 2 ^ 32) :
    (s.tapIr 0x11).dbg.dr / 2 ^ 87 = b2n s.dbg.accBusy ∧ (s.tapIr 0x11).dbg.dr / 2 ^ 86 % 2 = b2n s.dbg.accPeek ∧
    (s.tapIr 0x11).dbg.dr / 2 ^ 80 % 64 = s.dbg.accSvc ∧ (s.tapIr 0x11).dbg.dr / 2 ^ 32 % 2 ^ 48 = s.dbg.accAddr ∧
    (s.tapIr 0x11).dbg.dr % 2 ^ 32 = s.dbg.accData := by
  have hdr : (s.tapIr 0x11).dbg.dr =
    b2n s.dbg.accBusy * 2 ^ 87 + b2n s.dbg.accPeek * 2 ^ 86 + s.dbg.accSvc * 2 ^ 80 + s.dbg.accAddr * 2 ^ 32 + s.dbg.accData := (rfl)
  have hbusy : b2n s.dbg.accBusy ≤ 1 := by cases s.dbg.accBusy <;> decide
  have hpeek : b2n s.dbg.accPeek ≤ 1 := by cases s.dbg.accPeek <;> decide
  rw [hdr]
  omega

/-! ### The exchange (R505, R512) -/

section
variable {s : State} (hon : s.tapOn = true)
include hon

section
variable {level : Fin 4} {scope : Bool} {tenant : Tenant} (hlevel : level.val = 1 ∨ level.val = 2)
include hlevel

theorem exec_authChallenge_taken (hcode : (s.tapIr 0x10).challengeCode 5 level scope = 0) :
    exec (.authChallenge level scope tenant) s = .next ((s.tapIr 0x10).challenge 5 level scope (if scope then tenant.val else 0)).1 := by
  have hnone : ¬ (level.val = 0 ∨ level.val = 3) := by omega
  refine congrArg Host.Outcome.next ((if_neg (by simp [hon])).trans ?_)
  simp only [if_neg hnone, hcode]

theorem exec_authChallenge_refused (hcode : (s.tapIr 0x10).challengeCode 5 level scope = 0x13) : exec (.authChallenge level scope tenant) s =
    .next (State.setDpath (s.tapIr 0x10) 5 { s.dpath 5 with nonce := 0, sig := none, tap := 4 }) := by
  have hnone : ¬ (level.val = 0 ∨ level.val = 3) := by omega
  refine congrArg Host.Outcome.next ((if_neg (by simp [hon])).trans ?_)
  simp only [if_neg hnone, hcode, Nat.reduceEqDiff, if_false, State.tapIr_dpath]

end

theorem exec_authResponse_verifies {sig : List Byte} (hlen : sig.length = 96) (hidle : (s.dpath 5).sig = none) (hnonce : (s.dpath 5).nonce ≠ 0) :
    exec (.authResponse sig) s = .next ((s.tapIr 0x10).setDpath 5 { s.dpath 5 with sig := some sig, tap := 2 }) := by
  refine congrArg Host.Outcome.next ((if_neg (by simp [hon])).trans ?_)
  simp [hlen, hidle, hnonce]

theorem exec_authDrop_open (hopen : (s.dpath 5).locked = false) :
    exec .authDrop s = .next (State.dropAuth ((s.tapIr 0x10).setDpath 5 { s.dpath 5 with tap := 0 }) 5) := by
  refine congrArg Host.Outcome.next ((if_neg (by simp [hon])).trans ?_)
  simp [hopen]

/-! ### Accesses (R513) -/

theorem State.tapAccess_busy (need : Nat) (eff : Bool) (op : NOp) (a : Nat) (data : List Byte) (hbusy : s.dbg.accBusy = true) :
    s.tapAccess need eff op a data = s.tapIr 0x11 := by
  simp [State.tapAccess, hon, hbusy]

section
variable (hidle : s.dbg.accBusy = false)
include hidle

/-- An access for which the level does not suffice ends at once. -/
theorem State.tapAccess_denied {need : Nat} (eff : Bool) (op : NOp) (a : Nat) (data : List Byte) (hlevel : s.level 5 < need) :
    s.tapAccess need eff op a data =
      State.accDone { s.tapIr 0x11 with dbg.accAddr := a, dbg.accPeek := false, dbg.accData := 0 } svcDenied [] := by
  have hlow : State.level { s.tapIr 0x11 with dbg.accAddr := a, dbg.accPeek := false, dbg.accData := 0 } 5 < need := hlevel
  exact (if_neg (by simp [hon])).trans ((if_neg (by simp [hidle])).trans (if_pos hlow))

/-- How an access ends whose word was answered so, PEEKED having been `was` (R510, R513). -/
def State.accEnd (was : Nat) : State × Option (Nat × List Byte) → State
  | (s, none) => State.setF { s with dbg.accBusy := true } F.dbgStatus_peeked 5 0 was
  | (s, some (code, d)) =>
    State.setF (State.accDone { s with dbg.accPeek := decide (s.getF F.dbgStatus_peeked 5 0 = 1) } code d) F.dbgStatus_peeked 5 0
      (max was (s.getF F.dbgStatus_peeked 5 0))

section
variable {need : Nat} {eff : Bool} {op : NOp} {a : Nat} {data : List Byte} {u : State} {was : Nat} {x : Option (Nat × List Byte)}
  (hlevel : need ≤ s.level 5) (hreset : s.pw.resetN = true) (htrip : s.pw.tripped = false) (hwas : s.getF F.dbgStatus_peeked 5 0 = was)
  (hword : State.dbgWord (State.setF { s.tapIr 0x11 with dbg.accAddr := a, dbg.accPeek := false, dbg.accData := 0 } F.dbgStatus_peeked 5 0 0)
    5 eff op a data = (u, x))
include hlevel hreset htrip hwas hword

/-- An access that the level allows ends at once with the word's answer, or waits for the network. -/
theorem State.tapAccess_allowed :
    (∀ code d, x = some (code, d) → s.tapAccess need eff op a data = State.setF
      (State.accDone { u with dbg.accPeek := decide (u.getF F.dbgStatus_peeked 5 0 = 1) } code d) F.dbgStatus_peeked 5 0
      (max was (u.getF F.dbgStatus_peeked 5 0))) ∧
    (x = none → s.tapAccess need eff op a data = State.setF { u with dbg.accBusy := true } F.dbgStatus_peeked 5 0 was) := by
  have hlow : ¬ State.level { s.tapIr 0x11 with dbg.accAddr := a, dbg.accPeek := false, dbg.accData := 0 } 5 < need := hlevel.not_gt
  have hpeeked : State.getF { s.tapIr 0x11 with dbg.accAddr := a, dbg.accPeek := false, dbg.accData := 0 } F.dbgStatus_peeked 5 0 = was := hwas
  have hrun : ¬ ((!s.pw.resetN) = true ∨ s.pw.tripped = true) := by simp [hreset, htrip]
  have haccess : s.tapAccess need eff op a data = State.accEnd was (u, x) := by
    refine (if_neg (by simp [hon])).trans ((if_neg (by simp [hidle])).trans ((if_neg hlow).trans ((if_neg hrun).trans ?_)))
    cases x with
    | none => simp only [hword, hpeeked, State.accEnd]
    | some y => simp only [hword, hpeeked, State.accEnd]
  refine ⟨fun code d hx => ?_, fun hx => ?_⟩
  · rw [haccess, hx, State.accEnd]
  · rw [haccess, hx, State.accEnd]

end
end
end

/-- Settles O59: every instruction of the TAP selects a register and captures it, and acts only while the device is powered. -/
theorem tapInstructions : Obligations.TapInstructions := by
  unfold Obligations.TapInstructions
  refine ⟨fun s hon => exec_tapReset_on hon, fun s hon => congrArg Host.Outcome.next (if_pos hon), ⟨rfl, idcodeOf_fields⟩, fun s hon => exec_bypass_on hon,
    fun cells s hon => congrArg Host.Outcome.next (if_pos hon), fun s hon h => exec_pins_allowed hon h, fun s _ hlevel => State.authCapture_fields hlevel,
    fun s hsvc haddr hdata => State.accessCapture_fields hsvc haddr hdata, fun s hon h => exec_pins_denied hon h, fun c s hoff hc => exec_tap_off hoff hc,
    fun level scope tenant s hon hlevel hcode => exec_authChallenge_taken hon hlevel hcode,
    fun level scope tenant s hon hlevel hcode => exec_authChallenge_refused hon hlevel hcode,
    fun sig s hon hlen hidle hnonce => exec_authResponse_verifies hon hlen hidle hnonce, fun s hon hopen => exec_authDrop_open hon hopen, ?busy, ?noLevel,
    ?lowLevel, ?write, ?read, ?effectfulRead⟩
  case busy =>
    intro a w s hon hbusy
    exact ⟨congrArg Host.Outcome.next (State.tapAccess_busy hon _ _ _ _ _ hbusy), congrArg Host.Outcome.next (State.tapAccess_busy hon _ _ _ _ _ hbusy),
      congrArg Host.Outcome.next (State.tapAccess_busy hon _ _ _ _ _ hbusy)⟩
  case noLevel =>
    intro a s hon hidle hlevel
    exact congrArg Host.Outcome.next (State.tapAccess_denied hon hidle _ _ _ _ (by omega))
  case lowLevel =>
    intro a w s hon hidle hlevel
    exact ⟨congrArg Host.Outcome.next (State.tapAccess_denied hon hidle _ _ _ _ hlevel),
      congrArg Host.Outcome.next (State.tapAccess_denied hon hidle _ _ _ _ hlevel)⟩
  case write =>
    intro a w s u was x hon hidle hlevel hreset htrip hwas hword
    obtain ⟨hdone, hwait⟩ := State.tapAccess_allowed hon hidle (need := 2) hlevel.ge hreset htrip hwas hword
    exact ⟨fun code d hx => congrArg Host.Outcome.next (hdone code d hx), fun hx => congrArg Host.Outcome.next (hwait hx)⟩
  case read =>
    intro a s u was x hon hidle hlevel hreset htrip hwas hword
    obtain ⟨hdone, hwait⟩ := State.tapAccess_allowed hon hidle hlevel hreset htrip hwas hword
    exact ⟨fun code d hx => congrArg Host.Outcome.next (hdone code d hx), fun hx => congrArg Host.Outcome.next (hwait hx)⟩
  case effectfulRead =>
    intro a s u was x hon hidle hlevel hreset htrip hwas hword
    obtain ⟨hdone, hwait⟩ := State.tapAccess_allowed hon hidle hlevel hreset htrip hwas hword
    exact ⟨fun code d hx => congrArg Host.Outcome.next (hdone code d hx), fun hx => congrArg Host.Outcome.next (hwait hx)⟩

end Sys2Proof.Machine

/-! SUPPORT. The BAR2 window of the PCI Express ports (20 R463–R465): the map, the requests of a port and their responses, and a write that fails. -/

namespace Sys2Proof.Machine

/-! ### Responses to a source (R184) -/

/-- An intact response ends the request that it names (R184). -/
theorem State.arrive_outstanding {s : State} {r : Resp} {o : Outst} (hout : s.findOut r.src r.sport r.tag r.gen = some o) (hcrc : r.crcOk = true) :
    s.arrive r = ((s.takeResp r).retire o, some (o, r)) := by
  have hout' : (s.takeResp r).findOut r.src r.sport r.tag r.gen = some o := hout
  simp [State.arrive, hout', hcrc]

/-! ### The map of a segment (R463) -/

@[simp] theorem State.taken_portTenant (s : State) (p m q : Nat) : (s.taken p m).portTenant q = s.portTenant q := (rfl)

section
variable {p : Port} {m : Mbox} {s : State} (h : s.ready p m 0x350)
include h

theorem exec_bar2Map_owner (howner : s.portTenant p = s.portTenant (s.arg p m 0 1)) : exec (.bar2Map p m) s =
    .next (((s.taken p m).setReg .hpXlat (s.arg p m 0 1) (s.arg p m 1 1) (2 ^ 31 * s.arg p m 2 1 + s.arg p m 4 2)).reply p m 0 []) := by
  refine congrArg Host.Outcome.next ((takeMailbox_ready 0x350 cmdBar2Map p m s h).trans ?_)
  simp [cmdBar2Map, howner, State.answer]

theorem exec_bar2Map_other (howner : s.portTenant p ≠ s.portTenant (s.arg p m 0 1)) :
    exec (.bar2Map p m) s = .next ((s.taken p m).reply p m 0x12 []) := by
  refine congrArg Host.Outcome.next ((takeMailbox_ready 0x350 cmdBar2Map p m s h).trans ?_)
  simp [cmdBar2Map, howner, refuse, State.answer]

end

/-! ### Requests (R464) -/

section
variable {p o : Nat} {s : State}

theorem State.bar2Addr_mapped (h : s.flag F.hpXlat_en p (o / 2 ^ 32) = true) :
    s.bar2Addr p o = some (s.getF F.hpXlat_base p (o / 2 ^ 32) * 2 ^ 32 + o % 2 ^ 32) := if_pos h

theorem State.bar2Addr_unmapped (h : s.flag F.hpXlat_en p (o / 2 ^ 32) = false) : s.bar2Addr p o = none := if_neg (by rw [h]; decide)

end

section
variable {p : Die} {off : BitVec 36} {s : State} (hlink : s.flag F.hpStatus_linkUp p 0 = true) (hstays : s.portEnds p = false)
include hlink hstays

section
variable {n : Fin 4096} (hpage : off.toNat % 4096 + n.val + 1 ≤ 4096)
include hpage

/-- A read that its port takes up (R464). -/
theorem exec_bar2Memrd_legal : exec (.bar2Memrd p off n) s = .next (
    if (s.port p).d3hot ∨ !s.bar2Mode then s.setPort p { s.port p with cpls := (s.port p).cpls ++ [⟨2, [], false⟩] }
    else match s.bar2Addr p off.toNat with
      | none => s.setPort p { s.port p with cpls := (s.port p).cpls ++ [⟨2, [], false⟩] }
      | some a => s.bar2Take p false a (n.val + 1) []) :=
  congrArg Host.Outcome.next (if_neg (by simp only [hlink, hstays, Bool.not_true, Bool.false_eq_true, false_or]; omega))

theorem exec_bar2Memrd_unsupported
    (hnot : (s.port p).d3hot = true ∨ s.bar2Mode = false ∨ s.flag F.hpXlat_en p (off.toNat / 2 ^ 32) = false) :
    exec (.bar2Memrd p off n) s = .next (s.setPort p { s.port p with cpls := (s.port p).cpls ++ [⟨2, [], false⟩] }) := by
  rw [exec_bar2Memrd_legal hlink hstays hpage]
  rcases hnot with hd3 | hmode | hmap
  · rw [if_pos (.inl hd3)]
  · rw [if_pos (.inr (by simp [hmode]))]
  · rw [State.bar2Addr_unmapped hmap, ite_self]

theorem exec_bar2Memrd_mapped (hd3 : (s.port p).d3hot = false) (hmode : s.bar2Mode = true) (hmap : s.flag F.hpXlat_en p (off.toNat / 2 ^ 32) = true) :
    exec (.bar2Memrd p off n) s = .next (s.bar2Take p false
      (s.getF F.hpXlat_base p (off.toNat / 2 ^ 32) * 2 ^ 32 + off.toNat % 2 ^ 32) (n.val + 1) []) := by
  rw [exec_bar2Memrd_legal hlink hstays hpage, if_neg (by simp [hd3, hmode]), State.bar2Addr_mapped hmap]

end

section
variable {data : List Byte} (hsome : 0 < data.length) (hlen : data.length ≤ 512) (hpage : off.toNat % 4096 + data.length ≤ 4096)
include hsome hlen hpage

/-- A write that its port takes up (R464). -/
theorem exec_bar2Memwr_legal : exec (.bar2Memwr p off data) s = .next (
    if (s.port p).d3hot ∨ !s.bar2Mode then s.aerReport p
    else match s.bar2Addr p off.toNat with
      | none => State.bar2Error { s.aerReport p with free := s.free + 2 } p ((Config.freeWord s.free).toNat % 11) ((Config.freeWord (s.free + 1)).toNat % 2 ^ 48)
      | some a => s.bar2Take p true a data.length data) :=
  congrArg Host.Outcome.next (if_neg (by simp only [hlink, hstays, Bool.not_true, Bool.false_eq_true, false_or]; omega))

theorem exec_bar2Memwr_unsupported (hnot : (s.port p).d3hot = true ∨ s.bar2Mode = false) :
    exec (.bar2Memwr p off data) s = .next (s.setPort p { s.port p with aerUr := true }) := by
  rw [exec_bar2Memwr_legal hlink hstays hsome hlen hpage, if_pos (hnot.imp_right (fun hmode => by simp [hmode]))]
  rfl

section
variable (hd3 : (s.port p).d3hot = false) (hmode : s.bar2Mode = true)
include hd3 hmode

theorem exec_bar2Memwr_mapped (hmap : s.flag F.hpXlat_en p (off.toNat / 2 ^ 32) = true) :
    exec (.bar2Memwr p off data) s = .next (s.bar2Take p true
      (s.getF F.hpXlat_base p (off.toNat / 2 ^ 32) * 2 ^ 32 + off.toNat % 2 ^ 32) data.length data) := by
  rw [exec_bar2Memwr_legal hlink hstays hsome hlen hpage, if_neg (by simp [hd3, hmode]), State.bar2Addr_mapped hmap]

theorem exec_bar2Memwr_unmapped (hmap : s.flag F.hpXlat_en p (off.toNat / 2 ^ 32) = false) :
    ∃ svc a, exec (.bar2Memwr p off data) s = .next (State.bar2Error { s.setPort p { s.port p with aerUr := true } with free := s.free + 2 } p svc a) := by
  rw [exec_bar2Memwr_legal hlink hstays hsome hlen hpage, if_neg (by simp [hd3, hmode]), State.bar2Addr_unmapped hmap]
  exact ⟨_, _, rfl⟩

end
end
end

/-! ### A write that fails (R465) -/

/-- A count leaves the other registers. -/
theorem State.getF_count_other {s : State} {f g : FRef} {i j i' j' : Nat} (k : Nat) (w : s.regsWf = true) (h : g.rg.key i' j' ≠ f.rg.key i j) :
    (s.count f i j k).getF g i' j' = s.getF g i' j' := s.getF_setF_other f g i j i' j' _ w h

theorem hpCounts_valid {p : Nat} (hp : p < 4) : Rg.hpCounts.valid p 0 = true := by interval_cases p <;> decide
theorem hpBar2Err_valid {p : Nat} (hp : p < 4) : Rg.hpBar2Err.valid p 0 = true := by interval_cases p <;> decide
theorem hpStatus_valid {p : Nat} (hp : p < 4) : Rg.hpStatus.valid p 0 = true := by interval_cases p <;> decide

/-- While an error stands recorded, a further one is counted and told alone (R465). -/
theorem State.bar2Error_recorded {s : State} {p : Nat} (svc a : Nat) (w : s.regsWf = true) (hp : p < 4) (hvalid : s.flag F.hpBar2Err_valid p 0 = true) :
    s.bar2Error p svc a = (s.count F.hpCounts_bar2Errs p 0 1).queueEv (s.portTenant p) 6 svc (srcOf .hp p) (a % 2 ^ 48) := by
  have hflag : (s.count F.hpCounts_bar2Errs p 0 1).flag F.hpBar2Err_valid p 0 = true := by
    rw [State.flag, State.getF_count_other 1 w (Rg.key_ne (hpCounts_valid hp) (hpBar2Err_valid hp) (by simp))]
    exact hvalid
  have htenant : (s.count F.hpCounts_bar2Errs p 0 1).portTenant p = s.portTenant p :=
    State.getF_count_other 1 w (Rg.key_ne (hpCounts_valid hp) (hpStatus_valid hp) (by simp))
  simp only [State.bar2Error, hflag, if_true, htenant]

/-! ### Responses, and requests sent again (R465) -/

theorem exec_bar2Response_outstanding {r : Resp} {s : State} {o : Outst} {p id off len : Nat} (hin : s.net.resps.contains r = true)
    (hout : s.findOut r.src r.sport r.tag r.gen = some o) (hwho : o.who = .bar2 p id off len) (hcrc : r.crcOk = true) :
    exec (.bar2Response r) s = .next ((State.retire (s.takeResp r) o).bar2Resp p id off o.req r.svc r.data) := by
  refine congrArg Host.Outcome.next ((if_pos (by simp only [hin, State.respFor, hout, hwho, Bool.and_self])).trans ?_)
  simp only [State.arrive_outstanding hout hcrc, hwho]

section
variable {p : Die} {s : State} {t : Tlp} {x : Nat × Nat × List Byte} {rest : List (Nat × Nat × List Byte)}
  (hfind : (s.port p).tlps.find? (fun t => !t.retry.isEmpty) = some t) (hretry : t.retry = x :: rest)
include hfind hretry

theorem exec_bar2Reissue_expired :
    exec (.bar2Reissue p true) s = .next ((s.bar2Fail p { t with retry := rest } svcBusy).bar2Go p) := by
  refine congrArg Host.Outcome.next ?_
  simp only [hfind, hretry, if_true]

theorem exec_bar2Reissue_sent {u : State} (hsend : s.bar2Send p t x = (u, some 0)) :
    exec (.bar2Reissue p false) s = .next (u.setTlp p { t with retry := rest, left := t.left + 1 }) := by
  refine congrArg Host.Outcome.next ?_
  simp only [hfind, hretry, Bool.false_eq_true, if_false, hsend]

end

/-- Settles O53: a request of the window is answered at once where nothing serves it, and else becomes requests of its port. -/
theorem hostWindow : Obligations.HostWindow := by
  unfold Obligations.HostWindow
  refine ⟨?map, ?mapOther, fun p off n s hlink hstays hpage hnot => exec_bar2Memrd_unsupported hlink hstays hpage hnot,
    fun p off n s hlink hstays hpage hd3 hmode hmap => exec_bar2Memrd_mapped hlink hstays hpage hd3 hmode hmap,
    fun p off data s hlink hstays hsome hlen hpage hd3 hmode hmap => exec_bar2Memwr_mapped hlink hstays hsome hlen hpage hd3 hmode hmap,
    fun p off data s hlink hstays hsome hlen hpage hd3 hmode hmap => exec_bar2Memwr_unmapped hlink hstays hsome hlen hpage hd3 hmode hmap,
    fun p off data s hlink hstays hsome hlen hpage hnot => exec_bar2Memwr_unsupported hlink hstays hsome hlen hpage hnot,
    fun s p svc a w hp hvalid => State.bar2Error_recorded svc a w hp hvalid,
    fun r s o p id off len hin hout hwho hcrc => exec_bar2Response_outstanding hin hout hwho hcrc,
    fun p s t x rest hfind hretry => exec_bar2Reissue_expired hfind hretry,
    fun p s u t x rest hfind hretry hsend => exec_bar2Reissue_sent hfind hretry hsend⟩
  case map =>
    intro p m s q seg en base h hq hseg hen hbase howner
    subst hq hseg hen hbase
    exact exec_bar2Map_owner h howner
  case mapOther =>
    intro p m s q h hq howner
    subst hq
    exact exec_bar2Map_other h howner

end Sys2Proof.Machine

/-! SUPPORT. Relay (20 R466–R469; 21 R490, R491): command, reply and route frames, routes and their exchange. -/

namespace Sys2Proof.Machine

/-! ### Frames (R467, R469) -/

section
variable {s : State} {l kind : Nat} {b : List Byte} (act : State → State) (hactive : s.sysActive l = true)
include hactive

/-- A frame that keeps its layout acts while Maltar runs. -/
theorem State.relayFrame_taken (hrun : s.maltarRuns = true) (hok : relayOk kind b = true) : s.relayFrame l kind b act = act s := by
  simp [State.relayFrame, hactive, hok, hrun]

theorem State.relayFrame_broken (hbad : relayOk kind b = false) : s.relayFrame l kind b act = s.lnCount F.lnRxCounts_bad l 1 := by
  simp [State.relayFrame, hactive, hbad]

end

section
variable {l : Lane} {b : List Byte} {s : State} (hactive : s.sysActive l = true) (hrun : s.maltarRuns = true)
include hactive hrun

section
variable (hok : relayOk 0 b = true)
include hok

theorem exec_relayCommand_taken : exec (.relayCommand l b) s = .next (s.relayArrive l b) :=
  congrArg Host.Outcome.next (State.relayFrame_taken _ hactive hrun hok)

theorem exec_relayCommand_here (hdev : leAt b 12 8 = deviceId) : exec (.relayCommand l b) s = .next (s.relayExecute l b) := by
  rw [exec_relayCommand_taken hactive hrun hok, State.relayArrive, if_pos hdev]

section
variable (hdev : leAt b 12 8 ≠ deviceId)
include hdev

theorem exec_relayCommand_tooFar (hhops : 63 ≤ leAt b 2 1) : exec (.relayCommand l b) s = .next (s.relayRefuse l 0x31 b) := by
  rw [exec_relayCommand_taken hactive hrun hok, State.relayArrive, if_neg hdev, if_pos hhops]

theorem exec_relayCommand_noRoute (hhops : leAt b 2 1 < 63) (hlane : s.relayLane (leAt b 12 8) = none) :
    exec (.relayCommand l b) s = .next (s.relayRefuse l 0x30 b) := by
  rw [exec_relayCommand_taken hactive hrun hok, State.relayArrive, if_neg hdev, if_neg hhops.not_ge, hlane]

theorem exec_relayCommand_forwarded {out : Nat} (hhops : leAt b 2 1 < 63) (hlane : s.relayLane (leAt b 12 8) = some out) :
    ∃ t, exec (.relayCommand l b) s = .next t ∧ (leAt b 20 2, leAt b 4 8, l.val) ∈ t.hosts.reverse ∧ t.hosts.relayOut = s.hosts.relayOut ++
      [⟨out, 0, leAt b 2 1 + 1, leAt b 3 1, leAt b 4 8, leAt b 12 8, leAt b 20 2, b.drop 24⟩] ∧ t.hosts.ports = s.hosts.ports ∧ t.regs = s.regs := by
  rw [exec_relayCommand_taken hactive hrun hok, State.relayArrive, if_neg hdev, if_neg hhops.not_ge, hlane]
  exact ⟨_, rfl, List.mem_append_right _ (List.mem_singleton.mpr rfl), rfl, rfl, rfl⟩

end
end

section
variable (hok : relayOk 1 b = true) (horigin : leAt b 4 8 = deviceId)
include hok horigin

theorem exec_relayReply_waited {w : RelayWait} (hwait : s.hosts.waits.find? (fun w => w.rtag = leAt b 20 2) = some w)
    (hrunning : (s.mbox w.port w.mbox).state = 2) :
    exec (.relayReply l b) s = .next (State.replyWith { s with hosts.waits := s.hosts.waits.filter (fun w => w.rtag ≠ leAt b 20 2) } w.port w.mbox
      (leAt b 24 1) (leAt b 25 1) (leAt b 36 4) (b.drop 40)) := by
  refine congrArg Host.Outcome.next ((State.relayFrame_taken _ hactive hrun hok).trans ((if_pos horigin).trans ?_))
  simp only [hwait]
  exact if_pos hrunning

theorem exec_relayReply_unawaited (hnone : s.hosts.waits.find? (fun w => w.rtag = leAt b 20 2) = none) : exec (.relayReply l b) s = .next s := by
  refine congrArg Host.Outcome.next ((State.relayFrame_taken _ hactive hrun hok).trans ((if_pos horigin).trans ?_))
  simp only [hnone]

end

theorem exec_relayRoute_neighbor (hok : relayOk 2 b = true) (hpresent : s.slPresent l = true) :
    exec (.relayRoute l b) s = .next (s.relayLearn l b) :=
  congrArg Host.Outcome.next ((State.relayFrame_taken _ hactive hrun hok).trans (if_pos hpresent))

end

/-! ### Routes (R466, R467) -/

/-- A device known through another lane: a shorter route replaces the known one. -/
theorem takeRoute_otherLane {routes : List RelayRoute} {l dev hops : Nat} {r : RelayRoute} (hdev : dev ≠ deviceId)
    (hknown : routes.find? (fun r => r.dev = dev) = some r) (hlane : r.lane ≠ l) :
    takeRoute routes l dev hops = if hops < r.hops then routes.filter (fun r => r.dev ≠ dev) ++ [⟨dev, hops, l, 0⟩] else routes := by
  simp only [takeRoute, if_neg hdev, hknown, if_neg hlane]

/-- What forming the views again leaves as it was. -/
def State.viewFrame (s : State) : List RelayWait × List RelayRoute × Load × List Instr := (s.hosts.waits, s.hosts.routes, s.ld, s.pending)

theorem State.queuePort_viewFrame (s : State) (p : Nat) (e : EvRec) : (s.queuePort p e).viewFrame = s.viewFrame := by
  unfold State.queuePort
  split <;> rfl

theorem State.setPort_viewFrame (s : State) (p : Nat) (x : HostPort) : (s.setPort p x).viewFrame = s.viewFrame := (rfl)

theorem State.viewUpdate_viewFrame (s : State) : s.viewUpdate.viewFrame = s.viewFrame := by
  unfold State.viewUpdate
  refine iter_keeps State.viewFrame 5 _ (fun p u => ?_) s
  dsimp only
  exact (foldl_keeps State.viewFrame _ (fun v e => v.queuePort_viewFrame _ _) _ _).trans (u.setPort_viewFrame _ _)

/-- The frames that wait to leave are of no part of the frame. -/
theorem State.relayOut_viewFrame (s : State) (l : List RelayFrame) : ({ s with hosts.relayOut := l } : State).viewFrame = s.viewFrame := (rfl)

theorem exec_routeExchange_ages {s : State} (hrun : s.maltarRuns = true) :
    ∃ t, exec .routeExchange s = .next t ∧ t.hosts.waits = s.hosts.waits ∧ t.ld = s.ld ∧ t.pending = s.pending ∧
    t.hosts.routes = (s.hosts.routes.map (fun (r : RelayRoute) => { r with age := r.age + 1 })).filter (fun r => decide (r.age ≤ 3)) := by
  refine ⟨_, congrArg Host.Outcome.next (if_neg (by simp [hrun])), ?_⟩
  have hsend (l : Nat) (u : State) :
      (if u.sysActive l = true ∧ u.slPresent l = true then { u with hosts.relayOut := u.hosts.relayOut ++ u.routeFrames l } else u).viewFrame =
        u.viewFrame := by
    split
    · exact u.relayOut_viewFrame _
    · rfl
  have hframe := (iter_keeps State.viewFrame 192 _ hsend _).trans (State.viewUpdate_viewFrame { s with
    hosts.routes := (s.hosts.routes.map (fun (r : RelayRoute) => { r with age := r.age + 1 })).filter (fun r => decide (r.age ≤ 3)) })
  simp only [State.viewFrame, Prod.mk.injEq] at hframe
  obtain ⟨hwaits, hroutes, hld, hpending⟩ := hframe
  exact ⟨hwaits, hld, hpending, hroutes⟩

/-! ### Commands and timeouts (R467, R490) -/

theorem exec_relayTimeout_runs {rtag : Word16} {s : State} {w : RelayWait} (hwait : s.hosts.waits.find? (fun w => w.rtag = rtag.toNat) = some w)
    (hrun : s.maltarRuns = true) : exec (.relayTimeout rtag) s = .next (State.replyWaiting
      { s with hosts.waits := s.hosts.waits.filter (fun w => w.rtag ≠ rtag.toNat) } w.port w.mbox 0x30 []) := by
  refine congrArg Host.Outcome.next ?_
  simp only [hwait]
  exact if_pos hrun

theorem State.taken_port_view (s : State) (p m : Nat) : ((s.taken p m).port p).view = (s.port p).view := by
  have hrunning : ({ s.mbox p m with state := 2 } : Mailbox) ≠ Mailbox.init := Mailbox.ne_init_of_state (Nat.succ_ne_zero 1)
  have hport := State.port_setMbox { s with hosts.rr := p } p m hrunning
  rw [State.taken, hport]
  rfl

@[simp] theorem State.taken_trusted (s : State) (p m id : Nat) : (s.taken p m).trusted id = s.trusted id := (rfl)
@[simp] theorem State.taken_routes (s : State) (p m : Nat) : (s.taken p m).hosts.routes = s.hosts.routes := (rfl)
@[simp] theorem State.taken_routeOrder (s : State) (p m : Nat) : (s.taken p m).routeOrder = s.routeOrder := (rfl)

/-- A mailbox command of this device speaks of its own port. -/
theorem State.ctxHost_port (s u : State) (p : Port) (m : Nat) : u.ctxHost (s.ctxOf p m) = p :=
  if_neg (Nat.ne_of_lt p.isLt)

section
variable {p : Port} {m : Mbox} {s : State}

theorem exec_relayView_ready {l : List (Nat × Nat)} (h : s.ready p m 0x900) (hl : ((s.port p).view.drop (48 * s.arg p m 0 1)).take 48 = l) :
    exec (.relayView p m) s = .next ((s.taken p m).reply p m 0 (leBytes 1 l.length ++ leBytes 7 0 ++
      l.flatMap (fun (e : Nat × Nat) => leBytes 8 e.1 ++ leBytes 1 e.2 ++ leBytes 1 (b2n (s.trusted e.1))))) := by
  refine congrArg Host.Outcome.next ((takeMailbox_ready 0x900 cmdRelayView p m s h).trans ?_)
  simp only [cmdRelayView, State.ctxHost_port, State.ctxOf_num, State.taken_port_view, State.taken_trusted, hl, State.answer, State.ctxOf_port,
    State.ctxOf_mbox]

theorem exec_relayRoutes_ready {l : List RelayRoute} (h : s.ready p m 0x901) (hl : (s.routeOrder.drop (s.arg p m 0 2)).take 48 = l) :
    exec (.relayRoutes p m) s = .next ((s.taken p m).reply p m 0 (leBytes 2 s.hosts.routes.length ++ leBytes 1 l.length ++ leBytes 5 0 ++
      l.flatMap (fun (r : RelayRoute) => leBytes 8 r.dev ++ leBytes 1 r.hops ++ leBytes 1 r.lane))) := by
  refine congrArg Host.Outcome.next ((takeMailbox_ready 0x901 cmdRelayRoutes p m s h).trans ?_)
  simp only [cmdRelayRoutes, State.ctxOf_num, State.taken_routeOrder, State.taken_routes, hl, State.answer, State.ctxOf_port, State.ctxOf_mbox]

end

/-- Settles O54: a frame that keeps its layout is executed, forwarded or refused by its device and its hops; routes age and are replaced by shorter
ones. -/
theorem relay : Obligations.Relay := by
  unfold Obligations.Relay
  exact ⟨fun l b s hactive hrun hok hdev => exec_relayCommand_here hactive hrun hok hdev,
    fun l b s hactive hrun hok hdev hhops => exec_relayCommand_tooFar hactive hrun hok hdev hhops,
    fun l b s hactive hrun hok hdev hhops hlane => exec_relayCommand_noRoute hactive hrun hok hdev hhops hlane,
    fun l b s out hactive hrun hok hdev hhops hlane => exec_relayCommand_forwarded hactive hrun hok hdev hhops hlane,
    fun l b s w hactive hrun hok horigin hwait hrunning => exec_relayReply_waited hactive hrun hok horigin hwait hrunning,
    fun l b s hactive hrun hok horigin hnone => exec_relayReply_unawaited hactive hrun hok horigin hnone,
    fun l b s hactive hrun hok hpresent => exec_relayRoute_neighbor hactive hrun hok hpresent,
    fun l b s hactive hbad => congrArg Host.Outcome.next (State.relayFrame_broken _ hactive hbad),
    fun routes l dev hops r hdev hknown hlane => takeRoute_otherLane hdev hknown hlane, fun s hrun => exec_routeExchange_ages hrun,
    fun rtag s w hwait hrun => exec_relayTimeout_runs hwait hrun, fun p m s l h hl => exec_relayView_ready h hl,
    fun p m s l h hl => exec_relayRoutes_ready h hl⟩

end Sys2Proof.Machine

/-! SUPPORT. Timekeepers (18 R411, R413–R420, R426, R431, R432; 21 R485): writes of TK_CTL, a staged correction at its tick, alarms, PPS, the copies of
the quads, and the commands of group 0x05. -/

namespace Sys2Proof.Machine

/-! ### Writes of TK_CTL (R417, R431, R432) -/

theorem State.writeReg_tkCtl {s : State} (q : Rq) {n v : Nat} (hok : Rg.tkCtl.okWrite v = true) :
    s.writeReg q .tkCtl 0 n v = s.writeTkCtl n v q.tenant (q.mclass = 4) := by
  rw [State.writeReg, hok]
  rfl

/-- Each row of TK_CTL is the write of the whole register. -/
theorem regRow_tkCtl {r : Req} {s : State} {n v : Nat} {p : Rg → Nat → Bool} (h : s.grantsWrite r .tkCtl 0 n v) (hp : p .tkCtl v = true) :
    regRow .write p r s = .next (State.respond ((s.takeReq r).writeTkCtl n v r.rq.tenant (r.rq.mclass = 4)) r svcOK []) := by
  rw [regRow_granted .tkCtl 0 n v p r s h hp, State.writeReg_tkCtl _ h.2.2.2.2.2.2.2.2]

section
variable {s : State} {n v : Nat} (tenant : Nat) (ref : Bool)

/-- A GO bit while a correction is pending leaves TK_CTL as it was. -/
theorem State.writeTkCtl_pending (hgo : bits v 29 27 = 1 ∨ bits v 29 27 = 2 ∨ bits v 29 27 = 4) (hpending : s.flag F.tkStatus_pending 0 n = true) :
    s.writeTkCtl n v tenant ref = s :=
  (if_neg (by omega)).trans (if_pos ⟨by omega, hpending⟩)

/-- More than one GO bit is a reserved encoding. -/
theorem State.writeTkCtl_reserved (hgo : bits v 29 27 = 3 ∨ 4 < bits v 29 27) : s.writeTkCtl n v tenant ref = s :=
  if_pos (by omega)

theorem State.writeTkCtl_snap (hgo : bits v 29 27 = 0) (henable : bitAt v 31 = true) (harm : bitAt v 30 = false) (hsnap : bitAt v 26 = true) :
    s.writeTkCtl n v tenant ref = (s.setReg .tkCtl 0 n (Rg.tkCtl.written (s.reg .tkCtl 0 n) v)).snap n := by
  simp only [State.writeTkCtl, hgo, henable, harm, hsnap, ne_eq, not_true_eq_false, false_and, true_or, Bool.not_true, Bool.false_eq_true, if_false,
    if_true]

theorem State.writeTkCtl_set (hgo : bits v 29 27 = 4) (hn : n ≠ 0) (henable : bitAt v 31 = true) (hsnap : bitAt v 26 = false)
    (hidle : s.flag F.tkStatus_pending 0 n = false) : s.writeTkCtl n v tenant ref =
      State.stageCorr (s.setReg .tkCtl 0 n (Rg.tkCtl.written (s.reg .tkCtl 0 n) v)) n (State.goCorr (s.setReg .tkCtl 0 n
        (Rg.tkCtl.written (s.reg .tkCtl 0 n) v)) n 4) none := by
  simp only [State.writeTkCtl, hgo, hn, henable, hsnap, hidle, ne_eq, not_true_eq_false, and_false, false_and, Bool.not_true, Bool.false_eq_true,
    OfNat.ofNat_ne_zero, or_self, if_false]

end

/-! ### A staged correction at its tick (R416, R417, R426) -/

section
variable {n : Tk} {s u : State} {c : Corr}

theorem exec_correctionApply_none (h : (s.keeper n).pend = none) : exec (.correctionApply n) s = .next s := by
  refine congrArg Host.Outcome.next ?_
  simp only [State.corrTick, h]

section
variable (hpend : (s.keeper n).pend = some c)
  (hu : (s.setKeeper n { s.keeper n with pend := none, cmd := none }).setF F.tkStatus_pending 0 n 0 = u)
include hpend hu

theorem exec_correctionApply_accepted (hcmd : (s.keeper n).cmd = none) (hfault : u.corrFault n c = none) :
    exec (.correctionApply n) s = .next (u.applyCorr n c) := by
  refine congrArg Host.Outcome.next ?_
  simp only [State.corrTick, hpend, hu, hfault, hcmd]

theorem exec_correctionApply_refused {k : Nat} (hcmd : (s.keeper n).cmd = none) (hfault : u.corrFault n c = some k) :
    exec (.correctionApply n) s = .next ((u.refuseCorr n k).servoRetry n c none) := by
  refine congrArg Host.Outcome.next ?_
  simp only [State.corrTick, hpend, hu, hfault, hcmd]

end
end

/-- The servo alone tries again: TK0, a rate, no command that waits, SYSTEMLINK, and Maltar running. -/
theorem State.servoRetry_not {s : State} {n : Nat} {c : Corr} {cmd : Option (Nat × Nat)} (h : n ≠ 0 ∨ cmd.isSome = true ∨
    s.flag F.timeCtl_source 0 0 = false ∨ s.maltarRuns = false ∨ (∀ m, c ≠ .rate m)) : s.servoRetry n c cmd = s := by
  cases c with
  | set sec ns frac => rfl
  | adj o => rfl
  | rate m =>
    refine if_neg (fun ⟨hn, hcmd, hsource, hrun, _⟩ => ?_)
    rcases h with h | h | h | h | h
    · exact h hn
    · rw [Option.isNone_iff_eq_none] at hcmd
      simp [hcmd] at h
    · simp [h] at hsource
    · simp [h] at hrun
    · exact h m rfl

theorem State.servoRetry_half {s : State} {m : Nat} (hsource : s.flag F.timeCtl_source 0 0 = true) (hrun : s.maltarRuns = true)
    (hm : s.incrNow 0 + 2 ≤ m) : s.servoRetry 0 (.rate m) none = s.stageCorr 0 (.rate (s.incrNow 0 + (m - s.incrNow 0) / 2)) none := by
  have hhalf : ((m : Int) - s.incrNow 0).tdiv 2 = ((m - s.incrNow 0) / 2 : Nat) := by
    rw [Int.tdiv_eq_ediv_of_nonneg (by omega)]
    omega
  have hsum : ((s.incrNow 0 : Int) + ((m - s.incrNow 0) / 2 : Nat)).toNat = s.incrNow 0 + (m - s.incrNow 0) / 2 := by omega
  have hsome : ((m - s.incrNow 0) / 2 : Nat) ≠ (0 : Int) := by omega
  simp only [State.servoRetry, hhalf, hsum, hsource, hrun, hsome, Option.isNone_none, ne_eq, not_false_eq_true, and_self, if_true]

/-- A refused correction of a command changes nothing more than its fault; the command receives TIME_REFUSED. -/
theorem exec_correctionApply_command {n : Tk} {s u : State} {c : Corr} {k p m : Nat} (hpend : (s.keeper n).pend = some c)
    (hcmd : (s.keeper n).cmd = some (p, m)) (hu : (s.setKeeper n { s.keeper n with pend := none, cmd := none }).setF F.tkStatus_pending 0 n 0 = u)
    (hfault : u.corrFault n c = some k) : exec (.correctionApply n) s = .next ((u.refuseCorr n k).replyWaiting p m 0x17 []) := by
  refine congrArg Host.Outcome.next ?_
  simp only [State.corrTick, hpend, hu, hfault, hcmd, State.servoRetry_not (.inr (.inl (Option.isSome_some))), Option.isNone_some, Bool.false_eq_true,
    if_false]

/-! ### Alarms, PPS and captures (R418–R420) -/

section
variable {n : Tk} {s : State} (hdue : s.alarmDue n = true) (hoff : s.flag F.tkCtl_alarmEn 0 n = false)
include hdue hoff

/-- An alarm that fires without raising an event changes its keeper alone. -/
theorem exec_alarmFire_silent : exec (.alarmFire n) s = .next (s.setKeeper n
    (if s.alarmPeriod n = 0 then { s.keeper n with fired := true } else { s.keeper n with next := (s.keeper n).next + s.alarmPeriod n })) := by
  have hoff' (k : Keeper) : ¬ (s.setKeeper n k).flag F.tkCtl_alarmEn 0 n = true := fun h => Bool.false_ne_true (hoff.symm.trans h)
  exact congrArg Host.Outcome.next ((if_pos hdue).trans (if_neg (hoff' _)))

theorem exec_alarmFire_once (hperiod : s.alarmPeriod n = 0) : exec (.alarmFire n) s = .next (s.setKeeper n { s.keeper n with fired := true }) := by
  rw [exec_alarmFire_silent hdue hoff, if_pos hperiod]

theorem exec_alarmFire_again (hperiod : s.alarmPeriod n ≠ 0) :
    exec (.alarmFire n) s = .next (s.setKeeper n { s.keeper n with next := (s.keeper n).next + s.alarmPeriod n }) := by
  rw [exec_alarmFire_silent hdue hoff, if_neg hperiod]

end

theorem State.capture_overrun {s : State} {n : Nat} (henable : s.flag F.tkCtl_enable 0 n = true) (hvalid : s.flag F.tkCapCtl_valid 0 n = true) :
    s.capture n = s.setF F.tkCapCtl_overrun 0 n 1 := by
  simp [State.capture, henable, hvalid]

/-! ### The copies of the quads (R411) -/

/-- A quad on a die in reach takes the bank's time again. -/
def State.realignQuad (q : Nat) (s : State) : State :=
  if s.ctrlUp (q / 12) then { s with tmr.copies := tput none s.tmr.copies q none } else s

theorem State.realign_eq (s : State) : s.realign = iter 48 State.realignQuad s := (rfl)

/-- What a realignment leaves as it was. -/
def State.copyFrame (s : State) : Tbl Word32 × Tbl Keeper × (Nat → Bool) := (s.regs, s.tmr.tks, s.ctrlUp)

theorem State.realignQuad_copyFrame (q : Nat) (s : State) : (s.realignQuad q).copyFrame = s.copyFrame := by
  unfold State.realignQuad
  split <;> rfl

theorem State.realignQuad_copies (q : Nat) (s : State) :
    (s.realignQuad q).tmr.copies = if s.ctrlUp (q / 12) then tput none s.tmr.copies q none else s.tmr.copies := by
  unfold State.realignQuad
  split <;> rfl

theorem State.realignQuad_wf {s : State} (q : Nat) (w : Tbl.wf (fun _ => none) s.tmr.copies = true) :
    Tbl.wf (fun _ => none) (s.realignQuad q).tmr.copies = true := by
  rw [State.realignQuad_copies]
  split
  · exact Tbl.wf_tput (fun _ => none) _ q none w
  · exact w

/-- A quad without a copy of its own gets none from the others. -/
theorem State.realignQuad_none {s : State} {q : Nat} (i : Nat) (w : Tbl.wf (fun _ => none) s.tmr.copies = true) (h : tget none s.tmr.copies q = none) :
    tget none (s.realignQuad i).tmr.copies q = none := by
  rw [State.realignQuad_copies]
  split
  · by_cases hi : q = i
    · subst hi
      exact tget_tput_same (fun _ => none) _ q none w
    · exact (tget_tput_other (fun _ => none) _ _ _ _ _ _ hi w).trans h
  · exact h

theorem State.realignQuad_self {s : State} {q : Nat} (hup : s.ctrlUp (q / 12) = true) (w : Tbl.wf (fun _ => none) s.tmr.copies = true) :
    tget none (s.realignQuad q).tmr.copies q = none := by
  rw [State.realignQuad_copies, if_pos hup]
  exact tget_tput_same (fun _ => none) _ q none w

theorem State.realignQuads_none {q : Nat} (l : List Nat) {s : State} (w : Tbl.wf (fun _ => none) s.tmr.copies = true)
    (h : tget none s.tmr.copies q = none) : tget none (l.foldl (fun s i => s.realignQuad i) s).tmr.copies q = none := by
  induction l generalizing s with
  | nil => exact h
  | cons i l ih => exact ih (s.realignQuad_wf i w) (s.realignQuad_none i w h)

theorem State.realignQuads_mem {q : Nat} {l : List Nat} (hq : q ∈ l) {s : State} (hup : s.ctrlUp (q / 12) = true)
    (w : Tbl.wf (fun _ => none) s.tmr.copies = true) : tget none (l.foldl (fun s i => s.realignQuad i) s).tmr.copies q = none := by
  induction l generalizing s with
  | nil => exact absurd hq List.not_mem_nil
  | cons i l ih =>
    rcases List.mem_cons.mp hq with rfl | hq
    · exact State.realignQuads_none l (s.realignQuad_wf _ w) (s.realignQuad_self hup w)
    · have hframe := congrArg (fun f => f.2.2 (q / 12)) (s.realignQuad_copyFrame i)
      exact ih hq (hframe.trans hup) (s.realignQuad_wf i w)

theorem exec_quadCopyRealign_reached {s : State} {q : Nat} (hq : q < 48) (hup : s.ctrlUp (q / 12) = true)
    (w : Tbl.wf (fun _ => none) s.tmr.copies = true) :
    ∃ t, exec .quadCopyRealign s = .next t ∧ tget none t.tmr.copies q = none ∧ t.regs = s.regs ∧ t.tmr.tks = s.tmr.tks := by
  have hframe := iter_keeps State.copyFrame 48 State.realignQuad State.realignQuad_copyFrame s
  exact ⟨_, congrArg Host.Outcome.next s.realign_eq, State.realignQuads_mem (List.mem_range.mpr hq) hup w, congrArg Prod.fst hframe,
    congrArg (fun f => f.2.1) hframe⟩

/-! ### Commands (R485) -/

@[simp] theorem State.taken_flag (s : State) (p m : Nat) (f : FRef) (i j : Nat) : (s.taken p m).flag f i j = s.flag f i j := (rfl)
@[simp] theorem State.taken_keeper (s : State) (p m n : Nat) : (s.taken p m).keeper n = s.keeper n := (rfl)
@[simp] theorem State.taken_incrNow (s : State) (p m n : Nat) : (s.taken p m).incrNow n = s.incrNow n := (rfl)

section
variable {p : Port} {m : Mbox} {s : State} {n : Nat}

section
variable (h : s.ready p m 0x500) (hn : s.arg p m 0 1 = n)
include h hn

theorem exec_timeGet_reader (hmay : n = 0 ∨ s.portTenant p = n ∨ s.portTenant p = 0) : exec (.timeGet p m) s = .next ((s.taken p m).reply p m 0
    (timeBytes (s.keeper n).val ++ leBytes 8 (s.incrNow n) ++ leBytes 4 (s.reg .tkStatus 0 n))) := by
  have hnot : ¬ (n ≠ 0 ∧ s.portTenant p ≠ n ∧ s.portTenant p ≠ 0) := by omega
  refine congrArg Host.Outcome.next ((takeMailbox_ready 0x500 cmdTimeGet p m s h).trans ?_)
  simp only [cmdTimeGet, State.ctxOf_num, State.ctxOf_tenant, hn, if_neg hnot, State.taken_keeper, State.taken_incrNow, State.taken_reg, State.answer,
    State.ctxOf_port, State.ctxOf_mbox]

theorem exec_timeGet_other (hn0 : n ≠ 0) (howner : s.portTenant p ≠ n) (ht0 : s.portTenant p ≠ 0) :
    exec (.timeGet p m) s = .next ((s.taken p m).reply p m 0x12 []) := by
  refine congrArg Host.Outcome.next ((takeMailbox_ready 0x500 cmdTimeGet p m s h).trans ?_)
  simp [cmdTimeGet, hn, hn0, howner, ht0, refuse, State.answer]

end

/-- A correction of the owner's timekeeper is staged, and its command waits for it (R417). -/
theorem corrCmd_staged (k : Corr) (howner : n = s.portTenant p) (hsource : n = 0 → s.flag F.timeCtl_source 0 0 = false)
    (hidle : s.flag F.tkStatus_pending 0 n = false) :
    corrCmd n k (s.ctxOf p m) (s.taken p m) = ((s.taken p m).stageCorr n k (some (p.val, m.val)), .wait) := by
  have hnot : ¬ (n = 0 ∧ s.flag F.timeCtl_source 0 0 = true) := fun ⟨hn, hlink⟩ => by simp [hsource hn] at hlink
  simp only [corrCmd, State.ctxOf_tenant, ← howner, State.taken_flag, if_neg hnot, hidle, ne_eq, not_true_eq_false, Bool.false_eq_true, if_false,
    State.ctxOf_port, State.ctxOf_mbox]

section
variable (hn : s.arg p m 0 1 = n) (howner : n = s.portTenant p) (hsource : n = 0 → s.flag F.timeCtl_source 0 0 = false)
  (hidle : s.flag F.tkStatus_pending 0 n = false)
include hn howner hsource hidle

theorem exec_timeSet_staged (h : s.ready p m 0x501) :
    exec (.timeSet p m) s = .next ((s.taken p m).stageCorr n (.set (s.arg p m 4 6) (s.arg p m 10 4) (s.arg p m 14 2)) (some (p.val, m.val))) := by
  refine congrArg Host.Outcome.next ((takeMailbox_ready 0x501 cmdTimeSet p m s h).trans ?_)
  simp only [cmdTimeSet, State.ctxOf_num, hn, corrCmd_staged _ howner hsource hidle, State.answer]

theorem exec_timeAdjust_staged (h : s.ready p m 0x502) :
    exec (.timeAdjust p m) s = .next ((s.taken p m).stageCorr n (.adj (sgn 64 (s.arg p m 8 8))) (some (p.val, m.val))) := by
  refine congrArg Host.Outcome.next ((takeMailbox_ready 0x502 cmdTimeAdjust p m s h).trans ?_)
  simp only [cmdTimeAdjust, State.ctxOf_num, hn, corrCmd_staged _ howner hsource hidle, State.answer]

theorem exec_timeRate_staged (h : s.ready p m 0x503) :
    exec (.timeRate p m) s = .next ((s.taken p m).stageCorr n (.rate (s.arg p m 8 5)) (some (p.val, m.val))) := by
  refine congrArg Host.Outcome.next ((takeMailbox_ready 0x503 cmdTimeRate p m s h).trans ?_)
  simp only [cmdTimeRate, State.ctxOf_num, hn, corrCmd_staged _ howner hsource hidle, State.answer]

end

/-- Systemlink sets TK0: a command that would is BUSY (R414). -/
theorem exec_timeSet_systemlink (h : s.ready p m 0x501) (hn : s.arg p m 0 1 = 0) (howner : s.portTenant p = 0)
    (hsource : s.flag F.timeCtl_source 0 0 = true) : exec (.timeSet p m) s = .next ((s.taken p m).reply p m 0x15 []) := by
  refine congrArg Host.Outcome.next ((takeMailbox_ready 0x501 cmdTimeSet p m s h).trans ?_)
  simp [cmdTimeSet, corrCmd, hn, howner, hsource, refuse, State.answer]

theorem exec_timeArm_owner (h : s.ready p m 0x504) (howner : s.portTenant p = 0) :
    exec (.timeArm p m) s = .next ((s.taken p m).armTk0.reply p m 0 []) := by
  refine congrArg Host.Outcome.next ((takeMailbox_ready 0x504 cmdTimeArm p m s h).trans ?_)
  simp [cmdTimeArm, howner, State.answer]

theorem exec_timeArm_other (h : s.ready p m 0x504) (howner : s.portTenant p ≠ 0) :
    exec (.timeArm p m) s = .next ((s.taken p m).reply p m 0x12 []) := by
  refine congrArg Host.Outcome.next ((takeMailbox_ready 0x504 cmdTimeArm p m s h).trans ?_)
  simp [cmdTimeArm, howner, refuse, State.answer]

theorem exec_timeClear_owner (h : s.ready p m 0x505) (hn : s.arg p m 0 1 = n) (howner : s.portTenant p = n) :
    exec (.timeClear p m) s = .next (((s.taken p m).setF F.tkStatus_timeFault 0 n 0).reply p m 0 []) := by
  refine congrArg Host.Outcome.next ((takeMailbox_ready 0x505 cmdTimeClear p m s h).trans ?_)
  simp [cmdTimeClear, hn, howner, State.answer]

theorem exec_timeAlarm_owner {t u v : State} (h : s.ready p m 0x506) (hn : s.arg p m 0 1 = n) (howner : s.portTenant p = n)
    (ht : ((s.taken p m).setF F.tkCtl_alarmEn 0 n (s.arg p m 1 1)).setF F.tkCtl_alarmEv 0 n (s.arg p m 2 1) = t)
    (hu : (t.setReg .tkAlarmSecLo 0 n (s.arg p m 4 4)).setF F.tkAlarmSecHi_seconds 0 n (s.arg p m 8 2) = u)
    (hv : (u.setReg .tkAlarmNs 0 n (s.arg p m 10 4)).setReg .tkAlarmPeriod 0 n (s.arg p m 16 4) = v) :
    exec (.timeAlarm p m) s = .next ((v.alarmSet n).reply p m 0 []) := by
  refine congrArg Host.Outcome.next ((takeMailbox_ready 0x506 cmdTimeAlarm p m s h).trans ?_)
  simp only [cmdTimeAlarm, State.ctxOf_num, State.ctxOf_tenant, hn, howner, ht, hu, hv, ne_eq, not_true_eq_false, if_false, State.answer,
    State.ctxOf_port, State.ctxOf_mbox]

theorem exec_timeCapture_owner {hi : Nat} (h : s.ready p m 0x507) (hn : s.arg p m 0 1 = n) (howner : s.portTenant p = n) (hclear : s.arg p m 3 1 = 0)
    (hhi : s.reg .tkCapSecHi 0 n = hi) :
    exec (.timeCapture p m) s = .next (State.reply (((s.taken p m).setF F.tkCapCtl_capSrc 0 n (s.arg p m 1 1)).setF F.tkCtl_capEv 0 n
      (s.arg p m 2 1)) p m 0 (leBytes 4 (s.reg .tkCapSecLo 0 n) ++ leBytes 2 hi ++ leBytes 4 (s.reg .tkCapNs 0 n) ++ leBytes 2 (hi / 65536) ++
        leBytes 1 (s.getF F.tkCapCtl_valid 0 n + 2 * s.getF F.tkCapCtl_overrun 0 n))) := by
  refine congrArg Host.Outcome.next ((takeMailbox_ready 0x507 cmdTimeCapture p m s h).trans ?_)
  simp only [cmdTimeCapture, State.ctxOf_num, State.ctxOf_tenant, hn, howner, hclear, State.taken_reg, State.taken_getF, hhi, ne_eq, not_true_eq_false,
    if_false, zero_ne_one, State.answer, State.ctxOf_port, State.ctxOf_mbox]

theorem exec_timePps_owner (h : s.ready p m 0x508) (howner : s.portTenant p = 0) :
    exec (.timePps p m) s = .next (State.reply (((((s.taken p m).setF F.timeCtl_ppsEn 0 0 (s.arg p m 0 1)).setF F.timeCtl_ppsValidOnly 0 0
      (s.arg p m 1 1)).setReg .ppsOffset 0 0 (s.arg p m 4 4)).setReg .ppsWidth 0 0 (s.arg p m 8 4)) p m 0 []) := by
  refine congrArg Host.Outcome.next ((takeMailbox_ready 0x508 cmdTimePps p m s h).trans ?_)
  simp [cmdTimePps, howner, State.answer]

theorem exec_timeSource_owner (h : s.ready p m 0x509) (howner : s.portTenant p = 0) :
    exec (.timeSource p m) s = .next (State.reply (State.sourceSet (((s.taken p m).setF F.timeCtl_source 0 0 (s.arg p m 0 1)).setF
      F.timeCtl_timePrio 0 0 (s.arg p m 1 1)) (s.flag F.timeCtl_source 0 0)) p m 0 []) := by
  refine congrArg Host.Outcome.next ((takeMailbox_ready 0x509 cmdTimeSource p m s h).trans ?_)
  simp [cmdTimeSource, howner, State.answer]

theorem exec_timeStatus_ready (h : s.ready p m 0x50A) :
    exec (.timeStatus p m) s = .next ((s.taken p m).reply p m 0 (leBytes 4 (s.reg .slStatus 0 0) ++ leBytes 4 (s.reg .slRootIdLo 0 0) ++
      leBytes 4 (s.reg .slRootIdHi 0 0) ++ leBytes 4 (s.reg .slDelay 0 0) ++ leBytes 4 (s.reg .slOffset 0 0) ++
      ((List.range 8).map (fun n => leBytes 4 (if n = 0 ∨ s.portTenant p = n ∨ s.portTenant p = 0 then s.reg .tkStatus 0 n else 0))).flatten)) := by
  refine congrArg Host.Outcome.next ((takeMailbox_ready 0x50A cmdTimeStatus p m s h).trans ?_)
  simp only [cmdTimeStatus, State.taken_reg, State.ctxOf_tenant, State.answer, State.ctxOf_port, State.ctxOf_mbox]

end

/-- Settles O55: a correction is staged, reaches its tick, and is applied or refused there; the other rows act on one timekeeper's registers. -/
theorem timekeepers : Obligations.Timekeepers := by
  unfold Obligations.Timekeepers
  exact ⟨fun r s n v h hbit => regRow_tkCtl h (by simp [hbit]), fun r s n v h hbit => regRow_tkCtl h (by simp [hbit]),
    fun r s n v h hbit => regRow_tkCtl h (by simp [hbit]), fun r s n v h hbit => regRow_tkCtl h (by simp [hbit]),
    fun r s n v h hbit => regRow_tkCtl h (by simp [hbit]), fun r s n v h => regRow_tkCtl h (by simp),
    fun s n v tenant ref hgo hpending => State.writeTkCtl_pending tenant ref hgo hpending,
    fun s n v tenant ref hgo => State.writeTkCtl_reserved tenant ref hgo,
    fun s n v tenant ref hgo henable harm hsnap => State.writeTkCtl_snap tenant ref hgo henable harm hsnap,
    fun s n v tenant ref hgo hn henable hsnap hidle => State.writeTkCtl_set tenant ref hgo hn henable hsnap hidle,
    fun n s h => exec_correctionApply_none h, fun n s u c hpend hcmd hu hfault => exec_correctionApply_accepted hpend hu hcmd hfault,
    fun n s u c k hpend hcmd hu hfault => exec_correctionApply_refused hpend hu hcmd hfault, fun s n c cmd h => State.servoRetry_not h,
    fun s m hsource hrun hm => State.servoRetry_half hsource hrun hm,
    fun n s u c k p m hpend hcmd hu hfault => exec_correctionApply_command hpend hcmd hu hfault,
    fun n s h => congrArg Host.Outcome.next (if_neg (by simp [h])), fun n s hdue hperiod hoff => exec_alarmFire_once hdue hoff hperiod,
    fun n s hdue hperiod hoff => exec_alarmFire_again hdue hoff hperiod,
    fun s hon hfrom hto => congrArg Host.Outcome.next (if_pos (by simp only [hon, decide_eq_true hfrom, decide_eq_true hto, Bool.and_self])), fun s h => congrArg Host.Outcome.next (if_neg (by simp [h])),
    fun s h => congrArg Host.Outcome.next (if_pos h), fun s => rfl, fun s n henable hvalid => State.capture_overrun henable hvalid,
    fun s q hq hup w => exec_quadCopyRealign_reached hq hup w, fun p m s n h hn hmay => exec_timeGet_reader h hn hmay,
    fun p m s n h hn hn0 howner ht0 => exec_timeGet_other h hn hn0 howner ht0,
    fun p m s n h hn howner hsource hidle => exec_timeSet_staged hn howner hsource hidle h,
    fun p m s n h hn howner hsource hidle => exec_timeAdjust_staged hn howner hsource hidle h,
    fun p m s n h hn howner hsource hidle => exec_timeRate_staged hn howner hsource hidle h,
    fun p m s h hn howner hsource => exec_timeSet_systemlink h hn howner hsource, fun p m s h howner => exec_timeArm_owner h howner,
    fun p m s h howner => exec_timeArm_other h howner, fun p m s n h hn howner => exec_timeClear_owner h hn howner,
    fun p m s t u v n h hn howner ht hu hv => exec_timeAlarm_owner h hn howner ht hu hv,
    fun p m s n hi h hn howner hclear hhi => exec_timeCapture_owner h hn howner hclear hhi, fun p m s h howner => exec_timePps_owner h howner,
    fun p m s h howner => exec_timeSource_owner h howner, fun p m s h => exec_timeStatus_ready h⟩

end Sys2Proof.Machine

/-! SUPPORT. Clocks (19 R436–R444; 21 R486, R487): synthesizers, global nets, leaf gates, the carrier domain, frequency counters, and the commands of
group 0x06. -/

namespace Sys2Proof.Machine

/-! ### Writes of the clock registers (R436–R438, R441–R444) -/

section
variable {s : State} (q : Rq) {i j v : Nat}

theorem State.writeReg_carCtl (hok : Rg.carCtl.okWrite v = true) :
    s.writeReg q .carCtl 0 0 v = State.carRequest (s.setReg .carCtl 0 0 (Rg.carCtl.written (s.reg .carCtl 0 0) v)) (bits v 24 16) := by
  have hwrite : s.writeReg q .carCtl 0 0 v = s.writeCarCtl v := by
    rw [State.writeReg, hok]
    rfl
  exact hwrite.trans (if_neg (by simp [hok]))

theorem State.writeReg_gcCtl (hok : Rg.gcCtl.okWrite v = true) : s.writeReg q .gcCtl i j v = s.writeGcCtl j v := by
  rw [State.writeReg, hok]
  rfl

theorem State.writeReg_syCtl (hok : Rg.syCtl.okWrite v = true) : s.writeReg q .syCtl i j v = s.writeSyCtl j v := by
  rw [State.writeReg, hok]
  rfl

theorem State.writeReg_leafGate (hok : Rg.leafGate.okWrite v = true) : s.writeReg q .leafGate i j v = s.writeLeaf j v := by
  rw [State.writeReg, hok]
  rfl

/-- START of a counter begins a count, or begins it again. -/
theorem State.writeReg_fcCtl (hok : Rg.fcCtl.okWrite v = true) (hstart : bitAt v 31 = true) : s.writeReg q .fcCtl i j v =
    ((s.setReg .fcCtl 0 j (Rg.fcCtl.written (s.reg .fcCtl 0 j) v)).setF F.fcCtl_busy 0 j 1).setF F.fcCtl_done 0 j 0 := by
  have hwrite : s.writeReg q .fcCtl i j v = s.writeFcCtl j v := by
    rw [State.writeReg, hok]
    rfl
  exact hwrite.trans ((if_neg (by simp [hok])).trans (if_pos hstart))

end

section
variable {r : Req} {s : State} {j v : Nat}

theorem exec_carSel_granted (h : s.grantsWrite r .carCtl 0 0 v) : exec (.carSel r) s = .next (State.respond (State.carRequest
    ((s.takeReq r).setReg .carCtl 0 0 (Rg.carCtl.written (s.reg .carCtl 0 0) v)) (bits v 24 16)) r svcOK []) := by
  refine (regRow_granted .carCtl 0 0 v _ r s h (by simp)).trans ?_
  rw [State.writeReg_carCtl _ h.okWrite]
  rfl

/-- Each row of GC_CTL is the write of the whole register. -/
theorem regRow_gcCtl (h : s.grantsWrite r .gcCtl 0 j v) :
    regRow .write (fun g _ => g = .gcCtl) r s = .next (State.respond ((s.takeReq r).writeGcCtl j v) r svcOK []) := by
  rw [regRow_granted .gcCtl 0 j v _ r s h (by simp), State.writeReg_gcCtl _ h.okWrite]

theorem exec_syEnable_granted (h : s.grantsWrite r .syCtl 0 j v) :
    exec (.syEnable r) s = .next (State.respond ((s.takeReq r).writeSyCtl j v) r svcOK []) := by
  refine (regRow_granted .syCtl 0 j v _ r s h (by simp)).trans ?_
  rw [State.writeReg_syCtl _ h.okWrite]

theorem exec_leafGate_granted (h : s.grantsWrite r .leafGate 0 j v) :
    exec (.leafGate r) s = .next (State.respond ((s.takeReq r).writeLeaf j v) r svcOK []) := by
  refine (regRow_granted .leafGate 0 j v _ r s h (by simp)).trans ?_
  rw [State.writeReg_leafGate _ h.okWrite]

theorem exec_fcStart_granted (h : s.grantsWrite r .fcCtl 0 j v) (hstart : bitAt v 31 = true) : exec (.fcStart r) s = .next (State.respond
    ((((s.takeReq r).setReg .fcCtl 0 j (Rg.fcCtl.written (s.reg .fcCtl 0 j) v)).setF F.fcCtl_busy 0 j 1).setF F.fcCtl_done 0 j 0) r svcOK []) := by
  refine (regRow_granted .fcCtl 0 j v _ r s h (by simp [hstart])).trans ?_
  rw [State.writeReg_fcCtl _ h.okWrite hstart]
  rfl

end

/-! ### The carrier domain (R438) -/

theorem State.carRequest_held {s : State} {x : Nat × Nat} (c : Nat) (h : s.clk.car = some x) : s.carRequest c = { s with clk.carHeld := some c } := by
  simp only [State.carRequest, h]

theorem State.carRequest_same {s : State} {c : Nat} (hidle : s.clk.car = none) (hsame : s.getF F.carStatus_active 0 0 = c) : s.carRequest c = s := by
  simp only [State.carRequest, hidle]
  exact if_pos hsame

theorem exec_carrierRevert_lane {s : State} {l : Nat} (hrevert : s.flag F.carCtl_revert 0 0 = true) (hsel : s.getF F.carCtl_sel 0 0 = 0x100 + l)
    (hhold : s.flag F.carStatus_onHold 0 0 = true) (hlos : s.flag F.lnState_los (l / 4) (l % 4) = false)
    (hlol : s.flag F.lnState_lol (l / 4) (l % 4) = false) : exec .carrierRevert s = .next (s.carRequest (0x100 + l)) := by
  have hl : 0x100 + l - 0x100 = l := by omega
  refine congrArg Host.Outcome.next ?_
  simp only [hsel, hl, hrevert, hhold, hlos, hlol, Nat.le_add_right, decide_true, Bool.not_false, Bool.and_self, if_true]

/-! ### Global nets (R441–R443) -/

section
variable {s : State} {j v : Nat}

theorem State.writeGcCtl_held (hswitching : s.flag F.gcCtl_switching 0 j = true) (hok : Rg.gcCtl.okWrite v = true) :
    s.writeGcCtl j v = { s with clk.gcHeld := tput 0 s.clk.gcHeld j (v + 1) } :=
  (if_pos hswitching).trans (if_pos hok)

theorem State.writeGcCtl_refused {c : Nat} (hidle : s.flag F.gcCtl_switching 0 j = false) (hcheck : s.gcCheck j v = some c) : s.writeGcCtl j v = s :=
  (if_neg (by simp [hidle])).trans (if_pos (by simp [hcheck]))

theorem State.gcCheck_child (hon : bitAt (s.reg .gcCtl 0 j) 31 = true) (hoff : bitAt v 31 = false) (hchild : s.gcChild j = true)
    (hok : Rg.gcCtl.okWrite v = true) : s.gcCheck j v = some 0x16 :=
  (if_neg (by simp [hok])).trans (if_pos (by simp [hon, hoff, hchild]))

/-- A write that takes effect on an enabled net and names another source begins a switch. -/
theorem State.applyGc_switch (hcheck : s.gcCheck j v = none) (hon : bitAt (s.reg .gcCtl 0 j) 31 = true) (hstays : bitAt v 31 = true)
    (hsrc : bits (s.reg .gcCtl 0 j) 8 0 ≠ bits v 8 0) :
    s.applyGc j v = State.setF { s.setReg .gcCtl 0 j (Rg.gcCtl.written (s.reg .gcCtl 0 j) v) with
      clk.gcFrom := tput 0 s.clk.gcFrom j (bits (s.reg .gcCtl 0 j) 8 0 + 1) } F.gcCtl_switching 0 j 1 := by
  have hgo : bitAt (s.reg .gcCtl 0 j) 31 = true ∧ bitAt v 31 = true ∧ bits (s.reg .gcCtl 0 j) 8 0 ≠ bits v 8 0 := ⟨hon, hstays, hsrc⟩
  rw [State.applyGc, hcheck, if_neg (by simp), if_pos hgo]
  simp only [State.setReg_clk]

theorem State.writeGcCtl_switch (hidle : s.flag F.gcCtl_switching 0 j = false) (hcheck : s.gcCheck j v = none)
    (hon : bitAt (s.reg .gcCtl 0 j) 31 = true) (hstays : bitAt v 31 = true) (hsrc : bits (s.reg .gcCtl 0 j) 8 0 ≠ bits v 8 0) :
    s.writeGcCtl j v = State.setF { s.setReg .gcCtl 0 j (Rg.gcCtl.written (s.reg .gcCtl 0 j) v) with
      clk.gcFrom := tput 0 s.clk.gcFrom j (bits (s.reg .gcCtl 0 j) 8 0 + 1) } F.gcCtl_switching 0 j 1 :=
  (if_neg (by simp [hidle])).trans (State.applyGc_switch hcheck hon hstays hsrc)

theorem State.gcDone_free (hswitching : s.flag F.gcCtl_switching 0 j = true) (hheld : tget 0 s.clk.gcHeld j = 0) : s.gcDone j =
    { s.setF F.gcCtl_switching 0 j 0 with clk.gcFrom := tput 0 s.clk.gcFrom j 0, clk.gcHeld := tput 0 s.clk.gcHeld j 0 } := by
  rw [State.gcDone, hswitching, if_neg (by simp), if_pos hheld]
  simp only [State.setF_clk]

end

/-! ### Synthesizers (R436, R437, R443) -/

section
variable {s : State} {k v f : Nat} (hok : Rg.syCtl.okWrite v = true) (hsrc : sySrcOk k (bits v 30 22) = true)
  (hon : bitAt (s.reg .syCtl 0 k) 31 = true)
include hok hsrc hon

theorem State.syCheck_retuned (hnew : bits (s.reg .syCtl 0 k) 30 0 ≠ bits v 30 0) : s.syCheck k v f = some 0x10 :=
  (if_neg (by simp [hok, hsrc])).trans (if_pos ⟨hon, hnew⟩)

theorem State.syCheck_child (hsame : bits (s.reg .syCtl 0 k) 30 0 = bits v 30 0) (hoff : bitAt v 31 = false) (hchild : s.syChild k = true) :
    s.syCheck k v f = some 0x16 :=
  (if_neg (by simp [hok, hsrc])).trans ((if_neg (by simp [hsame])).trans (if_pos (by simp [hon, hoff, hchild])))

end

theorem State.writeSyCtl_on {s : State} {k v : Nat} (hcheck : s.syCheck k v (s.getF F.syFrac_f 0 k) = none) (hon : bitAt v 31 = true) :
    s.writeSyCtl k v = s.setReg .syCtl 0 k (Rg.syCtl.written (s.reg .syCtl 0 k) v) :=
  (if_neg (by simp [hcheck])).trans (if_pos hon)

theorem exec_syUnlock_locked {k : Synth} {s : State} (hon : s.flag F.syCtl_enable 0 k = true) (hlock : s.flag F.syStatus_lock 0 k = true) :
    exec (.syUnlock k) s = .next (State.alarm (State.count (s.setF F.syStatus_lock 0 k 0) F.syStatus_unlocks 0 k 1) 255 0x15 (k.val * 256) 0
      (srcOf .clk 0)) :=
  congrArg Host.Outcome.next (if_pos (by simp only [hon, hlock, Bool.and_self]))

/-! ### Leaf gates (R443) -/

theorem State.leafCheck_notLive {s : State} {t : Nat} (v : Nat) (h : s.notLive t = true) : s.leafCheck t v = some 0x15 := if_pos h

theorem State.writeLeaf_notLive {s : State} {t : Nat} (v : Nat) (h : s.notLive t = true) : s.writeLeaf t v = s :=
  if_pos (by simp [State.leafCheck_notLive v h])

/-! ### Frequency counters (R444) -/

theorem exec_fcGateEnd_busy {c : FCtr} {n : BitVec 40} {s u : State} (hbusy : s.flag F.fcCtl_busy 0 c = true)
    (hu : (((s.setReg .fcCountLo 0 c (n.toNat % 2 ^ 32)).setReg .fcCountHi 0 c (n.toNat / 2 ^ 32)).setF F.fcCtl_busy 0 c 0).setF
      F.fcCtl_done 0 c 1 = u) (hev : u.flag F.fcCtl_evEn 0 c = false) :
    exec (.fcGateEnd c n) s = .next (u.finishOps c [0x604] 0 n.toNat 0 (leBytes 8 n.toNat)) := by
  refine congrArg Host.Outcome.next ((if_neg (by simp [hbusy])).trans ?_)
  simp only [hu, hev, Bool.false_eq_true, if_false]

/-! ### Commands (R486, R487) -/

@[simp] theorem State.taken_srcHz (s : State) (p m c : Nat) : (s.taken p m).srcHz c = s.srcHz c := (rfl)
@[simp] theorem State.taken_tileTenant (s : State) (p m t : Nat) : (s.taken p m).tileTenant t = s.tileTenant t := (rfl)
@[simp] theorem State.taken_syCheck (s : State) (p m k v f : Nat) : (s.taken p m).syCheck k v f = s.syCheck k v f := (rfl)
@[simp] theorem State.taken_regBytes (s : State) (p m : Nat) (l : List (Rg × Nat)) : (s.taken p m).regBytes l = s.regBytes l := (rfl)

section
variable {p : Port} {m : Mbox} {s : State}

theorem exec_clockStatus_carrier (h : s.ready p m 0x600) (hkind : s.arg p m 0 1 = 0) :
    exec (.clockStatus p m) s = .next ((s.taken p m).reply p m 0
      (s.regBytes ([(Rg.carCtl, 0), (.carStatus, 0)] ++ (List.range 9).map (fun i => (.refHz, i))))) := by
  refine congrArg Host.Outcome.next ((takeMailbox_ready 0x600 cmdClockStatus p m s h).trans ?_)
  simp only [cmdClockStatus, State.ctxOf_num, hkind, State.taken_regBytes, State.answer, State.ctxOf_port, State.ctxOf_mbox]

section
variable (h : s.ready p m 0x601)
include h

theorem exec_clockPlan_malformed {i : Nat} (hbad : (List.range (s.arg p m 0 1)).find? (fun i => !planOk (s.mbox p m).payload 16 i) = some i) :
    exec (.clockPlan p m) s = .next ((s.taken p m).reply p m 0x10 (leBytes 1 i)) := by
  refine congrArg Host.Outcome.next ((takeMailbox_ready 0x601 cmdClockPlan p m s h).trans ?_)
  simp only [cmdClockPlan, State.ctxOf_num, State.ctxOf_pay, hbad, State.answer, State.ctxOf_port, State.ctxOf_mbox]

section
variable (hwell : (List.range (s.arg p m 0 1)).find? (fun i => !planOk (s.mbox p m).payload 16 i) = none)
include hwell

theorem exec_clockPlan_other (ht0 : s.portTenant p ≠ 0) : exec (.clockPlan p m) s = .next ((s.taken p m).reply p m 0x12 []) := by
  refine congrArg Host.Outcome.next ((takeMailbox_ready 0x601 cmdClockPlan p m s h).trans ?_)
  simp only [cmdClockPlan, State.ctxOf_num, State.ctxOf_pay, State.ctxOf_tenant, hwell, ht0, ne_eq, not_false_eq_true, if_true, refuse, State.answer,
    State.ctxOf_port, State.ctxOf_mbox]

theorem exec_clockPlan_applied {t : State} (ht0 : s.portTenant p = 0) (hrun : (s.taken p m).planRun
      (planOrder ((List.range (s.arg p m 0 1)).map (planEntry (s.mbox p m).payload 16))) = .ok t) :
    exec (.clockPlan p m) s = .next (t.reply p m 0 []) := by
  refine congrArg Host.Outcome.next ((takeMailbox_ready 0x601 cmdClockPlan p m s h).trans ?_)
  simp only [cmdClockPlan, State.ctxOf_num, State.ctxOf_pay, State.ctxOf_tenant, hwell, ht0, hrun, ne_eq, not_true_eq_false, if_false, State.answer,
    State.ctxOf_port, State.ctxOf_mbox]

theorem exec_clockPlan_stopped {code i : Nat} (ht0 : s.portTenant p = 0) (hrun : (s.taken p m).planRun
      (planOrder ((List.range (s.arg p m 0 1)).map (planEntry (s.mbox p m).payload 16))) = .error (code, i)) :
    exec (.clockPlan p m) s = .next ((s.taken p m).reply p m code (leBytes 1 i)) := by
  refine congrArg Host.Outcome.next ((takeMailbox_ready 0x601 cmdClockPlan p m s h).trans ?_)
  simp only [cmdClockPlan, State.ctxOf_num, State.ctxOf_pay, State.ctxOf_tenant, hwell, ht0, hrun, ne_eq, not_true_eq_false, if_false, State.answer,
    State.ctxOf_port, State.ctxOf_mbox]

end
end

theorem exec_clockSelect_owner (h : s.ready p m 0x602) (howner : s.portTenant p = 0) :
    exec (.clockSelect p m) s = .next (State.reply ((s.taken p m).writeCarCtl (s.arg p m 3 1 * 2 ^ 31 + s.arg p m 2 1 * 2 ^ 28 +
      s.arg p m 0 2 * 2 ^ 16 + s.arg p m 4 2)) p m 0 []) := by
  refine congrArg Host.Outcome.next ((takeMailbox_ready 0x602 cmdClockSelect p m s h).trans ?_)
  simp only [cmdClockSelect, State.ctxOf_num, State.ctxOf_tenant, howner, ne_eq, not_true_eq_false, if_false, State.answer, State.ctxOf_port,
    State.ctxOf_mbox]

theorem exec_clockSelect_other (h : s.ready p m 0x602) (howner : s.portTenant p ≠ 0) :
    exec (.clockSelect p m) s = .next ((s.taken p m).reply p m 0x12 []) := by
  refine congrArg Host.Outcome.next ((takeMailbox_ready 0x602 cmdClockSelect p m s h).trans ?_)
  simp [cmdClockSelect, howner, refuse, State.answer]

section
variable (h : s.ready p m 0x603) {i : Nat} (hi : s.arg p m 2 2 = i)
include h hi

section
variable (hkind : s.arg p m 0 1 = 2)
include hkind

theorem exec_clockGate_otherTile (ht0 : s.portTenant p ≠ 0) (howner : s.portTenant p ≠ s.tileTenant i) :
    exec (.clockGate p m) s = .next ((s.taken p m).reply p m 0x12 []) := by
  refine congrArg Host.Outcome.next ((takeMailbox_ready 0x603 cmdClockGate p m s h).trans ?_)
  simp [cmdClockGate, hkind, hi, ht0, howner, refuse, State.answer]

theorem exec_clockGate_leaf {v : Nat} (hmay : s.portTenant p = 0 ∨ s.portTenant p = s.tileTenant i)
    (hv : setBits (s.reg .leafGate 0 i) (s.arg p m 4 1) (s.arg p m 4 1) (s.arg p m 5 1) = v) (hcheck : (s.taken p m).leafCheck i v = none) :
    exec (.clockGate p m) s = .next (State.reply ((s.taken p m).writeLeaf i v) p m 0 []) := by
  have hnot : ¬ (s.portTenant p ≠ 0 ∧ s.portTenant p ≠ s.tileTenant i) := by omega
  refine congrArg Host.Outcome.next ((takeMailbox_ready 0x603 cmdClockGate p m s h).trans ?_)
  simp only [cmdClockGate, State.ctxOf_num, State.ctxOf_tenant, hkind, hi, State.taken_tileTenant, if_neg hnot, State.taken_reg, hv, hcheck,
    State.answer, State.ctxOf_port, State.ctxOf_mbox]

end

theorem exec_clockGate_refused {v code : Nat} (hkind : s.arg p m 0 1 = 0) (ht0 : s.portTenant p = 0)
    (hv : s.arg p m 5 1 * 2 ^ 31 + bits (s.reg .syCtl 0 i) 30 0 = v) (hcheck : s.syCheck i v (s.getF F.syFrac_f 0 i) = some code) :
    exec (.clockGate p m) s = .next ((s.taken p m).reply p m code []) := by
  refine congrArg Host.Outcome.next ((takeMailbox_ready 0x603 cmdClockGate p m s h).trans ?_)
  simp only [cmdClockGate, State.ctxOf_num, State.ctxOf_tenant, hkind, hi, ht0, State.taken_reg, State.taken_getF, State.taken_syCheck, hv, hcheck,
    ne_eq, not_true_eq_false, if_false, refuse, State.answer, State.ctxOf_port, State.ctxOf_mbox]

end

section
variable (h : s.ready p m 0x604)
include h

theorem exec_clockMeasure_full (hbusy : ∀ k, k < 8 → s.flag F.fcCtl_busy 0 k = true) :
    exec (.clockMeasure p m) s = .next ((s.taken p m).reply p m 0x15 []) := by
  have hnone : (List.range 8).find? (fun k => !s.flag F.fcCtl_busy 0 k) = none :=
    List.find?_eq_none.mpr (fun k hk => by simp [hbusy k (List.mem_range.mp hk)])
  refine congrArg Host.Outcome.next ((takeMailbox_ready 0x604 cmdClockMeasure p m s h).trans ?_)
  simp only [cmdClockMeasure, State.taken_flag, hnone, refuse, State.answer, State.ctxOf_port, State.ctxOf_mbox]

theorem exec_clockMeasure_first (hfree : s.flag F.fcCtl_busy 0 0 = false) (hsrc : 0x20 ≤ s.arg p m 0 2)
    (hfast : 2 ^ s.arg p m 4 1 * 1000 ≤ s.srcHz (s.arg p m 0 2)) :
    exec (.clockMeasure p m) s = .next (State.addWait (((((s.taken p m).setReg .fcSrc 0 0 (s.arg p m 0 2 * 65536 + s.arg p m 2 2)).setF
      F.fcCtl_n 0 0 (s.arg p m 4 1)).setF F.fcCtl_busy 0 0 1).setF F.fcCtl_done 0 0 0) ((s.ctxOf p m).op 0 [])) := by
  have hsome : (List.range 8).find? (fun k => !s.flag F.fcCtl_busy 0 k) = some 0 := List.find?_cons_of_pos (by simp [hfree])
  have hnot : ¬ s.arg p m 0 2 < 0x20 := by omega
  refine congrArg Host.Outcome.next ((takeMailbox_ready 0x604 cmdClockMeasure p m s h).trans ?_)
  simp only [cmdClockMeasure, State.taken_flag, hsome, State.ctxOf_num, if_neg hnot, State.taken_srcHz, hfast, decide_true, if_true, State.answer]

end
end

/-- Settles O56: a write of a clock register is checked first and a refused one changes nothing; each event of a clock clears or sets its own bits. -/
theorem clocks : Obligations.Clocks := by
  unfold Obligations.Clocks
  exact ⟨fun r s v h => exec_carSel_granted h, fun s x c h => State.carRequest_held c h, fun s c hidle hsame => State.carRequest_same hidle hsame,
    fun r s j v h => regRow_gcCtl h, fun r s j v h => regRow_gcCtl h, fun s j v hswitching hok => State.writeGcCtl_held hswitching hok,
    fun s j v c hidle hcheck => State.writeGcCtl_refused hidle hcheck, fun s j v hon hoff hchild hok => State.gcCheck_child hon hoff hchild hok,
    fun s j v hidle hcheck hon hstays hsrc => State.writeGcCtl_switch hidle hcheck hon hstays hsrc, fun r s k v h => exec_syEnable_granted h,
    fun s k v c hcheck => if_pos (by simp [hcheck]), fun s k v f hok hsrc hon hnew => State.syCheck_retuned hok hsrc hon hnew,
    fun s k v f hok hsrc hon hsame hoff hchild => State.syCheck_child hok hsrc hon hsame hoff hchild,
    fun s k v hcheck hon => State.writeSyCtl_on hcheck hon, fun r s t v h => exec_leafGate_granted h,
    fun s t v hcheck => if_neg (by simp [hcheck]), fun s t v h => State.writeLeaf_notLive v h, fun r s c v h hstart => exec_fcStart_granted h hstart,
    fun s h => congrArg Host.Outcome.next (if_neg (by simp [h])),
    fun s l hrevert hsel hhold hlos hlol => exec_carrierRevert_lane hrevert hsel hhold hlos hlol,
    fun j s h => congrArg Host.Outcome.next (if_pos (by simp [h])), fun j s h hheld => congrArg Host.Outcome.next (State.gcDone_free h hheld),
    fun s => rfl, fun j s h => congrArg Host.Outcome.next (if_pos h), fun j s h => congrArg Host.Outcome.next (if_neg (by simp [h])),
    fun k s h => congrArg Host.Outcome.next (if_pos h), fun k s hon hlock => exec_syUnlock_locked hon hlock,
    fun c n s h => congrArg Host.Outcome.next (if_pos (by simp [h])), fun c n s u hbusy hu hev => exec_fcGateEnd_busy hbusy hu hev,
    fun p m s h hkind => exec_clockStatus_carrier h hkind, fun p m s h ht0 hwell => exec_clockPlan_other h hwell ht0,
    fun p m s i h hbad => exec_clockPlan_malformed h hbad, fun p m s t h ht0 hwell hrun => exec_clockPlan_applied h hwell ht0 hrun,
    fun p m s code i h ht0 hwell hrun => exec_clockPlan_stopped h hwell ht0 hrun, fun p m s h howner => exec_clockSelect_owner h howner,
    fun p m s h howner => exec_clockSelect_other h howner,
    fun p m s i h hkind hi _ ht0 howner => exec_clockGate_otherTile h hi hkind ht0 howner,
    fun p m s i v h hkind hi _ hmay hv hcheck => exec_clockGate_leaf h hi hkind hmay hv hcheck,
    fun p m s i v code h hkind hi _ ht0 hv hcheck => exec_clockGate_refused h hi hkind ht0 hv hcheck,
    fun p m s h hbusy => exec_clockMeasure_full h hbusy, fun p m s h hfree hsrc hfast => exec_clockMeasure_first h hfree hsrc hfast⟩

end Sys2Proof.Machine

/-! SUPPORT. The stack controllers' requests (13 R306, R311–R314, R316, R325, R329; 15 R357): what a memory port takes, the scheduler, rows, the end of an
access, and the INVALIDATEs of a write. -/

namespace Sys2Proof.Machine

/-! ### Memory ports (R306, R307, R311) -/

section
variable {r : Req} {s : State} {st l : Nat} (hin : s.net.reqs.contains r = true) (hdst : 1024 ≤ r.dst) (haddr : r.addr < 0x1800000000)
  (hcrc : r.crcOk = true) (hloc : s.hbmLocal r.addr = (st, l))
include hin hdst haddr hcrc hloc

theorem exec_memoryPortRequest_refused {code : Nat} (hcode : s.portRefuses st l r = some code) :
    exec (.memoryPortRequest r) s = .next ((s.takeReq r).respond r code []) := by
  refine congrArg Host.Outcome.next ((if_neg (by simp [-List.contains_eq_mem, hin, Nat.not_lt.mpr hdst, Nat.not_le.mpr haddr])).trans ((if_neg (by simp [hcrc])).trans ?_))
  simp only [hloc, hcode]

theorem exec_memoryPortRequest_held (hcode : s.portRefuses st l r = none) :
    exec (.memoryPortRequest r) s = .next (State.setHreqs { s.takeReq r with hbm.nextId := s.hbm.nextId + 1 } st
      (s.hreqs st ++ [⟨s.hbm.nextId, r, (s.hbmLoc st l).pc, l, 0, false, false, false, 0, 0, [], false, false⟩])) := by
  refine congrArg Host.Outcome.next ((if_neg (by simp [-List.contains_eq_mem, hin, Nat.not_lt.mpr hdst, Nat.not_le.mpr haddr])).trans ((if_neg (by simp [hcrc])).trans ?_))
  simp only [hloc, hcode]
  rfl

end

section
variable {r : Req} {s : State} {st l : Nat} (hop : r.op ≠ .invalidate) (hgrant : s.protGrant st r.rq r.op l = true)
  (hplain : s.pwinAt st (unitOf l) = none)
include hop hgrant hplain

theorem State.portRefuses_frozen (h : s.hbmSt st = 3) : s.portRefuses st l r = some svcFrozen := by
  simp [State.portRefuses, State.pwinCode, hop, hgrant, hplain, h]

theorem State.portRefuses_busy (h : s.hbmSt st = 0 ∨ s.hbmSt st = 4) : s.portRefuses st l r = some svcBusy := by
  have hthawed : s.hbmSt st ≠ 3 := by omega
  simp [State.portRefuses, State.pwinCode, hop, hgrant, hplain, h, hthawed]

end

/-! ### Scheduling and rows (R312, R313, R316) -/

/-- With no request newly late, the schedule of a running controller issues its choice. -/
theorem exec_hbmSchedule_pick {st : Die} {pc : Fin 32} {s u : State} {h : HReq} (hruns : s.hbmRuns st = true)
    (hu : { s.setHreqs st (s.hreqs st) with
      hbm.wmode := tput false s.hbm.wmode (st.val * 32 + pc.val) ((s.setHreqs st (s.hreqs st)).writesFirst st pc) } = u)
    (hpick : u.hbmPick st pc = some h) : exec (.hbmSchedule st pc []) s =
      .next (State.activate (u.setHreqs st ((u.hreqs st).map (fun x => if x.id = h.id then { x with phase := 1 } else x))) st h.loc) := by
  have hu' : { s.setHreqs st (s.hreqs st) with
      hbm.wmode := tput false (s.setHreqs st (s.hreqs st)).hbm.wmode (st.val * 32 + pc.val) ((s.setHreqs st (s.hreqs st)).writesFirst st pc) } = u := hu
  have hlate : (s.hreqs st).map (fun h => if ([] : List Nat).contains h.id then { h with late := true } else h) = s.hreqs st := by
    simp
  refine congrArg Host.Outcome.next ((if_neg (by simp [hruns])).trans ?_)
  dsimp only at hu'
  simp only [hlate, hu', hpick]

theorem exec_rowClose_idle {st : Die} {pc bank : Fin 32} {s : State} (h : s.hreqs st = []) : exec (.rowClose st pc bank) s =
    .next { s with hbm.rows := tput 0 s.hbm.rows ((st.val * 32 + pc.val) * 32 + bank.val) 0 } :=
  congrArg Host.Outcome.next (if_neg (by simp [h]))

/-! ### The end of an access (R314, R325, R371, R376) -/

section
variable {st : Die} {id : Nat} {s : State} {h : HReq} (sev : Fin 4) (acc : Nat) (slow : Bool) (p : ProtIn)
  (hfind : (s.hreqs st).find? (fun h => decide (h.id = id) && decide (h.phase = 1)) = some h) (hready : s.hbmSt st ≠ 0) (hthawed : s.hbmSt st ≠ 3)
include hfind hready hthawed

theorem exec_hbmAccessDone_parity : exec (.hbmAccessDone st id sev acc true slow p) s = .next (s.hbmFreeze st 3 h.loc) := by
  refine congrArg Host.Outcome.next ?_
  simp only [hfind, hready, hthawed, or_self, if_false, if_true]

/-- An access whose INVALIDATEs, if it needs them, have tags ends. -/
theorem exec_hbmAccessDone_ends (htags : h.req.op = .read ∨ s.shared h.req.addr = false ∨ 12 ≤ (s.tagsFree (1024 + 16 * st.val + h.pc / 2) 1).length) :
    exec (.hbmAccessDone st id sev acc false slow p) s = .next (s.accessEnd st h sev acc slow p) := by
  have hnot : (decide (h.req.op ≠ .read) && s.shared h.req.addr && decide ((s.tagsFree (1024 + 16 * st.val + h.pc / 2) 1).length < 12)) = false := by
    rcases htags with htags | htags | htags
    · simp [htags]
    · simp [htags]
    · simp [Nat.not_lt.mpr htags]
  refine congrArg Host.Outcome.next ?_
  simp only [hfind, hready, hthawed, hnot, or_self, Bool.false_eq_true, if_false]

end

section
variable {s : State} {st sev acc : Nat} {h : HReq} {q : State × Nat × Nat × Bool} (slow : Bool) (p : ProtIn)
  (hq : s.severity st (s.readAccs st h.req.op h.loc h.req.size) sev acc = q)
include hq

theorem State.accessEnd_clean (hsev : q.2.1 = 0) : s.accessEnd st h sev acc slow p = q.1.hcomplete st h (slow && !s.urgent st h) p := by
  simp only [State.accessEnd, hq, hsev, OfNat.zero_ne_ofNat, if_false, if_true]

theorem State.accessEnd_corrected (hsev : q.2.1 = 1 ∨ q.2.1 = 2) :
    s.accessEnd st h sev acc slow p = (q.1.eccError .stack st false 8 q.2.2.1 0 q.2.1).hcomplete st h (slow && !s.urgent st h) p := by
  have hlow : q.2.1 ≠ 3 := by omega
  have hsome : q.2.1 ≠ 0 := by omega
  simp only [State.accessEnd, hq, if_neg hlow, if_neg hsome]

theorem State.accessEnd_lost {v w : State} (hsev : q.2.1 = 3) (hv : q.1.eccError .stack st true 8 q.2.2.1 0 3 = v)
    (hw : (if q.2.2.2 then v else { v with hbm.bad := tput false v.hbm.bad (accKey st q.2.2.1) true }) = w) : s.accessEnd st h sev acc slow p =
      State.hbmFreeze (w.setHreqs st ((w.hreqs st).map (fun x => if x.id = h.id then { x with failed := true } else x))) st 1 (32 * q.2.2.1) := by
  simp only [State.accessEnd, hq, if_pos hsev, hv, hw]

end

/-! ### Answers (R314, R329) -/

theorem State.hcomplete_read {s : State} {st : Nat} {h : HReq} (late : Bool) (p : ProtIn) (hplain : s.pwinAt st (unitOf h.loc) = none)
    (hop : h.req.op = .read) : s.hcomplete st h late p = State.hanswer (s.hperform st h.loc h.req.size h.req.op h.req.data).1 st h 0 false late
      (s.hperform st h.loc h.req.size h.req.op h.req.data).2 := by
  simp [State.hcomplete, hplain, hop]

theorem State.hanswer_delayed {s : State} {st : Nat} {h : HReq} (poison : Bool) (data : List Byte) (hgone : h.gone = false) :
    s.hanswer st h 0 poison true data = State.hsend (State.count (s.setHreqs st ((s.hreqs st).filter (fun x => x.id ≠ h.id)))
      F.hbmCounts_delayed st 0 1) h.req 1 poison data :=
  if_neg (by simp [hgone])

theorem exec_invalidateResponse_outstanding {r : Resp} {s : State} {o : Outst} {st wid : Nat} (late : Bool) (hin : s.net.resps.contains r = true)
    (hout : s.findOut r.src r.sport r.tag r.gen = some o) (hwho : o.who = .inval st wid) (hcrc : r.crcOk = true) :
    exec (.invalidateResponse r late) s = .next ((State.retire (s.takeResp r) o).invalEnd st wid r.svc late) := by
  refine congrArg Host.Outcome.next ((if_pos (by simp only [hin, State.respFor, hout, hwho, Bool.and_self])).trans ?_)
  simp only [State.arrive_outstanding hout hcrc, hwho]

/-- Settles O48: a port refuses or holds a request; a running controller issues the scheduler's choice; the stack's severity report decides whether an
access is answered, counted or freezes its stack. -/
theorem hbmRequests : Obligations.HbmRequests := by
  unfold Obligations.HbmRequests
  exact ⟨fun r s code hin hdst haddr hcrc hcode => exec_memoryPortRequest_refused hin hdst haddr hcrc rfl hcode,
    fun r s hin hdst haddr hcrc hcode => exec_memoryPortRequest_held hin hdst haddr hcrc rfl hcode,
    fun r s st l hop hgrant hplain => ⟨State.portRefuses_frozen hop hgrant hplain, State.portRefuses_busy hop hgrant hplain⟩,
    fun st pc late s h => congrArg Host.Outcome.next (if_pos (by simp [h])),
    fun st pc s u h hruns hu hpick => exec_hbmSchedule_pick hruns hu hpick, fun st pc bank s h => exec_rowClose_idle h,
    fun st id sev acc late p s h hfind hready hthawed => exec_hbmAccessDone_parity sev acc late p hfind hready hthawed,
    fun st id sev acc slow p s h hfind hready hthawed htags =>
      have hends := exec_hbmAccessDone_ends sev acc slow p hfind hready hthawed htags
      ⟨fun hsv => hends.trans (congrArg Host.Outcome.next (State.accessEnd_clean slow p rfl hsv)),
        fun hsv => hends.trans (congrArg Host.Outcome.next (State.accessEnd_corrected slow p rfl hsv)),
        fun hsv => hends.trans (congrArg Host.Outcome.next (State.accessEnd_lost slow p rfl hsv rfl rfl))⟩,
    fun s st h late p hplain hop => State.hcomplete_read late p hplain hop, fun s st h poison data hgone => State.hanswer_delayed poison data hgone,
    fun r late s o st wid hin hout hwho hcrc => exec_invalidateResponse_outstanding late hin hout hwho hcrc, fun s st wid late => rfl⟩

end Sys2Proof.Machine

/-! SUPPORT. The remote caches and the shared windows (13 R327–R329, R332; 16 R371, R374; 21 R482): a request at its die's cache, fills, forwarded
requests, INVALIDATE, and SHARED_WINDOW. -/

namespace Sys2Proof.Machine

/-! ### What sending a request leaves as it was (R165) -/

theorem State.shared_of_regs {s t : State} (a : Nat) (h : t.regs = s.regs) : t.shared a = s.shared a := by
  have hreg (g : Rg) (i j : Nat) : t.reg g i j = s.reg g i j := by
    rw [State.reg, State.reg, h]
  have hflag (f : FRef) (i j : Nat) : t.flag f i j = s.flag f i j := congrArg (fun w => decide (bits w f.hi f.lo = 1)) (hreg f.rg i j)
  have hget (f : FRef) (i j : Nat) : t.getF f i j = s.getF f i j := congrArg (fun w => bits w f.hi f.lo) (hreg f.rg i j)
  rw [State.shared, State.shared]
  simp -implicitDefEqProofs only [hflag, hget]

theorem State.issueTo_sent {s : State} (who : Who) {r : Req} {dst : Nat} (dport : Nat) (hshape : reqShape r.op r.addr r.size = true)
    (hroute : s.routed r.src dst = true) (htag : s.hasTag r = true) : s.issueTo who r dst dport = (s.sendReq who r dst dport, some 0) := by
  simp only [State.issueTo, hshape, hroute, htag, Bool.not_true, Bool.false_eq_true, if_false]

/-! ### Requests at a cache (R328) -/

section
variable {r : Req} {s : State} (errs : List LineErr) {d : Nat} (hin : s.net.reqs.contains r = true) (hdst : r.dst < 1024)
  (hcache : r.dst = dieTile (r.dst / 256)) (haddr : r.addr < 0x1800000000) (hop : r.op ≠ .invalidate) (hcrc : r.crcOk = true) {st l : Nat}
  (hloc : s.hbmLocal r.addr = (st, l))
include hin hdst hcache haddr hop hcrc hloc

theorem exec_remoteCacheRequest_denied (hgrant : s.protGrant st r.rq r.op l = false) :
    exec (.remoteCacheRequest r errs) s = .next ((s.takeReq r).respond r svcDenied []) := by
  have hnot : ¬ (!s.net.reqs.contains r ∨ 1024 ≤ r.dst ∨ r.dst ≠ dieTile (r.dst / 256) ∨ 0x1800000000 ≤ r.addr ∨ r.op = .invalidate) := by
    simp [-List.contains_eq_mem, hin, Nat.not_le.mpr hdst, ← hcache, Nat.not_le.mpr haddr, hop]
  refine congrArg Host.Outcome.next ((if_neg hnot).trans ((if_neg (by simp [hcrc])).trans ?_))
  simp only [hloc, hgrant, Bool.not_false, if_true]

section
variable (hgrant : s.protGrant st r.rq r.op l = true) (hd : r.dst / 256 = d)
include hgrant hd

/-- A request that holds the right is read from the lines, or forwarded. -/
theorem exec_remoteCacheRequest_granted :
    exec (.remoteCacheRequest r errs) s = .next (if r.op = .read then s.cacheRead d r errs else s.cacheForward d r) := by
  subst hd
  have hnot : ¬ (!s.net.reqs.contains r ∨ 1024 ≤ r.dst ∨ r.dst ≠ dieTile (r.dst / 256) ∨ 0x1800000000 ≤ r.addr ∨ r.op = .invalidate) := by
    simp [-List.contains_eq_mem, hin, Nat.not_le.mpr hdst, ← hcache, Nat.not_le.mpr haddr, hop]
  refine congrArg Host.Outcome.next ((if_neg hnot).trans ((if_neg (by simp [hcrc])).trans ?_))
  simp only [hloc, hgrant, Bool.not_true, Bool.false_eq_true, if_false]

end
end

/-! ### Reads of one line (R328, R332) -/

theorem State.takeReq_rline (s : State) (r : Req) (d l : Nat) : (s.takeReq r).rline d l = s.rline d l := (rfl)

section
variable {s : State} {d l : Nat} {r : Req} (hlines : rlines r = [l])
include hlines

theorem State.cacheRead_hit {x : RLine} (hline : s.rline d l = some x) : s.cacheRead d r [] = State.readAnswer (State.count
    (State.setRline { s.takeReq r with hbm.stamp := s.hbm.stamp + 1 } d l (some { x with used := s.hbm.stamp })) F.rcacheCounts_hits d 0 1)
    ⟨r, [], [(l, x.data)], 0⟩ := by
  simp only [State.cacheRead, State.lineErrs, hlines, List.foldl_nil, List.foldl_cons, List.all_cons, List.all_nil, hline, Option.isSome_some, Option.isNone_some,
    Bool.and_self, List.filter_cons, List.filter_nil, Bool.false_eq_true, if_false, if_true, List.length_nil, Nat.not_lt_zero, State.takeReq_rline,
    List.isEmpty_nil, List.nil_append]
  rfl

/-- A request of one line touches the line of its address. -/
theorem rlines_single : l = r.addr / 64 := by
  have hlen : (linePieces (r.addr % 256) r.size).length = 1 := by
    simpa [rlines, reqLines] using congrArg List.length hlines
  simp only [rlines, reqLines, hlen, List.range_one, List.map_cons, List.map_nil, List.cons.injEq, and_true] at hlines
  omega

/-- A fill of that line is a well-formed request. -/
theorem reqShape_fill (haddr : r.addr < 0x1800000000) : reqShape .read (l * 64) 64 = true := by
  have hl := rlines_single hlines
  have hpage : l * 64 % 256 + 64 ≤ 256 := by omega
  have hlow : ¬ (0x7F0000000000 ≤ l * 64 ∧ l * 64 < 0x800000000000) := by omega
  simp [reqShape, NOp.isAtomic, hpage, hlow]

end

/-- The request with which die `d` fills a line for a read (R328, R334). -/
def fillReq (d line : Nat) (r : Req) : Req :=
  { mkReq .read (line * 64) 64 r.tenant r.mclass (dieTile d) 5 [] with scopeAll := r.scopeAll, path := r.path }

section
variable {s : State} {d l : Nat} {r : Req} {st a dst : Nat} (hloc : s.hbmLocal (l * 64) = (st, a)) (hdst : 1024 + 16 * st + (s.hbmLoc st a).pc / 2 = dst)
  (hnew : s.hbm.fills.find? (fun f => decide (f.die = d) && decide (f.line = l) && !f.stale) = none) (hshape : reqShape .read (l * 64) 64 = true)
  (hroute : s.routed (dieTile d) dst = true) (htag : s.hasTag (fillReq d l r) = true)
include hloc hdst hnew hshape hroute htag

theorem State.startFill_new (hshared : s.shared (l * 64) = true) : s.startFill d r l =
    ({ s.sendReq (.rcache d s.hbm.nextId true) (fillReq d l r) dst 1 with
      hbm.nextId := s.hbm.nextId + 1, hbm.fills := s.hbm.fills ++ [⟨s.hbm.nextId, d, l, false⟩] }, some (.inl s.hbm.nextId)) := by
  have hissue := State.issueTo_sent (.rcache d s.hbm.nextId true) 1 (r := fillReq d l r) hshape hroute htag
  have hshared' := (State.shared_of_regs (l * 64) (s.sendReq_regs (.rcache d s.hbm.nextId true) (fillReq d l r) dst 1)).trans hshared
  simp only [fillReq] at hissue hshared'
  simp only [State.startFill, hnew, hloc, hdst, hissue, hshared', State.sendReq_hbm, Bool.not_true, fillReq]

end

/-- A read of one line that starts its fill waits for it. -/
theorem State.cacheRead_waits {s w : State} {d l id : Nat} {r : Req} (hlines : rlines r = [l]) (hline : s.rline d l = none)
    (hnew : s.hbm.fills.find? (fun f => decide (f.die = d) && decide (f.line = l) && !f.stale) = none) (hfree : s.tagsFree (dieTile d) 5 ≠ [])
    (hfill : (s.takeReq r).startFill d r l = (w, some (.inl id))) (hmore : s.hbm.fills.length < w.hbm.fills.length) :
    s.cacheRead d r [] = { w.count F.rcacheCounts_misses d 0 1 with hbm.waits := w.hbm.waits ++ [⟨r, [id], [], 0⟩] } := by
  have hnone : s.hbm.fills.any (fun f => decide (f.die = d) && decide (f.line = l) && !f.stale) = false := by
    rw [← Bool.not_eq_true, List.any_eq_true]
    exact fun ⟨f, hf, hmatch⟩ => List.find?_eq_none.mp hnew f hf hmatch
  have htags : ¬ (s.tagsFree (dieTile d) 5).length < 1 := Nat.not_lt.mpr (List.length_pos_of_ne_nil hfree)
  have hmore' : (s.takeReq r).hbm.fills.length < w.hbm.fills.length := hmore
  simp only [State.cacheRead, State.lineErrs, hlines, List.foldl_nil, List.foldl_cons, List.all_cons, List.all_nil, hline, Option.isSome_none,
    Option.isNone_none, Bool.false_and, List.filter_cons, List.filter_nil, Bool.false_eq_true, if_false, if_true, hnone, Bool.not_false, List.length_cons,
    List.length_nil, htags, State.takeReq_rline, State.refill, hfill, hmore', List.nil_append, List.isEmpty_cons, State.count_hbm]

theorem State.cacheRead_miss {s u v : State} {d l st a dst : Nat} {r : Req} (hlines : rlines r = [l]) (haddr : r.addr < 0x1800000000)
    (hline : s.rline d l = none) (hnew : s.hbm.fills.find? (fun f => decide (f.die = d) && decide (f.line = l) && !f.stale) = none)
    (hshared : s.shared (l * 64) = true) (hu : s.takeReq r = u) (hloc : s.hbmLocal (l * 64) = (st, a))
    (hdst : 1024 + 16 * st + (s.hbmLoc st a).pc / 2 = dst) (hv : u.sendReq (.rcache d s.hbm.nextId true) (fillReq d l r) dst 1 = v)
    (hroute : u.routed (dieTile d) dst = true) (htag : u.hasTag (fillReq d l r) = true) (hfree : s.tagsFree (dieTile d) 5 ≠ []) :
    s.cacheRead d r [] = State.count { v with
      hbm.nextId := s.hbm.nextId + 1
      hbm.fills := s.hbm.fills ++ [⟨s.hbm.nextId, d, l, false⟩]
      hbm.waits := s.hbm.waits ++ [⟨r, [s.hbm.nextId], [], 0⟩] } F.rcacheCounts_misses d 0 1 := by
  subst hu
  have hvhbm : v.hbm = s.hbm := by
    subst hv
    exact State.sendReq_hbm _ _ _ _ _
  have hfill : (s.takeReq r).startFill d r l = ({ v with
      hbm.nextId := s.hbm.nextId + 1, hbm.fills := s.hbm.fills ++ [⟨s.hbm.nextId, d, l, false⟩] }, some (.inl s.hbm.nextId)) := by
    subst hv
    exact State.startFill_new (s := s.takeReq r) hloc hdst hnew (reqShape_fill hlines haddr) hroute htag hshared
  rw [State.cacheRead_waits hlines hline hnew hfree hfill (by simp), ← congrArg Hbm.waits hvhbm]
  rfl

/-! ### Forwarded requests and responses (R328) -/

section
variable {s : State} {d st l dst : Nat} {r : Req} (hloc : s.hbmLocal r.addr = (st, l)) (hdst : 1024 + 16 * st + (s.hbmLoc st l).pc / 2 = dst)
  (hshape : reqShape r.op r.addr r.size = true) (hroute : s.routed (dieTile d) dst = true)
  (htag : s.hasTag { r with src := dieTile d, sport := 5, rt := false } = true)
include hloc hdst hshape hroute htag

theorem State.cacheForward_sent {v : State} (hv : s.sendReq (.rcache d s.hbm.nextId false) { r with src := dieTile d, sport := 5, rt := false } dst 1 = v) :
    s.cacheForward d r = State.takeReq { v with hbm.nextId := s.hbm.nextId + 1, hbm.fwds := s.hbm.fwds ++ [⟨s.hbm.nextId, r⟩] } r := by
  have hissue := State.issueTo_sent (.rcache d s.hbm.nextId false) 1 (r := { r with src := dieTile d, sport := 5, rt := false }) hshape hroute htag
  have hvhbm : v.hbm = s.hbm := by
    subst hv
    exact State.sendReq_hbm _ _ _ _ _
  rw [hv] at hissue
  simp only [State.cacheForward, hloc, hdst, hissue, hvhbm]

end

theorem exec_cacheFillResponse_outstanding {r : Resp} {s : State} {o : Outst} {d id : Nat} {fill : Bool} (hin : s.net.resps.contains r = true)
    (hout : s.findOut r.src r.sport r.tag r.gen = some o) (hwho : o.who = .rcache d id fill) (hcrc : r.crcOk = true) :
    exec (.cacheFillResponse r) s = .next ((State.retire (s.takeResp r) o).cacheEnd id fill r.svc r.poison r.data false) := by
  refine congrArg Host.Outcome.next ((if_pos (by simp only [hin, State.respFor, hout, hwho, Bool.and_self])).trans ?_)
  simp only [State.arrive_outstanding hout hcrc, hwho]

theorem State.cacheEnd_forwarded {s : State} {id : Nat} {f : RFwd} (svc : Nat) (poison : Bool) (data : List Byte)
    (hfind : s.hbm.fwds.find? (fun f => f.id = id) = some f) : s.cacheEnd id false svc poison data false =
      State.hsend { s with hbm.fwds := s.hbm.fwds.filter (fun x => x.id ≠ id) } f.req svc poison data := by
  simp only [State.cacheEnd, State.fwdDone, hfind, Bool.false_eq_true, if_false]

/-! ### Lines (R327, R329, R371) -/

theorem exec_invalidate_taken {r : Req} {s : State} (hin : s.net.reqs.contains r = true) (hdst : r.dst < 1024) (hcache : r.dst = dieTile (r.dst / 256))
    (hop : r.op = .invalidate) (htags : (s.holdsLine (r.dst / 256) (r.addr / 64)).length ≤ (s.tagsFree r.dst 5).length) :
    exec (.invalidate r) s = .next (State.respond (State.dropLine (s.takeReq r) (r.dst / 256) (r.addr / 64)) r svcOK []) := by
  have hnot : ¬ (!s.net.reqs.contains r ∨ 1024 ≤ r.dst ∨ r.dst ≠ dieTile (r.dst / 256) ∨ r.op ≠ .invalidate) := by
    simp [-List.contains_eq_mem, hin, Nat.not_le.mpr hdst, ← hcache, hop]
  refine congrArg Host.Outcome.next ((if_neg hnot).trans (if_neg ?_))
  rw [← hcache]
  exact Nat.not_lt.mpr htags

theorem State.install_free {s : State} {d line : Nat} (data : List Byte) (h : (s.rset d line).length < 16) : s.install d line data =
    State.setRline { s with hbm.stamp := s.hbm.stamp + 1 } d line (some ⟨data, s.hbm.stamp⟩) := by
  have hnot : ¬ (16 ≤ (s.rset d line).length ∧ (s.rline d line).isNone = true) := fun hfull => absurd hfull.1 (Nat.not_le.mpr h)
  simp only [State.install, if_neg hnot]

theorem State.lineErrs_uncorrectable {s : State} {d l : Nat} {e : LineErr} (hpos : e.pos = 0) (hue : e.ue = true) (hline : (s.rline d l).isSome = true) :
    s.lineErrs d [l] [e] = State.setRline (s.eccError .stack d true 0xB (e.loc % 2 ^ 18) (e.par % 2) (e.syn % 128)) d l none := by
  have hheld : ¬ (s.rline d l).isNone = true := by simp [Option.isNone_iff_eq_none, Option.isSome_iff_ne_none.mp hline]
  simp only [State.lineErrs, List.foldl_cons, List.foldl_nil, hpos, hue, List.getElem?_cons_zero, if_neg hheld, if_true]

theorem State.issueTo_lines {s t : State} {who : Who} {r : Req} {dst dport : Nat} {c : Option Nat} (h : s.issueTo who r dst dport = (t, c)) :
    t.hbm.lines = s.hbm.lines := by
  have hsame : (s.issueTo who r dst dport).1.hbm = s.hbm := by
    rcases s.issueTo_cases who r dst dport with ⟨_, hs⟩ | ⟨_, _, hs⟩ | ⟨_, _, _, hs⟩ | ⟨_, _, _, hs⟩
    · rw [hs]
    · rw [hs]
    · rw [hs]
    · rw [hs]
      exact s.sendReq_hbm who r dst dport
  rw [h] at hsame
  exact congrArg Hbm.lines hsame

/-- A fill that starts leaves the lines as they were. -/
theorem State.startFill_lines (s : State) (d : Nat) (r : Req) (line : Nat) : (s.startFill d r line).1.hbm.lines = s.hbm.lines := by
  unfold State.startFill
  split
  · rfl
  · dsimp only
    split
    · next hissue => exact (State.issueTo_lines hissue :)
    · next hissue => exact (State.issueTo_lines hissue :)
    · next hissue => exact (State.issueTo_lines hissue :)

theorem State.refill_lines (s : State) (d : Nat) (w : RWait) (line : Nat) : (s.refill d w line).1.hbm.lines = s.hbm.lines := by
  have hstart := s.startFill_lines d w.req line
  unfold State.refill
  split <;> simp_all

/-- A read that waits with bytes of a dropped line gets the line again (R329). -/
def State.refillHeld (d line : Nat) (s : State) (w : RWait) : State :=
  let q := s.refill d { w with got := w.got.filter (fun g => g.1 ≠ line) } line
  { q.1 with hbm.waits := q.1.hbm.waits.map (fun x => if x = w then q.2 else x) }

theorem State.dropLine_none {s : State} {d line : Nat} (w : Tbl.wf (fun _ => none) s.hbm.lines = true) : (s.dropLine d line).rline d line = none := by
  have hgone : tget none (tput none s.hbm.lines (rlKey d line) none) (rlKey d line) = none := tget_tput_same (fun _ => none) _ _ none w
  have hlines (l : List RWait) (s : State) : (l.foldl (State.refillHeld d line) s).hbm.lines = s.hbm.lines := by
    induction l generalizing s with
    | nil => rfl
    | cons w l ih => exact (ih _).trans (s.refill_lines d _ line)
  unfold State.rline State.dropLine
  exact (congrArg (fun t => tget none t (rlKey d line)) (hlines _ _)).trans hgone

/-! ### SHARED_WINDOW (R327, R482) -/

section
variable {p : Port} {m : Mbox} {s : State}

theorem exec_sharedWindow_enabled (h : s.ready p m 0x0313) (ht0 : s.portTenant p = 0) (hen : s.arg p m 1 1 = 1)
    (hfree : s.sharesProt (s.arg p m 4 2) (s.arg p m 6 2) = false) (hold : bitAt (s.reg .rcacheWin 0 (s.arg p m 0 1)) 31 = false) :
    exec (.sharedWindow p m) s = .next (State.reply (iter 4 (fun d u => u.setReg .rcacheWin d (s.arg p m 0 1)
      (2 ^ 31 + s.arg p m 6 2 * 65536 + s.arg p m 4 2)) ((s.taken p m).dropRange (s.arg p m 4 2) (s.arg p m 6 2))) p m 0 []) := by
  have hfree' : (s.taken p m).sharesProt (s.arg p m 4 2) (s.arg p m 6 2) = false := hfree
  refine congrArg Host.Outcome.next ((takeMailbox_ready 0x0313 cmdSharedWindow p m s h).trans ?_)
  simp only [cmdSharedWindow, State.ctxOf_num, State.ctxOf_tenant, ht0, hen, hfree', State.taken_reg, hold, ne_eq, not_true_eq_false, if_false, if_true,
    Bool.false_eq_true, and_false, State.answer, State.ctxOf_port, State.ctxOf_mbox]

theorem exec_sharedWindow_outside (htake : s.canTake p m 0x0313 = true) (hlocal : (s.mbox p m).relay = false) (hfull : s.portFull p 0x0313 = false)
    (hlen : (s.mbox p m).payload.length = 8) (hen : s.arg p m 1 1 = 1) (hend : 1536 < s.arg p m 4 2 + s.arg p m 6 2) :
    exec (.sharedWindow p m) s = .next ((s.taken p m).reply p m 0x10 []) := by
  refine congrArg Host.Outcome.next (takeMailbox_refused cmdSharedWindow htake hlocal ?_)
  rw [hfull]
  have hspec : cmdSpec 0x0313 = some (fixed 8 [(0, 1, [(0, 7)]), (1, 1, [(0, 1)]), (4, 2, []), (6, 2, [])]) := rfl
  have hopcode : (s.ctxOf p m).opcode = 0x0313 := State.canTake_opcode htake
  have hfields : fieldsOk 0x0313 (s.mbox p m).payload = false := by
    have hen' : leAt (s.mbox p m).payload 1 1 = 1 := hen
    have hend' : ¬ leAt (s.mbox p m).payload 4 2 + leAt (s.mbox p m).payload 6 2 ≤ 1536 := Nat.not_le.mpr hend
    simp [fieldsOk, hen', hend']
  rw [← hopcode] at hspec hfields
  exact runChecked_malformed cmdSharedWindow (preCheck_reserved hspec (by simp [CmdSpec.lenOk, fixed, hlen]) (by rw [hopcode]; rfl) (.inr hfields))

end

/-- Settles O50: a cache answers a line that it holds, fills one that it misses and forwards what is not a read; a line that is dropped or lost is
gone, and a shared window is set at all four caches. -/
theorem remoteCaches : Obligations.RemoteCaches := by
  unfold Obligations.RemoteCaches
  refine ⟨?denied, ?hit, ?miss, ?forwarded, fun r s o d id fill hin hout hwho hcrc => exec_cacheFillResponse_outstanding hin hout hwho hcrc,
    fun s id svc poison data f hfind => State.cacheEnd_forwarded svc poison data hfind,
    fun r s hin hdst hcache hop htags => exec_invalidate_taken hin hdst hcache hop htags, fun s d line data h => State.install_free data h,
    fun s d l e hpos hue hline => State.lineErrs_uncorrectable hpos hue hline,
    fun a b => ⟨fun ha => if_pos ha, fun ha hb => (if_neg (Nat.not_lt.mpr ha)).trans (if_pos hb),
      fun ha hb => (if_neg (Nat.not_lt.mpr ha)).trans (if_neg (Nat.not_lt.mpr hb))⟩,
    fun s d line w => State.dropLine_none w, fun p m s h ht0 hen _ _ hfree hold => exec_sharedWindow_enabled h ht0 hen hfree hold,
    fun p m s htake hlocal hfull hlen hen hend => exec_sharedWindow_outside htake hlocal hfull hlen hen hend⟩
  case denied =>
    intro r errs s hin hdst hcache haddr hop hcrc hgrant
    exact exec_remoteCacheRequest_denied errs hin hdst hcache haddr hop hcrc Prod.mk.eta.symm hgrant
  case hit =>
    intro r s d l x hin hdst hcache hd haddr hop hcrc hgrant hlines hline
    have hrow := exec_remoteCacheRequest_granted [] hin hdst (by rw [hd]; exact hcache) haddr (by simp [hop]) hcrc Prod.mk.eta.symm (by rw [hop]; exact hgrant) hd
    rw [hrow, if_pos hop, State.cacheRead_hit hlines hline]
  case miss =>
    intro r s d l hin hdst hcache hd haddr hop hcrc hgrant hlines hline hnew hshared u q dst v hroute htag hfree
    have hrow := exec_remoteCacheRequest_granted [] hin hdst (by rw [hd]; exact hcache) haddr (by simp [hop]) hcrc Prod.mk.eta.symm (by rw [hop]; exact hgrant) hd
    rw [hrow, if_pos hop, State.cacheRead_miss hlines haddr hline hnew hshared rfl Prod.mk.eta.symm rfl rfl hroute htag hfree]
    rfl
  case forwarded =>
    intro r errs s d hin hdst hcache hd haddr hread hop hcrc hgrant q dst v hshape hroute htag
    have hrow := exec_remoteCacheRequest_granted errs hin hdst (by rw [hd]; exact hcache) haddr hop hcrc Prod.mk.eta.symm hgrant hd
    rw [hrow, if_neg hread, State.cacheForward_sent Prod.mk.eta.symm rfl hshape hroute htag rfl]

end Sys2Proof.Machine

/-! SUPPORT. Protected windows (14 R338, R340, R345–R347, R351, R352; 21 R482): the scrub of the roots, the commands of group 0x03 on a window, and the
ends of their fills. -/

namespace Sys2Proof.Machine

/-! ### The scrub of the roots (R340, R352) -/

/-- An uncorrectable error of a root fails its window, once. -/
theorem exec_rootScrub_failed {st : Die} {i : Fin 16} {p : Bool} {y : Fin 128} {s u : State} (hon : s.getF F.pwinCtl_state st i ≠ 0)
    (hu : s.eccError .stack st true 0xA i (b2n p) y = u) (hgood : u.getF F.pwinCtl_state st i ≠ 4) :
    exec (.rootScrub st [(i, true, p, y)]) s = .next (State.alarm (u.setF F.pwinCtl_state st i 4) (u.getF F.pwinCtl_tenant st i) 0x0F
      (st.val * 256 + i.val * 4096) 0 (srcOf .prot st)) := by
  subst hu
  exact congrArg Host.Outcome.next ((if_neg hon).trans (if_pos ⟨rfl, hgood⟩))

/-! ### Commands (R345, R347, R351, R482) -/

section
variable {p : Port} {m : Mbox} {s : State}

theorem exec_protEnable_misplaced (h : s.ready p m 0x0320) (hrange : s.enableRange (s.arg p m 0 8) (s.arg p m 8 8) = none) :
    exec (.protEnable p m) s = .next ((s.taken p m).reply p m 0x11 []) := by
  have hrange' : (s.taken p m).enableRange (s.arg p m 0 8) (s.arg p m 8 8) = none := hrange
  refine congrArg Host.Outcome.next ((takeMailbox_ready 0x0320 cmdProtEnable p m s h).trans ?_)
  simp only [cmdProtEnable, State.ctxOf_num, hrange', refuse, State.answer, State.ctxOf_port, State.ctxOf_mbox]

/-- A window on one stack, for its owner, on a free channel, is created and filled. -/
theorem exec_protEnable_created {b u st k i t r : Nat} (h : s.ready p m 0x0320)
    (hrange : (s.taken p m).enableRange (s.arg p m 0 8) (s.arg p m 8 8) = some (b, u, [st])) (hk : 32 * s.arg p m 19 1 + s.arg p m 20 1 = k)
    (howner : (s.taken p m).unitOwner st b = s.portTenant p) (hchan : (s.taken p m).chanTenant k = s.portTenant p)
    (htwin : (s.taken p m).inTwin st b u = true) (hshared : (s.taken p m).meetsShared (s.arg p m 0 8) (s.arg p m 8 8) = false)
    (hfree : (List.range u).any (fun j => ((s.taken p m).pwinAt st (b + j)).isSome) = false) (hbusy : (s.taken p m).protBusy st = false)
    (hdma : (s.taken p m).dmaFree k = true) (hthawed : (s.taken p m).getF F.hbmStatus_state st 0 ≠ 3)
    (hplan : (s.taken p m).enablePlan u [st] = some [(st, i, t, r)]) :
    exec (.protEnable p m) s = .next (State.answer (State.dmaFill ((s.taken p m).pwinCreate st i b u t r
        ⟨s.portTenant p, s.arg p m 16 2, s.arg p m 18 1, k, s.arg p m 24 8⟩) k (16 * st + i) none (s.arg p m 0 8) (s.arg p m 8 8) (s.arg p m 24 8))
      (s.ctxOf p m) (.accepted ((s.ctxOf p m).op k
        ((List.range 4).map (fun x => ((if st = x then some (st, i, t, r) else none).map (fun (q : Nat × Nat × Nat × Nat) => q.2.1)).getD 255))))) := by
  refine congrArg Host.Outcome.next ((takeMailbox_ready 0x0320 cmdProtEnable p m s h).trans ?_)
  simp only [cmdProtEnable, State.ctxOf_num, State.ctxOf_tenant, hrange, hk, howner, hchan, htwin, hshared, hfree, hbusy, hdma, hthawed, hplan,
    List.any_cons, List.any_nil, ne_eq, not_true_eq_false, decide_false, Bool.or_false, Bool.false_eq_true, or_self, if_false, Bool.not_true,
    List.foldl_cons, List.foldl_nil, List.map_cons, List.map_nil, List.headD_cons, List.find?_singleton, decide_eq_true_eq]

section
variable {st i : Nat} (hst : s.arg p m 0 1 = st) (hi : s.arg p m 1 1 = i)
include hst hi

section
variable {k : Nat} (hk : 32 * s.arg p m 2 1 + s.arg p m 3 1 = k) (howns : (s.taken p m).ownsWin (s.portTenant p) st i = true)
  (hchan : (s.taken p m).chanTenant k = s.portTenant p) (hbusy : (s.taken p m).winBusy st i = false) (hdma : (s.taken p m).dmaFree k = true)
include hk howns hchan hbusy hdma

theorem exec_protDisable_accepted {u : State} (h : s.ready p m 0x0321)
    (hu : State.setPwin ((s.taken p m).setF F.pwinCtl_state st i 5) (16 * st + i)
      { State.pwin ((s.taken p m).setF F.pwinCtl_state st i 5) (16 * st + i) with chan := some k, fill := 0 } = u) :
    exec (.protDisable p m) s = .next (State.answer
      (u.dmaFill k (16 * st + i) (u.winFill st i 0).1 (u.winFill st i 0).2 (u.getF F.pwinRange_size st i * 0x4000000) 0)
      (s.ctxOf p m) (.accepted ((s.ctxOf p m).op k [st, i]))) := by
  refine congrArg Host.Outcome.next ((takeMailbox_ready 0x0321 cmdProtDisable p m s h).trans ?_)
  simp only [cmdProtDisable, State.ctxOf_num, State.ctxOf_tenant, hst, hi, hk, howns, hchan, hbusy, hdma, hu, ne_eq, not_true_eq_false, Bool.not_true,
    Bool.false_eq_true, or_self, if_false]

theorem exec_protRebuild_accepted {j n size : Nat} {a b v u : State} (h : s.ready p m 0x0323)
    (hthawed : (s.taken p m).getF F.hbmStatus_state st 0 ≠ 3) (hgood : (s.taken p m).getF F.pwinCtl_state st i ≠ 4)
    (hfault : (s.taken p m).flag F.pwinFault_valid st i = true) (hidle : (s.taken p m).protBusy st = false)
    (hj : (s.taken p m).getF F.pwinFault_level st i = j) (hn : (s.taken p m).getF F.pwinFault_node st i = n)
    (hsize : (s.taken p m).getF F.pwinRange_size st i = size)
    (ha : ((s.taken p m).fetchNode ((s.taken p m).levels st i) st i (j + 1) (n / 8) ProtIn.clean).1 = a)
    (hb : (if j + 1 < a.levels st i then a.setCached st i (j + 1) (n / 8) (some true) else a) = b)
    (hv : State.setF ((b.bumpChild st i j n ProtIn.clean).freshSubtree st i j n) F.pwinCtl_state st i 3 = v)
    (hu : v.setPwin (16 * st + i) { v.pwin (16 * st + i) with chan := some k, fill := s.arg p m 8 8 } = u) :
    exec (.protRebuild p m) s = .next (State.answer
      (u.dmaFill k (16 * st + i) (u.winFill st i (n * (64 * 8 ^ j) * 64)).1 (u.winFill st i (n * (64 * 8 ^ j) * 64)).2
        (min (64 * 8 ^ j) (size * 0x100000 - n * (64 * 8 ^ j)) * 64) (s.arg p m 8 8))
      (s.ctxOf p m) (.accepted ((s.ctxOf p m).op k [st, i]))) := by
  refine congrArg Host.Outcome.next ((takeMailbox_ready 0x0323 cmdProtRebuild p m s h).trans ?_)
  simp only [cmdProtRebuild, State.ctxOf_num, State.ctxOf_tenant, hst, hi, hk, howns, hchan, hbusy, hdma, hthawed, hgood, hfault, hidle, hj, hn, hsize,
    ha, hb, hv, hu, ne_eq, not_true_eq_false, Bool.not_true, Bool.false_eq_true, or_self, if_false]

end

theorem exec_protDisable_other (h : s.ready p m 0x0321) (hother : (s.taken p m).ownsWin (s.portTenant p) st i = false) :
    exec (.protDisable p m) s = .next ((s.taken p m).reply p m 0x12 []) := by
  refine congrArg Host.Outcome.next ((takeMailbox_ready 0x0321 cmdProtDisable p m s h).trans ?_)
  simp only [cmdProtDisable, State.ctxOf_num, State.ctxOf_tenant, hst, hi, hother, Bool.not_false, true_or, if_true, refuse, State.answer,
    State.ctxOf_port, State.ctxOf_mbox]

theorem exec_protRights_owner (h : s.ready p m 0x0322) (howns : (s.taken p m).ownsWin (s.portTenant p) st i = true)
    (hbusy : (s.taken p m).winBusy st i = false) (hgood : (s.taken p m).getF F.pwinCtl_state st i ≠ 4) :
    exec (.protRights p m) s =
      .next (State.reply ((s.taken p m).setReg .pwinRights st i (s.arg p m 4 1 % 2 * 2 ^ 31 + s.arg p m 2 2)) p m 0 []) := by
  refine congrArg Host.Outcome.next ((takeMailbox_ready 0x0322 cmdProtRights p m s h).trans ?_)
  simp only [cmdProtRights, State.ctxOf_num, State.ctxOf_tenant, hst, hi, howns, hbusy, hgood, Bool.not_true, Bool.false_eq_true, if_false, State.answer,
    State.ctxOf_port, State.ctxOf_mbox]

section
variable (h : s.ready p m 0x0324) (hmay : s.portTenant p = 0 ∨ (s.taken p m).ownsWin (s.portTenant p) st i = true)
include h hmay

theorem exec_protStatus_failed (hbad : (s.taken p m).getF F.pwinCtl_state st i = 4) :
    exec (.protStatus p m) s = .next ((s.taken p m).reply p m 0x10 []) := by
  have hnot : ¬ (s.portTenant p ≠ 0 ∧ (!(s.taken p m).ownsWin (s.portTenant p) st i) = true) := fun ⟨ht0, hother⟩ => by simp [hmay.resolve_left ht0] at hother
  refine congrArg Host.Outcome.next ((takeMailbox_ready 0x0324 cmdProtStatus p m s h).trans ?_)
  simp only [cmdProtStatus, State.ctxOf_num, State.ctxOf_tenant, hst, hi, if_neg hnot, hbad, if_true, refuse, State.answer, State.ctxOf_port,
    State.ctxOf_mbox]

theorem exec_protStatus_good (hgood : (s.taken p m).getF F.pwinCtl_state st i ≠ 4) :
    exec (.protStatus p m) s = .next ((s.taken p m).reply p m 0 ([Rg.pwinRange, .pwinCtl, .pwinRights, .pwinMeta, .pwinTamper, .pwinFault].flatMap
      (fun r => leBytes 4 (s.reg r st i)))) := by
  have hnot : ¬ (s.portTenant p ≠ 0 ∧ (!(s.taken p m).ownsWin (s.portTenant p) st i) = true) := fun ⟨ht0, hother⟩ => by simp [hmay.resolve_left ht0] at hother
  refine congrArg Host.Outcome.next ((takeMailbox_ready 0x0324 cmdProtStatus p m s h).trans ?_)
  simp only [cmdProtStatus, State.ctxOf_num, State.ctxOf_tenant, hst, hi, if_neg hnot, hgood, if_false, State.taken_reg, State.answer, State.ctxOf_port,
    State.ctxOf_mbox]

end
end
end

/-! ### The ends of the fills (R345–R347, R351) -/

section
variable {k : Fin 512} {s : State} {o : LongOp} {l : List LongOp} (hrun : s.maltarRuns = true)
include hrun

section
variable (hop : s.opsOn k [0x0320] = o :: l)
include hop

theorem exec_protEnableDone_failed {code : Nat} (hcode : code ≠ 0) (hend : s.fillEnd k ((enableWins o.args).map (·.1)) = some code) :
    exec (.protEnableDone k) s = .next (s.enableFail o code) := by
  refine congrArg Host.Outcome.next ((if_neg (by simp [hrun])).trans ?_)
  cases code with
  | zero => exact absurd rfl hcode
  | succ code => simp only [hop, hend]

theorem exec_protEnableDone_enabled {st i : Nat} (hwins : enableWins o.args = [(st, i)]) (hend : s.fillEnd k [st] = some 0)
    (hstate : s.getF F.pwinCtl_state st i = 1) :
    exec (.protEnableDone k) s = .next (State.finishOp (State.dmaRelease ((s.setF F.pwinCtl_state st i 2).setPwin (16 * st + i)
      { s.pwin (16 * st + i) with chan := none }) k) o 0 (leNat (o.args.map (BitVec.ofNat 8))) 0 []) := by
  refine congrArg Host.Outcome.next ((if_neg (by simp [hrun])).trans ?_)
  simp only [hop, hwins, List.map_cons, List.map_nil, hend, List.all_cons, List.all_nil, hstate, decide_true, Bool.and_self, List.foldl_cons,
    List.foldl_nil, if_true]

end

theorem exec_protDisableDone_cleared (hop : s.opsOn k [0x0321] = o :: l) (hend : s.fillEnd k [lget 0 o.args 0] = some 0) :
    exec (.protDisableDone k) s = .next (State.finishOp ((s.pwinClear (lget 0 o.args 0) (lget 0 o.args 1)).dmaRelease k) o 0 0 0 []) := by
  refine congrArg Host.Outcome.next ((if_neg (by simp [hrun])).trans ?_)
  simp only [hop, hend]

end

/-- The subtree that a rebuild filled holds no unverified node, and the fault of its window is gone (R351). -/
def State.rebuilt (s : State) (st i : Nat) : State :=
  let j := s.getF F.pwinFault_level st i
  let n := s.getF F.pwinFault_node st i
  let w := s.pwin (16 * st + i)
  let a := State.setReg (s.setPwin (16 * st + i)
    { w with unver := w.unver.filter (fun e => !(decide (e.1 ≤ j) && decide (e.2 / 8 ^ (j - e.1) = n))) }) .pwinFault st i 0
  let v := a.setPwin (16 * st + i) { a.pwin (16 * st + i) with chan := none }
  if v.getF F.pwinCtl_state st i = 3 then v.setF F.pwinCtl_state st i 2 else v

theorem exec_protRebuildDone_rebuilt {k : Fin 512} {s : State} {o : LongOp} {l : List LongOp} (hrun : s.maltarRuns = true)
    (hop : s.opsOn k [0x0323] = o :: l) (hend : s.fillEnd k [lget 0 o.args 0] = some 0) : exec (.protRebuildDone k) s =
      .next (State.finishOp ((s.rebuilt (lget 0 o.args 0) (lget 0 o.args 1)).dmaRelease k) o 0 0 0 []) := by
  refine congrArg Host.Outcome.next ((if_neg (by simp [hrun])).trans ?_)
  simp only [hop, hend, State.rebuilt]

/-- Settles O51: each command on a window is answered or starts its fill, and the end of a fill makes its window ENABLED or DISABLED. -/
theorem protectedWindows : Obligations.ProtectedWindows := by
  unfold Obligations.ProtectedWindows
  exact ⟨fun st s => rfl, fun st i p y s u hon hu hgood => exec_rootScrub_failed hon hu hgood,
    fun p m s h hrange => exec_protEnable_misplaced h hrange,
    fun p m s b u st k i t r h hrange hk howner hchan htwin hshared hfree hbusy hdma hthawed hplan =>
      exec_protEnable_created h hrange hk howner hchan htwin hshared hfree hbusy hdma hthawed hplan,
    fun k s h => congrArg Host.Outcome.next (by simp [h]),
    fun k s o l code hrun hop hcode hend => exec_protEnableDone_failed hrun hop hcode hend,
    fun k s o l st i hrun hop hwins hend hstate => exec_protEnableDone_enabled hrun hop hwins hend hstate,
    fun p m s st i k h hst hi hk howns hchan hbusy hdma => exec_protDisable_accepted hst hi hk howns hchan hbusy hdma h rfl,
    fun p m s h hother => exec_protDisable_other rfl rfl h hother,
    fun k s o l hrun hop hend => exec_protDisableDone_cleared hrun hop hend,
    fun p m s st i h hst hi howns hbusy hgood => exec_protRights_owner hst hi h howns hbusy hgood,
    fun p m s st i k h hst hi hk howns hchan hthawed hgood hfault hbusy hidle hdma =>
      exec_protRebuild_accepted hst hi hk howns hchan hbusy hdma h hthawed hgood hfault hidle rfl rfl rfl rfl rfl rfl rfl,
    fun k s o l hrun hop hend => ⟨_, exec_protRebuildDone_rebuilt hrun hop hend, rfl⟩,
    fun p m s st i h hst hi hmay hbad => exec_protStatus_failed hst hi h hmay hbad,
    fun p m s st i h hst hi hmay hgood => exec_protStatus_good hst hi h hmay hgood⟩

end Sys2Proof.Machine

/-! SUPPORT. Error logs and test modes (16 R373, R375, R376; 21 R483), and the in-service test (3 R81; 16 R377–R382). -/

namespace Sys2Proof.Machine

/-! ### Commands (R375, R377, R483) -/

section
variable {p : Port} {m : Mbox} {s : State}

theorem exec_eccTest_tile (h : s.ready p m 0x0330) (ht0 : s.portTenant p = 0) (htile : s.arg p m 0 1 = 0) :
    exec (.eccTest p m) s = .next (State.reply ((s.taken p m).writeEccTestT (s.arg p m 2 2) (s.arg p m 4 4)) p m 0 []) := by
  refine congrArg Host.Outcome.next ((takeMailbox_ready 0x0330 cmdEccTest p m s h).trans ?_)
  simp only [cmdEccTest, State.ctxOf_num, State.ctxOf_tenant, ht0, htile, ne_eq, not_true_eq_false, decide_true, if_false, if_true, State.answer,
    State.ctxOf_port, State.ctxOf_mbox]

theorem exec_eccTest_noTile (htake : s.canTake p m 0x0330 = true) (hlocal : (s.mbox p m).relay = false) (hfull : s.portFull p 0x0330 = false)
    (hlen : (s.mbox p m).payload.length = 8) (htile : s.arg p m 0 1 = 0) (hout : 1024 ≤ s.arg p m 2 2) :
    exec (.eccTest p m) s = .next ((s.taken p m).reply p m 0x10 []) := by
  refine congrArg Host.Outcome.next (takeMailbox_refused cmdEccTest htake hlocal ?_)
  have hspec : cmdSpec 0x0330 = some (fixed 8 [(0, 1, [(0, 1)]), (2, 2, []), (4, 4, [])]) := rfl
  have hopcode : (s.ctxOf p m).opcode = 0x0330 := State.canTake_opcode htake
  have hfields : fieldsOk 0x0330 (s.mbox p m).payload = false := by
    have htile' : leAt (s.mbox p m).payload 0 1 = 0 := htile
    have hout' : ¬ leAt (s.mbox p m).payload 2 2 < 1024 := Nat.not_lt.mpr hout
    simp only [fieldsOk, htile', hout', if_true, decide_false, Bool.false_and]
  rw [← hopcode] at hspec hfields
  rw [hfull]
  exact runChecked_malformed cmdEccTest (preCheck_reserved hspec (by simp [CmdSpec.lenOk, fixed, hlen]) (by rw [hopcode]; rfl) (.inr hfields))

theorem exec_eccLog_tile (h : s.ready p m 0x0331) (ht0 : s.portTenant p = 0) (htile : s.arg p m 0 1 = 0) (hkeep : s.arg p m 1 1 = 0) :
    exec (.eccLog p m) s = .next ((s.taken p m).reply p m 0 (leBytes 4 (s.reg .eccCountT (s.arg p m 2 2) 0) ++ (List.range 16).flatMap
      (fun k => leBytes 4 (s.reg EGroup.tile.loR (s.arg p m 2 2) k) ++ leBytes 4 (s.reg EGroup.tile.hiR (s.arg p m 2 2) k)))) := by
  refine congrArg Host.Outcome.next ((takeMailbox_ready 0x0331 cmdEccLog p m s h).trans ?_)
  simp only [cmdEccLog, State.ctxOf_num, State.ctxOf_tenant, ht0, htile, hkeep, eccGroup, State.eccBytesOf, EGroup.countR, State.taken_reg, ne_eq,
    not_true_eq_false, false_and, if_false, if_true, zero_ne_one, decide_false, Bool.false_eq_true, State.answer, State.ctxOf_port, State.ctxOf_mbox]

theorem exec_istSchedule_owner (h : s.ready p m 0x0340) (ht0 : s.portTenant p = 0) :
    exec (.istSchedule p m) s = .next (State.reply { s.taken p m with ecc.period := (List.range 5).map (fun k =>
      if s.arg p m (8 * k) 8 = 2 ^ 64 - 1 then s.ecc.period.getD k 0 else s.arg p m (8 * k) 8) } p m 0 []) := by
  refine congrArg Host.Outcome.next ((takeMailbox_ready 0x0340 cmdIstSchedule p m s h).trans ?_)
  simp only [cmdIstSchedule, State.ctxOf_num, State.ctxOf_tenant, ht0, ne_eq, not_true_eq_false, if_false, State.answer, State.ctxOf_port,
    State.ctxOf_mbox]
  rfl

end

/-! ### Test modes (R373, R375, R376) -/

section
variable {r : Req} {s : State} {i v : Nat}

theorem State.writeReg_eccLogctlT (q : Rq) (hok : Rg.eccLogctlT.okWrite v = true) (hclear : bitAt v 31 = true) :
    s.writeReg q .eccLogctlT i 0 v = s.eccClear .tile i :=
  (State.writeReg_tile hok rfl).trans (if_pos hclear)

theorem exec_eccClear_tile (h : s.grantsWrite r .eccLogctlT i 0 v) (hclear : bitAt v 31 = true) :
    exec (.eccClear r) s = .next (State.respond ((s.takeReq r).eccClear .tile i) r svcOK []) := by
  refine (regRow_granted .eccLogctlT i 0 v _ r s h (by simp [hclear])).trans ?_
  rw [State.writeReg_eccLogctlT _ h.okWrite hclear]

/-- Each row of ECC_TEST of a tile is the write of the whole register. -/
theorem regRow_eccTestT {p : Rg → Nat → Bool} (h : s.grantsWrite r .eccTestT i 0 v) (hp : p .eccTestT v = true) :
    regRow .write p r s = .next (State.respond ((s.takeReq r).writeEccTestT i v) r svcOK []) := by
  rw [regRow_granted .eccTestT i 0 v p r s h hp, State.writeReg_tile h.okWrite rfl]
  rfl

theorem State.writeReg_eccTestS (q : Rq) (hok : Rg.eccTestS.okWrite v = true) : s.writeReg q .eccTestS i 0 v = s.writeEccTestS i v := by
  rw [State.writeReg, hok]
  rfl

theorem State.writeEccTestS_armed {u : State} (harm : bitAt v 31 = true) (hu : s.setReg .eccTestS i 0 (Rg.eccTestS.written (s.reg .eccTestS i 0) v) = u) :
    s.writeEccTestS i v = { u with ecc.sev := tput 0 u.ecc.sev i (bits v 1 0) } := by
  simp only [State.writeEccTestS, hu, harm, if_true]

theorem exec_sevInj_armed {u : State} (h : s.grantsWrite r .eccTestS i 0 v) (harm : bitAt v 31 = true)
    (hu : (s.takeReq r).setReg .eccTestS i 0 (Rg.eccTestS.written (s.reg .eccTestS i 0) v) = u) :
    exec (.sevInj r) s = .next (State.respond { u with ecc.sev := tput 0 u.ecc.sev i (bits v 1 0) } r svcOK []) := by
  refine (regRow_granted .eccTestS i 0 v _ r s h (by simp)).trans ?_
  rw [State.writeReg_eccTestS _ h.okWrite, State.writeEccTestS_armed harm ((congrArg (fun w => (s.takeReq r).setReg .eccTestS i 0
    (Rg.eccTestS.written w v)) (s.takeReq_reg r .eccTestS i 0)).trans hu)]

end

/-! ### Passes of the in-service test (R81, R377–R382) -/

/-- Steps that each leave a state as it was leave it so in a row. -/
theorem iter_fixed {σ : Type} {n : Nat} {f : Nat → σ → σ} {s : σ} (h : ∀ i < n, f i s = s) : iter n f s = s := by
  have hlist (l : List Nat) (hl : ∀ i ∈ l, f i s = s) : l.foldl (fun a i => f i a) s = s := by
    induction l with
    | nil => rfl
    | cons i l ih => rw [List.foldl_cons, hl i List.mem_cons_self, ih (fun j hj => hl j (List.mem_cons_of_mem i hj))]
  exact hlist (List.range n) (fun i hi => h i (List.mem_range.mp hi))

section
variable {late : Bool} {s : State}

theorem exec_tileScrub_empty (hrun : s.istRuns 0 = true) (heng : s.eng = []) (hblks : s.fab.blks = []) :
    exec (.tileScrub late) s = .next (s.istDone 0 late) := by
  refine congrArg Host.Outcome.next ((if_neg (by simp [hrun])).trans ?_)
  simp only [heng, hblks, List.foldl_nil]

section
variable (hrun : s.istRuns 1 = true)
include hrun

theorem exec_linkTest_clean : exec (.linkTest late []) s = .next (s.istDone 1 late) :=
  congrArg Host.Outcome.next (if_neg (by simp [hrun]))

theorem exec_linkTest_uncorrectable {t : Tile} {p : Fin 8} (hon : s.portOn t p = true) :
    exec (.linkTest late [(t, p, true)]) s = .next ((s.inputFault t p).istDone 1 late) := by
  refine congrArg Host.Outcome.next ((if_neg (by simp [hrun])).trans ?_)
  simp only [List.foldl_cons, List.foldl_nil, hon, Bool.not_true, Bool.false_eq_true, if_false, if_true]

theorem exec_linkTest_corrected {t : Tile} {p : Fin 8} (hon : s.portOn t p = true) :
    exec (.linkTest late [(t, p, false)]) s = .next ((s.count F.rtrErrors_corrected t 0 1).istDone 1 late) := by
  refine congrArg Host.Outcome.next ((if_neg (by simp [hrun])).trans ?_)
  simp only [List.foldl_cons, List.foldl_nil, hon, Bool.not_true, Bool.false_eq_true, if_false]

end

theorem exec_seamSpareTest_fabric {d : Die} {p : Fin 2} {c : Fin 16} {b : Fin 64} {line : Fin 68} (hrun : s.istRuns 2 = true) (hb : b.val < 48) :
    exec (.seamSpareTest late [(d, p, c, b, line)]) s = .next ((s.lineFails d p c b line).istDone 2 late) := by
  have hfabric : ¬ (48 ≤ b.val ∧ s.flexOn d p c ((b.val - 48) / 4) = true) := fun hflex => absurd hflex.1 (Nat.not_le.mpr hb)
  refine congrArg Host.Outcome.next ((if_neg (by simp [hrun])).trans ?_)
  simp only [List.foldl_cons, List.foldl_nil, if_neg hfabric]

theorem State.lineFails_moved {d p c b line : Nat} (h : s.lineCarries (fkey (seamOf d p) c b) line = (false, none)) : s.lineFails d p c b line = s := by
  simp only [State.lineFails, h]

/-! ### The patrol (R376, R381) -/

theorem State.patrolStack_paused {st : Nat} (reps : List (Nat × Nat)) (h : s.hbmSt st ≠ 1) : s.patrolStack st reps = s := if_pos h

theorem exec_hbmPatrol_paused (reps : List (Die × Fin 0x30000000 × Fin 4)) (hrun : s.istRuns 3 = true) (hpaused : ∀ st < 4, s.hbmSt st ≠ 1) :
    exec (.hbmPatrol late reps) s = .next (s.istDone 3 late) := by
  refine congrArg Host.Outcome.next ((if_neg (by simp [hrun])).trans (congrArg (fun u => State.istDone u 3 late) ?_))
  exact iter_fixed (fun st hst => State.patrolStack_paused _ (hpaused st hst))

theorem State.patrolAcc_corrected {st a sev : Nat} (h : sev = 1 ∨ sev = 2) :
    s.patrolAcc st a sev = (s.activate st (32 * a)).eccError .stack st false 8 a 0 sev :=
  (if_neg (by omega)).trans (if_pos (by omega))

section
variable {st : Nat} (reps : List (Nat × Nat)) (hready : s.hbmSt st = 1) (htest : s.flag F.eccTestS_testEn st 0 = true)
include hready htest

theorem State.patrolStack_injects : s.patrolStack st reps = s.patrolInject st := (if_neg (fun h => h hready)).trans (if_pos htest)

end

section
variable {st a v : Nat} {u : State} (hv : tget 0 s.ecc.sev st = v) (ha : tget 0 s.ecc.patrol st = a)
  (hu : State.activate { s with ecc.sev := tput 0 s.ecc.sev st 0 } st (32 * a) = u)
include hv ha hu

theorem State.patrolInject_corrected (hlow : v = 1 ∨ v = 2) : s.patrolInject st = u.eccError .stack st false 8 a 0 v := by
  have hsome : v ≠ 0 := by omega
  have hgood : v ≠ 3 := by omega
  simp only [State.patrolInject, hv, ha, hu, hsome, hgood, decide_false, if_false]

theorem State.patrolInject_frozen (hbad : v = 3) : s.patrolInject st = State.hbmFreeze (u.eccError .stack st true 8 a 0 3) st 1 (32 * a) := by
  simp only [State.patrolInject, hv, ha, hu, hbad, OfNat.ofNat_ne_zero, decide_true, if_false, if_true]

end

/-! ### The store margin check (R382) -/

theorem exec_storeMarginCheck_lost {d : Die} {b : Fin 786432} (hrun : s.istRuns 4 = true) (hidle : s.storeBusy = false) :
    exec (.storeMarginCheck late [(d, b, none)]) s = .next ((s.marginBlock d b none).istDone 4 late) := by
  have hgo : ¬ (!s.istRuns 4 || s.storeBusy) = true := by simp [hrun, hidle]
  refine congrArg Host.Outcome.next ((if_neg hgo).trans ?_)
  simp only [List.foldl_cons, List.foldl_nil, Option.map_none]

theorem State.marginBlock_few {d b n : Nat} (hsome : 0 < n) (hfew : n < 4) : s.marginBlock d b (some n) = s.eccError .store d false 0xC b 0 0 := by
  cases n with
  | zero => exact absurd hsome (Nat.lt_irrefl 0)
  | succ n => exact if_pos (.inl hfew)

theorem State.marginBlock_moved {d b n : Nat} {u : State} (hmany : 4 ≤ n) (hu : s.eccError .store d false 0xC b 0 0 = u)
    (hspare : tget 0 u.ld.spares d + 1 < 4096) : s.marginBlock d b (some n) = { u with
      ld.spares := tput 0 u.ld.spares d (tget 0 u.ld.spares d + 1)
      ld.remap := tput 0 u.ld.remap (d * 2 ^ 20 + b) (tget 0 u.ld.spares d + 1) } := by
  cases n with
  | zero => exact absurd hmany (by decide)
  | succ n =>
    have hmove : ¬ (n + 1 < 4 ∨ 4096 ≤ tget 0 u.ld.spares d) := by omega
    have hleft : tget 0 u.ld.spares d + 1 ≠ 4096 := by omega
    simp only [State.marginBlock, hu, if_neg hmove, if_neg hleft]

end

/-- Settles O52: a test mode arms what its register names, a command reads or schedules, and each pass of the in-service test acts on what it finds
and notes its end. -/
theorem testModes : Obligations.TestModes := by
  unfold Obligations.TestModes
  exact ⟨fun p m s h ht0 htile _ _ => exec_eccTest_tile h ht0 htile,
    fun p m s htake hlocal hfull hlen htile hout => exec_eccTest_noTile htake hlocal hfull hlen htile hout,
    fun p m s h ht0 htile hkeep _ => exec_eccLog_tile h ht0 htile hkeep, fun p m s h ht0 _ => exec_istSchedule_owner h ht0,
    fun r s t v h hclear => exec_eccClear_tile h hclear, fun r s t v h hflip => regRow_eccTestT h (by simp [hflip]),
    fun r s t v h harm => regRow_eccTestT h (by simp [harm]), fun s t v h => if_neg (by simp [h]),
    fun r s st v h harm _ => exec_sevInj_armed h harm rfl, fun late s h => congrArg Host.Outcome.next (if_pos (by simp [h])),
    fun late s hrun heng hblks => exec_tileScrub_empty hrun heng hblks,
    fun late t p s hrun hon => ⟨exec_linkTest_uncorrectable hrun hon, exec_linkTest_corrected hrun hon⟩,
    fun late s hrun => exec_linkTest_clean hrun, fun late d p c b line s hrun hb => exec_seamSpareTest_fabric hrun hb,
    fun s d p c b line h => State.lineFails_moved h, fun late reps s hrun hpaused => exec_hbmPatrol_paused reps hrun hpaused,
    fun s st a sev h => State.patrolAcc_corrected h,
    fun s st reps hready htest =>
      have hinject := State.patrolStack_injects reps hready htest
      ⟨fun hnone => hinject.trans (if_pos hnone), fun hlow => hinject.trans (State.patrolInject_corrected rfl rfl rfl hlow),
        fun hbad => hinject.trans (State.patrolInject_frozen rfl rfl rfl hbad)⟩,
    fun late d b s hrun hidle => exec_storeMarginCheck_lost hrun hidle, fun s d b n hsome hfew => State.marginBlock_few hsome hfew,
    fun s u d b n hmany hu hspare => State.marginBlock_moved hmany hu hspare⟩

end Sys2Proof.Machine

/-! SUPPORT. The link sequencer of a line lane and its detectors (17 R387, R389–R395, R403). -/

namespace Sys2Proof.Machine

/-! ### What keeps the words of LN_STATE -/

theorem lnState_valid {l : Nat} (h : l < 192) : Rg.lnState.valid (l / 4) (l % 4) = true :=
  (Rg.valid_iff _ _ _).2 ⟨show l / 4 < 48 by omega, show l % 4 < 4 by omega, rfl⟩

/-- An update keeps the canonical form of the registers, and every LN_STATE word. -/
def State.keepsLnState (s t : State) : Prop := s.regsWf = true → t.regsWf = true ∧ ∀ l < 192, t.ln .lnState l = s.ln .lnState l

theorem State.keepsLnState_refl (s : State) : s.keepsLnState s := fun w => ⟨w, fun _ _ => rfl⟩

theorem State.keepsLnState.trans {s t u : State} (h : s.keepsLnState t) (h' : t.keepsLnState u) : s.keepsLnState u := fun w =>
  have ⟨wt, ht⟩ := h w
  have ⟨wu, hu⟩ := h' wt
  ⟨wu, fun l hl => (hu l hl).trans (ht l hl)⟩

/-- Only a register write can touch a word. -/
theorem State.keepsLnState_of_regs {s t : State} (h : t.regs = s.regs) : s.keepsLnState t := fun w =>
  ⟨by rw [State.regsWf, h]; exact w, fun l _ => by rw [State.ln, State.ln, State.reg, State.reg, h]⟩

theorem State.keepsLnState_setF {f : FRef} {i j : Nat} (s : State) (v : Nat) (hvalid : f.rg.valid i j = true) (hother : f.rg ≠ .lnState) :
    s.keepsLnState (s.setF f i j v) := fun w =>
  ⟨s.regsWf_setReg _ i j _ w (rstAt_key hvalid),
    fun _ hl => s.reg_setReg_other _ _ i j _ _ _ w (Rg.key_ne hvalid (lnState_valid hl) (fun heq => hother (congrArg Prod.fst heq).symm))⟩

theorem State.keepsLnState_foldl {ι : Type} {f : State → ι → State} {l : List ι} (h : ∀ s, ∀ a ∈ l, State.keepsLnState s (f s a)) (s : State) :
    s.keepsLnState (l.foldl f s) := by
  induction l generalizing s with
  | nil => exact s.keepsLnState_refl
  | cons a l ih =>
    exact (h s a List.mem_cons_self).trans (ih (fun s b hb => h s b (List.mem_cons_of_mem a hb)) _)

theorem State.keepsLnState_ite {c : Prop} [Decidable c] {s t u : State} (ht : s.keepsLnState t) (hu : s.keepsLnState u) :
    s.keepsLnState (if c then t else u) := by
  split
  · exact ht
  · exact hu

theorem tkStatus_valid {n : Nat} (h : n < 8) : Rg.tkStatus.valid 0 n = true := by interval_cases n <;> decide

/-! ### Events, alarms and the carrier (R209, R403, R438, R462) -/

theorem State.keepsLnState_evLost (s : State) {d : Nat} (hd : d < 4) : s.keepsLnState (s.evLost d) := by
  refine State.keepsLnState_ite s.keepsLnState_refl (State.keepsLnState_foldl (fun u e he => ?_) s)
  have he4 : e < 4 := by
    split at he
    · exact (List.mem_singleton.mp he).trans_lt hd
    · exact List.mem_range.mp (List.mem_of_mem_filter he)
  refine State.keepsLnState_foldl (fun v n hn => State.keepsLnState_ite v.keepsLnState_refl ?_) u
  have hn4 : n < 4 := by
    rcases List.mem_cons.mp hn with rfl | hn
    · exact across_lt 0 he4
    · rw [List.mem_singleton.mp hn]
      exact across_lt 1 he4
  exact v.keepsLnState_setF _ (seamCounts_valid hn4) Rg.noConfusion

theorem State.keepsLnState_raiseEv (s : State) {d : Nat} (tenant line : Nat) (hd : d < 4) : s.keepsLnState (s.raiseEv d tenant line) := by
  refine State.keepsLnState_ite ?_ (s.keepsLnState_setF _ (by decide) Rg.noConfusion)
  refine State.keepsLnState.trans (State.keepsLnState_of_regs ?_) (State.keepsLnState_evLost _ hd)
  exact State.evForward_regs _ _ _ _

theorem State.keepsLnState_updHoldover (s : State) : s.keepsLnState s.updHoldover := by
  refine State.keepsLnState_foldl (fun u n hn => State.keepsLnState_ite u.keepsLnState_refl ?_) s
  exact (u.keepsLnState_setF _ (tkStatus_valid (List.mem_range.mp hn)) Rg.noConfusion).trans
    (State.keepsLnState_ite (State.keepsLnState_raiseEv _ _ _ (by decide)) (State.keepsLnState_refl _))

theorem State.keepsLnState_carRequest (s : State) (c : Nat) : s.keepsLnState (s.carRequest c) := by
  unfold State.carRequest
  split
  · exact State.keepsLnState_of_regs rfl
  · refine State.keepsLnState_ite s.keepsLnState_refl ?_
    have hswitching (u : State) : u.keepsLnState (u.setF F.carStatus_switching 0 0 1) := u.keepsLnState_setF 1 (by decide) Rg.noConfusion
    have hlocked (u : State) : u.keepsLnState (u.setF F.carStatus_locked 0 0 0) := u.keepsLnState_setF 0 (by decide) Rg.noConfusion
    have hstarts : s.keepsLnState { s with clk.car := some (s.getF F.carStatus_active 0 0, c), tmr.holdover := true } := State.keepsLnState_of_regs rfl
    exact ((hstarts.trans (hswitching _)).trans (hlocked _)).trans (State.keepsLnState_updHoldover _)

theorem State.keepsLnState_queuePort (s : State) {p : Nat} (e : EvRec) (hp : p < 5) : s.keepsLnState (s.queuePort p e) := by
  have hvalid : Rg.hpCounts.valid p 0 = true := by interval_cases p <;> decide
  have hcount : s.keepsLnState (s.count F.hpCounts_eventsLost p 0 1) := s.keepsLnState_setF _ hvalid Rg.noConfusion
  unfold State.queuePort
  exact (State.keepsLnState_ite hcount s.keepsLnState_refl).trans (State.keepsLnState_of_regs (State.setPort_regs _ _ _))

theorem State.keepsLnState_queueEv (s : State) (tenant kind code source data : Nat) : s.keepsLnState (s.queueEv tenant kind code source data) := by
  unfold State.queueEv iter
  exact State.keepsLnState_foldl (fun u p hp => State.keepsLnState_ite (u.keepsLnState_queuePort _ (List.mem_range.mp hp)) u.keepsLnState_refl) s

theorem State.keepsLnState_alarm (s : State) (tenant cause fields code source : Nat) : s.keepsLnState (s.alarm tenant cause fields code source) := by
  unfold State.alarm
  have hlatched : s.keepsLnState { s with hosts.alarms := s.hosts.alarms ++ [⟨tenant, cause⟩] } := State.keepsLnState_of_regs rfl
  exact hlatched.trans (State.keepsLnState_queueEv _ _ _ _ _ _)

theorem State.keepsLnState_carrierLost (s : State) (l : Nat) : s.keepsLnState (s.carrierLost l) := by
  refine State.keepsLnState_ite ?_ s.keepsLnState_refl
  exact ((s.keepsLnState_carRequest 0x28).trans (State.keepsLnState_setF _ _ (by decide) Rg.noConfusion)).trans
    (State.keepsLnState_alarm _ _ _ _ _ _)

theorem State.keepsLnState_lnEv (s : State) {l : Nat} (hl : l < 192) : s.keepsLnState (s.lnEv l) :=
  State.keepsLnState_ite (s.keepsLnState_raiseEv _ _ (by omega)) s.keepsLnState_refl

/-! ### The detectors (R403) -/

/-- LOS and LOL lie apart from STATE in LN_STATE. -/
theorem State.lnSt_detector {s : State} {l n : Nat} (v : Nat) (w : s.regsWf = true) (hl : l < 192) (hn : n = 28 ∨ n = 27) :
    (s.setLnF ⟨.lnState, n, n⟩ l v).regsWf = true ∧ (s.setLnF ⟨.lnState, n, n⟩ l v).lnSt l = s.lnSt l := by
  have he := rstAt_key (lnState_valid hl)
  refine ⟨s.regsWf_setReg _ _ _ _ w he, ?_⟩
  have hreg := s.reg_setReg_same .lnState (l / 4) (l % 4) (setBits (s.reg .lnState (l / 4) (l % 4)) n n v) w he
  have hbits (x : Nat) : bits (setBits x n n v % 2 ^ 32) 31 29 = bits x 31 29 := by
    rcases hn with rfl | rfl <;> simp only [bits, setBits] <;> omega
  exact (congrArg (fun x => bits x 31 29) hreg).trans (hbits _)

theorem State.lnSt_of_kept {s t : State} {l : Nat} (w : s.regsWf = true) (hl : l < 192) (h : s.keepsLnState t) : t.lnSt l = s.lnSt l :=
  congrArg (fun x => bits x 31 29) ((h w).2 l hl)

/-- What follows the change of a detector keeps the state. -/
theorem State.lnSt_afterDetector {s : State} {l n : Nat} (v : Nat) (b : Bool) (w : s.regsWf = true) (hl : l < 192) (hn : n = 28 ∨ n = 27) :
    (if b then ((s.setLnF ⟨.lnState, n, n⟩ l v).lnEv l).carrierLost l else (s.setLnF ⟨.lnState, n, n⟩ l v).lnEv l).lnSt l = s.lnSt l := by
  obtain ⟨wu, hu⟩ := State.lnSt_detector v w hl hn
  have hev := State.keepsLnState_lnEv (s.setLnF ⟨.lnState, n, n⟩ l v) hl
  exact (State.lnSt_of_kept wu hl (State.keepsLnState_ite (hev.trans (State.keepsLnState_carrierLost _ l)) hev)).trans hu

theorem State.lnSt_setLos {s : State} {l : Nat} (b : Bool) (w : s.regsWf = true) (hl : l < 192) : (s.setLos l b).lnSt l = s.lnSt l := by
  unfold State.setLos
  split
  · rfl
  · exact State.lnSt_afterDetector _ b w hl (.inl rfl)

theorem State.lnSt_setLol {s : State} {l : Nat} (b : Bool) (w : s.regsWf = true) (hl : l < 192) : (s.setLol l b).lnSt l = s.lnSt l := by
  unfold State.setLol
  split
  · rfl
  · exact State.lnSt_afterDetector _ b w hl (.inr rfl)

section
variable {l : Lane} {s : State}

theorem exec_losAssert_inactive (w : s.regsWf = true) (hon : s.lnSt l ≠ 0) (hinactive : s.lnSt l ≠ 5) :
    exec (.losAssert l) s = .next (s.setLos l true) := by
  refine congrArg Host.Outcome.next ((if_neg hon).trans (if_neg ?_))
  rw [State.lnSt_setLos true w l.isLt]
  exact hinactive

theorem exec_lolAssert_inactive (w : s.regsWf = true) (hon : s.lnSt l ≠ 0) (hinactive : s.lnSt l ≠ 5) :
    exec (.lolAssert l) s = .next (s.setLol l true) := by
  refine congrArg Host.Outcome.next ((if_neg hon).trans (if_neg ?_))
  rw [State.lnSt_setLol true w l.isLt]
  exact hinactive

theorem State.setLos_clears {n : Nat} {b : Bool} (hother : s.lnOn F.lnState_los n = !b) (hb : b = false) :
    s.setLos n b = (s.setLnF F.lnState_los n 0).lnEv n := by
  subst hb
  exact (if_neg (by simp [hother])).trans (if_neg Bool.false_ne_true)

end

/-! ### Detection and hunting (R391, R392) -/

section
variable {l : Lane} {s : State} (hst : s.lnSt l = 1)
include hst

theorem exec_losClearHeld_fixed (hlow : 1 ≤ (s.lane l).mode) (hhigh : (s.lane l).mode ≤ 5) (hlos : s.lnOn F.lnState_los l = false) :
    exec (.losClearHeld l) s = .next (s.enterTrain l (s.lane l).mode 0) :=
  congrArg Host.Outcome.next (if_pos ⟨hst, hlow, hhigh, by simp [hlos]⟩)

section
variable (hown : ownMode (s.lane l).mode = true) (hentries : (s.lane l).entries ≠ []) (hheld : (s.lane l).held = none)
include hown hentries hheld

theorem exec_huntDwellEnd_match : exec (.huntDwellEnd l true) s = .next (State.setLnF (s.setLane l { s.lane l with
    first := true, held := some (s.lane l).rxEntry, txEntry := (s.lane l).rxEntry }) F.lnState_hunt l (s.lane l).rxEntry) := by
  refine congrArg Host.Outcome.next ((if_pos ⟨hst, hown, by simp [hentries]⟩).trans ?_)
  simp only [hheld, if_true]

theorem exec_huntDwellEnd_next :
    exec (.huntDwellEnd l false) s = .next (s.tryEntry l ((s.lane l).nextEntry (s.lane l).rxEntry)) := by
  refine congrArg Host.Outcome.next ((if_pos ⟨hst, hown, by simp [hentries]⟩).trans ?_)
  simp only [hheld, Bool.false_eq_true, if_false]

end

theorem exec_huntTxStep_searching (hown : ownMode (s.lane l).mode = true) (hfirst : (s.lane l).first = false) :
    exec (.huntTxStep l) s = .next (s.setLane l { s.lane l with txEntry := (s.lane l).nextEntry (s.lane l).txEntry }) :=
  congrArg Host.Outcome.next (if_pos ⟨hst, hown, by simp [hfirst]⟩)

end

/-! ### Auto-negotiation (R389, R390) -/

@[simp] theorem State.sendUnit_lanes (s : State) (d p i typ pay : Nat) : (s.sendUnit d p i typ pay).lanes = s.lanes := (rfl)

@[simp] theorem State.evForward_lanes (s : State) (d : Nat) (via : Option Nat) (mask : Nat) : (s.evForward d via mask).lanes = s.lanes := by
  unfold State.evForward
  exact foldl_keeps State.lanes _ (fun u p => u.sendUnit_lanes d p 0x80 4 mask) _ s

@[simp] theorem State.evLost_lanes (s : State) (d : Nat) : (s.evLost d).lanes = s.lanes := by
  have hcount (u : State) (n : Nat) : (if u.cutOff n then u else u.count F.seamCounts_eventsLost n 0 1).lanes = u.lanes := by
    split <;> simp
  unfold State.evLost
  split
  · rfl
  · exact foldl_keeps State.lanes _ (fun u e => foldl_keeps State.lanes _ hcount _ u) _ s

@[simp] theorem State.raiseEv_lanes (s : State) (d tenant line : Nat) : (s.raiseEv d tenant line).lanes = s.lanes := by
  simp [State.raiseEv, apply_ite State.lanes]

@[simp] theorem State.lnEv_lanes (s : State) (l : Nat) : (s.lnEv l).lanes = s.lanes := by
  simp [State.lnEv, apply_ite State.lanes]

@[simp] theorem State.setLn_lanes (s : State) (g : Rg) (l v : Nat) : (s.setLn g l v).lanes = s.lanes := (rfl)
@[simp] theorem State.setLnF_lanes (s : State) (f : FRef) (l v : Nat) : (s.setLnF f l v).lanes = s.lanes := (rfl)

@[simp] theorem State.setLnSt_lanes (s : State) (l v : Nat) : (s.setLnSt l v).lanes = s.lanes := by
  simp [State.setLnSt, apply_ite State.lanes]

@[simp] theorem State.enterTrain_lanes (s : State) (l link fec : Nat) : (s.enterTrain l link fec).lanes = s.lanes := by
  simp [State.enterTrain, apply_ite State.lanes]

@[simp] theorem State.useRate_lanes (s : State) (l rate : Nat) : (s.useRate l rate).lanes = s.lanes := by
  unfold State.useRate
  cases ratePlan (s.refHz (l / 4)) rate <;> rfl

theorem State.anResolve_lane (s : State) (l mode fec n : Nat) : (s.anResolve l mode fec).lane n = s.lane n := by
  simp only [State.lane, State.anResolve, State.enterTrain_lanes, State.useRate_lanes]

section
variable {l : Lane} {mode : Fin 16} {fec : Fin 3} {s : State} (hst : s.lnSt l = 1) (hmode : (s.lane l).mode = 6)
  (hresolves : anResolves (s.lnF F.lnAn_abil l) (l.val % 4) mode fec = true)
include hst hmode hresolves

theorem exec_anComplete_single (hone : mode.val ≠ 3) :
    exec (.anComplete l mode fec) s = .next ((s.useRate l (stdRate mode)).enterTrain l mode fec) :=
  congrArg Host.Outcome.next ((if_pos ⟨hst, hmode, hresolves⟩).trans (if_neg hone))

/-- 10GBASE-KX4 takes the lanes of its quad that negotiate: here, none but its own. -/
theorem exec_anComplete_quad (hquad : mode.val = 3) (halone : ∀ n, 1 ≤ n → n ≤ 3 → (s.lane (l.val + n)).mode ≠ 6) :
    exec (.anComplete l mode fec) s = .next ((s.useRate l 3125000000).enterTrain l 3 fec) := by
  have hstays (n : Nat) (hn : n < 3) : ¬ ((s.anResolve l mode fec).lnSt (l.val + n + 1) = 1 ∧
      ((s.anResolve l mode fec).lane (l.val + n + 1)).mode = 6) := by
    rintro ⟨-, hfollows⟩
    rw [State.anResolve_lane] at hfollows
    exact halone (n + 1) (by omega) (by omega) hfollows
  refine congrArg Host.Outcome.next ((if_pos ⟨hst, hmode, hresolves⟩).trans ((if_pos hquad).trans ((iter_fixed ?_).trans ?_)))
  · exact fun n hn => if_neg (hstays n hn)
  · have hrate : stdRate 3 = 3125000000 := rfl
    rw [State.anResolve, hquad, hrate]

end

/-- A lane that advances no backplane mode resolves none. -/
theorem anResolves_none {a : Nat} (lane mode fec : Nat) (h4 : bitAt a 4 = false) (h5 : bitAt a 5 = false) (h6 : bitAt a 6 = false)
    (h7 : bitAt a 7 = false) (h8 : bitAt a 8 = false) : anResolves a lane mode fec = false := by
  unfold anResolves
  split <;> simp [h4, h5, h6, h7, h8]

/-! ### Training (R387, R391) -/

/-- The sum of the taps, and the least main tap (R387). -/
def tapsOk (w : Nat) : Prop := bits w 19 16 + bits w 5 0 + bits w 12 8 ≤ 63 ∧ 16 ≤ bits w 5 0

theorem bits_setBits_same (w hi lo v : Nat) (h : lo ≤ hi + 1) : bits (setBits w hi lo v) hi lo = v % 2 ^ (hi + 1 - lo) := by
  have hwidth : 2 ^ (hi + 1) = 2 ^ (hi + 1 - lo) * 2 ^ lo := by rw [← Nat.pow_add, Nat.sub_add_cancel h]
  have hword : setBits w hi lo v = w % 2 ^ lo + (v % 2 ^ (hi + 1 - lo) + w / 2 ^ (hi + 1) * 2 ^ (hi + 1 - lo)) * 2 ^ lo := by
    rw [setBits, hwidth]
    ring
  rw [bits, hword, Nat.add_mul_div_right _ _ (Nat.two_pow_pos lo), Nat.div_eq_of_lt (Nat.mod_lt _ (Nat.two_pow_pos lo)), Nat.zero_add,
    Nat.add_mul_mod_self_right, Nat.mod_mod]

theorem bits_setBits_below {w hi lo hi' lo' v : Nat} (h : lo ≤ hi + 1) (hbelow : hi' < lo) : bits (setBits w hi lo v) hi' lo' = bits w hi' lo' := by
  rw [← bits_mod_two_pow _ hbelow, setBits_mod hi h, bits_mod_two_pow _ hbelow]

theorem bits_setBits_above {w hi lo hi' lo' v : Nat} (h : lo ≤ hi + 1) (habove : hi < lo') : bits (setBits w hi lo v) hi' lo' = bits w hi' lo' := by
  have hshift (x : Nat) : x / 2 ^ lo' = x / 2 ^ (hi + 1) / 2 ^ (lo' - (hi + 1)) := by
    rw [Nat.div_div_eq_div_mul, ← Nat.pow_add, Nat.add_sub_cancel' habove]
  rw [bits, bits, hshift, hshift w, setBits_div hi h]

/-- Each tap by itself: what a new value of its field makes of the three (R387). -/
theorem bits_setPre (w v : Nat) : bits (setBits w 19 16 v) 19 16 = v % 16 ∧ bits (setBits w 19 16 v) 5 0 = bits w 5 0 ∧
    bits (setBits w 19 16 v) 12 8 = bits w 12 8 :=
  ⟨bits_setBits_same w 19 16 v (by decide), bits_setBits_below (by decide) (by decide), bits_setBits_below (by decide) (by decide)⟩

theorem bits_setPost (w v : Nat) : bits (setBits w 12 8 v) 19 16 = bits w 19 16 ∧ bits (setBits w 12 8 v) 5 0 = bits w 5 0 ∧
    bits (setBits w 12 8 v) 12 8 = v % 32 :=
  ⟨bits_setBits_above (by decide) (by decide), bits_setBits_below (by decide) (by decide), bits_setBits_same w 12 8 v (by decide)⟩

theorem bits_setMain (w v : Nat) : bits (setBits w 5 0 v) 19 16 = bits w 19 16 ∧ bits (setBits w 5 0 v) 5 0 = v % 64 ∧
    bits (setBits w 5 0 v) 12 8 = bits w 12 8 :=
  ⟨bits_setBits_above (by decide) (by decide), bits_setBits_same w 5 0 v (by decide), bits_setBits_above (by decide) (by decide)⟩

/-- A step of one tap moves it by one within its range, and the others not at all. -/
theorem stepTap_ok {w : Nat} (q : Fin 3 × Bool) (h : tapsOk w) : tapsOk (stepTap w q) := by
  obtain ⟨hsum, hmain⟩ := h
  obtain ⟨⟨k, hk⟩, up⟩ := q
  have hpre (v : Nat) := bits_setPre w v
  have hpost (v : Nat) := bits_setPost w v
  have hmid (v : Nat) := bits_setMain w v
  have hbound := bits_lt w 5 0
  have hbound' := bits_lt w 19 16
  have hbound'' := bits_lt w 12 8
  interval_cases k <;> cases up <;> simp only [stepTap, Bool.false_eq_true, if_false, if_true] <;> split <;>
    simp only [tapsOk, hpre, hpost, hmid] <;> omega

section
variable {l : Lane} {s : State} (steps : List (Fin 3 × Bool)) (hst : s.lnSt l = 2)
include hst

theorem exec_linkTrainingDone_adapted (h4 : s.lnF F.lnState_link l ≠ 4) (h5 : s.lnF F.lnState_link l ≠ 5) :
    exec (.linkTrainingDone l steps) s = .next (s.setLnSt l 3) :=
  congrArg Host.Outcome.next ((if_pos hst).trans (congrArg (fun u => State.setLnSt u l 3) (if_neg (not_or.mpr ⟨h4, h5⟩))))

theorem exec_linkTrainingDone_trained (hlink : s.lnF F.lnState_link l = 4 ∨ s.lnF F.lnState_link l = 5) :
    exec (.linkTrainingDone l steps) s = .next ((s.setLn .lnTxeq l (steps.foldl stepTap (s.ln .lnTxeq l))).setLnSt l 3) :=
  congrArg Host.Outcome.next ((if_pos hst).trans (congrArg (fun u => State.setLnSt u l 3) (if_pos hlink)))

end

/-! ### Capability exchange (R394, R395) -/

section
variable {l : Lane} {w0 w1 w2 w3 : Word64} {s : State} (hst : s.lnSt l = 4) (hown : ownMode (s.lane l).mode = true)
include hst hown

theorem exec_capabilityBlock_bad (hbad : capOk w0.toNat w1.toNat w2.toNat w3.toNat = false) :
    exec (.capabilityBlock l w0 w1 w2 w3) s = .next (s.setLane l { s.lane l with valid := 0 }) :=
  congrArg Host.Outcome.next ((if_pos ⟨hst, hown⟩).trans (if_pos (by simp [hbad])))

theorem exec_capabilityBlock_good {t u : State} (hgood : capOk w0.toNat w1.toNat w2.toNat w3.toNat = true)
    (ht : (s.setLn .lnPartnerLo l (w1.toNat % 2 ^ 32)).setLn .lnPartnerHi l (w1.toNat / 2 ^ 32) = t)
    (hu : t.setLane l { s.lane l with w2 := w1.toNat, valid := if w2.toNat = t.w1 l then (s.lane l).valid + 1 else 0 } = u) :
    exec (.capabilityBlock l w0 w1 w2 w3) s = .next
      (if bits w1.toNat 55 24 ≠ bits (t.w1 l) 55 24 then (u.setLnF F.lnState_mismatch l 1).enterDetect l
       else if w2.toNat = t.w1 l ∧ 2 ≤ (s.lane l).valid then u.enterActive l else u) := by
  have hthird : (3 ≤ if w2.toNat = t.w1 l then (s.lane l).valid + 1 else 0) ↔ w2.toNat = t.w1 l ∧ 2 ≤ (s.lane l).valid := by
    split
    · next heq => simp [heq]
    · next hne => simp [hne]
  refine congrArg Host.Outcome.next ((if_pos ⟨hst, hown⟩).trans ((if_neg (by simp [hgood])).trans ?_))
  simp only [ht, hu, hthird]

end

theorem exec_capabilityBlock_unheeded {l : Lane} (w0 w1 w2 w3 : Word64) {s : State} (h : s.lnSt l ≠ 4 ∨ ownMode (s.lane l).mode = false) :
    exec (.capabilityBlock l w0 w1 w2 w3) s = .next s := by
  refine congrArg Host.Outcome.next (if_neg (fun ⟨hst, hown⟩ => ?_))
  rcases h with h | h
  · exact h hst
  · simp [h] at hown

/-- Settles O27: each event of the sequencer acts in the state that heeds it alone; a detector's change follows from LN_STATE, which what it brings about
keeps. -/
theorem laneEvents : Obligations.LaneEvents := by
  unfold Obligations.LaneEvents
  exact ⟨fun l found s h => congrArg Host.Outcome.next (if_pos h),
    fun l s hst hlow hhigh hlos => exec_losClearHeld_fixed hst hlow hhigh hlos,
    fun l s hst hown hentries hheld => exec_huntDwellEnd_match hst hown hentries hheld,
    fun l s hst hown hentries hheld => exec_huntDwellEnd_next hst hown hentries hheld,
    fun l s hst hown hfirst => exec_huntTxStep_searching hst hown hfirst,
    fun l mode fec s hst hmode hresolves hone => exec_anComplete_single hst hmode hresolves hone,
    fun l mode fec s hst hmode hresolves hquad halone => exec_anComplete_quad hst hmode hresolves hquad halone,
    fun a lane mode fec h4 h5 h6 h7 h8 => anResolves_none lane mode fec h4 h5 h6 h7 h8,
    fun l mode fec s h => congrArg Host.Outcome.next (if_neg (by simp [h])),
    fun l steps s hst h4 h5 => exec_linkTrainingDone_adapted steps hst h4 h5,
    fun l steps s hst hlink => exec_linkTrainingDone_trained steps hst hlink, fun w q hsum hmain => stepTap_ok q ⟨hsum, hmain⟩,
    fun l s hst hlink => congrArg Host.Outcome.next (if_pos ⟨hst, .inr hlink⟩),
    fun l s hst hlol => congrArg Host.Outcome.next (if_pos ⟨hst, by simp [hlol]⟩), fun l s h => congrArg Host.Outcome.next (if_pos h),
    fun l s h => congrArg Host.Outcome.next (if_pos h), fun l s hst hlink => congrArg Host.Outcome.next (if_pos ⟨hst, hlink⟩),
    fun l s hst hmode => congrArg Host.Outcome.next (if_pos ⟨hst, hmode⟩),
    fun l w0 w1 w2 w3 s hst hown hbad => exec_capabilityBlock_bad hst hown hbad,
    fun l w0 w1 w2 w3 s t u hst hown hgood ht hu => exec_capabilityBlock_good hst hown hgood ht hu,
    fun l w0 w1 w2 w3 s h => exec_capabilityBlock_unheeded w0 w1 w2 w3 h, fun l s w hon hinactive => exec_losAssert_inactive w hon hinactive,
    fun l s h => congrArg Host.Outcome.next (if_neg h), fun l s w hon hinactive => exec_lolAssert_inactive w hon hinactive,
    fun l s h => congrArg Host.Outcome.next (if_neg h),
    fun l s h => ⟨congrArg Host.Outcome.next (if_pos h), congrArg Host.Outcome.next (if_pos h), congrArg Host.Outcome.next (if_pos h),
      congrArg Host.Outcome.next (if_pos h)⟩,
    fun l b s hother hb => State.setLos_clears hother hb, fun l b s h => if_pos h⟩

end Sys2Proof.Machine

/-! SUPPORT. Rate matching, the MAC of a lane, Systemlink heartbeats and time transfer (17 R393–R402, R405, R408; 18 R423–R426). -/

namespace Sys2Proof.Machine

theorem State.lnSt_of_macOn {s : State} {l : Nat} (h : s.macOn l = true) : s.lnSt l = 5 := by
  simp only [State.macOn, Bool.and_eq_true, decide_eq_true_eq] at h
  exact h.1

/-! ### Received frames (R393, R396, R397, R408) -/

/-- What RX_FRAME does with a whole frame after rate matching. -/
def State.rxEnd (s : State) (l : Nat) (bytes : List Byte) (cut err corrected : Bool) : State :=
  let max := s.lnF F.lnMac_maxLen l
  let link := s.lnF F.lnState_link l
  let abort (s : State) : State := if s.rxQueued l bytes then s.abortRx l (s.rxPacket l (s.rxStored l (bytes.take max)) false false) else s
  if cut then abort s
  else if link = 8 then
    let s := (s.deliver l (s.rxPacket l (slice 0#8 bytes 0 max) false false)).lnCount F.lnRxCounts_frames l 1
    s.setLane l { s.lane l with rxSeq := ((s.lane l).rxSeq + 1) % 2 ^ 32 }
  else if max < bytes.length then (abort s).lnCount F.lnRxCounts_long l 1
  else if err ∨ !fcsOk bytes ∨ (ethLink link ∧ bytes.length < 64) then (abort s).lnCount F.lnRxCounts_bad l 1
  else if link = 9 ∧ leAt bytes 0 1 ≠ 4 then
    (if 1 ≤ leAt bytes 0 1 ∧ leAt bytes 0 1 ≤ 3 then s else s.lnCount F.lnRxCounts_bad l 1)
  else
    let body := bytes.take (bytes.length - 4)
    let s := (s.deliver l (s.rxPacket l (s.rxStored l bytes) corrected (ethLink link && isPause body))).lnCount F.lnRxCounts_frames l 1
    s.setLane l { s.lane l with rxSeq := ((s.lane l).rxSeq + 1) % 2 ^ 32 }

section
variable {l : Lane} {bytes : List Byte} {err : Bool} {corr bad gap : Nat} {drift : Int} {s u t : State} (hon : s.macOn l = true)
include hon

theorem exec_rxFrame_busy : exec (.rxFrame l bytes err corr bad true gap drift) s = .next (s.setLane l { s.lane l with rxPart := some bytes }) := by
  have hactive := State.lnSt_of_macOn hon
  exact congrArg Host.Outcome.next ((if_neg (by omega)).trans ((if_neg (by simp [hon])).trans (if_pos rfl)))

/-- A whole frame is rate-matched, and then taken or dropped. -/
theorem exec_rxFrame_whole {cut : Bool} (hu : State.fecCount (s.setLane l { s.lane l with rxPart := none }) l corr bad = u)
    (hmatch : u.rateMatch l gap drift = (t, cut)) :
    exec (.rxFrame l bytes err corr bad false gap drift) s = .next (t.rxEnd l bytes cut
      (err || (decide (s.lnF F.lnState_fec l ≠ 0) && decide (bad ≠ 0))) (decide (s.lnF F.lnState_fec l ≠ 0) && decide (corr ≠ 0))) := by
  have hactive := State.lnSt_of_macOn hon
  refine congrArg Host.Outcome.next ((if_neg (by omega)).trans ((if_neg (by simp [hon])).trans ((if_neg Bool.false_ne_true).trans ?_)))
  simp only [hu, hmatch]
  rfl

end

/-- Nothing of a frame that goes through the network is in the direct queue. -/
theorem State.abortRx_network {s : State} {l : Nat} (words : List Nat) (h : s.directRx l = false) : s.abortRx l words = s :=
  if_neg (by simp [h])

theorem State.rxEnd_cut {s : State} {l : Nat} (bytes : List Byte) (err corrected : Bool) (h : s.directRx l = false) :
    s.rxEnd l bytes true err corrected = s := by
  simp only [State.rxEnd, State.abortRx_network _ h, ite_self, if_true]

theorem State.rxEnd_bad {s : State} {l : Nat} {bytes : List Byte} {err : Bool} (corrected : Bool) (hlink : s.lnF F.lnState_link l ≠ 8)
    (hlen : bytes.length ≤ s.lnF F.lnMac_maxLen l) (hbad : err = true ∨ fcsOk bytes = false) (h : s.directRx l = false) :
    s.rxEnd l bytes false err corrected = s.lnCount F.lnRxCounts_bad l 1 := by
  have hwrong : err = true ∨ (!fcsOk bytes) = true ∨ (ethLink (s.lnF F.lnState_link l) = true ∧ bytes.length < 64) :=
    hbad.imp id (fun hfcs => .inl (by simp [hfcs]))
  simp only [State.rxEnd, State.abortRx_network _ h, ite_self, Bool.false_eq_true, if_false, if_neg hlink, if_neg (Nat.not_lt.mpr hlen), if_pos hwrong]

theorem State.rxEnd_good {s : State} {l : Nat} {bytes : List Byte} (corrected : Bool) (hlink : s.lnF F.lnState_link l = 4)
    (hshort : 64 ≤ bytes.length) (hlong : bytes.length ≤ s.lnF F.lnMac_maxLen l) (hfcs : fcsOk bytes = true) (hstrip : s.lnOn F.lnMac_stripFcs l = true)
    {body : List Byte} (hbody : bytes.take (bytes.length - 4) = body) {u : State}
    (hu : (s.deliver l (s.rxPacket l body corrected (isPause body))).lnCount F.lnRxCounts_frames l 1 = u) :
    s.rxEnd l bytes false false corrected = u.setLane l { u.lane l with rxSeq := ((u.lane l).rxSeq + 1) % 2 ^ 32 } := by
  have hstored : s.rxStored l bytes = body := by
    simp only [State.rxStored, hlink, hstrip, hbody, ne_eq, Nat.reduceEqDiff, not_false_eq_true, and_self, if_true, if_false]
  have heth : (ethLink 4 && isPause body) = isPause body := Bool.true_and _
  simp only [State.rxEnd, hlink, hfcs, Nat.not_lt.mpr hshort, Nat.not_lt.mpr hlong, hstored, hbody, heth, hu, Bool.not_true, Bool.false_eq_true,
    Nat.reduceEqDiff, false_and, and_false, or_self, if_false]

/-! ### Rate matching (R396) -/

section
variable {l gap : Nat} {drift half far unit : Int} {s : State} (hlink : s.lnF F.lnState_link l ≠ 8)
  (hunits : rateUnits (s.lnF F.lnState_link l) (s.lineCoding l) = (half, far, unit))
include hlink hunits

omit hlink in
theorem rateUnits_far : 0 < far := by
  unfold rateUnits at hunits
  split at hunits <;> simp only [Prod.mk.injEq] at hunits <;> omega

section
variable {f : Int} (hlow : -half ≤ f) (hhigh : f ≤ half)
include hlow hhigh

theorem State.rateMatch_deleted (hfar : far ≤ (s.lane l).fill) (hgap : 2 ≤ gap) (hf : (s.lane l).fill - unit + drift = f) :
    s.rateMatch l gap drift = (State.setLane (s.lnCount F.lnRmCounts_deleted l 1) l { s.lane l with fill := f }, false) := by
  have hwithin : ¬ (half < f ∨ f < -half) := by omega
  simp only [State.rateMatch, if_neg hlink, hunits, if_pos (And.intro hfar hgap), hf, if_neg hwithin]
  rfl

theorem State.rateMatch_inserted (hfar : (s.lane l).fill ≤ -far) (hgap : 1 ≤ gap) (hf : (s.lane l).fill + unit + drift = f) :
    s.rateMatch l gap drift = (State.setLane (s.lnCount F.lnRmCounts_inserted l 1) l { s.lane l with fill := f }, false) := by
  have hwithin : ¬ (half < f ∨ f < -half) := by omega
  have hpositive := rateUnits_far hunits
  have hnotAbove : ¬ (far ≤ (s.lane l).fill ∧ 2 ≤ gap) := by omega
  simp only [State.rateMatch, if_neg hlink, hunits, if_neg hnotAbove, if_pos (And.intro hfar hgap), hf, if_neg hwithin]
  rfl

end

/-- Near the centre no filler moves the fill; past an end of the buffer OVF counts. -/
theorem State.rateMatch_overflow (hlow : -far < (s.lane l).fill) (hhigh : (s.lane l).fill < far)
    (hpast : half < (s.lane l).fill + drift ∨ (s.lane l).fill + drift < -half) :
    (s.rateMatch l gap drift).2 = true ∧ ∃ u : State, (s.rateMatch l gap drift).1 = u.lnCount F.lnRmCounts_ovf l 1 ∧ u.regs = s.regs := by
  have hnotAbove : ¬ (far ≤ (s.lane l).fill ∧ 2 ≤ gap) := by omega
  have hnotBelow : ¬ ((s.lane l).fill ≤ -far ∧ 1 ≤ gap) := by omega
  simp only [State.rateMatch, if_neg hlink, hunits, if_neg hnotAbove, if_neg hnotBelow, if_pos hpast]
  exact ⟨trivial, _, rfl, rfl⟩

end

/-! ### Queues and sent frames (R199, R398, R400) -/

theorem State.directPush_dropped {k : Nat} (w : QWord) (ws : List QWord) {s : State} (h : s.qOn k = false ∨ (s.pq k).space = 0) :
    s.directPush k (w :: ws) = (s.qAbort k).count F.qErrors_dropped (k / 4) (k % 4) 1 :=
  if_pos (h.imp (fun hoff => by simp [hoff]) id)

section
variable {l : Lane} {s : State}

theorem exec_txPacket_exchange (busy : Bool) (hst : s.lnSt l = 4) (hown : ownMode (s.lane l).mode = true) :
    exec (.txPacket l busy) s = .next (s.setLane l { s.lane l with sent := s.capBlock l, flips := 0 }) :=
  congrArg Host.Outcome.next ((if_neg (by omega)).trans (if_pos ⟨hst, hown⟩))

section
variable (hon : s.macOn l = true) (hrun : s.pw.mode = .run)
include hon hrun

theorem exec_txPacket_ended (hbusy : (s.lane l).txBusy = true) :
    exec (.txPacket l false) s = .next (State.lnCount (s.setLane l { s.lane l with txBusy := false }) F.lnTxCounts_frames l 1) := by
  have hactive := State.lnSt_of_macOn hon
  exact congrArg Host.Outcome.next ((if_neg (by omega)).trans ((if_neg (by omega)).trans ((if_neg (by simp [hon, hrun])).trans ((if_pos hbusy).trans
    (if_neg Bool.false_ne_true)))))

theorem exec_txPacket_next (busy : Bool) (hlink : s.lnF F.lnState_link l = 4) (hidle : (s.lane l).txBusy = false)
    (hwhole : (s.lane l).tx.any (·.last) = true) : exec (.txPacket l busy) s =
      .next (State.txSend (s.setLane l { s.lane l with tx := (takePacket (s.lane l).tx).2 }) l (takePacket (s.lane l).tx).1 busy) := by
  have hactive := State.lnSt_of_macOn hon
  have hfill : s.txFill l = s := if_pos hwhole
  refine congrArg Host.Outcome.next ((if_neg (by omega)).trans ((if_neg (by omega)).trans ((if_neg (by simp [hon, hrun])).trans
    ((if_neg (by simp [hidle])).trans ?_))))
  simp only [hlink, hrun, hfill, hwhole, Nat.reduceEqDiff, reduceCtorEq, if_false, if_true]

end
end

theorem exec_macResponse_outstanding {r : Resp} {s : State} {o : Outst} {l k : Nat} (hin : s.net.resps.contains r = true)
    (hout : s.findOut r.src r.sport r.tag r.gen = some o) (hwho : o.who = .mac l k) (hcrc : r.crcOk = true) :
    exec (.macResponse r) s = .next ((State.retire (s.takeResp r) o).macResp l k r.svc r.data) := by
  refine congrArg Host.Outcome.next ((if_pos (by simp only [hin, State.respFor, hout, hwho, Bool.and_self])).trans ?_)
  simp only [State.arrive_outstanding hout hcrc, hwho]

/-! ### Heartbeats (R402, R423, R424) -/

section
variable {l : Lane} {s : State}

theorem exec_heartbeatSend_host (hactive : s.sysActive l = true) (hhost : s.slSource = false) :
    exec (.heartbeatSend l) s = .next (s.setLane l { s.lane l with
      hbSeq := ((s.lane l).hbSeq + 1) % 65536
      slOut := (s.lane l).slOut ++ [(1, hbBytes deviceId (s.getF F.timeCtl_domain 0 0) (s.lane l).hbSeq s.timePrio deviceId 0
        (b2n (s.flag F.tkStatus_holdover 0 0)))] }) := by
  refine congrArg Host.Outcome.next ((if_pos hactive).trans ?_)
  simp only [hhost, Bool.false_eq_true, if_false]

section
variable (id : BitVec 64) (domain : BitVec 16) {prio : Byte} {root : BitVec 64} {hops flags : Byte} (hactive : s.sysActive l = true) {t : State}
  (ht : s.setLane l { s.lane l with nbr := (prio.toNat, root.toNat, hops.toNat, flags.toNat), hbFirst := false } = t)
include hactive ht

theorem exec_heartbeat_known (hpresent : s.slPresent l = true) (hknown : (s.lane l).hbFirst = false) :
    exec (.heartbeat l id domain prio root hops flags) s =
      .next (State.elect (State.setLnF (State.setLnF t F.lnSlStatus_present l 1) F.lnSlStatus_missed l 0) l) := by
  have hpresent' : t.slPresent l = true := by
    rw [← ht]
    exact hpresent
  refine congrArg Host.Outcome.next ((if_pos hactive).trans ?_)
  simp only [ht, hpresent', hknown, Bool.not_false, and_self, if_true]

theorem exec_heartbeat_first (hfirst : (s.lane l).hbFirst = true) : exec (.heartbeat l id domain prio root hops flags) s =
    .next (State.elect (State.setLnF (State.setLnF (State.setLnF
      ((t.setLn .lnSlIdLo l (id.toNat % 2 ^ 32)).setLn .lnSlIdHi l (id.toNat / 2 ^ 32)) F.lnSlStatus_domain l domain.toNat)
      F.lnSlStatus_present l 1) F.lnSlStatus_missed l 0) l) := by
  refine congrArg Host.Outcome.next ((if_pos hactive).trans ?_)
  simp only [ht, hfirst, Bool.not_true, Bool.false_eq_true, and_false, if_false]

end

theorem lnSlStatus_valid {n : Nat} (h : n < 192) : Rg.lnSlStatus.valid (n / 4) (n % 4) = true :=
  (Rg.valid_iff _ _ _).2 ⟨show n / 4 < 48 by omega, show n % 4 < 4 by omega, rfl⟩

theorem State.lnSlStatus_missed {v : Nat} (w : s.regsWf = true) : (s.setLnF F.lnSlStatus_missed l v).ln .lnSlStatus l =
    setBits (s.ln .lnSlStatus l) 23 16 v % 2 ^ 32 :=
  s.reg_setReg_same .lnSlStatus _ _ _ w (rstAt_key (lnSlStatus_valid l.isLt))

/-- A first missed heartbeat is counted as one. -/
theorem State.lnF_missed_first (w : s.regsWf = true) (hmissed : s.lnF F.lnSlStatus_missed l = 0) :
    (s.lnCount F.lnSlStatus_missed l 1).lnF F.lnSlStatus_missed l = 1 := by
  have hcount : s.lnCount F.lnSlStatus_missed l 1 = s.setLnF F.lnSlStatus_missed l (satAdd 8 (s.lnF F.lnSlStatus_missed l) 1) := rfl
  have hword := congrArg (fun x => bits x 23 16) (State.lnSlStatus_missed (l := l) (v := 1) w)
  rw [bits_mod_two_pow _ (by decide), bits_setBits_same _ _ _ _ (by decide)] at hword
  rw [hcount, hmissed]
  exact hword

/-- Counting a missed heartbeat leaves PRESENT. -/
theorem State.slPresent_missed (w : s.regsWf = true) : (s.lnCount F.lnSlStatus_missed l 1).slPresent l = s.slPresent l := by
  have hcount : s.lnCount F.lnSlStatus_missed l 1 = s.setLnF F.lnSlStatus_missed l (satAdd 8 (s.lnF F.lnSlStatus_missed l) 1) := rfl
  have hword := congrArg (fun x => bits x 31 31) (State.lnSlStatus_missed (l := l) (v := satAdd 8 (s.lnF F.lnSlStatus_missed l) 1) w)
  rw [bits_mod_two_pow _ (by decide), bits_setBits_above (by decide) (by decide)] at hword
  rw [hcount]
  exact congrArg (fun x => decide (x = 1)) hword

theorem exec_heartbeatMiss_first (w : s.regsWf = true) (hpresent : s.slPresent l = true) (hmissed : s.lnF F.lnSlStatus_missed l = 0) :
    exec (.heartbeatMiss l) s = .next (s.lnCount F.lnSlStatus_missed l 1) := by
  refine congrArg Host.Outcome.next ((if_pos (.inl hpresent)).trans (if_pos (.inr ?_)))
  rw [State.lnF_missed_first w hmissed]
  decide

theorem exec_heartbeatMiss_absent (w : s.regsWf = true) (habsent : s.slPresent l = false) (hactive : s.sysActive l = true) :
    exec (.heartbeatMiss l) s = .next (s.lnCount F.lnSlStatus_missed l 1) := by
  refine congrArg Host.Outcome.next ((if_pos (.inr hactive)).trans (if_pos (.inl ?_)))
  rw [State.slPresent_missed w, habsent]
  rfl

end

/-! ### Time transfer (R425, R426) -/

theorem exec_timeRequestSend_parent {s : State} {l : Nat} (hparent : s.tmr.parent = some l) (hlane : s.timeLane l = true) :
    exec .timeRequestSend s = .next (State.setLane { s with tmr.reqSeq := (s.tmr.reqSeq + 1) % 65536 } l { s.lane l with
      slOut := (s.lane l).slOut ++ [(2, leBytes 1 2 ++ leBytes 1 0 ++ beBytes 2 ((s.tmr.reqSeq + 1) % 65536) ++ List.replicate 36 0#8)] }) := by
  refine congrArg Host.Outcome.next ?_
  simp only [hparent, hlane, if_true]

section
variable {l : Lane} {f : List Byte} {s : State} (hlane : s.timeLane l = true) (hlen : f.length = 40) (htype : leAt f 0 1 = 2) (hrun : s.tkRuns 0 = true)
include hlane hlen htype hrun

theorem timeFrame_valid : ¬ ((!s.timeLane l) = true ∨ f.length ≠ 40 ∨ leAt f 0 1 ≠ 2 ∨ (!s.tkRuns 0) = true) := by
  simp [hlane, hlen, htype, hrun]

theorem exec_timeFrame_request (hkind : leAt f 1 1 = 0) : exec (.timeFrame l f) s = .next (s.setLane l { s.lane l with
    slOut := (s.lane l).slOut ++ [(2, overlay (overlay f 1 [1#8]) 16
      (beTime (stampOf (s.laneTime l false - s.rxCorr l) 0 0) ++ List.replicate 12 0#8))] }) :=
  congrArg Host.Outcome.next ((if_neg (timeFrame_valid hlane hlen htype hrun)).trans (if_pos hkind))

theorem exec_timeFrame_response (hkind : leAt f 1 1 = 1) (hparent : s.tmr.parent = some l.val) (hseq : beAt f 2 2 = s.tmr.reqSeq) :
    exec (.timeFrame l f) s =
      .next (s.exchange l (timeAt f 4) (timeAt f 16) (timeAt f 28) ((s.laneTime l false - s.rxCorr l) / 2 ^ 16 : Nat)) :=
  congrArg Host.Outcome.next ((if_neg (timeFrame_valid hlane hlen htype hrun)).trans ((if_neg (by omega)).trans (if_pos ⟨hkind, hparent, hseq⟩)))

end

theorem exec_servoUpdate_within {s : State} {o d : Int} {p : Nat} (hrun : s.maltarRuns = true) (hsource : s.slSource = true)
    (hparent : s.tmr.parent = some p) (hidle : s.flag F.tkStatus_pending 0 0 = false) (hoffs : s.tmr.offs = some o)
    (hd : o * 2 ^ 17 / 1000000000 = d) (hlow : -(s.getF F.timeRateTh_rateTh 0 0 : Int) ≤ d) (hhigh : d ≤ s.getF F.timeRateTh_rateTh 0 0) :
    exec .servoUpdate s = .next (State.stageCorr { s with tmr.offs := none } 0 (.rate ((s.incrNow 0 : Int) + d).toNat) none) := by
  refine congrArg Host.Outcome.next ((if_neg (by simp [hrun, hsource, hparent, hidle])).trans ?_)
  simp only [hoffs, hd, if_neg (Int.not_lt.mpr hlow), if_neg (Int.not_lt.mpr hhigh)]

/-- Settles O29: a frame is rate-matched before it is taken or dropped; the MAC ends a frame before it starts the next; heartbeats and TIME frames are sent
and taken on lanes that carry them. -/
theorem laneFrames : Obligations.LaneFrames := by
  unfold Obligations.LaneFrames
  refine ⟨fun l bytes err corr bad gap drift s hon => exec_rxFrame_busy hon, ?good, ?bad, ?cut, fun l corr bad s h => if_neg h,
    fun l corr bad s h => if_pos h, fun l bytes err corr bad gap busy drift s h => congrArg Host.Outcome.next (if_pos h),
    fun l busy s h => congrArg Host.Outcome.next (if_pos h), fun l busy s hst hown => exec_txPacket_exchange busy hst hown,
    fun k w ws s h => State.directPush_dropped w ws h,
    fun l gap drift half far unit s hlink hunits hfar hgap hlow hhigh => State.rateMatch_deleted hlink hunits hlow hhigh hfar hgap rfl,
    fun l gap drift half far unit s hlink hunits hfar hgap hlow hhigh => State.rateMatch_inserted hlink hunits hlow hhigh hfar hgap rfl,
    fun l gap drift half far unit s hlink hunits hlow hhigh hpast => State.rateMatch_overflow hlink hunits hlow hhigh hpast,
    fun l s hon hrun hbusy => exec_txPacket_ended hon hrun hbusy,
    fun l busy s hon hrun hlink hidle hwhole => exec_txPacket_next hon hrun busy hlink hidle hwhole,
    fun r s o l k hin hout hwho hcrc => exec_macResponse_outstanding hin hout hwho hcrc,
    fun l s hactive hhost => exec_heartbeatSend_host hactive hhost,
    fun l id domain prio root hops flags s hactive hpresent hknown => exec_heartbeat_known id domain hactive rfl hpresent hknown,
    fun l id domain prio root hops flags s t hactive hfirst ht => exec_heartbeat_first id domain hactive ht hfirst,
    fun l s w hpresent hmissed => exec_heartbeatMiss_first w hpresent hmissed, fun l s w habsent hactive => exec_heartbeatMiss_absent w habsent hactive,
    fun l s habsent hidle => congrArg Host.Outcome.next (if_neg (by simp [habsent, hidle])),
    fun s l hparent hlane => exec_timeRequestSend_parent hparent hlane,
    fun l f s hlane hlen htype hrun hkind => exec_timeFrame_request hlane hlen htype hrun hkind,
    fun l f s hlane hlen htype hrun hkind hparent hseq => exec_timeFrame_response hlane hlen htype hrun hkind hparent hseq,
    fun s o p hrun hsource hparent hidle hlow hhigh hoffs => exec_servoUpdate_within hrun hsource hparent hidle hlow rfl hhigh hoffs⟩
  case good =>
    intro l bytes corr bad gap drift s u t hon hu ht hcut hlink hshort hlong hfcs hstrip hfec
    have hclean : (false || (decide (s.lnF F.lnState_fec l ≠ 0) && decide (bad ≠ 0))) = false := by
      rcases hfec with hfec | hfec <;> simp [hfec]
    rw [exec_rxFrame_whole hon hu (Prod.ext ht hcut), hclean, State.rxEnd_good _ hlink hshort hlong hfcs hstrip rfl rfl]
  case bad =>
    intro l bytes err corr bad gap drift s u t hon hu ht hcut hlink hlong hbad hnetwork
    rw [exec_rxFrame_whole hon hu (Prod.ext ht hcut)]
    refine congrArg Host.Outcome.next (State.rxEnd_bad _ hlink hlong ?_ hnetwork)
    rcases hbad with hbad | hbad | ⟨hfec, hlost⟩
    · exact .inl (by simp [hbad])
    · exact .inr hbad
    · exact .inl (by simp [hfec, hlost])
  case cut =>
    intro l bytes err corr bad gap drift s u hon hu hcut hnetwork
    have hmatch : u.rateMatch l gap drift = ((u.rateMatch l gap drift).1, true) := by rw [← hcut]
    rw [exec_rxFrame_whole hon hu hmatch, State.rxEnd_cut _ _ _ hnetwork]

end Sys2Proof.Machine

/-! SUPPORT. What the model's functions leave as it is: the waiting commands, and the contents of the stacks with the mixes under which they are stored
(R307, R308, R473). One lemma per function, in the order of the model: the functions whose definitions show it by themselves. -/

namespace Sys2Proof.Machine

/-! SUPPORT. What no command touches: ... -/


/-- The waiting commands, and the contents of the stacks with the mixes under which they are stored. -/
def State.still (s : State) : List Instr × Tbl Byte × Tbl Nat := (s.pending, s.hbm.mem, s.hbm.mixed)

@[simp] theorem State.still_ite (c : Prop) [Decidable c] (s t : State) : (if c then s else t).still = if c then s.still else t.still :=
  apply_ite State.still c s t

/-- A change of the parts other than the stacks and the queue. -/
@[simp] theorem State.still_mk (s : State) (pw seams ld fab net evs pqs eng dma rgn prot ecc lanes tmr clk hosts sett dbg elec regs free) :
    State.still ⟨pw, seams, ld, fab, net, evs, pqs, eng, dma, rgn, s.hbm, prot, ecc, lanes, tmr, clk, hosts, sett, dbg, elec, regs, free, s.pending⟩ =
      s.still := (rfl)

/-- A change of the stack controllers' state beside the stacks' contents. -/
@[simp] theorem State.still_mk_hbm (s : State) (pw seams ld fab net evs pqs eng dma rgn prot ecc lanes tmr clk hosts sett dbg elec regs free)
    (reqs nextId rows wmode post rot bad change bandDue reinit lines fills waits fwds stamp nbr) :
    State.still ⟨pw, seams, ld, fab, net, evs, pqs, eng, dma, rgn,
      ⟨s.hbm.mem, reqs, nextId, rows, wmode, post, rot, bad, s.hbm.mixed, change, bandDue, reinit, lines, fills, waits, fwds, stamp, nbr⟩,
      prot, ecc, lanes, tmr, clk, hosts, sett, dbg, elec, regs, free, s.pending⟩ = s.still := (rfl)

@[simp] theorem iter_still (n : Nat) (f : Nat → State → State) (s : State) (h : ∀ i s, (f i s).still = s.still) : (iter n f s).still = s.still :=
  iter_keeps State.still n f h s

@[simp] theorem foldl_still {ι : Type} (f : State → ι → State) (l : List ι) (s : State) (h : ∀ s i, (f s i).still = s.still) :
    (l.foldl f s).still = s.still :=
  foldl_keeps State.still f h l s

@[simp] theorem State.setReg_still (s : State) (r : Rg) (i j v : Nat) : (s.setReg r i j v).still = s.still := (rfl)
@[simp] theorem State.setF_still (s : State) (f : FRef) (i j v : Nat) : (s.setF f i j v).still = s.still := (rfl)
@[simp] theorem State.count_still (s : State) (f : FRef) (i j k : Nat) : (s.count f i j k).still = s.still := (rfl)
@[simp] theorem State.wrap_still (s : State) (f : FRef) (i j k : Nat) : (s.wrap f i j k).still = s.still := (rfl)
@[simp] theorem State.resetReg_still (s : State) (r : Rg) (i j : Nat) : (s.resetReg r i j).still = s.still := (rfl)
@[simp] theorem State.setPQ_still (s : State) (k : Nat) (q : PQ) : (s.setPQ k q).still = s.still := (rfl)
@[simp] theorem State.setEngine_still (s : State) (t : Nat) (e : Engine) : (s.setEngine t e).still = s.still := (rfl)
@[simp] theorem State.setLane_still (s : State) (l : Nat) (a : LaneSt) : (s.setLane l a).still = s.still := (rfl)
@[simp] theorem State.setPort_still (s : State) (p : Nat) (a : HostPort) : (s.setPort p a).still = s.still := (rfl)
@[simp] theorem State.setRegion_still (s : State) (r : Nat) (a : Region) : (s.setRegion r a).still = s.still := (rfl)
@[simp] theorem State.setChan_still (s : State) (c : Nat) (a : Channel) : (s.setChan c a).still = s.still := (rfl)
@[simp] theorem State.setKeeper_still (s : State) (n : Nat) (a : Keeper) : (s.setKeeper n a).still = s.still := (rfl)
@[simp] theorem State.setNi_still (s : State) (t : Nat) (a : Ni) : (s.setNi t a).still = s.still := (rfl)
@[simp] theorem State.setPwin_still (s : State) (k : Nat) (a : PWin) : (s.setPwin k a).still = s.still := (rfl)
@[simp] theorem State.setDpath_still (s : State) (p : Nat) (a : DPath) : (s.setDpath p a).still = s.still := (rfl)
@[simp] theorem State.queuePort_still (s : State) (p : Nat) (e : EvRec) : (s.queuePort p e).still = s.still := by
  simp [State.queuePort]
@[simp] theorem State.queueEv_still (s : State) (tenant kind code source data : Nat) : (s.queueEv tenant kind code source data).still = s.still := by
  simp [State.queueEv]
@[simp] theorem State.alarm_still (s : State) (tenant cause fields code source : Nat) :
    (s.alarm tenant cause fields code source).still = s.still := by
  simp [State.alarm]
@[simp] theorem State.setDegr_still (s : State) (k : Nat) (on : Bool) : (s.setDegr k on).still = s.still := by
  simp [State.setDegr]
@[simp] theorem State.setMode_still (s : State) (m : Mode) : (s.setMode m).still = s.still := by
  simp [State.setMode]
@[simp] theorem State.huddleCheck_still (s : State) : (s.huddleCheck).still = s.still := by
  simp [State.huddleCheck]
@[simp] theorem State.setMbox_still (s : State) (p m : Nat) (a : Mailbox) : (s.setMbox p m a).still = s.still := (rfl)
@[simp] theorem State.relayReply_still (s : State) (m code : Nat) (payload : List Byte) : (s.relayReply m code payload).still = s.still := (rfl)
@[simp] theorem State.replyWith_still (s : State) (p m code hops rsb : Nat) (payload : List Byte) :
    (s.replyWith p m code hops rsb payload).still = s.still := by
  simp [State.replyWith]
@[simp] theorem State.reply_still (s : State) (p m code : Nat) (payload : List Byte) : (s.reply p m code payload).still = s.still := by
  simp [State.reply]
@[simp] theorem State.endOp_still (s : State) (o : LongOp) (code result detail : Nat) : (s.endOp o code result detail).still = s.still := by
  unfold State.endOp
  split <;> simp
@[simp] theorem refuse_still (s : State) (code : Nat) : (refuse s code).1.still = s.still := (rfl)
@[simp] theorem State.rerouteAll_still (s : State) (avoid named closed : List Nat) : (s.rerouteAll avoid named closed).still = s.still := (rfl)
@[simp] theorem State.reroute_still (s : State) (avoid named : List Nat) : (s.reroute avoid named).still = s.still := (rfl)
@[simp] theorem State.injectAt_still (s : State) (t dport : Nat) (l : List (BitVec 288)) : (s.injectAt t dport l).still = s.still := (rfl)
@[simp] theorem State.sendReq_still (s : State) (who : Who) (r : Req) (dst dport : Nat) : (s.sendReq who r dst dport).still = s.still := by
  unfold State.sendReq
  split <;> simp
@[simp] theorem State.issueTo_still (s : State) (who : Who) (r : Req) (dst dport : Nat) : (s.issueTo who r dst dport).1.still = s.still := by
  unfold State.issueTo
  repeat' split
  all_goals simp
@[simp] theorem State.issue_still (s : State) (who : Who) (r : Req) : (s.issue who r).1.still = s.still := by
  unfold State.issue
  split <;> simp
@[simp] theorem State.retire_still (s : State) (o : Outst) : (s.retire o).still = s.still := (rfl)
@[simp] theorem State.takeReq_still (s : State) (r : Req) : (s.takeReq r).still = s.still := (rfl)
@[simp] theorem State.respond_still (s : State) (r : Req) (svc : Nat) (data : List Byte) : (s.respond r svc data).still = s.still := (rfl)
@[simp] theorem State.takeResp_still (s : State) (r : Resp) : (s.takeResp r).still = s.still := (rfl)
@[simp] theorem State.timeOut_still (s : State) (o : Outst) : (s.timeOut o).1.still = s.still := (rfl)
@[simp] theorem refused_still (s : State) (svc : Nat) : (refused s svc).1.still = s.still := (rfl)
@[simp] theorem State.setBundle_still (s : State) (k : Nat) (b : Bundle) : (s.setBundle k b).still = s.still := (rfl)
@[simp] theorem State.sendUnit_still (s : State) (d p i typ pay : Nat) : (s.sendUnit d p i typ pay).still = s.still := (rfl)
@[simp] theorem State.setRouter_still (s : State) (t : Nat) (r : Router) : (s.setRouter t r).still = s.still := (rfl)
@[simp] theorem State.answerUnroutable_still (s : State) (t f : Nat) : (s.answerUnroutable t f).still = s.still := by
  simp [State.answerUnroutable]
@[simp] theorem State.absorb_still (s : State) (t f : Nat) : (s.absorb t f).still = s.still := by
  simp [State.absorb]
@[simp] theorem State.resyncLink_still (s : State) (t p : Nat) : (s.resyncLink t p).still = s.still := (rfl)
@[simp] theorem State.avoidLink_still (s : State) (l : Nat) : (s.avoidLink l).still = s.still := by
  simp [State.avoidLink]
@[simp] theorem State.shutPort_still (s : State) (t p : Nat) : (s.shutPort t p).still = s.still := (rfl)
@[simp] theorem State.popArriving_still (s : State) (t p f : Nat) : (s.popArriving t p f).still = s.still := by
  simp [State.popArriving]
@[simp] theorem State.creditIn_still (s : State) (t p v : Nat) : (s.creditIn t p v).still = s.still := (rfl)
@[simp] theorem State.rtrApply_still (s : State) (t v : Nat) : (s.rtrApply t v).still = s.still := (rfl)
@[simp] theorem State.takeShadow_still (s : State) (t p : Nat) : (s.takeShadow t p).still = s.still := by
  simp [State.takeShadow]
@[simp] theorem State.evForward_still (s : State) (d : Nat) (via : Option Nat) (mask : Nat) : (s.evForward d via mask).still = s.still := by
  simp [State.evForward]
@[simp] theorem State.evLost_still (s : State) (d : Nat) : (s.evLost d).still = s.still := by
  simp [State.evLost]
@[simp] theorem State.raiseEv_still (s : State) (d tenant l : Nat) : (s.raiseEv d tenant l).still = s.still := by
  simp [State.raiseEv]
@[simp] theorem State.evIn_still (s : State) (d p mask : Nat) : (s.evIn d p mask).still = s.still := by
  simp [State.evIn]
@[simp] theorem State.ctrlForward_still (s : State) (typ d e : Nat) (w : BitVec 288) : (s.ctrlForward typ d e w).still = s.still := by
  unfold State.ctrlForward
  split <;> simp
@[simp] theorem State.ctrlSend_still (s : State) (typ d e : Nat) : (s.ctrlSend typ d e).still = s.still := by
  simp [State.ctrlSend]
@[simp] theorem State.taken_still (s : State) (p m : Nat) : (s.taken p m).still = s.still := (rfl)
@[simp] theorem State.answer_still (s : State) (c : Ctx) (a : Reply) : (s.answer c a).still = s.still := by
  unfold State.answer
  split <;> simp
@[simp] theorem State.replyWaiting_still (s : State) (p m code : Nat) (pay : List Byte) : (s.replyWaiting p m code pay).still = s.still := by
  simp [State.replyWaiting]
@[simp] theorem State.addWait_still (s : State) (o : LongOp) : (s.addWait o).still = s.still := (rfl)
@[simp] theorem State.acceptOp_still (s : State) (o : LongOp) : (s.acceptOp o).still = s.still := by
  simp [State.acceptOp]
@[simp] theorem State.closeOp_still (s : State) (o : LongOp) (waiting : Bool) (code result detail : Nat) (pay : List Byte) :
    (s.closeOp o waiting code result detail pay).still = s.still := by
  simp [State.closeOp]
@[simp] theorem State.finishOp_still (s : State) (o : LongOp) (code result detail : Nat) (pay : List Byte) :
    (s.finishOp o code result detail pay).still = s.still := by
  simp [State.finishOp]
@[simp] theorem State.finishOps_still (s : State) (res : Nat) (opcodes : List Nat) (code result detail : Nat) (pay : List Byte) :
    (s.finishOps res opcodes code result detail pay).still = s.still := by
  simp [State.finishOps]
@[simp] theorem State.maltarResumes_still (s : State) : (s.maltarResumes).still = s.still := by
  simp [State.maltarResumes]
@[simp] theorem State.setChState_still (s : State) (k v : Nat) : (s.setChState k v).still = s.still := by
  simp [State.setChState]
@[simp] theorem State.setPair_still (s : State) (lo hi : Rg) (i j v : Nat) : (s.setPair lo hi i j v).still = s.still := (rfl)
@[simp] theorem State.setChDesc_still (s : State) (k a : Nat) : (s.setChDesc k a).still = s.still := (rfl)
@[simp] theorem State.dmaFail_still (s : State) (k code phase desc : Nat) : (s.dmaFail k code phase desc).still = s.still := by
  simp [State.dmaFail]
@[simp] theorem State.dmaRefuse_still (s : State) (k kind burst code : Nat) : (s.dmaRefuse k kind burst code).still = s.still := by
  simp [State.dmaRefuse]
@[simp] theorem State.dmaStart_still (s : State) (k : Nat) : (s.dmaStart k).still = s.still := by
  simp [State.dmaStart]
@[simp] theorem State.dmaTryStart_still (s : State) (k : Nat) : (s.dmaTryStart k).still = s.still := by
  simp [State.dmaTryStart]
@[simp] theorem State.dmaTrigger_still (s : State) (d l : Nat) : (s.dmaTrigger d l).still = s.still := by
  simp [State.dmaTrigger]
@[simp] theorem State.dmaSend_still (s : State) (k : Nat) (r : Retry) : (s.dmaSend k r).1.still = s.still := by
  unfold State.dmaSend
  split <;> simp
@[simp] theorem State.dmaBegin_still (s : State) (k : Nat) (d : Desc) : (s.dmaBegin k d).still = s.still := (rfl)
@[simp] theorem State.dmaNext_still (s : State) (k : Nat) : (s.dmaNext k).still = s.still := by
  unfold State.dmaNext
  split <;> simp
@[simp] theorem State.dmaMismatch_still (s : State) (k m : Nat) : (s.dmaMismatch k m).still = s.still := by
  simp [State.dmaMismatch]
@[simp] theorem State.dmaWrite_still (s : State) (k : Nat) (d : Desc) (b : Burst) : (s.dmaWrite k d b).still = s.still := (rfl)
@[simp] theorem State.dmaRead_still (s : State) (k : Nat) (b : Burst) : (s.dmaRead k b).still = s.still := by
  unfold State.dmaRead
  split <;> simp
@[simp] theorem State.dmaOk_still (s : State) (k kind burst off : Nat) (data : List Byte) : (s.dmaOk k kind burst off data).still = s.still := by
  unfold State.dmaOk
  split
  · simp
  · split <;> simp
@[simp] theorem State.eccLog_still (s : State) (g : EGroup) (i : Nat) (ue : Bool) (unit loc p syn : Nat) :
    (s.eccLog g i ue unit loc p syn).still = s.still := by
  unfold State.eccLog
  split <;> simp
@[simp] theorem State.eccError_still (s : State) (g : EGroup) (i : Nat) (ue : Bool) (unit loc p syn : Nat) :
    (s.eccError g i ue unit loc p syn).still = s.still := by
  simp [State.eccError]
@[simp] theorem State.eccOutcome_still (s : State) (g : EGroup) (i unit loc : Nat) (o : SecOut) (p syn : Nat) :
    (s.eccOutcome g i unit loc o p syn).still = s.still := by
  unfold State.eccOutcome
  split <;> simp
@[simp] theorem State.eccClear_still (s : State) (g : EGroup) (i : Nat) : (s.eccClear g i).still = s.still := by
  simp [State.eccClear]
@[simp] theorem State.mend_still (s : State) (st l n : Nat) : (s.mend st l n).still = s.still := (rfl)
@[simp] theorem State.setCnode_still (s : State) (st i j n : Nat) (c : CNode) : (s.setCnode st i j n c).still = s.still := (rfl)
@[simp] theorem State.setCached_still (s : State) (st i j n : Nat) (v : Option Bool) : (s.setCached st i j n v).still = s.still := (rfl)
@[simp] theorem State.tamper_still (s : State) (st i n : Nat) : (s.tamper st i n).still = s.still := (rfl)
@[simp] theorem State.nameFault_still (s : State) (st i j n : Nat) : (s.nameFault st i j n).still = s.still := by
  simp [State.nameFault]
@[simp] theorem State.setFault_still (s : State) (st i j n : Nat) : (s.setFault st i j n).still = s.still := by
  simp [State.setFault]
@[simp] theorem State.bumpChild_still (s : State) (st i j n : Nat) (p : ProtIn) : (s.bumpChild st i j n p).still = s.still := by
  simp [State.bumpChild]
@[simp] theorem State.cacheLook_still (s : State) (st i j n : Nat) (p : ProtIn) : (s.cacheLook st i j n p).1.still = s.still := by
  unfold State.cacheLook
  repeat' split
  all_goals simp
@[simp] theorem State.lockLine_still (s : State) (st i line : Nat) : (s.lockLine st i line).still = s.still := (rfl)
@[simp] theorem State.advanceLine_still (s : State) (st i line : Nat) (p : ProtIn) : (s.advanceLine st i line p).still = s.still := (rfl)
@[simp] theorem State.hsend_still (s : State) (r : Req) (svc : Nat) (poison : Bool) (data : List Byte) :
    (s.hsend r svc poison data).still = s.still := by
  simp [State.hsend]
@[simp] theorem State.setRline_still (s : State) (d line : Nat) (v : Option RLine) : (s.setRline d line v).still = s.still := (rfl)
@[simp] theorem State.readAnswer_still (s : State) (w : RWait) : (s.readAnswer w).still = s.still := by
  simp [State.readAnswer]
@[simp] theorem State.tickKeeper_still (s : State) (n : Nat) : (s.tickKeeper n).still = s.still := by
  simp [State.tickKeeper]
@[simp] theorem State.tick_still (s : State) : (s.tick).still = s.still := by
  simp [State.tick]
@[simp] theorem State.detachCopies_still (s : State) : (s.detachCopies).still = s.still := by
  simp [State.detachCopies]
@[simp] theorem State.realign_still (s : State) : (s.realign).still = s.still := by
  simp [State.realign]
@[simp] theorem State.fireAlarm_still (s : State) (n : Nat) : (s.fireAlarm n).still = s.still := by
  simp [State.fireAlarm]
@[simp] theorem State.alarmAfter_still (s : State) (n : Nat) : (s.alarmAfter n).still = s.still := by
  simp [State.alarmAfter]
@[simp] theorem State.applyCorr_still (s : State) (n : Nat) (c : Corr) : (s.applyCorr n c).still = s.still := by
  unfold State.applyCorr
  split <;> simp
@[simp] theorem State.refuseCorr_still (s : State) (n kind : Nat) : (s.refuseCorr n kind).still = s.still := by
  simp [State.refuseCorr]
@[simp] theorem State.stageCorr_still (s : State) (n : Nat) (c : Corr) (cmd : Option (Nat × Nat)) : (s.stageCorr n c cmd).still = s.still := (rfl)
@[simp] theorem State.servoRetry_still (s : State) (n : Nat) (c : Corr) (cmd : Option (Nat × Nat)) : (s.servoRetry n c cmd).still = s.still := by
  unfold State.servoRetry
  split <;> simp
@[simp] theorem State.putTime_still (s : State) (rn rl rh : Rg) (n v : Nat) : (s.putTime rn rl rh n v).still = s.still := (rfl)
@[simp] theorem State.snap_still (s : State) (n : Nat) : (s.snap n).still = s.still := by
  simp [State.snap]
@[simp] theorem State.armTk0_still (s : State) : (s.armTk0).still = s.still := by
  simp [State.armTk0]
@[simp] theorem State.tkDisabled_still (s : State) (n : Nat) : (s.tkDisabled n).still = s.still := by
  simp [State.tkDisabled]
@[simp] theorem State.writeTkCtl_still (s : State) (n v tenant : Nat) (ref : Bool) : (s.writeTkCtl n v tenant ref).still = s.still := by
  simp [State.writeTkCtl]
@[simp] theorem State.alarmSet_still (s : State) (n : Nat) : (s.alarmSet n).still = s.still := (rfl)
@[simp] theorem State.capture_still (s : State) (n : Nat) : (s.capture n).still = s.still := by
  simp [State.capture]
@[simp] theorem State.resetTk_still (s : State) (n : Nat) : (s.resetTk n).still = s.still := by
  simp [State.resetTk]
@[simp] theorem State.updHoldover_still (s : State) : (s.updHoldover).still = s.still := by
  simp [State.updHoldover]
@[simp] theorem State.sourceSet_still (s : State) (was : Bool) : (s.sourceSet was).still = s.still := by
  simp [State.sourceSet]
@[simp] theorem corrCmd_still (n : Nat) (k : Corr) (c : Ctx) (s : State) : (corrCmd n k c s).1.still = s.still := by
  unfold corrCmd
  repeat' split
  all_goals simp
@[simp] theorem cmdTimeSet_still (a : Ctx) (s : State) : (cmdTimeSet a s).1.still = s.still := by
  simp [cmdTimeSet]
@[simp] theorem cmdTimeAdjust_still (a : Ctx) (s : State) : (cmdTimeAdjust a s).1.still = s.still := by
  simp [cmdTimeAdjust]
@[simp] theorem cmdTimeRate_still (a : Ctx) (s : State) : (cmdTimeRate a s).1.still = s.still := by
  simp [cmdTimeRate]
@[simp] theorem cmdTimeArm_still (a : Ctx) (s : State) : (cmdTimeArm a s).1.still = s.still := by
  unfold cmdTimeArm
  split <;> simp
@[simp] theorem cmdTimeClear_still (a : Ctx) (s : State) : (cmdTimeClear a s).1.still = s.still := by
  unfold cmdTimeClear
  split <;> simp
@[simp] theorem cmdTimePps_still (a : Ctx) (s : State) : (cmdTimePps a s).1.still = s.still := by
  unfold cmdTimePps
  split <;> simp
@[simp] theorem cmdTimeSource_still (a : Ctx) (s : State) : (cmdTimeSource a s).1.still = s.still := by
  unfold cmdTimeSource
  split <;> simp
@[simp] theorem cmdTimeStatus_still (a : Ctx) (s : State) : (cmdTimeStatus a s).1.still = s.still := (rfl)
@[simp] theorem State.writeSyCtl_still (s : State) (k v : Nat) : (s.writeSyCtl k v).still = s.still := by
  simp [State.writeSyCtl]
@[simp] theorem State.writeSyFrac_still (s : State) (k v : Nat) : (s.writeSyFrac k v).still = s.still := by
  simp [State.writeSyFrac]
@[simp] theorem State.applyGc_still (s : State) (j v : Nat) : (s.applyGc j v).still = s.still := by
  simp [State.applyGc]
@[simp] theorem State.writeGcCtl_still (s : State) (j v : Nat) : (s.writeGcCtl j v).still = s.still := by
  simp [State.writeGcCtl]
@[simp] theorem State.gcDone_still (s : State) (j : Nat) : (s.gcDone j).still = s.still := by
  simp [State.gcDone]
@[simp] theorem State.writeLeaf_still (s : State) (t v : Nat) : (s.writeLeaf t v).still = s.still := by
  simp [State.writeLeaf]
@[simp] theorem State.carRequest_still (s : State) (c : Nat) : (s.carRequest c).still = s.still := by
  unfold State.carRequest
  split <;> simp
@[simp] theorem State.carrierLost_still (s : State) (l : Nat) : (s.carrierLost l).still = s.still := by
  simp [State.carrierLost]
@[simp] theorem State.writeCarCtl_still (s : State) (v : Nat) : (s.writeCarCtl v).still = s.still := by
  simp [State.writeCarCtl]
@[simp] theorem State.writeFcCtl_still (s : State) (c v : Nat) : (s.writeFcCtl c v).still = s.still := by
  simp [State.writeFcCtl]
@[simp] theorem cmdClockStatus_still (a : Ctx) (s : State) : (cmdClockStatus a s).1.still = s.still := (rfl)
@[simp] theorem cmdClockSelect_still (a : Ctx) (s : State) : (cmdClockSelect a s).1.still = s.still := by
  unfold cmdClockSelect
  split <;> simp
@[simp] theorem State.applyIst_still (s : State) : (s.applyIst).still = s.still := (rfl)
@[simp] theorem State.setRegs_still (s : State) (l : List (Rg × Nat × Nat × Nat)) : (s.setRegs l).still = s.still := by
  simp [State.setRegs]
@[simp] theorem State.applyBoot_still (s : State) : (s.applyBoot).still = s.still := by
  simp [State.applyBoot]
@[simp] theorem State.viewUpdate_still (s : State) : (s.viewUpdate).still = s.still := by
  simp [State.viewUpdate]
@[simp] theorem cmdSettingsDelete_still (a : Ctx) (s : State) : (cmdSettingsDelete a s).1.still = s.still := by
  unfold cmdSettingsDelete
  split <;> simp
@[simp] theorem cmdSettingsCommit_still (a : Ctx) (s : State) : (cmdSettingsCommit a s).1.still = s.still := by
  unfold cmdSettingsCommit
  repeat' split
  all_goals simp
@[simp] theorem cmdSettingsDiscard_still (a : Ctx) (s : State) : (cmdSettingsDiscard a s).1.still = s.still := by
  unfold cmdSettingsDiscard
  split <;> simp
@[simp] theorem State.setHbmSt_still (s : State) (st v : Nat) : (s.setHbmSt st v).still = s.still := by
  simp [State.setHbmSt]
@[simp] theorem State.setHreqs_still (s : State) (st : Nat) (l : List HReq) : (s.setHreqs st l).still = s.still := (rfl)
@[simp] theorem State.setHchange_still (s : State) (st : Nat) (c : Option HChange) : (s.setHchange st c).still = s.still := (rfl)
@[simp] theorem State.hanswer_still (s : State) (st : Nat) (h : HReq) (svc : Nat) (poison late : Bool) (data : List Byte) :
    (s.hanswer st h svc poison late data).still = s.still := by
  simp [State.hanswer]
@[simp] theorem State.changeFrozen_still (s : State) (st : Nat) : (s.changeFrozen st).still = s.still := by
  unfold State.changeFrozen
  split <;> simp
@[simp] theorem State.hbmFreeze_still (s : State) (st cause l : Nat) : (s.hbmFreeze st cause l).still = s.still := by
  simp [State.hbmFreeze]
@[simp] theorem State.hpoison_still (s : State) (st : Nat) (h : HReq) : (s.hpoison st h).still = s.still := by
  simp [State.hpoison]
@[simp] theorem State.activate_still (s : State) (st l : Nat) : (s.activate st l).still = s.still := by
  simp [State.activate]
@[simp] theorem State.precharge_still (s : State) (st : Nat) : (s.precharge st).still = s.still := (rfl)
@[simp] theorem State.markUnver_still (s : State) (st i : Nat) : (s.markUnver st i).still = s.still := (rfl)
@[simp] theorem State.dropHeld_still (s : State) (st id : Nat) : (s.dropHeld st id).still = s.still := (rfl)
@[simp] theorem State.invalBack_still (s : State) (st wid : Nat) (late : Bool) : (s.invalBack st wid late).still = s.still := by
  unfold State.invalBack
  split <;> simp
@[simp] theorem State.invalEnd_still (s : State) (st wid svc : Nat) (late : Bool) : (s.invalEnd st wid svc late).still = s.still := by
  simp [State.invalEnd]
@[simp] theorem State.hbmThaw_still (s : State) (st : Nat) : (s.hbmThaw st).still = s.still := by
  simp [State.hbmThaw]
@[simp] theorem State.hbmDisable_still (s : State) (st : Nat) : (s.hbmDisable st).still = s.still := by
  simp [State.hbmDisable]
@[simp] theorem State.hbmEnable_still (s : State) (st : Nat) : (s.hbmEnable st).still = s.still := by
  simp [State.hbmEnable]
@[simp] theorem State.writeDelays_still (s : State) (st band : Nat) : (s.writeDelays st band).still = s.still := by
  simp [State.writeDelays]
@[simp] theorem State.bootTimings_still (s : State) (st : Nat) : (s.bootTimings st).still = s.still := by
  simp [State.bootTimings]
@[simp] theorem State.catchUp_still (s : State) (st : Nat) : (s.catchUp st).still = s.still := (rfl)
@[simp] theorem State.panicUpdate_still (s : State) (st : Nat) : (s.panicUpdate st).still = s.still := by
  simp [State.panicUpdate]
@[simp] theorem State.rtFence_still (s : State) (r : Nat) : (s.rtFence r).still = s.still := by
  simp [State.rtFence]
@[simp] theorem State.hbmReset_still (s : State) (st : Nat) : (s.hbmReset st).still = s.still := by
  simp [State.hbmReset]
@[simp] theorem State.changeAbort_still (s : State) (st : Nat) : (s.changeAbort st).still = s.still := by
  unfold State.changeAbort
  split <;> simp
@[simp] theorem State.stackTemp_still (s : State) (st : Nat) (t : Option Nat) : (s.stackTemp st t).still = s.still := by
  unfold State.stackTemp
  split <;> simp
@[simp] theorem State.changeStart_still (s : State) (st : Nat) (c : HChange) : (s.changeStart st c).still = s.still := by
  simp [State.changeStart]
@[simp] theorem State.bandWant_still (s : State) (st want : Nat) : (s.bandWant st want).still = s.still := by
  unfold State.bandWant
  split
  · simp
  · split <;> simp
@[simp] theorem State.unstale_still (s : State) (st : Nat) : (s.unstale st).still = s.still := by
  simp [State.unstale]
@[simp] theorem State.bandTake_still (s : State) (st : Nat) (b : Option Nat) : (s.bandTake st b).still = s.still := by
  unfold State.bandTake
  split <;> simp
@[simp] theorem State.changeEnd_still (s : State) (st : Nat) : (s.changeEnd st).still = s.still := (rfl)
@[simp] theorem State.changeDone_still (s : State) (st : Nat) : (s.changeDone st).still = s.still := by
  unfold State.changeDone
  split <;> simp
@[simp] theorem State.rateStart_still (s : State) (st rate : Nat) : (s.rateStart st rate).still = s.still := by
  simp [State.rateStart]
@[simp] theorem State.rateGo_still (s : State) (st : Nat) : (s.rateGo st).still = s.still := by
  simp [State.rateGo]
@[simp] theorem State.writeHbmCtl_still (s : State) (st v : Nat) : (s.writeHbmCtl st v).still = s.still := by
  simp [State.writeHbmCtl]
@[simp] theorem State.drawScr_still (s : State) (st : Nat) : (s.drawScr st).still = s.still := by
  simp [State.drawScr]
@[simp] theorem State.holdGone_still (s : State) (st l : Nat) (r : Req) : (s.holdGone st l r).still = s.still := (rfl)
@[simp] theorem State.freeTamper_still (s : State) : (s.freeTamper).1.still = s.still := (rfl)
@[simp] theorem cmdHbmStatus_still (a : Ctx) (s : State) : (cmdHbmStatus a s).1.still = s.still := (rfl)
@[simp] theorem State.storePut_still (s : State) (area o : Nat) (l : List Byte) : (s.storePut area o l).still = s.still := (rfl)
@[simp] theorem State.setSlot_still (s : State) (k v : Nat) : (s.setSlot k v).still = s.still := by
  simp [State.setSlot]
@[simp] theorem State.qAbort_still (s : State) (k : Nat) : (s.qAbort k).still = s.still := by
  simp [State.qAbort]
@[simp] theorem State.qWrite_still (s : State) (k data : Nat) (last poison : Bool) : (s.qWrite k data last poison).still = s.still := by
  simp [State.qWrite]
@[simp] theorem State.engPend_still (s : State) (t src : Nat) : (s.engPend t src).still = s.still := by
  simp [State.engPend]
@[simp] theorem State.qNotice_still (s : State) (k : Nat) : (s.qNotice k).still = s.still := by
  simp [State.qNotice]
@[simp] theorem State.qVisible_still (s : State) (k : Nat) : (s.qVisible k).still = s.still := by
  unfold State.qVisible
  split <;> simp
@[simp] theorem State.qFlush_still (s : State) (k : Nat) : (s.qFlush k).still = s.still := (rfl)
@[simp] theorem State.qDisable_still (s : State) (k : Nat) : (s.qDisable k).still = s.still := by
  simp [State.qDisable]
@[simp] theorem State.qReset_still (s : State) (k : Nat) : (s.qReset k).still = s.still := by
  simp [State.qReset]
@[simp] theorem State.qCut_still (s : State) (k : Nat) : (s.qCut k).still = s.still := (rfl)
@[simp] theorem State.qCutKind_still (s : State) (t kind : Nat) : (s.qCutKind t kind).still = s.still := by
  simp [State.qCutKind]
@[simp] theorem State.writeQCtl_still (s : State) (k v : Nat) : (s.writeQCtl k v).still = s.still := by
  simp [State.writeQCtl]
@[simp] theorem State.setLn_still (s : State) (r : Rg) (l v : Nat) : (s.setLn r l v).still = s.still := (rfl)
@[simp] theorem State.setLnF_still (s : State) (f : FRef) (l v : Nat) : (s.setLnF f l v).still = s.still := (rfl)
@[simp] theorem State.lnCount_still (s : State) (f : FRef) (l k : Nat) : (s.lnCount f l k).still = s.still := (rfl)
@[simp] theorem State.lnEv_still (s : State) (l : Nat) : (s.lnEv l).still = s.still := by
  simp [State.lnEv]
@[simp] theorem State.setLnSt_still (s : State) (l v : Nat) : (s.setLnSt l v).still = s.still := by
  simp [State.setLnSt]
@[simp] theorem State.setLos_still (s : State) (l : Nat) (b : Bool) : (s.setLos l b).still = s.still := by
  simp [State.setLos]
@[simp] theorem State.setLol_still (s : State) (l : Nat) (b : Bool) : (s.setLol l b).still = s.still := by
  simp [State.setLol]
@[simp] theorem State.enterActive_still (s : State) (l : Nat) : (s.enterActive l).still = s.still := by
  simp [State.enterActive]
@[simp] theorem State.enterExchange_still (s : State) (l : Nat) : (s.enterExchange l).still = s.still := by
  simp [State.enterExchange]
@[simp] theorem State.enterTrain_still (s : State) (l link fec : Nat) : (s.enterTrain l link fec).still = s.still := by
  simp [State.enterTrain]
@[simp] theorem State.checkBits_still (s : State) (l : Nat) (bs : List Bool) : (s.checkBits l bs).still = s.still := by
  simp [State.checkBits]
@[simp] theorem State.genSend_still (s : State) (l : Nat) : (s.genSend l).still = s.still := by
  simp [State.genSend]
@[simp] theorem State.testStart_still (s : State) (l : Nat) : (s.testStart l).still = s.still := (rfl)
@[simp] theorem State.writeReffreq_still (s : State) (q v : Nat) : (s.writeReffreq q v).still = s.still := by
  simp [State.writeReffreq]
@[simp] theorem State.writeTxeq_still (s : State) (l v : Nat) : (s.writeTxeq l v).still = s.still := by
  simp [State.writeTxeq]
@[simp] theorem State.writeRate_still (s : State) (l : Nat) (frac : Bool) (v : Nat) : (s.writeRate l frac v).still = s.still := (rfl)
@[simp] theorem State.popStamp_still (s : State) (l : Nat) : (s.popStamp l).1.still = s.still := by
  unfold State.popStamp
  split <;> simp
@[simp] theorem State.applyQuadPart_still (s : State) (q : Nat) (v : List Byte) : (s.applyQuadPart q v).still = s.still := by
  simp [State.applyQuadPart]
@[simp] theorem State.seamFault_still (s : State) (d code port c b w : Nat) : (s.seamFault d code port c b w).still = s.still := by
  simp [State.seamFault]
@[simp] theorem State.setRoll_still (s : State) (d : Nat) (r : RollDie) : (s.setRoll d r).still = s.still := (rfl)
@[simp] theorem State.rollSend_still (s : State) (d p : Nat) (w : BitVec 288) : (s.rollSend d p w).still = s.still := (rfl)
@[simp] theorem State.startRoll_still (s : State) : (s.startRoll).still = s.still := (rfl)
@[simp] theorem State.setPriv_still (s : State) (d p i st map : Nat) : (s.setPriv d p i st map).still = s.still := by
  simp [State.setPriv]
@[simp] theorem State.freshPair_still (s : State) (d p i : Nat) : (s.freshPair d p i).still = s.still := (rfl)
@[simp] theorem State.trained_still (s : State) (d p i map : Nat) : (s.trained d p i map).still = s.still := by
  simp [State.trained]
@[simp] theorem State.seamDegr_still (s : State) : (s.seamDegr).still = s.still := by
  simp [State.seamDegr]
@[simp] theorem State.applyHeader_still (s : State) (h : Option (List Byte)) (allow : Bool) : (s.applyHeader h allow).still = s.still := by
  simp [State.applyHeader]
@[simp] theorem State.trainAll_still (s : State) (maps : List (Nat × Nat)) (sel : Nat → Nat → Nat → Bool) :
    (s.trainAll maps sel).still = s.still := by
  simp [State.trainAll]
@[simp] theorem State.setRepair_still (s : State) (k word : Nat) (use : List (Nat × Nat)) : (s.setRepair k word use).still = s.still := (rfl)
@[simp] theorem State.writeRoutes_still (s : State) : (s.writeRoutes).still = s.still := (rfl)
@[simp] theorem State.enableLink_still (s : State) (l : Nat) : (s.enableLink l).still = s.still := (rfl)
@[simp] theorem State.disableLink_still (s : State) (l : Nat) : (s.disableLink l).still = s.still := by
  simp [State.disableLink]
@[simp] theorem State.privAlarm_still (s : State) (d p i : Nat) (down : Bool) : (s.privAlarm d p i down).still = s.still := by
  simp [State.privAlarm]
@[simp] theorem State.isolated_still (s : State) (d : Nat) : (s.isolated d).still = s.still := by
  simp [State.isolated]
@[simp] theorem State.isolatedAll_still (s : State) : (s.isolatedAll).still = s.still := by
  simp [State.isolatedAll]
@[simp] theorem State.maltarAvoid_still (s : State) (d p i : Nat) : (s.maltarAvoid d p i).still = s.still := by
  simp [State.maltarAvoid]
@[simp] theorem State.dropUnits_still (s : State) (d k : Nat) : (s.dropUnits d k).still = s.still := by
  simp [State.dropUnits]
@[simp] theorem State.maltarCatchUp_still (s : State) : (s.maltarCatchUp).still = s.still := by
  simp [State.maltarCatchUp]
@[simp] theorem State.ackIn_still (s : State) (d p i u : Nat) : (s.ackIn d p i u).still = s.still := (rfl)
@[simp] theorem State.creditsIn_still (s : State) (d p i u : Nat) : (s.creditsIn d p i u).still = s.still := by
  simp [State.creditsIn]
@[simp] theorem State.linkBack_still (s : State) (l : Nat) : (s.linkBack l).still = s.still := by
  simp [State.linkBack]
@[simp] theorem State.resetEnd_still (s : State) (d p : Nat) (late : Bool) : (s.resetEnd d p late).still = s.still := by
  simp [State.resetEnd]
@[simp] theorem State.setFf_still (s : State) (t key : Nat) (v : Bool) : (s.setFf t key v).still = s.still := (rfl)
@[simp] theorem State.setXing_still (s : State) (k : Nat) (a : Crossing) : (s.setXing k a).still = s.still := (rfl)
@[simp] theorem State.putFrame_still (s : State) (a v : Nat) : (s.putFrame a v).still = s.still := by
  simp [State.putFrame]
@[simp] theorem State.uninitFrame_still (s : State) (a : Nat) : (s.uninitFrame a).still = s.still := by
  simp [State.uninitFrame]
@[simp] theorem State.blankFrames_still (s : State) (cov : Nat → Bool) : (s.blankFrames cov).still = s.still := (rfl)
@[simp] theorem State.wipeTile_still (s : State) (t : Nat) : (s.wipeTile t).still = s.still := (rfl)
@[simp] theorem State.setCtl_still (s : State) (r : Option Nat) (d : Nat) (c : LoadCtl) : (s.setCtl r d c).still = s.still := (rfl)
@[simp] theorem State.ctlFail_still (s : State) (r : Option Nat) (d code addr : Nat) : (s.ctlFail r d code addr).still = s.still := (rfl)
@[simp] theorem State.storeErrs_still (s : State) (d : Nat) (l : List Bool) : (s.storeErrs d l).still = s.still := by
  simp [State.storeErrs]
@[simp] theorem State.blksInit_still (s : State) (t : Nat) : (s.blksInit t).still = s.still := by
  simp [State.blksInit]
@[simp] theorem State.blkEncode_still (s : State) (t b : Nat) : (s.blkEncode t b).still = s.still := (rfl)
@[simp] theorem State.blksEncode_still (s : State) (t : Nat) : (s.blksEncode t).still = s.still := by
  simp [State.blksEncode]
@[simp] theorem State.setTile_still (s : State) (t : Nat) (c : TileCfg) : (s.setTile t c).still = s.still := by
  simp [State.setTile]
@[simp] theorem State.setRegions_still (s : State) (l : List (Nat × Nat)) : (s.setRegions l).still = s.still := by
  simp [State.setRegions]
@[simp] theorem State.bufferWrite_still (s : State) (p m o : Nat) (l : List Byte) : (s.bufferWrite p m o l).still = s.still := by
  simp [State.bufferWrite]
@[simp] theorem cmdPoll_still (a : Ctx) (s : State) : (cmdPoll a s).1.still = s.still := (rfl)
@[simp] theorem cmdIdentify_still (a : Ctx) (s : State) : (cmdIdentify a s).1.still = s.still := (rfl)
@[simp] theorem cmdGetEvents_still (a : Ctx) (s : State) : (cmdGetEvents a s).1.still = s.still := (rfl)
@[simp] theorem cmdGetStatus_still (a : Ctx) (s : State) : (cmdGetStatus a s).1.still = s.still := by
  simp [cmdGetStatus]
@[simp] theorem State.setTlp_still (s : State) (p : Nat) (t : Tlp) : (s.setTlp p t).still = s.still := (rfl)
@[simp] theorem State.bar2Error_still (s : State) (p svc a : Nat) : (s.bar2Error p svc a).still = s.still := by
  simp [State.bar2Error]
@[simp] theorem State.bar2End_still (s : State) (p id : Nat) : (s.bar2End p id).still = s.still := by
  unfold State.bar2End
  split <;> simp
@[simp] theorem State.bar2Fail_still (s : State) (p : Nat) (t : Tlp) (svc : Nat) : (s.bar2Fail p t svc).still = s.still := by
  simp [State.bar2Fail]
@[simp] theorem State.bar2Send_still (s : State) (p : Nat) (t : Tlp) (a : Nat × Nat × List Byte) : (s.bar2Send p t a).1.still = s.still := by
  simp [State.bar2Send]
@[simp] theorem State.aerReport_still (s : State) (p : Nat) : (s.aerReport p).still = s.still := (rfl)
@[simp] theorem State.keepPins_still (s : State) : (s.keepPins).still = s.still := (rfl)
@[simp] theorem State.engSend_still (s : State) (t : Nat) (who : Who) (r : Req) : (s.engSend t who r).1.still = s.still := by
  unfold State.engSend
  split <;> simp
@[simp] theorem State.netIssue_still (s : State) (t : Nat) (who : Who) (ps : Nat) (r : Req) (c : Nat) :
    (s.netIssue t who ps r c).still = s.still := by
  simp [State.netIssue]
@[simp] theorem State.netFinish_still (s : State) (t : Nat) (who : Who) (svc : Nat) (data : List Byte) :
    (s.netFinish t who svc data).still = s.still := by
  unfold State.netFinish
  split <;> simp
@[simp] theorem State.holdEnd_still (s : State) : (s.holdEnd).still = s.still := by
  simp [State.holdEnd]
@[simp] theorem State.engMemWrite_still (s : State) (t m o : Nat) (data : List Byte) : (s.engMemWrite t m o data).still = s.still := by
  simp [State.engMemWrite]
@[simp] theorem State.wdReload_still (s : State) (t : Nat) : (s.wdReload t).still = s.still := (rfl)
@[simp] theorem State.wdCount_still (s : State) (t k : Nat) : (s.wdCount t k).still = s.still := by
  simp [State.wdCount]
@[simp] theorem State.engEv_still (s : State) (t : Nat) : (s.engEv t).still = s.still := by
  simp [State.engEv]
@[simp] theorem State.sinkAtomic_still (s : State) (t : Nat) : (s.sinkAtomic t).still = s.still := (rfl)
@[simp] theorem State.trace_still (s : State) (t kind src dst : Nat) : (s.trace t kind src dst).still = s.still := by
  simp [State.trace]
@[simp] theorem State.dbgEnd_still (s : State) (t : Nat) : (s.dbgEnd t).still = s.still := by
  simp [State.dbgEnd]
@[simp] theorem State.engSlots_still (s : State) (t : Nat) (before : Option (Nat × Nat)) : (s.engSlots t before).still = s.still := by
  unfold State.engSlots
  split <;> simp
@[simp] theorem State.setFeed_still (s : State) (t : Nat) (f : Feed) : (s.setFeed t f).still = s.still := (rfl)
@[simp] theorem State.feedEnd_still (s : State) (t cause : Nat) : (s.feedEnd t cause).still = s.still := by
  simp [State.feedEnd]
@[simp] theorem State.edgeStart_still (s : State) (join : Bool) : (s.edgeStart join).still = s.still := by
  simp [State.edgeStart]
@[simp] theorem State.clusterEdge_still (s p : State) (ext : Wire → Bool) (t cluster net : Nat) (rise : Bool) :
    (s.clusterEdge p ext t cluster net rise).still = s.still := by
  simp [State.clusterEdge]
@[simp] theorem State.xingEdge_still (s p : State) (ext : Wire → Bool) (t cluster net : Nat) (rise : Bool) :
    (s.xingEdge p ext t cluster net rise).still = s.still := by
  simp [State.xingEdge]
@[simp] theorem State.recvEdge_still (s : State) (k : Nat) : (s.recvEdge k).still = s.still := (rfl)
@[simp] theorem State.cntEdge_still (s : State) (k : Nat) : (s.cntEdge k).still = s.still := (rfl)
@[simp] theorem State.yEdge_still (s : State) (t : Nat) : (s.yEdge t).still = s.still := by
  simp [State.yEdge]
@[simp] theorem State.noticeEdge_still (s : State) (k : Nat) : (s.noticeEdge k).still = s.still := by
  simp [State.noticeEdge]
@[simp] theorem State.xSend_still (s p : State) (k : Nat) (c : XCfg) (word : Nat) : (s.xSend p k c word).still = s.still := by
  simp [State.xSend]
@[simp] theorem State.setBlk_still (s : State) (t b : Nat) (m : BlkMem) : (s.setBlk t b m).still = s.still := (rfl)
@[simp] theorem State.storeArr_still (s : State) (t b : Nat) (l : List (Nat × Nat × Nat)) : (s.storeArr t b l).still = s.still := by
  simp [State.storeArr]
@[simp] theorem State.blkLog_still (s : State) (t b : Nat) (e : Option (Nat × SecOut × Nat × Nat)) : (s.blkLog t b e).still = s.still := by
  unfold State.blkLog
  split <;> simp
@[simp] theorem State.engHaltReq_still (s : State) (path t : Nat) : (s.engHaltReq path t).still = s.still := by
  simp [State.engHaltReq]
@[simp] theorem State.feedStart_still (s : State) (t w : Nat) : (s.feedStart t w).still = s.still := by
  unfold State.feedStart
  split <;> simp
@[simp] theorem State.refHaltNow_still (s : State) (cause unit : Nat) : (s.refHaltNow cause unit).still = s.still := by
  simp [State.refHaltNow]
@[simp] theorem State.refHaltReq_still (s : State) : (s.refHaltReq).still = s.still := by
  simp [State.refHaltReq]
@[simp] theorem State.refStep_still (s : State) : (s.refStep).still = s.still := by
  simp [State.refStep]
@[simp] theorem State.refFeed_still (s : State) (w : Nat) : (s.refFeed w).still = s.still := by
  simp [State.refFeed]
@[simp] theorem State.dropExchange_still (s : State) (path : Nat) : (s.dropExchange path).still = s.still := (rfl)
@[simp] theorem State.challenge_still (s : State) (path level : Nat) (scope : Bool) (tenant : Nat) :
    (s.challenge path level scope tenant).1.still = s.still := (rfl)
@[simp] theorem State.authAlarm_still (s : State) (path cause : Nat) : (s.authAlarm path cause).still = s.still := by
  simp [State.authAlarm]
@[simp] theorem State.setRState_still (s : State) (r v : Nat) : (s.setRState r v).still = s.still := by
  simp [State.setRState]
@[simp] theorem State.regionJoin_still (s : State) (r : Nat) : (s.regionJoin r).still = s.still := (rfl)
@[simp] theorem State.regionDone_still (s : State) (r code : Nat) : (s.regionDone r code).still = s.still := by
  simp [State.regionDone]
@[simp] theorem State.regionEnds_still (s : State) (o : LongOp) (code : Nat) : (s.regionEnds o code).still = s.still := by
  simp [State.regionEnds]
@[simp] theorem State.regionFault_still (s : State) (r code addr : Nat) : (s.regionFault r code addr).still = s.still := by
  simp [State.regionFault]
@[simp] theorem State.dropTqi_still (s : State) (t : Nat) : (s.dropTqi t).still = s.still := by
  simp [State.dropTqi]
@[simp] theorem State.tileEmpty_still (s : State) (t : Nat) : (s.tileEmpty t).still = s.still := (rfl)
@[simp] theorem State.blankStart_still (s : State) (r code : Nat) : (s.blankStart r code).still = s.still := (rfl)
@[simp] theorem State.putRoute_still (s : State) (t e lo hi ctl : Nat) : (s.putRoute t e lo hi ctl).still = s.still := (rfl)
@[simp] theorem State.tileInit_still (s : State) (t : Nat) : (s.tileInit t).still = s.still := (rfl)
@[simp] theorem State.blankEnd_still (s : State) (r code addr : Nat) : (s.blankEnd r code addr).still = s.still := by
  simp [State.blankEnd]
@[simp] theorem State.setXings_still (s : State) (ts : List Nat) (l : List (Nat × XCfg)) : (s.setXings ts l).still = s.still := (rfl)
@[simp] theorem State.takeImage_still (s : State) (r : Nat) (cfg : ImageCfg) : (s.takeImage r cfg).still = s.still := by
  simp [State.takeImage]
@[simp] theorem State.restoreEngine_still (s : State) (t v : Nat) : (s.restoreEngine t v).still = s.still := by
  simp [State.restoreEngine]
@[simp] theorem State.slotBegin_still (s : State) (k : Nat) : (s.slotBegin k).still = s.still := by
  simp [State.slotBegin]
@[simp] theorem State.slotEnd_still (s : State) (k code : Nat) : (s.slotEnd k code).still = s.still := by
  simp [State.slotEnd]
@[simp] theorem State.slotProgram_still (s : State) (w : SlotWrite) : (s.slotProgram w).still = s.still := by
  simp [State.slotProgram]
@[simp] theorem State.storeErrsAt_still (s : State) (l : List (Die × Bool)) : (s.storeErrsAt l).still = s.still := by
  simp [State.storeErrsAt]
@[simp] theorem State.setLib_still (s : State) (e : Nat) (a : LibEntry) : (s.setLib e a).still = s.still := (rfl)
@[simp] theorem State.libErase_still (s : State) (e : Nat) : (s.libErase e).still = s.still := (rfl)
@[simp] theorem cmdLibStatus_still (a : Ctx) (s : State) : (cmdLibStatus a s).1.still = s.still := (rfl)
@[simp] theorem State.writeEccTestT_still (s : State) (t v : Nat) : (s.writeEccTestT t v).still = s.still := by
  simp [State.writeEccTestT]
@[simp] theorem State.writeEccTestS_still (s : State) (st v : Nat) : (s.writeEccTestS st v).still = s.still := by
  simp [State.writeEccTestS]
@[simp] theorem cmdEccTest_still (a : Ctx) (s : State) : (cmdEccTest a s).1.still = s.still := by
  unfold cmdEccTest
  split <;> simp
@[simp] theorem cmdIstSchedule_still (a : Ctx) (s : State) : (cmdIstSchedule a s).1.still = s.still := by
  unfold cmdIstSchedule
  split <;> simp
@[simp] theorem cmdBar2Map_still (a : Ctx) (s : State) : (cmdBar2Map a s).1.still = s.still := by
  unfold cmdBar2Map
  split <;> simp
@[simp] theorem State.istDone_still (s : State) (k : Nat) (late : Bool) : (s.istDone k late).still = s.still := (rfl)
@[simp] theorem State.scrubBlk_still (s : State) (t b : Nat) : (s.scrubBlk t b).still = s.still := by
  simp [State.scrubBlk]
@[simp] theorem State.patrolAcc_still (s : State) (st a sev : Nat) : (s.patrolAcc st a sev).still = s.still := by
  simp [State.patrolAcc]
@[simp] theorem State.patrolInject_still (s : State) (st : Nat) : (s.patrolInject st).still = s.still := by
  simp [State.patrolInject]
@[simp] theorem State.patrolStack_still (s : State) (st : Nat) (reps : List (Nat × Nat)) : (s.patrolStack st reps).still = s.still := by
  simp [State.patrolStack]
@[simp] theorem State.storeAlarm_still (s : State) (d b : Nat) (noSpare : Bool) : (s.storeAlarm d b noSpare).still = s.still := by
  simp [State.storeAlarm]
@[simp] theorem State.marginBlock_still (s : State) (d b : Nat) (corr : Option Nat) : (s.marginBlock d b corr).still = s.still := by
  unfold State.marginBlock
  split <;> simp
@[simp] theorem State.pushStamp_still (s : State) (l : Nat) (t : Stamp) : (s.pushStamp l t).still = s.still := by
  simp [State.pushStamp]
@[simp] theorem State.macReq_still (s : State) (l kind : Nat) (op : NOp) (r : Rg) (n : Nat) (data : List Byte) :
    (s.macReq l kind op r n data).1.still = s.still := by
  simp [State.macReq]
@[simp] theorem State.macFail_still (s : State) (l : Nat) (whole : Bool) : (s.macFail l whole).still = s.still := by
  simp [State.macFail]
@[simp] theorem State.fecCount_still (s : State) (l corr bad : Nat) : (s.fecCount l corr bad).still = s.still := by
  simp [State.fecCount]
@[simp] theorem State.sendFrame_still (s : State) (l : Nat) (bytes : List Byte) (busy : Bool) : (s.sendFrame l bytes busy).still = s.still := by
  simp [State.sendFrame]
@[simp] theorem State.takePlace_still (s : State) (c : Option Cand) : (s.takePlace c).still = s.still := by
  simp [State.takePlace]
@[simp] theorem State.elect_still (s : State) (l : Nat) : (s.elect l).still = s.still := by
  unfold State.elect
  split
  · simp
  · split <;> simp
@[simp] theorem State.exchange_still (s : State) (l : Nat) (t1 t2 t3 t4 : Int) : (s.exchange l t1 t2 t3 t4).still = s.still := by
  simp [State.exchange]
@[simp] theorem State.peeked_still (s : State) (path : Nat) (on : Bool) : (s.peeked path on).still = s.still := by
  simp [State.peeked]
@[simp] theorem State.dbgSend_still (s : State) (path : Nat) (op : NOp) (a : Nat) (data : List Byte) :
    (s.dbgSend path op a data).1.still = s.still := by
  simp [State.dbgSend]
@[simp] theorem cmdDbgStatus_still (a : Ctx) (s : State) : (cmdDbgStatus a s).1.still = s.still := (rfl)
@[simp] theorem State.tapIr_still (s : State) (op : Nat) : (s.tapIr op).still = s.still := (rfl)
@[simp] theorem State.tapDrive_still (s : State) (op drive : Nat) : (s.tapDrive op drive).still = s.still := by
  simp [State.tapDrive]
@[simp] theorem State.accDone_still (s : State) (code : Nat) (d : List Byte) : (s.accDone code d).still = s.still := (rfl)
@[simp] theorem State.pulseTile_still (s : State) (l t : Nat) : (s.pulseTile l t).still = s.still := by
  simp [State.pulseTile]
@[simp] theorem State.pulse_still (s : State) (d l : Nat) : (s.pulse d l).still = s.still := by
  simp [State.pulse]
@[simp] theorem State.mgmtTo_still (s : State) (a : Nat) : (s.mgmtTo a).still = s.still := by
  simp [State.mgmtTo]
@[simp] theorem State.fwdDone_still (s : State) (id svc : Nat) (poison : Bool) (data : List Byte) (drop : Bool) :
    (s.fwdDone id svc poison data drop).still = s.still := by
  unfold State.fwdDone
  split <;> simp
@[simp] theorem State.dropRange_still (s : State) (base size : Nat) : (s.dropRange base size).still = s.still := (rfl)
@[simp] theorem State.rsiPush_still (s : State) (t rid svc : Nat) (data : List Byte) (poison : Bool) :
    (s.rsiPush t rid svc data poison).still = s.still := (rfl)
@[simp] theorem State.keep_still (s : State) (r : Resp) : (s.keep r).still = s.still := (rfl)
@[simp] theorem State.dropCache_still (s : State) (w : Nat) : (s.dropCache w).still = s.still := (rfl)
@[simp] theorem State.pwinClear_still (s : State) (st i : Nat) : (s.pwinClear st i).still = s.still := by
  simp [State.pwinClear]
@[simp] theorem State.pwinCreate_still (s : State) (st i base u tag tree : Nat) (a : EnableArgs) :
    (s.pwinCreate st i base u tag tree a).still = s.still := by
  simp [State.pwinCreate]
@[simp] theorem State.dmaFill_still (s : State) (k w : Nat) (ilv : Option Nat) (dst n fill : Nat) :
    (s.dmaFill k w ilv dst n fill).still = s.still := by
  simp [State.dmaFill]
@[simp] theorem State.dmaRelease_still (s : State) (k : Nat) : (s.dmaRelease k).still = s.still := (rfl)
@[simp] theorem State.freshSubtree_still (s : State) (st i j n : Nat) : (s.freshSubtree st i j n).still = s.still := by
  simp [State.freshSubtree]
@[simp] theorem State.warnBit_still (s : State) (d : Nat) : (s.warnBit d).still = s.still := by
  simp [State.warnBit]
@[simp] theorem State.warn_still (s : State) (src : Nat) (a : Int) : (s.warn src a).still = s.still := by
  simp [State.warn]
@[simp] theorem State.bankAlarm_still (s : State) (b : Nat) : (s.bankAlarm b).still = s.still := by
  simp [State.bankAlarm]
@[simp] theorem State.enginesResume_still (s : State) : (s.enginesResume).still = s.still := by
  simp [State.enginesResume]
@[simp] theorem cmdReboot_still (a : Ctx) (s : State) : (cmdReboot a s).1.still = s.still := by
  unfold cmdReboot
  split <;> simp
@[simp] theorem State.portTrain_still (s : State) (p : Nat) : (s.portTrain p).still = s.still := (rfl)
@[simp] theorem State.mpGet_still (s : State) (o i : Nat) : (s.mpGet o i).1.still = s.still := by
  unfold State.mpGet
  split
  · simp
  · split <;> simp
@[simp] theorem cmdRelayView_still (a : Ctx) (s : State) : (cmdRelayView a s).1.still = s.still := (rfl)
@[simp] theorem cmdRelayRoutes_still (a : Ctx) (s : State) : (cmdRelayRoutes a s).1.still = s.still := (rfl)
@[simp] theorem State.relaySend_still (s : State) (lane kind hops : Nat) (b body : List Byte) :
    (s.relaySend lane kind hops b body).still = s.still := (rfl)
@[simp] theorem State.relayRefuse_still (s : State) (l code : Nat) (b : List Byte) : (s.relayRefuse l code b).still = s.still := (rfl)
@[simp] theorem State.relayDeliver_still (s : State) (b : List Byte) : (s.relayDeliver b).still = s.still := by
  unfold State.relayDeliver
  repeat' split
  all_goals simp
@[simp] theorem State.relayLearn_still (s : State) (l : Nat) (b : List Byte) : (s.relayLearn l b).still = s.still := by
  simp [State.relayLearn]
@[simp] theorem State.tsoEnd_still (s : State) (t tid code : Nat) (data : List Byte) : (s.tsoEnd t tid code data).still = s.still := by
  unfold State.tsoEnd
  split <;> simp

end Sys2Proof.Machine

/-! SUPPORT. What the model's functions leave as it is, continued: those that search, fold or take another result apart. -/

namespace Sys2Proof.Machine

/-- The first part of a result that a condition chooses. -/
@[simp] theorem still_fst_ite {α : Type} (c : Prop) [Decidable c] (x y : State × α) :
    (if c then x else y).1.still = if c then x.1.still else y.1.still := apply_ite (fun q : State × α => q.1.still) c x y

@[simp] theorem State.arrive_still (s : State) (r : Resp) : (s.arrive r).1.still = s.still := by
  unfold State.arrive
  dsimp only
  split
  · simp
  · split <;> simp

theorem State.serve_still (s : State) (r : Req) (ni : Nat) {f : State → Option Served} (hf : ∀ u x, f u = some x → x.1.still = u.still) :
    (s.serve r ni f).still = s.still := by
  unfold State.serve
  split
  · split
    · split
      · rfl
      · next h => simpa using hf _ _ h
    · simp
  · rfl

@[simp] theorem State.freeCredit_still (s : State) (t k : Nat) : (s.freeCredit t k).still = s.still := by
  unfold State.freeCredit
  dsimp only
  split
  · rfl
  · split <;> simp

@[simp] theorem State.eject_still (s : State) (l : List Nat) : (s.eject l).still = s.still := by
  unfold State.eject
  split
  · rfl
  · dsimp only
    split
    · simp
    · split <;> simp

theorem State.ctrlIn_still (s : State) (typ d : Nat) (w : BitVec 288) {act : State → State} (h : ∀ u, (act u).still = u.still) :
    (s.ctrlIn typ d w act).still = s.still := by
  unfold State.ctrlIn
  split
  · exact h s
  · simp [h]

@[simp] theorem State.takeUnknown_still (s : State) : s.takeUnknown.still = s.still :=
  iter_still 20 _ s (fun _ u => by split <;> simp)

@[simp] theorem State.reachable_still (s : State) (c : Ctx) (x : State × Reply) (h : x.1.still = s.still) : (s.reachable c x).1.still = s.still := by
  simp [State.reachable, h]

@[simp] theorem State.relayOrigin_still (s : State) (p m : Nat) (full : Bool) : (s.relayOrigin p m full).still = s.still := by
  unfold State.relayOrigin
  dsimp only
  split
  · simp
  · simp
  · split
    · simp
    · split
      · simp
      · split <;> simp

theorem runChecked_still {body : Body} (h : ∀ c s, (body c s).1.still = s.still) (c : Ctx) (full : Bool) (s : State) :
    (runChecked body c full s).1.still = s.still := by
  unfold runChecked
  split
  · simp
  · split
    · simp
    · simp [h]

/-- A mailbox command leaves what its body leaves. -/
theorem takeMailbox_still (opcode : Nat) {body : Body} (h : ∀ c s, (body c s).1.still = s.still) (p m : Nat) (s : State) :
    (takeMailbox opcode body p m s).still = s.still := by
  unfold takeMailbox
  simp [runChecked_still h]

/-- The state that a result holds, where the result is taken apart. -/
theorem still_of_eq {α : Type} {x : State × α} {s u : State} {a : α} (hx : x.1.still = s.still) (h : x = (u, a)) : u.still = s.still :=
  (congrArg (fun q : State × α => q.1.still) h).symm.trans hx

theorem State.dmaPump_still (n : Nat) (s : State) (k : Nat) : (State.dmaPump n s k).still = s.still := by
  induction n generalizing s with
  | zero => rfl
  | succ n ih =>
    unfold State.dmaPump
    split
    · rfl
    · next r rest _ =>
      have hsend := s.dmaSend_still k r
      split
      · rfl
      · next heq => simpa [ih, heq] using hsend
      · next heq => simpa [ih, heq] using hsend

@[simp] theorem State.dmaCheck_still (s : State) (k : Nat) : (s.dmaCheck k).still = s.still := by
  unfold State.dmaCheck
  split
  · rfl
  · dsimp only
    split <;> simp

@[simp] theorem State.nodeIn_still (s : State) (st i j n : Nat) (p : ProtIn) : (s.nodeIn st i j n p).1.still = s.still := by
  simp [State.nodeIn]

@[simp] theorem State.protLine_still (s : State) (st i line : Nat) (k : LineAcc) (bad : Bool) (p : ProtIn) :
    (s.protLine st i line k bad p).1.still = s.still := by
  unfold State.protLine
  split
  · dsimp only; split <;> simp
  · cases k <;> simp

@[simp] theorem State.install_still (s : State) (d line : Nat) (data : List Byte) : (s.install d line data).still = s.still := by
  unfold State.install
  dsimp only
  split
  · split <;> simp
  · simp

@[simp] theorem State.startFill_still (s : State) (d : Nat) (r : Req) (line : Nat) : (s.startFill d r line).1.still = s.still := by
  unfold State.startFill
  split
  · rfl
  · dsimp only
    split <;> next heq => simpa using still_of_eq (s.issueTo_still _ _ _ _) heq

@[simp] theorem State.corrTick_still (s : State) (n : Nat) : (s.corrTick n).still = s.still := by
  unfold State.corrTick
  split
  · rfl
  · dsimp only
    split <;> split <;> simp

@[simp] theorem State.carDone_still (s : State) : s.carDone.still = s.still := by
  unfold State.carDone
  split
  · rfl
  · dsimp only
    split <;> simp

@[simp] theorem State.planStep_still (s : State) (e : PlanEntry) : (s.planStep e).1.still = s.still := by
  fun_cases State.planStep s e <;> simp +zetaDelta -implicitDefEqProofs

@[simp] theorem cmdClockGate_still (c : Ctx) (s : State) : (cmdClockGate c s).1.still = s.still := by
  unfold cmdClockGate
  dsimp only
  split <;> · split
              · simp
              · split <;> simp

@[simp] theorem State.severity_still (s : State) (st : Nat) (accs : List Nat) (sev acc : Nat) : (s.severity st accs sev acc).1.still = s.still := by
  unfold State.severity
  dsimp only
  repeat' split
  all_goals rfl

@[simp] theorem State.sendInvals_still (s : State) (st : Nat) (h : HReq) : (s.sendInvals st h).1.still = s.still := by
  refine foldl_keeps (fun q : State × Bool => q.1.still) _ (fun q line => ?_) _ _
  refine foldl_keeps (fun q : State × Bool => q.1.still) _ (fun q d => ?_) _ _
  dsimp only
  split <;> simp

@[simp] theorem State.qRead_still (s : State) (k : Nat) : (s.qRead k).2.2.still = s.still := by
  unfold State.qRead
  dsimp only
  split <;> simp

@[simp] theorem State.directPush_still (s : State) (k : Nat) (l : List QWord) : (s.directPush k l).still = s.still := by
  induction l generalizing s with
  | nil => rfl
  | cons w l ih => simp [State.directPush, ih]

@[simp] theorem State.qPushReg_still (s : State) (k : Nat) (r : Rg) (v : Nat) : (s.qPushReg k r v).1.still = s.still := by
  unfold State.qPushReg
  dsimp only
  split
  · rfl
  · split <;> simp

@[simp] theorem State.useRate_still (s : State) (l rate : Nat) : (s.useRate l rate).still = s.still := by
  unfold State.useRate
  cases ratePlan (s.refHz (l / 4)) rate <;> simp [State.setLn]

@[simp] theorem State.repairAll_still (s : State) (sel : Nat → Bool) : (s.repairAll sel).1.still = s.still := by
  refine foldl_keeps (fun q : State × Option (Nat × Nat) => q.1.still) _ (fun q k => ?_) _ _
  split
  · rfl
  · split
    · rfl
    · split <;> simp

@[simp] theorem State.blankTo_still (s : State) (r : Option Nat) (d hi : Nat) (gap : Option Nat) : (s.blankTo r d hi gap).1.still = s.still := by
  unfold State.blankTo
  dsimp only
  split <;> simp

@[simp] theorem State.putFrames_still (s : State) (r : Option Nat) (d : Nat) (x : Rec) (bad rb : Option Nat) (n : Nat) :
    (s.putFrames r d x bad rb n).1.still = s.still := by
  induction n with
  | zero => rfl
  | succ n ih =>
    unfold State.putFrames
    split
    · next heq => simpa [heq] using ih
    · next heq => simpa [heq] using ih

@[simp] theorem State.ring_still (s : State) (p m : Nat) : (s.ring p m).still = s.still := by
  unfold State.ring
  dsimp only
  split
  · simp
  · split <;> simp

@[simp] theorem State.applyImage_still (s : State) (cfg : ImageCfg) : (s.applyImage cfg).still = s.still := by
  unfold State.applyImage
  dsimp only
  rw [State.writeRoutes_still, State.still_mk]
  rw [foldl_keeps State.still _ (fun u p => by split <;> simp)]
  simp

@[simp] theorem State.bar2Pump_still (n : Nat) (s : State) (p : Nat) : (State.bar2Pump n s p).still = s.still := by
  induction n generalizing s with
  | zero => rfl
  | succ n ih =>
    unfold State.bar2Pump
    split
    · rfl
    · next t x _ =>
      have hsend := s.bar2Send_still p t x
      split
      · rfl
      · next heq => simpa [ih, heq] using hsend

@[simp] theorem State.noteReads_still (s : State) (t : Nat) (l : List Rd) : (s.noteReads t l).still = s.still := by
  refine foldl_keeps State.still _ (fun u r => ?_) _ _
  split <;> simp

@[simp] theorem State.seamEdge_still (s p : State) (ext : Wire → Bool) (t net : Nat) : (s.seamEdge p ext t net).still = s.still := by
  obtain ⟨x, h⟩ := s.seamEdge_eq p ext t net
  rw [h, State.still_mk]

@[simp] theorem State.niEdge_still (s : State) (t : Nat) (rsiReady tqiReady : Bool) : (s.niEdge t rsiReady tqiReady).still = s.still := by
  unfold State.niEdge
  extract_lets n u v
  have hu : u.still = s.still := by
    unfold u
    split
    · rfl
    · simp
  clear_value u
  split
  · exact hu
  · simp [hu]

@[simp] theorem State.blkWindow_still (s : State) (q : Rq) (t o : Nat) (op : NOp) (n : Nat) (data : List Byte) :
    (s.blkWindow q t o op n data).1.still = s.still := by
  unfold State.blkWindow
  simp

theorem State.forTiles_still (s : State) (r : Nat) {f : Nat → State → State} (h : ∀ t u, (f t u).still = u.still) : (s.forTiles r f).still = s.still :=
  foldl_keeps State.still _ (fun u t => h t u) _ _

@[simp] theorem State.engResume_still (s : State) (t v : Nat) : (s.engResume t v).still = s.still := by
  unfold State.engResume
  dsimp only
  split <;> simp

@[simp] theorem State.restoreRec_still (s : State) (r : Nat) (x : List Byte) : (s.restoreRec r x).1.still = s.still := by
  simp [State.restoreRec]

@[simp] theorem State.lineFails_still (s : State) (d p c b line : Nat) : (s.lineFails d p c b line).still = s.still := by
  unfold State.lineFails
  dsimp only
  split <;> simp

end Sys2Proof.Machine

/-! SUPPORT. What the model's functions leave as it is, continued: those that call the ones above. -/

namespace Sys2Proof.Machine

@[simp] theorem State.deliverFlit_still (s : State) (t out v g : Nat) : (s.deliverFlit t out v g).still = s.still := by
  simp [State.deliverFlit]
@[simp] theorem State.sendFlit_still (s : State) (t out v g : Nat) : (s.sendFlit t out v g).still = s.still := by
  fun_cases State.sendFlit s t out v g <;> simp +zetaDelta
@[simp] theorem cmdDmaRun_still (a : Ctx) (s : State) : (cmdDmaRun a s).1.still = s.still := by
  simp [cmdDmaRun]
@[simp] theorem cmdDmaStatus_still (a : Ctx) (s : State) : (cmdDmaStatus a s).1.still = s.still := by
  simp [cmdDmaStatus]
@[simp] theorem cmdTimeGet_still (a : Ctx) (s : State) : (cmdTimeGet a s).1.still = s.still := by
  simp [cmdTimeGet]
@[simp] theorem cmdTimeAlarm_still (a : Ctx) (s : State) : (cmdTimeAlarm a s).1.still = s.still := by
  simp [cmdTimeAlarm]
@[simp] theorem cmdTimeCapture_still (a : Ctx) (s : State) : (cmdTimeCapture a s).1.still = s.still := by
  simp [cmdTimeCapture]
@[simp] theorem cmdClockMeasure_still (a : Ctx) (s : State) : (cmdClockMeasure a s).1.still = s.still := by
  unfold cmdClockMeasure
  split <;> simp
@[simp] theorem cmdSettingsGet_still (a : Ctx) (s : State) : (cmdSettingsGet a s).1.still = s.still := by
  simp [cmdSettingsGet]
@[simp] theorem cmdSettingsPut_still (a : Ctx) (s : State) : (cmdSettingsPut a s).1.still = s.still := by
  simp [cmdSettingsPut]
@[simp] theorem cmdHbmRate_still (a : Ctx) (s : State) : (cmdHbmRate a s).1.still = s.still := by
  simp [cmdHbmRate]
@[simp] theorem cmdHbmThaw_still (a : Ctx) (s : State) : (cmdHbmThaw a s).1.still = s.still := by
  simp [cmdHbmThaw]
@[simp] theorem State.qPopReg_still (s : State) (k : Nat) : (s.qPopReg k).1.still = s.still := by
  simp [State.qPopReg]
@[simp] theorem State.evRaise_still (s : State) (tenant w v : Nat) : (s.evRaise tenant w v).1.still = s.still := by
  simp [State.evRaise]
@[simp] theorem State.tryEntry_still (s : State) (l i : Nat) : (s.tryEntry l i).still = s.still := by
  simp [State.tryEntry]
@[simp] theorem State.enterDetect_still (s : State) (l : Nat) : (s.enterDetect l).still = s.still := by
  simp [State.enterDetect]
@[simp] theorem State.cutFrames_still (s : State) (l : Nat) : (s.cutFrames l).still = s.still := by
  unfold State.cutFrames
  dsimp only
  repeat' split
  all_goals simp
@[simp] theorem State.leaveActive_still (s : State) (l : Nat) : (s.leaveActive l).still = s.still := by
  simp [State.leaveActive]
@[simp] theorem State.dropLane_still (s : State) (l : Nat) : (s.dropLane l).still = s.still := by
  simp [State.dropLane]
@[simp] theorem State.laneOff_still (s : State) (l : Nat) : (s.laneOff l).still = s.still := by
  simp [State.laneOff]
@[simp] theorem State.restartLane_still (s : State) (l : Nat) : (s.restartLane l).still = s.still := by
  unfold State.restartLane
  dsimp only
  repeat' split
  all_goals simp
@[simp] theorem State.anResolve_still (s : State) (l mode fec : Nat) : (s.anResolve l mode fec).still = s.still := by
  simp [State.anResolve]
@[simp] theorem State.disableLane_still (s : State) (l : Nat) : (s.disableLane l).still = s.still := by
  simp [State.disableLane]
@[simp] theorem State.enableLane_still (s : State) (l : Nat) : (s.enableLane l).still = s.still := by
  simp [State.enableLane]
@[simp] theorem State.writeLnCtl_still (s : State) (l v : Nat) : (s.writeLnCtl l v).still = s.still := by
  simp [State.writeLnCtl]
@[simp] theorem State.writeLnTest_still (s : State) (l v : Nat) : (s.writeLnTest l v).still = s.still := by
  simp [State.writeLnTest]
@[simp] theorem State.disableQuad_still (s : State) (q : Nat) : (s.disableQuad q).still = s.still := by
  simp [State.disableQuad]
@[simp] theorem State.enableQuad_still (s : State) (q : Nat) : (s.enableQuad q).still = s.still := by
  simp [State.enableQuad]
@[simp] theorem State.writeQuadCtl_still (s : State) (q v : Nat) : (s.writeQuadCtl q v).still = s.still := by
  simp [State.writeQuadCtl]
@[simp] theorem State.applyProfile_still (s : State) (l : Nat) (v : List Byte) : (s.applyProfile l v).still = s.still := by
  simp [State.applyProfile]
@[simp] theorem State.applyLanes_still (s : State) (q : Nat) (ns : List Nat) (v : List Byte) : (s.applyLanes q ns v).still = s.still := by
  simp [State.applyLanes]
@[simp] theorem State.applyAssigned_still (s : State) : (s.applyAssigned).still = s.still := by
  simp [State.applyAssigned]
@[simp] theorem State.lanesRest_still (s : State) : (s.lanesRest).still = s.still := by
  simp [State.lanesRest]
@[simp] theorem State.lanesRun_still (s : State) : (s.lanesRun).still = s.still := by
  simp [State.lanesRun]
@[simp] theorem State.lanesIdle_still (s : State) : (s.lanesIdle).still = s.still := by
  simp [State.lanesIdle]
@[simp] theorem State.resetLane_still (s : State) (l : Nat) : (s.resetLane l).still = s.still := by
  simp [State.resetLane]
@[simp] theorem State.resetQuad_still (s : State) (q : Nat) : (s.resetQuad q).still = s.still := by
  simp [State.resetQuad]
@[simp] theorem cmdLaneApply_still (a : Ctx) (s : State) : (cmdLaneApply a s).1.still = s.still := by
  unfold cmdLaneApply
  split <;> simp
@[simp] theorem cmdLaneStatus_still (a : Ctx) (s : State) : (cmdLaneStatus a s).1.still = s.still := by
  simp [cmdLaneStatus]
@[simp] theorem cmdLaneRestart_still (a : Ctx) (s : State) : (cmdLaneRestart a s).1.still = s.still := by
  simp [cmdLaneRestart]
@[simp] theorem cmdLaneDisable_still (a : Ctx) (s : State) : (cmdLaneDisable a s).1.still = s.still := by
  unfold cmdLaneDisable
  split <;> simp
@[simp] theorem cmdLaneTest_still (a : Ctx) (s : State) : (cmdLaneTest a s).1.still = s.still := by
  simp [cmdLaneTest]
@[simp] theorem State.lockout_still (s : State) (cause die : Nat) : (s.lockout cause die).still = s.still := by
  simp [State.lockout]
@[simp] theorem State.relayed_still (s : State) : (s.relayed).still = s.still := by
  unfold State.relayed
  split <;> simp
@[simp] theorem State.unrepairable_still (s : State) (k w : Nat) : (s.unrepairable k w).still = s.still := by
  simp [State.unrepairable]
@[simp] theorem State.seamBootEnd_still (s : State) (a : Option (Nat × Nat)) : (s.seamBootEnd a).still = s.still := by
  unfold State.seamBootEnd
  split <;> simp
@[simp] theorem State.seamBoot_still (s : State) (maps : List (Nat × Nat)) : (s.seamBoot maps).still = s.still := by
  simp [State.seamBoot]
@[simp] theorem State.loadFail_still (s : State) (die code addr : Nat) : (s.loadFail die code addr).still = s.still := by
  simp [State.loadFail]
@[simp] theorem State.ctlReport_still (s : State) (r : Option Nat) (d : Nat) (gap : Option Nat) : (s.ctlReport r d gap).still = s.still := by
  fun_cases State.ctlReport s r d gap <;> simp +zetaDelta
@[simp] theorem State.bar2Go_still (s : State) (p : Nat) : (s.bar2Go p).still = s.still := by
  simp [State.bar2Go]
@[simp] theorem State.bar2Resp_still (s : State) (p id off : Nat) (q : Req) (svc : Nat) (data : List Byte) :
    (s.bar2Resp p id off q svc data).still = s.still := by
  unfold State.bar2Resp
  split <;> simp
@[simp] theorem State.bar2Take_still (s : State) (p : Nat) (write : Bool) (a n : Nat) (data : List Byte) :
    (s.bar2Take p write a n data).still = s.still := by
  simp [State.bar2Take]
@[simp] theorem State.sinkKept_still (s : State) (t : Nat) : (s.sinkKept t).still = s.still := by
  simp [State.sinkKept]
@[simp] theorem State.nputSend_still (s : State) (t pd ps n a : Nat) : (s.nputSend t pd ps n a).still = s.still := by
  simp [State.nputSend]
@[simp] theorem State.engMemServe_still (s : State) (q : Rq) (t o : Nat) (op : NOp) (n : Nat) (data : List Byte) :
    (s.engMemServe q t o op n data).1.still = s.still := by
  unfold State.engMemServe
  split <;> simp
@[simp] theorem State.yFabric_still (s : State) (t : Nat) : (s.yFabric t).still = s.still := by
  fun_cases State.yFabric s t <;> simp +zetaDelta
@[simp] theorem State.yNet_still (s : State) (t : Nat) : (s.yNet t).still = s.still := by
  fun_cases State.yNet s t <;> simp +zetaDelta
@[simp] theorem State.yStep_still (s : State) (t : Nat) : (s.yStep t).still = s.still := by
  simp [State.yStep]
@[simp] theorem State.yServe_still (s : State) (t : Nat) : (s.yServe t).still = s.still := by
  simp [State.yServe]
@[simp] theorem State.engNetDone_still (s : State) (t : Nat) (who : Who) (svc : Nat) (data : List Byte) :
    (s.engNetDone t who svc data).still = s.still := by
  simp [State.engNetDone]
@[simp] theorem State.engWrite_still (s : State) (t : Nat) (w : PWrite) : (s.engWrite t w).still = s.still := by
  unfold State.engWrite
  split <;> simp
@[simp] theorem State.engCommit_still (s : State) (t : Nat) (p : PWrite → Bool) : (s.engCommit t p).still = s.still := by
  simp [State.engCommit]
@[simp] theorem State.engSettle_still (s : State) (t : Nat) : (s.engSettle t).still = s.still := by
  simp [State.engSettle]
@[simp] theorem State.engDrain_still (s : State) (t : Nat) : (s.engDrain t).still = s.still := by
  simp [State.engDrain]
@[simp] theorem State.engFlushMem_still (s : State) (t : Nat) : (s.engFlushMem t).still = s.still := by
  simp [State.engFlushMem]
@[simp] theorem State.engFault_still (s : State) (t cause : Nat) : (s.engFault t cause).still = s.still := by
  simp [State.engFault]
@[simp] theorem State.engStopNow_still (s : State) (t : Nat) (quiet : Bool) : (s.engStopNow t quiet).still = s.still := by
  simp [State.engStopNow]
@[simp] theorem State.engStop_still (s : State) (t : Nat) : (s.engStop t).still = s.still := by
  fun_cases State.engStop s t <;> simp +zetaDelta
@[simp] theorem State.engStart_still (s : State) (t : Nat) : (s.engStart t).still = s.still := by
  simp [State.engStart]
@[simp] theorem State.engReset_still (s : State) (t : Nat) : (s.engReset t).still = s.still := by
  simp [State.engReset]
@[simp] theorem State.engPass_still (s : State) (t k : Nat) : (s.engPass t k).still = s.still := by
  simp [State.engPass]
@[simp] theorem State.engBoundary_still (s : State) (t : Nat) : (s.engBoundary t).still = s.still := by
  simp [State.engBoundary]
@[simp] theorem State.engAtomicDone_still (s : State) (t svc : Nat) (data : List Byte) : (s.engAtomicDone t svc data).still = s.still := by
  simp [State.engAtomicDone]
@[simp] theorem State.sendAtomic_still (s : State) (t : Nat) (op : NOp) (a : Nat) (data : List Byte) :
    (s.sendAtomic t op a data).still = s.still := by
  simp [State.sendAtomic]
@[simp] theorem State.engForce_still (s : State) (t : Nat) : (s.engForce t).still = s.still := by
  simp [State.engForce]
@[simp] theorem State.engHold_still (s : State) (t : Nat) : (s.engHold t).still = s.still := by
  simp [State.engHold]
@[simp] theorem State.idlePass_still (s : State) (t k : Nat) : (s.idlePass t k).still = s.still := by
  simp [State.idlePass]
@[simp] theorem State.portsEdge_still (s : State) (t net : Nat) : (s.portsEdge t net).still = s.still := by
  simp [State.portsEdge]
@[simp] theorem State.hardEdge_still (s : State) (t net : Nat) : (s.hardEdge t net).still = s.still := by
  unfold State.hardEdge
  split <;> simp
@[simp] theorem State.portEdge_still (s : State) (t : Nat) (u : Slot) (k : Nat) (join : Bool) : (s.portEdge t u k join).still = s.still := by
  simp [State.portEdge]
@[simp] theorem State.engHalted_still (s : State) (t : Nat) (path : Option Nat) : (s.engHalted t path).still = s.still := by
  simp [State.engHalted]
@[simp] theorem State.engRelease_still (s : State) (t : Nat) : (s.engRelease t).still = s.still := by
  simp [State.engRelease]
@[simp] theorem State.engStep_still (s : State) (path t : Nat) : (s.engStep path t).still = s.still := by
  simp [State.engStep]
@[simp] theorem State.fenceEngine_still (s : State) (t : Nat) : (s.fenceEngine t).still = s.still := by
  simp [State.fenceEngine]
@[simp] theorem State.fenceForce_still (s : State) (t : Nat) : (s.fenceForce t).still = s.still := by
  simp [State.fenceForce]
@[simp] theorem State.engExit_still (s : State) (t : Nat) : (s.engExit t).still = s.still := by
  simp [State.engExit]
@[simp] theorem cmdRegionStatus_still (a : Ctx) (s : State) : (cmdRegionStatus a s).1.still = s.still := by
  simp [cmdRegionStatus]
@[simp] theorem cmdRegionCapture_still (a : Ctx) (s : State) : (cmdRegionCapture a s).1.still = s.still := by
  fun_cases cmdRegionCapture a s <;> simp +zetaDelta
@[simp] theorem cmdRegionLoad_still (a : Ctx) (s : State) : (cmdRegionLoad a s).1.still = s.still := by
  fun_cases cmdRegionLoad a s <;> simp +zetaDelta
@[simp] theorem cmdRegionBlank_still (a : Ctx) (s : State) : (cmdRegionBlank a s).1.still = s.still := by
  fun_cases cmdRegionBlank a s <;> simp +zetaDelta
@[simp] theorem cmdSlotData_still (a : Ctx) (s : State) : (cmdSlotData a s).1.still = s.still := by
  fun_cases cmdSlotData a s <;> simp +zetaDelta
@[simp] theorem cmdSlotActivate_still (n : Nat) (a : Ctx) (s : State) : (cmdSlotActivate n a s).1.still = s.still := by
  simp [cmdSlotActivate]
@[simp] theorem State.libChunk_still (s : State) (e : Nat) (a : LibEntry) (d : List Byte) (last : Bool) :
    (s.libChunk e a d last).1.still = s.still := by
  simp [State.libChunk]
@[simp] theorem cmdRegionLibWrite_still (a : Ctx) (s : State) : (cmdRegionLibWrite a s).1.still = s.still := by
  simp [cmdRegionLibWrite]
@[simp] theorem cmdEccLog_still (a : Ctx) (s : State) : (cmdEccLog a s).1.still = s.still := by
  simp [cmdEccLog]
@[simp] theorem State.scrubEng_still (s : State) (t m : Nat) : (s.scrubEng t m).still = s.still := by
  simp [State.scrubEng]
@[simp] theorem State.macPushOne_still (s : State) (l : Nat) : (s.macPushOne l).still = s.still := by
  unfold State.macPushOne
  dsimp only
  repeat' split
  all_goals simp
@[simp] theorem State.macPump_still (s : State) (l : Nat) : (s.macPump l).still = s.still := by
  simp [State.macPump]
@[simp] theorem State.deliver_still (s : State) (l : Nat) (words : List Nat) : (s.deliver l words).still = s.still := by
  simp [State.deliver]
@[simp] theorem State.rateMatch_still (s : State) (l gap : Nat) (drift : Int) : (s.rateMatch l gap drift).1.still = s.still := by
  simp [State.rateMatch]
@[simp] theorem State.abortRx_still (s : State) (l : Nat) (words : List Nat) : (s.abortRx l words).still = s.still := by
  simp [State.abortRx]
@[simp] theorem State.txSend_still (s : State) (l : Nat) (ws : List QWord) (busy : Bool) : (s.txSend l ws busy).still = s.still := by
  fun_cases State.txSend s l ws busy <;> simp +zetaDelta
@[simp] theorem State.readReg_still (s : State) (eff : Bool) (path : Nat) (r : Rg) (i j : Nat) : (s.readReg eff path r i j).1.still = s.still := by
  unfold State.readReg
  dsimp only
  repeat' split
  all_goals simp
@[simp] theorem State.writeTile_still (s : State) (r : Rg) (i j v : Nat) : (s.writeTile r i j v).still = s.still := by
  unfold State.writeTile
  split <;> simp
@[simp] theorem State.writeQuad_still (s : State) (r : Rg) (i j v : Nat) : (s.writeQuad r i j v).still = s.still := by
  unfold State.writeQuad
  split <;> simp
@[simp] theorem cmdDbgChallenge_still (a : Ctx) (s : State) : (cmdDbgChallenge a s).1.still = s.still := by
  unfold cmdDbgChallenge
  dsimp only
  repeat' split
  all_goals simp
@[simp] theorem cmdDbgResponse_still (a : Ctx) (s : State) : (cmdDbgResponse a s).1.still = s.still := by
  simp [cmdDbgResponse]
@[simp] theorem cmdDbgHalt_still (a : Ctx) (s : State) : (cmdDbgHalt a s).1.still = s.still := by
  simp [cmdDbgHalt]
@[simp] theorem cmdDbgResume_still (a : Ctx) (s : State) : (cmdDbgResume a s).1.still = s.still := by
  simp [cmdDbgResume]
@[simp] theorem cmdDbgFeed_still (a : Ctx) (s : State) : (cmdDbgFeed a s).1.still = s.still := by
  simp [cmdDbgFeed]
@[simp] theorem State.fillDone_still (s : State) (id svc : Nat) (data : List Byte) (drop : Bool) : (s.fillDone id svc data drop).still = s.still := by
  unfold State.fillDone
  split <;> simp
@[simp] theorem State.cacheEnd_still (s : State) (id : Nat) (fill : Bool) (svc : Nat) (poison : Bool) (data : List Byte) (drop : Bool) :
    (s.cacheEnd id fill svc poison data drop).still = s.still := by
  simp [State.cacheEnd]
@[simp] theorem cmdSharedWindow_still (a : Ctx) (s : State) : (cmdSharedWindow a s).1.still = s.still := by
  simp [cmdSharedWindow]
@[simp] theorem cmdProtEnable_still (a : Ctx) (s : State) : (cmdProtEnable a s).1.still = s.still := by
  fun_cases cmdProtEnable a s <;> simp +zetaDelta
@[simp] theorem cmdProtDisable_still (a : Ctx) (s : State) : (cmdProtDisable a s).1.still = s.still := by
  simp [cmdProtDisable]
@[simp] theorem cmdProtRights_still (a : Ctx) (s : State) : (cmdProtRights a s).1.still = s.still := by
  simp [cmdProtRights]
@[simp] theorem cmdProtStatus_still (a : Ctx) (s : State) : (cmdProtStatus a s).1.still = s.still := by
  simp [cmdProtStatus]
@[simp] theorem State.huddleGo_still (s : State) : (s.huddleGo).still = s.still := by
  simp [State.huddleGo]
@[simp] theorem State.enterRest_still (s : State) : (s.enterRest).still = s.still := by
  simp [State.enterRest]
@[simp] theorem State.enterHold_still (s : State) : (s.enterHold).still = s.still := by
  simp [State.enterHold]
@[simp] theorem State.funcEnable_still (s : State) (kind i : Nat) : (s.funcEnable kind i).still = s.still := by
  unfold State.funcEnable
  split <;> simp
@[simp] theorem cmdFuncEnable_still (a : Ctx) (s : State) : (cmdFuncEnable a s).1.still = s.still := by
  fun_cases cmdFuncEnable a s <;> simp +zetaDelta
@[simp] theorem State.mpByte_still (s : State) (o i : Nat) (b : Byte) : (s.mpByte o i b).still = s.still := by
  simp [State.mpByte]

end Sys2Proof.Machine

/-! SUPPORT. What the model's functions leave as it is, continued: routers, DMA, protected windows, bundles, engines, regions and lanes. -/

namespace Sys2Proof.Machine

@[simp] theorem State.cutOut_still (s : State) (t p : Nat) : (s.cutOut t p).still = s.still :=
  iter_still 8 _ s (fun v u => by dsimp only; split <;> simp)

@[simp] theorem State.endOutput_still (s : State) (t p : Nat) : (s.endOutput t p).still = s.still := by
  unfold State.endOutput
  dsimp only
  split <;> simp

@[simp] theorem State.endLink_still (s : State) (t p : Nat) : (s.endLink t p).still = s.still := by
  simp [State.endLink]

@[simp] theorem State.endLocal_still (s : State) (t p : Nat) : (s.endLocal t p).still = s.still := by
  simp [State.endLocal]

@[simp] theorem State.inputFault_still (s : State) (t p : Nat) : (s.inputFault t p).still = s.still := by
  unfold State.inputFault
  dsimp only
  split <;> simp -implicitDefEqProofs

@[simp] theorem State.flitIn_still (s : State) (t p f0 : Nat) : (s.flitIn t p f0).still = s.still := by
  unfold State.flitIn
  dsimp only
  repeat' split
  all_goals simp

@[simp] theorem State.absorbStale_still (s : State) (t out : Nat) : (s.absorbStale t out).still = s.still := by
  unfold State.absorbStale
  split
  · rfl
  · exact iter_still 128 _ s (fun k u => by dsimp only; repeat' split <;> simp)

@[simp] theorem State.grant_still (s : State) (t out : Nat) : (s.grant t out).still = s.still := by
  unfold State.grant
  dsimp only
  repeat' split
  all_goals simp

@[simp] theorem State.dmaPumpAll_still (s : State) (e : Nat) : (s.dmaPumpAll e).still = s.still := by
  simp [State.dmaPumpAll, State.dmaPump_still]

@[simp] theorem State.dmaAbort_still (s : State) (k : Nat) : (s.dmaAbort k).still = s.still := by
  unfold State.dmaAbort
  split <;> simp [State.dmaPump_still]

@[simp] theorem State.dmaDisable_still (s : State) (k : Nat) : (s.dmaDisable k).still = s.still := by
  simp [State.dmaDisable]

@[simp] theorem State.dmaReset_still (s : State) (k : Nat) : (s.dmaReset k).still = s.still := by
  simp [State.dmaReset]

@[simp] theorem State.writeChCtl_still (s : State) (k v : Nat) : (s.writeChCtl k v).still = s.still := by
  simp [State.writeChCtl]

@[simp] theorem State.dmaResp_still (s : State) (o : Outst) (k kind burst off svc : Nat) (data : List Byte) :
    (s.dmaResp o k kind burst off svc data).still = s.still := by
  simp [State.dmaResp]

@[simp] theorem cmdDmaStop_still (c : Ctx) (s : State) : (cmdDmaStop c s).1.still = s.still := by
  simp [cmdDmaStop]

theorem State.fetchNode_still (f : Nat) (s : State) (st i j n : Nat) (p : ProtIn) : (State.fetchNode f s st i j n p).1.still = s.still := by
  induction f generalizing s j n with
  | zero => rfl
  | succ f ih =>
    unfold State.fetchNode
    split
    · rfl
    · have hlook := s.cacheLook_still st i j n p
      split
      · next heq => exact still_of_eq hlook heq
      · next u heq =>
        have hu := still_of_eq hlook heq
        have hf := ih u (j + 1) (n / 8)
        split
        · next heq' => simp [still_of_eq hf heq', hu]
        · exact hf.trans hu

@[simp] theorem State.evictNode_still (s : State) (st i j n : Nat) (p : ProtIn) : (s.evictNode st i j n p).1.still = s.still := by
  unfold State.evictNode
  dsimp only
  split
  · rfl
  · simp
  · split
    · simp
    · have hfetch := State.fetchNode_still (s.levels st i) s st i (j + 1) (n / 8) p
      split <;> next heq => simpa using still_of_eq hfetch heq

theorem State.refill_still (s : State) (d : Nat) (w : RWait) (line : Nat) : (s.refill d w line).1.still = s.still := by
  have hfill := s.startFill_still d w.req line
  unfold State.refill
  split <;> next heq => exact still_of_eq hfill heq

@[simp] theorem State.dropLine_still (s : State) (d line : Nat) : (s.dropLine d line).still = s.still := by
  unfold State.dropLine
  dsimp only
  refine (foldl_still _ _ _ (fun u w => ?_)).trans (by simp)
  simp [State.refill_still]

@[simp] theorem State.dropShared_still (s : State) (st : Nat) (r : Req) : (s.dropShared st r).still = s.still := by
  simp [State.dropShared]

theorem State.planRun_still (s : State) (l : List PlanEntry) : ∀ u, s.planRun l = .ok u → u.still = s.still := by
  induction l generalizing s with
  | nil => rintro _ ⟨⟩; rfl
  | cons e l ih =>
    intro u h
    have hstep := s.planStep_still e
    unfold State.planRun at h
    split at h
    · cases h
    · next heq => exact (ih _ u h).trans (still_of_eq hstep heq)

@[simp] theorem cmdClockPlan_still (c : Ctx) (s : State) : (cmdClockPlan c s).1.still = s.still := by
  unfold cmdClockPlan
  dsimp only
  split
  · rfl
  · split
    · rfl
    · split
      · next h => exact State.planRun_still _ _ _ h
      · rfl

@[simp] theorem State.reassign_still (s : State) (h : List Byte) (maps bad : List (Nat × Nat)) : (s.reassign h maps bad).still = s.still := by
  unfold State.reassign
  dsimp only
  split <;> next heq => simpa using still_of_eq (State.repairAll_still _ _) heq

@[simp] theorem State.bundleStops_still (s : State) (d p i st : Nat) : (s.bundleStops d p i st).still = s.still := by
  simp [State.bundleStops]

@[simp] theorem State.bundleDown_still (s : State) (d p i : Nat) : (s.bundleDown d p i).still = s.still := by
  simp [State.bundleDown]

@[simp] theorem State.unitFail_still (s : State) (d p i : Nat) (first : Bool) : (s.unitFail d p i first).still = s.still := by
  simp [State.unitFail]

theorem State.unitTake_still (s : State) (d p i typ u : Nat) (first : Bool) {act : State → State} (h : ∀ v, (act v).still = v.still) :
    (s.unitTake d p i typ u first act).still = s.still := by
  simp [State.unitTake, h]

theorem State.unitIn_still (s : State) (d p i typ u : Nat) {act : State → State} (h : ∀ v, (act v).still = v.still) :
    (s.unitIn d p i typ u act).still = s.still := by
  unfold State.unitIn
  dsimp only
  split
  · rfl
  · simp [State.unitTake_still, h]

@[simp] theorem State.idleIn_still (s : State) (d p i u : Nat) : (s.idleIn d p i u).still = s.still := by
  unfold State.idleIn
  dsimp only
  repeat' split
  all_goals simp

@[simp] theorem State.startTraining_still (s : State) (l : List (Nat × Nat × Nat)) : (s.startTraining l).still = s.still := by
  simp [State.startTraining]

@[simp] theorem State.resetTrains_still (s : State) (o : LongOp) : (s.resetTrains o).still = s.still := by
  simp [State.resetTrains]

@[simp] theorem State.resetsGo_still (s : State) : s.resetsGo.still = s.still := by
  simp [State.resetsGo]

@[simp] theorem cmdSeamReset_still (c : Ctx) (s : State) : (cmdSeamReset c s).1.still = s.still := by
  unfold cmdSeamReset
  dsimp only
  repeat' split
  all_goals simp

@[simp] theorem State.writeSeamReset_still (s : State) (d v : Nat) : (s.writeSeamReset d v).still = s.still := by
  unfold State.writeSeamReset
  dsimp only
  repeat' split
  all_goals simp

@[simp] theorem State.seamsResume_still (s : State) : s.seamsResume.still = s.still := by
  simp [State.seamsResume]

@[simp] theorem State.refRelease_still (s : State) : s.refRelease.still = s.still := by
  simp [State.refRelease]

theorem State.cacheFit_still (f : Nat) (s : State) (st : Nat) (p : ProtIn) : (State.cacheFit f s st p).1.still = s.still := by
  induction f generalizing s with
  | zero => rfl
  | succ f ih =>
    unfold State.cacheFit
    dsimp only
    split
    · rfl
    · split
      · rfl
      · next e _ =>
        have hevict := s.evictNode_still st (e.1 / 2 ^ 24 / 16 % 16) (e.1 / 2 ^ 24 % 16) (e.1 % 2 ^ 24) p
        split
        · next heq => exact (ih _).trans (still_of_eq hevict heq)
        · exact hevict

@[simp] theorem State.protFetch_still (s : State) (st i line : Nat) (p : ProtIn) : (s.protFetch st i line p).1.still = s.still := by
  have hfetch := State.fetchNode_still (s.levels st i + 1) s st i 0 (nodeOf line 0) p
  unfold State.protFetch
  dsimp only
  split
  · next heq => simpa using still_of_eq hfetch heq
  · exact hfetch

@[simp] theorem State.protReady_still (s : State) (st i l n : Nat) (p : ProtIn) : (s.protReady st i l n p).1.still = s.still := by
  unfold State.protReady
  dsimp only
  generalize hacc : List.foldl _ _ (linePieces l n) = acc
  have hall : acc.1.still = s.still := by
    rw [← hacc]
    refine (foldl_keeps (fun q : State × Option Nat => q.1.still) _ (fun q x => ?_) _ _).trans
      (foldl_keeps (fun q : State × Option Nat => q.1.still) _ (fun q e => ?_) p.evict (s, none))
    · split
      · next u =>
        split
        · rfl
        · have hfetch := u.protFetch_still st i (u.lineOf st i x.2.1) p
          split <;> next heq => exact still_of_eq hfetch heq
      · rfl
    · split <;> simp
  split
  · exact (State.cacheFit_still ..).trans hall
  · exact hall

section Plans
variable {sel : EOp → Option (State → Plan)} (hsel : ∀ op k, sel op = some k → ∀ s u, ((k s).fin u).still = u.still)

theorem State.engIssue_still (s : State) (t : Nat) (cached : Bool) (w : Nat) {p : Plan} (hp : ∀ u, (p.fin u).still = u.still) :
    (s.engIssue t cached w p).still = s.still := by
  unfold State.engIssue
  dsimp only
  cases p.branch <;> cases p.note <;> simp [hp]

include hsel in
theorem State.feedOp_still (s : State) (t w : Nat) : (s.feedOp t w sel).still = s.still := by
  unfold State.feedOp
  dsimp only
  split
  · rfl
  · split
    · rfl
    · next k hk => simp [hsel _ k hk]

include hsel in
/-- An engine's instruction leaves what its plan's effects at issue leave. -/
theorem State.issueOp_still (s : State) (t : Nat) : (s.issueOp t sel).still = s.still := by
  unfold State.issueOp
  split
  · exact State.feedOp_still hsel s t _
  · split
    · dsimp only
      split
      · simp
      · split
        · rfl
        · split
          · rfl
          · next k hk => simp [State.engIssue_still _ _ _ _ (hsel _ k hk _)]
    · rfl

end Plans

@[simp] theorem State.loseFull_still (s : State) (path : Nat) : (s.loseFull path).still = s.still := by
  unfold State.loseFull
  dsimp only
  simp -implicitDefEqProofs

@[simp] theorem State.setAuth_still (s : State) (path level : Nat) (scope : Bool) (tenant : Nat) :
    (s.setAuth path level scope tenant).still = s.still := by
  simp -implicitDefEqProofs [State.setAuth]

@[simp] theorem State.dropAuth_still (s : State) (path : Nat) : (s.dropAuth path).still = s.still := by
  simp [State.dropAuth]

@[simp] theorem State.fenceStart_still (s : State) (r : Nat) : (s.fenceStart r).still = s.still := by
  simp [State.fenceStart, State.forTiles_still]

@[simp] theorem State.regionWipe_still (s : State) (r : Nat) : (s.regionWipe r).still = s.still :=
  s.forTiles_still r (fun t u => by simp)

@[simp] theorem State.regionClear_still (s : State) (r : Nat) : (s.regionClear r).still = s.still := by
  simp [State.regionClear]

@[simp] theorem State.loadStart_still (s : State) (r : Nat) : (s.loadStart r).still = s.still := by
  simp [State.loadStart]

@[simp] theorem State.regionRelease_still (s : State) (r : Nat) : (s.regionRelease r).still = s.still := by
  unfold State.regionRelease
  dsimp only
  rw [State.setRState_still, State.setRegion_still, State.forTiles_still _ _ (fun t u => by simp)]
  simp

@[simp] theorem State.swapRelease_still (s : State) (r : Nat) : (s.swapRelease r).still = s.still := by
  simp [State.swapRelease]

@[simp] theorem State.captureEnd_still (s : State) (r code : Nat) : (s.captureEnd r code).still = s.still := by
  unfold State.captureEnd
  dsimp only
  repeat' split
  all_goals simp

@[simp] theorem State.loadEnd_still (s : State) (r code addr : Nat) : (s.loadEnd r code addr).still = s.still := by
  unfold State.loadEnd
  dsimp only
  repeat' split
  all_goals simp

@[simp] theorem State.restoreEnd_still (s : State) (r code addr : Nat) : (s.restoreEnd r code addr).still = s.still := by
  unfold State.restoreEnd
  dsimp only
  repeat' split
  all_goals simp

@[simp] theorem State.stepGo_still (s : State) (r : Nat) : (s.stepGo r).still = s.still := by
  unfold State.stepGo
  dsimp only
  repeat' split
  all_goals simp

@[simp] theorem State.stepEnd_still (s : State) (r kind code addr : Nat) : (s.stepEnd r kind code addr).still = s.still := by
  simp [State.stepEnd]

theorem State.stepDone_still (s : State) (r kind st : Nat) {f : State → State × Nat × Nat} (h : ∀ u, (f u).1.still = u.still) :
    (s.stepDone r kind st f).still = s.still := by
  unfold State.stepDone
  simp [h]

@[simp] theorem State.blankDies_still (s : State) (r : Nat) (rb : Option Nat) : (s.blankDies r rb).1.still = s.still := by
  unfold State.blankDies
  split
  · split <;> simp
  · simp

@[simp] theorem cmdRegionFence_still (c : Ctx) (s : State) : (cmdRegionFence c s).1.still = s.still := by
  unfold cmdRegionFence
  dsimp only
  split <;> simp

@[simp] theorem State.releaseAccepted_still (s : State) : s.releaseAccepted.still = s.still := by
  simp [State.releaseAccepted]

theorem State.qPopPacket_still (s : State) (k n : Nat) (acc : List QWord) : (s.qPopPacket k n acc).2.still = s.still := by
  induction n generalizing s acc with
  | zero => rfl
  | succ n ih =>
    unfold State.qPopPacket
    dsimp only
    split
    · simp
    · split <;> simp [ih]

@[simp] theorem State.txFill_still (s : State) (l : Nat) : (s.txFill l).still = s.still := by
  unfold State.txFill
  simp [State.qPopPacket_still]

theorem State.slNext_still (s : State) (l : Nat) : ∀ x, s.slNext l = some x → x.2.still = s.still := by
  intro x h
  unfold State.slNext at h
  dsimp only at h
  repeat' split at h
  all_goals cases h <;> simp

@[simp] theorem State.macPop_still (s : State) (l : Nat) : (s.macPop l).still = s.still := by
  have hreq := s.macReq_still l 4 .read .qPopLo 8 []
  unfold State.macPop
  split
  · rfl
  · split <;> next heq => simpa using still_of_eq hreq heq

@[simp] theorem State.macResp_still (s : State) (l kind svc : Nat) (data : List Byte) : (s.macResp l kind svc data).still = s.still := by
  unfold State.macResp
  dsimp only
  split <;> simp -implicitDefEqProofs

end Sys2Proof.Machine

/-! SUPPORT. What the model's functions leave as it is, continued: register accesses, debug, responses, modes, ports and functions. -/

namespace Sys2Proof.Machine

@[simp] theorem State.blkWindowNear_still (s : State) (q : Rq) (t o : Nat) (op : NOp) (n : Nat) (data : List Byte) (near : Option (Bool × PortIn)) :
    (s.blkWindowNear q t o op n data near).1.still = s.still := by
  fun_cases State.blkWindowNear s q t o op n data near
  case case3 heq _ _ _ _ _ _ => simpa +zetaDelta using still_of_eq (State.blkWindow_still ..) heq
  all_goals simp

@[simp] theorem State.writeDebug_still (s : State) (path : Nat) (r : Rg) (j v : Nat) : (s.writeDebug path r j v).still = s.still := by
  unfold State.writeDebug
  dsimp only
  split <;> simp -implicitDefEqProofs

@[simp] theorem State.writeDevice_still (s : State) (q : Rq) (r : Rg) (i j v : Nat) : (s.writeDevice q r i j v).still = s.still := by
  unfold State.writeDevice
  dsimp only
  split <;> simp -implicitDefEqProofs

@[simp] theorem State.writeReg_still (s : State) (q : Rq) (r : Rg) (i j v : Nat) : (s.writeReg q r i j v).still = s.still := by
  unfold State.writeReg
  split
  · rfl
  · split <;> simp

@[simp] theorem State.regAccess_still (s : State) (q : Rq) (eff : Bool) (op : NOp) (a n : Nat) (data : List Byte) :
    (s.regAccess q eff op a n data).1.still = s.still := by
  unfold State.regAccess
  dsimp only
  split
  · rfl
  · split
    · rfl
    · split
      · rfl
      · split
        · rfl
        · split
          · simp
          · exact foldl_keeps (fun y : State × List Byte => y.1.still) _ (fun y x => by simp) _ _

@[simp] theorem State.serveReg_still (s : State) (r : Req) : (s.serveReg r).still = s.still :=
  s.serve_still r _ (fun u x hx => by cases hx; simp)

@[simp] theorem State.dbgWord_still (s : State) (path : Nat) (eff : Bool) (op : NOp) (a : Nat) (data : List Byte) :
    (s.dbgWord path eff op a data).1.still = s.still := by
  have hsend := s.dbgSend_still path op a data
  unfold State.dbgWord
  dsimp only
  split
  · split <;> next heq => exact still_of_eq hsend heq
  · split <;> simp

@[simp] theorem State.peekRun_still (n : Nat) (s : State) (path : Nat) (eff : Bool) (a : Nat) (acc : List Byte) :
    (State.peekRun n s path eff a acc).1.still = s.still := by
  induction n generalizing s a acc with
  | zero => rfl
  | succ n ih =>
    have hword := s.dbgWord_still path eff .read a []
    unfold State.peekRun
    split <;> next heq => simp [ih, still_of_eq hword heq, apply_ite]

@[simp] theorem cmdDbgDrop_still (c : Ctx) (s : State) : (cmdDbgDrop c s).1.still = s.still := by
  simp [cmdDbgDrop]

@[simp] theorem cmdDbgPeek_still (c : Ctx) (s : State) : (cmdDbgPeek c s).1.still = s.still := by
  have hrun := s.peekRun_still (c.num 8 1) c.port (bitAt (c.num 9 1) 0) (c.num 0 8) []
  unfold cmdDbgPeek
  dsimp only
  generalize (if bitAt (c.num 9 1) 0 then 2 else 1) = need
  split
  · rfl
  · split
    · next heq => simpa using still_of_eq hrun heq
    · next heq =>
      split
      · rfl
      · exact still_of_eq hrun heq

@[simp] theorem cmdDbgPoke_still (c : Ctx) (s : State) : (cmdDbgPoke c s).1.still = s.still := by
  have hword := s.dbgWord_still c.port true .write (c.num 0 8) (leBytes 4 (c.num 8 4))
  unfold cmdDbgPoke
  dsimp only
  split
  · rfl
  · split
    · next heq => simpa using still_of_eq hword heq
    · next heq =>
      split
      · rfl
      · exact still_of_eq hword heq

@[simp] theorem State.tapAccess_still (s : State) (need : Nat) (eff : Bool) (op : NOp) (a : Nat) (data : List Byte) :
    (s.tapAccess need eff op a data).still = s.still := by
  fun_cases State.tapAccess s need eff op a data
  case case5 heq => simpa +zetaDelta using still_of_eq (State.dbgWord_still ..) heq
  case case6 heq _ => simpa +zetaDelta using still_of_eq (State.dbgWord_still ..) heq
  all_goals simp +zetaDelta

@[simp] theorem State.dbgResp_still (s : State) (path svc : Nat) (data : List Byte) : (s.dbgResp path svc data).still = s.still := by
  unfold State.dbgResp
  dsimp only
  split
  · simp
  · split
    · rfl
    · next o _ =>
      have hrun := s.peekRun_still (o.args.getD 1 0 - 1) path (decide (o.args.getD 2 0 = 1)) (o.args.getD 0 0 + 4)
        ((o.args.drop 3).map (BitVec.ofNat 8) ++ data)
      split
      · simp
      · split
        · simp
        · split <;> next heq => simpa using still_of_eq hrun heq

@[simp] theorem State.expertRead_still (s : State) (q : Rq) (a : Nat) : (s.expertRead q a).1.still = s.still := by
  simp [State.expertRead]

@[simp] theorem State.expertWrite_still (s : State) (q : Rq) (a v : Nat) : (s.expertWrite q a v).1.still = s.still := by
  simp [State.expertWrite]

@[simp] theorem State.expertReads_still (q : Rq) (l : List Nat) (s : State) (acc : List Nat) : (State.expertReads q l s acc).1.still = s.still := by
  induction l generalizing s acc with
  | nil => rfl
  | cons a l ih =>
    unfold State.expertReads
    dsimp only
    split <;> simp [ih]

@[simp] theorem State.expertWrites_still (q : Rq) (l : List (Nat × Nat)) (s : State) (n : Nat) : (State.expertWrites q l s n).1.still = s.still := by
  induction l generalizing s n with
  | nil => rfl
  | cons a l ih =>
    unfold State.expertWrites
    dsimp only
    split <;> simp [ih]

@[simp] theorem cmdRegRead_still (c : Ctx) (s : State) : (cmdRegRead c s).1.still = s.still := by
  simp [cmdRegRead]

@[simp] theorem cmdRegWrite_still (c : Ctx) (s : State) : (cmdRegWrite c s).1.still = s.still := by
  simp [cmdRegWrite]

@[simp] theorem cmdRegModify_still (c : Ctx) (s : State) : (cmdRegModify c s).1.still = s.still := by
  simp [cmdRegModify]

@[simp] theorem cmdRegReadN_still (c : Ctx) (s : State) : (cmdRegReadN c s).1.still = s.still := by
  simp [cmdRegReadN]

@[simp] theorem cmdRegWriteList_still (c : Ctx) (s : State) : (cmdRegWriteList c s).1.still = s.still := by
  simp [cmdRegWriteList]

@[simp] theorem State.lineErrs_still (s : State) (d : Nat) (ls : List Nat) (errs : List LineErr) : (s.lineErrs d ls errs).still = s.still :=
  foldl_still _ _ s (fun u e => by dsimp only; split <;> simp)

@[simp] theorem State.cacheRead_still (s : State) (d : Nat) (r : Req) (errs : List LineErr) : (s.cacheRead d r errs).still = s.still := by
  unfold State.cacheRead
  dsimp only
  split
  · rfl
  · generalize hacc : List.foldl _ (_, (⟨r, [], [], 0⟩ : RWait)) _ = acc
    have hall : acc.1.still = s.still := by
      rw [← hacc]
      refine (foldl_keeps (fun q : State × RWait => q.1.still) _ (fun q l => ?_) _ _).trans (by simp)
      split <;> simp [State.refill_still]
    simp [hall]

@[simp] theorem State.cacheForward_still (s : State) (d : Nat) (r : Req) : (s.cacheForward d r).still = s.still := by
  have hissue := s.issueTo_still (.rcache d s.hbm.nextId false) { r with src := dieTile d, sport := 5, rt := false }
    (1024 + 16 * (s.hbmLocal r.addr).1 + (s.hbmLoc (s.hbmLocal r.addr).1 (s.hbmLocal r.addr).2).pc / 2) 1
  unfold State.cacheForward
  dsimp only
  split <;> next heq => simpa using still_of_eq hissue heq

@[simp] theorem State.finishReq_still (s : State) (o : Outst) (svc : Nat) (data : List Byte) (poison late drop : Bool) :
    (s.finishReq o svc data poison late drop).still = s.still := by
  unfold State.finishReq
  dsimp only
  split <;> simp

@[simp] theorem State.deliverResp_still (s : State) (r : Resp) (late : Bool) : (s.deliverResp r late).still = s.still := by
  have harrive := s.arrive_still r
  unfold State.deliverResp
  split <;> next heq => simpa using still_of_eq harrive heq

@[simp] theorem State.deliverKept_still (s : State) (t : Nat) : (s.deliverKept t).still = s.still := by
  simp [State.deliverKept]

@[simp] theorem State.rqoEnd_still (s : State) (t id : Nat) (r : Req) : (s.rqoEnd t id r).still = s.still := by
  have hissue := s.issue_still (.fabric id) r
  unfold State.rqoEnd
  split
  · simp
  · split
    · rfl
    · next heq => simpa using still_of_eq hissue heq

@[simp] theorem State.enableFail_still (s : State) (o : LongOp) (code : Nat) : (s.enableFail o code).still = s.still := by
  simp [State.enableFail]

@[simp] theorem State.enableReset_still (s : State) (st : Nat) : (s.enableReset st).still = s.still := by
  simp [State.enableReset]

@[simp] theorem cmdProtRebuild_still (c : Ctx) (s : State) : (cmdProtRebuild c s).1.still = s.still := by
  simp -implicitDefEqProofs [cmdProtRebuild, State.fetchNode_still]

@[simp] theorem State.leaveRest_still (s : State) : s.leaveRest.still = s.still := by
  simp [State.leaveRest]

@[simp] theorem State.leaveHold_still (s : State) : s.leaveHold.still = s.still := by
  simp [State.leaveHold]

@[simp] theorem cmdModeSet_still (c : Ctx) (s : State) : (cmdModeSet c s).1.still = s.still := by
  unfold cmdModeSet
  dsimp only
  repeat' split
  all_goals simp

@[simp] theorem State.portStop_still (s : State) (p : Nat) : (s.portStop p).still = s.still := by
  unfold State.portStop
  dsimp only
  refine (iter_still 8 _ _ (fun n u => ?_)).trans (by simp)
  split <;> simp

@[simp] theorem State.portDown_still (s : State) (p : Nat) : (s.portDown p).still = s.still := by
  simp [State.portDown]

@[simp] theorem State.restartOp_still (s : State) (o : LongOp) : (s.restartOp o).still = s.still := by
  simp [State.restartOp]

@[simp] theorem State.funcStop_still (s : State) (kind i : Nat) : (s.funcStop kind i).still = s.still := by
  unfold State.funcStop
  split <;> simp -implicitDefEqProofs

@[simp] theorem State.portReset_still (s : State) (p : Nat) : (s.portReset p).still = s.still := by
  simp [State.portReset]

@[simp] theorem State.funcReset_still (s : State) (kind i : Nat) : (s.funcReset kind i).still = s.still := by
  unfold State.funcReset
  split
  case h_7 => split <;> simp
  all_goals simp

@[simp] theorem State.funcEnd_still (s : State) (kind i : Nat) (reset : Bool) : (s.funcEnd kind i reset).still = s.still := by
  simp [State.funcEnd]

@[simp] theorem State.funcStart_still (s : State) (c : Ctx) (kind i : Nat) (reset : Bool) : (s.funcStart c kind i reset).1.still = s.still := by
  simp [State.funcStart]

@[simp] theorem State.regionDisable_still (s : State) (c : Ctx) (r : Nat) : (s.regionDisable c r).1.still = s.still := by
  unfold State.regionDisable
  dsimp only
  split <;> simp

@[simp] theorem cmdFuncDisable_still (c : Ctx) (s : State) : (cmdFuncDisable c s).1.still = s.still := by
  unfold cmdFuncDisable
  dsimp only
  split
  · simp
  · split <;> simp

@[simp] theorem State.mpBytes_still (o i : Nat) (l : List Byte) (s : State) : (State.mpBytes o i l s).still = s.still := by
  induction l generalizing o i s with
  | nil => rfl
  | cons b l ih => simp [State.mpBytes, ih]

@[simp] theorem State.mpGets_still (n o i : Nat) (s : State) (acc : List Byte) : (State.mpGets n o i s acc).1.still = s.still := by
  induction n generalizing o i s acc with
  | zero => rfl
  | succ n ih => simp [State.mpGets, ih]

theorem State.relayFrame_still (s : State) (l kind : Nat) (b : List Byte) {act : State → State} (h : ∀ u, (act u).still = u.still) :
    (s.relayFrame l kind b act).still = s.still := by
  simp [State.relayFrame, h]

end Sys2Proof.Machine

/-! SUPPORT. The commands that leave the waiting commands and the contents of the stacks as they are. -/

namespace Sys2Proof.Machine

/-! #### What an instruction of the model leaves -/

/-- The state that follows has the waiting commands and the contents of the stacks of `s`. -/
def StillAfter (s : State) : Out → Prop
  | .next t => t.still = s.still
  | _ => True

@[simp] theorem stillAfter_next (s t : State) : StillAfter s (.next t) ↔ t.still = s.still := .rfl

/-- A plan whose effects at issue leave the waiting commands and the contents of the stacks. -/
def Plan.Quiet (p : Plan) : Prop := ∀ u, (p.fin u).still = u.still

theorem Plan.of_quiet (fx : Fx) : (Plan.of fx).Quiet := fun _ => rfl

theorem Plan.bad_quiet (cause : Nat) : (Plan.bad cause).Quiet := fun _ => rfl

theorem Plan.wait_quiet : Plan.wait.Quiet := fun _ => rfl

theorem Plan.act_quiet {f : State → State} (h : ∀ u, (f u).still = u.still) : (Plan.act f).Quiet := h

theorem Plan.quiet_ite {c : Prop} [Decidable c] {p q : Plan} (hp : p.Quiet) (hq : q.Quiet) : (if c then p else q).Quiet := by
  split <;> assumption

theorem planPush_quiet (t q : Nat) (last : Bool) (s : State) : (planPush t q last s).Quiet :=
  Plan.quiet_ite (Plan.bad_quiet 2) (Plan.quiet_ite Plan.wait_quiet (Plan.of_quiet _))

theorem planAtomic_quiet (t : Nat) (op : NOp) (data : List Byte) (rds : List Rd) (s : State) : (planAtomic t op data rds s).Quiet :=
  Plan.quiet_ite Plan.wait_quiet (fun u => u.sendAtomic_still t op _ data)

/-- An engine's instruction, where every plan of it is quiet. -/
theorem issueOp_still (s : State) (t : Nat) (sel : EOp → Option (State → Plan)) (h : ∀ op k, sel op = some k → ∀ v, (k v).Quiet) :
    (s.issueOp t sel).still = s.still := State.issueOp_still h s t

@[simp] theorem regRow_still (op : NOp) (p : Rg → Nat → Bool) (q : Req) (s : State) : StillAfter s (regRow op p q s) := by
  simp [regRow]

@[simp] theorem dbgWrite_still (path off v : Nat) (s : State) : StillAfter s (dbgWrite path off v s) := by
  simp [dbgWrite]

@[simp] theorem execFlitArrival_still (t : Tile) (p : Fin 15) (f : BitVec 288) (s : State) : StillAfter s (execFlitArrival t p f s) := by
  simp [execFlitArrival]
@[simp] theorem execFlitGrant_still (t : Tile) (out : Fin 15) (s : State) : StillAfter s (execFlitGrant t out s) := by
  simp [execFlitGrant]
@[simp] theorem execCreditReturn_still (t : Tile) (p v : Fin 8) (s : State) : StillAfter s (execCreditReturn t p v s) := by
  simp [execCreditReturn]
@[simp] theorem execDmaRun_still (p : Port) (m : Mbox) (s : State) : StillAfter s (execDmaRun p m s) := takeMailbox_still _ cmdDmaRun_still p m s
@[simp] theorem execDmaStatus_still (p : Port) (m : Mbox) (s : State) :
    StillAfter s (execDmaStatus p m s) := takeMailbox_still _ cmdDmaStatus_still p m s
@[simp] theorem execDmaStop_still (p : Port) (m : Mbox) (s : State) : StillAfter s (execDmaStop p m s) := takeMailbox_still _ cmdDmaStop_still p m s
@[simp] theorem execCorrectionApply_still (n : Tk) (s : State) : StillAfter s (execCorrectionApply n s) := by
  simp [execCorrectionApply]
@[simp] theorem execAlarmFire_still (n : Tk) (s : State) : StillAfter s (execAlarmFire n s) := by
  simp [execAlarmFire]
@[simp] theorem execPpsOutRise_still (s : State) : StillAfter s (execPpsOutRise s) := by
  simp [execPpsOutRise]
@[simp] theorem execPpsOutFall_still (s : State) : StillAfter s (execPpsOutFall s) := by
  simp [execPpsOutFall]
@[simp] theorem execPpsInEdge_still (s : State) : StillAfter s (execPpsInEdge s) := by
  simp [execPpsInEdge]
@[simp] theorem execQuadCopyRealign_still (s : State) : StillAfter s (execQuadCopyRealign s) := by
  simp [execQuadCopyRealign]
@[simp] theorem execTimeGet_still (p : Port) (m : Mbox) (s : State) : StillAfter s (execTimeGet p m s) := takeMailbox_still _ cmdTimeGet_still p m s
@[simp] theorem execTimeSet_still (p : Port) (m : Mbox) (s : State) : StillAfter s (execTimeSet p m s) := takeMailbox_still _ cmdTimeSet_still p m s
@[simp] theorem execTimeAdjust_still (p : Port) (m : Mbox) (s : State) :
    StillAfter s (execTimeAdjust p m s) := takeMailbox_still _ cmdTimeAdjust_still p m s
@[simp] theorem execTimeRate_still (p : Port) (m : Mbox) (s : State) :
    StillAfter s (execTimeRate p m s) := takeMailbox_still _ cmdTimeRate_still p m s
@[simp] theorem execTimeArm_still (p : Port) (m : Mbox) (s : State) : StillAfter s (execTimeArm p m s) := takeMailbox_still _ cmdTimeArm_still p m s
@[simp] theorem execTimeClear_still (p : Port) (m : Mbox) (s : State) :
    StillAfter s (execTimeClear p m s) := takeMailbox_still _ cmdTimeClear_still p m s
@[simp] theorem execTimeAlarm_still (p : Port) (m : Mbox) (s : State) :
    StillAfter s (execTimeAlarm p m s) := takeMailbox_still _ cmdTimeAlarm_still p m s
@[simp] theorem execTimeCapture_still (p : Port) (m : Mbox) (s : State) :
    StillAfter s (execTimeCapture p m s) := takeMailbox_still _ cmdTimeCapture_still p m s
@[simp] theorem execTimePps_still (p : Port) (m : Mbox) (s : State) : StillAfter s (execTimePps p m s) := takeMailbox_still _ cmdTimePps_still p m s
@[simp] theorem execTimeSource_still (p : Port) (m : Mbox) (s : State) :
    StillAfter s (execTimeSource p m s) := takeMailbox_still _ cmdTimeSource_still p m s
@[simp] theorem execTimeStatus_still (p : Port) (m : Mbox) (s : State) :
    StillAfter s (execTimeStatus p m s) := takeMailbox_still _ cmdTimeStatus_still p m s
@[simp] theorem execCarrierRevert_still (s : State) : StillAfter s (execCarrierRevert s) := by
  simp [execCarrierRevert]
@[simp] theorem execClockSwitchDone_still (net : Option GNet) (s : State) : StillAfter s (execClockSwitchDone net s) := by
  unfold execClockSwitchDone
  rw [stillAfter_next]
  split <;> simp
@[simp] theorem execSwitchForced_still (net : Option GNet) (s : State) : StillAfter s (execSwitchForced net s) := by
  unfold execSwitchForced
  rw [stillAfter_next]
  split <;> simp
@[simp] theorem execSyLock_still (k : Synth) (s : State) : StillAfter s (execSyLock k s) := by
  simp [execSyLock]
@[simp] theorem execSyUnlock_still (k : Synth) (s : State) : StillAfter s (execSyUnlock k s) := by
  simp [execSyUnlock]
@[simp] theorem execFcGateEnd_still (c : FCtr) (n : BitVec 40) (s : State) : StillAfter s (execFcGateEnd c n s) := by
  simp [execFcGateEnd]
@[simp] theorem execClockStatus_still (p : Port) (m : Mbox) (s : State) :
    StillAfter s (execClockStatus p m s) := takeMailbox_still _ cmdClockStatus_still p m s
@[simp] theorem execClockPlan_still (p : Port) (m : Mbox) (s : State) :
    StillAfter s (execClockPlan p m s) := takeMailbox_still _ cmdClockPlan_still p m s
@[simp] theorem execClockSelect_still (p : Port) (m : Mbox) (s : State) :
    StillAfter s (execClockSelect p m s) := takeMailbox_still _ cmdClockSelect_still p m s
@[simp] theorem execClockGate_still (p : Port) (m : Mbox) (s : State) :
    StillAfter s (execClockGate p m s) := takeMailbox_still _ cmdClockGate_still p m s
@[simp] theorem execClockMeasure_still (p : Port) (m : Mbox) (s : State) :
    StillAfter s (execClockMeasure p m s) := takeMailbox_still _ cmdClockMeasure_still p m s
@[simp] theorem execSettingsRead_still (missing : Bool) (c0 c1 : List Byte) (holdGood : Bool) (s : State) :
    StillAfter s (execSettingsRead missing c0 c1 holdGood s) := by
  simp [execSettingsRead]
@[simp] theorem execSettingsCommitDone_still (ok : Bool) (s : State) : StillAfter s (execSettingsCommitDone ok s) := by
  unfold execSettingsCommitDone
  rw [stillAfter_next]
  split <;> simp
@[simp] theorem execSettingsGet_still (p : Port) (m : Mbox) (s : State) :
    StillAfter s (execSettingsGet p m s) := takeMailbox_still _ cmdSettingsGet_still p m s
@[simp] theorem execSettingsPut_still (p : Port) (m : Mbox) (s : State) :
    StillAfter s (execSettingsPut p m s) := takeMailbox_still _ cmdSettingsPut_still p m s
@[simp] theorem execSettingsDelete_still (p : Port) (m : Mbox) (s : State) :
    StillAfter s (execSettingsDelete p m s) := takeMailbox_still _ cmdSettingsDelete_still p m s
@[simp] theorem execSettingsCommit_still (p : Port) (m : Mbox) (s : State) :
    StillAfter s (execSettingsCommit p m s) := takeMailbox_still _ cmdSettingsCommit_still p m s
@[simp] theorem execSettingsDiscard_still (p : Port) (m : Mbox) (s : State) :
    StillAfter s (execSettingsDiscard p m s) := takeMailbox_still _ cmdSettingsDiscard_still p m s
@[simp] theorem execHbmSchedule_still (st : Die) (pc : Fin 32) (late : List Nat) (s : State) : StillAfter s (execHbmSchedule st pc late s) := by
  unfold execHbmSchedule
  rw [stillAfter_next]
  dsimp only
  repeat' split
  all_goals simp
@[simp] theorem execRowClose_still (st : Die) (pc bank : Fin 32) (s : State) : StillAfter s (execRowClose st pc bank s) := by
  simp [execRowClose]
@[simp] theorem execPerBankRefresh_still (st : Die) (pc : Fin 32) (s : State) : StillAfter s (execPerBankRefresh st pc s) := by
  simp [execPerBankRefresh]
@[simp] theorem execRtlevelChange_still (st : Die) (j : Fin 4) (level : Fin 16) (s : State) : StillAfter s (execRtlevelChange st j level s) := by
  simp [execRtlevelChange]
@[simp] theorem execHbmTempPoll_still (st : Die) (t : Option (Fin 256)) (s : State) : StillAfter s (execHbmTempPoll st t s) := by
  unfold execHbmTempPoll
  rw [stillAfter_next]
  dsimp only
  repeat' split
  all_goals simp
@[simp] theorem execBandChangeDone_still (st : Die) (s : State) : StillAfter s (execBandChangeDone st s) := by
  unfold execBandChangeDone
  rw [stillAfter_next]
  split <;> simp
@[simp] theorem execRateChangeDone_still (st : Die) (s : State) : StillAfter s (execRateChangeDone st s) := by
  unfold execRateChangeDone
  rw [stillAfter_next]
  split <;> simp
@[simp] theorem execHbmStatus_still (p : Port) (m : Mbox) (s : State) :
    StillAfter s (execHbmStatus p m s) := takeMailbox_still _ cmdHbmStatus_still p m s
@[simp] theorem execHbmRate_still (p : Port) (m : Mbox) (s : State) : StillAfter s (execHbmRate p m s) := takeMailbox_still _ cmdHbmRate_still p m s
@[simp] theorem execHbmThaw_still (p : Port) (m : Mbox) (s : State) : StillAfter s (execHbmThaw p m s) := takeMailbox_still _ cmdHbmThaw_still p m s
@[simp] theorem execCommitVisible_still (t : Tile) (n : QNum) (s : State) : StillAfter s (execCommitVisible t n s) := by
  simp [execCommitVisible]
@[simp] theorem execWordsFreed_still (t : Tile) (n : QNum) (s : State) : StillAfter s (execWordsFreed t n s) := by
  simp [execWordsFreed]
@[simp] theorem execReceiverDetect_still (l : Lane) (found : Bool) (s : State) : StillAfter s (execReceiverDetect l found s) := by
  simp [execReceiverDetect]
@[simp] theorem execLosAssert_still (l : Lane) (s : State) : StillAfter s (execLosAssert l s) := by
  simp [execLosAssert]
@[simp] theorem execLosDeassert_still (l : Lane) (s : State) : StillAfter s (execLosDeassert l s) := by
  simp [execLosDeassert]
@[simp] theorem execLolAssert_still (l : Lane) (s : State) : StillAfter s (execLolAssert l s) := by
  simp [execLolAssert]
@[simp] theorem execLolDeassert_still (l : Lane) (s : State) : StillAfter s (execLolDeassert l s) := by
  simp [execLolDeassert]
@[simp] theorem execLosClearHeld_still (l : Lane) (s : State) : StillAfter s (execLosClearHeld l s) := by
  simp [execLosClearHeld]
@[simp] theorem execHuntDwellEnd_still (l : Lane) (matched : Bool) (s : State) : StillAfter s (execHuntDwellEnd l matched s) := by
  unfold execHuntDwellEnd
  simp only [stillAfter_next]
  repeat' split
  all_goals simp
@[simp] theorem execHuntTxStep_still (l : Lane) (s : State) : StillAfter s (execHuntTxStep l s) := by
  simp [execHuntTxStep]
@[simp] theorem execAnComplete_still (l : Lane) (mode : Fin 16) (fec : Fin 3) (s : State) : StillAfter s (execAnComplete l mode fec s) := by
  simp [execAnComplete]
@[simp] theorem execLinkTrainingDone_still (l : Lane) (steps : List (Fin 3 × Bool)) (s : State) : StillAfter s (execLinkTrainingDone l steps s) := by
  simp [execLinkTrainingDone]
@[simp] theorem execTrainingTimeout_still (l : Lane) (s : State) : StillAfter s (execTrainingTimeout l s) := by
  simp [execTrainingTimeout]
@[simp] theorem execLockAcquired_still (l : Lane) (s : State) : StillAfter s (execLockAcquired l s) := by
  simp [execLockAcquired]
@[simp] theorem execLockTimeout_still (l : Lane) (s : State) : StillAfter s (execLockTimeout l s) := by
  simp [execLockTimeout]
@[simp] theorem execCapabilityBlock_still (l : Lane) (w0 w1 w2 w3 : Word64) (s : State) : StillAfter s (execCapabilityBlock l w0 w1 w2 w3 s) := by
  simp [execCapabilityBlock]
@[simp] theorem execExchangeTimeout_still (l : Lane) (s : State) : StillAfter s (execExchangeTimeout l s) := by
  simp [execExchangeTimeout]
@[simp] theorem execSgmiiAnComplete_still (l : Lane) (s : State) : StillAfter s (execSgmiiAnComplete l s) := by
  simp [execSgmiiAnComplete]
@[simp] theorem execHiBer_still (l : Lane) (s : State) : StillAfter s (execHiBer l s) := by
  simp [execHiBer]
@[simp] theorem execLaneApply_still (p : Port) (m : Mbox) (s : State) :
    StillAfter s (execLaneApply p m s) := takeMailbox_still _ cmdLaneApply_still p m s
@[simp] theorem execLaneStatus_still (p : Port) (m : Mbox) (s : State) :
    StillAfter s (execLaneStatus p m s) := takeMailbox_still _ cmdLaneStatus_still p m s
@[simp] theorem execLaneRestart_still (p : Port) (m : Mbox) (s : State) :
    StillAfter s (execLaneRestart p m s) := takeMailbox_still _ cmdLaneRestart_still p m s
@[simp] theorem execLaneDisable_still (p : Port) (m : Mbox) (s : State) :
    StillAfter s (execLaneDisable p m s) := takeMailbox_still _ cmdLaneDisable_still p m s
@[simp] theorem execLaneTest_still (p : Port) (m : Mbox) (s : State) :
    StillAfter s (execLaneTest p m s) := takeMailbox_still _ cmdLaneTest_still p m s
@[simp] theorem execRollCall_still (d : Die) (p : Fin 2) (copies : List (BitVec 336)) (s : State) : StillAfter s (execRollCall d p copies s) := by
  unfold execRollCall
  rw [stillAfter_next]
  split <;> simp
@[simp] theorem execRollAnswer_still (d : Die) (p : Fin 2) (copies : List (BitVec 336)) (s : State) : StillAfter s (execRollAnswer d p copies s) := by
  unfold execRollAnswer
  rw [stillAfter_next]
  split <;> simp
@[simp] theorem execRollRelay_still (src : Fin 2) (copies : List (BitVec 336)) (s : State) : StillAfter s (execRollRelay src copies s) := by
  unfold execRollRelay
  rw [stillAfter_next]
  split <;> simp
@[simp] theorem execRollConfirm_still (c1 c2 c3 : List (BitVec 336)) (s : State) : StillAfter s (execRollConfirm c1 c2 c3 s) := by
  simp [execRollConfirm]
@[simp] theorem execRollCallMissed_still (s : State) : StillAfter s (execRollCallMissed s) := by
  simp [execRollCallMissed]
@[simp] theorem execSeamBootTestDone_still (maps bad : List (Nat × Nat)) (allow : Bool) (s : State) :
    StillAfter s (execSeamBootTestDone maps bad allow s) := by
  simp [execSeamBootTestDone]
@[simp] theorem execLinkDisable_still (t : Tile) (dir : Fin 4) (express : Bool) (s : State) : StillAfter s (execLinkDisable t dir express s) := by
  simp [execLinkDisable]
@[simp] theorem execIdle_still (d : Die) (p : Fin 2) (i : Fin 129) (lanes : List (BitVec 24)) (s : State) :
    StillAfter s (execIdle d p i lanes s) := by
  simp [execIdle]
@[simp] theorem execTrain_still (d : Die) (p : Fin 2) (i : Fin 129) (copies : List (BitVec 336)) (s : State) :
    StillAfter s (execTrain d p i copies s) := by
  unfold execTrain
  rw [stillAfter_next]
  split <;> simp
@[simp] theorem execReplayWindowEnd_still (d : Die) (p : Fin 2) (i : Fin 129) (s : State) : StillAfter s (execReplayWindowEnd d p i s) := by
  simp [execReplayWindowEnd]
@[simp] theorem execBundleTrainingDone_still (d : Die) (p : Fin 2) (i : Fin 129) (own : BitVec 16) (late : Bool) (s : State) :
    StillAfter s (execBundleTrainingDone d p i own late s) := by
  simp [execBundleTrainingDone]
@[simp] theorem execSeamReset_still (p : Port) (m : Mbox) (s : State) :
    StillAfter s (execSeamReset p m s) := takeMailbox_still _ cmdSeamReset_still p m s
@[simp] theorem execApplyComplete_still (t : Tile) (p : Fin 15) (s : State) : StillAfter s (execApplyComplete t p s) := by
  simp [execApplyComplete]
@[simp] theorem execApplyCut_still (t : Tile) (p : Fin 15) (s : State) : StillAfter s (execApplyCut t p s) := by
  simp [execApplyCut]
@[simp] theorem execHeaderAuthenticated_still (maps bad : List (Nat × Nat)) (errs : List Bool) (s : State) :
    StillAfter s (execHeaderAuthenticated maps bad errs s) := by
  simp [execHeaderAuthenticated]
@[simp] theorem execDieLoadDone_still (d : Die) (gap : Option Word32) (s : State) : StillAfter s (execDieLoadDone d gap s) := by
  simp [execDieLoadDone]
@[simp] theorem execLoadComplete_still (cfg : ImageCfg) (s : State) : StillAfter s (execLoadComplete cfg s) := by
  unfold execLoadComplete
  rw [stillAfter_next]
  dsimp only
  repeat' split
  all_goals simp
@[simp] theorem execMailboxRing_still (p : Port) (m : Mbox) (writes : List (Fin 512 × List Byte)) (s : State) :
    StillAfter s (execMailboxRing p m writes s) := by
  simp [execMailboxRing]
@[simp] theorem execPoll_still (p : Port) (m : Mbox) (s : State) : StillAfter s (execPoll p m s) := takeMailbox_still _ cmdPoll_still p m s
@[simp] theorem execIdentify_still (p : Port) (m : Mbox) (s : State) :
    StillAfter s (execIdentify p m s) := takeMailbox_still _ cmdIdentify_still p m s
@[simp] theorem execGetEvents_still (p : Port) (m : Mbox) (s : State) :
    StillAfter s (execGetEvents p m s) := takeMailbox_still _ cmdGetEvents_still p m s
@[simp] theorem execGetStatus_still (p : Port) (m : Mbox) (s : State) :
    StillAfter s (execGetStatus p m s) := takeMailbox_still _ cmdGetStatus_still p m s
@[simp] theorem execBar2Memrd_still (p : Die) (off : BitVec 36) (n : Fin 4096) (s : State) : StillAfter s (execBar2Memrd p off n s) := by
  unfold execBar2Memrd
  rw [stillAfter_next]
  dsimp only
  repeat' split
  all_goals simp
@[simp] theorem execBar2Memwr_still (p : Die) (off : BitVec 36) (data : List Byte) (s : State) : StillAfter s (execBar2Memwr p off data s) := by
  unfold execBar2Memwr
  rw [stillAfter_next]
  dsimp only
  repeat' split
  all_goals simp
@[simp] theorem execB_still (t : Tile) (s : State) : StillAfter s (execB t s) :=
  issueOp_still s t _ (fun op k h v => by
    split at h <;> cases h
    exact fun _ => rfl)
@[simp] theorem execCall_still (t : Tile) (s : State) : StillAfter s (execCall t s) :=
  issueOp_still s t _ (fun op k h v => by
    split at h <;> cases h
    exact fun _ => rfl)
@[simp] theorem execBr_still (t : Tile) (s : State) : StillAfter s (execBr t s) :=
  issueOp_still s t _ (fun op k h v => by
    split at h <;> cases h
    exact fun _ => rfl)
@[simp] theorem execRepi_still (t : Tile) (s : State) : StillAfter s (execRepi t s) :=
  issueOp_still s t _ (fun op k h v => by
    split at h <;> cases h
    exact Plan.quiet_ite (Plan.bad_quiet _) (fun _ => rfl))
@[simp] theorem execRep_still (t : Tile) (s : State) : StillAfter s (execRep t s) :=
  issueOp_still s t _ (fun op k h v => by
    split at h <;> cases h
    exact Plan.quiet_ite (Plan.bad_quiet _) (fun _ => rfl))
@[simp] theorem execSig_still (t : Tile) (s : State) : StillAfter s (execSig t s) :=
  issueOp_still s t _ (fun op k h v => by
    split at h <;> cases h
    exact Plan.of_quiet _)
@[simp] theorem execWdt_still (t : Tile) (s : State) : StillAfter s (execWdt t s) :=
  issueOp_still s t _ (fun op k h v => by
    split at h <;> cases h
    exact fun _ => rfl)
@[simp] theorem execStop_still (t : Tile) (s : State) : StillAfter s (execStop t s) :=
  issueOp_still s t _ (fun op k h v => by
    split at h <;> cases h
    exact fun _ => rfl)
@[simp] theorem execNop_still (t : Tile) (s : State) : StillAfter s (execNop t s) :=
  issueOp_still s t _ (fun op k h v => by
    split at h <;> cases h
    exact Plan.of_quiet _)
@[simp] theorem execIllegalInstruction_still (t : Tile) (s : State) : StillAfter s (execIllegalInstruction t s) := by
  unfold execIllegalInstruction
  rw [stillAfter_next]
  dsimp only
  repeat' split
  all_goals simp
@[simp] theorem execQabort_still (t : Tile) (s : State) : StillAfter s (execQabort t s) :=
  issueOp_still s t _ (fun op k h v => by
    split at h <;> cases h
    exact Plan.quiet_ite (Plan.bad_quiet _) (Plan.of_quiet _))
@[simp] theorem execInterruptEntry_still (t : Tile) (k : Nat) (s : State) : StillAfter s (execInterruptEntry t k s) := by
  unfold execInterruptEntry
  rw [stillAfter_next]
  split <;> simp
@[simp] theorem execWaitWake_still (t : Tile) (k : Nat) (s : State) : StillAfter s (execWaitWake t k s) := by
  unfold execWaitWake
  rw [stillAfter_next]
  dsimp only
  repeat' split
  all_goals simp
@[simp] theorem execWatchdogWarn_still (t : Tile) (s : State) : StillAfter s (execWatchdogWarn t s) := by
  simp [execWatchdogWarn]
@[simp] theorem execWatchdogExpiry_still (t : Tile) (s : State) : StillAfter s (execWatchdogExpiry t s) := by
  simp [execWatchdogExpiry]
@[simp] theorem execCellClockEdge_still (t : Tile) (cluster : Fin 768) (net : Fin 8) (rise join : Bool) (ins : List CellIn) (cin : Bool) (ms ce : BitVec 4) (sr : BitVec 2) (s : State) :
    StillAfter s (execCellClockEdge t cluster net rise join ins cin ms ce sr s) := by
  simp [execCellClockEdge]
@[simp] theorem execMultiplierSliceEdge_still (l : List MulIn) (join : Bool) (s : State) : StillAfter s (execMultiplierSliceEdge l join s) := by
  simp [execMultiplierSliceEdge]
@[simp] theorem execXpulsePulse_still (k : Nat) (join : Bool) (s : State) : StillAfter s (execXpulsePulse k join s) := by
  unfold execXpulsePulse
  rw [stillAfter_next]
  split <;> simp
@[simp] theorem execXwordSend_still (k : Nat) (w : Word64) (join : Bool) (s : State) : StillAfter s (execXwordSend k w join s) := by
  unfold execXwordSend
  rw [stillAfter_next]
  split <;> simp
@[simp] theorem execOvrClr_still (k : Nat) (join : Bool) (s : State) : StillAfter s (execOvrClr k join s) := by
  unfold execOvrClr
  rw [stillAfter_next]
  split <;> simp
@[simp] theorem execBlockPortAccess_still (t : Tile) (b : Fin 24) (net : Fin 8) (near : Option (Fin 8)) (join : Bool) (pa pb : PortIn) (s : State) :
    StillAfter s (execBlockPortAccess t b net near join pa pb s) := by
  simp [execBlockPortAccess]
@[simp] theorem execHaltEffect_still (t : Tile) (s : State) : StillAfter s (execHaltEffect t s) := by
  simp [execHaltEffect]
@[simp] theorem execHaltForced_still (t : Tile) (s : State) : StillAfter s (execHaltForced t s) := by
  unfold execHaltForced
  rw [stillAfter_next]
  dsimp only
  repeat' split
  all_goals simp
@[simp] theorem execBreakMatch_still (t : Tile) (s : State) : StillAfter s (execBreakMatch t s) := by
  unfold execBreakMatch
  rw [stillAfter_next]
  split <;> simp
@[simp] theorem execRefereeHaltEffect_still (s : State) : StillAfter s (execRefereeHaltEffect s) := by
  simp [execRefereeHaltEffect]
@[simp] theorem execRefereeHaltForced_still (p : Option Port) (s : State) : StillAfter s (execRefereeHaltForced p s) := by
  simp [execRefereeHaltForced]
@[simp] theorem execPatchBreak_still (u : Fin 32) (s : State) : StillAfter s (execPatchBreak u s) := by
  simp [execPatchBreak]
@[simp] theorem execAuthVerifyDone_still (path : Fin 6) (s : State) : StillAfter s (execAuthVerifyDone path s) := by
  unfold execAuthVerifyDone
  rw [stillAfter_next]
  split <;> simp
@[simp] theorem execNonceExpiry_still (path : Fin 6) (s : State) : StillAfter s (execNonceExpiry path s) := by
  simp [execNonceExpiry]
@[simp] theorem execAuthLockoutEnd_still (path : Fin 6) (s : State) : StillAfter s (execAuthLockoutEnd path s) := by
  simp [execAuthLockoutEnd]
@[simp] theorem execRegionStatus_still (p : Port) (m : Mbox) (s : State) :
    StillAfter s (execRegionStatus p m s) := takeMailbox_still _ cmdRegionStatus_still p m s
@[simp] theorem execRegionFence_still (p : Port) (m : Mbox) (s : State) :
    StillAfter s (execRegionFence p m s) := takeMailbox_still _ cmdRegionFence_still p m s
@[simp] theorem execRegionCapture_still (p : Port) (m : Mbox) (s : State) :
    StillAfter s (execRegionCapture p m s) := takeMailbox_still _ cmdRegionCapture_still p m s
@[simp] theorem execRegionLoad_still (p : Port) (m : Mbox) (s : State) :
    StillAfter s (execRegionLoad p m s) := takeMailbox_still _ cmdRegionLoad_still p m s
@[simp] theorem execRegionBlank_still (p : Port) (m : Mbox) (s : State) :
    StillAfter s (execRegionBlank p m s) := takeMailbox_still _ cmdRegionBlank_still p m s
@[simp] theorem execSlotData_still (p : Port) (m : Mbox) (s : State) :
    StillAfter s (execSlotData p m s) := takeMailbox_still _ cmdSlotData_still p m s
@[simp] theorem execRegionLibWrite_still (p : Port) (m : Mbox) (s : State) :
    StillAfter s (execRegionLibWrite p m s) := takeMailbox_still _ cmdRegionLibWrite_still p m s
@[simp] theorem execLibStatus_still (p : Port) (m : Mbox) (s : State) :
    StillAfter s (execLibStatus p m s) := takeMailbox_still _ cmdLibStatus_still p m s
@[simp] theorem execEccTest_still (p : Port) (m : Mbox) (s : State) : StillAfter s (execEccTest p m s) := takeMailbox_still _ cmdEccTest_still p m s
@[simp] theorem execEccLog_still (p : Port) (m : Mbox) (s : State) : StillAfter s (execEccLog p m s) := takeMailbox_still _ cmdEccLog_still p m s
@[simp] theorem execIstSchedule_still (p : Port) (m : Mbox) (s : State) :
    StillAfter s (execIstSchedule p m s) := takeMailbox_still _ cmdIstSchedule_still p m s
@[simp] theorem execBar2Map_still (p : Port) (m : Mbox) (s : State) : StillAfter s (execBar2Map p m s) := takeMailbox_still _ cmdBar2Map_still p m s
@[simp] theorem execTileScrub_still (late : Bool) (s : State) : StillAfter s (execTileScrub late s) := by
  simp [execTileScrub]
@[simp] theorem execLinkTest_still (late : Bool) (errs : List (Tile × Fin 8 × Bool)) (s : State) : StillAfter s (execLinkTest late errs s) := by
  simp [execLinkTest]
@[simp] theorem execSeamSpareTest_still (late : Bool) (fails : List (Die × Fin 2 × Fin 16 × Fin 64 × Fin 68)) (s : State) :
    StillAfter s (execSeamSpareTest late fails s) := by
  simp [execSeamSpareTest]
@[simp] theorem execHbmPatrol_still (late : Bool) (reps : List (Die × Fin 805306368 × Fin 4)) (s : State) :
    StillAfter s (execHbmPatrol late reps s) := by
  simp [execHbmPatrol]
@[simp] theorem execStoreMarginCheck_still (late : Bool) (blks : List (Die × Fin 786432 × Option (Fin 9))) (s : State) :
    StillAfter s (execStoreMarginCheck late blks s) := by
  simp [execStoreMarginCheck]
@[simp] theorem execRxFrame_still (l : Lane) (bytes : List Byte) (err : Bool) (fecCorr fecBad : Nat) (busy : Bool) (gap : Nat) (drift : Int) (s : State) :
    StillAfter s (execRxFrame l bytes err fecCorr fecBad busy gap drift s) := by
  simp [execRxFrame]
@[simp] theorem execHeartbeatSend_still (l : Lane) (s : State) : StillAfter s (execHeartbeatSend l s) := by
  simp [execHeartbeatSend]
@[simp] theorem execHeartbeat_still (l : Lane) (id : BitVec 64) (domain : BitVec 16) (prio : Byte) (root : BitVec 64) (hops flags : Byte) (s : State) :
    StillAfter s (execHeartbeat l id domain prio root hops flags s) := by
  simp [execHeartbeat]
@[simp] theorem execTimeRequestSend_still (s : State) : StillAfter s (execTimeRequestSend s) := by
  unfold execTimeRequestSend
  rw [stillAfter_next]
  split <;> simp
@[simp] theorem execTimeFrame_still (l : Lane) (f : List Byte) (s : State) : StillAfter s (execTimeFrame l f s) := by
  simp [execTimeFrame]
@[simp] theorem execServoUpdate_still (s : State) : StillAfter s (execServoUpdate s) := by
  unfold execServoUpdate
  rw [stillAfter_next]
  dsimp only
  repeat' split
  all_goals simp
@[simp] theorem execDbgDrop_still (p : Port) (m : Mbox) (s : State) : StillAfter s (execDbgDrop p m s) := takeMailbox_still _ cmdDbgDrop_still p m s
@[simp] theorem execDbgStatus_still (p : Port) (m : Mbox) (s : State) :
    StillAfter s (execDbgStatus p m s) := takeMailbox_still _ cmdDbgStatus_still p m s
@[simp] theorem execDbgHalt_still (p : Port) (m : Mbox) (s : State) : StillAfter s (execDbgHalt p m s) := takeMailbox_still _ cmdDbgHalt_still p m s
@[simp] theorem execDbgResume_still (p : Port) (m : Mbox) (s : State) :
    StillAfter s (execDbgResume p m s) := takeMailbox_still _ cmdDbgResume_still p m s
@[simp] theorem execDbgFeed_still (p : Port) (m : Mbox) (s : State) : StillAfter s (execDbgFeed p m s) := takeMailbox_still _ cmdDbgFeed_still p m s
@[simp] theorem execTapReset_still (s : State) : StillAfter s (execTapReset s) := by
  simp [execTapReset]
@[simp] theorem execIdcode_still (s : State) : StillAfter s (execIdcode s) := by
  simp [execIdcode]
@[simp] theorem execSamplePreload_still (cells : BitVec 2896) (s : State) : StillAfter s (execSamplePreload cells s) := by
  simp [execSamplePreload]
@[simp] theorem execExtest_still (s : State) : StillAfter s (execExtest s) := by
  simp [execExtest]
@[simp] theorem execHighz_still (s : State) : StillAfter s (execHighz s) := by
  simp [execHighz]
@[simp] theorem execClamp_still (s : State) : StillAfter s (execClamp s) := by
  simp [execClamp]
@[simp] theorem execExtestPulse_still (s : State) : StillAfter s (execExtestPulse s) := by
  simp [execExtestPulse]
@[simp] theorem execExtestTrain_still (s : State) : StillAfter s (execExtestTrain s) := by
  simp [execExtestTrain]
@[simp] theorem execBypass_still (s : State) : StillAfter s (execBypass s) := by
  simp [execBypass]
@[simp] theorem execAuthChallenge_still (level : Fin 4) (scope : Bool) (tenant : Tenant) (s : State) :
    StillAfter s (execAuthChallenge level scope tenant s) := by
  unfold execAuthChallenge
  rw [stillAfter_next]
  dsimp only
  repeat' split
  all_goals simp
@[simp] theorem execAuthResponse_still (sig : List Byte) (s : State) : StillAfter s (execAuthResponse sig s) := by
  simp [execAuthResponse]
@[simp] theorem execAuthDrop_still (s : State) : StillAfter s (execAuthDrop s) := by
  simp [execAuthDrop]
@[simp] theorem execAccessRead_still (a : NetAddr) (s : State) : StillAfter s (execAccessRead a s) := by
  simp [execAccessRead]
@[simp] theorem execAccessWrite_still (a : NetAddr) (w : Word32) (s : State) : StillAfter s (execAccessWrite a w s) := by
  simp [execAccessWrite]
@[simp] theorem execAccessEffectfulRead_still (a : NetAddr) (s : State) : StillAfter s (execAccessEffectfulRead a s) := by
  simp [execAccessEffectfulRead]
@[simp] theorem execEventDelivery_still (n : Nat) (s : State) : StillAfter s (execEventDelivery n s) := by
  simp [execEventDelivery]
@[simp] theorem execMpy_still (t : Tile) (s : State) : StillAfter s (execMpy t s) :=
  issueOp_still s t _ (fun op k h v => by
    split at h <;> cases h
    exact fun _ => rfl)
@[simp] theorem execMac_still (t : Tile) (s : State) : StillAfter s (execMac t s) :=
  issueOp_still s t _ (fun op k h v => by
    split at h <;> cases h
    exact fun _ => rfl)
@[simp] theorem execMsu_still (t : Tile) (s : State) : StillAfter s (execMsu t s) :=
  issueOp_still s t _ (fun op k h v => by
    split at h <;> cases h
    exact fun _ => rfl)
@[simp] theorem execMpyr_still (t : Tile) (s : State) : StillAfter s (execMpyr t s) :=
  issueOp_still s t _ (fun op k h v => by
    split at h <;> cases h
    exact fun _ => rfl)
@[simp] theorem execMacr_still (t : Tile) (s : State) : StillAfter s (execMacr t s) :=
  issueOp_still s t _ (fun op k h v => by
    split at h <;> cases h
    exact fun _ => rfl)
@[simp] theorem execMsur_still (t : Tile) (s : State) : StillAfter s (execMsur t s) :=
  issueOp_still s t _ (fun op k h v => by
    split at h <;> cases h
    exact fun _ => rfl)
@[simp] theorem execAdd_still (t : Tile) (s : State) : StillAfter s (execAdd t s) :=
  issueOp_still s t _ (fun op k h v => by
    split at h <;> cases h
    exact Plan.of_quiet _)
@[simp] theorem execSub_still (t : Tile) (s : State) : StillAfter s (execSub t s) :=
  issueOp_still s t _ (fun op k h v => by
    split at h <;> cases h
    exact Plan.of_quiet _)
@[simp] theorem execAddd_still (t : Tile) (s : State) : StillAfter s (execAddd t s) :=
  issueOp_still s t _ (fun op k h v => by
    split at h <;> cases h
    exact Plan.of_quiet _)
@[simp] theorem execSubd_still (t : Tile) (s : State) : StillAfter s (execSubd t s) :=
  issueOp_still s t _ (fun op k h v => by
    split at h <;> cases h
    exact Plan.of_quiet _)
@[simp] theorem execNeg_still (t : Tile) (s : State) : StillAfter s (execNeg t s) :=
  issueOp_still s t _ (fun op k h v => by
    split at h <;> cases h
    exact Plan.of_quiet _)
@[simp] theorem execAbs_still (t : Tile) (s : State) : StillAfter s (execAbs t s) :=
  issueOp_still s t _ (fun op k h v => by
    split at h <;> cases h
    exact Plan.of_quiet _)
@[simp] theorem execClr_still (t : Tile) (s : State) : StillAfter s (execClr t s) :=
  issueOp_still s t _ (fun op k h v => by
    split at h <;> cases h
    exact Plan.of_quiet _)
@[simp] theorem execRnd_still (t : Tile) (s : State) : StillAfter s (execRnd t s) :=
  issueOp_still s t _ (fun op k h v => by
    split at h <;> cases h
    exact Plan.of_quiet _)
@[simp] theorem execShl_still (t : Tile) (s : State) : StillAfter s (execShl t s) :=
  issueOp_still s t _ (fun op k h v => by
    split at h <;> cases h
    exact Plan.of_quiet _)
@[simp] theorem execShr_still (t : Tile) (s : State) : StillAfter s (execShr t s) :=
  issueOp_still s t _ (fun op k h v => by
    split at h <;> cases h
    exact Plan.of_quiet _)
@[simp] theorem execMova_still (t : Tile) (s : State) : StillAfter s (execMova t s) :=
  issueOp_still s t _ (fun op k h v => by
    split at h <;> cases h
    exact Plan.of_quiet _)
@[simp] theorem execExp_still (t : Tile) (s : State) : StillAfter s (execExp t s) :=
  issueOp_still s t _ (fun op k h v => by
    split at h <;> cases h
    exact Plan.of_quiet _)
@[simp] theorem execNorm_still (t : Tile) (s : State) : StillAfter s (execNorm t s) :=
  issueOp_still s t _ (fun op k h v => by
    split at h <;> cases h
    exact Plan.of_quiet _)
@[simp] theorem execDAdd_still (t : Tile) (s : State) : StillAfter s (execDAdd t s) :=
  issueOp_still s t _ (fun op k h v => by
    split at h <;> cases h
    exact Plan.of_quiet _)
@[simp] theorem execDSub_still (t : Tile) (s : State) : StillAfter s (execDSub t s) :=
  issueOp_still s t _ (fun op k h v => by
    split at h <;> cases h
    exact Plan.of_quiet _)
@[simp] theorem execAnd_still (t : Tile) (s : State) : StillAfter s (execAnd t s) :=
  issueOp_still s t _ (fun op k h v => by
    split at h <;> cases h
    exact Plan.of_quiet _)
@[simp] theorem execOr_still (t : Tile) (s : State) : StillAfter s (execOr t s) :=
  issueOp_still s t _ (fun op k h v => by
    split at h <;> cases h
    exact Plan.of_quiet _)
@[simp] theorem execXor_still (t : Tile) (s : State) : StillAfter s (execXor t s) :=
  issueOp_still s t _ (fun op k h v => by
    split at h <;> cases h
    exact Plan.of_quiet _)
@[simp] theorem execDShl_still (t : Tile) (s : State) : StillAfter s (execDShl t s) :=
  issueOp_still s t _ (fun op k h v => by
    split at h <;> cases h
    exact Plan.of_quiet _)
@[simp] theorem execDShr_still (t : Tile) (s : State) : StillAfter s (execDShr t s) :=
  issueOp_still s t _ (fun op k h v => by
    split at h <;> cases h
    exact Plan.of_quiet _)
@[simp] theorem execSra_still (t : Tile) (s : State) : StillAfter s (execSra t s) :=
  issueOp_still s t _ (fun op k h v => by
    split at h <;> cases h
    exact Plan.of_quiet _)
@[simp] theorem execCmp_still (t : Tile) (s : State) : StillAfter s (execCmp t s) :=
  issueOp_still s t _ (fun op k h v => by
    split at h <;> cases h
    exact Plan.of_quiet _)
@[simp] theorem execLd_still (t : Tile) (s : State) : StillAfter s (execLd t s) :=
  issueOp_still s t _ (fun op k h v => by
    split at h <;> cases h
    exact Plan.of_quiet _)
@[simp] theorem execSt_still (t : Tile) (s : State) : StillAfter s (execSt t s) :=
  issueOp_still s t _ (fun op k h v => by
    split at h <;> cases h
    exact Plan.of_quiet _)
@[simp] theorem execLdu_still (t : Tile) (s : State) : StillAfter s (execLdu t s) :=
  issueOp_still s t _ (fun op k h v => by
    split at h <;> cases h
    exact Plan.of_quiet _)
@[simp] theorem execLdb_still (t : Tile) (s : State) : StillAfter s (execLdb t s) :=
  issueOp_still s t _ (fun op k h v => by
    split at h <;> cases h
    exact Plan.of_quiet _)
@[simp] theorem execLde_still (t : Tile) (s : State) : StillAfter s (execLde t s) :=
  issueOp_still s t _ (fun op k h v => by
    split at h <;> cases h
    exact Plan.of_quiet _)
@[simp] theorem execStu_still (t : Tile) (s : State) : StillAfter s (execStu t s) :=
  issueOp_still s t _ (fun op k h v => by
    split at h <;> cases h
    exact Plan.of_quiet _)
@[simp] theorem execStb_still (t : Tile) (s : State) : StillAfter s (execStb t s) :=
  issueOp_still s t _ (fun op k h v => by
    split at h <;> cases h
    exact Plan.of_quiet _)
@[simp] theorem execSte_still (t : Tile) (s : State) : StillAfter s (execSte t s) :=
  issueOp_still s t _ (fun op k h v => by
    split at h <;> cases h
    exact Plan.of_quiet _)
@[simp] theorem execLdk_still (t : Tile) (s : State) : StillAfter s (execLdk t s) :=
  issueOp_still s t _ (fun op k h v => by
    split at h <;> cases h
    exact Plan.quiet_ite (Plan.bad_quiet _) (fun _ => rfl))
@[simp] theorem execMov_still (t : Tile) (s : State) : StillAfter s (execMov t s) :=
  issueOp_still s t _ (fun op k h v => by
    split at h <;> cases h
    exact Plan.of_quiet _)
@[simp] theorem execLdi_still (t : Tile) (s : State) : StillAfter s (execLdi t s) :=
  issueOp_still s t _ (fun op k h v => by
    split at h <;> cases h
    exact Plan.of_quiet _)
@[simp] theorem execBexr_still (t : Tile) (s : State) : StillAfter s (execBexr t s) :=
  issueOp_still s t _ (fun op k h v => by
    split at h <;> cases h
    exact Plan.of_quiet _)
@[simp] theorem execRegRead_still (p : Port) (m : Mbox) (s : State) : StillAfter s (execRegRead p m s) := takeMailbox_still _ cmdRegRead_still p m s
@[simp] theorem execRegWrite_still (p : Port) (m : Mbox) (s : State) :
    StillAfter s (execRegWrite p m s) := takeMailbox_still _ cmdRegWrite_still p m s
@[simp] theorem execRegModify_still (p : Port) (m : Mbox) (s : State) :
    StillAfter s (execRegModify p m s) := takeMailbox_still _ cmdRegModify_still p m s
@[simp] theorem execRegReadN_still (p : Port) (m : Mbox) (s : State) :
    StillAfter s (execRegReadN p m s) := takeMailbox_still _ cmdRegReadN_still p m s
@[simp] theorem execRegWriteList_still (p : Port) (m : Mbox) (s : State) :
    StillAfter s (execRegWriteList p m s) := takeMailbox_still _ cmdRegWriteList_still p m s
@[simp] theorem execFabricPush_still (t : Tile) (n : QNum) (data : Word64) (last poison join : Bool) (s : State) :
    StillAfter s (execFabricPush t n data last poison join s) := by
  simp [execFabricPush]
@[simp] theorem execPabort_still (t : Tile) (n : QNum) (join : Bool) (s : State) : StillAfter s (execPabort t n join s) := by
  simp [execPabort]
@[simp] theorem execFabricPop_still (t : Tile) (n : QNum) (join : Bool) (s : State) : StillAfter s (execFabricPop t n join s) := by
  simp [execFabricPop]
@[simp] theorem execFabricRaise_still (t : Tile) (i : Fin 8) (join : Bool) (s : State) : StillAfter s (execFabricRaise t i join s) := by
  simp [execFabricRaise]
@[simp] theorem execEvclr_still (t : Tile) (k : Fin 4) (join : Bool) (s : State) : StillAfter s (execEvclr t k join s) := by
  simp [execEvclr]
@[simp] theorem execEngirqRise_still (t : Tile) (join : Bool) (s : State) : StillAfter s (execEngirqRise t join s) := by
  simp [execEngirqRise]
@[simp] theorem execFabricYAccess_still (t : Tile) (we : Bool) (a : Fin 16384) (din : Word16) (join : Bool) (s : State) :
    StillAfter s (execFabricYAccess t we a din join s) := by
  simp [execFabricYAccess]
@[simp] theorem execRemoteCacheRequest_still (r : Req) (errs : List LineErr) (s : State) : StillAfter s (execRemoteCacheRequest r errs s) := by
  simp [execRemoteCacheRequest]
@[simp] theorem execInvalidate_still (r : Req) (s : State) : StillAfter s (execInvalidate r s) := by
  simp [execInvalidate]
@[simp] theorem execSharedWindow_still (p : Port) (m : Mbox) (s : State) :
    StillAfter s (execSharedWindow p m s) := takeMailbox_still _ cmdSharedWindow_still p m s
@[simp] theorem execResponseArrival_still (r : Resp) (late : Bool) (s : State) : StillAfter s (execResponseArrival r late s) := by
  simp [execResponseArrival]
@[simp] theorem execNiTimeout_still (src : Fin 1088) (sport : Fin 8) (tag : Fin 128) (gen : Fin 16) (late : Bool) (s : State) :
    StillAfter s (execNiTimeout src sport tag gen late s) := by
  unfold execNiTimeout
  rw [stillAfter_next]
  split <;> simp
@[simp] theorem execRqoRequest_still (t : Tile) (rid : Byte) (op : Fin 5) (a : NetAddr) (size : Fin 256) (rt : Bool) (data : List Byte) (join : Bool) (s : State) :
    StillAfter s (execRqoRequest t rid op a size rt data join s) := by
  simp [execRqoRequest]
@[simp] theorem execProtEnableDone_still (k : Fin 512) (s : State) : StillAfter s (execProtEnableDone k s) := by
  unfold execProtEnableDone
  rw [stillAfter_next]
  dsimp only
  repeat' split
  all_goals simp
@[simp] theorem execProtDisableDone_still (k : Fin 512) (s : State) : StillAfter s (execProtDisableDone k s) := by
  unfold execProtDisableDone
  rw [stillAfter_next]
  dsimp only
  repeat' split
  all_goals simp
@[simp] theorem execProtRebuildDone_still (k : Fin 512) (s : State) : StillAfter s (execProtRebuildDone k s) := by
  unfold execProtRebuildDone
  rw [stillAfter_next]
  dsimp only
  repeat' split
  all_goals simp
@[simp] theorem execProtEnable_still (p : Port) (m : Mbox) (s : State) :
    StillAfter s (execProtEnable p m s) := takeMailbox_still _ cmdProtEnable_still p m s
@[simp] theorem execProtDisable_still (p : Port) (m : Mbox) (s : State) :
    StillAfter s (execProtDisable p m s) := takeMailbox_still _ cmdProtDisable_still p m s
@[simp] theorem execProtRights_still (p : Port) (m : Mbox) (s : State) :
    StillAfter s (execProtRights p m s) := takeMailbox_still _ cmdProtRights_still p m s
@[simp] theorem execProtRebuild_still (p : Port) (m : Mbox) (s : State) :
    StillAfter s (execProtRebuild p m s) := takeMailbox_still _ cmdProtRebuild_still p m s
@[simp] theorem execProtStatus_still (p : Port) (m : Mbox) (s : State) :
    StillAfter s (execProtStatus p m s) := takeMailbox_still _ cmdProtStatus_still p m s
@[simp] theorem execRootScrub_still (st : Die) (errs : List (Fin 16 × Bool × Bool × Fin 128)) (s : State) :
    StillAfter s (execRootScrub st errs s) := by
  simp [execRootScrub]
@[simp] theorem execMaltarStartDone_still (ok : Bool) (s : State) : StillAfter s (execMaltarStartDone ok s) := by
  unfold execMaltarStartDone
  rw [stillAfter_next]
  dsimp only
  repeat' split
  all_goals simp
@[simp] theorem execVccioFault_still (b : Fin 10) (mv : Word16) (low high mismatch : Bool) (s : State) :
    StillAfter s (execVccioFault b mv low high mismatch s) := by
  unfold execVccioFault
  rw [stillAfter_next]
  dsimp only
  repeat' split
  all_goals simp
@[simp] theorem execVccioRestored_still (b : Fin 10) (mv : Word16) (s : State) : StillAfter s (execVccioRestored b mv s) := by
  simp [execVccioRestored]
@[simp] theorem execHuddleLineRise_still (s : State) : StillAfter s (execHuddleLineRise s) := by
  simp [execHuddleLineRise]
@[simp] theorem execHuddleLineFall_still (s : State) : StillAfter s (execHuddleLineFall s) := by
  simp [execHuddleLineFall]
@[simp] theorem execHuddleExit_still (s : State) : StillAfter s (execHuddleExit s) := by
  simp [execHuddleExit]
@[simp] theorem execHuddleTimeout_still (s : State) : StillAfter s (execHuddleTimeout s) := by
  unfold execHuddleTimeout
  rw [stillAfter_next]
  dsimp only
  repeat' split
  all_goals simp
@[simp] theorem execModeSet_still (p : Port) (m : Mbox) (s : State) : StillAfter s (execModeSet p m s) := takeMailbox_still _ cmdModeSet_still p m s
@[simp] theorem execReboot_still (p : Port) (m : Mbox) (s : State) : StillAfter s (execReboot p m s) := takeMailbox_still _ cmdReboot_still p m s
@[simp] theorem execPerstNLow_still (p : Die) (s : State) : StillAfter s (execPerstNLow p s) := by
  simp [execPerstNLow]
@[simp] theorem execPerstNRise_still (p : Die) (s : State) : StillAfter s (execPerstNRise p s) := by
  simp [execPerstNRise]
@[simp] theorem execPciExpressLinkUp_still (p : Die) (speed : Fin 5) (width : Fin 4) (s : State) :
    StillAfter s (execPciExpressLinkUp p speed width s) := by
  simp [execPciExpressLinkUp]
@[simp] theorem execConfigRequest_still (p : Die) (r : CfgReg) (w : Option Word32) (s : State) : StillAfter s (execConfigRequest p r w s) := by
  unfold execConfigRequest
  rw [stillAfter_next]
  dsimp only
  repeat' split
  all_goals simp
@[simp] theorem execRefereeWatchdogExpiry_still (s : State) : StillAfter s (execRefereeWatchdogExpiry s) := by
  simp [execRefereeWatchdogExpiry]
@[simp] theorem execFunctionDisableDone_still (kind : Fin 10) (idx : Fin 4096) (s : State) : StillAfter s (execFunctionDisableDone kind idx s) := by
  unfold execFunctionDisableDone
  rw [stillAfter_next]
  split <;> simp
@[simp] theorem execFuncDisable_still (p : Port) (m : Mbox) (s : State) :
    StillAfter s (execFuncDisable p m s) := takeMailbox_still _ cmdFuncDisable_still p m s
@[simp] theorem execFuncEnable_still (p : Port) (m : Mbox) (s : State) :
    StillAfter s (execFuncEnable p m s) := takeMailbox_still _ cmdFuncEnable_still p m s
@[simp] theorem execMpWrite_still (addr : BitVec 7) (off : Word16) (data : List Byte) (s : State) : StillAfter s (execMpWrite addr off data s) := by
  simp [execMpWrite]
@[simp] theorem execMpRead_still (addr : BitVec 7) (off : Word16) (n : Nat) (s : State) : StillAfter s (execMpRead addr off n s) := by
  simp [execMpRead]
@[simp] theorem execMpSclTimeout_still (s : State) : StillAfter s (execMpSclTimeout s) := by
  simp [execMpSclTimeout]
@[simp] theorem execRegisterWrite_still (q : Req) (s : State) : StillAfter s (execRegisterWrite q s) := by
  simp [execRegisterWrite]
@[simp] theorem execSeamResetGo_still (q : Req) (s : State) : StillAfter s (execSeamResetGo q s) := regRow_still ..
@[simp] theorem execRtrApply_still (q : Req) (s : State) : StillAfter s (execRtrApply q s) := regRow_still ..
@[simp] theorem execRouteCtlWrite_still (q : Req) (s : State) : StillAfter s (execRouteCtlWrite q s) := regRow_still ..
@[simp] theorem execQPushLo_still (q : Req) (s : State) : StillAfter s (execQPushLo q s) := regRow_still ..
@[simp] theorem execQPushHi_still (q : Req) (s : State) : StillAfter s (execQPushHi q s) := regRow_still ..
@[simp] theorem execQPushLastLo_still (q : Req) (s : State) : StillAfter s (execQPushLastLo q s) := regRow_still ..
@[simp] theorem execQPushLastHi_still (q : Req) (s : State) : StillAfter s (execQPushLastHi q s) := regRow_still ..
@[simp] theorem execQPushAbort_still (q : Req) (s : State) : StillAfter s (execQPushAbort q s) := regRow_still ..
@[simp] theorem execQPopLo_still (q : Req) (s : State) : StillAfter s (execQPopLo q s) := regRow_still ..
@[simp] theorem execQFlush_still (q : Req) (s : State) : StillAfter s (execQFlush q s) := regRow_still ..
@[simp] theorem execQCtlEnable_still (q : Req) (s : State) : StillAfter s (execQCtlEnable q s) := regRow_still ..
@[simp] theorem execEvRaise_still (q : Req) (s : State) : StillAfter s (execEvRaise q s) := regRow_still ..
@[simp] theorem execWatchdogReload_still (q : Req) (s : State) : StillAfter s (execWatchdogReload q s) := regRow_still ..
@[simp] theorem execEngStart_still (q : Req) (s : State) : StillAfter s (execEngStart q s) := regRow_still ..
@[simp] theorem execEngStop_still (q : Req) (s : State) : StillAfter s (execEngStop q s) := regRow_still ..
@[simp] theorem execEngDoorbellRing_still (q : Req) (s : State) : StillAfter s (execEngDoorbellRing q s) := regRow_still ..
@[simp] theorem execChannelStart_still (q : Req) (s : State) : StillAfter s (execChannelStart q s) := regRow_still ..
@[simp] theorem execChCtlEnable_still (q : Req) (s : State) : StillAfter s (execChCtlEnable q s) := regRow_still ..
@[simp] theorem execRateGo_still (q : Req) (s : State) : StillAfter s (execRateGo q s) := regRow_still ..
@[simp] theorem execThaw_still (q : Req) (s : State) : StillAfter s (execThaw q s) := regRow_still ..
@[simp] theorem execHbmCtlEnable_still (q : Req) (s : State) : StillAfter s (execHbmCtlEnable q s) := regRow_still ..
@[simp] theorem execEccClear_still (q : Req) (s : State) : StillAfter s (execEccClear q s) := regRow_still ..
@[simp] theorem execQflip_still (q : Req) (s : State) : StillAfter s (execQflip q s) := regRow_still ..
@[simp] theorem execChkArm_still (q : Req) (s : State) : StillAfter s (execChkArm q s) := regRow_still ..
@[simp] theorem execSevInj_still (q : Req) (s : State) : StillAfter s (execSevInj q s) := regRow_still ..
@[simp] theorem execLnRestart_still (q : Req) (s : State) : StillAfter s (execLnRestart q s) := regRow_still ..
@[simp] theorem execLnCtlEnable_still (q : Req) (s : State) : StillAfter s (execLnCtlEnable q s) := regRow_still ..
@[simp] theorem execQuadCtlEnable_still (q : Req) (s : State) : StillAfter s (execQuadCtlEnable q s) := regRow_still ..
@[simp] theorem execPatternTestEnable_still (q : Req) (s : State) : StillAfter s (execPatternTestEnable q s) := regRow_still ..
@[simp] theorem execInject_still (q : Req) (s : State) : StillAfter s (execInject q s) := regRow_still ..
@[simp] theorem execBurst_still (q : Req) (s : State) : StillAfter s (execBurst q s) := regRow_still ..
@[simp] theorem execLnTxstampNs_still (q : Req) (s : State) : StillAfter s (execLnTxstampNs q s) := regRow_still ..
@[simp] theorem execGoSet_still (q : Req) (s : State) : StillAfter s (execGoSet q s) := regRow_still ..
@[simp] theorem execGoAdj_still (q : Req) (s : State) : StillAfter s (execGoAdj q s) := regRow_still ..
@[simp] theorem execGoIncr_still (q : Req) (s : State) : StillAfter s (execGoIncr q s) := regRow_still ..
@[simp] theorem execArm_still (q : Req) (s : State) : StillAfter s (execArm q s) := regRow_still ..
@[simp] theorem execSnap_still (q : Req) (s : State) : StillAfter s (execSnap q s) := regRow_still ..
@[simp] theorem execTkCtlEnable_still (q : Req) (s : State) : StillAfter s (execTkCtlEnable q s) := regRow_still ..
@[simp] theorem execCarSel_still (q : Req) (s : State) : StillAfter s (execCarSel q s) := regRow_still ..
@[simp] theorem execGcSrc_still (q : Req) (s : State) : StillAfter s (execGcSrc q s) := regRow_still ..
@[simp] theorem execGcEnable_still (q : Req) (s : State) : StillAfter s (execGcEnable q s) := regRow_still ..
@[simp] theorem execSyEnable_still (q : Req) (s : State) : StillAfter s (execSyEnable q s) := regRow_still ..
@[simp] theorem execLeafGate_still (q : Req) (s : State) : StillAfter s (execLeafGate q s) := regRow_still ..
@[simp] theorem execFcStart_still (q : Req) (s : State) : StillAfter s (execFcStart q s) := regRow_still ..
@[simp] theorem execDbgEngHalt_still (path : Fin 6) (irqInStep : Bool) (s : State) :
    StillAfter s (execDbgEngHalt path irqInStep s) := dbgWrite_still ..
@[simp] theorem execDbgEngResume_still (path : Fin 6) (irqInStep : Bool) (s : State) :
    StillAfter s (execDbgEngResume path irqInStep s) := dbgWrite_still ..
@[simp] theorem execDbgEngStep_still (path : Fin 6) (irqInStep : Bool) (s : State) :
    StillAfter s (execDbgEngStep path irqInStep s) := dbgWrite_still ..
@[simp] theorem execDbgEngInject_still (path : Fin 6) (w : Word32) (s : State) : StillAfter s (execDbgEngInject path w s) := dbgWrite_still ..
@[simp] theorem execRefHalt_still (s : State) : StillAfter s (execRefHalt s) := dbgWrite_still ..
@[simp] theorem execRefResume_still (s : State) : StillAfter s (execRefResume s) := dbgWrite_still ..
@[simp] theorem execRefStep_still (s : State) : StillAfter s (execRefStep s) := dbgWrite_still ..
@[simp] theorem execRefInject_still (w : Word32) (s : State) : StillAfter s (execRefInject w s) := dbgWrite_still ..
@[simp] theorem execRelayView_still (p : Port) (m : Mbox) (s : State) :
    StillAfter s (execRelayView p m s) := takeMailbox_still _ cmdRelayView_still p m s
@[simp] theorem execRelayRoutes_still (p : Port) (m : Mbox) (s : State) :
    StillAfter s (execRelayRoutes p m s) := takeMailbox_still _ cmdRelayRoutes_still p m s
@[simp] theorem execRouteExchange_still (s : State) : StillAfter s (execRouteExchange s) := by
  simp [execRouteExchange]
@[simp] theorem execRelayTimeout_still (rtag : Word16) (s : State) : StillAfter s (execRelayTimeout rtag s) := by
  unfold execRelayTimeout
  rw [stillAfter_next]
  split <;> simp
@[simp] theorem execFabricWindowRequest_still (r : Req) (s : State) : StillAfter s (execFabricWindowRequest r s) := by
  unfold execFabricWindowRequest
  rw [stillAfter_next]
  dsimp only
  repeat' split
  all_goals simp
@[simp] theorem execTsoResponse_still (t : Tile) (tid : Fin 32) (svc : Fin 11) (data : List Byte) (join : Bool) (s : State) :
    StillAfter s (execTsoResponse t tid svc data join s) := by
  simp [execTsoResponse]

end Sys2Proof.Machine

/-! SUPPORT. The commands that leave the waiting commands and the contents of the stacks as they are, continued: those that wait for a response, split on
what they find, or act at the issue of an engine's instruction. -/

namespace Sys2Proof.Machine

/-- What a response leaves at the source that it names. -/
theorem State.arrived_still (s : State) (r : Resp) {f : State → Outst → Resp → State} (h : ∀ u o r, (f u o r).still = u.still) :
    State.still (match s.arrive r with
      | (s, some (o, r)) => f s o r
      | (s, none) => s) = s.still := by
  have harrive := s.arrive_still r
  split <;> next heq => simpa [h] using still_of_eq harrive heq

@[simp] theorem execDmaBurstIssue_still (e : DmaEng) (s : State) : StillAfter s (execDmaBurstIssue e s) := by
  unfold execDmaBurstIssue
  rw [stillAfter_next]
  dsimp only
  repeat' split
  all_goals simp [State.dmaPump_still]

@[simp] theorem execDmaResponse_still (r : Resp) (s : State) : StillAfter s (execDmaResponse r s) := by
  unfold execDmaResponse
  rw [stillAfter_next]
  split
  · exact s.arrived_still r (fun u o r => by split <;> simp)
  · rfl

@[simp] theorem execDmaReissue_still (k : Fin 512) (expired : Bool) (s : State) : StillAfter s (execDmaReissue k expired s) := by
  unfold execDmaReissue
  rw [stillAfter_next]
  split
  · rfl
  · next r rest _ =>
    have hsend := s.dmaSend_still k r
    split
    · simp
    · split
      · rfl
      · next heq => simpa using still_of_eq hsend heq

@[simp] theorem execMemoryPortRequest_still (r : Req) (s : State) : StillAfter s (execMemoryPortRequest r s) := by
  unfold execMemoryPortRequest
  rw [stillAfter_next]
  dsimp only
  split
  · rfl
  · split
    · simp
    · split
      · simp
      · simp [↓State.setHreqs_still, ↓State.still_mk_hbm]

@[simp] theorem execInvalidateResponse_still (r : Resp) (late : Bool) (s : State) : StillAfter s (execInvalidateResponse r late s) := by
  unfold execInvalidateResponse
  rw [stillAfter_next]
  split
  · exact s.arrived_still r (fun u o r => by split <;> simp)
  · rfl

@[simp] theorem execBar2Response_still (r : Resp) (s : State) : StillAfter s (execBar2Response r s) := by
  unfold execBar2Response
  rw [stillAfter_next]
  split
  · exact s.arrived_still r (fun u o r => by split <;> simp)
  · rfl

@[simp] theorem execMacResponse_still (r : Resp) (s : State) : StillAfter s (execMacResponse r s) := by
  unfold execMacResponse
  rw [stillAfter_next]
  split
  · exact s.arrived_still r (fun u o r => by split <;> simp)
  · rfl

@[simp] theorem execCacheFillResponse_still (r : Resp) (s : State) : StillAfter s (execCacheFillResponse r s) := by
  unfold execCacheFillResponse
  rw [stillAfter_next]
  split
  · exact s.arrived_still r (fun u o r => by split <;> simp)
  · rfl

@[simp] theorem execFlit_still (d : Die) (p : Fin 2) (i : Fin 129) (lanes : List (BitVec 24)) (s : State) :
    StillAfter s (execFlit d p i lanes s) := by
  simp [execFlit, State.unitIn_still]

@[simp] theorem execEvent_still (d : Die) (p : Fin 2) (lanes : List (BitVec 24)) (s : State) : StillAfter s (execEvent d p lanes s) := by
  simp [execEvent, State.unitIn_still]

@[simp] theorem execMgmt_still (d : Die) (p : Fin 2) (lanes : List (BitVec 24)) (s : State) : StillAfter s (execMgmt d p lanes s) := by
  simp [execMgmt, State.unitIn_still, State.ctrlIn_still]

@[simp] theorem execConfig_still (d : Die) (p : Fin 2) (lanes : List (BitVec 24)) (s : State) : StillAfter s (execConfig d p lanes s) := by
  simp [execConfig, State.unitIn_still, State.ctrlIn_still]

@[simp] theorem execBar2Reissue_still (p : Die) (expired : Bool) (s : State) : StillAfter s (execBar2Reissue p expired s) := by
  unfold execBar2Reissue
  rw [stillAfter_next]
  split
  · rfl
  · split
    · rfl
    · next t _ _ x rest _ =>
      have hsend := s.bar2Send_still p t x
      dsimp only
      split
      · simp
      · split
        · rfl
        · next heq => simpa using still_of_eq hsend heq
        · next heq => simpa using still_of_eq hsend heq

@[simp] theorem execReti_still (t : Tile) (s : State) : StillAfter s (execReti t s) :=
  issueOp_still s t _ (fun op k h v => by
    split at h <;> cases h
    exact Plan.quiet_ite (fun u => by simp) (Plan.bad_quiet _))

@[simp] theorem execWait_still (t : Tile) (s : State) : StillAfter s (execWait t s) :=
  issueOp_still s t _ (fun op k h v => by
    split at h <;> cases h
    exact Plan.act_quiet (fun u => by simp))

@[simp] theorem execPush_still (t : Tile) (s : State) : StillAfter s (execPush t s) :=
  issueOp_still s t _ (fun op k h v => by
    split at h <;> cases h
    exact planPush_quiet _ _ _ _)

@[simp] theorem execPushl_still (t : Tile) (s : State) : StillAfter s (execPushl t s) :=
  issueOp_still s t _ (fun op k h v => by
    split at h <;> cases h
    exact planPush_quiet _ _ _ _)

@[simp] theorem execPop_still (t : Tile) (s : State) : StillAfter s (execPop t s) :=
  issueOp_still s t _ (fun op k h v => by
    split at h <;> cases h
    exact Plan.quiet_ite (Plan.bad_quiet _) (fun u => by simp))

@[simp] theorem execNget_still (t : Tile) (s : State) : StillAfter s (execNget t s) :=
  issueOp_still s t _ (fun op k h v => by
    split at h <;> cases h
    exact Plan.quiet_ite Plan.wait_quiet (Plan.act_quiet (fun u => by simp)))

@[simp] theorem execNput_still (t : Tile) (s : State) : StillAfter s (execNput t s) :=
  issueOp_still s t _ (fun op k h v => by
    split at h <;> cases h
    exact Plan.quiet_ite Plan.wait_quiet (Plan.act_quiet (fun u => by simp)))

@[simp] theorem execNfadd_still (t : Tile) (s : State) : StillAfter s (execNfadd t s) :=
  issueOp_still s t _ (fun op k h v => by
    split at h <;> cases h
    exact planAtomic_quiet _ _ _ _ _)

@[simp] theorem execNswap_still (t : Tile) (s : State) : StillAfter s (execNswap t s) :=
  issueOp_still s t _ (fun op k h v => by
    split at h <;> cases h
    exact planAtomic_quiet _ _ _ _ _)

@[simp] theorem execNcas_still (t : Tile) (s : State) : StillAfter s (execNcas t s) :=
  issueOp_still s t _ (fun op k h v => by
    split at h <;> cases h
    exact planAtomic_quiet _ _ _ _ _)

@[simp] theorem execStk_still (t : Tile) (s : State) : StillAfter s (execStk t s) :=
  issueOp_still s t _ (fun op k h v => by
    split at h <;> cases h
    exact Plan.quiet_ite (fun u => by simp) (Plan.quiet_ite (fun u => by simp) (Plan.bad_quiet _)))

@[simp] theorem execEngineMemoryRequest_still (r : Req) (s : State) : StillAfter s (execEngineMemoryRequest r s) := by
  unfold execEngineMemoryRequest
  rw [stillAfter_next]
  split
  · next t o _ =>
    simp [s.serve_still r t (f := fun s => some (s.engMemServe r.rq t o r.op r.size r.data)) (fun u x hx => by cases hx; simp)]
  · rfl

@[simp] theorem execBlockWindowRequest_still (r : Req) (near : Option (Bool × PortIn)) (s : State) :
    StillAfter s (execBlockWindowRequest r near s) := by
  unfold execBlockWindowRequest
  rw [stillAfter_next]
  split
  · split
    · exact s.serve_still r _ (fun u x hx => by cases hx; simp)
    · rfl
  · rfl

@[simp] theorem execAsyncSetReset_still (t : Tile) (cluster : Fin 768) (line : Fin 2) (s : State) :
    StillAfter s (execAsyncSetReset t cluster line s) := by
  unfold execAsyncSetReset
  rw [stillAfter_next]
  split
  · rfl
  · refine iter_still 32 _ { s with free := s.free + 1 } (fun n u => ?_)
    dsimp only
    split
    · split <;> simp
    · rfl

@[simp] theorem execDrainEnd_still (r : RegionId) (s : State) : StillAfter s (execDrainEnd r s) := by
  unfold execDrainEnd
  rw [stillAfter_next]
  split
  · rfl
  · refine (State.forTiles_still _ _ (fun t u => by simp)).trans (by simp)

@[simp] theorem execFenceComplete_still (r : RegionId) (s : State) : StillAfter s (execFenceComplete r s) := by
  have hforce : (s.forTiles r (fun t s => s.fenceForce t)).still = s.still := s.forTiles_still r (fun t u => by simp)
  unfold execFenceComplete
  rw [stillAfter_next]
  dsimp only
  repeat' split
  all_goals simp [hforce]

@[simp] theorem execRegionLoadDone_still (r : RegionId) (cfg : ImageCfg) (gap : Option Word32) (s : State) :
    StillAfter s (execRegionLoadDone r cfg gap s) := by
  unfold execRegionLoadDone
  rw [stillAfter_next]
  dsimp only
  split
  · exact s.stepDone_still _ _ _ (fun u => rfl)
  · split
    · rfl
    · split
      · simp
      · split <;> simp

@[simp] theorem execBlankingDone_still (r : RegionId) (rb : Option Word32) (s : State) : StillAfter s (execBlankingDone r rb s) := by
  simp [execBlankingDone, State.stepDone_still]

@[simp] theorem execSlotActivate_still (p : Port) (m : Mbox) (n : Fin 10) (s : State) : StillAfter s (execSlotActivate p m n s) :=
  takeMailbox_still _ (cmdSlotActivate_still n) p m s

@[simp] theorem execTxPacket_still (l : Lane) (busy : Bool) (s : State) : StillAfter s (execTxPacket l busy s) := by
  unfold execTxPacket
  rw [stillAfter_next]
  dsimp only
  split
  · simp
  · split
    · simp
    · split
      · rfl
      · split
        · simp
        · split
          · next heq =>
            split at heq
            · simpa using s.slNext_still _ _ heq
            · cases heq
          · simp

@[simp] theorem execHeartbeatMiss_still (l : Lane) (s : State) : StillAfter s (execHeartbeatMiss l s) := by
  unfold execHeartbeatMiss
  rw [stillAfter_next]
  dsimp only
  split
  · split
    · simp
    · split
      · rw [State.takePlace_still, State.viewUpdate_still, State.still_mk, State.setLnF_still, State.lnCount_still]
      · rw [State.viewUpdate_still, State.still_mk, State.setLnF_still, State.lnCount_still]
  · rfl

@[simp] theorem execDbgChallenge_still (p : Port) (m : Mbox) (s : State) : StillAfter s (execDbgChallenge p m s) := by
  simp [execDbgChallenge, takeMailbox_still]

@[simp] theorem execDbgResponse_still (p : Port) (m : Mbox) (s : State) : StillAfter s (execDbgResponse p m s) := by
  simp [execDbgResponse, takeMailbox_still]

@[simp] theorem execDbgPeek_still (p : Port) (m : Mbox) (s : State) : StillAfter s (execDbgPeek p m s) := by
  simp [execDbgPeek, takeMailbox_still]

@[simp] theorem execDbgPoke_still (p : Port) (m : Mbox) (s : State) : StillAfter s (execDbgPoke p m s) := by
  simp [execDbgPoke, takeMailbox_still]

@[simp] theorem execRelayReply_still (l : Lane) (b : List Byte) (s : State) : StillAfter s (execRelayReply l b s) :=
  s.relayFrame_still l 1 b (fun u => by simp)

@[simp] theorem execRelayRoute_still (l : Lane) (b : List Byte) (s : State) : StillAfter s (execRelayRoute l b s) :=
  s.relayFrame_still l 2 b (fun u => by simp)

end Sys2Proof.Machine

/-! SUPPORT. What writes the stacks: the accesses of a controller, buffers, images, captures and a device reset. Contents in canonical form stay so, and
the waiting commands stay (R307, R308, R473). -/

namespace Sys2Proof.Machine

/-! #### What writes the stacks -/

/-- The waiting commands are the same, and canonical contents stay canonical. -/
def Steady (a b : List Instr × Tbl Byte × Tbl Nat) : Prop :=
  b.1 = a.1 ∧ (Memory.wf a.2.1 = true ∧ Tbl.wf (fun _ => 0) a.2.2 = true → Memory.wf b.2.1 = true ∧ Tbl.wf (fun _ => 0) b.2.2 = true)

@[simp] theorem Steady.refl (a : List Instr × Tbl Byte × Tbl Nat) : Steady a a := ⟨rfl, id⟩

theorem Steady.trans {a b c : List Instr × Tbl Byte × Tbl Nat} (hab : Steady a b) (hbc : Steady b c) : Steady a c :=
  ⟨hbc.1.trans hab.1, hbc.2 ∘ hab.2⟩

theorem Steady.of_still {s t u : State} (h : Steady s.still t.still) (hu : u.still = t.still) : Steady s.still u.still := hu ▸ h

/-- The state that a result holds, where the result is taken apart. -/
theorem steady_of_eq {α : Type} {x : State × α} {s u : State} {a : α} (hx : Steady s.still x.1.still) (h : x = (u, a)) : Steady s.still u.still := by
  rw [h] at hx
  exact hx

theorem steady_foldl {ι : Type} {f : State → ι → State} (h : ∀ u i, Steady u.still (f u i).still) (l : List ι) (s : State) :
    Steady s.still (l.foldl f s).still := by
  induction l generalizing s with
  | nil => exact .refl _
  | cons i l ih => exact (h s i).trans (ih (f s i))

theorem steady_foldl_fst {ι α : Type} {f : State × α → ι → State × α} (h : ∀ q i, Steady q.1.still (f q i).1.still) (l : List ι)
    (q : State × α) :
    Steady q.1.still (l.foldl f q).1.still := by
  induction l generalizing q with
  | nil => exact .refl _
  | cons i l ih => exact (h q i).trans (ih (f q i))

theorem steady_iter {f : Nat → State → State} (h : ∀ i u, Steady u.still (f i u).still) (n : Nat) (s : State) : Steady s.still (iter n f s).still :=
  steady_foldl (fun u i => h i u) (List.range n) s

/-! The controllers. -/

theorem State.adopt_steady (s : State) (st a : Nat) : Steady s.still (s.adopt st a).still := by
  refine ⟨?_, fun ⟨hmem, hmixed⟩ => ⟨s.adopt_wf_mem st a hmem, s.adopt_wf_mixed st a hmixed⟩⟩
  obtain ⟨-, h⟩ | h := s.adopt_cases st a <;> rw [h]
  rfl

theorem State.adoptRange_steady (s : State) (st l n : Nat) : Steady s.still (s.adoptRange st l n).still :=
  steady_iter (fun i u => u.adopt_steady st (l / 32 + i)) _ s

theorem State.hwrite_steady (s : State) (st l : Nat) (data : List Byte) : Steady s.still (s.hwrite st l data).still := by
  have hadopt := s.adoptRange_steady st l data.length
  refine ⟨?_, fun h => ⟨State.hwrite_wf_mem h.1 st l data, ?_⟩⟩
  · rw [State.hwrite_frame]
    exact hadopt.1
  · exact (congrArg (Tbl.wf fun _ => 0) (s.hwrite_mixed st l data)).trans (hadopt.2 h).2

theorem State.hperform_steady (s : State) (st l n : Nat) (op : NOp) (data : List Byte) : Steady s.still (s.hperform st l n op data).1.still := by
  cases op
  case read => exact .refl _
  case invalidate => exact .refl _
  all_goals exact s.hwrite_steady st l _

theorem Tbl.sortedFrom_none {α : Type} [DecidableEq α] (d : Nat → α) (k : Nat) {t : Tbl α} (h : Tbl.sortedFrom d (some k) t = true) :
    Tbl.sortedFrom d none t = true := by
  cases t with
  | nil => rfl
  | cons e t =>
    rw [Tbl.sortedFrom_cons] at h ⊢
    exact ⟨nofun, h.2⟩

/-- Entries taken out of a table in canonical form leave one. -/
theorem Tbl.sortedFrom_filter {α : Type} [DecidableEq α] (d : Nat → α) (p : Nat × α → Bool) (lo : Option Nat) (t : Tbl α)
    (h : Tbl.sortedFrom d lo t = true) : Tbl.sortedFrom d lo (t.filter p) = true := by
  induction t generalizing lo with
  | nil => rfl
  | cons e t ih =>
    obtain ⟨k, v⟩ := e
    rw [Tbl.sortedFrom_cons] at h
    obtain ⟨hlo, hv, ht⟩ := h
    rw [List.filter_cons]
    split
    · exact (Tbl.sortedFrom_cons d lo k v _).2 ⟨hlo, hv, ih _ ht⟩
    · cases lo with
      | none => exact ih none (Tbl.sortedFrom_none d k ht)
      | some l => exact ih _ (Tbl.sortedFrom_mono d (hlo l rfl).le t ht)

theorem State.zeroStack_steady (s : State) (st : Nat) : Steady s.still (s.zeroStack st).still :=
  ⟨rfl, fun h => ⟨Tbl.sortedFrom_filter _ _ none _ h.1, Tbl.sortedFrom_filter _ _ none _ h.2⟩⟩

/-- A device reset empties the stacks' contents, and keeps the waiting commands. -/
theorem State.deviceReset_still (s : State) (cause : Nat) : (s.deviceReset cause).still = (s.pending, [], []) := by
  unfold State.deviceReset
  extract_lets tap _ _ _ _ _ base _ paths _ ports rails banks
  calc (banks.setF F.rstCause_cause 0 0 cause).still
    _ = banks.still := banks.setF_still _ _ _ _
    _ = rails.still := iter_still 10 _ rails (fun _ u => u.setReg_still _ _ _ _)
    _ = ports.still := iter_still 8 _ ports (fun _ u => u.setReg_still _ _ _ _)
    _ = paths.still := iter_still 4 _ paths (fun _ u => u.setPort_still _ _)
    _ = base.still := by
      simp only [paths]
      split <;> rfl
    _ = (s.pending, [], []) := rfl

theorem State.deviceReset_steady (s : State) (cause : Nat) : Steady s.still (s.deviceReset cause).still := by
  rw [State.deviceReset_still]
  exact ⟨rfl, fun _ => ⟨rfl, rfl⟩⟩

theorem State.protPerform_steady (s : State) (st i l n : Nat) (op : NOp) (data : List Byte) (p : ProtIn) :
    Steady s.still (s.protPerform st i l n op data p).1.still := by
  have hready := s.protReady_still st i l n p
  unfold State.protPerform
  split
  · next heq => exact (Steady.refl _).of_still (still_of_eq hready heq)
  · next u heq =>
    have hu := still_of_eq hready heq
    dsimp only
    generalize hacc : List.foldl _ (u, ([] : List LineRes)) (linePieces l n) = acc
    have hall : Steady u.still acc.1.still := by
      rw [← hacc]
      refine steady_foldl_fst (fun q x => ?_) _ (u, _)
      dsimp only
      generalize hline : q.1.protLine _ _ _ _ _ _ = y
      have hy : y.1.still = q.1.still := hline ▸ State.protLine_still ..
      rw [← hy]
      split
      · cases op
        case read => exact .refl _
        case invalidate => exact .refl _
        all_goals exact y.1.hwrite_steady st _ _
      · exact .refl _
    rw [← hu]
    split
    · simpa using hall
    · split <;> simpa using hall

theorem State.hcomplete_steady (s : State) (st : Nat) (h : HReq) (late : Bool) (p : ProtIn) : Steady s.still (s.hcomplete st h late p).still := by
  have hperform := s.hperform_steady st h.loc h.req.size h.req.op h.req.data
  unfold State.hcomplete
  split
  · next i _ =>
    have hprot := s.protPerform_steady st i h.loc h.req.size h.req.op h.req.data p
    split
    · simp
    · split
      · simpa using hperform
      · split <;> next heq => simpa using steady_of_eq hprot heq
  · dsimp only
    split
    · have hinval := (s.hperform st h.loc h.req.size h.req.op h.req.data).1.sendInvals_still st h
      split <;> next heq => simpa [still_of_eq hinval heq] using hperform
    · simpa using hperform

theorem State.accessEnd_steady (s : State) (st : Nat) (h : HReq) (sev acc : Nat) (late : Bool) (p : ProtIn) :
    Steady s.still (s.accessEnd st h sev acc late p).still := by
  have hsev := s.severity_still st (s.readAccs st h.req.op h.loc h.req.size) sev acc
  unfold State.accessEnd
  dsimp only
  split
  · simp [hsev]
  · exact Steady.trans (by simp [hsev]) (State.hcomplete_steady ..)

theorem State.settle_steady (s : State) (st l n : Nat) : Steady s.still (s.settle st l n).still := by
  refine Steady.trans (b := (s.changeDone st).still) (by simp) (steady_foldl (fun u h => ?_) _ _)
  split
  · exact .refl _
  · exact u.accessEnd_steady st h 0 0 false ProtIn.clean

theorem State.hbmDirect_steady (s : State) (q : Rq) (a n : Nat) (op : NOp) (data : List Byte) : Steady s.still (s.hbmDirect q a n op data).1.still := by
  have hsettle := s.settle_steady (s.hbmLocal a).1 (s.hbmLocal a).2 n
  unfold State.hbmDirect
  dsimp only
  split
  · simp
  · split
    · simpa using hsettle
    · split
      · simpa using hsettle
      · generalize hseen : (if (State.severity _ _ _ _ _).2.1 = 0 then _ else _ : State) = u
        have hu : Steady s.still u.still := by
          rw [← hseen]
          simpa using hsettle
        split
        · split
          · exact hu.trans (State.hperform_steady ..)
          · generalize hperf : State.protPerform _ _ _ _ _ _ _ _ = y
            have hy : Steady s.still y.1.still := hperf ▸ Steady.trans (by simpa using hu) (State.protPerform_steady ..)
            split <;> simpa using hy
        · rw [State.dropShared_still]
          exact hu.trans (State.hperform_steady ..)

theorem State.writeRange_steady (f : Nat) (s : State) (q : Rq) (a : Nat) (d : List Byte) : Steady s.still (State.writeRange f s q a d).1.still := by
  induction f generalizing s a d with
  | zero => exact .refl _
  | succ f ih =>
    unfold State.writeRange
    split
    · exact .refl _
    · have hdirect := s.hbmDirect_steady q a (min d.length (256 - a % 256)) .write (d.take (min d.length (256 - a % 256)))
      dsimp only
      split
      · next heq => exact (steady_of_eq hdirect heq).trans (ih ..)
      · next heq => exact steady_of_eq hdirect heq

theorem State.readRange_steady (f : Nat) (s : State) (q : Rq) (a n : Nat) : Steady s.still (State.readRange f s q a n).1.still := by
  induction f generalizing s a n with
  | zero => exact .refl _
  | succ f ih =>
    unfold State.readRange
    split
    · exact .refl _
    · have hdirect := s.hbmDirect_steady q a (min n (256 - a % 256)) .read []
      dsimp only
      split
      · next heq => exact (steady_of_eq hdirect heq).trans (ih ..)
      · next heq => exact steady_of_eq hdirect heq

theorem State.bufWrite_steady (s : State) (t a : Nat) (d : List Byte) : Steady s.still (s.bufWrite t a d).1.still := by
  have hrange := State.writeRange_steady (d.length / 256 + 3) s ⟨t, 4, false, 0⟩ a d
  unfold State.bufWrite
  split
  · exact .refl _
  · split <;> next heq => exact steady_of_eq hrange heq

theorem State.bufRead_steady (s : State) (t a n : Nat) : Steady s.still (s.bufRead t a n).1.still := by
  have hrange := State.readRange_steady (n / 256 + 3) s ⟨t, 4, false, 0⟩ a n
  unfold State.bufRead
  split
  · exact .refl _
  · split <;> next heq => exact steady_of_eq hrange heq

/-! Records of an image, captures and restores. -/

theorem State.imgRead_steady (s : State) (c : LoadCtl) (o n : Nat) : Steady s.still (s.imgRead c o n).1.still := by
  unfold State.imgRead
  split
  · exact .refl _
  · split
    · exact .refl _
    · exact s.bufRead_steady _ _ n

theorem State.nextRec_steady (s : State) (c : LoadCtl) (d : Nat) : Steady s.still (s.nextRec c d).1.still := by
  have hhead := s.imgRead_steady c (c.off + c.pos) 8
  unfold State.nextRec
  split
  · exact .refl _
  · split
    · next u h heq =>
      have hu := steady_of_eq hhead heq
      have hbody := u.imgRead_steady c (c.off + c.pos + 8) (bodyLen h)
      split
      · exact hu
      · split <;> next heq' => exact hu.trans (steady_of_eq hbody heq')
    · next heq => exact steady_of_eq hhead heq

theorem State.takeRec_steady (s : State) (r : Option Nat) (d type : Nat) (errs : List Bool) {f : State → Rec → State}
    (h : ∀ u x, (f u x).still = u.still) : Steady s.still (s.takeRec r d type errs f).still := by
  unfold State.takeRec
  dsimp only
  generalize (if (s.ctl r d).hbm.isNone then errs else []) = es
  have hrec : Steady s.still ((s.storeErrs d es).nextRec (s.ctl r d) d).1.still := Steady.trans (by simp) (State.nextRec_steady ..)
  split
  · exact .refl _
  · split
    · simp
    · split
      · next heq => simpa using steady_of_eq hrec heq
      · next heq => simpa [h, apply_ite] using steady_of_eq hrec heq

theorem State.dropSwaps_steady (s : State) : Steady s.still s.dropSwaps.still := by
  unfold State.dropSwaps
  split
  · exact .refl _
  · exact Steady.trans (b := State.still { s with ld.swapRecs := [] }) (by simp) (steady_foldl (fun u x => u.bufWrite_steady _ _ _) _ _)

/-- The recursion on the number of records. Lean makes no equation for it: to check one it would run the read of a record. -/
theorem State.restoreRecs_steady (s : State) (r t a n : Nat) : Steady s.still (State.restoreRecs s r t a n).1.still := by
  delta State.restoreRecs Nat.brecOn Nat.brecOn.go State.restoreRecs._f
  induction n generalizing s a with
  | zero => exact .refl _
  | succ n ih =>
    have hread := s.bufRead_steady t a 520
    dsimp only at ih ⊢
    split
    · next u x heq =>
      have hu := steady_of_eq hread heq
      have hrec := u.restoreRec_still r x
      split
      · next heq' => exact hu.of_still (still_of_eq hrec heq')
      · next heq' => exact (hu.of_still (still_of_eq hrec heq')).trans (ih ..)
    · next heq => exact steady_of_eq hread heq

theorem State.restoreDies_steady (s : State) (r : Nat) : Steady s.still (s.restoreDies r).1.still := by
  have hread := s.bufRead_steady (s.regionTenant r) ((s.region r).buffer.getD 0) 64
  unfold State.restoreDies
  dsimp only
  split
  · next u h heq =>
    have hu := steady_of_eq hread heq
    have hrecs := u.restoreRecs_steady r (s.regionTenant r) ((s.region r).buffer.getD 0 + 64) (leAt h 8 4)
    split
    · exact hu
    · split <;> next heq' => exact hu.trans (steady_of_eq hrecs heq')
  · next heq => exact steady_of_eq hread heq

theorem State.writeRecs_steady (s : State) (t a : Nat) (l : List (List Byte)) : Steady s.still (State.writeRecs s t a l).1.still := by
  induction l generalizing s a with
  | nil => exact .refl _
  | cons x l ih =>
    have hwrite := s.bufWrite_steady t a x
    unfold State.writeRecs
    split
    · next heq => exact (steady_of_eq hwrite heq).trans (ih ..)
    · next heq => exact steady_of_eq hwrite heq

theorem State.captureDies_steady (s : State) (r : Nat) : Steady s.still (s.captureDies r).1.still := by
  have hrecs := s.writeRecs_steady (s.regionTenant r) ((s.region r).buffer.getD 0 + 64) (s.captureRecs r (s.region r).classes)
  unfold State.captureDies
  dsimp only
  split
  · next heq => exact (steady_of_eq hrecs heq).trans (State.bufWrite_steady ..)
  · next heq => exact steady_of_eq hrecs heq

theorem State.regionHeader_steady (s : State) (r : Nat) : Steady s.still (s.regionHeader r).1.still := State.imgRead_steady ..

theorem State.regionInterrupt_steady (s : State) (r : Nat) : Steady s.still (s.regionInterrupt r).still := by
  unfold State.regionInterrupt
  dsimp only
  split
  · simpa using s.bufWrite_steady _ _ _
  · simp

theorem State.regionReset_steady (s : State) (r : Nat) : Steady s.still (s.regionReset r).still := by
  unfold State.regionReset
  split
  · simp
  · split
    · exact .refl _
    · exact s.regionInterrupt_steady r

theorem State.restartRegion_steady (s : State) (r : Nat) : Steady s.still (s.restartRegion r).still := by
  unfold State.restartRegion
  dsimp only
  split
  · simp
  · split
    · simpa using s.regionInterrupt_steady r
    · simp

theorem State.stepDone_steady (s : State) (r kind st : Nat) {f : State → State × Nat × Nat} (h : ∀ u, Steady u.still (f u).1.still) :
    Steady s.still (s.stepDone r kind st f).still := by
  unfold State.stepDone
  split
  · simp
  · split
    · exact .refl _
    · simpa using h s

theorem State.trip_steady (s : State) (src t : Nat) : Steady s.still (s.trip src t).still :=
  Steady.trans (by simp) (State.deviceReset_steady { s with pw.tripped := true, pw.tripRec := some (src, t) } 1)

theorem State.slotDone_steady (s : State) (golden : Bool) (errs : List (Die × Bool)) : Steady s.still (s.slotDone golden errs).still := by
  unfold State.slotDone
  split
  · exact .refl _
  · next w _ =>
    have hread := s.bufRead_steady 0 w.addr w.len
    split
    · exact .refl _
    · split
      · simp [State.slotVerify]
      · split <;> next heq => simpa [State.slotVerify] using steady_of_eq hread heq

end Sys2Proof.Machine

/-! SUPPORT. The commands that may write the stacks. -/

namespace Sys2Proof.Machine

/-! #### The commands that read or write buffers -/

theorem slotWriteBody_steady (k : Nat) (c : Ctx) (s : State) : Steady s.still (slotWriteBody k c s).1.still := by
  have hread := s.bufRead_steady 0 (c.num 8 8) 512
  unfold slotWriteBody
  dsimp only
  split
  · exact .refl _
  · split
    · exact .refl _
    · split
      · simp
      · split <;> next heq => simpa using steady_of_eq hread heq

theorem cmdGoldenWrite_steady (c : Ctx) (s : State) : Steady s.still (cmdGoldenWrite c s).1.still := by
  unfold cmdGoldenWrite
  split
  · exact .refl _
  · split
    · exact .refl _
    · exact slotWriteBody_steady 2 c s

theorem cmdSlotWrite_steady (c : Ctx) (s : State) : Steady s.still (cmdSlotWrite c s).1.still := by
  unfold cmdSlotWrite
  split
  · exact .refl _
  · exact slotWriteBody_steady _ c s

theorem State.readPlan_steady (s : State) (tenant r a n : Nat) : Steady s.still (s.readPlan tenant r a n).1.still := by
  have hread := s.bufRead_steady (s.regionTenant r) a (16 * n)
  unfold State.readPlan
  split
  · exact .refl _
  · split <;> next heq => simpa using steady_of_eq hread heq

theorem cmdRegionSwap_steady (c : Ctx) (s : State) : Steady s.still (cmdRegionSwap c s).1.still := by
  have hplan := s.readPlan_steady c.tenant (c.num 0 1) (c.num 24 8) (c.num 32 4)
  unfold cmdRegionSwap
  dsimp only
  split
  · exact .refl _
  · split
    · exact .refl _
    · split <;> next heq => simpa using steady_of_eq hplan heq

theorem cmdRegionRestore_steady (c : Ctx) (s : State) : Steady s.still (cmdRegionRestore c s).1.still := by
  have hread := s.bufRead_steady (s.regionTenant (c.num 0 1)) (c.num 8 8) 64
  unfold cmdRegionRestore
  dsimp only
  split
  · exact .refl _
  · split
    · exact .refl _
    · split <;> next heq => simpa using steady_of_eq hread heq

theorem cmdRegionRelease_steady (c : Ctx) (s : State) : Steady s.still (cmdRegionRelease c s).1.still := by
  have hplan := s.readPlan_steady c.tenant (c.num 0 1) (c.num 8 8) (c.num 16 4)
  unfold cmdRegionRelease
  dsimp only
  split
  · exact .refl _
  · split <;> next heq => simpa using steady_of_eq hplan heq

theorem State.regionFuncReset_steady (s : State) (c : Ctx) (r : Nat) : Steady s.still (s.regionFuncReset c r).1.still := by
  unfold State.regionFuncReset
  dsimp only
  split
  · exact .refl _
  · split
    · exact .refl _
    · split
      · exact .refl _
      · split
        · exact .refl _
        · simpa using s.regionReset_steady r

theorem cmdFuncReset_steady (c : Ctx) (s : State) : Steady s.still (cmdFuncReset c s).1.still := by
  unfold cmdFuncReset
  dsimp only
  split
  · exact s.regionFuncReset_steady c _
  · split <;> simp

/-- A command's body may write the stacks, and leaves the waiting commands. -/
def Body.Steady (body : Body) : Prop := ∀ c s, Machine.Steady s.still (body c s).1.still

theorem State.reachable_steady (s : State) (c : Ctx) (x : State × Reply) (h : Steady s.still x.1.still) : Steady s.still (s.reachable c x).1.still := by
  unfold State.reachable
  split
  · exact .refl _
  · exact h

theorem runChecked_steady {body : Body} (h : body.Steady) (c : Ctx) (full : Bool) (s : State) : Steady s.still (runChecked body c full s).1.still := by
  unfold runChecked
  split
  · simp
  · split
    · simp
    · split
      · exact State.reachable_steady s c _ (h c s)
      · exact .refl _

/-- A mailbox command may do what its body may. -/
theorem takeMailbox_steady (opcode : Nat) {body : Body} (h : body.Steady) (p m : Nat) (s : State) :
    Steady s.still (takeMailbox opcode body p m s).still := by
  unfold takeMailbox
  dsimp only
  generalize hu : (if s.canTake p m opcode then s else s.takeUnknown) = u
  have hstill : u.still = s.still := by rw [← hu, State.still_ite, State.takeUnknown_still, ite_self]
  split
  · split
    · simp [hstill]
    · rw [State.answer_still]
      exact Steady.trans (by simp [hstill]) (runChecked_steady h ..)
  · simp [hstill]

theorem bodyOf_steady {op : Nat} {body : Body} (h : bodyOf op = some body) : body.Steady := by
  unfold bodyOf at h
  split at h <;> cases h
  all_goals
    intro c s
    simp [cmdRegionSwap_steady, cmdRegionRestore_steady, cmdRegionRelease_steady, cmdSlotWrite_steady, cmdGoldenWrite_steady, cmdFuncReset_steady]

/-- The state that follows is steady from `s`. -/
def SteadyAfter (s : State) : Out → Prop
  | .next t => Steady s.still t.still
  | _ => True

@[simp] theorem steadyAfter_next (s t : State) : SteadyAfter s (.next t) ↔ Steady s.still t.still := .rfl

theorem StillAfter.steady {s : State} {o : Out} (h : StillAfter s o) : SteadyAfter s o := by
  cases o with
  | next t => exact (Steady.refl _).of_still h
  | fault => trivial
  | refused => trivial

/-! The rows that reset the device. -/

theorem execSuppliesValid_steady (live : BitVec 4) (resetN : Bool) (mv : List Word16) (early : BitVec 4) (s : State) :
    SteadyAfter s (execSuppliesValid live resetN mv early s) := by
  unfold execSuppliesValid
  rw [steadyAfter_next]
  split
  · exact .refl _
  · exact Steady.trans (by simp) (State.deviceReset_steady _ 0)

theorem execSuppliesInvalid_steady (s : State) : SteadyAfter s (execSuppliesInvalid s) := by
  unfold execSuppliesInvalid
  rw [steadyAfter_next]
  split
  · exact Steady.trans (by simp) (State.deviceReset_steady { s with pw.supplies := false, pw.tripped := false } 0)
  · exact .refl _

theorem execResetNLow_steady (s : State) : SteadyAfter s (execResetNLow s) := by
  unfold execResetNLow
  rw [steadyAfter_next]
  split
  · simp
  · split
    · exact Steady.trans (by simp) (State.deviceReset_steady { s with pw.resetN := false } 1)
    · exact .refl _

theorem execResetNHigh_steady (s : State) : SteadyAfter s (execResetNHigh s) := by
  unfold execResetNHigh
  rw [steadyAfter_next]
  split
  · exact .refl _
  · split
    · exact Steady.trans (by simp) (State.deviceReset_steady { s with pw.resetN := true } 1)
    · simp

theorem execDieSensorReading_steady (src : Fin 8) (t : Fin 256) (s : State) : SteadyAfter s (execDieSensorReading src t s) := by
  unfold execDieSensorReading
  rw [steadyAfter_next]
  extract_lets x
  split
  · exact .refl _
  · next u v _ =>
    have hu : u.still = s.still := by
      unfold u
      split
      · simp -implicitDefEqProofs
      · split <;> simp -implicitDefEqProofs
    have hv : v.still = s.still := (State.warn_still ..).trans hu
    generalize (if src.val < 4 then (120 : Int) else 115) = limit
    split
    · exact hv ▸ v.trip_steady src t
    · exact (Steady.refl _).of_still hv

theorem execRebootReset_steady (s : State) : SteadyAfter s (execRebootReset s) := by
  unfold execRebootReset
  rw [steadyAfter_next]
  split
  · exact s.deviceReset_steady 2
  · exact .refl _

theorem execRefereeRestartDone_steady (s : State) : SteadyAfter s (execRefereeRestartDone s) := by
  unfold execRefereeRestartDone
  rw [steadyAfter_next]
  split
  · exact .refl _
  · rw [State.seamsResume_still, State.setPort_still]
    simp only [iter_still, State.replyWaiting_still, State.setKeeper_still, implies_true]
    refine Steady.trans ?_ (steady_iter (fun r u => u.restartRegion_steady r) 64 _)
    simp

/-! The rows of the stacks. -/

theorem execHbmInitDone_steady (st : Die) (fail : Option (Fin 5)) (t : Option (Fin 256)) (rfm : Bool) (s : State) :
    SteadyAfter s (execHbmInitDone st fail t rfm s) := by
  unfold execHbmInitDone
  rw [steadyAfter_next, State.huddleCheck_still]
  refine Steady.trans ?_ (State.dropSwaps_steady _)
  rw [State.still_ite]
  by_cases hidle : s.hbmSt st ≠ 0 ∨ s.pw.step < 4
  · rw [if_pos hidle]
    exact .refl _
  · rw [if_neg hidle]
    extract_lets failed _ _ begun ran heated band timed managed zeroed rated ready
    have hbegun : begun.still = s.still := s.still_mk_hbm ..
    have hheated : heated.still = begun.still := by simp [heated]
    have htimed : timed.still = heated.still := by simp [timed]
    have hmanaged : managed.still = timed.still := by simp [managed]
    have hzeroed : Steady managed.still zeroed.still := by
      unfold zeroed
      split
      · exact Steady.trans (by simp) (State.zeroStack_steady ..)
      · exact .refl _
    have hrated : rated.still = zeroed.still := by simp [rated]
    have hready : ready.still = rated.still := by simp [ready]
    rw [← hbegun, ← hheated, ← htimed, ← hmanaged]
    refine hzeroed.of_still ?_
    clear_value ready rated zeroed managed timed heated begun ran failed
    split
    · simp [hrated]
    · split <;> simp [hready, hrated]

theorem execHbmAccessDone_steady (st : Die) (id : Nat) (sev : Fin 4) (acc : Nat) (parity late : Bool) (p : ProtIn) (s : State) :
    SteadyAfter s (execHbmAccessDone st id sev acc parity late p s) := by
  unfold execHbmAccessDone
  rw [steadyAfter_next]
  split
  · exact .refl _
  · split
    · exact .refl _
    · split
      · simp
      · split
        · exact .refl _
        · exact s.accessEnd_steady _ _ _ _ _ _

/-! The rows of images, captures and slots. -/

theorem execFramesRecord_steady (r : Option RegionId) (d : Die) (errs : List Bool) (bad rb : Option (Fin 256)) (gap : Option Word32) (s : State) :
    SteadyAfter s (execFramesRecord r d errs bad rb gap s) := by
  unfold execFramesRecord
  rw [steadyAfter_next]
  apply State.takeRec_steady
  intro u x
  have hblank := u.blankTo_still (r.map (·.val)) d x.addr (gap.map (·.toNat))
  split
  · next heq => exact still_of_eq hblank heq
  · next v heq =>
    have hput := v.putFrames_still (r.map (·.val)) d x (bad.map (·.val)) (rb.map (·.val)) x.count
    split <;> next heq' => simpa using (still_of_eq hput heq').trans (still_of_eq hblank heq)

theorem execUninitRecord_steady (r : Option RegionId) (d : Die) (errs : List Bool) (gap : Option Word32) (s : State) :
    SteadyAfter s (execUninitRecord r d errs gap s) := by
  unfold execUninitRecord
  rw [steadyAfter_next]
  apply State.takeRec_steady
  intro u x
  have hblank := u.blankTo_still (r.map (·.val)) d x.addr (gap.map (·.toNat))
  split <;> next heq => simpa using still_of_eq hblank heq

theorem execTagRecord_steady (r : Option RegionId) (d : Die) (errs : List Bool) (s : State) : SteadyAfter s (execTagRecord r d errs s) := by
  unfold execTagRecord
  rw [steadyAfter_next]
  apply State.takeRec_steady
  intro u x
  dsimp only
  split
  · simp
  · split <;> simp

theorem execRegionHeaderChecked_steady (r : RegionId) (errs : List Bool) (s : State) : SteadyAfter s (execRegionHeaderChecked r errs s) := by
  unfold execRegionHeaderChecked
  rw [steadyAfter_next]
  dsimp only
  generalize (if (s.regionSrc r).2.1.isNone then errs else []) = es
  have hhead : Steady s.still ((s.storeErrs 0 es).regionHeader r).1.still := Steady.trans (by simp) (State.regionHeader_steady ..)
  split
  · exact .refl _
  · split
    · exact .refl _
    · split
      · exact .refl _
      · split
        · exact .refl _
        · split
          · exact .refl _
          · split
            · exact .refl _
            · split <;> next heq => simpa using steady_of_eq hhead heq

theorem execCaptureDone_steady (r : RegionId) (s : State) : SteadyAfter s (execCaptureDone r s) :=
  s.stepDone_steady r 1 3 (fun u => u.captureDies_steady r)

theorem execRestoreDone_steady (r : RegionId) (s : State) : SteadyAfter s (execRestoreDone r s) :=
  s.stepDone_steady r 3 4 (fun u => u.restoreDies_steady r)

theorem execSlotWriteDone_steady (errs : List (Die × Bool)) (s : State) : SteadyAfter s (execSlotWriteDone errs s) := by
  unfold execSlotWriteDone
  rw [steadyAfter_next]
  split
  · exact s.slotDone_steady false errs
  · exact .refl _

theorem execGoldenWriteDone_steady (errs : List (Die × Bool)) (s : State) : SteadyAfter s (execGoldenWriteDone errs s) := by
  unfold execGoldenWriteDone
  rw [steadyAfter_next]
  split
  · exact s.slotDone_steady true errs
  · exact .refl _

theorem execLibraryVerifyDone_steady (e : Fin 256) (errs : List (Die × Bool)) (s : State) : SteadyAfter s (execLibraryVerifyDone e errs s) := by
  simp [execLibraryVerifyDone]

/-! The commands of a mailbox, and those that another device relays. -/

theorem execSlotWrite_steady (p : Port) (m : Mbox) (s : State) : SteadyAfter s (execSlotWrite p m s) :=
  takeMailbox_steady 0x0110 cmdSlotWrite_steady p m s

theorem execGoldenWrite_steady (p : Port) (m : Mbox) (s : State) : SteadyAfter s (execGoldenWrite p m s) :=
  takeMailbox_steady 0x0113 cmdGoldenWrite_steady p m s

theorem execRegionSwap_steady (p : Port) (m : Mbox) (s : State) : SteadyAfter s (execRegionSwap p m s) :=
  takeMailbox_steady 0x0101 cmdRegionSwap_steady p m s

theorem execRegionRestore_steady (p : Port) (m : Mbox) (s : State) : SteadyAfter s (execRegionRestore p m s) :=
  takeMailbox_steady 0x0105 cmdRegionRestore_steady p m s

theorem execRegionRelease_steady (p : Port) (m : Mbox) (s : State) : SteadyAfter s (execRegionRelease p m s) :=
  (takeMailbox_steady 0x0106 cmdRegionRelease_steady p m s).of_still (State.releaseAccepted_still _)

theorem execFuncReset_steady (p : Port) (m : Mbox) (s : State) : SteadyAfter s (execFuncReset p m s) :=
  takeMailbox_steady 0x0204 cmdFuncReset_steady p m s

theorem State.relayExecute_steady (s : State) (l : Nat) (b : List Byte) : Steady s.still (s.relayExecute l b).still := by
  unfold State.relayExecute
  dsimp only
  split
  · exact .refl _
  · split
    · simp
    · split
      · simp
      · next body hbody =>
        rw [State.answer_still]
        exact Steady.trans (by simp) (runChecked_steady (bodyOf_steady hbody) ..)

theorem State.relayArrive_steady (s : State) (l : Nat) (b : List Byte) : Steady s.still (s.relayArrive l b).still := by
  unfold State.relayArrive
  split
  · exact s.relayExecute_steady l b
  · split
    · simp
    · dsimp only
      split <;> simp

theorem execRelayCommand_steady (l : Lane) (b : List Byte) (s : State) : SteadyAfter s (execRelayCommand l b s) := by
  unfold execRelayCommand State.relayFrame
  rw [steadyAfter_next]
  split
  · exact .refl _
  · split
    · simp
    · split
      · exact .refl _
      · exact s.relayArrive_steady l b

end Sys2Proof.Machine

/-! Every command keeps the waiting commands (O8) and the canonical form of the stacks' contents (O9). -/

namespace Sys2Proof.Machine

/-- Every command leaves the waiting commands, and canonical contents of the stacks canonical. -/
theorem exec_steady (c : Instr) (s : State) : SteadyAfter s (exec c s) := by
  unfold exec
  split
  all_goals simp [StillAfter.steady, execSuppliesValid_steady, execSuppliesInvalid_steady, execResetNLow_steady, execResetNHigh_steady, execDieSensorReading_steady,
    execRebootReset_steady, execRefereeRestartDone_steady, execHbmInitDone_steady, execHbmAccessDone_steady, execFramesRecord_steady,
    execUninitRecord_steady, execTagRecord_steady, execRegionHeaderChecked_steady, execCaptureDone_steady, execRestoreDone_steady,
    execSlotWriteDone_steady, execGoldenWriteDone_steady, execLibraryVerifyDone_steady, execSlotWrite_steady, execGoldenWrite_steady,
    execRegionSwap_steady, execRegionRestore_steady, execRegionRelease_steady, execFuncReset_steady, execRelayCommand_steady]

theorem exec_steady_next {c : Instr} {s t : State} (h : exec c s = .next t) : Steady s.still t.still := by
  have hsteady := exec_steady c s
  rwa [h] at hsteady

/-- Settles O8: a command is steady, and a step takes the front one. -/
theorem commandsKeepTheQueue : Obligations.CommandsKeepTheQueue := by
  unfold Obligations.CommandsKeepTheQueue
  refine ⟨fun c s t h => (exec_steady_next h).1, fun s t h => ?_⟩
  unfold step at h
  cases hpending : s.pending with
  | nil =>
    rw [hpending] at h
    cases h
    have hstill : s.takeUnknown.tick.still = s.still := by simp
    exact (congrArg (·.1) hstill).trans hpending
  | cons c rest =>
    rw [hpending] at h
    exact (exec_steady_next h).1

/-- Settles O9: a command is steady, and so is a tick. -/
theorem memoryStaysCanonical : Obligations.MemoryStaysCanonical := by
  unfold Obligations.MemoryStaysCanonical
  intro s t hwf h
  unfold step at h
  cases hpending : s.pending with
  | nil =>
    rw [hpending] at h
    cases h
    have hsteady : Steady s.still s.takeUnknown.tick.still := by simp
    exact hsteady.2 hwf
  | cons c rest =>
    rw [hpending] at h
    exact (exec_steady_next h).2 hwf

end Sys2Proof.Machine
